-- ==== Sys2Proof/Word.lean ====
section
/-! DEFINITION. The byte and word types of the host ports (R3, R10). -/

namespace Sys2Proof

/-- One byte, as it travels on a two-wire port. -/
abbrev Byte := BitVec 8

/-- A 32-bit word. -/
abbrev Word := BitVec 32

/-- A run of bytes, first byte first. -/
abbrev Bytes := List Byte

end Sys2Proof
end

