-- ==== Sys2Proof/Syntax.lean ====
section
/-! DEFINITION. The commands and events of the KJ-9740: one constructor of `Instr` per row of
spec/opcode_table.json, and the types of their operands. -/

namespace Sys2Proof

/-- The two host ports (Table 0-5). -/
inductive HostPort where
  | ha
  | hb
  deriving DecidableEq, Repr, Inhabited

/-- How a host operation was requested: its port, its tag and priority (TAG_PRIO, Table 14-1) and
whether ALERT_ON_REPLY was set. -/
structure Req where
  port  : HostPort
  tag   : BitVec 6
  prio  : BitVec 2
  alert : Bool
  deriving DecidableEq, Repr, Inhabited

/-- The speed class of a transaction's clock (R377, SPEED_SEEN of Table 15-9). -/
inductive BusSpeed where
  | standard
  | fast
  | fastPlus
  | highSpeed
  deriving DecidableEq, Repr, Inhabited

/-- The 7-bit address that a host transaction names and the speed it runs at (R377, R378). -/
structure HostAccess where
  addr  : BitVec 7
  speed : BusSpeed
  deriving DecidableEq, Repr, Inhabited

/-- The form of a read transaction on a host port (R382, R387). -/
inductive ReadForm where
  | plain                      -- pointer, repeated START, address+R
  | counted (count : BitVec 8) -- pointer, COUNT, repeated START, address+R
  | direct                     -- START followed directly by address+R
  deriving DecidableEq, Repr, Inhabited

/-- A read of the register window: its address and speed, its form, and how many bytes the host clocks. -/
structure HostRead where
  acc  : HostAccess
  form : ReadForm
  n    : Nat
  deriving DecidableEq, Repr, Inhabited

/-- A write of the register window: its address and speed, and the bytes after those that its row names, PEC included. -/
structure HostWrite where
  acc  : HostAccess
  rest : Bytes
  deriving DecidableEq, Repr, Inhabited

/-- An address match that wakes the device: the port, the transaction, and which retention contexts fail their CRC at the wake
(bits 0 to 3, as BootIn has them) and whether the tick latch does (bit 4). -/
structure WakeMatch where
  port : HostPort
  acc  : HostAccess
  bad  : BitVec 5
  deriving DecidableEq, Repr, Inhabited

/-- The sources that wake the device (Table 10-9), and the contexts that fail their CRC at the wake, as in WakeMatch. -/
structure WakeIn where
  sources : BitVec 16
  bad     : BitVec 5
  deriving DecidableEq, Repr, Inhabited

/-- Which of a feeder's two Weir comparators cross their threshold (R160). -/
structure Crossing where
  a : Bool
  b : Bool
  deriving DecidableEq, Repr, Inhabited

/-- A rail and the voltage at its PGn ball, which sense mode 1 compares (R240). -/
structure RailBall where
  rail : Fin 32
  ball : Word
  deriving DecidableEq, Repr, Inhabited

/-- One converter sample: the 14-bit code (R56 tests it) and the front-end voltage in nanovolts that
the nominal converter transfer gives for it (`code_to_volts` of R47). -/
structure Sample where
  code : BitVec 14
  nv   : Int
  deriving DecidableEq, Repr, Inhabited

/-- A channel of a SAR converter (Table 2-1). -/
inductive SarChannel where
  | phase   (p : Fin 24)
  | feeder  (f : Fin 16)
  | segment (b : Fin 4)
  | string  (s : Fin 4)
  deriving DecidableEq, Repr, Inhabited

/-- A channel that a delta-sigma converter visits (Table 2-3). -/
inductive MeterChannel where
  | bus           (b : Fin 4)
  | feeder        (f : Fin 16)
  | stringVoltage (s : Fin 4)
  | stringCurrent (s : Fin 4)
  deriving DecidableEq, Repr, Inhabited

/-- What Sluice takes afresh at a tick besides the SAR samples (R145): the VDS code, the VGS comparator, the shunt voltage in µV of
forward current that the regulation amplifier sees (R153) and the level of SEATn_N. -/
structure FeederIn where
  vds     : BitVec 8
  vgsOk   : Bool
  shunt   : Nat
  seatLow : Bool
  deriving DecidableEq, Repr, Inhabited

/-- What one comparator proof measured (R162, R163, R182). The second side is used by strings only. -/
structure ProofIn where
  asserted    : Bool
  delay       : BitVec 16
  released    : Bool
  chgAsserted : Bool
  chgDelay    : BitVec 16
  chgReleased : Bool
  moved       : Bool
  tripped     : Bool
  deriving DecidableEq, Repr, Inhabited

/-- Inputs that a Fantail tick latches from outside Miller's own state: the supply monitor (R289) and
whether Miller was idle for at least 200 µs of the previous tick (Table 8-4). -/
structure FantailIn where
  vaux12 : Nat
  vhold  : Nat
  idle   : Bool
  deriving DecidableEq, Repr, Inhabited

/-- A consumer whose deferral has a limit (Table 8-3). -/
inductive Consumer where
  | feeder (f : Fin 16)
  | charging (s : Fin 4)
  | nvmWrite
  | activation
  deriving DecidableEq, Repr, Inhabited

/-- What the transactions with a D2 rail's stage gave: a reading, a reading that failed twice, or an OPERATION that was sent and has
failed twice (R239). -/
inductive RailRead where
  | statusWord (w : BitVec 16)
  | vout (m : BitVec 16)
  | failed
  | operationFailed
  deriving DecidableEq, Repr, Inhabited

/-- A supply whose fall resets the control side or is OFF (R267). -/
inductive Supply where
  | vcc3v3
  | vddio
  | vcore
  | vaon
  deriving DecidableEq, Repr, Inhabited

/-- What the boot finds outside the retained state (R434, R298): the straps, the AON counts since the
latest latch, whether VAON held and the latch passes its CRC, and the retention contexts that fail their CRC (R287: bit 0
the shelf and sequencer state, 1 the Fantail summary, 2 the port configuration, 3 the wake configuration). -/
structure BootIn where
  addr         : BitVec 3
  recoveryN    : Bool
  aonElapsed   : Nat
  aonValid     : Bool
  retentionBad : BitVec 4
  deriving DecidableEq, Repr, Inhabited

/-- The outcome of one codeword read (R332). -/
inductive CodewordRead where
  | clean
  | corrected (symbol : Fin 35) (bit : Fin 8)
  | uncorrectable (symbol : Fin 35) (bit : Fin 8)
  deriving DecidableEq, Repr, Inhabited

/-- A record kept in two slots of a journal (R280): an object's configuration, a string's or module's battery record, the
counters, the tick. -/
inductive JournalRecord where
  | object (o : Byte)
  | string (k : Fin 4)
  | module (m : Fin 64)
  | counters
  | tick
  | bank (b : Fin 2)
  deriving DecidableEq, Repr, Inhabited

/-- What an array's codeword holds, as far as Table 13-2 tells its uncorrectable error's action apart. -/
inductive CodewordUse where
  | gristSlot (gen : Word)
  | gristDescriptor
  | processorWord
  | loopBank (l : Fin 32) (bank : Fin 3)
  | loopHistory (l : Fin 32)
  | firstAreaCopy
  | gristBuffer
  | tailraceStore
  | journalSlot (r : JournalRecord) (slot : Fin 2)
  | mramOther
  | repairEntry
  | lifeCopy (c : Fin 3)
  | keySlot (k : Fin 5)
  | trim (channel : Fin 48)
  | otpOther
  | retention (context : Fin 4)
  deriving DecidableEq, Repr, Inhabited

/-- What the full test found failing: a cell of an array, a logic slice or a lane with both signatures (R336, R339, R340, R342). -/
inductive FullFail where
  | cell (arr : Fin 6) (codeword : BitVec 18) (symbol : Fin 35) (bit : Fin 8)
  | logic (slice : Fin 6) (expected read : Word)
  | lane (lane : Fin 4) (expected read : Word)
  deriving DecidableEq, Repr, Inhabited

/-- The outcome of a march over one memory slice (R335, R336). -/
inductive SliceResult where
  | pass
  | failCell (codeword : BitVec 18) (symbol : Fin 35) (bit : Fin 8)
  | uncorrectable (codeword : BitVec 18) (symbol : Fin 35) (bit : Fin 8)
  deriving DecidableEq, Repr, Inhabited

/-- What the bus carried in one authentication exchange up to the challenge (Table 7-6): the bytes that the module sent in the
frames of IDENT_READ and of each CERT_CHUNK read, an errored frame and then its repeat (R184; no bytes where it did not
answer), and whether the frames of CERT_OFFSET and CHALLENGE were acknowledged. -/
structure AuthExchange where
  ident       : List Bytes
  offsetOk    : Bool
  chunks      : List (List Bytes)
  challengeOk : Bool
  deriving DecidableEq, Repr, Inhabited

/-- One RESPONSE read (Table 7-4): the time since the first one, and the bytes of its frame and of the repeat. -/
structure ResponseIn where
  elapsedMs : Nat
  frames    : List Bytes
  deriving DecidableEq, Repr, Inhabited

/-- How one downstream frame ended (R392, R394). -/
inductive FrameEnd where
  | ok
  | nack
  | arbLostAddr
  | arbLostData (byte : BitVec 8) (bit : Fin 8)
  deriving DecidableEq, Repr, Inhabited

/-- What a bus recovery found (R393): SDA in the high phase of each clock, or SCL low for 35 ms. -/
inductive RecoveryEnd where
  | clocked (sda : List Bool)
  | sclLow
  deriving DecidableEq, Repr, Inhabited

/-- What a satellite answered while it was loaded (R415): what SB_IDENT's read frame and its repeat returned (LEN, data and
PEC), whether SB_RESET was acknowledged, how many SB_LOAD frames in a row were, whether SB_RUN was, and what the SB_IDENT
frames of the 50 ms after it returned. A write frame counts as acknowledged where its repeat is. -/
structure SatAnswer where
  ident   : List Bytes
  resetOk : Bool
  loads   : Nat
  runOk   : Bool
  status  : List Bytes
  deriving DecidableEq, Repr, Inhabited

/-- A command or event of the KJ-9740: one constructor per row of spec/opcode_table.json, in its order. -/
inductive Instr where
  -- operations of the opcode map (Table 14-7)
  | ping (r : Req) (payload : Bytes)
  | ident (r : Req) (payload : Bytes)
  | paramGet (r : Req) (payload : Bytes)
  | paramSet (r : Req) (payload : Bytes)
  | paramGetMulti (r : Req) (payload : Bytes)
  | objState (r : Req) (payload : Bytes)
  | objEnable (r : Req) (payload : Bytes)
  | objDisable (r : Req) (payload : Bytes)
  | objClearLatch (r : Req) (payload : Bytes)
  | setpointSlew (r : Req) (payload : Bytes)
  | coefBankLoad (r : Req) (payload : Bytes)
  | coefBankSwap (r : Req) (payload : Bytes)
  | flumeStart (r : Req) (payload : Bytes)
  | tailraceArm (r : Req) (payload : Bytes)
  | tailraceRead (r : Req) (payload : Bytes)
  | gristRead (r : Req) (payload : Bytes)
  | gristClearNonce (r : Req) (rest : Bytes)
  | gristClear (r : Req) (rest : Bytes)
  | gristTriggerSet (r : Req) (payload : Bytes)
  | bistRequest (r : Req) (payload : Bytes)
  | bistCancel (r : Req) (rest : Bytes)
  | bistResult (r : Req) (payload : Bytes)
  | battAuth (r : Req) (payload : Bytes)
  | battLearnCommit (r : Req) (payload : Bytes)
  | seqPowerOn (r : Req) (payload : Bytes)
  | seqPowerOff (r : Req) (payload : Bytes)
  | seqStep (r : Req) (payload : Bytes)
  | timeSet (r : Req) (payload : Bytes)
  | timeGet (r : Req) (payload : Bytes)
  | updOpen (r : Req) (payload : Bytes)
  | updBlock (r : Req) (payload : Bytes)
  | updClose (r : Req) (payload : Bytes)
  | updSchedule (r : Req) (payload : Bytes)
  | updStatus (r : Req) (payload : Bytes)
  | updCancel (r : Req) (payload : Bytes)
  | lcState (r : Req) (payload : Bytes)
  | lcNonce (r : Req) (rest : Bytes)
  | lcTransition (r : Req) (rest : Bytes)
  | writeKey (r : Req) (rest : Bytes)
  | debugUnlock (r : Req) (rest : Bytes)
  | debugRelock (r : Req) (rest : Bytes)
  | abort (r : Req) (payload : Bytes)
  | resultPoll (r : Req) (payload : Bytes)
  | operationStart
  -- transactions on the register window (Table 15-1)
  | reqStream (port : HostPort) (acc : HostAccess) (data : Bytes)
  | doorbellSubmit (port : HostPort) (x : HostWrite)
  | doorbellDiscard (port : HostPort) (x : HostWrite)
  | replyStream (port : HostPort) (x : HostRead)
  | alertCause (port : HostPort) (x : HostRead)
  | fastStatus (port : HostPort) (x : HostRead)
  | highByteLatch (port : HostPort) (reply : Bool) (x : HostRead)
  | windowWrite (port : HostPort) (acc : HostAccess) (ptr : Byte) (rest : Bytes)
  | cautiousExit (port : HostPort)
  | clockLowTimeout (port : HostPort)
  | alertResponse (port : HostPort) (won : Bool)
  | addressMatchWake (x : WakeMatch)
  | wakeStretchRelease (port : HostPort) (heldUs : BitVec 16)
  -- parameter accesses with a row of their own
  | stateRequest (r : Req) (v : Byte)
  | configConfirm (r : Req) (v : Word)
  | shelfId (r : Req) (v : Word)
  | modeRequestRun (r : Req)
  | modeRequestFloat (r : Req)
  | modeRequestWatch (r : Req)
  | itApply (r : Req) (f : Fin 16) (v : Byte)
  | cautiousAck (r : Req) (port : HostPort) (v : Byte)
  | trackLimit (r : Req) (ch : SarChannel)
  | cogEnable (r : Req) (v : Byte)
  | maxLatency (r : Req)
  | tMaxSeen (r : Req) (t : Fin 16)
  | wakeStretchMax (r : Req) (port : HostPort)
  | timerCount (r : Req) (tm : Fin 8) (w : Option Word)
  | compare (r : Req) (tm : Fin 8) (v : Word)
  | prescale (r : Req) (tm : Fin 8) (v : Byte)
  | outMode (r : Req) (tm : Fin 8) (v : Byte)
  | capture (r : Req) (tm : Fin 8)
  -- timers
  | timerMatch (tm : Fin 8)
  | timerWrap (tm : Fin 8)
  | timerCapture (tm : Fin 8) (rising : Bool) (count : Word)
  | debugHalt
  | debugHaltRelease
  -- the Uhles link, PWM, sampling and the control engine
  | uhlesLinkLoss
  | uhlesLinkRecovery (lossUs : Word)
  | pwmPeriodStart (p : Fin 24)
  | groupBoundary (f : Word)
  | sampleRequest (p : Fin 24) (waitNs : Nat)
  | innerEvaluation (p : Fin 24) (x : Sample) (lane : Fin 4) (latencyNs : BitVec 16) (residueOk : Bool)
  | outerTrigger (lp : Fin 8) (lane : Fin 4) (residueOk : Bool)
  | sarRoundSlot (sar7 : Bool) (slot : Fin 16) (x : Sample)
  | sarSelfCheck (ch : SarChannel) (pass : Bool)
  | phaseFailNotice (p : Fin 24)
  | swapRegistration
  | bankLoadCommit
  | flumeEnd
  | tailraceDone
  | segmentStart (b : Fin 4)
  | segmentActive (b : Fin 4)
  | hiccupOffTimeEnd (b : Fin 4)
  | runUndervolt (b : Fin 4)
  | overvolt (b : Fin 4)
  | syncinEdge (freq : Word) (phaseError : Nat)
  | syncinMissing
  -- feeders and strings
  | sluiceTick (ins : Vector FeederIn 16)
  | seatStable (f : Fin 16)
  | seatOpen (f : Fin 16)
  | insertDelay (f : Fin 16)
  | faultTimer (f : Fin 16)
  | soa (f : Fin 16)
  | startTimeout (f : Fin 16)
  | ovQualify (f : Fin 16)
  | itCurve (f : Fin 16)
  | fastTrip (f : Fin 16) (x : Crossing) (proving : Option Bool)
  | weirProof (pair : Fin 20) (b : Bool) (x : ProofIn)
  | stringConnect (s : Fin 4)
  | stringSwitchTick (s : Fin 4) (vgsOk : Bool) (vds : Int)
  | connectTimeout (s : Fin 4)
  | dischargeReversal (s : Fin 4)
  | stringFastTrip (s : Fin 4) (byA byB : Bool)
  -- thermal and Fantail
  | thermalSample (ts : Vector (BitVec 16) 16) (ringOk : BitVec 16)
  | zoneCrit (z : Fin 8)
  | zoneWarnClear (z : Fin 8)
  | thermalLatch (t : Fin 16)
  | fantailTick (x : FantailIn)
  | tickOverrun
  | inputLost (b : Fin 4) (rise : Bool)
  | deferralLimit (c : Consumer)
  -- sequencing
  | powerUpWalkStart
  | onDelay (v : Fin 32)
  | railQualified (v : Fin 32) (upUs : Word)
  | pgTimeout (v : Fin 32)
  | railPgDrop (x : RailBall)
  | railFault (v : Fin 32)
  | railPoll (v : Fin 32) (x : RailRead) (elapsedUs : Word)
  | stateWorkFinished
  | pfwTime
  | dischargeTimeout (v : Fin 32)
  | cogRise
  | cogLowEnd (us : Nat)
  | cogPulseEnd
  | cogHoldMax
  | cogStall
  | cogJoinWatch
  | cogJoinTimeout
  | pbPress (ms : Nat)
  | forceOff
  | mrN
  -- supplies, modes and non-volatile memory
  | sag
  | vaux12Good
  | saveTrigger
  | saveCommit (us : Word)
  | saveResume
  | holdUpEnd
  | supplyFall (w : Supply)
  | controlSideBoot (x : BootIn)
  | psdReset
  | vps12Uvlo
  | vps12Return
  | choldTest (dv1 dv2 : Nat)
  | nvmPageProgram
  | nvmTransactionCommit
  | floatEntry
  | watchEntry (aon : BitVec 48)
  | watchWake (x : WakeIn) (aon : BitVec 48)
  | watchReturn (aon : BitVec 48)
  | aonWakeTimer
  | xt32Fail
  | xt32Return
  | xt25Fail
  | xt25Return
  | tickLatch (aon : BitVec 48)
  | tickJournal
  | ceilingLate
  | wallSlewStep
  | l3Restart (cause : Byte)
  | l3RestartEnd
  -- shelf state
  | startupConfigApplied
  | shelfIdRead (first retry : Option Bytes)
  | startupTimeout
  | recoveryEntry
  | recoveryExit (sixtySeconds : Bool)
  -- metering and records
  | trackingWindowEnd (ch : MeterChannel) (nv lo hi : Int)
  | trackingJournal (ch : SarChannel)
  | energyJournal
  | gristMirror
  | mirrorLate
  | nonceExpiry (lifeCycle : Bool)
  -- Dresser
  | scrubCodeword (arr : Fin 6) (codeword : BitVec 18) (use : CodewordUse) (x : CodewordRead)
  | memorySliceTest (arr : Fin 3) (slice : BitVec 12) (use : CodewordUse) (x : SliceResult)
  | logicSliceTest (slice : Fin 6) (expected read : Word)
  | laneWithdrawal (lane : Fin 4)
  | laneTest (lane : Fin 4) (expected read : Word)
  | fullTest (first : Option FullFail) (cells logic lanes : List FullFail)
  -- battery modules
  | pollRound (replies : List (Fin 64 × List Bytes))
  | adpoxonFrameRetry (port : Fin 4)
  | modelUpdate
  | endOfFullCharge (s : Fin 4)
  | moduleAuth (m : Fin 64) (x : AuthExchange)
  | responseRead (m : Fin 64) (x : ResponseIn)
  | authRetry (m : Fin 64)
  | batteryJournal
  -- downstream ports, point-of-load stages and satellites
  | dsFrame (port : Fin 4) (x : FrameEnd)
  | dsFrameAbandon (port : Fin 4)
  | busRecovery (port : Fin 4) (x : RecoveryEnd)
  | polIdentify (pl : Fin 32) (x : Option (Byte × Byte))
  | polPoll (pl : Fin 32) (x : Option (BitVec 16 × BitVec 16))
  | satelliteLoad (n : Fin 8) (x : SatAnswer)
  | satelliteRetry (n : Fin 8)
  -- update
  | bundleVerified
  | activationDue
  | checkin
  | checkinTimeout
  -- the rows added after the first table
  | saveArmed
  | railPgHigh (x : RailBall)
  | railDischarged (x : RailBall) (downUs : Word)
  | tmrPulseEnd (tm : Fin 8)
  | choldTestDue
  deriving DecidableEq, Repr

end Sys2Proof
end

