-- ==== Sys2Proof/Decode.lean ====
section
/-! DEFINITION. Decoding of table words. The opcode table gives no row any bits: the commands of this
block travel as packets, register-window transactions and events, so no word spells one. -/

namespace Sys2Proof

/-- The command a word spells by the table's bits: none, since no row of the table has bits. -/
def decodeTableWord (_nbits _w : Nat) : Option Instr := none

end Sys2Proof
end

