-- ==== Sys2Proof/Machine/Bytes.lean ====
section
/-! DEFINITION. Byte order (R10), the packet CRC (R350) and the SMBus CRC-8 (R387). -/

namespace Sys2Proof.Machine

/-- The `n` bytes of `v`, low byte first (R10); a negative value is its two's complement. -/
def leBytes (n : Nat) (v : Int) : Bytes :=
  (List.range n).map fun i => BitVec.ofInt 8 (v / 2 ^ (8 * i))

/-- The unsigned value of bytes given low byte first (R10). -/
def leNat : Bytes → Nat
  | [] => 0
  | b :: bs => b.toNat + 256 * leNat bs

/-- `v`, an unsigned value of `w` bits, read as two's complement. -/
def signed (w : Nat) (v : Nat) : Int :=
  if v < 2 ^ (w - 1) then (v : Int) else (v : Int) - 2 ^ w

/-- The bytes from `off`, `n` of them, of a payload. -/
def slice (bs : Bytes) (off n : Nat) : Bytes := (bs.drop off).take n

/-- The unsigned little-endian field of `n` bytes at `off`. -/
def fieldU (bs : Bytes) (off n : Nat) : Nat := leNat (slice bs off n)

/-- The signed little-endian field of `n` bytes at `off`. -/
def fieldS (bs : Bytes) (off n : Nat) : Int := signed (8 * n) (fieldU bs off n)

/-- The byte at `off`, 0 past the end. -/
def byteAt (bs : Bytes) (off : Nat) : Nat := (bs.getD off 0).toNat

/-- Are all `n` bytes from `off` zero? -/
def zeros (bs : Bytes) (off n : Nat) : Bool := (slice bs off n).all (· == 0)

/-- Eight shifts of the reflected Castagnoli polynomial (R350). -/
def crc32cBits : Nat → BitVec 32 → BitVec 32
  | 0, c => c
  | n + 1, c => crc32cBits n (if c.getLsbD 0 then (c >>> 1) ^^^ 0x82F63B78#32 else c >>> 1)

/-- CRC-32C over a byte string (R350). -/
def crc32c (bs : Bytes) : BitVec 32 :=
  ~~~ (bs.foldl (fun c b => crc32cBits 8 (c ^^^ b.setWidth 32)) 0xFFFFFFFF#32)

/-- Eight shifts of x^8 + x^2 + x + 1 (R387). -/
def crc8Bits : Nat → BitVec 8 → BitVec 8
  | 0, c => c
  | n + 1, c => crc8Bits n (if c.getLsbD 7 then (c <<< 1) ^^^ 0x07#8 else c <<< 1)

/-- The SMBus CRC-8 of a transaction's bytes (R387): 0 over a transaction and its right PEC. -/
def crc8 (bs : Bytes) : BitVec 8 :=
  bs.foldl (fun c b => crc8Bits 8 (c ^^^ b)) 0#8

end Sys2Proof.Machine
end

