-- ==== Sys2Proof/Machine/Adpoxon.lean ====
section
/-! DEFINITION. The Adpoxon module link: addresses, frames and what their data say (R183, R184). -/

namespace Sys2Proof.Machine

/-- The 7-bit address of a module, as its holder straps it (R183). -/
def moduleAddr (m : Nat) : Nat := 0x40 + m % 32

/-- The downstream port that serves a module: D0 or D1 (R183). -/
def modulePort (m : Nat) : Nat := m / 32

/-- Command codes (Table 7-4). -/
abbrev adMEAS_READ : Nat := 0x01
abbrev adIDENT_READ : Nat := 0x02
abbrev adCERT_OFFSET : Nat := 0x10
abbrev adCERT_CHUNK : Nat := 0x11
abbrev adCHALLENGE : Nat := 0x20
abbrev adRESPONSE : Nat := 0x21

/-- The LEN that Table 7-4 allows a command. -/
def adLenOk (cmd len : Nat) : Bool :=
  if cmd = adMEAS_READ then len == 10
  else if cmd = adIDENT_READ then len == 16
  else if cmd = adCERT_OFFSET then len == 2
  else if cmd = adCERT_CHUNK then decide (1 ≤ len) && decide (len ≤ 32)
  else if cmd = adCHALLENGE then len == 36
  else if cmd = adRESPONSE then len == 66
  else false

/-- The bytes of a write frame to a 7-bit address: address+W, CMD, LEN, the data, PEC over all of them (R184). -/
def writeFrame (addr cmd : Nat) (data : Bytes) : Bytes :=
  let body := BitVec.ofNat 8 (2 * addr) :: BitVec.ofNat 8 cmd :: BitVec.ofNat 8 data.length :: data
  body ++ [crc8 body]

/-- The bytes of a read frame before the target sends: address+W, CMD, address+R (R184). -/
def readHead (addr cmd : Nat) : Bytes :=
  [BitVec.ofNat 8 (2 * addr), BitVec.ofNat 8 cmd, BitVec.ofNat 8 (2 * addr + 1)]

/-- The data of a read frame at an address whose target sent LEN, data and PEC; none where the frame is in error: no byte, for a NACK or a
frame not complete within 2 ms, LEN other than the table gives, or a PEC that does not match (R184). -/
def readFrame (addr cmd : Nat) (lenOk : Nat → Bool) (rx : Bytes) : Option Bytes :=
  let len := byteAt rx 0
  if lenOk len && rx.length == len + 2 && crc8 (readHead addr cmd ++ rx) == 0#8 then some (slice rx 1 len)
  else none

/-- The data of a read of a module: of the frame or, where it is in error, of its one repeat (R184). -/
def readTwice (m cmd : Nat) (frames : List Bytes) : Option Bytes :=
  (frames.take 2).findSome? (readFrame (moduleAddr m) cmd (adLenOk cmd))

/-- The data of a MEAS_READ (Table 7-4). -/
structure MeasData where
  seq   : Nat
  flags : Nat
  vTerm : Int
  tMod  : Int
  age   : Nat
  deriving DecidableEq, Repr, Inhabited

/-- What a MEAS_READ says. -/
def measOf (d : Bytes) : MeasData :=
  { seq := byteAt d 0, flags := byteAt d 1, vTerm := fieldS d 2 4, tMod := fieldS d 6 2, age := fieldU d 8 2 }

/-- MFLAGS (Table 7-4). -/
def MeasData.valid (r : MeasData) : Bool := r.flags.testBit 0
def MeasData.tValid (r : MeasData) : Bool := r.flags.testBit 1
def MeasData.idFlag (r : MeasData) : Bool := r.flags.testBit 2
def MeasData.resetFlag (r : MeasData) : Bool := r.flags.testBit 3

/-- The certificate that a run of chunk reads gives: the chunks in order until 168 bytes have come; none where a read
fails (Table 7-6). -/
def certRead (m : Nat) (got : Bytes) : List (List Bytes) → Option Bytes
  | [] => if got.length ≥ 168 then some got else none
  | c :: rest =>
    if got.length ≥ 168 then some got
    else match readTwice m adCERT_CHUNK c with
      | some d => certRead m (got ++ d) rest
      | none => none

/-- The data of a challenge (Table 7-4). -/
def challengeData (m : Nat) (nonce : Bytes) : Bytes :=
  nonce ++ [BitVec.ofNat 8 (m / 16), BitVec.ofNat 8 (m % 16), 0#8, 0#8]

end Sys2Proof.Machine
end

