-- ==== Sys2Proof/Config.lean ====
section
/-! DEFINITION. What one part fixes and what the manual leaves open, as constants with no body: no
proof can see a value of any of them. Each is named in the assumption log. -/

namespace Sys2Proof.Config

/-- A free byte for each draw of the device random source (R188, R327, R417). Log entry 3. -/
opaque freeByte : Nat → Byte

/-- A free integer for a value the manual does not state. Log entry 4. -/
opaque freeInt : Nat → Int

/-- What a counter that the manual gives no end to reads past its encoding: object, parameter. Log entry 13. -/
opaque counterPastEnd : Nat → Nat → Int

/-- The device serial number in OTP (R365). Log entry 5. -/
opaque serial : BitVec 64

/-- FW_MINOR and FW_PATCH of the running release (Table 14-9). Log entry 5. -/
opaque fwMinor : BitVec 8
opaque fwPatch : BitVec 8

/-- The format number of the configuration journal in force (R408). Log entry 5. -/
opaque configFormat : BitVec 32

/-- ECDSA P-256 over SHA-256: does `sig` (R then S) over `msg` verify under `key` (X then Y)? Log entry 6. -/
opaque verifyP256 (key msg sig : Bytes) : Bool

/-- ECDSA P-384 over SHA-384 under the Golenarid image key (false) or development key (true), R403. Log entry 6. -/
opaque verifyImage (development : Bool) (msg sig : Bytes) : Bool

/-- ECDSA P-384 over SHA-384 under the Golenarid life-cycle key (R417). Log entry 6. -/
opaque verifyLifeCycle (msg sig : Bytes) : Bool

/-- SHA-384 of a byte string (Table 16-2). Log entry 6. -/
opaque sha384 (msg : Bytes) : Bytes

/-- One value of the two-exponential least-squares fit of R195: which value, the load current before the relaxation (100 µA)
and V_MOD at each second of it (10 µV). The manual names no method. Log entry 7. -/
opaque fitValue (which : Nat) (load : Int) (samples : List Int) : Nat

end Sys2Proof.Config
end

