-- ==== Sys2Proof/Machine/Arith.lean ====
section
/-! DEFINITION. Exact integer arithmetic with explicit saturation and rounding (R67, R47). -/

namespace Sys2Proof.Machine

/-- `x` held from `lo` to `hi`. -/
def clampInt (lo hi x : Int) : Int := max lo (min hi x)

/-- Saturation to signed Q2.30 (R67). -/
def satQ2_30 (x : Int) : Int := clampInt (-2 ^ 31) (2 ^ 31 - 1) x

/-- Saturation to signed Q6.58 (R67). -/
def satQ6_58 (x : Int) : Int := clampInt (-2 ^ 63) (2 ^ 63 - 1) x

/-- round() of R67: halves of the 28 dropped bits round towards +∞. -/
def roundQ (v : Int) : Int := satQ2_30 ((v + 2 ^ 27) / 2 ^ 28)

/-- The integer nearest to num / den, halves away from zero. Log entry 11. -/
def roundDiv (num den : Int) : Int :=
  if den = 0 then 0
  else
    let n := if den < 0 then -num else num
    let d := if den < 0 then -den else den
    if n < 0 then -((2 * (-n) + d) / (2 * d)) else (2 * n + d) / (2 * d)

/-- The integer nearest to num / den, halves towards +∞ (R67, R71). -/
def roundDivUp (num den : Int) : Int := if den ≤ 0 then 0 else (2 * num + den) / (2 * den)

/-- Bit `n` of a value held as an integer. -/
def bitOf (v : Int) (n : Nat) : Bool := v / 2 ^ n % 2 == 1

/-- `v` with bit `n` set to `b`. -/
def setBitTo (v : Int) (n : Nat) (b : Bool) : Int :=
  match bitOf v n, b with
  | false, true => v + 2 ^ n
  | true, false => v - 2 ^ n
  | _, _ => v

/-- A count that saturates. -/
def satInc (v max : Int) : Int := if v < max then v + 1 else max

end Sys2Proof.Machine
end

