-- ==== Sys2Proof/Machine/ParamTypes.lean ====
section
/-! DEFINITION. The encodings and access codes of parameters (R5, R9, Table 0-7) and the row of a
parameter table. -/

namespace Sys2Proof.Machine

/-- The encoding of a parameter's value; `b8` is the 8-byte SERIAL, kept as its little-endian value. -/
inductive Enc where
  | u8 | u16 | u32 | u64 | i8 | i16 | i32 | i64 | b8
  deriving DecidableEq, Repr, Inhabited

/-- The access codes of Table 0-6. -/
inductive Access where
  | ro | rw | wo | w1c | rc
  deriving DecidableEq, Repr, Inhabited

/-- Where a parameter may be written (check 7 of R367). -/
inductive Restrict where
  | any
  | testMaint
  | testMaintDisabled
  deriving DecidableEq, Repr, Inhabited

/-- Where a parameter's value comes from at a control-side reset: its Reset value, the stored
configuration on top of that ("then Config"), or non-volatile storage. -/
inductive Source where
  | reset
  | config
  | nvm
  deriving DecidableEq, Repr, Inhabited

/-- One row of a parameter table. -/
structure Desc where
  pid   : Nat
  enc   : Enc
  acc   : Access
  res   : Restrict
  lo    : Int
  hi    : Int
  reset : Int
  src   : Source
  deriving DecidableEq, Repr, Inhabited

/-- The size in bytes of an encoding (R366). -/
abbrev Enc.size : Enc → Nat
  | .u8 | .i8 => 1
  | .u16 | .i16 => 2
  | .u32 | .i32 => 4
  | .u64 | .i64 | .b8 => 8

/-- Is the encoding signed? -/
abbrev Enc.isSigned : Enc → Bool
  | .i8 | .i16 | .i32 | .i64 => true
  | _ => false

end Sys2Proof.Machine
end

