-- ==== Sys2Proof/Machine/ParamTableA.lean ====
section
/-! DEFINITION. The parameter tables of the manual, one row per parameter: ID, encoding, access,
where it may be written, its stated range, its Reset value and where its value comes from. -/

namespace Sys2Proof.Machine

/-- Shelf parameters (R29, R262). -/
def shelfDescs : List Desc := [
  ⟨0x100, .u8, .ro, .any, 0, 255, 0, .reset⟩,
  ⟨0x101, .u8, .wo, .any, 0, 255, 0, .reset⟩,
  ⟨0x102, .u64, .ro, .any, 0, 18446744073709551615, 0, .reset⟩,
  ⟨0x103, .u32, .wo, .any, 0, 4294967295, 0, .reset⟩,
  ⟨0x104, .u32, .ro, .any, 0, 4294967295, 0, .nvm⟩,
  ⟨0x105, .u32, .rw, .any, 0, 4294967295, 4294967295, .nvm⟩,
  ⟨0x106, .u8, .ro, .any, 0, 255, 0, .reset⟩,
  ⟨0x107, .u32, .ro, .any, 0, 4294967295, 4294967295, .reset⟩,
  ⟨0x140, .u8, .ro, .any, 0, 255, 31, .reset⟩,
  ⟨0x141, .u8, .ro, .any, 0, 255, 2, .reset⟩,
  ⟨0x142, .u8, .rw, .testMaint, 0, 1, 0, .config⟩,
  ⟨0x143, .u8, .rw, .any, 0, 1, 0, .config⟩,
  ⟨0x144, .u16, .w1c, .any, 0, 65535, 0, .reset⟩,
  ⟨0x145, .u32, .ro, .any, 0, 4294967295, 0, .reset⟩,
  ⟨0x146, .u32, .rw, .any, 10000, 60000000, 5000000, .config⟩,
  ⟨0x147, .u32, .rw, .any, 1000000, 4000000000, 900000000, .config⟩,
  ⟨0x148, .u32, .rw, .any, 100000, 600000000, 10000000, .config⟩,
  ⟨0x149, .u32, .rw, .any, 100, 1000000, 1000, .config⟩,
  ⟨0x14A, .u32, .rw, .any, 0, 1000000, 5000, .config⟩,
  ⟨0x14B, .u8, .rw, .any, 4, 15, 8, .config⟩,
  ⟨0x14C, .u32, .ro, .any, 0, 4294967295, 0, .reset⟩,
  ⟨0x14D, .u8, .ro, .any, 0, 255, 0, .nvm⟩]

/-- Device parameters (R29, R91, R126, R142, R289, R313), part 1. -/
def deviceDescsA : List Desc := [
  ⟨0x100, .u8, .ro, .any, 0, 255, 0, .reset⟩,
  ⟨0x101, .u32, .ro, .any, 0, 4294967295, 0, .nvm⟩,
  ⟨0x102, .u32, .ro, .any, 0, 4294967295, 0, .nvm⟩,
  ⟨0x103, .u8, .ro, .any, 0, 255, 0, .reset⟩,
  ⟨0x104, .u8, .ro, .any, 0, 255, 0, .reset⟩,
  ⟨0x110, .u16, .ro, .any, 0, 65535, 0, .reset⟩,
  ⟨0x111, .u32, .ro, .any, 0, 4294967295, 0, .reset⟩,
  ⟨0x112, .u32, .ro, .any, 0, 4294967295, 75000000, .reset⟩,
  ⟨0x113, .u32, .ro, .any, 0, 4294967295, 0, .nvm⟩,
  ⟨0x114, .u32, .ro, .any, 0, 4294967295, 0, .reset⟩,
  ⟨0x115, .u16, .rc, .any, 0, 65535, 0, .reset⟩,
  ⟨0x120, .u8, .rw, .testMaint, 0, 1, 0, .config⟩,
  ⟨0x121, .u32, .rw, .testMaint, 100000, 2000000, 500000, .config⟩,
  ⟨0x122, .u8, .ro, .any, 0, 255, 0, .reset⟩,
  ⟨0x123, .u32, .ro, .any, 0, 4294967295, 0, .reset⟩,
  ⟨0x124, .u8, .rw, .any, 0, 1, 0, .config⟩,
  ⟨0x125, .u16, .rw, .any, 0, 65535, 0, .config⟩,
  ⟨0x126, .u32, .ro, .any, 0, 4294967295, 0, .nvm⟩,
  ⟨0x130, .i32, .rw, .testMaint, 1, 134217728, 33554432, .config⟩,
  ⟨0x131, .u8, .ro, .any, 0, 255, 0, .reset⟩,
  ⟨0x132, .u8, .ro, .any, 0, 255, 255, .reset⟩,
  ⟨0x133, .u8, .ro, .any, 0, 255, 0, .reset⟩,
  ⟨0x134, .u8, .ro, .any, 0, 255, 0, .reset⟩,
  ⟨0x135, .u32, .ro, .any, 0, 4294967295, 0, .reset⟩]

/-- Device parameters (R29, R91, R126, R142, R289, R313), part 2. -/
def deviceDescsB : List Desc := [
  ⟨0x136, .u64, .ro, .any, 0, 18446744073709551615, 0, .reset⟩,
  ⟨0x137, .u32, .ro, .any, 0, 4294967295, 32768, .reset⟩,
  ⟨0x140, .u8, .ro, .any, 0, 255, 0, .reset⟩,
  ⟨0x141, .u8, .wo, .any, 0, 2, 0, .reset⟩,
  ⟨0x142, .u8, .rw, .any, 0, 1, 0, .config⟩,
  ⟨0x143, .u32, .rw, .any, 10000000, 3600000000, 600000000, .config⟩,
  ⟨0x144, .u16, .rw, .any, 500, 6000, 3000, .config⟩,
  ⟨0x145, .u16, .ro, .any, 0, 65535, 1, .reset⟩,
  ⟨0x146, .u8, .rw, .any, 0, 1, 0, .config⟩,
  ⟨0x147, .u32, .rw, .any, 100000, 60000000, 1000000, .config⟩,
  ⟨0x148, .u16, .ro, .any, 0, 65535, 0, .reset⟩,
  ⟨0x149, .i32, .rw, .any, 0, 8000000, 4400000, .config⟩,
  ⟨0x14A, .i32, .rw, .any, 0, 8000000, 2000000, .config⟩,
  ⟨0x14B, .i32, .ro, .any, (-2147483648), 2147483647, 0, .reset⟩,
  ⟨0x14C, .i32, .ro, .any, (-2147483648), 2147483647, 0, .reset⟩,
  ⟨0x14D, .u32, .rw, .testMaint, 470000, 10000000, 470000, .config⟩,
  ⟨0x14E, .u32, .ro, .any, 0, 4294967295, 0, .reset⟩,
  ⟨0x14F, .u64, .ro, .any, 0, 18446744073709551615, 0, .reset⟩,
  ⟨0x150, .u16, .w1c, .any, 0, 65535, 0, .reset⟩,
  ⟨0x151, .u32, .ro, .any, 0, 4294967295, 0, .nvm⟩,
  ⟨0x152, .u32, .ro, .any, 0, 4294967295, 0, .nvm⟩,
  ⟨0x153, .u16, .ro, .any, 0, 65535, 0, .nvm⟩,
  ⟨0x154, .u32, .ro, .any, 0, 4294967295, 0, .nvm⟩,
  ⟨0x155, .u32, .ro, .any, 0, 4294967295, 0, .nvm⟩]

/-- Device parameters (R29, R91, R126, R142, R289, R313), part 3. -/
def deviceDescsC : List Desc := [
  ⟨0x156, .u32, .ro, .any, 0, 4294967295, 0, .nvm⟩,
  ⟨0x160, .u16, .w1c, .any, 0, 65535, 0, .nvm⟩,
  ⟨0x161, .u64, .ro, .any, 0, 18446744073709551615, 0, .nvm⟩,
  ⟨0x162, .i64, .ro, .any, (-9223372036854775808), 9223372036854775807, 0, .nvm⟩,
  ⟨0x163, .i64, .ro, .any, (-9223372036854775808), 9223372036854775807, 0, .nvm⟩,
  ⟨0x164, .u8, .ro, .any, 0, 255, 3, .reset⟩,
  ⟨0x165, .u32, .ro, .any, 0, 4294967295, 0, .nvm⟩,
  ⟨0x166, .u32, .rw, .any, 0, 2592000, 0, .config⟩,
  ⟨0x167, .u32, .ro, .any, 0, 4294967295, 0, .nvm⟩,
  ⟨0x168, .u32, .ro, .any, 0, 4294967295, 0, .nvm⟩,
  ⟨0x169, .u64, .ro, .any, 0, 18446744073709551615, 0, .nvm⟩]

/-- Device parameters (R29, R91, R126, R142, R289, R313). -/
def deviceDescs : List Desc := deviceDescsA ++ deviceDescsB ++ deviceDescsC

/-- Segment parameters (R48, R51, R125, R236, R264), part 1. -/
def segmentDescsA : List Desc := [
  ⟨0x800, .u32, .ro, .any, 0, 4294967295, 1073741824, .nvm⟩,
  ⟨0x801, .i32, .ro, .any, (-2147483648), 2147483647, 0, .nvm⟩,
  ⟨0x802, .u32, .rw, .testMaint, 1056964608, 1090519040, 1073741824, .config⟩,
  ⟨0x803, .i32, .rw, .testMaint, (-2147483648), 2147483647, 0, .config⟩,
  ⟨0x804, .u32, .ro, .any, 0, 4294967295, 1073741824, .nvm⟩,
  ⟨0x805, .i32, .ro, .any, (-2147483648), 2147483647, 0, .nvm⟩,
  ⟨0x807, .u32, .ro, .any, 0, 4294967295, 0, .nvm⟩,
  ⟨0x180, .i32, .ro, .any, (-2147483648), 2147483647, 0, .reset⟩,
  ⟨0x181, .i32, .ro, .any, (-2147483648), 2147483647, 0, .reset⟩,
  ⟨0x182, .i32, .ro, .any, (-2147483648), 2147483647, 0, .reset⟩,
  ⟨0x183, .i64, .ro, .any, (-9223372036854775808), 9223372036854775807, 0, .nvm⟩,
  ⟨0x18F, .u16, .w1c, .any, 0, 65535, 0, .reset⟩,
  ⟨0x100, .i32, .rw, .any, 0, 8000000, 4000000, .config⟩,
  ⟨0x101, .i32, .rw, .any, 0, 8000000, 5900000, .config⟩,
  ⟨0x102, .u32, .rw, .any, 1000, 10000000, 50000, .config⟩,
  ⟨0x103, .u8, .ro, .any, 0, 255, 0, .reset⟩,
  ⟨0x104, .u32, .ro, .any, 0, 4294967295, 0, .nvm⟩,
  ⟨0x120, .i32, .ro, .any, (-2147483648), 2147483647, 0, .reset⟩,
  ⟨0x121, .i32, .ro, .any, (-2147483648), 2147483647, 0, .reset⟩,
  ⟨0x122, .i32, .ro, .any, (-2147483648), 2147483647, 0, .reset⟩,
  ⟨0x123, .i64, .ro, .any, (-9223372036854775808), 9223372036854775807, 0, .reset⟩,
  ⟨0x124, .u8, .ro, .any, 0, 255, 0, .reset⟩,
  ⟨0x125, .u16, .ro, .any, 0, 65535, 0, .reset⟩,
  ⟨0x126, .u8, .ro, .any, 0, 255, 0, .reset⟩]

/-- Segment parameters (R48, R51, R125, R236, R264), part 2. -/
def segmentDescsB : List Desc := [
  ⟨0x130, .u8, .rw, .testMaint, 16, 31, 28, .config⟩]

/-- Segment parameters (R48, R51, R125, R236, R264). -/
def segmentDescs : List Desc := segmentDescsA ++ segmentDescsB

/-- Loop parameters (R90, R124). -/
def loopDescs : List Desc := [
  ⟨0x100, .u8, .ro, .any, 0, 255, 0, .reset⟩,
  ⟨0x101, .u32, .ro, .any, 0, 4294967295, 0, .nvm⟩,
  ⟨0x102, .u32, .ro, .any, 0, 4294967295, 0, .reset⟩,
  ⟨0x103, .u32, .ro, .any, 0, 4294967295, 0, .nvm⟩,
  ⟨0x104, .u32, .ro, .any, 0, 4294967295, 0, .reset⟩,
  ⟨0x105, .u32, .ro, .any, 0, 4294967295, 0, .reset⟩,
  ⟨0x106, .i32, .ro, .any, (-2147483648), 2147483647, 0, .reset⟩,
  ⟨0x107, .i32, .ro, .any, (-2147483648), 2147483647, 0, .reset⟩,
  ⟨0x108, .i32, .ro, .any, (-2147483648), 2147483647, 0, .reset⟩,
  ⟨0x109, .u16, .w1c, .any, 0, 65535, 0, .reset⟩,
  ⟨0x10A, .u16, .rw, .testMaint, 2, 256, 8, .config⟩,
  ⟨0x10B, .u8, .rw, .testMaint, 4, 7, 4, .config⟩,
  ⟨0x10C, .i32, .ro, .any, (-2147483648), 2147483647, 0, .reset⟩,
  ⟨0x10D, .u8, .rw, .testMaint, 1, 24, 1, .config⟩,
  ⟨0x10E, .u32, .ro, .any, 0, 4294967295, 0, .reset⟩,
  ⟨0x10F, .u8, .ro, .any, 0, 255, 0, .reset⟩,
  ⟨0x110, .i32, .ro, .any, (-2147483648), 2147483647, 0, .config⟩,
  ⟨0x111, .u32, .ro, .any, 0, 4294967295, 1000, .config⟩,
  ⟨0x112, .u8, .rw, .any, 0, 1, 0, .config⟩,
  ⟨0x113, .u8, .rw, .any, 1, 24, 24, .config⟩,
  ⟨0x114, .u16, .rw, .any, 1000, 8000, 3500, .config⟩,
  ⟨0x115, .u16, .rw, .any, 2000, 9500, 6000, .config⟩,
  ⟨0x116, .u32, .rw, .any, 10000, 60000000, 10000, .config⟩,
  ⟨0x117, .u32, .ro, .any, 0, 4294967295, 0, .reset⟩]

/-- Phase parameters (R48, R51, R90, R123), part 1. -/
def phaseDescsA : List Desc := [
  ⟨0x800, .u32, .ro, .any, 0, 4294967295, 1073741824, .nvm⟩,
  ⟨0x801, .i32, .ro, .any, (-2147483648), 2147483647, 0, .nvm⟩,
  ⟨0x802, .u32, .rw, .testMaint, 1056964608, 1090519040, 1073741824, .config⟩,
  ⟨0x803, .i32, .rw, .testMaint, (-2147483648), 2147483647, 0, .config⟩,
  ⟨0x804, .u32, .ro, .any, 0, 4294967295, 1073741824, .nvm⟩,
  ⟨0x805, .i32, .ro, .any, (-2147483648), 2147483647, 0, .nvm⟩,
  ⟨0x806, .u32, .rw, .testMaint, 10000, 4000000000, 500000, .config⟩,
  ⟨0x807, .u32, .ro, .any, 0, 4294967295, 0, .nvm⟩,
  ⟨0x180, .i32, .ro, .any, (-2147483648), 2147483647, 0, .reset⟩,
  ⟨0x181, .u8, .rw, .testMaint, 0, 3, 0, .config⟩,
  ⟨0x18F, .u16, .w1c, .any, 0, 65535, 0, .reset⟩,
  ⟨0x100, .u8, .ro, .any, 0, 255, 0, .reset⟩,
  ⟨0x101, .u32, .ro, .any, 0, 4294967295, 0, .nvm⟩,
  ⟨0x102, .u32, .ro, .any, 0, 4294967295, 0, .reset⟩,
  ⟨0x103, .u32, .ro, .any, 0, 4294967295, 0, .nvm⟩,
  ⟨0x104, .u32, .ro, .any, 0, 4294967295, 0, .reset⟩,
  ⟨0x105, .u32, .ro, .any, 0, 4294967295, 0, .reset⟩,
  ⟨0x106, .i32, .ro, .any, (-2147483648), 2147483647, 0, .reset⟩,
  ⟨0x107, .i32, .ro, .any, (-2147483648), 2147483647, 0, .reset⟩,
  ⟨0x108, .i32, .ro, .any, (-2147483648), 2147483647, 0, .reset⟩,
  ⟨0x109, .u16, .w1c, .any, 0, 65535, 0, .reset⟩,
  ⟨0x10A, .u8, .rw, .testMaint, 8, 255, 255, .config⟩,
  ⟨0x10B, .i32, .rw, .any, (-1073741824), 1073741824, 0, .config⟩,
  ⟨0x10C, .i32, .ro, .any, (-2147483648), 2147483647, 1000000, .reset⟩]

/-- Phase parameters (R48, R51, R90, R123), part 2. -/
def phaseDescsB : List Desc := [
  ⟨0x110, .u32, .rw, .testMaint, 100000, 2000000, 500000, .config⟩,
  ⟨0x111, .u32, .ro, .any, 0, 4294967295, 25600, .reset⟩,
  ⟨0x112, .u16, .rw, .testMaint, 32, 2560, 256, .config⟩,
  ⟨0x113, .u16, .rw, .testMaint, 32, 2560, 256, .config⟩,
  ⟨0x114, .u32, .rw, .testMaint, 0, 4294967295, 0, .config⟩,
  ⟨0x115, .u32, .rw, .testMaint, 0, 4209067950, 3865470566, .config⟩,
  ⟨0x116, .i32, .rw, .any, 0, 2147483647, 0, .config⟩,
  ⟨0x117, .i32, .rw, .any, 0, 2147483647, 0, .config⟩,
  ⟨0x118, .i32, .rw, .any, 0, 2147483647, 0, .config⟩,
  ⟨0x119, .i32, .rw, .any, 536870912, 1610612736, 1073741824, .config⟩,
  ⟨0x11A, .u8, .rw, .testMaint, 0, 1, 0, .config⟩,
  ⟨0x11B, .u32, .rw, .testMaint, 0, 4294967295, 0, .config⟩,
  ⟨0x11C, .u16, .ro, .any, 0, 65535, 0, .reset⟩,
  ⟨0x11D, .u16, .w1c, .any, 0, 65535, 0, .reset⟩,
  ⟨0x11E, .u32, .ro, .any, 0, 4294967295, 0, .nvm⟩]

/-- Phase parameters (R48, R51, R90, R123). -/
def phaseDescs : List Desc := phaseDescsA ++ phaseDescsB

/-- Feeder parameters (R48, R51, R172, R236, R264), part 1. -/
def feederDescsA : List Desc := [
  ⟨0x800, .u32, .ro, .any, 0, 4294967295, 1073741824, .nvm⟩,
  ⟨0x801, .i32, .ro, .any, (-2147483648), 2147483647, 0, .nvm⟩,
  ⟨0x802, .u32, .rw, .testMaint, 1056964608, 1090519040, 1073741824, .config⟩,
  ⟨0x803, .i32, .rw, .testMaint, (-2147483648), 2147483647, 0, .config⟩,
  ⟨0x804, .u32, .ro, .any, 0, 4294967295, 1073741824, .nvm⟩,
  ⟨0x805, .i32, .ro, .any, (-2147483648), 2147483647, 0, .nvm⟩,
  ⟨0x806, .u32, .rw, .testMaint, 10000, 4000000000, 500000, .config⟩,
  ⟨0x807, .u32, .ro, .any, 0, 4294967295, 0, .nvm⟩,
  ⟨0x180, .i32, .ro, .any, (-2147483648), 2147483647, 0, .reset⟩,
  ⟨0x181, .i32, .ro, .any, (-2147483648), 2147483647, 0, .reset⟩,
  ⟨0x182, .i32, .ro, .any, (-2147483648), 2147483647, 0, .reset⟩,
  ⟨0x183, .i64, .ro, .any, (-9223372036854775808), 9223372036854775807, 0, .nvm⟩,
  ⟨0x184, .i64, .ro, .any, (-9223372036854775808), 9223372036854775807, 0, .nvm⟩,
  ⟨0x18F, .u16, .w1c, .any, 0, 65535, 0, .reset⟩,
  ⟨0x100, .u8, .rw, .testMaintDisabled, 4, 7, 4, .config⟩,
  ⟨0x101, .u16, .w1c, .any, 0, 65535, 0, .reset⟩,
  ⟨0x102, .i32, .rw, .any, 0, 2147483647, 0, .config⟩,
  ⟨0x103, .i32, .rw, .any, 0, 2147483647, 0, .config⟩,
  ⟨0x104, .u32, .rw, .any, 10, 1000000, 1000, .config⟩,
  ⟨0x105, .u32, .rw, .any, 1000, 1000000, 50000, .config⟩,
  ⟨0x106, .u32, .rw, .any, 10000, 10000000, 250000, .config⟩,
  ⟨0x107, .u8, .rw, .any, 2, 100, 20, .config⟩,
  ⟨0x108, .u32, .rw, .any, 1000, 100000000, 1000000, .config⟩,
  ⟨0x109, .u8, .rw, .any, 10, 20, 16, .config⟩]

/-- Feeder parameters (R48, R51, R172, R236, R264), part 2. -/
def feederDescsB : List Desc := [
  ⟨0x10A, .u32, .ro, .any, 0, 4294967295, 0, .reset⟩,
  ⟨0x10B, .i32, .rw, .any, 20000, 500000, 100000, .config⟩,
  ⟨0x10C, .u32, .rw, .any, 0, 60000000, 200000, .config⟩,
  ⟨0x10D, .i32, .rw, .any, (-2147483648), 2147483647, 4200000, .config⟩,
  ⟨0x10E, .i32, .rw, .any, (-2147483648), 7500000, 6000000, .config⟩,
  ⟨0x10F, .u32, .rw, .any, 10, 100000, 100, .config⟩,
  ⟨0x110, .u16, .rw, .any, 20, 1023, 1023, .config⟩,
  ⟨0x111, .i32, .ro, .any, (-2147483648), 2147483647, 2046000, .reset⟩,
  ⟨0x112, .u16, .ro, .any, 0, 65535, 0, .reset⟩,
  ⟨0x113, .u8, .rw, .any, 0, 1, 0, .config⟩,
  ⟨0x114, .u16, .ro, .any, 0, 65535, 0, .reset⟩,
  ⟨0x115, .u16, .ro, .any, 0, 65535, 0, .reset⟩,
  ⟨0x116, .u8, .rw, .any, 0, 1, 0, .config⟩,
  ⟨0x117, .u32, .rw, .any, 1000, 3600000000, 60000000, .config⟩,
  ⟨0x118, .u16, .ro, .any, 0, 65535, 0, .reset⟩,
  ⟨0x119, .u32, .ro, .any, 0, 4294967295, 0, .nvm⟩,
  ⟨0x11A, .u32, .ro, .any, 0, 4294967295, 0, .reset⟩,
  ⟨0x11B, .u32, .ro, .any, 0, 4294967295, 0, .reset⟩,
  ⟨0x120, .i32, .rw, .any, (-2147483648), 2147483647, 2147483647, .config⟩,
  ⟨0x122, .i32, .rw, .any, (-2147483648), 2147483647, 2147483647, .config⟩,
  ⟨0x124, .i32, .rw, .any, (-2147483648), 2147483647, 2147483647, .config⟩,
  ⟨0x126, .i32, .rw, .any, (-2147483648), 2147483647, 2147483647, .config⟩,
  ⟨0x128, .i32, .rw, .any, (-2147483648), 2147483647, 2147483647, .config⟩,
  ⟨0x12A, .i32, .rw, .any, (-2147483648), 2147483647, 2147483647, .config⟩]

/-- Feeder parameters (R48, R51, R172, R236, R264), part 3. -/
def feederDescsC : List Desc := [
  ⟨0x12C, .i32, .rw, .any, (-2147483648), 2147483647, 2147483647, .config⟩,
  ⟨0x12E, .i32, .rw, .any, (-2147483648), 2147483647, 2147483647, .config⟩,
  ⟨0x121, .u32, .rw, .any, 0, 4294967295, 4294967295, .config⟩,
  ⟨0x123, .u32, .rw, .any, 0, 4294967295, 4294967295, .config⟩,
  ⟨0x125, .u32, .rw, .any, 0, 4294967295, 4294967295, .config⟩,
  ⟨0x127, .u32, .rw, .any, 0, 4294967295, 4294967295, .config⟩,
  ⟨0x129, .u32, .rw, .any, 0, 4294967295, 4294967295, .config⟩,
  ⟨0x12B, .u32, .rw, .any, 0, 4294967295, 4294967295, .config⟩,
  ⟨0x12D, .u32, .rw, .any, 0, 4294967295, 4294967295, .config⟩,
  ⟨0x12F, .u32, .rw, .any, 0, 4294967295, 4294967295, .config⟩,
  ⟨0x130, .u8, .wo, .any, 0, 255, 0, .reset⟩,
  ⟨0x131, .u32, .ro, .any, 0, 4294967295, 0, .reset⟩,
  ⟨0x150, .i32, .rw, .any, (-2147483648), 2147483647, 0, .config⟩,
  ⟨0x151, .i32, .ro, .any, (-2147483648), 2147483647, 0, .reset⟩,
  ⟨0x160, .u8, .rw, .testMaint, 16, 31, 0, .config⟩]

/-- Feeder parameters (R48, R51, R172, R236, R264). -/
def feederDescs : List Desc := feederDescsA ++ feederDescsB ++ feederDescsC

end Sys2Proof.Machine
end

