-- ==== Sys2Proof/Machine/ParamTableB.lean ====
section
/-! DEFINITION. The parameter tables of the manual, one row per parameter: ID, encoding, access,
where it may be written, its stated range, its Reset value and where its value comes from. -/

namespace Sys2Proof.Machine

/-- Module parameters (R206). -/
def moduleDescs : List Desc := [
  ⟨0x100, .u16, .w1c, .any, 0, 65535, 0, .reset⟩,
  ⟨0x101, .i32, .ro, .any, (-2147483648), 2147483647, 0, .reset⟩,
  ⟨0x102, .i16, .ro, .any, (-32768), 32767, 0, .reset⟩,
  ⟨0x103, .u16, .ro, .any, 0, 65535, 0, .reset⟩,
  ⟨0x104, .u16, .ro, .any, 0, 65535, 0, .nvm⟩,
  ⟨0x105, .u32, .ro, .any, 0, 4294967295, 0, .reset⟩,
  ⟨0x106, .b8, .ro, .any, 0, 18446744073709551615, 0, .reset⟩,
  ⟨0x107, .u8, .ro, .any, 0, 255, 0, .reset⟩,
  ⟨0x108, .u64, .ro, .any, 0, 18446744073709551615, 0, .reset⟩,
  ⟨0x109, .i64, .ro, .any, (-9223372036854775808), 9223372036854775807, 0, .nvm⟩,
  ⟨0x10A, .u32, .ro, .any, 0, 4294967295, 0, .nvm⟩,
  ⟨0x10B, .u32, .ro, .any, 0, 4294967295, 0, .nvm⟩,
  ⟨0x10C, .u32, .ro, .any, 0, 4294967295, 0, .nvm⟩,
  ⟨0x10D, .u32, .ro, .any, 0, 4294967295, 0, .nvm⟩,
  ⟨0x10E, .u32, .ro, .any, 0, 4294967295, 0, .nvm⟩,
  ⟨0x10F, .i32, .ro, .any, (-2147483648), 2147483647, 0, .nvm⟩,
  ⟨0x110, .u64, .ro, .any, 0, 18446744073709551615, 0, .nvm⟩,
  ⟨0x111, .u32, .ro, .any, 0, 4294967295, 0, .reset⟩,
  ⟨0x112, .u8, .ro, .any, 0, 255, 0, .nvm⟩]

/-- String parameters (R48, R51, R204, R264), part 1. -/
def stringDescsA : List Desc := [
  ⟨0x800, .u32, .ro, .any, 0, 4294967295, 1073741824, .nvm⟩,
  ⟨0x801, .i32, .ro, .any, (-2147483648), 2147483647, 0, .nvm⟩,
  ⟨0x802, .u32, .rw, .testMaint, 1056964608, 1090519040, 1073741824, .config⟩,
  ⟨0x803, .i32, .rw, .testMaint, (-2147483648), 2147483647, 0, .config⟩,
  ⟨0x804, .u32, .ro, .any, 0, 4294967295, 1073741824, .nvm⟩,
  ⟨0x805, .i32, .ro, .any, (-2147483648), 2147483647, 0, .nvm⟩,
  ⟨0x806, .u32, .rw, .testMaint, 10000, 4000000000, 500000, .config⟩,
  ⟨0x807, .u32, .ro, .any, 0, 4294967295, 0, .nvm⟩,
  ⟨0x180, .i32, .ro, .any, (-2147483648), 2147483647, 0, .reset⟩,
  ⟨0x181, .i32, .ro, .any, (-2147483648), 2147483647, 0, .reset⟩,
  ⟨0x182, .i32, .ro, .any, (-2147483648), 2147483647, 0, .reset⟩,
  ⟨0x183, .i64, .ro, .any, (-9223372036854775808), 9223372036854775807, 0, .nvm⟩,
  ⟨0x184, .i64, .ro, .any, (-9223372036854775808), 9223372036854775807, 0, .nvm⟩,
  ⟨0x185, .i64, .ro, .any, (-9223372036854775808), 9223372036854775807, 0, .nvm⟩,
  ⟨0x18F, .u16, .w1c, .any, 0, 65535, 0, .reset⟩,
  ⟨0x100, .u8, .rw, .testMaintDisabled, 4, 7, 4, .config⟩,
  ⟨0x101, .u16, .w1c, .any, 0, 65535, 0, .reset⟩,
  ⟨0x102, .u8, .rw, .testMaint, 0, 16, 0, .config⟩,
  ⟨0x103, .u8, .ro, .any, 0, 255, 0, .reset⟩,
  ⟨0x104, .u16, .ro, .any, 0, 65535, 0, .nvm⟩,
  ⟨0x105, .u16, .ro, .any, 0, 65535, 0, .reset⟩,
  ⟨0x106, .u16, .ro, .any, 0, 65535, 0, .nvm⟩,
  ⟨0x107, .u16, .ro, .any, 0, 65535, 0, .nvm⟩,
  ⟨0x108, .i64, .ro, .any, (-9223372036854775808), 9223372036854775807, 0, .reset⟩]

/-- String parameters (R48, R51, R204, R264), part 2. -/
def stringDescsB : List Desc := [
  ⟨0x109, .u8, .ro, .any, 0, 255, 2, .reset⟩,
  ⟨0x10A, .i32, .rw, .any, (-2147483648), 2147483647, 0, .config⟩,
  ⟨0x10B, .i32, .rw, .any, (-2147483648), 2147483647, 0, .config⟩,
  ⟨0x10C, .i32, .ro, .any, (-2147483648), 2147483647, 0, .reset⟩,
  ⟨0x10D, .i32, .ro, .any, (-2147483648), 2147483647, 0, .reset⟩,
  ⟨0x10E, .i32, .rw, .any, 100, 50000, 2000, .config⟩,
  ⟨0x10F, .i32, .rw, .any, 10000, 1000000, 50000, .config⟩,
  ⟨0x110, .u32, .rw, .any, 10000, 10000000, 500000, .config⟩,
  ⟨0x111, .u8, .rw, .any, 2, 100, 20, .config⟩,
  ⟨0x112, .i32, .rw, .any, (-2147483648), 2147483647, 4200000, .config⟩,
  ⟨0x113, .i32, .rw, .any, (-2147483648), 2147483647, 4800000, .config⟩,
  ⟨0x114, .u32, .rw, .any, 0, 4294967295, 13108223, .config⟩,
  ⟨0x115, .u16, .ro, .any, 0, 65535, 0, .reset⟩,
  ⟨0x116, .u16, .ro, .any, 0, 65535, 0, .reset⟩,
  ⟨0x117, .u16, .ro, .any, 0, 65535, 0, .reset⟩,
  ⟨0x118, .u16, .rw, .any, 0, 5000, 2000, .config⟩,
  ⟨0x119, .u16, .rw, .any, 100, 5000, 500, .config⟩,
  ⟨0x11A, .u32, .rw, .any, 1000000, 3600000000, 60000000, .config⟩,
  ⟨0x11B, .i32, .rw, .any, 1000, 100000, 5000, .config⟩,
  ⟨0x11C, .i32, .rw, .any, (-2147483648), 2147483647, 10000, .config⟩,
  ⟨0x11D, .i16, .rw, .any, (-32768), 32767, 0, .config⟩,
  ⟨0x11E, .i16, .rw, .any, (-32768), 32767, 5760, .config⟩,
  ⟨0x11F, .u32, .ro, .any, 0, 4294967295, 0, .nvm⟩,
  ⟨0x120, .u32, .ro, .any, 0, 4294967295, 0, .nvm⟩]

/-- String parameters (R48, R51, R204, R264), part 3. -/
def stringDescsC : List Desc := [
  ⟨0x140, .u32, .rw, .testMaint, 0, 4294967295, 0, .config⟩,
  ⟨0x141, .i32, .rw, .testMaint, (-2147483648), 2147483647, 0, .config⟩,
  ⟨0x142, .i32, .rw, .testMaint, (-2147483648), 2147483647, 0, .config⟩,
  ⟨0x143, .i32, .rw, .testMaint, (-2147483648), 2147483647, 0, .config⟩,
  ⟨0x144, .i32, .rw, .testMaint, (-2147483648), 2147483647, 0, .config⟩,
  ⟨0x145, .i32, .rw, .testMaint, (-2147483648), 2147483647, 0, .config⟩,
  ⟨0x146, .i32, .rw, .testMaint, (-2147483648), 2147483647, 0, .config⟩,
  ⟨0x147, .i32, .rw, .testMaint, (-2147483648), 2147483647, 0, .config⟩,
  ⟨0x148, .i32, .rw, .testMaint, (-2147483648), 2147483647, 0, .config⟩,
  ⟨0x149, .i32, .rw, .testMaint, (-2147483648), 2147483647, 0, .config⟩,
  ⟨0x14A, .i32, .rw, .testMaint, (-2147483648), 2147483647, 0, .config⟩,
  ⟨0x14B, .i32, .rw, .testMaint, (-2147483648), 2147483647, 0, .config⟩,
  ⟨0x14C, .i32, .rw, .testMaint, (-2147483648), 2147483647, 0, .config⟩,
  ⟨0x14D, .i64, .rw, .testMaint, (-9223372036854775808), 9223372036854775807, 0, .config⟩,
  ⟨0x14E, .u32, .rw, .testMaint, 0, 4294967295, 0, .config⟩,
  ⟨0x14F, .u32, .rw, .testMaint, 0, 4294967295, 0, .config⟩,
  ⟨0x150, .u32, .rw, .testMaint, 0, 4294967295, 0, .config⟩,
  ⟨0x151, .u32, .rw, .testMaint, 0, 4294967295, 0, .config⟩,
  ⟨0x152, .u32, .rw, .testMaint, 0, 4294967295, 0, .config⟩,
  ⟨0x153, .i32, .rw, .any, (-2147483648), 2147483647, 1050000, .config⟩,
  ⟨0x154, .i32, .rw, .any, (-2147483648), 2147483647, 1470000, .config⟩,
  ⟨0x160, .u8, .rw, .testMaint, 16, 31, 29, .config⟩]

/-- String parameters (R48, R51, R204, R264). -/
def stringDescs : List Desc := stringDescsA ++ stringDescsB ++ stringDescsC

/-- Rail parameters (R263), V0–V15. -/
def railDirectDescs : List Desc := [
  ⟨0x100, .u16, .w1c, .any, 0, 65535, 0, .reset⟩,
  ⟨0x101, .u8, .rw, .testMaint, 0, 255, 255, .config⟩,
  ⟨0x102, .u8, .rw, .testMaint, 16, 31, 24, .config⟩,
  ⟨0x103, .u32, .rw, .any, 0, 10000000, 0, .config⟩,
  ⟨0x104, .u32, .rw, .any, 100, 100000, 1000, .config⟩,
  ⟨0x105, .u32, .rw, .any, 1000, 10000000, 100000, .config⟩,
  ⟨0x106, .i32, .rw, .any, 5000, 300000, 50000, .config⟩,
  ⟨0x107, .u32, .rw, .any, 1000, 10000000, 50000, .config⟩,
  ⟨0x108, .u32, .rw, .any, 10, 10000, 50, .config⟩,
  ⟨0x109, .u32, .ro, .any, 0, 4294967295, 0, .reset⟩,
  ⟨0x10A, .u8, .rw, .testMaint, 0, 1, 0, .config⟩,
  ⟨0x10B, .i32, .rw, .any, 5000, 300000, 270000, .config⟩,
  ⟨0x10D, .u32, .ro, .any, 0, 4294967295, 0, .reset⟩,
  ⟨0x10E, .u32, .ro, .any, 0, 4294967295, 0, .reset⟩]

/-- Rail parameters (R263), V16–V31. Rail Vn names POL_STAGE object 0xB0 + n − 16 at reset. -/
def railD2Descs (o : Nat) : List Desc := [
  ⟨0x100, .u16, .w1c, .any, 0, 65535, 0, .reset⟩,
  ⟨0x101, .u8, .rw, .testMaint, 0, 255, 255, .config⟩,
  ⟨0x102, .u8, .rw, .testMaint, 16, 31, 24, .config⟩,
  ⟨0x103, .u32, .rw, .any, 0, 10000000, 0, .config⟩,
  ⟨0x104, .u32, .rw, .any, 100, 100000, 1000, .config⟩,
  ⟨0x105, .u32, .rw, .any, 1000, 10000000, 100000, .config⟩,
  ⟨0x106, .i32, .rw, .any, 5000, 8000000, 50000, .config⟩,
  ⟨0x107, .u32, .rw, .any, 1000, 10000000, 50000, .config⟩,
  ⟨0x108, .u32, .rw, .any, 10, 10000, 50, .config⟩,
  ⟨0x109, .u32, .ro, .any, 0, 4294967295, 0, .reset⟩,
  ⟨0x10A, .u8, .ro, .any, 0, 2, 2, .reset⟩,
  ⟨0x10C, .u8, .rw, .testMaint, 176, 207, (o : Int) + 16, .config⟩,
  ⟨0x10D, .u32, .ro, .any, 0, 4294967295, 0, .reset⟩,
  ⟨0x10E, .u32, .ro, .any, 0, 4294967295, 0, .reset⟩]

/-- Pol parameters (R397). -/
def polDescs : List Desc := [
  ⟨0x100, .u8, .rw, .testMaint, 0, 119, 0, .config⟩,
  ⟨0x101, .u8, .rw, .any, 0, 1, 1, .config⟩,
  ⟨0x102, .u16, .ro, .any, 0, 65535, 0, .reset⟩,
  ⟨0x103, .i32, .ro, .any, (-2147483648), 2147483647, 0, .reset⟩,
  ⟨0x104, .i32, .ro, .any, (-2147483648), 2147483647, 0, .reset⟩,
  ⟨0x105, .i16, .ro, .any, (-32768), 32767, 0, .reset⟩,
  ⟨0x106, .i8, .ro, .any, (-128), 127, 0, .reset⟩,
  ⟨0x107, .u8, .ro, .any, 0, 255, 0, .reset⟩,
  ⟨0x108, .u32, .ro, .any, 0, 4294967295, 0, .reset⟩]

/-- Thermal parameters (R237), T0–T9. -/
def thermalCsdDescs : List Desc := [
  ⟨0x100, .i16, .ro, .any, (-32768), 32767, 0, .reset⟩,
  ⟨0x101, .i16, .ro, .any, (-32768), 32767, 0, .reset⟩,
  ⟨0x102, .u8, .rw, .testMaint, 0, 7, 0, .config⟩,
  ⟨0x103, .i16, .rw, .any, (-32768), 32767, 14080, .config⟩,
  ⟨0x104, .i16, .rw, .any, (-32768), 17920, 16640, .config⟩,
  ⟨0x105, .i16, .rw, .any, (-32768), 32767, 256, .config⟩,
  ⟨0x106, .i16, .rw, .any, (-32768), 6400, 1280, .config⟩,
  ⟨0x107, .i16, .rc, .any, (-32768), 32767, 0, .reset⟩,
  ⟨0x108, .u16, .w1c, .any, 0, 65535, 0, .reset⟩,
  ⟨0x800, .i16, .ro, .any, (-32768), 32767, 0, .nvm⟩,
  ⟨0x801, .u32, .ro, .any, 0, 4294967295, 1073741824, .nvm⟩]

/-- Thermal parameters (R237), T10–T15. -/
def thermalPsdDescs : List Desc := [
  ⟨0x100, .i16, .ro, .any, (-32768), 32767, 0, .reset⟩,
  ⟨0x101, .i16, .ro, .any, (-32768), 32767, 0, .reset⟩,
  ⟨0x102, .u8, .rw, .testMaint, 0, 7, 1, .config⟩,
  ⟨0x103, .i16, .rw, .any, (-32768), 32767, 14080, .config⟩,
  ⟨0x104, .i16, .rw, .any, (-32768), 17920, 16640, .config⟩,
  ⟨0x105, .i16, .rw, .any, (-32768), 32767, 256, .config⟩,
  ⟨0x106, .i16, .rw, .any, (-32768), 6400, 1280, .config⟩,
  ⟨0x107, .i16, .rc, .any, (-32768), 32767, 0, .reset⟩,
  ⟨0x108, .u16, .w1c, .any, 0, 65535, 0, .reset⟩,
  ⟨0x800, .i16, .ro, .any, (-32768), 32767, 0, .nvm⟩,
  ⟨0x801, .u32, .ro, .any, 0, 4294967295, 1073741824, .nvm⟩]

/-- Sat parameters (R422). -/
def satDescs : List Desc := [
  ⟨0x100, .u16, .ro, .any, 0, 65535, 0, .reset⟩,
  ⟨0x101, .u32, .ro, .any, 0, 4294967295, 0, .reset⟩,
  ⟨0x102, .u8, .ro, .any, 0, 255, 0, .reset⟩,
  ⟨0x103, .u32, .ro, .any, 0, 4294967295, 0, .reset⟩]

/-- Timer parameters (R312), even timers. -/
def timerEvenDescs : List Desc := [
  ⟨0x100, .u8, .rw, .any, 0, 15, 0, .config⟩,
  ⟨0x101, .u32, .rw, .any, 0, 4294967295, 0, .reset⟩,
  ⟨0x103, .u32, .rw, .any, 0, 4294967295, 0, .reset⟩,
  ⟨0x104, .u8, .rw, .any, 0, 3, 0, .config⟩,
  ⟨0x105, .u8, .rw, .any, 0, 4, 0, .config⟩,
  ⟨0x106, .u8, .rw, .any, 0, 1, 0, .config⟩,
  ⟨0x107, .u8, .rw, .any, 0, 1, 1, .config⟩,
  ⟨0x108, .u32, .rc, .any, 0, 4294967295, 0, .reset⟩,
  ⟨0x109, .u16, .w1c, .any, 0, 65535, 0, .reset⟩,
  ⟨0x10A, .u8, .rw, .any, 0, 1, 0, .config⟩,
  ⟨0x10B, .u32, .ro, .any, 0, 4294967295, 0, .reset⟩]

/-- Timer parameters (R312), odd timers. -/
def timerOddDescs : List Desc := [
  ⟨0x100, .u8, .rw, .any, 0, 15, 0, .config⟩,
  ⟨0x101, .u32, .rw, .any, 0, 4294967295, 0, .reset⟩,
  ⟨0x102, .u32, .ro, .any, 0, 4294967295, 0, .reset⟩,
  ⟨0x103, .u32, .rw, .any, 0, 4294967295, 0, .reset⟩,
  ⟨0x104, .u8, .rw, .any, 0, 3, 0, .config⟩,
  ⟨0x105, .u8, .rw, .any, 0, 4, 0, .config⟩,
  ⟨0x107, .u8, .rw, .any, 0, 1, 1, .config⟩,
  ⟨0x108, .u32, .rc, .any, 0, 4294967295, 0, .reset⟩,
  ⟨0x109, .u16, .w1c, .any, 0, 65535, 0, .reset⟩,
  ⟨0x10A, .u8, .rw, .any, 0, 1, 0, .config⟩,
  ⟨0x10B, .u32, .ro, .any, 0, 4294967295, 0, .reset⟩]

/-- Host parameters (R375, R398). -/
def hportDescs : List Desc := [
  ⟨0x180, .u8, .ro, .any, 0, 255, 0, .reset⟩,
  ⟨0x181, .u32, .ro, .any, 0, 4294967295, 0, .reset⟩,
  ⟨0x182, .u32, .ro, .any, 0, 4294967295, 0, .reset⟩,
  ⟨0x183, .u8, .ro, .any, 0, 255, 0, .reset⟩,
  ⟨0x184, .u8, .ro, .any, 0, 255, 0, .reset⟩,
  ⟨0x185, .u8, .wo, .any, 0, 255, 0, .reset⟩,
  ⟨0x186, .u32, .ro, .any, 0, 4294967295, 0, .reset⟩,
  ⟨0x187, .u32, .ro, .any, 0, 4294967295, 0, .reset⟩,
  ⟨0x100, .u8, .ro, .any, 0, 255, 88, .reset⟩,
  ⟨0x101, .u8, .rw, .testMaint, 0, 1, 0, .config⟩,
  ⟨0x102, .u8, .rw, .testMaint, 0, 255, 0, .config⟩,
  ⟨0x103, .u8, .rw, .testMaint, 0, 255, 0, .config⟩,
  ⟨0x104, .u8, .rw, .testMaint, 0, 255, 0, .config⟩,
  ⟨0x105, .u8, .rw, .testMaint, 0, 127, 0, .config⟩,
  ⟨0x106, .u8, .rw, .testMaint, 0, 127, 127, .config⟩,
  ⟨0x107, .u8, .rw, .any, 0, 1, 0, .config⟩,
  ⟨0x108, .u8, .rw, .any, 0, 1, 1, .config⟩,
  ⟨0x109, .u8, .rw, .any, 0, 255, 255, .config⟩,
  ⟨0x10A, .u32, .ro, .any, 0, 4294967295, 0, .reset⟩,
  ⟨0x10B, .u32, .ro, .any, 0, 4294967295, 0, .reset⟩,
  ⟨0x10C, .u32, .ro, .any, 0, 4294967295, 0, .reset⟩,
  ⟨0x10D, .u16, .rc, .any, 0, 65535, 0, .reset⟩,
  ⟨0x10E, .u32, .ro, .any, 0, 4294967295, 0, .reset⟩,
  ⟨0x10F, .u8, .ro, .any, 0, 255, 0, .reset⟩]

/-- Down parameters (R399), D2. -/
def dportD2Descs : List Desc := [
  ⟨0x100, .u8, .ro, .any, 0, 255, 0, .reset⟩,
  ⟨0x101, .u8, .rw, .testMaint, 0, 2, 1, .config⟩,
  ⟨0x102, .u16, .w1c, .any, 0, 65535, 0, .reset⟩,
  ⟨0x103, .u32, .ro, .any, 0, 4294967295, 0, .reset⟩,
  ⟨0x104, .u32, .ro, .any, 0, 4294967295, 0, .reset⟩,
  ⟨0x105, .u32, .ro, .any, 0, 4294967295, 0, .reset⟩,
  ⟨0x106, .u16, .ro, .any, 0, 65535, 0, .reset⟩,
  ⟨0x107, .u32, .ro, .any, 0, 4294967295, 0, .reset⟩]

/-- Down parameters (R399), D0, D1 and D3. -/
def dportDescs : List Desc := [
  ⟨0x100, .u8, .ro, .any, 0, 255, 0, .reset⟩,
  ⟨0x101, .u8, .ro, .any, 0, 2, 2, .config⟩,
  ⟨0x102, .u16, .w1c, .any, 0, 65535, 0, .reset⟩,
  ⟨0x103, .u32, .ro, .any, 0, 4294967295, 0, .reset⟩,
  ⟨0x104, .u32, .ro, .any, 0, 4294967295, 0, .reset⟩,
  ⟨0x105, .u32, .ro, .any, 0, 4294967295, 0, .reset⟩,
  ⟨0x106, .u16, .ro, .any, 0, 65535, 0, .reset⟩,
  ⟨0x107, .u32, .ro, .any, 0, 4294967295, 0, .reset⟩]

/-- Grist parameters (R330), part 1. -/
def gristDescsA : List Desc := [
  ⟨0x100, .u16, .w1c, .any, 0, 65535, 0, .reset⟩,
  ⟨0x101, .u32, .ro, .any, 0, 4294967295, 0, .nvm⟩,
  ⟨0x102, .u32, .ro, .any, 0, 4294967295, 0, .nvm⟩,
  ⟨0x103, .u32, .ro, .any, 0, 4294967295, 0, .nvm⟩,
  ⟨0x104, .u32, .ro, .any, 0, 4294967295, 0, .nvm⟩,
  ⟨0x105, .u16, .ro, .any, 0, 65535, 0, .nvm⟩,
  ⟨0x106, .u32, .ro, .any, 0, 4294967295, 0, .nvm⟩,
  ⟨0x107, .u32, .ro, .any, 0, 4294967295, 0, .nvm⟩,
  ⟨0x108, .u32, .ro, .any, 0, 4294967295, 0, .reset⟩,
  ⟨0x109, .u64, .ro, .any, 0, 18446744073709551615, 0, .nvm⟩,
  ⟨0x110, .u32, .ro, .any, 0, 4294967295, 0, .reset⟩,
  ⟨0x111, .u32, .ro, .any, 0, 4294967295, 0, .reset⟩,
  ⟨0x112, .u32, .ro, .any, 0, 4294967295, 0, .reset⟩,
  ⟨0x113, .u32, .ro, .any, 0, 4294967295, 0, .reset⟩,
  ⟨0x114, .u32, .ro, .any, 0, 4294967295, 0, .reset⟩,
  ⟨0x115, .u32, .ro, .any, 0, 4294967295, 0, .reset⟩,
  ⟨0x116, .u32, .ro, .any, 0, 4294967295, 0, .reset⟩,
  ⟨0x117, .u32, .ro, .any, 0, 4294967295, 0, .reset⟩,
  ⟨0x118, .u32, .ro, .any, 0, 4294967295, 0, .reset⟩,
  ⟨0x119, .u32, .ro, .any, 0, 4294967295, 0, .reset⟩,
  ⟨0x11A, .u32, .ro, .any, 0, 4294967295, 0, .reset⟩,
  ⟨0x11B, .u32, .ro, .any, 0, 4294967295, 0, .reset⟩,
  ⟨0x11C, .u32, .ro, .any, 0, 4294967295, 0, .reset⟩,
  ⟨0x11D, .u32, .ro, .any, 0, 4294967295, 0, .reset⟩]

/-- Grist parameters (R330), part 2. -/
def gristDescsB : List Desc := [
  ⟨0x11E, .u32, .ro, .any, 0, 4294967295, 0, .reset⟩,
  ⟨0x11F, .u32, .ro, .any, 0, 4294967295, 0, .reset⟩]

/-- Grist parameters (R330). -/
def gristDescs : List Desc := gristDescsA ++ gristDescsB

/-- Dresser parameters (R346), part 1. -/
def dresserDescsA : List Desc := [
  ⟨0x100, .u16, .w1c, .any, 0, 65535, 0, .reset⟩,
  ⟨0x101, .u32, .rw, .any, 1000000, 600000000, 10000000, .config⟩,
  ⟨0x102, .u32, .rw, .any, 100000, 600000000, 1000000, .config⟩,
  ⟨0x103, .u32, .ro, .any, 0, 4294967295, 0, .reset⟩,
  ⟨0x104, .u32, .ro, .any, 0, 4294967295, 0, .reset⟩,
  ⟨0x105, .u32, .ro, .any, 0, 4294967295, 0, .reset⟩,
  ⟨0x108, .u64, .ro, .any, 0, 18446744073709551615, 0, .reset⟩,
  ⟨0x109, .u64, .ro, .any, 0, 18446744073709551615, 0, .reset⟩,
  ⟨0x10A, .u64, .ro, .any, 0, 18446744073709551615, 0, .reset⟩,
  ⟨0x110, .u32, .ro, .any, 0, 4294967295, 0, .nvm⟩,
  ⟨0x111, .u32, .ro, .any, 0, 4294967295, 0, .nvm⟩,
  ⟨0x112, .u32, .ro, .any, 0, 4294967295, 0, .nvm⟩,
  ⟨0x113, .u32, .ro, .any, 0, 4294967295, 0, .nvm⟩,
  ⟨0x114, .u32, .ro, .any, 0, 4294967295, 0, .nvm⟩,
  ⟨0x115, .u32, .ro, .any, 0, 4294967295, 0, .nvm⟩,
  ⟨0x118, .u32, .ro, .any, 0, 4294967295, 0, .nvm⟩,
  ⟨0x119, .u32, .ro, .any, 0, 4294967295, 0, .nvm⟩,
  ⟨0x11A, .u32, .ro, .any, 0, 4294967295, 0, .nvm⟩,
  ⟨0x11B, .u32, .ro, .any, 0, 4294967295, 0, .nvm⟩,
  ⟨0x11C, .u32, .ro, .any, 0, 4294967295, 0, .nvm⟩,
  ⟨0x11D, .u32, .ro, .any, 0, 4294967295, 0, .nvm⟩,
  ⟨0x120, .u8, .ro, .any, 0, 255, 0, .nvm⟩,
  ⟨0x121, .u8, .ro, .any, 0, 255, 0, .nvm⟩,
  ⟨0x122, .u8, .ro, .any, 0, 255, 0, .nvm⟩]

/-- Dresser parameters (R346), part 2. -/
def dresserDescsB : List Desc := [
  ⟨0x123, .u8, .ro, .any, 0, 255, 0, .nvm⟩,
  ⟨0x124, .u8, .ro, .any, 0, 255, 0, .nvm⟩,
  ⟨0x125, .u8, .ro, .any, 0, 255, 0, .nvm⟩,
  ⟨0x128, .u32, .ro, .any, 0, 4294967295, 0, .reset⟩,
  ⟨0x129, .u32, .ro, .any, 0, 4294967295, 0, .reset⟩,
  ⟨0x12A, .u32, .ro, .any, 0, 4294967295, 0, .reset⟩,
  ⟨0x12B, .u32, .ro, .any, 0, 4294967295, 0, .reset⟩,
  ⟨0x12C, .u32, .ro, .any, 0, 4294967295, 0, .reset⟩,
  ⟨0x12D, .u32, .ro, .any, 0, 4294967295, 0, .reset⟩]

/-- Dresser parameters (R346). -/
def dresserDescs : List Desc := dresserDescsA ++ dresserDescsB

/-- Updater parameters (R422). -/
def updaterDescs : List Desc := [
  ⟨0x100, .u8, .ro, .any, 0, 255, 0, .reset⟩,
  ⟨0x101, .u16, .ro, .any, 0, 65535, 0, .reset⟩,
  ⟨0x102, .u32, .ro, .any, 0, 4294967295, 0, .reset⟩,
  ⟨0x103, .u8, .ro, .any, 0, 255, 4, .nvm⟩,
  ⟨0x104, .u8, .ro, .any, 0, 255, 0, .nvm⟩,
  ⟨0x105, .u8, .ro, .any, 0, 255, 0, .reset⟩,
  ⟨0x106, .u32, .ro, .any, 0, 4294967295, 0, .nvm⟩,
  ⟨0x107, .u8, .ro, .any, 0, 255, 255, .nvm⟩,
  ⟨0x108, .u8, .ro, .any, 0, 255, 0, .nvm⟩,
  ⟨0x109, .i64, .ro, .any, (-9223372036854775808), 9223372036854775807, 0, .nvm⟩,
  ⟨0x10A, .u8, .ro, .any, 0, 255, 0, .nvm⟩,
  ⟨0x10B, .u32, .ro, .any, 0, 4294967295, 0, .reset⟩,
  ⟨0x10C, .u8, .ro, .any, 0, 255, 0, .reset⟩]

/-- LifeCycle parameters (R422). -/
def lifecycleDescs : List Desc := [
  ⟨0x100, .u8, .ro, .any, 0, 255, 0, .nvm⟩,
  ⟨0x101, .u8, .ro, .any, 0, 255, 1, .reset⟩,
  ⟨0x102, .u8, .ro, .any, 0, 255, 0, .nvm⟩,
  ⟨0x103, .u32, .ro, .any, 0, 4294967295, 0, .nvm⟩]

/-- Fantail parameters (R235), part 1. -/
def fantailDescsA : List Desc := [
  ⟨0x100, .u32, .ro, .any, 0, 4294967295, 0, .reset⟩,
  ⟨0x101, .u16, .w1c, .any, 0, 65535, 0, .reset⟩,
  ⟨0x102, .u32, .rw, .any, 0, 86400, 3600, .config⟩,
  ⟨0x103, .u8, .rw, .any, 0, 7, 3, .config⟩,
  ⟨0x104, .u16, .rw, .any, 1000, 10000, 5000, .config⟩,
  ⟨0x105, .u16, .rw, .any, 1000, 10000, 7500, .config⟩,
  ⟨0x106, .u32, .rw, .any, 1000, 600000, 10000, .config⟩,
  ⟨0x107, .u32, .rw, .any, 10000, 86400000, 600000, .config⟩,
  ⟨0x108, .i64, .ro, .any, (-9223372036854775808), 9223372036854775807, 0, .reset⟩,
  ⟨0x109, .i64, .ro, .any, (-9223372036854775808), 9223372036854775807, 0, .reset⟩,
  ⟨0x10A, .u16, .ro, .any, 0, 65535, 0, .reset⟩,
  ⟨0x10B, .u32, .ro, .any, 0, 4294967295, 0, .reset⟩,
  ⟨0x111, .u32, .rw, .any, 1000, 86400000, 600000, .config⟩,
  ⟨0x112, .u32, .rw, .any, 1000, 86400000, 300000, .config⟩,
  ⟨0x113, .u32, .rw, .any, 1000, 86400000, 120000, .config⟩,
  ⟨0x114, .u32, .rw, .any, 1000, 86400000, 60000, .config⟩,
  ⟨0x115, .u32, .rw, .any, 1000, 86400000, 60000, .config⟩,
  ⟨0x116, .u32, .rw, .any, 1000, 86400000, 30000, .config⟩,
  ⟨0x117, .u32, .rw, .any, 1000, 86400000, 10000, .config⟩,
  ⟨0x118, .u32, .rw, .testMaint, 0, 4294967295, 0, .config⟩,
  ⟨0x119, .u32, .rw, .testMaint, 0, 4294967295, 16777215, .config⟩,
  ⟨0x11A, .u32, .rw, .testMaint, 0, 4294967295, 0, .config⟩,
  ⟨0x11B, .u32, .rw, .testMaint, 0, 4294967295, 0, .config⟩,
  ⟨0x11C, .u32, .rw, .testMaint, 0, 4294967295, 0, .config⟩]

/-- Fantail parameters (R235), part 2. -/
def fantailDescsB : List Desc := [
  ⟨0x11D, .u32, .rw, .testMaint, 0, 4294967295, 0, .config⟩,
  ⟨0x11E, .u32, .rw, .testMaint, 0, 4294967295, 0, .config⟩,
  ⟨0x11F, .u32, .rw, .testMaint, 0, 4294967295, 0, .config⟩]

/-- Fantail parameters (R235). -/
def fantailDescs : List Desc := fantailDescsA ++ fantailDescsB

end Sys2Proof.Machine
end

