-- ==== Sys2Proof/Machine/Pid.lean ====
section
/-! DEFINITION. The parameter IDs, by object type, under the manual's own names (Tables 1-5 to 16-9). -/

namespace Sys2Proof.Machine.Pid

/-- Common to every object (Table 1-5). -/
abbrev OBJ_TYPE : Nat := 0x000
abbrev OBJ_STATE : Nat := 0x001
abbrev FAULT_LATCH : Nat := 0x002
abbrev SERVICE_STATUS : Nat := 0x003
abbrev PRIORITY : Nat := 0x004
abbrev SOURCE_SEQ : Nat := 0x005
abbrev ENABLE : Nat := 0x006

namespace Shelf
abbrev SHELF_STATE : Nat := 0x100
abbrev STATE_REQUEST : Nat := 0x101
abbrev STATE_ENTRY_TICK : Nat := 0x102
abbrev CONFIG_CONFIRM : Nat := 0x103
abbrev CONFIG_GENERATION : Nat := 0x104
abbrev SHELF_ID : Nat := 0x105
abbrev ID_MISMATCH : Nat := 0x106
abbrev SHELF_ID_FOUND : Nat := 0x107
abbrev SEQ_STATE : Nat := 0x140
abbrev SEQ_PHASE : Nat := 0x141
abbrev COG_ENABLE : Nat := 0x142
abbrev COG_DOWN_GROUP : Nat := 0x143
abbrev COG_STATUS : Nat := 0x144
abbrev COG_STEPS : Nat := 0x145
abbrev COG_HOLD_MAX : Nat := 0x146
abbrev COG_STALL_TIME : Nat := 0x147
abbrev COG_JOIN_TIMEOUT : Nat := 0x148
abbrev STEP_MIN : Nat := 0x149
abbrev PFW_TIME : Nat := 0x14A
abbrev PB_LONG_TIME : Nat := 0x14B
abbrev PB_EVENTS : Nat := 0x14C
abbrev SHUTDOWN_CAUSE : Nat := 0x14D
end Shelf

namespace Device
abbrev UHLES_STATUS : Nat := 0x100
abbrev LINK_LOSS_COUNT : Nat := 0x101
abbrev L3_RESTART_COUNT : Nat := 0x102
abbrev L3_RESTART_CAUSE : Nat := 0x103
abbrev CONFIGURATION : Nat := 0x104
abbrev LANE_STATUS : Nat := 0x110
abbrev ENGINE_DEMAND : Nat := 0x111
abbrev ENGINE_CAPACITY : Nat := 0x112
abbrev RESIDUE_ERRORS : Nat := 0x113
abbrev LATE_EVALS : Nat := 0x114
abbrev MAX_LATENCY : Nat := 0x115
abbrev SYNC_ENABLE : Nat := 0x120
abbrev SYNC_NOMINAL : Nat := 0x121
abbrev SYNC_STATUS : Nat := 0x122
abbrev SYNC_FREQ : Nat := 0x123
abbrev SYNCOUT_ENABLE : Nat := 0x124
abbrev SYNCOUT_ANGLE : Nat := 0x125
abbrev SYNC_LOSS_COUNT : Nat := 0x126
abbrev FLUME_AMP_MAX : Nat := 0x130
abbrev FLUME_STATE : Nat := 0x131
abbrev FLUME_TARGET : Nat := 0x132
abbrev FLUME_STOP_CAUSE : Nat := 0x133
abbrev TAILRACE_STATE : Nat := 0x134
abbrev TAILRACE_CAPTURE_ID : Nat := 0x135
abbrev TAILRACE_TRIG_TICK : Nat := 0x136
abbrev TAILRACE_DEPTH : Nat := 0x137
abbrev DEVICE_MODE : Nat := 0x140
abbrev MODE_REQUEST : Nat := 0x141
abbrev FLOAT_ENABLE : Nat := 0x142
abbrev FLOAT_ENTRY_TIME : Nat := 0x143
abbrev FLOAT_LOAD_MAX : Nat := 0x144
abbrev FLOAT_BLOCK : Nat := 0x145
abbrev WATCH_AFTER_BRAKE : Nat := 0x146
abbrev WATCH_IDLE_TIME : Nat := 0x147
abbrev WAKE_CAUSE : Nat := 0x148
abbrev WATCH_STR_LOW : Nat := 0x149
abbrev WATCH_BUS_HIGH : Nat := 0x14A
abbrev VAUX12_NOW : Nat := 0x14B
abbrev VHOLD_NOW : Nat := 0x14C
abbrev CHOLD_RATED : Nat := 0x14D
abbrev CHOLD_MEASURED : Nat := 0x14E
abbrev CHOLD_TEST_TICK : Nat := 0x14F
abbrev HOLD_STATUS : Nat := 0x150
abbrev SAVE_COUNT : Nat := 0x151
abbrev LAST_SAVE_TIME : Nat := 0x152
abbrev LAST_SAVE_BYTES : Nat := 0x153
abbrev NVM_WRITE_COUNT : Nat := 0x154
abbrev TORN_RECORDS : Nat := 0x155
abbrev SAG_EVENTS : Nat := 0x156
abbrev CLOCK_STATUS : Nat := 0x160
abbrev TICK_NOW : Nat := 0x161
abbrev WALL_NOW : Nat := 0x162
abbrev WALL_OFFSET : Nat := 0x163
abbrev TICK_SOURCE : Nat := 0x164
abbrev TIME_SET_COUNT : Nat := 0x165
abbrev WAKE_TIMER_PERIOD : Nat := 0x166
abbrev XT25_FAIL_COUNT : Nat := 0x167
abbrev XT32_FAIL_COUNT : Nat := 0x168
abbrev TICK_CEILING : Nat := 0x169
end Device

namespace Segment
abbrev GAIN_FACTORY : Nat := 0x800
abbrev OFFSET_FACTORY : Nat := 0x801
abbrev GAIN_USER : Nat := 0x802
abbrev OFFSET_USER : Nat := 0x803
abbrev GAIN_TRACK : Nat := 0x804
abbrev OFFSET_TRACK : Nat := 0x805
abbrev CAL_GENERATION : Nat := 0x807
abbrev V_FAST : Nat := 0x180
abbrev V_METER : Nat := 0x181
abbrev I_SUM : Nat := 0x182
abbrev E_OUT : Nat := 0x183
abbrev SENSE_STATUS : Nat := 0x18F
abbrev SEG_UV : Nat := 0x100
abbrev SEG_OV : Nat := 0x101
abbrev SOFTSTART_TIME : Nat := 0x102
abbrev HICCUP_ATTEMPTS : Nat := 0x103
abbrev HICCUP_TOTAL : Nat := 0x104
abbrev P_IN : Nat := 0x120
abbrev P_SERVED : Nat := 0x121
abbrev P_CLASS0 : Nat := 0x122
abbrev E_STR : Nat := 0x123
abbrev INPUT_LOST : Nat := 0x124
abbrev CONTINGENCY_MASK : Nat := 0x125
abbrev CONTINGENCY_OK : Nat := 0x126
abbrev DOWN_STATE : Nat := 0x130
end Segment

namespace Loop
abbrev ACTIVE_BANK : Nat := 0x100
abbrev LOAD_GEN_0 : Nat := 0x101
abbrev LOAD_GEN_1 : Nat := 0x102
abbrev LOAD_GEN_FLOAT : Nat := 0x103
abbrev SAMPLE_COUNT : Nat := 0x104
abbrev LAST_SWAP_SAMPLE : Nat := 0x105
abbrev LOOP_REF : Nat := 0x106
abbrev LOOP_MEAS : Nat := 0x107
abbrev LOOP_OUT : Nat := 0x108
abbrev LOOP_STATUS : Nat := 0x109
abbrev RATE_DIV : Nat := 0x10A
abbrev MEAS_OBJECT : Nat := 0x10B
abbrev SETPOINT_NOW : Nat := 0x10C
abbrev N_NOM : Nat := 0x10D
abbrev PHASE_MASK : Nat := 0x10E
abbrev N_ACT : Nat := 0x10F
abbrev SETPOINT_TARGET : Nat := 0x110
abbrev SLEW_RATE : Nat := 0x111
abbrev REEF_ENABLE : Nat := 0x112
abbrev REEF_MIN_PHASES : Nat := 0x113
abbrev REEF_SHED_FRAC : Nat := 0x114
abbrev REEF_ADD_FRAC : Nat := 0x115
abbrev REEF_DWELL : Nat := 0x116
abbrev REEF_STEPS : Nat := 0x117
end Loop

namespace Phase
abbrev GAIN_FACTORY : Nat := 0x800
abbrev OFFSET_FACTORY : Nat := 0x801
abbrev GAIN_USER : Nat := 0x802
abbrev OFFSET_USER : Nat := 0x803
abbrev GAIN_TRACK : Nat := 0x804
abbrev OFFSET_TRACK : Nat := 0x805
abbrev SENSE_RNOM : Nat := 0x806
abbrev CAL_GENERATION : Nat := 0x807
abbrev I_FAST : Nat := 0x180
abbrev ISENSE_RANGE : Nat := 0x181
abbrev SENSE_STATUS : Nat := 0x18F
abbrev ACTIVE_BANK : Nat := 0x100
abbrev LOAD_GEN_0 : Nat := 0x101
abbrev LOAD_GEN_1 : Nat := 0x102
abbrev LOAD_GEN_FLOAT : Nat := 0x103
abbrev SAMPLE_COUNT : Nat := 0x104
abbrev LAST_SWAP_SAMPLE : Nat := 0x105
abbrev LOOP_REF : Nat := 0x106
abbrev LOOP_MEAS : Nat := 0x107
abbrev LOOP_OUT : Nat := 0x108
abbrev LOOP_STATUS : Nat := 0x109
abbrev OUTER_SOURCE : Nat := 0x10A
abbrev I_REF_FIXED : Nat := 0x10B
abbrev FS_CURRENT : Nat := 0x10C
abbrev F_PWM : Nat := 0x110
abbrev PERIOD_ACTUAL : Nat := 0x111
abbrev DT_RISE : Nat := 0x112
abbrev DT_FALL : Nat := 0x113
abbrev D_MIN : Nat := 0x114
abbrev D_MAX : Nat := 0x115
abbrev I_LIMIT : Nat := 0x116
abbrev I_RATED : Nat := 0x117
abbrev P_RATED : Nat := 0x118
abbrev SHARE_WEIGHT : Nat := 0x119
abbrev SAMPLE_MODE : Nat := 0x11A
abbrev SAMPLE_OFFSET : Nat := 0x11B
abbrev ANGLE_NOW : Nat := 0x11C
abbrev PHASE_STATUS : Nat := 0x11D
abbrev FAIL_COUNT : Nat := 0x11E
end Phase

namespace Feeder
abbrev GAIN_FACTORY : Nat := 0x800
abbrev OFFSET_FACTORY : Nat := 0x801
abbrev GAIN_USER : Nat := 0x802
abbrev OFFSET_USER : Nat := 0x803
abbrev GAIN_TRACK : Nat := 0x804
abbrev OFFSET_TRACK : Nat := 0x805
abbrev SENSE_RNOM : Nat := 0x806
abbrev CAL_GENERATION : Nat := 0x807
abbrev I_FAST : Nat := 0x180
abbrev I_METER : Nat := 0x181
abbrev P_METER : Nat := 0x182
abbrev E_OUT : Nat := 0x183
abbrev E_BACKFEED : Nat := 0x184
abbrev SENSE_STATUS : Nat := 0x18F
abbrev SEGMENT : Nat := 0x100
abbrev FEEDER_STATUS : Nat := 0x101
abbrev I_LIMIT : Nat := 0x102
abbrev I_LIMIT_START : Nat := 0x103
abbrev FAULT_TIME : Nat := 0x104
abbrev START_FAULT_TIME : Nat := 0x105
abbrev START_TIMEOUT : Nat := 0x106
abbrev GATE_CURRENT : Nat := 0x107
abbrev SOA_BUDGET : Nat := 0x108
abbrev SOA_LEAK_SHIFT : Nat := 0x109
abbrev SOA_ACC : Nat := 0x10A
abbrev PG_VDS : Nat := 0x10B
abbrev INSERT_DELAY : Nat := 0x10C
abbrev UV_WINDOW : Nat := 0x10D
abbrev OV_WINDOW : Nat := 0x10E
abbrev OV_QUALIFY : Nat := 0x10F
abbrev WEIR_THRESH : Nat := 0x110
abbrev WEIR_THRESH_I : Nat := 0x111
abbrev WEIR_PROOF_STATUS : Nat := 0x112
abbrev WEIR_BOTH_FAIL : Nat := 0x113
abbrev WEIR_DELAY_A : Nat := 0x114
abbrev WEIR_DELAY_B : Nat := 0x115
abbrev IT_ENABLE : Nat := 0x116
abbrev IT_COOL_TIME : Nat := 0x117
abbrev IT_LEVEL : Nat := 0x118
abbrev TRIP_TOTAL : Nat := 0x119
abbrev PG_DROPS : Nat := 0x11A
abbrev SEAT_EVENTS : Nat := 0x11B
/-- First of the indexed IT_I_n. -/
abbrev IT_I : Nat := 0x120
/-- First of the indexed IT_T_n. -/
abbrev IT_T : Nat := 0x121
abbrev IT_APPLY : Nat := 0x130
abbrev IT_GEN : Nat := 0x131
abbrev P_DECLARED : Nat := 0x150
abbrev P_DEMAND : Nat := 0x151
abbrev DOWN_STATE : Nat := 0x160
end Feeder

namespace Module
abbrev MOD_STATUS : Nat := 0x100
abbrev V_MOD : Nat := 0x101
abbrev T_MOD : Nat := 0x102
abbrev SOC : Nat := 0x103
abbrev SOH : Nat := 0x104
abbrev MODEL_ID : Nat := 0x105
abbrev SERIAL : Nat := 0x106
abbrev AUTH_RESULT : Nat := 0x107
abbrev AUTH_TICK : Nat := 0x108
abbrev CAPACITY : Nat := 0x109
abbrev R_SER : Nat := 0x10A
abbrev RC1_RES : Nat := 0x10B
abbrev TAU1 : Nat := 0x10C
abbrev RC2_RES : Nat := 0x10D
abbrev TAU2 : Nat := 0x10E
abbrev OCV_OFFSET : Nat := 0x10F
abbrev LEARN_TICK : Nat := 0x110
abbrev POLL_ERRORS : Nat := 0x111
abbrev LEARN_SOURCE : Nat := 0x112
end Module

namespace String
abbrev GAIN_FACTORY : Nat := 0x800
abbrev OFFSET_FACTORY : Nat := 0x801
abbrev GAIN_USER : Nat := 0x802
abbrev OFFSET_USER : Nat := 0x803
abbrev GAIN_TRACK : Nat := 0x804
abbrev OFFSET_TRACK : Nat := 0x805
abbrev SENSE_RNOM : Nat := 0x806
abbrev CAL_GENERATION : Nat := 0x807
abbrev I_FAST : Nat := 0x180
abbrev I_METER : Nat := 0x181
abbrev V_METER : Nat := 0x182
abbrev E_CHARGE : Nat := 0x183
abbrev E_DISCHARGE : Nat := 0x184
abbrev Q_NET : Nat := 0x185
abbrev SENSE_STATUS : Nat := 0x18F
abbrev SEGMENT : Nat := 0x100
abbrev STRING_STATUS : Nat := 0x101
abbrev MODULE_COUNT : Nat := 0x102
abbrev TRUST : Nat := 0x103
abbrev SOC : Nat := 0x104
abbrev SOC_V : Nat := 0x105
abbrev SOC_Q : Nat := 0x106
abbrev SOH : Nat := 0x107
abbrev E_AVAIL : Nat := 0x108
abbrev MODEL_MODE : Nat := 0x109
abbrev CHG_I_MAX : Nat := 0x10A
abbrev FLOAT_I_LIMIT : Nat := 0x10B
abbrev CHARGE_GRANT : Nat := 0x10C
abbrev CHARGE_LIMIT_APPLIED : Nat := 0x10D
abbrev CHARGE_P_MAX : Nat := 0x10E
abbrev CONNECT_I_LIMIT : Nat := 0x10F
abbrev CONNECT_TIMEOUT : Nat := 0x110
abbrev SGATE_CURRENT : Nat := 0x111
abbrev STR_LVD : Nat := 0x112
abbrev LVD_RECONNECT : Nat := 0x113
abbrev WEIR_THRESH : Nat := 0x114
abbrev WEIR_PROOF_STATUS : Nat := 0x115
abbrev WEIR_DELAY_A : Nat := 0x116
abbrev WEIR_DELAY_B : Nat := 0x117
abbrev EOD_WARN : Nat := 0x118
abbrev DISAGREE_THRESH : Nat := 0x119
abbrev DISAGREE_TIME : Nat := 0x11A
abbrev DSG_DETECT : Nat := 0x11B
abbrev FULL_I : Nat := 0x11C
abbrev CHG_T_MIN : Nat := 0x11D
abbrev CHG_T_MAX : Nat := 0x11E
abbrev LEARN_WRITE_GEN : Nat := 0x11F
abbrev TRIP_TOTAL : Nat := 0x120
abbrev MODEL_ID : Nat := 0x140
/-- First of the indexed OCV_n. -/
abbrev OCV : Nat := 0x141
abbrev OCV_TC : Nat := 0x14C
abbrev CAP_DEFAULT : Nat := 0x14D
abbrev R_SER_DEFAULT : Nat := 0x14E
abbrev RC1_RES_DEFAULT : Nat := 0x14F
abbrev TAU1_DEFAULT : Nat := 0x150
abbrev RC2_RES_DEFAULT : Nat := 0x151
abbrev TAU2_DEFAULT : Nat := 0x152
abbrev MOD_LVD : Nat := 0x153
abbrev MOD_OV : Nat := 0x154
abbrev DOWN_STATE : Nat := 0x160
end String

namespace Rail
abbrev RAIL_STATUS : Nat := 0x100
abbrev UP_STATE : Nat := 0x101
abbrev DOWN_STATE : Nat := 0x102
abbrev ON_DELAY : Nat := 0x103
abbrev QUALIFY_TIME : Nat := 0x104
abbrev PG_TIMEOUT : Nat := 0x105
abbrev DISCHARGE_THRESH : Nat := 0x106
abbrev DISCHARGE_TIMEOUT : Nat := 0x107
abbrev FAULT_FILTER : Nat := 0x108
abbrev CHATTER_COUNT : Nat := 0x109
abbrev SENSE_MODE : Nat := 0x10A
abbrev PG_THRESH : Nat := 0x10B
abbrev RAIL_POL : Nat := 0x10C
abbrev LAST_UP_TIME : Nat := 0x10D
abbrev LAST_DOWN_TIME : Nat := 0x10E
end Rail

namespace Pol
abbrev POL_ADDR : Nat := 0x100
abbrev POL_PEC : Nat := 0x101
abbrev POL_STATUS_WORD : Nat := 0x102
abbrev VOUT : Nat := 0x103
abbrev IOUT : Nat := 0x104
abbrev TEMP : Nat := 0x105
abbrev VOUT_EXP : Nat := 0x106
abbrev PMBUS_REV : Nat := 0x107
abbrev POL_ERRORS : Nat := 0x108
end Pol

namespace Thermal
abbrev T_NOW : Nat := 0x100
abbrev T_RISE : Nat := 0x101
abbrev ZONE : Nat := 0x102
abbrev T_WARN : Nat := 0x103
abbrev T_CRIT : Nat := 0x104
abbrev RISE_WARN : Nat := 0x105
abbrev RISE_CRIT : Nat := 0x106
abbrev T_MAX_SEEN : Nat := 0x107
abbrev THERM_STATUS : Nat := 0x108
abbrev TRIM_OFFSET : Nat := 0x800
abbrev TRIM_GAIN : Nat := 0x801
end Thermal

namespace Sat
abbrev SAT_HW_ID : Nat := 0x100
abbrev SAT_IMAGE_VER : Nat := 0x101
abbrev SAT_RESULT : Nat := 0x102
abbrev SAT_LOADS : Nat := 0x103
end Sat

namespace Timer
abbrev PRESCALE : Nat := 0x100
abbrev COUNT : Nat := 0x101
abbrev HIGH_SHADOW : Nat := 0x102
abbrev COMPARE : Nat := 0x103
abbrev TM_MODE : Nat := 0x104
abbrev OUT_MODE : Nat := 0x105
abbrev LINK : Nat := 0x106
abbrev FREEZE_ON_HALT : Nat := 0x107
abbrev CAPTURE : Nat := 0x108
abbrev TM_STATUS : Nat := 0x109
abbrev MATCH_ALERT : Nat := 0x10A
abbrev CAP_OVF_COUNT : Nat := 0x10B
end Timer

namespace HPort
abbrev HOPPER_IN_FLIGHT : Nat := 0x180
abbrev OPS_COMPLETED : Nat := 0x181
abbrev VIOLATION_COUNT : Nat := 0x182
abbrev VIOLATIONS_1S : Nat := 0x183
abbrev CAUTIOUS : Nat := 0x184
abbrev CAUTIOUS_ACK : Nat := 0x185
abbrev LAST_VIOLATION : Nat := 0x186
abbrev REJECT_DROPPED : Nat := 0x187
abbrev PRIMARY_ADDR : Nat := 0x100
abbrev ADDR_MODE : Nat := 0x101
/-- First of the indexed EXTRA_ADDR_n. -/
abbrev EXTRA_ADDR : Nat := 0x102
abbrev MASK_BASE : Nat := 0x105
abbrev ADDR_MASK : Nat := 0x106
abbrev PEC_MODE : Nat := 0x107
abbrev TIMEOUT_ENABLE : Nat := 0x108
abbrev ALERT_MASK : Nat := 0x109
abbrev TIMEOUTS : Nat := 0x10A
abbrev PEC_ERRORS : Nat := 0x10B
abbrev ARA_WINS : Nat := 0x10C
abbrev WAKE_STRETCH_MAX : Nat := 0x10D
abbrev BYTES_DISCARDED : Nat := 0x10E
abbrev SPEED_SEEN : Nat := 0x10F
end HPort

namespace Down
abbrev DS_STATE : Nat := 0x100
abbrev DS_SPEED : Nat := 0x101
abbrev DS_STATUS : Nat := 0x102
abbrev FRAMES : Nat := 0x103
abbrev FRAME_ERRORS : Nat := 0x104
abbrev ARB_LOST_COUNT : Nat := 0x105
abbrev LAST_ARB : Nat := 0x106
abbrev RECOVERIES : Nat := 0x107
end Down

namespace Grist
abbrev GRIST_STATUS : Nat := 0x100
abbrev NEWEST_GEN : Nat := 0x101
abbrev OLDEST_GEN : Nat := 0x102
abbrev MIRRORED_GEN : Nat := 0x103
abbrev FIRST_BASE_GEN : Nat := 0x104
abbrev FIRST_COUNT : Nat := 0x105
abbrev CLEAR_COUNT : Nat := 0x106
abbrev LOST_RECORDS : Nat := 0x107
abbrev SUPPRESSED : Nat := 0x108
abbrev LAST_CLEAR_TICK : Nat := 0x109
/-- First of the indexed TRIGGER_FIRES_n. -/
abbrev TRIGGER_FIRES : Nat := 0x110
end Grist

namespace Dresser
abbrev DRESSER_STATUS : Nat := 0x100
abbrev LANE_TEST_INTERVAL : Nat := 0x101
abbrev LOGIC_TEST_INTERVAL : Nat := 0x102
abbrev SLICES_DONE : Nat := 0x103
abbrev LANE_TESTS : Nat := 0x104
abbrev LAST_TEST_ID : Nat := 0x105
/-- First of the indexed PASS_TICK_n. -/
abbrev PASS_TICK : Nat := 0x108
/-- First of the indexed CORR_COUNT_n. -/
abbrev CORR_COUNT : Nat := 0x110
/-- First of the indexed UNCORR_COUNT_n. -/
abbrev UNCORR_COUNT : Nat := 0x118
/-- First of the indexed SPARES_USED_n. -/
abbrev SPARES_USED : Nat := 0x120
/-- First of the indexed LAST_ERROR_n. -/
abbrev LAST_ERROR : Nat := 0x128
end Dresser

namespace Updater
abbrev UPD_STATE : Nat := 0x100
abbrev SESSION_ID : Nat := 0x101
abbrev BYTES_RECEIVED : Nat := 0x102
abbrev BANK_A_STATE : Nat := 0x103
abbrev BANK_B_STATE : Nat := 0x104
abbrev RUNNING_BANK : Nat := 0x105
abbrev STAGED_VERSION : Nat := 0x106
abbrev SCHED_MODE : Nat := 0x107
abbrev SCHED_COG_STATE : Nat := 0x108
abbrev SCHED_WALL : Nat := 0x109
abbrev TRIAL_FAILS : Nat := 0x10A
abbrev CHECKIN_LEFT : Nat := 0x10B
abbrev LAST_UPD_RESULT : Nat := 0x10C
end Updater

namespace LifeCycle
abbrev LC_STATE : Nat := 0x100
abbrev DEBUG_STATE : Nat := 0x101
abbrev KEY_STATUS : Nat := 0x102
abbrev ROLLBACK_FLOOR : Nat := 0x103
end LifeCycle

namespace Fantail
abbrev TICK_COUNT : Nat := 0x100
abbrev FANTAIL_STATUS : Nat := 0x101
abbrev RESERVE_TIME : Nat := 0x102
abbrev STORED_CLASS_MAX : Nat := 0x103
abbrev DERATE_MIN : Nat := 0x104
abbrev RISE_DERATE : Nat := 0x105
abbrev NVM_DEFER_LIMIT : Nat := 0x106
abbrev ACT_DEFER_LIMIT : Nat := 0x107
abbrev E_STORED : Nat := 0x108
abbrev E_MILLPOND : Nat := 0x109
abbrev ZONE_STATE : Nat := 0x10A
abbrev OVERRUN_COUNT : Nat := 0x10B
/-- CLASS_DEFER_LIMIT_c is at this plus c (c from 1 to 7). -/
abbrev CLASS_DEFER_LIMIT : Nat := 0x110
/-- First of the indexed ZONE_PHASE_MASK_n. -/
abbrev ZONE_PHASE_MASK : Nat := 0x118
end Fantail

end Sys2Proof.Machine.Pid
end

