-- ==== Sys2Proof/Machine/Objects.lean ====
section
/-! DEFINITION. The object map (R4, R22, Table 1-4), the common parameters (R23, Table 1-5) and the
parameter table of each object. -/

namespace Sys2Proof.Machine

/-- Object IDs (Tables 0-5 and 1-4). -/
abbrev oShelf : Nat := 0x00
abbrev oDevice : Nat := 0x01
abbrev oSeg (b : Nat) : Nat := 0x04 + b
abbrev oOuter (m : Nat) : Nat := 0x08 + m
abbrev oPhase (p : Nat) : Nat := 0x10 + p
abbrev oFeeder (f : Nat) : Nat := 0x30 + f
abbrev oModule (m : Nat) : Nat := 0x40 + m
abbrev oString (k : Nat) : Nat := 0x80 + k
abbrev oRail (v : Nat) : Nat := 0x90 + v
abbrev oPol (n : Nat) : Nat := 0xB0 + n
abbrev oTherm (t : Nat) : Nat := 0xD0 + t
abbrev oSat (n : Nat) : Nat := 0xE0 + n
abbrev oTimer (t : Nat) : Nat := 0xE8 + t
abbrev oDown (d : Nat) : Nat := 0xF2 + d
abbrev oGrist : Nat := 0xF8
abbrev oDresser : Nat := 0xF9
abbrev oUpdater : Nat := 0xFA
abbrev oLife : Nat := 0xFB
abbrev oFantail : Nat := 0xFC

/-- The object of a host port. -/
abbrev oPort : HostPort → Nat
  | .ha => 0xF0
  | .hb => 0xF1

/-- The loop numbered as LOOP_MASK numbers it (Table 3-6): P0 to P23, then LP0 to LP7. -/
abbrev oLoop (n : Nat) : Nat := if n < 24 then oPhase n else oOuter (n - 24)

/-- The types of object. -/
inductive ObjType where
  | shelf | device | segment | outerLoop | phase | feeder | module | string | rail | pol | thermal
  | satellite | timer | hostPort | downPort | grist | dresser | updater | lifecycle | fantail | reserved
  deriving DecidableEq, Repr, Inhabited

/-- The type of an object ID (Table 1-4). -/
def objType (o : Nat) : ObjType :=
  if o = 0x00 then .shelf
  else if o = 0x01 then .device
  else if o < 0x04 then .reserved
  else if o < 0x08 then .segment
  else if o < 0x10 then .outerLoop
  else if o < 0x28 then .phase
  else if o < 0x30 then .reserved
  else if o < 0x40 then .feeder
  else if o < 0x80 then .module
  else if o < 0x84 then .string
  else if o < 0x90 then .reserved
  else if o < 0xB0 then .rail
  else if o < 0xD0 then .pol
  else if o < 0xE0 then .thermal
  else if o < 0xE8 then .satellite
  else if o < 0xF0 then .timer
  else if o < 0xF2 then .hostPort
  else if o < 0xF6 then .downPort
  else if o < 0xF8 then .reserved
  else if o = 0xF8 then .grist
  else if o = 0xF9 then .dresser
  else if o = 0xFA then .updater
  else if o = 0xFB then .lifecycle
  else if o = 0xFC then .fantail
  else .reserved

/-- The OBJ_TYPE code (Table 1-4); 0xFF stands for none. -/
def objTypeCode : ObjType → Nat
  | .shelf => 0x00 | .device => 0x01 | .segment => 0x04 | .outerLoop => 0x08 | .phase => 0x10
  | .feeder => 0x30 | .module => 0x40 | .string => 0x80 | .rail => 0x90 | .pol => 0xB0
  | .thermal => 0xD0 | .satellite => 0xE0 | .timer => 0xE8 | .hostPort => 0xF0 | .downPort => 0xF2
  | .grist => 0xF8 | .dresser => 0xF9 | .updater => 0xFA | .lifecycle => 0xFB | .fantail => 0xFC
  | .reserved => 0xFF

/-- Is the object ID reserved (R22)? -/
def objReserved (o : Nat) : Bool := objType o == .reserved

/-- The objects of R26, which cannot be disabled. -/
def alwaysEnabled (o : Nat) : Bool :=
  match objType o with
  | .shelf | .device | .grist | .dresser | .updater | .lifecycle | .fantail => true
  | _ => false

/-- The Fantail consumers (Table 1-5): feeders and strings. -/
def isConsumer (o : Nat) : Bool :=
  match objType o with
  | .feeder | .string => true
  | _ => false

/-- OBJ_STATE values (Table 1-6). -/
abbrev osAbsent : Int := 0
abbrev osDisabled : Int := 1
abbrev osWaiting : Int := 2
abbrev osStarting : Int := 3
abbrev osActive : Int := 4
abbrev osDegraded : Int := 5
abbrev osLatched : Int := 6
abbrev osFailed : Int := 7
abbrev osSafeHold : Int := 8

/-- OBJ_STATE at reset (Table 1-5): DISABLED, or ABSENT where the counterpart is absent. Objects that
cannot be disabled, and thermal sensors, whose ENABLE resets to 1, are ACTIVE (log entry 10). -/
def objStateReset (o : Nat) : Int :=
  match objType o with
  | .module | .string | .pol | .satellite => osAbsent
  | .thermal => osActive
  | _ => if alwaysEnabled o then osActive else osDisabled

/-- ENABLE at reset (Table 1-5, R26, R237). -/
def enableReset (o : Nat) : Int :=
  match objType o with
  | .thermal => 1
  | _ => if alwaysEnabled o then 1 else 0

/-- The common parameters (R23, Table 1-5). -/
def commonDescs (o : Nat) : List Desc := [
  ⟨Pid.OBJ_TYPE, .u8, .ro, .any, 0, 255, objTypeCode (objType o), .reset⟩,
  ⟨Pid.OBJ_STATE, .u8, .ro, .any, 0, 8, objStateReset o, .reset⟩,
  ⟨Pid.FAULT_LATCH, .u32, .ro, .any, 0, 4294967295, 0, .reset⟩,
  ⟨Pid.SERVICE_STATUS, .u32, .ro, .any, 0, 4294967295, 0, .reset⟩,
  if isConsumer o then ⟨Pid.PRIORITY, .u8, .rw, .any, 0, 7, 7, .config⟩
  else ⟨Pid.PRIORITY, .u8, .ro, .any, 0, 255, 255, .reset⟩,
  ⟨Pid.SOURCE_SEQ, .u32, .ro, .any, 0, 4294967295, 0, .nvm⟩,
  if alwaysEnabled o || objType o == .module then
    ⟨Pid.ENABLE, .u8, .ro, .any, 0, 1, enableReset o, .reset⟩
  else ⟨Pid.ENABLE, .u8, .rw, .any, 0, 1, enableReset o, .config⟩]

/-- The parameters an object's type and kind implement beyond the common ones. -/
def typeDescs (o : Nat) : List Desc :=
  match objType o with
  | .shelf => shelfDescs
  | .device => deviceDescs
  | .segment => segmentDescs
  | .outerLoop => loopDescs
  | .phase => phaseDescs
  | .feeder => feederDescs
  | .module => moduleDescs
  | .string => stringDescs
  | .rail => if o < 0xA0 then railDirectDescs else railD2Descs o
  | .pol => polDescs
  | .thermal => if o < 0xDA then thermalCsdDescs else thermalPsdDescs
  | .satellite => satDescs
  | .timer => if o % 2 = 0 then timerEvenDescs else timerOddDescs
  | .hostPort => hportDescs
  | .downPort => if o = 0xF4 then dportD2Descs else dportDescs
  | .grist => gristDescs
  | .dresser => dresserDescs
  | .updater => updaterDescs
  | .lifecycle => lifecycleDescs
  | .fantail => fantailDescs
  | .reserved => []

/-- Every parameter an object implements. -/
def descsOf (o : Nat) : List Desc :=
  if objReserved o then [] else commonDescs o ++ typeDescs o

/-- The table row of a parameter, where the object implements it (R8). -/
def findDesc (o pid : Nat) : Option Desc := (descsOf o).find? fun d => d.pid == pid

/-- What a parameter holds at a first power-up before anything has written it: its Reset value. -/
def paramReset (o pid : Nat) : Int :=
  match findDesc o pid with
  | some d => d.reset
  | none => 0

/-- Every object ID that is not reserved. -/
def allObjects : List Nat := (List.range 256).filter fun o => !objReserved o

end Sys2Proof.Machine
end

