-- ==== Sys2Proof/Machine/TypesHost.lean ====
section
/-! DEFINITION. The state behind the parameters of Grist, Hopper and the host ports. -/

namespace Sys2Proof.Machine

/-- One value of a record's snapshot (R318): a given value, a given 64-bit value, or a parameter as it
reads when the record is created. -/
inductive Snap where
  | lit (v : Int)
  | lit64 (v : Int)
  | par (o pid : Nat)
  deriving DecidableEq, Repr, Inhabited

/-- A Grist record (Table 12-1); its CRC is computed when it is read. -/
structure Rec where
  source : Nat
  cls    : Nat
  event  : Nat
  late   : Bool
  first  : Bool
  seq    : Nat
  tick   : Nat
  wall   : Int
  gen    : Nat
  snap   : List Word
  deriving DecidableEq, Repr, Inhabited

/-- A record whose creation waits for the end of a level 3 restart or of a link loss (R319). -/
structure DeferredRec where
  source : Nat
  cls    : Nat
  event  : Nat
  snap   : List Snap
  psd    : Bool
  deriving DecidableEq, Repr, Inhabited

/-- A host trigger (Table 12-8) with its arming, its last watched value and the tick of its last firing. -/
structure Trigger where
  enable      : Bool
  obj         : Nat
  cond        : Nat
  param       : Nat
  threshold   : Int
  hyst        : Nat
  minInterval : Nat
  snaps       : List (Nat × Nat)
  armed       : Bool
  last        : Option Int
  lastFire    : Option Nat
  deriving DecidableEq, Repr, Inhabited

/-- The recorder. `circ` and `first` are newest first; `gap` is the gap base of an unclean start, `found` the highest
sequence number that start found of each source, and `resumed` the sources that have written since (R325). -/
structure GristState where
  nextGen      : Nat
  gap          : Option Nat
  found        : List (Nat × Nat)
  resumed      : List Nat
  circ         : List Rec
  first        : List Rec
  clearGen     : Nat
  nonce        : Option Bytes
  triggers     : Vector Trigger 16
  deferred     : List DeferredRec
  created      : List (Nat × Nat)
  held         : List (Nat × Nat)
  firstWritten : Nat
  mirrorLate   : Bool
  deriving DecidableEq, Repr

/-- How far an operation has come (Table 14-6). -/
inductive OpStage where
  | queued | running | committed | replied
  deriving DecidableEq, Repr, Inhabited

/-- An operation holding a Hopper entry, or its port's control entry (R353, R356). -/
structure Op where
  id      : Nat
  port    : HostPort
  tag     : Nat
  prio    : Nat
  opcode  : Nat
  payload : Bytes
  alert   : Bool
  stage   : OpStage
  tick    : Nat
  control : Bool
  aborted : Bool
  deriving DecidableEq, Repr, Inhabited

/-- A reply waiting to be read (R349); `op` is the operation that frees its entry, none for a rejection. -/
structure Reply where
  op      : Option Nat
  opcode  : Nat
  tagPrio : Nat
  reject  : Bool
  status  : Nat
  reason  : Nat
  payload : Bytes
  deriving DecidableEq, Repr, Inhabited

/-- Hopper: operations of both ports in the order accepted. -/
structure HopperState where
  ops    : List Op
  nextId : Nat
  deriving DecidableEq, Repr

/-- What a host port holds beyond its parameters. `waiting` are packets submitted during a level 3
restart; `readPos` the bytes of the oldest reply already consumed; `viol` the ticks of the violations of
the last second; `stretch` a wake stretch in progress; `driven` the bytes that the port returned on the bus in the last
read; `hit` which recognised address the last transaction used (ADDR_HIT, Table 15-2); `addrs` the address parameters in
force: ADDR_MODE, the three extra addresses, MASK_BASE and ADDR_MASK (R378). -/
structure HostPortAux where
  build         : Bytes
  written       : Nat
  waiting       : List (Bytes × Nat)
  replies       : List Reply
  readPos       : Nat
  pointer       : Byte
  spaceHigh     : Byte
  availHigh     : Byte
  fast          : Bytes
  alertCause    : Nat
  alertReleased : Bool
  viol          : List Nat
  stretch       : Bool
  driven        : Bytes
  hit           : Fin 4
  addrs         : List Int
  deriving DecidableEq, Repr

end Sys2Proof.Machine
end

