-- ==== Sys2Proof/Machine/TypesTime.lean ====
section
/-! DEFINITION. The state behind time, clocks, timers, supplies, device modes and non-volatile memory. -/

namespace Sys2Proof.Machine

/-- A running slew (R301): the offset it ends at, what its record will hold, and the tick from which its next step counts. -/
structure Slew where
  target  : Int
  oldWall : Int
  newWall : Int
  stepTick : Nat
  deriving DecidableEq, Repr, Inhabited

/-- The pair (T_L, A_L) held in AON retention with the wall offset (R296, R299). -/
structure TickLatch where
  tick   : Nat
  aon    : BitVec 48
  offset : Int
  watch  : Bool
  deriving DecidableEq, Repr, Inhabited

/-- Tick, wall clock and clock sources. `ceilingOffset` and `ceilingValid` are the tick journal's
WALL_OFFSET and WALL_VALID (R297, R299); `ceilingWritten` tells that a tick record has ever been written. -/
structure TimeState where
  tick           : Nat
  latch          : Option TickLatch
  slew           : Option Slew
  wallValid      : Bool
  wallSuspect    : Bool
  onAonRc        : Bool
  onRefRc        : Bool
  ceilingWritten : Bool
  ceilingOffset  : Int
  ceilingValid   : Bool
  halted         : Bool
  deriving DecidableEq, Repr

/-- What a timer holds beyond its parameters: the capture queue (oldest first), the staged high
compare half, the level it drives on its ball and the bus clocks that the prescaler has counted. -/
structure TimerAux where
  queue  : List Word
  staged : Option Word
  level  : Bool
  pulse  : Bool
  prePos : Nat
  deriving DecidableEq, Repr, Inhabited

/-- What the control side is doing (R267, R275, R282, R413). -/
inductive CsState where
  /-- Held in reset until CONTROL_SIDE_BOOT. -/
  | reset
  /-- The ROM runs its recovery. -/
  | rom
  /-- Firmware runs, in RUN or FLOAT, or awake in WATCH. -/
  | run
  /-- A critical save is being written. -/
  | saving
  /-- Save hold after the commit. -/
  | saved
  /-- Asleep in WATCH. -/
  | watch
  /-- VAON is absent. -/
  | off
  deriving DecidableEq, Repr, Inhabited

/-- Why the control side was last reset, as far as the next start tells causes apart. -/
inductive ResetCause where
  | powerUp | supply | forceOff | mrN | holdUp | fullTest
  deriving DecidableEq, Repr, Inhabited

/-- What a critical save holds, as the next start applies it (Table 10-5): `records` are the newest 70 records not
yet mirrored, newest first, `dropped` the older ones; `pages` how many pages had been programmed and `trailer`
whether the save was committed. -/
structure SaveImage where
  gen        : Nat
  trigger    : Nat
  shelf      : Int
  mode       : Int
  tick       : Nat
  wall       : Int
  aon        : BitVec 48
  seqState   : Int
  seqPhase   : Int
  cause      : Int
  fantail    : Nat
  counters   : List (Nat × Int)
  battery    : List (Nat × Int)
  records    : List Rec
  dropped    : Nat
  pages      : Nat
  trailer    : Bool
  bad        : List Nat
  deriving DecidableEq, Repr, Inhabited

/-- Supplies, the Millpond and the critical save. `millHistory` is the usable energy at the last 100 ticks, newest
first, as `milliExact` gives it; `cholds` a granted capacitance test; `saveGen` the generation of the last save;
`saveTick`, `saveWall` and `saveAon` are latched at its start; `retentionBad` are the retention contexts found bad since
they were written (R287), and `watchDue` an accepted MODE_REQUEST = WATCH whose entry waits for its writes (R285). -/
structure SupplyState where
  cs           : CsState
  cause        : ResetCause
  vauxGood     : Bool
  sag          : Bool
  rideThrough  : Bool
  saveArmed    : Bool
  vps12Ok      : Bool
  psdOk        : Bool
  saveTrigger  : Nat
  savePages    : Nat
  saveGen      : Nat
  saveTick     : Nat
  saveWall     : Int
  saveAon      : BitVec 48
  cholds       : Bool
  unproven     : Bool
  millHistory  : List Int
  floatExit    : Bool
  retentionBad : BitVec 4
  watchDue     : Bool
  deriving DecidableEq, Repr

end Sys2Proof.Machine
end

