-- ==== Sys2Proof/Machine/TypesNvm.lean ====
section
/-! DEFINITION. The state behind non-volatile memory, update, life cycle and Dresser. -/

namespace Sys2Proof.Machine

/-- The kinds of NVM write, in the order they are granted (R411, R297, R229). -/
inductive NvmKind where
  | checkin | tick | config | battery | counters | mirror | update
  deriving DecidableEq, Repr, Inhabited

/-- What a granted write does at its commit. -/
inductive NvmWork where
  /-- The tick journal record (R297). -/
  | tickRecord
  /-- The journal records of these objects (R280); `trigger` of the host triggers too. -/
  | configObjects (objs : List Nat)
  /-- A loop's active image (0) or FLOAT image (1), R78. -/
  | loopImage (loop which : Nat)
  /-- The host triggers (R329). -/
  | triggers
  /-- SHUTDOWN_CAUSE (R249). -/
  | shutdownCause
  /-- Tracking values of a channel (R46). -/
  | tracking (obj : Nat)
  /-- The battery journal records of these strings (R197, R203). -/
  | battery (strings : List Nat)
  /-- Every energy and charge counter (R54). -/
  | counters
  /-- Unmirrored records (R324), at most two pages. -/
  | gristMirror
  /-- First-area slots (R324). -/
  | gristFirst
  /-- The control record of a clear (R327). -/
  | gristClear
  /-- A repair entry: array and row (R338). -/
  | repair (arr row : Nat)
  /-- A rewrite of a corrected codeword (R333). -/
  | rewrite
  /-- One bundle block: offset and data (R405). -/
  | block (offset : Nat) (data : Bytes)
  /-- The STAGED bank state of a close (R406); GOOD in ROM recovery (R413). -/
  | staged
  /-- The bank state of a cancel (R407). -/
  | cancelBank
  /-- TRIAL and STAGED of an activation (R410). -/
  | activate
  /-- The GOOD bank state of a check-in (R411). -/
  | good
  /-- SAVE_APPLIED (R278). -/
  | saveApplied
  /-- The capacitance test, an NVM-kind item (R271). -/
  | choldTest
  deriving DecidableEq, Repr, Inhabited

/-- A requested NVM write: its kind and work, its pages, the operation that waits for it and when it was
requested. -/
structure NvmReq where
  kind  : NvmKind
  work  : NvmWork
  pages : Nat
  op    : Option Nat
  since : Nat
  deriving DecidableEq, Repr, Inhabited

/-- What one slot of a journaled record holds (R280): its GENERATION and the values of the record. -/
structure SlotData where
  gen    : Nat
  vals   : List (Nat × Int)
  images : List ((Nat × Nat) × Bytes)
  trigs  : Option (Vector Trigger 16)
  deriving DecidableEq, Repr

/-- A journaled record's pair of slots (R280). The slot written last is `place`, of GENERATION `gen`; what it holds is in
the journal lists of `NvmState`; `newest` tells that it is valid. `older` is the other slot, where it is valid. -/
structure JournalPair where
  record : Nat
  gen    : Nat
  place  : Nat
  newest : Bool
  older  : Option SlotData
  deriving DecidableEq, Repr

/-- Non-volatile memory: the queue, the running transaction with its pages left, and what the journals
hold. `config` keys are object × 4096 + parameter. `mram` holds the firmware banks and satellite images
as bytes; `torn` counts records found torn at the next boot; `written` is when each record was last written
(R280); `bad` lists the codewords found uncorrectable and not rewritten since (R334); `journal` the slot pairs of every
record that has been written; `unjournaled` the strings whose records of an applied save are not yet journaled (R278). -/
structure NvmState where
  queue        : List NvmReq
  active       : Option (NvmReq × Nat)
  config       : List (Nat × Int)
  images       : List ((Nat × Nat) × Bytes)
  counters     : List (Nat × Int)
  battery      : List (Nat × Int)
  triggers     : Vector Trigger 16
  mirror       : List Rec
  firstMirror  : List Rec
  clearGen     : Nat
  gapBase      : Nat
  cleanStop    : Bool
  saves        : List SaveImage
  saveApplied  : Nat
  torn         : Nat
  mram         : List Host.Cell
  written      : List (Nat × Nat)
  bad          : List Nat
  journal      : List JournalPair
  unjournaled  : List Nat
  deriving DecidableEq, Repr

/-- A satellite image that a close has put into a slot: half × 8 + satellite, HW_ID, length, version and whether
it is development-signed (R402, R414). -/
structure SatImage where
  slot    : Nat
  hwId    : Nat
  len     : Nat
  version : Nat
  dev     : Bool
  deriving DecidableEq, Repr, Inhabited

/-- Update: the open session, the units written, the close under way (`closing`), the due activation and the
operation that waits for its first decision, the satellite images closed, `checkin` the tick at which the check-in timer started, and the
satellites whose image is pending or whose second half is the active one. -/
structure UpdState where
  bundleLen    : Nat
  target       : Nat
  units        : List Nat
  headerOk     : Bool
  closing      : Option Nat
  due          : Bool
  dueAtCog     : Bool
  waiting      : Option Nat
  dueSince     : Nat
  resetDriven  : Bool
  checkin      : Option Nat
  checkinAsked : Bool
  trialReset   : Bool
  satPending   : Vector Bool 8
  satHalf      : Vector Bool 8
  satImages    : List SatImage
  romEntry     : Bool
  stagedOk     : Bool
  deriving DecidableEq, Repr

/-- The one-time-programmable memory: life-cycle state, keys (owner, then issuers 0 to 3), the rollback
floor, the repair entries (array and row, in the order written), the nonce of R417, and the copies of the life-cycle
word found uncorrectable (R420). -/
structure LifeState where
  keys     : Vector (Option Bytes) 5
  killed   : Bool
  repairs  : List (Nat × Nat)
  nonce    : Option Bytes
  badCopies : List Nat
  deriving DecidableEq, Repr

/-- One host self-test (Table 13-7). STATE: 0 QUEUED, 1 RUNNING, 2 PASS, 3 FAIL, 4 CANCELLED, 5 ABANDONED. -/
structure HostTest where
  id        : Nat
  kind      : Nat
  target    : Nat
  state     : Nat
  startTick : Nat
  endTick   : Nat
  units     : Nat
  fails     : Nat
  firstFail : Nat
  actual    : Nat
  failUnit  : Nat
  op        : Option Nat
  deriving DecidableEq, Repr, Inhabited

/-- An item that Dresser may be granted (R341). -/
inductive DresserItem where
  | lane (l : Nat)
  | logic (k : Nat)
  | slice (arr idx : Nat)
  deriving DecidableEq, Repr, Inhabited

/-- Dresser: host tests, the rotation, retests, hard faults and pending repairs. `corrected` lists
codewords corrected in the latest pass that read them; `retest` the first failure a retest compares; `fullHard` the codewords that a full test found failing,
whose repairs the boot after it queues. -/
structure DresserState where
  tests       : List HostTest
  granted     : Option DresserItem
  nextArr     : Nat
  nextIdx     : Vector Nat 3
  lastLane    : Nat
  nextLane    : Nat
  lastLogic   : Nat
  nextLogic   : Nat
  hard        : List (Nat × Nat)
  retest      : List ((Nat × Nat) × Nat)
  logicRetest : List Nat
  corrected   : List (Nat × Nat)
  hardWords   : List (Nat × Nat)
  repairs     : List (Nat × Nat)
  full        : Option HostTest
  fullHard    : List (Nat × Nat)
  fullPending : Bool
  deriving DecidableEq, Repr

/-- A satellite: whether it runs, whether a retry after 10 s is due, and the write frames of its last load (R415). -/
structure SatAux where
  running : Bool
  noReply : Bool
  sent    : List Bytes
  deriving DecidableEq, Repr, Inhabited

/-- A downstream port: losses in a row of the frame at hand, and whether the bus has been recovered since
the last reset (R393). -/
structure DownAux where
  losses    : Nat
  recovered : Bool
  sclLow    : Bool
  busStuck  : Bool
  deriving DecidableEq, Repr, Inhabited

/-- A point-of-load stage: the tick of its last failed transaction, whether its VOUT_MODE is not linear, and the last OPERATION
that it was sent since the control side started (R239, R396). -/
structure PolAux where
  lastFail : Option Nat
  badMode  : Bool
  sent     : List Bytes
  deriving DecidableEq, Repr, Inhabited

end Sys2Proof.Machine
end

