-- ==== Sys2Proof/Machine/TypesWheel.lean ====
section
/-! DEFINITION. The state behind sensing, Wheel, conversion, Flume and Tailrace. -/

namespace Sys2Proof.Machine

/-- A SAR channel. `value` is the latest sample in the channel's unit (the one held under SENSE_FAIL is
`good`); `codes` the latest phase codes with the duty commanded at each, newest first (STUCK); `sum`, `n`
the 1 ms interval at hand and `msum`, `mn`, `psum` the 1 s interval; `spoiltMs` and `spoilt` those
intervals touched by a link loss; `dirty` the latest tick at which R44 spoils a tracking window; `wsum` and `wn` gather
the samples of the metering window at hand, and `line` those of the last 375 µs with their ticks, newest first (R43). -/
structure Chan where
  value    : Int
  good     : Int
  codes    : List (Nat × Nat)
  rangeRun : Nat
  range    : Bool
  stuck    : Bool
  failRun  : Nat
  check    : Bool
  sum      : Int
  n        : Nat
  msum     : Int
  mn       : Nat
  psum     : Int
  ms       : Nat
  spoiltMs : Bool
  spoilt   : Bool
  frozen   : Bool
  dirty    : Option Nat
  wsum     : Int
  wn       : Nat
  line     : List (Nat × Int)
  deriving DecidableEq, Repr, Inhabited

/-- The remainders of the energy and charge accumulators of one channel (R52). -/
structure Accum where
  pos : Nat
  neg : Nat
  q   : Int
  deriving DecidableEq, Repr, Inhabited

/-- A control loop: its two engine banks and the FLOAT image (none is empty), whether a bank holds an uncorrectable word (R89), its histories (Q2.30 and
Q6.58), what the next evaluation applies first, and its live flags. `limNs` is for how long OUT_HIGH, OUT_LOW
or CASCADE_HOLD has been live at every evaluation (none when the last one had none live); `nAct` the N_ACT
that distribution uses; `rem` the set-point's remainder; `slow` that the loop runs at the FLOAT rate; `uvNs` how long UNDERVOLT has
held at its triggers (R111); `removed` that a phase of the loop has been removed in the present Fantail tick (R127);
`refUsed` to `inj` are the nodes of the last evaluation that Table 5-6 names. -/
structure LoopAux where
  bank0     : Option Bytes
  bank1     : Option Bytes
  float     : Option Bytes
  bad0      : Bool
  bad1      : Bool
  u1        : Int
  u2        : Int
  u3        : Int
  e1        : Int
  e2        : Int
  e3        : Int
  ui        : Int
  ud        : Int
  newBank   : Bool
  preload   : Option Int
  outHigh   : Bool
  outLow    : Bool
  intClamp  : Bool
  hold      : Bool
  limNs     : Option Nat
  nAct      : Nat
  rem       : Nat
  slow      : Bool
  running   : Bool
  slewOp    : Option Nat
  slewing   : Bool
  reefTick  : Nat
  returnTo  : Option Nat
  refUsed   : Int
  measUsed  : Int
  err       : Int
  outInj    : Int
  inj       : Int
  uvNs      : Option Nat
  removed   : Bool
  deriving DecidableEq, Repr, Inhabited

/-- How a phase waits to start at a boundary (R109, R110). -/
inductive StartKind where
  | soft | reef
  deriving DecidableEq, Repr, Inhabited

/-- A phase. `shadow` and `duty` are the edge generator's shadow and applied duty (Q0.32); `ref` the
distributed reference (Q2.30); `wait` a start and `shed` a stop put off to the next boundary; `notice` that Wheel
has removed it and Miller has not yet marked it unhealthy (R120); `replaced` that a self-check has taken the sample of
the present period (R57); `oldFreq` the carrier still in force after a write of F_PWM to a switching phase (R127); `period` the
length in fine ticks of the period in progress (R95); `request` the sample request of the last period, in fine ticks from its
start (R99); `share` and `limit` the SHARE_WEIGHT and the normalised I_LIMIT taken at the loop's last outer evaluation (R108). -/
structure PhaseAux where
  switching : Bool
  reefed    : Bool
  laneCap   : Bool
  softStart : Bool
  softEnd   : Bool
  wait      : Option StartKind
  shed      : Bool
  shadow    : Nat
  duty      : Nat
  ref       : Int
  clipped   : Bool
  clipNs    : Option Nat
  clipRun   : Nat
  periods   : Nat
  replaced  : Bool
  suspect   : Bool
  openRun   : Nat
  moving    : Bool
  oldFreq   : Option Nat
  floatRun  : Nat
  current   : Int
  notice    : Bool
  period    : Nat
  request   : Nat
  share     : Int
  limit     : Int
  chan      : Chan
  deriving DecidableEq, Repr, Inhabited

/-- A segment's converter. `fired` collects the triggers of the failed attempts (Table 12-3 bits); `offTime` the hiccup
off-time; `overTick` the tick of the latest bus sample above SEG_OV and `overHold` that the next attempt waits for 10 ms without
one (R115); `ramping` that the set-points have not all reached their targets; `activeTick` when the segment became ACTIVE. -/
structure SegAux where
  chan       : Chan
  fired      : Nat
  offTime    : Bool
  overTick   : Option Nat
  overHold   : Bool
  ramping    : Bool
  activeTick : Nat
  deriving DecidableEq, Repr, Inhabited

/-- A bank swap accepted or registered (R81 to R84). `left` are the named loops (LOOP_MASK numbering)
that have not swapped; `aligned` tells that the alignment point has passed; `op` is none for Wheel's own
swaps of FLOAT. -/
structure SwapJob where
  op         : Option Nat
  mask       : Nat
  mode       : Nat
  align      : Nat
  registered : Bool
  aligned    : Bool
  left       : List Nat
  deriving DecidableEq, Repr, Inhabited

/-- A COEF_BANK_LOAD accepted and not yet committed (R80). -/
structure LoadJob where
  op    : Option Nat
  loop  : Nat
  bank  : Nat
  image : Bytes
  deriving DecidableEq, Repr, Inhabited

/-- The engine and the metering converters: `dsStart` is the tick at which each delta-sigma converter switched to its present
channel, `dsSpoilt` that the link has been lost since (R42, R60); swaps and loads in flight, the tick of each lane's last residue error and whether it came
within 24 h of one before; SYNCIN's valid edges and missing edges in a row, and
the frequency `syncOf` of the group that follows SYNCIN or glides, its period in fine ticks (0 at the nominal one), the offset `pull` by which it is pulled in, and the
allowance gathered for its next step (R102, R103). -/
structure WheelState where
  swaps      : List SwapJob
  loads      : List LoadJob
  residue    : Vector (Option Nat) 4
  again      : Vector Bool 4
  syncEdges  : Nat
  syncMisses : Nat
  syncOf     : Nat
  syncPeriod : Nat
  pull       : Int
  glide      : Nat
  dsStart    : Vector Nat 4
  dsSpoilt   : Vector Bool 4
  deriving DecidableEq, Repr

/-- A running or ended injection (R128 to R136): the operation and its payload, the next sample, the sums,
the clip count, the PRBS register and its chip. -/
structure FlumeState where
  op       : Option Nat
  running  : Bool
  loop     : Nat
  payload  : Bytes
  k        : Nat
  aRe      : Int
  aIm      : Int
  bRe      : Int
  bIm      : Int
  clips    : Nat
  lfsr     : Nat
  chip     : Bool
  deriving DecidableEq, Repr

/-- One decimated sample set of a capture: the values of its channels. -/
abbrev TraceRow := List Int

/-- A capture (R138 to R141): its arming payload, the ring (newest first), the evaluations since the last
stored one, the last value of the trigger channel, how many rows are still to come after the trigger, the tick of the newest row, whether there was a trigger, an
injection started since the arming and its first measured sample, a fault seen on TRIG_OBJECT and whether
that object was LATCHED or FAILED. -/
structure TraceState where
  config    : Bytes
  rows      : List TraceRow
  decim     : Nat
  prev      : Option Int
  after     : Nat
  rowTick   : Nat
  hit       : Bool
  flumeNew  : Bool
  flumeSeen : Bool
  faultSeen : Bool
  objBad    : Bool
  deriving DecidableEq, Repr

end Sys2Proof.Machine
end

