-- ==== Sys2Proof/Machine/TypesPower.lean ====
section
/-! DEFINITION. The state behind feeders, strings and battery modules. -/

namespace Sys2Proof.Machine

/-- A comparator pair's proofs (R161 to R163): failures pending a repeat are in WEIR_PROOF_STATUS; here
the passes of a FAILED comparator in its frames and the latches of Weir. -/
structure WeirAux where
  passesA : Nat
  passesB : Nat
  latchA  : Bool
  latchB  : Bool
  proving : Option Bool
  deriving DecidableEq, Repr, Inhabited

/-- A feeder: seat counts (`seatHigh` stays at 20 while the seat is open), insertion delay, fault timer, SOA
and I–t accumulators, power-good, the active curve (current, time), and what Fantail commands. `cl1`, `cl2` are the current-regulation flags of the two ticks before;
`ovRun` the ticks above OV_WINDOW; `startRun` the ticks since the ramp began; `serve` and `shed` the
commands of Fantail's last publication; `condition` that it has run since it was seated, so that a shed
feeder keeps its request (R151); `downOwn` that DOWN_STATE has been written. -/
structure FeederAux where
  seatLow    : Nat
  seatHigh   : Nat
  seated     : Bool
  low        : Bool
  insertRun  : Nat
  windowOk   : Bool
  timer      : Nat
  soa        : Nat
  soaRun     : Bool
  cl         : Bool
  cl1        : Bool
  cl2        : Bool
  pg         : Bool
  vgsOk      : Bool
  vds        : Nat
  gate       : Bool
  ovRun      : Nat
  startRun   : Nat
  itLevel    : Nat
  itRun      : Bool
  curve      : List (Int × Nat)
  reseat     : Bool
  enableOff  : Bool
  condition  : Bool
  serve      : Bool
  shed       : Bool
  downOwn    : Bool
  weir       : WeirAux
  acc        : Accum
  chan       : Chan
  deriving DecidableEq, Repr, Inhabited

/-- A string: its switch machine, its voltage model and what Miller holds of it. `iSum` and `iN` gather
I_FAST over 100 ms; the `…Since` times are ticks; `zeroSince` tells since when no current has flowed;
`anchor` and `qAnchor` are the cross-check's; `dsgQ` is Q_NET at the entry to DISCHARGE, `dsgStart` the
state of charge there, `dsgSeen` that there was one since the last REST; `offsetDue` that OCV_OFFSET waits
for v_rest; `first` that the next update of the connected string is the first; `loaded` that 10 min above 0.05 C have passed,
`loadI` the last current of that load, `relaxStep` the updates since the last sample of RELAX (R195); `fullSeen` that an end of
full charge came since the last discharge, `wasDsg` that the record restored was written in DISCHARGE (Table 7-10). -/
structure StringAux where
  connected     : Bool
  starting      : Bool
  vgsOk         : Bool
  startRun      : Nat
  chgReg        : Bool
  enhanced      : Bool
  lvdOpen       : Bool
  learnDeferred : Bool
  chargeStop    : Bool
  stopOv        : Bool
  ovClearSince  : Option Nat
  disagree      : Bool
  eodWarn       : Bool
  iSum          : Int
  iN            : Nat
  iPrev         : Int
  lowSince      : Option Nat
  highSince     : Option Nat
  relaxSince    : Option Nat
  zeroSince     : Option Nat
  disagreeSince : Option Nat
  agreeSince    : Option Nat
  socStep       : Nat
  anchor        : Int
  qAnchor       : Int
  dsgQ          : Int
  dsgStart      : Int
  dsgSeen       : Bool
  fullSeen      : Bool
  wasDsg        : Bool
  fullTick      : Nat
  offsetDue     : Bool
  ovRun         : Nat
  first         : Bool
  loadSince     : Option Nat
  loaded        : Bool
  loadI         : Int
  relaxStep     : Nat
  enableOff     : Bool
  weir          : WeirAux
  acc           : Accum
  chan          : Chan
  deriving DecidableEq, Repr, Inhabited

/-- A module: what the poll keeps, the model's RC voltages (in 10 µV / 128 000 000), a due authentication and the one under
way, the serial number of its journal record, and V_MOD at each second of RELAX, newest first (R195). -/
structure ModuleAux where
  lastSeq    : Option Nat
  failRun    : Nat
  commLost   : Bool
  lostSince  : Nat
  lvdRun     : Nat
  identified : Bool
  authDue    : Bool
  authing    : Bool
  nonce      : Option Bytes
  cert       : Bytes
  vrc1       : Int
  vrc2       : Int
  vPrev      : Int
  vRest      : Option Int
  changed    : Bool
  recSerial  : Option Nat
  idNeeded   : Bool
  tempOut    : Bool
  stale      : Bool
  relax      : List Int
  deriving DecidableEq, Repr, Inhabited

/-- A BATT_AUTH in progress: the operation, its mask and the modules without a result. -/
structure AuthJob where
  op   : Nat
  mask : Nat
  left : List Nat
  deriving DecidableEq, Repr, Inhabited

end Sys2Proof.Machine
end

