-- ==== Sys2Proof/Machine/TypesShelf.lean ====
section
/-! DEFINITION. The state behind the shelf state, the sequencer, rails, COG, Fantail and heat. -/

namespace Sys2Proof.Machine

/-- A rail: EN, PG as read, on-delay, qualification and discharge (R239 to R248). `downOff`: its turning off is the work of a down
state, so that DISCHARGE_TIMEOUT applies to it (R248). -/
structure RailAux where
  en          : Bool
  pg          : Bool
  delaying    : Bool
  qualifying  : Bool
  good        : Bool
  timedOut    : Bool
  faulted     : Bool
  discharging : Bool
  stuck       : Bool
  downOff     : Bool
  onTick      : Nat
  offTick     : Nat
  deriving DecidableEq, Repr, Inhabited

/-- What the sequencer is doing (R242, R247, R261). -/
inductive Walk where
  | none | up | down | manual
  deriving DecidableEq, Repr, Inhabited

/-- The pulse a unit is driving on COG (R253). -/
inductive CogPulse where
  | none | request | reset
  deriving DecidableEq, Repr, Inhabited

/-- The sequencer, Brake and COG. `brake` is the first Brake cause since the last entry to STARTUP and
`brakeTick` its tick; `offOps` are SEQ_POWER_OFF operations waiting for completion with their RESULT; `workDue` that the state was
entered in a level 3 restart and its work is still to begin (R256); `actHold` that a deferred activation holds
COG (R230). -/
structure SeqState where
  walk        : Walk
  workDone    : Bool
  workDue     : Bool
  entryTick   : Nat
  joinTick    : Nat
  brake       : Option Nat
  brakeTick   : Nat
  pfwLow      : Bool
  pfwRunning  : Bool
  complete    : Bool
  powerOn     : Bool
  stepsLeft   : Nat
  stepOp      : Option Nat
  offOps      : List (Nat × Nat)
  attached    : Bool
  detached    : Bool
  byBrake     : Bool
  joinWait    : Bool
  holding     : Bool
  lineLow     : Bool
  pulse       : CogPulse
  actHold     : Bool
  deriving DecidableEq, Repr

/-- A Fantail consumer (feeder or string): its request, whether it was served at the last tick, since when
it has waited, whether its deferral limit has been reached, whether a contingency mask shed it, the reason for which a request
that began in a Brake is refused (R226, R238), and the power peaks of the last second, newest first, each below the next. -/
structure ConsumerAux where
  requesting : Bool
  served     : Bool
  since      : Nat
  expired    : Bool
  masked     : Bool
  forced     : Option Nat
  peaks      : List (Nat × Int)
  deriving DecidableEq, Repr, Inhabited

/-- What a tick has decided of a feeder, a string or a phase: its OUTCOME, REASON and RETRY_MS, none where they stay; the
demand and, of a string, the grant as parameters hold them (R216 to R225). -/
structure Verdict where
  obj    : Nat
  seg    : Nat
  out    : Option (Nat × Nat × Nat)
  demand : Int
  grant  : Int
  deriving DecidableEq, Repr, Inhabited

/-- The figures of a segment at a tick, as parameters hold them (Table 8-11). -/
structure SegFigures where
  seg     : Nat
  pIn     : Int
  pServed : Int
  class0  : Int
  eStr    : Int
  deriving DecidableEq, Repr, Inhabited

/-- What a tick has decided of the activation that is due (R228, R230). -/
inductive ActVerdict where
  | idle
  | grant
  | refused (reason : Nat)
  | deferred (reason retry : Nat)
  deriving DecidableEq, Repr, Inhabited

/-- What a tick has decided of self-test: an item, or why none is granted (R228, R341). -/
inductive BistVerdict where
  | grant (item : DresserItem)
  | busy
  | refused (reason : Nat)
  | deferred (reason retry : Nat)
  deriving DecidableEq, Repr, Inhabited

/-- The outcomes of a tick, which rest on the inputs latched at its start and are published at its end (R208, R209). `short`
and `beyond` are the first segments that show RESERVE_SHORT and CLASS0_OVERCOMMIT; `caps` N_CAP of each loop; `held` the phases
that a cap holds, with the reason for which one newly held in a Brake is refused; `lost` the writes not granted, with their
reason and RETRY_MS, none for REFUSED; `tests` the self-tests whose requests were latched. -/
structure TickPlan where
  stored   : Int
  figures  : List SegFigures
  short    : Option Nat
  beyond   : Option Nat
  cont     : Bool
  verdicts : List Verdict
  phases   : List Verdict
  held     : List (Nat × Option Nat)
  caps     : List (Nat × Nat)
  write    : Option NvmReq
  lost     : List (NvmReq × Nat × Option Nat)
  act      : ActVerdict
  bist     : BistVerdict
  tests    : List Nat
  deriving DecidableEq, Repr, Inhabited

/-- Fantail beyond its parameters: its live flags, the phases that a cap holds off with the reason of a refusal, the outcomes
of the tick in progress, and its consumers. -/
structure FantailState where
  reserveShort   : Bool
  overcommit     : Bool
  contShort      : Bool
  capHeld        : List (Nat × Option Nat)
  plan           : Option TickPlan
  feeders        : Vector ConsumerAux 16
  strings        : Vector ConsumerAux 4
  deriving DecidableEq, Repr

/-- A thermal sensor: its latest samples and the means of the last second, newest first; whether its ring
oscillator is in its trimmed range; its WARN and CRIT, and since when it has been cool enough for WARN to clear (R224). -/
structure ThermAux where
  samples : List Int
  means   : List Int
  ringOk  : Bool
  warn    : Bool
  crit    : Bool
  cool    : Option Nat
  deriving DecidableEq, Repr, Inhabited

/-- The shelf state's hidden part. `mismatchSeen`: ID_MISMATCH has been 1 since entry to STARTUP (R31);
`configApplied`; `confirmHeld`: a confirmation is held; `latched`: the thermal latch in the AON domain; `timeoutMs`: the
millisecond of the tick in which the 30 s limit last ended STARTUP (Table 1-11). -/
structure ShelfAux where
  mismatchSeen  : Bool
  configApplied : Bool
  confirmHeld   : Bool
  latched       : Bool
  timeoutMs     : Option Nat
  deriving DecidableEq, Repr

/-- A shelf transition put off by a level 3 restart (R35). -/
inductive PendingShift where
  | toState (new cause : Nat)
  deriving DecidableEq, Repr, Inhabited

/-- Level 3: a running restart, its causes not yet recorded with the restart count of
each, and put-off transitions. -/
structure MillerState where
  restarting : Bool
  causes     : List (Nat × Nat)
  shifts     : List PendingShift
  deriving DecidableEq, Repr

end Sys2Proof.Machine
end

