-- ==== Sys2Proof/Machine/State.lean ====
section
/-! DEFINITION. The state of the KJ-9740, the faults and refusals of a step, and the state after reset. -/

namespace Sys2Proof.Machine

/-- Why the machine stops with a fault. No command of this part faults: every command has an effect or
changes nothing. -/
inductive Fault where
  /-- A behaviour to which the manual gives no effect. Raised by no command; safe. -/
  | unspecified
  deriving DecidableEq, Repr

/-- Why a command is refused. -/
inductive Refusal where
  /-- A command whose meaning is not written yet, by its mnemonic in the opcode table. Safe. -/
  | notModelled (mnemonic : String)
  deriving DecidableEq, Repr

/-- The machine. `params` holds every parameter that differs from its Reset value, keyed by object × 4096 +
parameter ID, keys strictly rising. `draws` counts the free values used (the model's own field). `pending`
is the queue of commands, first in, first out. -/
structure State where
  params  : List (Nat × Int)
  grist   : GristState
  hopper  : HopperState
  ports   : Vector HostPortAux 2
  downs   : Vector DownAux 4
  pols    : Vector PolAux 32
  sats    : Vector SatAux 8
  time    : TimeState
  timers  : Vector TimerAux 8
  supply  : SupplyState
  nvm     : NvmState
  upd     : UpdState
  life    : LifeState
  dresser : DresserState
  rails   : Vector RailAux 32
  seq     : SeqState
  fantail : FantailState
  therms  : Vector ThermAux 16
  shelf   : ShelfAux
  miller  : MillerState
  segs    : Vector SegAux 4
  loops   : Vector LoopAux 32
  phases  : Vector PhaseAux 24
  wheel   : WheelState
  flume   : FlumeState
  trace   : TraceState
  feeders : Vector FeederAux 16
  strings : Vector StringAux 4
  modules : Vector ModuleAux 64
  auths   : List AuthJob
  nonces  : List Bytes
  draws   : Nat
  pending : List Instr
  deriving DecidableEq, Repr

/-- A trigger that has not been defined. -/
def Trigger.undefined : Trigger :=
  { enable := false, obj := 0, cond := 0, param := 0, threshold := 0, hyst := 0, minInterval := 0,
    snaps := [], armed := false, last := none, lastFire := none }

/-- The record of the entry to STARTUP: old state unknown, cause the reset, LATE (R36, Table 12-3; its cause code is
log entry 18). -/
def Rec.startup : Rec :=
  { source := 0x00, cls := 0x03, event := 0x20, late := true, first := true, seq := 1, tick := 0, wall := 0, gen := 1,
    snap := [0xFF, 0, 8] }

/-- Grist with nothing recorded. -/
def GristState.empty : GristState :=
  { nextGen := 1, gap := none, found := [], resumed := [], circ := [], first := [], clearGen := 0, nonce := none,
    triggers := Vector.replicate 16 Trigger.undefined, deferred := [], created := [], held := [],
    firstWritten := 0, mirrorLate := false }

/-- Grist at first power-up: GENERATION and every SOURCE_SEQ start at 1, and the entry to STARTUP has been recorded
(R325, R36). -/
def GristState.reset : GristState :=
  { GristState.empty with
    nextGen := 2, resumed := [0x00], circ := [.startup], first := [.startup], created := [(0x00, 1)] }

/-- A host port after reset (Table 15-1). -/
def HostPortAux.reset : HostPortAux :=
  { build := [], written := 0, waiting := [], replies := [], readPos := 0, pointer := 0, spaceHigh := 0,
    availHigh := 0, fast := List.replicate 32 0, alertCause := 0, alertReleased := false, viol := [],
    stretch := false, driven := [], hit := 0, addrs := [0, 0, 0, 0, 0, 0x7F] }

/-- Time at first power-up: the tick is 0 and latched (R296, R298). -/
def TimeState.reset : TimeState :=
  { tick := 0, latch := some { tick := 0, aon := 0, offset := 0, watch := false }, slew := none,
    wallValid := false, wallSuspect := false, onAonRc := false, onRefRc := false,
    ceilingWritten := false, ceilingOffset := 0, ceilingValid := false, halted := false }

/-- A timer after reset (R311). -/
def TimerAux.reset : TimerAux :=
  { queue := [], staged := none, level := false, pulse := false, prePos := 0 }

/-- Supplies with the control side running and every supply present (log entry 12). -/
def SupplyState.reset : SupplyState :=
  { cs := .run, cause := .powerUp, vauxGood := false, sag := false, rideThrough := false,
    saveArmed := false, vps12Ok := true, psdOk := true, saveTrigger := 0, savePages := 0, saveGen := 0,
    saveTick := 0, saveWall := 0, saveAon := 0,
    cholds := false, unproven := false, millHistory := [], floatExit := false,
    retentionBad := 0, watchDue := false }

/-- Non-volatile memory at shipment: nothing journaled, control record clean (R325). The capacitance test of the entry to
STARTUP is requested (R271). -/
def NvmState.reset : NvmState :=
  { queue := [⟨.config, .choldTest, 1, none, 0⟩], active := none, config := [], images := [], counters := [], battery := [],
    triggers := Vector.replicate 16 Trigger.undefined, mirror := [], firstMirror := [], clearGen := 0,
    gapBase := 0, cleanStop := true, saves := [], saveApplied := 0, torn := 0, mram := [],
    written := [], bad := [], journal := [], unjournaled := [] }

/-- Update with no session. -/
def UpdState.reset : UpdState :=
  { bundleLen := 0, target := 1, units := [], headerOk := false, closing := none, due := false,
    dueAtCog := false, waiting := none, dueSince := 0, resetDriven := false, checkin := none,
    checkinAsked := false, trialReset := false, satPending := Vector.replicate 8 false,
    satHalf := Vector.replicate 8 false, satImages := [], romEntry := false, stagedOk := false }

/-- OTP with no key written (R1: the part ships BLANK). -/
def LifeState.reset : LifeState :=
  { keys := Vector.replicate 5 none, killed := false, repairs := [], nonce := none, badCopies := [] }

/-- Dresser with no test queued. -/
def DresserState.reset : DresserState :=
  { tests := [], granted := none, nextArr := 0, nextIdx := Vector.replicate 3 0, lastLane := 0,
    nextLane := 0, lastLogic := 0, nextLogic := 0, hard := [], retest := [], logicRetest := [],
    corrected := [], hardWords := [], repairs := [], full := none, fullHard := [], fullPending := false }

/-- A rail that is off. -/
def RailAux.reset : RailAux :=
  { en := false, pg := false, delaying := false, qualifying := false, good := false, timedOut := false,
    faulted := false, discharging := false, stuck := false, downOff := false,
    onTick := 0, offTick := 0 }

/-- The sequencer before its walk: at rest in state 31, not on the COG line (R243). -/
def SeqState.reset : SeqState :=
  { walk := .none, workDone := true, workDue := false, entryTick := 0, joinTick := 0, brake := none, brakeTick := 0, pfwLow := false,
    pfwRunning := false, complete := false, powerOn := false, stepsLeft := 0, stepOp := none,
    offOps := [], attached := false, detached := false, byBrake := false, joinWait := false,
    holding := false, lineLow := false, pulse := .none, actHold := false }

/-- A consumer that has not requested. -/
def ConsumerAux.reset : ConsumerAux :=
  { requesting := false, served := false, since := 0, expired := false, masked := false, forced := none, peaks := [] }

/-- Fantail before its first tick. -/
def FantailState.reset : FantailState :=
  { reserveShort := false, overcommit := false, contShort := false, capHeld := [], plan := none, feeders := Vector.replicate 16 .reset,
    strings := Vector.replicate 4 .reset }

/-- A sensor before its first sample. -/
def ThermAux.reset : ThermAux :=
  { samples := [], means := [], ringOk := true, warn := false, crit := false, cool := none }

/-- A SAR channel before its first sample. -/
def Chan.reset : Chan :=
  { value := 0, good := 0, codes := [], rangeRun := 0, range := false, stuck := false, failRun := 0,
    check := false, sum := 0, n := 0, msum := 0, mn := 0, psum := 0, ms := 0,
    spoiltMs := false, spoilt := false, frozen := false, dirty := none, wsum := 0, wn := 0, line := [] }

/-- A segment that is off. -/
def SegAux.reset : SegAux :=
  { chan := .reset, fired := 0, offTime := false, overTick := none, overHold := false, ramping := false, activeTick := 0 }

/-- A loop with no image and zero histories. -/
def LoopAux.reset : LoopAux :=
  { bank0 := none, bank1 := none, float := none, bad0 := false, bad1 := false, u1 := 0, u2 := 0, u3 := 0, e1 := 0,
    e2 := 0, e3 := 0, ui := 0, ud := 0, newBank := false, preload := none, outHigh := false,
    outLow := false, intClamp := false, hold := false, limNs := none, nAct := 0, rem := 0, slow := false,
    running := false,
    slewOp := none, slewing := false, reefTick := 0, returnTo := none, refUsed := 0,
    measUsed := 0, err := 0, outInj := 0, inj := 0, uvNs := none, removed := false }

/-- A phase that is not switching. -/
def PhaseAux.reset : PhaseAux :=
  { switching := false, reefed := false, laneCap := false, softStart := false, softEnd := false,
    wait := none, shed := false, shadow := 0, duty := 0, ref := 0, clipped := false, clipNs := none, clipRun := 0,
    periods := 0, replaced := false, suspect := false, openRun := 0, moving := false, oldFreq := none, floatRun := 0,
    current := 0, notice := false, period := 0, request := 0, share := 0, limit := 0, chan := .reset }

/-- The comparators before any proof. -/
def WeirAux.reset : WeirAux :=
  { passesA := 0, passesB := 0, latchA := false, latchB := false, proving := none }

/-- A feeder that is off and unseated. -/
def FeederAux.reset : FeederAux :=
  { seatLow := 0, seatHigh := 20, seated := false, low := false, insertRun := 0, windowOk := false,
    timer := 0, soa := 0, soaRun := false, cl := false, cl1 := false, cl2 := false, 
    pg := false, vgsOk := false, vds := 0, gate := false, ovRun := 0, startRun := 0, itLevel := 0,
    itRun := false, curve := [], reseat := false, enableOff := false, condition := false, serve := false,
    shed := false, downOwn := false, weir := .reset, acc := ⟨0, 0, 0⟩, chan := .reset }

/-- A string that is open. -/
def StringAux.reset : StringAux :=
  { connected := false, starting := false, vgsOk := false, startRun := 0, chgReg := false,
    enhanced := false, lvdOpen := false, learnDeferred := false, chargeStop := false, stopOv := false,
    ovClearSince := none, disagree := false, eodWarn := false, iSum := 0, iN := 0, iPrev := 0,
    lowSince := none, highSince := none, relaxSince := none, zeroSince := none,
    disagreeSince := none, agreeSince := none, socStep := 0, anchor := 0, qAnchor := 0, dsgQ := 0,
    dsgStart := 10000, dsgSeen := false, fullSeen := false, wasDsg := false, fullTick := 0, offsetDue := false, ovRun := 0, first := true, loadSince := none, loaded := false, loadI := 0, relaxStep := 0,
    enableOff := false, weir := .reset, acc := ⟨0, 0, 0⟩, chan := .reset }

/-- A module that has never answered. -/
def ModuleAux.reset : ModuleAux :=
  { lastSeq := none, failRun := 0, commLost := false, lostSince := 0, lvdRun := 0,
    identified := false, authDue := false, authing := false, nonce := none, cert := [], vrc1 := 0, vrc2 := 0, vPrev := 0,
    vRest := none, changed := false, recSerial := none, idNeeded := false, tempOut := false,
    stale := false, relax := [] }

/-- The machine right after its first reset: a part as shipped (R1), its control side just started, the
shelf in STARTUP at tick 0 (R31, R298), every parameter at its Reset value, nothing journaled, no command
waiting. Values the manual does not give are named in log entries 9, 10 and 12. -/
def State.reset : State :=
  { params := [(oShelf * 4096 + Pid.SOURCE_SEQ, 1), (oGrist * 4096 + Pid.Grist.NEWEST_GEN, 1),
               (oGrist * 4096 + Pid.Grist.OLDEST_GEN, 1), (oGrist * 4096 + Pid.Grist.FIRST_BASE_GEN, 1),
               (oGrist * 4096 + Pid.Grist.FIRST_COUNT, 1)]
    grist := .reset, hopper := { ops := [], nextId := 1 },
    ports := Vector.replicate 2 .reset,
    downs := Vector.replicate 4 { losses := 0, recovered := false, sclLow := false, busStuck := false },
    pols := Vector.replicate 32 { lastFail := none, badMode := false, sent := [] },
    sats := Vector.replicate 8 { running := false, noReply := false, sent := [] },
    time := .reset, timers := Vector.replicate 8 .reset, supply := .reset, nvm := .reset, upd := .reset,
    life := .reset, dresser := .reset, rails := Vector.replicate 32 .reset, seq := .reset,
    fantail := .reset, therms := Vector.replicate 16 .reset,
    shelf := { mismatchSeen := false, configApplied := false, confirmHeld := false, latched := false, timeoutMs := none },
    miller := { restarting := false, causes := [], shifts := [] },
    segs := Vector.replicate 4 .reset, loops := Vector.replicate 32 .reset,
    phases := Vector.replicate 24 .reset,
    wheel := { swaps := [], loads := [], residue := Vector.replicate 4 none,
               again := Vector.replicate 4 false, syncEdges := 0, syncMisses := 0,
               syncOf := 0, syncPeriod := 0, pull := 0, glide := 0, dsStart := Vector.replicate 4 0,
               dsSpoilt := Vector.replicate 4 false },
    flume := { op := none, running := false, loop := 0, payload := [], k := 0, aRe := 0, aIm := 0,
               bRe := 0, bIm := 0, clips := 0, lfsr := 0, chip := false },
    trace := { config := [], rows := [], decim := 0, prev := none, after := 0, rowTick := 0, hit := false, flumeNew := false,
               flumeSeen := false, faultSeen := false, objBad := false },
    feeders := Vector.replicate 16 .reset, strings := Vector.replicate 4 .reset,
    modules := Vector.replicate 64 .reset, auths := [], nonces := [], draws := 0, pending := [] }

end Sys2Proof.Machine
end

