-- ==== Sys2Proof/Machine/Ops.lean ====
section
/-! DEFINITION. The named operations over the state: the parameter store, the indexed records, alerts,
free values and the predicates that many commands ask. -/

namespace Sys2Proof.Machine

/-! ## The parameter store -/

/-- The key of a parameter in the store. -/
def keyOf (o pid : Nat) : Nat := o * 4096 + pid

/-- The value a sorted list of pairs gives a key. -/
def lookupKey (k : Nat) : List (Nat × Int) → Option Int
  | [] => none
  | (k', v) :: rest => if k = k' then some v else lookupKey k rest

/-- Remove a key. -/
def eraseKey (k : Nat) (l : List (Nat × Int)) : List (Nat × Int) := l.filter fun e => e.1 != k

/-- Put a key at its place in a list whose keys rise. -/
def insertKey (k : Nat) (v : Int) : List (Nat × Int) → List (Nat × Int)
  | [] => [(k, v)]
  | (k', v') :: rest =>
    if k < k' then (k, v) :: (k', v') :: rest
    else if k = k' then (k, v) :: rest
    else (k', v') :: insertKey k v rest

/-- Strictly rising keys. -/
def keysRise : List (Nat × Int) → Bool
  | [] => true
  | [_] => true
  | (a, _) :: (b, v) :: rest => decide (a < b) && keysRise ((b, v) :: rest)

/-- The canonical form of the store: keys rise and no entry equals its Reset value. -/
def paramsWf (l : List (Nat × Int)) : Bool :=
  keysRise l && l.all fun e => e.2 != paramReset (e.1 / 4096) (e.1 % 4096)

/-- The stored value of a parameter. -/
def State.par (s : State) (o pid : Nat) : Int :=
  (lookupKey (keyOf o pid) s.params).getD (paramReset o pid)

/-- Store a parameter, keeping the canonical form. -/
def State.setPar (s : State) (o pid : Nat) (v : Int) : State :=
  { s with params :=
      if v = paramReset (keyOf o pid / 4096) (keyOf o pid % 4096) then eraseKey (keyOf o pid) s.params
      else insertKey (keyOf o pid) v s.params }

/-- Apply a function to a parameter. -/
def State.updPar (s : State) (o pid : Nat) (f : Int → Int) : State := s.setPar o pid (f (s.par o pid))

/-- Count `n` more. Past the end of its encoding the manual states no value (log entry 13). -/
def State.addPar (s : State) (o pid n : Nat) : State :=
  let hi := match findDesc o pid with
    | some d => d.hi
    | none => 0
  s.updPar o pid fun v => if v + n ≤ hi then v + n else Config.counterPastEnd o pid % (hi + 1)

/-- Count one more. -/
def State.incPar (s : State) (o pid : Nat) : State := s.addPar o pid 1

/-- Set one bit of a status parameter. -/
def State.setBit (s : State) (o pid bit : Nat) : State := s.updPar o pid fun v => setBitTo v bit true

/-- Clear one bit of a status parameter. -/
def State.clearBit (s : State) (o pid bit : Nat) : State := s.updPar o pid fun v => setBitTo v bit false

/-- Is a stored bit set? -/
def State.bit (s : State) (o pid bit : Nat) : Bool := bitOf (s.par o pid) bit

/-- Is the object's ENABLE 1? A module's follows its string's (R206). -/
def State.enabled (s : State) (o : Nat) : Bool :=
  match objType o with
  | .module => s.par (oString ((o - 0x40) / 16)) Pid.ENABLE == 1
  | _ => s.par o Pid.ENABLE == 1

/-- The stored OBJ_STATE. -/
def State.objSt (s : State) (o : Nat) : Int := s.par o Pid.OBJ_STATE

/-- Set the stored OBJ_STATE. -/
def State.setObj (s : State) (o : Nat) (v : Int) : State := s.setPar o Pid.OBJ_STATE v

/-! ## Indexed records -/

/-- The element at an index, with a default past the end. -/
def vget {α : Type} {n : Nat} (v : Vector α n) (i : Nat) (d : α) : α :=
  if h : i < n then v[i] else d

/-- Change the element at an index. -/
def vmod {α : Type} {n : Nat} (v : Vector α n) (i : Nat) (f : α → α) : Vector α n :=
  if h : i < n then v.set i (f v[i]) else v

/-- The index of a host port. -/
def portIx : HostPort → Nat
  | .ha => 0
  | .hb => 1

/-- The other host port. -/
def otherPort : HostPort → HostPort
  | .ha => .hb
  | .hb => .ha

def State.port (s : State) (p : HostPort) : HostPortAux := vget s.ports (portIx p) .reset
def State.modPort (s : State) (p : HostPort) (f : HostPortAux → HostPortAux) : State :=
  { s with ports := vmod s.ports (portIx p) f }
def State.feeder (s : State) (f : Nat) : FeederAux := vget s.feeders f .reset
def State.modFeeder (s : State) (f : Nat) (g : FeederAux → FeederAux) : State :=
  { s with feeders := vmod s.feeders f g }
def State.str (s : State) (k : Nat) : StringAux := vget s.strings k .reset
def State.modStr (s : State) (k : Nat) (g : StringAux → StringAux) : State :=
  { s with strings := vmod s.strings k g }
def State.module (s : State) (m : Nat) : ModuleAux := vget s.modules m .reset
def State.modModule (s : State) (m : Nat) (g : ModuleAux → ModuleAux) : State :=
  { s with modules := vmod s.modules m g }
def State.seg (s : State) (b : Nat) : SegAux := vget s.segs b .reset
def State.modSeg (s : State) (b : Nat) (g : SegAux → SegAux) : State :=
  { s with segs := vmod s.segs b g }
def State.loop (s : State) (n : Nat) : LoopAux := vget s.loops n .reset
def State.modLoop (s : State) (n : Nat) (g : LoopAux → LoopAux) : State :=
  { s with loops := vmod s.loops n g }
def State.phase (s : State) (p : Nat) : PhaseAux := vget s.phases p .reset
def State.modPhase (s : State) (p : Nat) (g : PhaseAux → PhaseAux) : State :=
  { s with phases := vmod s.phases p g }
def State.rail (s : State) (v : Nat) : RailAux := vget s.rails v .reset
def State.modRail (s : State) (v : Nat) (g : RailAux → RailAux) : State :=
  { s with rails := vmod s.rails v g }
def State.therm (s : State) (t : Nat) : ThermAux := vget s.therms t .reset
def State.modTherm (s : State) (t : Nat) (g : ThermAux → ThermAux) : State :=
  { s with therms := vmod s.therms t g }
def State.timer (s : State) (t : Nat) : TimerAux := vget s.timers t .reset
def State.modTimer (s : State) (t : Nat) (g : TimerAux → TimerAux) : State :=
  { s with timers := vmod s.timers t g }
def State.down (s : State) (d : Nat) : DownAux :=
  vget s.downs d { losses := 0, recovered := false, sclLow := false, busStuck := false }
def State.modDown (s : State) (d : Nat) (g : DownAux → DownAux) : State :=
  { s with downs := vmod s.downs d g }
def State.pol (s : State) (n : Nat) : PolAux := vget s.pols n { lastFail := none, badMode := false, sent := [] }
def State.modPol (s : State) (n : Nat) (g : PolAux → PolAux) : State :=
  { s with pols := vmod s.pols n g }
def State.sat (s : State) (n : Nat) : SatAux := vget s.sats n { running := false, noReply := false, sent := [] }
def State.modSat (s : State) (n : Nat) (g : SatAux → SatAux) : State :=
  { s with sats := vmod s.sats n g }
def State.consF (s : State) (f : Nat) : ConsumerAux := vget s.fantail.feeders f .reset
def State.modConsF (s : State) (f : Nat) (g : ConsumerAux → ConsumerAux) : State :=
  { s with fantail := { s.fantail with feeders := vmod s.fantail.feeders f g } }
def State.consS (s : State) (k : Nat) : ConsumerAux := vget s.fantail.strings k .reset
def State.modConsS (s : State) (k : Nat) (g : ConsumerAux → ConsumerAux) : State :=
  { s with fantail := { s.fantail with strings := vmod s.fantail.strings k g } }

/-- Do something for each index below `n`, in order. -/
def State.each (s : State) (n : Nat) (f : Nat → State → State) : State :=
  (List.range n).foldl (fun s i => f i s) s

/-- Do something for each of a list of indices, in order. -/
def State.eachOf (s : State) (l : List Nat) (f : Nat → State → State) : State :=
  l.foldl (fun s i => f i s) s

/-- Do something for each element of a list, in order, and gather what it gives. -/
def State.collect {α β : Type} (s : State) (l : List β) (f : β → State → List α × State) : List α × State :=
  l.foldl (fun a e =>
    let (x, t) := f e a.2
    (a.1 ++ x, t)) ([], s)

/-! ## Shelf, level 3 and supplies -/

/-- Shelf states (Table 1-9). -/
abbrev ssStartup : Int := 0
abbrev ssNormal : Int := 1
abbrev ssTest : Int := 2
abbrev ssRecovery : Int := 3
abbrev ssMaint : Int := 4
abbrev ssBraking : Int := 5
abbrev ssThermal : Int := 6

/-- SHELF_STATE. -/
def State.shelfState (s : State) : Int := s.par oShelf Pid.Shelf.SHELF_STATE

/-- Is the shelf in TEST or MAINT? -/
def State.testMaint (s : State) : Bool := s.shelfState == ssTest || s.shelfState == ssMaint

/-- Does the shelf state hold objects in SAFE_HOLD (R34)? An object that is not enabled reads DISABLED all the same, as
every object does that nothing has enabled before the configuration is applied (Table 1-12). -/
def State.safeHold (s : State) : Bool :=
  s.shelfState == ssThermal ||
    (s.shelfState == ssStartup && s.par oShelf Pid.Shelf.ID_MISMATCH == 1)

/-- Does firmware run on the control side? -/
def State.running (s : State) : Bool := s.supply.cs == .run

/-- Is level 3 at work: firmware runs and no level 3 restart is in progress (R20)? -/
def State.miller3 (s : State) : Bool := s.running && !s.miller.restarting

/-- DEVICE_MODE. -/
def State.deviceMode (s : State) : Int := s.par oDevice Pid.Device.DEVICE_MODE

/-- SAVE_ARMED as it acts and reads: VHOLD has reached 11.0 V since the control-side reset, and the device is not in WATCH,
where the trigger is disarmed (R273, R285). -/
def State.saveArmedNow (s : State) : Bool := s.supply.saveArmed && s.deviceMode != 2

/-- Is the device in FLOAT? -/
def State.inFloat (s : State) : Bool := s.deviceMode == 1

/-- Is the Uhles link up (Table 1-9)? -/
def State.linkUp (s : State) : Bool := s.par oDevice Pid.Device.UHLES_STATUS == 0

/-- Can the power-side die act on its outputs: its supplies are present and VPS12 is above its UVLO (R268)? -/
def State.psdPowered (s : State) : Bool := s.supply.psdOk && s.supply.vps12Ok

/-- WALL_NOW (R299). -/
def State.wallNow (s : State) : Int := s.time.tick + s.par oDevice Pid.Device.WALL_OFFSET

/-- The segment index a feeder's or string's SEGMENT names. -/
def segOf (v : Int) : Nat := (v - 4).toNat

/-- The segment of a feeder. -/
def State.feederSeg (s : State) (f : Nat) : Nat := segOf (s.par (oFeeder f) Pid.Feeder.SEGMENT)

/-- The segment of a string. -/
def State.stringSeg (s : State) (k : Nat) : Nat := segOf (s.par (oString k) Pid.String.SEGMENT)

/-- The modules of a string that are configured (R183). -/
def State.modulesOf (s : State) (k : Nat) : List Nat :=
  (List.range (s.par (oString k) Pid.String.MODULE_COUNT).toNat).map fun i => 16 * k + i

/-- The outer loop a phase names, if any. -/
def State.outerOf (s : State) (p : Nat) : Option Nat :=
  let v := s.par (oPhase p) Pid.Phase.OUTER_SOURCE
  if 8 ≤ v ∧ v ≤ 15 then some (v - 8).toNat else none

/-- The segment an outer loop measures. -/
def State.loopSeg (s : State) (m : Nat) : Nat := segOf (s.par (oOuter m) Pid.Loop.MEAS_OBJECT)

/-- The phases that name an outer loop, enabled or not. -/
def State.namingPhases (s : State) (m : Nat) : List Nat :=
  (List.range 24).filter fun p => s.outerOf p == some m

/-- The phases of PHASE_MASK: those that name the loop and are enabled (Table 3-13). -/
def State.maskPhases (s : State) (m : Nat) : List Nat :=
  (s.namingPhases m).filter fun p => s.enabled (oPhase p)

/-- The phases of PHASE_MASK now switching (R71). -/
def State.actPhases (s : State) (m : Nat) : List Nat :=
  (s.maskPhases m).filter fun p => (s.phase p).switching

/-- The enabled outer loops that measure a segment. -/
def State.loopsOfSeg (s : State) (b : Nat) : List Nat :=
  (List.range 8).filter fun m => s.enabled (oOuter m) && s.loopSeg m == b

/-- The phases of a segment's converter: those of the loops that measure it. -/
def State.phasesOfSeg (s : State) (b : Nat) : List Nat :=
  (List.range 24).filter fun p =>
    match s.outerOf p with
    | some m => s.enabled (oOuter m) && s.loopSeg m == b
    | none => false

/-! ## Alerts (R388, R389) -/

/-- ALERT causes (Table 15-3). -/
abbrev alFault : Nat := 0
abbrev alTimer : Nat := 1
abbrev alRecorder : Nat := 2
abbrev alBattery : Nat := 3
abbrev alService : Nat := 4
abbrev alReply : Nat := 5
abbrev alProtocol : Nat := 6
abbrev alUpdate : Nat := 7

/-- Set a cause bit on one port; the rise of an enabled bit drives ALERT_N low again (R389). -/
def State.raisePort (s : State) (p : HostPort) (c : Nat) : State :=
  let enabled := bitOf (s.par (oPort p) Pid.HPort.ALERT_MASK) c || c == alProtocol
  s.modPort p fun a =>
    if a.alertCause.testBit c then a
    else { a with alertCause := a.alertCause + 2 ^ c, alertReleased := a.alertReleased && !enabled }

/-- Set a cause bit on both ports (R388). -/
def State.raise (s : State) (c : Nat) : State := (s.raisePort .ha c).raisePort .hb c

/-- Is a port's ALERT_N driven low (R388 to R390)? -/
def State.alertLow (s : State) (p : HostPort) : Bool :=
  let a := s.port p
  let held := s.par (oPort p) Pid.HPort.CAUTIOUS == 1 && a.alertCause.testBit alProtocol
  s.supply.cs != .rom && s.supply.cs != .off && s.supply.cs != .reset && !a.alertReleased &&
    (held || (a.alertCause &&& (s.par (oPort p) Pid.HPort.ALERT_MASK).toNat) != 0)

/-! ## Free values -/

/-- Take a fresh free integer (log entry 4). -/
def State.draw (s : State) : Int × State := (Config.freeInt s.draws, { s with draws := s.draws + 1 })

/-- Take fresh random bytes (R188, R327, R417; log entry 3). -/
def State.drawBytes (s : State) (n : Nat) : Bytes × State :=
  ((List.range n).map fun i => Config.freeByte (s.draws + i), { s with draws := s.draws + n })

/-- A truth value as a number. -/
def b2i (b : Bool) : Int := if b then 1 else 0

/-- A status word from bit numbers and their values. -/
def bitsOf : List (Nat × Bool) → Int
  | [] => 0
  | (n, b) :: rest => (if b then 2 ^ n else 0) + bitsOf rest

end Sys2Proof.Machine
end

