-- ==== Sys2Proof/Machine/Operands.lean ====
section
/-! DEFINITION. What a parameter reads: stored values, live status bits and values derived from the state. -/

namespace Sys2Proof.Machine

/-! ## Channels and comparators -/

/-- Has a condition been live at every evaluation for `n` ns? -/
def ranFor (r : Option Nat) (n : Nat) : Bool :=
  match r with
  | some k => decide (k ≥ n)
  | none => false

/-- The run of a condition after one more evaluation, `dt` ns after the last. -/
def runNext (live : Bool) (dt : Nat) (r : Option Nat) : Option Nat :=
  if live then some (match r with
    | some k => k + dt
    | none => 0)
  else none

/-- SENSE_FAIL of a channel (R56). -/
def Chan.fail (c : Chan) : Bool := c.range || c.stuck || c.check

/-- The channel of an object that has one. -/
def State.chanOf (s : State) (o : Nat) : Chan :=
  match objType o with
  | .phase => (s.phase (o - 0x10)).chan
  | .feeder => (s.feeder (o - 0x30)).chan
  | .segment => (s.seg (o - 0x04)).chan
  | .string => (s.str (o - 0x80)).chan
  | _ => .reset

/-- Change the channel of an object. -/
def State.modChan (s : State) (o : Nat) (g : Chan → Chan) : State :=
  match objType o with
  | .phase => s.modPhase (o - 0x10) fun a => { a with chan := g a.chan }
  | .feeder => s.modFeeder (o - 0x30) fun a => { a with chan := g a.chan }
  | .segment => s.modSeg (o - 0x04) fun a => { a with chan := g a.chan }
  | .string => s.modStr (o - 0x80) fun a => { a with chan := g a.chan }
  | _ => s

/-- The WEIR_PROOF_STATUS parameter of a feeder or string. -/
def weirPid (o : Nat) : Nat :=
  match objType o with
  | .string => Pid.String.WEIR_PROOF_STATUS
  | _ => Pid.Feeder.WEIR_PROOF_STATUS

/-- Is comparator A (false) or B (true) FAILED (Table 6-9)? -/
def State.compFailed (s : State) (o : Nat) (b : Bool) : Bool :=
  s.bit o (weirPid o) (if b then 2 else 3)

/-- WEIR_SOLO: exactly one comparator FAILED (R163). -/
def State.weirSolo (s : State) (o : Nat) : Bool := s.compFailed o false != s.compFailed o true

/-- Both comparators FAILED (R164, R182). -/
def State.weirBoth (s : State) (o : Nat) : Bool := s.compFailed o false && s.compFailed o true

/-! ## Derived values -/

/-- FS_CURRENT (Table 3-13): the range of ISENSE_RANGE divided by SENSE_RNOM, in 100 µA. -/
def State.fsCurrent (s : State) (p : Nat) : Int :=
  let mv : Int := match s.par (oPhase p) Pid.Phase.ISENSE_RANGE with
    | 0 => 50
    | 1 => 100
    | 2 => 250
    | _ => 1000
  roundDiv (mv * 10 ^ 10) (s.par (oPhase p) Pid.Phase.SENSE_RNOM)

/-- PERIOD_ACTUAL in fine ticks (R96). -/
def State.periodOf (s : State) (p : Nat) : Int :=
  roundDiv 12800000000 (s.par (oPhase p) Pid.Phase.F_PWM)

/-- Carrier frequency of the phases an outer loop feeds, 0 where it feeds none (R62). -/
def State.carrier (s : State) (m : Nat) : Nat :=
  match s.namingPhases m with
  | p :: _ => (s.par (oPhase p) Pid.Phase.F_PWM).toNat
  | [] => 0

/-- The carrier frequency that a phase runs on: F_PWM, or for a switching phase the one before a write of it, until the next
boundary of its group (R93, R127). -/
def State.freqOf (s : State) (p : Nat) : Nat :=
  (s.phase p).oldFreq.getD (s.par (oPhase p) Pid.Phase.F_PWM).toNat

/-- The period of a carrier in fine ticks: round(12.8 GHz / F_PWM), or the period that the synchronised group runs on while
SYNCIN leads it (R96, R101 to R103). -/
def State.carrierTicks (s : State) (f : Nat) : Nat :=
  if s.wheel.syncPeriod != 0 && f == s.wheel.syncOf then
    (s.wheel.syncPeriod + s.wheel.pull).toNat
  else (roundDiv 12800000000 f).toNat

/-- The nominal period of a phase in fine ticks (R97). -/
def State.ticksOf (s : State) (p : Nat) : Nat := s.carrierTicks (s.freqOf p)

/-- The carrier period in fine ticks of the phases an outer loop feeds, 0 where it feeds none (R71). -/
def State.loopTicks (s : State) (m : Nat) : Nat :=
  match s.namingPhases m with
  | p :: _ => s.ticksOf p
  | [] => 0

/-- Does a mean taken 1 s earlier exist, so that T_RISE counts (R223)? -/
def State.riseKnown (s : State) (t : Nat) : Bool := decide (1000 < (s.therm t).means.length)

/-- The engine demand D (R62), rounded down. -/
def State.engineDemand (s : State) : Nat :=
  let inner := ((List.range 24).filter fun p => s.enabled (oPhase p) && !(s.phase p).laneCap).foldl
    (fun a p => a + (s.par (oPhase p) Pid.Phase.F_PWM).toNat) 0
  let outer := ((List.range 8).filter fun m => s.enabled (oOuter m)).foldl
    (fun a m => a + s.carrier m / (s.par (oOuter m) Pid.Loop.RATE_DIV).toNat) 0
  if s.inFloat then (inner + outer) / 8 else inner + outer

/-- The condition of a lane (Table 3-15): 0 IN_SERVICE, 1 TEST, 2 SUSPECT, 3 FAILED. -/
def State.lane (s : State) (l : Nat) : Nat :=
  (s.par oDevice Pid.Device.LANE_STATUS).toNat / 16 ^ l % 16

/-- Set the condition of a lane. -/
def State.setLane (s : State) (l c : Nat) : State :=
  s.updPar oDevice Pid.Device.LANE_STATUS fun v => v - (s.lane l : Int) * 16 ^ l + (c : Int) * 16 ^ l

/-- The lanes that are not FAILED. -/
def State.lanesNotFailed (s : State) : Nat := ((List.range 4).filter fun l => s.lane l != 3).length

/-- The lanes that are IN_SERVICE. -/
def State.lanesInService (s : State) : Nat := ((List.range 4).filter fun l => s.lane l == 0).length

/-- The capacitance in use, in nF (R272). -/
def State.choldUsed (s : State) : Int :=
  let m := s.par oDevice Pid.Device.CHOLD_MEASURED
  if m = 0 then s.par oDevice Pid.Device.CHOLD_RATED else m

/-- CHOLD_UNSAFE (R272). -/
def State.choldUnsafe (s : State) : Bool := decide (s.choldUsed < 371500)

/-- E_MILLPOND in mJ, rounded down (R272); `VHOLD_NOW` is in 10 µV and the capacitance in nF. -/
def State.eMillpond (s : State) : Int :=
  let v := s.par oDevice Pid.Device.VHOLD_NOW
  if s.choldUnsafe then 0
  else max 0 ((475 * s.choldUsed * (v * v - 650000 * 650000) - 12 * 10 ^ 19) / 10 ^ 19)

/-- Is a swap registered and not yet taken on the loop (Table 3-14)? -/
def State.swapPending (s : State) (n : Nat) : Bool :=
  s.wheel.swaps.any fun j => j.registered && j.left.contains n

/-- A bank of a loop: 0, 1, or 2 for the FLOAT image. -/
def LoopAux.bank (a : LoopAux) (k : Nat) : Option Bytes :=
  if k = 0 then a.bank0 else if k = 1 then a.bank1 else a.float

/-- The ACTIVE_BANK of a loop. -/
def State.activeBank (s : State) (n : Nat) : Nat := (s.par (oLoop n) Pid.Phase.ACTIVE_BANK).toNat

/-- Does a bank of the engine hold an uncorrectable word (R89)? -/
def LoopAux.bankBad (a : LoopAux) (k : Nat) : Bool := if k = 0 then a.bad0 else if k = 1 then a.bad1 else false

/-- Does the active bank hold an uncorrectable word (R89)? -/
def State.activeBad (s : State) (n : Nat) : Bool := (s.loop n).bankBad (s.activeBank n)

/-- Is the inactive bank empty (Table 3-14)? -/
def State.inactiveEmpty (s : State) (n : Nat) : Bool :=
  ((s.loop n).bank (1 - s.activeBank n)).isNone

/-- Is the inactive bank empty, or does it fail its CRC (check 8 of R81)? -/
def State.inactiveUnfit (s : State) (n : Nat) : Bool :=
  s.inactiveEmpty n || (s.loop n).bankBad (1 - s.activeBank n)

/-- Does the loop number a phase (true) or an outer loop? -/
def isPhaseLoop (n : Nat) : Bool := decide (n < 24)

/-- The loop number of a loop object. -/
def loopNo (o : Nat) : Nat := if o < 0x10 then 24 + (o - 0x08) else o - 0x10

/-- The feeders assigned to a segment. -/
def State.feedersOf (s : State) (b : Nat) : List Nat := (List.range 16).filter fun f => s.feederSeg f == b

/-- The strings assigned to a segment. -/
def State.stringsOf (s : State) (b : Nat) : List Nat := (List.range 4).filter fun k => s.stringSeg k == b

/-! ## OBJ_STATE as it reads -/

/-- Does the type use SAFE_HOLD (R34, R206, R241)? -/
def usesSafeHold (o : Nat) : Bool :=
  match objType o with
  | .segment | .outerLoop | .phase | .feeder | .module | .string | .rail => true
  | _ => false

/-- OBJ_STATE of a rail (R241). -/
def State.railState (s : State) (v : Nat) : Int :=
  let r := s.rail v
  if s.safeHold then osSafeHold
  else if r.delaying || r.qualifying && !r.timedOut && !r.faulted then osStarting
  else if r.good then osActive
  else if r.en then osDegraded
  else if r.faulted then osDegraded
  else osWaiting

/-- The live bits of MOD_STATUS (Table 7-14). -/
def State.modLive (s : State) (m : Nat) : List (Nat × Bool) :=
  let a := s.module m
  let k := oString (m / 16)
  let v := s.par (oModule m) Pid.Module.V_MOD
  let r := s.par (oModule m) Pid.Module.AUTH_RESULT
  [(0, a.commLost), (1, a.lastSeq.isSome && decide (v > s.par k Pid.String.MOD_OV)),
   (2, a.lastSeq.isSome && decide (v < s.par k Pid.String.MOD_LVD)), (3, a.tempOut), (4, a.stale),
   (7, decide (r ≠ 0 ∧ r ≠ 1))]

/-- OBJ_STATE of a module (R206). -/
def State.moduleState (s : State) (m : Nat) : Int :=
  if !(s.modulesOf (m / 16)).contains m then osAbsent
  else if !s.enabled (oModule m) then osDisabled
  else if s.safeHold then osSafeHold
  else if !(s.module m).identified then osWaiting
  else if s.par (oModule m) Pid.Module.AUTH_RESULT == 1 && (s.modLive m).all (fun e => !e.2) then osActive
  else osDegraded

/-- A phase's OBJ_STATE before SAFE_HOLD: DEGRADED while clipped for 1 ms (R108). -/
def State.phaseState (s : State) (p : Nat) : Int :=
  let raw := s.objSt (oPhase p)
  if raw == osActive && ranFor (s.phase p).clipNs 1000000 then osDegraded else raw

/-- OBJ_STATE of a phase (R123). -/
def State.phaseNow (s : State) (p : Nat) : Int :=
  if !s.enabled (oPhase p) then osDisabled
  else if s.safeHold then osSafeHold
  else if s.objSt (oPhase p) == osDisabled then osWaiting else s.phaseState p

/-- The live bits of STRING_STATUS (Table 7-13). -/
def State.stringLive (s : State) (k : Nat) : List (Nat × Bool) :=
  let a := s.str k
  let o := oString k
  let ms := s.modulesOf k
  [(0, a.connected), (1, a.chgReg), (2, a.lvdOpen), (3, a.eodWarn), (4, a.disagree),
   (5, ms.any fun m => (s.module m).stale), (6, !ms.isEmpty && s.par o Pid.String.TRUST != 1),
   (7, s.weirSolo o), (8, a.chargeStop), (9, ms.any fun m => (s.module m).commLost),
   (11, a.learnDeferred)]

/-- Is one of the listed bits live? -/
def liveBit (l : List (Nat × Bool)) (n : Nat) : Bool := l.any fun e => e.1 == n && e.2

/-- A connected string's DEGRADED conditions (Table 7-2, R182). -/
def State.stringDegraded (s : State) (k : Nat) : Bool :=
  let l := s.stringLive k
  liveBit l 6 || liveBit l 5 || liveBit l 7 || liveBit l 9 || liveBit l 8 || s.weirBoth (oString k)

/-- A gated-on feeder's DEGRADED conditions (Table 6-2, R163, R164). -/
def State.feederDegraded (s : State) (f : Nat) : Bool :=
  let a := s.feeder f
  a.cl || s.weirSolo (oFeeder f) || s.weirBoth (oFeeder f) || a.chan.fail || !a.pg

/-- OBJ_STATE as it reads (R24 and each type's chapter). -/
def State.objNow (s : State) (o : Nat) : Int :=
  let raw := s.objSt o
  let held (v : Int) : Int := if s.safeHold then osSafeHold else v
  match objType o with
  | .shelf | .updater | .lifecycle | .fantail => osActive
  | .device => if s.time.onRefRc || raw == osDegraded then osDegraded else osActive
  | .segment =>
    if !s.enabled o then osDisabled
    else held (if raw == osActive && (s.phasesOfSeg (o - 4)).any (fun p =>
        s.phaseNow p == osFailed || s.phaseNow p == osDegraded || s.fantail.capHeld.any fun e => e.1 == p)
      then osDegraded else if raw == osDisabled then osWaiting else raw)
  | .outerLoop =>
    if !s.enabled o then osDisabled
    else held (if raw == osActive && ranFor (s.loop (24 + (o - 8))).limNs 1000000 then osDegraded
      else if raw == osDisabled then osWaiting else raw)
  | .phase => s.phaseNow (o - 0x10)
  | .feeder =>
    if !s.enabled o then osDisabled
    else held (if raw == osActive && s.feederDegraded (o - 0x30) then osDegraded
      else if raw == osDisabled then osWaiting else raw)
  | .module => s.moduleState (o - 0x40)
  | .string =>
    if s.par o Pid.String.MODULE_COUNT == 0 then osAbsent
    else if !s.enabled o then osDisabled
    else held (if raw == osActive && s.stringDegraded (o - 0x80) then osDegraded
      else if raw == osDisabled || raw == osAbsent then osWaiting else raw)
  | .rail => if !s.enabled o then osDisabled else s.railState (o - 0x90)
  | .pol =>
    let a := s.pol (o - 0xB0)
    if s.par o Pid.Pol.POL_ADDR == 0 then osAbsent
    else if a.badMode then osFailed
    else match a.lastFail with
      | some t => if s.time.tick < t + 1000000 then osDegraded else osActive
      | none => osActive
  | .thermal =>
    let a := s.therm (o - 0xD0)
    if !s.enabled o then osDisabled
    else if !a.ringOk then osFailed
    else if a.warn then osDegraded else osActive
  | .satellite =>
    if s.par oDevice Pid.Device.CONFIGURATION == 0 then osAbsent
    else if !s.enabled o then osDisabled
    else if raw == osAbsent then osDisabled else raw
  | .timer =>
    let lead := if o % 2 = 1 && s.par (o - 1) Pid.Timer.LINK == 1 then o - 1 else o
    if s.enabled lead then osActive else osDisabled
  | .hostPort =>
    if !s.enabled o then osDisabled
    else if s.par o Pid.HPort.CAUTIOUS != 0 then osDegraded else osActive
  | .downPort =>
    if raw == osFailed then osFailed else if s.enabled o then osActive else osDisabled
  | .grist =>
    if s.grist.mirrorLate || !s.grist.held.isEmpty then osDegraded else osActive
  | .dresser =>
    let st := s.par o Pid.Dresser.DRESSER_STATUS
    if bitOf st 2 || bitOf st 3 || bitOf st 4 || !s.dresser.repairs.isEmpty then osDegraded else osActive
  | .reserved => 0

/-! ## Live status bits -/

/-- FLOAT_BLOCK as it stands (Table 10-10). In FLOAT the swaps of its own entry do not count. -/
def State.floatBlockNow (s : State) : Int :=
  let segs := (List.range 4).filter fun b => s.enabled (oSeg b)
  let starting (o : Nat) : Bool := s.objNow o == osStarting
  bitsOf [
    (0, s.par oDevice Pid.Device.FLOAT_ENABLE == 0),
    (1, s.shelfState != ssNormal),
    (2, segs.any fun b => s.objNow (oSeg b) != osActive),
    (3, segs.any fun b => !(s.stringsOf b).any fun k =>
      (s.str k).connected && s.par (oString k) Pid.String.MODEL_MODE == 4),
    (4, segs.any fun b => decide (s.par (oSeg b) Pid.Segment.P_SERVED * 10000 >
      s.par oDevice Pid.Device.FLOAT_LOAD_MAX * s.par (oSeg b) Pid.Segment.P_IN)),
    (5, (List.range 16).any (fun f => starting (oFeeder f)) ||
        (List.range 4).any (fun k => starting (oString k) || starting (oSeg k))),
    (6, (List.range 32).any fun n => s.enabled (oLoop n) && (s.loop n).float.isNone),
    (7, s.wheel.swaps.any (fun j => j.op.isSome || !s.inFloat) || s.flume.running),
    (8, (List.range 4).any fun b => s.par (oSeg b) Pid.Segment.INPUT_LOST == 1),
    (9, s.supply.sag || s.choldUnsafe)]

/-- JOIN_WAIT: a joining unit has seen the line low, or its 2 ms watch has passed without its reset, which says the same (R255). -/
def State.joinWaits (s : State) : Bool :=
  s.seq.joinWait || (s.par oShelf Pid.Shelf.SEQ_PHASE == 4 && s.seq.pulse == .none && decide (s.seq.joinTick + 2000 ≤ s.time.tick))

/-- The live bits of a status parameter, where it has any. -/
def State.live (s : State) (o pid : Nat) : List (Nat × Bool) :=
  match objType o with
  | .device =>
    if pid = Pid.Device.HOLD_STATUS then
      [(0, s.supply.vauxGood), (1, decide (s.par oDevice Pid.Device.VHOLD_NOW ≥ 1100000)),
       (2, s.supply.sag), (3, s.supply.rideThrough), (4, s.saveArmedNow), (5, s.choldUnsafe),
       (11, s.supply.unproven)]
    else if pid = Pid.Device.CLOCK_STATUS then
      [(0, s.time.onAonRc), (2, s.time.onRefRc), (6, s.time.wallValid), (7, s.time.wallSuspect),
       (8, s.time.slew.isSome)]
    else []
  | .shelf =>
    if pid = Pid.Shelf.COG_STATUS then
      [(0, s.seq.holding || s.seq.pulse != .none), (5, s.seq.detached), (6, s.joinWaits), (7, s.seq.lineLow)]
    else []
  | .phase =>
    let p := o - 0x10
    let a := s.phase p
    if pid = Pid.Phase.PHASE_STATUS then
      [(0, a.switching), (1, a.reefed), (2, a.clipped), (3, a.softStart), (4, a.moving), (5, a.suspect)]
    else if pid = Pid.Phase.LOOP_STATUS then
      let l := s.loop p
      [(0, l.outLow), (1, l.outHigh), (3, l.intClamp), (4, l.hold), (5, s.swapPending p),
       (6, s.inactiveEmpty p)]
    else if pid = Pid.Phase.SENSE_STATUS then
      let c := a.chan
      [(0, c.fail), (1, c.range), (2, c.stuck), (3, c.check), (11, c.frozen)]
    else []
  | .outerLoop =>
    let n := 24 + (o - 8)
    if pid = Pid.Loop.LOOP_STATUS then
      let l := s.loop n
      [(0, l.outLow), (1, l.outHigh), (3, l.intClamp), (4, l.hold), (5, s.swapPending n),
       (6, s.inactiveEmpty n)]
    else []
  | .segment =>
    if pid = Pid.Segment.SENSE_STATUS then
      let c := s.chanOf o
      [(0, c.fail), (1, c.range), (2, c.stuck), (3, c.check), (11, c.frozen)]
    else []
  | .feeder =>
    let a := s.feeder (o - 0x30)
    if pid = Pid.Feeder.FEEDER_STATUS then
      [(0, a.gate), (1, a.pg), (2, a.vgsOk), (3, a.cl), (4, a.seated), (5, a.windowOk),
       (6, decide (a.timer > 0)), (7, a.soaRun), (8, a.itRun), (9, s.weirSolo o), (10, a.chan.fail)]
    else if pid = Pid.Feeder.SENSE_STATUS then
      let c := a.chan
      [(0, c.fail), (1, c.range), (2, c.stuck), (3, c.check), (11, c.frozen)]
    else []
  | .string =>
    if pid = Pid.String.STRING_STATUS then s.stringLive (o - 0x80)
    else if pid = Pid.String.SENSE_STATUS then
      let c := s.chanOf o
      [(0, c.fail), (1, c.range), (2, c.stuck), (3, c.check), (11, c.frozen)]
    else []
  | .module => if pid = Pid.Module.MOD_STATUS then s.modLive (o - 0x40) else []
  | .rail =>
    let r := s.rail (o - 0x90)
    if pid = Pid.Rail.RAIL_STATUS then
      [(0, r.en), (1, r.pg), (2, r.good), (3, r.qualifying), (4, r.discharging)]
    else []
  | .thermal =>
    if pid = Pid.Thermal.THERM_STATUS then
      [(0, decide (s.par o Pid.Thermal.T_NOW ≥ s.par o Pid.Thermal.T_WARN)),
       (1, s.riseKnown (o - 0xD0) && decide (s.par o Pid.Thermal.T_RISE ≥ s.par o Pid.Thermal.RISE_WARN))]
    else []
  | .timer =>
    let t := o - 0xE8
    let a := s.timer t
    let lead := if t % 2 = 1 && s.par (o - 1) Pid.Timer.LINK == 1 then o - 1 else o
    if pid = Pid.Timer.TM_STATUS then
      [(3, a.queue.length % 2 == 1), (4, a.queue.length / 2 % 2 == 1), (5, decide (a.queue.length ≥ 4)),
       (6, s.par (oTimer (t - t % 2)) Pid.Timer.LINK == 1),
       (7, s.time.halted && s.par lead Pid.Timer.FREEZE_ON_HALT == 1)]
    else []
  | .downPort =>
    if pid = Pid.Down.DS_STATUS then [(4, (s.down (o - 0xF2)).busStuck)] else []
  | .grist =>
    if pid = Pid.Grist.GRIST_STATUS then
      [(0, decide (s.grist.first.length ≥ 512)), (1, s.grist.mirrorLate), (3, !s.grist.held.isEmpty),
       (5, s.grist.nonce.isSome)]
    else []
  | .dresser =>
    if pid = Pid.Dresser.DRESSER_STATUS then
      [(0, s.lanesNotFailed == 3), (1, !s.dresser.repairs.isEmpty),
       (8, match s.dresser.granted with
           | some (.slice _ _) => true
           | some (.logic _) => true
           | _ => false)]
    else []
  | .fantail =>
    if pid = Pid.Fantail.FANTAIL_STATUS then
      [(0, s.fantail.overcommit), (1, s.fantail.contShort), (2, s.fantail.reserveShort),
       (3, (List.range 8).any fun z => s.par oFantail Pid.Fantail.ZONE_STATE / 4 ^ z % 4 == 1)]
    else []
  | _ => []

/-- A status word: the stored sticky bits with the live bits as they stand. -/
def withLive (v : Int) : List (Nat × Bool) → Int
  | [] => v
  | (n, b) :: rest => withLive (setBitTo v n b) rest

/-! ## Parameters as they read -/

/-- Values that are computed or fixed and not stored; none where the stored value is read. ENABLE of an object that cannot be
disabled reads 1 (R26). -/
def State.derived (s : State) (o pid : Nat) : Option Int :=
  if pid = Pid.OBJ_STATE then some (s.objNow o)
  else if pid = Pid.ENABLE && alwaysEnabled o then some 1
  else match objType o with
  | .device =>
    if pid = Pid.Device.TICK_NOW then some s.time.tick
    else if pid = Pid.Device.WALL_NOW then some s.wallNow
    else if pid = Pid.Device.ENGINE_DEMAND then some s.engineDemand
    else if pid = Pid.Device.ENGINE_CAPACITY then some (18750000 * (s.lanesNotFailed : Int))
    else none
  | .hostPort =>
    let me : HostPort := if o = 0xF0 then .ha else .hb
    if pid = Pid.HPort.HOPPER_IN_FLIGHT then
      some ((s.hopper.ops.filter fun e => e.port == me && !e.control).length : Nat)
    else if pid = Pid.HPort.VIOLATIONS_1S then
      some (min 255 (((s.port me).viol.filter fun t => decide (s.time.tick < t + 1000000)).length : Nat))
    else none
  | .outerLoop =>
    let m := o - 8
    if pid = Pid.Loop.PHASE_MASK then
      some ((s.maskPhases m).foldl (fun (a : Int) p => a + 2 ^ p) 0)
    else if pid = Pid.Loop.N_ACT then some ((s.actPhases m).length : Nat)
    else none
  | .phase =>
    let p := o - 0x10
    if pid = Pid.Phase.FS_CURRENT then some (s.fsCurrent p)
    else if pid = Pid.Phase.PERIOD_ACTUAL then some (s.periodOf p)
    else none
  | .feeder =>
    let a := s.feeder (o - 0x30)
    if pid = Pid.Feeder.WEIR_THRESH_I then
      some (roundDiv (s.par o Pid.Feeder.WEIR_THRESH % 1024 * 10 ^ 9) (s.par o Pid.Feeder.SENSE_RNOM))
    else if pid = Pid.Feeder.SOA_ACC then some ((a.soa / 32000 : Nat) : Int)
    else if pid = Pid.Feeder.IT_LEVEL then some (roundDiv ((a.itLevel : Int) * 10000) (2 ^ 48))
    else if pid = Pid.Feeder.DOWN_STATE then
      some (if a.downOwn then s.par o Pid.Feeder.DOWN_STATE else 23 - s.par o Pid.PRIORITY)
    else none
  | .module => if pid = Pid.ENABLE then some (b2i (s.enabled o)) else none
  | .timer =>
    if pid = Pid.Timer.CAPTURE then
      some (match (s.timer (o - 0xE8)).queue with
        | [] => 0
        | w :: _ => (w.toNat : Int))
    else none
  | .updater =>
    if pid = Pid.Updater.CHECKIN_LEFT then
      s.upd.checkin.map fun t => max 0 (10000000 - ((s.time.tick : Int) - t))
    else none
  | .fantail => if pid = Pid.Fantail.E_MILLPOND then some s.eMillpond else none
  | .segment =>
    if pid = Pid.Segment.I_SUM then
      some ((s.feedersOf (o - 4)).foldl (fun a f => a + s.par (oFeeder f) Pid.Feeder.I_METER) 0)
    else none
  | _ => none

/-- What a parameter reads (R5), without the effect of reading it; a write-only parameter reads 0. -/
def State.read (s : State) (o pid : Nat) : Int :=
  match findDesc o pid with
  | none => 0
  | some d =>
    if d.acc = .wo then 0
    else match s.derived o pid with
      | some v => v
      | none => withLive (s.par o pid) (s.live o pid)

/-- The little-endian bytes of a value in an encoding (R10, R366). -/
def encBytes (e : Enc) (v : Int) : Bytes := leBytes e.size v

end Sys2Proof.Machine
end

