-- ==== Sys2Proof/Machine/Journal.lean ====
section
/-! DEFINITION. The two slots of every journaled record: which one a write takes, what a boot uses, and torn writes
(R280). -/

namespace Sys2Proof.Machine

/-! ## Records -/

/-- The numbers of the records that are not an object's. -/
abbrev jrTick : Nat := 0x1000
abbrev jrCounters : Nat := 0x1001
def jrBank (b : Nat) : Nat := 0x1002 + b
def jrString (k : Nat) : Nat := 0x1100 + k
def jrModule (m : Nat) : Nat := 0x1200 + m

/-- The number of a record. -/
def recordNo : JournalRecord → Nat
  | .object o => o.toNat
  | .string k => jrString k.val
  | .module m => jrModule m.val
  | .counters => jrCounters
  | .tick => jrTick
  | .bank b => jrBank b.val

/-- The parameter of a bank's state, which its trailer page holds (R401). -/
def bankPid (b : Nat) : Nat := if b = 0 then Pid.Updater.BANK_A_STATE else Pid.Updater.BANK_B_STATE

/-- The bank-state records that a transaction writes (R406, R407, R410, R411). -/
def State.bankKeys (s : State) (w : NvmWork) : List Nat :=
  let running := (s.par oUpdater Pid.Updater.RUNNING_BANK).toNat
  match w with
  | .staged | .cancelBank => [jrBank s.upd.target]
  | .activate => [jrBank (1 - running), jrBank running]
  | .good => [jrBank running]
  | _ => []

/-- The records that are written at most once per second (R280): those of a string stand for its modules' too. -/
def recordKeys (w : NvmWork) : List Nat :=
  match w with
  | .tickRecord => [jrTick]
  | .configObjects l => l
  | .loopImage n _ => [oLoop n]
  | .triggers => [oGrist]
  | .shutdownCause => [oShelf]
  | .tracking o => [o]
  | .battery l => l.map jrString
  | .counters => [jrCounters]
  | _ => []

/-- Every record that a write writes: a string's with those of its modules (R198). -/
def State.journalKeys (s : State) (w : NvmWork) : List Nat :=
  recordKeys w ++ match w with
    | .battery l => l.flatMap fun k => (s.modulesOf k).map jrModule
    | _ => []

/-! ## What a record holds -/

/-- The journal values of an object in a list of them. -/
def ofObject (o : Nat) (l : List (Nat × Int)) : List (Nat × Int) := l.filter fun e => e.1 / 4096 == o

/-- A list of journal values with those of an object replaced. -/
def replaceObject (o : Nat) (new l : List (Nat × Int)) : List (Nat × Int) :=
  new.foldl (fun l e => insertKey e.1 e.2 l) (l.filter fun e => e.1 / 4096 != o)

/-- The loop of a control-loop object, 32 for any other. -/
def loopOf (o : Nat) : Nat := ((List.range 32).find? fun n => oLoop n == o).getD 32

/-- What the slot written last holds of a record, under a GENERATION. -/
def State.recordData (s : State) (k gen : Nat) : SlotData :=
  if k = jrTick then
    { gen := gen, images := [], trigs := none,
      vals := [(0, s.par oDevice Pid.Device.TICK_CEILING), (1, s.time.ceilingOffset)] }
  else if k = jrCounters then { gen := gen, vals := s.nvm.counters, images := [], trigs := none }
  else if k = jrBank 0 ∨ k = jrBank 1 then
    { gen := gen, vals := [(0, s.par oUpdater (bankPid (if k = jrBank 0 then 0 else 1)))], images := [], trigs := none }
  else if k ≥ jrModule 0 then
    { gen := gen, vals := ofObject (oModule (k - jrModule 0)) s.nvm.battery, images := [], trigs := none }
  else if k ≥ jrString 0 then
    { gen := gen, vals := ofObject (oString (k - jrString 0)) s.nvm.battery, images := [], trigs := none }
  else
    { gen := gen, vals := ofObject k s.nvm.config, images := s.nvm.images.filter fun e => e.1.1 == loopOf k,
      trigs := if k = oGrist then some s.nvm.triggers else none }

/-- The journals hold what a slot holds of a record; with none, nothing of it. -/
def State.takeRecord (s : State) (k : Nat) (d : Option SlotData) : State :=
  let vals := (d.map (·.vals)).getD []
  if k = jrTick then
    let s := s.setPar oDevice Pid.Device.TICK_CEILING ((lookupKey 0 vals).getD 0)
    { s with time := { s.time with ceilingWritten := d.isSome, ceilingOffset := (lookupKey 1 vals).getD 0 } }
  else if k = jrCounters then { s with nvm := { s.nvm with counters := vals } }
  else if k = jrBank 0 ∨ k = jrBank 1 then
    s.setPar oUpdater (bankPid (if k = jrBank 0 then 0 else 1)) ((lookupKey 0 vals).getD 0)
  else if k ≥ jrModule 0 then
    { s with nvm := { s.nvm with battery := replaceObject (oModule (k - jrModule 0)) vals s.nvm.battery } }
  else if k ≥ jrString 0 then
    { s with nvm := { s.nvm with battery := replaceObject (oString (k - jrString 0)) vals s.nvm.battery } }
  else
    { s with nvm := { s.nvm with
      config := replaceObject k vals s.nvm.config
      images := (d.map (·.images)).getD [] ++ s.nvm.images.filter fun e => e.1.1 != loopOf k
      triggers := if k = oGrist then
          ((d.bind (·.trigs)).getD (Vector.replicate 16 Trigger.undefined)) else s.nvm.triggers } }

/-! ## Slots -/

/-- The pair of a record. -/
def State.journalPair (s : State) (k : Nat) : Option JournalPair := s.nvm.journal.find? fun j => j.record == k

/-- Put a record's pair. -/
def State.setPair (s : State) (j : JournalPair) : State :=
  { s with nvm := { s.nvm with journal := j :: s.nvm.journal.filter fun x => x.record != j.record } }

/-- A record is about to be written: the write goes to the slot that is invalid or holds the lower generation, and carries
the higher valid generation plus 1, or 1 if neither slot is valid. -/
def State.journalWrite (s : State) (k : Nat) : State :=
  match s.journalPair k with
  | none => s.setPair { record := k, gen := 1, place := 0, newest := true, older := none }
  | some j =>
    if j.newest then
      s.setPair { j with gen := j.gen + 1, place := 1 - j.place, older := some (s.recordData k j.gen) }
    else match j.older with
      | some d => s.setPair { j with gen := d.gen + 1, newest := true }
      | none => s.setPair { j with gen := 1, newest := true }

/-- One more write found torn at the next boot. -/
def State.tornWrite (s : State) : State := { s with nvm := { s.nvm with torn := s.nvm.torn + 1 } }

/-- The write of a record is cut short: the slot being written is invalid, and the write was torn where the other slot
is valid. -/
def State.journalCut (s : State) (k : Nat) : State :=
  match s.journalPair k with
  | none => s
  | some j => if j.newest then (s.setPair { j with older := none }).tornWrite
              else if j.older.isSome then s.tornWrite else s

/-- A transaction is cut short: the record at hand is torn (log entry 39). -/
def State.cutWrite (s : State) (w : NvmWork) : State :=
  match s.journalKeys w ++ s.bankKeys w with
  | k :: _ => s.journalCut k
  | [] => s

/-- A slot of a record cannot be read (Table 13-2): it is invalid. Where it held the higher generation the other one is used
at the boot, and the write counts as torn. -/
def State.journalLose (s : State) (k slot : Nat) : State :=
  match s.journalPair k with
  | none => s
  | some j =>
    if slot ≠ j.place then s.setPair { j with older := none }
    else if j.newest then
      let s := s.setPair { j with newest := false }
      if j.older.isSome then s.tornWrite else s
    else s

/-- Boot: of each record the valid slot with the higher generation is used; with none, its chapter's default. -/
def State.bootJournal (s : State) : State :=
  (s.nvm.journal.filter fun j => !j.newest).foldl (fun s j =>
    let s := s.takeRecord j.record j.older
    match j.older with
    | some d => s.setPair { j with gen := d.gen, place := 1 - j.place, newest := true, older := none }
    | none => { s with nvm := { s.nvm with journal := s.nvm.journal.filter fun x => x.record != j.record } }) s

end Sys2Proof.Machine
end

