-- ==== Sys2Proof/Machine/Records.lean ====
section
/-! DEFINITION. Grist: how a record is created, numbered, stored, deferred and read (R315 to R326). -/

namespace Sys2Proof.Machine

/-- Record classes (Table 12-2). -/
abbrev rcLatch : Nat := 0x00
abbrev rcFault : Nat := 0x01
abbrev rcService : Nat := 0x02
abbrev rcState : Nat := 0x03
abbrev rcConfig : Nat := 0x04
abbrev rcSecurity : Nat := 0x05
abbrev rcSupply : Nat := 0x06
abbrev rcUser : Nat := 0x07
abbrev rcRecorder : Nat := 0x0F

/-- A 32-bit number plus 1, passing from 0xFFFFFFFF to 1 (R23, R320). -/
def seqAfter (n : Nat) : Nat := if n ≥ 4294967295 then 1 else n + 1

/-- A number brought into 1 to 0xFFFFFFFF as repeated seqAfter would. -/
def seqWrap (n : Nat) : Nat := if n = 0 then 0 else (n - 1) % 4294967295 + 1

/-- The snapshot words of one value (R318): sign- or zero-extended, a 64-bit value in two, low word first. -/
def Snap.words (s : State) : Snap → List Word
  | .lit v => [BitVec.ofInt 32 v]
  | .lit64 v => [BitVec.ofInt 32 v, BitVec.ofInt 32 (v / 4294967296)]
  | .par o pid =>
    let v := s.read o pid
    match findDesc o pid with
    | some d => if d.enc.size = 8 then [BitVec.ofInt 32 v, BitVec.ofInt 32 (v / 4294967296)]
                else [BitVec.ofInt 32 v]
    | none => [0]

/-- The count a list of pairs holds for a key. -/
def countOf (k : Nat) (l : List (Nat × Nat)) : Nat :=
  match l.find? fun e => e.1 == k with
  | some e => e.2
  | none => 0

/-- The sequence number a source's next record takes (R319, R325). -/
def State.nextSeq (s : State) (source : Nat) : Nat :=
  let cur := (s.par source Pid.SOURCE_SEQ).toNat
  match s.grist.gap with
  | some g =>
    if s.grist.resumed.contains source then seqAfter cur
    else seqWrap (max g (countOf source s.grist.found + 1048577))
  | none => seqAfter cur

/-- One more for a key. -/
def bumpCount (k : Nat) : List (Nat × Nat) → List (Nat × Nat)
  | [] => [(k, 1)]
  | (k', n) :: rest => if k = k' then (k', n + 1) :: rest else (k', n) :: bumpCount k rest

/-- The generation of the last record of a list, 0 where it is empty. -/
def lastGen (l : List Rec) : Nat :=
  match l.getLast? with
  | some r => r.gen
  | none => 0

/-- The generation of the first record of a list, 0 where it is empty. -/
def headGen (l : List Rec) : Nat :=
  match l with
  | r :: _ => r.gen
  | [] => 0

/-- The parameters that show the two areas (Table 12-9). -/
def State.gristParams (s : State) : State :=
  ((((s.setPar oGrist Pid.Grist.NEWEST_GEN (headGen s.grist.circ)).setPar
    oGrist Pid.Grist.OLDEST_GEN (lastGen s.grist.circ)).setPar
    oGrist Pid.Grist.FIRST_BASE_GEN (lastGen s.grist.first)).setPar
    oGrist Pid.Grist.FIRST_COUNT (s.grist.first.length : Nat))

/-- Store one record in the circular area, and in the first area while it holds fewer than 512 (R320 to
R322). -/
def State.storeRec (s : State) (source cls event : Nat) (late : Bool) (words : List Word) : State :=
  let seq := s.nextSeq source
  let inFirst := decide (s.grist.first.length < 512)
  let r : Rec := { source := source, cls := cls, event := event, late := late, first := inFirst,
                   seq := seq, tick := s.time.tick, wall := s.wallNow, gen := s.grist.nextGen,
                   snap := words.take 16 }
  let g := { s.grist with
    nextGen := seqAfter s.grist.nextGen
    resumed := if s.grist.resumed.contains source then s.grist.resumed else source :: s.grist.resumed
    circ := r :: s.grist.circ.filter fun x => x.gen % 2048 != r.gen % 2048
    first := if inFirst then r :: s.grist.first else s.grist.first
    created := bumpCount source s.grist.created }
  ({ s with grist := g }.setPar source Pid.SOURCE_SEQ seq).gristParams

/-- Create one record now: suppressed past 2^20 − 1 of its source since the last mirror (R326); the 512th
of the first area is followed by FIRST_FULL and the recorder ALERT (R322). -/
def State.createRec (s : State) (source cls event : Nat) (late : Bool) (snap : List Snap) : State :=
  if countOf source s.grist.created ≥ 1048575 then
    { s with grist := { s.grist with held := bumpCount source s.grist.held } }.incPar
      oGrist Pid.Grist.SUPPRESSED
  else
    let t := s.storeRec source cls event late (snap.flatMap (Snap.words s))
    if s.grist.first.length < 512 && t.grist.first.length == 512 then
      (t.storeRec oGrist rcRecorder 0xF4 false
        [BitVec.ofInt 32 (t.par oGrist Pid.Grist.FIRST_BASE_GEN)]).raise alRecorder
    else t

/-- A record whose cause Miller sees on the control side: created at once, or after the level 3 restart in
progress (R319). Nothing is created while firmware does not run. -/
def State.record (s : State) (source cls event : Nat) (snap : List Snap) : State :=
  if !s.running then s
  else if s.miller.restarting then
    { s with grist := { s.grist with deferred :=
        s.grist.deferred ++ [⟨source, cls, event, snap, false⟩] } }
  else s.createRec source cls event false snap

/-- A record whose cause the power-side die detects: it waits for the link too (R15, R319). -/
def State.recordPsd (s : State) (source cls event : Nat) (snap : List Snap) : State :=
  if s.running && s.linkUp then s.record source cls event snap
  else { s with grist := { s.grist with deferred :=
      s.grist.deferred ++ [⟨source, cls, event, snap, true⟩] } }

/-- Create the deferred records of one kind, LATE set, in the order of their causes (R319). -/
def State.flushRecords (s : State) (psd : Bool) : State :=
  let l := s.grist.deferred
  let s := { s with grist := { s.grist with deferred := l.filter fun d => d.psd != psd } }
  (l.filter fun d => d.psd == psd).foldl (fun s d => s.createRec d.source d.cls d.event true d.snap) s

/-- NSNAP_FLAGS (Table 12-4). -/
def Rec.flags (r : Rec) : Nat :=
  r.snap.length % 32 + (if r.first then 64 else 0) + (if r.late then 128 else 0)

/-- The bytes of a record (Table 12-1). -/
def Rec.bytes (r : Rec) : Bytes :=
  let head := leBytes 1 r.source ++ leBytes 1 r.cls ++ leBytes 1 r.event ++ leBytes 1 r.flags ++
    leBytes 4 r.seq ++ leBytes 8 r.tick ++ leBytes 8 r.wall ++ leBytes 4 r.gen
  let snap := r.snap.flatMap fun w => leBytes 4 w.toNat
  head ++ leBytes 4 (crc32c (head ++ snap)).toNat ++ snap

/-- Set a FAULT_LATCH bit without a latch event. -/
def State.faultBit (s : State) (o bit : Nat) : State := s.setBit o Pid.FAULT_LATCH bit

/-- A latch event: the causes' bits are set and TRIP_COUNT counts it, saturating at 255 (Table 1-7). -/
def State.faultEvent (s : State) (o : Nat) (bits : List Nat) : State :=
  let s := s.updPar o Pid.FAULT_LATCH fun v =>
    if v / 16777216 % 256 < 255 then v + 16777216 else v
  bits.foldl (fun s b => s.faultBit o b) s

/-- FAULT_LATCH is cleared as a whole (R25). -/
def State.clearFaults (s : State) (o : Nat) : State := s.setPar o Pid.FAULT_LATCH 0

/-- FAULT_LATCH bits (Table 1-7). -/
abbrev flFastTrip : Nat := 0
abbrev flFaultTimer : Nat := 1
abbrev flSoa : Nat := 2
abbrev flItCurve : Nat := 3
abbrev flOverVoltage : Nat := 4
abbrev flUnderVoltage : Nat := 5
abbrev flThermal : Nat := 6
abbrev flSenseFail : Nat := 7
abbrev flOpenPhase : Nat := 8
abbrev flHiccupLimit : Nat := 9
abbrev flAuth : Nat := 10
abbrev flComm : Nat := 11
/-- Bit `n` of TYPE_SPECIFIC. -/
abbrev flType (n : Nat) : Nat := 16 + n

end Sys2Proof.Machine
end

