-- ==== Sys2Proof/Machine/Timers.lean ====
section
/-! DEFINITION. The clock domains, and the timers TM0 to TM7 (R291, R304 to R312). -/

namespace Sys2Proof.Machine

/-! ## Clock domains (R291) -/

/-- The clock domains (Table 11-1). -/
inductive ClockDomain where
  | aon | hostAsync (p : HostPort) | core | engine | pwm | adc | psdCore | nvm
  deriving DecidableEq, Repr

/-- Does a domain's clock run (Table 11-1)? The CORE clock of the ROM's recovery counts with RUN. The host asynchronous domains run in
WATCH and until the woken port releases SCL. -/
def State.clockRuns (s : State) (d : ClockDomain) : Bool :=
  let core := s.supply.cs == .run || s.supply.cs == .saving || s.supply.cs == .rom
  let powered := s.supply.cs == .run && s.deviceMode != 2
  match d with
  | .aon => s.supply.cs != .off
  | .hostAsync p => s.supply.cs == .watch || (s.port p).stretch
  | .core | .nvm => core
  | .engine => powered
  | .pwm | .adc => powered && s.linkUp
  | .psdCore => s.supply.psdOk

/-- Does the CORE clock run: RUN, FLOAT and the critical save (Table 11-1)? -/
def State.coreClock (s : State) : Bool := s.clockRuns .core

/-! ## Timers (R304 to R312) -/

/-- TM_STATUS sticky bits (Table 11-11). -/
abbrev tmMATCH : Nat := 0
abbrev tmWRAP : Nat := 1
abbrev tmCAP_OVERFLOW : Nat := 2

/-- Is a timer part of a linked pair (R308)? -/
def State.linked (s : State) (t : Nat) : Bool := s.par (oTimer (t - t % 2)) Pid.Timer.LINK == 1

/-- The timer whose ENABLE, FREEZE_ON_HALT, TM_MODE and OUT_MODE govern. -/
def State.leader (s : State) (t : Nat) : Nat := if s.linked t then t - t % 2 else t

/-- COUNT of a timer. -/
def State.count (s : State) (t : Nat) : Nat := (s.par (oTimer t) Pid.Timer.COUNT).toNat

/-- Set COUNT. -/
def State.setCount (s : State) (t n : Nat) : State := s.setPar (oTimer t) Pid.Timer.COUNT (n % 4294967296 : Nat)

/-- Is a timer frozen by a halt (R310)? -/
def State.timerFrozen (s : State) (t : Nat) : Bool :=
  s.time.halted && s.par (oTimer (s.leader t)) Pid.Timer.FREEZE_ON_HALT == 1

/-- Does a timer count: its ENABLE is 1, its clock runs and no halt freezes it? -/
def State.counting (s : State) (t : Nat) : Bool :=
  s.coreClock && s.enabled (oTimer (s.leader t)) && !s.timerFrozen t

/-- What a match does: MATCH, ALERT, and the ball by OUT_MODE (R305, R306). -/
def State.matched (s : State) (t : Nat) : State :=
  let o := oTimer t
  let s := s.setBit o Pid.Timer.TM_STATUS tmMATCH
  let s := if s.par o Pid.Timer.MATCH_ALERT == 1 then s.raise alTimer else s
  let mode := s.par o Pid.Timer.OUT_MODE
  s.modTimer t fun a =>
    if mode == 1 then { a with level := true }
    else if mode == 2 then { a with level := false }
    else if mode == 3 then { a with level := !a.level }
    else if mode == 4 then { a with level := true, pulse := true }
    else a

/-- With OUT_MODE 4 the ball goes low one prescaled tick after a match (R306). -/
def State.pulseEnd (s : State) (t : Nat) : State :=
  if (s.timer t).pulse && s.par (oTimer t) Pid.Timer.OUT_MODE == 4 then
    s.modTimer t fun a => { a with level := false, pulse := false }
  else s

/-- The value of a timer, or of the pair that it leads, and its compare value. -/
def State.timerValue (s : State) (t pid : Nat) : Nat :=
  if s.linked t then (s.par (oTimer t) pid).toNat + 4294967296 * (s.par (oTimer (t + 1)) pid).toNat
  else (s.par (oTimer t) pid).toNat

/-- Set the value of a timer or of the pair that it leads. -/
def State.setValue (s : State) (t n : Nat) : State :=
  if s.linked t then (s.setCount t n).setCount (t + 1) (n / 4294967296) else s.setCount t n

/-- The instant of an advance: the prescaler starts its next count, and a pulse of an earlier match has ended (R304, R306). -/
def State.advanced (s : State) (t : Nat) : State := (s.modTimer t fun a => { a with prePos := 0 }).pulseEnd t

/-- WRAP of a timer, or of both words of a pair that passes its end. -/
def State.wrapped (s : State) (t : Nat) : State :=
  let s := s.setBit (oTimer t) Pid.Timer.TM_STATUS tmWRAP
  if s.linked t then s.setBit (oTimer (t + 1)) Pid.Timer.TM_STATUS tmWRAP else s

/-- TIMER_MATCH: the counter advances into COMPARE, past a wrap where it stands at or above it, and past a wrap of the
low word where a pair's high word changes on the way (R304, R305, R309). -/
def execTimerMatch (tm : Fin 8) (s : State) : Host.Outcome State Fault Refusal :=
  let t := tm.val
  if !s.counting t || s.leader t != t then .next s
  else
    let c := s.timerValue t Pid.Timer.COMPARE
    let v := s.timerValue t Pid.Timer.COUNT
    let s := if c ≤ v then s.wrapped t
      else if v / 4294967296 < c / 4294967296 then s.setBit (oTimer t) Pid.Timer.TM_STATUS tmWRAP else s
    .next (((s.setValue t c).advanced t).matched t)

/-- TIMER_WRAP: the counter passes from 0xFFFFFFFF to 0, and in a pair carries into the high word (R304, R308).
A compare value not yet reached, or 0, is met on the way. -/
def execTimerWrap (tm : Fin 8) (s : State) : Host.Outcome State Fault Refusal :=
  let t := tm.val
  let l := s.leader t
  if !s.counting t then .next s
  else if s.linked t && t = l && s.count (t + 1) < 4294967295 then
    let next := (s.count (t + 1) + 1) * 4294967296
    let c := s.timerValue t Pid.Timer.COMPARE
    let hit := decide (s.timerValue t Pid.Timer.COUNT < c) && decide (c ≤ next)
    let s := ((s.setValue t next).advanced t).setBit (oTimer t) Pid.Timer.TM_STATUS tmWRAP
    .next (if hit then s.matched t else s)
  else
    let c := s.timerValue l Pid.Timer.COMPARE
    let hit := decide (s.timerValue l Pid.Timer.COUNT < c) || c == 0
    let s := ((s.setValue l 0).advanced l).wrapped l
    .next (if hit then s.matched l else s)

/-- TIMER_CAPTURE: an edge on TMRn at a count; a timer with ENABLE = 0 holds its value, and the edge takes that one
(R304, R307, R309). -/
def execTimerCapture (tm : Fin 8) (rising : Bool) (count : Word) (s : State) : Host.Outcome State Fault Refusal :=
  let t := tm.val
  let o := oTimer t
  let mode := s.par o Pid.Timer.TM_MODE
  let wanted := mode == 3 || (mode == 1 && rising) || (mode == 2 && !rising)
  if !s.coreClock || s.timerFrozen t || s.leader t != t || !wanted || s.par o Pid.Timer.OUT_MODE != 0 then .next s
  else
    let count := if s.counting t then count else BitVec.ofNat 32 (s.count t)
    let s := s.setCount t count.toNat
    if (s.timer t).queue.length ≥ 4 then
      .next ((s.setBit o Pid.Timer.TM_STATUS tmCAP_OVERFLOW).incPar o Pid.Timer.CAP_OVF_COUNT)
    else
      let s' := s.modTimer t fun a => { a with queue := a.queue ++ [count] }
      if s.linked t then
        .next (s'.modTimer (t + 1) fun a => { a with queue := a.queue ++ [BitVec.ofNat 32 (s.count (t + 1))] })
      else .next s'

/-- TMR_PULSE_END: with OUT_MODE 4 the ball goes low one prescaled tick after a match (R306). -/
def execTmrPulseEnd (tm : Fin 8) (s : State) : Host.Outcome State Fault Refusal :=
  let t := tm.val
  if s.counting t then .next (s.pulseEnd t) else .next s

/-! ## The passing of time (R296, R304) -/

/-- A timer, or the pair that it leads, counts through a number of bus clocks: the prescaler, the wraps and the match on the way, and the
end of a pulse one prescaled tick after its match (R304 to R306, R308, R309). -/
def State.timerPass (s : State) (t clocks : Nat) : State :=
  let span := 2 ^ (s.par (oTimer t) Pid.Timer.PRESCALE).toNat
  let all := (s.timer t).prePos + clocks
  let n := all / span
  let s := s.modTimer t fun a => { a with prePos := all % span }
  if n = 0 then s
  else
    let size := if s.linked t then 18446744073709551616 else 4294967296
    let v := s.timerValue t Pid.Timer.COUNT
    let toMatch := (s.timerValue t Pid.Timer.COMPARE + size - v - 1) % size + 1
    let s := s.setValue t ((v + n) % size)
    let s := if size ≤ v + n then s.wrapped t
      else if v / 4294967296 < (v + n) / 4294967296 then s.setBit (oTimer t) Pid.Timer.TM_STATUS tmWRAP else s
    let s := s.pulseEnd t
    if n < toMatch then s else if n = toMatch then s.matched t else (s.matched t).pulseEnd t

/-- The bus clock runs for a time: 100 clocks in each microsecond (R291, R304). -/
def State.timersPass (s : State) (us : Nat) : State :=
  s.each 8 fun t s => if s.counting t && s.leader t = t then s.timerPass t (100 * us) else s

/-- The monotonic tick and the timers run on for some microseconds; both are derived from the CORE clock (R291, R296, R304). -/
def State.passTime (s : State) (us : Nat) : State :=
  ({ s with time := { s.time with tick := s.time.tick + us } : State }).timersPass us

end Sys2Proof.Machine
end

