-- ==== Sys2Proof/Machine/Hopper.lean ====
section
/-! DEFINITION. Hopper: packets, frame checks, replies, violations and non-volatile write requests (R348 to
R376, R228, R281). -/

namespace Sys2Proof.Machine

/-- Statuses (Table 14-4). -/
abbrev stOK : Nat := 0x00
abbrev stDEFERRED : Nat := 0x01
abbrev stREFUSED : Nat := 0x02
abbrev stBUSY : Nat := 0x03
abbrev stABORTED : Nat := 0x04
abbrev stDONE_BEFORE : Nat := 0x05
abbrev stAUTH_FAILED : Nat := 0x06
abbrev stLOCKED : Nat := 0x07
abbrev stRANGE : Nat := 0x08
abbrev stBAD_PARAM : Nat := 0x09
abbrev stBAD_OBJECT : Nat := 0x0A
abbrev stBAD_CRC : Nat := 0x10
abbrev stBAD_LENGTH : Nat := 0x11
abbrev stUNKNOWN_OPCODE : Nat := 0x12
abbrev stTAG_IN_USE : Nat := 0x13
abbrev stQUEUE_FULL : Nat := 0x14
abbrev stPROTOCOL : Nat := 0x15

/-- Fantail reason codes (Table 8-2) that replies name. -/
abbrev frEnergyInput : Nat := 0x00
abbrev frSHELF_STATE : Nat := 0x06
abbrev frPRECONDITION : Nat := 0x07

/-- A reply's bytes (Table 14-2). -/
def Reply.bytes (r : Reply) : Bytes :=
  let head := leBytes 1 0x79 ++ leBytes 1 (0x10 + if r.reject then 1 else 0) ++ leBytes 1 r.opcode ++
    leBytes 1 r.tagPrio ++ leBytes 1 r.status ++ leBytes 1 r.reason ++ leBytes 2 r.payload.length ++
    r.payload
  head ++ leBytes 4 (crc32c head).toNat

/-- TAG_PRIO of an operation. -/
def Op.tagPrio (e : Op) : Nat := e.prio % 4 * 64 + e.tag % 64

/-- The opcodes of Table 14-7. -/
def opcodeKnown (c : Nat) : Bool :=
  [0x01, 0x02, 0x10, 0x11, 0x12, 0x20, 0x21, 0x22, 0x23, 0x30, 0x31, 0x32, 0x38, 0x39, 0x3A, 0x40, 0x41,
   0x42, 0x50, 0x51, 0x60, 0x61, 0x70, 0x71, 0x72, 0x80, 0x81, 0x90, 0x91, 0x92, 0x93, 0x94, 0x95, 0xA0,
   0xA1, 0xA2, 0xF0, 0xF1].contains c

/-- The reduced set of ROM recovery (R413). -/
def opcodeRom (c : Nat) : Bool :=
  [0x01, 0x02, 0x90, 0x91, 0x92, 0x94, 0x95, 0xA0, 0xF0, 0xF1].contains c

/-- The control requests (R356). -/
def opcodeControl (c : Nat) : Bool := c == 0xF0 || c == 0xF1

/-- The operation of an identifier. -/
def State.opOf (s : State) (id : Nat) : Option Op := s.hopper.ops.find? fun e => e.id == id

/-- Change the operation of an identifier. -/
def State.modOp (s : State) (id : Nat) (g : Op → Op) : State :=
  { s with hopper := { s.hopper with ops := s.hopper.ops.map fun e => if e.id == id then g e else e } }

/-- An operation's entry becomes free. -/
def State.dropOp (s : State) (id : Nat) : State :=
  { s with hopper := { s.hopper with ops := s.hopper.ops.filter fun e => e.id != id } }

/-- The operation waits, RUNNING (R354). -/
def State.opRunning (s : State) (e : Op) : State := s.modOp e.id fun x => { x with stage := .running }

/-- The operation commits. -/
def State.opCommit (s : State) (id : Nat) : State := s.modOp id fun x => { x with stage := .committed }

/-- The entries a port holds (R353). -/
def State.held (s : State) (p : HostPort) : Nat :=
  (s.hopper.ops.filter fun e => e.port == p && !e.control).length

/-- HOPPER_FREE (R353). -/
def State.hopperFree (s : State) (p : HostPort) : Nat :=
  min (64 - (s.hopper.ops.filter fun e => !e.control).length) (56 - s.held p)

/-- REQ_SPACE (R384). -/
def State.reqSpace (s : State) (p : HostPort) : Nat :=
  let a := s.port p
  1136 - (a.build.length + (a.waiting.map fun w => w.1.length).sum)

/-- Produce an operation's reply (R355). A disabled port's replies, and those of operations that outlive its disabling,
are discarded as they are produced and free their entries (R27). ALERT_ON_REPLY raises the reply cause on this port. -/
def State.reply (s : State) (e : Op) (status reason : Nat) (payload : Bytes) : State :=
  let s := s.incPar (oPort e.port) Pid.HPort.OPS_COMPLETED
  if (!s.enabled (oPort e.port) && s.running) || 64 ≤ e.tag then s.dropOp e.id
  else
    let r : Reply := { op := some e.id, opcode := e.opcode, tagPrio := e.tagPrio, reject := false,
                       status := status, reason := reason, payload := payload }
    let s := s.modPort e.port fun a => { a with replies := a.replies ++ [r] }
    let s := s.modOp e.id fun x => { x with stage := .replied }
    if e.alert then s.raisePort e.port alReply else s

/-- An OK reply. -/
def State.ok (s : State) (e : Op) (payload : Bytes) : State := s.reply e stOK 0 payload

/-- A reply of a failing check, without a payload (R358, R359). -/
def State.fail (s : State) (e : Op) (status check : Nat) : State := s.reply e status check []

/-- Violations in the preceding second, saturating at 255 (Table 14-10). -/
def State.violations1s (s : State) (p : HostPort) : Int := s.read (oPort p) Pid.HPort.VIOLATIONS_1S

/-- One PORT_VIOLATION record (R373). -/
def State.violationRecord (s : State) (p : HostPort) (status reason opcode tagPrio count : Nat) : State :=
  s.record (oPort p) rcSecurity 0x41
    [.lit status, .lit reason, .lit opcode, .lit tagPrio, .lit count, .lit (s.violations1s p),
     .par (oPort p) Pid.HPort.CAUTIOUS]

/-- A protocol violation: counted and recorded, and cautious mode entered at the one that makes
VIOLATIONS_1S exceed 16 (R373, R374). -/
def State.violation (s : State) (p : HostPort) (status reason opcode tagPrio count : Nat) : State :=
  let s := s.incPar (oPort p) Pid.HPort.VIOLATION_COUNT
  let s := s.modPort p fun a =>
    { a with viol := s.time.tick :: a.viol.filter fun t => decide (s.time.tick < t + 1000000) }
  let s := s.setPar (oPort p) Pid.HPort.LAST_VIOLATION
    (((status * 256 + reason) * 256 + opcode) * 256 + tagPrio : Nat)
  let s := s.violationRecord p status reason opcode tagPrio count
  if s.violations1s p > 16 && s.par (oPort p) Pid.HPort.CAUTIOUS == 0 then
    ((s.setPar (oPort p) Pid.HPort.CAUTIOUS 1).raisePort p alProtocol).violationRecord
      p status reason opcode tagPrio count
  else s

/-- A rejection reply (R352): at most 8 per port; a ninth drops the oldest that is unread. -/
def State.reject (s : State) (p : HostPort) (status check opcode tagPrio : Nat) : State :=
  let r : Reply := { op := none, opcode := opcode, tagPrio := tagPrio, reject := true, status := status,
                     reason := 0x80 + check, payload := [] }
  if ((s.port p).replies.filter fun x => x.reject).length ≥ 8 then
    let s := s.incPar (oPort p) Pid.HPort.REJECT_DROPPED
    s.modPort p fun a =>
      let skip := if a.readPos = 0 then 0 else 1
      { a with replies := a.replies.eraseIdx (skip + (a.replies.drop skip).findIdx fun x => x.reject) ++ [r] }
  else s.modPort p fun a => { a with replies := a.replies ++ [r] }

/-- A rejection that is a violation (Table 14-3). -/
def State.rejectViolation (s : State) (p : HostPort) (status check opcode tagPrio count : Nat) : State :=
  (s.reject p status check opcode tagPrio).violation p status (0x80 + check) opcode tagPrio count

/-- Frame checks 5 to 7 (Table 14-3): the failing status and check. -/
def State.frameFail (s : State) (p : HostPort) (opcode tag : Nat) : Option (Nat × Nat) :=
  if !opcodeKnown opcode || (s.supply.cs == .rom && !opcodeRom opcode) then some (stUNKNOWN_OPCODE, 5)
  else if s.hopper.ops.any fun e => e.port == p && e.tag == tag then some (stTAG_IN_USE, 6)
  else if opcodeControl opcode then
    if s.hopper.ops.any fun e => e.port == p && e.control then some (stQUEUE_FULL, 7) else none
  else if s.hopperFree p = 0 then some (stQUEUE_FULL, 7)
  else none

/-- The operation that an accepted packet becomes. -/
def State.newOp (s : State) (p : HostPort) (opcode tagPrio : Nat) (alert : Bool) (payload : Bytes) : Op :=
  { id := s.hopper.nextId, port := p, tag := tagPrio % 64, prio := tagPrio / 64 % 4, opcode := opcode,
    payload := payload, alert := alert, stage := .queued, tick := s.time.tick,
    control := opcodeControl opcode, aborted := false }

/-- Take an operation's entry. -/
def State.takeOp (s : State) (e : Op) : State :=
  { s with hopper := { ops := s.hopper.ops ++ [e], nextId := s.hopper.nextId + 1 } }

/-- The bytes of a request (Table 14-1). -/
def requestBytes (opcode tagPrio : Nat) (alert : Bool) (payload : Bytes) : Bytes :=
  let head := leBytes 1 0x59 ++ leBytes 1 (0x10 + if alert then 1 else 0) ++ leBytes 1 opcode ++
    leBytes 1 tagPrio ++ leBytes 2 payload.length ++ [0, 0] ++ payload
  head ++ leBytes 4 (crc32c head).toNat

/-- Can a host port carry a transaction: firmware runs and the port is enabled, or the ROM serves HA
(R379, R390)? -/
def State.portAnswers (s : State) (p : HostPort) : Bool :=
  (s.running && s.enabled (oPort p)) || (s.supply.cs == .rom && p == .ha)

/-- Does Hopper serve the port's operations? -/
def State.hopperServes (s : State) (p : HostPort) : Bool :=
  s.running || (s.supply.cs == .rom && p == .ha)

/-- Bytes are discarded and counted (R351, R384). -/
def State.discarded (s : State) (p : HostPort) (n : Nat) : State := s.addPar (oPort p) Pid.HPort.BYTES_DISCARDED n

/-- Put a packet in the request memory for the end of a level 3 restart (R363). A packet that does not fit
is not acknowledged; its bytes are counted, and so are those past the 284th (R351, R384). -/
def State.waitPacket (s : State) (p : HostPort) (bytes : Bytes) : State :=
  if (bytes.take 284).length ≤ s.reqSpace p then
    let s := s.modPort p fun a => { a with waiting := a.waiting ++ [(bytes.take 284, bytes.length)] }
    if bytes.length > 284 then s.discarded p (bytes.length - 284) else s
  else s.discarded p bytes.length

/-- TAG_PRIO of a request. -/
def reqTagPrio (r : Req) : Nat := r.prio.toNat * 64 + r.tag.toNat

/-- An operation row: the request passes the frame checks and, once accepted, is started at once
(R351 to R354). -/
def submitReq (r : Req) (opcode : Nat) (payload : Bytes) (run : Op → State → State) (s : State) : State :=
  if !s.hopperServes r.port then s
  else if s.miller.restarting then s.waitPacket r.port (requestBytes opcode (reqTagPrio r) r.alert payload)
  else if payload.length > 272 then
    (s.discarded r.port (payload.length - 272)).rejectViolation r.port stBAD_LENGTH 1
      opcode (reqTagPrio r) (payload.length + 12)
  else match s.frameFail r.port opcode r.tag.toNat with
    | some (st, 7) => s.reject r.port st 7 opcode (reqTagPrio r)
    | some (st, c) => s.rejectViolation r.port st c opcode (reqTagPrio r) (payload.length + 12)
    | none =>
      let e := s.newOp r.port opcode (reqTagPrio r) r.alert payload
      run e (s.takeOp e)

/-- A packet at its doorbell (Table 14-3): `bytes` as stored, `written` as counted. -/
def State.submitBytes (s : State) (p : HostPort) (bytes : Bytes) (written : Nat) : State :=
  let op := byteAt bytes 2
  let tp := byteAt bytes 3
  let len := fieldU bytes 4 2
  if written < 12 || written > 284 then s.rejectViolation p stBAD_LENGTH 1 op tp written
  else if (crc32c (bytes.take (bytes.length - 4))).toNat != fieldU bytes (bytes.length - 4) 4 then
    s.rejectViolation p stBAD_CRC 2 op tp written
  else if byteAt bytes 0 != 0x59 || byteAt bytes 1 / 2 != 8 || !zeros bytes 6 2 then
    s.rejectViolation p stPROTOCOL 3 op tp written
  else if len != written - 12 then s.rejectViolation p stBAD_LENGTH 4 op tp written
  else match s.frameFail p op (tp % 64) with
    | some (st, 7) => s.reject p st 7 op tp
    | some (st, c) => s.rejectViolation p st c op tp written
    | none => s.takeOp (s.newOp p op tp (byteAt bytes 1 % 2 == 1) (slice bytes 8 len))

/-- The operation Hopper starts next: of the queued ones the highest priority, and among equals the one
accepted first (R354); control requests go ahead of all (R356). -/
def pickOp : List Op → Option Op
  | [] => none
  | e :: rest =>
    match pickOp rest with
    | none => if e.stage == .queued then some e else none
    | some b =>
      if e.stage != .queued then some b
      else if e.control && !b.control then some e
      else if b.control && !e.control then some b
      else if e.prio ≤ b.prio then some e else some b

/-! ## Non-volatile write requests (R228, R281) -/

/-- Ask Fantail for a write. -/
def State.askNvm (s : State) (kind : NvmKind) (work : NvmWork) (pages : Nat) (op : Option Nat) : State :=
  { s with nvm := { s.nvm with queue :=
      s.nvm.queue ++ [⟨kind, work, pages, op, s.time.tick⟩] } }

/-- Ask for a write of the configuration of an object, once while one of it waits. -/
def State.askConfig (s : State) (o : Nat) : State :=
  if s.nvm.queue.any fun r => r.work == .configObjects [o] then s
  else s.askNvm .config (.configObjects [o]) 1 none

/-- Ask for a write of a kind and work once while one such waits. -/
def State.askOnce (s : State) (kind : NvmKind) (work : NvmWork) (pages : Nat) : State :=
  if s.nvm.queue.any fun r => r.work == work then s else s.askNvm kind work pages none

/-- The shelf is in THERMAL_LATCHED. -/
def State.thermalLatched (s : State) : Bool := s.shelfState == ssThermal

end Sys2Proof.Machine
end

