-- ==== Sys2Proof/Machine/Sensing.lean ====
section
/-! DEFINITION. Sensing and metering: calibration, plausibility, energy and the tracking of the fast paths
(R37 to R60). -/

namespace Sys2Proof.Machine

/-- The calibration parameters have one ID on every type that has them (Table 2-4). -/
abbrev pGainFactory : Nat := 0x800
abbrev pOffsetFactory : Nat := 0x801
abbrev pGainUser : Nat := 0x802
abbrev pOffsetUser : Nat := 0x803
abbrev pGainTrack : Nat := 0x804
abbrev pOffsetTrack : Nat := 0x805
abbrev pSenseRnom : Nat := 0x806
abbrev pSenseStatus : Nat := 0x18F

/-- SENSE_STATUS sticky bits (Table 2-8). -/
abbrev ssSKEW : Nat := 8
abbrev ssENERGY_GAP : Nat := 9
abbrev ssTRACK_LIMIT : Nat := 10

/-- The object of a SAR channel. -/
def sarObj : SarChannel → Nat
  | .phase p => oPhase p.val
  | .feeder f => oFeeder f.val
  | .segment b => oSeg b.val
  | .string k => oString k.val

/-- The object of a metering channel. -/
def meterObj : MeterChannel → Nat
  | .bus b => oSeg b.val
  | .feeder f => oFeeder f.val
  | .stringVoltage k => oString k.val
  | .stringCurrent k => oString k.val

/-- The object that a slot of SAR6 (false) or SAR7 (true) samples (Table 2-2). -/
def slotObj (sar7 : Bool) (slot : Nat) : Nat :=
  if slot % 2 = 1 then oFeeder (slot / 2 + if sar7 then 8 else 0)
  else
    let k := slot / 4 % 2 + if sar7 then 2 else 0
    if slot % 4 = 0 then oSeg k else oString k

/-- Is the channel a current channel? -/
def isCurrentObj (o : Nat) : Bool := objType o != .segment

/-- The differential input range of a channel in nV (Table 2-1). -/
def State.inputRange (s : State) (o : Nat) : Int × Int :=
  match objType o with
  | .segment => (0, 80000000000)
  | .phase =>
    let r : Int := match s.par o Pid.Phase.ISENSE_RANGE with
      | 0 => 50000000
      | 1 => 100000000
      | 2 => 250000000
      | _ => 1000000000
    (-r, r)
  | _ => (-50000000, 50000000)

/-- The factory and the user step of R47 on an input voltage, as a numerator and a denominator in the channel's unit. A
signal outside its range saturates the converter (R37). -/
def State.calibrated (s : State) (o : Nat) (nv : Int) : Int × Int :=
  let v := clampInt (s.inputRange o).1 (s.inputRange o).2 nv
  let num := if isCurrentObj o then v * 10000 else v
  let den := if isCurrentObj o then s.par o pSenseRnom else 10000
  let n1 := (num - s.par o pOffsetFactory * den) * s.par o pGainFactory
  let d1 := den * 1073741824
  ((n1 - s.par o pOffsetUser * d1) * s.par o pGainUser, d1 * 1073741824)

/-- A sample of a fast path through the chain of R47, exact, rounded once at the end. Phases are not tracked. -/
def State.calibrate (s : State) (o : Nat) (nv : Int) : Int :=
  let (n, d) := s.calibrated o nv
  if objType o == .phase then roundDiv n d
  else roundDiv ((n - s.par o pOffsetTrack * d) * s.par o pGainTrack) (d * 1073741824)

/-- A mean of a metering path through the chain of R47: no tracking step (R47, R50). -/
def State.calibrateMeter (s : State) (o : Nat) (nv : Int) : Int :=
  let (n, d) := s.calibrated o nv
  roundDiv n d

/-- Full scale of a channel in its unit (Table 2-1). -/
def State.fullScale (s : State) (o : Nat) : Int :=
  match objType o with
  | .segment => 8000000
  | .phase => s.fsCurrent (o - 0x10)
  | _ => roundDiv 500000000000 (s.par o pSenseRnom)

/-- RANGE at one code (R56). -/
def codeOut (bus : Bool) (code : BitVec 14) : Bool :=
  decide (code.toNat ≥ 0x3FEF) || (!bus && decide (code.toNat ≤ 0x0010))

/-- STUCK over the latest 16 codes, newest first, with the duty commanded at each (R56). -/
def codesStuck (l : List (Nat × Nat)) : Bool :=
  match l.getLast?, l with
  | some first, newest :: _ =>
    decide (l.length = 16) &&
      l.all (fun e => decide (e.1 ≤ first.1 + 1) && decide (first.1 ≤ e.1 + 1)) &&
      decide ((max newest.2 first.2 - min newest.2 first.2) * 50 ≥ 4294967296)
  | _, _ => false

/-- One sample on a channel: its value and the plausibility checks (R56). `duty` is the phase's command. -/
def Chan.sample (c : Chan) (bus phase : Bool) (code : BitVec 14) (v : Int) (duty : Nat) : Chan :=
  let run := if codeOut bus code then min 4 (c.rangeRun + 1) else 0
  let codes := if phase then ((code.toNat, duty) :: c.codes).take 16 else []
  let c' := { c with value := v, rangeRun := run, range := decide (run ≥ 4), codes := codes,
                     stuck := phase && codesStuck codes }
  { c' with good := if c'.fail then c.good else v, sum := c.sum + v, n := c.n + 1 }

/-- The feeders and strings whose power is formed from a segment's samples (R58). -/
def State.powerUsers (s : State) (b : Nat) : List Nat :=
  (s.feedersOf b).map oFeeder ++ (s.stringsOf b).map oString

/-- Set ENERGY_GAP on a channel's object and, for a segment, on those that use its sample (R58). -/
def State.energyGap (s : State) (o : Nat) : State :=
  match objType o with
  | .phase => s
  | .segment =>
    (o :: s.powerUsers (o - 4)).foldl (fun s x => s.setBit x pSenseStatus ssENERGY_GAP) s
  | _ => s.setBit o pSenseStatus ssENERGY_GAP

/-- A rising SENSE_FAIL: accumulation pauses and one record is written (R58). `was` is the flag before. Its fall spoils
the tracking window too (R44). -/
def State.senseRise (s : State) (o : Nat) (was : Bool) : State :=
  let c := s.chanOf o
  if c.fail && !was then
    let s := s.modChan o fun c => { c with dirty := some s.time.tick }
    (s.energyGap o).recordPsd o rcFault 0x04 [.par o pSenseStatus, .lit c.good]
  else if was && !c.fail then s.modChan o fun c => { c with dirty := some s.time.tick }
  else s

/-- Add whole units to an energy counter, passing from 2^63 − 1 to 0 (R53). -/
def State.addEnergy (s : State) (o pid : Nat) (mj : Nat) : State :=
  s.updPar o pid fun v => (v + mj) % 9223372036854775808

/-- Add whole mC to a charge counter (R52). -/
def State.addCharge (s : State) (o pid : Nat) (mc : Int) : State :=
  s.updPar o pid fun v =>
    if -9223372036854775808 ≤ v + mc ∧ v + mc ≤ 9223372036854775807 then v + mc
    else Config.counterPastEnd o pid % 9223372036854775808

/-- One energy step of R52: the remainder and whole mJ of `de` femtojoules. -/
def energyCarry (rem : Nat) (de : Nat) : Nat × Nat :=
  ((rem + de) / 1000000000000, (rem + de) % 1000000000000)

/-- Accumulate a feeder's sample (R52). -/
def State.feederEnergy (s : State) (f : Nat) (i : Int) : State :=
  let b := s.feederSeg f
  let v := (s.seg b).chan.value
  let a := s.feeder f
  if a.chan.fail || (s.seg b).chan.fail then s
  else
    let de := v * i * 2
    if de ≥ 0 then
      let (mj, rem) := energyCarry a.acc.pos de.natAbs
      ((s.modFeeder f fun a => { a with acc := { a.acc with pos := rem } }).addEnergy
        (oFeeder f) Pid.Feeder.E_OUT mj).addEnergy (oSeg b) Pid.Segment.E_OUT mj
    else
      let (mj, rem) := energyCarry a.acc.neg de.natAbs
      (s.modFeeder f fun a => { a with acc := { a.acc with neg := rem } }).addEnergy
        (oFeeder f) Pid.Feeder.E_BACKFEED mj

/-- Accumulate a string's sample: energy at its segment's bus sample, and charge (R52, R58). -/
def State.stringEnergy (s : State) (k : Nat) (i : Int) : State :=
  let b := s.stringSeg k
  let v := (s.seg b).chan.value
  if (s.str k).chan.fail then s
  else
    let q := (s.str k).acc.q + i
    let s := (s.modStr k fun a => { a with acc := { a.acc with q := q.tmod 10000000 } }).addCharge
      (oString k) Pid.String.Q_NET (q.tdiv 10000000)
    if (s.seg b).chan.fail then s
    else
      let de := v * i
      if de ≥ 0 then
        let (mj, rem) := energyCarry (s.str k).acc.pos de.natAbs
        (s.modStr k fun a => { a with acc := { a.acc with pos := rem } }).addEnergy
          (oString k) Pid.String.E_CHARGE mj
      else
        let (mj, rem) := energyCarry (s.str k).acc.neg de.natAbs
        (s.modStr k fun a => { a with acc := { a.acc with neg := rem } }).addEnergy
          (oString k) Pid.String.E_DISCHARGE mj

/-- Add `v` × `i` of this sample to the channel's 1 s power sum. -/
def State.powerSum (s : State) (o b : Nat) (i : Int) : State :=
  s.modChan o fun c => { c with psum := c.psum + (s.seg b).chan.value * i }

/-- The SAR converter of a channel (R39, Table 2-2): a phase's is its number modulo 6. -/
def sarOf : SarChannel → Nat
  | .phase p => p.val % 6
  | .feeder f => if f.val < 8 then 6 else 7
  | .segment b => if b.val < 2 then 6 else 7
  | .string k => if k.val < 2 then 6 else 7

/-- The phases of a SAR converter (R39): SAR0 serves P0, P6, P12 and P18. -/
def sarPhases (sar : Nat) : List Nat := (List.range 24).filter fun p => p % 6 == sar

/-- The metering converter of a channel (Table 2-3). -/
def meterIx : MeterChannel → Nat
  | .bus _ => 0
  | .feeder _ => 1
  | .stringVoltage _ => 2
  | .stringCurrent _ => 3

/-- The metering converter that tracks an object's fast path (Table 2-3); phases have none. -/
def trackIx (o : Nat) : Nat :=
  match objType o with
  | .segment => 0
  | .feeder => 1
  | .string => 3
  | _ => 4

/-- Samples 375 µs old join the metering window at hand, which began 2 ms after the converter's switch at tick `start`; its
outputs show the input 375 µs earlier (R42, R43; log entry 60). -/
def Chan.ripen (c : Chan) (now start : Nat) : Chan :=
  let old := c.line.filter fun e => decide (e.1 + 375 ≤ now)
  let used := old.filter fun e => decide (e.1 + 375 ≥ start + 2000)
  { c with line := c.line.filter fun e => !decide (e.1 + 375 ≤ now)
           wsum := used.foldl (fun (a : Int) e => a + e.2) c.wsum, wn := c.wn + used.length }

/-- A sample of a tracked fast path enters the delay line of its metering window. -/
def State.gather (s : State) (o : Nat) (v : Int) : State :=
  let start := vget s.wheel.dsStart (trackIx o) 0
  s.modChan o fun c => { c with line := (s.time.tick, v) :: c.line }.ripen s.time.tick start

/-- Does an accumulator of R52 run: the link is up, and either firmware runs or a save has been triggered and has not yet
started (R60, R275)? -/
def State.accumulates (s : State) : Bool :=
  s.linkUp && (s.supply.cs == .run || (s.supply.cs == .saving && s.nvm.active.isSome))

/-- The energy, charge and power of one sample of a round slot. -/
def State.slotEnergy (s : State) (o : Nat) (v : Int) : State :=
  if !s.accumulates then s
  else match objType o with
    | .feeder => (s.feederEnergy (o - 0x30) v).powerSum o (s.feederSeg (o - 0x30)) v
    | .string => s.stringEnergy (o - 0x80) v
    | _ => s

/-- A bus sample above SEG_OV restarts the 10 ms that a converter stopped by OVERVOLT waits for (R115). -/
def State.overSeen (s : State) (o : Nat) (v : Int) : State :=
  if objType o == .segment && decide (v > s.par o Pid.Segment.SEG_OV) then
    s.modSeg (o - 0x04) fun a => { a with overTick := some s.time.tick }
  else s

/-- One slot of the fixed round of SAR6 or SAR7 (R41, R47, R52, R56). Converters keep sampling for Sluice
while the link is lost; nothing accumulates then (R60). -/
def execSarRoundSlot (sar7 : Bool) (slot : Fin 16) (x : Sample) (s : State) :
    Host.Outcome State Fault Refusal :=
  let o := slotObj sar7 slot.val
  if !s.supply.psdOk then .next s
  else
    let was := (s.chanOf o).fail
    let v := s.calibrate o x.nv
    let s := s.modChan o fun c => c.sample (objType o == .segment) false x.code v 0
    let s := (s.senseRise o was).gather o v
    .next ((s.overSeen o v).slotEnergy o v)

/-- How long a metering window is, in µs (R42). -/
def windowUs (o : Nat) : Nat := if objType o == .feeder then 60500 else 248000

/-- Do a window's outputs, the lowest and the highest in nV at the input, spread by more than 1 % of full scale (R44)? -/
def State.spreads (s : State) (o : Nat) (lo hi : Int) : Bool := decide ((s.inputRange o).2 < 100 * (hi - lo))

/-- Does R44 discard a window that ends now? -/
def State.windowSpoilt (s : State) (o : Nat) (lo hi : Int) : Bool :=
  let c := s.chanOf o
  s.spreads o lo hi || c.fail || match c.dirty with
    | some t => decide (s.time.tick ≤ t + windowUs o)
    | none => false

/-- Freeze tracking past its limit (R45). -/
def State.trackLimit (s : State) (o : Nat) : State :=
  let c := s.chanOf o
  ((s.setBit o pSenseStatus ssTRACK_LIMIT).modChan o fun c => { c with frozen := true }).record
    o rcFault 0x04 [.par o pSenseStatus, .lit c.good]

/-- The tracking update at the end of a window (R43, R45). A quotient by an m_sar of 0 is a free value (log entry 61). -/
def State.trackUpdate (s : State) (o : Nat) (mds msar : Int) : State :=
  let fs := s.fullScale o
  if 10 * (mds.natAbs : Int) ≥ fs then
    let (free, t) := s.draw
    let s := if msar = 0 then t else s
    let g := if msar = 0 then free else roundDiv (s.par o pGainTrack * (3 * msar + mds)) (4 * msar)
    if 200 * ((g - 1073741824).natAbs : Int) > 1073741824 then s.trackLimit o
    else s.setPar o pGainTrack g
  else
    let off := s.par o pOffsetTrack + roundDiv (msar - mds) 4
    if 200 * (off.natAbs : Int) > fs then s.trackLimit o else s.setPar o pOffsetTrack off

/-- The converter switches to its next channel: every window of its channels begins anew (R42). -/
def State.windowNext (s : State) (k : Nat) : State :=
  let s := { s with wheel := { s.wheel with dsStart := vmod s.wheel.dsStart k fun _ => s.time.tick
                                            dsSpoilt := vmod s.wheel.dsSpoilt k fun _ => false } }
  let l := if k = 0 then (List.range 4).map oSeg else if k = 1 then (List.range 16).map oFeeder
    else if k = 3 then (List.range 4).map oString else []
  s.eachOf l fun o s => s.modChan o fun c => { c with wsum := 0, wn := 0 }

/-- m_sar: the mean of the channel's own samples over the window, delayed by the group delay (R43). The mean of no sample is
a free value (log entry 61). -/
def State.sarMean (s : State) (o : Nat) : Int × State :=
  let c := (s.chanOf o).ripen s.time.tick (vget s.wheel.dsStart (trackIx o) 0)
  if c.wn = 0 then s.draw else (roundDiv c.wsum c.wn, s)

/-- A string's voltage from the trimmed divider of its own input, to which no parameter belongs (Table 2-1, Table 2-4). -/
def stringVolts (nv : Int) : Int := roundDiv (clampInt 0 80000000000 nv) 10000

/-- TRACKING_WINDOW_END: a window of a metering converter ends with the mean of its outputs, the lowest and the highest, in nV at its
input (R42 to R45). DS2 reports a string's voltage directly: R44 is of tracking, and
its discards leave that report alone (log entry 61). The others track. A window that ends during a level 3 restart, or
that a link loss has cut, is discarded (R60). -/
def execTrackingWindowEnd (ch : MeterChannel) (nv lo hi : Int) (s : State) : Host.Outcome State Fault Refusal :=
  if !s.running || !s.supply.psdOk then .next s
  else
    let lost := !s.miller3 || !s.linkUp || vget s.wheel.dsSpoilt (meterIx ch) false
    let o := meterObj ch
    let t :=
      if lost then s
      else match ch with
        | .stringVoltage k => s.setPar (oString k.val) Pid.String.V_METER (stringVolts nv)
        | _ =>
          if s.windowSpoilt o lo hi || (s.chanOf o).frozen then s
          else
            let (msar, s) := s.sarMean o
            s.trackUpdate o (s.calibrateMeter o nv) msar
    .next (t.windowNext (meterIx ch))

/-- The value a parameter had at the latest journal write, its Reset value before the first. -/
def State.journaled (s : State) (o pid : Nat) : Int :=
  (lookupKey (keyOf o pid) s.nvm.config).getD (paramReset o pid)

/-- Has a tracking value moved by more than 20 ppm of full scale since the last write (R46)? -/
def State.trackMoved (s : State) (o : Nat) : Bool :=
  decide (((s.par o pGainTrack - s.journaled o pGainTrack).natAbs : Int) * 50000 > 1073741824) ||
  decide (((s.par o pOffsetTrack - s.journaled o pOffsetTrack).natAbs : Int) * 50000 > s.fullScale o)

/-- A channel's hourly chance to journal its tracking values (R46). -/
def execTrackingJournal (ch : SarChannel) (s : State) : Host.Outcome State Fault Refusal :=
  let o := sarObj ch
  if s.miller3 && s.trackMoved o then .next (s.askOnce .config (.tracking o) 1) else .next s

/-- The 15 min journal write of every energy and charge counter (R54). -/
def execEnergyJournal (s : State) : Host.Outcome State Fault Refusal :=
  if s.miller3 then .next (s.askOnce .counters .counters 1) else .next s

/-- The _FAST parameter of a channel's object. -/
abbrev pFast : Nat := 0x180

/-- A new _FAST value; a string's is gathered for its voltage model (R51, R191). -/
def State.fastMean (s : State) (o : Nat) (v : Int) : State :=
  let s := s.setPar o pFast v
  if objType o == .string then s.modStr (o - 0x80) fun a => { a with iSum := a.iSum + v, iN := a.iN + 1 } else s

/-- Close a channel's 1 ms interval at a Fantail tick, and its 1 s interval at the thousandth (R51, R60). -/
def State.closeMs (s : State) (o : Nat) : State :=
  let c := s.chanOf o
  let down := c.spoiltMs || !s.linkUp
  let s :=
    if down then s
    else if c.n > 0 then s.fastMean o (roundDiv c.sum c.n)
    else if objType o == .phase then s.setPar o pFast 0
    else s
  let msum := c.msum + c.sum
  let mn := c.mn + c.n
  let spoilt := c.spoilt || down
  if c.ms + 1 ≥ 1000 then
    let s :=
      if spoilt || mn = 0 then s
      else match objType o with
        | .segment => s.setPar o Pid.Segment.V_METER (roundDiv msum mn)
        | .string => s.setPar o Pid.String.I_METER (roundDiv msum mn)
        | .feeder => (s.setPar o Pid.Feeder.I_METER (roundDiv msum mn)).setPar o Pid.Feeder.P_METER
            (roundDiv c.psum ((mn : Int) * 10000000))
        | _ => s
    s.modChan o fun c => { c with sum := 0, n := 0, msum := 0, mn := 0, psum := 0, ms := 0,
                                  spoiltMs := false, spoilt := false }
  else
    s.modChan o fun c => { c with sum := 0, n := 0, msum := msum, mn := mn, ms := c.ms + 1,
                                  spoiltMs := false, spoilt := spoilt }

/-- Every SAR channel's object. -/
def sarObjects : List Nat :=
  (List.range 24).map oPhase ++ (List.range 16).map oFeeder ++ (List.range 4).map oSeg ++
    (List.range 4).map oString

/-- Close every channel's 1 ms interval (R51). -/
def State.closeAllMs (s : State) : State := s.eachOf sarObjects fun o s => s.closeMs o

/-- A link loss spoils the intervals and the metering windows at hand and opens a gap in every accumulation, a segment's too
(R60). -/
def State.spoilIntervals (s : State) : State :=
  let s := { s with wheel := { s.wheel with dsSpoilt := Vector.replicate 4 true } }
  s.eachOf sarObjects fun o s =>
    let s := s.modChan o fun c => { c with spoiltMs := true, spoilt := true }
    match objType o with
    | .phase => s
    | _ => s.setBit o pSenseStatus ssENERGY_GAP

end Sys2Proof.Machine
end

