-- ==== Sys2Proof/Machine/Sine.lean ====
section
/-! DEFINITION. Flume's sine table: 1024 entries per turn with linear interpolation (R130, R132). -/

namespace Sys2Proof.Machine

/-- π in units of 2^−60. -/
abbrev pi60 : Int := 3622009729038561421

/-- The terms of the sine series from the j-th on, given the one before it and the angle's square, in units of 2^−60. -/
def sineTerms : Nat → Int → Int → Int → Int
  | 0, _, _, _ => 0
  | n + 1, j, t, x2 =>
    let t' := -(t * x2) / (2 ^ 60 * (2 * j) * (2 * j + 1))
    t' + sineTerms n (j + 1) t' x2

/-- An entry of the first quarter: sin(2π i / 1024) for i up to 256, to the nearest Q2.30 (the width of an entry: log entry 8). -/
def quarterSine (i : Nat) : Int :=
  let x := pi60 * i / 512
  roundDiv (x + sineTerms 9 1 x (x * x / 2 ^ 60)) (2 ^ 30)

/-- Entry i of the table: sin(2π i / 1024), Q2.30. -/
def sineTable (i : Nat) : Int :=
  let q := i % 256
  match i / 256 % 4 with
  | 0 => quarterSine q
  | 1 => quarterSine (256 - q)
  | 2 => -quarterSine q
  | _ => -quarterSine (256 - q)

/-- The interpolated sine of u / n table steps, in units of 2^−30 / n. -/
def sineMix (u n : Nat) : Int :=
  let r := u % n
  sineTable (u / n) * ((n - r : Nat) : Int) + sineTable (u / n + 1) * (r : Int)

/-- AMPLITUDE times the sine, rounded to Q2.30 (R130). -/
def sineWave (amp : Int) (u n : Nat) : Int := roundDiv (amp * sineMix u n) ((n : Int) * 2 ^ 30)

/-- The sine as signed Q1.15 (R132). -/
def sineQ15 (u n : Nat) : Int := clampInt (-32768) 32767 (roundDiv (sineMix u n) ((n : Int) * 2 ^ 15))

end Sys2Proof.Machine
end

