-- ==== Sys2Proof/Machine/Bench.lean ====
section
/-! DEFINITION. Flume injection and Tailrace capture (R128 to R143), and FAULT_LATCH events with what
watches them. -/

namespace Sys2Proof.Machine

/-- The loops of the cascade that contains a loop, by LOOP_MASK number. -/
def State.cascade (s : State) (n : Nat) : List Nat :=
  if n < 24 then
    match s.outerOf n with
    | some m => (24 + m) :: s.maskPhases m
    | none => [n]
  else n :: s.maskPhases (n - 24)

/-- The outer loop of a cascade, by LOOP_MASK number. -/
def State.cascadeOuter (s : State) (n : Nat) : Option Nat :=
  if n < 24 then (s.outerOf n).map (24 + ·) else some n

/-- Is the object a loop: a phase or an outer loop? -/
def isLoopObj (o : Nat) : Bool := objType o == .phase || objType o == .outerLoop

/-! ## Flume -/

/-- Stop causes (Table 5-5). -/
abbrev fcCOMPLETE : Nat := 0
abbrev fcABORTED : Nat := 1
abbrev fcSTATE : Nat := 2
abbrev fcTARGET_STOPPED : Nat := 3
abbrev fcPROTECTION : Nat := 4
abbrev fcBANK_SWAP : Nat := 5
abbrev fcLINK_LOSS : Nat := 6
abbrev fcL3_RESTART : Nat := 7
abbrev fcI_LIMIT : Nat := 8

/-- F_loop of a loop as a fraction: carrier over RATE_DIV, or F_PWM over 1. Where either changes during an injection, its later
samples follow the new value (log entry 64). -/
def State.loopRate (s : State) (n : Nat) : Nat × Nat :=
  if n < 24 then (s.freqOf n, 1)
  else (s.carrier (n - 24), (s.par (oOuter (n - 24)) Pid.Loop.RATE_DIV).toNat)

/-- N_MEAS of a SINE request (R130). -/
def State.flumeNMeas (s : State) (n : Nat) (p : Bytes) : Nat :=
  let (num, den) := s.loopRate n
  (roundDiv ((fieldU p 14 2 : Int) * num) ((den : Int) * fieldU p 8 4)).toNat

/-- FREQ_ACTUAL in mHz (R130); 0 for the other waves. -/
def State.flumeFreq (s : State) (n : Nat) (p : Bytes) : Nat :=
  let (num, den) := s.loopRate n
  if byteAt p 2 = 0 then
    (roundDiv (1000 * (fieldU p 14 2 : Int) * num) ((den : Int) * s.flumeNMeas n p)).toNat
  else 0

/-- One period of a PRBS (R130). -/
def prbsPeriod (p : Bytes) : Nat := (2 ^ byteAt p 16 - 1) * byteAt p 17

/-- The samples of the settling part. -/
def State.flumeSettle (s : State) (n : Nat) (p : Bytes) : Nat :=
  match byteAt p 2 with
  | 0 => (roundDiv ((fieldU p 12 2 : Int) * s.flumeNMeas n p) (fieldU p 14 2)).toNat
  | 1 => fieldU p 12 2 * prbsPeriod p
  | _ => fieldU p 12 2

/-- The samples of the measured part. -/
def State.flumeMeas (s : State) (n : Nat) (p : Bytes) : Nat :=
  match byteAt p 2 with
  | 0 => s.flumeNMeas n p
  | 1 => fieldU p 14 2 * prbsPeriod p
  | _ => fieldU p 14 2

/-- The tap masks of Table 5-2. -/
def prbsTaps (order : Nat) : Nat :=
  match order with
  | 7 => 0x0060 | 8 => 0x00B8 | 9 => 0x0110 | 10 => 0x0240 | 11 => 0x0500 | 12 => 0x0E08
  | 13 => 0x1C80 | 14 => 0x3802 | 15 => 0x6000 | _ => 0

/-- The parity of the low 16 bits. -/
def parity16 (v : Nat) : Bool := (List.range 16).foldl (fun b i => b != v.testBit i) false

/-- One step of the chip generator (R130): the new register and the chip. -/
def prbsStep (order lfsr : Nat) : Nat × Bool :=
  let bit := parity16 (lfsr &&& prbsTaps order)
  ((lfsr * 2 + if bit then 1 else 0) % 2 ^ order, bit)

/-- Does the running injection act on this loop? -/
def State.flumeOn (s : State) (n : Nat) : Bool := s.flume.running && s.flume.loop == n

/-- Has the last measured sample been taken (the commit, R135)? -/
def State.flumeOver (s : State) : Bool :=
  decide (s.flume.k ≥ s.flumeSettle s.flume.loop s.flume.payload +
    s.flumeMeas s.flume.loop s.flume.payload)

/-- At a chip's first sample the PRBS generator steps. -/
def State.flumeChip (s : State) : State :=
  let p := s.flume.payload
  if byteAt p 2 = 1 && s.flume.k % byteAt p 17 == 0 then
    let (l, c) := prbsStep (byteAt p 16) s.flume.lfsr
    { s with flume := { s.flume with lfsr := l, chip := c } }
  else s

/-- θ_k in N_MEAS-ths of a table step (R130): FREQ_ACTUAL / F_loop is MEAS / N_MEAS of a turn per sample. -/
def State.flumeTheta (s : State) : Nat := 1024 * s.flume.k * fieldU s.flume.payload 14 2

/-- x[k] of the running injection (R130). -/
def State.flumeX (s : State) (n : Nat) : Int :=
  if !s.flumeOn n || s.flumeOver then 0
  else
    let p := s.flume.payload
    let amp := fieldS p 4 4
    match byteAt p 2 with
    | 0 => sineWave amp s.flumeTheta (s.flumeNMeas n p)
    | 1 => if s.flume.chip then amp else -amp
    | _ => if s.flume.k < s.flumeSettle n p then 0 else amp

/-- After a sample of the target: the sums of R132, CLIP_COUNT, and the state that FLUME_STATE shows. -/
def State.flumeAfter (s : State) (n : Nat) (a b : Int) (clip : Bool) : State :=
  if !s.flumeOn n || s.flumeOver then s
  else
    let p := s.flume.payload
    let f := s.flume
    let measuring := decide (f.k ≥ s.flumeSettle n p)
    let f :=
      if measuring && byteAt p 2 == 0 then
        let c := sineQ15 (s.flumeTheta + 256 * s.flumeNMeas n p) (s.flumeNMeas n p)
        let sn := sineQ15 s.flumeTheta (s.flumeNMeas n p)
        { f with aRe := f.aRe + a * c, aIm := f.aIm - a * sn, bRe := f.bRe + b * c, bIm := f.bIm - b * sn }
      else f
    let first := f.k == s.flumeSettle n p
    let s := { s with
      flume := { f with k := f.k + 1, clips := f.clips + if clip then 1 else 0 }
      trace := if first && s.trace.flumeNew then { s.trace with flumeSeen := true } else s.trace }
    let s := s.setPar oDevice Pid.Device.FLUME_STATE (if s.flume.k ≥ s.flumeSettle n p then 2 else 1)
    if s.flumeOver then
      match s.flume.op with
      | some id => s.opCommit id
      | none => s
    else s

/-- The reply payload (Table 5-4). -/
def State.flumePayload (s : State) (cause : Nat) : Bytes :=
  let f := s.flume
  let p := f.payload
  let done := cause == fcCOMPLETE
  let sine := byteAt p 2 == 0
  let samples := if done && sine then s.flumeNMeas f.loop p else f.k
  let sum (v : Int) : Bytes := leBytes 8 (if done && sine then v else 0)
  p.take 3 ++ leBytes 1 cause ++ leBytes 4 samples ++ leBytes 4 (s.flumeFreq f.loop p) ++
    leBytes 4 f.clips ++ sum f.aRe ++ sum f.aIm ++ sum f.bRe ++ sum f.bIm

/-- The status and reason of an end (R135, R358). -/
def flumeStatus (cause : Nat) : Nat × Nat :=
  if cause = fcCOMPLETE then (stOK, 0)
  else if cause = fcABORTED then (stABORTED, 1)
  else if cause = fcL3_RESTART then (stABORTED, 2)
  else if cause = fcSTATE then (stREFUSED, frSHELF_STATE)
  else (stREFUSED, frPRECONDITION)

/-- The injection ends: FLUME_STATE, FLUME_STOP_CAUSE and the reply (R135). -/
def State.flumeEnd (s : State) (cause : Nat) : State :=
  let pay := s.flumePayload cause
  let op := s.flume.op
  let s := { s with flume := { s.flume with running := false, op := none } }
  let s := (s.setPar oDevice Pid.Device.FLUME_STATE 0).setPar oDevice Pid.Device.FLUME_STOP_CAUSE cause
  let s := match s.cascadeOuter s.flume.loop with
    | some n => s.modLoop n fun a => { a with reefTick := s.time.tick }
    | none => s
  match op.bind s.opOf with
  | some e => s.reply e (flumeStatus cause).1 (flumeStatus cause).2 pay
  | none => s

/-- A stop cause: it ends a running injection unless the commit has happened (R136). -/
def State.flumeStop (s : State) (cause : Nat) : State :=
  if s.flume.running && !s.flumeOver then s.flumeEnd cause else s

/-- A stop cause on a loop's cascade. -/
def State.flumeStopOn (s : State) (n cause : Nat) : State :=
  if s.flume.running && (s.cascade s.flume.loop).contains n then s.flumeStop cause else s

/-- The objects whose FAULT_LATCH stops the injection (Table 5-5, PROTECTION). -/
def State.flumeWatches (s : State) (o : Nat) : Bool :=
  let n := s.flume.loop
  let seg := (s.cascadeOuter n).map fun m => s.loopSeg (m - 24)
  match objType o with
  | .phase | .outerLoop => (s.cascade n).contains (loopNo o)
  | .segment => seg == some (o - 4)
  | .feeder => seg == some (s.feederSeg (o - 0x30))
  | _ => false

/-- FLUME_END: the measured part has ended, and the reply is sent with the sums (R135). -/
def execFlumeEnd (s : State) : Host.Outcome State Fault Refusal :=
  if s.flume.running && s.flumeOver then .next (s.flumeEnd fcCOMPLETE) else .next s

/-- FLUME_START's own checks (R133, R134). -/
def State.flumeCheck (s : State) (p : Bytes) : Option (Nat × Nat) :=
  let target := byteAt p 0
  let wave := byteAt p 2
  let amp := fieldS p 4 4
  let freq := fieldU p 8 4
  let n := loopNo target
  let (num, den) := s.loopRate n
  if p.length ≠ 20 then some (stBAD_LENGTH, 1)
  else if !zeros p 3 1 || !zeros p 18 2 then some (stBAD_PARAM, 2)
  else if !isLoopObj target then some (stBAD_OBJECT, 3)
  else if byteAt p 1 > 2 || wave > 2 || amp == 0 ||
      decide ((amp.natAbs : Int) > s.par oDevice Pid.Device.FLUME_AMP_MAX) ||
      (wave != 2 && decide (amp < 0)) ||
      (if wave = 0 then freq == 0 || decide (4 * freq * den > num) else freq != 0) ||
      fieldU p 14 2 == 0 ||
      (if wave = 1 then byteAt p 16 < 7 || byteAt p 16 > 15 || byteAt p 17 < 1 || byteAt p 17 > 16
       else byteAt p 16 != 0 || byteAt p 17 != 0) ||
      (wave == 0 && decide (s.flumeNMeas n p > 65536)) then some (stRANGE, 4)
  else if !s.testMaint || s.inFloat || s.objNow target == osSafeHold then some (stLOCKED, 5)
  else if s.flume.running then some (stBUSY, 6)
  else if s.objNow target != osActive && s.objNow target != osDegraded then
    some (stREFUSED, frPRECONDITION)
  else none

/-- FLUME_START (R133). The reply follows at the end of the injection. -/
def opFlumeStart (e : Op) (s : State) : State :=
  match s.flumeCheck e.payload with
  | some (st, r) => s.reply e st r []
  | none =>
    let n := loopNo (byteAt e.payload 0)
    let s := { s with
      flume := { op := some e.id, running := true, loop := n, payload := e.payload, k := 0, aRe := 0,
                 aIm := 0, bRe := 0, bIm := 0, clips := 0, lfsr := 2 ^ byteAt e.payload 16 - 1,
                 chip := false }
      trace := { s.trace with flumeNew := s.par oDevice Pid.Device.TAILRACE_STATE == 1 } }
    let s := s.setPar oDevice Pid.Device.FLUME_TARGET (byteAt e.payload 0)
    let s := s.setPar oDevice Pid.Device.FLUME_STATE (if s.flumeSettle n e.payload = 0 then 2 else 1)
    s.opRunning e

/-! ## Tailrace -/

/-- Capture states (R139). -/
abbrev tsIDLE : Int := 0
abbrev tsARMED : Int := 1
abbrev tsTRIGGERED : Int := 2
abbrev tsDONE : Int := 3
abbrev tsSTOPPED : Int := 4

/-- TAILRACE_STATE. -/
def State.traceState (s : State) : Int := s.par oDevice Pid.Device.TAILRACE_STATE

/-- DEPTH at a number of channels (R138). -/
def traceDepth (nch : Nat) : Nat := if nch = 0 then 32768 else 32768 / nch

/-- NCH of the present capture. -/
def State.traceNch (s : State) : Nat := byteAt s.trace.config 1

/-- The value of a channel's node (Table 5-6), as a signed 32-bit value. -/
def State.traceNode (s : State) (o node : Nat) : Int :=
  let n := loopNo o
  let a := s.loop n
  let pid := match ((s.loop n).bank (s.activeBank n)) with
    | some b => byteAt b 0 == 1
    | none => false
  let v : Int := match node with
    | 0x00 => a.refUsed
    | 0x01 => s.par o Pid.Phase.LOOP_MEAS
    | 0x02 => a.measUsed
    | 0x03 => a.err
    | 0x04 => s.par o Pid.Phase.LOOP_OUT
    | 0x05 => a.outInj
    | 0x06 => if pid then a.ui / 4294967296 else 0
    | 0x07 => if pid then a.ud / 4294967296 else 0
    | 0x08 => (s.phase n).duty
    | 0x09 => a.inj
    | 0x0A => s.par o Pid.Phase.SAMPLE_COUNT % 65536 * 65536 + s.read o Pid.Phase.LOOP_STATUS
    | _ => (s.chanOf o).value
  signed 32 (v % 4294967296).toNat

/-- One sample set. -/
def State.traceRow (s : State) : TraceRow :=
  (List.range s.traceNch).map fun i =>
    s.traceNode (byteAt s.trace.config (16 + 2 * i)) (byteAt s.trace.config (17 + 2 * i))

/-- Does this sample set meet the trigger (Table 5-7)? -/
def State.traceMeets (s : State) (row : TraceRow) : Bool :=
  let c := s.trace.config
  let o := byteAt c 11
  match byteAt c 8 with
  | 0 => true
  | 1 => s.trace.flumeSeen
  | 2 =>
    let level := fieldS c 12 4
    let now := row.getD (byteAt c 10) 0
    match s.trace.prev with
    | none => false
    | some prev =>
      let up := decide (prev < level) && decide (now ≥ level)
      let down := decide (prev > level) && decide (now ≤ level)
      (byteAt c 9 != 1 && up) || (byteAt c 9 != 0 && down)
  | _ => s.trace.faultSeen ||
      (!s.trace.objBad && (s.objNow o == osLatched || s.objNow o == osFailed))

/-- The capture becomes TRIGGERED at the newest stored sample, with that sample's tick (R139, R142). -/
def State.traceTrigger (s : State) : State :=
  let depth := traceDepth s.traceNch
  ({ s with trace := { s.trace with after := depth - fieldU s.trace.config 4 4 - 1, hit := true } }.setPar
    oDevice Pid.Device.TAILRACE_STATE tsTRIGGERED).setPar oDevice Pid.Device.TAILRACE_TRIG_TICK
    s.trace.rowTick

/-- A loop has completed an evaluation: a sample set is stored at every DECIM-th of the TIMEBASE (R138). -/
def State.traceEval (s : State) (n : Nat) : State :=
  let st := s.traceState
  if (st != tsARMED && st != tsTRIGGERED) || byteAt s.trace.config 0 != oLoop n then s
  else if st == tsTRIGGERED && s.trace.after == 0 then s
  else if s.trace.decim + 1 < fieldU s.trace.config 2 2 then
    { s with trace := { s.trace with decim := s.trace.decim + 1 } }
  else
    let row := s.traceRow
    let hit := st == tsARMED && s.traceMeets row
    let o := byteAt s.trace.config 11
    let t := { s with trace := { s.trace with
      rows := (row :: s.trace.rows).take (traceDepth s.traceNch)
      decim := 0
      prev := some (row.getD (byteAt s.trace.config 10) 0)
      after := s.trace.after - 1
      rowTick := s.time.tick
      faultSeen := false
      objBad := s.objNow o == osLatched || s.objNow o == osFailed } }
    if hit then t.traceTrigger else t

/-- The end of a capture that gets no more samples: DONE where all were stored, else STOPPED (R139). -/
def State.traceEnd (s : State) : State :=
  s.setPar oDevice Pid.Device.TAILRACE_STATE
    (if s.traceState == tsTRIGGERED && s.trace.after == 0 then tsDONE else tsSTOPPED)

/-- A loop stops evaluating: a capture that it paces becomes STOPPED; if the stop is the FAULT it waited
for, the sample before is the trigger sample (R139, R143). -/
def State.traceStop (s : State) (n : Nat) : State :=
  let st := s.traceState
  if (st != tsARMED && st != tsTRIGGERED) || byteAt s.trace.config 0 != oLoop n then s
  else
    let s :=
      if st == tsARMED && byteAt s.trace.config 8 == 3 && byteAt s.trace.config 11 == oLoop n &&
        !s.trace.rows.isEmpty then s.traceTrigger else s
    if st == tsARMED then s.setPar oDevice Pid.Device.TAILRACE_STATE tsSTOPPED else s.traceEnd

/-- TAILRACE_DONE: DEPTH − PRETRIG samples from the trigger sample onward have been stored (R139). -/
def execTailraceDone (s : State) : Host.Outcome State Fault Refusal :=
  if s.traceState == tsTRIGGERED && s.trace.after == 0 then
    .next (s.setPar oDevice Pid.Device.TAILRACE_STATE tsDONE)
  else .next s

/-- Is a node valid for an object (Table 5-6)? -/
def nodeValid (o node : Nat) : Bool :=
  match objType o with
  | .phase => decide (node ≤ 0x0A)
  | .outerLoop => decide (node ≤ 0x0A) && node != 0x08
  | .segment | .feeder | .string => node == 0x10
  | _ => false

/-- TAILRACE_ARM's own checks (R140). -/
def State.traceCheck (s : State) (p : Bytes) : Option (Nat × Nat) :=
  let nch := byteAt p 1
  let src := byteAt p 8
  let chans := List.range nch
  if p.length ≠ 24 then some (stBAD_LENGTH, 1)
  else if !isLoopObj (byteAt p 0) || (chans.any fun i => i < 4 && objReserved (byteAt p (16 + 2 * i))) ||
      (src == 3 && objReserved (byteAt p 11)) then some (stBAD_OBJECT, 2)
  else if (nch != 0 && nch != 1 && nch != 2 && nch != 4) || fieldU p 2 2 == 0 || fieldU p 2 2 > 256 ||
      fieldU p 4 4 ≥ traceDepth nch || src > 3 || byteAt p 9 > 2 || (src != 2 && byteAt p 9 != 0) ||
      (nch != 0 && byteAt p 10 ≥ nch) || !zeros p (16 + 2 * nch) (8 - 2 * nch) then some (stRANGE, 3)
  else if chans.any fun i => !nodeValid (byteAt p (16 + 2 * i)) (byteAt p (17 + 2 * i)) then
    some (stBAD_PARAM, 4)
  else if s.thermalLatched then some (stLOCKED, 5)
  else if nch != 0 && (s.traceState == tsARMED || s.traceState == tsTRIGGERED) then some (stBUSY, 6)
  else none

/-- TAILRACE_ARM (R140). -/
def opTailraceArm (e : Op) (s : State) : State :=
  match s.traceCheck e.payload with
  | some (st, c) => s.fail e st c
  | none =>
    let p := e.payload
    let nch := byteAt p 1
    let o := byteAt p 11
    let s := { s with trace :=
      { config := p, rows := [], decim := 0, prev := none, after := 0, rowTick := 0, hit := false, flumeNew := false,
        flumeSeen := false, faultSeen := false,
        objBad := s.objNow o == osLatched || s.objNow o == osFailed } }
    let s := s.setPar oDevice Pid.Device.TAILRACE_DEPTH (traceDepth nch : Nat)
    let s :=
      if nch = 0 then s.setPar oDevice Pid.Device.TAILRACE_STATE tsIDLE
      else (s.incPar oDevice Pid.Device.TAILRACE_CAPTURE_ID).setPar oDevice Pid.Device.TAILRACE_STATE
        tsARMED
    s.ok e (leBytes 4 (s.par oDevice Pid.Device.TAILRACE_CAPTURE_ID) ++ leBytes 4 (traceDepth nch))

/-- TRIG_INDEX (Table 5-9). -/
def State.traceIndex (s : State) : Int :=
  if !s.trace.hit then 0xFFFFFFFF
  else
    let since := traceDepth s.traceNch - fieldU s.trace.config 4 4 - s.trace.after
    (s.trace.rows.length : Int) - since

/-- TAILRACE_READ (R141). -/
def opTailraceRead (e : Op) (s : State) : State :=
  let p := e.payload
  let first := fieldU p 4 4
  let count := fieldU p 8 2
  let st := s.traceState
  if p.length ≠ 10 then s.fail e stBAD_LENGTH 1
  else if (fieldU p 0 4 : Int) != s.par oDevice Pid.Device.TAILRACE_CAPTURE_ID then
    s.fail e stBAD_PARAM 2
  else if (st == tsARMED || st == tsTRIGGERED) && count > 0 then s.fail e stBUSY 3
  else if count * s.traceNch > 64 || first + count > s.trace.rows.length then
    if count = 0 then
      s.ok e (p.take 4 ++ leBytes 1 st ++ leBytes 1 s.traceNch ++ leBytes 2 0 ++
        leBytes 4 s.traceIndex ++ leBytes 4 s.trace.rows.length)
    else s.fail e stRANGE 4
  else
    let rows := (s.trace.rows.reverse.drop first).take count
    s.ok e (p.take 4 ++ leBytes 1 st ++ leBytes 1 s.traceNch ++ leBytes 2 count ++
      leBytes 4 s.traceIndex ++ leBytes 4 s.trace.rows.length ++
      rows.flatMap fun r => r.flatMap fun v => leBytes 4 v)

/-! ## Latch events -/

/-- What watches a FAULT_LATCH bit that has risen on an object: Tailrace's FAULT trigger and Flume's
PROTECTION cause. -/
def State.faultSeen (s : State) (o : Nat) : State :=
  let s :=
    if byteAt s.trace.config 8 == 3 && byteAt s.trace.config 11 == o then
      { s with trace := { s.trace with faultSeen := s.traceState == tsARMED } }
    else s
  if s.flume.running && s.flumeWatches o then s.flumeStop fcPROTECTION else s

/-- A latch event on an object, with what watches it. -/
def State.latchFault (s : State) (o : Nat) (bits : List Nat) : State :=
  let rises := bits.any fun b => !s.bit o Pid.FAULT_LATCH b
  let s := s.faultEvent o bits
  if rises then s.faultSeen o else s

end Sys2Proof.Machine
end

