-- ==== Sys2Proof/Machine/Wheel.lean ====
section
/-! DEFINITION. Wheel: number formats and laws, coefficient banks, swaps and lane faults (R61 to R92). -/

namespace Sys2Proof.Machine

/-! ## The laws (R65 to R68, R75) -/

/-- One addition into the accumulator, with its saturation (R67). -/
def accAdd (acc : Int × Bool) (p : Int) : Int × Bool :=
  let v := acc.1 + p
  (satQ6_58 v, acc.2 || satQ6_58 v != v)

/-- A chain of multiply-accumulates of exact products (R67). -/
def accSum (l : List Int) : Int × Bool := l.foldl accAdd (0, false)

/-- A Q2.30 value widened to Q6.58. -/
def widen (v : Int) : Int := v * 268435456

/-- A coefficient C0 to C6 of an image (Table 3-5). -/
def imgC (img : Bytes) (i : Nat) : Int := fieldS img (4 + 4 * i) 4

def imgUMin (img : Bytes) : Int := fieldS img 32 4
def imgUMax (img : Bytes) : Int := fieldS img 36 4
def imgIMin (img : Bytes) : Int := fieldS img 40 4
def imgIMax (img : Bytes) : Int := fieldS img 44 4

/-- Is the image a PID_FILT one? -/
def imgPid (img : Bytes) : Bool := byteAt img 0 == 1

/-- What one evaluation gives: the loop with its new histories and live flags, the output u, and whether
the accumulator saturated. -/
structure LawOut where
  loop : LoopAux
  u    : Int
  sat  : Bool
  deriving DecidableEq, Repr, Inhabited

/-- Shift the output and error histories. -/
def LoopAux.shift (a : LoopAux) (u e : Int) : LoopAux :=
  { a with u1 := u, u2 := a.u1, u3 := a.u2, e1 := e, e2 := a.e1, e3 := a.e2, newBank := false,
           preload := none }

/-- The three-pole three-zero form (R65) with the cascade hold (R69). -/
def law3p3z (img : Bytes) (a : LoopAux) (e : Int) (hold : Bool) : LawOut :=
  let (v, sat) := accSum [imgC img 4 * a.u1, imgC img 5 * a.u2, imgC img 6 * a.u3, imgC img 0 * e,
    imgC img 1 * a.e1, imgC img 2 * a.e2, imgC img 3 * a.e3]
  let r := roundQ v
  let u := if hold then a.u1 else clampInt (imgUMin img) (imgUMax img) r
  { loop := { a.shift u e with outHigh := !hold && decide (r > imgUMax img),
                               outLow := !hold && decide (r < imgUMin img), intClamp := false,
                               hold := hold },
    u := u, sat := sat }

/-- The filtered PID form (R66) with conditional integration and the BUMPLESS preload (R75, R109): a preload forms neither
ui_t nor v_t, so only the additions it makes can set ACC_SAT (R67). -/
def lawPid (img : Bytes) (a : LoopAux) (e : Int) (hold : Bool) (start : Option Int) : LawOut :=
  let up := imgC img 0 * e
  let kdRaw := imgC img 2 * (e - a.e1)
  let kfRaw := (imgC img 3 * a.ud + 134217728) / 268435456
  let kd := satQ6_58 kdRaw
  let kf := satQ6_58 kfRaw
  let (ud, s1) := accAdd (kf, kd != kdRaw || kf != kfRaw) kd
  let lo := widen (imgIMin img)
  let hi := widen (imgIMax img)
  let (uiT, s2) := accAdd (a.ui, s1) (imgC img 1 * e)
  let (vT, s3) := [uiT, ud].foldl accAdd (up, s2)
  let (pre, s4) := [-up, -ud].foldl accAdd (widen (start.getD 0), s1)
  let stop := (decide (vT > widen (imgUMax img)) && decide (e > 0)) ||
    (decide (vT < widen (imgUMin img)) && decide (e < 0)) || hold
  let raw := if start.isSome then pre else uiT
  let clamped := clampInt lo hi raw
  let ui := if start.isSome || !stop then clamped else a.ui
  let (v, s5) := [ui, ud].foldl accAdd (up, if start.isSome then s4 else s3)
  let r := roundQ v
  let u := clampInt (imgUMin img) (imgUMax img) r
  { loop := { a.shift u e with ui := ui, ud := ud, outHigh := decide (r > imgUMax img),
                               outLow := decide (r < imgUMin img),
                               intClamp := (start.isSome || !stop) && clamped != raw, hold := hold },
    u := u, sat := s5 }

/-- Zero every history of a loop (R74, R77). -/
def LoopAux.clearHistory (a : LoopAux) : LoopAux :=
  { a with u1 := 0, u2 := 0, u3 := 0, e1 := 0, e2 := 0, e3 := 0, ui := 0, ud := 0 }

/-- One evaluation on an image: HISTORY_CLEAR and BUMPLESS act at the first one on a new bank (Table 3-6),
and a started PID_FILT phase applies its starting output (R109). -/
def evalLaw (img : Bytes) (a : LoopAux) (e : Int) (hold : Bool) : LawOut :=
  let opts := byteAt img 1
  let a := if a.newBank && opts / 2 % 2 == 1 then a.clearHistory else a
  if imgPid img then
    let start := match a.preload with
      | some u0 => some u0
      | none => if a.newBank && opts % 2 == 1 then some a.u1 else none
    lawPid img a e hold start
  else law3p3z img a e hold

/-- Duty from an output (Table 3-3): clamped to [0, 1 − 2^−30] and shifted left by 2. -/
def dutyOf (u : Int) : Nat := (clampInt 0 1073741823 u).toNat * 4

/-! ## Bank images (R68, R74, R80) -/

/-- Check 8 of R80 on an image. -/
def imageBad (img : Bytes) : Bool :=
  (crc32c (img.take 48)).toNat != fieldU img 48 4 || byteAt img 0 > 1 || !zeros img 2 2 ||
    byteAt img 1 > 3 || (imgPid img && !zeros img 20 12) ||
    (!imgPid img && byteAt img 1 % 2 == 1)

/-- Check 9 of R80: the limits of R68. -/
def imageLimitsBad (img : Bytes) : Bool :=
  decide (imgUMin img ≥ imgUMax img) ||
    (if imgPid img then decide (imgIMin img > imgIMax img) else imgIMin img != 0 || imgIMax img != 0)

/-- Put an image in a bank of a loop: 0, 1, or 2 for FLOAT. It is whole again. -/
def LoopAux.setBank (a : LoopAux) (k : Nat) (img : Option Bytes) : LoopAux :=
  if k = 0 then { a with bank0 := img, bad0 := false }
  else if k = 1 then { a with bank1 := img, bad1 := false }
  else { a with float := img }

/-- LOAD_GEN of a bank. -/
def loadGenPid (k : Nat) : Nat := Pid.Phase.LOAD_GEN_0 + k

/-- Is a swap pending on the loop, accepted or registered? -/
def State.swapOn (s : State) (n : Nat) : Bool := s.wheel.swaps.any fun j => j.left.contains n

/-- Does the shelf state lock the banks of a loop (R80, R81)? -/
def State.wheelLocked (s : State) (n : Nat) : Bool :=
  s.shelfState == ssBraking || s.thermalLatched || s.objNow (oLoop n) == osSafeHold

/-- COEF_BANK_LOAD's checks (R80). -/
def State.bankLoadCheck (s : State) (p : Bytes) : Option (Nat × Nat) :=
  let o := byteAt p 0
  let k := byteAt p 1
  let n := loopNo o
  let img := slice p 4 52
  if p.length ≠ 56 then some (stBAD_LENGTH, 1)
  else if !isLoopObj o then some (stBAD_OBJECT, 2)
  else if k > 2 then some (stRANGE, 3)
  else if s.wheelLocked n then some (stLOCKED, 4)
  else if s.inFloat && k < 2 then some (stLOCKED, 5)
  else if k = s.activeBank n then some (stLOCKED, 6)
  else if s.swapOn n then some (stBUSY, 7)
  else if !zeros p 2 2 || imageBad img then some (stBAD_PARAM, 8)
  else if imageLimitsBad img then some (stRANGE, 9)
  else none

/-- COEF_BANK_LOAD (R80): from acceptance to commit the bank reads as empty. -/
def opCoefBankLoad (e : Op) (s : State) : State :=
  match s.bankLoadCheck e.payload with
  | some (st, c) => s.fail e st c
  | none =>
    let n := loopNo (byteAt e.payload 0)
    let k := byteAt e.payload 1
    let s := s.modLoop n fun a => a.setBank k none
    let j : LoadJob := ⟨some e.id, n, k, slice e.payload 4 52⟩
    { s with wheel := { s.wheel with loads := s.wheel.loads ++ [j] } : State }.opRunning e

/-- BANK_LOAD_COMMIT: the oldest accepted load writes its image and valid marker (R78, R80). A load that FLOAT overtook
finds its bank taken by the FLOAT image, and is answered as check 5 would (log entry 14). -/
def execBankLoadCommit (s : State) : Host.Outcome State Fault Refusal :=
  match s.wheel.loads with
  | [] => .next s
  | j :: rest =>
    if !s.miller3 then .next s
    else
      let s := { s with wheel := { s.wheel with loads := rest } }
      if s.inFloat && j.bank < 2 then
        .next <| match j.op.bind s.opOf with
          | some e => s.fail e stLOCKED 5
          | none => s
      else
      let s := s.modLoop j.loop fun a => a.setBank j.bank (some j.image)
      let s := s.incPar (oLoop j.loop) (loadGenPid j.bank)
      let s := if j.bank = 2 then s.askNvm .config (.loopImage j.loop 1) 1 none else s
      .next <| match j.op.bind s.opOf with
        | some e => s.ok e (leBytes 1 (oLoop j.loop) ++ leBytes 1 j.bank ++ [0, 0] ++
            leBytes 4 (s.par (oLoop j.loop) (loadGenPid j.bank)))
        | none => s

/-! ## Swaps (R81 to R84) -/

/-- Is the loop evaluating: a switching phase, or an outer loop that is triggered? -/
def State.evaluating (s : State) (n : Nat) : Bool :=
  if n < 24 then (s.phase n).switching else (s.loop n).running

/-- Is a swap due at the loop's next evaluation (R83)? -/
def State.swapDue (s : State) (n : Nat) : Bool :=
  s.wheel.swaps.any fun j => j.registered && j.left.contains n && (j.mode == 0 || j.aligned || j.align == n)

/-- Reply to the jobs whose every named loop has swapped, and drop them (R84). -/
def State.swapsDone (s : State) : State :=
  let done := s.wheel.swaps.filter fun j => j.registered && j.left.isEmpty
  let s := { s with wheel := { s.wheel with
    swaps := s.wheel.swaps.filter fun j => !(j.registered && j.left.isEmpty) } }
  done.foldl (fun s j =>
    match j.op.bind s.opOf with
    | some e =>
      let named := (List.range 32).filter fun n => j.mask.testBit n
      s.ok e (leBytes 4 j.mask ++ [0, 0, 0, 0] ++
        named.flatMap fun n => leBytes 4 (s.par (oLoop n) Pid.Phase.LAST_SWAP_SAMPLE))
    | none => s) s

/-- One loop takes its inactive bank: ACTIVE_BANK, LAST_SWAP_SAMPLE and its record (R84). A host's swap
is journaled (R78). -/
def State.loopSwap (s : State) (n : Nat) : State :=
  let o := oLoop n
  let old := s.activeBank n
  let new := 1 - old
  let host := s.wheel.swaps.any fun j => j.op.isSome && j.left.contains n
  let s := s.setPar o Pid.Phase.ACTIVE_BANK (new : Nat)
  let s := s.setPar o Pid.Phase.LAST_SWAP_SAMPLE ((s.par o Pid.Phase.SAMPLE_COUNT + 1) % 4294967296)
  let s := s.modLoop n fun a => { a with newBank := true }
  let s := { s with wheel := { s.wheel with
    swaps := s.wheel.swaps.map fun (j : SwapJob) => { j with left := j.left.filter fun x => x != n } } }
  let s := s.record o rcConfig 0x30 [.lit old, .lit new, .par o Pid.Phase.LAST_SWAP_SAMPLE,
    .par o (loadGenPid new)]
  let s := if host then s.askNvm .config (.loopImage n 0) 1 none else s
  (s.flumeStopOn n fcBANK_SWAP).swapsDone

/-- Swap every named loop that is not evaluating, and all of them where the aligned loop does not evaluate
(R83). -/
def State.swapIdle (s : State) (j : SwapJob) : State :=
  let all := j.mode == 1 && !s.evaluating j.align
  s.eachOf (j.left.filter fun n => all || !s.evaluating n) fun n s => s.loopSwap n

/-- Register a job: it is committed, SWAP_PENDING is live, and idle loops swap at once (R82, R83). -/
def State.registerSwap (s : State) (j : SwapJob) : State :=
  let j := { j with registered := true }
  let s := { s with wheel := { s.wheel with swaps := s.wheel.swaps ++ [j] } }
  let s := match j.op with
    | some id => s.opCommit id
    | none => s
  s.swapIdle j

/-- COEF_BANK_SWAP's checks in their order 1, 4, 5, 2, 3, 6, 7, 8 (R81). -/
def State.bankSwapCheck (s : State) (p : Bytes) : Option (Nat × Nat) :=
  let mask := fieldU p 0 4
  let mode := byteAt p 4
  let al := byteAt p 5
  let named := (List.range 32).filter fun n => mask.testBit n
  if p.length ≠ 8 then some (stBAD_LENGTH, 1)
  else if s.shelfState == ssBraking || s.thermalLatched || s.inFloat ||
      named.any fun n => s.objNow (oLoop n) == osSafeHold then some (stLOCKED, 4)
  else if mode = 1 && objType al != .outerLoop then some (stBAD_OBJECT, 5)
  else if mask = 0 then some (stBAD_PARAM, 2)
  else if mode > 1 then some (stRANGE, 3)
  else if mode = 1 && s.objNow al != osActive && s.objNow al != osDegraded then
    some (stREFUSED, frPRECONDITION)
  else if named.any s.swapOn then some (stBUSY, 7)
  else if named.any s.inactiveUnfit then some (stBAD_PARAM, 8)
  else none

/-- COEF_BANK_SWAP (R81): accepted, it waits for its registration. -/
def opCoefBankSwap (e : Op) (s : State) : State :=
  match s.bankSwapCheck e.payload with
  | some (st, c) => s.reply e st c []
  | none =>
    let mask := fieldU e.payload 0 4
    let j : SwapJob := { op := some e.id, mask := mask, mode := byteAt e.payload 4,
                         align := loopNo (byteAt e.payload 5), registered := false, aligned := false,
                         left := (List.range 32).filter fun n => mask.testBit n }
    { s with wheel := { s.wheel with swaps := s.wheel.swaps ++ [j] } : State }.opRunning e

/-- SWAP_REGISTRATION: the oldest accepted swap is registered in the engine, which is its commit (R82). -/
def execSwapRegistration (s : State) : Host.Outcome State Fault Refusal :=
  match s.wheel.swaps.find? fun j => !j.registered with
  | none => .next s
  | some j =>
    let rest := s.wheel.swaps.filter fun x => x.registered || x.op != j.op
    .next ({ s with wheel := { s.wheel with swaps := rest } : State }.registerSwap j)

/-- The aligned outer loop has been evaluated: the alignment point (R83). An evaluation whose result a residue error discards
passes it all the same (log entry 62). -/
def State.alignPoint (s : State) (n : Nat) : State :=
  { s with wheel := { s.wheel with swaps := s.wheel.swaps.map fun (j : SwapJob) =>
      if j.registered && j.mode == 1 && j.align == n then { j with aligned := true } else j } }

/-- A loop stops evaluating: its pending swaps complete, and those aligned to it (R92); an injection on it
and a capture it paces stop. -/
def State.loopStopped (s : State) (n : Nat) : State :=
  let s := if s.flumeOn n then s.flumeStop fcTARGET_STOPPED else s
  let s := s.traceStop n
  let own := s.wheel.swaps.any fun j => j.registered && j.left.contains n
  let s := if own then s.loopSwap n else s
  let aligned := (s.wheel.swaps.filter fun j =>
    j.registered && j.mode == 1 && j.align == n && !j.aligned).flatMap fun j => j.left
  s.eachOf aligned fun k s => s.loopSwap k

/-! ## Lanes (R86) -/

/-- A residue error: the result is discarded, the lane becomes SUSPECT, a lane in TEST returns (R86). The histories stay, and
with them what a new bank's first evaluation applies: HISTORY_CLEAR and BUMPLESS act at the next one (log entry 62). -/
def State.residueError (s : State) (l n : Nat) : State :=
  let now := s.time.tick
  let again := match vget s.wheel.residue l none with
    | some t => decide (now < t + 86400000000)
    | none => false
  let s := s.setBit (oLoop n) Pid.Phase.LOOP_STATUS 8
  let s := s.setLane l 2
  let s := { s with wheel := { s.wheel with residue := vmod s.wheel.residue l fun _ => some now,
                                            again := vmod s.wheel.again l fun b => b || again } }
  let s := s.incPar oDevice Pid.Device.RESIDUE_ERRORS
  let s := s.eachOf ((List.range 4).filter fun k => s.lane k == 1) fun k s => s.setLane k 0
  let s := match s.dresser.granted with
    | some (.lane k) => if k = l then s else { s with dresser := { s.dresser with granted := none } }
    | _ => s
  s.record oDevice rcFault 0x06 [.par oDevice Pid.Device.LANE_STATUS,
    .par oDevice Pid.Device.RESIDUE_ERRORS, .lit (oLoop n)]

/-- An evaluation that was late or not run (R64, R87). -/
def State.lateEval (s : State) (n : Nat) : State :=
  (s.setBit (oLoop n) Pid.Phase.LOOP_STATUS 7).incPar oDevice Pid.Device.LATE_EVALS

end Sys2Proof.Machine
end

