-- ==== Sys2Proof/Machine/Conversion.lean ====
section
/-! DEFINITION. Power conversion: starting, stopping and removing phases, soft start and hiccup, the FLOAT
exit and set-point slews (R93 to R122, R284). -/

namespace Sys2Proof.Machine

/-- Does Wheel evaluate: firmware has started it, the link is up, the power-side die is powered? -/
def State.wheelRuns (s : State) : Bool := s.running && s.linkUp && s.psdPowered

/-! ## Stopping and starting phases -/

/-- An outer loop whose last switching phase has stopped is no longer triggered (R72). -/
def State.outerIdle (s : State) (m : Nat) : State :=
  if (s.loop (24 + m)).running && (s.actPhases m).isEmpty then
    let s := s.modLoop (24 + m) fun a => { a with running := false, nAct := 0 }
    let s := if s.objSt (oOuter m) == osActive then s.setObj (oOuter m) osWaiting else s
    s.loopStopped (24 + m)
  else s

/-- A phase drives both outputs low at once (R100). The caller sets its OBJ_STATE. -/
def State.stopPhase (s : State) (p : Nat) : State :=
  if (s.phase p).switching then
    let s := s.modPhase p fun a =>
      { a with switching := false, softStart := false, softEnd := false, wait := none, shed := false,
               clipped := false, clipNs := none, clipRun := 0, suspect := false, openRun := 0,
               moving := false, replaced := false, oldFreq := none }
    let s := s.loopStopped p
    match s.outerOf p with
    | some m => s.outerIdle m
    | none => s
  else s.modPhase p fun a => { a with wait := none, shed := false }

/-- The duty that an evaluation commands, after D_MIN and D_MAX (R98). -/
def State.limitedDuty (s : State) (p d : Nat) : Nat :=
  (clampInt (s.par (oPhase p) Pid.Phase.D_MIN) (s.par (oPhase p) Pid.Phase.D_MAX) d).toNat

/-- The other switching phases of a phase's loop. -/
def State.mates (s : State) (p : Nat) : List Nat :=
  match s.outerOf p with
  | none => []
  | some m => (s.actPhases m).filter fun q => q != p

/-- The starting output of a phase that does not start softly (R109): the mean applied duty of its mates in their last
evaluation, as Q2.30. The spec states no mean of none: it is then a free output from 0 to 1 (log entry 63). -/
def State.reefOutput (s : State) (p : Nat) : Int × State :=
  let others := s.mates p
  if others.isEmpty then
    let (v, s) := s.draw
    (v % 1073741824, s)
  else
    (roundDiv (others.foldl (fun (a : Int) q => a + s.limitedDuty q (s.phase q).shadow) 0) (4 * (others.length : Int)), s)

/-- A phase's period starts: the edge generator takes the shadow duty, and a lengthening is over (R95, R98). -/
def State.beginPeriod (s : State) (p : Nat) : State :=
  s.modPhase p fun a =>
    { a with duty := s.limitedDuty p a.shadow, periods := a.periods + 1, moving := false, period := s.ticksOf p }

/-- A phase starts switching from an output: zero histories, and its first period starts (R77, R98, R109). -/
def State.startPhase (s : State) (p : Nat) (soft : Bool) (u0 : Int) : State :=
  let s := s.modLoop p fun a => { a.clearHistory with preload := some u0, slow := s.inFloat }
  let s := s.modPhase p fun a =>
    { a with switching := true, reefed := false, softStart := soft, softEnd := false, wait := none,
             shed := false, shadow := dutyOf u0, periods := 0, openRun := 0, suspect := false,
             clipped := false, clipNs := none, clipRun := 0, floatRun := 0 }
  (s.setObj (oPhase p) (if soft then osStarting else osActive)).beginPeriod p

/-- Fantail's contingency mask acts at the next Sluice tick after a removal, once (R234). -/
def State.applyContingency (s : State) (b : Nat) : State :=
  let mask := s.par (oSeg b) Pid.Segment.CONTINGENCY_MASK
  s.eachOf ((s.feedersOf b).filter fun f => bitOf mask f && !(s.consF f).masked) fun f s =>
    s.modConsF f fun c => { c with masked := true }

/-- A reefed phase of a loop that may be added: enabled, not FAILED, with I_LIMIT above 0 (R108), not held by the lane
cap. -/
def State.reefedPhases (s : State) (m : Nat) : List Nat :=
  (s.maskPhases m).filter fun p =>
    (s.phase p).reefed && !(s.phase p).switching && s.objSt (oPhase p) != osFailed && !(s.phase p).laneCap &&
      decide (s.par (oPhase p) Pid.Phase.I_LIMIT > 0)

/-- The lowest-numbered reefed phase replaces a removed one at the next group boundary (R121). -/
def State.replacePhase (s : State) (m : Nat) : State :=
  match (s.reefedPhases m).filter fun p => (s.phase p).wait.isNone with
  | [] => s
  | p :: _ => s.modPhase p fun a => { a with wait := some .reef }

/-! ## FLOAT exit (R79, R284) -/

/-- The loops of a list that must swap back: those whose FLOAT image is in use. -/
def State.returning (s : State) (l : List Nat) : List Nat :=
  l.filter fun n => match (s.loop n).returnTo with
    | some b => s.activeBank n != b
    | none => false

/-- A swap of Wheel's own. -/
def ownSwap (left : List Nat) (mode align : Nat) : SwapJob :=
  { op := none, mask := left.foldl (fun a n => a + 2 ^ n) 0, mode := mode, align := align,
    registered := false, aligned := false, left := left }

/-- FLOAT is left: each cascade swaps back, aligned to its outer loop's next trigger, whatever has been disabled since (R79,
R284). -/
def State.floatLeave (s : State) : State :=
  if !s.inFloat then s
  else
    let s := s.setPar oDevice Pid.Device.DEVICE_MODE 0
    let staying := (List.range 32).filter fun n => match (s.loop n).returnTo with
      | some b => s.activeBank n == b
      | none => false
    let s := { s with wheel := { s.wheel with
      swaps := (s.wheel.swaps.map fun (j : SwapJob) =>
        if j.op.isNone then { j with left := j.left.filter fun n => !staying.contains n } else j).filter
        fun j => !j.left.isEmpty } }
    let s := s.each 8 fun m s =>
      let back := s.returning ((24 + m) :: s.namingPhases m)
      if back.isEmpty then s else s.registerSwap (ownSwap back 1 (24 + m))
    let lone := (List.range 24).filter fun p => (s.outerOf p).isNone
    let back := s.returning lone
    let s := if back.isEmpty then s else s.registerSwap (ownSwap back 0 0)
    s.each 32 fun n s => s.modLoop n fun a =>
      { a with returnTo := none
               slow := a.slow && !lone.contains n && (match s.cascadeOuter n with
                 | some k => (s.loop k).running
                 | none => false) }

/-- What a removal of a phase does beside the phase itself: the reefing step of the tick is not taken, a reefed phase replaces it,
Sluice sheds by the mask, and FLOAT ends (R120, R121, R127, R234, R284). -/
def State.phaseRemoved (s : State) (p : Nat) : State :=
  let s := match s.outerOf p with
    | some m =>
      let s := s.modLoop (24 + m) fun a => { a with removed := true }
      (s.replacePhase m).applyContingency (s.loopSeg m)
    | none => s
  s.floatLeave

/-- Wheel removes a phase: it stops, FAILED (R120). -/
def State.removePhase (s : State) (p : Nat) (sense : Bool) : State :=
  let s := s.stopPhase p
  let s := s.modPhase p fun a => { a with reefed := false, notice := true }
  let s := s.setObj (oPhase p) osFailed
  let s := s.setBit (oPhase p) Pid.Phase.PHASE_STATUS (if sense then 9 else 8)
  (s.latchFault (oPhase p) [if sense then flSenseFail else flOpenPhase]).phaseRemoved p

/-! ## Set-point slews (R105 to R107) -/

/-- The payload of Table 4-2. -/
def State.slewPayload (s : State) (m : Nat) : Bytes :=
  leBytes 1 (oOuter m) ++ [0, 0, 0] ++ leBytes 4 (s.par (oOuter m) Pid.Loop.SETPOINT_NOW)

/-- A slew ends, with a status and reason. -/
def State.slewEnd (s : State) (m status reason : Nat) : State :=
  let op := (s.loop (24 + m)).slewOp
  let s := s.modLoop (24 + m) fun a => { a with slewOp := none, slewing := false }
  match op.bind s.opOf with
  | some e => s.reply e status reason (s.slewPayload m)
  | none => s

/-- The segment's converter has an ACTIVE or DEGRADED segment. -/
def State.segRuns (s : State) (b : Nat) : Bool :=
  s.objNow (oSeg b) == osActive || s.objNow (oSeg b) == osDegraded

/-- Slews of a segment that is neither ACTIVE nor DEGRADED complete with OK at once (R106). -/
def State.slewsSettle (s : State) (b : Nat) : State :=
  s.eachOf ((List.range 8).filter fun m => (s.loop (24 + m)).slewing && s.loopSeg m == b) fun m s =>
    if s.segRuns b then s else s.slewEnd m stOK 0

/-- SETPOINT_SLEW (R105, R106). -/
def opSetpointSlew (e : Op) (s : State) : State :=
  let p := e.payload
  let o := byteAt p 0
  let m := o - 8
  let target := fieldS p 4 4
  let rate := fieldU p 8 4
  if p.length ≠ 12 then s.fail e stBAD_LENGTH 1
  else if objType o != .outerLoop then s.fail e stBAD_OBJECT 2
  else if target < 0 || target > 6500000 || rate < 100 || rate > 1000000 then s.fail e stRANGE 3
  else if s.shelfState == ssBraking || s.thermalLatched || s.objNow o == osSafeHold then
    s.fail e stLOCKED 4
  else if (s.loop (24 + m)).slewing then s.fail e stBUSY 5
  else
    let s := (s.setPar o Pid.Loop.SETPOINT_TARGET target).setPar o Pid.Loop.SLEW_RATE rate
    let s := s.askConfig o
    if s.segRuns (s.loopSeg m) then
      (s.modLoop (24 + m) fun a => { a with slewOp := some e.id, slewing := true, rem := 0 }).opRunning e
    else
      let s := s.modSeg (s.loopSeg m) fun a => { a with ramping := true }
      s.ok e (s.slewPayload m)

/-! ## Soft start and hiccup (R110 to R115) -/

/-- A phase that a soft start may start: enabled, not FAILED, I_LIMIT above 0, not under the lane cap. -/
def State.phaseReady (s : State) (p : Nat) : Bool :=
  s.enabled (oPhase p) && s.objSt (oPhase p) != osFailed &&
    decide (s.par (oPhase p) Pid.Phase.I_LIMIT > 0) && !(s.phase p).laneCap

/-- May a phase that runs on I_REF_FIXED start? It belongs to no segment's converter; it starts softly at its next period
start (R15, R90; log entry 28). -/
def State.loneReady (s : State) (p : Nat) : Bool :=
  (s.outerOf p).isNone && s.phaseReady p && s.shelf.configApplied && !s.safeHold &&
    s.shelfState != ssBraking && !s.thermalLatched

/-- Phases that run on I_REF_FIXED stop at the default converter step of the Brake walk (log entry 28). -/
def State.stopLone (s : State) : State :=
  s.eachOf ((List.range 24).filter fun p => (s.outerOf p).isNone) fun p s =>
    let s := s.stopPhase p
    if s.objSt (oPhase p) == osStarting || s.objSt (oPhase p) == osActive then s.setObj (oPhase p) osWaiting else s

/-- After OVERVOLT the next attempt waits until the bus samples have stayed at or below SEG_OV for 10 ms (R115). -/
def State.overWaits (s : State) (b : Nat) : Bool :=
  (s.seg b).overHold && match (s.seg b).overTick with
    | some t => decide (s.time.tick < t + 10000)
    | none => false

/-- The start conditions of a segment (R110, R115). Miller makes the start. -/
def State.segMayStart (s : State) (b : Nat) : Bool :=
  s.miller3 && s.psdPowered && s.linkUp && s.enabled (oSeg b) && s.shelf.configApplied &&
    ((s.phasesOfSeg b).any s.phaseReady) && !s.safeHold &&
    s.shelfState != ssBraking && !s.thermalLatched && s.objNow (oSeg b) == osWaiting &&
    !(s.seg b).offTime && !s.overWaits b

/-- A segment begins soft start (R110). -/
def State.segStart (s : State) (b : Nat) : State :=
  let v := s.par (oSeg b) Pid.Segment.V_FAST
  let s := s.setObj (oSeg b) osStarting
  let s := s.modSeg b fun a => { a with overHold := false, ramping := true }
  let s := s.eachOf (s.loopsOfSeg b) fun m s =>
    let s := s.setPar (oOuter m) Pid.Loop.SETPOINT_NOW
      (min v (s.par (oOuter m) Pid.Loop.SETPOINT_TARGET))
    s.modLoop (24 + m) fun a => { a.clearHistory with rem := 0, uvNs := none }
  let s := s.eachOf ((s.phasesOfSeg b).filter s.phaseReady) fun p s =>
    s.modPhase p fun a => { a with wait := some .soft, reefed := false, shed := false }
  s.slewsSettle b

/-- Every phase of a segment's converter stops (R100, R112). -/
def State.stopConverter (s : State) (b : Nat) : State :=
  s.eachOf (s.phasesOfSeg b) fun p s =>
    let s := s.stopPhase p
    if s.objSt (oPhase p) == osStarting || s.objSt (oPhase p) == osActive then
      s.setObj (oPhase p) osWaiting
    else s

/-- Trigger bits of the HICCUP record (Table 12-3). -/
abbrev trUNDERVOLT : Nat := 1
abbrev trILIMIT : Nat := 2
abbrev trOVERVOLT : Nat := 4
abbrev trRUN_UNDERVOLT : Nat := 8

/-- The FAULT_LATCH bits of a latched segment (R112). -/
def hiccupBits (fired : Nat) : List Nat :=
  [flHiccupLimit] ++ (if fired.testBit 0 then [flType 0] else []) ++
    (if fired.testBit 1 then [flType 1] else []) ++ (if fired.testBit 2 then [flOverVoltage] else []) ++
    (if fired.testBit 3 then [flUnderVoltage] else [])

/-- One failed attempt (R112, R114, R115). -/
def State.failAttempt (s : State) (b fired : Nat) : State :=
  let o := oSeg b
  let s := s.stopConverter b
  let count := s.par o Pid.Segment.HICCUP_ATTEMPTS + 1
  let s := (s.setPar o Pid.Segment.HICCUP_ATTEMPTS count).incPar o Pid.Segment.HICCUP_TOTAL
  let s := s.modSeg b fun a =>
    { a with fired := a.fired ||| fired, ramping := false, offTime := decide (count < 3)
             overTick := if fired.testBit 2 then some s.time.tick else a.overTick
             overHold := decide (count < 3) && fired.testBit 2 }
  let s :=
    if count < 3 then s.setObj o osWaiting
    else (s.setObj o osLatched).latchFault o (hiccupBits (s.seg b).fired)
  let s := s.record o rcLatch 0x02 [.lit count, .par o Pid.FAULT_LATCH, .lit fired]
  s.slewsSettle b

/-- A LATCHED segment is cleared: the attempt count returns to 0 (R113). -/
def State.clearSegment (s : State) (b : Nat) : State :=
  let s := (s.clearFaults (oSeg b)).setPar (oSeg b) Pid.Segment.HICCUP_ATTEMPTS 0
  (s.modSeg b fun a => { a with fired := 0, offTime := false, overHold := false }).setObj (oSeg b) osWaiting

/-- Conversion stops everywhere: every phase off and every running segment WAITING (R14, R127). -/
def State.stopConversion (s : State) : State :=
  let s := s.each 24 fun p s =>
    let s := s.stopPhase p
    if s.objSt (oPhase p) == osStarting || s.objSt (oPhase p) == osActive then
      s.setObj (oPhase p) osWaiting
    else s
  s.each 4 fun b s =>
    let s := if s.objSt (oSeg b) == osStarting || s.objSt (oSeg b) == osActive then
      s.setObj (oSeg b) osWaiting else s
    let s := s.modSeg b fun a => { a with offTime := false, overHold := false, ramping := false, fired := 0 }
    let s := if s.objSt (oSeg b) == osLatched then s
      else s.setPar (oSeg b) Pid.Segment.HICCUP_ATTEMPTS 0
    s.slewsSettle b

/-- SEGMENT_START (R110). -/
def execSegmentStart (b : Fin 4) (s : State) : Host.Outcome State Fault Refusal :=
  if s.segMayStart b.val then .next (s.segStart b.val) else .next s

/-- Is V_FAST within ±2 % of a target? -/
def within2 (v t : Int) : Bool := decide ((100 * (v - t).natAbs : Int) ≤ 2 * t)

/-- SEGMENT_ACTIVE: the set-points have reached their targets and V_FAST has been within ±2 % for 10 ms
(R110). The spec speaks of one SETPOINT_NOW; where several loops measure the segment, each must be there (log entry 63). -/
def execSegmentActive (b : Fin 4) (s : State) : Host.Outcome State Fault Refusal :=
  let o := oSeg b.val
  let v := s.par o Pid.Segment.V_FAST
  let ls := s.loopsOfSeg b.val
  let there := ls.all fun m =>
    s.par (oOuter m) Pid.Loop.SETPOINT_NOW == s.par (oOuter m) Pid.Loop.SETPOINT_TARGET &&
    within2 v (s.par (oOuter m) Pid.Loop.SETPOINT_TARGET)
  if s.miller3 && s.objSt o == osStarting && s.enabled o && there then
    let s := s.eachOf (s.phasesOfSeg b.val) fun p s =>
      s.modPhase p fun a => { a with softEnd := a.softStart }
    let s := (s.setObj o osActive).setPar o Pid.Segment.HICCUP_ATTEMPTS 0
    .next (s.modSeg b.val fun a => { a with fired := 0, ramping := false, activeTick := s.time.tick })
  else .next s

/-- HICCUP_OFF_TIME_END: the off-time has passed and the segment starts again (R112, R127); after OVERVOLT it may have to wait for
its bus, and SEGMENT_START makes the start then (R115). -/
def execHiccupOffTimeEnd (b : Fin 4) (s : State) : Host.Outcome State Fault Refusal :=
  if s.miller3 && (s.seg b.val).offTime then
    let s := s.modSeg b.val fun a => { a with offTime := false }
    if s.segMayStart b.val then .next (s.segStart b.val) else .next s
  else .next s

/-- RUN_UNDERVOLT: V_FAST has stayed below SEG_UV for 10 ms (R114). -/
def execRunUndervolt (b : Fin 4) (s : State) : Host.Outcome State Fault Refusal :=
  let o := oSeg b.val
  if s.miller3 && s.segRuns b.val && s.par o Pid.Segment.V_FAST < s.par o Pid.Segment.SEG_UV then
    .next (s.failAttempt b.val trRUN_UNDERVOLT)
  else .next s

/-- OVERVOLT: bus samples have stayed above SEG_OV for 100 µs (R115). -/
def execOvervolt (b : Fin 4) (s : State) : Host.Outcome State Fault Refusal :=
  let o := oSeg b.val
  if s.wheelRuns && (s.segRuns b.val || s.objNow o == osStarting) &&
      (s.seg b.val).chan.value > s.par o Pid.Segment.SEG_OV then
    .next (s.failAttempt b.val trOVERVOLT)
  else .next s

end Sys2Proof.Machine
end

