-- ==== Sys2Proof/Machine/Engine.lean ====
section
/-! DEFINITION. The engine's events: samples, evaluations, period starts, group boundaries, phase failure
and SYNCIN (R40, R63 to R73, R93 to R104, R119, R120). -/

namespace Sys2Proof.Machine

/-- A Q2.30 normalisation: v / full, rounded to the nearest (Table 3-3). -/
def norm30 (v full : Int) : Int := satQ2_30 (roundDiv (v * 1073741824) full)

/-- Fine ticks of 78.125 ps in ns. -/
def fineNs (t : Nat) : Nat := (roundDiv ((t : Int) * 5) 64).toNat

/-- The evaluation period of a phase in ns (R71, R99). -/
def State.phaseNs (s : State) (p : Nat) : Nat := fineNs (s.ticksOf p * if (s.loop p).slow then 8 else 1)

/-- Carrier periods between triggers of an outer loop (R71). -/
def State.trigPeriods (s : State) (m : Nat) : Nat :=
  (s.par (oOuter m) Pid.Loop.RATE_DIV).toNat * if (s.loop (24 + m)).slow then 8 else 1

/-- The trigger period of an outer loop in fine ticks. -/
def State.trigTicks (s : State) (m : Nat) : Nat := s.trigPeriods m * s.loopTicks m

/-- The trigger period of an outer loop in ns. -/
def State.trigNs (s : State) (m : Nat) : Nat := fineNs (s.trigTicks m)

/-- Evaluate a loop's law on its active bank. An empty active bank has no coefficients: the output is a
free value (log entry 14). -/
def State.evalLoop (s : State) (n : Nat) (e : Int) (hold : Bool) : LawOut × State :=
  let a := s.loop n
  match a.bank (s.activeBank n) with
  | some img => (evalLaw img a e hold, s)
  | none =>
    let (v, s) := s.draw
    ({ loop := { a.shift (satQ2_30 v) e with outHigh := false, outLow := false, intClamp := false,
                                             hold := hold },
       u := satQ2_30 v, sat := false }, s)

/-- The output limits of a loop's active bank. -/
def State.uLimits (s : State) (n : Nat) : Int × Int :=
  match (s.loop n).bank (s.activeBank n) with
  | some img => (imgUMin img, imgUMax img)
  | none => (-2147483648, 2147483647)

/-- One evaluation of a loop with the Flume value added at its point (R65 to R69, R128, R129). The result
is the output as used for duty or distribution. -/
def State.evaluate (s : State) (n : Nat) (r y : Int) (outer : Bool) : Int × State :=
  let s := if s.flumeOn n && !s.flumeOver then s.flumeChip else s
  let on := s.flumeOn n && !s.flumeOver
  let x := s.flumeX n
  let point := byteAt s.flume.payload 1
  let r' := if on && point == 0 then satQ2_30 (r + x) else r
  let y' := if on && point == 1 then satQ2_30 (y + x) else y
  let e := satQ2_30 (r' - y')
  let mask := if outer then s.maskPhases (n - 24) else []
  let highs := (mask.filter fun p => (s.loop p).outHigh).length
  let lows := (mask.filter fun p => (s.loop p).outLow).length
  let hold := outer && !mask.isEmpty &&
    ((decide (2 * highs ≥ mask.length) && decide (e > 0)) ||
     (decide (2 * lows ≥ mask.length) && decide (e < 0)))
  let (out, s) := s.evalLoop n e hold
  let (lo, hi) := s.uLimits n
  let injected := on && point == 2
  let u' := if injected then clampInt lo hi (out.u + x) else out.u
  let clip := injected && u' != out.u + x
  let a := out.loop
  let dt := if outer then s.trigNs (n - 24) else s.phaseNs n
  let s := s.modLoop n fun _ =>
    { a with limNs := runNext (a.outHigh || a.outLow || a.hold) dt a.limNs, refUsed := r', measUsed := y',
             err := e, outInj := u', inj := x }
  let o := oLoop n
  let s := ((s.setPar o Pid.Phase.LOOP_REF r).setPar o Pid.Phase.LOOP_MEAS y).setPar
    o Pid.Phase.LOOP_OUT out.u
  let s := s.updPar o Pid.Phase.SAMPLE_COUNT fun c => (c + 1) % 4294967296
  let s := if out.sat then s.setBit o Pid.Phase.LOOP_STATUS 2 else s
  let (ca, cb) := match point with
    | 0 => (y, r')
    | 1 => (y, y')
    | _ => (out.u, u')
  let s := s.flumeAfter n ca cb clip
  (u', s)

/-- An outer evaluation takes the shares and limits of its phases as written by then (R108). -/
def State.takeShares (s : State) (m : Nat) : State :=
  s.eachOf (s.maskPhases m) fun p s => s.modPhase p fun a =>
    { a with share := s.par (oPhase p) Pid.Phase.SHARE_WEIGHT
             limit := norm30 (s.par (oPhase p) Pid.Phase.I_LIMIT) (s.fsCurrent p) }

/-- The distribution stage: each phase of PHASE_MASK takes its reference, up to its limit (R71, R108), with the shares and limits
of the last outer evaluation. -/
def State.distribute (s : State) (m : Nat) : State :=
  let n := 24 + m
  let act := if (s.loop n).nAct = 0 then (s.actPhases m).length else (s.loop n).nAct
  let factor := roundDivUp (s.par (oOuter m) Pid.Loop.N_NOM * 16777216) act
  let u := (s.loop n).outInj
  s.eachOf (s.maskPhases m) fun p s =>
    s.modPhase p fun a =>
      let r := satQ2_30 ((u * factor * a.share + 9007199254740992) / 18014398509481984)
      { a with ref := min r a.limit, clipped := decide (r > a.limit) }

/-- A change of N_ACT at a boundary: references rescale, and an injection on the cascade stops (R71,
Table 5-5). -/
def State.updateNAct (s : State) (m : Nat) : State :=
  let now := (s.actPhases m).length
  if now = (s.loop (24 + m)).nAct then s
  else
    let s := s.flumeStopOn (24 + m) fcTARGET_STOPPED
    (s.modLoop (24 + m) fun a => { a with nAct := now }).distribute m

/-! ## The set-point (R106, R110) -/

/-- Move SETPOINT_NOW towards its target: `num` / `den` units of 10 µV at this trigger. -/
def State.moveSetpoint (s : State) (m num den : Nat) : State :=
  let o := oOuter m
  let a := s.loop (24 + m)
  let now := s.par o Pid.Loop.SETPOINT_NOW
  let target := s.par o Pid.Loop.SETPOINT_TARGET
  let step : Int := if den = 0 then 0 else (((a.rem + num) / den : Nat) : Int)
  let next := if now ≤ target then min target (now + step) else max target (now - step)
  (s.modLoop (24 + m) fun a => { a with rem := if den = 0 then 0 else (a.rem + num) % den }).setPar
    o Pid.Loop.SETPOINT_NOW next

/-- The set-point at a trigger: the soft-start ramp or a slew in flight. A level 3 restart freezes it (R20). -/
def State.trigSetpoint (s : State) (m : Nat) : State :=
  if s.miller.restarting then s else
  let o := oOuter m
  let b := s.loopSeg m
  let t := s.trigTicks m
  if s.objNow (oSeg b) == osStarting then
    s.moveSetpoint m ((s.par o Pid.Loop.SETPOINT_TARGET).toNat * t)
      ((s.par (oSeg b) Pid.Segment.SOFTSTART_TIME).toNat * 12800)
  else if (s.loop (24 + m)).slewing then
    let s := s.moveSetpoint m ((s.par o Pid.Loop.SLEW_RATE).toNat * t) 12800000
    if s.par o Pid.Loop.SETPOINT_NOW == s.par o Pid.Loop.SETPOINT_TARGET then s.slewEnd m stOK 0 else s
  else s

/-- r of an outer loop: the set-point in steps of 100 µV, over 80 V (Table 3-3). -/
def State.outerRef (s : State) (m : Nat) : Int :=
  norm30 (roundDiv (s.par (oOuter m) Pid.Loop.SETPOINT_NOW) 10 * 10) 8000000

/-- The failure triggers of a soft start, at an outer trigger of any loop of the converter, against its own SETPOINT_NOW (R111):
the bits that fire. -/
def State.startTriggers (s : State) (m : Nat) : Nat × State :=
  let b := s.loopSeg m
  if s.objNow (oSeg b) != osStarting || s.par (oOuter m) Pid.Loop.SETPOINT_NOW < 100000 then (0, s)
  else
    let low := decide (2 * (s.seg b).chan.value < s.par (oOuter m) Pid.Loop.SETPOINT_NOW)
    let s := s.modLoop (24 + m) fun a => { a with uvNs := runNext low (s.trigNs m) a.uvNs }
    let uv := ranFor (s.loop (24 + m)).uvNs 2000000
    let il := (s.phasesOfSeg b).any fun p => (s.phase p).switching && ranFor (s.phase p).clipNs 2000000
    ((if uv then trUNDERVOLT else 0) + (if il then trILIMIT else 0), s)

/-- Does this trigger or sample show a condition that ends FLOAT in Wheel (R284)? -/
def State.floatExitOuter (s : State) (m : Nat) : Bool :=
  let a := s.loop (24 + m)
  a.outHigh || a.outLow || a.hold || ((s.actPhases m).any fun p => (s.phase p).clipped) ||
    !within2 (s.seg (s.loopSeg m)).chan.value (s.par (oOuter m) Pid.Loop.SETPOINT_NOW)

/-- The full rate returns to a cascade at its first trigger after FLOAT (R284). -/
def State.fullRate (s : State) (m : Nat) : State :=
  if s.inFloat || !(s.loop (24 + m)).slow then s
  else s.eachOf ((24 + m) :: s.namingPhases m) fun n s => s.modLoop n fun a => { a with slow := false }

/-- OUTER_TRIGGER: an outer loop is triggered, evaluates and distributes (R69 to R71, R106, R111). -/
def execOuterTrigger (lp : Fin 8) (lane : Fin 4) (residueOk : Bool) (s : State) :
    Host.Outcome State Fault Refusal :=
  let m := lp.val
  let n := 24 + m
  let o := oOuter m
  if !s.wheelRuns || !s.enabled o || s.objSt o == osFailed || (s.actPhases m).isEmpty ||
      s.lane lane.val != 0 then .next s
  else
    let s :=
      if (s.loop n).running then s
      else (s.modLoop n fun a => { a with running := true, nAct := (s.actPhases m).length }).setObj
        o osActive
    let s := s.fullRate m
    let s := if s.swapDue n then s.loopSwap n else s
    let s := s.trigSetpoint m
    if !residueOk then
      let s := s.residueError lane.val n
      .next ((s.updPar o Pid.Loop.SAMPLE_COUNT fun c => (c + 1) % 4294967296).alignPoint n)
    else
      let (_, s) := s.evaluate n (s.outerRef m) (norm30 (s.seg (s.loopSeg m)).chan.value 8000000) true
      let s := ((s.takeShares m).distribute m).alignPoint n
      let s := s.traceEval n
      let (fired, s) := s.startTriggers m
      let s := if fired = 0 then s else s.failAttempt (s.loopSeg m) fired
      .next (if s.inFloat && s.floatExitOuter m then s.floatLeave else s)

/-! ## Phase evaluations (R63, R64, R73, R119, R120) -/

/-- The open-phase condition at an evaluation (R119); 16 periods are completed when the 17th has started. -/
def State.openHolds (s : State) (p : Nat) : Bool :=
  let others := s.mates p
  let sum := others.foldl (fun (a : Int) q => a + (s.phase q).current) 0
  let k : Int := others.length
  let cap := min ((s.uLimits p).2 * 4) (s.par (oPhase p) Pid.Phase.D_MAX)
  let d : Int := s.limitedDuty p (s.phase p).shadow
  !others.isEmpty && !(s.phase p).softStart && decide ((s.phase p).periods ≥ 17) &&
      decide (10 * sum ≥ k * s.fsCurrent p) && decide (5 * k * (s.phase p).current < sum) &&
      decide (50 * d + 4294967296 ≥ 50 * cap)

/-- N_Q (R119). -/
def State.openQualify (s : State) (p : Nat) : Nat :=
  max 2 (((s.par (oPhase p) Pid.Phase.F_PWM).toNat + 249999) / 250000)

/-- The open-phase check after an evaluation, and the removal where it qualifies. -/
def State.openCheck (s : State) (p : Nat) : State :=
  let holds := s.openHolds p
  let s := s.modPhase p fun a =>
    { a with suspect := holds, openRun := if holds then a.openRun + 1 else 0 }
  if (s.phase p).openRun ≥ s.openQualify p then s.removePhase p false else s

/-- I_LIMIT at every evaluation (R108; Table 5-5). -/
def State.clipTrack (s : State) (p : Nat) : State :=
  s.modPhase p fun a =>
    { a with clipNs := runNext a.clipped (s.phaseNs p) a.clipNs
             clipRun := if a.clipped then min 16 (a.clipRun + 1) else 0 }

/-- An injection stops after 16 evaluations in a row with I_LIMIT live, unless a cause of a lower code has come with the last one
(Tables 5-5 and 5-11). -/
def State.clipStop (s : State) (p : Nat) : State :=
  if (s.phase p).clipRun = 16 then s.flumeStopOn p fcI_LIMIT else s

/-- The reference an inner evaluation uses (R71, R73). -/
def State.innerRef (s : State) (p : Nat) : Int :=
  match s.outerOf p with
  | some _ => (s.phase p).ref
  | none => s.par (oPhase p) Pid.Phase.I_REF_FIXED

/-- The sample-to-shadow time of an evaluation (R64, R91). -/
def State.latency (s : State) (p : Nat) (ns : Nat) : State :=
  let s := s.updPar oDevice Pid.Device.MAX_LATENCY fun v => max v ns
  if ns > 250 then s.lateEval p else s

/-- The evaluation of a phase's sample. -/
def State.evalPhase (s : State) (p : Nat) (ns : Nat) : State :=
  let (u, s) := s.evaluate p (s.innerRef p) (norm30 (s.phase p).current (s.fsCurrent p)) false
  let s := s.modPhase p fun a => { a with shadow := dutyOf u }
  let s := s.latency p ns
  let s := (s.clipTrack p).traceEval p
  let s := if s.inFloat && (s.phase p).clipped then s.floatLeave else s
  (s.openCheck p).clipStop p

/-- A phase's sample: its value, its checks and the current that the law takes (R47, R56). In a period whose sample a self-check
has replaced there is none, and the previous current stands (R57). -/
def State.phaseSample (s : State) (p : Nat) (x : Sample) : State :=
  if (s.phase p).replaced then s.modPhase p fun a => { a with replaced := false }
  else
    let was := (s.phase p).chan.fail
    let v := s.calibrate (oPhase p) x.nv
    let s := s.modPhase p fun a => { a with chan := a.chan.sample false true x.code v a.shadow, current := v }
    s.senseRise (oPhase p) was

/-- INNER_EVALUATION: a phase's sample arrives (R63, R73). Its plausibility is checked at every sample; in
FLOAT only every eighth is evaluated (R99). An evaluation with no lane in service is not run (R87). One that is not run or
whose result is discarded neither extends nor breaks a run of R119, and is no sample k of an injection (log entries 63, 64). -/
def execInnerEvaluation (p : Fin 24) (x : Sample) (lane : Fin 4) (latencyNs : BitVec 16)
    (residueOk : Bool) (s : State) : Host.Outcome State Fault Refusal :=
  let p := p.val
  let o := oPhase p
  if !s.wheelRuns || !(s.phase p).switching then .next s
  else
    let was := (s.phase p).chan.fail
    let s := s.phaseSample p x
    if (s.phase p).chan.fail && !was then .next (s.removePhase p true)
    else
      let s := s.modPhase p fun a => { a with floatRun := (a.floatRun + 1) % 8 }
      if (s.loop p).slow && (s.phase p).floatRun != 0 then .next s
      else
        let s := if s.swapDue p then s.loopSwap p else s
        if s.lane lane.val != 0 then .next (s.lateEval p)
        else if !residueOk then
          .next ((s.residueError lane.val p).updPar o Pid.Phase.SAMPLE_COUNT fun c => (c + 1) % 4294967296)
        else .next (s.evalPhase p latencyNs.toNat)

/-- Sample requests of a SAR converter per second: one per period of each of its switching phases (R39, R40). -/
def State.sarLoad (s : State) (sar : Nat) : Int :=
  ((sarPhases sar).filter fun p => (s.phase p).switching).foldl
    (fun (a : Int) p => a + s.par (oPhase p) Pid.Phase.F_PWM) 0

/-- Must a self-check of a phase replace its sample: the requests fill all 8 000 000 slots per second of its converter (R57)? -/
def State.checkReplaces (s : State) (p : Nat) : Bool :=
  (s.phase p).switching && decide (s.sarLoad (p % 6) ≥ 8000000)

/-- Has another phase of a phase's converter had its sample replaced in the present period (R57)? -/
def State.otherReplaced (s : State) (p : Nat) : Bool :=
  (sarPhases (p % 6)).any fun q => q != p && (s.phase q).replaced

/-- What a self-check takes the place of (R57): a phase sample where its converter has no free slot, which is then evaluated on
the previous current; a slot of the round, in which the channel's previous sample stands in. -/
def State.checkSlot (s : State) (ch : SarChannel) : State :=
  match ch with
  | .phase p => if s.checkReplaces p.val then s.modPhase p.val fun a => { a with replaced := true } else s
  | _ =>
    let o := sarObj ch
    let v := (s.chanOf o).value
    let s := (s.modChan o fun c => { c with sum := c.sum + v, n := c.n + 1 }).gather o v
    s.slotEnergy o v

/-- SAR_SELF_CHECK: one self-check of a SAR channel, in its turn on its converter (R56, R57; log entry 60); a phase whose
SENSE_FAIL rises is removed (R58, R120). One that would replace a second phase sample of the converter in one period waits
(R57, R60). -/
def execSarSelfCheck (ch : SarChannel) (pass : Bool) (s : State) : Host.Outcome State Fault Refusal :=
  let o := sarObj ch
  let waits := match ch with
    | .phase p => s.checkReplaces p.val && s.otherReplaced p.val
    | _ => false
  if !s.supply.psdOk || waits then .next s
  else
    let s := s.checkSlot ch
    let was := (s.chanOf o).fail
    let s := s.modChan o fun c =>
      let run := if pass then 0 else min 2 (c.failRun + 1)
      { c with failRun := run, check := decide (run ≥ 2) }
    let s := s.senseRise o was
    .next <| match ch with
      | .phase p =>
        if (s.phase p.val).chan.fail && !was && (s.phase p.val).switching && s.wheelRuns then
          s.removePhase p.val true
        else s
      | _ => s

/-- Where in a phase's period its sample is requested, in fine ticks from the period start: in the middle of the on-time, or at
SAMPLE_OFFSET (R99). -/
def State.sampleInstant (s : State) (p : Nat) : Nat :=
  if s.par (oPhase p) Pid.Phase.SAMPLE_MODE == 0 then
    (roundDiv (((s.phase p).duty : Int) * s.ticksOf p) 8589934592).toNat
  else (s.par (oPhase p) Pid.Phase.SAMPLE_OFFSET).toNat

/-- SAMPLE_REQUEST: the edge generator raises the request of the period at its instant (R99); a sample whose slot starts 125 ns or
more after its request sets SKEW (R40). -/
def execSampleRequest (p : Fin 24) (waitNs : Nat) (s : State) : Host.Outcome State Fault Refusal :=
  if s.psdPowered && (s.phase p.val).switching then
    let s := s.modPhase p.val fun a => { a with request := s.sampleInstant p.val }
    .next (if waitNs ≥ 125 then s.setBit (oPhase p.val) pSenseStatus ssSKEW else s)
  else .next s

/-- PHASE_FAIL_NOTICE: Miller records the removal and marks the phase unhealthy (R120). -/
def execPhaseFailNotice (p : Fin 24) (s : State) : Host.Outcome State Fault Refusal :=
  if s.miller3 && (s.phase p.val).notice then
    let o := oPhase p.val
    let act : Int := match s.outerOf p.val with
      | some m => ((s.actPhases m).length : Nat)
      | none => 0
    let s := s.modPhase p.val fun a => { a with notice := false }
    let s := s.incPar o Pid.Phase.FAIL_COUNT
    .next (s.record o rcFault 0x03 [.par o Pid.FAULT_LATCH, .par o Pid.Phase.I_FAST,
      .lit (s.phase p.val).duty, .lit act])
  else .next s

/-! ## Carriers (R93 to R104) -/

/-- The enabled phases of the interleave group of a frequency (R93). -/
def State.group (s : State) (f : Nat) : List Nat :=
  (List.range 24).filter fun p => s.enabled (oPhase p) && s.freqOf p == f

/-- SYNC_NOMINAL. -/
def State.syncNominal (s : State) : Nat := (s.par oDevice Pid.Device.SYNC_NOMINAL).toNat

/-- The period of a frequency in fine ticks. -/
def fineTicks (f : Int) : Nat := (roundDiv 12800000000 f).toNat

/-- One tick towards a target. -/
def stepTo (v target : Int) : Int := if v < target then v + 1 else if v > target then v - 1 else v

/-- The period that the synchronised group glides to: its nominal one, or while it acquires or follows SYNCIN that of SYNCIN
(R102, R103). -/
def State.glideTarget (s : State) : Nat :=
  let st := s.par oDevice Pid.Device.SYNC_STATUS
  if st == 1 || st == 2 then fineTicks (s.par oDevice Pid.Device.SYNC_FREQ) else fineTicks s.wheel.syncOf

/-- The offset that pulls in the phase error, while ACQUIRING at the frequency of SYNCIN: at most 0.5 %, otherwise free; it is
released once the group is locked (R103; log entry 63). -/
def State.pullGoal (s : State) : Int × State :=
  if s.par oDevice Pid.Device.SYNC_STATUS == 1 && s.wheel.syncPeriod == s.glideTarget then
    let (v, s) := s.draw
    let most : Int := s.wheel.syncPeriod / 200
    (v % (2 * most + 1) - most, s)
  else (0, s)

/-- One fine tick of the synchronised group's period: the offset first where it has to change, else the frequency; INTERNAL once
F_PWM is reached (R102, R103). -/
def State.glideTick (s : State) : State :=
  let (goal, s) := s.pullGoal
  let t := s.wheel.syncPeriod
  let s :=
    if s.wheel.pull != goal then { s with wheel := { s.wheel with pull := stepTo s.wheel.pull goal } }
    else { s with wheel := { s.wheel with syncPeriod := (stepTo t s.glideTarget).toNat } }
  if s.par oDevice Pid.Device.SYNC_STATUS == 3 && s.wheel.pull == 0 && s.wheel.syncPeriod == s.glideTarget then
    { s with wheel := { s.wheel with syncOf := 0, syncPeriod := 0, glide := 0 } : State }.setPar oDevice Pid.Device.SYNC_STATUS 0
  else s

/-- The synchronised group's timebase at its carrier's period start: one fine tick at a time, at most 1 % of the period per ms
(R102, R103). -/
def State.glideStep (s : State) : State :=
  let t := (s.wheel.syncPeriod + s.wheel.pull).toNat
  let acc := s.wheel.glide + t * t
  if s.wheel.syncPeriod = 0 then s
  else if acc < 1280000000 then { s with wheel := { s.wheel with glide := acc } }
  else { s with wheel := { s.wheel with glide := acc - 1280000000 } : State }.glideTick

/-- PWM_PERIOD_START: a phase's period starts (R95, R98). A phase that waits for its soft start begins it, and SOFT_START ends
where its time is over (R110). One on I_REF_FIXED has no segment whose start could end: its soft start ends at its next period
start (R15, log entry 28). -/
def execPwmPeriodStart (p : Fin 24) (s : State) : Host.Outcome State Fault Refusal :=
  let p := p.val
  if !s.linkUp || !s.psdPowered then .next s
  else if (s.phase p).switching then
    let ended := (s.phase p).softEnd
    let s := (s.beginPeriod p).modPhase p fun a => { a with softStart := a.softStart && !ended, softEnd := false }
    .next (if ended then s.setObj (oPhase p) osActive else s)
  else if !s.wheelRuns then .next s
  else if (s.phase p).wait == some .soft then .next (s.startPhase p true 0)
  else if s.loneReady p then .next ((s.startPhase p true 0).modPhase p fun a => { a with softEnd := true })
  else .next s

/-- The timebase leaves its lock, to glide from the period at which it runs (R102, R103). -/
def State.syncGlide (s : State) : State :=
  { s with wheel := { s.wheel with syncPeriod := (s.wheel.syncPeriod + s.wheel.pull).toNat, pull := 0, glide := 0 } }

/-- SYNCIN is no longer to be followed: the timebase leaves its lock, as at a loss (R102), without counting one. -/
def State.syncLeave (s : State) : State :=
  let st := s.par oDevice Pid.Device.SYNC_STATUS
  let s := { s with wheel := { s.wheel with syncEdges := 0, syncMisses := 0 } }
  if st == 1 || st == 2 then
    (s.syncGlide.setPar oDevice Pid.Device.SYNC_STATUS 3).setPar oDevice Pid.Device.SYNC_FREQ 0
  else s.setPar oDevice Pid.Device.SYNC_FREQ 0

/-- Where no phase is left in the group that follows SYNCIN, SYNCIN has no effect any more (R101). -/
def State.syncAlone (s : State) : State :=
  let st := s.par oDevice Pid.Device.SYNC_STATUS
  if (st == 1 || st == 2) && (s.group s.wheel.syncOf).isEmpty then s.syncLeave else s

/-- Phases whose F_PWM has been written leave their group at its boundary (R127). -/
def State.leaveGroup (s : State) (g : List Nat) : State :=
  s.eachOf (g.filter fun p => (s.phase p).oldFreq.isSome) fun p s => s.modPhase p fun a => { a with oldFreq := none }

/-- The phases that wait to be added start, all from the outputs that they find at the boundary (R109, R117, R121). -/
def State.addPhases (s : State) (g : List Nat) : State :=
  let (starts, s) := s.collect (g.filter fun p => (s.phase p).wait == some .reef && !(s.phase p).switching) fun p s =>
    let (u, t) := s.reefOutput p
    ([(p, u)], t)
  starts.foldl (fun s e => s.startPhase e.1 false e.2) s

/-- A phase takes a new angle: the period in progress is lengthened by Δ so that the next one starts there (R94, R95). One that
starts at this boundary starts its period at angle 0. -/
def State.takeAngle (s : State) (p angle : Nat) (fresh : Bool) : State :=
  let old := if fresh then 0 else (s.par (oPhase p) Pid.Phase.ANGLE_NOW).toNat
  let turn := (angle + 65536 - old) % 65536
  let delta := (roundDiv ((turn : Int) * s.ticksOf p) 65536).toNat
  (s.modPhase p fun a => { a with moving := a.moving || turn != 0, period := a.period + delta }).setPar
    (oPhase p) Pid.Phase.ANGLE_NOW angle

/-- GROUP_BOUNDARY: at the carrier's period start, sheds, adds, replacements and changes of F_PWM take effect, then the angles and
N_ACT of the loops the group feeds; the synchronised group's timebase glides whether or not a phase switches (R71, R94, R95,
R102, R117, R121, R127). -/
def execGroupBoundary (f : Word) (s : State) : Host.Outcome State Fault Refusal :=
  let s := if f.toNat == s.wheel.syncOf && s.psdPowered then s.glideStep else s
  let g := s.group f.toNat
  if !s.wheelRuns || g.isEmpty then .next s
  else
    let s := s.eachOf (g.filter fun p => (s.phase p).shed && (s.phase p).switching) fun p s =>
      let s := s.stopPhase p
      (s.modPhase p fun a => { a with reefed := true }).setObj (oPhase p) osWaiting
    let old := g.filter fun p => (s.phase p).switching
    let s := (s.addPhases g).leaveGroup g
    let on := (s.group f.toNat).filter fun p => (s.phase p).switching
    let s := (on.zipIdx).foldl (fun s (e : Nat × Nat) =>
      s.takeAngle e.1 (roundDiv (e.2 * 65536 : Nat) (on.length : Nat)).toNat (!old.contains e.1)) s
    .next (s.eachOf ((List.range 8).filter fun m => g.any fun p => s.outerOf p == some m) fun m s =>
      s.updateNAct m).syncAlone

/-- A missing or invalid SYNCIN edge (R102, R103): two in a row leave the lock, and SYNCIN then has no frequency (R126). -/
def State.syncMiss (s : State) : State :=
  let s := { s with wheel := { s.wheel with syncMisses := s.wheel.syncMisses + 1, syncEdges := 0 } }
  let st := s.par oDevice Pid.Device.SYNC_STATUS
  if s.wheel.syncMisses < 2 then s
  else if st == 1 || st == 2 then
    let s := (s.syncGlide.setPar oDevice Pid.Device.SYNC_STATUS 3).incPar oDevice Pid.Device.SYNC_LOSS_COUNT
    let s := s.record oDevice rcFault 0x0C [.par oDevice Pid.Device.SYNC_STATUS,
      .par oDevice Pid.Device.SYNC_LOSS_COUNT, .par oDevice Pid.Device.SYNC_FREQ]
    s.setPar oDevice Pid.Device.SYNC_FREQ 0
  else s.setPar oDevice Pid.Device.SYNC_FREQ 0

/-- Does SYNCIN act: it is enabled and a group runs at SYNC_NOMINAL (R101)? -/
def State.syncOn (s : State) : Bool :=
  s.wheelRuns && s.par oDevice Pid.Device.SYNC_ENABLE == 1 && !(s.group s.syncNominal).isEmpty

/-- A valid edge moves the timebase on (R101, R103): the sixteenth in a row begins ACQUIRING, from the period at which the group
runs; ACQUIRING ends LOCKED when SYNCIN's frequency is reached and the phase error is within 1 fine tick; a locked carrier
follows each edge. -/
def State.syncFollow (s : State) (phaseError : Nat) : State :=
  let st := s.par oDevice Pid.Device.SYNC_STATUS
  let t := s.glideTarget
  if st == 2 then { s with wheel := { s.wheel with syncPeriod := t } }
  else if st == 1 then
    if s.wheel.syncPeriod = t && phaseError ≤ 1 then s.setPar oDevice Pid.Device.SYNC_STATUS 2 else s
  else if s.wheel.syncEdges = 16 then
    let run := s.carrierTicks s.syncNominal
    { s with wheel := { s.wheel with syncOf := s.syncNominal, syncPeriod := run, pull := 0 } : State }.setPar
      oDevice Pid.Device.SYNC_STATUS 1
  else s

/-- SYNCIN_EDGE: an edge of an implied frequency with the phase error in fine ticks (R101, R103). -/
def execSyncinEdge (freq : Word) (phaseError : Nat) (s : State) : Host.Outcome State Fault Refusal :=
  if !s.syncOn then .next s
  else
    let f : Int := freq.toNat
    let nom := s.par oDevice Pid.Device.SYNC_NOMINAL
    if (10 * (f - nom).natAbs : Int) > nom || f < 100000 || f > 2000000 then .next s.syncMiss
    else
      let s := { s with wheel := { s.wheel with syncEdges := min 16 (s.wheel.syncEdges + 1),
                                                syncMisses := 0 } : State }
      .next ((s.setPar oDevice Pid.Device.SYNC_FREQ f).syncFollow phaseError)

/-- SYNCIN_MISSING: 1.25 periods without a valid edge (R102). -/
def execSyncinMissing (s : State) : Host.Outcome State Fault Refusal :=
  if s.syncOn then .next s.syncMiss else .next s

end Sys2Proof.Machine
end

