-- ==== Sys2Proof/Machine/Feeders.lean ====
section
/-! DEFINITION. Feeders: Sluice's tick, start paths, protections, the fast trip and the ways to clear a latch
(R144 to R174). -/

namespace Sys2Proof.Machine

/-- Does Sluice run: the power-side die has its logic supplies (R268)? -/
def State.sluiceRuns (s : State) : Bool := s.supply.psdOk

/-- The feeder is in its gate ramp. -/
def State.feederStarting (s : State) (f : Nat) : Bool := s.objSt (oFeeder f) == osStarting

/-- The feeder's gate is on: STARTING, ACTIVE or DEGRADED. -/
def State.feederOn (s : State) (f : Nat) : Bool :=
  s.feederStarting f || s.objSt (oFeeder f) == osActive

/-! ## Turning a feeder off -/

/-- The gate is pulled down (R152), and a Weir latch is released with what it had to tell. The caller sets OBJ_STATE. -/
def State.gateOff (s : State) (f : Nat) : State :=
  s.modFeeder f fun a =>
    { a with gate := false, pg := false, serve := false, shed := false, ovRun := 0, startRun := 0
             weir := { a.weir with latchA := false, latchB := false, proving := none } }

/-- The gate is pulled down and the feeder waits for its start condition; a LATCHED or DISABLED feeder keeps
its state (R150, R268). -/
def State.feederWait (s : State) (f : Nat) : State :=
  let on := s.feederOn f
  let s := (s.gateOff f).modFeeder f fun a => { a with condition := false }
  if on then s.setObj (oFeeder f) osWaiting else s

/-- The current that Sluice's integrators use: the last good sample under SENSE_FAIL (R168). -/
def State.sluiceCurrent (s : State) (f : Nat) : Int :=
  let c := (s.feeder f).chan
  if c.fail then c.good else c.value

/-- The comparators that were masked when the Weir latch was set, as bits: A 0, B 1; FAILED, or under proof (R162, R163, R170). -/
def State.maskedComps (s : State) (f : Nat) : Int :=
  let proving := (s.feeder f).weir.proving
  bitsOf [(0, s.compFailed (oFeeder f) false || proving == some false), (1, s.compFailed (oFeeder f) true || proving == some true)]

/-- A trip latches the feeder off (R169) and writes its record (R170): FAULT_LATCH, current, VDS, SOA_ACC,
IT_LEVEL, the fault timer count and, for a Weir trip, the masked comparators. -/
def State.feederTrip (s : State) (f : Nat) (bits : List Nat) : State :=
  let o := oFeeder f
  let weir := bits.contains flFastTrip
  let i := s.sluiceCurrent f
  let masked := s.maskedComps f
  let s := (s.gateOff f).modFeeder f fun a => { a with condition := false, reseat := false }
  let s := ((s.setObj o osLatched).latchFault o bits).incPar o Pid.Feeder.TRIP_TOTAL
  s.recordPsd o rcLatch 0x01
    ([.par o Pid.FAULT_LATCH, .lit i, .lit ((s.feeder f).vds * 31250 : Nat), .par o Pid.Feeder.SOA_ACC,
      .par o Pid.Feeder.IT_LEVEL, .lit (s.feeder f).timer] ++
      if weir then [.lit masked] else [])

/-- The bits of a set Weir latch (Table 1-7, R160, R180). -/
def weirBits (w : WeirAux) : List Nat :=
  if w.latchA || w.latchB then
    [flFastTrip] ++ (if w.latchA then [flType 0] else []) ++ (if w.latchB then [flType 1] else [])
  else []

/-- A set Weir latch is read before anything else ends the feeder's run: it becomes LATCHED with FAST_TRIP (R160). -/
def State.readWeir (s : State) (f : Nat) : State :=
  let bits := weirBits (s.feeder f).weir
  if s.feederOn f && !bits.isEmpty then s.feederTrip f bits else s

/-- Both comparators FAILED with WEIR_BOTH_FAIL = 0 (R164). -/
def State.weirStops (s : State) (f : Nat) : Bool :=
  s.weirBoth (oFeeder f) && s.par (oFeeder f) Pid.Feeder.WEIR_BOTH_FAIL == 0

/-- A LATCHED feeder is cleared and waits (R25, R169). -/
def State.feederClear (s : State) (f : Nat) : State :=
  ((s.clearFaults (oFeeder f)).setObj (oFeeder f) osWaiting).modFeeder f fun a =>
    { a with reseat := false, enableOff := false, condition := false }

/-- ENABLE of a feeder has been written (R169, Table 6-10): 0 pulls the gate down; 1 after 0 clears a latch. -/
def State.feederEnable (s : State) (f : Nat) (on : Bool) : State :=
  let o := oFeeder f
  if on then
    if (s.feeder f).enableOff then s.feederClear f
    else if s.objSt o == osDisabled then s.setObj o osWaiting else s
  else
    let s := s.readWeir f
    let latched := s.objSt o == osLatched || (s.feeder f).enableOff
    let s := (s.gateOff f).modFeeder f fun a => { a with condition := false, enableOff := latched }
    s.setObj o osDisabled

/-! ## Start paths -/

/-- The start condition of the shelf state (Table 6-3). -/
def State.startRow (s : State) (f : Nat) : Bool :=
  let a := s.feeder f
  let st := s.shelfState
  if st == ssNormal || st == ssMaint then a.seated
  else if st == ssBraking || st == ssThermal then false
  else a.low && a.windowOk && decide (a.insertRun ≥ (s.par (oFeeder f) Pid.Feeder.INSERT_DELAY).toNat)

/-- An enabled, WAITING feeder meets its start condition, or keeps its request after a shed (R148, R151). -/
def State.feederReady (s : State) (f : Nat) : Bool :=
  let a := s.feeder f
  s.enabled (oFeeder f) && s.objNow (oFeeder f) == osWaiting && s.psdPowered &&
    s.shelfState != ssBraking && s.shelfState != ssThermal && (s.startRow f || a.condition)

/-- The gate ramp begins (R149). -/
def State.rampStart (s : State) (f : Nat) : State :=
  (s.modFeeder f fun a =>
    { a with gate := true, pg := false, timer := 0, soa := 0, startRun := 0, ovRun := 0, serve := false,
             condition := true }).setObj (oFeeder f) osStarting

/-- Sluice acts on a serve. A level 3 restart freezes feeder states, and a lost link brings no decision (R14, R20, Table 6-10). -/
def State.serveAct (s : State) (f : Nat) : State :=
  if (s.feeder f).serve && s.feederReady f && s.linkUp && !s.miller.restarting && !(s.consF f).masked &&
      s.par (oFeeder f) Pid.Feeder.I_LIMIT != 0 then s.rampStart f
  else s

/-- A serve acts at the first tick after it, or not at all (R149); a level 3 restart keeps it (R20). -/
def State.serveDrop (s : State) (f : Nat) : State :=
  s.modFeeder f fun a => { a with serve := a.serve && s.miller.restarting }

/-- Sluice acts on a shed, or on the contingency mask after a removal (R151, R234): the feeder waits and
keeps its request. -/
def State.shedAct (s : State) (f : Nat) : State :=
  let s := if (s.consF f).masked || (s.feeder f).shed then s.readWeir f else s
  let cut := ((s.feeder f).shed && s.linkUp && !s.miller.restarting) || (s.consF f).masked
  let s := s.modFeeder f fun a => { a with shed := a.shed && s.miller.restarting }
  if cut && s.feederOn f then
    ((s.gateOff f).modFeeder f fun a => { a with condition := true }).setObj (oFeeder f) osWaiting
  else s

/-- The seat has opened (R147, R150): the gate goes down; a LATCHED feeder waits for reseating. -/
def State.seatOpened (s : State) (f : Nat) : State :=
  let s := (s.readWeir f).feederWait f
  let latched := s.objSt (oFeeder f) == osLatched
  let s := s.modFeeder f fun a =>
    { a with seated := false, insertRun := 0, reseat := a.reseat || latched }
  s.incPar (oFeeder f) Pid.Feeder.SEAT_EVENTS

/-- The seat is low and stable (R147): a reseated LATCHED feeder is cleared (R169). -/
def State.seatStabled (s : State) (f : Nat) : State :=
  let s := s.modFeeder f fun a => { a with seated := true }
  if (s.feeder f).reseat && s.objSt (oFeeder f) == osLatched then s.feederClear f else s

/-! ## Limits (R153) -/

/-- A limit as applied, in steps of 50 µV of shunt voltage (R153): current in 100 µA, shunt in nΩ. -/
def appliedSteps (i r : Int) : Int := roundDiv (i * r) 500000000

/-- A limit that may be applied: 0, or from 2 mV to 45 mV (R153). -/
def limitOk (i r : Int) : Bool :=
  i == 0 || (decide (40 ≤ appliedSteps i r) && decide (appliedSteps i r ≤ 900))

/-- The limit that the regulation amplifier applies now, in steps of 50 µV: I_LIMIT_START while STARTING, else I_LIMIT (R153). -/
def State.limitSteps (s : State) (f : Nat) : Int :=
  appliedSteps (s.par (oFeeder f) (if s.feederStarting f then Pid.Feeder.I_LIMIT_START else Pid.Feeder.I_LIMIT))
    (s.par (oFeeder f) pSenseRnom)

/-- The regulation flag at a shunt voltage in µV: within 2 % of the limit or above it (R153). The amplifier acts while the gate is on
(log entry 65). -/
def State.clFlag (s : State) (f shunt : Nat) : Bool :=
  (s.feeder f).gate && decide (98 * 50 * s.limitSteps f ≤ 100 * (shunt : Int))

/-! ## One tick (R145) -/

/-- Are the windows satisfied at the segment's latest sample (R148)? -/
def State.windowsNow (s : State) (f : Nat) : Bool :=
  let v := (s.seg (s.feederSeg f)).chan.value
  decide (s.par (oFeeder f) Pid.Feeder.UV_WINDOW ≤ v) && decide (v ≤ s.par (oFeeder f) Pid.Feeder.OV_WINDOW)

/-- PG_VDS as its comparator applies it, in 10 µV: rounded to the nearest 50 mV (R157). -/
def State.pgLevel (s : State) (f : Nat) : Int :=
  roundDiv (s.par (oFeeder f) Pid.Feeder.PG_VDS) 5000 * 5000

/-- The inputs of a tick enter: seat counts, windows, insertion delay, comparators (R145, R147, R148). -/
def State.sluiceInputs (s : State) (f : Nat) (x : FeederIn) : State :=
  let w := s.windowsNow f
  s.modFeeder f fun a =>
    { a with
      seatLow := if x.seatLow then min 10000 (a.seatLow + 1) else 0
      seatHigh := if x.seatLow then 0 else min 20 (a.seatHigh + 1)
      low := x.seatLow
      windowOk := w
      insertRun := if !w then 0 else if x.seatLow then min 60000000 (a.insertRun + 1) else a.insertRun
      cl2 := a.cl1, cl1 := a.cl, cl := s.clFlag f x.shunt
      vgsOk := x.vgsOk
      vds := x.vds.toNat }

/-- The fault timer's limit in its present state (R154). -/
def State.timerLimit (s : State) (f : Nat) : Nat :=
  16 * (s.par (oFeeder f)
    (if s.feederStarting f then Pid.Feeder.START_FAULT_TIME else Pid.Feeder.FAULT_TIME)).toNat

/-- The SOA limit in units of 31.25 pJ (R155). -/
def State.soaLimit (s : State) (f : Nat) : Nat := (s.par (oFeeder f) Pid.Feeder.SOA_BUDGET).toNat * 32000

/-- The highest used point of a curve that a current reaches: its time (R166). -/
def curveTime : List (Int × Nat) → Int → Option Nat
  | [], _ => none
  | (c, t) :: rest, i =>
    if i ≥ c then (match curveTime rest i with
      | some t' => some t'
      | none => some t)
    else none

/-- The I–t integrator after one tick (R166). -/
def itStep (curve : List (Int × Nat)) (enable : Bool) (cool : Nat) (i : Int) (lvl : Nat) : Nat :=
  match (if enable then curveTime curve i else none) with
  | some t => min (lvl + 281474976710656 / t) 281474976710656
  | none => lvl - 281474976710656 / cool

/-- The integrators of a tick (R154, R155, R166). -/
def State.sluiceIntegrate (s : State) (f : Nat) : State :=
  let o := oFeeder f
  let i := s.sluiceCurrent f
  let starting := s.feederStarting f
  let shift := (s.par o Pid.Feeder.SOA_LEAK_SHIFT).toNat
  let enable := s.par o Pid.Feeder.IT_ENABLE == 1
  let cool := (s.par o Pid.Feeder.IT_COOL_TIME).toNat
  let high := decide ((s.seg (s.feederSeg f)).chan.value > s.par o Pid.Feeder.OV_WINDOW)
  s.modFeeder f fun a =>
    let run := starting || a.cl
    { a with
      timer := if a.cl then a.timer + 16 else a.timer - 1
      soa := (a.soa - a.soa / 2 ^ shift + if run then a.vds * i.natAbs else 0) % 281474976710656
      soaRun := run
      itLevel := itStep a.curve enable cool i a.itLevel
      itRun := (curveTime a.curve i).isSome
      ovRun := if a.gate && high then a.ovRun + 1 else 0
      startRun := if starting then a.startRun + 1 else 0 }

/-- Power-good at a tick: it changes only where current regulation has been quiet for three ticks (R157,
R158). -/
def State.pgNext (s : State) (f : Nat) : Bool :=
  let a := s.feeder f
  let quiet := !a.cl && !a.cl1 && !a.cl2
  if !a.gate then false
  else if quiet then a.vgsOk && decide ((a.vds * 31250 : Nat) < s.pgLevel f)
  else a.pg

/-- The causes that qualify at a tick (R154 to R156, R160, R164, R166, R167). -/
def State.sluiceCauses (s : State) (f : Nat) : List Nat :=
  let a := s.feeder f
  let o := oFeeder f
  let on := s.feederOn f
  (if on then weirBits a.weir else []) ++
  (if on && decide (a.timer ≥ s.timerLimit f) then [flFaultTimer] else []) ++
  (if on && decide (a.soa ≥ s.soaLimit f) then [flSoa] else []) ++
  (if on && s.par o Pid.Feeder.IT_ENABLE == 1 && decide (a.itLevel ≥ 281474976710656) then [flItCurve]
   else []) ++
  (if on && decide (a.ovRun ≥ (s.par o Pid.Feeder.OV_QUALIFY).toNat) then [flOverVoltage] else []) ++
  (if s.feederStarting f && !s.pgNext f &&
      decide (a.startRun ≥ (s.par o Pid.Feeder.START_TIMEOUT).toNat) then [flType 3] else []) ++
  (if s.weirStops f && (on || s.objNow o == osWaiting) then [flType 2] else [])

/-- PG asserts or negates at a tick that brings no trip (R157, R158). -/
def State.pgAct (s : State) (f : Nat) : State :=
  let o := oFeeder f
  let was := (s.feeder f).pg
  let now := s.pgNext f
  let s := s.modFeeder f fun a => { a with pg := now }
  if now && s.feederStarting f then s.setObj o osActive
  else if was && !now && (s.feeder f).gate then
    let s := (s.setBit o Pid.Feeder.FEEDER_STATUS 11).incPar o Pid.Feeder.PG_DROPS
    s.recordPsd o rcFault 0x08
      [.par o Pid.Feeder.FEEDER_STATUS, .lit ((s.feeder f).vds * 31250 : Nat), .par o Pid.Feeder.I_FAST]
  else s

/-- Sluice's tick for one feeder (R145 to R169). -/
def State.feederTick (s : State) (f : Nat) (x : FeederIn) : State :=
  let wasOpen := decide ((s.feeder f).seatHigh ≥ 20)
  let wasSeated := (s.feeder f).seated
  let s := (s.sluiceInputs f x).sluiceIntegrate f
  let causes := s.sluiceCauses f
  let s := if causes.isEmpty then s.pgAct f else s.feederTrip f causes
  let s := if !wasOpen && decide ((s.feeder f).seatHigh ≥ 20) then s.seatOpened f else s
  let s := if !wasSeated && decide ((s.feeder f).seatLow ≥ 10000) then s.seatStabled f else s
  ((s.shedAct f).serveAct f).serveDrop f

/-- Does the monotonic tick count (R296): the control side is powered and out of reset, and not asleep? -/
def State.tickCounts (s : State) : Bool :=
  s.supply.cs == .run || s.supply.cs == .saving || s.supply.cs == .saved

/-- SLUICE_TICK: one microsecond (R145). -/
def execSluiceTick (ins : Vector FeederIn 16) (s : State) : Host.Outcome State Fault Refusal :=
  if !s.sluiceRuns then .next s
  else
    let s := if s.tickCounts then s.passTime 1 else s
    .next (s.each 16 fun f s => s.feederTick f (vget ins f ⟨0, false, 0, false⟩))

/-! ## The events of one feeder -/

/-- SEAT_STABLE: SEATn_N has been low for 10 000 ticks (R147). -/
def execSeatStable (f : Fin 16) (s : State) : Host.Outcome State Fault Refusal :=
  let f := f.val
  if !s.sluiceRuns then .next s
  else
    let s := s.modFeeder f fun a => { a with seatLow := 10000, seatHigh := 0, low := true }
    .next ((s.seatStabled f).serveAct f)

/-- SEAT_OPEN: SEATn_N has been high for 20 ticks (R147, R150). -/
def execSeatOpen (f : Fin 16) (s : State) : Host.Outcome State Fault Refusal :=
  let f := f.val
  if !s.sluiceRuns || (s.feeder f).seatHigh ≥ 20 then .next s
  else
    let s := s.modFeeder f fun a => { a with seatLow := 0, seatHigh := 20, low := false }
    .next (s.seatOpened f)

/-- INSERT_DELAY: the insertion delay has elapsed with the windows satisfied and the seat low (R148). -/
def execInsertDelay (f : Fin 16) (s : State) : Host.Outcome State Fault Refusal :=
  let f := f.val
  if !s.sluiceRuns || !(s.feeder f).low || !s.windowsNow f then .next s
  else
    let d := (s.par (oFeeder f) Pid.Feeder.INSERT_DELAY).toNat
    let s := s.modFeeder f fun a => { a with windowOk := true, insertRun := max a.insertRun d }
    .next (s.serveAct f)

/-- A trip row: its own cause, with every other cause that qualifies at that tick (R160, R169). -/
def State.tripWith (s : State) (f own : Nat) : State :=
  s.feederTrip f (own :: (s.sluiceCauses f).filter fun b => b != own)

/-- FAULT_TIMER: the fault timer reaches its limit (R154). -/
def execFaultTimer (f : Fin 16) (s : State) : Host.Outcome State Fault Refusal :=
  let f := f.val
  if s.sluiceRuns && s.feederOn f then
    let n := s.timerLimit f
    .next ((s.modFeeder f fun a => { a with timer := max a.timer n }).tripWith f flFaultTimer)
  else .next s

/-- SOA: the SOA accumulator reaches its budget (R155). -/
def execSoa (f : Fin 16) (s : State) : Host.Outcome State Fault Refusal :=
  let f := f.val
  if s.sluiceRuns && s.feederOn f then
    let n := s.soaLimit f
    .next ((s.modFeeder f fun a => { a with soa := max a.soa n }).tripWith f flSoa)
  else .next s

/-- START_TIMEOUT: the feeder is still STARTING START_TIMEOUT after the ramp began (R156). -/
def execStartTimeout (f : Fin 16) (s : State) : Host.Outcome State Fault Refusal :=
  let f := f.val
  if s.sluiceRuns && s.feederStarting f then .next (s.tripWith f (flType 3)) else .next s

/-- OV_QUALIFY: the segment's samples have stayed above OV_WINDOW for OV_QUALIFY (R167). -/
def execOvQualify (f : Fin 16) (s : State) : Host.Outcome State Fault Refusal :=
  let f := f.val
  if s.sluiceRuns && s.feederOn f &&
      (s.seg (s.feederSeg f)).chan.value > s.par (oFeeder f) Pid.Feeder.OV_WINDOW then
    .next (s.tripWith f flOverVoltage)
  else .next s

/-- IT_CURVE: the I–t integrator is full (R166). -/
def execItCurve (f : Fin 16) (s : State) : Host.Outcome State Fault Refusal :=
  let f := f.val
  if s.sluiceRuns && s.feederOn f && s.par (oFeeder f) Pid.Feeder.IT_ENABLE == 1 &&
      !(s.feeder f).curve.isEmpty then
    .next ((s.modFeeder f fun a => { a with itLevel := 281474976710656 }).tripWith f flItCurve)
  else .next s

/-- FAST_TRIP: a comparator that is not masked, as FAILED or for the proof it is under, sets the Weir latch and the gate is pulled
down at once; the next tick reads the latch (R160 to R163, Table 6-10). -/
def execFastTrip (f : Fin 16) (x : Crossing) (proving : Option Bool) (s : State) : Host.Outcome State Fault Refusal :=
  let f := f.val
  let a := x.a && !s.compFailed (oFeeder f) false && proving != some false
  let b := x.b && !s.compFailed (oFeeder f) true && proving != some true
  if s.psdPowered && s.feederOn f && (a || b) then
    .next (s.modFeeder f fun x =>
      { x with gate := false, weir := { x.weir with latchA := x.weir.latchA || a
                                                    latchB := x.weir.latchB || b
                                                    proving := proving } })
  else .next s

/-! ## Limits, thresholds and the curve -/

/-- A feeder's threshold against its limits (R153, R159). -/
def weirOk (thresh i iStart r : Int) : Bool :=
  let code := thresh % 1024
  decide (20 ≤ code) && limitOk i r && limitOk iStart r &&
    (i == 0 || decide (2 * code ≥ appliedSteps i r + 100)) &&
    (iStart == 0 || decide (2 * code ≥ appliedSteps iStart r + 100))

/-- The staged points of a feeder's curve (R165). -/
def State.stagedCurve (s : State) (f : Nat) : List (Int × Int) :=
  (List.range 8).map fun k =>
    (s.par (oFeeder f) (Pid.Feeder.IT_I + 2 * k), s.par (oFeeder f) (Pid.Feeder.IT_T + 2 * k))

/-- A point is unused when it carries both markers (R165). -/
def pointUsed (x : Int × Int) : Bool := !(x.1 == 0x7FFFFFFF && x.2 == 0xFFFFFFFF)

/-- Used points before unused ones, times in range, currents rising, times not rising (R165). -/
def curveOk : List (Int × Int) → Bool
  | [] => true
  | x :: rest =>
    if !pointUsed x then rest.all fun y => !pointUsed y
    else decide (10 ≤ x.2) && decide (x.2 ≤ 3600000000) &&
      (match rest with
       | [] => true
       | y :: _ => !pointUsed y || (decide (x.1 < y.1) && decide (y.2 ≤ x.2))) &&
      curveOk rest

/-- Apply the staged curve (R165). -/
def State.curveApply (s : State) (f : Nat) : State :=
  let c := ((s.stagedCurve f).filter pointUsed).map fun x => (x.1, x.2.toNat)
  (s.modFeeder f fun a => { a with curve := c }).incPar (oFeeder f) Pid.Feeder.IT_GEN

end Sys2Proof.Machine
end

