-- ==== Sys2Proof/Machine/Strings.lean ====
section
/-! DEFINITION. The string switch machine, the string fast trip and the comparator proofs (R161 to R163,
R175 to R182). -/

namespace Sys2Proof.Machine

/-- The string is connecting. -/
def State.stringStarting (s : State) (k : Nat) : Bool := s.objSt (oString k) == osStarting

/-- The string's switch is on or ramping. -/
def State.stringOn (s : State) (k : Nat) : Bool :=
  s.stringStarting k || s.objSt (oString k) == osActive

/-- The switch is pulled down. The caller sets OBJ_STATE. -/
def State.switchOff (s : State) (k : Nat) : State :=
  s.modStr k fun a =>
    { a with connected := false, starting := false, startRun := 0, chgReg := false, enhanced := false
             weir := { a.weir with latchA := false, latchB := false } }

/-- The switch is pulled down and the string waits for its connect condition (R178, R268). -/
def State.stringWait (s : State) (k : Nat) : State :=
  let on := s.stringOn k
  let s := s.switchOff k
  if on then s.setObj (oString k) osWaiting else s

/-- Has a configured module been COMM_LOST for 10 s (R188)? -/
def State.commLong (s : State) (k : Nat) : Bool :=
  (s.modulesOf k).any fun m => (s.module m).commLost && decide (s.time.tick ≥ (s.module m).lostSince + 10000000)

/-- A trip latches the string (R180); COMM joins it where a module has been COMM_LOST for 10 s (R188). -/
def State.stringTrip (s : State) (k : Nat) (bits : List Nat) : State :=
  let o := oString k
  let bits := bits ++ if s.commLong k then [flComm] else []
  let s := s.switchOff k
  let s := ((s.setObj o osLatched).latchFault o bits).incPar o Pid.String.TRIP_TOTAL
  s.recordPsd o rcLatch 0x01
    [.par o Pid.FAULT_LATCH, .lit (s.str k).chan.value, .par o Pid.String.V_METER,
     .lit (s.seg (s.stringSeg k)).chan.value]

/-- A set Weir latch is read before anything else ends the string's run (R181). -/
def State.readString (s : State) (k : Nat) : State :=
  let bits := weirBits (s.str k).weir
  if s.stringOn k && !bits.isEmpty then s.stringTrip k bits else s

/-- A LATCHED string is cleared and waits (R180). -/
def State.stringClear (s : State) (k : Nat) : State :=
  ((s.clearFaults (oString k)).setObj (oString k) osWaiting).modStr k fun a => { a with enableOff := false }

/-- ENABLE of a string has been written (R180). -/
def State.stringEnable (s : State) (k : Nat) (on : Bool) : State :=
  let o := oString k
  if on then
    if (s.str k).enableOff then s.stringClear k
    else if s.objSt o == osDisabled || s.objSt o == osAbsent then s.setObj o osWaiting else s
  else
    let s := s.readString k
    let latched := s.objSt o == osLatched || (s.str k).enableOff
    let s := (s.switchOff k).modStr k fun a => { a with lvdOpen := false, enableOff := latched }
    s.setObj o osDisabled

/-- The connect condition (R176). The string voltage is V_METER. -/
def State.mayConnect (s : State) (k : Nat) : Bool :=
  let o := oString k
  let v := s.par o Pid.String.V_METER
  s.enabled o && decide (s.par o Pid.String.MODULE_COUNT > 0) && s.objNow o == osWaiting && s.linkUp &&
    s.psdPowered && s.shelfState != ssBraking && s.shelfState != ssThermal &&
    (decide (v ≥ s.par o Pid.String.LVD_RECONNECT) ||
     decide (s.par (oSeg (s.stringSeg k)) Pid.Segment.V_FAST ≥ v))

/-- STRING_CONNECT: a string that meets its connect condition becomes STARTING (R176). -/
def execStringConnect (k : Fin 4) (s : State) : Host.Outcome State Fault Refusal :=
  let k := k.val
  if s.mayConnect k then
    .next ((s.modStr k fun a => { a with starting := true, startRun := 0, lvdOpen := false }).setObj
      (oString k) osStarting)
  else .next s

/-- Are the bus and the string within 0.3 V, less the shunt drop (R176)? -/
def State.switchClose (s : State) (k : Nat) : Bool :=
  let o := oString k
  let diff := (s.seg (s.stringSeg k)).chan.value - s.par o Pid.String.V_METER
  let drop := (s.str k).chan.value * s.par o pSenseRnom
  decide ((diff * 100000000 - drop).natAbs < 3000000000000)

/-- The string is connected: its RC states start at 0 (R176, R191). -/
def State.stringConnected (s : State) (k : Nat) : State :=
  let s := s.modStr k fun a =>
    { a with connected := true, starting := false, startRun := 0 }
  let s := s.eachOf (s.modulesOf k) fun m s => s.modModule m fun a => { a with vrc1 := 0, vrc2 := 0 }
  s.setObj (oString k) osActive

/-- The charge limit of one tick (R177); `vds` in 10 µV. -/
def State.chargeLimit (s : State) (k : Nat) (vds : Int) : Int :=
  let o := oString k
  let lim := min (s.par o Pid.String.CHG_I_MAX) (s.par o Pid.String.CHARGE_GRANT)
  let lim :=
    if s.par o Pid.String.TRUST != 1 || (s.modulesOf k).any (fun m => (s.module m).commLost) then
      min lim (s.par o Pid.String.FLOAT_I_LIMIT) else lim
  let lim := if (s.str k).chargeStop then 0 else lim
  if vds > 0 then min lim (roundDiv (s.par o Pid.String.CHARGE_P_MAX * 10000000) vds) else lim

/-- Regulation of a connected string at a tick (R177). -/
def State.chargeRegulate (s : State) (k : Nat) (vds : Int) : State :=
  let lim := s.chargeLimit k vds
  let i := (s.str k).chan.value
  let s := s.setPar (oString k) Pid.String.CHARGE_LIMIT_APPLIED lim
  s.modStr k fun a => { a with chgReg := decide (0 ≤ i) && decide (lim ≤ i), enhanced := decide (i < 0) }

/-- STRING_SWITCH_TICK: the switch machine's tick for one string (R175 to R177, R181). -/
def execStringSwitchTick (k : Fin 4) (vgsOk : Bool) (vds : Int) (s : State) :
    Host.Outcome State Fault Refusal :=
  let k := k.val
  if !s.sluiceRuns then .next s
  else
    let s := s.modStr k fun a =>
      { a with vgsOk := vgsOk, startRun := if a.starting then a.startRun + 1 else 0 }
    let bits := weirBits (s.str k).weir
    if s.stringOn k && !bits.isEmpty then .next (s.stringTrip k bits)
    else if s.stringStarting k then
      if vgsOk && s.switchClose k then .next (s.stringConnected k)
      else if (s.str k).startRun ≥ (s.par (oString k) Pid.String.CONNECT_TIMEOUT).toNat then
        .next (s.stringTrip k [flType 2])
      else .next s
    else if (s.str k).connected then .next (s.chargeRegulate k vds)
    else .next s

/-- CONNECT_TIMEOUT: the string is still STARTING CONNECT_TIMEOUT after its ramp began (R176). Where a comparator has tripped
it, CONNECT_TIMEOUT is not set (Table 7-15). -/
def execConnectTimeout (k : Fin 4) (s : State) : Host.Outcome State Fault Refusal :=
  let bits := weirBits (s.str k.val).weir
  if s.sluiceRuns && s.stringStarting k.val then
    .next (s.stringTrip k.val (if bits.isEmpty then [flType 2] else bits))
  else .next s

/-- DISCHARGE_REVERSAL: the shunt shows discharge current, and the gate goes to full enhancement (R177). -/
def execDischargeReversal (k : Fin 4) (s : State) : Host.Outcome State Fault Refusal :=
  if s.psdPowered && (s.str k.val).connected then
    .next (s.modStr k.val fun a => { a with enhanced := true, chgReg := false })
  else .next s

/-- STRING_FAST_TRIP: a comparator that is not masked sets the Weir latch and the switch is pulled down at
once; the next tick latches the string (R181). -/
def execStringFastTrip (k : Fin 4) (byA byB : Bool) (s : State) : Host.Outcome State Fault Refusal :=
  let k := k.val
  let a := byA && !s.compFailed (oString k) false
  let b := byB && !s.compFailed (oString k) true
  if s.psdPowered && s.stringOn k && (a || b) then
    let w := (s.str k).weir
    .next ((s.switchOff k).modStr k fun x =>
      { x with weir := { x.weir with latchA := w.latchA || a, latchB := w.latchB || b } })
  else .next s

/-- A string's threshold against its limits (R181): both codes from 20 to 1023; the charge code at least
5 mV above the applied CHG_I_MAX, and above CONNECT_I_LIMIT. -/
def stringWeirOk (thresh chg conn r : Int) : Bool :=
  let dsgCode := thresh % 1024
  let chgCode := thresh / 65536 % 1024
  decide (20 ≤ dsgCode) && decide (20 ≤ chgCode) &&
    (chg == 0 || decide (2 * chgCode ≥ appliedSteps chg r + 100)) &&
    decide (chgCode * 1000000000 > conn * r)

/-! ## Comparator proofs (R161 to R163, R182) -/

/-- The object of a comparator pair: F0 to F15, then S0 to S3. -/
def pairObj (j : Nat) : Nat := if j < 16 then oFeeder j else oString (j - 16)

/-- The comparators of an object. -/
def State.weirOf (s : State) (o : Nat) : WeirAux :=
  match objType o with
  | .string => (s.str (o - 0x80)).weir
  | _ => (s.feeder (o - 0x30)).weir

/-- Change the comparators of an object. -/
def State.modWeir (s : State) (o : Nat) (g : WeirAux → WeirAux) : State :=
  match objType o with
  | .string => s.modStr (o - 0x80) fun a => { a with weir := g a.weir }
  | _ => s.modFeeder (o - 0x30) fun a => { a with weir := g a.weir }

/-- The WEIR_DELAY parameter of a comparator. -/
def delayPid (o : Nat) (b : Bool) : Nat :=
  match objType o with
  | .string => if b then Pid.String.WEIR_DELAY_B else Pid.String.WEIR_DELAY_A
  | _ => if b then Pid.Feeder.WEIR_DELAY_B else Pid.Feeder.WEIR_DELAY_A

/-- One side of a proof passes (Table 6-5): asserted within 4.6 ns, and released. -/
def sidePasses (asserted released : Bool) (delay : BitVec 16) : Bool :=
  asserted && released && decide (delay.toNat * 78125 ≤ 4600000)

/-- Does a whole proof pass: one side for a feeder, both for a string (R182)? -/
def proofPasses (o : Nat) (x : ProofIn) : Bool :=
  sidePasses x.asserted x.released x.delay &&
    match objType o with
    | .string => sidePasses x.chgAsserted x.chgReleased x.chgDelay
    | _ => true

/-- The delay, PROOF_COUNT, LAST and LAST_PASS of a completed proof (R162, Table 6-9). -/
def State.proofStore (s : State) (o : Nat) (b pass : Bool) (x : ProofIn) : State :=
  let s := s.setPar o (delayPid o b) (if x.asserted then (x.delay.toNat : Int) else 0xFFFF)
  s.updPar o (weirPid o) fun v =>
    setBitTo (setBitTo (v % 256 + (v / 256 + 1) % 256 * 256) 5 b) 4 pass

/-- What a completed proof does to its comparator (R163): a FAILED one returns after two passes; another
fails at its second failure in a row. -/
def State.proofJudge (s : State) (o : Nat) (b pass : Bool) : State :=
  let failBit := if b then 2 else 3
  let retryBit := if b then 0 else 1
  let passes := if b then (s.weirOf o).passesB else (s.weirOf o).passesA
  let setPasses (n : Nat) (s : State) : State :=
    s.modWeir o fun w => if b then { w with passesB := n } else { w with passesA := n }
  if s.bit o (weirPid o) failBit then
    if !pass then setPasses 0 s
    else if passes + 1 ≥ 2 then (setPasses 0 s).clearBit o (weirPid o) failBit
    else setPasses (passes + 1) s
  else if pass then s.clearBit o (weirPid o) retryBit
  else if s.bit o (weirPid o) retryBit then
    let s := setPasses 0 ((s.clearBit o (weirPid o) retryBit).setBit o (weirPid o) failBit)
    s.recordPsd o rcFault 0x07 [.par o (weirPid o), .par o (delayPid o false), .par o (delayPid o true)]
  else s.setBit o (weirPid o) retryBit

/-- WEIR_PROOF: one comparator of a pair is proved, in RUN and in FLOAT; a void proof stores and counts nothing (R161 to R163). -/
def execWeirProof (pair : Fin 20) (b : Bool) (x : ProofIn) (s : State) :
    Host.Outcome State Fault Refusal :=
  let o := pairObj pair.val
  if !s.sluiceRuns || s.deviceMode == 2 || x.moved || x.tripped then .next s
  else
    let pass := proofPasses o x
    .next ((s.proofStore o b pass x).proofJudge o b pass)

end Sys2Proof.Machine
end

