-- ==== Sys2Proof/Machine/Battery.lean ====
section
/-! DEFINITION. Battery modules: polling, the voltage model, learning, and the battery journal requests
(R178, R183 to R186, R190 to R205). -/

namespace Sys2Proof.Machine

/-- DS_STATE values. -/
abbrev dsIDLE : Int := 0
abbrev dsFAULT : Int := 3

/-- Does a port issue frames: firmware runs, the port is enabled and not in FAULT, and the bus has been recovered
since the last reset (R393)? -/
def State.downReady (s : State) (d : Nat) : Bool :=
  s.running && s.enabled (oDown d) && (s.down d).recovered && s.par (oDown d) Pid.Down.DS_STATE != dsFAULT

/-- The string of a module. -/
def stringOf (m : Nat) : Nat := m / 16

/-- Since when a condition has held without a break. -/
def sinceNext (cond : Bool) (now : Nat) (since : Option Nat) : Option Nat :=
  if cond then some (since.getD now) else none

/-- Has a condition held for `us`? -/
def heldFor (now : Nat) (since : Option Nat) (us : Nat) : Bool :=
  match since with
  | some t => decide (t + us ≤ now)
  | none => false

/-- A quotient held from `lo` to `hi`; a divisor of 0 leaves it open, and the value is free (log entry 4). -/
def State.freeDiv (s : State) (num den lo hi : Int) : Int × State :=
  if den = 0 then
    let (v, s) := s.draw
    (lo + v % (hi - lo + 1), s)
  else (clampInt lo hi (roundDiv num den), s)

/-- May learned values be written: not in STARTUP with ID_MISMATCH = 1 (R201)? -/
def State.mayLearn (s : State) : Bool :=
  !(s.shelfState == ssStartup && s.par oShelf Pid.Shelf.ID_MISMATCH == 1)

/-- Does a pending battery write cover a string? -/
def coversString (k : Nat) (r : NvmReq) : Bool :=
  match r.work with
  | .battery l => l.contains k
  | _ => false

/-- Ask for the battery journal write of a string: its record and its modules' records, two pages (R197,
R198). One write serves every cause but an operation's, which may be withdrawn. -/
def State.askBattery (s : State) (k : Nat) : State :=
  if !s.mayLearn || s.par (oString k) Pid.String.MODULE_COUNT == 0 ||
      s.nvm.queue.any (fun r => r.op.isNone && coversString k r) then s
  else s.askNvm .battery (.battery [k]) 2 none

/-- The BATTERY record of a string (Table 12-3): the estimate is named by its parameter ID, 0 for none
(log entry 16). -/
def State.stringRecord (s : State) (k : Nat) (estimate : Nat) : State :=
  let o := oString k
  s.record o rcState 0x23
    [.par o Pid.String.STRING_STATUS, .par o Pid.String.SOC_V, .par o Pid.String.SOC_Q, .lit estimate]

/-- The BATTERY record of a module. -/
def State.moduleRecord (s : State) (m : Nat) : State :=
  let k := oString (stringOf m)
  s.record (oModule m) rcState 0x23
    [.par (oModule m) Pid.Module.MOD_STATUS, .par k Pid.String.SOC_V, .par k Pid.String.SOC_Q, .lit 0]

/-! ## Trust (R190) -/

/-- TRUST as the results of the configured modules give it. -/
def State.trustOf (s : State) (k : Nat) : Int :=
  let ms := s.modulesOf k
  let res (m : Nat) : Int := s.par (oModule m) Pid.Module.AUTH_RESULT
  if ms.any fun m => res m == 0 || (s.module m).authing then 0
  else if ms.any fun m => res m != 1 then 2
  else if ms.isEmpty then 0 else 1

/-- TRUST after a result or a change of the configured modules; a change is recorded and journaled. -/
def State.refreshTrust (s : State) (k : Nat) : State :=
  let v := s.trustOf k
  if v = s.par (oString k) Pid.String.TRUST then s
  else ((s.setPar (oString k) Pid.String.TRUST v).stringRecord k 0).askBattery k

/-! ## Low-voltage disconnect (R178) -/

/-- Miller opens the switch for an LVD. -/
def State.lvdOpen (s : State) (k : Nat) : State :=
  if (s.str k).connected && s.linkUp then
    let s := (s.stringWait k).modStr k fun a => { a with lvdOpen := true }
    (s.stringRecord k 0).askBattery k
  else s

/-! ## Polling (R185, R186, R205) -/

/-- Does the reply make the poll succeed (R185)? -/
def pollOk (a : ModuleAux) (r : MeasData) : Bool :=
  r.valid && a.lastSeq != some r.seq && decide (r.age ≤ 200)

/-- A failed poll; the third in a row makes COMM_LOST live (R185). -/
def State.pollFailed (s : State) (m : Nat) : State :=
  let s := s.incPar (oModule m) Pid.Module.POLL_ERRORS
  let s := s.modModule m fun a => { a with failRun := min 3 (a.failRun + 1) }
  if (s.module m).failRun ≥ 3 && !(s.module m).commLost then
    (s.modModule m fun a => { a with commLost := true, lostSince := s.time.tick }).moduleRecord m
  else s

/-- A successful poll. The data of a module that had been lost or never identified wait for its
identification (R186). -/
def State.pollTaken (s : State) (m : Nat) (r : MeasData) : State :=
  let a := s.module m
  let unknown := a.commLost || !a.identified
  let need := unknown || r.idFlag || r.resetFlag
  let s := s.modModule m fun a =>
    { a with failRun := 0, commLost := false, lastSeq := some r.seq,
             idNeeded := a.idNeeded || need, authDue := a.authDue || unknown }
  let s := if r.idFlag then s.setBit (oModule m) Pid.Module.MOD_STATUS 6 else s
  if unknown || a.idNeeded then s
  else
    let s := s.setPar (oModule m) Pid.Module.V_MOD r.vTerm
    if r.tValid then s.setPar (oModule m) Pid.Module.T_MOD r.tMod else s

/-- Is the string discharging? -/
def State.discharging (s : State) (k : Nat) : Bool := decide (s.par (oString k) Pid.String.I_FAST < 0)

/-- The module's voltage against MOD_LVD and its temperature against the charge range (R178, R205). -/
def State.pollJudge (s : State) (m : Nat) : State :=
  let k := stringOf m
  let o := oString k
  let v := s.par (oModule m) Pid.Module.V_MOD
  let t := s.par (oModule m) Pid.Module.T_MOD
  let low := decide (v < s.par o Pid.String.MOD_LVD) && s.discharging k
  let out := decide (t < s.par o Pid.String.CHG_T_MIN) || decide (t > s.par o Pid.String.CHG_T_MAX)
  if (s.module m).lastSeq.isNone || (s.module m).commLost || (s.module m).idNeeded then s
  else s.modModule m fun a => { a with lvdRun := if low then min 3 (a.lvdRun + 1) else 0, tempOut := out }

/-- Is a module's last voltage above a level? -/
def State.moduleAbove (s : State) (m : Nat) (num : Int) : Bool :=
  (s.module m).lastSeq.isSome &&
    decide (100 * s.par (oModule m) Pid.Module.V_MOD > num * s.par (oString (stringOf m)) Pid.String.MOD_OV)

/-- CHARGE_STOPPED of a string after a poll round (R205). -/
def State.chargeStops (s : State) (k : Nat) : State :=
  let ms := s.modulesOf k
  let now := s.time.tick
  let high := ms.any fun m => s.moduleAbove m 100
  let clear := ms.all fun m => !s.moduleAbove m 99 &&
    decide (100 * s.par (oModule m) Pid.Module.V_MOD < 99 * s.par (oString k) Pid.String.MOD_OV)
  let a := s.str k
  let run := if high then min 3 (a.ovRun + 1) else 0
  let since := sinceNext clear now a.ovClearSince
  let stopOv := decide (run ≥ 3) || (a.stopOv && !heldFor now since 60000000)
  let hot := ms.find? fun m => (s.module m).tempOut
  let stop := stopOv || hot.isSome
  let s := s.modStr k fun a =>
    { a with ovRun := run, ovClearSince := since, stopOv := stopOv, chargeStop := stop }
  if stop && !a.chargeStop then
    match hot, ms.find? fun m => s.moduleAbove m 100 with
    | some m, _ => s.moduleRecord m
    | none, some m => s.moduleRecord m
    | none, none => s
  else s

/-- What a module sent in a round: the bytes of its frame and of the repeat. -/
def framesOf (m : Nat) : List (Fin 64 × List Bytes) → List Bytes
  | [] => []
  | (i, l) :: rest => if i.val = m then l else framesOf m rest

/-- The poll of one module in a round: it fails where its port issues no frame, where the repeated frame is in error too, and
where the data do not make it succeed. -/
def State.pollModule (s : State) (m : Nat) (replies : List (Fin 64 × List Bytes)) : State :=
  let s :=
    if !s.downReady (modulePort m) then s.pollFailed m
    else match (readTwice m adMEAS_READ (framesOf m replies)).map measOf with
      | some r => if pollOk (s.module m) r then s.pollTaken m r else s.pollFailed m
      | none => s.pollFailed m
  s.pollJudge m

/-- POLL_ROUND: MEAS_READ of every configured module, in RUN and in FLOAT (R185). -/
def execPollRound (replies : List (Fin 64 × List Bytes)) (s : State) : Host.Outcome State Fault Refusal :=
  if !s.miller3 || s.deviceMode == 2 then .next s
  else
    .next (s.each 4 fun k s =>
      let s := s.eachOf (s.modulesOf k) fun m s => s.pollModule m replies
      let s := s.chargeStops k
      if (s.modulesOf k).any fun m => (s.module m).lvdRun ≥ 3 then
        (s.eachOf (s.modulesOf k) fun m s => s.modModule m fun a => { a with lvdRun := 0 }).lvdOpen k
      else s)

/-- ADPOXON_FRAME_RETRY: an errored frame is repeated once after 200 µs (R184). The errors are counted where
the frame was sent; the repeat is a frame. -/
def execAdpoxonFrameRetry (port : Fin 4) (s : State) : Host.Outcome State Fault Refusal :=
  if s.miller3 && port.val < 2 && s.enabled (oDown port.val) then
    .next (s.incPar (oDown port.val) Pid.Down.FRAMES)
  else .next s

/-! ## The values that the model uses (R190, R200) -/

/-- R_SER, RC1_RES, TAU1, RC2_RES, TAU2, OCV_OFFSET and CAPACITY in use. -/
structure ModelVals where
  rSer : Int
  rc1  : Int
  tau1 : Int
  rc2  : Int
  tau2 : Int
  off  : Int
  cap  : Int
  deriving DecidableEq, Repr, Inhabited

/-- A module's values: learned, or the string's defaults while it is not TRUSTED; derated while STALE. -/
def State.modelVals (s : State) (m : Nat) : ModelVals :=
  let k := oString (stringOf m)
  let o := oModule m
  let learned := s.par k Pid.String.TRUST == 1
  let pick (lp dp : Nat) : Int := if learned then s.par o lp else s.par k dp
  let r := pick Pid.Module.R_SER Pid.String.R_SER_DEFAULT
  let c := pick Pid.Module.CAPACITY Pid.String.CAP_DEFAULT
  let stale := (s.module m).stale
  { rSer := if stale then roundDiv (r * 125) 100 else r
    rc1 := pick Pid.Module.RC1_RES Pid.String.RC1_RES_DEFAULT
    tau1 := pick Pid.Module.TAU1 Pid.String.TAU1_DEFAULT
    rc2 := pick Pid.Module.RC2_RES Pid.String.RC2_RES_DEFAULT
    tau2 := pick Pid.Module.TAU2 Pid.String.TAU2_DEFAULT
    off := if learned then s.par o Pid.Module.OCV_OFFSET else 0
    cap := if stale then roundDiv (c * 80) 100 else c }

/-- The string's capacity in use: the lowest of its modules (log entry 16). -/
def State.capUsed (s : State) (k : Nat) : Int :=
  match (s.modulesOf k).map fun m => (s.modelVals m).cap with
  | [] => 0
  | c :: rest => rest.foldl min c

/-- The OCV points of a string, in 10 µV at 25 °C. -/
def State.ocvPoints (s : State) (k : Nat) : List Int :=
  (List.range 11).map fun i => s.par (oString k) (Pid.String.OCV + i)

/-- Does a list rise strictly (R192)? -/
def risesStrictly : List Int → Bool
  | [] => true
  | [_] => true
  | a :: b :: rest => decide (a < b) && risesStrictly (b :: rest)

/-- Linear interpolation of an ascending table at x: 1000 per step (R192). -/
def ocvSearch (x : Int) (k : Int) : List Int → Int
  | a :: b :: rest =>
    if x < b then k * 1000 + roundDiv ((x - a) * 1000) (b - a) else ocvSearch x (k + 1) (b :: rest)
  | _ => 10000

/-- ocv_inverse of a module (R192). Units: 10 µV / 128 000 000. A table that does not rise strictly gives no
stated value (log entry 4). -/
def State.ocvInverse (s : State) (m : Nat) (x : Int) : Int × State :=
  let k := stringOf m
  let t := s.par (oModule m) Pid.Module.T_MOD
  let tc := s.par (oString k) Pid.String.OCV_TC
  let pts := (s.ocvPoints k).map fun p => (p * 1280 + tc * (t - 3200)) * 100000
  if !risesStrictly (s.ocvPoints k) then
    let (v, s) := s.draw
    (v % 10001, s)
  else match pts with
    | p :: _ => (if x < p then 0 else ocvSearch x 0 pts, s)
    | [] => (0, s)

/-- The unit of e^(−0.1 s/τ): 2^96 stands for 1. -/
abbrev expOne : Nat := 2 ^ 96

/-- 1 − y/n × (1 − y/(n + 1) × …) down to n, in units of 2^−96: the series of e^−y. -/
def expSeries (y : Nat) : Nat → Nat → Nat
  | _, 0 => expOne
  | n, fuel + 1 => expOne - y * expSeries y (n + 1) fuel / (expOne * n)

/-- e^(−0.1 s/τ) for a time constant in µs, in units of 2^−96 (R191): the series at a 128th of the exponent, squared seven
times. The manual gives the exponential and no precision (log entry 7). -/
def rcFactor (tau : Nat) : Nat :=
  let y := 100000 * expOne / (tau * 128)
  if 64 * expOne ≤ 128 * y then 0
  else (List.range 7).foldl (fun a _ => a * a / expOne) (expSeries y 1 24)

/-- One RC element after 0.1 s (R191): its voltage in 10 µV / 128 000 000, its resistance in µΩ, the factor, and the current
in 100 µA. -/
def rcNext (v res i : Int) (factor : Nat) : Int :=
  roundDiv (v * factor + res * i * 1280 * ((expOne : Int) - factor)) expOne

/-- The factor of a time constant; one of 0 leaves the exponential open, and the factor is free (log entry 4). -/
def State.rcFactorOf (s : State) (tau : Int) : Nat × State :=
  if tau ≤ 0 then
    let (v, s) := s.draw
    ((v % (expOne + 1)).toNat, s)
  else (rcFactor tau.toNat, s)

/-- One module's update of 100 ms (R191): `i` in 100 µA. -/
def State.modelModule (s : State) (m : Nat) (i : Int) : State :=
  if (s.module m).commLost || (s.module m).lastSeq.isNone then s
  else
    let p := s.modelVals m
    let (f1, s) := s.rcFactorOf p.tau1
    let (f2, s) := s.rcFactorOf p.tau2
    let s := s.modModule m fun a => { a with vrc1 := rcNext a.vrc1 p.rc1 i f1, vrc2 := rcNext a.vrc2 p.rc2 i f2 }
    let a := s.module m
    let v := s.par (oModule m) Pid.Module.V_MOD
    let x := (v - p.off) * 128000000 - a.vrc1 - a.vrc2 - i * p.rSer * 1280
    let (soc, s) := s.ocvInverse m x
    s.setPar (oModule m) Pid.Module.SOC soc

/-! ## Learning (R195, R196) -/

/-- A learned value after an update: set, LEARN_TICK set, LEARN_SOURCE learned (Table 7-12), the record changed. -/
def State.learn (s : State) (m pid : Nat) (v : Int) : State :=
  (((s.setPar (oModule m) pid v).setPar (oModule m) Pid.Module.LEARN_TICK s.time.tick).setPar
    (oModule m) Pid.Module.LEARN_SOURCE 0).modModule m fun a => { a with changed := true }

/-- From 50 % to `hi` % of a default (R195). -/
def learnClamp (dflt hi v : Int) : Int := clampInt ((dflt + 1) / 2) (min 4294967295 (dflt * hi / 100)) v

/-- CAPACITY from 50 % to 120 % of its default. -/
def capClamp (dflt v : Int) : Int := clampInt ((dflt + 1) / 2) (dflt * 120 / 100) v

/-- R_SER at an update whose current changed by 0.05 C or more (R196), by the rule's own sign. -/
def State.learnRSer (s : State) (m : Nat) (di : Int) : State :=
  let a := s.module m
  let o := oModule m
  let dv := s.par o Pid.Module.V_MOD - a.vPrev
  let cap := s.par o Pid.Module.CAPACITY
  if a.commLost || a.lastSeq.isNone || di = 0 || (di.natAbs : Int) * 7200 < cap then s
  else
    let r := s.par o Pid.Module.R_SER
    s.learn m Pid.Module.R_SER (learnClamp (s.par (oString (stringOf m)) Pid.String.R_SER_DEFAULT) 200
      (roundDiv (15 * r * di - dv * 100000) (16 * di)))

/-- One value of the fit at an entry to REST, weighted 1/4 (R195). -/
def State.learnFit (s : State) (m pid dpid which : Nat) : State :=
  let old := s.par (oModule m) pid
  let fit : Int := Config.fitValue which (s.str (stringOf m)).loadI (s.module m).relax.reverse
  s.learn m pid (learnClamp (s.par (oString (stringOf m)) dpid) 200 (roundDiv (3 * old + fit) 4))

/-- RC1_RES, TAU1, RC2_RES and TAU2 at an entry to REST after a load (R195). -/
def State.learnRc (s : State) (m : Nat) : State :=
  (((s.learnFit m Pid.Module.RC1_RES Pid.String.RC1_RES_DEFAULT 0).learnFit
    m Pid.Module.TAU1 Pid.String.TAU1_DEFAULT 1).learnFit
    m Pid.Module.RC2_RES Pid.String.RC2_RES_DEFAULT 2).learnFit
    m Pid.Module.TAU2 Pid.String.TAU2_DEFAULT 3

/-- CAPACITY at the first REST after a discharge that spanned 4000 or more (R195). -/
def State.learnCap (s : State) (m : Nat) (dq span : Int) : State :=
  let old := s.par (oModule m) Pid.Module.CAPACITY
  let dflt := s.par (oString (stringOf m)) Pid.String.CAP_DEFAULT
  s.learn m Pid.Module.CAPACITY
    (capClamp dflt (roundDiv (3 * old * span + (dq.natAbs : Int) * 10000) (4 * span)))

/-- OCV_OFFSET from v_rest (R195). -/
def State.learnOffset (s : State) (m : Nat) (v : Int) : State :=
  let old := s.par (oModule m) Pid.Module.OCV_OFFSET
  let ocv10 := s.par (oString (stringOf m)) (Pid.String.OCV + 10)
  s.learn m Pid.Module.OCV_OFFSET
    (clampInt (-2147483648) 2147483647 (roundDiv (3 * old + (v - ocv10)) 4))

/-- What an entry to REST learns, before the anchor is set (R195). -/
def State.restLearn (s : State) (k : Nat) : State :=
  let a := s.str k
  let o := oString k
  let socV := s.par o Pid.String.SOC_V
  let dq := s.par o Pid.String.Q_NET - a.qAnchor
  let span := a.dsgStart - socV
  let live := (s.modulesOf k).filter fun m => !(s.module m).commLost
  let s := if a.loaded then s.eachOf live fun m s => s.learnRc m else s
  let s := if a.dsgSeen && span ≥ 4000 then s.eachOf live fun m s => s.learnCap m dq span else s
  s.modStr k fun a => { a with loaded := false, loadSince := none, dsgSeen := false }

/-! ## The update of a string (R193, R194) -/

abbrev mmDISCHARGE : Int := 0
abbrev mmCHARGE : Int := 1
abbrev mmRELAX : Int := 2
abbrev mmREST : Int := 3
abbrev mmFULL : Int := 4

/-- The model mode after the current of an update (R193). -/
def modeNext (mode i dsg : Int) (now : Nat) (low high relax : Option Nat) : Int :=
  let quiet := decide ((i.natAbs : Int) ≤ dsg)
  let settled := if heldFor now relax 1800000000 then mmREST else mmRELAX
  if mode = mmDISCHARGE then
    if heldFor now high 60000000 then (if i > dsg then mmCHARGE else mmRELAX) else mmDISCHARGE
  else if heldFor now low 1000000 then mmDISCHARGE
  else if mode = mmFULL then mmFULL
  else if i > dsg then mmCHARGE
  else if quiet then settled
  else mode

/-- The timers of an update: below −DSG_DETECT, at or above it, quiet outside DISCHARGE, no current, and
the load of 0.05 C. -/
def State.modelTimers (s : State) (k : Nat) (i : Int) : State :=
  let o := oString k
  let now := s.time.tick
  let dsg := s.par o Pid.String.DSG_DETECT
  let mode := s.par o Pid.String.MODEL_MODE
  let cap := s.capUsed k
  let s := s.modStr k fun a =>
    let load := sinceNext (decide ((i.natAbs : Int) * 7200 > cap)) now a.loadSince
    { a with
      lowSince := sinceNext (decide (i < -dsg)) now a.lowSince
      highSince := sinceNext (decide (i ≥ -dsg)) now a.highSince
      relaxSince := sinceNext (decide ((i.natAbs : Int) ≤ dsg) && mode != mmDISCHARGE) now a.relaxSince
      zeroSince := sinceNext (i == 0) now a.zeroSince
      loadSince := load
      loadI := if load.isSome then i else a.loadI
      loaded := a.loaded || heldFor now load 600000000 }
  if heldFor now (s.str k).zeroSince 1800000000 then
    s.eachOf (s.modulesOf k) fun m s =>
      let v := s.par (oModule m) Pid.Module.V_MOD
      s.modModule m fun a => { a with vRest := some (a.vRest.getD v) }
  else if (s.str k).zeroSince.isNone then
    s.eachOf (s.modulesOf k) fun m s => s.modModule m fun a => { a with vRest := none }
  else s

/-- V_MOD of each module is sampled each 1 s of RELAX, for the fit at the entry to REST; another mode drops the samples
(R195). -/
def State.relaxSample (s : State) (k : Nat) (mode : Int) : State :=
  if mode = mmRELAX then
    if (s.str k).relaxStep + 1 ≥ 10 then
      (s.eachOf (s.modulesOf k) fun m s =>
        let v := s.par (oModule m) Pid.Module.V_MOD
        s.modModule m fun a => { a with relax := (v :: a.relax).take 1800 }).modStr k fun a => { a with relaxStep := 0 }
    else s.modStr k fun a => { a with relaxStep := a.relaxStep + 1 }
  else (s.eachOf (s.modulesOf k) fun m s => s.modModule m fun a => { a with relax := [] }).modStr k
    fun a => { a with relaxStep := 0 }

/-- A change of the model mode: the entry to DISCHARGE, its end, and the entry to REST. -/
def State.modeEnter (s : State) (k : Nat) (old new : Int) : State :=
  let o := oString k
  let s := s.setPar o Pid.String.MODEL_MODE new
  let s :=
    if new = mmDISCHARGE && old ≠ mmDISCHARGE then
      s.modStr k fun a =>
        { a with dsgQ := s.par o Pid.String.Q_NET, dsgStart := if a.fullSeen then 10000 else a.anchor, dsgSeen := true,
                 fullSeen := false, offsetDue := false }
    else s
  let s := if old = mmDISCHARGE && new ≠ mmDISCHARGE then s.askBattery k else s
  (if new = mmREST && old ≠ mmREST then s.restLearn k else s).relaxSample k new

/-- The reported SOC of an update (R194, R199, R200). -/
def socNext (mode soc socV socQ step : Int) (first stale : Bool) : Int :=
  let v :=
    if mode = mmDISCHARGE then min soc socV
    else if first then socV
    else if socV < soc then socV
    else min socV (soc + step)
  if stale then min v (min socV socQ) else v

/-- SOC, SOC_Q and the anchor of an update (R194). Before the first update of the connected string SOC stays the journaled one;
that update restarts it from SOC_V, and a record written in DISCHARGE keeps the rule against the journaled SOC (R199). -/
def State.socUpdate (s : State) (k : Nat) : State :=
  let o := oString k
  let a := s.str k
  let mode := s.par o Pid.String.MODEL_MODE
  let socV := s.par o Pid.String.SOC_V
  let qNet := s.par o Pid.String.Q_NET
  let cap := s.capUsed k
  let (socQ, s) := s.freeDiv (a.anchor * cap + (qNet - a.qAnchor) * 10000) cap 0 10000
  let s := s.setPar o Pid.String.SOC_Q socQ
  let stepNow := decide (a.socStep + 1 ≥ 6)
  let stale := (s.modulesOf k).any fun m => (s.module m).stale
  let mode1 := if a.first && a.wasDsg then mmDISCHARGE else mode
  let soc := socNext mode1 (s.par o Pid.String.SOC) socV socQ (if stepNow then 1 else 0) a.first stale
  let s := if a.first && !a.connected then s else s.setPar o Pid.String.SOC soc
  s.modStr k fun a =>
    { a with first := a.first && !a.connected, wasDsg := a.wasDsg && !a.connected, socStep := if stepNow then 0 else a.socStep + 1,
             anchor := if mode = mmREST then socV else a.anchor,
             qAnchor := if mode = mmREST then qNet else a.qAnchor }

/-- CHARGE_MODEL_DISAGREE rises or clears, with its record; a rise raises ALERT (R194). -/
def State.setDisagree (s : State) (k : Nat) (b : Bool) : State :=
  if (s.str k).disagree == b then s
  else
    let s := (s.modStr k fun a => { a with disagree := b, disagreeSince := none, agreeSince := none })
    let s := s.stringRecord k Pid.String.SOC_Q
    if b then s.raise alBattery else s

/-- The cross-check of an update (R194). -/
def State.crossCheck (s : State) (k : Nat) : State :=
  let o := oString k
  let now := s.time.tick
  let th := s.par o Pid.String.DISAGREE_THRESH
  let time := (s.par o Pid.String.DISAGREE_TIME).toNat
  let socV := s.par o Pid.String.SOC_V
  let socQ := s.par o Pid.String.SOC_Q
  let d : Int := (socQ - socV).natAbs
  let s := s.modStr k fun a =>
    { a with disagreeSince := sinceNext (decide (d > th)) now a.disagreeSince,
             agreeSince := sinceNext (decide (2 * d ≤ th)) now a.agreeSince }
  let a := s.str k
  let anchored := s.par o Pid.String.MODEL_MODE == mmREST
  if anchored || (a.disagree && heldFor now a.agreeSince time) then s.setDisagree k false
  else if heldFor now a.disagreeSince time || (socQ == 0 && decide (socV > th)) then s.setDisagree k true
  else s

/-- EOD_WARNING of an update (R194). -/
def State.eodUpdate (s : State) (k : Nat) : State :=
  let o := oString k
  let dsg := s.par o Pid.String.MODEL_MODE == mmDISCHARGE
  let w := s.par o Pid.String.EOD_WARN
  let byV := decide (s.par o Pid.String.SOC_V ≤ w)
  let byQ := decide (s.par o Pid.String.SOC_Q ≤ w)
  if !dsg && (s.str k).eodWarn then
    (s.modStr k fun a => { a with eodWarn := false }).stringRecord k Pid.String.SOC_V
  else if dsg && !(s.str k).eodWarn && (byV || byQ) then
    ((s.modStr k fun a => { a with eodWarn := true }).stringRecord k
      (if byV then Pid.String.SOC_V else Pid.String.SOC_Q)).raise alBattery
  else s

/-- SOH of a module (R195). -/
def State.sohUpdate (s : State) (m : Nat) : State :=
  let (v, s) := s.freeDiv (s.par (oModule m) Pid.Module.CAPACITY * 10000)
    (s.par (oString (stringOf m)) Pid.String.CAP_DEFAULT) 0 10000
  s.setPar (oModule m) Pid.Module.SOH v

/-- The lowest of a list of values, 0 where there is none. -/
def lowest : List Int → Int
  | [] => 0
  | v :: rest => rest.foldl min v

/-- ocv_table at half a state of charge, times 2000 (R192, R194). -/
def ocvHalf (pts : List Int) (soc : Nat) : Int :=
  let k := soc / 2000
  let a := pts.getD k 0
  let b := pts.getD (k + 1) a
  a * 2000 + (b - a) * ((soc % 2000 : Nat) : Int)

/-- E_AVAIL in mJ (R194). -/
def State.availUpdate (s : State) (k : Nat) : State :=
  let o := oString k
  let soc := s.par o Pid.String.SOC
  s.setPar o Pid.String.E_AVAIL (roundDiv
    (s.capUsed k * soc * s.par o Pid.String.MODULE_COUNT * ocvHalf (s.ocvPoints k) soc.toNat)
    2000000000000)

/-- STALE of a module (R200). -/
def State.staleUpdate (s : State) (m : Nat) : State :=
  let old := decide ((s.time.tick : Int) > s.par (oModule m) Pid.Module.LEARN_TICK + 15552000000000)
  s.modModule m fun a => { a with stale := old }

/-- The update of one string (R191 to R196, R200). -/
def State.modelString (s : State) (k : Nat) : State :=
  let o := oString k
  let a := s.str k
  let i := if a.iN = 0 then s.par o Pid.String.I_FAST else roundDiv a.iSum a.iN
  let ms := s.modulesOf k
  let s := s.eachOf ms fun m s => s.staleUpdate m
  let s := if a.connected then s.eachOf ms fun m s => s.modelModule m i else s
  let s := if a.connected then
      s.setPar o Pid.String.SOC_V (lowest (ms.map fun m => s.par (oModule m) Pid.Module.SOC)) else s
  let s := s.modelTimers k i
  let t := s.str k
  let old := s.par o Pid.String.MODEL_MODE
  let new := modeNext old i (s.par o Pid.String.DSG_DETECT) s.time.tick t.lowSince t.highSince t.relaxSince
  let s := s.modeEnter k old new
  let s := if a.connected && !a.first then s.eachOf ms fun m s => s.learnRSer m (i - a.iPrev) else s
  let s := s.socUpdate k
  let s := if (s.str k).offsetDue && ms.all (fun m => (s.module m).vRest.isSome) then
      (s.eachOf ms fun m s => match (s.module m).vRest with
        | some v => s.learnOffset m v
        | none => s).modStr k fun a => { a with offsetDue := false }
    else s
  let s := s.eachOf ms fun m s => s.sohUpdate m
  let s := s.setPar o Pid.String.SOH (lowest (ms.map fun m => s.par (oModule m) Pid.Module.SOH))
  let s := s.availUpdate k
  let s := s.crossCheck k
  let s := s.eodUpdate k
  let s := s.eachOf ms fun m s =>
    let v := s.par (oModule m) Pid.Module.V_MOD
    s.modModule m fun a => { a with vPrev := v }
  let s := s.modStr k fun a => { a with iSum := 0, iN := 0, iPrev := i }
  if i < 0 && s.par o Pid.String.V_METER < s.par o Pid.String.STR_LVD then s.lvdOpen k else s

/-- MODEL_UPDATE: every 100 ms (R191). The model pauses in a level 3 restart and while the link is lost
(Table 7-15). -/
def execModelUpdate (s : State) : Host.Outcome State Fault Refusal :=
  if !s.miller3 || !s.linkUp then .next s
  else .next (s.each 4 fun k s => if (s.modulesOf k).isEmpty then s else s.modelString k)

/-- END_OF_FULL_CHARGE: i has stayed from 0 to FULL_I for 30 min (R193, R195, R200). -/
def execEndOfFullCharge (k : Fin 4) (s : State) : Host.Outcome State Fault Refusal :=
  let k := k.val
  let o := oString k
  let i := (s.str k).iPrev
  if s.miller3 && s.linkUp && (s.str k).connected && decide (0 ≤ i) &&
      decide (i ≤ s.par o Pid.String.FULL_I) && s.par o Pid.String.MODEL_MODE != mmDISCHARGE then
    let s := ((s.setPar o Pid.String.SOC 10000).setPar o Pid.String.MODEL_MODE mmFULL).setBit
      o Pid.String.STRING_STATUS 10
    let s := s.modStr k fun a =>
      { a with anchor := 10000, qAnchor := s.par o Pid.String.Q_NET, fullTick := s.time.tick,
               offsetDue := true, dsgSeen := false, fullSeen := true }
    let s := s.setPar o Pid.String.SOC_Q 10000
    let s := s.eachOf (s.modulesOf k) fun m s =>
      (s.setPar (oModule m) Pid.Module.LEARN_TICK s.time.tick).modModule m fun a =>
        { a with stale := false, changed := true }
    .next ((s.setDisagree k false).askBattery k)
  else .next s

/-- BATTERY_JOURNAL: every 6 h (R197). -/
def execBatteryJournal (s : State) : Host.Outcome State Fault Refusal :=
  if !s.miller3 then .next s else .next (s.each 4 fun k s => s.askBattery k)

end Sys2Proof.Machine
end

