-- ==== Sys2Proof/Machine/Auth.lean ====
section
/-! DEFINITION. Identification and authentication of battery modules, BATT_AUTH and BATT_LEARN_COMMIT (R186 to
R190, R199, R202, R203). -/

namespace Sys2Proof.Machine

/-- AUTH_RESULT codes (Table 7-7). -/
abbrev arNOT_TRIED : Nat := 0
abbrev arPASS : Nat := 1
abbrev arNO_REPLY : Nat := 2
abbrev arCERT_FORMAT : Nat := 3
abbrev arUNKNOWN_ISSUER : Nat := 4
abbrev arCERT_SIGNATURE : Nat := 5
abbrev arIDENT_MISMATCH : Nat := 6
abbrev arMODEL_MISMATCH : Nat := 7
abbrev arRESPONSE_SIGNATURE : Nat := 8
abbrev arRESPONSE_TIMEOUT : Nat := 9

/-- A module is configured (R183). -/
def State.configured (s : State) (m : Nat) : Bool := (s.modulesOf (stringOf m)).contains m

/-- Is an authentication of the module due or asked for (R188)? A module that has no result is due. -/
def State.authWanted (s : State) (m : Nat) : Bool :=
  (s.module m).authDue || s.par (oModule m) Pid.Module.AUTH_RESULT == 0 ||
    s.auths.any fun j => j.left.contains m

/-- A module takes the default values of its string's model (R198, R199). -/
def State.moduleDefaults (s : State) (m : Nat) : State :=
  let o := oModule m
  let k := oString (stringOf m)
  let copy (pid dpid : Nat) (s : State) : State := s.setPar o pid (s.par k dpid)
  let s := copy Pid.Module.CAPACITY Pid.String.CAP_DEFAULT s
  let s := copy Pid.Module.R_SER Pid.String.R_SER_DEFAULT s
  let s := copy Pid.Module.RC1_RES Pid.String.RC1_RES_DEFAULT s
  let s := copy Pid.Module.TAU1 Pid.String.TAU1_DEFAULT s
  let s := copy Pid.Module.RC2_RES Pid.String.RC2_RES_DEFAULT s
  let s := copy Pid.Module.TAU2 Pid.String.TAU2_DEFAULT s
  let s := (s.setPar o Pid.Module.OCV_OFFSET 0).setPar o Pid.Module.LEARN_SOURCE 1
  s.setPar o Pid.Module.LEARN_TICK s.time.tick

/-- A module found with another serial number than its journal record's (R199). -/
def State.moduleReplaced (s : State) (m : Nat) : State :=
  let s := (s.moduleDefaults m).setBit (oModule m) Pid.Module.MOD_STATUS 5
  let s := s.modModule m fun a => { a with changed := true }
  s.modStr (stringOf m) fun a => { a with first := true }

/-- An IDENT_READ has given a module's identity: 16 bytes (Table 7-4, R186, R199). The result tells whether the module is
newly inserted. -/
def State.identify (s : State) (m : Nat) (id : Bytes) : Bool × State :=
  let o := oModule m
  let model : Int := fieldU id 0 4
  let serial := fieldU id 4 8
  let a := s.module m
  let differs := a.identified &&
    (s.par o Pid.Module.MODEL_ID != model || s.par o Pid.Module.SERIAL != serial)
  let s := (s.setPar o Pid.Module.MODEL_ID model).setPar o Pid.Module.SERIAL serial
  let s := if differs then s.setBit o Pid.Module.MOD_STATUS 6 else s
  let s := match a.recSerial with
    | some r => if r = serial then s else s.moduleReplaced m
    | none => s
  let s := s.modModule m fun a =>
    { a with identified := true, idNeeded := false, recSerial := some serial,
             authDue := a.authDue || differs }
  (differs, s)

/-- The result a certificate's checks give before the challenge, PASS where they all hold (R187, Table 7-7). -/
def State.certResult (s : State) (m : Nat) (id c : Bytes) : Nat :=
  let issuer := fieldU c 16 4
  if fieldU id 12 2 != 168 || c.length != 168 || byteAt c 0 != 1 || byteAt c 1 != 1 || !zeros c 2 2 ||
      !zeros c 100 4 then arCERT_FORMAT
  else match (if issuer < 4 then vget s.life.keys (issuer + 1) none else none) with
    | none => arUNKNOWN_ISSUER
    | some key =>
      if !Config.verifyP256 key (c.take 104) (slice c 104 64) then arCERT_SIGNATURE
      else if fieldU c 4 4 != fieldU id 0 4 || fieldU c 8 8 != fieldU id 4 8 then arIDENT_MISMATCH
      else if (fieldU id 0 4 : Int) != s.par (oString (stringOf m)) Pid.String.MODEL_ID then
        arMODEL_MISMATCH
      else arPASS

/-- The bytes of a finished BATT_AUTH: the mask, then one result per named module; the modules of `left`
have none (R202). -/
def State.authPayload (s : State) (mask : Nat) (left : List Nat) : Bytes :=
  leBytes 8 mask ++ (((List.range 64).filter fun m => mask.testBit m).flatMap fun m =>
    leBytes 1 (if left.contains m then 0 else s.par (oModule m) Pid.Module.AUTH_RESULT))

/-- Reply to the BATT_AUTH operations whose modules all have a result (R202). -/
def State.authReplies (s : State) : State :=
  let done := s.auths.filter fun j => j.left.isEmpty
  let s := { s with auths := s.auths.filter fun j => !j.left.isEmpty }
  done.foldl (fun s j =>
    let pass := (List.range 64).all fun m =>
      !j.mask.testBit m || s.par (oModule m) Pid.Module.AUTH_RESULT == 1
    match s.opOf j.op with
    | some e => s.reply e (if pass then stOK else stAUTH_FAILED) 0 (s.authPayload j.mask [])
    | none => s) s

/-- A module's result is set (R188, R190, R202). NOT_BEFORE and NOT_AFTER of a certificate that was read are copied into the
record, after the entries of Table 12-3 (R187; log entry 66). -/
def State.authDone (s : State) (m code : Nat) : State :=
  let o := oModule m
  let s := (s.setPar o Pid.Module.AUTH_RESULT code).setPar o Pid.Module.AUTH_TICK s.time.tick
  let c := (s.module m).cert
  let s := s.modModule m fun a => { a with authing := false, authDue := false, nonce := none, cert := [] }
  let s := s.record o rcSecurity 0x40
    ([.par o Pid.Module.AUTH_RESULT, .par o Pid.Module.MODEL_ID, .par o Pid.Module.SERIAL] ++
      if c.length = 168 then [.lit64 (fieldU c 20 8), .lit64 (fieldU c 28 8)] else [])
  let s := s.refreshTrust (stringOf m)
  let s := { s with auths := s.auths.map fun (j : AuthJob) => { j with left := j.left.filter fun i => i != m } }
  s.authReplies

/-- The first of a run of nonces, each one more than the one before it, that has not been used. -/
def unusedNonce (used : List Bytes) (n : Nat) : Nat → Bytes
  | 0 => leBytes 32 n
  | fuel + 1 => if used.contains (leBytes 32 n) then unusedNonce used (n + 1) fuel else leBytes 32 n

/-- A nonce from the device random source, never one used before (R188, R189): bytes drawn again are not taken again. -/
def State.freshNonce (s : State) : Bytes × State :=
  let (b, s) := s.drawBytes 32
  let nonce := unusedNonce s.nonces (leNat b) (s.nonces.length + 1)
  (nonce, { s with nonces := nonce :: s.nonces })

/-- The challenge has been sent: a fresh nonce (R188). -/
def State.challenge (s : State) (m : Nat) : State :=
  let (nonce, s) := s.freshNonce
  (s.modModule m fun a => { a with authing := true, nonce := some nonce }).refreshTrust (stringOf m)

/-- Is another module of the same port being authenticated (R189)? -/
def State.portAuths (s : State) (m : Nat) : Bool :=
  (List.range 64).any fun i => modulePort i == modulePort m && (s.module i).authing

/-- The certificate of an exchange, as its frames carried it. -/
def certOf (m : Nat) (x : AuthExchange) : Option Bytes :=
  if x.offsetOk then certRead m [] x.chunks else none

/-- MODULE_AUTH: one module is identified and, where an authentication is due, authenticated up to the
challenge (R186 to R188, R199); the modules of one port one at a time (R189). A module whose port issues no frame, or whose
frames are in error with their repeats, gives no reply. -/
def execModuleAuth (m : Fin 64) (x : AuthExchange) (s : State) : Host.Outcome State Fault Refusal :=
  let m := m.val
  if !s.miller3 || !s.configured m || s.portAuths m || (!s.authWanted m && !(s.module m).idNeeded) then .next s
  else match (if s.downReady (modulePort m) then readTwice m adIDENT_READ x.ident else none) with
    | none => .next (if s.authWanted m then s.authDone m arNO_REPLY else s)
    | some id =>
      let (_, s) := s.identify m id
      if !s.authWanted m then .next s
      else match certOf m x with
        | none => .next (s.authDone m arNO_REPLY)
        | some c =>
          let s := s.modModule m fun a => { a with cert := c }
          let r := s.certResult m id c
          if r ≠ arPASS then .next (s.authDone m r)
          else if x.challengeOk then .next (s.challenge m) else .next (s.authDone m arNO_REPLY)

/-- The 50 signed bytes of a response (R189). -/
def State.responseMsg (s : State) (m : Nat) : Bytes :=
  let a := s.module m
  leBytes 4 0x58504441 ++ a.nonce.getD [] ++ leBytes 8 (s.par (oModule m) Pid.Module.SERIAL) ++
    leBytes 1 (stringOf m) ++ leBytes 1 (m % 16 : Nat) ++
    leBytes 4 (s.par (oModule m) Pid.Module.MODEL_ID)

/-- RESPONSE_READ: one read of the response (R189). -/
def execResponseRead (m : Fin 64) (x : ResponseIn) (s : State) : Host.Outcome State Fault Refusal :=
  let m := m.val
  if !s.miller3 || !(s.module m).authing then .next s
  else match (if s.downReady (modulePort m) then readTwice m adRESPONSE x.frames else none) with
    | none => .next (s.authDone m arNO_REPLY)
    | some d =>
      if byteAt d 0 = 1 then .next (if x.elapsedMs ≥ 20 then s.authDone m arRESPONSE_TIMEOUT else s)
      else
        let ok := Config.verifyP256 (slice (s.module m).cert 36 64) (s.responseMsg m) (slice d 2 64)
        .next (s.authDone m (if ok then arPASS else arRESPONSE_SIGNATURE))

/-- AUTH_RETRY: NO_REPLY and RESPONSE_TIMEOUT are tried again after 60 s (R188). -/
def execAuthRetry (m : Fin 64) (s : State) : Host.Outcome State Fault Refusal :=
  let m := m.val
  let r := s.par (oModule m) Pid.Module.AUTH_RESULT
  if s.miller3 && s.configured m && (r == 2 || r == 9) then
    .next (s.modModule m fun a => { a with authDue := true })
  else .next s

/-- Every configured module is to be identified and authenticated, at boot and on return from WATCH (R188,
R199); SOC restarts from SOC_V. -/
def State.authAll (s : State) : State :=
  let s := s.each 64 fun m s => s.modModule m fun a =>
    { a with identified := false, authDue := true, authing := false, nonce := none, idNeeded := true }
  s.each 4 fun k s => s.modStr k fun a => { a with first := true }

/-! ## BATT_AUTH and BATT_LEARN_COMMIT -/

/-- Is a module being authenticated (check 5 of R202)? -/
def State.beingAuthed (s : State) (m : Nat) : Bool :=
  (s.module m).authing || s.auths.any fun j => j.left.contains m

/-- BATT_AUTH (R202). -/
def opBattAuth (e : Op) (s : State) : State :=
  let mask := fieldU e.payload 0 8
  let named := (List.range 64).filter fun m => mask.testBit m
  if e.payload.length ≠ 8 then s.fail e stBAD_LENGTH 1
  else if mask = 0 then s.fail e stBAD_PARAM 2
  else if named.any fun m => !s.configured m then s.fail e stBAD_OBJECT 3
  else if s.thermalLatched then s.fail e stLOCKED 4
  else if named.any s.beingAuthed then s.fail e stBUSY 5
  else { s with auths := s.auths ++ [{ op := e.id, mask := mask, left := named }] : State }.opRunning e

/-- Put a request before the first one that a test accepts, else at the end. -/
def putBefore (ok : NvmReq → Bool) (r : NvmReq) : List NvmReq → List NvmReq
  | [] => [r]
  | x :: rest => if ok x then r :: x :: rest else x :: putBefore ok r rest

/-- Is a request a scheduled battery write of strings that are all in a list? -/
def servedBy (ks : List Nat) (r : NvmReq) : Bool :=
  r.op.isNone && match r.work with
    | .battery l => l.all ks.contains
    | _ => false

/-- BATT_LEARN_COMMIT (R203): the write is asked of Fantail in the place of the first scheduled one that it serves, so that one
write serves both (Table 7-15). -/
def opBattLearnCommit (e : Op) (s : State) : State :=
  let mask := byteAt e.payload 0
  let named := (List.range 4).filter fun k => mask.testBit k
  if e.payload.length ≠ 4 then s.fail e stBAD_LENGTH 1
  else if mask = 0 || mask ≥ 16 || !zeros e.payload 1 3 then s.fail e stBAD_PARAM 2
  else if named.any fun k => s.par (oString k) Pid.String.MODULE_COUNT == 0 then s.fail e stBAD_OBJECT 3
  else if s.thermalLatched || !s.mayLearn then s.fail e stLOCKED 4
  else
    let r : NvmReq := ⟨.battery, .battery named, named.length + 1, some e.id, s.time.tick⟩
    { s with nvm := { s.nvm with queue := putBefore (servedBy named) r s.nvm.queue } : State }.opRunning e

/-- The reply of BATT_LEARN_COMMIT once its write has committed (R203). -/
def State.learnPayload (s : State) (mask : Nat) : Bytes :=
  leBytes 1 mask ++ [0, 0, 0] ++ ((List.range 4).flatMap fun k =>
    leBytes 4 (if mask.testBit k then s.par (oString k) Pid.String.LEARN_WRITE_GEN else 0))

/-- The reply of BATT_LEARN_COMMIT that was deferred or refused (R203). -/
def learnPut (mask retry : Nat) : Bytes :=
  leBytes 1 mask ++ [0] ++ leBytes 2 retry ++ List.replicate 16 0

end Sys2Proof.Machine
end

