-- ==== Sys2Proof/Machine/Rails.lean ====
section
/-! DEFINITION. Rails: turning on and off, qualification, faults and discharge (R239 to R241, R244, R245, R247,
R248). -/

namespace Sys2Proof.Machine

/-- RAIL_STATUS sticky bits (Table 9-6). -/
abbrev rlNOT_GOOD : Nat := 5
abbrev rlSTUCK : Nat := 6
abbrev rlFAULT : Nat := 7
abbrev rlDOWN_FAIL : Nat := 8
abbrev rlCOMM : Nat := 9

/-- A rail reached over D2. -/
def isD2 (v : Nat) : Bool := decide (16 ≤ v)

/-- The RAIL record (Table 12-3). -/
def State.railRecord (s : State) (v : Nat) : State :=
  s.record (oRail v) rcFault 0x09
    [.par (oRail v) Pid.Rail.RAIL_STATUS, .par oShelf Pid.Shelf.SEQ_STATE, .par (oRail v) Pid.Rail.CHATTER_COUNT]

/-! ## How a rail is sensed (R240) -/

/-- A direct rail in sense mode 1: PGn is an analogue input. -/
def State.senseAnalogue (s : State) (v : Nat) : Bool := !isD2 v && s.par (oRail v) Pid.Rail.SENSE_MODE == 1

/-- A threshold of the ball comparators, applied to the nearest 10 mV. -/
def near10mV (x : Int) : Int := roundDiv x 1000 * 1000

/-- PG of a rail in sense mode 1 at a ball voltage, in units of 10 µV. -/
def State.pgAt (s : State) (v : Nat) (ball : Word) : Bool :=
  decide (near10mV (s.par (oRail v) Pid.Rail.PG_THRESH) < ball.toNat)

/-- Does a rail in sense mode 1 count as discharged at a ball voltage? -/
def State.emptyAt (s : State) (v : Nat) (ball : Word) : Bool :=
  decide ((ball.toNat : Int) < near10mV (s.par (oRail v) Pid.Rail.DISCHARGE_THRESH))

/-! ## The stage of a D2 rail (R239, R396) -/

/-- The POL stage of a D2 rail. -/
def State.polOf (s : State) (v : Nat) : Nat := (s.par (oRail v) Pid.Rail.RAIL_POL - 0xB0).toNat

/-- Do D2 transactions with a stage fail at once: the port is in FAULT or disabled, the stage FAILED or absent
(R393, R396)? -/
def State.polDead (s : State) (n : Nat) : Bool :=
  s.objSt (oDown 2) == osFailed || !s.enabled (oDown 2) || (s.pol n).badMode ||
    s.par (oPol n) Pid.Pol.POL_ADDR == 0

/-- A transaction with a stage has failed. -/
def State.polFail (s : State) (n : Nat) : State :=
  (s.modPol n fun a => { a with lastFail := some s.time.tick }).incPar (oPol n) Pid.Pol.POL_ERRORS

/-- A write frame to a stage, with its PEC where POL_PEC asks for one: the address, then the command and its data (R395). -/
def State.polFrame (s : State) (n : Nat) (body : Bytes) : Bytes :=
  let l := BitVec.ofInt 8 (2 * s.par (oPol n) Pid.Pol.POL_ADDR) :: body
  if s.par (oPol n) Pid.Pol.POL_PEC == 1 then l ++ [crc8 l] else l

/-- OPERATION is written to the stage that RAIL_POL names: 0x80 turns it on, 0x00 off (R239). Where the port or the stage is dead the
transaction fails twice, which sets COMM; a stage without an address is sent nothing. A live stage that does not acknowledge is RAIL_POLL's
`operationFailed`. -/
def State.polOperate (s : State) (v : Nat) (on : Bool) : State :=
  let n := s.polOf v
  if !isD2 v || s.par (oPol n) Pid.Pol.POL_ADDR == 0 then s
  else if s.polDead n then (s.polFail n).setBit (oRail v) Pid.Rail.RAIL_STATUS rlCOMM
  else
    let frames := if on then [s.polFrame n [0x03], s.polFrame n [0x01, 0x80]] else [s.polFrame n [0x01, 0x00]]
    s.modPol n fun a => { a with sent := frames }

/-! ## Turning on and off (R239, R244) -/

/-- A rail is turned on, and qualifies from then on (R244, Table 9-2). -/
def State.railOn (s : State) (v : Nat) : State :=
  (s.polOperate v true).modRail v fun r =>
    { r with en := true, delaying := false, qualifying := true, good := false, timedOut := false,
             faulted := false, discharging := false, stuck := false, downOff := false, onTick := s.time.tick }

/-- A rail is turned off. A direct rail in sense mode 0 is discharged when PGn reads low (R240). -/
def State.railOff (s : State) (v : Nat) : State :=
  let s := s.polOperate v false
  let mode0 := !isD2 v && s.par (oRail v) Pid.Rail.SENSE_MODE == 0
  let s := if (s.rail v).en && mode0 && !(s.rail v).pg then
    s.setPar (oRail v) Pid.Rail.LAST_DOWN_TIME 0 else s
  s.modRail v fun r =>
    { r with en := false, delaying := false, qualifying := false, good := false, timedOut := false,
             faulted := false, stuck := false, downOff := false
             discharging := r.discharging || (r.en && !(mode0 && !r.pg))
             offTick := if r.en then s.time.tick else r.offTick }

/-- Every rail is off: SAFE_HOLD and the thermal latch (R34, R241). -/
def State.railsOff (s : State) : State := s.each 32 fun v s => s.railOff v

/-- A rail has discharged. -/
def State.railEmpty (s : State) (v : Nat) (us : Int) : State :=
  (s.modRail v fun r => { r with discharging := false, stuck := false, downOff := false }).setPar (oRail v)
    Pid.Rail.LAST_DOWN_TIME us

/-- PG rises: an enabled rail that is not good starts its qualification (R244). -/
def State.pgRise (s : State) (v : Nat) : State :=
  s.modRail v fun r => { r with pg := true, qualifying := r.en && !r.good }

/-- PG of a rail that is not good falls: the qualification restarts, past PG_TIMEOUT not before PG rises again, and a discharging rail in sense mode 0 is
discharged (R240, R244). -/
def State.pgFall (s : State) (v : Nat) : State :=
  let r := s.rail v
  let s := s.modRail v fun r => { r with pg := false, qualifying := r.qualifying && !r.timedOut && !r.faulted }
  let s := if r.qualifying && r.pg then s.incPar (oRail v) Pid.Rail.CHATTER_COUNT else s
  if r.discharging && !isD2 v && s.par (oRail v) Pid.Rail.SENSE_MODE == 0 then
    s.railEmpty v ((s.time.tick : Int) - r.offTick)
  else s

/-- A good rail whose PG drops, or whose stage stops answering, after a Brake cause (R245, R247). -/
def State.downFail (s : State) (v : Nat) : State :=
  let s := s.modRail v fun r => { r with pg := false, good := false, faulted := true }
  (s.setBit (oRail v) Pid.Rail.RAIL_STATUS rlDOWN_FAIL).railRecord v

/-- Does R247's handling of PG drops apply: a Brake cause has arisen since the last entry to STARTUP? -/
def State.brakeSeen (s : State) : Bool := s.seq.brake.isSome

/-- Flags of one kind over all rails. -/
def State.railFlags (s : State) (bit : Nat) : Nat :=
  ((List.range 32).filter fun v => s.bit (oRail v) Pid.Rail.RAIL_STATUS bit).length

/-- ENABLE of a rail has been written (R241). -/
def State.railEnable (s : State) (v : Nat) (on : Bool) : State := if on then s else s.railOff v

/-- ON_DELAY: after ON_DELAY a rail of the entered state is turned on (R244). -/
def execOnDelay (v : Fin 32) (s : State) : Host.Outcome State Fault Refusal :=
  if s.miller3 && (s.rail v.val).delaying && s.enabled (oRail v.val) && !s.safeHold then
    .next (s.railOn v.val)
  else .next s

/-- RAIL_PG_HIGH: PGn of a direct rail goes high, in sense mode 1 with its ball above PG_THRESH (R240, R244). In mode 0 PGn is a logic
input, and the voltage says nothing. -/
def execRailPgHigh (x : RailBall) (s : State) : Host.Outcome State Fault Refusal :=
  let v := x.rail.val
  if s.running && !isD2 v && (!s.senseAnalogue v || s.pgAt v x.ball) then .next (s.pgRise v) else .next s

/-- RAIL_QUALIFIED: PG has been high for QUALIFY_TIME (R244). -/
def execRailQualified (v : Fin 32) (upUs : Word) (s : State) : Host.Outcome State Fault Refusal :=
  let v := v.val
  if s.miller3 && (s.rail v).en && (s.rail v).qualifying && (s.rail v).pg then
    .next ((s.modRail v fun r => { r with qualifying := false, good := true, faulted := false }).setPar
      (oRail v) Pid.Rail.LAST_UP_TIME upUs.toNat)
  else .next s

/-- PG_TIMEOUT: a rail is not good PG_TIMEOUT after it was turned on (R244). -/
def execPgTimeout (v : Fin 32) (s : State) : Host.Outcome State Fault Refusal :=
  let v := v.val
  if s.miller3 && (s.rail v).en && !(s.rail v).good && !(s.rail v).timedOut then
    let s := s.modRail v fun r => { r with timedOut := true, qualifying := r.qualifying && r.pg }
    .next ((s.setBit (oRail v) Pid.Rail.RAIL_STATUS rlNOT_GOOD).railRecord v)
  else .next s

/-- RAIL_PG_DROP: PG drops. Of a good rail it is a drop shorter than FAULT_FILTER, which only counts, or
DOWN_FAIL after a Brake cause (R244, R245, R247; log entry 17). In sense mode 1 its ball is no longer above PG_THRESH (R240). -/
def execRailPgDrop (x : RailBall) (s : State) : Host.Outcome State Fault Refusal :=
  let v := x.rail.val
  if !s.running || (s.senseAnalogue v && s.pgAt v x.ball) then .next s
  else if (s.rail v).good then
    if s.brakeSeen then .next (s.downFail v) else .next (s.incPar (oRail v) Pid.Rail.CHATTER_COUNT)
  else .next (s.pgFall v)

/-- DISCHARGE_TIMEOUT: a rail turned off in a down state has not discharged (R248). One that ENABLE or the shelf state turned off has no
such limit. -/
def execDischargeTimeout (v : Fin 32) (s : State) : Host.Outcome State Fault Refusal :=
  let v := v.val
  if s.miller3 && (s.rail v).discharging && (s.rail v).downOff && !(s.rail v).stuck then
    let s := s.modRail v fun r => { r with stuck := true }
    .next (((s.setBit (oRail v) Pid.Rail.RAIL_STATUS rlSTUCK).railRecord v).raise alFault)
  else .next s

/-- RAIL_DISCHARGED: the ball of a direct rail in sense mode 1 falls below DISCHARGE_THRESH (R240). -/
def execRailDischarged (x : RailBall) (downUs : Word) (s : State) : Host.Outcome State Fault Refusal :=
  let v := x.rail.val
  if s.running && (s.rail v).discharging && s.senseAnalogue v && s.emptyAt v x.ball then
    .next (s.railEmpty v downUs.toNat)
  else .next s

end Sys2Proof.Machine
end

