-- ==== Sys2Proof/Machine/Sequence.lean ====
section
/-! DEFINITION. Shelf states, the sequencer's states, Brake causes and the COG line, as far as no level 3 restart
is needed (R31 to R36, R242 to R249, R253 to R257, R261). -/

namespace Sys2Proof.Machine

/-- SEQ_PHASE (Table 9-3). -/
abbrev sqWORK : Int := 0
abbrev sqREADY : Int := 1
abbrev sqREST : Int := 2
abbrev sqMANUAL : Int := 3
abbrev sqJOINING : Int := 4

/-- COG_STATUS sticky bits (Table 9-4). -/
abbrev cgHOLD_LIMIT : Nat := 1
abbrev cgSTALL : Nat := 2
abbrev cgGLITCH : Nat := 3
abbrev cgRESET_SEEN : Nat := 4

/-- Causes in a SHELF_STATE record (log entry 18). -/
abbrev scCONFIRM : Nat := 0
abbrev scTIMEOUT : Nat := 1
abbrev scREQUEST : Nat := 2
abbrev scCOLLAPSE : Nat := 3
abbrev scRECOVERED : Nat := 4
abbrev scSIXTY : Nat := 5
abbrev scBRAKE : Nat := 6
abbrev scPOWER_ON : Nat := 7
abbrev scRESET : Nat := 8
abbrev scSAVE : Nat := 9

/-- SEQ_STATE. -/
def State.seqState (s : State) : Nat := (s.par oShelf Pid.Shelf.SEQ_STATE).toNat

/-- SEQ_PHASE. -/
def State.seqPhase (s : State) : Int := s.par oShelf Pid.Shelf.SEQ_PHASE

/-- Change the sequencer. -/
def State.modSeq (s : State) (g : SeqState → SeqState) : State := { s with seq := g s.seq }

/-- The SEQUENCE record (Table 12-3). -/
def State.seqRecord (s : State) : State :=
  s.record oShelf rcState 0x22
    [.par oShelf Pid.Shelf.SEQ_STATE, .par oShelf Pid.Shelf.SHUTDOWN_CAUSE, .par oShelf Pid.Shelf.COG_STATUS,
     .lit (s.railFlags rlSTUCK + s.railFlags rlDOWN_FAIL : Nat)]

/-! ## The work of a state (R244, R247) -/

/-- The enabled rails of a power-up state. -/
def State.upRails (s : State) (n : Nat) : List Nat :=
  (List.range 32).filter fun v => s.enabled (oRail v) && s.par (oRail v) Pid.Rail.UP_STATE == n

/-- The enabled rails of a down state. -/
def State.downRails (s : State) (n : Nat) : List Nat :=
  (List.range 32).filter fun v => s.enabled (oRail v) && s.par (oRail v) Pid.Rail.DOWN_STATE == n

/-- Does an object turn off in a down state? -/
def State.downIn (s : State) (o pid n : Nat) : Bool := s.read o pid == n

/-- Start the rails of a power-up state (R244). From a Brake cause on the walk is stopped, and no rail is turned on (R265). -/
def State.railsUp (s : State) (n : Nat) : State :=
  s.eachOf ((s.upRails n).filter fun v => !(s.rail v).en) fun v s =>
    if s.safeHold || s.brakeSeen then s
    else if s.par (oRail v) Pid.Rail.ON_DELAY == 0 then s.railOn v
    else s.modRail v fun r => { r with delaying := true }

/-- Turn off the power-side objects of a down state (R247). -/
def State.powerDown (s : State) (n : Nat) : State :=
  let s := s.eachOf ((List.range 16).filter fun f => s.downIn (oFeeder f) Pid.Feeder.DOWN_STATE n) fun f s =>
    (s.readWeir f).feederWait f
  let s := if n = 28 then s.stopLone else s
  let s := s.eachOf ((List.range 4).filter fun b => s.downIn (oSeg b) Pid.Segment.DOWN_STATE n) fun b s =>
    let s := s.stopConverter b
    let s := if s.objSt (oSeg b) == osStarting || s.objSt (oSeg b) == osActive then
      s.setObj (oSeg b) osWaiting else s
    (s.modSeg b fun a => { a with offTime := false, overHold := false, ramping := false }).slewsSettle b
  s.eachOf ((List.range 4).filter fun k => s.downIn (oString k) Pid.String.DOWN_STATE n) fun k s =>
    (s.readString k).stringWait k

/-- Begin the work of a state. In MANUAL only rails are acted on (R261); power-side objects wait for the link
(Table 9-7). -/
def State.beginWork (s : State) (n : Nat) : State :=
  if n < 16 then s.railsUp n
  else
    let s := if s.seq.walk != .manual && s.linkUp then s.powerDown n else s
    s.eachOf (s.downRails n) fun v s => (s.railOff v).modRail v fun r => { r with downOff := r.discharging }

/-- Is every listed object of a state finished (R244, R247)? -/
def State.workFinished (s : State) (n : Nat) : Bool :=
  if n < 16 then (s.upRails n).all fun v => (s.rail v).good || (s.rail v).timedOut
  else
    let power := s.seq.walk == .manual || !s.linkUp ||
      (((List.range 16).all fun f => !s.downIn (oFeeder f) Pid.Feeder.DOWN_STATE n || !(s.feeder f).gate) &&
       ((List.range 4).all fun b => !s.downIn (oSeg b) Pid.Segment.DOWN_STATE n ||
          (s.phasesOfSeg b).all fun p => !(s.phase p).switching) &&
       ((List.range 4).all fun k => !s.downIn (oString k) Pid.String.DOWN_STATE n || !(s.str k).connected))
    power && (s.downRails n).all fun v => !(s.rail v).discharging || (s.rail v).stuck

/-- A COG-scheduled activation falls due at an entry to its state, by a step or a reset, and a unit on the line holds COG there until
its decision; at any other entry it waits for its state again (R230, R238, R258, R409). -/
def State.schedEntry (s : State) (n : Nat) : State :=
  if s.par oUpdater Pid.Updater.UPD_STATE == 4 && s.par oUpdater Pid.Updater.SCHED_MODE == 2 then
    let here := s.par oUpdater Pid.Updater.SCHED_COG_STATE == n
    { s with upd := { s.upd with dueAtCog := here, due := here && s.upd.due }
             seq := { s.seq with actHold := here && s.seq.attached } }
  else s

/-- Enter a state (R242, R253): an attached unit asserts COG; in a level 3 restart the work waits (R256). -/
def State.enterSeq (s : State) (n : Nat) : State :=
  let manual := s.seq.walk == .manual
  let held := s.seq.attached
  let late := s.miller.restarting
  let s := s.modSeq fun q =>
    { q with entryTick := s.time.tick, workDone := false, workDue := late, holding := held,
             lineLow := held || q.lineLow, walk := if manual then .manual else if n < 16 then .up else .down }
  let s := (s.setPar oShelf Pid.Shelf.SEQ_STATE n).setPar oShelf Pid.Shelf.SEQ_PHASE
    (if manual then sqMANUAL else sqWORK)
  let s := s.schedEntry n
  if late then s else s.beginWork n

/-- The state after the present one (R242). -/
def State.nextSeqState (s : State) : Nat := (s.seqState + 1) % 32

/-! ## COG (R253 to R257) -/

/-- The unit leaves the line and releases it; LINE_LOW goes with the next rise. -/
def State.cogLeave (s : State) (detached byBrake : Bool) : State :=
  s.modSeq fun q => { q with attached := false, holding := false, detached := detached, byBrake := byBrake,
                             joinWait := false, pulse := .none, actHold := false }

/-- A join begins: the line is watched (R255). -/
def State.cogJoin (s : State) : State :=
  (s.modSeq fun q => { q with attached := false, detached := false, byBrake := false, joinWait := false,
                              pulse := .none, joinTick := s.time.tick }).setPar oShelf Pid.Shelf.SEQ_PHASE sqJOINING

/-- Does the unit's group rest at a state? -/
def State.restsAt (s : State) (n : Nat) : Bool := s.seqState == n && s.seqPhase == sqREST

/-- Drive a pulse on the line (R253). -/
def State.cogPulse (s : State) (p : CogPulse) : State :=
  s.modSeq fun q => { q with pulse := p, lineLow := true }

/-- A step or reset counted by this unit. -/
def State.cogStep (s : State) (n : Nat) : State := (s.incPar oShelf Pid.Shelf.COG_STEPS).enterSeq n

/-! ## Shelf states (R33 to R36) -/

/-- Everything on the power side is off at once; nothing is latched (R34). -/
def State.allOff (s : State) : State :=
  let s := s.each 16 fun f s => s.feederWait f
  let s := s.each 4 fun k s => s.stringWait k
  s.stopConversion

/-- A SAFE_HOLD cause arises. -/
def State.holdAll (s : State) : State := s.allOff.railsOff

/-- The payload of SEQ_STEP (R261). -/
def State.stepPayload (s : State) : Bytes :=
  leBytes 1 s.seqState ++ leBytes 1 (s.railFlags rlNOT_GOOD : Nat) ++ leBytes 1 (s.railFlags rlSTUCK : Nat) ++ [0]

/-- A SEQ_STEP in flight ends. -/
def State.stepEnd (s : State) (status reason : Nat) : State :=
  let op := s.seq.stepOp
  let s := s.modSeq fun q => { q with stepOp := none, stepsLeft := 0 }
  match op.bind s.opOf with
  | some e => s.reply e status reason s.stepPayload
  | none => s

/-- The sequencer sets SEQ_STATE to 0 and walks up (R261); a joining unit walks from its reset on. After a Brake cause the Brake sequence
takes over (R261). -/
def State.walkAgain (s : State) : State :=
  if s.seq.brake.isSome then s
  else if s.seqPhase == sqJOINING then s.setPar oShelf Pid.Shelf.SEQ_STATE 0
  else s.enterSeq 0

/-- MANUAL ends, with a SEQ_STEP in flight (R261). -/
def State.manualStop (s : State) : State :=
  if s.seq.walk == .manual then
    (s.stepEnd stREFUSED frSHELF_STATE).modSeq fun q => { q with walk := .none }
  else s

/-- TEST or MAINT is left, or a Brake or the thermal latch ends MANUAL (R261). -/
def State.manualEnd (s : State) (walkUp : Bool) : State :=
  if walkUp then s.manualStop.walkAgain else s.manualStop

/-- The shelf state changes (R33, R36). -/
def State.enterShelf (s : State) (new : Int) (cause : Nat) : State :=
  let old := s.shelfState
  let s := (s.setPar oShelf Pid.Shelf.SHELF_STATE new).setPar oShelf Pid.Shelf.STATE_ENTRY_TICK s.time.tick
  let s := s.record oShelf rcState 0x20 [.lit old, .lit new, .lit cause]
  if (old == ssTest || old == ssMaint) && new != ssTest && new != ssMaint then
    let s := if s.flume.running then s.flumeStop fcSTATE else s
    s.manualEnd (new == ssNormal)
  else s

/-- A transition that a level 3 restart puts off until its end (R35). -/
def State.shift (s : State) (new : Int) (cause : Nat) : State :=
  if s.miller.restarting then
    { s with miller := { s.miller with shifts := s.miller.shifts ++ [.toState new.toNat cause] } }
  else s.enterShelf new cause

/-! ## Brake (R246, R247, R254) -/

/-- How an attached unit goes down: by its own rule, locally or with the group by command, or on a group's
step. -/
inductive BrakeHow where
  | byRule | local | group | stepped
  deriving DecidableEq, Repr, Inhabited

/-- BRAKING is entered and the down walk begins at 16 (R246, R247, R254). -/
def State.enterBraking (s : State) (how : BrakeHow) : State :=
  let s := s.modSeq fun q => { q with pfwRunning := false, pfwLow := true, walk := .none }
  let s := s.enterShelf ssBraking scBRAKE
  let byGroup := s.seq.attached && s.restsAt 15 && match how with
    | .byRule => s.par oShelf Pid.Shelf.COG_DOWN_GROUP == 1
    | .group => true
    | .local => false
    | .stepped => false
  if how == .stepped then s.cogStep 16
  else if byGroup then s.cogPulse .request
  else
    let s := if s.seq.attached || s.seqPhase == sqJOINING then s.cogLeave true true else s
    s.enterSeq 16

/-- The Brake codes of R246. -/
abbrev bkPOWER_OFF : Nat := 1
abbrev bkGROUP_STEP : Nat := 2
abbrev bkRAIL_FAULT : Nat := 3
abbrev bkTHERMAL : Nat := 4

/-- A Brake cause (R246). Of two in one 1 ms tick the higher code is recorded. -/
def State.brakeCause (s : State) (c : Nat) (how : BrakeHow) : State :=
  if s.thermalLatched then s
  else match s.seq.brake with
    | some b =>
      let s :=
        if c > b && s.time.tick / 1000 == s.seq.brakeTick / 1000 then
          (s.modSeq fun q => { q with brake := some c }).setPar oShelf Pid.Shelf.SHUTDOWN_CAUSE c
        else s
      if c ≤ 2 && s.seq.pfwRunning then s.enterBraking how else s
    | none =>
      let s := (s.modSeq fun q =>
        { q with brake := some c, brakeTick := s.time.tick, complete := false, pfwLow := true }).setPar
          oShelf Pid.Shelf.SHUTDOWN_CAUSE c
      let s := (s.manualEnd false).each 32 fun v s => s.modRail v fun r => { r with delaying := false }
      let s := (s.each 4 fun k s => s.askBattery k).askOnce .tick .tickRecord 1
      if c ≥ 3 then
        s.modSeq fun q => { q with pfwRunning := true, walk := .none }
      else s.enterBraking how

/-- The Brake sequence is complete (R249, R260). -/
def State.brakeComplete (s : State) : State :=
  let s := s.modSeq fun q => { q with complete := true, walk := .none }
  let s := s.seqRecord
  let s := s.askOnce .config .shutdownCause 1
  let flags := s.railFlags rlSTUCK + s.railFlags rlDOWN_FAIL
  let ops := s.seq.offOps
  let s := s.modSeq fun q => { q with offOps := [] }
  ops.foldl (fun s o => match s.opOf o.1 with
    | some e => s.ok e (leBytes 1 o.2 ++ leBytes 1 flags ++ [0, 0])
    | none => s) s

/-- Is the Brake sequence still to be completed by the work of state 31 (R249)? -/
def State.brakeOpen (s : State) : Bool := s.shelfState == ssBraking && !s.seq.complete

/-- A unit that sequences alone goes on from a finished state; a rest state is not left (R242). -/
def State.stepAlone (s : State) : State :=
  let n := s.seqState
  if n = 15 || n = 31 then
    let s := (s.setPar oShelf Pid.Shelf.SEQ_PHASE sqREST).modSeq fun q => { q with walk := .none }
    if n = 31 && s.brakeOpen then s.brakeComplete else s
  else s.enterSeq s.nextSeqState

/-- A step of a SEQ_STEP is taken; the last one commits it (R261). -/
def State.stepTaken (s : State) : State :=
  let n := s.seq.stepsLeft - 1
  let s := s.modSeq fun q => { q with stepsLeft := n }
  match s.seq.stepOp with
  | some id => if n = 0 then s.opCommit id else s
  | none => s

/-- The work of the present state is finished (R242, R253, R261). -/
def State.finishWork (s : State) : State :=
  let s := s.modSeq fun q => { q with workDone := true, holding := q.actHold && q.holding }
  if s.seq.walk == .manual then
    if s.seq.stepsLeft > 0 then
      (s.stepTaken).enterSeq s.nextSeqState
    else s.stepEnd stOK 0
  else if s.seq.attached then
    let n := s.seqState
    let s := if s.seqPhase == sqREST then s else s.setPar oShelf Pid.Shelf.SEQ_PHASE sqREADY
    if n = 31 && s.brakeOpen then s.brakeComplete else s
  else s.stepAlone

/-- Is the present state's work under way and its listed objects finished? -/
def State.workReady (s : State) : Bool :=
  s.seq.walk != .none && !s.seq.workDone && !s.seq.workDue && s.workFinished s.seqState

/-! ## The thermal latch (R35, R227) -/

/-- A non-volatile transaction is cut: only the page being programmed completes (R281). -/
def State.cutNvm (s : State) : State :=
  let s := { s with nvm := { s.nvm with queue := [] } }
  match s.nvm.active with
  | some (r, n) =>
    if n ≤ 1 then s
    else { s with nvm := { s.nvm with active := none } : State }.cutWrite r.work
  | none => s

/-- The shutdown record is written to its slot of the mirror; nothing else is (R35). -/
def State.writeShutdown (s : State) : State :=
  match s.grist.circ with
  | r :: _ =>
    if r.source = oShelf ∧ r.event = 0x24 then
      { s with nvm := { s.nvm with mirror := r :: s.nvm.mirror.filter fun x => x.gen % 2048 != r.gen % 2048 } }
    else s
  | [] => s

/-- THERMAL_LATCHED is entered: every power-side output off at once, COG released, and only the SHUTDOWN
record (R33, R35, R227, Table 9-7). -/
def State.enterThermal (s : State) (t : Nat) : State :=
  let old := s.shelfState
  let s := s.record oShelf rcState 0x24
    [.lit (oTherm t : Nat), .par (oTherm t) Pid.Thermal.T_NOW, .lit old]
  let s := (s.setPar oShelf Pid.Shelf.SHELF_STATE ssThermal).setPar oShelf Pid.Shelf.STATE_ENTRY_TICK s.time.tick
  let s := { s with shelf := { s.shelf with latched := true } }
  let s := if old == ssTest || old == ssMaint then s.flumeStop fcSTATE else s
  let s := s.holdAll.manualEnd false
  let s := (s.cogLeave (s.seq.attached || s.seq.detached) s.seq.byBrake).modSeq fun q =>
    { q with walk := .none, pfwRunning := false }
  s.cutNvm.floatLeave.writeShutdown

end Sys2Proof.Machine
end

