-- ==== Sys2Proof/Machine/Grist.lean ====
section
/-! DEFINITION. Grist's operations: reading, clearing, the mirror and the host triggers (R322 to R331), and the
LIFE_CYCLE record (R421). -/

namespace Sys2Proof.Machine

/-! ## Generations (R320) -/

/-- Is generation `a` older than `b`, modulo 2^32 within a window of 2^31? -/
def genOlder (a b : Nat) : Bool :=
  let d := (b + 4294967296 - a % 4294967296) % 4294967296
  decide (0 < d) && decide (d < 2147483648)

/-! ## LIFE_CYCLE records (R421) -/

/-- The kinds of Table 16-8 that raise ALERT. -/
def kindAlerts (kind : Nat) : Bool := [0x01, 0x02, 0x05, 0x06, 0x07, 0x08, 0x09].contains kind

/-- A LIFE_CYCLE record: the kind, the bank or TARGET, the result or state, and the port object. -/
def State.lifeRecord (s : State) (source kind : Nat) (what value : Int) (port : Nat) : State :=
  let s := s.record source rcSecurity 0x42 [.lit kind, .lit what, .lit value, .lit port]
  if kindAlerts kind then s.raise alUpdate else s

/-- A token that failed (kind 0x14): TARGET and the state that stands. -/
def State.tokenFailed (s : State) (target : Nat) (p : HostPort) : State :=
  s.lifeRecord oLife 0x14 target (s.par oLife Pid.LifeCycle.LC_STATE) (oPort p)

/-- The owner key, where it is provisioned. -/
def State.ownerKey (s : State) : Option Bytes := if s.life.killed then none else vget s.life.keys 0 none

/-- An ASCII text as bytes. -/
def ascii (l : List Nat) : Bytes := l.map fun c => BitVec.ofNat 8 c

/-- SERIAL in stored order (R365). -/
def serialBytes : Bytes := leBytes 8 (Config.serial.toNat : Nat)

/-! ## The mirror (R324, R326) -/

/-- The records not yet mirrored, oldest first. -/
def State.unmirrored (s : State) : List Rec :=
  (s.grist.circ.filter fun r => genOlder (s.par oGrist Pid.Grist.MIRRORED_GEN).toNat r.gen).reverse

/-- What one mirror transaction takes: the oldest unmirrored records, in at most two pages of 16 slots. -/
def State.mirrorBatch (s : State) : List Rec :=
  match s.unmirrored with
  | [] => []
  | r :: rest => r :: rest.takeWhile fun x =>
      decide (x.gen % 2048 / 16 = r.gen % 2048 / 16) ||
      decide (x.gen % 2048 / 16 = (r.gen % 2048 / 16 + 1) % 128)

/-- The pages a batch of slots touches. -/
def batchPages (l : List Rec) : Nat :=
  match l with
  | [] => 1
  | r :: rest => if rest.all fun x => x.gen % 2048 / 16 == r.gen % 2048 / 16 then 1 else 2

/-- The first-area records not yet written to MRAM, oldest first. -/
def State.firstPending (s : State) : List Rec := s.grist.first.reverse.drop s.grist.firstWritten

/-! ## Unreadable MRAM (Table 13-2) -/

/-- Can every codeword of a range of MRAM addresses be read? -/
def State.readable (s : State) (a n : Nat) : Bool :=
  s.nvm.bad.all fun c => decide (c * 32 + 32 ≤ a) || decide (c * 32 ≥ a + n)

/-- A range of whole codewords has been written again. -/
def State.rewritten (s : State) (a n : Nat) : State :=
  { s with nvm := { s.nvm with bad := s.nvm.bad.filter fun c => decide (c * 32 + 32 ≤ a) || decide (c * 32 ≥ a + n) } }

/-- The MRAM slot of a generation of the circular area's mirror, and that of a place in the first area (Table 12-5). -/
def mirrorSlot (gen : Nat) : Nat := 0x410000 + gen % 2048 * 128
def firstSlot (i : Nat) : Nat := 0x400000 + i * 128

/-- The slot of a save, which alternates with its generation (Table 10-7; log entry 20). -/
def saveSlot (gen : Nat) : Nat := 0x4A0000 + (gen + 1) % 2 * 0x4000

/-! ## Mirror transactions (R324) -/

/-- The slots of one first-area transaction: up to the end of the second page. -/
def State.firstBatch (s : State) : Nat :=
  min s.firstPending.length ((s.grist.firstWritten / 16 + 2) * 16 - s.grist.firstWritten)

/-- Request what remains: the mirror, and the first-area slots in transactions of their own. -/
def State.askMirror (s : State) : State :=
  let s := if s.unmirrored.isEmpty then s else s.askOnce .mirror .gristMirror (batchPages s.mirrorBatch)
  if s.firstPending.isEmpty then s
  else s.askOnce .mirror .gristFirst (if s.grist.firstWritten % 16 + s.firstBatch ≤ 16 then 1 else 2)

/-- MIRROR_LATE ends when the oldest unmirrored record is no longer older than 10 s. -/
def State.mirrorOnTime (s : State) : State :=
  let late := match s.unmirrored with
    | r :: _ => decide (s.time.tick > r.tick + 10000000)
    | [] => false
  { s with grist := { s.grist with mirrorLate := s.grist.mirrorLate && late } }

/-- Put mirrored records in their slots. -/
def mirrorPut (l batch : List Rec) : List Rec :=
  batch.foldl (fun l r => r :: l.filter fun x => x.gen % 2048 != r.gen % 2048) l

/-- A mirror transaction commits: MIRRORED_GEN moves, the holds of R326 end, each with its SUPPRESSED record. The last
one of a completed Brake is followed by the clean-stop marker (R325). -/
def State.mirrorCommit (s : State) : State :=
  let batch := s.mirrorBatch
  match batch.getLast? with
  | none => s
  | some r =>
    let s := { s with nvm := { s.nvm with mirror := mirrorPut s.nvm.mirror batch } }
    let s := s.eachOf (batch.map (·.gen)) fun g s => s.rewritten (mirrorSlot g) 128
    let s := s.setPar oGrist Pid.Grist.MIRRORED_GEN r.gen
    let held := s.grist.held
    let s := { s with grist := { s.grist with created := [], held := [] } }
    let s := held.foldl (fun s e => s.record oGrist rcRecorder 0xF3 [.lit e.1, .lit e.2]) s
    let done := s.seq.complete && s.shelfState == ssBraking && s.unmirrored.isEmpty
    { s with nvm := { s.nvm with cleanStop := done } : State }.mirrorOnTime

/-- A first-area transaction commits. -/
def State.firstCommit (s : State) : State :=
  let n := s.firstBatch
  let s := { s with nvm := { s.nvm with firstMirror := s.nvm.firstMirror ++ s.firstPending.take n } }
  let s := s.rewritten (firstSlot s.grist.firstWritten) (128 * n)
  { s with grist := { s.grist with firstWritten := s.grist.firstWritten + n } }

/-- The commit of a clear (R327). -/
def State.clearCommit (s : State) (op : Option Nat) : State :=
  let gen := s.grist.nextGen
  let base := s.par oGrist Pid.Grist.FIRST_BASE_GEN
  let newest := s.par oGrist Pid.Grist.NEWEST_GEN
  let gone := s.grist.circ.length +
    (s.grist.first.filter fun r => !s.grist.circ.any fun x => x.gen == r.gen).length
  let e := op.bind s.opOf
  let port := match e with
    | some e => oPort e.port
    | none => 0
  let s := { s with
    grist := { s.grist with circ := [], first := [], clearGen := gen, firstWritten := 0, mirrorLate := false }
    nvm := { s.nvm with mirror := [], firstMirror := [], clearGen := gen, cleanStop := false } }
  let s := (s.incPar oGrist Pid.Grist.CLEAR_COUNT).setPar oGrist Pid.Grist.LAST_CLEAR_TICK s.time.tick
  let s := s.createRec oGrist rcRecorder 0xF0 false [.lit base, .lit newest, .lit gone, .lit port]
  match e with
  | some e => s.ok e (leBytes 4 gen ++ leBytes 4 gone ++ leBytes 4 (s.par oGrist Pid.Grist.CLEAR_COUNT))
  | none => s

/-- GRIST_MIRROR: every 1 s, and while records remain after a commit, a mirror write is requested. -/
def execGristMirror (s : State) : Host.Outcome State Fault Refusal :=
  if s.miller3 && !s.thermalLatched then .next s.askMirror else .next s

/-- MIRROR_LATE: the oldest unmirrored record is older than 10 s. -/
def execMirrorLate (s : State) : Host.Outcome State Fault Refusal :=
  if s.miller3 && !s.thermalLatched && !s.unmirrored.isEmpty && !s.grist.mirrorLate then
    .next ({ s with grist := { s.grist with mirrorLate := true } : State }.raise alRecorder)
  else .next s

/-- NONCE_EXPIRY: a clear nonce, or a life-cycle nonce, lapses 60 s after its issue (R327, R417). -/
def execNonceExpiry (lifeCycle : Bool) (s : State) : Host.Outcome State Fault Refusal :=
  if !s.running then .next s
  else if lifeCycle then .next { s with life := { s.life with nonce := none } }
  else .next { s with grist := { s.grist with nonce := none } }

/-! ## GRIST_READ (R328) -/

/-- The area that a read names, oldest first. -/
def State.area (s : State) (first : Bool) : List Rec :=
  (if first then s.grist.first else s.grist.circ).reverse

/-- Does a record pass the filters? -/
def recPasses (source mask : Nat) (r : Rec) : Bool :=
  (source == 0xFF || r.source == source) && mask.testBit r.cls

/-- Pack the matching records while the next one fits: those packed, and the first that did not fit. -/
def packRecs (source mask : Nat) : List Rec → Nat → Nat → List Rec × Option Nat
  | [], _, _ => ([], none)
  | r :: rest, n, room =>
    if !recPasses source mask r then packRecs source mask rest n room
    else if n = 0 || r.bytes.length > room then ([], some r.gen)
    else
      let (l, stop) := packRecs source mask rest (n - 1) (room - r.bytes.length)
      (r :: l, stop)

/-- The generations at the two ends of an area, the oldest first; 0 where it is empty. -/
def areaEnds (l : List Rec) : Nat × Nat :=
  match l, l.getLast? with
  | r :: _, some x => (r.gen, x.gen)
  | _, _ => (0, 0)

/-- GRIST_READ's own checks (R328). -/
def State.gristReadCheck (s : State) (p : Bytes) : Option (Nat × Nat) :=
  let src := byteAt p 1
  let start := fieldU p 4 4
  let base := (s.par oGrist Pid.Grist.FIRST_BASE_GEN).toNat
  if p.length ≠ 12 then some (stBAD_LENGTH, 1)
  else if !zeros p 9 3 then some (stBAD_PARAM, 2)
  else if src != 0xFF && objReserved src then some (stBAD_OBJECT, 3)
  else if byteAt p 0 > 1 || fieldU p 2 2 = 0 || byteAt p 8 = 0 || byteAt p 8 > 8 ||
      (byteAt p 0 = 1 && start != 0 && (start + 4294967296 - base) % 4294967296 > 511) then
    some (stRANGE, 4)
  else none

/-- The reply of a GRIST_READ that passes its checks (Table 12-7): NEXT_GEN, RESULT and the records. -/
def State.gristReadOut (s : State) (p : Bytes) : Nat × Nat × List Rec :=
  let l := s.area (byteAt p 0 == 1)
  let (oldest, newest) := areaEnds l
  let start := if fieldU p 4 4 = 0 then oldest else fieldU p 4 4
  if l.isEmpty then (if start = 0 then s.grist.nextGen else start, 2, [])
  else if genOlder start oldest then (oldest, 1, [])
  else
    let (recs, stop) := packRecs (byteAt p 1) (fieldU p 2 2)
      (l.filter fun r => !genOlder r.gen start) (byteAt p 8) 256
    let next := match stop with
      | some g => g
      | none => if genOlder newest start then start else seqAfter newest
    (next, if recs.isEmpty then 2 else 0, recs)

/-- GRIST_READ (R328). -/
def opGristRead (e : Op) (s : State) : State :=
  match s.gristReadCheck e.payload with
  | some (st, c) => s.fail e st c
  | none =>
    let (next, result, recs) := s.gristReadOut e.payload
    let ends := areaEnds (s.area (byteAt e.payload 0 == 1))
    s.ok e (leBytes 4 next ++ leBytes 4 ends.1 ++ leBytes 4 ends.2 ++ leBytes 1 result ++
      leBytes 1 recs.length ++ [0, 0] ++ recs.flatMap Rec.bytes)

/-! ## GRIST_CLEAR (R327) -/

/-- The bytes that a clear token signs. -/
def State.clearMsg (s : State) : Bytes :=
  ascii [0x47, 0x52, 0x43, 0x4C] ++ serialBytes ++ s.grist.nonce.getD []

/-- GRIST_CLEAR (R327): SUBOP 0 gives a nonce, SUBOP 1 asks for the clear. -/
def opGristClear (e : Op) (s : State) : State :=
  let p := e.payload
  if p.length ≠ 4 ∧ p.length ≠ 68 then s.fail e stBAD_LENGTH 1
  else if !zeros p 1 3 then s.fail e stBAD_PARAM 2
  else if byteAt p 0 > 1 || (byteAt p 0 = 0) != (p.length = 4) then s.fail e stRANGE 3
  else match s.thermalLatched, s.ownerKey with
  | true, _ => s.fail e stLOCKED 4
  | _, none => s.fail e stLOCKED 4
  | false, some key =>
    if byteAt p 0 = 0 then
      let (nonce, s) := s.drawBytes 32
      let s := { s with grist := { s.grist with nonce := some nonce } }
      s.ok e (nonce ++ serialBytes ++ leBytes 4 (s.par oGrist Pid.Grist.NEWEST_GEN))
    else match s.grist.nonce with
    | none => s.reply e stREFUSED frPRECONDITION []
    | some _ =>
      let good := Config.verifyP256 key s.clearMsg (slice p 4 64)
      let s := { s with grist := { s.grist with nonce := none } }
      if good then (s.askNvm .config .gristClear 1 (some e.id)).opRunning e
      else (s.tokenFailed 0 e.port).fail e stAUTH_FAILED 6

/-! ## Host triggers (R329) -/

/-- The named snapshot entries of a trigger's payload. -/
def trigSnaps (p : Bytes) : List (Nat × Nat) :=
  (List.range (byteAt p 6)).map fun i => (byteAt p (20 + 4 * i), fieldU p (22 + 4 * i) 2)

/-- Snapshot entries that the named parameters take (R318); none where one is not implemented. -/
def snapSize : List (Nat × Nat) → Option Nat
  | [] => some 0
  | (o, pid) :: rest =>
    match findDesc o pid, snapSize rest with
    | some d, some n => some (n + if d.enc.size = 8 then 2 else 1)
    | _, _ => none

/-- Is WATCH_PARAM implemented and at most 32 bits wide? -/
def watchOk (o pid : Nat) : Bool :=
  match findDesc o pid with
  | some d => decide (d.enc.size ≤ 4)
  | none => false

/-- GRIST_TRIGGER_SET's own checks; with ENABLE 0 the fields after it are ignored. -/
def State.triggerCheck (s : State) (p : Bytes) : Option (Nat × Nat) :=
  let on := byteAt p 1 != 0
  let snaps := trigSnaps p
  if p.length ≠ 84 then some (stBAD_LENGTH, 1)
  else if on && (!zeros p 7 1 || (List.range 16).any (fun i => !zeros p (21 + 4 * i) 1) ||
      (byteAt p 6 ≤ 16 && !zeros p (20 + 4 * byteAt p 6) (64 - 4 * byteAt p 6))) then some (stBAD_PARAM, 2)
  else if on && (objReserved (byteAt p 2) ||
      (byteAt p 6 ≤ 16 && snaps.any fun e => objReserved e.1)) then some (stBAD_OBJECT, 3)
  else if byteAt p 0 > 15 || byteAt p 1 > 1 ||
      (on && (byteAt p 3 > 3 || byteAt p 6 > 16 || fieldU p 16 4 > 86400000)) then some (stRANGE, 4)
  else if on && (!watchOk (byteAt p 2) (fieldU p 4 2) ||
      (match snapSize snaps with
       | some n => decide (n > 16)
       | none => true)) then some (stBAD_PARAM, 5)
  else if s.thermalLatched then some (stLOCKED, 6)
  else none

/-- The trigger that a payload defines. -/
def trigOf (p : Bytes) : Trigger :=
  if byteAt p 1 = 0 then .undefined
  else
    { enable := true, obj := byteAt p 2, cond := byteAt p 3, param := fieldU p 4 2, threshold := fieldS p 8 4,
      hyst := fieldU p 12 4, minInterval := fieldU p 16 4, snaps := trigSnaps p, armed := true, last := none,
      lastFire := none }

/-- GRIST_TRIGGER_SET (R329): the trigger is stored in the configuration journal. -/
def opGristTriggerSet (e : Op) (s : State) : State :=
  match s.triggerCheck e.payload with
  | some (st, c) => s.fail e st c
  | none =>
    let n := byteAt e.payload 0
    let s := { s with grist := { s.grist with triggers := vmod s.grist.triggers n fun _ => trigOf e.payload } }
    (s.askOnce .config .triggers 1).ok e (leBytes 1 n ++ [0, 0, 0])

/-- A level trigger at a value: whether it crosses its threshold now, and its arming after (Table 12-8). The
FALL case is the RISE case of the negated values. -/
def crosses (armed : Bool) (last : Option Int) (v th hyst : Int) : Bool × Bool :=
  let armed := armed || decide (v ≤ th - hyst)
  match last with
  | none => (false, armed)
  | some l =>
    if armed && decide (l < th) && decide (v ≥ th) then (true, false) else (false, armed)

/-- Does a trigger's condition come about at a value, and its arming after? -/
def Trigger.meets (t : Trigger) (v : Int) : Bool × Bool :=
  match t.cond with
  | 0 => crosses t.armed t.last v t.threshold t.hyst
  | 1 => crosses t.armed (t.last.map fun l => -l) (-v) (-t.threshold) t.hyst
  | 2 => (match t.last with
      | some l => l != v
      | none => false, true)
  | _ =>
    let bits (x : Int) : Bool := ((x % 4294967296).toNat &&& (t.threshold % 4294967296).toNat) != 0
    (match t.last with
      | some l => !bits l && bits v
      | none => false, true)

/-- One host trigger at the end of a Fantail tick (R329). -/
def State.runTrigger (s : State) (n : Nat) : State :=
  let t := vget s.grist.triggers n .undefined
  if !t.enable then s
  else
    let v := s.read t.obj t.param
    let (hit, armed) := t.meets v
    let due := match t.lastFire with
      | some k => decide (s.time.tick ≥ k + t.minInterval * 1000)
      | none => true
    let t' := { t with armed := armed, last := some v,
                       lastFire := if hit && due then some s.time.tick else t.lastFire }
    let s := { s with grist := { s.grist with triggers := vmod s.grist.triggers n fun _ => t' } }
    if hit && due then
      (s.incPar oGrist (Pid.Grist.TRIGGER_FIRES + n)).record t.obj rcUser (0x80 + n)
        (t.snaps.map fun e => .par e.1 e.2)
    else s

/-- Every host trigger (R329): none in THERMAL_LATCHED. -/
def State.runTriggers (s : State) : State :=
  if s.thermalLatched then s else s.each 16 fun n s => s.runTrigger n

/-! ## The rows of the opcode table -/

/-- GRIST_READ. -/
def execGristRead (r : Req) (payload : Bytes) (s : State) : Host.Outcome State Fault Refusal :=
  .next (submitReq r 0x40 payload opGristRead s)

/-- GRIST_CLEAR with SUBOP 0. -/
def execGristClearNonce (r : Req) (rest : Bytes) (s : State) : Host.Outcome State Fault Refusal :=
  .next (submitReq r 0x41 (0x00 :: rest) opGristClear s)

/-- GRIST_CLEAR with SUBOP 1. -/
def execGristClear (r : Req) (rest : Bytes) (s : State) : Host.Outcome State Fault Refusal :=
  .next (submitReq r 0x41 (0x01 :: rest) opGristClear s)

/-- GRIST_TRIGGER_SET. -/
def execGristTriggerSet (r : Req) (payload : Bytes) (s : State) : Host.Outcome State Fault Refusal :=
  .next (submitReq r 0x42 payload opGristTriggerSet s)

end Sys2Proof.Machine
end

