-- ==== Sys2Proof/Machine/Restart.lean ====
section
/-! DEFINITION. How an operation that has not committed is withdrawn, and the level 3 restart with what waits
for its end (R20, R27, R31, R35, R259, R345, R360 to R363, R411). -/

namespace Sys2Proof.Machine

/-! ## Withdrawing an operation (R27, R360, R363) -/

/-- The writes that an operation asked for leave the queue; one that has started stays (R281). -/
def State.dropWrites (s : State) (id : Nat) : State :=
  { s with nvm := { s.nvm with queue := s.nvm.queue.filter fun r => r.op != some id } }

/-- The payload an ABORTED reply of an operation carries (R107, R202, R261, R359). -/
def State.abortedPayload (s : State) (e : Op) : Bytes :=
  match e.opcode with
  | 0x60 => match s.auths.find? fun j => j.op == e.id with
    | some j => s.authPayload j.mask j.left
    | none => []
  | 0x72 => s.stepPayload
  | _ => []

/-- What a started operation leaves undone when it is withdrawn. -/
def State.undo (s : State) (e : Op) : State :=
  match e.opcode with
  | 0x31 => { s with wheel := { s.wheel with loads := s.wheel.loads.filter fun j => j.op != some e.id } }
  | 0x32 => { s with wheel := { s.wheel with
      swaps := s.wheel.swaps.filter fun j => j.registered || j.op != some e.id } }
  | 0x50 => { s with dresser := { s.dresser with
      tests := s.dresser.tests.filter fun t => t.op != some e.id } }
  | 0x60 => { s with auths := s.auths.filter fun j => j.op != e.id }
  | 0x72 => s.modSeq fun q => { q with stepOp := none, stepsLeft := 0 }
  | 0x92 => ({ s with upd := { s.upd with closing := none } : State }.dropWrites e.id).setPar
      oUpdater Pid.Updater.UPD_STATE 1
  | _ => s.dropWrites e.id

/-- The loop whose slew an operation is. -/
def State.slewLoop (s : State) (id : Nat) : Option Nat :=
  (List.range 8).find? fun m => (s.loop (24 + m)).slewOp == some id

/-- An operation that has not committed ends with ABORTED and a reason (Table 14-5). One that is still QUEUED is answered with no
payload; of a SETPOINT_SLEW not yet started R107 says nothing, and the model takes the same answer (DESIGN CHOICE, log entry 63). -/
def State.withdraw (s : State) (e : Op) (reason : Nat) : State :=
  let s := s.modOp e.id fun x => { x with aborted := true }
  if e.stage != .running then s.reply e stABORTED reason []
  else match e.opcode, s.slewLoop e.id with
  | 0x38, _ =>
    if reason = 3 then
      let pay := s.flumePayload fcABORTED
      let s := { s with flume := { s.flume with op := none } }
      (s.flumeEnd fcABORTED).reply e stABORTED 3 pay
    else s.flumeEnd (if reason = 2 then fcL3_RESTART else fcABORTED)
  | 0x30, some m => s.slewEnd m stABORTED reason
  | _, _ =>
    let pay := s.abortedPayload e
    (s.undo e).reply e stABORTED reason pay

/-- The operations that have neither committed nor replied. -/
def State.uncommitted (s : State) : List Op :=
  s.hopper.ops.filter fun e => e.stage == .queued || e.stage == .running

/-- Every uncommitted operation of a list of ports ends (R27, R363). -/
def State.withdrawAll (s : State) (ps : List HostPort) (reason : Nat) : State :=
  (s.uncommitted.filter fun e => ps.contains e.port).foldl (fun s e => s.withdraw e reason) s

/-- The tag of an operation that outlives the disabling of its port: none that a packet can name (R27). -/
def Op.orphan (p : HostPort) (e : Op) : Op := if e.port = p then { e with tag := 64 + e.id, alert := false } else e

/-- A port has just been disabled from the other: its operations end or complete unread, its entries and its
request memory are freed (R27). The caller has set ENABLE to 0. An operation that has committed keeps its entry and not
its tag. -/
def State.portOff (s : State) (p : HostPort) : State :=
  let s := s.withdrawAll [p] 3
  let s := { s with hopper := { s.hopper with
    ops := (s.hopper.ops.filter fun (e : Op) => e.port != p || e.stage != OpStage.replied).map (Op.orphan p) } }
  s.modPort p fun a => { a with build := [], written := 0, waiting := [], replies := [], readPos := 0 }

/-- ABORT's target: the operation of its own port that holds the tag. -/
def State.abortTarget (s : State) (e : Op) : Option Op :=
  s.hopper.ops.find? fun x => x.port == e.port && x.tag == byteAt e.payload 0 && x.id != e.id

/-- ABORT (R360, R361): decided at once. -/
def opAbort (e : Op) (s : State) : State :=
  let p := e.payload
  let tag := byteAt p 0
  if p.length ≠ 4 then s.fail e stBAD_LENGTH 1
  else if tag ≥ 64 || !zeros p 1 3 then s.fail e stBAD_PARAM 2
  else match s.abortTarget e with
  | none => s.fail e stBAD_PARAM 3
  | some x =>
    if x.aborted then s.fail e stBUSY 4
    else if x.stage == .committed || x.stage == .replied then
      s.reply e stDONE_BEFORE 0 (leBytes 1 tag ++ [0, 0, 0])
    else (s.withdraw x 1).ok e (leBytes 1 tag ++ [0, 0, 0])

/-- STATE of Table 14-6. -/
def stageCode : OpStage → Nat
  | .queued => 1
  | .running => 2
  | .committed => 3
  | .replied => 4

/-- RESULT_POLL (R362). It finds itself RUNNING. -/
def opResultPoll (e : Op) (s : State) : State :=
  let p := e.payload
  let tag := byteAt p 0
  if p.length ≠ 4 then s.fail e stBAD_LENGTH 1
  else if tag ≥ 64 || !zeros p 1 3 then s.fail e stBAD_PARAM 2
  else match s.hopper.ops.find? fun x => x.port == e.port && x.tag == tag with
  | none => s.ok e (leBytes 1 tag ++ List.replicate 7 0)
  | some x => s.ok e (leBytes 1 tag ++ leBytes 1 (if x.id = e.id then 2 else stageCode x.stage) ++ leBytes 1 x.opcode ++ leBytes 1 x.prio ++
      leBytes 4 ((s.time.tick - x.tick) / 1000 : Nat))

/-! ## Banks of firmware (R401, R411) -/

/-- Bank states (Table 16-1). -/
abbrev bkEMPTY : Int := 0
abbrev bkWRITING : Int := 1
abbrev bkSTAGED : Int := 2
abbrev bkTRIAL : Int := 3
abbrev bkGOOD : Int := 4
abbrev bkFAILED : Int := 5

/-- UPD_STATE values (Table 16-9). -/
abbrev upIDLE : Int := 0
abbrev upOPEN : Int := 1
abbrev upCLOSING : Int := 2
abbrev upSTAGED : Int := 3
abbrev upSCHEDULED : Int := 4
abbrev upACTIVATING : Int := 5
abbrev upTRIAL : Int := 6

/-- UPD_STATE. -/
def State.updState (s : State) : Int := s.par oUpdater Pid.Updater.UPD_STATE

/-- A bank's state. -/
def State.bank (s : State) (b : Nat) : Int := s.par oUpdater (bankPid b)

/-- Set a bank's state: a write of its record, which takes a slot of its pair (R401, R280). -/
def State.setBank (s : State) (b : Nat) (v : Int) : State :=
  if s.bank b == v then s
  else
    let s := s.journalWrite (jrBank b)
    let l := (jrBank b, s.time.tick) :: s.nvm.written.filter fun e => e.1 != jrBank b
    { s with nvm := { s.nvm with written := l } : State }.setPar oUpdater (bankPid b) v

/-- RUNNING_BANK. -/
def State.runningBank (s : State) : Nat := (s.par oUpdater Pid.Updater.RUNNING_BANK).toNat

/-- UPD_STATE with no session, schedule or trial: STAGED where a close has staged the other bank. -/
def State.updRest (s : State) : State :=
  s.setPar oUpdater Pid.Updater.UPD_STATE (if s.upd.stagedOk then upSTAGED else upIDLE)

/-- A LIFE_CYCLE record of the updater: the bank and LAST_UPD_RESULT. -/
def State.updRecord (s : State) (kind bank port : Nat) : State :=
  s.lifeRecord oUpdater kind bank (s.par oUpdater Pid.Updater.LAST_UPD_RESULT) port

/-- The check-in timer starts or starts again (R410, R411). -/
def State.startCheckin (s : State) : State :=
  { s with upd := { s.upd with checkin := some s.time.tick, checkinAsked := false } }

/-- A trial fails: its bank is FAILED, and the STAGED fallback runs next, as a trial of its own (R411). With no
fallback the bank goes on running (log entry 19). -/
def State.trialFail (s : State) : State :=
  let b := s.runningBank
  let s := (s.setBank b bkFAILED).incPar oUpdater Pid.Updater.TRIAL_FAILS
  let s := s.updRecord 0x06 b 0
  let s := { s with upd := { s.upd with checkin := none, checkinAsked := false, stagedOk := false }
                    nvm := { s.nvm with queue := s.nvm.queue.filter fun r => r.work != NvmWork.good } }
  let s := s.setPar oUpdater Pid.Updater.CHECKIN_LEFT 0
  if s.bank (1 - b) == bkSTAGED then
    let s := (s.setBank (1 - b) bkTRIAL).setPar oUpdater Pid.Updater.RUNNING_BANK (1 - b : Nat)
    (s.setPar oUpdater Pid.Updater.UPD_STATE upTRIAL).startCheckin
  else s.setPar oUpdater Pid.Updater.UPD_STATE upIDLE

/-! ## The restart (R20) -/

/-- Restart causes (Table 1-9). -/
abbrev lrACTIVATION : Nat := 1
abbrev lrLOCKSTEP : Nat := 2
abbrev lrWATCHDOG : Nat := 3
abbrev lrMEMORY : Nat := 4
abbrev lrPOWER_ON : Nat := 5

/-- Host tests that are QUEUED or RUNNING become ABANDONED (R345). -/
def State.abandonTests (s : State) : State :=
  { s with dresser := { s.dresser with
    granted := none
    tests := s.dresser.tests.map fun (t : HostTest) =>
      if t.state ≤ 1 then { t with state := 5, endTick := s.time.tick } else t } }

/-- Lanes in TEST return to service. -/
def State.lanesReturn (s : State) : State :=
  s.eachOf ((List.range 4).filter fun l => s.lane l == 1) fun l s => s.setLane l 0

/-- A level 3 restart begins, or begins again for a further cause (R20). -/
def State.l3Restart (s : State) (cause : Nat) : State :=
  let s := (s.setPar oDevice Pid.Device.L3_RESTART_CAUSE cause).incPar oDevice Pid.Device.L3_RESTART_COUNT
  let n := (s.par oDevice Pid.Device.L3_RESTART_COUNT).toNat
  let again := s.miller.restarting
  let s := if !again then (s.flumeStop fcL3_RESTART).withdrawAll [.ha, .hb] 2 else s
  let s := s.abandonTests.lanesReturn
  let s := { s with miller := { s.miller with restarting := true, causes := s.miller.causes ++ [(cause, n)] } }
  if s.updState == upTRIAL && cause != lrACTIVATION then s.trialFail else s

/-! ## Entry to STARTUP (R31) and power-on (R249, R259) -/

/-- STARTUP is entered at the end of the restart that follows a power-on request (R31). On return from WATCH every module is
identified and authenticated again (R286). -/
def State.startupAgain (s : State) : State :=
  let s := if s.deviceMode == 2 then s.authAll else s
  let s := (s.enterShelf ssStartup scPOWER_ON).setPar oDevice Pid.Device.DEVICE_MODE 0
  let s := { s with shelf := { s.shelf with
    mismatchSeen := s.par oShelf Pid.Shelf.ID_MISMATCH == 1, configApplied := false, confirmHeld := false } }
  let s := s.modSeq fun q => { q with brake := none, pfwLow := false, pfwRunning := false, complete := false,
                                      powerOn := false }
  s.askOnce .config .choldTest 1

/-- The restart that follows a power-on request in BRAKING. An attached unit at 31 first sends a request pulse, once the line rests high
(R253, R259); a pulse that it is driving already, or a step out of 31 that comes first, satisfies the request (R253). -/
def State.powerOnNow (s : State) : State :=
  if !s.seq.attached then (s.modSeq fun q => { q with powerOn := false }).l3Restart lrPOWER_ON
  else if s.seq.pulse != .none then s.modSeq fun q => { q with powerOn := false }
  else if s.restsAt 31 && !s.seq.lineLow then (s.modSeq fun q => { q with powerOn := false }).cogPulse .request
  else s.modSeq fun q => { q with powerOn := true }

/-- A power-on request: its RESULT (R259). -/
def State.powerOnRequest (s : State) : Nat × State :=
  if s.shelfState == ssBraking && s.seq.complete then (0, s.powerOnNow)
  else if s.seq.brake.isSome && !s.thermalLatched then (1, s.modSeq fun q => { q with powerOn := true })
  else (2, s)

/-- A power-on request that waited for the Brake sequence is taken at its completion (R249). -/
def State.powerOnDue (s : State) : State :=
  if s.seq.powerOn && s.seq.complete && s.shelfState == ssBraking then s.powerOnNow else s

/-- L3_RESTART: a cause of a level 3 restart (R20). Activation and power-on begin theirs themselves. -/
def execL3Restart (cause : Byte) (s : State) : Host.Outcome State Fault Refusal :=
  if s.running && cause.toNat ≥ 1 && cause.toNat ≤ 5 then .next (s.l3Restart cause.toNat) else .next s

/-- One put-off transition (R35): BRAKING and THERMAL_LATCHED have come before it. -/
def State.takeShift (s : State) (p : PendingShift) : State :=
  match p with
  | .toState new cause =>
    if s.shelfState == ssBraking || s.thermalLatched || s.shelfState == (new : Nat) then s
    else s.enterShelf (new : Nat) cause

/-- The packets that waited for the end of a restart are checked and queued (R363). -/
def State.takeWaiting (s : State) (p : HostPort) : State :=
  let l := (s.port p).waiting
  let s := s.modPort p fun a => { a with waiting := [] }
  l.foldl (fun s w => s.submitBytes p w.1 w.2) s

/-- The records of the restart's causes, then those that waited for its end (R20, R319). -/
def State.restartRecords (s : State) : State :=
  let l := s.miller.causes
  let s := { s with miller := { s.miller with causes := [] } }
  let s := l.foldl (fun s c => s.createRec oDevice rcState 0x21 true [.lit c.1, .lit c.2]) s
  s.flushRecords false

/-- L3_RESTART_END: the restart ends within 300 ms (R20). -/
def execL3RestartEnd (s : State) : Host.Outcome State Fault Refusal :=
  if !s.running || !s.miller.restarting then .next s
  else
    let powerOn := s.miller.causes.any fun c => c.1 == lrPOWER_ON
    let s := { s with miller := { s.miller with restarting := false } }
    let s := s.restartRecords
    let l := s.miller.shifts
    let s := { s with miller := { s.miller with shifts := [] } }
    let s := l.foldl (fun s p => s.takeShift p) s
    let s := if powerOn && s.shelfState == ssBraking then s.startupAgain else s
    let s :=
      if s.seq.workDue && s.shelfState != ssStartup then
        (s.modSeq fun q => { q with workDue := false }).beginWork s.seqState
      else s
    .next ((s.takeWaiting .ha).takeWaiting .hb)

/-- SEQ_POWER_ON (R259). -/
def opSeqPowerOn (e : Op) (s : State) : State :=
  if e.payload.length ≠ 0 then s.fail e stBAD_LENGTH 1
  else if s.thermalLatched then s.fail e stLOCKED 2
  else
    let s := s.opCommit e.id
    let (r, _) := s.powerOnRequest
    let s := s.ok e (leBytes 1 r ++ leBytes 1 s.seqState ++ [0, 0])
    s.powerOnRequest.2

end Sys2Proof.Machine
end

