-- ==== Sys2Proof/Machine/Dresser.lean ====
section
/-! DEFINITION. Dresser: the symbol code, memory and logic slices, lane tests, repairs, host tests, and the loss of
an engine memory word (R85, R89, R332 to R346). -/

namespace Sys2Proof.Machine

/-! ## DRESSER_STATUS and its parameters (Tables 13-8 to 13-10) -/

/-- Sticky bits of DRESSER_STATUS. -/
abbrev drSPARES_EXHAUSTED : Nat := 2
abbrev drLOGIC_FAIL : Nat := 3
abbrev drLANE_FAIL : Nat := 4
abbrev drMEM_FAIL : Nat := 5
abbrev drUNCORRECTABLE : Nat := 6
abbrev drFULL_TEST_DONE : Nat := 7

/-- Set a sticky bit of DRESSER_STATUS. -/
def State.dresserBit (s : State) (bit : Nat) : State := s.setBit oDresser Pid.Dresser.DRESSER_STATUS bit

/-- Change Dresser's own state. -/
def State.modDresser (s : State) (g : DresserState → DresserState) : State := { s with dresser := g s.dresser }

/-- The LAST_ERROR layout (Table 13-9). -/
def lastError (kind codeword symbol bit : Nat) : Nat :=
  kind * 1073741824 + bit * 134217728 + symbol * 2097152 + codeword

/-- A DRESSER record (Table 12-3). -/
def State.dresserRecord (s : State) (snap : List Snap) : State := s.record oDresser rcFault 0x0D snap

/-- Codewords of an array (Table 13-1). -/
def codewordsOf (arr : Nat) : Nat :=
  match arr with
  | 0 => 32768 | 1 => 8192 | 2 => 8192 | 3 => 196608 | 4 => 512 | _ => 128

/-- Codewords in one row of an array (Table 13-1). -/
def rowCodewords (arr : Nat) : Nat :=
  match arr with
  | 0 | 1 | 2 => 32
  | 3 => 64
  | _ => 8

/-- The data byte of its array that a data symbol of a codeword holds (R332). -/
def symbolByte (codeword symbol : Nat) : Nat := codeword * 32 + symbol

/-- The spare row of its array onto which a boot maps a repaired row: the next one for each valid entry, in their order (R337). -/
def State.spareRow (s : State) (arr row : Nat) : Option Nat :=
  (((s.life.repairs.filter fun e => e.1 == arr).eraseDups.zipIdx.find? fun e => e.1.2 == row).map (·.2))

/-- Slices of an array that is slice-tested online (R335). -/
def slicesOf (arr : Nat) : Nat := codewordsOf arr / 8

/-! ## The loss of an engine memory word (R89) -/

/-- The BANK record (Table 12-3). -/
def State.bankRecord (s : State) (n : Nat) : State :=
  s.record (oLoop n) rcFault 0x0F [.par (oLoop n) Pid.Phase.LOOP_STATUS, .par (oLoop n) Pid.FAULT_LATCH,
    .par (oLoop n) Pid.Phase.ACTIVE_BANK]

/-- A loop fails with LOOP_FAULT: a phase is removed as a failed phase; an outer loop becomes FAILED and its
phases wait. -/
def State.loopFault (s : State) (n : Nat) : State :=
  let o := oLoop n
  if n < 24 then
    let s := (s.stopPhase n).modPhase n fun a => { a with reefed := false, notice := true }
    (((s.setObj o osFailed).latchFault o [flType 0]).phaseRemoved n).bankRecord n
  else
    let s := (s.setObj o osFailed).latchFault o [flType 0]
    let s := s.eachOf (s.maskPhases (n - 24)) fun p s =>
      let s := s.stopPhase p
      if s.objSt (oPhase p) == osStarting || s.objSt (oPhase p) == osActive then
        s.setObj (oPhase p) osWaiting
      else s
    s.bankRecord n

/-- An uncorrectable word of a bank: 0, 1, or 2 for the FLOAT image. A swap pending to an inactive bank completes
without its being used (Table 3-16). -/
def State.bankBad (s : State) (n k : Nat) : State :=
  let mark (a : LoopAux) : LoopAux := if k = 0 then { a with bad0 := true } else { a with bad1 := true }
  if k = s.activeBank n then (s.modLoop n mark).loopFault n
  else if k < 2 && s.swapPending n then ((s.loopSwap n).modLoop n mark).loopFault n
  else (s.modLoop n fun a => a.setBank k none).bankRecord n

/-! ## Repairs (R338) -/

/-- A hard failure of a codeword queues a repair of its row, once; a ninth row of an array is not repaired. -/
def State.queueRepair (s : State) (arr codeword : Nat) : State :=
  let row := codeword / rowCodewords arr
  let s := s.modDresser fun d => { d with hardWords := (arr, codeword) :: d.hardWords }
  let rows := (s.life.repairs ++ s.dresser.repairs.filter fun e => !s.life.repairs.contains e).filter
    fun e => e.1 == arr
  if s.dresser.repairs.contains (arr, row) then s
  else if rows.length ≥ 8 then s.dresserBit drSPARES_EXHAUSTED
  else (s.modDresser fun d => { d with repairs := d.repairs ++ [(arr, row)] }).askNvm .config
    (.repair arr row) 1 none

/-- A repair entry has been programmed into OTP. -/
def State.repairCommit (s : State) (arr row : Nat) : State :=
  ({ s with life := { s.life with repairs := s.life.repairs ++ [(arr, row)] } : State }.incPar
    oDresser (Pid.Dresser.SPARES_USED + arr))

/-! ## Codewords (R332 to R334) -/

/-- Records lost: LOST_RECORDS, the sticky LOST and one LOST record (R323). -/
def State.lostRun (s : State) (n lo hi : Nat) : State :=
  ((s.addPar oGrist Pid.Grist.LOST_RECORDS n).setBit oGrist Pid.Grist.GRIST_STATUS 2).record
    oGrist rcRecorder 0xF1 [.lit n, .lit lo, .lit hi]

/-- The circular area's descriptor has failed: it is rebuilt from the mirror, and the unmirrored records are
lost (R321). -/
def State.rebuildArea (s : State) : State :=
  let lost := s.unmirrored
  let kept := s.grist.circ.filter fun r => s.nvm.mirror.any fun x => x.gen == r.gen
  let s := { s with grist := { s.grist with circ := kept } }
  let s := (s.setBit oGrist Pid.Grist.GRIST_STATUS 6).gristParams
  match lost, lost.getLast? with
  | r :: _, some x => s.lostRun lost.length r.gen x.gen
  | _, _ => s

/-- A record of the circular area is lost with its slot (Table 13-2). -/
def State.loseSlot (s : State) (gen : Nat) : State :=
  if s.grist.circ.any fun r => r.gen == gen then
    let s := { s with grist := { s.grist with circ := s.grist.circ.filter fun r => r.gen != gen } }
    s.gristParams.lostRun 1 gen gen
  else s

/-- KEY_STATUS as the slots stand. -/
def State.keyStatus (s : State) : State :=
  s.setPar oLife Pid.LifeCycle.KEY_STATUS
    (if s.life.killed then 0
     else bitsOf ((List.range 5).map fun i => (i, (vget s.life.keys i none).isSome)))

/-- A copy of the life-cycle word is uncorrectable: FIELD governs once none of the three is valid (R420). -/
def State.loseCopy (s : State) (c : Nat) : State :=
  let l := c :: s.life.badCopies.filter fun x => x != c
  let s := { s with life := { s.life with badCopies := l } }
  if l.length ≥ 3 then s.setPar oLife Pid.LifeCycle.LC_STATE 2 else s

/-- A channel's factory trim is uncorrectable: its factory values are those of no trim (R420). -/
def State.loseTrim (s : State) (o : Nat) : State :=
  ((s.setPar o pGainFactory 0x40000000).setPar o pOffsetFactory 0).setObj oDevice osDegraded

/-- What an uncorrectable codeword does by its array and place (Table 13-2). What a boot reads acts at the boot
(log entry 20). -/
def State.uncorrectableAct (s : State) (u : CodewordUse) : State :=
  match u with
  | .gristSlot gen => s.loseSlot gen.toNat
  | .gristDescriptor => s.rebuildArea
  | .processorWord => s.l3Restart lrMEMORY
  | .loopBank l k => s.bankBad l.val k.val
  | .loopHistory l => s.loopFault l.val
  | .firstAreaCopy => s
  | .gristBuffer => s
  | .tailraceStore =>
    if s.traceState == tsIDLE then s else s.setPar oDevice Pid.Device.TAILRACE_STATE tsSTOPPED
  | .journalSlot r slot => s.journalLose (recordNo r) slot.val
  | .mramOther => s
  | .repairEntry => { s with life := { s.life with repairs := s.life.repairs.dropLast } }
  | .lifeCopy c => s.loseCopy c.val
  | .keySlot k =>
    { s with life := { s.life with keys := vmod s.life.keys k.val fun _ => none } : State }.keyStatus
  | .trim c => s.loseTrim (sarObjects.getD c.val (oSeg 0))
  | .otpOther => s
  | .retention c => { s with supply := { s.supply with retentionBad := s.supply.retentionBad ||| BitVec.ofNat 4 (2 ^ c.val) } }

/-- An uncorrectable codeword (R334). -/
def State.uncorrectable (s : State) (arr codeword symbol bit : Nat) (u : CodewordUse) : State :=
  let s := s.setPar oDresser (Pid.Dresser.LAST_ERROR + arr) (lastError 2 codeword symbol bit)
  let s := (s.incPar oDresser (Pid.Dresser.UNCORR_COUNT + arr)).dresserBit drUNCORRECTABLE
  let s := s.dresserRecord [.par oDresser (Pid.Dresser.LAST_ERROR + arr), .lit (codeword / 8 : Nat)]
  let s := if arr = 3 then { s with nvm := { s.nvm with bad := codeword :: s.nvm.bad.filter fun c => c != codeword } }
    else s
  s.uncorrectableAct u

/-- The kind under which a rewrite of an MRAM codeword is ordered: that of the region it lies in (R333,
Table 10-7). -/
def rewriteKind (codeword : Nat) : NvmKind :=
  let a := codeword * 32
  if a < 0x400000 then .update
  else if a < 0x480000 then .mirror
  else if a < 0x490000 then .battery
  else if a < 0x4A0000 then .config
  else .counters

/-- A codeword corrected in two passes in a row is a hard fault: its SRAM slice goes to the head of the rotation,
and a repair is queued (R333, R338). In MRAM it is reported as a test failure. -/
def State.hardCodeword (s : State) (arr codeword symbol bit : Nat) : State :=
  let s :=
    if arr ≤ 2 then
      s.modDresser fun d => { d with hard := (arr, codeword / 8) :: d.hard.filter fun e => e != (arr, codeword / 8) }
    else if arr = 3 then
      (s.setPar oDresser (Pid.Dresser.LAST_ERROR + arr) (lastError 3 codeword symbol bit)).dresserRecord
        [.par oDresser (Pid.Dresser.LAST_ERROR + arr), .lit (codeword / 8 : Nat)]
    else s
  s.queueRepair arr codeword

/-- A corrected codeword (R333). One whose repair is pending is not counted again (R338). -/
def State.corrected (s : State) (arr codeword symbol bit : Nat) : State :=
  let s := s.setPar oDresser (Pid.Dresser.LAST_ERROR + arr) (lastError 1 codeword symbol bit)
  if s.dresser.hardWords.contains (arr, codeword) then s
  else
    let s := s.incPar oDresser (Pid.Dresser.CORR_COUNT + arr)
    let s := if arr = 3 then s.askNvm (rewriteKind codeword) .rewrite 1 none else s
    if s.dresser.corrected.contains (arr, codeword) then s.hardCodeword arr codeword symbol bit
    else s.modDresser fun d => { d with corrected := (arr, codeword) :: d.corrected }

/-- SCRUB_CODEWORD: the scrubber reads one codeword (R333, R334). -/
def execScrubCodeword (arr : Fin 6) (codeword : BitVec 18) (u : CodewordUse) (x : CodewordRead) (s : State) :
    Host.Outcome State Fault Refusal :=
  let arr := arr.val
  let c := codeword.toNat
  if !s.running || c ≥ codewordsOf arr then .next s
  else
  let s := if arr = 3 then { s with nvm := { s.nvm with bad := s.nvm.bad.filter fun k => k != c } } else s
  match x with
  | .clean => .next (s.modDresser fun d => { d with corrected := d.corrected.filter fun e => e != (arr, c) })
  | .corrected sy b => .next (s.corrected arr c sy.val b.val)
  | .uncorrectable sy b => .next (s.uncorrectable arr c sy.val b.val u)

/-! ## Host tests (R341, R343 to R345) -/

/-- The units of a host test. -/
def testUnits (t : HostTest) : Nat :=
  match t.kind with
  | 0 => slicesOf t.target
  | 1 => if t.target = 0xFF then 6 else 1
  | _ => 1

/-- The item that a host test wants next. -/
def testItem (t : HostTest) : DresserItem :=
  match t.kind with
  | 0 => .slice t.target t.units
  | 1 => .logic (if t.target = 0xFF then t.units else t.target)
  | _ => .lane t.target

/-- The head of the host queue. -/
def State.hostHead (s : State) : Option HostTest := s.dresser.tests.find? fun t => decide (t.state ≤ 1)

/-- One unit of the host test at the head has completed, where the item is its own; its first failure is kept. -/
def State.hostUnit (s : State) (item : DresserItem) (failed : Bool) (first actual unit : Nat) : State :=
  match s.hostHead with
  | none => s
  | some t =>
    if testItem t != item || t.state != 1 then s
    else
      let t' := { t with
        units := t.units + 1
        fails := t.fails + if failed then 1 else 0
        firstFail := if failed && t.fails == 0 then first else t.firstFail
        actual := if failed && t.fails == 0 then actual else t.actual
        failUnit := if failed && t.fails == 0 then unit else t.failUnit }
      let t' := if t'.units < testUnits t' then t'
        else { t' with state := if t'.fails = 0 then 2 else 3, endTick := s.time.tick }
      s.modDresser fun d => { d with tests := d.tests.map fun x => if x.id == t.id then t' else x }

/-! ## What is due (R341) -/

/-- The head of the host queue, where its item can run: a lane test waits while a lane is out of service (R85). -/
def State.hostReady (s : State) : Option HostTest :=
  s.hostHead.bind fun t => if t.kind == 2 && s.lanesInService != 4 then none else some t

/-- The item due first: a SUSPECT lane, a retest, the host queue's head, a lane, a logic slice, a hard-fault
slice, the next slice of the rotation. -/
def State.dresserDue (s : State) : DresserItem :=
  let d := s.dresser
  let now := s.time.tick
  match (List.range 4).find? fun l => s.lane l == 2 with
  | some l => .lane l
  | none =>
    match d.retest, d.logicRetest, s.hostReady with
    | (e, _) :: _, _, _ => .slice e.1 e.2
    | [], k :: _, _ => .logic k
    | [], [], some t => testItem t
    | [], [], none =>
      if s.lanesInService = 4 &&
          decide ((now : Int) ≥ d.lastLane + s.par oDresser Pid.Dresser.LANE_TEST_INTERVAL) then
        .lane d.nextLane
      else if (now : Int) ≥ d.lastLogic + s.par oDresser Pid.Dresser.LOGIC_TEST_INTERVAL then .logic d.nextLogic
      else match d.hard with
      | e :: _ => .slice e.1 e.2
      | [] => .slice d.nextArr (vget d.nextIdx d.nextArr 0)

/-- The rotation moves on from a slice that it gave. -/
def State.rotate (s : State) (arr idx : Nat) : State :=
  s.modDresser fun d =>
    if d.nextArr = arr && vget d.nextIdx arr 0 = idx then
      { d with nextArr := (arr + 1) % 3, nextIdx := vmod d.nextIdx arr fun i => (i + 1) % slicesOf arr }
    else d

/-- Fantail grants an item (R228): a host test that it belongs to has started. -/
def State.dresserGrant (s : State) (item : DresserItem) : State :=
  let s := match s.hostHead with
    | some t =>
      if testItem t == item && t.state == 0 then
        s.modDresser fun d => { d with tests := d.tests.map fun (x : HostTest) =>
          if x.id == t.id then { x with state := 1, startTick := s.time.tick } else x }
      else s
    | none => s
  s.modDresser fun d => { d with granted := some item }

/-! ## Memory slices (R335, R336) -/

/-- A slice leaves the retest list. -/
def State.retestDone (s : State) (arr idx : Nat) : State :=
  s.modDresser fun d => { d with retest := d.retest.filter fun e => e.1 != (arr, idx) }

/-- The record of a slice's outcome (R336). -/
def State.sliceRecord (s : State) (arr idx : Nat) : State :=
  s.dresserRecord [.par oDresser (Pid.Dresser.LAST_ERROR + arr), .lit idx]

/-- A slice has been tested: the counts, the rotation and PASS_TICK. -/
def State.sliceCount (s : State) (arr idx : Nat) : State :=
  let s := s.incPar oDresser Pid.Dresser.SLICES_DONE
  let s := s.modDresser fun d => { d with granted := none, hard := d.hard.filter fun e => e != (arr, idx) }
  let last := s.dresser.nextArr == arr && vget s.dresser.nextIdx arr 0 == idx && idx + 1 == slicesOf arr
  let s := s.rotate arr idx
  if last then s.setPar oDresser (Pid.Dresser.PASS_TICK + arr) s.time.tick else s

/-- A cell of a slice fails the march: the slice is tested again, and the same failure twice is hard. -/
def State.sliceFails (s : State) (arr idx codeword symbol bit : Nat) : State :=
  let err := lastError 3 codeword symbol bit
  let s := (s.setPar oDresser (Pid.Dresser.LAST_ERROR + arr) err).dresserBit drMEM_FAIL
  let again := s.dresser.retest.any fun e => e.1 == (arr, idx)
  let s :=
    if s.dresser.retest.any fun e => e == ((arr, idx), err) then
      (s.retestDone arr idx).queueRepair arr codeword
    else (s.retestDone arr idx).modDresser fun d => { d with retest := d.retest ++ [((arr, idx), err)] }
  let s := s.sliceRecord arr idx
  if again then s else s.hostUnit (.slice arr idx) true err 0 idx

/-- MEMORY_SLICE_TEST: a granted slice is saved, marched, restored and judged (R335, R336). -/
def execMemorySliceTest (arr : Fin 3) (slice : BitVec 12) (u : CodewordUse) (x : SliceResult) (s : State) :
    Host.Outcome State Fault Refusal :=
  let arr := arr.val
  let idx := slice.toNat
  if !s.running || s.dresser.granted != some (.slice arr idx) then .next s
  else
    let again := s.dresser.retest.any fun e => e.1 == (arr, idx)
    let s := s.sliceCount arr idx
    match x with
    | .pass =>
      if again then .next ((s.retestDone arr idx).sliceRecord arr idx)
      else .next (s.hostUnit (.slice arr idx) false 0 0 idx)
    | .failCell c sy b => .next (s.sliceFails arr idx c.toNat sy.val b.val)
    | .uncorrectable c sy b =>
      let s := s.dresserBit drMEM_FAIL
      let s := s.hostUnit (.slice arr idx) true (lastError 2 c.toNat sy.val b.val) 0 idx
      .next (s.uncorrectable arr c.toNat sy.val b.val u)

/-! ## Logic slices (R339) -/

/-- Is a packet in transfer on a host port: part of one written, or part of a reply read? -/
def State.portBusy (s : State) (p : HostPort) : Bool := !(s.port p).build.isEmpty || (s.port p).readPos != 0

/-- Is the block of a logic slice idle (Table 13-3)? A packet or block is checked, and a downstream frame sent, within one command, so
slices 1 and 3 find theirs idle. -/
def State.logicIdle (s : State) (k : Nat) : Bool :=
  match k with
  | 0 => s.auths.isEmpty && s.upd.closing.isNone
  | 2 => s.nvm.active.isNone
  | 4 => !s.portBusy .ha && !s.portBusy .hb
  | 5 => !s.saveArmedNow || !s.supply.sag
  | _ => true

/-- LOGIC_SLICE_TEST: a granted logic slice is scanned and its signature compared, while its block is idle. -/
def execLogicSliceTest (slice : Fin 6) (expected read : Word) (s : State) : Host.Outcome State Fault Refusal :=
  let k := slice.val
  if !s.running || s.dresser.granted != some (.logic k) || !s.logicIdle k then .next s
  else
    let again := s.dresser.logicRetest.contains k
    let s := s.modDresser fun d => { d with
      granted := none
      logicRetest := d.logicRetest.filter fun j => j != k
      lastLogic := if again then d.lastLogic else s.time.tick
      nextLogic := if d.nextLogic = k then (k + 1) % 6 else d.nextLogic }
    if expected = read then
      let s := if k = 5 then { s with supply := { s.supply with unproven := false } } else s
      .next (s.hostUnit (.logic k) false 0 0 k)
    else if again then
      let s := (s.dresserBit drLOGIC_FAIL).dresserRecord [.lit k, .lit expected.toNat, .lit read.toNat]
      let s := if k = 5 then { s with supply := { s.supply with unproven := true } } else s
      .next (s.hostUnit (.logic k) true expected.toNat read.toNat k)
    else .next (s.modDresser fun d => { d with logicRetest := d.logicRetest ++ [k] })

/-! ## Lanes (R85 to R87, R340) -/

/-- LANE_WITHDRAWAL: at Dresser's request a lane is withdrawn, only while all four are IN_SERVICE (R85). -/
def execLaneWithdrawal (lane : Fin 4) (s : State) : Host.Outcome State Fault Refusal :=
  if s.running && s.dresser.granted == some (.lane lane.val) && s.lanesInService == 4 then
    .next (s.setLane lane.val 1)
  else .next s

/-- LANE_TEST: the signature of a withdrawn or SUSPECT lane is compared (R86, R340). A SUSPECT lane that had a
residue error within the previous 24 h becomes FAILED. -/
def execLaneTest (lane : Fin 4) (expected read : Word) (s : State) : Host.Outcome State Fault Refusal :=
  let l := lane.val
  if !s.running || s.dresser.granted != some (.lane l) || (s.lane l != 1 && s.lane l != 2) then .next s
  else
    let bad := expected != read
    let fails := bad || (s.lane l == 2 && vget s.wheel.again l false)
    let s := s.modDresser fun d => { d with
      granted := none, lastLane := s.time.tick
      nextLane := if d.nextLane = l then (l + 1) % 4 else d.nextLane }
    let s := { s with wheel := { s.wheel with again := vmod s.wheel.again l fun _ => false } }
    let s := (s.incPar oDresser Pid.Dresser.LANE_TESTS).setLane l (if fails then 3 else 0)
    let s :=
      if fails then
        (s.dresserBit drLANE_FAIL).dresserRecord [.lit l, .lit expected.toNat, .lit read.toNat]
      else s
    .next (s.hostUnit (.lane l) fails expected.toNat read.toNat l)

/-! ## BIST_REQUEST and BIST_RESULT -/

/-- The conditions of the full test (R342). -/
def State.fullReady (s : State) : Bool :=
  ((List.range 24).all fun p => !(s.phase p).switching) &&
    ((List.range 16).all fun f => !(s.feeder f).gate) &&
    ((List.range 4).all fun k => !(s.str k).connected) && s.nvm.active.isNone

/-- Is TARGET in range for a KIND (Table 13-5)? -/
def targetOk (kind target : Nat) : Bool :=
  match kind with
  | 0 => decide (target ≤ 2)
  | 1 => decide (target ≤ 5) || target == 0xFF
  | 2 => decide (target ≤ 3)
  | 3 | 4 => target == 0
  | _ => false

/-- BIST_REQUEST's own checks (R343). -/
def State.bistCheck (s : State) (p : Bytes) : Option (Nat × Nat) :=
  let kind := byteAt p 0
  let live := s.dresser.tests.filter fun t => decide (t.state ≤ 1)
  if p.length ≠ 8 then some (stBAD_LENGTH, 1)
  else if !zeros p 2 2 || (kind != 4 && !zeros p 4 4) then some (stBAD_PARAM, 2)
  else if !targetOk kind (byteAt p 1) then some (stRANGE, 3)
  else if s.thermalLatched then some (stLOCKED, 4)
  else if kind = 4 && !live.any (fun t => t.id == fieldU p 4 4) then some (stBAD_PARAM, 5)
  else if kind != 4 && live.length ≥ 4 then some (stBUSY, 6)
  else if kind = 3 && s.shelfState != ssMaint then some (stREFUSED, frSHELF_STATE)
  else if (kind = 3 && !s.fullReady) || (kind = 2 && s.lanesNotFailed ≤ 3) then some (stREFUSED, frPRECONDITION)
  else none

/-- The payload of Table 13-6. -/
def bistPayload (id retry : Nat) : Bytes := leBytes 4 id ++ leBytes 2 retry ++ [0, 0]

/-- A CANCEL (R344): a slice under test completes; a withdrawn lane returns. -/
def State.bistCancel (s : State) (id : Nat) : State :=
  let lane := match s.dresser.tests.find? fun t => t.id == id, s.dresser.granted with
    | some t, some (.lane l) => if t.kind = 2 && t.target = l && t.state = 1 then some l else none
    | _, _ => none
  let s := s.modDresser fun d => { d with tests := d.tests.map fun (t : HostTest) =>
    if t.id == id then { t with state := 4, endTick := s.time.tick } else t }
  match lane with
  | some l =>
    let s := s.modDresser fun d => { d with granted := none }
    if s.lane l == 1 then s.setLane l 0 else s
  | none => s

/-- BIST_REQUEST (R343, R344). A FULL request is committed at acceptance (R342). -/
def opBistRequest (e : Op) (s : State) : State :=
  let p := e.payload
  match s.bistCheck p with
  | some (st, c) => s.reply e st c (if st = stREFUSED then bistPayload 0 0 else [])
  | none =>
    match byteAt p 0 with
    | 4 => (s.bistCancel (fieldU p 4 4)).ok e (bistPayload (fieldU p 4 4) 0)
    | 3 =>
      let s := s.record oDresser rcState 0x25 [.lit 0, .lit 0, .lit 0]
      (s.modDresser fun d => { d with fullPending := true }).ok e (bistPayload 0 0)
    | kind =>
      let id := seqAfter (s.par oDresser Pid.Dresser.LAST_TEST_ID).toNat
      let t : HostTest := { id := id, kind := kind, target := byteAt p 1, state := 0, startTick := 0,
                            endTick := 0, units := 0, fails := 0, firstFail := 0, actual := 0, failUnit := 0,
                            op := some e.id }
      let s := s.setPar oDresser Pid.Dresser.LAST_TEST_ID id
      (s.modDresser fun d => { d with tests := (d.tests ++ [t]).drop ((d.tests.length + 1) - 8) }).opRunning e

/-- The units that stand before a host test in the queue, one per tick. -/
def State.testsAhead (s : State) (id : Nat) : Nat :=
  ((s.dresser.tests.takeWhile fun t => t.id != id).filter fun t => decide (t.state ≤ 1)).foldl
    (fun a t => a + (testUnits t - t.units)) 0

/-- The first decision after acceptance is answered (R344): OK where the test has started; a new request in
BRAKING is refused (R238); otherwise DEFERRED with Fantail's reason and estimate, which with SLACK is the place in the
queue. -/
def State.bistReplies (s : State) (ids : List Nat) (reason : Option (Nat × Nat)) (refuse : Bool) : State :=
  (s.dresser.tests.filter fun t => t.op.isSome && ids.contains t.id).foldl (fun s t =>
    let s := s.modDresser fun d => { d with tests := d.tests.map fun (x : HostTest) =>
      if x.id == t.id then { x with op := none } else x }
    match t.op.bind s.opOf with
    | none => s
    | some e =>
      if t.state ≥ 1 && t.state ≤ 3 then s.ok e (bistPayload t.id 0)
      else match reason with
      | some (r, est) =>
        if refuse then
          (s.modDresser fun d => { d with tests := d.tests.filter fun x => x.id != t.id }).reply e stREFUSED r
            (bistPayload 0 0)
        else s.reply e stDEFERRED r (bistPayload t.id (if r = 0x05 then min 65534 (s.testsAhead t.id + 1) else est))
      | none => s.reply e stDEFERRED 0x04 (bistPayload t.id (min 65534 (s.testsAhead t.id)))) s

/-- BIST_RESULT (R345). -/
def opBistResult (e : Op) (s : State) : State :=
  let p := e.payload
  let id := fieldU p 0 4
  if p.length ≠ 4 then s.fail e stBAD_LENGTH 1
  else
    let t := if id = 0 then s.dresser.full else s.dresser.tests.find? fun t => t.id == id
    match t with
    | none => s.fail e stBAD_PARAM 2
    | some t => s.ok e (leBytes 4 id ++ leBytes 1 t.kind ++ leBytes 1 t.target ++ leBytes 1 t.state ++ [0] ++
        leBytes 8 t.startTick ++ leBytes 8 t.endTick ++ leBytes 4 t.units ++ leBytes 4 t.fails ++
        leBytes 4 t.firstFail ++ leBytes 4 t.actual ++ leBytes 4 t.failUnit)

end Sys2Proof.Machine
end

