-- ==== Sys2Proof/Machine/Save.lean ====
section
/-! DEFINITION. What the battery journal, the counter journal and a critical save hold (R54, R197, R275, R276). -/

namespace Sys2Proof.Machine

/-! ## Journal records -/

/-- The parameters of a module's record (Table 7-9). -/
def modulePids : List Nat :=
  [Pid.Module.SOH, Pid.Module.CAPACITY, Pid.Module.R_SER, Pid.Module.RC1_RES, Pid.Module.TAU1, Pid.Module.RC2_RES,
   Pid.Module.TAU2, Pid.Module.OCV_OFFSET, Pid.Module.LEARN_TICK, Pid.Module.LEARN_SOURCE, Pid.Module.MODEL_ID]

/-- Numbers past every parameter ID for what a record holds beyond the parameters. -/
abbrev xSERIAL : Nat := 0xF00
abbrev xANCHOR : Nat := 0xF01
abbrev xQ_ANCHOR : Nat := 0xF02
abbrev xFULL_TICK : Nat := 0xF03
abbrev xDSG_Q : Nat := 0xF04
abbrev xDSG_START : Nat := 0xF05
abbrev xFLAGS : Nat := 0xF06
abbrev xPOS : Nat := 0xF10
abbrev xNEG : Nat := 0xF11
abbrev xQ : Nat := 0xF12

/-- The record of a string (Table 7-10) and those of its modules. -/
def State.stringImage (s : State) (k : Nat) (l : List (Nat × Int)) : List (Nat × Int) :=
  let o := oString k
  let a := s.str k
  let put (pid : Nat) (v : Int) (l : List (Nat × Int)) := insertKey (keyOf o pid) v l
  let l := put Pid.String.SOC (s.par o Pid.String.SOC) l
  let l := put Pid.String.SOC_Q (s.par o Pid.String.SOC_Q) l
  let l := put Pid.String.SOH (s.par o Pid.String.SOH) l
  let l := put xANCHOR a.anchor (put xQ_ANCHOR a.qAnchor (put xFULL_TICK a.fullTick l))
  let l := put xDSG_Q (a.dsgQ - s.par o Pid.String.Q_NET) (put xDSG_START a.dsgStart l)
  let l := put xFLAGS (b2i a.fullSeen + 2 * b2i (s.par o Pid.String.MODEL_MODE == mmDISCHARGE)) l
  (s.modulesOf k).foldl (fun l m =>
    let l := modulePids.foldl (fun l pid => insertKey (keyOf (oModule m) pid) (s.par (oModule m) pid) l) l
    let l := insertKey (keyOf (oModule m) xFLAGS)
      (b2i (s.module m).stale + 2 * b2i (s.par (oModule m) Pid.Module.LEARN_SOURCE == 1)) l
    match (s.module m).recSerial with
    | some n => insertKey (keyOf (oModule m) xSERIAL) n l
    | none => l) l

/-! ## The battery journal's bytes (R198) -/

/-- Where a module's or a string's slots lie in the battery journal. -/
def moduleSlot (n slot : Nat) : Nat := n * 128 + slot * 64
def stringSlot (k slot : Nat) : Nat := 0x2000 + k * 128 + slot * 64

/-- A record of the battery journal: 60 bytes and their CRC. -/
def sealRecord (body : Bytes) : Bytes := body ++ leBytes 4 (crc32c body).toNat

/-- Table 7-9, from the values of a module's slot. -/
def moduleBytes (n : Nat) (d : SlotData) : Bytes :=
  let v (pid : Nat) : Int := (lookupKey (keyOf (oModule n) pid) d.vals).getD 0
  sealRecord (leBytes 2 0x4DB7 ++ leBytes 1 n ++ leBytes 1 (v xFLAGS) ++ leBytes 4 d.gen ++ leBytes 8 (v xSERIAL) ++
    leBytes 4 (v Pid.Module.MODEL_ID) ++ leBytes 8 (v Pid.Module.CAPACITY) ++ leBytes 4 (v Pid.Module.R_SER) ++
    leBytes 4 (v Pid.Module.RC1_RES) ++ leBytes 4 (v Pid.Module.TAU1) ++ leBytes 4 (v Pid.Module.RC2_RES) ++
    leBytes 4 (v Pid.Module.TAU2) ++ leBytes 4 (v Pid.Module.OCV_OFFSET) ++ leBytes 8 (v Pid.Module.LEARN_TICK))

/-- Table 7-10, from the values of a string's slot. -/
def stringBytes (k : Nat) (d : SlotData) : Bytes :=
  let v (pid : Nat) : Int := (lookupKey (keyOf (oString k) pid) d.vals).getD 0
  sealRecord (leBytes 2 0x53B7 ++ leBytes 1 k ++ leBytes 1 (v xFLAGS) ++ leBytes 4 d.gen ++ leBytes 2 (v Pid.String.SOC) ++
    leBytes 2 (v xANCHOR) ++ leBytes 8 (v xQ_ANCHOR) ++ leBytes 8 (v xFULL_TICK) ++ leBytes 8 (v xDSG_Q) ++
    leBytes 2 (v xDSG_START) ++ List.replicate 22 0)

/-- Is a record valid: 64 bytes with its MAGIC and a matching CRC? -/
def recordValid (magic : Nat) (b : Bytes) : Bool :=
  b.length == 64 && fieldU b 0 2 == magic && fieldU b 60 4 == (crc32c (b.take 60)).toNat

/-- What a slot of a record holds: the newest of its pair, or the other one; none where it is invalid. -/
def State.slotData (s : State) (k slot : Nat) : Option SlotData :=
  match s.journalPair k with
  | none => none
  | some j =>
    if slot ≠ j.place then j.older else if j.newest then some (s.recordData k j.gen) else none

/-- The bytes of a slot of the battery journal. -/
def State.moduleSlotBytes (s : State) (n slot : Nat) : Option Bytes :=
  (s.slotData (jrModule n) slot).map (moduleBytes n)
def State.stringSlotBytes (s : State) (k slot : Nat) : Option Bytes :=
  (s.slotData (jrString k) slot).map (stringBytes k)

/-- Every energy and charge counter with its remainder (R52, R54). -/
def State.counterImage (s : State) : List (Nat × Int) :=
  let put (o pid : Nat) (v : Int) (l : List (Nat × Int)) := if v = 0 then l else insertKey (keyOf o pid) v l
  let l := (List.range 4).foldl (fun l b => put (oSeg b) Pid.Segment.E_OUT (s.par (oSeg b) Pid.Segment.E_OUT) l) []
  let l := (List.range 16).foldl (fun l f =>
    let o := oFeeder f
    let a := (s.feeder f).acc
    put o Pid.Feeder.E_OUT (s.par o Pid.Feeder.E_OUT) (put o Pid.Feeder.E_BACKFEED (s.par o Pid.Feeder.E_BACKFEED)
      (put o xPOS a.pos (put o xNEG a.neg l)))) l
  (List.range 4).foldl (fun l k =>
    let o := oString k
    let a := (s.str k).acc
    put o Pid.String.E_CHARGE (s.par o Pid.String.E_CHARGE)
      (put o Pid.String.E_DISCHARGE (s.par o Pid.String.E_DISCHARGE)
        (put o Pid.String.Q_NET (s.par o Pid.String.Q_NET)
          (put o xPOS a.pos (put o xNEG a.neg (put o xQ a.q l)))))) l

/-! ## What a save holds (R276) -/

/-- The string records, and the module records changed since their last write. -/
def State.saveBattery (s : State) : List (Nat × Int) :=
  let l := (List.range 4).foldl (fun l k => s.stringImage k l) []
  l.filter fun e =>
    let o := e.1 / 4096
    objType o != .module || (s.module (o - 0x40)).changed

/-- Module records in a save. -/
def State.changedModules (s : State) : Nat :=
  ((List.range 64).filter fun m => (s.modulesOf (m / 16)).contains m && (s.module m).changed).length

/-- The size of a save: header, time and state, counters, strings, modules, records and trailer. -/
def State.saveBytes (s : State) : Nat :=
  112 + 1024 + 256 + 64 * s.changedModules + 96 * min 70 s.unmirrored.length + 32

/-- The Fantail summary of Table 10-5: its live flags RESERVE_SHORT, OVERCOMMIT and CONT_SHORT (log entry 58). -/
def State.fantailSummary (s : State) : Nat :=
  (if s.fantail.reserveShort then 1 else 0) + (if s.fantail.overcommit then 2 else 0) +
    (if s.fantail.contShort then 4 else 0)

/-- The save as it stands, whole or torn after some pages. -/
def State.saveImage (s : State) (trailer : Bool) : SaveImage :=
  let l := s.unmirrored.reverse
  { gen := seqAfter s.supply.saveGen, trigger := s.supply.saveTrigger, shelf := s.shelfState, mode := s.deviceMode,
    tick := s.supply.saveTick, wall := s.supply.saveWall, aon := s.supply.saveAon, fantail := s.fantailSummary, seqState := s.par oShelf Pid.Shelf.SEQ_STATE,
    seqPhase := s.par oShelf Pid.Shelf.SEQ_PHASE, cause := s.par oShelf Pid.Shelf.SHUTDOWN_CAUSE,
    counters := s.counterImage, battery := s.saveBattery, records := l.take 70, dropped := l.length - 70,
    pages := s.supply.savePages, trailer := trailer, bad := [] }

/-- Put a save in the older of the two slots. -/
def State.putSave (s : State) (trailer : Bool) : State :=
  let x := s.saveImage trailer
  let s := s.rewritten (saveSlot x.gen) 0x4000
  { s with nvm := { s.nvm with saves := (x :: s.nvm.saves).take 2 }
           supply := { s.supply with saveGen := x.gen } }

/-- A save is cut short: it is torn, where its header had been written with the transaction before it done. -/
def State.tearSave (s : State) : State :=
  if s.supply.cs == .saving && s.nvm.active.isNone then s.putSave false else s

/-- A save starts: tick, AON count (free, log entry 4) and wall time are latched (Table 10-4, R296). -/
def State.saveStart (s : State) : State :=
  let (a, s) := s.draw
  let pair : TickLatch := { tick := s.time.tick, aon := BitVec.ofInt 48 a,
                            offset := s.par oDevice Pid.Device.WALL_OFFSET, watch := false }
  { s with supply := { s.supply with savePages := 0, saveTick := s.time.tick, saveWall := s.wallNow
                                     saveAon := BitVec.ofInt 48 a }
           time := { s.time with latch := some pair } }

end Sys2Proof.Machine
end

