-- ==== Sys2Proof/Machine/Reset.lean ====
section
/-! DEFINITION. What a control-side reset does at its instant (R14, R253, R267, R277, R281, R311, R411, R430); what
the next start finds is CONTROL_SIDE_BOOT's. -/

namespace Sys2Proof.Machine

/-- EN0 to EN15 go low. D2 rails receive no command (R251). -/
def State.enLow (s : State) : State := s.each 16 fun v s => s.railOff v

/-- Does a reset of this cause count as a failed trial (R411)? -/
def State.resetFailsTrial (s : State) (cause : ResetCause) : Bool :=
  s.updState == upTRIAL && !s.shelf.latched &&
    (match cause with
     | .supply | .fullTest => true
     | _ => false)

/-- The intervals at hand lose their means (R60). -/
def State.spoilMeans (s : State) : State :=
  s.eachOf sarObjects fun o s => s.modChan o fun c => { c with spoiltMs := true, spoilt := true }

/-- The control side is reset: conversion stops with the link, feeders and strings keep their states (R14), the
sequencer's outputs and the timers fall back, a transaction is cut short (R281) and a save is torn. -/
def State.csReset (s : State) (cause : ResetCause) : State :=
  let s := s.tearSave
  let s := { s with upd := { s.upd with trialReset := s.upd.trialReset || s.resetFailsTrial cause } }
  let s := if s.flume.running then s.flumeStop fcLINK_LOSS else s
  let s := (s.stopConversion.spoilMeans).enLow
  let s := s.cogLeave false false
  let s := match s.nvm.active with
    | some (r, _) => s.cutWrite r.work
    | none => s
  { s with
    seq := { s.seq with pfwLow := true, pfwRunning := false, walk := .none, lineLow := false }
    timers := Vector.replicate 8 .reset
    nvm := { s.nvm with queue := [], active := none }
    supply := { s.supply with cs := .reset, cause := if s.supply.cs == .rom && s.supply.cause == .powerUp then .powerUp else cause
                              saveArmed := false, rideThrough := false,
                              floatExit := false, cholds := false, millHistory := [], watchDue := false }
    miller := { s.miller with restarting := false, causes := [], shifts := [] }
    time := { s.time with slew := none, halted := false } }

/-- Every power-side output is off at once (R251, R268). -/
def State.psdOutputsOff (s : State) : State :=
  let s := s.each 16 fun f s => s.feederWait f
  let s := s.each 4 fun k s => s.stringWait k
  s.stopConversion

end Sys2Proof.Machine
end

