-- ==== Sys2Proof/Machine/LifeCycle.lean ====
section
/-! DEFINITION. The MRAM as bytes (R279), the bundle header (R402), and the life cycle: nonces, transitions, keys
and the debug port (R416 to R421). -/

namespace Sys2Proof.Machine

/-! ## MRAM (R279) -/

/-- What a byte of MRAM that nothing has written reads as (log entry 21). -/
def mramEmpty : Byte := 0

/-- The byte at an address. -/
def mramRead : List Host.Cell → Nat → Byte
  | [], _ => mramEmpty
  | c :: rest, a => if c.1 = a then c.2 else mramRead rest a

/-- Remove the entry of an address. -/
def mramErase (l : List Host.Cell) (a : Nat) : List Host.Cell := l.filter fun c => c.1 != a

/-- Put a byte at an address of a list whose addresses rise. -/
def mramInsert : List Host.Cell → Nat → Byte → List Host.Cell
  | [], a, b => [(a, b)]
  | c :: rest, a, b =>
    if a < c.1 then (a, b) :: c :: rest
    else if a = c.1 then (a, b) :: rest
    else c :: mramInsert rest a b

/-- Write one byte, keeping the canonical form. -/
def mramWrite (l : List Host.Cell) (a : Nat) (b : Byte) : List Host.Cell :=
  if b = mramEmpty then mramErase l a else mramInsert l a b

/-- Strictly rising addresses. -/
def mramRise : List Host.Cell → Bool
  | [] => true
  | [_] => true
  | a :: b :: rest => decide (a.1 < b.1) && mramRise (b :: rest)

/-- The canonical form: addresses rise and no entry equals what an unlisted address reads as. -/
def mramWf (l : List Host.Cell) : Bool := mramRise l && l.all fun c => c.2 != mramEmpty

/-- The bytes from an address on. -/
def State.mramBytes (s : State) (a n : Nat) : Bytes := (List.range n).map fun i => mramRead s.nvm.mram (a + i)

/-- Nothing remains listed in a range of addresses. -/
def State.mramClear (s : State) (lo hi : Nat) : State :=
  { s with nvm := { s.nvm with mram := s.nvm.mram.filter fun c => decide (c.1 < lo) || decide (c.1 ≥ hi) } }

/-- The first address of a bank (Table 10-7). -/
def bankBase (b : Nat) : Nat := b * 0x180000

/-- The bytes of a bank's header. -/
def State.header (s : State) (b : Nat) : Bytes := s.mramBytes (bankBase b) 512

/-- Has nothing been written to a bank: does it still hold what the part was shipped with? -/
def State.factoryBank (s : State) (b : Nat) : Bool :=
  !s.nvm.mram.any fun c => decide (bankBase b ≤ c.1) && decide (c.1 < bankBase b + 0x180000)

/-! ## Fields of the bundle header (Table 16-2) -/

abbrev hdFwVersion (h : Bytes) : Nat := fieldU h 12 4
abbrev hdConfigFormat (h : Bytes) : Nat := fieldU h 16 4
abbrev hdCsdLen (h : Bytes) : Nat := fieldU h 20 4
abbrev hdSatCount (h : Bytes) : Nat := byteAt h 24
abbrev hdKeyKind (h : Bytes) : Nat := byteAt h 25
abbrev hdRollback (h : Bytes) : Nat := fieldU h 28 4
/-- The satellite, HW_ID, offset, length and version of a section. -/
abbrev hdSat (h : Bytes) (i : Nat) : Nat := byteAt h (80 + 32 * i)
abbrev hdSatHw (h : Bytes) (i : Nat) : Nat := fieldU h (82 + 32 * i) 2
abbrev hdSatOff (h : Bytes) (i : Nat) : Nat := fieldU h (84 + 32 * i) 4
abbrev hdSatLen (h : Bytes) (i : Nat) : Nat := fieldU h (88 + 32 * i) 4
abbrev hdSatVer (h : Bytes) (i : Nat) : Nat := fieldU h (92 + 32 * i) 4

/-- The control-side image of a bank. -/
def State.image (s : State) (b : Nat) : Bytes := s.mramBytes (bankBase b + 0x200) (hdCsdLen (s.header b))

/-- CSD_DIGEST matches the image (step 5 of Table 16-4), which an uncorrectable codeword keeps from being read. -/
def State.digestOk (s : State) (b : Nat) : Bool :=
  s.readable (bankBase b) (0x200 + hdCsdLen (s.header b)) && decide (Config.sha384 (s.image b) = slice (s.header b) 32 48)

/-- CSD_SIG verifies under the key that KEY_KIND names (R403, step 6). -/
def State.sigOk (s : State) (b : Nat) : Bool :=
  let h := s.header b
  Config.verifyImage (hdKeyKind h == 1) (h.take 416) (slice h 416 96)

/-! ## Life-cycle states (Table 16-5) -/

abbrev lcBLANK : Int := 0
abbrev lcDEVELOP : Int := 1
abbrev lcFIELD : Int := 2
abbrev lcRETURN : Int := 3

/-- LC_STATE. -/
def State.lcState (s : State) : Int := s.par oLife Pid.LifeCycle.LC_STATE

/-- The transition to TARGET, as far as Table 16-5 lists it and its conditions other than signatures hold. -/
def State.transitionOk (s : State) (target : Nat) : Bool :=
  match s.lcState, target with
  | 0, 1 => true
  | 0, 2 | 1, 2 => s.ownerKey.isSome && hdKeyKind (s.header s.runningBank) != 1
  | 0, 3 | 1, 3 | 2, 3 => true
  | _, _ => false

/-- May the slot be written: not written before, and the owner's only in BLANK and DEVELOP? A killed slot stays
written. -/
def State.slotOk (s : State) (target : Nat) : Bool :=
  !s.life.killed && (vget s.life.keys target none).isNone &&
    (target != 0 || s.lcState == lcBLANK || s.lcState == lcDEVELOP)

/-- Is the owner signature needed (R417)? -/
def State.ownerNeeded (s : State) (action target : Nat) : Bool :=
  if action = 1 then target == 2 || (s.lcState == lcFIELD && target == 3)
  else target != 0 && s.lcState == lcFIELD

/-- Is the Golenarid signature needed? -/
def golenaridNeeded (action target : Nat) : Bool := action == 1 && target == 3

/-- The bytes that the signatures cover. -/
def State.lcMsg (s : State) (p : Bytes) : Bytes :=
  ascii [0x4C, 0x43, 0x54, 0x52] ++ serialBytes ++ s.life.nonce.getD [] ++ p.take 2 ++
    (if byteAt p 0 = 2 then slice p 4 64 else [])

/-- Do the needed signatures verify? -/
def State.tokensOk (s : State) (p : Bytes) : Bool :=
  let action := byteAt p 0
  let target := byteAt p 1
  let msg := s.lcMsg p
  let owner := slice p (if action = 1 then 4 else 68) 64
  (!s.ownerNeeded action target || match s.ownerKey with
    | some key => Config.verifyP256 key msg owner
    | none => false) &&
  (!golenaridNeeded action target || Config.verifyLifeCycle msg (slice p 68 96))

/-- The schedule is no longer set. -/
def State.noSchedule (s : State) : State :=
  let s := ((s.setPar oUpdater Pid.Updater.SCHED_MODE 0xFF).setPar
    oUpdater Pid.Updater.SCHED_COG_STATE 0).setPar oUpdater Pid.Updater.SCHED_WALL 0
  { s with upd := { s.upd with due := false, dueAtCog := false, waiting := none, resetDriven := false } }

/-- A hold of COG for an activation ends; the line is released where the state's work is done (R230, R256). -/
def State.endActHold (s : State) : State :=
  s.modSeq fun q => { q with actHold := false, holding := q.holding && !q.workDone }

/-- A bank with a development-signed bundle becomes EMPTY on entry to FIELD (R416). -/
def State.dropDevelopment (s : State) : State :=
  s.each 2 fun b s =>
    if s.bank b != bkEMPTY && hdKeyKind (s.header b) == 1 then
      let s := (s.setBank b bkEMPTY).setPar oUpdater Pid.Updater.STAGED_VERSION 0
      if s.updState == upSTAGED || s.updState == upSCHEDULED then
        (s.noSchedule.endActHold).setPar oUpdater Pid.Updater.UPD_STATE upIDLE
      else s
    else s

/-- Is a parameter kept by what entry to RETURN erases: the journals and the recorder (R418)? No object's SOURCE_SEQ is: it is
never reset (R23). -/
def erasedParam (o pid : Nat) : Bool :=
  pid != Pid.SOURCE_SEQ &&
    (match objType o with
     | .module | .string | .grist => match findDesc o pid with
       | some d => d.src == .nvm
       | none => false
     | .shelf => pid == Pid.Shelf.CONFIG_GENERATION || pid == Pid.Shelf.SHUTDOWN_CAUSE
     | _ => false)

/-- A key is programmed (R417). -/
def State.keyWritten (s : State) (e : Op) (target : Nat) (key : Bytes) : State :=
  let s := { s with life := { s.life with keys := vmod s.life.keys target fun _ => some key } }
  s.keyStatus.lifeRecord oLife 0x11 target s.lcState (oPort e.port)

/-- The length that an ACTION of LC_TRANSITION needs. -/
def lcLength : Nat → Option Nat
  | 0 => some 4
  | 1 => some 164
  | 2 => some 132
  | _ => none

/-- LC_TRANSITION's checks 1 to 6 (R417). -/
def State.lcCheck (s : State) (p : Bytes) : Option (Nat × Nat) :=
  let action := byteAt p 0
  let target := byteAt p 1
  if lcLength action != none && lcLength action != some p.length then some (stBAD_LENGTH, 1)
  else if !zeros p 2 2 then some (stBAD_PARAM, 2)
  else if action > 2 || (action = 1 && target > 3) || (action = 2 && target > 4) then some (stRANGE, 3)
  else if s.thermalLatched then some (stLOCKED, 4)
  else if action = 0 then none
  else if (action = 1 && !s.transitionOk target) || (action = 2 && !s.slotOk target) then
    some (stREFUSED, frPRECONDITION)
  else if s.life.nonce.isNone then some (stREFUSED, frPRECONDITION)
  else none

/-- LC_STATE (R422). -/
def opLcState (e : Op) (s : State) : State :=
  if e.payload.length ≠ 0 then s.fail e stBAD_LENGTH 1
  else s.ok e (leBytes 1 s.lcState ++ leBytes 1 (s.par oLife Pid.LifeCycle.DEBUG_STATE) ++
    leBytes 1 (s.par oLife Pid.LifeCycle.KEY_STATUS) ++ [0] ++
    leBytes 4 (s.par oLife Pid.LifeCycle.ROLLBACK_FLOOR))

/-- The bytes that an unlock token signs (R419). -/
def State.unlockMsg (s : State) : Bytes :=
  ascii [0x44, 0x42, 0x55, 0x4C] ++ serialBytes ++ s.life.nonce.getD []

/-- DEBUG_UNLOCK (R419). Check 5 stands for both SUBOPs; a relock signs nothing, and leaves the nonce (log entry 19). -/
def opDebugUnlock (e : Op) (s : State) : State :=
  let p := e.payload
  let sub := byteAt p 0
  let view (s : State) : Bytes := leBytes 1 (s.par oLife Pid.LifeCycle.DEBUG_STATE) ++ [0, 0, 0]
  if (sub = 0 ∧ p.length ≠ 68) ∨ (sub = 1 ∧ p.length ≠ 4) then s.fail e stBAD_LENGTH 1
  else if !zeros p 1 3 then s.fail e stBAD_PARAM 2
  else if sub > 1 then s.fail e stRANGE 3
  else if s.thermalLatched then s.fail e stLOCKED 4
  else if s.lcState != lcFIELD then s.reply e stREFUSED frPRECONDITION []
  else match s.ownerKey, s.life.nonce with
    | some key, some _ =>
      if sub = 1 then
        let s := s.setPar oLife Pid.LifeCycle.DEBUG_STATE 0
        let s := s.lifeRecord oLife 0x13 0 s.lcState (oPort e.port)
        s.ok e (view s)
      else
        let good := Config.verifyP256 key s.unlockMsg (slice p 4 64)
        let s := { s with life := { s.life with nonce := none } }
        if good then
          let s := s.setPar oLife Pid.LifeCycle.DEBUG_STATE 2
          let s := s.lifeRecord oLife 0x12 0 s.lcState (oPort e.port)
          s.ok e (view s)
        else (s.tokenFailed 0 e.port).fail e stAUTH_FAILED 6
    | _, _ => s.reply e stREFUSED frPRECONDITION []

/-! ## The rows of the opcode table -/

/-- LC_STATE. -/
def execLcState (r : Req) (payload : Bytes) (s : State) : Host.Outcome State Fault Refusal :=
  .next (submitReq r 0xA0 payload opLcState s)

/-- DEBUG_UNLOCK with SUBOP 0. -/
def execDebugUnlock (r : Req) (rest : Bytes) (s : State) : Host.Outcome State Fault Refusal :=
  .next (submitReq r 0xA2 (0x00 :: rest) opDebugUnlock s)

/-- DEBUG_UNLOCK with SUBOP 1. -/
def execDebugRelock (r : Req) (rest : Bytes) (s : State) : Host.Outcome State Fault Refusal :=
  .next (submitReq r 0xA2 (0x01 :: rest) opDebugUnlock s)

end Sys2Proof.Machine
end

