-- ==== Sys2Proof/Machine/Update.lean ====
section
/-! DEFINITION. Firmware update: sessions, blocks, the close, the schedule, activation and check-in (R401 to R415,
R421 to R423). -/

namespace Sys2Proof.Machine

/-! ## The session -/

/-- The bank a session writes: the one not running; in ROM recovery one that is not GOOD, or A if both are
(R404, R413). -/
def State.targetBank (s : State) : Nat :=
  if s.supply.cs == .rom then (if s.bank 0 == bkGOOD && s.bank 1 != bkGOOD then 1 else 0)
  else 1 - s.runningBank

/-- Does a payload's SESSION_ID name the open session? -/
def State.inSession (s : State) (id : Nat) : Bool :=
  s.updState == upOPEN && s.par oUpdater Pid.Updater.SESSION_ID == id

/-- SESSION_ID of the next session. -/
def State.nextSession (s : State) : Nat :=
  let n := (s.par oUpdater Pid.Updater.SESSION_ID).toNat
  if n ≥ 65535 then 1 else n + 1

/-- Set SCHED or SESSION status: UPD_STATE. -/
def State.setUpd (s : State) (v : Int) : State := s.setPar oUpdater Pid.Updater.UPD_STATE v

/-- The pending images of the satellites are released. -/
def State.releaseSats (s : State) : State :=
  { s with upd := { s.upd with satPending := Vector.replicate 8 false } }

/-- UPD_OPEN (R404). Acceptance is the commit. -/
def opUpdOpen (e : Op) (s : State) : State :=
  let p := e.payload
  let len := fieldU p 0 4
  if p.length ≠ 8 then s.fail e stBAD_LENGTH 1
  else if !zeros p 4 4 then s.fail e stBAD_PARAM 2
  else if len < 1024 || len > 3145728 then s.fail e stRANGE 3
  else if s.thermalLatched then s.fail e stLOCKED 4
  else if s.updState == upOPEN || s.updState == upCLOSING then s.fail e stBUSY 5
  else if s.updState == upSCHEDULED || s.updState == upACTIVATING || s.updState == upTRIAL then
    s.reply e stREFUSED frPRECONDITION []
  else
    let s := s.opCommit e.id
    let b := s.targetBank
    let id := s.nextSession
    let s := if s.upd.stagedOk then s.releaseSats else s
    let s := { s with upd := { s.upd with
      bundleLen := len, target := b, units := [], headerOk := false, closing := none, stagedOk := false } }
    let s := (s.setBank b bkEMPTY).setPar oUpdater Pid.Updater.STAGED_VERSION 0
    let s := ((s.setPar oUpdater Pid.Updater.SESSION_ID id).setPar oUpdater Pid.Updater.BYTES_RECEIVED 0).setUpd
      upOPEN
    s.ok e (leBytes 2 id ++ leBytes 1 b ++ [0] ++ leBytes 2 256 ++ [0, 0])

/-! ## Blocks (R405) -/

/-- The data bytes of a unit: 256, or what remains for the last one. -/
def unitLen (bundleLen u : Nat) : Nat := min 256 (bundleLen - 256 * u)

/-- A written unit and its length as one number. -/
def unitCode (u len : Nat) : Nat := u * 256 + (len - 1)

/-- Note a written block: the longest write of a unit stands. -/
def noteUnit (u len : Nat) (l : List Nat) : List Nat :=
  if l.any fun c => c / 256 == u && decide (c % 256 + 1 ≥ len) then l
  else unitCode u len :: l.filter fun c => c / 256 != u

/-- Distinct bytes written. -/
def unitBytes (l : List Nat) : Nat := l.foldl (fun a c => a + c % 256 + 1) 0

/-- Is every byte of a unit written? -/
def State.unitDone (s : State) (u : Nat) : Bool :=
  s.upd.units.contains (unitCode u (unitLen s.upd.bundleLen u))

/-- The satellite section that holds a bundle offset. -/
def sectionAt (h : Bytes) (o : Nat) : Option Nat :=
  (List.range (min 8 (hdSatCount h))).find? fun i =>
    decide (hdSatOff h i ≤ o) && decide (o < hdSatOff h i + hdSatLen h i)

/-- Where a bundle byte is kept: header and image in the target bank, BUNDLE_SIG in its trailer page, a section in
the half that is not active for its satellite; a gap byte nowhere (R405, R414). -/
def State.placeOf (s : State) (o : Nat) : Option Nat :=
  let base := bankBase s.upd.target
  let h := s.header s.upd.target
  if o < 512 then some (base + o)
  else if o ≥ s.upd.bundleLen - 96 then some (base + 0x17F800 + (o - (s.upd.bundleLen - 96)))
  else if o < 512 + hdCsdLen h then some (base + o)
  else match sectionAt h o with
    | some i =>
      let sat := hdSat h i % 8
      let half := if vget s.upd.satHalf sat false then 0 else 1
      some (0x300000 + half * 0x80000 + sat * 0x10000 + (o - hdSatOff h i))
    | none => none

/-- Pages that a block's bytes touch. -/
def State.blockPages (s : State) (o n : Nat) : Nat :=
  max 1 ((List.range n).filterMap fun i => (s.placeOf (o + i)).map fun a => a / 2048).eraseDups.length

/-- Do two extents overlap? -/
def overlap (a n b m : Nat) : Bool := decide (a < b + m) && decide (b < a + n)

/-- The limits of one section (R402). -/
def sectionOk (h : Bytes) (len i : Nat) : Bool :=
  let o := hdSatOff h i
  let n := hdSatLen h i
  decide (hdSat h i < 8) && zeros h (81 + 32 * i) 1 && zeros h (96 + 32 * i) 16 && decide (n ≤ 65536) &&
    decide (o % 256 = 0) && decide (512 + hdCsdLen h ≤ o) && decide (o + n ≤ len - 96) &&
    (List.range (hdSatCount h)).all fun j => j == i || !overlap o n (hdSatOff h j) (hdSatLen h j)

/-- The format check of a header (R405): MAGIC, FORMAT, BUNDLE_LEN, section limits and reserved fields. -/
def formatOk (h : Bytes) (len : Nat) : Bool :=
  fieldU h 0 4 == 0x42554A4B && fieldU h 4 2 == 1 && decide (fieldU h 6 2 < 2) && fieldU h 8 4 == len &&
    zeros h 26 2 && zeros h 336 80 && decide (hdCsdLen h ≤ 1570304) && decide (512 + hdCsdLen h + 96 ≤ len) &&
    decide (hdSatCount h ≤ 8) && zeros h (80 + 32 * hdSatCount h) (256 - 32 * hdSatCount h) &&
    (List.range (hdSatCount h)).all (sectionOk h len)

/-- UPD_BLOCK's checks (R405). -/
def State.blockCheck (s : State) (p : Bytes) : Option (Nat × Nat) :=
  let n := fieldU p 2 2
  let o := fieldU p 4 4
  if p.length ≠ 12 + n || n < 1 || n > 256 then some (stBAD_LENGTH, 1)
  else if !s.inSession (fieldU p 0 2) then some (stBAD_PARAM, 2)
  else if o % 256 ≠ 0 || o + n > s.upd.bundleLen || (n < 256 && o + 256 < s.upd.bundleLen) then some (stRANGE, 3)
  else if (crc32c (slice p 4 4 ++ slice p 12 n)).toNat ≠ fieldU p 8 4 then some (stBAD_PARAM, 4)
  else if s.thermalLatched then some (stLOCKED, 5)
  else if o ≥ 512 && !s.upd.headerOk then some (stREFUSED, frPRECONDITION)
  else none

/-- UPD_BLOCK (R405): one NVM write. -/
def opUpdBlock (e : Op) (s : State) : State :=
  match s.blockCheck e.payload with
  | some (st, c) => s.reply e st c []
  | none =>
    let o := fieldU e.payload 4 4
    let n := fieldU e.payload 2 2
    (s.askNvm .update (.block o (slice e.payload 12 n)) (s.blockPages o n) (some e.id)).opRunning e

/-- Write the bytes of a block to their places. -/
def State.putBlock (s : State) (o : Nat) (data : Bytes) : State :=
  let places := (List.range data.length).map fun i => (s.placeOf (o + i), data.getD i 0)
  let mram := places.foldl (fun l e => match e.1 with
    | some a => mramWrite l a e.2
    | none => l) s.nvm.mram
  let s := { s with nvm := { s.nvm with mram := mram } }
  match s.placeOf o with
  | some a => s.rewritten a data.length
  | none => s

/-- A section that is written again is no longer pending. -/
def State.sectionTouched (s : State) (o : Nat) : State :=
  let h := s.header s.upd.target
  if o < 512 + hdCsdLen h then s
  else match sectionAt h o with
    | some i => { s with upd := { s.upd with satPending := vmod s.upd.satPending (hdSat h i) fun _ => false } }
    | none => s

/-- The page program of a block has ended (R405). -/
def State.blockCommit (s : State) (o : Nat) (data : Bytes) (op : Option Nat) : State :=
  if s.updState != upOPEN then s
  else
    let b := s.upd.target
    let s := if s.bank b == bkEMPTY then s.setBank b bkWRITING else s
    let s := (s.putBlock o data).sectionTouched o
    let units := noteUnit (o / 256) data.length s.upd.units
    let s := { s with upd := { s.upd with units := units } }
    let s := s.setPar oUpdater Pid.Updater.BYTES_RECEIVED (unitBytes units)
    let s :=
      if o < 512 && s.unitDone 0 && s.unitDone 1 then
        { s with upd := { s.upd with headerOk := formatOk (s.header b) s.upd.bundleLen } }
      else s
    match op.bind s.opOf with
    | some e => s.ok e (leBytes 4 o ++ leBytes 4 (unitBytes units))
    | none => s

/-! ## The close (R406) -/

/-- LAST_UPD_RESULT codes (Table 16-4). -/
abbrev urOK : Nat := 1
abbrev urINCOMPLETE : Nat := 2
abbrev urDIGEST : Nat := 4
abbrev urSIGNATURE : Nat := 5
abbrev urROLLBACK : Nat := 6
abbrev urKEY_KIND : Nat := 7
abbrev urSILICON : Nat := 8

/-- UPD_CLOSE (R406): the bundle is verified. -/
def opUpdClose (e : Op) (s : State) : State :=
  let p := e.payload
  if p.length ≠ 4 then s.fail e stBAD_LENGTH 1
  else if !zeros p 2 2 then s.fail e stBAD_PARAM 2
  else if !s.inSession (fieldU p 0 2) then s.fail e stBAD_PARAM 3
  else if s.thermalLatched then s.fail e stLOCKED 4
  else ({ s with upd := { s.upd with closing := some e.id } : State }.setUpd upCLOSING).opRunning e

/-- Is KEY_KIND permitted in the life-cycle state (R403)? -/
def State.keyKindOk (s : State) (h : Bytes) : Bool :=
  hdKeyKind h == 0 || (hdKeyKind h == 1 && s.lcState == lcDEVELOP)

/-- The bundle's bytes as read back; gap bytes are 0. -/
def State.bundleBack (s : State) (n : Nat) : Bytes :=
  (List.range n).map fun o => match s.placeOf o with
    | some a => mramRead s.nvm.mram a
    | none => 0

/-- BUNDLE_SIG verifies (step 7): standalone and in ROM recovery (R413). -/
def State.bundleSigOk (s : State) : Bool :=
  let len := s.upd.bundleLen
  Config.verifyImage (hdKeyKind (s.header s.upd.target) == 1) (s.bundleBack (len - 96))
    (s.mramBytes (bankBase s.upd.target + 0x17F800) 96)

/-- The verification of Table 16-4: the failing step and result. -/
def State.closeFails (s : State) : Option (Nat × Nat) :=
  let b := s.upd.target
  let h := s.header b
  let units := (s.upd.bundleLen + 255) / 256
  let whole := s.supply.cs == .rom || s.par oDevice Pid.Device.CONFIGURATION == 0
  if !(List.range units).all s.unitDone then some (1, urINCOMPLETE)
  else if hdFwVersion h / 16777216 > 0xA1 then some (2, urSILICON)
  else if !s.keyKindOk h then some (3, urKEY_KIND)
  else if (hdRollback h : Int) < s.par oLife Pid.LifeCycle.ROLLBACK_FLOOR then some (4, urROLLBACK)
  else if !s.digestOk b then some (5, urDIGEST)
  else if !s.sigOk b then some (6, urSIGNATURE)
  else if whole && !s.bundleSigOk then some (7, urSIGNATURE)
  else none

/-- The close ends without staging: the session is open again. -/
def State.closeEnds (s : State) : State :=
  { s with upd := { s.upd with closing := none } : State }.setUpd upOPEN

/-- The object of the port of an operation, 0 where there is none. -/
def State.opPort (s : State) (op : Option Nat) : Nat :=
  match op.bind s.opOf with
  | some e => oPort e.port
  | none => 0

/-- BUNDLE_VERIFIED: the verification of a close ends (R406). -/
def execBundleVerified (s : State) : Host.Outcome State Fault Refusal :=
  match s.upd.closing with
  | none => .next s
  | some id =>
    if !(s.miller3 || s.supply.cs == .rom) || s.updState != upCLOSING ||
        s.nvm.queue.any (fun r => r.work == NvmWork.staged) ||
        (match s.nvm.active with
         | some (r, _) => r.work == NvmWork.staged
         | none => false) then .next s
    else match s.closeFails with
    | none => .next (s.askNvm .update .staged 1 (some id))
    | some (step, result) =>
      let port := s.opPort (some id)
      let s := (s.setPar oUpdater Pid.Updater.LAST_UPD_RESULT result).closeEnds
      let s := s.updRecord 0x02 s.upd.target port
      match s.opOf id with
      | some e => .next (if step ≥ 6 then s.reply e stAUTH_FAILED step [] else s.reply e stREFUSED frPRECONDITION [])
      | none => .next s

/-- The satellites whose image a bundle holds become pending (R414). -/
def State.pendSats (s : State) : State :=
  let h := s.header s.upd.target
  s.each (min 8 (hdSatCount h)) fun i s =>
    let n := hdSat h i
    let half := if vget s.upd.satHalf n false then 0 else 1
    let img : SatImage := { slot := half * 8 + n, hwId := hdSatHw h i, len := hdSatLen h i, version := hdSatVer h i,
                            dev := hdKeyKind h == 1 }
    { s with upd := { s.upd with
      satPending := vmod s.upd.satPending n fun _ => true
      satImages := img :: s.upd.satImages.filter fun x => x.slot != img.slot } }

/-- The bank-state write of a close commits (R406, R413): in ROM recovery the bank is GOOD and the control side
resets. -/
def State.stagedCommit (s : State) (op : Option Nat) : State :=
  let b := s.upd.target
  let rom := s.supply.cs == .rom
  let version := hdFwVersion (s.header b)
  let port := s.opPort op
  let s := (s.setBank b (if rom then bkGOOD else bkSTAGED)).setPar oUpdater Pid.Updater.LAST_UPD_RESULT urOK
  let s := s.pendSats
  let s := { s with upd := { s.upd with closing := none, units := [], stagedOk := !rom } }
  let s := if rom then s.setPar oUpdater Pid.Updater.TRIAL_FAILS 0
    else s.setPar oUpdater Pid.Updater.STAGED_VERSION version
  let s := (s.setUpd (if rom then upIDLE else upSTAGED)).updRecord 0x01 b port
  let s := match op.bind s.opOf with
    | some e => s.ok e (leBytes 1 b ++ leBytes 1 (s.par oDevice Pid.Device.CONFIGURATION) ++ [0, 0] ++
        leBytes 4 version)
    | none => s
  if rom then s.csReset .supply else s

/-! ## Cancelling (R407) -/

/-- Operations whose blocks wait are refused as their session ends. -/
def State.dropBlocks (s : State) : State :=
  let isBlock (r : NvmReq) : Bool := match r.work with
    | .block _ _ => true
    | _ => false
  let ops := s.nvm.queue.filterMap fun r => if isBlock r then r.op else none
  let s := { s with nvm := { s.nvm with queue := s.nvm.queue.filter fun r => !isBlock r } }
  ops.foldl (fun s id => match s.opOf id with
    | some e => s.reply e stREFUSED frPRECONDITION []
    | none => s) s

/-- The bank-state write of a cancel commits: the bank is EMPTY, the session or the staging ends. -/
def State.cancelCommit (s : State) (op : Option Nat) : State :=
  let s := s.dropBlocks
  let s := if s.upd.stagedOk then s.releaseSats else s
  let s := (s.setBank s.upd.target bkEMPTY).setPar oUpdater Pid.Updater.STAGED_VERSION 0
  let s := { s with upd := { s.upd with units := [], headerOk := false, stagedOk := false } }
  let s := s.setUpd upIDLE
  match op.bind s.opOf with
  | some e => s.ok e [0, 0, 0, 0]
  | none => s

/-- The reply of a WHEN 0 schedule that its first decision answers (R408). -/
def State.scheduleReply (s : State) (status reason outcome retry : Nat) : State :=
  let op := s.upd.waiting
  let s := { s with upd := { s.upd with waiting := none } }
  match op.bind s.opOf with
  | some e => s.reply e status reason (leBytes 1 0 ++ leBytes 1 outcome ++ leBytes 2 retry)
  | none => s

/-- A schedule is cancelled or refused: the bank stays STAGED (R407, R409). -/
def State.scheduleEnds (s : State) (port : Nat) : State :=
  let s := (s.noSchedule.endActHold).updRest
  (s.askConfig oUpdater).updRecord 0x07 (1 - s.runningBank) port

/-- UPD_CANCEL (R407). -/
def opUpdCancel (e : Op) (s : State) : State :=
  let p := e.payload
  if p.length ≠ 4 then s.fail e stBAD_LENGTH 1
  else if !zeros p 0 4 then s.fail e stBAD_PARAM 2
  else if s.thermalLatched then s.fail e stLOCKED 3
  else if s.nvm.queue.any (fun r => r.work == NvmWork.cancelBank) then s.reply e stREFUSED frPRECONDITION []
  else if s.updState == upOPEN then
    if s.bank s.upd.target == bkEMPTY && (match s.nvm.active with
        | some (r, _) => r.kind != .update
        | none => true) then
      (s.cancelCommit none).ok e [0, 0, 0, 0]
    else (s.askNvm .update .cancelBank 1 (some e.id)).opRunning e
  else if s.updState == upSTAGED then
    let s := { s with upd := { s.upd with target := 1 - s.runningBank } }
    (s.askNvm .update .cancelBank 1 (some e.id)).opRunning e
  else if s.updState == upSCHEDULED then
    let s := s.scheduleReply stREFUSED frPRECONDITION 3 0
    (s.scheduleEnds (oPort e.port)).ok e [0, 0, 0, 0]
  else s.reply e stREFUSED frPRECONDITION []

/-! ## The schedule (R408, R409) -/

/-- UPD_SCHEDULE's checks (R408). -/
def State.scheduleCheck (s : State) (p : Bytes) : Option (Nat × Nat) :=
  let mode := byteAt p 0
  if p.length ≠ 12 then some (stBAD_LENGTH, 1)
  else if !zeros p 2 2 then some (stBAD_PARAM, 2)
  else if mode > 2 || byteAt p 1 > 31 || fieldS p 4 8 < 0 then some (stRANGE, 3)
  else if s.thermalLatched then some (stLOCKED, 4)
  else if s.par oUpdater Pid.Updater.SCHED_MODE != 0xFF then some (stBUSY, 5)
  else if !s.upd.stagedOk || s.updState != upSTAGED ||
      hdConfigFormat (s.header (1 - s.runningBank)) != Config.configFormat.toNat then
    some (stREFUSED, frPRECONDITION)
  else if mode = 2 && (s.par oShelf Pid.Shelf.COG_ENABLE == 0 || s.seq.detached) then
    some (stREFUSED, frPRECONDITION)
  else none

/-- UPD_SCHEDULE (R408): committed at acceptance. -/
def opUpdSchedule (e : Op) (s : State) : State :=
  let p := e.payload
  let mode := byteAt p 0
  match s.scheduleCheck p with
  | some (st, c) => s.reply e st c (if st = stREFUSED then leBytes 1 mode ++ [3, 0, 0] else [])
  | none =>
    let s := s.opCommit e.id
    let s := ((s.setPar oUpdater Pid.Updater.SCHED_MODE mode).setPar
      oUpdater Pid.Updater.SCHED_COG_STATE (if mode = 2 then byteAt p 1 else 0)).setPar
      oUpdater Pid.Updater.SCHED_WALL (if mode = 0 then 0 else fieldS p 4 8)
    let s := { s with upd := { s.upd with
      due := mode == 0, dueAtCog := false, resetDriven := false, dueSince := s.time.tick
      waiting := if mode = 0 then some e.id else none } }
    let s := ((s.setUpd upSCHEDULED).askConfig oUpdater).updRecord 0x03 (1 - s.runningBank) (oPort e.port)
    if mode = 0 then s else s.ok e (leBytes 1 mode ++ [0, 0, 0])

/-- An activation falls due (R409, R314): by the wall clock while it stands at or after WALL, at a COG state by
its entry. -/
def State.fallDue (s : State) : State :=
  if s.updState != upSCHEDULED then s
  else
    let mode := s.par oUpdater Pid.Updater.SCHED_MODE
    let due := if mode == 1 then decide (s.wallNow ≥ s.par oUpdater Pid.Updater.SCHED_WALL)
      else if mode == 2 then s.upd.dueAtCog || s.upd.due
      else s.upd.due
    { s with upd := { s.upd with due := due, dueSince := if due && !s.upd.due then s.time.tick else s.upd.dueSince } }

/-- ACTIVATION_DUE: a scheduled activation falls due (R409). -/
def execActivationDue (s : State) : Host.Outcome State Fault Refusal :=
  if s.miller3 then .next s.fallDue else .next s

/-- With WALL not 0, the unit drives one reset pulse at the first tick at which the wall clock has reached it
while the group rests at 15 (R409). -/
def State.driveReset (s : State) : State :=
  let w := s.par oUpdater Pid.Updater.SCHED_WALL
  if s.updState == upSCHEDULED && s.par oUpdater Pid.Updater.SCHED_MODE == 2 && w != 0 && !s.upd.resetDriven &&
      decide (s.wallNow ≥ w) && s.seq.attached && s.restsAt 15 && s.seq.pulse == .none then
    { s with upd := { s.upd with resetDriven := true } : State }.cogPulse .reset
  else s

/-! ## Activation and check-in (R410, R411) -/

/-- Fantail has granted the activation: its two pages are written as one transaction (R410). -/
def State.activateGrant (s : State) : State :=
  let s := (s.setUpd upACTIVATING).endActHold
  let r : NvmReq := ⟨.checkin, .activate, 2, none, s.time.tick⟩
  { s with upd := { s.upd with due := false }
           nvm := { s.nvm with active := some (r, 2) } }

/-- Fantail has refused the activation: the schedule is cancelled (R409, R230). -/
def State.activateRefused (s : State) (reason : Nat) : State :=
  (s.scheduleReply stREFUSED reason 3 0).scheduleEnds 0

/-- The activation commits: the target bank is TRIAL, the running bank STAGED, the check-in timer starts and level
3 restarts into the target bank (R410). -/
def State.activateCommit (s : State) : State :=
  let b := s.runningBank
  let s := (s.setBank (1 - b) bkTRIAL).setBank b bkSTAGED
  let s := (s.setPar oUpdater Pid.Updater.RUNNING_BANK (1 - b : Nat)).setPar oUpdater Pid.Updater.STAGED_VERSION
    (hdFwVersion (s.header b))
  let s := { s with upd := { s.upd with stagedOk := false } }
  let s := (s.setUpd upTRIAL).updRecord 0x04 (1 - b) 0
  let s := (s.scheduleReply stOK 0 1 0).noSchedule
  let s := s.askConfig oUpdater
  s.startCheckin.l3Restart lrACTIVATION

/-- The check-in commits (R411). -/
def State.checkinCommit (s : State) : State :=
  let b := s.runningBank
  let h := s.header b
  let s := (s.setBank b bkGOOD).setPar oUpdater Pid.Updater.TRIAL_FAILS 0
  let floor := s.par oLife Pid.LifeCycle.ROLLBACK_FLOOR
  let s := if fieldU h 6 2 % 2 = 1 then
    s.setPar oLife Pid.LifeCycle.ROLLBACK_FLOOR (max floor (hdRollback h)) else s
  let s := { s with upd := { s.upd with checkin := none, checkinAsked := false } }
  let s := (s.setPar oUpdater Pid.Updater.CHECKIN_LEFT 0).setUpd upIDLE
  s.updRecord 0x05 b 0

/-- CHECKIN: the new firmware checks in by requesting the write of its bank state as GOOD; once that write has been
granted, it commits (R411). -/
def execCheckin (s : State) : Host.Outcome State Fault Refusal :=
  if !s.miller3 || s.updState != upTRIAL then .next s
  else match s.nvm.active with
    | some (r, _) =>
      if r.work == NvmWork.good then
        let s := { s with nvm := { s.nvm with active := none } }
        .next (s.incPar oDevice Pid.Device.NVM_WRITE_COUNT).checkinCommit
      else if s.upd.checkinAsked then .next s
      else .next ({ s with upd := { s.upd with checkinAsked := true } : State }.askNvm .checkin .good 1 none)
    | none =>
      if s.upd.checkinAsked then .next s
      else .next ({ s with upd := { s.upd with checkinAsked := true } : State }.askNvm .checkin .good 1 none)

/-- CHECKIN_TIMEOUT: the trial has not checked in within 10 s, and the fallback is restarted with cause 3
(R411). -/
def execCheckinTimeout (s : State) : Host.Outcome State Fault Refusal :=
  if s.running && s.updState == upTRIAL && s.upd.checkin.isSome then .next (s.l3Restart lrWATCHDOG)
  else .next s

/-! ## UPD_STATUS (R422) -/

/-- UPD_STATUS: 32 bytes. -/
def opUpdStatus (e : Op) (s : State) : State :=
  let u (pid n : Nat) : Bytes := leBytes n (s.read oUpdater pid)
  if e.payload.length ≠ 0 then s.fail e stBAD_LENGTH 1
  else s.ok e (u Pid.Updater.UPD_STATE 1 ++ u Pid.Updater.RUNNING_BANK 1 ++ u Pid.Updater.BANK_A_STATE 1 ++
    u Pid.Updater.BANK_B_STATE 1 ++ u Pid.Updater.SESSION_ID 2 ++ u Pid.Updater.LAST_UPD_RESULT 1 ++
    u Pid.Updater.TRIAL_FAILS 1 ++ u Pid.Updater.BYTES_RECEIVED 4 ++ u Pid.Updater.STAGED_VERSION 4 ++
    u Pid.Updater.SCHED_MODE 1 ++ u Pid.Updater.SCHED_COG_STATE 1 ++ [0, 0] ++ u Pid.Updater.CHECKIN_LEFT 4 ++
    u Pid.Updater.SCHED_WALL 8)

/-! ## The rows of the opcode table -/

/-- UPD_OPEN. -/
def execUpdOpen (r : Req) (payload : Bytes) (s : State) : Host.Outcome State Fault Refusal :=
  .next (submitReq r 0x90 payload opUpdOpen s)

/-- UPD_BLOCK. -/
def execUpdBlock (r : Req) (payload : Bytes) (s : State) : Host.Outcome State Fault Refusal :=
  .next (submitReq r 0x91 payload opUpdBlock s)

/-- UPD_CLOSE. -/
def execUpdClose (r : Req) (payload : Bytes) (s : State) : Host.Outcome State Fault Refusal :=
  .next (submitReq r 0x92 payload opUpdClose s)

/-- UPD_SCHEDULE. -/
def execUpdSchedule (r : Req) (payload : Bytes) (s : State) : Host.Outcome State Fault Refusal :=
  .next (submitReq r 0x93 payload opUpdSchedule s)

/-- UPD_STATUS. -/
def execUpdStatus (r : Req) (payload : Bytes) (s : State) : Host.Outcome State Fault Refusal :=
  .next (submitReq r 0x94 payload opUpdStatus s)

/-- UPD_CANCEL. -/
def execUpdCancel (r : Req) (payload : Bytes) (s : State) : Host.Outcome State Fault Refusal :=
  .next (submitReq r 0x95 payload opUpdCancel s)

end Sys2Proof.Machine
end

