-- ==== Sys2Proof/Machine/Time.lean ====
section
/-! DEFINITION. Crystals, the tick and the wall clock (R292 to R302, R310). -/

namespace Sys2Proof.Machine

/-! ## Clock status (Table 11-7) -/

abbrev ckXT32_FAIL : Nat := 1
abbrev ckXT25_FAIL : Nat := 3
abbrev ckCEILING_LATE : Nat := 4
abbrev ckTICK_GAP : Nat := 5

/-- Set a sticky bit of CLOCK_STATUS. -/
def State.clockBit (s : State) (bit : Nat) : State := s.setBit oDevice Pid.Device.CLOCK_STATUS bit

/-- Change the time. -/
def State.modTime (s : State) (g : TimeState → TimeState) : State := { s with time := g s.time }

/-- A record of an event that WATCH does not stop: in WATCH it is written at the next wake (R293). -/
def State.recordAwake (s : State) (source cls event : Nat) (snap : List Snap) : State :=
  if s.supply.cs == .watch then
    { s with grist := { s.grist with deferred := s.grist.deferred ++ [⟨source, cls, event, snap, false⟩] } }
  else s.record source cls event snap

/-! ## Crystals (R293, R294) -/

/-- XT32_FAIL: the crystal has failed, with no edge within 4 RC periods or a count of a 1/16 s window that differs by more than 5 %
from the RC's, as the row asserts (log entry 15), and the AON clock switches to the RC oscillator (R293). -/
def execXt32Fail (s : State) : Host.Outcome State Fault Refusal :=
  if s.supply.cs == .off || s.time.onAonRc then .next s
  else
    let s := s.modTime fun t => { t with onAonRc := true }
    let s := (s.clockBit ckXT32_FAIL).incPar oDevice Pid.Device.XT32_FAIL_COUNT
    .next (s.recordAwake oDevice rcFault 0x0A
      [.par oDevice Pid.Device.CLOCK_STATUS, .par oDevice Pid.Device.XT32_FAIL_COUNT])

/-- XT32_RETURN: the crystal has passed the check for 2 s (R293). -/
def execXt32Return (s : State) : Host.Outcome State Fault Refusal :=
  if s.supply.cs == .off then .next s else .next (s.modTime fun t => { t with onAonRc := false })

/-- XT25_FAIL: the PLL moves to REF_RC (R294). -/
def execXt25Fail (s : State) : Host.Outcome State Fault Refusal :=
  if !s.coreClock || s.time.onRefRc then .next s
  else
    let s := s.modTime fun t => { t with onRefRc := true }
    let s := (s.clockBit ckXT25_FAIL).incPar oDevice Pid.Device.XT25_FAIL_COUNT
    .next ((s.record oDevice rcFault 0x0A
      [.par oDevice Pid.Device.CLOCK_STATUS, .par oDevice Pid.Device.XT25_FAIL_COUNT]).raise alFault)

/-- XT25_RETURN: XT25 has run within ±0.5 % of REF_RC for 1 s (R294). -/
def execXt25Return (s : State) : Host.Outcome State Fault Refusal :=
  if s.coreClock then .next (s.modTime fun t => { t with onRefRc := false }) else .next s

/-! ## The tick (R296, R297) -/

/-- The pair (T_L, A_L) is written into AON retention (R296). -/
def State.latchTick (s : State) (aon : Nat) (watch : Bool) : State :=
  let pair : TickLatch := { tick := s.time.tick, aon := BitVec.ofNat 48 aon,
                            offset := s.par oDevice Pid.Device.WALL_OFFSET, watch := watch }
  s.modTime fun t => { t with latch := some pair }

/-- TICK_LATCH: every 1 s (R296). -/
def execTickLatch (aon : BitVec 48) (s : State) : Host.Outcome State Fault Refusal :=
  if s.coreClock then .next (s.latchTick aon.toNat false) else .next s

/-- TICK_JOURNAL: every 600 s a tick journal write is requested (R297). -/
def execTickJournal (s : State) : Host.Outcome State Fault Refusal :=
  if s.miller3 && !s.thermalLatched then .next (s.askOnce .tick .tickRecord 1) else .next s

/-- A tick journal record commits (R297). -/
def State.tickCommit (s : State) : State :=
  let s := s.setPar oDevice Pid.Device.TICK_CEILING (s.time.tick + 3600000000 : Nat)
  s.modTime fun t => { t with
    ceilingWritten := true, ceilingOffset := s.par oDevice Pid.Device.WALL_OFFSET, ceilingValid := t.wallValid }

/-- CEILING_LATE: the tick comes within 600 s of the ceiling (R297). -/
def execCeilingLate (s : State) : Host.Outcome State Fault Refusal :=
  if s.miller3 && s.time.ceilingWritten && !s.bit oDevice Pid.Device.CLOCK_STATUS ckCEILING_LATE &&
      (s.time.tick : Int) + 600000000 ≥ s.par oDevice Pid.Device.TICK_CEILING then
    .next ((s.clockBit ckCEILING_LATE).record oDevice rcFault 0x0A
      [.par oDevice Pid.Device.CLOCK_STATUS, .lit 0])
  else .next s

/-! ## The wall clock (R299 to R302) -/

/-- SLEW_REMAINING: the target minus WALL_NOW (R302). -/
def State.slewLeft (s : State) : Int :=
  match s.time.slew with
  | some w => w.target - s.par oDevice Pid.Device.WALL_OFFSET
  | none => 0

/-- TIME_SET's checks (R300). -/
def State.timeSetCheck (s : State) (p : Bytes) : Option (Nat × Nat) :=
  let mode := byteAt p 0
  let wall := fieldS p 4 8
  if p.length ≠ 12 then some (stBAD_LENGTH, 1)
  else if !zeros p 1 3 then some (stBAD_PARAM, 2)
  else if mode > 1 || wall < 0 || (mode = 1 && (wall - s.wallNow).natAbs > 60000000) then some (stRANGE, 3)
  else if s.thermalLatched then some (stLOCKED, 4)
  else none

/-- TIME_SET (R300): committed at acceptance. Its record bears the old wall time. -/
def opTimeSet (e : Op) (s : State) : State :=
  match s.timeSetCheck e.payload with
  | some (st, c) => s.fail e st c
  | none =>
    let mode := byteAt e.payload 0
    let wall := fieldS e.payload 4 8
    let old := s.wallNow
    let s := (s.opCommit e.id).record oDevice rcConfig 0x31 [.lit64 old, .lit64 wall, .lit mode]
    let offset := wall - s.time.tick
    let s := if mode = 0 then s.setPar oDevice Pid.Device.WALL_OFFSET offset else s
    let s := s.modTime fun t => { t with
      slew := if mode = 0 then none
        else some { target := offset, oldWall := old, newWall := wall, stepTick := s.time.tick }
      wallValid := true, wallSuspect := false }
    let s := (s.incPar oDevice Pid.Device.TIME_SET_COUNT).askOnce .tick .tickRecord 1
    s.ok e (leBytes 8 old ++ leBytes 8 wall ++ leBytes 8 s.time.tick)

/-- TIME_GET (R302): one instant. -/
def opTimeGet (e : Op) (s : State) : State :=
  if e.payload.length ≠ 0 then s.fail e stBAD_LENGTH 1
  else s.ok e (leBytes 8 s.time.tick ++ leBytes 8 s.wallNow ++
    leBytes 2 (s.read oDevice Pid.Device.CLOCK_STATUS) ++ leBytes 1 (s.par oDevice Pid.Device.TICK_SOURCE) ++ [0] ++
    leBytes 4 s.slewLeft)

/-- TIME_SET. -/
def execTimeSet (r : Req) (payload : Bytes) (s : State) : Host.Outcome State Fault Refusal :=
  .next (submitReq r 0x80 payload opTimeSet s)

/-- TIME_GET. -/
def execTimeGet (r : Req) (payload : Bytes) (s : State) : Host.Outcome State Fault Refusal :=
  .next (submitReq r 0x81 payload opTimeGet s)

/-- WALL_SLEW_STEP: WALL_OFFSET moves by 1 µs towards the target, at most once per 2000 µs of tick, and the slew ends there with a TIME
record (R301). -/
def execWallSlewStep (s : State) : Host.Outcome State Fault Refusal :=
  match s.time.slew with
  | none => .next s
  | some w =>
    if !s.coreClock || s.time.tick < w.stepTick + 2000 then .next s
    else
      let now := s.par oDevice Pid.Device.WALL_OFFSET
      let next := if now < w.target then now + 1 else if now > w.target then now - 1 else now
      let s := s.setPar oDevice Pid.Device.WALL_OFFSET next
      if next = w.target then
        .next ((s.modTime fun t => { t with slew := none }).record oDevice rcConfig 0x31
          [.lit64 w.oldWall, .lit64 w.newWall, .lit 1])
      else .next (s.modTime fun t => { t with
        slew := some { w with stepTick := s.time.tick - (s.time.tick - w.stepTick) % 2000 } })

/-! ## A halt by the debug port (R310) -/

/-- DEBUG_HALT: possible only in BLANK, DEVELOP and RETURN (R310). -/
def execDebugHalt (s : State) : Host.Outcome State Fault Refusal :=
  if s.coreClock && s.lcState != lcFIELD then .next (s.modTime fun t => { t with halted := true }) else .next s

/-- DEBUG_HALT_RELEASE (R310). -/
def execDebugHaltRelease (s : State) : Host.Outcome State Fault Refusal :=
  .next (s.modTime fun t => { t with halted := false })

end Sys2Proof.Machine
end

