-- ==== Sys2Proof/Machine/SequenceRows.lean ====
section
/-! DEFINITION. The events and commands of the sequencer, the COG line, the push button and MR_N (R239 to R261). -/

namespace Sys2Proof.Machine

/-! ## Rails on D2 (R239, R240, R396) -/

/-- A converted reading that fits its encoding; past it the manual states no value (log entry 13). -/
def State.setReading (s : State) (o pid : Nat) (v : Int) : State :=
  match findDesc o pid with
  | some d => s.setPar o pid
      (if d.lo ≤ v ∧ v ≤ d.hi then v else d.lo + Config.counterPastEnd o pid % (d.hi - d.lo + 1))
  | none => s

/-- A mantissa × 2^exponent in units of `1/scale`, rounded to the nearest (R396). -/
def linear (m e scale : Int) : Int :=
  if e ≥ 0 then m * scale * 2 ^ e.toNat else roundDiv (m * scale) (2 ^ (-e).toNat)

/-- A LINEAR11 word in units of `1/scale` (R396). -/
def linear11 (w : BitVec 16) (scale : Int) : Int :=
  linear (w.setWidth 11).toInt ((w >>> 11).setWidth 5).toInt scale

/-- PG of a D2 rail reads low (R239, R245, R247). Of a good rail it is a drop that RAIL_FAULT may end. -/
def State.pollLow (s : State) (v : Nat) : State :=
  if (s.rail v).good then
    if s.brakeSeen then s.downFail v else s.modRail v fun r => { r with pg := false }
  else s.pgFall v

/-- PG of a D2 rail reads high; a good rail whose drop was shorter than FAULT_FILTER only counts it (R245). -/
def State.pollHigh (s : State) (v : Nat) : State :=
  if (s.rail v).pg then s
  else if (s.rail v).good then
    (s.modRail v fun r => { r with pg := true }).incPar (oRail v) Pid.Rail.CHATTER_COUNT
  else s.pgRise v

/-- RAIL_POLL: a D2 rail's stage is read for power-good or voltage (R239, R240). -/
def execRailPoll (v : Fin 32) (x : RailRead) (elapsedUs : Word) (s : State) : Host.Outcome State Fault Refusal :=
  let v := v.val
  let n := s.polOf v
  if !s.miller3 || !isD2 v || !((s.rail v).en || (s.rail v).discharging) then .next s
  else
    let x := if s.polDead n then .failed else x
    match x with
    | .statusWord w =>
      let s := s.setPar (oPol n) Pid.Pol.POL_STATUS_WORD w.toNat
      .next (if w.getLsbD 11 then s.pollLow v else s.pollHigh v)
    | .vout m =>
      let volts := linear m.toNat (s.par (oPol n) Pid.Pol.VOUT_EXP) 100000
      let s := s.setReading (oPol n) Pid.Pol.VOUT volts
      if (s.rail v).discharging && volts < s.par (oRail v) Pid.Rail.DISCHARGE_THRESH then
        .next (s.railEmpty v elapsedUs.toNat)
      else .next s
    | .operationFailed =>
      let s := s.modPol n fun a => { a with sent := [] }
      .next (((s.polFail n).setBit (oRail v) Pid.Rail.RAIL_STATUS rlCOMM).pollLow v)
    | .failed =>
      .next (((s.polFail n).setBit (oRail v) Pid.Rail.RAIL_STATUS rlCOMM).pollLow v)

/-! ## Walks and the Brake (R243 to R249) -/

/-- POWER_UP_WALK_START: the configuration is applied, no SAFE_HOLD cause is present and the unit rests at 31
(R243). A unit on the line, or joining it, starts with its reset. -/
def execPowerUpWalkStart (s : State) : Host.Outcome State Fault Refusal :=
  if s.miller3 && s.shelfState == ssStartup && s.shelf.configApplied && !s.safeHold && s.restsAt 31 &&
      s.seq.walk == .none && !s.seq.attached then .next (s.enterSeq 0)
  else .next s

/-- RAIL_FAULT: PG of a good rail has stayed low for FAULT_FILTER (R245). -/
def execRailFault (v : Fin 32) (s : State) : Host.Outcome State Fault Refusal :=
  let v := v.val
  if s.running && (s.rail v).good && s.enabled (oRail v) && !s.brakeSeen then
    let s := s.modRail v fun r => { r with pg := false, good := false, faulted := true }
    let s := ((s.setBit (oRail v) Pid.Rail.RAIL_STATUS rlFAULT).railRecord v).raise alFault
    .next (s.brakeCause bkRAIL_FAULT .byRule)
  else .next s

/-- STATE_WORK_FINISHED: every listed object of the state is finished and STEP_MIN has passed (R244, R247,
R253). -/
def execStateWorkFinished (s : State) : Host.Outcome State Fault Refusal :=
  if s.miller3 && s.workReady then .next s.finishWork.powerOnDue else .next s

/-- PFW_TIME: PFW_TIME after a rail or thermal cause the shelf enters BRAKING (R246). -/
def execPfwTime (s : State) : Host.Outcome State Fault Refusal :=
  if s.running && s.seq.pfwRunning then .next (s.enterBraking .byRule) else .next s

/-! ## The COG line (R253 to R257) -/

/-- A step or reset out of 31 is a power-on request; the state's work waits for the restart (R253, R259). It ends the work of state 31,
where COG_HOLD_MAX had left that unfinished, and with it the Brake sequence (R249, R256; log entry 67). -/
def State.cogUp (s : State) : State :=
  let s := if s.seqState = 31 && s.brakeOpen then s.brakeComplete else s
  if s.shelfState == ssBraking && s.seq.complete then (s.l3Restart lrPOWER_ON).cogStep 0
  else s.cogStep 0

/-- A request counted at a rest state: 15 to 16, or 31 to 0. -/
def State.cogRequest (s : State) : State :=
  if s.seqState = 15 then
    if s.shelfState == ssBraking then s.cogStep 16 else s.brakeCause bkGROUP_STEP .stepped
  else s.cogUp

/-- A reset counted: every unit enters state 0. -/
def State.cogReset (s : State) : State := (s.setBit oShelf Pid.Shelf.COG_STATUS cgRESET_SEEN).cogUp

/-- COG_RISE: the line rises. In a working state it is a step; at a rest state the line rests high (R253). A joining unit that sees
one waits (R255). Work of state 31 that COG_HOLD_MAX left unfinished goes on (R249, R256). -/
def execCogRise (s : State) : Host.Outcome State Fault Refusal :=
  if !s.running || s.seq.holding || s.seq.pulse != .none then .next s
  else
    let s := s.modSeq fun q => { q with lineLow := false }
    if s.seqPhase == sqJOINING then .next (s.modSeq fun q => { q with joinWait := true })
    else if !s.seq.attached || s.seqPhase == sqREST then .next s
    else
      let n := s.seqState
      if n = 15 ∨ n = 31 then
        let s := (s.setPar oShelf Pid.Shelf.SEQ_PHASE sqREST).modSeq fun q =>
          { q with walk := if q.workDone then .none else q.walk }
        .next s.powerOnDue
      else .next (s.cogStep s.nextSeqState)

/-- COG_LOW_END: a low from rest that the unit did not drive ends and is classified (R253); one that a joining
unit watches makes it wait (R255). A power-on request that waited for the line is sent then (R259). -/
def execCogLowEnd (us : Nat) (s : State) : Host.Outcome State Fault Refusal :=
  if !s.running || s.seq.holding || s.seq.pulse != .none then .next s
  else
    let s := s.modSeq fun q => { q with lineLow := false }
    if s.seqPhase == sqJOINING then .next (s.modSeq fun q => { q with joinWait := true })
    else if !s.seq.attached || s.seqPhase != sqREST then .next s
    else if us < 10 then .next s.powerOnDue
    else if us < 200 then .next s.cogRequest
    else if us < 1000 then .next (s.setBit oShelf Pid.Shelf.COG_STATUS cgGLITCH).powerOnDue
    else .next s.cogReset

/-- COG_PULSE_END: a pulse of this unit ends; its own step or reset is counted too (R253, R255). -/
def execCogPulseEnd (s : State) : Host.Outcome State Fault Refusal :=
  let p := s.seq.pulse
  if !s.running || p == .none then .next s
  else
    let s := s.modSeq fun q => { q with pulse := .none, lineLow := false }
    if p == .request then .next s.cogRequest
    else .next (s.modSeq fun q => { q with attached := true, detached := false, joinWait := false }).cogReset

/-- COG_HOLD_MAX: the unit has held COG for COG_HOLD_MAX in one state (R256). The unfinished work of state 31 in a Brake goes on with the
line released, since that completes the Brake sequence (R249; log entry 67). -/
def execCogHoldMax (s : State) : Host.Outcome State Fault Refusal :=
  if !s.running || !s.seq.attached || !s.seq.holding || s.seq.actHold then .next s
  else
    let late := (s.upRails s.seqState).filter fun v => !(s.rail v).good && !(s.rail v).timedOut
    let s := s.setBit oShelf Pid.Shelf.COG_STATUS cgHOLD_LIMIT
    let s := if s.seqState < 16 then
      s.eachOf late fun v s =>
        (s.modRail v fun r => { r with timedOut := true }).setBit (oRail v) Pid.Rail.RAIL_STATUS rlNOT_GOOD
      else s
    .next ((s.modSeq fun q => { q with holding := false, workDone := !(s.seqState = 31 && s.brakeOpen) }).setPar
      oShelf Pid.Shelf.SEQ_PHASE sqREADY)

/-- COG_STALL: the line has stayed low for COG_STALL_TIME while this unit does not hold it (R257). -/
def execCogStall (s : State) : Host.Outcome State Fault Refusal :=
  if !s.running || !s.seq.attached || s.seq.holding || s.seq.pulse != .none then .next s
  else
    let s := (s.cogLeave true false).setBit oShelf Pid.Shelf.COG_STATUS cgSTALL
    let s := s.seqRecord.raise alFault
    if s.seqPhase == sqREADY then .next s.stepAlone.powerOnDue else .next s.powerOnDue

/-- May a unit join the line: COG_ENABLE is 1, no SAFE_HOLD cause keeps the walk from starting (R243), and no Brake has stopped it or
has taken the unit off the line (R254, R265)? -/
def State.mayJoin (s : State) : Bool :=
  s.par oShelf Pid.Shelf.COG_ENABLE == 1 && !s.seq.pfwRunning && !s.seq.byBrake && !s.safeHold

/-- COG_JOIN_WATCH: the line has been high for 2 ms. A joining unit drives a reset; a unit detached by a stall or a
join timeout begins to join from rest (R255). -/
def execCogJoinWatch (s : State) : Host.Outcome State Fault Refusal :=
  if !s.running || !s.mayJoin || s.seq.pulse != .none then .next s
  else if s.seqPhase == sqJOINING then .next ((s.modSeq fun q => { q with joinWait := false }).cogPulse .reset)
  else if s.seq.detached && s.seqPhase == sqREST then .next s.cogJoin
  else .next s

/-- COG_JOIN_TIMEOUT: the join has not come about; the unit detaches and walks alone (R255). -/
def execCogJoinTimeout (s : State) : Host.Outcome State Fault Refusal :=
  if !s.running || s.seqPhase != sqJOINING || s.seq.pulse != .none then .next s
  else
    let s := (s.cogLeave true false).setPar oShelf Pid.Shelf.SEQ_PHASE sqREST
    if (s.seqState = 31 || s.seqState = 0 && s.seq.walk == .none) && !s.brakeSeen && !s.safeHold then .next (s.enterSeq 0)
    else if s.seq.walk != .none then .next (s.setPar oShelf Pid.Shelf.SEQ_PHASE sqWORK)
    else .next s

/-! ## The push button and MR_N (R250 to R252) -/

/-- PB_PRESS: a press is classified at its release (R250). One in WATCH wakes the device (WATCH_WAKE). -/
def execPbPress (ms : Nat) (s : State) : Host.Outcome State Fault Refusal :=
  if !s.running || ms < 50 then .next s
  else if ms < 2000 then
    .next ((s.incPar oShelf Pid.Shelf.PB_EVENTS).seqRecord.powerOnRequest).2
  else if (ms : Int) < s.par oShelf Pid.Shelf.PB_LONG_TIME * 1000 then .next s.seqRecord
  else .next s

/-- The force-off of R251: every output off at once, PFW_N low, COG released; only the page being programmed
completes. -/
def State.forceOff (s : State) (cause : ResetCause) (code : Nat) : State :=
  let cut := s.cutNvm
  let s := (s.psdOutputsOff.csReset cause).setPar oShelf Pid.Shelf.SHUTDOWN_CAUSE code
  { s with nvm := { cut.nvm with saves := s.nvm.saves } }

/-- FORCE_OFF: PB_N has been held for PB_LONG_TIME (R250, R251). It has no effect in THERMAL_LATCHED. -/
def execForceOff (s : State) : Host.Outcome State Fault Refusal :=
  if s.supply.cs == .off || s.supply.cs == .reset || s.shelf.latched then .next s
  else .next (s.forceOff .forceOff 5)

/-- MR_N: low for 1 ms (R252). -/
def execMrN (s : State) : Host.Outcome State Fault Refusal :=
  if s.supply.cs == .off || s.supply.cs == .reset then .next s else .next (s.forceOff .mrN 6)

/-! ## SEQ_POWER_OFF and SEQ_STEP (R260, R261) -/

/-- SEQ_POWER_OFF's checks (R260). -/
def State.powerOffCheck (s : State) (p : Bytes) : Option (Nat × Nat) :=
  let group := byteAt p 0 = 1
  if p.length ≠ 4 then some (stBAD_LENGTH, 1)
  else if !zeros p 1 3 then some (stBAD_PARAM, 2)
  else if byteAt p 0 > 1 then some (stRANGE, 3)
  else if s.thermalLatched then some (stLOCKED, 4)
  else if group && (s.par oShelf Pid.Shelf.COG_ENABLE == 0 || s.seq.detached) then
    some (stREFUSED, frPRECONDITION)
  else if group && !(s.seq.attached && s.restsAt 15) then some (stBUSY, 6)
  else none

/-- SEQ_POWER_OFF (R260): committed on acceptance, answered when the Brake sequence completes. -/
def opSeqPowerOff (e : Op) (s : State) : State :=
  match s.powerOffCheck e.payload with
  | some (st, c) => s.reply e st c []
  | none =>
    let s := s.opCommit e.id
    let already := s.shelfState == ssBraking
    if already && s.seq.complete then
      s.ok e (leBytes 1 1 ++ leBytes 1 (s.railFlags rlSTUCK + s.railFlags rlDOWN_FAIL : Nat) ++ [0, 0])
    else
      let s := s.modSeq fun q => { q with offOps := q.offOps ++ [(e.id, if already then 1 else 0)] }
      if already then s
      else s.brakeCause bkPOWER_OFF (if byteAt e.payload 0 = 1 then .group else .local)

/-- SEQ_STEP's checks (R261). -/
def State.stepCheck (s : State) (p : Bytes) : Option (Nat × Nat) :=
  if p.length ≠ 4 then some (stBAD_LENGTH, 1)
  else if !zeros p 1 3 then some (stBAD_PARAM, 2)
  else if byteAt p 0 < 1 || byteAt p 0 > 31 then some (stRANGE, 3)
  else if !s.testMaint then some (stLOCKED, 4)
  else if s.seq.attached then some (stREFUSED, frPRECONDITION)
  else if (s.seq.walk != .none && !s.seq.workDone) || s.seq.stepOp.isSome then some (stBUSY, 6)
  else none

/-- SEQ_STEP (R261): the sequencer enters MANUAL and takes COUNT steps. -/
def opSeqStep (e : Op) (s : State) : State :=
  match s.stepCheck e.payload with
  | some (st, c) => s.reply e st c (if st = stREFUSED then s.stepPayload else [])
  | none =>
    let s := s.opRunning e
    let s := s.modSeq fun q => { q with walk := .manual, stepsLeft := byteAt e.payload 0, stepOp := some e.id }
    s.stepTaken.enterSeq s.nextSeqState

/-- SEQ_POWER_ON. -/
def execSeqPowerOn (r : Req) (payload : Bytes) (s : State) : Host.Outcome State Fault Refusal :=
  .next (submitReq r 0x70 payload opSeqPowerOn s)

/-- SEQ_POWER_OFF. -/
def execSeqPowerOff (r : Req) (payload : Bytes) (s : State) : Host.Outcome State Fault Refusal :=
  .next (submitReq r 0x71 payload opSeqPowerOff s)

/-- SEQ_STEP. -/
def execSeqStep (r : Req) (payload : Bytes) (s : State) : Host.Outcome State Fault Refusal :=
  .next (submitReq r 0x72 payload opSeqStep s)

end Sys2Proof.Machine
end

