-- ==== Sys2Proof/Machine/Downstream.lean ====
section
/-! DEFINITION. The downstream ports, the point-of-load stages and the satellites (R391 to R399, R414, R415). -/

namespace Sys2Proof.Machine

/-! ## Frames and recovery (R392 to R394) -/

/-- DS_STATUS sticky bits (Table 15-11). -/
abbrev dsNACK : Nat := 0
abbrev dsTIMEOUT : Nat := 1
abbrev dsARB_LOST_ADDR : Nat := 2
abbrev dsARB_LOST_DATA : Nat := 3
abbrev dsSCL_LOW : Nat := 5

/-- A frame error (R392). -/
def State.frameError (s : State) (d : Nat) : State :=
  (s.modDown d fun a => { a with losses := 0 }).incPar (oDown d) Pid.Down.FRAME_ERRORS

/-- Arbitration is lost: the eighth loss in a row of one frame is a frame error (R392, R394). -/
def State.arbLost (s : State) (d bit last : Nat) : State :=
  let o := oDown d
  let s := ((s.setBit o Pid.Down.DS_STATUS bit).incPar o Pid.Down.ARB_LOST_COUNT).setPar o Pid.Down.LAST_ARB last
  let s := s.modDown d fun a => { a with losses := a.losses + 1 }
  if (s.down d).losses ≥ 8 then s.frameError d else s

/-- DS_FRAME: a downstream port issues a frame (R392, R394). -/
def execDsFrame (port : Fin 4) (x : FrameEnd) (s : State) : Host.Outcome State Fault Refusal :=
  let d := port.val
  if !s.downReady d then .next s
  else match x with
    | .ok => .next ((s.modDown d fun a => { a with losses := 0 }).incPar (oDown d) Pid.Down.FRAMES)
    | .nack => .next ((s.setBit (oDown d) Pid.Down.DS_STATUS dsNACK).frameError d)
    | .arbLostAddr =>
      let (bit, s) := s.draw
      .next (s.arbLost d dsARB_LOST_ADDR (0xFF00 + (bit % 256).toNat))
    | .arbLostData byte bit => .next (s.arbLost d dsARB_LOST_DATA (byte.toNat * 256 + bit.val))

/-- DS_FRAME_ABANDON: SCL has stayed low for 35 ms in a frame (R392). -/
def execDsFrameAbandon (port : Fin 4) (s : State) : Host.Outcome State Fault Refusal :=
  let d := port.val
  if s.downReady d then .next ((s.setBit (oDown d) Pid.Down.DS_STATUS dsTIMEOUT).frameError d) else .next s

/-- The PORT record (Table 12-3). -/
def State.portRecord (s : State) (d : Nat) : State :=
  s.record (oDown d) rcFault 0x0E
    [.par (oDown d) Pid.Down.DS_STATUS, .par (oDown d) Pid.Down.DS_STATE, .par (oDown d) Pid.Down.RECOVERIES]

/-- The modules that a port serves (R183). -/
def State.modulesOn (s : State) (d : Nat) : List Nat :=
  if d < 2 then (List.range 32).filterMap fun i =>
    let m := 32 * d + i
    if s.configured m then some m else none
  else []

/-- A module whose port has stuck is COMM_LOST (Table 7-15). -/
def State.moduleSilent (s : State) (m : Nat) : State :=
  if (s.module m).commLost then s
  else (s.modModule m fun a => { a with commLost := true, lostSince := s.time.tick }).moduleRecord m

/-- A recovery that fails puts the port in FAULT (R393). -/
def State.portFault (s : State) (d : Nat) (stuck : Bool) : State :=
  let o := oDown d
  let s := s.modDown d fun a => { a with busStuck := stuck, sclLow := !stuck }
  let s := if stuck then s else s.setBit o Pid.Down.DS_STATUS dsSCL_LOW
  if s.par o Pid.Down.DS_STATE == dsFAULT then s
  else
    let s := ((s.setPar o Pid.Down.DS_STATE dsFAULT).setObj o osFailed).latchFault o [flComm]
    let s := s.portRecord d
    s.eachOf (s.modulesOn d) fun m s => s.moduleSilent m

/-- Does a port work on its bus: it is enabled, or it is D3 with the identity read of STARTUP to make (R30)? -/
def State.busWorks (s : State) (d : Nat) : Bool :=
  s.enabled (oDown d) || (d == 3 && s.shelfState == ssStartup && !s.shelf.configApplied)

/-- BUS_RECOVERY: a port recovers its bus with up to nine clocks, freed as soon as SDA reads high (R393). -/
def execBusRecovery (port : Fin 4) (x : RecoveryEnd) (s : State) : Host.Outcome State Fault Refusal :=
  let d := port.val
  let o := oDown d
  if !s.running || !s.busWorks d then .next s
  else
    let s := s.incPar o Pid.Down.RECOVERIES
    match x with
    | .clocked sda =>
      if (sda.take 9).any id then
        let s := s.modDown d fun a => { a with recovered := true, busStuck := false, sclLow := false }
        if s.par o Pid.Down.DS_STATE == dsFAULT then
          .next ((((s.setPar o Pid.Down.DS_STATE dsIDLE).setObj o osActive).clearFaults o).portRecord d)
        else .next s
      else .next (s.portFault d true)
    | .sclLow => .next (s.portFault d false)

/-! ## Point-of-load stages (R395 to R397) -/

/-- POL_IDENTIFY: PMBUS_REVISION and VOUT_MODE are read (R396). -/
def execPolIdentify (pl : Fin 32) (x : Option (Byte × Byte)) (s : State) : Host.Outcome State Fault Refusal :=
  let n := pl.val
  let o := oPol n
  if !s.miller3 || s.par o Pid.Pol.POL_ADDR == 0 then .next s
  else if s.objSt (oDown 2) == osFailed || !s.enabled (oDown 2) then .next (s.polFail n)
  else match x with
    | none => .next (s.polFail n)
    | some (rev, mode) =>
      let s := s.setPar o Pid.Pol.PMBUS_REV rev.toNat
      if mode.toNat / 32 = 0 then
        .next ((s.modPol n fun a => { a with badMode := false }).setPar o Pid.Pol.VOUT_EXP (mode.setWidth 5).toInt)
      else .next (s.modPol n fun a => { a with badMode := true })

/-- POL_POLL: READ_IOUT and READ_TEMPERATURE_1 every 100 ms (R395, R396). -/
def execPolPoll (pl : Fin 32) (x : Option (BitVec 16 × BitVec 16)) (s : State) : Host.Outcome State Fault Refusal :=
  let n := pl.val
  let o := oPol n
  if !s.miller3 || s.par o Pid.Pol.POL_ADDR == 0 then .next s
  else if s.polDead n then .next (s.polFail n)
  else match x with
    | none => .next (s.polFail n)
    | some (i, t) =>
      .next ((s.setReading o Pid.Pol.IOUT (linear11 i 10000)).setReading o Pid.Pol.TEMP (linear11 t 128))

/-! ## Satellites (R414, R415) -/

/-- SAT_RESULT codes (Table 16-9). -/
abbrev srRUNNING : Nat := 1
abbrev srSIGNATURE : Nat := 2
abbrev srHW_ID : Nat := 3
abbrev srNO_IMAGE : Nat := 4
abbrev srLOAD : Nat := 5
abbrev srNO_REPLY : Nat := 6

/-- The image of a satellite: a pending one in preference to the active one. -/
def State.satImage (s : State) (n : Nat) : Option SatImage :=
  let active := if vget s.upd.satHalf n false then 1 else 0
  let half := if vget s.upd.satPending n false then 1 - active else active
  s.upd.satImages.find? fun x => x.slot == half * 8 + n

/-- Does an image's signature verify: over its other bytes, the SAT index and HW_ID (R402)? -/
def State.satSigOk (s : State) (n : Nat) (x : SatImage) : Bool :=
  let base := 0x300000 + (x.slot / 8) * 0x80000 + (x.slot % 8) * 0x10000
  s.readable base x.len && Config.verifyImage x.dev (s.mramBytes base (x.len - 96) ++ leBytes 1 n ++ leBytes 2 x.hwId)
    (s.mramBytes (base + (x.len - 96)) 96)

/-- A satellite is held in reset: FAILED, with its record and ALERT (R415, R421). -/
def State.satHeld (s : State) (n result bit : Nat) : State :=
  let o := oSat n
  let s := s.modSat n fun a => { a with running := false, noReply := result == srNO_REPLY }
  let s := ((s.setPar o Pid.Sat.SAT_RESULT result).setObj o osFailed).latchFault o [bit]
  s.updRecord 0x08 n 0

/-- A pending image that passes becomes the active one, through its selector. -/
def State.satSelect (s : State) (n : Nat) : State :=
  if vget s.upd.satPending n false then
    { s with upd := { s.upd with
      satPending := vmod s.upd.satPending n fun _ => false
      satHalf := vmod s.upd.satHalf n fun b => !b } : State }.askConfig (oSat n)
  else s

/-- Is a satellite to be loaded: enabled in the cascaded configuration, and neither running nor held? -/
def State.satDue (s : State) (n : Nat) : Bool :=
  s.par oDevice Pid.Device.CONFIGURATION == 1 && s.enabled (oSat n) && s.shelf.configApplied &&
    s.objSt (oSat n) != osActive && s.objSt (oSat n) != osFailed

/-- The 7-bit address of a satellite (R415). -/
def satAddr (n : Nat) : Nat := 0x30 + n

/-- Command codes (Table 16-7). -/
abbrev sbIDENT : Nat := 0x01
abbrev sbLOAD : Nat := 0x10
abbrev sbRUN : Nat := 0x11
abbrev sbRESET : Nat := 0x12

/-- The data of an SB_IDENT frame. -/
def satIdent (n : Nat) (rx : Bytes) : Option Bytes := readFrame (satAddr n) sbIDENT (fun len => len == 8) rx

/-- Does SB_IDENT report RUNNING? -/
def satRuns (d : Bytes) : Bool := byteAt d 2 == 2

/-- The SB_LOAD frames of an image, 128 bytes each; what fills the last one is free (log entry 68). -/
def satLoads (n : Nat) (image fill : Bytes) : List Bytes :=
  (List.range ((image.length + 127) / 128)).map fun i =>
    let data := ((image.drop (128 * i)).take 128 ++ fill).take 128
    writeFrame (satAddr n) sbLOAD (leBytes 4 (128 * i : Nat) ++ leBytes 4 (crc32c data).toNat ++ data)

/-- The SB_RUN frame of an image. -/
def satRun (n : Nat) (image : Bytes) : Bytes :=
  writeFrame (satAddr n) sbRUN (leBytes 4 image.length ++ leBytes 4 (crc32c image).toNat)

/-- The frames of a load: SB_RESET for a satellite that runs, the SB_LOAD frames up to the first that fails, and SB_RUN
where all of them passed. -/
def satFrames (n : Nat) (runs : Bool) (a : SatAnswer) (loads : List Bytes) (image : Bytes) : List Bytes :=
  let reset := if runs then [writeFrame (satAddr n) sbRESET [0xA5, 0x5A]] else []
  if runs && !a.resetOk then reset
  else reset ++ loads.take (a.loads + 1) ++ (if loads.length ≤ a.loads then [satRun n image] else [])

/-- Has a satellite taken its image: SB_RESET and every SB_LOAD are acknowledged? -/
def satLoaded (runs : Bool) (a : SatAnswer) (loads : List Bytes) : Bool :=
  (!runs || a.resetOk) && decide (loads.length ≤ a.loads)

/-- Does it run the image: SB_RUN is acknowledged and RUNNING reported? -/
def satStarted (n : Nat) (a : SatAnswer) : Bool := a.runOk && a.status.any fun rx => ((satIdent n rx).map satRuns).getD false

/-- The bytes of an image that are loaded: its section but the signature (log entry 68). -/
def State.satBytes (s : State) (x : SatImage) : Bytes :=
  s.mramBytes (0x300000 + (x.slot / 8) * 0x80000 + (x.slot % 8) * 0x10000) (x.len - 96)

/-- An image that has passed is sent to a satellite and run. -/
def State.satSend (s : State) (n : Nat) (runs : Bool) (a : SatAnswer) (img : SatImage) : State :=
  let o := oSat n
  let image := s.satBytes img
  let (fill, s) := s.drawBytes 128
  let loads := satLoads n image fill
  let s := s.modSat n fun x => { x with sent := satFrames n runs a loads image }
  if !satLoaded runs a loads then s.satHeld n srLOAD flComm
  else
    let s := (s.incPar o Pid.Sat.SAT_LOADS).setPar o Pid.Sat.SAT_IMAGE_VER img.version
    if !satStarted n a then s.satHeld n srLOAD flComm
    else
      let s := s.modSat n fun x => { x with running := true, noReply := false }
      ((s.setPar o Pid.Sat.SAT_RESULT srRUNNING).clearFaults o).setObj o osActive

/-- SATELLITE_LOAD: a satellite's image is verified, loaded and run over D3 (R415). -/
def execSatelliteLoad (n : Fin 8) (x : SatAnswer) (s : State) : Host.Outcome State Fault Refusal :=
  let n := n.val
  let o := oSat n
  let dead := s.objSt (oDown 3) == osFailed || !s.enabled (oDown 3)
  if !s.miller3 || !s.satDue n then .next s
  else match (if dead then none else (x.ident.take 2).findSome? (satIdent n)) with
    | none => .next (s.satHeld n srNO_REPLY flComm)
    | some d =>
      let s := s.setPar o Pid.Sat.SAT_HW_ID (fieldU d 0 2)
      match s.satImage n with
      | none => .next (s.satHeld n srNO_IMAGE flAuth)
      | some img =>
        if !s.satSigOk n img then .next (s.satHeld n srSIGNATURE flAuth)
        else if img.hwId ≠ fieldU d 0 2 then .next (s.satHeld n srHW_ID flAuth)
        else .next ((s.satSelect n).satSend n (satRuns d) x img)

/-- SATELLITE_RETRY: a satellite that did not answer is tried again after 10 s (R415). -/
def execSatelliteRetry (n : Fin 8) (s : State) : Host.Outcome State Fault Refusal :=
  let n := n.val
  if s.miller3 && (s.sat n).noReply && s.enabled (oSat n) then
    .next ((s.modSat n fun a => { a with noReply := false }).setObj (oSat n) osStarting)
  else .next s

end Sys2Proof.Machine
end

