-- ==== Sys2Proof/Machine/Nvm.lean ====
section
/-! DEFINITION. Non-volatile writes: what Fantail asks of one, its grant, its deferral, its pages and its commit; the
capacitance test (R228, R229, R271, R272, R279 to R281, R297, R339, R411). -/

namespace Sys2Proof.Machine

/-! ## Conditions of a grant (Table 8-4) -/

/-- Fantail reasons of scheduled work (Table 8-2). -/
abbrev frMILLPOND : Nat := 0x03
abbrev frBUSY : Nat := 0x04
abbrev frSAVE_UNPROVEN : Nat := 0x09

/-- The usable energy of R272 in units of 10^-19 mJ, not rounded. -/
def State.milliExact (s : State) : Int :=
  let v := s.par oDevice Pid.Device.VHOLD_NOW
  if s.choldUnsafe then 0
  else max 0 (475 * s.choldUsed * (v * v - 650000 * 650000) - 12 * 10 ^ 19)

/-- Twice the energy of a write of so many pages, 1.8 mJ each, in units of 10^-19 mJ (R281). -/
def writeMargin (pages : Nat) : Int := (pages : Int) * 36 * 10 ^ 18

/-- Is the Millpond short for a write of so many pages (R228, R273)? -/
def State.millShort (s : State) (pages : Nat) : Bool :=
  s.supply.sag || decide (s.milliExact < writeMargin pages)

/-- The writes that R339 exempts from SAVE_UNPROVEN: the tick journal, the bank state of a check-in and the
recorder's mirror. -/
def exemptWrite (r : NvmReq) : Bool := r.kind == .tick || r.kind == .checkin || r.kind == .mirror

/-- A record is written at most once per second (R280). -/
def State.rateOk (s : State) (w : NvmWork) : Bool :=
  (recordKeys w ++ s.bankKeys w).all fun k => !s.nvm.written.any fun e => e.1 == k && decide (s.time.tick < e.2 + 1000000)

/-- The records that a commit writes take their slots, and when they were written is noted (R280). -/
def State.noteWritten (s : State) (w : NvmWork) : State :=
  let ks := recordKeys w
  let l := ks.map (fun k => (k, s.time.tick)) ++ s.nvm.written.filter fun e => !ks.contains e.1
  let s := s.eachOf (s.journalKeys w) fun k s => s.journalWrite k
  { s with nvm := { s.nvm with written := l } }

/-- Is a write, or the capacitance test, in progress? -/
def State.nvmBusy (s : State) : Bool := s.nvm.active.isSome || s.supply.cholds

/-- A write of objects' configuration records, which waits until the stored configuration has been applied: what it
writes is not in force before (log entry 29). -/
def isConfigWork (w : NvmWork) : Bool :=
  match w with
  | .configObjects _ => true
  | _ => false

/-- The first condition that keeps a request from its grant (Table 8-4, R271). -/
def State.nvmBlock (s : State) (r : NvmReq) : Option Nat :=
  if s.nvmBusy then some frBUSY
  else if r.work == .choldTest then
    (if s.supply.sag then some frMILLPOND
     else if !s.supply.vauxGood || s.par oDevice Pid.Device.VHOLD_NOW < 1180000 then some frMILLPOND
     else none)
  else if s.millShort r.pages then some frMILLPOND
  else if !s.shelf.configApplied && isConfigWork r.work then some frBUSY
  else if r.work == .saveApplied && !s.nvm.unjournaled.isEmpty then some frBUSY
  else if !s.mayLearn && r.kind == .battery then some frBUSY
  else if s.supply.unproven && !exemptWrite r then some frSAVE_UNPROVEN
  else if !s.rateOk r.work then some frBUSY
  else none

/-! ## The order of grants (R229, R297, R411) -/

/-- The place of a kind in the order of grants. -/
def kindRank (k : NvmKind) : Nat :=
  match k with
  | .checkin => 0 | .tick => 1 | .config => 2 | .battery => 3 | .counters => 4 | .mirror => 5 | .update => 6

/-- The first request in the order of grants that a test accepts. -/
def pickReq (ok : NvmReq → Bool) : List NvmReq → Option NvmReq
  | [] => none
  | r :: rest =>
    match pickReq ok rest with
    | none => if ok r then some r else none
    | some b => if ok r && decide (kindRank r.kind ≤ kindRank b.kind) then some r else some b

/-- Start a write: its operation can no longer be aborted, and the check-in timer stops at its own (R203, R411). -/
def State.startWrite (s : State) (r : NvmReq) : State :=
  let s := { s with nvm := { s.nvm with queue := s.nvm.queue.erase r } }
  let s := match r.op with
    | some id => s.opCommit id
    | none => s
  let s := if r.work == NvmWork.good then { s with upd := { s.upd with checkin := none } } else s
  if r.work == NvmWork.choldTest then { s with supply := { s.supply with cholds := true } }
  else { s with nvm := { s.nvm with active := some (r, r.pages) } }

/-- The write that a tick grants: at most one (R228). -/
def State.nvmPick (s : State) : Option NvmReq := pickReq (fun r => (s.nvmBlock r).isNone) s.nvm.queue

/-! ## Deferral (R219 to R221) -/

/-- A whole number of milliseconds, rounded up. -/
def ceilMs (us : Nat) : Nat := (us + 999) / 1000

/-- RETRY_MS of an estimate: held below the code for unknown, which it has where the estimate is not known (R28). -/
def retryMs (est : Option Nat) : Nat :=
  match est with
  | some e => min 65534 e
  | none => 0xFFFF

/-- The retry estimate of a reason in ms; none where it is not known (Table 8-2). -/
def State.nvmEstimate (s : State) (r : NvmReq) (reason : Nat) : Option Nat :=
  if reason = frBUSY then
    match s.nvm.active with
    | some (_, n) => some (ceilMs (n * 1200))
    | none => if s.supply.cholds then some 2 else some 1000
  else if reason = frMILLPOND then
    let now := s.milliExact
    match s.supply.millHistory.getLast? with
    | some old =>
      let rise := now - old
      if s.supply.millHistory.length < 100 || rise ≤ 0 || r.work == NvmWork.choldTest then none
      else some (((writeMargin r.pages - now) * 100 + rise - 1) / rise).toNat
    | none => none
  else none

/-- The outcome of a consumer that is not served (R219): DEFERRED with RETRY_MS, or none for REFUSED. The whole estimate is
held against the limit. -/
def deferral (est : Option Nat) (waitedMs limitMs : Nat) : Option Nat :=
  let fits := match est with
    | some e => decide (waitedMs + e ≤ limitMs)
    | none => decide (waitedMs < limitMs)
  if fits then some (retryMs est) else none

/-- How long a request has waited, in ms. -/
def State.waitedMs (s : State) (since : Nat) : Nat := (s.time.tick - since) / 1000

/-- What waits for a write that Fantail has refused is told so; its request ends (R221). -/
def State.refuseWrite (s : State) (r : NvmReq) (reason : Nat) : State :=
  let s := { s with nvm := { s.nvm with queue := s.nvm.queue.erase r } }
  let s := match r.work with
    | .good => { s with upd := { s.upd with checkinAsked := false } }
    | .repair arr row => s.modDresser fun d => { d with repairs := d.repairs.filter fun e => e != (arr, row) }
    | .staged => s.closeEnds
    | .saveApplied => s.askOnce .counters .saveApplied 1
    | _ => s
  match r.op.bind s.opOf with
  | some e =>
    if e.opcode = 0x61 then s.reply e stREFUSED reason (learnPut (byteAt e.payload 0) 0)
    else s.reply e stREFUSED reason []
  | none => s

/-- A deferred BATT_LEARN_COMMIT is answered at its first decision; its write stays queued (R203). -/
def State.deferWrite (s : State) (r : NvmReq) (reason retry : Nat) : State :=
  match r.op.bind s.opOf with
  | some e =>
    if e.opcode = 0x61 then
      let s := { s with nvm := { s.nvm with queue := s.nvm.queue.map fun (x : NvmReq) =>
        if x == r then { x with op := none } else x } }
      s.reply e stDEFERRED reason (learnPut (byteAt e.payload 0) retry)
    else s
  | none => s

/-- LEARN_DEFERRED of every string: a journal write of it waits (R197). -/
def State.learnWaits (s : State) : State :=
  s.each 4 fun k s =>
    let waits := s.nvm.queue.any (coversString k)
    let runs := match s.nvm.active with
      | some (r, _) => coversString k r
      | none => false
    s.modStr k fun a => { a with learnDeferred := waits || (a.learnDeferred && runs) }

/-- A battery write that waits for the host's confirmation gets no outcome (R201). -/
def State.writeHeld (s : State) (r : NvmReq) : Bool := !s.mayLearn && r.kind == .battery && r.op.isNone

/-- The outcomes of the requests that a tick does not grant: the reason, and RETRY_MS where it defers (R219). -/
def State.nvmLost (s : State) : List (NvmReq × Nat × Option Nat) :=
  let limit := (s.par oFantail Pid.Fantail.NVM_DEFER_LIMIT).toNat
  (s.nvm.queue.filter fun r => !s.writeHeld r).map fun r =>
    let reason := (s.nvmBlock r).getD frBUSY
    (r, reason, deferral (s.nvmEstimate r reason) (s.waitedMs r.since) limit)

/-- The outcomes of a tick's NVM writes: the one granted starts as granted (R238), and the others are answered. A request that
has gone meanwhile has none. -/
def State.publishWrites (s : State) (write : Option NvmReq) (lost : List (NvmReq × Nat × Option Nat)) : State :=
  let s := match write with
    | some r => if s.nvm.queue.contains r && !s.nvmBusy then s.startWrite r else s
    | none => s
  let s := lost.foldl (fun s e =>
    if s.nvm.queue.contains e.1 then
      match e.2.2 with
      | some retry => s.deferWrite e.1 e.2.1 retry
      | none => s.refuseWrite e.1 e.2.1
    else s) s
  s.learnWaits

/-! ## Commits -/

/-- A journal's copy of a parameter; the Reset value is not listed. -/
def State.copyPar (s : State) (l : List (Nat × Int)) (o pid : Nat) : List (Nat × Int) :=
  let k := keyOf o pid
  if s.par o pid = paramReset o pid then eraseKey k l else insertKey k (s.par o pid) l

/-- The parameters of an object that its configuration record holds. -/
def configPids (o : Nat) : List Nat :=
  ((descsOf o).filter fun d => d.src == .config).map (·.pid) ++
    (if o = oShelf then [Pid.Shelf.SHELF_ID] else [])

/-- CONFIG_GENERATION moves with every write of the configuration journal. -/
def State.configGen (s : State) : State :=
  s.updPar oShelf Pid.Shelf.CONFIG_GENERATION fun v => (seqAfter v.toNat : Int)

/-- The I–t points of a feeder's record are those of the active curve (R165); a DOWN_STATE of its own is listed whatever
its value (Table 6-10). -/
def State.copyCurve (s : State) (c : List (Nat × Int)) (f : Nat) : List (Nat × Int) :=
  let o := oFeeder f
  let c := if (s.feeder f).downOwn then insertKey (keyOf o Pid.Feeder.DOWN_STATE) (s.par o Pid.Feeder.DOWN_STATE) c else c
  (List.range 8).foldl (fun c k =>
    let ki := keyOf o (Pid.Feeder.IT_I + 2 * k)
    let kt := keyOf o (Pid.Feeder.IT_T + 2 * k)
    match (s.feeder f).curve[k]? with
    | some (i, t) => insertKey ki i (insertKey kt t c)
    | none =>
      if s.par o Pid.Feeder.IT_GEN > 0 then insertKey ki 0x7FFFFFFF (insertKey kt 0xFFFFFFFF c)
      else eraseKey ki (eraseKey kt c)) c

/-- The configuration records of some objects commit. -/
def State.configCommit (s : State) (l : List Nat) : State :=
  let cfg := l.foldl (fun c o =>
    let c := (configPids o).foldl (fun c pid => s.copyPar c o pid) c
    if objType o == .feeder then s.copyCurve c (o - 0x30) else c) s.nvm.config
  { s with nvm := { s.nvm with config := cfg } : State }.configGen

/-- A loop's active image (0) or FLOAT image (1) commits (R78). -/
def State.imageCommit (s : State) (n which : Nat) : State :=
  let img := if which = 0 then (s.loop n).bank (s.activeBank n) else (s.loop n).float
  match img with
  | some b =>
    { s with nvm := { s.nvm with images := ((n, which), b) :: s.nvm.images.filter fun e => e.1 != (n, which) }
      : State }.configGen
  | none => s.configGen

/-- The tracking values of a channel commit (R46). -/
def State.trackingCommit (s : State) (o : Nat) : State :=
  let cfg := insertKey (keyOf o pGainTrack) (s.par o pGainTrack)
    (insertKey (keyOf o pOffsetTrack) (s.par o pOffsetTrack) s.nvm.config)
  { s with nvm := { s.nvm with config := cfg } : State }.configGen

/-- The battery journal records of some strings commit (R197, R198), and scheduled writes of them are served with it; those of an applied save are journaled with it
(R278). -/
def State.batteryCommit (s : State) (ks : List Nat) (op : Option Nat) : State :=
  let s := { s with nvm := { s.nvm with unjournaled := s.nvm.unjournaled.filter fun k => !ks.contains k
                                        queue := s.nvm.queue.filter fun r => !servedBy ks r } }
  let s := s.eachOf ks fun k s =>
    let s := s.updPar (oString k) Pid.String.LEARN_WRITE_GEN fun v => (seqAfter v.toNat : Int)
    let s := { s with nvm := { s.nvm with battery := s.stringImage k s.nvm.battery } }
    s.eachOf (s.modulesOf k) fun m s => s.modModule m fun a => { a with changed := false }
  let s := s.learnWaits
  match op.bind s.opOf with
  | some e => s.ok e (s.learnPayload (byteAt e.payload 0))
  | none => s

/-- What a transaction does when its last page has been programmed. -/
def State.workCommit (s : State) (r : NvmReq) : State :=
  match r.work with
  | .tickRecord => s.tickCommit
  | .configObjects l => s.configCommit l
  | .loopImage n which => s.imageCommit n which
  | .triggers => { s with nvm := { s.nvm with triggers := s.grist.triggers } : State }.configGen
  | .shutdownCause =>
    { s with nvm := { s.nvm with config := s.copyPar s.nvm.config oShelf Pid.Shelf.SHUTDOWN_CAUSE } : State }.configGen
  | .tracking o => s.trackingCommit o
  | .battery l => s.batteryCommit l r.op
  | .counters => { s with nvm := { s.nvm with counters := s.counterImage } }
  | .gristMirror => s.mirrorCommit
  | .gristFirst => s.firstCommit
  | .gristClear => s.clearCommit r.op
  | .repair arr row => s.repairCommit arr row
  | .rewrite => s
  | .block o data => s.blockCommit o data r.op
  | .staged => s.stagedCommit r.op
  | .cancelBank => s.cancelCommit r.op
  | .activate => s.activateCommit
  | .good => s.checkinCommit
  | .saveApplied =>
    let g := (s.nvm.saves.map (·.gen)).foldl max s.nvm.saveApplied
    { s with nvm := { s.nvm with saveApplied := g } }
  | .choldTest => s

/-- The transaction in progress commits; a save that waited for it starts. -/
def State.commitActive (s : State) : State :=
  match s.nvm.active with
  | some (r, _) =>
    let s := { s with nvm := { s.nvm with active := none } }
    let s := ((s.noteWritten r.work).incPar oDevice Pid.Device.NVM_WRITE_COUNT).workCommit r
    if s.supply.cs == .saving then s.saveStart else s
  | none => s

/-- ROM recovery writes a page only while VHOLD_GOOD holds without SAG (R413). -/
def State.romMay (s : State) : Bool := decide (s.par oDevice Pid.Device.VHOLD_NOW ≥ 1100000) && !s.supply.sag

/-- In ROM recovery there is no Fantail: the first request starts (R413). -/
def State.romStart (s : State) : State :=
  if s.supply.cs == .rom && s.nvm.active.isNone then
    match s.nvm.queue with
    | r :: _ => s.startWrite r
    | [] => s
  else s

/-- Can a page be programmed: MRAM is powered, and the ROM may write? -/
def State.mramOn (s : State) : Bool :=
  s.supply.cs != .off && s.supply.cs != .watch && (s.supply.cs != .rom || s.romMay)

/-- NVM_PAGE_PROGRAM: a page that is not the last of its transaction has been programmed, or one of the save
(R276, R279). -/
def execNvmPageProgram (s : State) : Host.Outcome State Fault Refusal :=
  if !s.mramOn then .next s
  else
    let s := s.romStart
    match s.nvm.active with
    | some (r, n) =>
      if n ≤ 1 then .next s
      else .next { s with nvm := { s.nvm with active := some (r, n - 1) } }
    | none =>
      if s.supply.cs == .saving then
        .next { s with supply := { s.supply with savePages := min 6 (s.supply.savePages + 1) } }
      else .next s

/-- NVM_TRANSACTION_COMMIT: the last page has been programmed (R281). -/
def execNvmTransactionCommit (s : State) : Host.Outcome State Fault Refusal :=
  if !s.mramOn then .next s
  else
    let s := s.romStart
    match s.nvm.active with
    | some (_, n) => if n ≤ 1 then .next s.commitActive else .next s
    | none => .next s

/-! ## The capacitance test (R271, R272) -/

/-- HOLD_STATUS sticky bits (Table 10-11). -/
abbrev hsSAVE_DONE : Nat := 6
abbrev hsCHOLD_LOW : Nat := 7
abbrev hsTEST_VOID : Nat := 8
abbrev hsRETENTION_BAD : Nat := 9
abbrev hsSAVE_TORN : Nat := 10

/-- Set a sticky bit of HOLD_STATUS. -/
def State.holdBit (s : State) (bit : Nat) : State := s.setBit oDevice Pid.Device.HOLD_STATUS bit

/-- The SUPPLY record (Table 12-3). -/
def State.supplyRecord (s : State) : State :=
  s.record oDevice rcSupply 0x50 [.par oDevice Pid.Device.HOLD_STATUS, .par oDevice Pid.Device.VHOLD_NOW,
    .par oDevice Pid.Device.CHOLD_MEASURED]

/-- A valid result: CHOLD_LOW is judged on it, and a change of it or of CHOLD_UNSAFE is recorded (R272). -/
def State.choldResult (s : State) (nF : Int) : State :=
  let wasLow := s.bit oDevice Pid.Device.HOLD_STATUS hsCHOLD_LOW
  let wasUnsafe := s.choldUnsafe
  let s := (s.setPar oDevice Pid.Device.CHOLD_MEASURED nF).setPar oDevice Pid.Device.CHOLD_TEST_TICK s.time.tick
  let s := if 10 * nF < 9 * s.par oDevice Pid.Device.CHOLD_RATED then s.holdBit hsCHOLD_LOW else s
  if s.bit oDevice Pid.Device.HOLD_STATUS hsCHOLD_LOW != wasLow || s.choldUnsafe != wasUnsafe then
    s.supplyRecord.raise alFault
  else s

/-- CHOLD_TEST: the granted test ends; its falls and rises of VHOLD are in 10 µV (R271). A sum that its parameter
cannot express gives no stated value (log entry 4). -/
def execCholdTest (dv1 dv2 : Nat) (s : State) : Host.Outcome State Fault Refusal :=
  if !s.miller3 || !s.supply.cholds then .next s
  else
    let s := { s with supply := { s.supply with cholds := false } }
    let sum : Int := (dv1 : Int) + dv2
    if sum < 10 then
      let (v, s) := s.draw
      .next (s.choldResult (v % 4294967296))
    else .next (s.choldResult (roundDiv 40000000000 sum))

/-- CHOLD_TEST_DUE: every 24 h the test is requested (R271). -/
def execCholdTestDue (s : State) : Host.Outcome State Fault Refusal :=
  if s.miller3 && !s.thermalLatched then .next (s.askOnce .config .choldTest 1) else .next s

end Sys2Proof.Machine
end

