-- ==== Sys2Proof/Machine/Transition.lean ====
section
/-! DEFINITION. Life-cycle transitions and key writes (R416 to R418). -/

namespace Sys2Proof.Machine

/-- Entry to RETURN (R418): every owner secret is erased before the state is programmed, then the control side
resets. A transaction that has started completes first (R281). -/
def State.enterReturn (s : State) : State :=
  let s := s.commitActive
  let s := (s.mramClear 0x300000 0x400000).noSchedule
  let s := s.setPar oUpdater Pid.Updater.UPD_STATE upIDLE
  { s with
    params := s.params.filter fun e => !erasedParam (e.1 / 4096) (e.1 % 4096)
    nvm := { s.nvm with
      queue := [], active := none, config := [], images := [], battery := [],
      triggers := Vector.replicate 16 Trigger.undefined, mirror := [], firstMirror := [], clearGen := 0,
      gapBase := 0, cleanStop := true, journal := [], unjournaled := [] }
    grist := GristState.empty
    upd := { s.upd with closing := none, units := [], headerOk := false, stagedOk := false,
                        satPending := Vector.replicate 8 false, satHalf := Vector.replicate 8 false,
                        satImages := [] }
    trace := { s.trace with config := [], rows := [] }
    life := { s.life with keys := Vector.replicate 5 none, killed := true } : State }.csReset .supply

/-- A transition is programmed (R416). -/
def State.lcEnter (s : State) (e : Op) (target : Nat) : State :=
  let s := if target = 3 then s.enterReturn else s
  let s := (s.setPar oLife Pid.LifeCycle.LC_STATE target).setPar oLife Pid.LifeCycle.DEBUG_STATE
    (if target = 2 then 0 else 1)
  let s := { s with upd := { s.upd with stagedOk := false } }
  let s := if target = 2 then s.dropDevelopment else s
  s.keyStatus.lifeRecord oLife 0x10 target target (oPort e.port)

/-- LC_TRANSITION (R417): a nonce, a transition or a key. -/
def opLcTransition (e : Op) (s : State) : State :=
  let p := e.payload
  match s.lcCheck p with
  | some (st, c) => s.reply e st c []
  | none =>
    if byteAt p 0 = 0 then
      let (nonce, s) := s.drawBytes 32
      { s with life := { s.life with nonce := some nonce } : State }.ok e (nonce ++ serialBytes)
    else
      let good := s.tokensOk p
      let s := { s with life := { s.life with nonce := none } }
      if !good then (s.tokenFailed (byteAt p 1) e.port).fail e stAUTH_FAILED 7
      else
        let s := s.opCommit e.id
        let s := if byteAt p 0 = 1 then s.lcEnter e (byteAt p 1)
          else s.keyWritten e (byteAt p 1) (slice p 4 64)
        s.ok e (leBytes 1 s.lcState ++ leBytes 1 (s.par oLife Pid.LifeCycle.KEY_STATUS) ++ [0, 0])

/-- LC_TRANSITION with ACTION 0. -/
def execLcNonce (r : Req) (rest : Bytes) (s : State) : Host.Outcome State Fault Refusal :=
  .next (submitReq r 0xA1 (0x00 :: rest) opLcTransition s)

/-- LC_TRANSITION with ACTION 1. -/
def execLcTransition (r : Req) (rest : Bytes) (s : State) : Host.Outcome State Fault Refusal :=
  .next (submitReq r 0xA1 (0x01 :: rest) opLcTransition s)

/-- LC_TRANSITION with ACTION 2. -/
def execWriteKey (r : Req) (rest : Bytes) (s : State) : Host.Outcome State Fault Refusal :=
  .next (submitReq r 0xA1 (0x02 :: rest) opLcTransition s)

end Sys2Proof.Machine
end

