-- ==== Sys2Proof/Machine/Thermal.lean ====
section
/-! DEFINITION. Heat: the sensors, the zones and the thermal latch (R223 to R227, R237). -/

namespace Sys2Proof.Machine

/-- 145 °C in 1/128 °C (R227). -/
abbrev latchLevel : Int := 18560

/-- THERM_STATUS sticky bits (Table 8-12). -/
abbrev thT_CRIT : Nat := 2
abbrev thRISE_CRIT : Nat := 3
abbrev thLATCH_LEVEL : Nat := 4

/-- T_NOW and T_RISE of a sensor. -/
def State.tNow (s : State) (t : Nat) : Int := s.par (oTherm t) Pid.Thermal.T_NOW
def State.tRise (s : State) (t : Nat) : Int := s.par (oTherm t) Pid.Thermal.T_RISE

/-! ## The latch (R227) -/

/-- The latch operates on a sensor. What WATCH cannot write waits for its wake (R286). -/
def State.thermalOperate (s : State) (t : Nat) : State :=
  if s.shelf.latched then s
  else
    let s := s.setBit (oTherm t) Pid.Thermal.THERM_STATUS thLATCH_LEVEL
    let old := s.shelfState
    let s :=
      if s.supply.cs == .run then s
      else s.recordAwake oShelf rcState 0x24 [.lit (oTherm t : Nat), .par (oTherm t) Pid.Thermal.T_NOW, .lit old]
    s.enterThermal t

/-- A critical save is cut by the latch: the page in progress completes, and only the SHUTDOWN record follows
(R290). What had been written is a torn save. -/
def State.saveCutThermal (s : State) (t : Nat) : State :=
  if s.supply.cs == .saving then
    let s := s.tearSave
    let s := { s with supply := { s.supply with cs := .run, saveArmed := false } }
    let s := s.thermalOperate t
    { s with supply := { s.supply with cs := .saved } }
  else s.thermalOperate t

/-- Does the latch compare samples: whatever Miller does, in RUN and FLOAT with the save and ROM recovery among them, and in
WATCH at 1 s (R227)? -/
def State.latchWatches (s : State) : Bool :=
  s.supply.cs == .run || s.supply.cs == .rom || s.supply.cs == .saving || s.supply.cs == .saved || s.supply.cs == .watch

/-- THERMAL_LATCH: two consecutive samples of one sensor are at or above 145 °C (R227). -/
def execThermalLatch (t : Fin 16) (s : State) : Host.Outcome State Fault Refusal :=
  if s.latchWatches then .next (s.saveCutThermal t.val) else .next s

/-! ## Sensors (R223, R237) -/

/-- The THERMAL record (Table 12-3). -/
def State.thermalRecord (s : State) (t : Nat) : State :=
  s.record (oTherm t) rcFault 0x0B [.par (oTherm t) Pid.Thermal.T_NOW, .par (oTherm t) Pid.Thermal.T_RISE,
    .par (oTherm t) Pid.Thermal.THERM_STATUS]

/-- One sensor's sample: T_NOW, T_RISE and T_MAX_SEEN. A value past the encoding is held at its end. -/
def State.sensorSample (s : State) (t : Nat) (v : Int) (ok : Bool) : State :=
  let o := oTherm t
  let a := s.therm t
  let l := (v :: a.samples).take 16
  let now := roundDiv l.sum (l.length : Nat)
  let rise := match a.means[999]? with
    | some old => clampInt (-32768) 32767 (now - old)
    | none => 0
  let failed := a.ringOk && !ok
  let s := s.modTherm t fun a => { a with samples := l, means := (now :: a.means).take 1001, ringOk := ok }
  let s := (s.setPar o Pid.Thermal.T_NOW now).setPar o Pid.Thermal.T_RISE rise
  let s := s.updPar o Pid.Thermal.T_MAX_SEEN fun m => max m now
  let s := if now ≥ s.par o Pid.Thermal.T_CRIT then s.setBit o Pid.Thermal.THERM_STATUS thT_CRIT else s
  let s := if s.riseKnown t && decide (rise ≥ s.par o Pid.Thermal.RISE_CRIT) then s.setBit o Pid.Thermal.THERM_STATUS thRISE_CRIT else s
  if failed then s.thermalRecord t else s

/-- Two samples in a row at or above 145 °C. -/
def hotTwice (a : ThermAux) : Bool :=
  match a.samples with
  | x :: y :: _ => decide (x ≥ latchLevel) && decide (y ≥ latchLevel)
  | _ => false

/-- A sample that no firmware takes up: the latch alone sees it. -/
def State.latchSample (s : State) (t : Nat) (v : Int) : State :=
  s.modTherm t fun a => { a with samples := (v :: a.samples).take 16 }

/-- THERMAL_SAMPLE: every sensor is sampled, and the latch compares, whether firmware runs or not (R223, R227). In WATCH the
latch samples once per 1 s, and THERMAL_LATCH alone tells. -/
def execThermalSample (ts : Vector (BitVec 16) 16) (ringOk : BitVec 16) (s : State) :
    Host.Outcome State Fault Refusal :=
  if !s.latchWatches || s.supply.cs == .watch then .next s
  else
    let s := s.each 16 fun t s =>
      let v := (vget ts t 0).toInt
      if s.running then s.sensorSample t v (ringOk.getLsbD t) else s.latchSample t v
    match (List.range 16).find? fun t => hotTwice (s.therm t) with
    | some t => .next (s.saveCutThermal t)
    | none => .next s

/-! ## Zones (R224, R226) -/

/-- The sensors that count in a zone: enabled and not FAILED (R237). -/
def State.zoneSensors (s : State) (z : Nat) : List Nat :=
  (List.range 16).filter fun t =>
    s.enabled (oTherm t) && (s.therm t).ringOk && s.par (oTherm t) Pid.Thermal.ZONE == z

/-- Does a sensor show the WARN condition, or the CRIT condition? -/
def State.sensorWarm (s : State) (t : Nat) : Bool :=
  decide (s.tNow t ≥ s.par (oTherm t) Pid.Thermal.T_WARN) ||
    (s.riseKnown t && decide (s.tRise t ≥ s.par (oTherm t) Pid.Thermal.RISE_WARN))
def State.sensorCritical (s : State) (t : Nat) : Bool :=
  decide (s.tNow t ≥ s.par (oTherm t) Pid.Thermal.T_CRIT) ||
    (s.riseKnown t && decide (s.tRise t ≥ s.par (oTherm t) Pid.Thermal.RISE_CRIT))

/-- ZONE_STATE of a zone: 0 NORMAL, 1 WARN, 2 CRIT, as its sensors stand. -/
def State.zoneOf (s : State) (z : Nat) : Nat :=
  let l := s.zoneSensors z
  if l.any fun t => (s.therm t).crit then 2
  else if l.any fun t => (s.therm t).warn then 1 else 0

/-- ZONE_STATE from the sensors' states. -/
def State.zoneStates (s : State) : State :=
  s.setPar oFantail Pid.Fantail.ZONE_STATE
    ((List.range 8).foldl (fun (a : Int) z => a + (s.zoneOf z : Int) * 4 ^ z) 0)

/-- Has a sensor cooled below the level at which WARN clears? -/
def State.sensorCooled (s : State) (t : Nat) : Bool :=
  decide (s.tNow t < s.par (oTherm t) Pid.Thermal.T_WARN - 640) &&
    (!s.riseKnown t || decide (2 * s.tRise t < s.par (oTherm t) Pid.Thermal.RISE_WARN))

/-- The evaluation of a tick: a sensor enters WARN at once, and leaves it when it has stayed cool for 10 s; CRIT ends with its
condition (R224). -/
def State.zoneEvaluate (s : State) : State :=
  (s.each 16 fun t s =>
    let w := s.sensorWarm t
    let c := s.sensorCritical t
    let since := sinceNext (s.sensorCooled t) s.time.tick (s.therm t).cool
    let stays := (s.therm t).warn && !heldFor s.time.tick since 10000000
    s.modTherm t fun a => { a with warn := w || stays, crit := a.crit && c, cool := since }).zoneStates

/-- ZONE_CRIT: a sensor of the zone has met its CRIT condition at every tick for 100 ms; the Brake begins (R224,
R226). -/
def execZoneCrit (z : Fin 8) (s : State) : Host.Outcome State Fault Refusal :=
  let l := (s.zoneSensors z.val).filter s.sensorCritical
  if !s.miller3 || s.thermalLatched || l.isEmpty then .next s
  else
    let rose := s.zoneOf z.val != 2
    let s := s.eachOf l fun t s => s.modTherm t fun a => { a with crit := true, warn := true }
    let s := s.zoneStates.setBit oFantail Pid.Fantail.FANTAIL_STATUS 4
    if rose then .next (s.brakeCause bkTHERMAL .byRule)
    else .next s

/-- ZONE_WARN_CLEAR: the zone's sensors in WARN have stayed cool for 10 s (R224). -/
def execZoneWarnClear (z : Fin 8) (s : State) : Host.Outcome State Fault Refusal :=
  if s.miller3 && s.zoneOf z.val == 1 &&
      ((s.zoneSensors z.val).filter fun t => (s.therm t).warn).all s.sensorCooled then
    .next ((s.eachOf (s.zoneSensors z.val) fun t s => s.modTherm t fun a => { a with warn := false }).zoneStates)
  else .next s

/-- The sensor that holds a zone in WARN or CRIT: the hottest of those. -/
def State.zoneHolder (s : State) (z : Nat) : Option Nat :=
  ((s.zoneSensors z).filter fun t => (s.therm t).warn || (s.therm t).crit).foldl (fun b t =>
    match b with
    | none => some t
    | some u => if s.tNow t > s.tNow u then some t else some u) none

/-- The highest T_NOW of a zone. -/
def State.zoneTop (s : State) (z : Nat) : Int :=
  match (s.zoneSensors z).map s.tNow with
  | [] => 0
  | v :: rest => rest.foldl max v

/-- The derating factor of a zone as a fraction (R224). -/
def State.derating (s : State) (z : Nat) : Int × Int :=
  match s.zoneHolder z with
  | none => (1, 1)
  | some h =>
    let w := s.par (oTherm h) Pid.Thermal.T_WARN
    let span := s.par (oTherm h) Pid.Thermal.T_CRIT - w
    let x := clampInt 0 span (s.zoneTop z - w)
    let cut := 10000 - s.par oFantail Pid.Fantail.DERATE_MIN
    let d : Int × Int := if span ≤ 0 then (1, 1) else (10000 * span - cut * x, 10000 * span)
    let rises := (s.zoneSensors z).any fun t =>
      s.riseKnown t && decide (s.tRise t ≥ s.par (oTherm t) Pid.Thermal.RISE_WARN)
    let r := s.par oFantail Pid.Fantail.RISE_DERATE
    if rises && decide (r * d.2 < d.1 * 10000) then (r, 10000) else d

/-- The cooling estimate of a zone, in ms; none where it is not known (R224). -/
def State.cooling (s : State) (z : Nat) : Option Nat :=
  match s.zoneHolder z with
  | none => none
  | some h =>
    let rise := s.tRise h
    if rise ≥ 0 then none
    else
      let above := s.zoneTop z - (s.par (oTherm h) Pid.Thermal.T_WARN - 640)
      some ((max 0 above * 1000 + (-rise) - 1) / (-rise)).toNat

/-- Zones in WARN or CRIT, in order. -/
def State.warmZones (s : State) : List Nat := (List.range 8).filter fun z => s.zoneOf z != 0

end Sys2Proof.Machine
end

