-- ==== Sys2Proof/Machine/Budget.lean ====
section
/-! DEFINITION. Fantail's budgets and allocation: what a tick latches and computes for each segment (R212 to R219, R225,
R232, R233). Powers are in twentieths of a nanowatt and energies in that unit times a second, so that the start margin
of R216 is exact; parameters are rounded to the nearest 10 mW (log entry 23). -/

namespace Sys2Proof.Machine

/-! ## Units -/

/-- A Power parameter as a power. -/
def pwFrom (v : Int) : Int := v * 200000000

/-- A power as a Power parameter holds it. -/
def pwTo (x : Int) : Int := clampInt (-2147483648) 2147483647 (roundDiv x 200000000)

/-- The power of a current at a voltage. -/
def pwOf (i v : Int) : Int := 20 * i * v

/-- An Energy parameter as an energy. -/
def energyFrom (mj : Int) : Int := mj * 20000000

/-- The least whole number not below num / den, for den above 0. -/
def ceilDiv (num den : Int) : Int := -((-num) / den)

/-- V_FAST of a segment. -/
def State.vFast (s : State) (b : Nat) : Int := s.par (oSeg b) Pid.Segment.V_FAST

/-! ## Requests (R149, R177, R238) -/

/-- Does a Brake refuse new requests: BRAKING, or a Brake for THERMAL_CRIT (R226, R238)? Its reason. -/
def State.brakeRefuses (s : State) : Option Nat :=
  if s.seq.brake == some bkTHERMAL then some 0x08
  else if s.shelfState == ssBraking then some frSHELF_STATE
  else none

/-- Does a feeder request service (R149, R151)? One that waited when BRAKING began goes on requesting. -/
def State.feederAsks (s : State) (f : Nat) : Bool :=
  s.feederOn f ||
    (s.enabled (oFeeder f) && s.objNow (oFeeder f) == osWaiting && s.par (oFeeder f) Pid.Feeder.I_LIMIT != 0 &&
      (s.startRow f || (s.feeder f).condition ||
        (s.shelfState == ssBraking && (s.consF f).requesting && !(s.consF f).served)))

/-- Does a string request charging: every string of a segment that is configured and enabled, and neither LATCHED nor held
(R216, R218, R238; log entry 24)? -/
def State.stringAsks (s : State) (k : Nat) : Bool :=
  let st := s.objNow (oString k)
  s.enabled (oString k) && (st == osWaiting || st == osStarting || st == osActive || st == osDegraded)

/-- A consumer's request at a tick: the wait starts with it, and one that begins in a Brake is refused while it lasts (R226,
R238). -/
def ConsumerAux.ask (c : ConsumerAux) (asks : Bool) (brake : Option Nat) (now : Nat) : ConsumerAux :=
  { c with requesting := asks, served := c.served && asks, expired := c.expired && asks && c.requesting
           since := if asks && !c.requesting then now else c.since
           forced := if !asks || brake.isNone then none else if c.requesting then c.forced else brake }

/-- The peaks of the last second with one more reading. -/
def peaksNext (now : Nat) (v : Int) (l : List (Nat × Int)) : List (Nat × Int) :=
  (now, v) :: (l.dropWhile fun e => decide (e.2 ≤ v)).filter fun e => decide (now < e.1 + 1000000)

/-- The inputs of a tick: requests and the 1 ms powers of the feeders (R208, R215). -/
def State.latchConsumers (s : State) : State :=
  let now := s.time.tick
  let brake := s.brakeRefuses
  let s := s.each 16 fun f s =>
    let v := pwOf (s.par (oFeeder f) Pid.Feeder.I_FAST) (s.vFast (s.feederSeg f))
    let asks := s.feederAsks f
    s.modConsF f fun c => { c.ask asks brake now with peaks := peaksNext now v c.peaks }
  s.each 4 fun k s =>
    let asks := s.stringAsks k
    s.modConsS k fun c => c.ask asks brake now

/-- The demand of a feeder (R215). -/
def State.feederDemand (s : State) (f : Nat) : Int :=
  let declared := s.par (oFeeder f) Pid.Feeder.P_DECLARED
  let c := s.consF f
  if c.served then match c.peaks.getLast? with
    | some e => max (pwFrom declared) e.2
    | none => pwFrom declared
  else if declared != 0 then pwFrom declared
  else pwOf (s.par (oFeeder f) Pid.Feeder.I_LIMIT) (s.vFast (s.feederSeg f))

/-- The demand of a string's charging (R215). -/
def State.stringDemand (s : State) (k : Nat) : Int :=
  pwOf (s.par (oString k) Pid.String.CHG_I_MAX) (s.vFast (s.stringSeg k))

/-- PRIORITY of a feeder or string. -/
def State.classOf (s : State) (o : Nat) : Nat := (s.par o Pid.PRIORITY).toNat

/-- The feeders of a segment that take part in the allocation, by class and then by number (R216, R234). -/
def State.askingFeeders (s : State) (b : Nat) : List Nat :=
  let l := (s.feedersOf b).filter fun f => (s.consF f).requesting && !(s.consF f).masked && (s.consF f).forced.isNone
  (List.range 8).flatMap fun c => l.filter fun f => s.classOf (oFeeder f) == c

/-- The strings of a segment that ask for charging, by class and then by number. -/
def State.askingStrings (s : State) (b : Nat) : List Nat :=
  let l := (s.stringsOf b).filter fun k => (s.consS k).requesting && (s.consS k).forced.isNone
  (List.range 8).flatMap fun c => l.filter fun k => s.classOf (oString k) == c

/-- Class 0 demand of a segment. -/
def State.classZero (s : State) (b : Nat) : Int :=
  ((s.askingFeeders b).filter fun f => s.classOf (oFeeder f) == 0).foldl (fun a f => a + s.feederDemand f) 0

/-! ## Phases and caps (R212, R225) -/

/-- A healthy phase (R212). -/
def State.healthy (s : State) (p : Nat) : Bool :=
  let o := oPhase p
  s.enabled o && s.objNow o != osFailed && s.objNow o != osSafeHold &&
    (match s.outerOf p with
     | some m => s.segRuns (s.loopSeg m)
     | none => false)

/-- The healthy phases of an outer loop, lowest first. -/
def State.loopHealthy (s : State) (m : Nat) : List Nat := (s.maskPhases m).filter s.healthy

/-- The rated power of a phase. -/
def State.rated (s : State) (p : Nat) : Int := pwFrom (s.par (oPhase p) Pid.Phase.P_RATED)

/-- The rated power of some phases. -/
def State.ratedSum (s : State) (l : List Nat) : Int := l.foldl (fun a p => a + s.rated p) 0

/-- The highest rated power of some phases, 0 where there is none. -/
def State.ratedTop (s : State) (l : List Nat) : Int := l.foldl (fun a p => max a (s.rated p)) 0

/-- The fewest of the first phases whose rated power covers a demand. -/
def State.floorCount (s : State) : List Nat → Int → Nat
  | [], _ => 0
  | p :: rest, need => if need ≤ 0 then 0 else 1 + s.floorCount rest (need - s.rated p)

/-- The lowest derating factor of the zones whose mask names a phase of the loop, and the zone that gives it. -/
def State.loopDerate (s : State) (m : Nat) : (Int × Int) × Option Nat :=
  let mine := fun z => (s.maskPhases m).any fun p => bitOf (s.par oFantail (Pid.Fantail.ZONE_PHASE_MASK + z)) p
  ((List.range 8).filter mine).foldl (fun (a : (Int × Int) × Option Nat) z =>
    let d := s.derating z
    if d.1 * a.1.2 < a.1.1 * d.2 then (d, some z) else a) ((1, 1), none)

/-- N_CAP of an outer loop (R225). -/
def State.nCap (s : State) (m : Nat) : Nat :=
  let b := s.loopSeg m
  let h := s.loopHealthy m
  let total := (s.loopsOfSeg b).foldl (fun a k => a + (s.loopHealthy k).length) 0
  let share := if total = 0 then 0 else ceilDiv (s.classZero b * (h.length : Nat)) (total : Nat)
  let d := (s.loopDerate m).1
  let byHeat := (ceilDiv (d.1 * (h.length : Nat)) d.2).toNat
  max byHeat (max (s.par (oOuter m) Pid.Loop.REEF_MIN_PHASES).toNat (s.floorCount h share + 1))

/-- The healthy phases that N_CAP leaves out of a loop's budget. -/
def State.overCap (s : State) (m : Nat) : List Nat := (s.loopHealthy m).drop (s.nCap m)

/-- INPUT_LOST of a segment. -/
def State.inputLost (s : State) (b : Nat) : Bool := s.par (oSeg b) Pid.Segment.INPUT_LOST == 1

/-- The input budget of a segment (R212). -/
def State.inputBudget (s : State) (b : Nat) : Int :=
  if s.inputLost b then
    pwOf ((s.phasesOfSeg b).foldl (fun a p => a + s.par (oPhase p) Pid.Phase.I_FAST) 0) (s.vFast b)
  else (s.loopsOfSeg b).foldl (fun a m => a + s.ratedSum ((s.loopHealthy m).take (s.nCap m))) 0

/-- The zone whose derating limits a segment's input budget, if one does (R220). -/
def State.budgetZone (s : State) (b : Nat) : Option Nat :=
  match (s.loopsOfSeg b).find? fun m => !(s.overCap m).isEmpty with
  | some m => (s.loopDerate m).2
  | none => none

/-! ## Stored energy (R214) -/

/-- The strings of a segment that carry it: connected, without LVD_OPEN. -/
def State.carrying (s : State) (b : Nat) : List Nat :=
  (s.stringsOf b).filter fun k => (s.str k).connected && !(s.str k).lvdOpen

/-- E_STR of a segment in mJ. -/
def State.eStr (s : State) (b : Nat) : Int :=
  (s.carrying b).foldl (fun a k => a + s.par (oString k) Pid.String.E_AVAIL) 0

/-! ## Allocation (R216) -/

/-- A segment's allocation under way: what remains of the input budget, what may still be claimed from the strings, and
each feeder's outcome: served or not, and its reason. -/
structure Alloc where
  rem   : Int
  store : Int
  out   : List (Nat × Bool × Nat)
  deriving DecidableEq, Repr, Inhabited

/-- RESERVE_TIME in s. -/
def State.reserveTime (s : State) : Int := s.par oFantail Pid.Fantail.RESERVE_TIME

/-- A class 0 feeder is served. -/
def State.allocZero (s : State) (a : Alloc) (f : Nat) : Alloc :=
  let p := s.feederDemand f
  { a with rem := a.rem - p, out := a.out ++ [(f, true, if a.rem ≥ p then 0x00 else 0x01)] }

/-- A feeder of classes 1 to 7. -/
def State.allocOne (s : State) (a : Alloc) (f : Nat) : Alloc :=
  let p := s.feederDemand f
  let need := if (s.consF f).served then p else p / 20 * 21
  let carried := decide ((s.classOf (oFeeder f) : Int) ≤ s.par oFantail Pid.Fantail.STORED_CLASS_MAX)
  let own := max a.rem 0
  if a.rem ≥ need then { a with rem := a.rem - p, out := a.out ++ [(f, true, 0x00)] }
  else if carried && decide ((need - own) * s.reserveTime ≤ a.store) then
    { rem := min a.rem 0, store := a.store - (p - own) * s.reserveTime, out := a.out ++ [(f, true, 0x01)] }
  else { a with out := a.out ++ [(f, false, if carried then 0x01 else 0x00)] }

/-- The allocation of a segment's feeders. -/
def State.allocate (s : State) (b : Nat) : Alloc :=
  let l := s.askingFeeders b
  let zero := (l.filter fun f => s.classOf (oFeeder f) == 0).foldl s.allocZero
    ⟨s.inputBudget b, energyFrom (s.eStr b), []⟩
  let zero := if zero.rem < 0 then { zero with store := zero.store + zero.rem * s.reserveTime } else zero
  (l.filter fun f => s.classOf (oFeeder f) != 0).foldl s.allocOne zero

/-- The charge grants of a segment from what is left of its input. A bus voltage that is not above 0 leaves the quotient
open: none (log entry 4). -/
def State.grants (s : State) (b : Nat) (rem : Int) : List (Nat × Option Int) :=
  let v := s.vFast b
  let left := if s.inputLost b then 0 else max rem 0
  ((s.askingStrings b).foldl (fun (a : Int × List (Nat × Option Int)) k =>
    let want := s.par (oString k) Pid.String.CHG_I_MAX
    if a.1 ≤ 0 then (a.1, a.2 ++ [(k, some 0)])
    else if v ≤ 0 then (a.1, a.2 ++ [(k, none)])
    else
      let g := min want (a.1 / (20 * v))
      (a.1 - pwOf g v, a.2 ++ [(k, some g)])) (left, [])).2

/-! ## The contingency plan (R232, R233) -/

/-- The feeders that an allocation serves. -/
def Alloc.served (a : Alloc) : List Nat := (a.out.filter fun e => e.2.1).map (·.1)

/-- The demand of some feeders. -/
def State.demandSum (s : State) (l : List Nat) : Int := l.foldl (fun a f => a + s.feederDemand f) 0

/-- Shed from the front of a list until the demand that stays fits: the feeders shed, and the demand that stays. -/
def State.shedUntil (s : State) (fit : Int) : List Nat → Int → List Nat × Int
  | [], d => ([], d)
  | f :: rest, d =>
    if d ≤ fit then ([], d)
    else
      let (l, d') := s.shedUntil fit rest (d - s.feederDemand f)
      (f :: l, d')

/-- P' of a segment: its input budget less its healthy phase of the highest rated power. -/
def State.budgetLess (s : State) (b : Nat) : Int :=
  s.inputBudget b - s.ratedTop ((s.phasesOfSeg b).filter s.healthy)

/-- The plan of a segment: the feeders of its mask, and the demand that stays. -/
def State.contPlan (s : State) (b : Nat) (a : Alloc) : List Nat × Int :=
  let l := a.served
  let all := s.demandSum l
  if !(s.carrying b).isEmpty && decide (s.eStr b > 0) then ([], all)
  else s.shedUntil (s.budgetLess b) (l.filter fun f => s.classOf (oFeeder f) != 0).reverse all

/-- The switching phase of the highest rated power, the lowest-numbered of several. -/
def State.biggest (s : State) : List Nat → Option Nat
  | [] => none
  | p :: rest => match s.biggest rest with
    | none => some p
    | some q => if s.rated p ≥ s.rated q then some p else some q

/-- CONTINGENCY_OK of a segment (R233). -/
def State.contOk (s : State) (b : Nat) (a : Alloc) : Bool :=
  let (mask, left) := s.contPlan b a
  let on := (s.phasesOfSeg b).filter fun p => (s.phase p).switching
  let rest := match s.biggest on with
    | some p => on.filter fun q => q != p
    | none => []
  let amps := rest.foldl (fun (i : Int) p => i + s.par (oPhase p) Pid.Phase.I_LIMIT) 0
  mask.isEmpty || (decide (s.classZero b ≤ s.budgetLess b) && decide (pwOf amps (s.vFast b) ≥ left))

/-! ## What a tick works out for one segment -/

/-- What a tick has worked out for a segment before anything is published. -/
structure SegPlan where
  pIn    : Int
  class0 : Int
  eStr   : Int
  alloc  : Alloc
  grants : List (Nat × Option Int)
  mask   : List Nat
  ok     : Bool
  zone   : Option Nat
  caps   : List (Nat × Nat × List Nat × Option Nat)
  deriving DecidableEq, Repr, Inhabited

/-- The plan of a segment. `caps` holds of each of its loops N_CAP, the phases past it and the limiting zone. -/
def State.segPlan (s : State) (b : Nat) : SegPlan :=
  let a := s.allocate b
  { pIn := s.inputBudget b, class0 := s.classZero b, eStr := s.eStr b, alloc := a, grants := s.grants b a.rem,
    mask := (s.contPlan b a).1, ok := s.contOk b a, zone := s.budgetZone b,
    caps := (s.loopsOfSeg b).map fun m => (m, s.nCap m, s.overCap m, (s.loopDerate m).2) }

/-- Is the class 0 demand above the input budget and the reserve short of the deficit (R217)? -/
def State.reserveFails (s : State) (x : SegPlan) : Bool :=
  decide (x.class0 > x.pIn) && decide (energyFrom x.eStr < (x.class0 - x.pIn) * s.reserveTime)

/-- Is the class 0 demand above the input budget with no connected string (R217)? -/
def State.overcommits (s : State) (b : Nat) (x : SegPlan) : Bool :=
  decide (x.class0 > x.pIn) && !(s.stringsOf b).any fun k => (s.str k).connected

end Sys2Proof.Machine
end

