-- ==== Sys2Proof/Machine/Fantail.lean ====
section
/-! DEFINITION. Fantail's tick: what it publishes, reefing and the lane cap, the grants of scheduled work, and the rows
of INPUT_LOST, overruns and deferral limits (R87, R116, R117, R208 to R234, R238, R284). -/

namespace Sys2Proof.Machine

/-! ## Outcomes (R28, R219, R222) -/

/-- Outcomes of SERVICE_STATUS (Table 1-8). -/
abbrev ouSERVED : Nat := 1
abbrev ouDEFERRED : Nat := 2
abbrev ouREFUSED : Nat := 3

/-- Fantail reasons (Table 8-2). -/
abbrev frCONTINGENCY : Nat := 0x02
abbrev frSLACK : Nat := 0x05
abbrev frHEAT (z : Nat) : Nat := 0x20 + z

/-- An outcome of an object. A change of OUTCOME or REASON is recorded, and raises ALERT where the object loses, or is
served again after a refusal (R222). `demand` is a Power; RETRY_MS follows each tick's estimate (log entry 24). -/
def State.publish (s : State) (o b outcome reason retry : Nat) (demand : Int) : State :=
  let old := (s.par o Pid.SERVICE_STATUS).toNat
  let new := outcome * 1073741824 + reason * 65536 + retry
  let s := s.setPar o Pid.SERVICE_STATUS new
  if old / 65536 = new / 65536 then s
  else
    let heat := decide (0x20 ≤ reason)
    let s := s.record o rcService 0x10 [.lit old, .lit new, .par oFantail Pid.Fantail.TICK_COUNT,
      if heat then .par oFantail Pid.Fantail.ZONE_STATE else .par (oSeg b) Pid.Segment.P_IN,
      .lit demand, .lit64 (s.par (oSeg b) Pid.Segment.E_STR)]
    if outcome ≥ ouDEFERRED || (old / 1073741824 = ouREFUSED && outcome = ouSERVED) then s.raise alService else s

/-- The deferral limit of a class in ms; charging of class 0 has 10 000 ms (Table 8-3). -/
def State.classLimit (s : State) (c : Nat) : Nat :=
  if c = 0 then 10000 else (s.par oFantail (Pid.Fantail.CLASS_DEFER_LIMIT + c)).toNat

/-- The outcome of a consumer that is not served: DEFERRED, or REFUSED at its limit (R219). -/
def State.lostOutcome (s : State) (reason : Nat) (c : ConsumerAux) (limit : Nat) (est : Option Nat) : Nat × Nat × Nat :=
  match (if c.expired then none else deferral est (s.waitedMs c.since) limit) with
  | some retry => (ouDEFERRED, reason, retry)
  | none => (ouREFUSED, reason, 0)

/-! ## What a tick decides of a segment's consumers (R216 to R218, R238) -/

/-- The estimate of a short input budget: the cooling of the zone that limits it (Table 8-2). -/
def State.inputEstimate (s : State) (x : SegPlan) : Option Nat := x.zone.bind s.cooling

/-- The outcome of an object that does not request: none from SERVED, for its request has ended; DEFERRED and REFUSED stay until
a new request (R222, R238; log entry 24). -/
def State.endedOutcome (s : State) (o : Nat) : Option (Nat × Nat × Nat) :=
  if (s.par o Pid.SERVICE_STATUS).toNat / 1073741824 = ouSERVED then some (0, 0, 0) else none

/-- What a tick decides of one feeder. -/
def State.feederVerdict (s : State) (b : Nat) (x : SegPlan) (f : Nat) : Verdict :=
  let o := oFeeder f
  let c := s.consF f
  let out : Option (Nat × Nat × Nat) :=
    if !c.requesting then s.endedOutcome o
    else match c.forced, x.alloc.out.find? fun e => e.1 == f with
    | some r, _ => some (ouREFUSED, r, 0)
    | none, none => none
    | none, some (_, true, reason) => some (ouSERVED, reason, 0)
    | none, some (_, false, reason) =>
      some (s.lostOutcome reason c (s.classLimit (s.classOf o)) (if reason = frEnergyInput then s.inputEstimate x else none))
  { obj := o, seg := b, out := out, demand := if c.requesting then pwTo (s.feederDemand f) else 0, grant := 0 }

/-- What a tick decides of one string's charging (R218). Where the bus voltage leaves the grant open it is free, within
CHG_I_MAX (log entry 4). -/
def State.stringVerdict (s : State) (b : Nat) (x : SegPlan) (k : Nat) : Verdict × State :=
  let o := oString k
  let c := s.consS k
  let max := s.par o Pid.String.CHG_I_MAX
  let (g, s) := match (x.grants.find? fun e => e.1 == k).map (·.2) with
    | some (some v) => (v, s)
    | some none =>
      let (v, s) := s.draw
      (v % (max + 1), s)
    | none => (0, s)
  let out : Option (Nat × Nat × Nat) :=
    if !c.requesting then s.endedOutcome o
    else match c.forced with
    | some r => some (ouREFUSED, r, 0)
    | none =>
      if g > 0 then some (ouSERVED, frEnergyInput, 0)
      else some (s.lostOutcome frEnergyInput c (s.classLimit (s.classOf o)) (s.inputEstimate x))
  ({ obj := o, seg := b, out := out, demand := pwTo (s.stringDemand k), grant := if c.requesting then g else 0 }, s)

/-- The demand of a segment's served consumers. -/
def State.servedPower (s : State) (b : Nat) (x : SegPlan) : Int :=
  ((s.stringsOf b).filter fun k => x.grants.any fun e => e.1 == k && e.2 != some 0).foldl
    (fun a k => a + s.stringDemand k) (s.demandSum x.alloc.served)

/-- The figures of a segment (R236). -/
def State.figures (s : State) (b : Nat) (x : SegPlan) : SegFigures :=
  { seg := b, pIn := pwTo x.pIn, pServed := pwTo (s.servedPower b x), class0 := pwTo x.class0, eStr := x.eStr }

/-- What a tick decides of the consumers of one segment. -/
def State.segVerdicts (s : State) (b : Nat) (x : SegPlan) : List Verdict × State :=
  let (vs, t) := s.collect (s.stringsOf b) fun k s =>
    let (v, t) := s.stringVerdict b x k
    ([v], t)
  ((s.feedersOf b).map (s.feederVerdict b x) ++ vs, t)

/-- The contingency plans are written to Gearing; they stay in force whatever becomes of the tick (R208, R210, R232, R233). -/
def State.writeMask (s : State) (b : Nat) (x : SegPlan) : State :=
  let o := oSeg b
  (s.setPar o Pid.Segment.CONTINGENCY_MASK (x.mask.foldl (fun (a : Int) f => a + 2 ^ f) 0)).setPar
    o Pid.Segment.CONTINGENCY_OK (b2i x.ok)

/-! ## Publication (R208, R209, R222, R234) -/

/-- The feeder is served: Sluice is told to serve it where its gate is off. -/
def State.feederServed (s : State) (f : Nat) : State :=
  let on := s.feederOn f
  let s := s.modFeeder f fun a => { a with serve := !on, shed := false }
  s.modConsF f fun c => { c with served := true, expired := false, since := s.time.tick }

/-- The feeder is not served: Sluice is told to shed it where its gate is on. -/
def State.feederLost (s : State) (f : Nat) : State :=
  let on := s.feederOn f
  let s := s.modFeeder f fun a => { a with serve := false, shed := on }
  s.modConsF f fun c => { c with served := false }

/-- An outcome as it is published: a deferral whose limit has been reached meanwhile is a refusal. -/
def lateOutcome (c : ConsumerAux) (out : Nat × Nat × Nat) : Nat × Nat × Nat :=
  if c.expired && out.1 = ouDEFERRED then (ouREFUSED, out.2.1, 0) else out

/-- The outcome of one feeder is published. A masked one waits until Sluice has shed it and Miller has marked the phase: what
was computed before the removal does not serve it (R234). -/
def State.publishFeeder (s : State) (v : Verdict) (f : Nat) : State :=
  let o := oFeeder f
  let c := s.consF f
  let seen := !((s.phasesOfSeg v.seg).any fun q => (s.phase q).notice) && !s.feederOn f
  let s := s.setPar o Pid.Feeder.P_DEMAND v.demand
  let s := s.modConsF f fun c => { c with masked := c.masked && !seen }
  if c.masked && (s.feederAsks f || s.feederOn f) then
    (s.publish o v.seg ouDEFERRED frCONTINGENCY 0xFFFF v.demand).feederLost f
  else match v.out.map (lateOutcome c) with
  | none => (s.serveDrop f).modConsF f fun c => { c with served := false }
  | some (ou, reason, retry) =>
    let s := s.publish o v.seg ou reason retry v.demand
    if ou = ouSERVED then s.feederServed f
    else if ou = 0 then (s.serveDrop f).modConsF f fun c => { c with served := false }
    else s.feederLost f

/-- The outcome of one string's charging is published (R218). -/
def State.publishString (s : State) (v : Verdict) (k : Nat) : State :=
  let o := oString k
  let c := s.consS k
  let s := s.setPar o Pid.String.CHARGE_GRANT v.grant
  match v.out.map (lateOutcome c) with
  | none => s.modConsS k fun c => { c with served := false }
  | some (ou, reason, retry) =>
    let s := s.publish o v.seg ou reason retry v.demand
    if ou = ouSERVED then s.modConsS k fun c => { c with served := true, expired := false, since := s.time.tick }
    else s.modConsS k fun c => { c with served := false }

/-- An outcome is published. -/
def State.publishVerdict (s : State) (v : Verdict) : State :=
  match objType v.obj with
  | .feeder => s.publishFeeder v (v.obj - 0x30)
  | .string => s.publishString v (v.obj - 0x80)
  | _ => match v.out with
    | some (ou, reason, retry) => s.publish v.obj v.seg ou reason retry v.demand
    | none => s

/-- The figures of a segment are published. -/
def State.publishFigures (s : State) (x : SegFigures) : State :=
  let o := oSeg x.seg
  (((s.setPar o Pid.Segment.P_IN x.pIn).setPar o Pid.Segment.P_SERVED x.pServed).setPar
    o Pid.Segment.P_CLASS0 x.class0).setPar o Pid.Segment.E_STR x.eStr

/-! ## Flags (R217, R233) -/

/-- A BUDGET_FLAG record with the figures of a segment (Table 12-3). -/
def State.budgetRecord (s : State) (source b : Nat) : State :=
  s.record source rcService 0x11 [.par oFantail Pid.Fantail.FANTAIL_STATUS, .par (oSeg b) Pid.Segment.P_IN,
    .par (oSeg b) Pid.Segment.P_CLASS0]

/-- The flags of FANTAIL_STATUS, and the record of a rise with the figures of the first segment that shows it. -/
def State.publishFlags (s : State) (p : TickPlan) : State :=
  let wasShort := s.fantail.reserveShort
  let wasOver := s.fantail.overcommit
  let s := { s with fantail := { s.fantail with
    reserveShort := p.short.isSome, overcommit := p.beyond.isSome, contShort := p.cont } }
  let s := match p.short with
    | some b => if wasShort then s else s.budgetRecord oFantail b
    | none => s
  match p.beyond with
  | some b => if wasOver then s else s.budgetRecord oFantail b
  | none => s

/-! ## Phases held by a cap, reefing and the lane cap (R87, R116, R117, R225) -/

/-- The phases that a cap holds off: not switching, past N_CAP; with their segment and zone. -/
def State.heldPhases (s : State) (xs : List (Nat × SegPlan)) : List (Nat × Nat × Option Nat) :=
  xs.flatMap fun e => e.2.caps.flatMap fun c =>
    (c.2.2.1.filter fun p => !(s.phase p).switching).map fun p => (p, e.1, c.2.2.2)

/-- The reason for which a phase that is held in a Brake is refused: it was not held before the Brake (R226, R238). -/
def State.heldForced (s : State) (p : Nat) : Option Nat :=
  match s.brakeRefuses, s.fantail.capHeld.find? fun e => e.1 == p with
  | none, _ => none
  | some r, none => some r
  | some _, some (_, f) => f

/-- What a tick decides of the phases that a cap holds, and of those it releases (R225). -/
def State.phaseVerdicts (s : State) (xs : List (Nat × SegPlan)) : List Verdict :=
  let held := s.heldPhases xs
  let lost (e : Nat × Nat × Option Nat) : Nat × Nat × Nat :=
    match s.heldForced e.1 with
    | some r => (ouREFUSED, r, 0)
    | none => (ouDEFERRED, (match e.2.2 with
        | some z => frHEAT z
        | none => frEnergyInput), retryMs (e.2.2.bind s.cooling))
  let freed := (s.fantail.capHeld.map (·.1)).filter fun p => !held.any fun e => e.1 == p
  held.map (fun e => { obj := oPhase e.1, seg := e.2.1, out := some (lost e), demand := 0, grant := 0 }) ++
    freed.map fun p =>
      { obj := oPhase p, out := some (ouSERVED, frEnergyInput, 0), demand := 0, grant := 0
        seg := match s.outerOf p with
          | some m => s.loopSeg m
          | none => 0 }

/-- One reefing step of a loop is counted (R117). -/
def State.reefStep (s : State) (m : Nat) : State :=
  (s.modLoop (24 + m) fun a => { a with reefTick := s.time.tick }).incPar (oOuter m) Pid.Loop.REEF_STEPS

/-- I_R of a loop: I_RATED of its lowest-numbered phase (log entry 24). -/
def State.loopRated (s : State) (m : Nat) : Int :=
  match s.maskPhases m with
  | p :: _ => s.par (oPhase p) Pid.Phase.I_RATED
  | [] => 0

/-- A step of a loop that is due is taken, unless a phase of the loop has been removed in this tick: the dwell then restarts
(R127). -/
def State.reefDue (s : State) (m p : Nat) (g : PhaseAux → PhaseAux) (removed : Bool) : State :=
  if removed then s.modLoop (24 + m) fun a => { a with reefTick := s.time.tick } else (s.modPhase p g).reefStep m

/-- Reefing of one loop at a tick: at most one step, after REEF_DWELL (R116); while an injection runs on the cascade, only the
steps of a cap (R137). -/
def State.reefLoop (s : State) (m cap : Nat) : State :=
  let o := oOuter m
  let removed := (s.loop (24 + m)).removed
  let s := s.modLoop (24 + m) fun a => { a with removed := false }
  let on := (s.actPhases m).filter fun p => !(s.phase p).shed
  let n := on.length
  let amps := on.foldl (fun (a : Int) p => a + s.par (oPhase p) Pid.Phase.I_FAST) 0
  let ir := s.loopRated m
  let last := max (s.loop (24 + m)).reefTick (s.seg (s.loopSeg m)).activeTick
  let load := s.par o Pid.Loop.REEF_ENABLE == 1
  let still := s.flume.running && (s.cascade s.flume.loop).contains (24 + m)
  let spare := (s.reefedPhases m).filter fun p => (s.phase p).wait.isNone
  let drop := decide (n > cap) || (load && !still && decide ((n : Int) > s.par o Pid.Loop.REEF_MIN_PHASES) &&
    decide (amps * 10000 < s.par o Pid.Loop.REEF_SHED_FRAC * ((n : Int) - 1) * ir))
  let add := decide (n < cap) && (!load || !still &&
    decide (amps * 10000 > s.par o Pid.Loop.REEF_ADD_FRAC * (n : Int) * ir))
  if !s.enabled o || !s.segRuns (s.loopSeg m) || (s.time.tick : Int) < last + s.par o Pid.Loop.REEF_DWELL then s
  else if drop then
    match on.getLast? with
    | some p => s.reefDue m p (fun a => { a with shed := true }) removed
    | none => s
  else if add then
    match spare with
    | p :: _ => s.reefDue m p (fun a => { a with wait := some .reef }) removed
    | [] => s
  else s

/-- The engine demand with some phases out of the schedule. -/
def State.demandWithout (s : State) (out : List Nat) : Nat :=
  let t := s.each 24 fun p t => t.modPhase p fun a => { a with laneCap := out.contains p }
  t.engineDemand

/-- The phases in the order in which the lane cap takes them: from LP7 to LP0, the highest-numbered first, never the
last switching phase of a loop (R87). -/
def State.laneOrder (s : State) : List Nat :=
  (List.range 8).reverse.flatMap fun m =>
    let l := s.maskPhases m
    let keep := l.find? fun p => (s.phase p).switching && !(s.phase p).shed
    l.reverse.filter fun p => keep != some p

/-- The phases that the lanes in service cannot carry. -/
def State.laneCapped (s : State) : List Nat → List Nat → List Nat
  | [], out => out
  | p :: rest, out =>
    if s.demandWithout out ≤ 18750000 * s.lanesInService then out else s.laneCapped rest (p :: out)

/-- The lane cap: capped phases stop through reefing and leave the schedule; as lanes return, it is lifted (R87). -/
def State.laneCapTick (s : State) : State :=
  let out := s.laneCapped s.laneOrder []
  s.each 24 fun p s =>
    if out.contains p then
      s.modPhase p fun a =>
        { a with laneCap := true, shed := a.switching, wait := none, reefed := a.reefed || !a.switching }
    else s.modPhase p fun a => { a with laneCap := false }

/-! ## FLOAT at a tick (R283, R284) -/

/-- FLOAT_BLOCK is refreshed; FLOAT is left where one of bits 1 to 9 is set, or where RUN has been requested. -/
def State.floatTick (s : State) : State :=
  let v := s.floatBlockNow
  let s := s.setPar oDevice Pid.Device.FLOAT_BLOCK v
  let exit := s.inFloat && (v / 2 != 0 || s.supply.floatExit)
  let s := { s with supply := { s.supply with floatExit := false } }
  if exit then s.floatLeave else s

/-! ## Scheduled work (R228, R230) -/

/-- A warm zone that holds a CSD sensor. -/
def State.warmCsd (s : State) : Option Nat :=
  s.warmZones.find? fun z => (List.range 10).any fun t => s.par (oTherm t) Pid.Thermal.ZONE == z

/-- What a tick decides of self-test: at most one item (R228, R341). -/
def State.bistVerdict (s : State) (idle : Bool) : BistVerdict :=
  match s.brakeRefuses with
  | some r => .refused r
  | none =>
    if s.dresser.granted.isSome then .busy
    else if !idle then .deferred frSLACK 0
    else match s.warmCsd with
    | some z => .deferred (frHEAT z) (retryMs (s.cooling z))
    | none => .grant s.dresserDue

/-- The outcome of self-test is published: an item is granted as decided, and the requests that were latched are answered
(R341, R344). -/
def State.publishBist (s : State) (v : BistVerdict) (ids : List Nat) : State :=
  match v with
  | .refused r => s.bistReplies ids (some (r, 0)) true
  | .busy => s.bistReplies ids none false
  | .deferred r est => s.bistReplies ids (some (r, est)) false
  | .grant item => (if s.dresser.granted.isSome then s else s.dresserGrant item).bistReplies ids none false

/-- The first condition of an activation that fails (Table 8-4): its reason and estimate. -/
def State.activationBlock (s : State) : Option (Nat × Option Nat) :=
  let segs := List.range 4
  let start (o : Nat) : Bool := s.objNow o == osStarting
  let r : NvmReq := ⟨.checkin, .activate, 2, none, s.upd.dueSince⟩
  if s.shelfState != ssNormal && s.shelfState != ssMaint then some (frSHELF_STATE, none)
  else if (List.range 16).any (fun f => start (oFeeder f)) || (List.range 4).any (fun k => start (oString k)) ||
      segs.any (fun b => start (oSeg b) || (s.seg b).offTime) then some (frPRECONDITION, none)
  else if segs.any fun b => s.enabled (oSeg b) && s.par (oSeg b) Pid.Segment.CONTINGENCY_OK == 0 then
    some (frPRECONDITION, none)
  else match s.warmZones with
  | z :: _ => some (frHEAT z, s.cooling z)
  | [] =>
    if segs.any fun b => s.inputLost b then some (frEnergyInput, none)
    else if s.millShort 2 then some (frMILLPOND, s.nvmEstimate r frMILLPOND)
    else if s.supply.unproven then some (frSAVE_UNPROVEN, none)
    else if s.nvmBusy then some (frBUSY, s.nvmEstimate r frBUSY)
    else none

/-- What a tick decides of an activation that is due. -/
def State.actVerdict (s : State) : ActVerdict :=
  if s.updState != upSCHEDULED || !s.upd.due then .idle
  else match s.brakeRefuses with
  | some r => .refused r
  | none =>
    match s.activationBlock with
    | none => .grant
    | some (reason, est) =>
      match deferral est (s.waitedMs s.upd.dueSince) (s.par oFantail Pid.Fantail.ACT_DEFER_LIMIT).toNat with
      | some retry => .deferred reason retry
      | none => .refused reason

/-- The outcome of an activation is published, where it is still due. -/
def State.publishAct (s : State) (v : ActVerdict) : State :=
  if s.updState != upSCHEDULED || !s.upd.due then s
  else match v with
  | .idle => s
  | .grant => if s.nvmBusy then s else s.activateGrant
  | .refused r => s.activateRefused r
  | .deferred r retry => s.scheduleReply stDEFERRED r 2 retry

/-! ## The tick (R208) -/

/-- The readings of the supply monitor, of 1 mV (R289). -/
def State.supplyReadings (s : State) (vaux vhold : Nat) : State :=
  (s.setPar oDevice Pid.Device.VAUX12_NOW (vaux / 100 * 100 % 4294967296 : Nat)).setPar
    oDevice Pid.Device.VHOLD_NOW (vhold / 100 * 100 % 4294967296 : Nat)

/-- The monotonic tick comes to the next whole millisecond. -/
def State.nextMs (s : State) : State :=
  s.passTime (1000 - s.time.tick % 1000)

/-- The Millpond energy of this tick joins those of the last 100. -/
def State.noteMill (s : State) : State :=
  { s with supply := { s.supply with millHistory := (s.milliExact :: s.supply.millHistory).take 100 } }

/-- The state against which the writes of a tick are judged: an activation granted in it is a write in progress. -/
def State.actTaken (s : State) (v : ActVerdict) : State :=
  if v = .grant then s.activateGrant else s

/-- The outcomes of a tick from the inputs as they stand at its start; the contingency masks go to Gearing (R208). -/
def State.computePlan (s : State) (idle : Bool) : State :=
  let s := (s.updPar oFantail Pid.Fantail.TICK_COUNT fun v => (v + 1) % 4294967296).latchConsumers
  let xs := (List.range 4).map fun b => (b, s.segPlan b)
  let (vs, s) := s.collect xs fun e s => s.segVerdicts e.1 e.2
  let act := s.actVerdict
  let t := s.actTaken act
  let write := t.nvmPick
  let u := match write with
    | some r => t.startWrite r
    | none => t
  let plan : TickPlan :=
    { stored := xs.foldl (fun a e => a + e.2.eStr) s.eMillpond
      figures := xs.map fun e => s.figures e.1 e.2
      short := (xs.find? fun e => s.reserveFails e.2).map (·.1)
      beyond := (xs.find? fun e => s.overcommits e.1 e.2).map (·.1)
      cont := xs.any fun e => s.enabled (oSeg e.1) && !e.2.ok
      verdicts := vs, phases := s.phaseVerdicts xs
      held := (s.heldPhases xs).map fun e => (e.1, s.heldForced e.1)
      caps := xs.flatMap fun e => e.2.caps.map fun c => (c.1, c.2.1)
      write := write, lost := u.nvmLost, act := act, bist := s.bistVerdict idle
      tests := s.dresser.tests.map (·.id) }
  let s := xs.foldl (fun s e => s.writeMask e.1 e.2) s
  { s with fantail := { s.fantail with plan := some plan } }

/-- The outcomes of the tick that ends are published; after an overrun, and at the first tick, there are none (R208 to R210). -/
def State.publishPlan (s : State) : State :=
  match s.fantail.plan with
  | none => s
  | some p =>
    let s := { s with fantail := { s.fantail with plan := none } }
    let s := p.figures.foldl (fun s x => s.publishFigures x) (s.setPar oFantail Pid.Fantail.E_STORED p.stored)
    let s := s.publishFlags p
    let s := p.verdicts.foldl (fun s v => s.publishVerdict v) s
    let s := p.phases.foldl (fun s v => s.publishVerdict v) { s with fantail := { s.fantail with capHeld := p.held } }
    let s := p.caps.foldl (fun s c => s.reefLoop c.1 c.2) s
    ((s.publishAct p.act).publishWrites p.write p.lost).publishBist p.bist p.tests

/-- What Fantail does at a whole millisecond: the tick that ends is published, and the next one latches its inputs (R208,
R209). -/
def State.fantailBody (s : State) (idle : Bool) : State :=
  let s := s.publishPlan.zoneEvaluate.floatTick
  let s := s.fallDue.driveReset
  ((s.computePlan idle).laneCapTick).runTriggers

/-- Nothing is published of a tick that Fantail does not finish: its outcomes are frozen in a level 3 restart, and a thermal
latch ends it (R20, R211, R238). -/
def State.planDrop (s : State) : State := { s with fantail := { s.fantail with plan := none } }

/-- FANTAIL_TICK: one millisecond (R208). Without Fantail (R211) only time, the supply monitor and the 1 ms means go
on. -/
def execFantailTick (x : FantailIn) (s : State) : Host.Outcome State Fault Refusal :=
  match s.supply.cs with
  | .run =>
    let s := (s.nextMs.supplyReadings x.vaux12 x.vhold).closeAllMs.noteMill
    if s.miller.restarting || s.thermalLatched || s.deviceMode == 2 then .next s.planDrop
    else .next (s.fantailBody x.idle)
  | .saving | .saved => .next (s.nextMs.supplyReadings x.vaux12 x.vhold)
  | .rom => .next (s.supplyReadings x.vaux12 x.vhold)
  | .reset | .watch | .off => .next s

/-! ## The other rows -/

/-- TICK_OVERRUN: the steps have not finished in time, and nothing is published; the contingency masks that the tick wrote stay in
force (R210). The record bears the figures of
B0 (log entry 25). -/
def execTickOverrun (s : State) : Host.Outcome State Fault Refusal :=
  if !s.miller3 || s.thermalLatched then .next s
  else
    let s := (s.setBit oFantail Pid.Fantail.FANTAIL_STATUS 5).incPar oFantail Pid.Fantail.OVERRUN_COUNT
    .next (s.planDrop.budgetRecord oFantail 0)

/-- Is the supply of a segment's phases short at a loop: V_FAST is below 97 % of SETPOINT_NOW with OUT_HIGH or
CASCADE_HOLD live (R213)? -/
def State.loopStarved (s : State) (b m : Nat) : Bool :=
  let a := s.loop (24 + m)
  decide (100 * s.vFast b < 97 * s.par (oOuter m) Pid.Loop.SETPOINT_NOW) && (a.outHigh || a.hold)

/-- Has V_FAST come back within 1 % at a loop, with neither flag live? -/
def State.loopFed (s : State) (b m : Nat) : Bool :=
  let a := s.loop (24 + m)
  let sp := s.par (oOuter m) Pid.Loop.SETPOINT_NOW
  decide ((100 * (s.vFast b - sp).natAbs : Int) ≤ sp) && !a.outHigh && !a.hold

/-- INPUT_LOST: it rises after 5 ticks and clears after 100 (R213). -/
def execInputLost (b : Fin 4) (rise : Bool) (s : State) : Host.Outcome State Fault Refusal :=
  let b := b.val
  let ls := s.loopsOfSeg b
  let due :=
    if rise then !s.inputLost b && !ls.isEmpty && ls.all (s.loopStarved b)
    else s.inputLost b && ls.all (s.loopFed b)
  if s.miller3 && !s.thermalLatched && due then
    .next ((s.setPar (oSeg b) Pid.Segment.INPUT_LOST (b2i rise)).budgetRecord (oSeg b) b)
  else .next s

/-- The REASON of SERVICE_STATUS, where its OUTCOME is DEFERRED. -/
def State.deferredReason (s : State) (o : Nat) : Option Nat :=
  let v := (s.par o Pid.SERVICE_STATUS).toNat
  if v / 1073741824 = ouDEFERRED then some (v / 65536 % 256) else none

/-- The oldest queued write. -/
def oldestReq : List NvmReq → Option NvmReq
  | [] => none
  | r :: rest => match oldestReq rest with
    | none => some r
    | some b => if r.since ≤ b.since then some r else some b

/-- DEFERRAL_LIMIT: a deferred consumer has waited for its limit, and becomes REFUSED (R219, Table 8-3). -/
def execDeferralLimit (c : Consumer) (s : State) : Host.Outcome State Fault Refusal :=
  if !s.miller3 || s.thermalLatched then .next s
  else match c with
  | .feeder f =>
    let o := oFeeder f.val
    match s.deferredReason o with
    | some r =>
      if (s.consF f.val).requesting && s.classOf o != 0 then
        .next ((s.modConsF f.val fun a => { a with expired := true }).publish o (s.feederSeg f.val) ouREFUSED r 0
          (pwTo (s.feederDemand f.val)))
      else .next s
    | none => .next s
  | .charging k =>
    let o := oString k.val
    match s.deferredReason o with
    | some r =>
      if (s.consS k.val).requesting then
        .next ((s.modConsS k.val fun a => { a with expired := true }).publish o (s.stringSeg k.val) ouREFUSED r 0
          (pwTo (s.stringDemand k.val)))
      else .next s
    | none => .next s
  | .nvmWrite =>
    match oldestReq s.nvm.queue with
    | some r => .next (s.refuseWrite r ((s.nvmBlock r).getD frBUSY)).learnWaits
    | none => .next s
  | .activation =>
    if s.updState == upSCHEDULED && s.upd.due then
      match s.activationBlock with
      | some (r, _) => .next (s.activateRefused r)
      | none => .next s
    else .next s

end Sys2Proof.Machine
end

