-- ==== Sys2Proof/Machine/Ports.lean ====
section
/-! DEFINITION. The host ports' register window, packet error checking, ALERT and the Alert Response Address (R351, R355,
R374, R377 to R390). A row is one whole transaction, from its START to its STOP (log entry 33). -/

namespace Sys2Proof.Machine

/-! ## The window as it reads (Tables 15-1 to 15-4) -/

/-- SILICON_AND_FW_VERSION (Table 14-9). -/
def versionWord : Nat :=
  ((0xA1 * 256 + 1) * 256 + Config.fwMinor.toNat) * 256 + Config.fwPatch.toNat

/-- SILICON_AND_FW_VERSION as it reads: the ROM reports 0 in the FW fields (R413). -/
def State.versionNow (s : State) : Nat := if s.supply.cs == .rom then 0xA1000000 else versionWord

/-- Is PEC active on a port (R387)? -/
def State.pecActive (s : State) (p : HostPort) : Bool :=
  s.par (oPort p) Pid.HPort.PEC_MODE == 1 || s.par (oPort p) Pid.HPort.CAUTIOUS != 0

/-- REPLY_AVAIL: the unread bytes of the oldest undelivered reply (R355). -/
def State.replyAvail (s : State) (p : HostPort) : Nat :=
  match (s.port p).replies with
  | r :: _ => r.bytes.length - (s.port p).readPos
  | [] => 0

/-- PORT_STATUS (Table 15-2). -/
def State.portStatus (s : State) (p : HostPort) : Nat :=
  (s.port p).hit.val +
  (bitsOf [(2, decide ((s.port p).written > 0)), (3, decide (s.replyAvail p > 0)), (4, s.miller.restarting),
    (5, s.supply.cs == .rom), (6, s.pecActive p), (7, s.par (oPort p) Pid.HPort.CAUTIOUS != 0)]).toNat

/-- Does an object report one of two states? -/
def State.isIn (s : State) (o : Nat) (a b : Int) : Bool := s.objNow o == a || s.objNow o == b

/-- Is the OUTCOME of an object DEFERRED or REFUSED? -/
def State.notServed (s : State) (o : Nat) : Bool :=
  decide ((s.par o Pid.SERVICE_STATUS).toNat / 1073741824 ≥ ouDEFERRED)

/-- A bit for each index below `n`. -/
def bitmap (n : Nat) (f : Nat → Bool) : Int := bitsOf ((List.range n).map fun i => (i, f i))

/-- FAST_STATUS at one instant (Table 15-4). -/
def State.fastBytes (s : State) : Bytes :=
  leBytes 1 s.shelfState ++ leBytes 1 s.deviceMode ++ leBytes 1 (s.seqState : Nat) ++
    leBytes 1 (s.read oFantail Pid.Fantail.FANTAIL_STATUS % 64) ++
    leBytes 2 (bitmap 16 fun f => (s.feeder f).gate) ++
    leBytes 2 (bitmap 16 fun f => s.objNow (oFeeder f) == osLatched) ++
    leBytes 2 (bitmap 16 fun f => s.notServed (oFeeder f)) ++
    leBytes 1 (bitmap 4 (fun k => (s.str k).connected) +
      16 * bitmap 4 fun k => s.objNow (oString k) == osLatched) ++
    leBytes 2 (s.par oFantail Pid.Fantail.ZONE_STATE) ++
    leBytes 3 (bitmap 24 fun p => (s.phase p).switching) ++
    leBytes 3 (bitmap 24 fun p => s.objNow (oPhase p) == osFailed) ++
    leBytes 1 (bitmap 4 (fun b => s.isIn (oSeg b) osActive osDegraded) +
      16 * bitmap 4 fun b => s.objNow (oSeg b) == osLatched) ++
    ((List.range 4).flatMap fun b => leBytes 2 (clampInt 0 65535 (roundDiv (s.vFast b) 1000))) ++
    leBytes 4 (s.time.tick : Nat)

/-- The byte that a window address reads as (Table 15-1). -/
def State.windowByte (s : State) (p : HostPort) (a : Nat) : Nat :=
  let x := s.port p
  if a < 4 then byteAt (leBytes 4 (0x4B4A9740 : Nat)) a
  else if a < 8 then byteAt (leBytes 4 (s.versionNow : Nat)) (a - 4)
  else if a = 0x08 then s.portStatus p
  else if a = 0x09 then x.alertCause
  else if a = 0x0A then (s.par (oPort p) Pid.HPort.ALERT_MASK).toNat
  else if a = 0x0B then s.hopperFree p
  else if a = 0x0C then s.reqSpace p % 256
  else if a = 0x0D then x.spaceHigh.toNat
  else if a = 0x0E then s.replyAvail p % 256
  else if a = 0x0F then x.availHigh.toNat
  else if a = 0x11 then (match x.replies with
    | r :: _ => byteAt r.bytes x.readPos
    | [] => 0)
  else if 0x20 ≤ a ∧ a < 0x40 ∧ s.supply.cs != .rom then byteAt x.fast (a - 0x20)
  else 0

/-- The pointer after a data byte: it holds at the two streams and wraps (R382). -/
def pointerNext (a : Nat) : Byte := if a = 0x10 ∨ a = 0x11 then BitVec.ofNat 8 a else BitVec.ofNat 8 (a + 1)

/-! ## Addresses (R377 to R380, R390) -/

/-- Which recognised address of a port a 7-bit address is, as ADDR_HIT numbers them (Table 15-2): its primary address, then
those that the address parameters in force choose (R378), while the port is enabled in RUN, FLOAT or WATCH; in ROM recovery
0x5F on HA alone. -/
def State.addressHit (s : State) (p : HostPort) (a : BitVec 7) : Option (Fin 4) :=
  let v (i : Nat) : Nat := ((s.port p).addrs.getD i 0).toNat
  if s.supply.cs == .rom then (if p == .ha && a == 0x5F#7 then some 0 else none)
  else if !(s.running || s.supply.cs == .watch) || !s.enabled (oPort p) then none
  else if s.par (oPort p) Pid.HPort.PRIMARY_ADDR == (a.toNat : Int) then some 0
  else if v 0 = 0 then [(1 : Fin 4), 2, 3].find? fun i => a != 0 && v i.val == a.toNat
  else if (a.toNat ^^^ v 4) &&& v 5 = 0 then some 1
  else none

/-- Does a port acknowledge a 7-bit address: a recognised one, or the Alert Response Address while its ALERT_N is low? -/
def State.acknowledges (s : State) (p : HostPort) (a : BitVec 7) : Bool :=
  (s.addressHit p a).isSome ||
    ((s.running || s.supply.cs == .watch) && s.enabled (oPort p) && a == 0x0C#7 && s.alertLow p)

/-- The address parameters of a port, in the order of their IDs. -/
def State.addressPars (s : State) (p : HostPort) : List Int :=
  [Pid.HPort.ADDR_MODE, Pid.HPort.EXTRA_ADDR, Pid.HPort.EXTRA_ADDR + 1, Pid.HPort.EXTRA_ADDR + 2, Pid.HPort.MASK_BASE,
    Pid.HPort.ADDR_MASK].map fun pid => s.par (oPort p) pid

/-- A STOP on a port's bus: its address parameters take effect (R378). -/
def State.busStop (s : State) (p : HostPort) : State :=
  if s.running then
    let l := s.addressPars p
    s.modPort p fun x => { x with addrs := l }
  else s

/-- SPEED_SEEN of a bus speed (Table 15-9). -/
def speedSeen : BusSpeed → Int
  | .standard => 1
  | .fast => 2
  | .fastPlus => 3
  | .highSpeed => 4

/-- A transaction has named one of a port's addresses. -/
def State.named (s : State) (p : HostPort) (hit : Fin 4) (speed : BusSpeed) : State :=
  (s.modPort p fun x => { x with hit := hit }).setPar (oPort p) Pid.HPort.SPEED_SEEN (speedSeen speed)

/-- A whole transaction: what it does where the port carries it and acknowledges its address, and the STOP (R379). -/
def State.transaction (s : State) (p : HostPort) (acc : HostAccess) (act : State → State) : State :=
  match (if s.portAnswers p then s.addressHit p acc.addr else none) with
  | some h => (act (s.named p h acc.speed)).busStop p
  | none => s.busStop p

/-! ## Violations of the window (R386, R387) -/

/-- A window violation: the pointer byte in place of OPCODE, and the bytes after it as the byte count (R386, log entry 33). -/
def State.windowViolation (s : State) (p : HostPort) (reason ptr count : Nat) : State :=
  let s := if reason = 0x90 then s else s.incPar (oPort p) Pid.HPort.PEC_ERRORS
  s.violation p stPROTOCOL reason ptr 0 count

/-! ## What a read does -/

/-- Bytes of the reply stream are consumed; the last one frees the operation's entry and tag (R353, R385). -/
def State.consumeReply (s : State) (p : HostPort) (n : Nat) : State :=
  match (s.port p).replies with
  | [] => s
  | r :: rest =>
    if (s.port p).readPos + n < r.bytes.length then s.modPort p fun a => { a with readPos := a.readPos + n }
    else
      let s := s.modPort p fun a => { a with replies := rest, readPos := 0 }
      match r.op with
      | some id => s.dropOp id
      | none => s

/-- The unread bytes of the oldest undelivered reply. -/
def State.unread (s : State) (p : HostPort) : Bytes :=
  match (s.port p).replies with
  | r :: _ => r.bytes.drop (s.port p).readPos
  | [] => []

/-- ALERT_CAUSE is cleared by a read, PROTOCOL not while CAUTIOUS reads 1 (R388). -/
def State.clearAlert (s : State) (p : HostPort) : State :=
  let keep := s.par (oPort p) Pid.HPort.CAUTIOUS == 1 && (s.port p).alertCause.testBit alProtocol
  s.modPort p fun a => { a with alertCause := if keep then 2 ^ alProtocol else 0, alertReleased := false }

/-- One byte is read at the pointer, outside the reply stream: the byte, and what its read does (R383, R388). -/
def State.windowRead (s : State) (p : HostPort) : Byte × State :=
  let a := (s.port p).pointer.toNat
  let s := if a = 0x20 && s.supply.cs != .rom then
    let f := s.fastBytes
    s.modPort p fun x => { x with fast := f }
    else s
  let b := s.windowByte p a
  let space := s.reqSpace p
  let avail := s.replyAvail p
  let s := s.modPort p fun x => { x with pointer := pointerNext a }
  (BitVec.ofNat 8 b,
    if a = 0x09 then s.clearAlert p
    else if a = 0x0C then s.modPort p fun x => { x with spaceHigh := BitVec.ofNat 8 (space / 256) }
    else if a = 0x0E then s.modPort p fun x => { x with availHigh := BitVec.ofNat 8 (avail / 256) }
    else s)

/-- `n` bytes are read from the pointer on, outside the reply stream. -/
def State.windowReads (s : State) (p : HostPort) : Nat → Bytes × State
  | 0 => ([], s)
  | n + 1 =>
    let (l, s) := s.windowReads p n
    let (b, s) := s.windowRead p
    (l ++ [b], s)

/-- The `n` bytes of a read transaction from the pointer on. From REPLY_STREAM, where the pointer holds, they are those of
the oldest reply and 0x00 after its last (R385); `keep` consumes none of them. -/
def State.readData (s : State) (p : HostPort) (n : Nat) (keep : Bool) : Bytes × State :=
  if (s.port p).pointer = 0x11 then
    let l := (s.unread p).take n
    (l ++ List.replicate (n - l.length) 0, if keep || l.isEmpty then s else s.consumeReply p l.length)
  else s.windowReads p n

/-- What the port has driven on SDA. -/
def State.drive (s : State) (p : HostPort) (l : Bytes) : State := s.modPort p fun x => { x with driven := l }

/-- The pointer is set (R382). -/
def State.setPointer (s : State) (p : HostPort) (a : Byte) : State := s.modPort p fun x => { x with pointer := a }

/-- A read without PEC from the pointer on. -/
def State.plainRead (s : State) (p : HostPort) (n : Nat) : State :=
  let (l, s) := s.readData p n false
  s.drive p l

/-- A read with COUNT while PEC is active: COUNT data bytes, the PEC over the whole transaction and then 0xFF. The bytes of
REPLY_STREAM are consumed only where the PEC byte is sent (R387). -/
def State.pecRead (s : State) (p : HostPort) (addr : BitVec 7) (ptr count : Byte) (n : Nat) : State :=
  let c := count.toNat
  let (l, s) := (s.setPointer p ptr).readData p (min n c) (decide (n ≤ c))
  let head : Bytes := [BitVec.ofNat 8 (2 * addr.toNat), ptr, count, BitVec.ofNat 8 (2 * addr.toNat + 1)]
  s.drive p (if n ≤ c then l else l ++ crc8 (head ++ l) :: List.replicate (n - c - 1) 0xFF)

/-- A read that PEC has failed: 0xFF, and nothing is consumed (Table 15-5). -/
def State.failedRead (s : State) (p : HostPort) (ptr : Byte) (n : Nat) : State :=
  (s.windowViolation p 0x92 ptr.toNat 0).drive p (List.replicate n 0xFF)

/-! ## What a write does -/

/-- A byte joins the packet being built (R351, R384): past the 284th, or with no space left, it is only counted. -/
def State.streamByte (s : State) (p : HostPort) (b : Byte) : State :=
  let x := s.port p
  if s.reqSpace p = 0 then s.discarded p 1
  else
    let s := s.modPort p fun x => { x with written := x.written + 1 }
    if x.build.length ≥ 284 then s.discarded p 1
    else s.modPort p fun x => { x with build := x.build ++ [b] }

/-- The packet is submitted; during a level 3 restart it waits in the request memory (R351, R363). -/
def State.doorbell (s : State) (p : HostPort) : State :=
  let x := s.port p
  let s := s.modPort p fun x => { x with build := [], written := 0 }
  if s.miller.restarting then
    s.modPort p fun y => { y with waiting := y.waiting ++ [(x.build, x.written)] }
  else s.submitBytes p x.build x.written

/-- The bytes since the last submit are discarded. -/
def State.discard (s : State) (p : HostPort) : State :=
  s.modPort p fun x => { x with build := [], written := 0 }

/-- The window's ALERT_MASK is the parameter (Table 15-1). -/
def State.maskWrite (s : State) (p : HostPort) (b : Byte) : State :=
  let s := s.setPar (oPort p) Pid.HPort.ALERT_MASK b.toNat
  if s.running && !s.thermalLatched then s.askConfig (oPort p) else s

/-- What a written byte does at a window address (Table 15-1, R384). -/
def State.byteWrite (s : State) (p : HostPort) (a : Nat) (b : Byte) : State :=
  if a = 0x0A then s.maskWrite p b
  else if a = 0x10 then s.streamByte p b
  else if a = 0x12 then
    (if b = 0xA5 then s.doorbell p else if b = 0x5A then s.discard p else s)
  else s

/-- Is a window address RO or RC (Table 15-1)? -/
def readOnlyAt (a : Nat) : Bool := (a < 0x10 && a != 0x0A) || a == 0x11 || (0x20 ≤ a && a < 0x40)

/-- One data byte of a write transaction takes effect at the pointer: the first that meets an RO or RC location without PEC
is the transaction's one violation (R386). `ptr` is its pointer byte and `n` how many bytes follow that. -/
def State.dataByte (p : HostPort) (pec : Bool) (ptr : Byte) (n : Nat) (x : State × Bool) (b : Byte) : State × Bool :=
  let a := (x.1.port p).pointer.toNat
  let bad := !pec && readOnlyAt a
  let s := if bad && !x.2 then x.1.windowViolation p 0x90 ptr.toNat n else x.1.byteWrite p a b
  (s.setPointer p (pointerNext a), x.2 || bad)

/-- The data bytes of a write transaction from its pointer byte on (R382). -/
def State.writeData (s : State) (p : HostPort) (pec : Bool) (ptr : Byte) (data : Bytes) : State :=
  (data.foldl (State.dataByte p pec ptr data.length) (s.setPointer p ptr, false)).1

/-- The PEC failure of a write transaction on an address (R387): `l` are its bytes from the pointer on, the PEC last. -/
def pecFails (addr : BitVec 7) (l : Bytes) : Option Nat :=
  if l.length < 2 then some 0x92
  else if crc8 (BitVec.ofNat 8 (2 * addr.toNat) :: l) != 0 then some 0x91 else none

/-- A write transaction (R382): `rest` are the bytes after the pointer. With PEC the first 288 bytes are held, and apply at
the STOP where the last of them is their PEC (R387). -/
def State.write (s : State) (p : HostPort) (acc : HostAccess) (ptr : Byte) (rest : Bytes) : State :=
  s.transaction p acc fun t =>
    if !t.pecActive p then t.writeData p false ptr rest
    else match pecFails acc.addr (ptr :: rest.take 287) with
      | some r => t.windowViolation p r ptr.toNat rest.length
      | none => t.writeData p true ptr (rest.take 287).dropLast

/-- A read transaction of `n` bytes (R382, R387, Table 15-5): at an address that it names or, without one, at the present
pointer. Without PEC a COUNT byte is a byte written there. -/
def State.readRow (s : State) (p : HostPort) (acc : HostAccess) (form : ReadForm) (ptr : Byte) (n : Nat) : State :=
  s.transaction p acc fun t =>
    if t.pecActive p then
      match form with
      | .counted c => if c = 0 then t.failedRead p ptr n else t.pecRead p acc.addr ptr c n
      | .plain => t.failedRead p ptr n
      | .direct => t.windowViolation p 0x93 (t.port p).pointer.toNat 0
    else match form with
      | .plain => (t.setPointer p ptr).plainRead p n
      | .direct => t.plainRead p n
      | .counted c => (t.writeData p false ptr [c]).plainRead p n

/-! ## The rows -/

/-- REQ_STREAM: bytes written from 0x10 on. -/
def execReqStream (port : HostPort) (acc : HostAccess) (data : Bytes) (s : State) : Host.Outcome State Fault Refusal :=
  .next (s.write port acc 0x10 data)

/-- DOORBELL = 0xA5. -/
def execDoorbellSubmit (port : HostPort) (x : HostWrite) (s : State) : Host.Outcome State Fault Refusal :=
  .next (s.write port x.acc 0x12 (0xA5 :: x.rest))

/-- DOORBELL = 0x5A. -/
def execDoorbellDiscard (port : HostPort) (x : HostWrite) (s : State) : Host.Outcome State Fault Refusal :=
  .next (s.write port x.acc 0x12 (0x5A :: x.rest))

/-- REPLY_STREAM. -/
def execReplyStream (port : HostPort) (x : HostRead) (s : State) : Host.Outcome State Fault Refusal :=
  .next (s.readRow port x.acc x.form 0x11 x.n)

/-- ALERT_CAUSE. -/
def execAlertCause (port : HostPort) (x : HostRead) (s : State) : Host.Outcome State Fault Refusal :=
  .next (s.readRow port x.acc x.form 0x09 x.n)

/-- FAST_STATUS: a read from 0x20 on. -/
def execFastStatus (port : HostPort) (x : HostRead) (s : State) : Host.Outcome State Fault Refusal :=
  .next (s.readRow port x.acc x.form 0x20 x.n)

/-- HIGH_BYTE_LATCH: a read from the low byte of REQ_SPACE or REPLY_AVAIL on. -/
def execHighByteLatch (port : HostPort) (reply : Bool) (x : HostRead) (s : State) : Host.Outcome State Fault Refusal :=
  .next (s.readRow port x.acc x.form (if reply then 0x0E else 0x0C) x.n)

/-- WINDOW_WRITE. -/
def execWindowWrite (port : HostPort) (acc : HostAccess) (ptr : Byte) (rest : Bytes) (s : State) :
    Host.Outcome State Fault Refusal :=
  .next (s.write port acc ptr rest)

/-- CAUTIOUS_EXIT: acknowledged, and no violation for 60 s (R374). The record repeats LAST_VIOLATION. -/
def execCautiousExit (port : HostPort) (s : State) : Host.Outcome State Fault Refusal :=
  let o := oPort port
  if s.running && s.par o Pid.HPort.CAUTIOUS == 2 && s.violations1s port == 0 then
    let v := (s.par o Pid.HPort.LAST_VIOLATION).toNat
    .next ((s.setPar o Pid.HPort.CAUTIOUS 0).violationRecord port (v / 16777216) (v / 65536 % 256) (v / 256 % 256)
      (v % 256) 0)
  else .next s

/-- CLOCK_LOW_TIMEOUT: the port abandons the transaction (R381); nothing of it has applied. -/
def execClockLowTimeout (port : HostPort) (s : State) : Host.Outcome State Fault Refusal :=
  if s.portAnswers port && s.par (oPort port) Pid.HPort.TIMEOUT_ENABLE == 1 then
    .next (s.incPar (oPort port) Pid.HPort.TIMEOUTS)
  else .next s

/-- ALERT_RESPONSE: a port whose ALERT_N is low answers 0x0C with its primary address; the winner releases ALERT_N
(R389), and sends a PEC byte while PEC is active. -/
def execAlertResponse (port : HostPort) (won : Bool) (s : State) : Host.Outcome State Fault Refusal :=
  let o := oPort port
  if !s.portAnswers port || !s.alertLow port then .next s
  else if !won then .next (s.busStop port)
  else
    let held := s.par o Pid.HPort.CAUTIOUS == 1
    let b : Byte := BitVec.ofInt 8 (s.par o Pid.HPort.PRIMARY_ADDR * 2)
    let l : Bytes := if s.pecActive port then [b, crc8 [0x19, b]] else [b]
    let s := s.modPort port fun a => { a with alertReleased := a.alertReleased || !held, driven := l }
    .next ((s.incPar o Pid.HPort.ARA_WINS).busStop port)

end Sys2Proof.Machine
end

