-- ==== Sys2Proof/Machine/Supply.lean ====
section
/-! DEFINITION. Supplies, the critical save, the Uhles link, FLOAT, WATCH and its wakes, and the full test (R14, R15,
R79, R267, R268, R273 to R277, R281 to R290, R303, R342, R380). -/

namespace Sys2Proof.Machine

/-! ## The link and the power-side die (R14, R15, R268) -/

/-- Does the control side see the link: its logic is out of reset and awake? -/
def State.csAwake (s : State) : Bool :=
  s.supply.cs == .run || s.supply.cs == .saving || s.supply.cs == .saved || s.supply.cs == .rom

/-- A capture that is armed or triggered stops: no evaluation paces it (Table 5-11). -/
def State.traceHalt (s : State) : State :=
  if s.traceState == tsARMED || s.traceState == tsTRIGGERED then
    s.traceEnd
  else s

/-- The link is lost: every PWM output goes low, conversion stops, FLOAT is left, and no sample arrives (R14, R60,
R127, R290). -/
def State.linkLoss (s : State) : State :=
  if !s.linkUp then s
  else
    let s := s.setPar oDevice Pid.Device.UHLES_STATUS 1
    (s.flumeStop fcLINK_LOSS).stopConversion.traceHalt.floatLeave.spoilIntervals

/-- UHLES_LINK_LOSS: no valid link frame for 100 ns (R14). -/
def execUhlesLinkLoss (s : State) : Host.Outcome State Fault Refusal :=
  if s.csAwake then .next s.linkLoss else .next s

/-- Power-side objects of the down states reached so far turn off when the link recovers (Table 9-7). -/
def State.downCatchUp (s : State) : State :=
  if s.shelfState == ssBraking && s.seq.walk != .manual && s.seqState ≥ 16 then
    (List.range 16).foldl (fun s i => if 16 + i ≤ s.seqState then s.powerDown (16 + i) else s) s
  else s

/-- The records that waited for the link: created now, or with those of the level 3 restart in progress (R319). -/
def State.linkRecords (s : State) : State :=
  if s.miller3 then s.flushRecords true
  else { s with grist := { s.grist with
    deferred := s.grist.deferred.map fun (d : DeferredRec) => { d with psd := false } } }

/-- UHLES_LINK_RECOVERY: the link is back, and the loss is counted and recorded (R15). -/
def execUhlesLinkRecovery (lossUs : Word) (s : State) : Host.Outcome State Fault Refusal :=
  if !s.csAwake || s.linkUp then .next s
  else
    let s := (s.setPar oDevice Pid.Device.UHLES_STATUS 0).incPar oDevice Pid.Device.LINK_LOSS_COUNT
    let s := { s with supply := { s.supply with psdOk := true } }
    let s := s.linkRecords.record oDevice rcFault 0x05
      [.par oDevice Pid.Device.LINK_LOSS_COUNT, .lit lossUs.toNat]
    .next s.downCatchUp

/-- PSD_RESET: a supply of the power-side die falls (R268). -/
def execPsdReset (s : State) : Host.Outcome State Fault Refusal :=
  let s := { s with supply := { s.supply with psdOk := false } }
  .next (if s.csAwake then s.linkLoss.psdOutputsOff else s.psdOutputsOff)

/-- VPS12_UVLO: VPS12 falls below 9.5 V (R268). -/
def execVps12Uvlo (s : State) : Host.Outcome State Fault Refusal :=
  .next { s with supply := { s.supply with vps12Ok := false } : State }.psdOutputsOff

/-- VPS12_RETURN: VPS12 has been above 10.0 V for 10 ms (R268). -/
def execVps12Return (s : State) : Host.Outcome State Fault Refusal :=
  .next { s with supply := { s.supply with vps12Ok := true } }

/-! ## The critical save (R273 to R277) -/

/-- The save is triggered: Wheel, Flume, Tailrace, processors and host ports stop; it starts once the transaction in
progress has completed (Table 10-4). A slice under test is repeated at a later grant. -/
def State.saveBegin (s : State) (trigger : Nat) : State :=
  let s := s.stopConversion.traceHalt.modDresser fun d => { d with granted := none }
  let s := { s with supply := { s.supply with cs := .saving, saveTrigger := trigger } }
  if s.nvm.active.isNone then s.saveStart else s

/-- A granted capacitance test is void, and a test of logic slice 5 is abandoned (R271, Table 13-11). -/
def State.sagAborts (s : State) : State :=
  let s := if s.supply.cholds then
    { s with supply := { s.supply with cholds := false } : State }.holdBit hsTEST_VOID
    else s
  s.modDresser fun d => { d with granted := if d.granted == some (.logic 5) then none else d.granted }

/-- SAG: VAUX12 has fallen below 12.6 V (R273, R274). -/
def execSag (s : State) : Host.Outcome State Fault Refusal :=
  if !s.csAwake || s.supply.sag then .next s
  else
    let s := s.incPar oDevice Pid.Device.SAG_EVENTS
    let s := { s with supply := { s.supply with sag := true, vauxGood := false } }
    if !s.running then .next s
    else
      let s := s.sagAborts
      if s.nvm.active.isSome && !s.thermalLatched then .next (s.saveBegin 1)
      else .next { s with supply := { s.supply with rideThrough := true } }

/-- VAUX12_GOOD: VAUX12 has been at or above 12.8 V for 1 ms (R273, R274). -/
def execVaux12Good (s : State) : Host.Outcome State Fault Refusal :=
  if s.csAwake then
    .next { s with supply := { s.supply with vauxGood := true, sag := false, rideThrough := false } }
  else .next s

/-- SAVE_ARMED: VHOLD reaches 11.0 V for the first time since the control-side reset (R273). -/
def execSaveArmed (s : State) : Host.Outcome State Fault Refusal :=
  if s.csAwake then .next { s with supply := { s.supply with saveArmed := true } } else .next s

/-- SAVE_TRIGGER: VHOLD below 10.5 V while SAVE_ARMED is live (R273, R275). There is none in THERMAL_LATCHED (R290). -/
def execSaveTrigger (s : State) : Host.Outcome State Fault Refusal :=
  if s.running && s.saveArmedNow && !s.thermalLatched then .next (s.saveBegin 0) else .next s

/-- SAVE_COMMIT: the trailer is written `us` after the trigger, and the save hold begins (R275). -/
def execSaveCommit (us : Word) (s : State) : Host.Outcome State Fault Refusal :=
  if s.supply.cs != .saving || s.nvm.active.isSome then .next s
  else
    let bytes := s.saveBytes
    let s := (s.putSave true).holdBit hsSAVE_DONE
    let s := (s.incPar oDevice Pid.Device.SAVE_COUNT).setPar oDevice Pid.Device.LAST_SAVE_TIME us.toNat
    let s := s.setPar oDevice Pid.Device.LAST_SAVE_BYTES (bytes % 65536 : Nat)
    .next { s with supply := { s.supply with cs := .saved } }

/-- SAVE_RESUME: VAUX12_GOOD is back and VHOLD at 11.0 V before the hold-up ended (R277). -/
def execSaveResume (s : State) : Host.Outcome State Fault Refusal :=
  if s.supply.cs != .saved || !s.supply.vauxGood then .next s
  else
    let s := { s with supply := { s.supply with cs := .run } : State }.spoilMeans
    .next (if s.shelfState == ssNormal then s.shift ssRecovery scSAVE else s)

/-- HOLD_UP_END: VHOLD below 6.5 V resets the control side (R277). A transaction that has started completes first
(R281). WATCH runs from VAON (R290). -/
def execHoldUpEnd (s : State) : Host.Outcome State Fault Refusal :=
  if s.csAwake then .next (s.commitActive.csReset .holdUp) else .next s

/-- SHUTDOWN_CAUSE as the configuration journal holds it: what AON retention held is gone (R249, R251, R288). -/
def State.forgetCause (s : State) : State :=
  s.setPar oShelf Pid.Shelf.SHUTDOWN_CAUSE
    ((lookupKey (keyOf oShelf Pid.Shelf.SHUTDOWN_CAUSE) s.nvm.config).getD (paramReset oShelf Pid.Shelf.SHUTDOWN_CAUSE))

/-- OFF: with VAON the retention memory, the AON count and the thermal latch are lost (R288, R33). -/
def State.vaonOff (s : State) : State :=
  let s := if s.supply.cs == .reset then s else s.csReset .powerUp
  let s := s.forgetCause
  { s with supply := { s.supply with cs := .off, cause := .powerUp, retentionBad := 0 }
           time := { s.time with latch := none, onAonRc := false }
           shelf := { s.shelf with latched := false }
           dresser := { s.dresser with full := none, fullHard := [], fullPending := false } }

/-- SUPPLY_FALL: a control-side supply falls below its threshold (R267). In WATCH only VAON counts (R290). -/
def execSupplyFall (w : Supply) (s : State) : Host.Outcome State Fault Refusal :=
  match w with
  | .vaon => if s.supply.cs == .off then .next s else .next s.vaonOff
  | .vcc3v3 | .vddio | .vcore => if s.csAwake then .next (s.csReset .supply) else .next s

/-! ## FLOAT (R79, R283) -/

/-- FLOAT is entered: every enabled loop's FLOAT image goes into its inactive bank, and each cascade swaps (R79). -/
def State.floatEnter (s : State) : State :=
  let s := s.setPar oDevice Pid.Device.DEVICE_MODE 1
  let loops := (List.range 32).filter fun n => s.enabled (oLoop n)
  let s := s.eachOf loops fun n s =>
    let k := 1 - s.activeBank n
    let s := s.modLoop n fun a => (a.setBank k a.float).setBank 2 a.float
    (s.modLoop n fun a => { a with returnTo := some (1 - k), slow := true }).updPar (oLoop n) (loadGenPid k)
      fun v => (v + 1) % 4294967296
  let s := s.each 24 fun p s => s.modPhase p fun a => { a with floatRun := 0 }
  let s := s.each 8 fun m s =>
    let l := ((24 + m) :: s.maskPhases m).filter loops.contains
    if l.isEmpty then s else s.registerSwap (ownSwap l 1 (24 + m))
  let lone := loops.filter fun n => decide (n < 24) && (s.outerOf n).isNone
  if lone.isEmpty then s else s.registerSwap (ownSwap lone 0 0)

/-- FLOAT_ENTRY: every bit of FLOAT_BLOCK has stayed clear for FLOAT_ENTRY_TIME (R283). -/
def execFloatEntry (s : State) : Host.Outcome State Fault Refusal :=
  if s.miller3 && s.deviceMode == 0 && s.floatBlockNow == 0 then .next s.floatEnter else .next s

/-! ## WATCH (R285 to R287) -/

/-- A write that WATCH entry makes at once, as a granted transaction of its own. -/
def State.commitNow (s : State) (w : NvmWork) : State :=
  let s := { s with nvm := { s.nvm with queue := s.nvm.queue.filter fun r => r.work != w } }
  ((s.noteWritten w).incPar oDevice Pid.Device.NVM_WRITE_COUNT).workCommit ⟨.mirror, w, 1, none, s.time.tick⟩

/-- Every unmirrored record is mirrored: 2048 slots take at most 128 transactions, the first area 32. -/
def State.mirrorAll (s : State) : State :=
  let s := (List.range 128).foldl (fun s _ => if s.unmirrored.isEmpty then s else s.commitNow .gristMirror) s
  (List.range 32).foldl (fun s _ => if s.firstPending.isEmpty then s else s.commitNow .gristFirst) s

/-- May WATCH be entered: the Brake sequence is complete in BRAKING and no level 3 restart runs (R285)? -/
def State.watchReady (s : State) : Bool :=
  s.miller3 && s.shelfState == ssBraking && s.seq.complete && !s.seq.powerOn

/-- Would Fantail grant the writes of a WATCH entry: the Millpond covers each of them, and the tick record was not written
within the last second (R228, R280, R281)? -/
def State.watchWrites (s : State) : Bool := !s.millShort 2 && s.rateOk .tickRecord

/-- WATCH is entered at an AON count (R285, R296, R297): the transaction in progress completes, the tick journal and
the mirror are written with the clean-stop marker, the retention contexts are written afresh, and the power-side die goes
to its watch state. The save trigger is disarmed while DEVICE_MODE reads WATCH. -/
def State.watchEnter (s : State) (aon : Nat) : State :=
  let s := (s.commitActive.commitNow .tickRecord).mirrorAll
  let s := (s.psdOutputsOff.setPar oDevice Pid.Device.DEVICE_MODE 2).latchTick aon true
  { s with nvm := { s.nvm with cleanStop := s.unmirrored.isEmpty }
           supply := { s.supply with cs := .watch, rideThrough := false, cholds := false, retentionBad := 0
                                     watchDue := false } }

/-- WATCH_ENTRY: WATCH_IDLE_TIME after the completion of the Brake, without host traffic, or a MODE_REQUEST = WATCH whose
writes had to wait (R285). Entry waits until its writes are granted (R281). -/
def execWatchEntry (aon : BitVec 48) (s : State) : Host.Outcome State Fault Refusal :=
  if s.watchReady && s.deviceMode != 2 && s.watchWrites &&
      (s.par oDevice Pid.Device.WATCH_AFTER_BRAKE == 1 || s.supply.watchDue) then
    .next (s.watchEnter aon.toNat)
  else .next s

/-- WATCH_RETURN: WATCH_IDLE_TIME without host traffic after a wake that was no power-on request (R286). -/
def execWatchReturn (aon : BitVec 48) (s : State) : Host.Outcome State Fault Refusal :=
  if s.watchReady && s.deviceMode == 2 && s.watchWrites then .next (s.watchEnter aon.toNat) else .next s

/-- e of Table 11-2: elapsed AON counts in µs, rounded down. -/
def aonUs (counts : Nat) : Nat := counts * 1000000 / 32768

/-- The tick is restored from the tick journal, or the TIME section of an applied save, with TICK_GAP and WALL_SUSPECT; with neither it
is 0 (Table 11-2, rows 2 and 3). WALL_OFFSET and WALL_VALID are the journal's (R299). -/
def State.restoreJournal (s : State) (time : Option SaveImage) : State :=
  if s.time.ceilingWritten || time.isSome then
    let saved : Nat := (time.map fun x => x.tick).getD 0
    let ceiling : Nat := if s.time.ceilingWritten then (s.par oDevice Pid.Device.TICK_CEILING).toNat else 0
    let offset : Int := match s.time.ceilingWritten, time with
      | false, some x => x.wall - x.tick
      | _, _ => s.time.ceilingOffset
    let s := s.modTime fun t => { t with tick := max ceiling saved + 1, wallSuspect := true, wallValid := t.ceilingValid }
    ((s.setPar oDevice Pid.Device.WALL_OFFSET offset).setPar oDevice Pid.Device.TICK_SOURCE 2).clockBit ckTICK_GAP
  else (s.modTime fun t => { t with tick := 0 }).setPar oDevice Pid.Device.TICK_SOURCE 3

/-- The tick is restored at a wake from the latch written at entry where that passes its CRC, else from the journal (Table 11-2), and
latched again (R296). -/
def State.wakeTick (s : State) (aon : BitVec 48) (latchBad : Bool) : State :=
  match (if latchBad then none else s.time.latch) with
  | some l =>
    let s := s.modTime fun t => { t with tick := l.tick + aonUs (aon - l.aon).toNat }
    let s := (s.setPar oDevice Pid.Device.WALL_OFFSET l.offset).setPar oDevice Pid.Device.TICK_SOURCE 0
    s.latchTick aon.toNat false
  | none => (s.restoreJournal none).latchTick aon.toNat false

/-- The configuration of an object as the journal holds it, taken for a retention context that has failed (R287). -/
def State.reloadConfig (s : State) (o : Nat) (pids : List Nat) : State :=
  s.eachOf pids fun pid s => s.setPar o pid ((lookupKey (keyOf o pid) s.nvm.config).getD (paramReset o pid))

/-- The retention contexts that fail their CRC at a wake are reloaded from the configuration journal, and RETENTION_BAD is
set with a record (R287). Of the shelf and sequencer state and of the Fantail summary the journal holds the configuration
alone (log entry 26). -/
def State.retentionCheck (s : State) (found : BitVec 4) : State :=
  let bad := s.supply.retentionBad ||| found
  let s := { s with supply := { s.supply with retentionBad := 0 } }
  if bad = 0 then s
  else
    let s := if bad.getLsbD 0 then s.reloadConfig oShelf (configPids oShelf) else s
    let s := if bad.getLsbD 1 then s.reloadConfig oFantail (configPids oFantail) else s
    let s := if bad.getLsbD 2 then
        (s.reloadConfig (oPort .ha) (configPids (oPort .ha))).reloadConfig (oPort .hb) (configPids (oPort .hb))
      else s
    let s := if bad.getLsbD 3 then
        s.reloadConfig oDevice [Pid.Device.WATCH_AFTER_BRAKE, Pid.Device.WATCH_IDLE_TIME,
          Pid.Device.WATCH_STR_LOW, Pid.Device.WATCH_BUS_HIGH, Pid.Device.WAKE_TIMER_PERIOD]
      else s
    (s.holdBit hsRETENTION_BAD).supplyRecord

/-- The device wakes with pending sources at an AON count, some retention contexts failing their CRC, and with bit 4 of `bad`
the tick latch failing its own (R286, R298). A press or a
COG low is a power-on request once its length is known (PB_PRESS, COG_LOW_END); any other source is served and recorded, a
watch comparator with ALERT (log entry 22). The sensors start sampling anew (R223). -/
def State.wake (s : State) (sources : Nat) (aon : BitVec 48) (bad : BitVec 5) : State :=
  let s := (s.wakeTick aon (bad.getLsbD 4)).setPar oDevice Pid.Device.WAKE_CAUSE (sources % 256 : Nat)
  let s := { s with supply := { s.supply with cs := .run } }
  let s := s.flushRecords false
  let s := s.retentionCheck (bad.setWidth 4)
  let s := s.each 16 fun t s => s.modTherm t fun a => { a with samples := [], means := [], cool := none }
  let s := if s.supply.psdOk then s else s.linkLoss
  if s.thermalLatched then s.writeShutdown
  else
    let s := if sources.testBit 3 then s.modSeq fun q => { q with lineLow := true } else s
    let s := if sources % 256 / 16 = 0 && sources % 4 = 0 then s else s.supplyRecord
    if sources.testBit 4 || sources.testBit 5 then s.raise alFault else s

/-- WATCH_WAKE: wake sources pend in WATCH (R286, Table 10-9). -/
def execWatchWake (x : WakeIn) (aon : BitVec 48) (s : State) : Host.Outcome State Fault Refusal :=
  if s.supply.cs == .watch && x.sources.toNat % 256 != 0 then .next (s.wake x.sources.toNat aon x.bad) else .next s

/-- AON_WAKE_TIMER: WAKE_TIMER_PERIOD seconds have passed in WATCH, counted in AON cycles from its entry (R303). The row does not say
which retention contexts fail their CRC at the wake: that is a free value (log entry 4). -/
def execAonWakeTimer (s : State) : Host.Outcome State Fault Refusal :=
  let period := (s.par oDevice Pid.Device.WAKE_TIMER_PERIOD).toNat
  match s.time.latch with
  | some l =>
    if s.supply.cs == .watch && period != 0 then
      let (v, t) := s.draw
      .next (t.wake 64 (l.aon + BitVec.ofNat 48 (32768 * period)) (BitVec.ofInt 5 v))
    else .next s
  | none => .next s

/-- ADDRESS_MATCH_WAKE: an address match in WATCH; the port stretches SCL while the device wakes (R380). The AON count
of the wake is free (log entry 4). Where the other port's match has woken it and still stretches, both stretch and both
WAKE_CAUSE bits are set (R400). -/
def execAddressMatchWake (x : WakeMatch) (s : State) : Host.Outcome State Fault Refusal :=
  let port := x.port
  if !s.acknowledges port x.acc.addr || x.acc.speed == .highSpeed then .next s
  else
    let named := match s.addressHit port x.acc.addr with
      | some h => s.named port h x.acc.speed
      | none => s
    let named := named.modPort port fun p => { p with stretch := true }
    if s.supply.cs == .watch then
      let (a, t) := named.draw
      .next (t.wake (2 ^ portIx port) (BitVec.ofInt 48 a) x.bad)
    else if (s.port (otherPort port)).stretch && !(s.port port).stretch then
      .next (named.setBit oDevice Pid.Device.WAKE_CAUSE (portIx port))
    else .next s

/-- WAKE_STRETCH_RELEASE: the port releases SCL, after 2 ms whether the window is ready or not: read bytes are then 0xFF
(R380). -/
def execWakeStretchRelease (port : HostPort) (heldUs : BitVec 16) (s : State) :
    Host.Outcome State Fault Refusal :=
  if (s.port port).stretch then
    let s := s.modPort port fun x => { x with stretch := false, driven := if heldUs.toNat ≥ 2000 then [0xFF] else x.driven }
    .next (s.updPar (oPort port) Pid.HPort.WAKE_STRETCH_MAX fun v => max v heldUs.toNat)
  else .next s

/-! ## The full test (R342) -/

/-- The unit of a failure, as its kind and number: a memory slice of an array, a logic slice or a lane (R335, R342). -/
def failUnitOf (x : FullFail) : Nat × Nat :=
  match x with
  | .cell arr c _ _ => (arr.val, c.toNat / 8)
  | .logic k _ _ => (6, k.val)
  | .lane l _ _ => (7, l.val)

/-- FIRST_FAIL and ACTUAL of a failure (Table 13-7). -/
def failShown (x : FullFail) : Nat × Nat :=
  match x with
  | .cell _ c sy b => (lastError 3 c.toNat sy.val b.val, 0)
  | .logic _ e r => (e.toNat, r.toNat)
  | .lane _ e r => (e.toNat, r.toNat)

/-- The codeword of a cell that failed the march: of an SRAM array (R342). -/
def failHard (x : FullFail) : Option (Nat × Nat) :=
  match x with
  | .cell arr c _ _ => if arr.val ≤ 2 ∨ arr.val = 5 then some (arr.val, c.toNat) else none
  | _ => none

/-- FULL_TEST: an accepted request resets the control side, the ROM tests everything, and its result waits in AON
retention for the boot, which queues the repairs of what the march found (R338, R342). A transaction that has started completes
first (R281). The operands are what it found: the first failure, then the others of the march, of the logic slices and of the
lanes. -/
def execFullTest (first : Option FullFail) (cells logic lanes : List FullFail) (s : State) :
    Host.Outcome State Fault Refusal :=
  if !s.running || !s.dresser.fullPending then .next s
  else
    let fails := first.toList ++ cells ++ logic ++ lanes
    let units := (fails.map failUnitOf).eraseDups
    let shown := (fails.head?.map failShown).getD (0, 0)
    let t : HostTest := { id := 0, kind := 3, target := 0, state := if fails.isEmpty then 2 else 3,
                          startTick := s.time.tick, endTick := s.time.tick
                          units := (List.range 6).foldl (fun n a => n + slicesOf a) 10, fails := units.length,
                          firstFail := shown.1, actual := shown.2
                          failUnit := (units.head?.map Prod.snd).getD 0, op := none }
    .next ((s.commitActive.csReset .fullTest).modDresser fun d =>
      { d with full := some t, fullHard := fails.filterMap failHard, fullPending := false })

end Sys2Proof.Machine
end

