-- ==== Sys2Proof/Machine/Params.lean ====
section
/-! DEFINITION. Parameter and object operations: PARAM_GET, PARAM_SET, PARAM_GET_MULTI, OBJ_STATE, OBJ_ENABLE,
OBJ_DISABLE and OBJ_CLEAR_LATCH (R366 to R371), what a write or a read of a parameter does, and the constraints that
the chapters state. -/

namespace Sys2Proof.Machine

/-! ## ENABLE (R27, and each type's chapter) -/

/-- A consumer's waited time restarts (Table 8-13). -/
def State.waitRestarts (s : State) (o : Nat) : State :=
  match objType o with
  | .feeder => s.modConsF (o - 0x30) fun c => { c with since := s.time.tick, expired := false }
  | .string => s.modConsS (o - 0x80) fun c => { c with since := s.time.tick, expired := false }
  | _ => s

/-- An outer loop whose segment runs starts its phases again through soft start: the segment is STARTING until the
set-point is back at its target, and slews in flight there complete (R89, R106, R110, R127; log entry 28). -/
def State.loopRestart (s : State) (m : Nat) : State :=
  let b := s.loopSeg m
  if s.segRuns b || s.objNow (oSeg b) == osStarting then
    let v := s.par (oSeg b) Pid.Segment.V_FAST
    let s := s.setPar (oOuter m) Pid.Loop.SETPOINT_NOW (min v (s.par (oOuter m) Pid.Loop.SETPOINT_TARGET))
    let s := s.modLoop (24 + m) fun a => { a.clearHistory with rem := 0 }
    let s := s.eachOf (s.loopsOfSeg b) fun k s => s.modLoop (24 + k) fun a => { a with uvNs := none }
    let s := (s.setObj (oSeg b) osStarting).modSeg b fun a => { a with ramping := true }
    let s := s.eachOf ((s.maskPhases m).filter s.phaseReady) fun p s =>
      s.modPhase p fun a => { a with wait := some .soft, reefed := false, shed := false }
    s.slewsSettle b
  else s

/-- A FAILED phase is cleared: it waits with REEFED live and rejoins through reefing (R122). One that runs on
I_REF_FIXED never reefs (R118). Miller's record of the removal still follows (R120, R127). -/
def State.phaseClear (s : State) (p : Nat) : State :=
  ((s.clearFaults (oPhase p)).setObj (oPhase p) osWaiting).modPhase p fun a =>
    { a with reefed := (s.outerOf p).isSome }

/-- ENABLE of a phase (R122). One enabled while its segment runs joins through reefing (log entry 28). -/
def State.phaseEnable (s : State) (p : Nat) (on : Bool) : State :=
  let o := oPhase p
  if on then
    if s.objSt o == osFailed then (if s.activeBad p then s else s.phaseClear p)
    else
      let joins := match s.outerOf p with
        | some m => s.segRuns (s.loopSeg m)
        | none => false
      (s.setObj o osWaiting).modPhase p fun a => { a with reefed := joins }
  else
    let s := ((s.stopPhase p).modPhase p fun a => { a with reefed := false }).syncAlone
    if s.objSt o == osFailed then s else s.setObj o osWaiting

/-- ENABLE of an outer loop. Disabled, it is not evaluated, so the phases it feeds stop (log entry 28); a loop that
failed stays failed (R89). -/
def State.outerEnable (s : State) (m : Nat) (on : Bool) : State :=
  let o := oOuter m
  if on then
    if s.objSt o == osFailed then s else (s.setObj o osWaiting).loopRestart m
  else
    let s := s.eachOf (s.namingPhases m) fun p s =>
      let s := s.stopPhase p
      if s.objSt (oPhase p) == osStarting || s.objSt (oPhase p) == osActive then s.setObj (oPhase p) osWaiting else s
    let s := if (s.loop (24 + m)).slewing then s.slewEnd m stOK 0 else s
    let s := s.outerIdle m
    if s.objSt o == osFailed then s else s.setObj o osWaiting

/-- ENABLE of a segment (R110, R113). -/
def State.segEnable (s : State) (b : Nat) (on : Bool) : State :=
  let o := oSeg b
  if on then (if s.objSt o == osLatched then s.clearSegment b else s)
  else
    let s := s.stopConverter b
    let s := s.modSeg b fun a => { a with offTime := false, overHold := false, ramping := false }
    let s := if s.objSt o == osLatched then s else s.setObj o osWaiting
    s.slewsSettle b

/-- What a change of ENABLE does; the parameter has its new value. -/
def State.enableChanged (s : State) (o : Nat) (on : Bool) : State :=
  match objType o with
  | .segment => s.segEnable (o - 0x04) on
  | .outerLoop => s.outerEnable (o - 0x08) on
  | .phase => s.phaseEnable (o - 0x10) on
  | .feeder => (s.feederEnable (o - 0x30) on).waitRestarts o
  | .string => (s.stringEnable (o - 0x80) on).waitRestarts o
  | .rail => s.railEnable (o - 0x90) on
  | .hostPort => if on then s else s.portOff (if o = 0xF0 then .ha else .hb)
  | _ => s

/-- Set ENABLE. -/
def State.setEnable (s : State) (o : Nat) (on : Bool) : State :=
  if s.enabled o == on then s else (s.setPar o Pid.ENABLE (b2i on)).enableChanged o on

/-! ## Constraints (check 8 of R367) -/

/-- Is a value in the range that the table states? OUTER_SOURCE, UP_STATE and POL_ADDR state one value besides. -/
def inRange (o : Nat) (d : Desc) (v : Int) : Bool :=
  match objType o with
  | .phase => if d.pid = Pid.Phase.OUTER_SOURCE then decide (8 ≤ v ∧ v ≤ 15) || v == 255 else decide (d.lo ≤ v ∧ v ≤ d.hi)
  | .rail => if d.pid = Pid.Rail.UP_STATE then decide (0 ≤ v ∧ v ≤ 15) || v == 255 else decide (d.lo ≤ v ∧ v ≤ d.hi)
  | .pol => if d.pid = Pid.Pol.POL_ADDR then v == 0 || decide (8 ≤ v ∧ v ≤ 0x77) else decide (d.lo ≤ v ∧ v ≤ d.hi)
  | _ => decide (d.lo ≤ v ∧ v ≤ d.hi)

/-- At most four interleave groups exist (R93). -/
def State.groupsOk (s : State) : Bool :=
  let fs := ((List.range 24).filter fun p => s.enabled (oPhase p)).map fun p => s.par (oPhase p) Pid.Phase.F_PWM
  decide (fs.eraseDups.length ≤ 4)

/-- Every phase that names the outer loop of a phase has its PWM frequency and its FS_CURRENT (R72). -/
def State.cascadeOk (s : State) (p : Nat) : Bool :=
  match s.outerOf p with
  | none => true
  | some m => (s.namingPhases m).all fun q =>
      s.par (oPhase q) Pid.Phase.F_PWM == s.par (oPhase p) Pid.Phase.F_PWM && s.fsCurrent q == s.fsCurrent p

/-- OFFSET_USER lies within ±2 % of full scale (R48). -/
def State.offsetOk (s : State) (o : Nat) : Bool :=
  decide ((50 * (s.par o pOffsetUser).natAbs : Int) ≤ s.fullScale o)

/-- COG_STALL_TIME exceeds ACT_DEFER_LIMIT on a unit that is on the line (R257). -/
def State.stallOk (s : State) : Bool :=
  s.par oShelf Pid.Shelf.COG_ENABLE == 0 ||
    decide (s.par oFantail Pid.Fantail.ACT_DEFER_LIMIT * 1000 < s.par oShelf Pid.Shelf.COG_STALL_TIME)

/-- The addresses that a host port must not answer (R378). -/
def reservedAddr (a : Nat) : Bool := decide (a < 8) || a == 0x0C || decide (0x78 ≤ a)

/-- An extra address: unused, or a 7-bit address that is not reserved (R378). -/
def extraOk (v : Int) : Bool := v == 0 || (decide (v ≤ 0x7F) && !reservedAddr v.toNat)

/-- A mask's matched set includes no reserved address (R378). -/
def maskOk (base mask : Nat) : Bool :=
  (List.range 128).all fun a => (a ^^^ base) &&& mask != 0 || !reservedAddr a

/-- An OCV point lies between its neighbours (R192; log entry 30). -/
def State.ocvOk (s : State) (o k : Nat) : Bool :=
  let v := s.par o (Pid.String.OCV + k)
  (k == 0 || decide (s.par o (Pid.String.OCV + k - 1) < v)) &&
    (k == 10 || decide (v < s.par o (Pid.String.OCV + k + 1)))

/-- The constraints of a segment (R48, R125). -/
def State.segmentOk (s : State) (o pid : Nat) : Bool :=
  if pid = pOffsetUser then s.offsetOk o
  else if pid = Pid.Segment.SEG_UV || pid = Pid.Segment.SEG_OV then
    decide (s.par o Pid.Segment.SEG_UV < s.par o Pid.Segment.SEG_OV)
  else true

/-- The constraints of a phase (R48, R72, R93, Table 4-4). -/
def State.phaseOk (s : State) (o pid : Nat) : Bool :=
  let p := o - 0x10
  if pid = pOffsetUser then s.offsetOk o
  else if pid = Pid.Phase.OUTER_SOURCE || pid = Pid.Phase.ISENSE_RANGE || pid = pSenseRnom then s.cascadeOk p
  else if pid = Pid.Phase.F_PWM then s.cascadeOk p && (!s.enabled o || s.groupsOk)
  else if pid = Pid.ENABLE then s.groupsOk
  else if pid = Pid.Phase.D_MIN || pid = Pid.Phase.D_MAX then
    decide (s.par o Pid.Phase.D_MIN < s.par o Pid.Phase.D_MAX)
  else if pid = Pid.Phase.I_LIMIT then decide (s.par o Pid.Phase.I_LIMIT ≤ s.fsCurrent p)
  else if pid = Pid.Phase.SAMPLE_OFFSET then decide (s.par o Pid.Phase.SAMPLE_OFFSET < s.periodOf p)
  else true

/-- The constraints of a feeder (R48, R153, R159, R165, Table 6-7). -/
def State.feederOk (s : State) (o pid : Nat) (v : Int) : Bool :=
  if pid = pOffsetUser then s.offsetOk o
  else if pid = Pid.Feeder.I_LIMIT || pid = Pid.Feeder.I_LIMIT_START || pid = Pid.Feeder.WEIR_THRESH ||
      pid = pSenseRnom then
    weirOk (s.par o Pid.Feeder.WEIR_THRESH) (s.par o Pid.Feeder.I_LIMIT) (s.par o Pid.Feeder.I_LIMIT_START)
      (s.par o pSenseRnom)
  else if pid = Pid.Feeder.UV_WINDOW || pid = Pid.Feeder.OV_WINDOW then
    decide (s.par o Pid.Feeder.UV_WINDOW < s.par o Pid.Feeder.OV_WINDOW)
  else if pid = Pid.Feeder.IT_APPLY then v == 1 && curveOk (s.stagedCurve (o - 0x30))
  else true

/-- The constraints of a string (R48, R181, R192, Table 7-11). -/
def State.stringOk (s : State) (o pid : Nat) : Bool :=
  if pid = pOffsetUser then s.offsetOk o
  else if pid = Pid.String.WEIR_THRESH || pid = Pid.String.CHG_I_MAX || pid = Pid.String.CONNECT_I_LIMIT ||
      pid = pSenseRnom then
    stringWeirOk (s.par o Pid.String.WEIR_THRESH) (s.par o Pid.String.CHG_I_MAX)
      (s.par o Pid.String.CONNECT_I_LIMIT) (s.par o pSenseRnom)
  else if pid = Pid.String.STR_LVD || pid = Pid.String.LVD_RECONNECT then
    decide (s.par o Pid.String.STR_LVD < s.par o Pid.String.LVD_RECONNECT)
  else if Pid.String.OCV ≤ pid ∧ pid ≤ Pid.String.OCV + 10 then s.ocvOk o (pid - Pid.String.OCV)
  else true

/-- The constraints of a host port's addresses (R378). -/
def State.portOk (s : State) (o pid : Nat) (v : Int) : Bool :=
  if Pid.HPort.EXTRA_ADDR ≤ pid ∧ pid ≤ Pid.HPort.EXTRA_ADDR + 2 then extraOk v
  else if pid = Pid.HPort.MASK_BASE || pid = Pid.HPort.ADDR_MASK then
    maskOk (s.par o Pid.HPort.MASK_BASE).toNat (s.par o Pid.HPort.ADDR_MASK).toNat
  else true

/-- Does the state keep every constraint that a chapter states on a parameter? It is asked of the state that the write
would leave. -/
def State.constraintOk (s : State) (o pid : Nat) (v : Int) : Bool :=
  match objType o with
  | .shelf =>
    if pid = Pid.Shelf.COG_ENABLE || pid = Pid.Shelf.COG_STALL_TIME then s.stallOk
    else if pid = Pid.Shelf.CONFIG_CONFIRM then v == s.par oShelf Pid.Shelf.CONFIG_GENERATION
    else true
  | .segment => s.segmentOk o pid
  | .outerLoop =>
    if pid = Pid.Loop.REEF_SHED_FRAC || pid = Pid.Loop.REEF_ADD_FRAC then
      decide (s.par o Pid.Loop.REEF_SHED_FRAC + 1000 ≤ s.par o Pid.Loop.REEF_ADD_FRAC)
    else true
  | .phase => s.phaseOk o pid
  | .feeder => s.feederOk o pid v
  | .string => s.stringOk o pid
  | .pol =>
    if pid = Pid.Pol.POL_ADDR then v == 0 || (List.range 32).all fun n =>
      oPol n == o || s.par (oPol n) Pid.Pol.POL_ADDR != v
    else true
  | .thermal =>
    if pid = Pid.Thermal.T_WARN || pid = Pid.Thermal.T_CRIT then
      decide (s.par o Pid.Thermal.T_WARN + 640 ≤ s.par o Pid.Thermal.T_CRIT)
    else if pid = Pid.Thermal.RISE_WARN || pid = Pid.Thermal.RISE_CRIT then
      decide (s.par o Pid.Thermal.RISE_WARN < s.par o Pid.Thermal.RISE_CRIT)
    else true
  | .timer =>
    if pid = Pid.Timer.TM_MODE || pid = Pid.Timer.OUT_MODE then
      s.par o Pid.Timer.TM_MODE == 0 || s.par o Pid.Timer.OUT_MODE == 0
    else true
  | .hostPort => s.portOk o pid v
  | .fantail => if pid = Pid.Fantail.ACT_DEFER_LIMIT then s.stallOk else true
  | _ => true

/-! ## Restrictions (check 7 of R367) -/

/-- The STATE_REQUESTs that Table 1-10 lists. -/
def requestListed (old new : Int) : Bool :=
  (old == ssNormal && (new == ssTest || new == ssMaint)) || (old == ssTest && (new == ssMaint || new == ssNormal)) ||
    (old == ssMaint && new == ssNormal)

/-- Is a timer the odd one of a linked pair (R308)? -/
def State.linkedOdd (s : State) (o : Nat) : Bool := o % 2 == 1 && s.par (o - 1) Pid.Timer.LINK == 1

/-- Has the 30 s limit ended STARTUP in this same 1 ms tick? Then a confirmation is still accepted, and is the cause
(Table 1-11). -/
def State.confirmLate (s : State) : Bool :=
  s.shelfState == ssNormal && s.shelf.timeoutMs == some (s.time.tick / 1000)

/-- Is a write LOCKED by shelf state, device mode, object state, THERMAL_LATCHED or R27? -/
def State.writeLocked (s : State) (port : HostPort) (o : Nat) (d : Desc) (v : Int) : Bool :=
  s.thermalLatched ||
  (match d.res with
   | .any => false
   | .testMaint => !s.testMaint
   | .testMaintDisabled => !s.testMaint || s.enabled o) ||
  (match objType o with
   | .shelf =>
     (d.pid == Pid.Shelf.STATE_REQUEST && !requestListed s.shelfState v) ||
       (d.pid == Pid.Shelf.CONFIG_CONFIRM && s.shelfState != ssStartup && !s.confirmLate)
   | .device => d.pid == Pid.Device.MODE_REQUEST && v == 2 && !s.watchReady
   | .hostPort => d.pid == Pid.ENABLE && v == 0 && o == oPort port
   | .timer =>
     ((d.pid == Pid.Timer.COUNT || d.pid == Pid.Timer.LINK) && s.par o Pid.ENABLE == 1) ||
       (s.linkedOdd o && (d.pid == Pid.ENABLE || d.pid == Pid.Timer.FREEZE_ON_HALT ||
         d.pid == Pid.Timer.TM_MODE || d.pid == Pid.Timer.OUT_MODE))
   | _ => false)

/-! ## What a write does -/

/-- Reserved bits of a written value are ignored (R7). -/
def maskValue (o pid : Nat) (v : Int) : Int :=
  match objType o with
  | .feeder => if pid = Pid.Feeder.WEIR_THRESH then v % 1024 else v
  | .string => if pid = Pid.String.WEIR_THRESH then v % 1024 + v / 65536 % 1024 * 65536 else v
  | _ => v

/-- A calibration parameter has been written: its generation moves and the tracking window at hand is spoilt (R44,
R48). -/
def State.calWritten (s : State) (o pid : Nat) : State :=
  if [pGainUser, pOffsetUser, pSenseRnom].contains pid then
    let s := s.modChan o fun c => { c with dirty := some s.time.tick }
    s.incPar o (match objType o with
      | .segment => Pid.Segment.CAL_GENERATION
      | _ => Pid.Phase.CAL_GENERATION)
  else s

/-- COG_ENABLE has been written (R253, R255): 1 starts a join; 0 leaves the line, and the unit goes on alone. -/
def State.cogWritten (s : State) (was : Int) : State :=
  let now := s.par oShelf Pid.Shelf.COG_ENABLE
  if was = 0 ∧ now = 1 then s.cogJoin
  else if was = 1 ∧ now = 0 then
    let phase := s.seqPhase
    let s := s.cogLeave false false
    if phase = sqJOINING then s.setPar oShelf Pid.Shelf.SEQ_PHASE (if s.seq.walk == .none then sqREST else sqWORK)
    else if phase = sqREADY then s.stepAlone else s
  else s

/-- A unit that sequences alone and is held in STARTUP reports 31 again, and walks afresh once nothing holds it (R243). Of a SAFE_HOLD
cause that meets a walk under way the spec does not say what becomes of SEQ_STATE: DESIGN CHOICE, log entry 34. -/
def State.walkHeld (s : State) : State :=
  if s.seq.attached || s.seqPhase == sqJOINING || s.seqState ≥ 16 then s
  else
    ((s.modSeq fun q => { q with walk := .none }).setPar oShelf Pid.Shelf.SEQ_STATE 31).setPar
      oShelf Pid.Shelf.SEQ_PHASE sqREST

/-- ID_MISMATCH is evaluated (R30); in STARTUP a mismatch holds every object (R31, R34). -/
def State.idCheck (s : State) : State :=
  let bad := s.par oShelf Pid.Shelf.SHELF_ID_FOUND != s.par oShelf Pid.Shelf.SHELF_ID
  let s := s.setPar oShelf Pid.Shelf.ID_MISMATCH (b2i bad)
  if bad && s.shelfState == ssStartup then
    let s := { s with shelf := { s.shelf with mismatchSeen := true } }
    s.holdAll.walkHeld
  else s

/-- The newest SHELF_STATE record names the confirmation as its cause (Table 1-11). -/
def State.confirmCause (s : State) : State :=
  match s.grist.circ.find? fun r => r.source == oShelf && r.event == 0x20 with
  | some x =>
    let named (r : Rec) : Rec := if r.gen = x.gen then { r with snap := r.snap.set 2 (BitVec.ofNat 32 scCONFIRM) } else r
    { s with
      grist := { s.grist with circ := s.grist.circ.map named, first := s.grist.first.map named }
      shelf := { s.shelf with timeoutMs := none } }
  | none => s

/-- An accepted confirmation (R31): its record, and NORMAL now or once the configuration has been applied. In the tick
of the 30 s limit NORMAL has been entered already, once (Table 1-11). -/
def State.confirm (s : State) : State :=
  let late := s.confirmLate
  let s := if late then s.confirmCause else s
  let s := s.record oShelf rcConfig 0x32 [.par oShelf Pid.Shelf.CONFIG_GENERATION, .par oShelf Pid.Shelf.SHELF_ID]
  if late then s
  else if s.shelf.configApplied then s.shift ssNormal scCONFIRM
  else { s with shelf := { s.shelf with confirmHeld := true } }

/-- An accepted MODE_REQUEST (R283 to R285). WATCH is entered at a free AON count (log entry 4),
once its writes are granted (R281). -/
def State.modeRequest (s : State) (v : Int) : State :=
  if v = 0 then { s with supply := { s.supply with floatExit := s.inFloat } }
  else if v = 1 then (if s.inFloat then s else s.floatEnter)
  else if s.watchWrites then
    let (a, s) := s.draw
    s.watchEnter (BitVec.ofInt 48 a).toNat
  else { s with supply := { s.supply with watchDue := true } }

/-- F_PWM of a phase has been written: a switching phase keeps its carrier until the next boundary of its group (R127). -/
def State.freqWritten (s : State) (p old : Nat) : State :=
  (s.modPhase p fun a => { a with oldFreq := if a.switching then some (a.oldFreq.getD old) else none }).syncAlone

/-- The number of modules has been written: trust is judged again, and a string without modules is ABSENT and open. -/
def State.countWritten (s : State) (k : Nat) : State :=
  let s := if s.par (oString k) Pid.String.MODULE_COUNT == 0 then s.stringWait k else s
  s.refreshTrust k

/-- What a write of a rail's parameter does: a discharging rail whose SENSE_MODE becomes 0 while PGn reads low is discharged
(R240). -/
def State.railWritten (s : State) (v pid : Nat) : State :=
  if pid = Pid.Rail.SENSE_MODE && s.par (oRail v) Pid.Rail.SENSE_MODE == 0 && (s.rail v).discharging && !(s.rail v).pg then
    s.railEmpty v ((s.time.tick : Int) - (s.rail v).offTick)
  else s

/-- A timer's compare has been written: staged on the odd timer of a linked pair, applied with the even one's (R305,
R309). `old` is the value before. -/
def State.compareWritten (s : State) (o : Nat) (old v : Int) : State :=
  let t := o - 0xE8
  if s.linkedOdd o then
    (s.setPar o Pid.Timer.COMPARE old).modTimer t fun a => { a with staged := some (BitVec.ofInt 32 v) }
  else if o % 2 = 0 ∧ s.par o Pid.Timer.LINK = 1 then
    match (s.timer (t + 1)).staged with
    | some h => (s.setPar (o + 1) Pid.Timer.COMPARE h.toNat).modTimer (t + 1) fun a => { a with staged := none }
    | none => s
  else s

/-- What a write of a timer's parameter does (R304 to R309). -/
def State.timerWritten (s : State) (o pid : Nat) (old v : Int) : State :=
  let t := o - 0xE8
  if pid = Pid.Timer.PRESCALE then s.modTimer t fun a => { a with prePos := 0 }
  else if pid = Pid.Timer.OUT_MODE then s.modTimer t fun a => { a with level := false, pulse := false }
  else if pid = Pid.Timer.COMPARE then s.compareWritten o old v
  else if pid = Pid.Timer.LINK then s.modTimer (t + 1) fun a => { a with staged := none }
  else s

/-- What the write of a parameter does besides setting it; the parameter has its new value. -/
def State.written (s : State) (o pid : Nat) (old v : Int) : State :=
  if pid = Pid.ENABLE then (if old = v then s else s.enableChanged o (v == 1))
  else if pid = Pid.PRIORITY then (if old = v then s else s.waitRestarts o)
  else match objType o with
  | .shelf =>
    if pid = Pid.Shelf.STATE_REQUEST then s.shift v scREQUEST
    else if pid = Pid.Shelf.CONFIG_CONFIRM then s.confirm
    else if pid = Pid.Shelf.SHELF_ID then s.idCheck
    else if pid = Pid.Shelf.COG_ENABLE then s.cogWritten old
    else s
  | .device =>
    if pid = Pid.Device.MODE_REQUEST then s.modeRequest v
    else if pid = Pid.Device.SYNC_ENABLE || pid = Pid.Device.SYNC_NOMINAL then
      (if old = v then s else s.syncLeave)
    else s
  | .phase =>
    if pid = Pid.Phase.OUTER_SOURCE && old != v then s.each 8 fun m s => s.outerIdle m
    else if pid = Pid.Phase.F_PWM && old != v then s.freqWritten (o - 0x10) old.toNat
    else s
  | .feeder =>
    if pid = Pid.Feeder.IT_APPLY then s.curveApply (o - 0x30)
    else if pid = Pid.Feeder.DOWN_STATE then s.modFeeder (o - 0x30) fun a => { a with downOwn := true }
    else s
  | .string => if pid = Pid.String.MODULE_COUNT then s.countWritten (o - 0x80) else s
  | .rail => s.railWritten (o - 0x90) pid
  | .pol => if pid = Pid.Pol.POL_ADDR then s.modPol (o - 0xB0) fun _ => { lastFail := none, badMode := false, sent := [] } else s
  | .timer => s.timerWritten o pid old v
  | .hostPort =>
    if pid = Pid.HPort.CAUTIOUS_ACK && v == 1 && s.par o Pid.HPort.CAUTIOUS == 1 then s.setPar o Pid.HPort.CAUTIOUS 2
    else s
  | _ => s

/-- Does a write change the configuration that the journal holds? Staged I–t points do not (R165). -/
def journals (o pid : Nat) (src : Source) : Bool :=
  match objType o with
  | .feeder =>
    pid == Pid.Feeder.IT_APPLY ||
      (src == .config && !(decide (Pid.Feeder.IT_I ≤ pid) && decide (pid < Pid.Feeder.IT_APPLY)))
  | .shelf => src == .config || pid == Pid.Shelf.SHELF_ID
  | _ => src == .config

/-- A W1C write clears the bits written as 1 (R5). A write of 1 to TRACK_LIMIT resumes tracking (R45). -/
def State.clearBits (s : State) (o pid : Nat) (v : Int) : State :=
  let s := s.setPar o pid (((s.par o pid).toNat &&& (65535 ^^^ v.toNat) : Nat) : Int)
  if pid = pSenseStatus && bitOf v ssTRACK_LIMIT then s.modChan o fun c => { c with frozen := false } else s

/-- A PARAM_SET that every check has accepted commits (R367). -/
def State.writeParam (s : State) (o : Nat) (d : Desc) (v : Int) : State :=
  match d.acc with
  | .w1c => s.clearBits o d.pid v
  | .wo =>
    let s := s.written o d.pid 0 v
    if journals o d.pid d.src then s.askConfig o else s
  | _ =>
    let old := s.par o d.pid
    let s := ((s.setPar o d.pid v).calWritten o d.pid).written o d.pid old v
    if journals o d.pid d.src then s.askConfig o else s

/-! ## What a read does -/

/-- A read takes its effect: an RC parameter is cleared, the oldest capture leaves its queue, and COUNT of a linked even
timer latches the high word (R5, R307, R308). -/
def State.readEffect (s : State) (o : Nat) (d : Desc) : State :=
  if objType o == .timer && d.pid == Pid.Timer.CAPTURE then
    s.modTimer (o - 0xE8) fun a => { a with queue := a.queue.drop 1 }
  else if objType o == .timer && d.pid == Pid.Timer.COUNT && o % 2 == 0 && s.par o Pid.Timer.LINK == 1 then
    s.setPar (o + 1) Pid.Timer.HIGH_SHADOW (s.par (o + 1) Pid.Timer.COUNT)
  else if d.acc = .rc then s.setPar o d.pid 0
  else s

/-- OBJ, SIZE, PARAM and VALUE (R366). -/
def State.paramEntry (s : State) (o : Nat) (d : Desc) : Bytes :=
  leBytes 1 o ++ leBytes 1 d.enc.size ++ leBytes 2 d.pid ++ encBytes d.enc (s.read o d.pid)

/-! ## PARAM_GET, PARAM_SET, PARAM_GET_MULTI (R366 to R368) -/

/-- Checks 2 to 4 of an entry: OBJ, one byte, PARAM. -/
def entryCheck (o pid : Nat) (extra : Bool) : Option (Nat × Nat) :=
  if extra || pid ≥ 4096 then some (stBAD_PARAM, 2)
  else if objReserved o then some (stBAD_OBJECT, 3)
  else if (findDesc o pid).isNone then some (stBAD_PARAM, 4)
  else none

/-- PARAM_GET (R366). -/
def opParamGet (e : Op) (s : State) : State :=
  let p := e.payload
  let o := byteAt p 0
  let pid := fieldU p 2 2
  if p.length ≠ 4 then s.fail e stBAD_LENGTH 1
  else match entryCheck o pid (byteAt p 1 != 0), findDesc o pid with
  | some (st, c), _ => s.fail e st c
  | none, some d => (s.readEffect o d).ok e (s.paramEntry o d)
  | none, none => s.fail e stBAD_PARAM 4

/-- The value that a PARAM_SET carries. -/
def setValue (d : Desc) (p : Bytes) : Int :=
  if d.enc.isSigned then fieldS p 4 d.enc.size else (fieldU p 4 d.enc.size : Int)

/-- Checks 6 to 9 of PARAM_SET (R367). -/
def State.setCheck (s : State) (port : HostPort) (o : Nat) (d : Desc) (v : Int) : Option (Nat × Nat) :=
  if d.acc = .ro || d.acc = .rc then some (stLOCKED, 6)
  else if s.writeLocked port o d v then some (stLOCKED, 7)
  else if !inRange o d v || !(s.setPar o d.pid v).constraintOk o d.pid v then some (stRANGE, 8)
  else if objType o == .device && d.pid == Pid.Device.MODE_REQUEST && v == 1 && s.floatBlockNow / 2 != 0 then
    some (stREFUSED, frPRECONDITION)
  else none

/-- A LOCKED reply that is a protocol violation (R373). -/
def State.failViolation (s : State) (e : Op) (check : Nat) : State :=
  (s.fail e stLOCKED check).violation e.port stLOCKED check e.opcode e.tagPrio (e.payload.length + 12)

/-- A refused request for FLOAT is still a request: it stops an injection (Table 5-5; log entry 64). -/
def State.floatRefused (s : State) (o : Nat) (d : Desc) (v : Int) : State :=
  if objType o == .device && d.pid == Pid.Device.MODE_REQUEST && v == 1 then s.flumeStop fcSTATE else s

/-- PARAM_SET (R367). -/
def opParamSet (e : Op) (s : State) : State :=
  let p := e.payload
  let o := byteAt p 0
  let size := byteAt p 1
  let pid := fieldU p 2 2
  if p.length < 5 || !([1, 2, 4, 8].contains size) || p.length ≠ 4 + size then s.fail e stBAD_LENGTH 1
  else match entryCheck o pid false, findDesc o pid with
  | some (st, c), _ => s.fail e st c
  | none, none => s.fail e stBAD_PARAM 4
  | none, some d =>
    let v := maskValue o pid (setValue d p)
    if size ≠ d.enc.size then s.fail e stBAD_PARAM 5
    else match s.setCheck e.port o d v with
    | some (_, 6) => s.failViolation e 6
    | some (st, c) => (s.floatRefused o d v).reply e st c []
    | none =>
      let s := (s.opCommit e.id).writeParam o d v
      s.ok e (s.paramEntry o d)

/-- An entry of PARAM_GET_MULTI: OBJ, the byte after it, PARAM. -/
def multiEntry (p : Bytes) (i : Nat) : Nat × Nat × Nat := (byteAt p (4 + 4 * i), byteAt p (5 + 4 * i), fieldU p (6 + 4 * i) 2)

/-- Entries are read in order while the next one fits within 272 bytes (R368). -/
def State.readEntries (s : State) : List (Nat × Nat) → Nat → Nat → Bytes → Nat × Bytes × State
  | [], _, n, acc => (n, acc, s)
  | (o, pid) :: rest, room, n, acc =>
    match findDesc o pid with
    | none => (n, acc, s)
    | some d =>
      let b := s.paramEntry o d
      if b.length > room then (n, acc, s)
      else (s.readEffect o d).readEntries rest (room - b.length) (n + 1) (acc ++ b)

/-- The first entry that fails a check of PARAM_GET_MULTI, checks 2 to 4 in turn. -/
def multiFail (l : List (Nat × Nat × Nat)) : Option (Nat × Nat × Nat) :=
  let failing (c : Nat) : Option (Nat × Nat × Nat) :=
    match l.findIdx? fun x => match entryCheck x.1 x.2.2 (x.2.1 != 0) with
      | some (_, k) => k == c
      | none => false with
    | some i => some (if c = 3 then stBAD_OBJECT else stBAD_PARAM, c, i)
    | none => none
  (failing 2).or ((failing 3).or (failing 4))

/-- PARAM_GET_MULTI (R368). -/
def opParamGetMulti (e : Op) (s : State) : State :=
  let p := e.payload
  let n := byteAt p 0
  if n < 1 || n > 32 || p.length ≠ 4 + 4 * n then s.fail e stBAD_LENGTH 1
  else if !zeros p 1 3 then s.fail e stBAD_PARAM 2
  else
    let l := (List.range n).map (multiEntry p)
    match multiFail l with
    | some (st, c, i) => s.reply e st c (leBytes 1 i)
    | none =>
      let (k, b, s) := s.readEntries (l.map fun x => (x.1, x.2.2)) 268 0 []
      s.ok e (leBytes 1 n ++ leBytes 1 k ++ [0, 0] ++ b)

/-! ## Objects (R369 to R371) -/

/-- Checks 1 to 3 of the object operations. -/
def objCheck (p : Bytes) : Option (Nat × Nat) :=
  if p.length ≠ 4 then some (stBAD_LENGTH, 1)
  else if !zeros p 1 3 then some (stBAD_PARAM, 2)
  else if objReserved (byteAt p 0) then some (stBAD_OBJECT, 3)
  else none

/-- OBJ_STATE (R369). -/
def opObjState (e : Op) (s : State) : State :=
  let o := byteAt e.payload 0
  match objCheck e.payload with
  | some (st, c) => s.fail e st c
  | none => s.ok e (leBytes 1 o ++ leBytes 1 (s.read o Pid.OBJ_TYPE) ++ leBytes 1 (s.read o Pid.OBJ_STATE) ++
      leBytes 1 (s.read o Pid.PRIORITY) ++ leBytes 4 (s.read o Pid.FAULT_LATCH) ++
      leBytes 4 (s.read o Pid.SERVICE_STATUS) ++ leBytes 4 (s.read o Pid.SOURCE_SEQ))

/-- OBJ_ENABLE and OBJ_DISABLE (R27, R370). What a PARAM_SET of ENABLE would be answered with beyond these checks is
answered with reason 0. -/
def opObjEnable (on : Bool) (e : Op) (s : State) : State :=
  let o := byteAt e.payload 0
  match objCheck e.payload with
  | some (st, c) => s.fail e st c
  | none =>
    if alwaysEnabled o || objType o == .module then s.failViolation e 4
    else if s.thermalLatched || (!on && o == oPort e.port) then s.fail e stLOCKED 5
    else if objType o == .timer && s.linkedOdd o then s.fail e stLOCKED 0
    else if s.enabled o == on then (s.opCommit e.id).ok e (leBytes 1 o ++ leBytes 1 (s.objNow o) ++ [0, 0])
    else if on && objType o == .phase && !(s.setPar o Pid.ENABLE 1).groupsOk then s.fail e stRANGE 0
    else
      let s := ((s.opCommit e.id).setEnable o on).askConfig o
      s.ok e (leBytes 1 o ++ leBytes 1 (s.objNow o) ++ [0, 0])

/-- The conditions under which a clear is refused (R89, R122, R164). -/
def State.clearRefused (s : State) (o : Nat) : Bool :=
  match objType o with
  | .phase => s.activeBad (o - 0x10) || (s.phase (o - 0x10)).chan.fail
  | .outerLoop => s.activeBad (24 + (o - 0x08))
  | .feeder => s.weirStops (o - 0x30)
  | _ => false

/-- The clearing path of the object's chapter (R89, R113, R122, R169, R180). -/
def State.clearObject (s : State) (o : Nat) : State :=
  match objType o with
  | .phase => s.phaseClear (o - 0x10)
  | .outerLoop =>
    let m := o - 0x08
    (((s.clearFaults o).setObj o osWaiting).modLoop (24 + m) fun a => a.clearHistory).loopRestart m
  | .segment => s.clearSegment (o - 0x04)
  | .feeder => s.feederClear (o - 0x30)
  | .string => s.stringClear (o - 0x80)
  | _ => s

/-- Does OBJ_CLEAR_LATCH apply to the type? -/
def clearable (o : Nat) : Bool :=
  match objType o with
  | .phase | .outerLoop | .segment | .feeder | .string => true
  | _ => false

/-- OBJ_CLEAR_LATCH (R371). -/
def opObjClearLatch (e : Op) (s : State) : State :=
  let o := byteAt e.payload 0
  match objCheck e.payload with
  | some (st, c) => s.fail e st c
  | none =>
    if !clearable o then s.fail e stBAD_OBJECT 3
    else if s.thermalLatched || s.objNow o == osSafeHold then s.fail e stLOCKED 4
    else if s.clearRefused o then s.reply e stREFUSED frPRECONDITION []
    else
      let before := s.par o Pid.FAULT_LATCH
      let held := s.objNow o == osLatched || s.objNow o == osFailed
      let s := s.opCommit e.id
      let s := if held then s.clearObject o else s
      s.ok e (leBytes 1 o ++ leBytes 1 (b2i held) ++ [0, 0] ++ leBytes 4 before)

/-! ## The rows of the operations -/

/-- PARAM_GET. -/
def execParamGet (r : Req) (payload : Bytes) (s : State) : Host.Outcome State Fault Refusal :=
  .next (submitReq r 0x10 payload opParamGet s)

/-- PARAM_SET. -/
def execParamSet (r : Req) (payload : Bytes) (s : State) : Host.Outcome State Fault Refusal :=
  .next (submitReq r 0x11 payload opParamSet s)

/-- PARAM_GET_MULTI. -/
def execParamGetMulti (r : Req) (payload : Bytes) (s : State) : Host.Outcome State Fault Refusal :=
  .next (submitReq r 0x12 payload opParamGetMulti s)

/-- OBJ_STATE. -/
def execObjState (r : Req) (payload : Bytes) (s : State) : Host.Outcome State Fault Refusal :=
  .next (submitReq r 0x20 payload opObjState s)

/-- OBJ_ENABLE. -/
def execObjEnable (r : Req) (payload : Bytes) (s : State) : Host.Outcome State Fault Refusal :=
  .next (submitReq r 0x21 payload (opObjEnable true) s)

/-- OBJ_DISABLE. -/
def execObjDisable (r : Req) (payload : Bytes) (s : State) : Host.Outcome State Fault Refusal :=
  .next (submitReq r 0x22 payload (opObjEnable false) s)

/-- OBJ_CLEAR_LATCH. -/
def execObjClearLatch (r : Req) (payload : Bytes) (s : State) : Host.Outcome State Fault Refusal :=
  .next (submitReq r 0x23 payload opObjClearLatch s)

/-! ## The rows of single parameters -/

/-- A PARAM_SET of one parameter, as its bytes. -/
def setBytes (o pid size : Nat) (v : Int) : Bytes := leBytes 1 o ++ leBytes 1 size ++ leBytes 2 pid ++ leBytes size v

/-- A PARAM_SET of one parameter. -/
def setRow (r : Req) (o pid size : Nat) (v : Int) (s : State) : Host.Outcome State Fault Refusal :=
  .next (submitReq r 0x11 (setBytes o pid size v) opParamSet s)

/-- A PARAM_GET of one parameter. -/
def getRow (r : Req) (o pid : Nat) (s : State) : Host.Outcome State Fault Refusal :=
  .next (submitReq r 0x10 (leBytes 1 o ++ [0] ++ leBytes 2 pid) opParamGet s)

/-- STATE_REQUEST (R33). -/
def execStateRequest (r : Req) (v : Byte) (s : State) : Host.Outcome State Fault Refusal :=
  setRow r oShelf Pid.Shelf.STATE_REQUEST 1 v.toNat s

/-- CONFIG_CONFIRM (R31). -/
def execConfigConfirm (r : Req) (v : Word) (s : State) : Host.Outcome State Fault Refusal :=
  setRow r oShelf Pid.Shelf.CONFIG_CONFIRM 4 v.toNat s

/-- SHELF_ID (R30). -/
def execShelfId (r : Req) (v : Word) (s : State) : Host.Outcome State Fault Refusal :=
  setRow r oShelf Pid.Shelf.SHELF_ID 4 v.toNat s

/-- MODE_REQUEST = RUN (R284). -/
def execModeRequestRun (r : Req) (s : State) : Host.Outcome State Fault Refusal :=
  setRow r oDevice Pid.Device.MODE_REQUEST 1 0 s

/-- MODE_REQUEST = FLOAT (R283). -/
def execModeRequestFloat (r : Req) (s : State) : Host.Outcome State Fault Refusal :=
  setRow r oDevice Pid.Device.MODE_REQUEST 1 1 s

/-- MODE_REQUEST = WATCH (R285). -/
def execModeRequestWatch (r : Req) (s : State) : Host.Outcome State Fault Refusal :=
  setRow r oDevice Pid.Device.MODE_REQUEST 1 2 s

/-- IT_APPLY (R165). -/
def execItApply (r : Req) (f : Fin 16) (v : Byte) (s : State) : Host.Outcome State Fault Refusal :=
  setRow r (oFeeder f.val) Pid.Feeder.IT_APPLY 1 v.toNat s

/-- CAUTIOUS_ACK (R374). -/
def execCautiousAck (r : Req) (port : HostPort) (v : Byte) (s : State) : Host.Outcome State Fault Refusal :=
  setRow r (oPort port) Pid.HPort.CAUTIOUS_ACK 1 v.toNat s

/-- A write of 1 to TRACK_LIMIT (R45). -/
def execTrackLimit (r : Req) (ch : SarChannel) (s : State) : Host.Outcome State Fault Refusal :=
  setRow r (sarObj ch) pSenseStatus 2 1024 s

/-- COG_ENABLE (R255). -/
def execCogEnable (r : Req) (v : Byte) (s : State) : Host.Outcome State Fault Refusal :=
  setRow r oShelf Pid.Shelf.COG_ENABLE 1 v.toNat s

/-- MAX_LATENCY is read (R91). -/
def execMaxLatency (r : Req) (s : State) : Host.Outcome State Fault Refusal :=
  getRow r oDevice Pid.Device.MAX_LATENCY s

/-- T_MAX_SEEN is read (R237). -/
def execTMaxSeen (r : Req) (t : Fin 16) (s : State) : Host.Outcome State Fault Refusal :=
  getRow r (oTherm t.val) Pid.Thermal.T_MAX_SEEN s

/-- WAKE_STRETCH_MAX is read (R398). -/
def execWakeStretchMax (r : Req) (port : HostPort) (s : State) : Host.Outcome State Fault Refusal :=
  getRow r (oPort port) Pid.HPort.WAKE_STRETCH_MAX s

/-- COUNT of a timer is read, or written (R304, R308). -/
def execTimerCount (r : Req) (tm : Fin 8) (w : Option Word) (s : State) : Host.Outcome State Fault Refusal :=
  match w with
  | some v => setRow r (oTimer tm.val) Pid.Timer.COUNT 4 v.toNat s
  | none => getRow r (oTimer tm.val) Pid.Timer.COUNT s

/-- COMPARE of a timer is written (R305, R309). -/
def execCompare (r : Req) (tm : Fin 8) (v : Word) (s : State) : Host.Outcome State Fault Refusal :=
  setRow r (oTimer tm.val) Pid.Timer.COMPARE 4 v.toNat s

/-- PRESCALE of a timer is written (R304). -/
def execPrescale (r : Req) (tm : Fin 8) (v : Byte) (s : State) : Host.Outcome State Fault Refusal :=
  setRow r (oTimer tm.val) Pid.Timer.PRESCALE 1 v.toNat s

/-- OUT_MODE of a timer is written (R306). -/
def execOutMode (r : Req) (tm : Fin 8) (v : Byte) (s : State) : Host.Outcome State Fault Refusal :=
  setRow r (oTimer tm.val) Pid.Timer.OUT_MODE 1 v.toNat s

/-- CAPTURE of a timer is read (R307). -/
def execCapture (r : Req) (tm : Fin 8) (s : State) : Host.Outcome State Fault Refusal :=
  getRow r (oTimer tm.val) Pid.Timer.CAPTURE s

end Sys2Proof.Machine
end

