-- ==== Sys2Proof/Machine/Yaster.lean ====
section
/-! DEFINITION. The operation rows that no earlier file holds: PING, IDENT, the operations of the engine, the bench,
Dresser and the batteries, ABORT and RESULT_POLL, and OPERATION_START over the whole opcode map (R354, R364, R365,
Table 14-7). -/

namespace Sys2Proof.Machine

/-- PING (R364). -/
def opPing (e : Op) (s : State) : State :=
  if e.payload.length > 16 then s.fail e stBAD_LENGTH 1 else s.ok e e.payload

/-- The IDENT payload (Table 14-8). -/
def State.identPayload (s : State) (p : HostPort) : Bytes :=
  leBytes 4 (0x4B4A9740 : Nat) ++ leBytes 4 (s.versionNow : Nat) ++ leBytes 8 (Config.serial.toNat : Nat) ++
    leBytes 1 s.lcState ++ leBytes 1 (s.par oDevice Pid.Device.CONFIGURATION) ++
    leBytes 1 (if s.supply.cs == .rom then 0xFF else (s.runningBank : Int)) ++ [1] ++ leBytes 2 (272 : Nat) ++
    leBytes 1 (64 : Nat) ++ leBytes 1 (portIx p : Nat) ++ leBytes 4 (s.par oShelf Pid.Shelf.SHELF_ID) ++
    leBytes 4 (s.par oShelf Pid.Shelf.CONFIG_GENERATION)

/-- IDENT (R365). -/
def opIdent (e : Op) (s : State) : State :=
  if e.payload.length ≠ 0 then s.fail e stBAD_LENGTH 1 else s.ok e (s.identPayload e.port)

/-! ## Dispatch by opcode -/

/-- The operation of an opcode from 0x01 to 0x3A. -/
def opLow (c : Nat) : Op → State → State :=
  match c with
  | 0x01 => opPing
  | 0x02 => opIdent
  | 0x10 => opParamGet
  | 0x11 => opParamSet
  | 0x12 => opParamGetMulti
  | 0x20 => opObjState
  | 0x21 => opObjEnable true
  | 0x22 => opObjEnable false
  | 0x23 => opObjClearLatch
  | 0x30 => opSetpointSlew
  | 0x31 => opCoefBankLoad
  | 0x32 => opCoefBankSwap
  | 0x38 => opFlumeStart
  | 0x39 => opTailraceArm
  | _ => opTailraceRead

/-- The operation of an opcode from 0x40 to 0x81. -/
def opMid (c : Nat) : Op → State → State :=
  match c with
  | 0x40 => opGristRead
  | 0x41 => opGristClear
  | 0x42 => opGristTriggerSet
  | 0x50 => opBistRequest
  | 0x51 => opBistResult
  | 0x60 => opBattAuth
  | 0x61 => opBattLearnCommit
  | 0x70 => opSeqPowerOn
  | 0x71 => opSeqPowerOff
  | 0x72 => opSeqStep
  | 0x80 => opTimeSet
  | _ => opTimeGet

/-- The operation of an opcode from 0x90. -/
def opHigh (c : Nat) : Op → State → State :=
  match c with
  | 0x90 => opUpdOpen
  | 0x91 => opUpdBlock
  | 0x92 => opUpdClose
  | 0x93 => opUpdSchedule
  | 0x94 => opUpdStatus
  | 0x95 => opUpdCancel
  | 0xA0 => opLcState
  | 0xA1 => opLcTransition
  | 0xA2 => opDebugUnlock
  | 0xF0 => opAbort
  | _ => opResultPoll

/-- The operation of an opcode of Table 14-7. -/
def opRun (c : Nat) : Op → State → State :=
  if c < 0x40 then opLow c else if c < 0x90 then opMid c else opHigh c

/-- Does Hopper start operations: it serves some port and no level 3 restart runs (R354, R363)? -/
def State.hopperStarts (s : State) : Bool := (s.running || s.supply.cs == .rom) && !s.miller.restarting

/-- OPERATION_START: Hopper starts the next queued operation (R354, R356). -/
def execOperationStart (s : State) : Host.Outcome State Fault Refusal :=
  if !s.hopperStarts then .next s
  else match pickOp s.hopper.ops with
    | some e => .next (opRun e.opcode e s)
    | none => .next s

/-! ## The rows -/

/-- PING. -/
def execPing (r : Req) (payload : Bytes) (s : State) : Host.Outcome State Fault Refusal :=
  .next (submitReq r 0x01 payload opPing s)

/-- IDENT. -/
def execIdent (r : Req) (payload : Bytes) (s : State) : Host.Outcome State Fault Refusal :=
  .next (submitReq r 0x02 payload opIdent s)

/-- SETPOINT_SLEW. -/
def execSetpointSlew (r : Req) (payload : Bytes) (s : State) : Host.Outcome State Fault Refusal :=
  .next (submitReq r 0x30 payload opSetpointSlew s)

/-- COEF_BANK_LOAD. -/
def execCoefBankLoad (r : Req) (payload : Bytes) (s : State) : Host.Outcome State Fault Refusal :=
  .next (submitReq r 0x31 payload opCoefBankLoad s)

/-- COEF_BANK_SWAP. -/
def execCoefBankSwap (r : Req) (payload : Bytes) (s : State) : Host.Outcome State Fault Refusal :=
  .next (submitReq r 0x32 payload opCoefBankSwap s)

/-- FLUME_START. -/
def execFlumeStart (r : Req) (payload : Bytes) (s : State) : Host.Outcome State Fault Refusal :=
  .next (submitReq r 0x38 payload opFlumeStart s)

/-- TAILRACE_ARM. -/
def execTailraceArm (r : Req) (payload : Bytes) (s : State) : Host.Outcome State Fault Refusal :=
  .next (submitReq r 0x39 payload opTailraceArm s)

/-- TAILRACE_READ. -/
def execTailraceRead (r : Req) (payload : Bytes) (s : State) : Host.Outcome State Fault Refusal :=
  .next (submitReq r 0x3A payload opTailraceRead s)

/-- BIST_REQUEST. -/
def execBistRequest (r : Req) (payload : Bytes) (s : State) : Host.Outcome State Fault Refusal :=
  .next (submitReq r 0x50 payload opBistRequest s)

/-- BIST_REQUEST with KIND 4. -/
def execBistCancel (r : Req) (rest : Bytes) (s : State) : Host.Outcome State Fault Refusal :=
  .next (submitReq r 0x50 (0x04 :: rest) opBistRequest s)

/-- BIST_RESULT. -/
def execBistResult (r : Req) (payload : Bytes) (s : State) : Host.Outcome State Fault Refusal :=
  .next (submitReq r 0x51 payload opBistResult s)

/-- BATT_AUTH. -/
def execBattAuth (r : Req) (payload : Bytes) (s : State) : Host.Outcome State Fault Refusal :=
  .next (submitReq r 0x60 payload opBattAuth s)

/-- BATT_LEARN_COMMIT. -/
def execBattLearnCommit (r : Req) (payload : Bytes) (s : State) : Host.Outcome State Fault Refusal :=
  .next (submitReq r 0x61 payload opBattLearnCommit s)

/-- ABORT. -/
def execAbort (r : Req) (payload : Bytes) (s : State) : Host.Outcome State Fault Refusal :=
  .next (submitReq r 0xF0 payload opAbort s)

/-- RESULT_POLL. -/
def execResultPoll (r : Req) (payload : Bytes) (s : State) : Host.Outcome State Fault Refusal :=
  .next (submitReq r 0xF1 payload opResultPoll s)

end Sys2Proof.Machine
end

