-- ==== Sys2Proof/Machine/Boot.lean ====
section
/-! DEFINITION. CONTROL_SIDE_BOOT: what the ROM and the firmware do at the release of a control-side reset (R2, R31,
R36, R54, R78, R198, R199, R276, R278, R298, R323 to R325, R342, R412, R413, R434). -/

namespace Sys2Proof.Machine

/-! ## What a start finds of the parameters -/

/-- Parameters whose value a start takes from a journal of its own rather than keeps: the shelf identity, tracking,
energy, charge and battery values (R30, R46, R54, R198). -/
def journalPid (o pid : Nat) : Bool :=
  let track := pid == pGainTrack || pid == pOffsetTrack
  match objType o with
  | .shelf => pid == Pid.Shelf.SHELF_ID
  | .segment => track || pid == Pid.Segment.E_OUT
  | .phase => track
  | .feeder => track || pid == Pid.Feeder.E_OUT || pid == Pid.Feeder.E_BACKFEED
  | .string => track || pid == Pid.String.E_CHARGE || pid == Pid.String.E_DISCHARGE || pid == Pid.String.Q_NET ||
      pid == Pid.String.SOC || pid == Pid.String.SOC_Q || pid == Pid.String.SOH
  | .module => pid != Pid.SOURCE_SEQ
  | _ => false

/-- Values of feeders and strings that Miller and the converters hold on the control side; the power-side die keeps the
others (R14, R17; log entry 31). -/
def csdHeld (o pid : Nat) : Bool :=
  pid == Pid.PRIORITY || pid == Pid.SERVICE_STATUS || journalPid o pid ||
  match objType o with
  | .feeder => [Pid.Feeder.P_DEMAND, Pid.Feeder.I_FAST, Pid.Feeder.I_METER, Pid.Feeder.P_METER,
      Pid.Feeder.SENSE_STATUS].contains pid
  | .string => [Pid.String.I_FAST, Pid.String.I_METER, Pid.String.V_METER, Pid.String.SENSE_STATUS, Pid.String.TRUST,
      Pid.String.SOC_V, Pid.String.E_AVAIL, Pid.String.MODEL_MODE, Pid.String.CHARGE_GRANT,
      Pid.String.CHARGE_LIMIT_APPLIED].contains pid
  | _ => true

/-- Does a start find a parameter as it was: its Reset column names non-volatile storage, or the power-side die has held
it? -/
def bootKeeps (psd : Bool) (k : Nat) : Bool :=
  let o := k / 4096
  let pid := k % 4096
  match findDesc o pid with
  | some d => (d.src == .nvm && !journalPid o pid) || (psd && isConsumer o && !csdHeld o pid)
  | none => false

/-- Every other parameter is at its Reset value (Table 1-5). -/
def State.coldParams (s : State) : State :=
  let psd := s.supply.psdOk
  let s := { s with params := s.params.filter fun e => bootKeeps psd e.1 }
  (s.setPar oDevice Pid.Device.CLOCK_STATUS 0).setPar oDevice Pid.Device.UHLES_STATUS (b2i (!psd))

/-! ## What a start finds beyond the parameters -/

/-- A channel of the power-side die after a control-side reset: its checks stand; what Miller holds of its tracking, a freeze
included, does not (R45; log entry 61). -/
def Chan.cold (c : Chan) : Chan := { c with frozen := false, dirty := none, wsum := 0, wn := 0, line := [] }

/-- A string's switch machine is the power-side die's; the rest of what the model holds of it is Miller's. -/
def StringAux.cold (a : StringAux) (psd : Bool) : StringAux :=
  if psd then
    { StringAux.reset with
      connected := a.connected, starting := a.starting, vgsOk := a.vgsOk, startRun := a.startRun
      chgReg := a.chgReg, enhanced := a.enhanced, ovRun := a.ovRun, enableOff := a.enableOff, weir := a.weir
      chan := a.chan.cold }
  else .reset

/-- A feeder's state machine is the power-side die's; its energy remainders are not. -/
def FeederAux.cold (a : FeederAux) (psd : Bool) : FeederAux :=
  if psd then { a with acc := ⟨0, 0, 0⟩, chan := a.chan.cold } else .reset

/-- Everything that the control side holds without storage is as after reset. -/
def State.coldAux (s : State) : State :=
  let psd := s.supply.psdOk
  { s with
    hopper := { s.hopper with ops := [] }
    ports := Vector.replicate 2 .reset
    downs := Vector.replicate 4 { losses := 0, recovered := false, sclLow := false, busStuck := false }
    pols := Vector.replicate 32 { lastFail := none, badMode := false, sent := [] }
    sats := Vector.replicate 8 { running := false, noReply := false, sent := [] }
    timers := Vector.replicate 8 .reset
    life := { s.life with nonce := none }
    dresser := { DresserState.reset with full := s.dresser.full, fullHard := s.dresser.fullHard }
    rails := s.rails.map fun (r : RailAux) => { RailAux.reset with pg := r.pg }
    seq := .reset
    fantail := .reset
    therms := Vector.replicate 16 .reset
    shelf := { mismatchSeen := false, configApplied := false, confirmHeld := false
               latched := s.shelf.latched, timeoutMs := none }
    miller := { restarting := false, causes := [], shifts := [] }
    segs := Vector.replicate 4 .reset
    loops := Vector.replicate 32 .reset
    phases := Vector.replicate 24 .reset
    wheel := { swaps := [], loads := [], residue := Vector.replicate 4 none, again := Vector.replicate 4 false,
               syncEdges := 0, syncMisses := 0, syncOf := 0, syncPeriod := 0, pull := 0, glide := 0
               dsStart := Vector.replicate 4 s.time.tick, dsSpoilt := Vector.replicate 4 false }
    flume := { op := none, running := false, loop := 0, payload := [], k := 0, aRe := 0, aIm := 0, bRe := 0, bIm := 0,
               clips := 0, lfsr := 0, chip := false }
    trace := { config := [], rows := [], decim := 0, prev := none, after := 0, rowTick := 0, hit := false, flumeNew := false,
               flumeSeen := false, faultSeen := false, objBad := false }
    feeders := s.feeders.map fun a => a.cold psd
    strings := s.strings.map fun a => a.cold psd
    modules := Vector.replicate 64 .reset
    auths := []
    nvm := { s.nvm with queue := [], active := none, unjournaled := [] }
    supply := { s.supply with saveArmed := false, rideThrough := false, cholds := false, unproven := false,
                              millHistory := [], floatExit := false } }

/-- Straps, configuration and debug access (R2, R378, R420, R434). -/
def State.bootStraps (s : State) (addr : Nat) : State :=
  let cascaded := (List.range 8).any fun n => lookupKey (keyOf (oSat n) Pid.ENABLE) s.nvm.config == some 1
  let s := s.setPar oDevice Pid.Device.CONFIGURATION (b2i cascaded)
  let s := s.setPar oLife Pid.LifeCycle.DEBUG_STATE (if s.lcState == lcFIELD then 0 else 1)
  (s.setPar (oPort .ha) Pid.HPort.PRIMARY_ADDR (0x58 + addr : Nat)).setPar (oPort .hb) Pid.HPort.PRIMARY_ADDR
    (0x58 + addr : Nat)

/-! ## The ROM (R411, R412) -/

/-- A trial that a reset has failed: the bank is FAILED (R411). -/
def State.bootTrialFailed (s : State) : State :=
  if s.upd.trialReset then
    let s := (s.setBank s.runningBank bkFAILED).incPar oUpdater Pid.Updater.TRIAL_FAILS
    { s with upd := { s.upd with trialReset := false, stagedOk := false } }
  else s

/-- Does a bank's content verify? What the part was shipped with does (log entry 31). -/
def State.bankVerifies (s : State) (b : Nat) : Bool :=
  if s.factoryBank b then s.readable (bankBase b) 0x180000 else s.digestOk b && s.sigOk b

/-- The banks that are not EMPTY and fail verification. -/
def State.badBanks (s : State) : List Nat :=
  [0, 1].filter fun b => s.bank b != bkEMPTY && !s.bankVerifies b

/-- A bank that fails verification becomes EMPTY (R412); what was staged in it is gone. -/
def State.dropBanks (s : State) (l : List Nat) : State :=
  s.eachOf l fun b s =>
    let staged := s.bank b == bkSTAGED
    let s := s.setBank b bkEMPTY
    if staged then
      { s with upd := { s.upd with stagedOk := false } : State }.setPar oUpdater Pid.Updater.STAGED_VERSION 0
    else s

/-- The first valid bank in the order of R412. -/
def State.bootBank (s : State) : Option Nat :=
  let inState (v : Int) : Option Nat := [0, 1].find? fun b => s.bank b == v
  (inState bkTRIAL).or ((inState bkGOOD).or (inState bkSTAGED))

/-- What an update holds after a reset: no session; a schedule of a STAGED bank stands (R408). -/
def State.bootUpdate (s : State) (b : Nat) : State :=
  let trial := s.bank b != bkGOOD
  let s := if trial then s.setBank b bkTRIAL else s
  let s := s.setPar oUpdater Pid.Updater.RUNNING_BANK b
  let scheduled := s.upd.stagedOk && s.par oUpdater Pid.Updater.SCHED_MODE != 0xFF
  let s := { s with upd := { s.upd with
    bundleLen := 0, units := [], headerOk := false, closing := none, dueAtCog := false, waiting := none
    due := scheduled && s.par oUpdater Pid.Updater.SCHED_MODE == 0, dueSince := s.time.tick, resetDriven := false
    checkin := none, checkinAsked := false, romEntry := false } }
  if trial then
    ({ s with upd := { s.upd with stagedOk := false } : State }.setUpd upTRIAL).startCheckin
  else if scheduled then s.setUpd upSCHEDULED
  else s.updRest

/-- ROM recovery: power-side outputs are held off, and no firmware runs (R412, R413). -/
def State.bootRom (s : State) : State :=
  let s := { s with supply := { s.supply with cs := .rom }, upd := { s.upd with
    bundleLen := 0, units := [], headerOk := false, closing := none, due := false, dueAtCog := false
    waiting := none, checkin := none, checkinAsked := false, romEntry := true } }
  s.psdOutputsOff

/-! ## The save (R276, R278) -/

/-- A save as it reads back: with the places in its slot that cannot be read. -/
def State.saveRead (s : State) (x : SaveImage) : SaveImage :=
  let a := saveSlot x.gen
  let places := (s.nvm.bad.filter fun c => decide (a ≤ c * 32) && decide (c * 32 < a + 0x4000)).map fun c => c * 32 - a
  { x with bad := places }

/-- The save that a start applies: of the slot with the higher generation whose header is valid, if it exceeds
SAVE_APPLIED. -/
def State.saveToApply (s : State) : Option SaveImage :=
  let newest := ((s.nvm.saves.map s.saveRead).filter fun x => x.bad.all fun a => decide (a ≥ 64)).foldl (fun (b : Option SaveImage) (x : SaveImage) => match b with
    | some y => if x.gen > y.gen then some x else some y
    | none => some x) none
  newest.filter fun x => decide (x.gen > s.nvm.saveApplied)

/-- Bytes of a save before its module records: header, time, state, counters and strings (Table 10-5). -/
abbrev saveFixed : Nat := 1392

/-- Module records that a save holds. -/
def SaveImage.moduleCount (x : SaveImage) : Nat :=
  (x.battery.filter fun e => objType (e.1 / 4096) == .module && e.1 % 4096 == Pid.Module.CAPACITY).length

/-- The size of a save as its sections stand. -/
def SaveImage.size (x : SaveImage) : Nat := saveFixed + 64 * x.moduleCount + 96 * x.records.length + 32

/-- Is the trailer valid, over the sections before it (R278)? -/
def SaveImage.trailerOk (x : SaveImage) : Bool := x.trailer && x.bad.all fun a => decide (a ≥ x.size)

/-- Does the CRC of the section in a range of bytes pass: its pages have been programmed and it can be read? -/
def SaveImage.sectionOk (x : SaveImage) (lo hi : Nat) : Bool :=
  (x.trailer || decide (hi ≤ 2048 * x.pages)) && x.bad.all fun a => decide (a + 32 ≤ lo) || decide (a ≥ hi)

/-- The sections of Table 10-5 that a start applies, at their places. -/
def SaveImage.timeOk (x : SaveImage) : Bool := x.sectionOk 64 96
def SaveImage.stateOk (x : SaveImage) : Bool := x.sectionOk 96 112
def SaveImage.countersOk (x : SaveImage) : Bool := x.sectionOk 112 1136
def SaveImage.stringsOk (x : SaveImage) : Bool := x.sectionOk 1136 saveFixed
def SaveImage.modulesOk (x : SaveImage) : Bool := x.sectionOk saveFixed (saveFixed + 64 * x.moduleCount)
def SaveImage.recordsOk (x : SaveImage) : Bool := x.sectionOk (saveFixed + 64 * x.moduleCount) (x.size - 32)

/-- The battery records of a save that apply. -/
def SaveImage.batteryUsed (x : SaveImage) : List (Nat × Int) :=
  x.battery.filter fun e =>
    if objType (e.1 / 4096) == .module then x.modulesOk else x.stringsOk

/-- The records of a save that apply, newest first. -/
def SaveImage.recordsUsed (x : SaveImage) : List Rec := if x.recordsOk then x.records else []

/-! ## Counters and battery values (R54, R198, R199) -/

/-- Change the accumulator remainders of an object. -/
def State.modAcc (s : State) (o : Nat) (g : Accum → Accum) : State :=
  match objType o with
  | .feeder => s.modFeeder (o - 0x30) fun a => { a with acc := g a.acc }
  | .string => s.modStr (o - 0x80) fun a => { a with acc := g a.acc }
  | _ => s

/-- A list of counters and remainders is taken. -/
def State.takeCounters (s : State) (l : List (Nat × Int)) : State :=
  l.foldl (fun s e =>
    let o := e.1 / 4096
    let pid := e.1 % 4096
    if pid = xPOS then s.modAcc o fun a => { a with pos := e.2.toNat }
    else if pid = xNEG then s.modAcc o fun a => { a with neg := e.2.toNat }
    else if pid = xQ then s.modAcc o fun a => { a with q := e.2 }
    else s.setPar o pid e.2) s

/-- The counters resume from the applied save, or from their journal with ENERGY_GAP set (R54, R278). -/
def State.bootCounters (s : State) (save : Option SaveImage) : State :=
  match save.filter fun x => x.countersOk with
  | some x => s.takeCounters x.counters
  | none =>
    let s := s.takeCounters s.nvm.counters
    let l := (List.range 4).map (fun b => oSeg b) ++ (List.range 16).map (fun f => oFeeder f) ++
      (List.range 4).map fun k => oString k
    s.eachOf l fun o s => s.setBit o pSenseStatus ssENERGY_GAP

/-- A list of string and module records is taken. A module's MODEL_ID is read from the module itself (R199). -/
def State.takeBattery (s : State) (l : List (Nat × Int)) : State :=
  l.foldl (fun s e =>
    let o := e.1 / 4096
    let pid := e.1 % 4096
    match objType o with
    | .module =>
      if pid = xSERIAL then s.modModule (o - 0x40) fun a => { a with recSerial := some e.2.toNat }
      else if pid = Pid.Module.MODEL_ID || pid = xFLAGS then s
      else s.setPar o pid e.2
    | .string =>
      if pid = xANCHOR then s.modStr (o - 0x80) fun a => { a with anchor := e.2 }
      else if pid = xQ_ANCHOR then s.modStr (o - 0x80) fun a => { a with qAnchor := e.2 }
      else if pid = xFULL_TICK then s.modStr (o - 0x80) fun a => { a with fullTick := e.2.toNat }
      else if pid = xDSG_Q then s.modStr (o - 0x80) fun a => { a with dsgQ := s.par o Pid.String.Q_NET + e.2 }
      else if pid = xFLAGS then s.modStr (o - 0x80) fun a =>
        { a with fullSeen := e.2.toNat.testBit 0, wasDsg := e.2.toNat.testBit 1, dsgSeen := e.2.toNat.testBit 1 }
      else if pid = xDSG_START then s.modStr (o - 0x80) fun a => { a with dsgStart := e.2 }
      else s.setPar o pid e.2
    | _ => s) s

/-- The battery journal, and over it the records of an applied save, which its first granted write journals. STALE is checked
(R200), and every module is to be identified and authenticated (R199). -/
def State.bootBattery (s : State) (save : Option SaveImage) : State :=
  let s := s.takeBattery s.nvm.battery
  let s := match save.map fun x => x.batteryUsed with
    | some (e :: l) =>
      let s := { s with nvm := { s.nvm with unjournaled := [0, 1, 2, 3] } }
      (s.takeBattery (e :: l)).askNvm .battery (.battery [0, 1, 2, 3]) 5 none
    | _ => s
  (s.each 4 fun k s => s.eachOf (s.modulesOf k) fun m s => s.staleUpdate m).authAll

/-- The identity and the tracking values of the configuration journal (R30, R46). -/
def State.bootConfigValues (s : State) : State :=
  s.eachOf (s.nvm.config.map (·.1)) fun k s =>
    let o := k / 4096
    let pid := k % 4096
    let track := pid == pGainTrack || pid == pOffsetTrack
    if track || (o = oShelf ∧ pid = Pid.Shelf.SHELF_ID) then
      s.setPar o pid ((lookupKey k s.nvm.config).getD (paramReset o pid))
    else s

/-- Every loop's stored active image goes into bank 0, which is active; bank 1 is empty (R78). LOAD_GEN_0 is the last count of
bank 0, whichever bank the image had been loaded to (R90; log entry 62). -/
def State.bootImages (s : State) : State :=
  s.each 32 fun n s =>
    let stored (which : Nat) : Option Bytes := (s.nvm.images.find? fun e => e.1 == (n, which)).map (·.2)
    s.modLoop n fun a => { a with bank0 := stored 0, float := stored 1 }

/-! ## The tick (R298) -/

/-- The tick is restored from the first source of Table 11-2 that applies, and latched (R296). -/
def State.bootTick (s : State) (aonValid : Bool) (elapsed : Nat) (save : Option SaveImage) : State :=
  let timeOf := save.filter fun x => x.timeOk
  match (if aonValid then s.time.latch else none) with
  | some l =>
    let s := s.modTime fun t => { t with tick := l.tick + max (aonUs elapsed) 1000000 + 1 }
    let s := (s.setPar oDevice Pid.Device.WALL_OFFSET l.offset).setPar oDevice Pid.Device.TICK_SOURCE 1
    s.latchTick (l.aon.toNat + elapsed) false
  | none =>
    let (a, s) := s.draw
    let s := s.restoreJournal timeOf
    s.latchTick (BitVec.ofInt 48 a).toNat false

/-! ## Grist (R323 to R325) -/

/-- Put a record in a list that is newest first. -/
def insRec (r : Rec) : List Rec → List Rec
  | [] => [r]
  | x :: rest => if genOlder r.gen x.gen then x :: insRec r rest else r :: x :: rest

/-- The runs of lost generations, oldest first, as first and last generation. -/
def addLost (l : List (Nat × Nat)) (lo hi : Nat) : List (Nat × Nat) :=
  match l.getLast? with
  | some (a, b) => if seqAfter b = lo then l.dropLast ++ [(a, hi)] else l ++ [(lo, hi)]
  | none => [(lo, hi)]

/-- Generations from one to another, both counted. -/
def genCount (lo hi : Nat) : Nat := (hi + 4294967296 - lo % 4294967296) % 4294967296 + 1

/-- The mirror's records in slots that can be read. -/
def State.mirrorRead (s : State) : List Rec := s.nvm.mirror.filter fun r => s.readable (mirrorSlot r.gen) 128

/-- The first area's records in slots that can be read. -/
def State.firstRead (s : State) : List Rec :=
  (s.nvm.firstMirror.zipIdx.filter fun e => s.readable (firstSlot e.2) 128).map (·.1)

/-- The runs of generations lost at a start: mirrored ones with no slot that can be read, those overwritten before they
were mirrored, and unmirrored ones that the save does not carry (R323, R324). -/
def State.lostRuns (s : State) (saved : List Rec) : List (Nat × Nat) :=
  let held := s.mirrorRead ++ s.firstRead ++ saved
  let gone (r : Rec) : Bool := !held.any fun x => x.gen == r.gen
  let l := s.unmirrored
  let start := seqAfter (s.par oGrist Pid.Grist.MIRRORED_GEN).toNat
  let spoilt := ((s.nvm.mirror.filter fun r => gone r && !genOlder r.gen s.nvm.clearGen).foldl
    (fun l r => insRec r l) []).reverse
  let runs := spoilt.foldl (fun runs r => addLost runs r.gen r.gen) []
  let runs := match l with
    | r :: _ =>
      if genOlder start r.gen && decide (genCount start r.gen < 1048576) then
        addLost runs start (if r.gen ≤ 1 then 4294967295 else r.gen - 1) else runs
    | [] => runs
  (l.filter gone).foldl (fun runs r => addLost runs r.gen r.gen) runs

/-- The highest sequence number that a list of records holds of each source. -/
def foundSeqs (l : List Rec) : List (Nat × Nat) :=
  (l.map (·.source)).eraseDups.map fun src =>
    (src, (l.filter fun r => r.source == src).foldl (fun m r => max m r.seq) 0)

/-- The areas are rebuilt from their slots in MRAM and from an applied save. -/
def State.bootAreas (s : State) (saved : List Rec) : State :=
  let valid (r : Rec) : Bool := !genOlder r.gen s.nvm.clearGen
  let circ := ((mirrorPut s.mirrorRead saved.reverse).filter valid).foldl (fun l r => insRec r l) []
  let slots := (s.firstRead.filter valid).reverse
  let more := saved.filter fun r => r.first && valid r && !slots.any fun x => x.gen == r.gen
  { s with grist := { GristState.empty with
    nextGen := s.grist.nextGen, circ := circ, first := more ++ slots, clearGen := s.nvm.clearGen
    firstWritten := s.nvm.firstMirror.length
    deferred := s.grist.deferred.filter fun d => d.psd } : State }.gristParams

/-- A start that is not clean: the gap base is raised and numbering resumes past it (R325). -/
def State.bootGap (s : State) : State :=
  let g := s.nvm.gapBase + 1048576
  let l := s.grist.circ ++ s.grist.first
  let top := (s.grist.circ ++ s.grist.first).foldl (fun m r => if genOlder m r.gen then r.gen else m) 0
  { s with
    nvm := { s.nvm with gapBase := g, cleanStop := false }
    grist := { s.grist with gap := some g, found := foundSeqs l, nextGen := seqWrap (max g (top + 1048577)) } }

/-- Grist resumes: whether the previous stop was clean, and the runs of records that are lost. -/
def State.bootGrist (s : State) (save : Option SaveImage) : Bool × List (Nat × Nat) × State :=
  let saved := match save with
    | some x => x.recordsUsed
    | none => []
  let runs := s.lostRuns saved
  let whole := match save with
    | some x => x.trailerOk && x.dropped == 0 && runs.isEmpty
    | none => false
  let clean := whole || (s.nvm.cleanStop && s.unmirrored.isEmpty)
  let s := s.bootAreas saved
  (clean, runs, if clean then s else s.bootGap)

/-- The records of a start: gap, losses, torn journals and save, a failed trial, unverified banks, ROM recovery and
the results that waited (R278, R280, R323, R325, R342, R411, R412, R421, R438). -/
def State.bootRecords (s : State) (clean : Bool) (runs : List (Nat × Nat)) : State :=
  let s := if clean then s
    else (s.setBit oGrist Pid.Grist.GRIST_STATUS 4).record oGrist rcRecorder 0xF2
      [.lit ((s.grist.gap.getD 0 : Nat) : Int)]
  runs.foldl (fun s e =>
    let n := genCount e.1 e.2
    ((s.addPar oGrist Pid.Grist.LOST_RECORDS n).setBit oGrist Pid.Grist.GRIST_STATUS 2).record
      oGrist rcRecorder 0xF1 [.lit n, .lit e.1, .lit e.2]) s

/-- Journal records found torn: each is counted and recorded (R280). -/
def State.bootTorn (s : State) : State :=
  let n := s.nvm.torn
  { s with nvm := { s.nvm with torn := 0 } : State }.each n fun _ s =>
    (s.incPar oDevice Pid.Device.TORN_RECORDS).supplyRecord

/-- The STATE section of an applied save (R278): SHUTDOWN_CAUSE and the Fantail summary. SEQ_STATE and SEQ_PHASE start again
with STARTUP (R31, R243; log entry 58). -/
def State.bootState (s : State) (save : Option SaveImage) : State :=
  match save.filter fun x => x.stateOk with
  | some x =>
    { s.setPar oShelf Pid.Shelf.SHUTDOWN_CAUSE x.cause with
      fantail := { s.fantail with reserveShort := x.fantail.testBit 0, overcommit := x.fantail.testBit 1,
                                  contShort := x.fantail.testBit 2 } }
  | none => s

/-- SAVE_APPLIED follows an applied save, once its battery records are journaled; a torn one is reported (R278). -/
def State.bootSave (s : State) (save : Option SaveImage) : State :=
  match save with
  | none => s
  | some x =>
    let s := s.askOnce .counters .saveApplied 1
    if x.trailerOk then s else (s.holdBit hsSAVE_TORN).supplyRecord

/-- The result of a full test that waited in retention, and the repairs that its failures queue (R338, R342). -/
def State.bootFullTest (s : State) : State :=
  match s.supply.cause, s.dresser.full with
  | .fullTest, some t =>
    let s := (s.setBit oDresser Pid.Dresser.DRESSER_STATUS drFULL_TEST_DONE).record oDresser rcState 0x25
      [.lit 1, .lit t.fails, .lit t.failUnit]
    (s.dresser.fullHard.foldl (fun s e => s.queueRepair e.1 e.2) s).modDresser fun d => { d with fullHard := [] }
  | _, _ => s

/-- STARTUP is entered (R31, R36): `old` is the shelf state as retained, 0xFF where none is. -/
def State.bootStartup (s : State) (old : Int) : State :=
  let s := (s.setPar oShelf Pid.Shelf.SHELF_STATE ssStartup).setPar oShelf Pid.Shelf.STATE_ENTRY_TICK s.time.tick
  let s := s.createRec oShelf rcState 0x20 true [.lit old, .lit ssStartup, .lit scRESET]
  let s := if s.supply.cause == .forceOff || s.supply.cause == .mrN then s.seqRecord else s
  let s := if s.time.onAonRc then
      (s.clockBit ckXT32_FAIL).record oDevice rcFault 0x0A
        [.par oDevice Pid.Device.CLOCK_STATUS, .par oDevice Pid.Device.XT32_FAIL_COUNT]
    else s
  s.askOnce .config .choldTest 1

/-- Records of the update (R411, R412, R421). -/
def State.bootUpdRecords (s : State) (failed : Option Nat) (bad : List Nat) (rom : Bool) : State :=
  let s := match failed with
    | some b => s.updRecord 0x06 b 0
    | none => s
  let s := s.eachOf bad fun b s => s.updRecord 0x02 b 0
  if rom then s.updRecord 0x09 s.runningBank 0 else s

/-- Firmware starts from a bank. The old shelf state and SHUTDOWN_CAUSE are those of AON retention, where VAON has held and
the context passes its CRC; else those of an applied save, or none (R36, R249, R287). -/
def State.bootFirmware (s : State) (b : Nat) (failed : Option Nat) (bad : List Nat) (x : BootIn) : State :=
  let held := s.supply.cause != .powerUp
  let latched := s.shelf.latched && held
  let save := s.saveToApply
  let context := held && !(s.supply.retentionBad ||| x.retentionBad).getLsbD 0
  let s := if context then s else s.forgetCause
  let before : Int := if context then s.shelfState
    else match save with
      | some x => x.shelf
      | none => 0xFF
  let rom := s.upd.romEntry
  let (clean, runs, s) := s.bootGrist save
  let s := (s.coldParams.coldAux).bootStraps x.addr.toNat
  let s := s.gristParams
  let s := s.bootTick (x.aonValid && held) x.aonElapsed save
  let s := (((s.bootConfigValues.bootImages).bootCounters save).bootBattery save).bootState save
  let s := { s with supply := { s.supply with cs := .run, retentionBad := 0 }, shelf := { s.shelf with latched := latched } }
  let s := s.bootUpdate b
  if latched then
    (s.setPar oShelf Pid.Shelf.SHELF_STATE ssThermal).setPar oShelf Pid.Shelf.STATE_ENTRY_TICK s.time.tick
  else
    let s := (s.bootRecords clean runs).bootStartup before
    let s := ((s.bootTorn).bootSave save).bootFullTest
    let s := s.bootUpdRecords failed bad rom
    if s.linkUp then s.flushRecords true else s

/-- CONTROL_SIDE_BOOT: the control-side reset is released (R267, R412, R434). -/
def execControlSideBoot (x : BootIn) (s : State) : Host.Outcome State Fault Refusal :=
  if s.supply.cs != .reset && s.supply.cs != .off then .next s
  else
    let s := s.bootJournal
    let failed := if s.upd.trialReset then some s.runningBank else none
    let s := s.bootTrialFailed
    let bad := s.badBanks
    let s := s.dropBanks bad
    match (if x.recoveryN && s.par oUpdater Pid.Updater.TRIAL_FAILS < 2 then s.bootBank else none) with
    | some b => .next (s.bootFirmware b failed bad x)
    | none =>
      let retained := s.shelfState
      .next ((((s.coldParams.coldAux).bootStraps x.addr.toNat).bootRom).setPar oShelf Pid.Shelf.SHELF_STATE retained)

end Sys2Proof.Machine
end

