-- ==== Sys2Proof/Machine/Startup.lean ====
section
/-! DEFINITION. STARTUP and RECOVERY: the shelf identity, the stored configuration, and the transitions that end them
(R30, R31, R33, R198, R255). -/

namespace Sys2Proof.Machine

/-! ## The shelf identity (R30) -/

/-- The identity that eight bytes give, where their CRC holds. -/
def identityOf (x : Option Bytes) : Option Nat :=
  match x with
  | some b => if b.length = 8 ∧ (crc32c (b.take 4)).toNat = fieldU b 4 4 then some (fieldU b 0 4) else none
  | none => none

/-- A read that the memory does not acknowledge is a frame error of D3 (R392); any other is a frame. -/
def State.identityFrame (s : State) (x : Option Bytes) : State :=
  match x with
  | some _ => s.incPar (oDown 3) Pid.Down.FRAMES
  | none => (s.setBit (oDown 3) Pid.Down.DS_STATUS dsNACK).frameError 3

/-- SHELF_ID_READ: D3 recovers its bus and reads the identity memory, once more where the first read fails (R30). -/
def execShelfIdRead (first retry : Option Bytes) (s : State) : Host.Outcome State Fault Refusal :=
  if !s.miller3 || s.shelfState != ssStartup || s.shelf.configApplied then .next s
  else
    let s := s.incPar (oDown 3) Pid.Down.RECOVERIES
    let (found, s) :=
      if s.par (oDown 3) Pid.Down.DS_STATE == dsFAULT then (none, s)
      else
        let s := (s.modDown 3 fun a => { a with recovered := true }).identityFrame first
        match identityOf first with
        | some n => (some n, s)
        | none => (identityOf retry, s.identityFrame retry)
    .next (s.setPar oShelf Pid.Shelf.SHELF_ID_FOUND (found.getD 0xFFFFFFFF : Nat)).idCheck

/-! ## The stored configuration (R23, R31) -/

/-- Does a key name a Config parameter? -/
def configKey (k : Nat) : Bool :=
  match findDesc (k / 4096) (k % 4096) with
  | some d => d.src == .config
  | none => false

/-- The stored value of a Config parameter, its Reset value where none is stored. -/
def State.storedConfig (s : State) (k : Nat) : Int := (lookupKey k s.nvm.config).getD (paramReset (k / 4096) (k % 4096))

/-- Every Config parameter but ENABLE takes its stored value (log entry 29), and the ports answer the addresses stored (log
entry 33). -/
def State.loadConfig (s : State) : State :=
  let keys := (s.params.map (·.1) ++ s.nvm.config.map (·.1)).filter fun k => configKey k && k % 4096 != Pid.ENABLE
  let s := s.eachOf keys fun k s => s.setPar (k / 4096) (k % 4096) (s.storedConfig k)
  (s.busStop .ha).busStop .hb

/-- ENABLE of every object takes its stored value, in the order of the objects. -/
def State.loadEnables (s : State) : State :=
  s.eachOf ((List.range 256).filter fun o => configKey (keyOf o Pid.ENABLE)) fun o s =>
    s.setEnable o (s.storedConfig (keyOf o Pid.ENABLE) == 1)

/-- The curve and the DOWN_STATE of each feeder, where its record holds one (R165, Table 6-10). -/
def State.loadFeeders (s : State) : State :=
  s.each 16 fun f s =>
    let o := oFeeder f
    let s := s.modFeeder f fun a => { a with downOwn := (lookupKey (keyOf o Pid.Feeder.DOWN_STATE) s.nvm.config).isSome }
    let stored := (List.range 8).any fun k => (lookupKey (keyOf o (Pid.Feeder.IT_I + 2 * k)) s.nvm.config).isSome
    if stored then s.curveApply f else s.modFeeder f fun a => { a with curve := [] }

/-- A configured module without a record of its own takes its model's defaults, and a record is written (R198); STALE is checked of
every one (R200). -/
def State.loadModules (s : State) : State :=
  s.each 4 fun k s => s.eachOf (s.modulesOf k) fun m s =>
    (if (s.module m).recSerial.isNone then (s.moduleDefaults m).moduleRecord m else s).staleUpdate m

/-- The host triggers of the journal, none of them fired yet (R329). -/
def State.loadTriggers (s : State) : State :=
  { s with grist := { s.grist with triggers := s.nvm.triggers.map fun (t : Trigger) =>
      { t with armed := true, last := none, lastFire := none } } }

/-- STARTUP_CONFIG_APPLIED: Miller applies the stored configuration (R31). In THERMAL_LATCHED it does so after a
control-side reset too, and every object stays in SAFE_HOLD (R34). -/
def execStartupConfigApplied (s : State) : Host.Outcome State Fault Refusal :=
  if !s.miller3 || s.shelf.configApplied || (s.shelfState != ssStartup && !s.thermalLatched) then .next s
  else
    let s := { s with shelf := { s.shelf with configApplied := true } }
    let s := ((s.loadConfig.loadFeeders).loadTriggers.loadModules).loadEnables
    let s := if s.safeHold then s.holdAll else s
    if s.thermalLatched then .next s
    else
      let s := if s.par oShelf Pid.Shelf.COG_ENABLE == 1 && !s.seq.attached && s.seqPhase != sqJOINING then s.cogJoin else s
      let s := if s.seq.workDue then (s.modSeq fun q => { q with workDue := false }).beginWork s.seqState else s
      .next (if s.shelf.confirmHeld then
          { s with shelf := { s.shelf with confirmHeld := false } : State }.shift ssNormal scCONFIRM
        else s)

/-- STARTUP_TIMEOUT: 30 s after its entry, where no mismatch has been seen (R31). In a level 3 restart the change is
taken at its end (R35). A confirmation later in the same 1 ms tick takes its place as the cause (`State.confirmLate`). -/
def execStartupTimeout (s : State) : Host.Outcome State Fault Refusal :=
  if s.running && s.shelfState == ssStartup && s.shelf.configApplied && !s.shelf.mismatchSeen then
    .next ({ s with shelf := { s.shelf with timeoutMs := some (s.time.tick / 1000) } : State }.shift ssNormal scTIMEOUT)
  else .next s

/-! ## RECOVERY (R33) -/

/-- The enabled segments. -/
def State.enabledSegs (s : State) : List Nat := (List.range 4).filter fun b => s.enabled (oSeg b)

/-- RECOVERY_ENTRY: every enabled segment has had V_FAST below its SEG_UV for 10 ms (R33). -/
def execRecoveryEntry (s : State) : Host.Outcome State Fault Refusal :=
  let low (b : Nat) : Bool :=
    decide (s.par (oSeg b) Pid.Segment.V_FAST < s.par (oSeg b) Pid.Segment.SEG_UV)
  if s.running && s.shelfState == ssNormal && !s.enabledSegs.isEmpty && s.enabledSegs.all low then
    .next (s.shift ssRecovery scCOLLAPSE)
  else .next s

/-- Is a feeder settled for the end of RECOVERY (R33)? -/
def State.feederSettled (s : State) (f : Nat) : Bool :=
  let o := oFeeder f
  let st := s.objNow o
  let outcome := s.par o Pid.SERVICE_STATUS / 1073741824
  !s.enabled o || st == osActive || st == osDegraded || st == osLatched ||
    (st == osWaiting && (!(s.feeder f).seated || outcome == 2 || outcome == 3))

/-- RECOVERY_EXIT: every enabled segment has been in its window for 1 s, and the feeders have settled or 60 s have
passed since the entry (R33). -/
def execRecoveryExit (sixtySeconds : Bool) (s : State) : Host.Outcome State Fault Refusal :=
  let inside (b : Nat) : Bool :=
    let v := s.par (oSeg b) Pid.Segment.V_FAST
    decide (s.par (oSeg b) Pid.Segment.SEG_UV ≤ v) && decide (v ≤ s.par (oSeg b) Pid.Segment.SEG_OV)
  let settled := (List.range 16).all s.feederSettled
  if s.running && s.shelfState == ssRecovery && s.enabledSegs.all inside && (settled || sixtySeconds) then
    .next (s.shift ssNormal (if settled then scRECOVERED else scSIXTY))
  else .next s

end Sys2Proof.Machine
end

