-- ==== Sys2Proof/Machine/Dispatch.lean ====
section
/-! DEFINITION. The dispatch: one arm per constructor of `Instr`, each a direct call of its meaning. -/

namespace Sys2Proof.Machine

def exec (i : Instr) (s : State) : Host.Outcome State Fault Refusal :=
  match i with
  | .ping r payload => Sys2Proof.Machine.execPing r payload s
  | .ident r payload => Sys2Proof.Machine.execIdent r payload s
  | .paramGet r payload => Sys2Proof.Machine.execParamGet r payload s
  | .paramSet r payload => Sys2Proof.Machine.execParamSet r payload s
  | .paramGetMulti r payload => Sys2Proof.Machine.execParamGetMulti r payload s
  | .objState r payload => Sys2Proof.Machine.execObjState r payload s
  | .objEnable r payload => Sys2Proof.Machine.execObjEnable r payload s
  | .objDisable r payload => Sys2Proof.Machine.execObjDisable r payload s
  | .objClearLatch r payload => Sys2Proof.Machine.execObjClearLatch r payload s
  | .setpointSlew r payload => Sys2Proof.Machine.execSetpointSlew r payload s
  | .coefBankLoad r payload => Sys2Proof.Machine.execCoefBankLoad r payload s
  | .coefBankSwap r payload => Sys2Proof.Machine.execCoefBankSwap r payload s
  | .flumeStart r payload => Sys2Proof.Machine.execFlumeStart r payload s
  | .tailraceArm r payload => Sys2Proof.Machine.execTailraceArm r payload s
  | .tailraceRead r payload => Sys2Proof.Machine.execTailraceRead r payload s
  | .gristRead r payload => Sys2Proof.Machine.execGristRead r payload s
  | .gristClearNonce r rest => Sys2Proof.Machine.execGristClearNonce r rest s
  | .gristClear r rest => Sys2Proof.Machine.execGristClear r rest s
  | .gristTriggerSet r payload => Sys2Proof.Machine.execGristTriggerSet r payload s
  | .bistRequest r payload => Sys2Proof.Machine.execBistRequest r payload s
  | .bistCancel r rest => Sys2Proof.Machine.execBistCancel r rest s
  | .bistResult r payload => Sys2Proof.Machine.execBistResult r payload s
  | .battAuth r payload => Sys2Proof.Machine.execBattAuth r payload s
  | .battLearnCommit r payload => Sys2Proof.Machine.execBattLearnCommit r payload s
  | .seqPowerOn r payload => Sys2Proof.Machine.execSeqPowerOn r payload s
  | .seqPowerOff r payload => Sys2Proof.Machine.execSeqPowerOff r payload s
  | .seqStep r payload => Sys2Proof.Machine.execSeqStep r payload s
  | .timeSet r payload => Sys2Proof.Machine.execTimeSet r payload s
  | .timeGet r payload => Sys2Proof.Machine.execTimeGet r payload s
  | .updOpen r payload => Sys2Proof.Machine.execUpdOpen r payload s
  | .updBlock r payload => Sys2Proof.Machine.execUpdBlock r payload s
  | .updClose r payload => Sys2Proof.Machine.execUpdClose r payload s
  | .updSchedule r payload => Sys2Proof.Machine.execUpdSchedule r payload s
  | .updStatus r payload => Sys2Proof.Machine.execUpdStatus r payload s
  | .updCancel r payload => Sys2Proof.Machine.execUpdCancel r payload s
  | .lcState r payload => Sys2Proof.Machine.execLcState r payload s
  | .lcNonce r rest => Sys2Proof.Machine.execLcNonce r rest s
  | .lcTransition r rest => Sys2Proof.Machine.execLcTransition r rest s
  | .writeKey r rest => Sys2Proof.Machine.execWriteKey r rest s
  | .debugUnlock r rest => Sys2Proof.Machine.execDebugUnlock r rest s
  | .debugRelock r rest => Sys2Proof.Machine.execDebugRelock r rest s
  | .abort r payload => Sys2Proof.Machine.execAbort r payload s
  | .resultPoll r payload => Sys2Proof.Machine.execResultPoll r payload s
  | .operationStart => Sys2Proof.Machine.execOperationStart s
  | .reqStream port acc data => Sys2Proof.Machine.execReqStream port acc data s
  | .doorbellSubmit port x => Sys2Proof.Machine.execDoorbellSubmit port x s
  | .doorbellDiscard port x => Sys2Proof.Machine.execDoorbellDiscard port x s
  | .replyStream port x => Sys2Proof.Machine.execReplyStream port x s
  | .alertCause port x => Sys2Proof.Machine.execAlertCause port x s
  | .fastStatus port x => Sys2Proof.Machine.execFastStatus port x s
  | .highByteLatch port reply x => Sys2Proof.Machine.execHighByteLatch port reply x s
  | .windowWrite port acc ptr rest => Sys2Proof.Machine.execWindowWrite port acc ptr rest s
  | .cautiousExit port => Sys2Proof.Machine.execCautiousExit port s
  | .clockLowTimeout port => Sys2Proof.Machine.execClockLowTimeout port s
  | .alertResponse port won => Sys2Proof.Machine.execAlertResponse port won s
  | .addressMatchWake x => Sys2Proof.Machine.execAddressMatchWake x s
  | .wakeStretchRelease port heldUs => Sys2Proof.Machine.execWakeStretchRelease port heldUs s
  | .stateRequest r v => Sys2Proof.Machine.execStateRequest r v s
  | .configConfirm r v => Sys2Proof.Machine.execConfigConfirm r v s
  | .shelfId r v => Sys2Proof.Machine.execShelfId r v s
  | .modeRequestRun r => Sys2Proof.Machine.execModeRequestRun r s
  | .modeRequestFloat r => Sys2Proof.Machine.execModeRequestFloat r s
  | .modeRequestWatch r => Sys2Proof.Machine.execModeRequestWatch r s
  | .itApply r f v => Sys2Proof.Machine.execItApply r f v s
  | .cautiousAck r port v => Sys2Proof.Machine.execCautiousAck r port v s
  | .trackLimit r ch => Sys2Proof.Machine.execTrackLimit r ch s
  | .cogEnable r v => Sys2Proof.Machine.execCogEnable r v s
  | .maxLatency r => Sys2Proof.Machine.execMaxLatency r s
  | .tMaxSeen r t => Sys2Proof.Machine.execTMaxSeen r t s
  | .wakeStretchMax r port => Sys2Proof.Machine.execWakeStretchMax r port s
  | .timerCount r tm w => Sys2Proof.Machine.execTimerCount r tm w s
  | .compare r tm v => Sys2Proof.Machine.execCompare r tm v s
  | .prescale r tm v => Sys2Proof.Machine.execPrescale r tm v s
  | .outMode r tm v => Sys2Proof.Machine.execOutMode r tm v s
  | .capture r tm => Sys2Proof.Machine.execCapture r tm s
  | .timerMatch tm => Sys2Proof.Machine.execTimerMatch tm s
  | .timerWrap tm => Sys2Proof.Machine.execTimerWrap tm s
  | .timerCapture tm rising count => Sys2Proof.Machine.execTimerCapture tm rising count s
  | .debugHalt => Sys2Proof.Machine.execDebugHalt s
  | .debugHaltRelease => Sys2Proof.Machine.execDebugHaltRelease s
  | .uhlesLinkLoss => Sys2Proof.Machine.execUhlesLinkLoss s
  | .uhlesLinkRecovery lossUs => Sys2Proof.Machine.execUhlesLinkRecovery lossUs s
  | .pwmPeriodStart p => Sys2Proof.Machine.execPwmPeriodStart p s
  | .groupBoundary f => Sys2Proof.Machine.execGroupBoundary f s
  | .sampleRequest p waitNs => Sys2Proof.Machine.execSampleRequest p waitNs s
  | .innerEvaluation p x lane latencyNs residueOk => Sys2Proof.Machine.execInnerEvaluation p x lane latencyNs residueOk s
  | .outerTrigger lp lane residueOk => Sys2Proof.Machine.execOuterTrigger lp lane residueOk s
  | .sarRoundSlot sar7 slot x => Sys2Proof.Machine.execSarRoundSlot sar7 slot x s
  | .sarSelfCheck ch pass => Sys2Proof.Machine.execSarSelfCheck ch pass s
  | .phaseFailNotice p => Sys2Proof.Machine.execPhaseFailNotice p s
  | .swapRegistration => Sys2Proof.Machine.execSwapRegistration s
  | .bankLoadCommit => Sys2Proof.Machine.execBankLoadCommit s
  | .flumeEnd => Sys2Proof.Machine.execFlumeEnd s
  | .tailraceDone => Sys2Proof.Machine.execTailraceDone s
  | .segmentStart b => Sys2Proof.Machine.execSegmentStart b s
  | .segmentActive b => Sys2Proof.Machine.execSegmentActive b s
  | .hiccupOffTimeEnd b => Sys2Proof.Machine.execHiccupOffTimeEnd b s
  | .runUndervolt b => Sys2Proof.Machine.execRunUndervolt b s
  | .overvolt b => Sys2Proof.Machine.execOvervolt b s
  | .syncinEdge freq phaseError => Sys2Proof.Machine.execSyncinEdge freq phaseError s
  | .syncinMissing => Sys2Proof.Machine.execSyncinMissing s
  | .sluiceTick ins => Sys2Proof.Machine.execSluiceTick ins s
  | .seatStable f => Sys2Proof.Machine.execSeatStable f s
  | .seatOpen f => Sys2Proof.Machine.execSeatOpen f s
  | .insertDelay f => Sys2Proof.Machine.execInsertDelay f s
  | .faultTimer f => Sys2Proof.Machine.execFaultTimer f s
  | .soa f => Sys2Proof.Machine.execSoa f s
  | .startTimeout f => Sys2Proof.Machine.execStartTimeout f s
  | .ovQualify f => Sys2Proof.Machine.execOvQualify f s
  | .itCurve f => Sys2Proof.Machine.execItCurve f s
  | .fastTrip f x proving => Sys2Proof.Machine.execFastTrip f x proving s
  | .weirProof pair b x => Sys2Proof.Machine.execWeirProof pair b x s
  | .stringConnect k => Sys2Proof.Machine.execStringConnect k s
  | .stringSwitchTick k vgsOk vds => Sys2Proof.Machine.execStringSwitchTick k vgsOk vds s
  | .connectTimeout k => Sys2Proof.Machine.execConnectTimeout k s
  | .dischargeReversal k => Sys2Proof.Machine.execDischargeReversal k s
  | .stringFastTrip k byA byB => Sys2Proof.Machine.execStringFastTrip k byA byB s
  | .thermalSample ts ringOk => Sys2Proof.Machine.execThermalSample ts ringOk s
  | .zoneCrit z => Sys2Proof.Machine.execZoneCrit z s
  | .zoneWarnClear z => Sys2Proof.Machine.execZoneWarnClear z s
  | .thermalLatch t => Sys2Proof.Machine.execThermalLatch t s
  | .fantailTick x => Sys2Proof.Machine.execFantailTick x s
  | .tickOverrun => Sys2Proof.Machine.execTickOverrun s
  | .inputLost b rise => Sys2Proof.Machine.execInputLost b rise s
  | .deferralLimit c => Sys2Proof.Machine.execDeferralLimit c s
  | .powerUpWalkStart => Sys2Proof.Machine.execPowerUpWalkStart s
  | .onDelay v => Sys2Proof.Machine.execOnDelay v s
  | .railQualified v upUs => Sys2Proof.Machine.execRailQualified v upUs s
  | .pgTimeout v => Sys2Proof.Machine.execPgTimeout v s
  | .railPgDrop x => Sys2Proof.Machine.execRailPgDrop x s
  | .railFault v => Sys2Proof.Machine.execRailFault v s
  | .railPoll v x elapsedUs => Sys2Proof.Machine.execRailPoll v x elapsedUs s
  | .stateWorkFinished => Sys2Proof.Machine.execStateWorkFinished s
  | .pfwTime => Sys2Proof.Machine.execPfwTime s
  | .dischargeTimeout v => Sys2Proof.Machine.execDischargeTimeout v s
  | .cogRise => Sys2Proof.Machine.execCogRise s
  | .cogLowEnd us => Sys2Proof.Machine.execCogLowEnd us s
  | .cogPulseEnd => Sys2Proof.Machine.execCogPulseEnd s
  | .cogHoldMax => Sys2Proof.Machine.execCogHoldMax s
  | .cogStall => Sys2Proof.Machine.execCogStall s
  | .cogJoinWatch => Sys2Proof.Machine.execCogJoinWatch s
  | .cogJoinTimeout => Sys2Proof.Machine.execCogJoinTimeout s
  | .pbPress ms => Sys2Proof.Machine.execPbPress ms s
  | .forceOff => Sys2Proof.Machine.execForceOff s
  | .mrN => Sys2Proof.Machine.execMrN s
  | .sag => Sys2Proof.Machine.execSag s
  | .vaux12Good => Sys2Proof.Machine.execVaux12Good s
  | .saveTrigger => Sys2Proof.Machine.execSaveTrigger s
  | .saveCommit us => Sys2Proof.Machine.execSaveCommit us s
  | .saveResume => Sys2Proof.Machine.execSaveResume s
  | .holdUpEnd => Sys2Proof.Machine.execHoldUpEnd s
  | .supplyFall w => Sys2Proof.Machine.execSupplyFall w s
  | .controlSideBoot x => Sys2Proof.Machine.execControlSideBoot x s
  | .psdReset => Sys2Proof.Machine.execPsdReset s
  | .vps12Uvlo => Sys2Proof.Machine.execVps12Uvlo s
  | .vps12Return => Sys2Proof.Machine.execVps12Return s
  | .choldTest dv1 dv2 => Sys2Proof.Machine.execCholdTest dv1 dv2 s
  | .nvmPageProgram => Sys2Proof.Machine.execNvmPageProgram s
  | .nvmTransactionCommit => Sys2Proof.Machine.execNvmTransactionCommit s
  | .floatEntry => Sys2Proof.Machine.execFloatEntry s
  | .watchEntry aon => Sys2Proof.Machine.execWatchEntry aon s
  | .watchWake x aon => Sys2Proof.Machine.execWatchWake x aon s
  | .watchReturn aon => Sys2Proof.Machine.execWatchReturn aon s
  | .aonWakeTimer => Sys2Proof.Machine.execAonWakeTimer s
  | .xt32Fail => Sys2Proof.Machine.execXt32Fail s
  | .xt32Return => Sys2Proof.Machine.execXt32Return s
  | .xt25Fail => Sys2Proof.Machine.execXt25Fail s
  | .xt25Return => Sys2Proof.Machine.execXt25Return s
  | .tickLatch aon => Sys2Proof.Machine.execTickLatch aon s
  | .tickJournal => Sys2Proof.Machine.execTickJournal s
  | .ceilingLate => Sys2Proof.Machine.execCeilingLate s
  | .wallSlewStep => Sys2Proof.Machine.execWallSlewStep s
  | .l3Restart cause => Sys2Proof.Machine.execL3Restart cause s
  | .l3RestartEnd => Sys2Proof.Machine.execL3RestartEnd s
  | .startupConfigApplied => Sys2Proof.Machine.execStartupConfigApplied s
  | .shelfIdRead first retry => Sys2Proof.Machine.execShelfIdRead first retry s
  | .startupTimeout => Sys2Proof.Machine.execStartupTimeout s
  | .recoveryEntry => Sys2Proof.Machine.execRecoveryEntry s
  | .recoveryExit sixtySeconds => Sys2Proof.Machine.execRecoveryExit sixtySeconds s
  | .trackingWindowEnd ch nv lo hi => Sys2Proof.Machine.execTrackingWindowEnd ch nv lo hi s
  | .trackingJournal ch => Sys2Proof.Machine.execTrackingJournal ch s
  | .energyJournal => Sys2Proof.Machine.execEnergyJournal s
  | .gristMirror => Sys2Proof.Machine.execGristMirror s
  | .mirrorLate => Sys2Proof.Machine.execMirrorLate s
  | .nonceExpiry lifeCycle => Sys2Proof.Machine.execNonceExpiry lifeCycle s
  | .scrubCodeword arr codeword use x => Sys2Proof.Machine.execScrubCodeword arr codeword use x s
  | .memorySliceTest arr slice use x => Sys2Proof.Machine.execMemorySliceTest arr slice use x s
  | .logicSliceTest slice expected read => Sys2Proof.Machine.execLogicSliceTest slice expected read s
  | .laneWithdrawal lane => Sys2Proof.Machine.execLaneWithdrawal lane s
  | .laneTest lane expected read => Sys2Proof.Machine.execLaneTest lane expected read s
  | .fullTest first cells logic lanes => Sys2Proof.Machine.execFullTest first cells logic lanes s
  | .pollRound replies => Sys2Proof.Machine.execPollRound replies s
  | .adpoxonFrameRetry port => Sys2Proof.Machine.execAdpoxonFrameRetry port s
  | .modelUpdate => Sys2Proof.Machine.execModelUpdate s
  | .endOfFullCharge k => Sys2Proof.Machine.execEndOfFullCharge k s
  | .moduleAuth m x => Sys2Proof.Machine.execModuleAuth m x s
  | .responseRead m x => Sys2Proof.Machine.execResponseRead m x s
  | .authRetry m => Sys2Proof.Machine.execAuthRetry m s
  | .batteryJournal => Sys2Proof.Machine.execBatteryJournal s
  | .dsFrame port x => Sys2Proof.Machine.execDsFrame port x s
  | .dsFrameAbandon port => Sys2Proof.Machine.execDsFrameAbandon port s
  | .busRecovery port x => Sys2Proof.Machine.execBusRecovery port x s
  | .polIdentify pl x => Sys2Proof.Machine.execPolIdentify pl x s
  | .polPoll pl x => Sys2Proof.Machine.execPolPoll pl x s
  | .satelliteLoad n x => Sys2Proof.Machine.execSatelliteLoad n x s
  | .satelliteRetry n => Sys2Proof.Machine.execSatelliteRetry n s
  | .bundleVerified => Sys2Proof.Machine.execBundleVerified s
  | .activationDue => Sys2Proof.Machine.execActivationDue s
  | .checkin => Sys2Proof.Machine.execCheckin s
  | .checkinTimeout => Sys2Proof.Machine.execCheckinTimeout s
  | .saveArmed => Sys2Proof.Machine.execSaveArmed s
  | .railPgHigh x => Sys2Proof.Machine.execRailPgHigh x s
  | .railDischarged x downUs => Sys2Proof.Machine.execRailDischarged x downUs s
  | .tmrPulseEnd tm => Sys2Proof.Machine.execTmrPulseEnd tm s
  | .choldTestDue => Sys2Proof.Machine.execCholdTestDue s

end Sys2Proof.Machine
end

