-- ==== Sys2Proof/Machine/Pins.lean ====
section
/-! DEFINITION. The levels of the output balls that follow from the state (R267, R388, R430 to R432, Tables 17-3 and
17-4), and the edges of PWMnA, PWMnB and SYNCOUT within a carrier period, in fine ticks of 78.125 ps (R97, R104, R127). -/

namespace Sys2Proof.Machine

/-- The control side is in reset or unsupplied: its balls are at their reset states (R430). -/
def State.inReset (s : State) : Bool := s.supply.cs == .reset || s.supply.cs == .off

/-- RESET_N is high: the control side is out of reset (R267). -/
def State.resetN (s : State) : Bool := !s.inReset

/-- PFW_N is released (R246, R249, R430). -/
def State.pfwN (s : State) : Bool := !s.inReset && !s.seq.pfwLow

/-- Is any object LATCHED or FAILED, or any lane FAILED, as FAULT_N shows (R431)? -/
def State.faultShown (s : State) : Bool :=
  (List.range 16).any (fun f => s.objNow (oFeeder f) == osLatched) ||
    (List.range 4).any (fun k => s.objNow (oString k) == osLatched) ||
    (List.range 4).any (fun b => s.objNow (oSeg b) == osLatched) ||
    (List.range 24).any (fun p => s.objNow (oPhase p) == osFailed) ||
    (List.range 8).any (fun m => s.objNow (oOuter m) == osFailed) || s.lanesNotFailed != 4

/-- FAULT_N is released (R431). Gearing drives it, independently of Miller. -/
def State.faultN (s : State) : Bool :=
  !(s.inReset || s.supply.cs == .rom || s.shelfState == ssThermal || s.faultShown)

/-- ALERT_N of a host port is released (R388 to R390). -/
def State.alertN (s : State) (p : HostPort) : Bool := !s.alertLow p

/-- ENn is high (R239, R251, R430). -/
def State.enPin (s : State) (v : Nat) : Bool := decide (v < 16) && !s.inReset && (s.rail v).en

/-- GATEn is driven on, rather than held or pulled down to SRCn (R152, R429). -/
def State.gatePin (s : State) (f : Nat) : Bool := s.psdPowered && (s.feeder f).gate

/-- SGATEn is driven on, ramping or connected (R175, R429). -/
def State.sgatePin (s : State) (k : Nat) : Bool := s.psdPowered && ((s.str k).starting || (s.str k).connected)

/-- This unit pulls COG low: it holds the line or drives a pulse (R253). -/
def State.cogDriven (s : State) : Bool := !s.inReset && (s.seq.holding || s.seq.pulse != .none)

/-- The level that TMRn is driven to; none while it is an input (R306). -/
def State.tmrPin (s : State) (t : Nat) : Option Bool :=
  if s.inReset || s.par (oTimer t) Pid.Timer.OUT_MODE == 0 then none else some (s.timer t).level

/-- DBG_TRIG pulses high in the step from `s` to `t`: the step takes Tailrace's trigger sample (R432, R139). -/
def State.dbgTrig (s t : State) : Bool := !s.trace.hit && t.trace.hit

/-- A level on DBG_EN opens the debug port: where the life-cycle state, or an unlock, permits it (R432, R416, R419). -/
def State.debugOpen (s : State) (en : Bool) : Bool :=
  en && !s.inReset && s.par oLife Pid.LifeCycle.DEBUG_STATE != 0

/-- A two-wire port's SCL is held low by the device: only by the stretch of a wake (R380). -/
def State.sclHeld (s : State) (p : HostPort) : Bool := (s.port p).stretch

/-! ## Edges within a period (R97, R104) -/

/-- The on-time of a duty in fine ticks: d × T to the nearest tick, of the nominal period also where the period is lengthened (R95,
R97). -/
def State.onTicks (s : State) (p duty : Nat) : Nat := (roundDiv ((duty : Int) * s.ticksOf p) 4294967296).toNat

/-- 5 ns in fine ticks: a shorter pulse is omitted (R97). -/
abbrev minPulse : Nat := 64

/-- PWMnA `t` fine ticks into the period in progress: high from the period start for the on-time of the applied duty (R97). -/
def State.pwmA (s : State) (p t : Nat) : Bool :=
  let on := s.onTicks p (s.phase p).duty
  (s.phase p).switching && decide (minPulse ≤ on) && decide (t < on)

/-- Where in the period in progress PWMnB rises: DT_FALL after PWMnA falls, or at the start where PWMnA's pulse is omitted (R97). -/
def State.riseB (s : State) (p : Nat) : Nat :=
  let on := s.onTicks p (s.phase p).duty
  if on < minPulse then 0 else on + (s.par (oPhase p) Pid.Phase.DT_FALL).toNat

/-- Where in it PWMnB falls: DT_RISE before the next rise of PWMnA; at the end where the duty that stands in the shadow gives the
next period no such rise (R97; log entry 63). -/
def State.fallB (s : State) (p : Nat) : Nat :=
  let next := s.onTicks p (s.limitedDuty p (s.phase p).shadow)
  if next < minPulse then (s.phase p).period else (s.phase p).period - (s.par (oPhase p) Pid.Phase.DT_RISE).toNat

/-- PWMnB `t` fine ticks into the period in progress: low while SOFT_START is live; a pulse shorter than 5 ns is omitted (R97). -/
def State.pwmB (s : State) (p t : Nat) : Bool :=
  (s.phase p).switching && !(s.phase p).softStart && decide (s.riseB p + minPulse ≤ s.fallB p) &&
    decide (s.riseB p ≤ t) && decide (t < s.fallB p)

/-- The carrier that SYNCOUT follows: the synchronised group's, else that of the group of the lowest-numbered enabled phase
(R104). -/
def State.syncoutSource (s : State) : Option Nat :=
  if !(s.group s.syncNominal).isEmpty then some s.syncNominal
  else (((List.range 24).filter fun p => s.enabled (oPhase p)).head?).map s.freqOf

/-- SYNCOUT `t` fine ticks after a period start of its carrier: a 50 % square wave that rises at SYNCOUT_ANGLE; low where it is
not enabled, and in THERMAL_LATCHED and SAFE_HOLD (R104, R127). -/
def State.syncout (s : State) (t : Nat) : Bool :=
  match s.syncoutSource with
  | none => false
  | some f =>
    let T := s.carrierTicks f
    let rise := (roundDiv (s.par oDevice Pid.Device.SYNCOUT_ANGLE * T) 65536).toNat
    s.psdPowered && s.par oDevice Pid.Device.SYNCOUT_ENABLE == 1 && !s.thermalLatched && !s.safeHold &&
      decide (2 * ((t % T + T - rise) % T) < T)

end Sys2Proof.Machine
end

