-- ==== Sys2Proof/Safety.lean ====
section
/-! DEFINITION. What the claims are stated in: a safe step, the state's canonical forms, Hopper's bookkeeping, and what
an operation may change. -/

namespace Sys2Proof.Machine

/-- The step answers a next state. -/
def StepSafe (s : State) : Prop := ∃ t, step s = .next t

/-! ## Invariants -/

/-- Hopper's entries (R353): identifiers are fresh and distinct, a tag is in use once on its port, the entries number at
most 64, of which a port holds at most 56, and a port has at most one control entry. -/
structure HopperWf (h : HopperState) : Prop where
  fresh   : ∀ e ∈ h.ops, e.id < h.nextId
  apart   : h.ops.Pairwise fun a b => a.id ≠ b.id ∧ (a.port = b.port → a.tag ≠ b.tag)
  entries : h.ops.countP (fun e => !e.control) ≤ 64
  held    : ∀ p, h.ops.countP (fun e => e.port == p && !e.control) ≤ 56
  control : ∀ p, h.ops.countP (fun e => e.port == p && e.control) ≤ 1

/-- The invariant of the block: the parameter store and the MRAM are in canonical form, and Hopper's bookkeeping holds. -/
structure State.Inv (s : State) : Prop where
  store  : paramsWf s.params = true
  mram   : mramWf s.nvm.mram = true
  hopper : HopperWf s.hopper

/-! ## Footprints -/

/-- The parts of the state beside the parameter store and the queue of commands: its top-level fields, and the bytes of
the MRAM within the field `nvm`. -/
inductive Fld where
  | grist | hopper | ports | downs | pols | sats | time | timers | supply | nvm
  | upd | life | dresser | rails | seq | fantail | therms | shelf | miller | segs
  | loops | phases | wheel | flume | trace | feeders | strings | modules | auths | nonces | draws
  | mram
  deriving DecidableEq, Repr

/-- A part is the same in two states. -/
def Fld.same : Fld → State → State → Prop
  | .grist, s, t => t.grist = s.grist
  | .hopper, s, t => t.hopper = s.hopper
  | .ports, s, t => t.ports = s.ports
  | .downs, s, t => t.downs = s.downs
  | .pols, s, t => t.pols = s.pols
  | .sats, s, t => t.sats = s.sats
  | .time, s, t => t.time = s.time
  | .timers, s, t => t.timers = s.timers
  | .supply, s, t => t.supply = s.supply
  | .nvm, s, t => t.nvm = s.nvm
  | .upd, s, t => t.upd = s.upd
  | .life, s, t => t.life = s.life
  | .dresser, s, t => t.dresser = s.dresser
  | .rails, s, t => t.rails = s.rails
  | .seq, s, t => t.seq = s.seq
  | .fantail, s, t => t.fantail = s.fantail
  | .therms, s, t => t.therms = s.therms
  | .shelf, s, t => t.shelf = s.shelf
  | .miller, s, t => t.miller = s.miller
  | .segs, s, t => t.segs = s.segs
  | .loops, s, t => t.loops = s.loops
  | .phases, s, t => t.phases = s.phases
  | .wheel, s, t => t.wheel = s.wheel
  | .flume, s, t => t.flume = s.flume
  | .trace, s, t => t.trace = s.trace
  | .feeders, s, t => t.feeders = s.feeders
  | .strings, s, t => t.strings = s.strings
  | .modules, s, t => t.modules = s.modules
  | .auths, s, t => t.auths = s.auths
  | .nonces, s, t => t.nonces = s.nonces
  | .draws, s, t => t.draws = s.draws
  | .mram, s, t => t.nvm.mram = s.nvm.mram

/-- `t` is `s` but for the parts in `fs` and the parameters whose numbers are in `ps`; `none` lets every parameter
change. -/
structure Foot (fs : List Fld) (ps : Option (List Nat)) (s t : State) : Prop where
  fld : ∀ f, fs.contains f = false → f.same s t
  par : ∀ l, ps = some l → ∀ o pid, pid < 4096 → l.contains pid = false → t.par o pid = s.par o pid

/-! ## The frame of every command -/

/-- The parameters that a record may move: SOURCE_SEQ and Grist's counts and generations. -/
def recordPids : List Nat :=
  [Pid.SOURCE_SEQ, Pid.Grist.NEWEST_GEN, Pid.Grist.OLDEST_GEN, Pid.Grist.FIRST_BASE_GEN, Pid.Grist.FIRST_COUNT,
    Pid.Grist.SUPPRESSED]

/-- The parameters that an operation's packet and reply may move, its own effect apart: those of a record, and the
port's counts of operations, bytes, violations and rejections. -/
def opPids : List Nat :=
  recordPids ++ [Pid.HPort.BYTES_DISCARDED, Pid.HPort.OPS_COMPLETED, Pid.HPort.VIOLATION_COUNT, Pid.HPort.CAUTIOUS,
    Pid.HPort.LAST_VIOLATION, Pid.HPort.REJECT_DROPPED]

/-- The parts that an operation's packet and reply may move. -/
def opFlds : List Fld := [.grist, .hopper, .ports]

/-- The parts of the converters, the feeders, the strings and the walk. -/
def powerFlds : List Fld :=
  opFlds ++ [.pols, .nvm, .upd, .rails, .seq, .segs, .loops, .phases, .wheel, .flume, .trace, .feeders, .strings]

/-- Every part but the downstream ports, the satellites, the sensors and the nonces drawn for modules. -/
def everything : List Fld :=
  powerFlds ++ [.mram, .time, .timers, .supply, .life, .dresser, .fantail, .shelf, .miller, .modules, .auths, .draws]

/-- The parts of the state that a command may change. -/
def fldsOf : Instr → List Fld
  | .ping _ _ | .ident _ _ | .objState _ _ | .tailraceRead _ _ | .gristRead _ _ | .bistResult _ _ | .timeGet _ _
  | .updStatus _ _ | .lcState _ _ | .resultPoll _ _ => opFlds
  | .paramGet _ _ | .paramGetMulti _ _ | .maxLatency _ | .tMaxSeen _ _ | .wakeStretchMax _ _ | .capture _ _
    => opFlds ++ [.timers]
  | .paramSet _ _ | .operationStart | .stateRequest _ _ | .configConfirm _ _ | .shelfId _ _ | .modeRequestRun _
  | .modeRequestFloat _ | .modeRequestWatch _ | .itApply _ _ _ | .cautiousAck _ _ _ | .trackLimit _ _
  | .cogEnable _ _ | .timerCount _ _ _ | .compare _ _ _ | .prescale _ _ _ | .outMode _ _ _ => everything
  | .objEnable _ _ | .objDisable _ _ => powerFlds ++ [.dresser, .fantail, .auths]
  | .objClearLatch _ _ => opFlds ++ [.segs, .loops, .phases, .feeders, .strings]
  | .setpointSlew _ _ => opFlds ++ [.nvm, .segs, .loops]
  | .coefBankLoad _ _ => opFlds ++ [.loops, .wheel]
  | .coefBankSwap _ _ => opFlds ++ [.wheel]
  | .flumeStart _ _ => opFlds ++ [.flume, .trace]
  | .tailraceArm _ _ => opFlds ++ [.trace]
  | .gristClearNonce _ _ | .gristClear _ _ => opFlds ++ [.nvm, .draws]
  | .gristTriggerSet _ _ | .battLearnCommit _ _ | .updBlock _ _ | .reqStream _ _ _ | .doorbellSubmit _ _
  | .doorbellDiscard _ _ | .replyStream _ _ | .alertCause _ _ | .fastStatus _ _
  | .highByteLatch _ _ _ | .windowWrite _ _ _ _ => opFlds ++ [.nvm]
  | .bistRequest _ _ | .bistCancel _ _ => opFlds ++ [.dresser]
  | .battAuth _ _ => opFlds ++ [.auths]
  | .seqPowerOn _ _ | .pbPress _ | .l3Restart _ | .checkinTimeout
    => opFlds ++ [.nvm, .upd, .dresser, .seq, .miller, .loops, .wheel, .flume, .auths]
  | .seqPowerOff _ _ | .seqStep _ _ | .powerUpWalkStart | .railFault _ | .pfwTime | .cogJoinTimeout => powerFlds
  | .timeSet _ _ => opFlds ++ [.time, .nvm]
  | .updOpen _ _ | .updSchedule _ _ | .bundleVerified => opFlds ++ [.nvm, .upd]
  | .updClose _ _ => opFlds ++ [.upd]
  | .updCancel _ _ => opFlds ++ [.nvm, .upd, .seq]
  | .lcNonce _ _ | .lcTransition _ _ | .writeKey _ _ | .holdUpEnd | .nvmTransactionCommit | .watchEntry _
  | .watchReturn _ | .fullTest _ _ _ _
    => powerFlds ++ [.time, .timers, .supply, .life, .dresser, .miller, .modules, .auths, .draws, .mram]
  | .debugUnlock _ _ | .debugRelock _ _ => opFlds ++ [.life]
  | .abort _ _ => opFlds ++ [.nvm, .upd, .dresser, .seq, .loops, .wheel, .flume, .auths]
  | .cautiousExit _ | .inputLost _ _ | .ceilingLate | .mirrorLate => [.grist, .ports]
  | .clockLowTimeout _ | .tailraceDone | .laneWithdrawal _ | .adpoxonFrameRetry _ => []
  | .alertResponse _ _ | .wakeStretchRelease _ _ => [.ports]
  | .addressMatchWake _
    => opFlds ++ [.time, .supply, .nvm, .seq, .therms, .segs, .loops, .phases, .wheel, .flume, .trace, .feeders,
      .strings, .draws]
  | .timerMatch _ | .timerWrap _ => [.ports, .timers]
  | .timerCapture _ _ _ | .tmrPulseEnd _ => [.timers]
  | .debugHalt | .debugHaltRelease | .xt32Return | .xt25Return | .tickLatch _ => [.time]
  | .uhlesLinkLoss => opFlds ++ [.nvm, .segs, .loops, .phases, .wheel, .flume, .trace, .feeders, .strings]
  | .uhlesLinkRecovery _ | .psdReset | .vps12Uvlo
    => opFlds ++ [.supply, .nvm, .segs, .loops, .phases, .wheel, .flume, .trace, .feeders, .strings]
  | .pwmPeriodStart _ => [.loops, .phases]
  | .groupBoundary _ => opFlds ++ [.nvm, .loops, .phases, .wheel, .flume, .trace, .draws]
  | .sampleRequest _ _ => [.phases]
  | .innerEvaluation _ _ _ _ _
    => opFlds ++ [.nvm, .dresser, .fantail, .segs, .loops, .phases, .wheel, .flume, .trace, .feeders, .strings,
      .draws]
  | .outerTrigger _ _ _ => opFlds ++ [.nvm, .dresser, .segs, .loops, .phases, .wheel, .flume, .trace, .draws]
  | .sarRoundSlot _ _ _ => [.grist, .ports, .segs, .phases, .feeders, .strings]
  | .sarSelfCheck _ _
    => opFlds ++ [.nvm, .fantail, .segs, .loops, .phases, .wheel, .flume, .trace, .feeders, .strings]
  | .phaseFailNotice _ => [.grist, .ports, .phases]
  | .swapRegistration => opFlds ++ [.nvm, .loops, .wheel, .flume]
  | .bankLoadCommit => [.hopper, .ports, .nvm, .loops, .wheel]
  | .flumeEnd => [.hopper, .ports, .loops, .flume]
  | .segmentStart _ | .hiccupOffTimeEnd _ => [.hopper, .ports, .segs, .loops, .phases]
  | .segmentActive _ => [.segs, .phases]
  | .runUndervolt _ | .overvolt _ => opFlds ++ [.nvm, .segs, .loops, .phases, .wheel, .flume, .trace]
  | .syncinEdge _ _ | .syncinMissing => [.grist, .ports, .wheel]
  | .sluiceTick _ => opFlds ++ [.time, .timers, .loops, .flume, .trace, .feeders]
  | .seatStable _ | .insertDelay _ | .fastTrip _ _ _ => [.feeders]
  | .seatOpen _ | .faultTimer _ | .soa _ | .startTimeout _ | .ovQualify _ | .itCurve _
    => opFlds ++ [.loops, .flume, .trace, .feeders]
  | .weirProof _ _ _ => [.grist, .ports, .feeders, .strings]
  | .stringConnect _ | .dischargeReversal _ | .stringFastTrip _ _ _ => [.strings]
  | .stringSwitchTick _ _ _ => opFlds ++ [.loops, .flume, .trace, .strings, .modules]
  | .connectTimeout _ => opFlds ++ [.loops, .flume, .trace, .strings]
  | .thermalSample _ _ => powerFlds ++ [.supply, .therms, .shelf]
  | .zoneCrit _ => powerFlds ++ [.therms]
  | .zoneWarnClear _ => [.therms]
  | .thermalLatch _ => powerFlds ++ [.supply, .shelf]
  | .fantailTick _
    => opFlds ++ [.time, .timers, .supply, .nvm, .upd, .dresser, .seq, .fantail, .therms, .segs, .loops, .phases,
      .wheel, .flume, .feeders, .strings, .draws]
  | .tickOverrun => [.grist, .ports, .fantail]
  | .deferralLimit _ => opFlds ++ [.nvm, .upd, .dresser, .seq, .fantail, .strings]
  | .onDelay _ => [.pols, .rails]
  | .railQualified _ _ | .railPgHigh _ | .railDischarged _ _ => [.rails]
  | .pgTimeout _ | .railPgDrop _ | .dischargeTimeout _ => [.grist, .ports, .rails]
  | .railPoll _ _ _ => [.grist, .ports, .pols, .rails]
  | .stateWorkFinished | .cogRise | .cogLowEnd _ | .cogPulseEnd | .cogStall
    => powerFlds ++ [.dresser, .miller, .auths]
  | .cogHoldMax => [.rails, .seq]
  | .cogJoinWatch => [.seq]
  | .forceOff | .mrN => powerFlds ++ [.time, .timers, .supply, .miller]
  | .sag | .saveTrigger
    => opFlds ++ [.time, .supply, .nvm, .dresser, .segs, .loops, .phases, .wheel, .flume, .trace, .draws]
  | .vaux12Good | .vps12Return | .saveArmed => [.supply]
  | .saveCommit _ => [.supply, .nvm]
  | .saveResume => powerFlds ++ [.supply, .miller]
  | .supplyFall _ => powerFlds ++ [.time, .timers, .supply, .dresser, .shelf, .miller]
  | .controlSideBoot _
    => powerFlds ++ [.downs, .sats, .time, .timers, .supply, .life, .dresser, .fantail, .therms, .shelf, .miller,
      .modules, .auths, .draws]
  | .choldTest _ _ => [.grist, .ports, .supply, .draws]
  | .nvmPageProgram => [.hopper, .supply, .nvm, .upd]
  | .floatEntry => opFlds ++ [.nvm, .loops, .phases, .wheel, .flume]
  | .watchWake _ _ | .aonWakeTimer
    => opFlds ++ [.time, .supply, .nvm, .seq, .therms, .segs, .loops, .phases, .wheel, .flume, .trace, .feeders,
      .strings]
  | .xt32Fail | .xt25Fail | .wallSlewStep => [.grist, .ports, .time]
  | .tickJournal | .trackingJournal _ | .energyJournal | .gristMirror | .batteryJournal | .choldTestDue => [.nvm]
  | .l3RestartEnd => powerFlds ++ [.shelf, .miller, .modules]
  | .startupConfigApplied => powerFlds ++ [.dresser, .fantail, .shelf, .miller, .modules, .auths]
  | .shelfIdRead _ _
    => opFlds ++ [.downs, .pols, .nvm, .rails, .seq, .shelf, .segs, .loops, .phases, .wheel, .flume, .trace, .feeders,
      .strings]
  | .startupTimeout => powerFlds ++ [.shelf, .miller]
  | .recoveryEntry | .recoveryExit _ => powerFlds ++ [.miller]
  | .trackingWindowEnd _ _ _ _ => [.grist, .ports, .segs, .phases, .wheel, .feeders, .strings, .draws]
  | .nonceExpiry _ => [.grist, .life]
  | .scrubCodeword _ _ _ _ | .memorySliceTest _ _ _ _
    => opFlds ++ [.supply, .nvm, .upd, .life, .dresser, .seq, .fantail, .miller, .loops, .phases, .wheel, .flume,
      .trace, .auths]
  | .logicSliceTest _ _ _ => [.grist, .ports, .supply, .dresser]
  | .laneTest _ _ _ => [.grist, .ports, .dresser, .wheel]
  | .pollRound _ | .endOfFullCharge _ => [.grist, .ports, .nvm, .strings, .modules]
  | .modelUpdate => [.grist, .ports, .nvm, .strings, .modules, .draws]
  | .moduleAuth _ _ => opFlds ++ [.nvm, .strings, .modules, .auths, .nonces, .draws]
  | .responseRead _ _ => opFlds ++ [.nvm, .modules, .auths]
  | .authRetry _ => [.modules]
  | .dsFrame _ _ => [.downs, .draws]
  | .dsFrameAbandon _ => [.downs]
  | .busRecovery _ _ => opFlds ++ [.downs, .loops, .flume, .trace, .modules]
  | .polIdentify _ _ | .polPoll _ _ => [.pols]
  | .satelliteLoad _ _ => opFlds ++ [.sats, .nvm, .upd, .loops, .flume, .trace, .draws]
  | .satelliteRetry _ => [.sats]
  | .activationDue => [.upd]
  | .checkin => [.grist, .ports, .nvm, .upd]

/-- The numbers of the parameters that a command may change, of whatever object (`none`: any parameter). -/
def pidsOf : Instr → Option (List Nat)
  | .ping _ _ | .ident _ _ | .objState _ _ | .coefBankLoad _ _ | .coefBankSwap _ _ | .tailraceRead _ _
  | .gristRead _ _ | .gristClearNonce _ _ | .gristClear _ _ | .gristTriggerSet _ _ | .bistResult _ _
  | .battAuth _ _ | .battLearnCommit _ _ | .timeGet _ _ | .updBlock _ _ | .updStatus _ _ | .lcState _ _
  | .debugUnlock _ _ | .debugRelock _ _ | .resultPoll _ _ => some opPids
  | .paramGet _ _ | .paramSet _ _ | .paramGetMulti _ _ | .lcNonce _ _ | .lcTransition _ _ | .writeKey _ _
  | .operationStart | .addressMatchWake _ | .stateRequest _ _ | .configConfirm _ _ | .shelfId _ _
  | .modeRequestRun _ | .modeRequestFloat _ | .modeRequestWatch _ | .itApply _ _ _ | .cautiousAck _ _ _
  | .trackLimit _ _ | .cogEnable _ _ | .maxLatency _ | .tMaxSeen _ _ | .wakeStretchMax _ _ | .timerCount _ _ _
  | .compare _ _ _ | .prescale _ _ _ | .outMode _ _ _ | .capture _ _ | .bankLoadCommit | .fantailTick _
  | .holdUpEnd | .controlSideBoot _ | .nvmTransactionCommit | .floatEntry | .watchEntry _ | .watchWake _ _
  | .watchReturn _ | .aonWakeTimer | .startupConfigApplied | .scrubCodeword _ _ _ _ | .memorySliceTest _ _ _ _
  | .fullTest _ _ _ _ | .moduleAuth _ _ => none
  | .objEnable _ _ | .objDisable _ _
    => some (opPids ++ [0x001, 0x002, 0x006, 0x100, 0x103, 0x10C, 0x119, 0x120, 0x122, 0x123, 0x131, 0x133, 0x134,
      0x136])
  | .objClearLatch _ _ => some (opPids ++ [0x001, 0x002, 0x103, 0x10C])
  | .setpointSlew _ _ => some (opPids ++ [0x110, 0x111])
  | .flumeStart _ _ => some (opPids ++ [0x131, 0x132])
  | .tailraceArm _ _ => some (opPids ++ [0x134, 0x135, 0x137])
  | .bistRequest _ _ | .bistCancel _ _ => some (opPids ++ [0x110])
  | .seqPowerOn _ _ => some (opPids ++ [0x100, 0x103, 0x10A, 0x10B, 0x110, 0x131, 0x133])
  | .seqPowerOff _ _
    => some (opPids ++ [0x001, 0x002, 0x100, 0x119, 0x120, 0x131, 0x133, 0x134, 0x136, 0x140, 0x141, 0x145, 0x14D])
  | .seqStep _ _ | .l3RestartEnd
    => some (opPids ++ [0x001, 0x002, 0x100, 0x119, 0x120, 0x131, 0x133, 0x134, 0x136, 0x140, 0x141])
  | .timeSet _ _ => some (opPids ++ [0x163, 0x165])
  | .updOpen _ _ => some (opPids ++ [0x100, 0x103, 0x106])
  | .updClose _ _ => some (opPids ++ [0x100])
  | .updSchedule _ _ => some (opPids ++ [0x100, 0x107, 0x109])
  | .updCancel _ _ => some (opPids ++ [0x100, 0x103, 0x106, 0x107, 0x109])
  | .abort _ _ => some (opPids ++ [0x100, 0x131, 0x133])
  | .reqStream _ _ _ | .doorbellSubmit _ _ | .doorbellDiscard _ _ | .replyStream _ _ | .alertCause _ _
  | .fastStatus _ _ | .highByteLatch _ _ _ | .windowWrite _ _ _ _
    => some (recordPids ++ [0x109, 0x10B, 0x10E, 0x10F, 0x182, 0x184, 0x186, 0x187])
  | .cautiousExit _ => some (recordPids ++ [0x184])
  | .clockLowTimeout _ | .zoneWarnClear _ => some [0x10A]
  | .alertResponse _ _ => some [0x10C]
  | .wakeStretchRelease _ _ | .railQualified _ _ => some [0x10D]
  | .timerMatch _ | .timerWrap _ => some [0x101, 0x109]
  | .timerCapture _ _ _ => some [0x101, 0x109, 0x10B]
  | .debugHalt | .debugHaltRelease | .fastTrip _ _ _ | .dischargeReversal _ | .stringFastTrip _ _ _
  | .vaux12Good | .vps12Return | .nvmPageProgram | .xt32Return | .xt25Return | .tickLatch _ | .tickJournal
  | .trackingJournal _ | .energyJournal | .gristMirror | .mirrorLate | .nonceExpiry _ | .authRetry _
  | .batteryJournal | .activationDue | .saveArmed | .railPgHigh _ | .tmrPulseEnd _ | .choldTestDue => some []
  | .uhlesLinkLoss | .psdReset
    => some (recordPids ++ [0x001, 0x100, 0x103, 0x131, 0x133, 0x134, 0x136, 0x140, 0x181, 0x18F])
  | .uhlesLinkRecovery _
    => some (recordPids ++ [0x001, 0x002, 0x100, 0x119, 0x120, 0x131, 0x133, 0x134, 0x136, 0x181])
  | .pwmPeriodStart _ | .insertDelay _ | .stringConnect _ | .satelliteRetry _ => some [0x001]
  | .groupBoundary _ => some (recordPids ++ [0x001, 0x100, 0x11C, 0x122, 0x123, 0x131, 0x133, 0x134, 0x136, 0x181])
  | .sampleRequest _ _ => some [0x18F]
  | .innerEvaluation _ _ _ _ _
    => some (recordPids ++ [0x001, 0x002, 0x100, 0x106, 0x107, 0x109, 0x110, 0x113, 0x114, 0x115, 0x11D, 0x131, 0x133,
      0x134, 0x136, 0x140, 0x181, 0x18F])
  | .outerTrigger _ _ _
    => some (recordPids ++ [0x001, 0x002, 0x100, 0x103, 0x106, 0x107, 0x109, 0x10C, 0x110, 0x113, 0x131, 0x133, 0x134,
      0x136, 0x140, 0x181])
  | .sarRoundSlot _ _ _ => some (recordPids ++ [0x183, 0x184, 0x185, 0x18F])
  | .sarSelfCheck _ _
    => some (recordPids ++ [0x001, 0x002, 0x100, 0x11D, 0x131, 0x133, 0x134, 0x136, 0x140, 0x181, 0x183, 0x184, 0x185,
      0x18F])
  | .phaseFailNotice _ => some (recordPids ++ [0x11E])
  | .swapRegistration => some (recordPids ++ [0x100, 0x131, 0x133, 0x181])
  | .flumeEnd => some [0x131, 0x133, 0x181]
  | .tailraceDone => some [0x134]
  | .segmentStart _ | .hiccupOffTimeEnd _ => some [0x001, 0x10C, 0x181]
  | .segmentActive _ => some [0x001, 0x103]
  | .runUndervolt _ | .overvolt _
    => some (recordPids ++ [0x001, 0x002, 0x100, 0x103, 0x131, 0x133, 0x134, 0x136, 0x181])
  | .syncinEdge _ _ | .syncinMissing => some (recordPids ++ [0x122, 0x123, 0x126])
  | .sluiceTick _ => some (recordPids ++ [0x001, 0x002, 0x109, 0x119, 0x11A, 0x11B, 0x131, 0x133, 0x181])
  | .seatStable _ => some [0x001, 0x002]
  | .seatOpen _ => some (recordPids ++ [0x001, 0x002, 0x119, 0x11B, 0x131, 0x133, 0x181])
  | .faultTimer _ | .soa _ | .startTimeout _ | .ovQualify _ | .itCurve _
    => some (recordPids ++ [0x001, 0x002, 0x119, 0x131, 0x133, 0x181])
  | .weirProof _ _ _ => some (recordPids ++ [0x112, 0x114, 0x115, 0x116, 0x117])
  | .stringSwitchTick _ _ _ => some (recordPids ++ [0x001, 0x002, 0x10D, 0x120, 0x131, 0x133, 0x181])
  | .connectTimeout _ => some (recordPids ++ [0x001, 0x002, 0x120, 0x131, 0x133, 0x181])
  | .thermalSample _ _
    => some (recordPids ++ [0x001, 0x002, 0x100, 0x103, 0x107, 0x10E, 0x119, 0x120, 0x131, 0x133, 0x134, 0x136, 0x140,
      0x141, 0x181])
  | .zoneCrit _
    => some (recordPids ++ [0x001, 0x002, 0x100, 0x10A, 0x10E, 0x119, 0x120, 0x131, 0x133, 0x134, 0x136, 0x140, 0x141,
      0x145, 0x14D, 0x181])
  | .thermalLatch _
    => some (recordPids ++ [0x001, 0x002, 0x100, 0x103, 0x10E, 0x119, 0x120, 0x131, 0x133, 0x134, 0x136, 0x140, 0x141,
      0x181])
  | .tickOverrun => some (recordPids ++ [0x10B])
  | .inputLost _ _ => some (recordPids ++ [0x124])
  | .deferralLimit _ => some (recordPids ++ [0x003, 0x100, 0x107, 0x109, 0x181])
  | .powerUpWalkStart | .cogJoinTimeout | .saveResume | .startupTimeout | .recoveryEntry | .recoveryExit _
    => some (recordPids ++ [0x001, 0x002, 0x100, 0x10E, 0x119, 0x120, 0x131, 0x133, 0x134, 0x136, 0x140, 0x141,
      0x181])
  | .onDelay _ => some [0x100, 0x108]
  | .pgTimeout _ | .dischargeTimeout _ | .logicSliceTest _ _ _ => some (recordPids ++ [0x100])
  | .railPgDrop _ => some (recordPids ++ [0x100, 0x109, 0x10E])
  | .railFault _
    => some (recordPids ++ [0x001, 0x002, 0x100, 0x10E, 0x119, 0x120, 0x131, 0x133, 0x134, 0x136, 0x140, 0x141, 0x145,
      0x14D, 0x181])
  | .railPoll _ _ _ => some (recordPids ++ [0x100, 0x103, 0x109, 0x10E])
  | .stateWorkFinished
    => some (recordPids ++ [0x001, 0x002, 0x100, 0x103, 0x10A, 0x10B, 0x10E, 0x110, 0x119, 0x120, 0x131, 0x133, 0x134,
      0x136, 0x140, 0x141, 0x181])
  | .pfwTime
    => some (recordPids ++ [0x001, 0x002, 0x100, 0x10E, 0x119, 0x120, 0x131, 0x133, 0x134, 0x136, 0x140, 0x141, 0x145,
      0x181])
  | .cogRise
    => some (recordPids ++ [0x001, 0x002, 0x100, 0x103, 0x10A, 0x10B, 0x10E, 0x110, 0x119, 0x120, 0x131, 0x133, 0x134,
      0x136, 0x140, 0x141, 0x145, 0x181])
  | .cogLowEnd _ | .cogPulseEnd
    => some (recordPids ++ [0x001, 0x002, 0x100, 0x103, 0x10A, 0x10B, 0x10E, 0x110, 0x119, 0x120, 0x131, 0x133, 0x134,
      0x136, 0x140, 0x141, 0x144, 0x145, 0x14D, 0x181])
  | .cogHoldMax => some [0x100, 0x141, 0x144]
  | .cogStall
    => some (recordPids ++ [0x001, 0x002, 0x100, 0x103, 0x10A, 0x10B, 0x10E, 0x110, 0x119, 0x120, 0x131, 0x133, 0x134,
      0x136, 0x140, 0x141, 0x144, 0x181])
  | .cogJoinWatch => some [0x141]
  | .pbPress _ => some (recordPids ++ [0x100, 0x103, 0x10A, 0x10B, 0x110, 0x131, 0x133, 0x14C, 0x181])
  | .forceOff | .mrN | .supplyFall _
    => some (recordPids ++ [0x001, 0x100, 0x103, 0x10E, 0x131, 0x133, 0x134, 0x136, 0x14D, 0x181])
  | .sag => some (recordPids ++ [0x001, 0x100, 0x103, 0x131, 0x133, 0x134, 0x136, 0x150, 0x156, 0x181])
  | .saveTrigger | .vps12Uvlo => some (recordPids ++ [0x001, 0x100, 0x103, 0x131, 0x133, 0x134, 0x136, 0x181])
  | .saveCommit _ => some [0x150, 0x151, 0x152, 0x153]
  | .choldTest _ _ => some (recordPids ++ [0x14E, 0x14F, 0x150])
  | .xt32Fail => some (recordPids ++ [0x160, 0x168])
  | .xt25Fail => some (recordPids ++ [0x160, 0x167])
  | .ceilingLate => some (recordPids ++ [0x160])
  | .wallSlewStep => some (recordPids ++ [0x163])
  | .l3Restart _ | .checkinTimeout => some (recordPids ++ [0x100, 0x103, 0x10A, 0x10B, 0x110, 0x131, 0x133, 0x181])
  | .shelfIdRead _ _
    => some (recordPids ++ [0x001, 0x100, 0x103, 0x106, 0x107, 0x10E, 0x131, 0x133, 0x134, 0x136, 0x140, 0x141,
      0x181])
  | .trackingWindowEnd _ _ _ _ => some (recordPids ++ [0x182, 0x18F, 0x804, 0x805])
  | .laneWithdrawal _ => some [0x110]
  | .laneTest _ _ _ => some (recordPids ++ [0x100, 0x110])
  | .pollRound _ => some (recordPids ++ [0x001, 0x100, 0x111])
  | .adpoxonFrameRetry _ => some [0x103]
  | .modelUpdate
    => some (recordPids ++ [0x001, 0x103, 0x106, 0x107, 0x109, 0x10A, 0x10B, 0x10C, 0x10D, 0x10E, 0x10F, 0x110,
      0x112])
  | .endOfFullCharge _ => some (recordPids ++ [0x106, 0x109, 0x110])
  | .responseRead _ _ => some (recordPids ++ [0x103, 0x107, 0x181])
  | .dsFrame _ _ => some [0x102, 0x103, 0x104, 0x105, 0x106]
  | .dsFrameAbandon _ => some [0x102, 0x104]
  | .busRecovery _ _ => some (recordPids ++ [0x001, 0x002, 0x100, 0x107, 0x131, 0x133, 0x181])
  | .polIdentify _ _ => some [0x106, 0x107, 0x108]
  | .polPoll _ _ => some [0x104, 0x105, 0x108]
  | .satelliteLoad _ _ => some (recordPids ++ [0x001, 0x002, 0x100, 0x103, 0x131, 0x133, 0x181])
  | .bundleVerified => some (recordPids ++ [0x100, 0x10C, 0x181])
  | .checkin => some (recordPids ++ [0x100, 0x103, 0x10A, 0x10B, 0x154])
  | .railDischarged _ _ => some [0x10E]

end Sys2Proof.Machine
end

