-- ==== Sys2Proof/Certificates/Slice0/Obligations.lean ====
section
/-! DEFINITION. The statements about the block. -/

/-! ## Words that the statements share -/

namespace Sys2Proof.Machine

/-- The command answers a next state of which `P` holds. -/
def Runs (c : Instr) (s : State) (P : State → Prop) : Prop := ∃ t, exec c s = .next t ∧ P t

/-- Hopper takes the request, and its port is enabled, so that its reply is kept (R27, R351, R353, R363). -/
structure Accepts (s : State) (r : Req) (opcode : Nat) (payload : Bytes) : Prop where
  serves  : s.hopperServes r.port = true
  awake   : s.miller.restarting = false
  fits    : payload.length ≤ 272
  checked : s.frameFail r.port opcode r.tag.toNat = none
  enabled : s.enabled (oPort r.port) = true

/-- The operation that an accepted request becomes. -/
def theOp (s : State) (r : Req) (opcode : Nat) (payload : Bytes) : Op :=
  s.newOp r.port opcode (reqTagPrio r) r.alert payload

/-- The state in which the request's own checks run: its operation has its entry. -/
def Taken (s : State) (r : Req) (opcode : Nat) (payload : Bytes) : State := s.takeOp (theOp s r opcode payload)

/-- The newest reply on the request's port is the request's, echoing its opcode and TAG_PRIO (R349). -/
def Replied (s t : State) (r : Req) (opcode status reason : Nat) (payload : Bytes) : Prop :=
  (t.port r.port).replies.getLast? =
    some { op := some s.hopper.nextId, opcode := opcode, tagPrio := reqTagPrio r, reject := false,
           status := status, reason := reason, payload := payload }

/-- The request's operation holds its entry and waits, RUNNING (R354). -/
def Waits (s t : State) : Prop := ∃ e ∈ t.hopper.ops, e.id = s.hopper.nextId ∧ e.stage = .running

end Sys2Proof.Machine

open Sys2Proof Sys2Proof.Machine

/-! ## The queue, the outcomes and the invariants -/

/-- A step runs the command at the front of the queue on the state without it. With no command waiting the block idles
(the model's choice, log entry 1). -/
def Obligations.StepRunsFrontCommand : Prop :=
  (∀ (c : Instr) (rest : List Instr) (s : State),
     step { s with pending := c :: rest } = exec c { s with pending := rest }) ∧
  (∀ s : State, s.pending = [] → step s = .next s)

/-- No command ends in a fault or a refusal. -/
def Obligations.EveryCommandCompletes : Prop := ∀ (c : Instr) (s : State), ∃ t, exec c s = .next t

/-- A step takes exactly the front command off the queue: no command sends a command. -/
def Obligations.StepTakesOnlyTheFront : Prop := ∀ s t : State, step s = .next t → t.pending = s.pending.tail

/-- Every step keeps the invariant: canonical parameter store, canonical MRAM, Hopper's entries and tags. -/
def Obligations.StepKeepsInvariant : Prop := ∀ s t : State, s.Inv → step s = .next t → t.Inv

/-- The invariant holds right after reset. -/
def Obligations.ResetHasInvariant : Prop := State.reset.Inv

/-- What reset leaves: tick 0, shelf state STARTUP, device mode RUN, nothing latched, nothing waiting, and every
parameter but those that the STARTUP record of log entry 9 has moved at the Reset value of its table. -/
def Obligations.ResetLeaves : Prop :=
  State.reset.time.tick = 0 ∧ State.reset.shelfState = ssStartup ∧ State.reset.deviceMode = 0 ∧
  State.reset.hopper.ops = [] ∧ State.reset.pending = [] ∧ State.reset.nvm.mram = [] ∧
  (∀ f < 16, (State.reset.feeder f).gate = false) ∧
  ∀ o pid, pid < 4096 →
    (o, pid) ∉ [(oShelf, Pid.SOURCE_SEQ), (oGrist, Pid.Grist.NEWEST_GEN), (oGrist, Pid.Grist.OLDEST_GEN),
      (oGrist, Pid.Grist.FIRST_BASE_GEN), (oGrist, Pid.Grist.FIRST_COUNT)] →
    State.reset.par o pid = paramReset o pid

/-! ## Hopper and the opcodes -/

/-- PING echoes its payload; IDENT, OBJ_STATE, TIME_GET, UPD_STATUS and LC_STATE answer OK with the payloads of their
tables. A payload of a wrong length is answered BAD_LENGTH with reason 1, for these six, SETPOINT_SLEW and BATT_AUTH; a
reserved byte of OBJ_STATE that is not 0 BAD_PARAM, and a reserved object BAD_OBJECT. -/
def Obligations.QueriesReply : Prop :=
  (∀ (s : State) (r : Req),
   (∀ p, p.length ≤ 16 → Accepts s r 0x01 p → Runs (.ping r p) s fun t => Replied s t r 0x01 stOK 0 p) ∧
   (Accepts s r 0x02 [] → Runs (.ident r []) s fun t => Replied s t r 0x02 stOK 0 (s.identPayload r.port)) ∧
   (∀ o : Byte, objReserved o.toNat = false → Accepts s r 0x20 [o, 0, 0, 0] →
     Runs (.objState r [o, 0, 0, 0]) s fun t =>
       let x := Taken s r 0x20 [o, 0, 0, 0]
       Replied s t r 0x20 stOK 0
         (leBytes 1 o.toNat ++ leBytes 1 (x.read o.toNat Pid.OBJ_TYPE) ++ leBytes 1 (x.read o.toNat Pid.OBJ_STATE) ++
           leBytes 1 (x.read o.toNat Pid.PRIORITY) ++ leBytes 4 (x.read o.toNat Pid.FAULT_LATCH) ++
           leBytes 4 (x.read o.toNat Pid.SERVICE_STATUS) ++ leBytes 4 (x.read o.toNat Pid.SOURCE_SEQ))) ∧
   (∀ o x y z : Byte, ¬ (x = 0 ∧ y = 0 ∧ z = 0) → Accepts s r 0x20 [o, x, y, z] →
     Runs (.objState r [o, x, y, z]) s fun t => Replied s t r 0x20 stBAD_PARAM 2 []) ∧
   (∀ o : Byte, objReserved o.toNat = true → Accepts s r 0x20 [o, 0, 0, 0] →
     Runs (.objState r [o, 0, 0, 0]) s fun t => Replied s t r 0x20 stBAD_OBJECT 3 []) ∧
   (Accepts s r 0x81 [] → Runs (.timeGet r []) s fun t => Replied s t r 0x81 stOK 0
       (leBytes 8 s.time.tick ++ leBytes 8 s.wallNow ++ leBytes 2 (s.read oDevice Pid.Device.CLOCK_STATUS) ++
         leBytes 1 (s.par oDevice Pid.Device.TICK_SOURCE) ++ [0] ++ leBytes 4 s.slewLeft)) ∧
   (Accepts s r 0x94 [] → Runs (.updStatus r []) s fun t =>
       let u (pid n : Nat) : Bytes := leBytes n (s.read oUpdater pid)
       Replied s t r 0x94 stOK 0
         (u Pid.Updater.UPD_STATE 1 ++ u Pid.Updater.RUNNING_BANK 1 ++ u Pid.Updater.BANK_A_STATE 1 ++
           u Pid.Updater.BANK_B_STATE 1 ++ u Pid.Updater.SESSION_ID 2 ++ u Pid.Updater.LAST_UPD_RESULT 1 ++
           u Pid.Updater.TRIAL_FAILS 1 ++ u Pid.Updater.BYTES_RECEIVED 4 ++ u Pid.Updater.STAGED_VERSION 4 ++
           u Pid.Updater.SCHED_MODE 1 ++ u Pid.Updater.SCHED_COG_STATE 1 ++ [0, 0] ++
           u Pid.Updater.CHECKIN_LEFT 4 ++ u Pid.Updater.SCHED_WALL 8)) ∧
   (Accepts s r 0xA0 [] → Runs (.lcState r []) s fun t => Replied s t r 0xA0 stOK 0
       (leBytes 1 s.lcState ++ leBytes 1 (s.par oLife Pid.LifeCycle.DEBUG_STATE) ++
         leBytes 1 (s.par oLife Pid.LifeCycle.KEY_STATUS) ++ [0] ++ leBytes 4 (s.par oLife Pid.LifeCycle.ROLLBACK_FLOOR)))) ∧
  (∀ (s : State) (r : Req) (p : Bytes),
   let short (c : Instr) (op : Nat) : Prop := Accepts s r op p → Runs c s fun t => Replied s t r op stBAD_LENGTH 1 []
   (p.length > 16 → short (.ping r p) 0x01) ∧
   (p.length ≠ 0 → short (.ident r p) 0x02 ∧ short (.timeGet r p) 0x81 ∧ short (.updStatus r p) 0x94 ∧
     short (.lcState r p) 0xA0) ∧
   (p.length ≠ 4 → short (.objState r p) 0x20) ∧
   (p.length ≠ 12 → short (.setpointSlew r p) 0x30) ∧
   (p.length ≠ 8 → short (.battAuth r p) 0x60))

/-- The bytes of a PARAM_GET of one parameter. -/
def getBytes (o pid : Nat) : Bytes := leBytes 1 o ++ [0] ++ leBytes 2 pid

/-- The rows that read one parameter answer with its entry. MAX_LATENCY, T_MAX_SEEN and WAKE_STRETCH_MAX read 0 afterwards; CAPTURE
takes the oldest capture from its queue; COUNT of a linked even timer latches the odd timer's count in HIGH_SHADOW. -/
def Obligations.SingleReadsAnswer : Prop := ∀ (s : State) (r : Req),
  let reads (c : Instr) (o pid : Nat) (P : State → Prop) : Prop := ∀ d, findDesc o pid = some d →
    Accepts s r 0x10 (getBytes o pid) → Runs c s fun t =>
      Replied s t r 0x10 stOK 0 ((Taken s r 0x10 (getBytes o pid)).paramEntry o d) ∧ P t
  (reads (.maxLatency r) oDevice Pid.Device.MAX_LATENCY fun t => t.par oDevice Pid.Device.MAX_LATENCY = 0) ∧
  (∀ n : Fin 16, reads (.tMaxSeen r n) (oTherm n.val) Pid.Thermal.T_MAX_SEEN fun t =>
    t.par (oTherm n.val) Pid.Thermal.T_MAX_SEEN = 0) ∧
  (∀ p : HostPort, reads (.wakeStretchMax r p) (oPort p) Pid.HPort.WAKE_STRETCH_MAX fun t =>
    t.par (oPort p) Pid.HPort.WAKE_STRETCH_MAX = 0) ∧
  (∀ n : Fin 8, reads (.capture r n) (oTimer n.val) Pid.Timer.CAPTURE fun t =>
    (t.timer n.val).queue = (s.timer n.val).queue.drop 1) ∧
  (∀ n : Fin 8, reads (.timerCount r n none) (oTimer n.val) Pid.Timer.COUNT fun t =>
    n.val % 2 = 0 → s.par (oTimer n.val) Pid.Timer.LINK = 1 →
      t.par (oTimer (n.val + 1)) Pid.Timer.HIGH_SHADOW = s.par (oTimer (n.val + 1)) Pid.Timer.COUNT)

/-- PARAM_GET answers with the parameter's entry and takes the effect of reading it: an RC parameter is cleared, the
oldest capture leaves its queue. PARAM_GET_MULTI of one entry answers with the count, the number read and the entry.
-/
def Obligations.ParamGetReads : Prop :=
  (∀ (s : State) (r : Req) (o pid : Nat) (d : Desc),
   o < 256 → objReserved o = false → findDesc o pid = some d → pid < 4096 → Accepts s r 0x10 (getBytes o pid) →
   Runs (.paramGet r (getBytes o pid)) s fun t =>
     Replied s t r 0x10 stOK 0 ((Taken s r 0x10 (getBytes o pid)).paramEntry o d) ∧
     (d.acc = .rc → (∀ n < 8, (o, pid) ≠ (oTimer n, Pid.Timer.CAPTURE)) → t.par o pid = 0) ∧
     (∀ n < 8, o = oTimer n → pid = Pid.Timer.CAPTURE → (t.timer n).queue = (s.timer n).queue.drop 1)) ∧
  (∀ (s : State) (r : Req) (o pid : Nat) (d : Desc),
   o < 256 → objReserved o = false → findDesc o pid = some d → pid < 4096 →
   Accepts s r 0x12 ([1, 0, 0, 0] ++ getBytes o pid) →
   Runs (.paramGetMulti r ([1, 0, 0, 0] ++ getBytes o pid)) s fun t =>
     Replied s t r 0x12 stOK 0 ([1, 1, 0, 0] ++ (Taken s r 0x12 ([1, 0, 0, 0] ++ getBytes o pid)).paramEntry o d))

/-- The commands that write one parameter, and the PARAM_SET that each of them is: object, parameter, size and value. -/
def paramWrite : Instr → Option (Req × Nat × Nat × Nat × Int)
  | .stateRequest r v => some (r, oShelf, Pid.Shelf.STATE_REQUEST, 1, v.toNat)
  | .configConfirm r v => some (r, oShelf, Pid.Shelf.CONFIG_CONFIRM, 4, v.toNat)
  | .shelfId r v => some (r, oShelf, Pid.Shelf.SHELF_ID, 4, v.toNat)
  | .modeRequestRun r => some (r, oDevice, Pid.Device.MODE_REQUEST, 1, 0)
  | .modeRequestFloat r => some (r, oDevice, Pid.Device.MODE_REQUEST, 1, 1)
  | .modeRequestWatch r => some (r, oDevice, Pid.Device.MODE_REQUEST, 1, 2)
  | .itApply r f v => some (r, oFeeder f.val, Pid.Feeder.IT_APPLY, 1, v.toNat)
  | .cautiousAck r p v => some (r, oPort p, Pid.HPort.CAUTIOUS_ACK, 1, v.toNat)
  | .trackLimit r ch => some (r, sarObj ch, pSenseStatus, 2, 1024)
  | .cogEnable r v => some (r, oShelf, Pid.Shelf.COG_ENABLE, 1, v.toNat)
  | .timerCount r n (some v) => some (r, oTimer n.val, Pid.Timer.COUNT, 4, v.toNat)
  | .compare r n v => some (r, oTimer n.val, Pid.Timer.COMPARE, 4, v.toNat)
  | .prescale r n v => some (r, oTimer n.val, Pid.Timer.PRESCALE, 1, v.toNat)
  | .outMode r n v => some (r, oTimer n.val, Pid.Timer.OUT_MODE, 1, v.toNat)
  | _ => none

/-- The value is one that the parameter's encoding carries, with its reserved bits 0. -/
def carries (o : Nat) (d : Desc) (v : Int) : Prop :=
  maskValue o d.pid (setValue d (setBytes o d.pid d.enc.size v)) = v

/-- An access to a reserved object, to a parameter that the object does not have, or with a value out of range is
answered with the status of R8, and one of a calibration parameter outside TEST and MAINT with LOCKED; but for the
packet's and the reply's own traces nothing changes. PARAM_SET whose checks pass writes the parameter, with all that
the write does, and answers OK with the entry as it then reads. A write of a W1C parameter clears the bits written as
1, and one of an RW parameter of a segment, outer loop, feeder, rail, stage, sensor or downstream port, ENABLE and
PRIORITY apart, is its new value. -/
def Obligations.ParamSetWrites : Prop :=
  (∀ (s : State) (r : Req) (o pid : Nat), o < 256 → pid < 4096 →
   let answered (c : Instr) (op st : Nat) : Prop :=
     Runs c s fun t => (∃ n, Replied s t r op st n []) ∧ Foot opFlds (some opPids) s t
   let reads (st : Nat) : Prop :=
     Accepts s r 0x10 (getBytes o pid) → answered (.paramGet r (getBytes o pid)) 0x10 st
   let writes (st size : Nat) (v : Int) : Prop :=
     Accepts s r 0x11 (setBytes o pid size v) → answered (.paramSet r (setBytes o pid size v)) 0x11 st
   (objReserved o = true → reads stBAD_OBJECT ∧ ∀ size ∈ [1, 2, 4, 8], ∀ v, writes stBAD_OBJECT size v) ∧
   (objReserved o = false → findDesc o pid = none →
     reads stBAD_PARAM ∧ ∀ size ∈ [1, 2, 4, 8], ∀ v, writes stBAD_PARAM size v) ∧
   (∀ (d : Desc) (v : Int), objReserved o = false → findDesc o pid = some d → carries o d v →
     (d.acc ≠ .ro → d.acc ≠ .rc → (Taken s r 0x11 (setBytes o pid d.enc.size v)).writeLocked r.port o d v = false →
       inRange o d v = false → writes stRANGE d.enc.size v) ∧
     (pid ∈ [pGainUser, pOffsetUser, pSenseRnom] → objType o ∈ [ObjType.segment, .phase, .feeder, .string] →
       s.shelfState ≠ ssTest → s.shelfState ≠ ssMaint → writes stLOCKED d.enc.size v))) ∧
  ((∀ (s : State) (o : Nat) (d : Desc) (v : Int) (b : Nat), d.acc = .w1c → d.pid < 4096 → 0 ≤ s.par o d.pid → b < 16 →
     (s.writeParam o d v).bit o d.pid b = (s.bit o d.pid b && !v.toNat.testBit b)) ∧
   (∀ (s : State) (o pid : Nat) (d : Desc) (v : Int), findDesc o pid = some d → d.acc = .rw → pid < 4096 →
     objType o ∈ [ObjType.segment, .outerLoop, .feeder, .rail, .pol, .thermal, .downPort] →
     pid ≠ Pid.ENABLE → pid ≠ Pid.PRIORITY → (s.writeParam o d v).par o pid = v) ∧
   ∀ (s : State) (r : Req) (o pid : Nat) (d : Desc) (v : Int),
     o < 256 → objReserved o = false → findDesc o pid = some d → pid < 4096 → carries o d v →
     Accepts s r 0x11 (setBytes o pid d.enc.size v) →
     (Taken s r 0x11 (setBytes o pid d.enc.size v)).setCheck r.port o d v = none →
     exec (.paramSet r (setBytes o pid d.enc.size v)) s =
       let w := ((Taken s r 0x11 (setBytes o pid d.enc.size v)).opCommit s.hopper.nextId).writeParam o d v
       .next (w.ok (theOp s r 0x11 (setBytes o pid d.enc.size v)) (w.paramEntry o d)))

/-- A command that writes one parameter does what the PARAM_SET of it does. The parameter rows that PARAM_SET accepts
complete: the value is written with its effect, and the reply is OK. -/
def Obligations.ParameterRowsAreParamSet : Prop :=
  (∀ (c : Instr) (r : Req) (o pid size : Nat) (v : Int) (s : State), paramWrite c = some (r, o, pid, size, v) →
     exec c s = exec (.paramSet r (setBytes o pid size v)) s) ∧
  (∀ (c : Instr) (r : Req) (o pid size : Nat) (v : Int) (s : State) (d : Desc),
     paramWrite c = some (r, o, pid, size, v) → findDesc o pid = some d → maskValue o pid v = v →
     Accepts s r 0x11 (setBytes o pid size v) →
     (Taken s r 0x11 (setBytes o pid size v)).setCheck r.port o d v = none →
     Runs c s fun t =>
       t = (((Taken s r 0x11 (setBytes o pid size v)).opCommit s.hopper.nextId).writeParam o d v).ok
         (theOp s r 0x11 (setBytes o pid size v))
         ((((Taken s r 0x11 (setBytes o pid size v)).opCommit s.hopper.nextId).writeParam o d v).paramEntry o d))

/-- OBJ_ENABLE sets ENABLE of an object that is disabled and may be enabled, and OBJ_DISABLE clears it; each answers
OK. SHELF, DEVICE, GRIST, DRESSER, UPDATER, LIFECYCLE and FANTAIL cannot be disabled: their ENABLE reads 1 and is
read-only, and OBJ_DISABLE of one is LOCKED. OBJ_CLEAR_LATCH clears FAULT_LATCH of a LATCHED or FAILED object of a
clearable type, and answers with the latch as it stood. A feeder, string or segment then waits. -/
def Obligations.ObjectsChange : Prop :=
  (∀ (s : State) (r : Req) (o : Byte),
   (∀ x ∈ [oShelf, oDevice, oGrist, oDresser, oUpdater, oLife, oFantail],
     s.read x Pid.ENABLE = 1 ∧ (findDesc x Pid.ENABLE).map Desc.acc = some .ro ∧
     (Accepts s r 0x22 [BitVec.ofNat 8 x, 0, 0, 0] → Runs (.objDisable r [BitVec.ofNat 8 x, 0, 0, 0]) s fun t =>
       t.read x Pid.ENABLE = 1 ∧ Replied s t r 0x22 stLOCKED 4 [])) ∧ (
   objReserved o.toNat = false → alwaysEnabled o.toNat = false → objType o.toNat ≠ .module → s.thermalLatched = false →
   (objType o.toNat = .timer → s.linkedOdd o.toNat = false) →
   (s.enabled o.toNat = false → (objType o.toNat = .phase → (s.setPar o.toNat Pid.ENABLE 1).groupsOk = true) →
     Accepts s r 0x21 [o, 0, 0, 0] → Runs (.objEnable r [o, 0, 0, 0]) s fun t =>
       t.par o.toNat Pid.ENABLE = 1 ∧ ∃ b, Replied s t r 0x21 stOK 0 b) ∧
   (s.enabled o.toNat = true → o.toNat ≠ oPort r.port →
     Accepts s r 0x22 [o, 0, 0, 0] → Runs (.objDisable r [o, 0, 0, 0]) s fun t =>
       t.par o.toNat Pid.ENABLE = 0 ∧ ∃ b, Replied s t r 0x22 stOK 0 b))) ∧
  (∀ (s : State) (r : Req) (o : Byte),
   objReserved o.toNat = false → clearable o.toNat = true → s.thermalLatched = false →
   (let x := Taken s r 0x23 [o, 0, 0, 0]
    (x.objNow o.toNat = osLatched ∨ x.objNow o.toNat = osFailed) ∧ x.clearRefused o.toNat = false) →
   Accepts s r 0x23 [o, 0, 0, 0] → Runs (.objClearLatch r [o, 0, 0, 0]) s fun t =>
     t.par o.toNat Pid.FAULT_LATCH = 0 ∧
     (objType o.toNat ∈ [ObjType.feeder, .string, .segment] → t.objSt o.toNat = osWaiting) ∧
     Replied s t r 0x23 stOK 0 (leBytes 1 o.toNat ++ [1, 0, 0] ++ leBytes 4 (s.par o.toNat Pid.FAULT_LATCH)))

/-- SETPOINT_SLEW sets the target and the rate; in a segment that runs it begins the slew and waits for its end, in another it is
answered OK at once. COEF_BANK_LOAD and COEF_BANK_SWAP enter their work, and wait for it. -/
def Obligations.LoopOperationsStart : Prop := ∀ (s : State) (r : Req) (p : Bytes),
  (let o := byteAt p 0
   p.length = 12 → objType o = .outerLoop → 0 ≤ fieldS p 4 4 → fieldS p 4 4 ≤ 6500000 → 100 ≤ fieldU p 8 4 →
   fieldU p 8 4 ≤ 1000000 → s.shelfState ≠ ssBraking → s.thermalLatched = false →
   (Taken s r 0x30 p).objNow o ≠ osSafeHold → (s.loop (24 + (o - 8))).slewing = false → Accepts s r 0x30 p →
   Runs (.setpointSlew r p) s fun t =>
     t.par o Pid.Loop.SETPOINT_TARGET = fieldS p 4 4 ∧ t.par o Pid.Loop.SLEW_RATE = fieldU p 8 4 ∧
     (s.segRuns (s.loopSeg (o - 8)) = true → (t.loop (24 + (o - 8))).slewing = true ∧
       (t.loop (24 + (o - 8))).slewOp = some s.hopper.nextId ∧ Waits s t) ∧
     (s.segRuns (s.loopSeg (o - 8)) = false → ∃ b, Replied s t r 0x30 stOK 0 b)) ∧
  (Accepts s r 0x31 p → (Taken s r 0x31 p).bankLoadCheck p = none → Runs (.coefBankLoad r p) s fun t =>
     t.wheel.loads = s.wheel.loads ++ [⟨some s.hopper.nextId, loopNo (byteAt p 0), byteAt p 1, slice p 4 52⟩] ∧
     (t.loop (loopNo (byteAt p 0))).bank (byteAt p 1) = none ∧ Waits s t) ∧
  (Accepts s r 0x32 p → (Taken s r 0x32 p).bankSwapCheck p = none → Runs (.coefBankSwap r p) s fun t =>
     t.wheel.swaps = s.wheel.swaps ++ [
       { op := some s.hopper.nextId, mask := fieldU p 0 4, mode := byteAt p 4, align := loopNo (byteAt p 5)
         registered := false, aligned := false
         left := (List.range 32).filter fun n => (fieldU p 0 4).testBit n }] ∧ t.loops = s.loops ∧ Waits s t)

/-- FLUME_START starts a measurement, and waits. TAILRACE_ARM arms a capture with a new number, or with no channel puts Tailrace to
IDLE; it discards the stored rows and is answered with the capture's number and depth. TAILRACE_READ answers the rows asked for. -/
def Obligations.BenchOperationsStart : Prop := ∀ (s : State) (r : Req) (p : Bytes),
  (Accepts s r 0x38 p → (Taken s r 0x38 p).flumeCheck p = none → Runs (.flumeStart r p) s fun t =>
     t.flume.running = true ∧ t.flume.loop = loopNo (byteAt p 0) ∧ t.flume.payload = p ∧ t.flume.k = 0 ∧
     t.par oDevice Pid.Device.FLUME_TARGET = byteAt p 0 ∧ t.par oDevice Pid.Device.FLUME_STATE ≠ 0 ∧ Waits s t) ∧
  (Accepts s r 0x39 p → (Taken s r 0x39 p).traceCheck p = none → Runs (.tailraceArm r p) s fun t =>
     t.trace.rows = [] ∧ t.trace.config = p ∧
     t.par oDevice Pid.Device.TAILRACE_DEPTH = traceDepth (byteAt p 1) ∧
     (byteAt p 1 ≠ 0 → t.par oDevice Pid.Device.TAILRACE_STATE = tsARMED ∧
       (s.par oDevice Pid.Device.TAILRACE_CAPTURE_ID < 4294967295 →
         t.par oDevice Pid.Device.TAILRACE_CAPTURE_ID = s.par oDevice Pid.Device.TAILRACE_CAPTURE_ID + 1)) ∧
     (byteAt p 1 = 0 → t.par oDevice Pid.Device.TAILRACE_STATE = tsIDLE ∧
       t.par oDevice Pid.Device.TAILRACE_CAPTURE_ID = s.par oDevice Pid.Device.TAILRACE_CAPTURE_ID) ∧
     Replied s t r 0x39 stOK 0
       (leBytes 4 (t.par oDevice Pid.Device.TAILRACE_CAPTURE_ID) ++ leBytes 4 (traceDepth (byteAt p 1)))) ∧
  (Accepts s r 0x3A p → p.length = 10 → (fieldU p 0 4 : Int) = s.par oDevice Pid.Device.TAILRACE_CAPTURE_ID →
     s.traceState ≠ tsARMED → s.traceState ≠ tsTRIGGERED → fieldU p 8 2 * s.traceNch ≤ 64 →
     fieldU p 4 4 + fieldU p 8 2 ≤ s.trace.rows.length → Runs (.tailraceRead r p) s fun t =>
       Replied s t r 0x3A stOK 0 (p.take 4 ++ leBytes 1 s.traceState ++ leBytes 1 s.traceNch ++
         leBytes 2 (fieldU p 8 2) ++ leBytes 4 s.traceIndex ++ leBytes 4 s.trace.rows.length ++
         ((s.trace.rows.reverse.drop (fieldU p 4 4)).take (fieldU p 8 2)).flatMap fun x =>
           x.flatMap fun v => leBytes 4 v) ∧ t.trace = s.trace)

/-- GRIST_READ answers with records; GRIST_CLEAR gives a nonce and clears only under a token over it; a trigger is set
and its journaling asked for. -/
def Obligations.GristOperations : Prop := ∀ (s : State) (r : Req) (p : Bytes),
  (Accepts s r 0x40 p → (Taken s r 0x40 p).gristReadCheck p = none → Runs (.gristRead r p) s fun t =>
     let out := s.gristReadOut p
     let ends := areaEnds (s.area (byteAt p 0 == 1))
     Replied s t r 0x40 stOK 0 (leBytes 4 out.1 ++ leBytes 4 ends.1 ++ leBytes 4 ends.2 ++ leBytes 1 out.2.1 ++
       leBytes 1 out.2.2.length ++ [0, 0] ++ out.2.2.flatMap Rec.bytes) ∧ t.grist = s.grist) ∧
  (Accepts s r 0x41 [0, 0, 0, 0] → s.thermalLatched = false → s.ownerKey ≠ none →
     Runs (.gristClearNonce r [0, 0, 0]) s fun t => ∃ n : Bytes, n.length = 32 ∧ t.grist.nonce = some n ∧
       Replied s t r 0x41 stOK 0 (n ++ serialBytes ++ leBytes 4 (s.par oGrist Pid.Grist.NEWEST_GEN))) ∧
  (∀ key, p.length = 67 → zeros p 0 3 = true → Accepts s r 0x41 (1 :: p) → s.thermalLatched = false →
     s.ownerKey = some key → s.grist.nonce ≠ none → Runs (.gristClear r p) s fun t =>
       t.grist.nonce = none ∧
       (Config.verifyP256 key (Taken s r 0x41 (1 :: p)).clearMsg (slice p 3 64) = true →
         (∃ q ∈ t.nvm.queue, q.work = .gristClear ∧ q.op = some s.hopper.nextId) ∧ Waits s t) ∧
       (Config.verifyP256 key (Taken s r 0x41 (1 :: p)).clearMsg (slice p 3 64) = false →
         Replied s t r 0x41 stAUTH_FAILED 6 [] ∧ t.nvm.queue = s.nvm.queue)) ∧
  (Accepts s r 0x42 p → (Taken s r 0x42 p).triggerCheck p = none → byteAt p 0 < 16 →
     Runs (.gristTriggerSet r p) s fun t =>
       vget t.grist.triggers (byteAt p 0) .undefined = trigOf p ∧ (t.nvm.queue.any fun q => q.work == .triggers) = true ∧
       Replied s t r 0x42 stOK 0 (leBytes 1 (byteAt p 0) ++ [0, 0, 0]))

/-- BIST_REQUEST queues a test of its kind with a new number, commits the full test, and with KIND 4 cancels one; BIST_RESULT answers
with a test's result, by its number, or of the full test by 0. -/
def Obligations.BistOperations : Prop := ∀ (s : State) (r : Req) (p : Bytes),
  (Accepts s r 0x50 p → (Taken s r 0x50 p).bistCheck p = none → byteAt p 0 ≤ 2 → Runs (.bistRequest r p) s fun t =>
     let id := seqAfter (s.par oDresser Pid.Dresser.LAST_TEST_ID).toNat
     t.par oDresser Pid.Dresser.LAST_TEST_ID = id ∧
     (∃ x ∈ t.dresser.tests, x.id = id ∧ x.kind = byteAt p 0 ∧ x.target = byteAt p 1 ∧ x.state = 0 ∧
       x.op = some s.hopper.nextId) ∧ Waits s t) ∧
  (Accepts s r 0x50 p → (Taken s r 0x50 p).bistCheck p = none → byteAt p 0 = 3 → Runs (.bistRequest r p) s fun t =>
     t.dresser.fullPending = true ∧ Replied s t r 0x50 stOK 0 (bistPayload 0 0)) ∧
  (Accepts s r 0x50 (4 :: p) → (Taken s r 0x50 (4 :: p)).bistCheck (4 :: p) = none → Runs (.bistCancel r p) s fun t =>
     (∀ x ∈ t.dresser.tests, x.id = fieldU (4 :: p) 4 4 → x.state ≠ 0) ∧
     Replied s t r 0x50 stOK 0 (bistPayload (fieldU (4 :: p) 4 4) 0)) ∧
  (∀ x, Accepts s r 0x51 p → p.length = 4 →
     (if fieldU p 0 4 = 0 then s.dresser.full else s.dresser.tests.find? fun t => t.id == fieldU p 0 4) = some x →
     Runs (.bistResult r p) s fun t => Replied s t r 0x51 stOK 0
       (leBytes 4 (fieldU p 0 4) ++ leBytes 1 x.kind ++ leBytes 1 x.target ++ leBytes 1 x.state ++ [0] ++
         leBytes 8 x.startTick ++ leBytes 8 x.endTick ++ leBytes 4 x.units ++ leBytes 4 x.fails ++
         leBytes 4 x.firstFail ++ leBytes 4 x.actual ++ leBytes 4 x.failUnit) ∧ t.dresser = s.dresser)

/-- BATT_AUTH begins the modules it names, BATT_LEARN_COMMIT asks for the write of its strings; both wait. -/
def Obligations.BatteryOperations : Prop := ∀ (s : State) (r : Req) (p : Bytes),
  (let named := (List.range 64).filter fun m => (fieldU p 0 8).testBit m
   Accepts s r 0x60 p → p.length = 8 → fieldU p 0 8 ≠ 0 → (∀ m ∈ named, s.configured m = true) →
   s.thermalLatched = false → (∀ m ∈ named, (Taken s r 0x60 p).beingAuthed m = false) →
   Runs (.battAuth r p) s fun t =>
     t.auths = s.auths ++ [{ op := s.hopper.nextId, mask := fieldU p 0 8, left := named }] ∧ Waits s t) ∧
  (let named := (List.range 4).filter fun k => (byteAt p 0).testBit k
   Accepts s r 0x61 p → p.length = 4 → byteAt p 0 ≠ 0 → byteAt p 0 < 16 → zeros p 1 3 = true →
   (∀ k ∈ named, s.par (oString k) Pid.String.MODULE_COUNT ≠ 0) → s.thermalLatched = false →
   (Taken s r 0x61 p).mayLearn = true → Runs (.battLearnCommit r p) s fun t =>
     (∃ q ∈ t.nvm.queue, q.work = .battery named ∧ q.op = some s.hopper.nextId) ∧ Waits s t)

/-- SEQ_POWER_ON is answered with RESULT and SEQ_STATE: STARTING begins the restart into STARTUP, or an attached unit's request pulse,
once the Brake sequence is complete; QUEUED keeps the request while a Brake runs; ALREADY_ON changes no walk. SEQ_POWER_OFF enters
BRAKING and walks from state 16, the group's by a request pulse, or joins the Brake under way, and waits for its completion; after that
it is answered at once. SEQ_STEP enters MANUAL and takes the first of its steps. A wrong length and THERMAL_LATCHED are answered as
their checks say. -/
def Obligations.SequencerOperations : Prop := ∀ (s : State) (r : Req) (p : Bytes),
  (Accepts s r 0x70 [] → s.thermalLatched = false →
     let answers (t : State) (result : Nat) : Prop :=
       Replied s t r 0x70 stOK 0 (leBytes 1 result ++ leBytes 1 s.seqState ++ [0, 0])
     (s.shelfState = ssBraking → s.seq.complete = true →
       (s.seq.attached = false → Runs (.seqPowerOn r []) s fun t => t.miller.restarting = true ∧
         t.par oDevice Pid.Device.L3_RESTART_CAUSE = lrPOWER_ON ∧
         ∃ x ∈ (t.port r.port).replies, x.op = some s.hopper.nextId ∧ x.status = stOK ∧
           x.payload = leBytes 1 0 ++ leBytes 1 s.seqState ++ [0, 0]) ∧
       (s.seq.attached = true → s.restsAt 31 = true → s.seq.lineLow = false → s.seq.pulse = .none →
         Runs (.seqPowerOn r []) s fun t => t.seq.pulse = .request ∧ t.seq.lineLow = true ∧ answers t 0)) ∧
     ((s.shelfState == ssBraking && s.seq.complete) = false → Runs (.seqPowerOn r []) s fun t =>
       (s.seq.brake.isSome = true → t.seq.powerOn = true ∧ answers t 1) ∧
       (s.seq.brake = none → t.seq = s.seq ∧ answers t 2))) ∧
  (Accepts s r 0x70 p → (p.length ≠ 0 → Runs (.seqPowerOn r p) s fun t => Replied s t r 0x70 stBAD_LENGTH 1 []) ∧
     (p.length = 0 → s.thermalLatched = true → Runs (.seqPowerOn r p) s fun t => Replied s t r 0x70 stLOCKED 2 [])) ∧
  (Accepts s r 0x71 p → (Taken s r 0x71 p).powerOffCheck p = none →
     (s.shelfState ≠ ssBraking → s.seq.brake = none → Runs (.seqPowerOff r p) s fun t =>
       t.shelfState = ssBraking ∧ t.par oShelf Pid.Shelf.SHUTDOWN_CAUSE = bkPOWER_OFF ∧ t.seq.brake = some bkPOWER_OFF ∧
       t.seq.pfwLow = true ∧ t.seq.offOps = s.seq.offOps ++ [(s.hopper.nextId, 0)] ∧
       (byteAt p 0 = 0 → t.seqState = 16 ∧ t.seq.attached = false) ∧
       (byteAt p 0 = 1 → t.seqState = s.seqState ∧ t.seq.pulse = .request)) ∧
     (s.shelfState = ssBraking → s.seq.complete = false → Runs (.seqPowerOff r p) s fun t =>
       t.seq.offOps = s.seq.offOps ++ [(s.hopper.nextId, 1)] ∧ t.shelfState = ssBraking ∧ t.seqState = s.seqState) ∧
     (s.shelfState = ssBraking → s.seq.complete = true → Runs (.seqPowerOff r p) s fun t =>
       Replied s t r 0x71 stOK 0
         (leBytes 1 1 ++ leBytes 1 (s.railFlags rlSTUCK + s.railFlags rlDOWN_FAIL : Nat) ++ [0, 0]))) ∧
  (Accepts s r 0x72 p → (Taken s r 0x72 p).stepCheck p = none → Runs (.seqStep r p) s fun t =>
     t.par oShelf Pid.Shelf.SEQ_STATE = s.nextSeqState ∧ t.par oShelf Pid.Shelf.SEQ_PHASE = sqMANUAL ∧
     t.seq.walk = .manual ∧ t.seq.stepOp = some s.hopper.nextId ∧ t.seq.stepsLeft = byteAt p 0 - 1 ∧
     ∃ e ∈ t.hopper.ops, e.id = s.hopper.nextId ∧ e.stage = (if byteAt p 0 = 1 then .committed else .running))

/-- UPD_OPEN opens a session with a new number on the empty target bank, UPD_BLOCK asks for the write of its block, UPD_CLOSE begins
the verification, and UPD_SCHEDULE sets the schedule of a staged bundle, by WHEN 0, 1 and 2, or is refused where its configuration
format is another. UPD_CANCEL empties the bank of an open session that has written nothing, asks for the write that empties a bank
with bytes or a staged one, and withdraws a schedule. -/
def Obligations.UpdateOperations : Prop := ∀ (s : State) (r : Req) (p : Bytes),
  (Accepts s r 0x90 p → p.length = 8 → zeros p 4 4 = true → 1024 ≤ fieldU p 0 4 → fieldU p 0 4 ≤ 3145728 →
     s.thermalLatched = false → (s.updState = upIDLE ∨ s.updState = upSTAGED) → Runs (.updOpen r p) s fun t =>
       t.updState = upOPEN ∧ t.bank s.targetBank = bkEMPTY ∧
       t.par oUpdater Pid.Updater.SESSION_ID = s.nextSession ∧ t.par oUpdater Pid.Updater.BYTES_RECEIVED = 0 ∧
       t.upd.bundleLen = fieldU p 0 4 ∧ t.upd.target = s.targetBank ∧
       Replied s t r 0x90 stOK 0 (leBytes 2 s.nextSession ++ leBytes 1 s.targetBank ++ [0] ++ leBytes 2 256 ++ [0, 0])) ∧
  (Accepts s r 0x91 p → (Taken s r 0x91 p).blockCheck p = none → Runs (.updBlock r p) s fun t =>
     (∃ q ∈ t.nvm.queue, q.work = .block (fieldU p 4 4) (slice p 12 (fieldU p 2 2)) ∧ q.op = some s.hopper.nextId) ∧
     t.nvm.mram = s.nvm.mram ∧ Waits s t) ∧
  (Accepts s r 0x92 p → p.length = 4 → zeros p 2 2 = true → (Taken s r 0x92 p).inSession (fieldU p 0 2) = true →
     s.thermalLatched = false → Runs (.updClose r p) s fun t =>
       t.updState = upCLOSING ∧ t.upd.closing = some s.hopper.nextId ∧ Waits s t) ∧
  (Accepts s r 0x93 p → p.length = 12 → zeros p 2 2 = true → byteAt p 0 ≤ 2 → byteAt p 1 ≤ 31 → 0 ≤ fieldS p 4 8 →
     s.thermalLatched = false → s.par oUpdater Pid.Updater.SCHED_MODE = 0xFF → s.upd.stagedOk = true →
     s.updState = upSTAGED → (byteAt p 0 = 2 → s.par oShelf Pid.Shelf.COG_ENABLE = 1 ∧ s.seq.detached = false) →
     Runs (.updSchedule r p) s fun t =>
       (hdConfigFormat (s.header (1 - s.runningBank)) = Config.configFormat.toNat →
         t.updState = upSCHEDULED ∧ t.par oUpdater Pid.Updater.SCHED_MODE = byteAt p 0 ∧
         (byteAt p 0 = 0 → t.upd.due = true ∧ t.upd.waiting = some s.hopper.nextId) ∧
         (byteAt p 0 ≠ 0 → t.upd.due = false ∧ t.par oUpdater Pid.Updater.SCHED_WALL = fieldS p 4 8 ∧
           Replied s t r 0x93 stOK 0 (leBytes 1 (byteAt p 0) ++ [0, 0, 0])) ∧
         t.par oUpdater Pid.Updater.SCHED_COG_STATE = if byteAt p 0 = 2 then byteAt p 1 else 0) ∧
       (hdConfigFormat (s.header (1 - s.runningBank)) ≠ Config.configFormat.toNat →
         t.updState = upSTAGED ∧ Replied s t r 0x93 stREFUSED frPRECONDITION (leBytes 1 (byteAt p 0) ++ [3, 0, 0]))) ∧
  (Accepts s r 0x95 [0, 0, 0, 0] → s.thermalLatched = false → (∀ q ∈ s.nvm.queue, q.work ≠ .cancelBank) →
     (s.updState = upOPEN → s.bank s.upd.target = bkEMPTY → s.nvm.active = none → Runs (.updCancel r [0, 0, 0, 0]) s fun t =>
       t.updState = upIDLE ∧ t.bank s.upd.target = bkEMPTY ∧ t.upd.units = [] ∧
       Replied s t r 0x95 stOK 0 [0, 0, 0, 0]) ∧
     (s.updState = upSTAGED ∨ s.updState = upOPEN ∧ s.bank s.upd.target ≠ bkEMPTY →
       Runs (.updCancel r [0, 0, 0, 0]) s fun t =>
         (∃ q ∈ t.nvm.queue, q.work = .cancelBank ∧ q.op = some s.hopper.nextId) ∧ Waits s t) ∧
     (s.updState = upSCHEDULED → s.upd.stagedOk = true → Runs (.updCancel r [0, 0, 0, 0]) s fun t =>
       t.updState = upSTAGED ∧ t.par oUpdater Pid.Updater.SCHED_MODE = 0xFF ∧ t.upd.due = false ∧
       Replied s t r 0x95 stOK 0 [0, 0, 0, 0]))

/-- LC_TRANSITION with ACTION 0 gives a nonce; with ACTION 1 and good tokens it enters the state asked for, RETURN through a reset that
kills the keys, and with ACTION 2 it writes the key slot; tokens that fail are AUTH_FAILED, and the nonce is spent either way.
DEBUG_UNLOCK opens the debug port under a good token over the nonce, and SUBOP 1 locks it again. -/
def Obligations.LifeCycleOperations : Prop :=
  (∀ (s : State) (r : Req) (p : Bytes),
   (Accepts s r 0xA1 (0 :: p) → (Taken s r 0xA1 (0 :: p)).lcCheck (0 :: p) = none → Runs (.lcNonce r p) s fun t =>
      ∃ n : Bytes, n.length = 32 ∧ t.life.nonce = some n ∧ Replied s t r 0xA1 stOK 0 (n ++ serialBytes)) ∧
   (Accepts s r 0xA1 (1 :: p) → (Taken s r 0xA1 (1 :: p)).lcCheck (1 :: p) = none →
      Runs (.lcTransition r p) s fun t => t.life.nonce = none ∧
        ((Taken s r 0xA1 (1 :: p)).tokensOk (1 :: p) = true → t.lcState = byteAt p 0 ∧
          (byteAt p 0 ≠ 3 → ∃ b, Replied s t r 0xA1 stOK 0 b) ∧
          (byteAt p 0 = 3 → t.life.killed = true ∧ t.supply.cs = .reset)) ∧
        ((Taken s r 0xA1 (1 :: p)).tokensOk (1 :: p) = false → t.lcState = s.lcState ∧
          Replied s t r 0xA1 stAUTH_FAILED 7 [])) ∧
   (Accepts s r 0xA1 (2 :: p) → (Taken s r 0xA1 (2 :: p)).lcCheck (2 :: p) = none →
      Runs (.writeKey r p) s fun t => t.life.nonce = none ∧
        ((Taken s r 0xA1 (2 :: p)).tokensOk (2 :: p) = true →
          vget t.life.keys (byteAt p 0) none = some (slice p 3 64) ∧ ∃ b, Replied s t r 0xA1 stOK 0 b) ∧
        ((Taken s r 0xA1 (2 :: p)).tokensOk (2 :: p) = false → t.life.keys = s.life.keys ∧
          Replied s t r 0xA1 stAUTH_FAILED 7 []))) ∧
  (∀ (s : State) (r : Req) (p : Bytes),
   (∀ key, p.length = 67 → zeros p 0 3 = true → Accepts s r 0xA2 (0 :: p) → s.thermalLatched = false →
      s.lcState = lcFIELD → s.ownerKey = some key → s.life.nonce ≠ none → Runs (.debugUnlock r p) s fun t =>
        t.life.nonce = none ∧
        (Config.verifyP256 key (Taken s r 0xA2 (0 :: p)).unlockMsg (slice p 3 64) = true →
          t.par oLife Pid.LifeCycle.DEBUG_STATE = 2 ∧ Replied s t r 0xA2 stOK 0 [2, 0, 0, 0]) ∧
        (Config.verifyP256 key (Taken s r 0xA2 (0 :: p)).unlockMsg (slice p 3 64) = false →
          t.par oLife Pid.LifeCycle.DEBUG_STATE = s.par oLife Pid.LifeCycle.DEBUG_STATE ∧
          Replied s t r 0xA2 stAUTH_FAILED 6 [])) ∧
   (Accepts s r 0xA2 [1, 0, 0, 0] → s.thermalLatched = false → s.lcState = lcFIELD → s.ownerKey ≠ none →
      s.life.nonce ≠ none → Runs (.debugRelock r [0, 0, 0]) s fun t =>
        t.par oLife Pid.LifeCycle.DEBUG_STATE = 0 ∧ Replied s t r 0xA2 stOK 0 [0, 0, 0, 0]))

/-- ABORT of a queued operation ends it ABORTED with reason 0x01 and answers OK; of a committed or replied one it answers
COMPLETED_BEFORE_ABORT, and where no operation of the port holds the tag BAD_PARAM. RESULT_POLL answers with the stage, the
opcode, the priority and the age in milliseconds of the operation that holds the tag, or zeros where none does. -/
def Obligations.AbortAndPoll : Prop := ∀ (s : State) (r : Req) (tag : Byte), tag.toNat < 64 →
  (Accepts s r 0xF0 [tag, 0, 0, 0] →
     let target := (Taken s r 0xF0 [tag, 0, 0, 0]).abortTarget (theOp s r 0xF0 [tag, 0, 0, 0])
     (target = none → Runs (.abort r [tag, 0, 0, 0]) s fun t => Replied s t r 0xF0 stBAD_PARAM 3 []) ∧
     ∀ x : Op, target = some x → x.aborted = false →
       (x.stage = .queued → Runs (.abort r [tag, 0, 0, 0]) s fun t =>
         Replied s t r 0xF0 stOK 0 [tag, 0, 0, 0] ∧
         ∃ y ∈ (t.port r.port).replies, y.op = some x.id ∧ y.status = stABORTED ∧ y.reason = 1) ∧
       (x.stage = .committed ∨ x.stage = .replied → Runs (.abort r [tag, 0, 0, 0]) s fun t =>
         Replied s t r 0xF0 stDONE_BEFORE 0 [tag, 0, 0, 0])) ∧
  (Accepts s r 0xF1 [tag, 0, 0, 0] →
     let held := (Taken s r 0xF1 [tag, 0, 0, 0]).hopper.ops.find? fun y => y.port == r.port && y.tag == tag.toNat
     (held = none → Runs (.resultPoll r [tag, 0, 0, 0]) s fun t =>
       Replied s t r 0xF1 stOK 0 ([tag] ++ List.replicate 7 0) ∧ t.grist = s.grist) ∧
     ∀ x : Op, held = some x → Runs (.resultPoll r [tag, 0, 0, 0]) s fun t =>
       Replied s t r 0xF1 stOK 0 ([tag] ++ leBytes 1 (if x.id = s.hopper.nextId then 2 else stageCode x.stage) ++
         leBytes 1 x.opcode ++ leBytes 1 x.prio ++ leBytes 4 ((s.time.tick - x.tick) / 1000 : Nat)) ∧ t.grist = s.grist)

/-- OPERATION_START runs the queued operation that Hopper picks: the highest priority, the earliest accepted among
equals, control requests first: what Hopper picks is queued, no queued control request waits behind another, no queued operation of the
same kind has a higher priority, and none of an equal one was accepted before it. -/
def Obligations.HopperPicksInOrder : Prop :=
  (∀ (s : State) (e : Op),
   s.hopperStarts = true → pickOp s.hopper.ops = some e →
   exec .operationStart s = .next (opRun e.opcode e s)) ∧
  (∀ (l : List Op) (e : Op), pickOp l = some e →
   e ∈ l ∧ e.stage = .queued ∧
   (∀ x ∈ l, x.stage = .queued → x.control = true → e.control = true) ∧
   (∀ x ∈ l, x.stage = .queued → x.control = e.control → e.prio ≤ x.prio) ∧
   ∃ before after, l = before ++ e :: after ∧
     ∀ x ∈ before, x.stage = .queued → x.control = e.control → e.prio < x.prio)

/-! ## The register window -/

/-- The form of a read of `k` bytes that Table 15-1 asks for on a port: with a COUNT where PEC is active, without one where not. -/
def properForm (s : State) (p : HostPort) (k : Nat) : ReadForm :=
  if s.pecActive p then .counted (BitVec.ofNat 8 k) else .plain

/-- The bytes after a pointer that carry `data` to a port that names one of its addresses: the data, and while PEC is active the PEC
byte over the whole transaction (R382, R387). -/
def Carries (s : State) (p : HostPort) (acc : HostAccess) (ptr : Byte) (data rest : Bytes) : Prop :=
  s.portAnswers p = true ∧ (s.addressHit p acc.addr).isSome = true ∧ (s.pecActive p = true → data.length ≤ 286) ∧
  rest = data ++ (if s.pecActive p then [crc8 (BitVec.ofNat 8 (2 * acc.addr.toNat) :: ptr :: data)] else [])

/-- How many bytes such a read takes from the port: with PEC one more, the PEC byte. -/
def properLen (s : State) (p : HostPort) (k : Nat) : Nat := if s.pecActive p then k + 1 else k

/-- What a port drives for the data `l` of such a read: with PEC also the PEC byte over the whole transaction (R387). -/
def asRead (s : State) (p : HostPort) (acc : HostAccess) (ptr : Byte) (l : Bytes) : Bytes :=
  let a := 2 * acc.addr.toNat
  if s.pecActive p then l ++ [crc8 ([BitVec.ofNat 8 a, ptr, BitVec.ofNat 8 l.length, BitVec.ofNat 8 (a + 1)] ++ l)] else l

/-- The four read rows with the window address that each names. -/
def readRows (p : HostPort) (acc : HostAccess) (form : ReadForm) (n : Nat) : List (Instr × Byte) :=
  [(.replyStream p ⟨acc, form, n⟩, 0x11), (.alertCause p ⟨acc, form, n⟩, 0x09), (.fastStatus p ⟨acc, form, n⟩, 0x20),
    (.highByteLatch p false ⟨acc, form, n⟩, 0x0C), (.highByteLatch p true ⟨acc, form, n⟩, 0x0E)]

/-- The four write rows with the pointer and the bytes after it that each carries. -/
def writeRows (p : HostPort) (acc : HostAccess) (ptr : Byte) (rest : Bytes) : List (Instr × Byte × Bytes) :=
  [(.reqStream p acc rest, 0x10, rest), (.doorbellSubmit p ⟨acc, rest⟩, 0x12, 0xA5 :: rest),
    (.doorbellDiscard p ⟨acc, rest⟩, 0x12, 0x5A :: rest), (.windowWrite p acc ptr rest, ptr, rest)]

/-- LAST_VIOLATION of a window violation: PROTOCOL, the reason and the pointer in place of OPCODE (R386). -/
def violationWord (reason ptr : Nat) : Int := (((stPROTOCOL * 256 + reason) * 256 + ptr) * 256 : Nat)

/-- The bytes of a request, submitted by a write of 0xA5 to DOORBELL, are read back as the request: its opcode, its tag and priority,
its alert flag and its payload, whatever they are. The operation takes its entry, and nothing else changes but the port. Bytes written
after the 0xA5 fall on reserved locations. -/
def Obligations.DoorbellReadsTheRequest : Prop :=
  ∀ (s : State) (p : HostPort) (acc : HostAccess) (more rest : Bytes) (opcode tagPrio : Nat) (alert : Bool) (payload : Bytes),
    Carries s p acc 0x12 (0xA5 :: more) (0xA5 :: rest) → more.length ≤ 13 → s.miller.restarting = false →
    opcode < 256 → tagPrio < 256 → payload.length ≤ 272 → s.frameFail p opcode (tagPrio % 64) = none →
    (s.port p).build = requestBytes opcode tagPrio alert payload → (s.port p).written = payload.length + 12 →
    Runs (.doorbellSubmit p ⟨acc, rest⟩) s fun t =>
      t.hopper.ops = s.hopper.ops ++ [
        { id := s.hopper.nextId, port := p, tag := tagPrio % 64, prio := tagPrio / 64,
          opcode := opcode, payload := payload, alert := alert, stage := .queued, tick := s.time.tick,
          control := opcodeControl opcode, aborted := false }] ∧
      t.hopper.nextId = s.hopper.nextId + 1 ∧ (t.port p).build = [] ∧ (t.port p).written = 0 ∧
      Foot [.ports, .hopper] (some [Pid.HPort.SPEED_SEEN]) s t

/-- The packet checks of Table 14-3 answer in their order: length, CRC, header, payload length, opcode, tag, queue. The
rejection is the port's newest reply, with reason 0x80 plus the check, and no operation is taken. -/
def Obligations.DoorbellRejectsInOrder : Prop := ∀ (s : State) (p : HostPort) (acc : HostAccess) (more rest : Bytes),
  let x := s.port p
  let bytes := x.build
  let crcOk : Prop := (crc32c (bytes.take (bytes.length - 4))).toNat = fieldU bytes (bytes.length - 4) 4
  let headOk : Prop := byteAt bytes 0 = 0x59 ∧ byteAt bytes 1 / 2 = 8 ∧ zeros bytes 6 2 = true
  let rejected (status check : Nat) : Prop := Runs (.doorbellSubmit p ⟨acc, rest⟩) s fun t =>
    (t.port p).replies.getLast? = some
      { op := none, opcode := byteAt bytes 2, tagPrio := byteAt bytes 3, reject := true,
        status := status, reason := 0x80 + check, payload := [] } ∧ t.hopper = s.hopper
  Carries s p acc 0x12 (0xA5 :: more) (0xA5 :: rest) → more.length ≤ 13 → s.miller.restarting = false →
  (x.written < 12 ∨ 284 < x.written → rejected stBAD_LENGTH 1) ∧
  (12 ≤ x.written → x.written ≤ 284 →
    (¬ crcOk → rejected stBAD_CRC 2) ∧
    (crcOk → ¬ headOk → rejected stPROTOCOL 3) ∧
    (crcOk → headOk → fieldU bytes 4 2 ≠ x.written - 12 → rejected stBAD_LENGTH 4) ∧
    (crcOk → headOk → fieldU bytes 4 2 = x.written - 12 → ∀ st c,
      s.frameFail p (byteAt bytes 2) (byteAt bytes 3 % 64) = some (st, c) → rejected st c))

/-- Reads of the window in their proper form drive their bytes and take their effect: REPLY_STREAM consumes them and, with the
reply's last one, frees the operation's entry; it drives 0x00 past it. ALERT_CAUSE clears, PROTOCOL excepted in cautious mode;
FAST_STATUS latches its 32 bytes; the low byte of a count latches its high byte. While PEC is active a read without COUNT, with COUNT
0 or without its pointer is a violation with reason 0x92 or 0x93, and without PEC a COUNT byte is one with reason 0x90. A transaction
on an address that the port does not acknowledge leaves the port as its STOP does. A write of ALERT_MASK sets it. A write without PEC
that begins at a read-only location is one violation with reason 0x90, recorded; a write transaction whose PEC fails is one with
reason 0x91 or 0x92, and applies nothing; a write of reserved locations, or with PEC of a read-only one, changes nothing. -/
def Obligations.WindowAnswers : Prop :=
  (∀ (s : State) (p : HostPort) (acc : HostAccess) (k : Nat),
   s.portAnswers p = true → (s.addressHit p acc.addr).isSome = true → 1 ≤ k → (s.pecActive p = true → k < 256) →
   let form := properForm s p k
   let n := properLen s p k
   let drives (t : State) (ptr : Byte) (first : Bytes) : Prop :=
     ∃ l, (t.port p).driven = asRead s p acc ptr l ∧ l.length = k ∧ l.take first.length = first.take k
   ((s.port p).replies = [] → Runs (.replyStream p ⟨acc, form, n⟩) s fun t => drives t 0x11 (List.replicate k 0)) ∧
   (∀ x rest, (s.port p).replies = x :: rest → (s.port p).readPos < x.bytes.length →
    Runs (.replyStream p ⟨acc, form, n⟩) s fun t =>
      drives t 0x11 (x.bytes.drop (s.port p).readPos ++ List.replicate k 0) ∧
      ((s.port p).readPos + k < x.bytes.length →
        (t.port p).replies = x :: rest ∧ (t.port p).readPos = (s.port p).readPos + k ∧ t.hopper = s.hopper) ∧
      (x.bytes.length ≤ (s.port p).readPos + k →
        (t.port p).replies = rest ∧ (t.port p).readPos = 0 ∧ ∀ e ∈ t.hopper.ops, some e.id ≠ x.op)) ∧
   (Runs (.alertCause p ⟨acc, form, n⟩) s fun t =>
      drives t 0x09 [BitVec.ofNat 8 (s.port p).alertCause] ∧ (t.port p).alertReleased = false ∧
      (t.port p).alertCause =
        if s.par (oPort p) Pid.HPort.CAUTIOUS = 1 ∧ (s.port p).alertCause.testBit alProtocol = true then 2 ^ alProtocol
        else 0) ∧
   (s.supply.cs ≠ .rom → Runs (.fastStatus p ⟨acc, form, n⟩) s fun t => (t.port p).fast = s.fastBytes ∧ drives t 0x20 s.fastBytes) ∧
   (s.supply.cs = .rom → Runs (.fastStatus p ⟨acc, form, n⟩) s fun t => drives t 0x20 (List.replicate 32 0)) ∧
   (Runs (.highByteLatch p false ⟨acc, form, n⟩) s fun t =>
      drives t 0x0C [BitVec.ofNat 8 (s.reqSpace p % 256), BitVec.ofNat 8 (s.reqSpace p / 256)] ∧
      (t.port p).spaceHigh = BitVec.ofNat 8 (s.reqSpace p / 256)) ∧
   (Runs (.highByteLatch p true ⟨acc, form, n⟩) s fun t =>
      drives t 0x0E [BitVec.ofNat 8 (s.replyAvail p % 256), BitVec.ofNat 8 (s.replyAvail p / 256)] ∧
      (t.port p).availHigh = BitVec.ofNat 8 (s.replyAvail p / 256))) ∧
  (∀ (s : State) (p : HostPort) (acc : HostAccess) (form : ReadForm) (n : Nat) (ptr : Byte) (rest : Bytes),
   (s.portAnswers p = false ∨ s.addressHit p acc.addr = none →
     (∀ e ∈ readRows p acc form n, exec e.1 s = .next (s.busStop p)) ∧
     ∀ e ∈ writeRows p acc ptr rest, exec e.1 s = .next (s.busStop p)) ∧
   (s.portAnswers p = true → (s.addressHit p acc.addr).isSome = true →
    s.par (oPort p) Pid.HPort.VIOLATION_COUNT < 4294967295 → s.par (oPort p) Pid.HPort.PEC_ERRORS < 4294967295 →
    let violated (t : State) (reason at_ : Nat) : Prop :=
      t.par (oPort p) Pid.HPort.LAST_VIOLATION = violationWord reason at_ ∧
      t.par (oPort p) Pid.HPort.VIOLATION_COUNT = s.par (oPort p) Pid.HPort.VIOLATION_COUNT + 1 ∧
      t.par (oPort p) Pid.HPort.PEC_ERRORS = s.par (oPort p) Pid.HPort.PEC_ERRORS + (if reason = 0x90 then 0 else 1)
    let kept (t : State) : Prop := t.hopper = s.hopper ∧ (t.port p).replies = (s.port p).replies ∧ (t.port p).readPos = (s.port p).readPos ∧
      (t.port p).build = (s.port p).build ∧ (t.port p).written = (s.port p).written
    (s.pecActive p = true → form = .plain ∨ form = .counted 0 → ∀ e ∈ readRows p acc form n,
      Runs e.1 s fun t => violated t 0x92 e.2.toNat ∧ kept t ∧ (t.port p).driven = List.replicate n 0xFF) ∧
    (s.pecActive p = true → ∀ e ∈ readRows p acc .direct n,
      Runs e.1 s fun t => violated t 0x93 (s.port p).pointer.toNat ∧ kept t) ∧
    (s.pecActive p = false → ∀ c, ∀ e ∈ readRows p acc (.counted c) n,
      Runs e.1 s fun t => violated t 0x90 e.2.toNat) ∧
    (s.pecActive p = true → ∀ e ∈ writeRows p acc ptr rest, ∀ why, pecFails acc.addr (e.2.1 :: e.2.2.take 287) = some why →
      Runs e.1 s fun t => violated t why e.2.1.toNat ∧ kept t ∧ (t.port p).pointer = (s.port p).pointer) ∧
    (s.pecActive p = false → readOnlyAt ptr.toNat = true → rest ≠ [] → Runs (.windowWrite p acc ptr rest) s fun t =>
      violated t 0x90 ptr.toNat ∧ t.hopper = s.hopper ∧
      (s.miller3 = true → countOf (oPort p) s.grist.created < 1048575 → s.grist.nextGen < 4294967295 →
        ∃ x ∈ t.grist.circ, x.source = oPort p ∧ x.cls = rcSecurity ∧ x.event = 0x41 ∧
          x.snap.take 5 = [BitVec.ofNat 32 stPROTOCOL, 0x90, BitVec.ofNat 32 ptr.toNat, 0, BitVec.ofNat 32 rest.length])))) ∧
  (∀ (s : State) (p : HostPort) (acc : HostAccess) (ptr : Byte) (data rest : Bytes), Carries s p acc ptr data rest →
   (∀ b, ptr = 0x0A → data = [b] → Runs (.windowWrite p acc ptr rest) s fun t =>
      t.par (oPort p) Pid.HPort.ALERT_MASK = b.toNat ∧ (t.port p).pointer = 0x0B) ∧
   ((0x13 ≤ ptr.toNat ∧ ptr.toNat + data.length ≤ 0x20 ∨ 0x40 ≤ ptr.toNat ∧ ptr.toNat + data.length ≤ 256 ∨
      s.pecActive p = true ∧ readOnlyAt ptr.toNat = true ∧ data.length = 1) →
    Runs (.windowWrite p acc ptr rest) s fun t => Foot [.ports] (some [Pid.HPort.SPEED_SEEN]) s t ∧
      { t.port p with pointer := (s.port p).pointer, hit := (s.port p).hit, addrs := (s.port p).addrs } = s.port p) ∧
   (ptr = 0x10 → exec (.windowWrite p acc ptr rest) s = exec (.reqStream p acc rest) s) ∧
   (∀ l, ptr = 0x12 → (rest = 0xA5 :: l → exec (.windowWrite p acc ptr rest) s = exec (.doorbellSubmit p ⟨acc, l⟩) s) ∧
     (rest = 0x5A :: l → exec (.windowWrite p acc ptr rest) s = exec (.doorbellDiscard p ⟨acc, l⟩) s)))

/-- REQ_STREAM puts its bytes into the packet being built and counts them; past the 284th byte they are counted only, and
with no request space left BYTES_DISCARDED alone counts. DOORBELL = 0x5A discards the packet. A disabled port
acknowledges no address, nor does one outside RUN, FLOAT and WATCH; in ROM recovery HA answers at 0x5F alone, and ALERT_N stays
released. Cautious mode ends with the acknowledgement; a clock held low is
counted; the winner of the Alert Response Address answers with its address, and its PEC byte while PEC is active, and releases ALERT_N
unless cautious mode holds it; a loser changes nothing but what a STOP does. An address match wakes the device with the clock
stretched, of a second port it is added to the causes, and at high speed it does nothing; the stretch's greatest length is kept, and
from 2 ms on the byte reads 0xFF. -/
def Obligations.PortsFollow : Prop :=
  (∀ (s : State) (p : HostPort) (acc : HostAccess) (data rest : Bytes),
   (Carries s p acc 0x10 data rest →
    s.par (oPort p) Pid.HPort.BYTES_DISCARDED + data.length ≤ 4294967295 →
    let room := 284 - (s.port p).build.length
    let taken := min data.length (min room (s.reqSpace p))
    Runs (.reqStream p acc rest) s fun t =>
      (t.port p).build = (s.port p).build ++ data.take taken ∧
      (t.port p).written = (s.port p).written + (if s.reqSpace p ≤ room then taken else data.length) ∧
      t.par (oPort p) Pid.HPort.BYTES_DISCARDED = s.par (oPort p) Pid.HPort.BYTES_DISCARDED + (data.length - taken : Nat) ∧
      (t.port p).pointer = 0x10 ∧ Foot [.ports] (some [Pid.HPort.SPEED_SEEN, Pid.HPort.BYTES_DISCARDED]) s t) ∧
   (Carries s p acc 0x12 (0x5A :: data) (0x5A :: rest) → data.length ≤ 13 → Runs (.doorbellDiscard p ⟨acc, rest⟩) s fun t =>
      (t.port p).build = [] ∧ (t.port p).written = 0 ∧ (t.port p).replies = (s.port p).replies ∧
      Foot [.ports] (some [Pid.HPort.SPEED_SEEN]) s t)) ∧
  (∀ (s : State) (p : HostPort) (a : BitVec 7),
   (s.supply.cs = .rom → (s.acknowledges p a = true ↔ p = .ha ∧ a = 0x5F) ∧ s.alertLow p = false) ∧
   (s.supply.cs ≠ .rom → s.enabled (oPort p) = false → s.acknowledges p a = false) ∧
   (s.supply.cs = .saving ∨ s.supply.cs = .saved ∨ s.supply.cs = .reset ∨ s.supply.cs = .off →
     s.acknowledges p a = false) ∧
   (s.supply.cs = .run ∨ s.supply.cs = .watch → s.enabled (oPort p) = true →
     s.par (oPort p) Pid.HPort.PRIMARY_ADDR = a.toNat → s.acknowledges p a = true)) ∧
  (∀ (s : State) (p : HostPort),
   (s.running = true → s.par (oPort p) Pid.HPort.CAUTIOUS = 2 → s.violations1s p = 0 → Runs (.cautiousExit p) s fun t =>
      t.par (oPort p) Pid.HPort.CAUTIOUS = 0) ∧
   (s.portAnswers p = true → s.par (oPort p) Pid.HPort.TIMEOUT_ENABLE = 1 →
    s.par (oPort p) Pid.HPort.TIMEOUTS < 4294967295 → Runs (.clockLowTimeout p) s fun t =>
      t.par (oPort p) Pid.HPort.TIMEOUTS = s.par (oPort p) Pid.HPort.TIMEOUTS + 1 ∧
      Foot [] (some [Pid.HPort.TIMEOUTS]) s t) ∧
   (s.portAnswers p = true → s.alertLow p = true → s.par (oPort p) Pid.HPort.ARA_WINS < 4294967295 →
    (Runs (.alertResponse p true) s fun t =>
      t.par (oPort p) Pid.HPort.ARA_WINS = s.par (oPort p) Pid.HPort.ARA_WINS + 1 ∧
      (let b := BitVec.ofInt 8 (s.par (oPort p) Pid.HPort.PRIMARY_ADDR * 2)
       (t.port p).driven = if s.pecActive p then [b, crc8 [0x19, b]] else [b]) ∧
      (s.par (oPort p) Pid.HPort.CAUTIOUS ≠ 1 → t.alertLow p = false) ∧
      (s.par (oPort p) Pid.HPort.CAUTIOUS = 1 → t.alertLow p = true)) ∧
    exec (.alertResponse p false) s = .next (s.busStop p)) ∧
   (∀ (acc : HostAccess) (bad : BitVec 5), s.acknowledges p acc.addr = true →
     (acc.speed = .highSpeed → exec (.addressMatchWake ⟨p, acc, bad⟩) s = .next s) ∧
     (acc.speed ≠ .highSpeed → s.supply.cs = .watch → Runs (.addressMatchWake ⟨p, acc, bad⟩) s fun t =>
       t.supply.cs = .run ∧ t.par oDevice Pid.Device.WAKE_CAUSE = (if p = .ha then 1 else 2) ∧
       ∀ h, s.addressHit p acc.addr = some h →
         let x := (s.named p h acc.speed).modPort p fun x => { x with stretch := true }
         t = x.draw.2.wake (2 ^ portIx p) (BitVec.ofInt 48 x.draw.1) bad) ∧
     (acc.speed ≠ .highSpeed → s.supply.cs = .run → (s.port (otherPort p)).stretch = true → (s.port p).stretch = false →
      Runs (.addressMatchWake ⟨p, acc, bad⟩) s fun t =>
        (t.port p).stretch = true ∧ t.bit oDevice Pid.Device.WAKE_CAUSE (portIx p) = true)) ∧
   (∀ us : BitVec 16, (s.port p).stretch = true → Runs (.wakeStretchRelease p us) s fun t =>
      (t.port p).stretch = false ∧ (2000 ≤ us.toNat → (t.port p).driven = [0xFF]) ∧
      t.par (oPort p) Pid.HPort.WAKE_STRETCH_MAX = max (s.par (oPort p) Pid.HPort.WAKE_STRETCH_MAX) us.toNat))

/-! ## Clocks, the tick, the wall clock and the timers -/

/-- A failure of XT32 moves the AON clock to the RC oscillator, sets the sticky bit and counts. A failure of XT25 moves the PLL to REF_RC, sets its bit, counts and raises ALERT. The return of a crystal moves its clock
back. TICK_LATCH latches the tick with its AON count and wall offset, TICK_JOURNAL asks for the tick record's write, and a tick
within 600 s of the ceiling sets CEILING_LATE. -/
def Obligations.ClocksAreKept : Prop :=
  (∀ s : State,
   (s.supply.cs ≠ .off → s.time.onAonRc = false → s.par oDevice Pid.Device.XT32_FAIL_COUNT < 4294967295 →
     Runs .xt32Fail s fun t => t.time = { s.time with onAonRc := true } ∧
       t.bit oDevice Pid.Device.CLOCK_STATUS ckXT32_FAIL = true ∧
       t.par oDevice Pid.Device.XT32_FAIL_COUNT = s.par oDevice Pid.Device.XT32_FAIL_COUNT + 1) ∧
   (s.supply.cs ≠ .off → exec .xt32Return s = .next { s with time := { s.time with onAonRc := false } }) ∧
   (s.coreClock = true → s.time.onRefRc = false → s.par oDevice Pid.Device.XT25_FAIL_COUNT < 4294967295 →
    Runs .xt25Fail s fun t => t.time = { s.time with onRefRc := true } ∧
      t.bit oDevice Pid.Device.CLOCK_STATUS ckXT25_FAIL = true ∧
      t.par oDevice Pid.Device.XT25_FAIL_COUNT = s.par oDevice Pid.Device.XT25_FAIL_COUNT + 1 ∧
      ∀ p, (t.port p).alertCause.testBit alFault = true) ∧
   (s.coreClock = true → exec .xt25Return s = .next { s with time := { s.time with onRefRc := false } })) ∧
  (∀ s : State,
   (∀ aon : BitVec 48, s.coreClock = true → Runs (.tickLatch aon) s fun t =>
      t.time.latch = some ⟨s.time.tick, aon, s.par oDevice Pid.Device.WALL_OFFSET, false⟩ ∧
      { t.time with latch := s.time.latch } = s.time ∧
      Foot [.time] (some []) s t) ∧
   (s.miller3 = true → s.thermalLatched = false → Runs .tickJournal s fun t =>
      (t.nvm.queue.any fun q => q.work == .tickRecord) = true ∧ Foot [.nvm] (some []) s t) ∧
   (s.miller3 = true → s.time.ceilingWritten = true → s.bit oDevice Pid.Device.CLOCK_STATUS ckCEILING_LATE = false →
    (s.time.tick : Int) + 600000000 ≥ s.par oDevice Pid.Device.TICK_CEILING → Runs .ceilingLate s fun t =>
      t.bit oDevice Pid.Device.CLOCK_STATUS ckCEILING_LATE = true ∧ t.time = s.time))

/-- TIME_SET with MODE 0 steps the wall clock to the time given, with MODE 1 it begins a slew; the clock is then valid
and not suspect, and the write of the tick record is asked for. A slew's step, due 2000 µs after the last, moves the wall clock by
one microsecond towards its target, and the slew ends there; before that it changes nothing. -/
def Obligations.WallClockFollows : Prop :=
  (∀ (s : State) (r : Req) (p : Bytes),
   Accepts s r 0x80 p → (Taken s r 0x80 p).timeSetCheck p = none → Runs (.timeSet r p) s fun t =>
     t.time.wallValid = true ∧ t.time.wallSuspect = false ∧ t.time.tick = s.time.tick ∧
     (byteAt p 0 = 0 → t.wallNow = fieldS p 4 8 ∧ t.time.slew = none) ∧
     (byteAt p 0 ≠ 0 → t.wallNow = s.wallNow ∧
       t.time.slew = some { target := fieldS p 4 8 - s.time.tick, oldWall := s.wallNow, newWall := fieldS p 4 8,
                            stepTick := s.time.tick }) ∧
     (t.nvm.queue.any fun q => q.work == .tickRecord) = true ∧
     Replied s t r 0x80 stOK 0 (leBytes 8 s.wallNow ++ leBytes 8 (fieldS p 4 8) ++ leBytes 8 s.time.tick)) ∧
  (∀ (s : State) (w : Slew), s.coreClock = true → s.time.slew = some w →
   (s.time.tick < w.stepTick + 2000 → exec .wallSlewStep s = .next s) ∧
   (w.stepTick + 2000 ≤ s.time.tick → Runs .wallSlewStep s fun t =>
     t.time.tick = s.time.tick ∧
     (s.par oDevice Pid.Device.WALL_OFFSET < w.target → t.wallNow = s.wallNow + 1) ∧
     (w.target < s.par oDevice Pid.Device.WALL_OFFSET → t.wallNow = s.wallNow - 1) ∧
     (t.par oDevice Pid.Device.WALL_OFFSET = w.target ↔ t.time.slew = none) ∧
     ∀ x, t.time.slew = some x → { x with stepTick := w.stepTick } = w ∧ x.stepTick ≤ s.time.tick ∧
       s.time.tick < x.stepTick + 2000))

/-- COUNT and COMPARE of a timer, and of its neighbour, are words. -/
def timerWords (s : State) (n : Nat) : Prop :=
  ∀ k, k = n ∨ k = n + 1 → 0 ≤ s.par (oTimer k) Pid.Timer.COMPARE ∧ s.par (oTimer k) Pid.Timer.COMPARE < 4294967296

/-- A match puts COUNT at COMPARE, sets MATCH and drives the ball as OUT_MODE says, with ALERT where MATCH_ALERT asks
for it; the prescaler starts again. A pair matches as one 64-bit counter. A wrap puts an unlinked counter at 0 and sets WRAP; in a
pair it carries into the high word, and the pair's own wrap puts both words at 0. A compare value of 0 is met at the wrap, and one at
or below the count sets WRAP on the way to the match. -/
def Obligations.TimersCount : Prop :=
  (∀ (s : State) (n : Fin 8),
   s.counting n.val = true → s.leader n.val = n.val → timerWords s n.val → Runs (.timerMatch n) s fun t =>
     t.par (oTimer n.val) Pid.Timer.COUNT = s.par (oTimer n.val) Pid.Timer.COMPARE ∧
     (s.linked n.val = true →
       t.par (oTimer (n.val + 1)) Pid.Timer.COUNT = s.par (oTimer (n.val + 1)) Pid.Timer.COMPARE) ∧
     t.bit (oTimer n.val) Pid.Timer.TM_STATUS tmMATCH = true ∧
     (s.timerValue n.val Pid.Timer.COMPARE ≤ s.timerValue n.val Pid.Timer.COUNT →
       t.bit (oTimer n.val) Pid.Timer.TM_STATUS tmWRAP = true) ∧
     (s.par (oTimer n.val) Pid.Timer.MATCH_ALERT = 1 → ∀ p, (t.port p).alertCause.testBit alTimer = true) ∧
     (t.timer n.val).level =
       (if s.par (oTimer n.val) Pid.Timer.OUT_MODE = 1 ∨ s.par (oTimer n.val) Pid.Timer.OUT_MODE = 4 then true
        else if s.par (oTimer n.val) Pid.Timer.OUT_MODE = 2 then false
        else if s.par (oTimer n.val) Pid.Timer.OUT_MODE = 3 then !(s.timer n.val).level
        else (s.timer n.val).level) ∧
     (t.timer n.val).prePos = 0 ∧ (t.timer n.val).queue = (s.timer n.val).queue ∧ t.time = s.time) ∧
  (∀ (s : State) (n : Fin 8), s.counting n.val = true →
   (s.linked n.val = false → Runs (.timerWrap n) s fun t =>
      t.par (oTimer n.val) Pid.Timer.COUNT = 0 ∧ t.bit (oTimer n.val) Pid.Timer.TM_STATUS tmWRAP = true ∧
      (s.par (oTimer n.val) Pid.Timer.COMPARE = 0 →
        t.bit (oTimer n.val) Pid.Timer.TM_STATUS tmMATCH = true)) ∧
   (s.linked n.val = true → n.val % 2 = 0 → s.count (n.val + 1) < 4294967295 → Runs (.timerWrap n) s fun t =>
      t.par (oTimer n.val) Pid.Timer.COUNT = 0 ∧ t.count (n.val + 1) = s.count (n.val + 1) + 1 ∧
      t.bit (oTimer n.val) Pid.Timer.TM_STATUS tmWRAP = true) ∧
   (s.linked n.val = true → n.val % 2 = 1 ∨ 4294967295 ≤ s.count (n.val + 1) → Runs (.timerWrap n) s fun t =>
      let l := n.val - n.val % 2
      t.par (oTimer l) Pid.Timer.COUNT = 0 ∧ t.par (oTimer (l + 1)) Pid.Timer.COUNT = 0 ∧
      t.bit (oTimer l) Pid.Timer.TM_STATUS tmWRAP = true ∧ t.bit (oTimer (l + 1)) Pid.Timer.TM_STATUS tmWRAP = true))

/-- What writing COUNT, PRESCALE and OUT_MODE of a timer leaves: COUNT the value, PRESCALE a prescaler that starts
again, OUT_MODE a low output. A captured edge joins the queue of four, of a pair with the high word in its partner's; the edge of a
timer that does not count takes the value it holds. A fifth is dropped, sets CAP_OVERFLOW and is
counted. A pulse ends after its tick; a halt freezes and its release thaws, but FIELD knows no halt. -/
def Obligations.TimersFollow : Prop :=
  (∀ (s : State) (n : Nat) (d : Desc) (v : Int), n < 8 →
   (findDesc (oTimer n) Pid.Timer.COUNT = some d → (s.writeParam (oTimer n) d v).par (oTimer n) Pid.Timer.COUNT = v) ∧
   (findDesc (oTimer n) Pid.Timer.PRESCALE = some d →
     (s.writeParam (oTimer n) d v).par (oTimer n) Pid.Timer.PRESCALE = v ∧
     ((s.writeParam (oTimer n) d v).timer n).prePos = 0) ∧
   (findDesc (oTimer n) Pid.Timer.OUT_MODE = some d →
     (s.writeParam (oTimer n) d v).par (oTimer n) Pid.Timer.OUT_MODE = v ∧
     ((s.writeParam (oTimer n) d v).timer n).level = false ∧ ((s.writeParam (oTimer n) d v).timer n).pulse = false)) ∧
  (∀ (s : State) (n : Fin 8) (rising : Bool) (at_ : Word),
   (s.coreClock = true → s.timerFrozen n.val = false → s.leader n.val = n.val → s.par (oTimer n.val) Pid.Timer.OUT_MODE = 0 →
    (s.par (oTimer n.val) Pid.Timer.TM_MODE = 3 ∨ s.par (oTimer n.val) Pid.Timer.TM_MODE = (if rising then 1 else 2)) →
    s.par (oTimer n.val) Pid.Timer.CAP_OVF_COUNT < 4294967295 →
    let c : Word := if s.enabled (oTimer n.val) then at_ else BitVec.ofNat 32 (s.count n.val)
    Runs (.timerCapture n rising at_) s fun t =>
      t.par (oTimer n.val) Pid.Timer.COUNT = c.toNat ∧
      ((s.timer n.val).queue.length < 4 → (t.timer n.val).queue = (s.timer n.val).queue ++ [c] ∧
        (s.linked n.val = true → (t.timer (n.val + 1)).queue =
          (s.timer (n.val + 1)).queue ++ [BitVec.ofNat 32 (s.count (n.val + 1))])) ∧
      (4 ≤ (s.timer n.val).queue.length → (t.timer n.val).queue = (s.timer n.val).queue ∧
        t.bit (oTimer n.val) Pid.Timer.TM_STATUS tmCAP_OVERFLOW = true ∧
        t.par (oTimer n.val) Pid.Timer.CAP_OVF_COUNT = s.par (oTimer n.val) Pid.Timer.CAP_OVF_COUNT + 1)) ∧
   (s.counting n.val = true → (s.timer n.val).pulse = true → s.par (oTimer n.val) Pid.Timer.OUT_MODE = 4 →
    Runs (.tmrPulseEnd n) s fun t => (t.timer n.val).level = false ∧ (t.timer n.val).pulse = false ∧
      Foot [.timers] (some []) s t) ∧
   (s.coreClock = true → s.lcState ≠ lcFIELD →
      exec .debugHalt s = .next { s with time := { s.time with halted := true } }) ∧
   (s.lcState = lcFIELD → exec .debugHalt s = .next s) ∧
   exec .debugHaltRelease s = .next { s with time := { s.time with halted := false } })

/-! ## The link, the supplies, the critical save and the device modes -/

/-- Every power-side output is off: no feeder's gate is driven, no string is connected, no phase switches. -/
structure OutputsOff (t : State) : Prop where
  feeders : ∀ f < 16, (t.feeder f).gate = false
  strings : ∀ k < 4, (t.str k).connected = false
  phases  : ∀ p < 24, (t.phase p).switching = false

/-- A loss of the link stops the PWM and leaves FLOAT; its recovery is counted. A fall of the power-side die's supplies
turns every output off and takes the link with it; so does VPS12 under its threshold, which its return ends. -/
def Obligations.LinkAndPowerSideFollow : Prop := ∀ s : State,
  (s.csAwake = true → s.linkUp = true → Runs .uhlesLinkLoss s fun t =>
     t.linkUp = false ∧ t.inFloat = false ∧ ∀ p < 24, (t.phase p).switching = false) ∧
  (∀ us : Word, s.csAwake = true → s.linkUp = false → s.par oDevice Pid.Device.LINK_LOSS_COUNT < 4294967295 →
   Runs (.uhlesLinkRecovery us) s fun t => t.linkUp = true ∧ t.supply.psdOk = true ∧
     t.par oDevice Pid.Device.LINK_LOSS_COUNT = s.par oDevice Pid.Device.LINK_LOSS_COUNT + 1) ∧
  (Runs .psdReset s fun t => t.supply.psdOk = false ∧ OutputsOff t ∧ (s.csAwake = true → t.linkUp = false)) ∧
  (Runs .vps12Uvlo s fun t => t.supply.vps12Ok = false ∧ OutputsOff t) ∧
  exec .vps12Return s = .next { s with supply := { s.supply with vps12Ok := true } }

/-- A sag is counted; in RUN it rides through or, with an NVM transaction in progress, triggers the critical save at once. VAUX12_GOOD
ends a sag and the ride-through. VHOLD triggers the save once armed, outside WATCH and THERMAL_LATCHED: the phases stop, and it starts
when no transaction is in progress. Its commit leaves a whole save in the newer slot, counts it and waits; power that returns resumes
RUN, from NORMAL through RECOVERY. The end of the hold-up completes a transaction in progress and resets the control side, the fall of
a control-side supply resets it, and with VAON the device is off, without its tick latch and its thermal latch. -/
def Obligations.CriticalSaveRuns : Prop := ∀ s : State,
  (s.csAwake = true → s.supply.sag = false → s.par oDevice Pid.Device.SAG_EVENTS < 4294967295 → Runs .sag s fun t =>
     t.supply.sag = true ∧ t.supply.vauxGood = false ∧
     t.par oDevice Pid.Device.SAG_EVENTS = s.par oDevice Pid.Device.SAG_EVENTS + 1 ∧
     (s.supply.cs = .run → s.thermalLatched = false → s.nvm.active ≠ none →
       t.supply.cs = .saving ∧ t.supply.saveTrigger = 1 ∧ ∀ p < 24, (t.phase p).switching = false) ∧
     (s.supply.cs = .run → (s.thermalLatched = true ∨ s.nvm.active = none) →
       t.supply.cs = .run ∧ t.supply.rideThrough = true)) ∧
  (s.csAwake = true → exec .vaux12Good s =
     .next { s with supply := { s.supply with vauxGood := true, sag := false, rideThrough := false } }) ∧
  (s.csAwake = true → exec .saveArmed s = .next { s with supply := { s.supply with saveArmed := true } }) ∧
  (s.supply.cs = .run → s.supply.saveArmed = true → s.deviceMode ≠ 2 → s.thermalLatched = false →
   Runs .saveTrigger s fun t =>
     t.supply.cs = .saving ∧ t.supply.saveTrigger = 0 ∧ (∀ p < 24, (t.phase p).switching = false) ∧
     (s.nvm.active = none → t.supply.saveTick = s.time.tick ∧ t.supply.savePages = 0)) ∧
  (∀ us : Word, s.supply.cs = .saving → s.nvm.active = none → s.par oDevice Pid.Device.SAVE_COUNT < 4294967295 →
   Runs (.saveCommit us) s fun t => t.supply.cs = .saved ∧
     (∃ x, t.nvm.saves.head? = some x ∧ x.trailer = true ∧ x.tick = s.supply.saveTick ∧ x.shelf = s.shelfState ∧
       x.counters = s.counterImage ∧ t.nvm.saves.tail = s.nvm.saves.take 1) ∧
     t.par oDevice Pid.Device.SAVE_COUNT = s.par oDevice Pid.Device.SAVE_COUNT + 1 ∧
     t.par oDevice Pid.Device.LAST_SAVE_TIME = us.toNat ∧
     t.bit oDevice Pid.Device.HOLD_STATUS hsSAVE_DONE = true) ∧
  (s.supply.cs = .saved → s.supply.vauxGood = true → Runs .saveResume s fun t => t.supply.cs = .run ∧
     (s.shelfState = ssNormal → s.miller.restarting = false → t.shelfState = ssRecovery) ∧
     (s.shelfState ≠ ssNormal → t.shelfState = s.shelfState)) ∧
  (s.csAwake = true → Runs .holdUpEnd s fun t =>
     t.supply.cs = .reset ∧ t.nvm.active = none ∧ t.nvm.queue = [] ∧ (∀ p < 24, (t.phase p).switching = false) ∧
     (s.nvm.active ≠ none → s.par oDevice Pid.Device.NVM_WRITE_COUNT < 4294967295 →
       t.par oDevice Pid.Device.NVM_WRITE_COUNT = s.par oDevice Pid.Device.NVM_WRITE_COUNT + 1)) ∧
  (∀ w, w ≠ .vaon → s.csAwake = true → Runs (.supplyFall w) s fun t =>
     t.supply.cs = .reset ∧ t.nvm.active = none ∧ t.nvm.queue = [] ∧ ∀ p < 24, (t.phase p).switching = false) ∧
  (s.supply.cs ≠ .off → Runs (.supplyFall .vaon) s fun t =>
     t.supply.cs = .off ∧ t.time.latch = none ∧ t.shelf.latched = false)

/-- FLOAT is entered where no FLOAT_BLOCK bit stands. WATCH is entered where the Brake is complete and its writes are granted, by
WATCH_AFTER_BRAKE, by a request that waits, or again after a wake: the tick is latched against its AON count with every output off. A
wake tells its cause and restores the tick from that latch, or, where the latch fails, from the tick journal. The wake timer's row does
not say which contexts fail: that is a free value, the model's choice (log entry 4). -/
def Obligations.DeviceModesChange : Prop := ∀ (s : State) (aon : BitVec 48),
  let asleep (t : State) : Prop := t.supply.cs = .watch ∧ t.deviceMode = 2 ∧ OutputsOff t ∧ t.nvm.active = none ∧
    t.time.latch = some ⟨t.time.tick, aon, t.par oDevice Pid.Device.WALL_OFFSET, true⟩
  (s.miller3 = true → s.deviceMode = 0 → s.floatBlockNow = 0 → Runs .floatEntry s fun t =>
     t.deviceMode = 1 ∧ t.time = s.time ∧ t.shelfState = s.shelfState) ∧
  (s.watchReady = true → s.watchWrites = true →
   (s.deviceMode ≠ 2 → s.par oDevice Pid.Device.WATCH_AFTER_BRAKE = 1 ∨ s.supply.watchDue = true →
     Runs (.watchEntry aon) s asleep) ∧
   (s.deviceMode = 2 → Runs (.watchReturn aon) s asleep)) ∧
  (∀ (sources : BitVec 16) (bad : BitVec 5), s.supply.cs = .watch → sources.toNat % 256 ≠ 0 →
   Runs (.watchWake ⟨sources, bad⟩ aon) s fun t => t.supply.cs = .run ∧
     t.par oDevice Pid.Device.WAKE_CAUSE = (sources.toNat % 256 : Nat) ∧
     (∀ l : TickLatch, s.time.latch = some l → bad.getLsbD 4 = false →
       t.time.tick = l.tick + (aon - l.aon).toNat * 1000000 / 32768 ∧ t.par oDevice Pid.Device.TICK_SOURCE = 0) ∧
     (s.time.latch = none ∨ bad.getLsbD 4 = true →
       (s.time.ceilingWritten = true → t.time.tick = (s.par oDevice Pid.Device.TICK_CEILING).toNat + 1 ∧
         t.par oDevice Pid.Device.TICK_SOURCE = 2 ∧ t.time.wallSuspect = true) ∧
       (s.time.ceilingWritten = false → t.time.tick = 0 ∧ t.par oDevice Pid.Device.TICK_SOURCE = 3))) ∧
  (∀ l : TickLatch, s.supply.cs = .watch → s.time.latch = some l →
   0 < s.par oDevice Pid.Device.WAKE_TIMER_PERIOD → s.par oDevice Pid.Device.WAKE_TIMER_PERIOD ≤ 2592000 →
   Runs .aonWakeTimer s fun t => t.supply.cs = .run ∧ t.par oDevice Pid.Device.WAKE_CAUSE = 64 ∧
     (t.time.tick : Int) =
       if (BitVec.ofInt 5 s.draw.1).getLsbD 4 = false then l.tick + s.par oDevice Pid.Device.WAKE_TIMER_PERIOD * 1000000
       else if s.time.ceilingWritten = true then (s.par oDevice Pid.Device.TICK_CEILING).toNat + 1 else 0)

/-- The release of the control-side reset, once a failed trial and the banks that do not verify are dropped: with RECOVERY_N high,
fewer than two failed trials and a valid bank, firmware starts from that bank, in STARTUP, or in THERMAL_LATCHED where that state was
retained; otherwise the ROM serves with every output off. No operation is held, and in ROM recovery PRIMARY_ADDR is what the straps
give. A level 3 restart gives its cause and count and ends every waiting test; its end lets Hopper serve again, with the packets that
waited. -/
def Obligations.BootAndRestart : Prop :=
  (∀ (s : State) (x : BootIn), s.supply.cs = .reset ∨ s.supply.cs = .off →
   let u := s.bootJournal.bootTrialFailed
   let v := u.dropBanks u.badBanks
   (∀ b, x.recoveryN = true → v.par oUpdater Pid.Updater.TRIAL_FAILS < 2 → v.bootBank = some b →
    Runs (.controlSideBoot x) s fun t => t.supply.cs = .run ∧ t.par oUpdater Pid.Updater.RUNNING_BANK = b ∧
      t.shelfState = (if s.shelf.latched = true ∧ s.supply.cause ≠ .powerUp then ssThermal else ssStartup) ∧
      t.hopper.ops = [] ∧ t.shelf.configApplied = false ∧ t.miller.restarting = false) ∧
   (x.recoveryN = false ∨ 2 ≤ v.par oUpdater Pid.Updater.TRIAL_FAILS ∨ v.bootBank = none →
    Runs (.controlSideBoot x) s fun t => t.supply.cs = .rom ∧ OutputsOff t ∧
      t.hopper.ops = [] ∧ t.shelfState = s.shelfState ∧
      ∀ p, t.par (oPort p) Pid.HPort.PRIMARY_ADDR = 0x58 + x.addr.toNat)) ∧
  (∀ s : State,
   (∀ cause : Byte, s.running = true → 1 ≤ cause.toNat → cause.toNat ≤ 5 →
    s.par oDevice Pid.Device.L3_RESTART_COUNT < 4294967295 → Runs (.l3Restart cause) s fun t =>
      t.miller.restarting = true ∧ t.par oDevice Pid.Device.L3_RESTART_CAUSE = cause.toNat ∧
      t.par oDevice Pid.Device.L3_RESTART_COUNT = s.par oDevice Pid.Device.L3_RESTART_COUNT + 1 ∧
      (∃ n, (cause.toNat, n) ∈ t.miller.causes) ∧ ∀ h ∈ t.dresser.tests, 1 < h.state) ∧
   (s.running = true → s.miller.restarting = true → Runs .l3RestartEnd s fun t =>
      t.miller.restarting = false ∧ t.miller.causes = [] ∧ t.miller.shifts = [] ∧ (∀ p, (t.port p).waiting = []) ∧
      ∃ u : State, u.miller.restarting = false ∧ (∀ p, (u.port p).waiting = (s.port p).waiting) ∧
        t = (u.takeWaiting .ha).takeWaiting .hb))

/-! ## Non-volatile memory -/

/-- A page of the transaction in progress is programmed, and one of the save; the last one commits the transaction, which for the tick
record, the counters, the triggers and an object's configuration writes what they are then. The capacitance test gives its measurement,
a free one where its sum gives none (log entry 4), and is asked for when it is due. -/
def Obligations.NvmCommits : Prop := ∀ s : State,
  (∀ r n, s.mramOn = true → s.nvm.active = some (r, n) → 1 < n →
     exec .nvmPageProgram s = .next { s with nvm := { s.nvm with active := some (r, n - 1) } }) ∧
  (s.supply.cs = .saving → s.nvm.active = none → Runs .nvmPageProgram s fun t =>
     t.supply.savePages = min 6 (s.supply.savePages + 1) ∧ Foot [.supply] (some []) s t) ∧
  (∀ r n, s.mramOn = true → s.nvm.active = some (r, n) → n ≤ 1 →
   s.par oDevice Pid.Device.NVM_WRITE_COUNT < 4294967295 → Runs .nvmTransactionCommit s fun t =>
     t.nvm.active = none ∧
     t.par oDevice Pid.Device.NVM_WRITE_COUNT = s.par oDevice Pid.Device.NVM_WRITE_COUNT + 1 ∧
     (r.work = .tickRecord → t.par oDevice Pid.Device.TICK_CEILING = s.time.tick + 3600000000) ∧
     (r.work = .counters → t.nvm.counters = s.counterImage) ∧
     (r.work = .triggers → t.nvm.triggers = s.grist.triggers) ∧
     (∀ o, r.work = .configObjects [o] → objType o ≠ .feeder → ∀ pid ∈ configPids o,
       (lookupKey (keyOf o pid) t.nvm.config).getD (paramReset o pid) = s.par o pid)) ∧
  (∀ dv1 dv2 : Nat, s.miller3 = true → s.supply.cholds = true → Runs (.choldTest dv1 dv2) s fun t =>
     t.supply.cholds = false ∧ t.par oDevice Pid.Device.CHOLD_TEST_TICK = s.time.tick ∧
     (10 ≤ dv1 + dv2 → t.par oDevice Pid.Device.CHOLD_MEASURED = roundDiv 40000000000 ((dv1 : Int) + dv2)) ∧
     (10 * t.par oDevice Pid.Device.CHOLD_MEASURED < 9 * s.par oDevice Pid.Device.CHOLD_RATED →
       t.bit oDevice Pid.Device.HOLD_STATUS hsCHOLD_LOW = true)) ∧
  (s.miller3 = true → s.thermalLatched = false → Runs .choldTestDue s fun t =>
     (t.nvm.queue.any fun q => q.work == .choldTest) = true ∧ Foot [.nvm] (some []) s t)

/-! ## Sensing and metering -/

/-- A sample of a fixed round becomes its channel's value, through the calibration chain. A feeder's good sample is
accumulated with its segment's, exact to the femtojoule: whole millijoules go to E_OUT, the rest is carried; nothing accumulates while
the link is lost or from the start of a save on. Every energy counter passes from 0x7FFFFFFFFFFFFFFF to 0 and continues. -/
def Obligations.SamplesConvertAndAccumulate : Prop :=
  (∀ (s : State) (sar7 : Bool) (slot : Fin 16) (x : Sample),
   let o := slotObj sar7 slot.val
   let v := s.calibrate o x.nv
   s.supply.psdOk = true → Runs (.sarRoundSlot sar7 slot x) s fun t =>
     (t.chanOf o).value = v ∧
     (objType o = .feeder → s.accumulates = true → s.feederSeg (o - 0x30) < 4 →
      (s.seg (s.feederSeg (o - 0x30))).chan.fail = false → (t.chanOf o).fail = false →
      let f := o - 0x30
      let fj := (s.seg (s.feederSeg f)).chan.value * v * 2
      0 ≤ fj →
      t.par o Pid.Feeder.E_OUT =
        (s.par o Pid.Feeder.E_OUT + (((s.feeder f).acc.pos + fj.natAbs) / 1000000000000 : Nat)) % 9223372036854775808 ∧
      (t.feeder f).acc.pos = ((s.feeder f).acc.pos + fj.natAbs) % 1000000000000) ∧
     (s.accumulates = false → ∀ o pid, pid < 4096 → pid ∉ [pSenseStatus, Pid.SOURCE_SEQ, Pid.Grist.NEWEST_GEN,
        Pid.Grist.OLDEST_GEN, Pid.Grist.FIRST_BASE_GEN, Pid.Grist.FIRST_COUNT, Pid.Grist.SUPPRESSED] → t.par o pid = s.par o pid)) ∧
  (∀ (s : State) (o pid mj : Nat), pid < 4096 → (s.addEnergy o pid mj).par o pid = (s.par o pid + mj) % 9223372036854775808)

/-- A self-check that fails twice in a row makes the channel fail, and a phase that switches on it is removed; in a slot of the round
the channel's previous sample stands in, and a check that would replace a second phase sample of its converter in one period waits. A
sample request takes the period's instant, and a slot 125 ns late sets SKEW. The end of a metering window reports a string's voltage,
or tracks the gain on a large mean and the offset on a small one, up to the limit, which freezes it. The journals of tracking values and
counters are asked for. -/
def Obligations.ChannelsAreChecked : Prop := ∀ s : State,
  (∀ (ch : SarChannel) (pass : Bool), s.supply.psdOk = true →
   (∀ p, ch = .phase p → s.checkReplaces p.val = true → s.otherReplaced p.val = true →
     exec (.sarSelfCheck ch pass) s = .next s) ∧
   ((∀ p, ch = .phase p → s.checkReplaces p.val = false ∨ s.otherReplaced p.val = false) →
    Runs (.sarSelfCheck ch pass) s fun t =>
     (t.chanOf (sarObj ch)).check = (!pass && decide (1 ≤ (s.chanOf (sarObj ch)).failRun)) ∧
     ((∀ p, ch ≠ .phase p) → (t.chanOf (sarObj ch)).value = (s.chanOf (sarObj ch)).value ∧
       (t.chanOf (sarObj ch)).sum = (s.chanOf (sarObj ch)).sum + (s.chanOf (sarObj ch)).value ∧
       (t.chanOf (sarObj ch)).n = (s.chanOf (sarObj ch)).n + 1) ∧
     (∀ p, ch = .phase p → pass = false → 1 ≤ (s.phase p.val).chan.failRun → (s.phase p.val).chan.fail = false →
       (s.phase p.val).switching = true → s.wheelRuns = true →
       t.objSt (oPhase p.val) = osFailed ∧ (t.phase p.val).switching = false))) ∧
  (∀ (p : Fin 24) (ns : Nat), s.psdPowered = true → (s.phase p.val).switching = true →
   Runs (.sampleRequest p ns) s fun t =>
     (t.phase p.val).request = s.sampleInstant p.val ∧
     t.bit (oPhase p.val) pSenseStatus ssSKEW = (s.bit (oPhase p.val) pSenseStatus ssSKEW || decide (125 ≤ ns)) ∧
     Foot [.phases] (some [pSenseStatus]) s t) ∧
  (∀ (ch : MeterChannel) (nv lo hi : Int), s.miller3 = true → s.supply.psdOk = true → s.linkUp = true →
   vget s.wheel.dsSpoilt (meterIx ch) false = false →
   (∀ k, ch = .stringVoltage k → Runs (.trackingWindowEnd ch nv lo hi) s fun t =>
     t.par (oString k.val) Pid.String.V_METER = stringVolts nv ∧
     Foot [.wheel, .strings] (some [Pid.String.V_METER]) s t) ∧
   (let o := meterObj ch
    let mds := s.calibrateMeter o nv
    let msar := (s.sarMean o).1
    let g := roundDiv (s.par o pGainTrack * (3 * msar + mds)) (4 * msar)
    let off := s.par o pOffsetTrack + roundDiv (msar - mds) 4
    let limited (t : State) : Prop := t.bit o pSenseStatus ssTRACK_LIMIT = true ∧ (t.chanOf o).frozen = true
    (∀ k, ch ≠ .stringVoltage k) → s.windowSpoilt o lo hi = false → (s.chanOf o).frozen = false →
    (s.fullScale o ≤ 10 * mds.natAbs → msar ≠ 0 → Runs (.trackingWindowEnd ch nv lo hi) s fun t =>
      (200 * ((g - 1073741824).natAbs : Int) ≤ 1073741824 → t.par o pGainTrack = g ∧
        Foot [.wheel, .segs, .feeders, .strings, .draws] (some [pGainTrack]) s t) ∧
      (1073741824 < 200 * ((g - 1073741824).natAbs : Int) → limited t)) ∧
    (10 * (mds.natAbs : Int) < s.fullScale o → Runs (.trackingWindowEnd ch nv lo hi) s fun t =>
      (200 * (off.natAbs : Int) ≤ s.fullScale o → t.par o pOffsetTrack = off ∧
        Foot [.wheel, .segs, .feeders, .strings, .draws] (some [pOffsetTrack]) s t) ∧
      (s.fullScale o < 200 * (off.natAbs : Int) → limited t)))) ∧
  (∀ ch, s.miller3 = true → s.trackMoved (sarObj ch) = true → Runs (.trackingJournal ch) s fun t =>
     (t.nvm.queue.any fun q => q.work == .tracking (sarObj ch)) = true ∧ Foot [.nvm] (some []) s t) ∧
  (s.miller3 = true → Runs .energyJournal s fun t =>
     (t.nvm.queue.any fun q => q.work == .counters) = true ∧ Foot [.nvm] (some []) s t)

/-! ## The engine -/

/-- A loop's output keeps to its image's limits, whatever its histories, and a duty is a 32-bit fraction in steps of
four. In every state PWMnA is high from the period start for the on-time of the applied duty, or not at all where that is under
5 ns, PWMnA and PWMnB are never high together, a phase that does not switch drives neither, and SOFT_START keeps PWMnB low.
SYNCOUT is low where it is not enabled, in THERMAL_LATCHED and in SAFE_HOLD. -/
def Obligations.OutputsKeepTheirLimits : Prop :=
  (∀ (img : Bytes) (a : LoopAux) (e : Int),
   imgUMin img ≤ imgUMax img →
   imgUMin img ≤ (evalLaw img a e false).u ∧ (evalLaw img a e false).u ≤ imgUMax img ∧
   (imgPid img = true → imgUMin img ≤ (evalLaw img a e true).u ∧ (evalLaw img a e true).u ≤ imgUMax img) ∧
   dutyOf (evalLaw img a e false).u % 4 = 0 ∧ dutyOf (evalLaw img a e false).u < 4294967296) ∧
  ∀ s : State,
   (∀ p t : Nat,
     (s.pwmA p t = true ↔ (s.phase p).switching = true ∧ 64 ≤ s.onTicks p (s.phase p).duty ∧
       t < s.onTicks p (s.phase p).duty) ∧
     (s.pwmA p t && s.pwmB p t) = false ∧
     ((s.phase p).switching = false → s.pwmA p t = false ∧ s.pwmB p t = false) ∧
     ((s.phase p).softStart = true → s.pwmB p t = false)) ∧
   ∀ t : Nat, s.par oDevice Pid.Device.SYNCOUT_ENABLE ≠ 1 ∨ s.thermalLatched = true ∨ s.safeHold = true →
     s.syncout t = false

/-- An outer loop's trigger evaluates it on its segment's sample and distributes references, none above its phase's
limit; a residue error is counted and makes the lane SUSPECT. -/
def Obligations.OuterLoopsEvaluate : Prop := ∀ (s : State) (lp : Fin 8) (lane : Fin 4),
  s.wheelRuns = true → s.enabled (oOuter lp.val) = true → s.objSt (oOuter lp.val) ≠ osFailed →
  s.actPhases lp.val ≠ [] → s.lane lane.val = 0 → s.loopSeg lp.val < 4 →
  (Runs (.outerTrigger lp lane true) s fun t =>
     t.par (oOuter lp.val) Pid.Loop.SAMPLE_COUNT = (s.par (oOuter lp.val) Pid.Loop.SAMPLE_COUNT + 1) % 4294967296 ∧
     t.par (oOuter lp.val) Pid.Phase.LOOP_MEAS = norm30 (s.seg (s.loopSeg lp.val)).chan.value 8000000 ∧
     ∀ p ∈ s.maskPhases lp.val, (t.phase p).ref ≤ norm30 (s.par (oPhase p) Pid.Phase.I_LIMIT) (s.fsCurrent p)) ∧
  (0 ≤ s.par oDevice Pid.Device.LANE_STATUS → s.par oDevice Pid.Device.RESIDUE_ERRORS < 4294967295 →
   Runs (.outerTrigger lp lane false) s fun t => t.lane lane.val = 2 ∧
     t.par (oOuter lp.val) Pid.Loop.SAMPLE_COUNT = (s.par (oOuter lp.val) Pid.Loop.SAMPLE_COUNT + 1) % 4294967296 ∧
     t.par oDevice Pid.Device.RESIDUE_ERRORS = s.par oDevice Pid.Device.RESIDUE_ERRORS + 1)

/-- A phase's sample, or where a self-check has replaced it the previous current, is the phase's current, and a good one is evaluated
on the phase's reference, in FLOAT every eighth: the loop's measurement and its count follow, and MAX_LATENCY keeps the greatest. A
sample that makes its channel fail removes the phase; a lane out of service evaluates none, and a residue error makes the lane
SUSPECT. -/
def Obligations.InnerLoopsEvaluate : Prop := ∀ (s : State) (p : Fin 24) (x : Sample) (lane : Fin 4) (ns : BitVec 16) (ok : Bool),
  let o := oPhase p.val
  let v := if (s.phase p.val).replaced then (s.phase p.val).current else s.calibrate o x.nv
  let fails := ((s.phaseSample p.val x).phase p.val).chan.fail = true ∧ (s.phase p.val).chan.fail = false
  s.wheelRuns = true → (s.phase p.val).switching = true →
  (fails → Runs (.innerEvaluation p x lane ns ok) s fun t =>
    t.objSt o = osFailed ∧ (t.phase p.val).switching = false ∧ (t.phase p.val).current = v) ∧
  (¬ fails → ((s.loop p.val).slow = true → (s.phase p.val).floatRun = 7) → Runs (.innerEvaluation p x lane ns ok) s fun t =>
    (t.phase p.val).current = v ∧
    (s.lane lane.val ≠ 0 → s.par oDevice Pid.Device.LATE_EVALS < 4294967295 →
      t.par oDevice Pid.Device.LATE_EVALS = s.par oDevice Pid.Device.LATE_EVALS + 1) ∧
    (s.lane lane.val = 0 → t.par o Pid.Phase.SAMPLE_COUNT = (s.par o Pid.Phase.SAMPLE_COUNT + 1) % 4294967296) ∧
    (s.lane lane.val = 0 → ok = false → 0 ≤ s.par oDevice Pid.Device.LANE_STATUS → t.lane lane.val = 2) ∧
    (s.lane lane.val = 0 → ok = true →
      t.par o Pid.Phase.LOOP_REF = s.innerRef p.val ∧
      t.par o Pid.Phase.LOOP_MEAS = norm30 v (s.fsCurrent p.val) ∧
      (t.phase p.val).shadow < 4294967296 ∧
      t.par oDevice Pid.Device.MAX_LATENCY = max (s.par oDevice Pid.Device.MAX_LATENCY) ns.toNat)) ∧
  ((s.phase p.val).chan.fail = false → ¬ fails → (s.loop p.val).slow = true → (s.phase p.val).floatRun < 7 →
    Runs (.innerEvaluation p x lane ns ok) s fun t => (t.phase p.val).current = v ∧
      t.par o Pid.Phase.SAMPLE_COUNT = s.par o Pid.Phase.SAMPLE_COUNT)

/-- A period start applies the shadow duty within D_MIN and D_MAX; a phase that waits for its soft start begins it there, and so does a
ready phase on I_REF_FIXED. A group boundary stops the phases shed, starts
those that wait to be added, and spreads the angles evenly; a failed phase is counted. A valid edge of SYNCIN gives SYNC_FREQ; the
sixteenth begins ACQUIRING, which ends LOCKED at SYNCIN's period within one fine tick; an invalid edge is a missing one. A second
missing edge leaves the lock, and is counted. -/
def Obligations.PhasesFollowTheirClock : Prop :=
  (∀ s : State,
   (∀ p : Fin 24, s.linkUp = true → s.psdPowered = true → (s.phase p.val).switching = true →
    Runs (.pwmPeriodStart p) s fun t => (t.phase p.val).duty = s.limitedDuty p.val (s.phase p.val).shadow ∧
      (t.phase p.val).periods = (s.phase p.val).periods + 1 ∧ (t.phase p.val).moving = false) ∧
   (∀ p : Fin 24, s.wheelRuns = true → (s.phase p.val).switching = false →
    ((s.phase p.val).wait = some .soft ∨ s.loneReady p.val = true) →
    Runs (.pwmPeriodStart p) s fun t => (t.phase p.val).switching = true ∧ (t.phase p.val).wait = none ∧
      (t.phase p.val).softStart = true ∧ (t.phase p.val).periods = 1) ∧
   (∀ f : Word, s.wheelRuns = true → s.group f.toNat ≠ [] → Runs (.groupBoundary f) s fun t =>
      (∀ p ∈ s.group f.toNat, (s.phase p).shed = true → (s.phase p).switching = true →
        (t.phase p).switching = false ∧ (t.phase p).reefed = true) ∧
      (∀ p ∈ s.group f.toNat, (s.phase p).switching = false → (s.phase p).wait = some .reef →
        (t.phase p).switching = true) ∧
      let on := (t.group f.toNat).filter fun p => (t.phase p).switching
      ∀ e ∈ on.zipIdx,
        t.par (oPhase e.1) Pid.Phase.ANGLE_NOW = roundDiv (e.2 * 65536 : Nat) (on.length : Nat)) ∧
   (∀ p : Fin 24, s.miller3 = true → (s.phase p.val).notice = true →
    s.par (oPhase p.val) Pid.Phase.FAIL_COUNT < 4294967295 → Runs (.phaseFailNotice p) s fun t =>
      (t.phase p.val).notice = false ∧
      t.par (oPhase p.val) Pid.Phase.FAIL_COUNT = s.par (oPhase p.val) Pid.Phase.FAIL_COUNT + 1)) ∧
  (∀ s : State, s.syncOn = true →
   (∀ (f : Word) (err : Nat),
      let nom := s.par oDevice Pid.Device.SYNC_NOMINAL
      let valid : Prop := 10 * ((f.toNat - nom : Int).natAbs : Int) ≤ nom ∧ 100000 ≤ f.toNat ∧ f.toNat ≤ 2000000
      (valid → Runs (.syncinEdge f err) s fun t =>
        t.par oDevice Pid.Device.SYNC_FREQ = f.toNat ∧ t.wheel.syncMisses = 0 ∧
        t.wheel.syncEdges = min 16 (s.wheel.syncEdges + 1) ∧
        (s.par oDevice Pid.Device.SYNC_STATUS ≠ 1 → s.par oDevice Pid.Device.SYNC_STATUS ≠ 2 →
          15 ≤ s.wheel.syncEdges → t.par oDevice Pid.Device.SYNC_STATUS = 1) ∧
        (s.par oDevice Pid.Device.SYNC_STATUS = 1 → s.wheel.syncPeriod = fineTicks f.toNat →
          err ≤ 1 → t.par oDevice Pid.Device.SYNC_STATUS = 2)) ∧
      (¬ valid → exec (.syncinEdge f err) s = exec .syncinMissing s)) ∧
   (s.wheel.syncMisses = 0 → Runs .syncinMissing s fun t => t.wheel.syncMisses = 1 ∧
     t.par oDevice Pid.Device.SYNC_STATUS = s.par oDevice Pid.Device.SYNC_STATUS) ∧
   (s.wheel.syncMisses = 1 →
    (s.par oDevice Pid.Device.SYNC_STATUS = 1 ∨ s.par oDevice Pid.Device.SYNC_STATUS = 2) →
    s.par oDevice Pid.Device.SYNC_LOSS_COUNT < 4294967295 → Runs .syncinMissing s fun t =>
      t.par oDevice Pid.Device.SYNC_STATUS = 3 ∧ t.par oDevice Pid.Device.SYNC_FREQ = 0 ∧
      t.par oDevice Pid.Device.SYNC_LOSS_COUNT = s.par oDevice Pid.Device.SYNC_LOSS_COUNT + 1))

/-- At its registration a swap gives each named loop that does not evaluate its other bank, and all of them where the loop that it is
aligned to does not evaluate; loops that evaluate wait for their next evaluation. A load writes its bank, but where FLOAT has taken the
bank it is answered LOCKED. The end of an injection's measured part answers COMPLETE, and a capture whose samples are all stored is
DONE. -/
def Obligations.BanksAndBench : Prop :=
  (∀ s : State,
   (∀ j, (s.wheel.swaps.find? fun x => !x.registered) = some j → j.left.Nodup → (∀ n ∈ j.left, n < 32) →
    Runs .swapRegistration s fun t =>
      (∀ n ∈ j.left, s.evaluating n = false ∨ j.mode = 1 ∧ s.evaluating j.align = false →
        t.par (oLoop n) Pid.Phase.ACTIVE_BANK = ((1 - s.activeBank n : Nat) : Int)) ∧
      ((∀ n ∈ j.left, s.evaluating n = true) → (j.mode = 1 → s.evaluating j.align = true) →
        { j with registered := true } ∈ t.wheel.swaps ∧
        ∀ n < 32, t.par (oLoop n) Pid.Phase.ACTIVE_BANK = s.par (oLoop n) Pid.Phase.ACTIVE_BANK)) ∧
   (∀ j rest, s.wheel.loads = j :: rest → s.miller3 = true → j.loop < 32 → j.bank ≤ 2 →
    (j.bank = 2 ∨ s.inFloat = false → s.par (oLoop j.loop) (loadGenPid j.bank) < 4294967295 → Runs .bankLoadCommit s fun t =>
      t.wheel.loads = rest ∧ (t.loop j.loop).bank j.bank = some j.image ∧
      t.par (oLoop j.loop) (loadGenPid j.bank) = s.par (oLoop j.loop) (loadGenPid j.bank) + 1 ∧
      (j.bank = 2 → (t.nvm.queue.any fun q => q.work == .loopImage j.loop 1) = true)) ∧
    (j.bank < 2 → s.inFloat = true → Runs .bankLoadCommit s fun t =>
      t.wheel.loads = rest ∧ t.loops = s.loops ∧
      ∀ e id, j.op = some id → s.opOf id = some e → s.enabled (oPort e.port) = true → e.tag < 64 →
        ∃ x ∈ (t.port e.port).replies, x.op = some e.id ∧ x.status = stLOCKED ∧ x.reason = 5))) ∧
  (∀ s : State,
   (s.flume.running = true → s.flumeOver = true → Runs .flumeEnd s fun t =>
      t.flume.running = false ∧ t.par oDevice Pid.Device.FLUME_STATE = 0 ∧
      t.par oDevice Pid.Device.FLUME_STOP_CAUSE = fcCOMPLETE ∧
      ∀ e id, s.flume.op = some id → s.opOf id = some e → s.enabled (oPort e.port) = true → e.tag < 64 →
        ∃ x ∈ (t.port e.port).replies, x.op = some e.id ∧ x.status = stOK ∧ x.payload = s.flumePayload fcCOMPLETE) ∧
   (s.traceState = tsTRIGGERED → s.trace.after = 0 →
      exec .tailraceDone s = .next (s.setPar oDevice Pid.Device.TAILRACE_STATE tsDONE)))

/-! ## Segments -/

/-- A segment that may start begins its soft start: its set-points start from the bus and its ready phases wait. It is
ACTIVE once its set-points are there; at the end of its off-time it starts again, where it may. A failed attempt stops the segment's
converter and is counted; the third latches the segment with HICCUP_LIMIT, and one by OVERVOLT holds the next until the bus has
fallen. -/
def Obligations.SegmentsFollow : Prop :=
  (∀ (s : State) (b : Fin 4),
   let begun (t : State) : Prop := t.objSt (oSeg b.val) = osStarting ∧
     (∀ m ∈ s.loopsOfSeg b.val, t.par (oOuter m) Pid.Loop.SETPOINT_NOW =
       min (s.par (oSeg b.val) Pid.Segment.V_FAST) (s.par (oOuter m) Pid.Loop.SETPOINT_TARGET)) ∧
     ∀ p ∈ s.phasesOfSeg b.val, s.phaseReady p = true → (t.phase p).wait = some .soft
   (s.segMayStart b.val = true → Runs (.segmentStart b) s begun) ∧
   (s.miller3 = true → s.objSt (oSeg b.val) = osStarting → s.enabled (oSeg b.val) = true →
    (∀ m ∈ s.loopsOfSeg b.val,
      s.par (oOuter m) Pid.Loop.SETPOINT_NOW = s.par (oOuter m) Pid.Loop.SETPOINT_TARGET ∧
      within2 (s.par (oSeg b.val) Pid.Segment.V_FAST) (s.par (oOuter m) Pid.Loop.SETPOINT_TARGET) = true) →
    Runs (.segmentActive b) s fun t => t.objSt (oSeg b.val) = osActive ∧
      t.par (oSeg b.val) Pid.Segment.HICCUP_ATTEMPTS = 0 ∧ (t.seg b.val).activeTick = s.time.tick) ∧
   (let u := s.modSeg b.val fun a => { a with offTime := false }
    s.miller3 = true → (s.seg b.val).offTime = true →
    (u.segMayStart b.val = true → Runs (.hiccupOffTimeEnd b) s fun t => begun t ∧ (t.seg b.val).offTime = false) ∧
    (u.segMayStart b.val = false → exec (.hiccupOffTimeEnd b) s = .next u))) ∧
  (∀ (s : State) (b : Fin 4),
   let o := oSeg b.val
   let n := s.par o Pid.Segment.HICCUP_ATTEMPTS
   let failed (t : State) : Prop :=
     t.par o Pid.Segment.HICCUP_ATTEMPTS = n + 1 ∧
     t.par o Pid.Segment.HICCUP_TOTAL = s.par o Pid.Segment.HICCUP_TOTAL + 1 ∧
     (∀ p ∈ s.phasesOfSeg b.val, (t.phase p).switching = false) ∧
     (n + 1 < 3 → t.objSt o = osWaiting ∧ (t.seg b.val).offTime = true) ∧
     (3 ≤ n + 1 → t.objSt o = osLatched ∧ (t.seg b.val).offTime = false ∧ t.bit o Pid.FAULT_LATCH flHiccupLimit = true)
   s.par o Pid.Segment.HICCUP_TOTAL < 4294967295 →
   (s.miller3 = true → s.segRuns b.val = true → s.par o Pid.Segment.V_FAST < s.par o Pid.Segment.SEG_UV →
    Runs (.runUndervolt b) s failed) ∧
   (s.wheelRuns = true → (s.segRuns b.val = true ∨ s.objNow o = osStarting) →
    s.par o Pid.Segment.SEG_OV < (s.seg b.val).chan.value → Runs (.overvolt b) s fun t =>
      failed t ∧ (t.seg b.val).overHold = decide (n + 1 < 3) ∧ (t.seg b.val).overTick = some s.time.tick))

/-! ## Feeders, strings and comparators -/

/-- A feeder is latched off for some causes: the gate is down, every cause's bit is set, the trip is counted. -/
structure FeederTripped (s t : State) (f : Nat) (bits : List Nat) : Prop where
  state : t.objSt (oFeeder f) = osLatched
  gate  : (t.feeder f).gate = false
  bits  : ∀ b ∈ bits, t.bit (oFeeder f) Pid.FAULT_LATCH b = true
  total : s.par (oFeeder f) Pid.Feeder.TRIP_TOTAL < 4294967295 →
    t.par (oFeeder f) Pid.Feeder.TRIP_TOTAL = s.par (oFeeder f) Pid.Feeder.TRIP_TOTAL + 1

/-- A microsecond of Sluice: the tick advances by one, and every feeder's inputs enter, its regulation flag and seat counts among them.
A stable seat counts as seated, and one that was reseated clears the latch; an open seat pulls the gate down and is
counted, a set Weir latch read first; an elapsed insertion delay starts the ramp of a feeder that Fantail serves. -/
def Obligations.FeedersFollow : Prop :=
  (∀ (s : State) (ins : Vector FeederIn 16), s.sluiceRuns = true →
   Runs (.sluiceTick ins) s fun t =>
     t.time.tick = s.time.tick + (if s.tickCounts then 1 else 0) ∧
     ∀ f : Fin 16,
       (t.feeder f.val).cl = s.clFlag f.val ins[f.val].shunt ∧ (t.feeder f.val).vds = ins[f.val].vds.toNat ∧
       (t.feeder f.val).vgsOk = ins[f.val].vgsOk ∧ (t.feeder f.val).low = ins[f.val].seatLow ∧
       (t.feeder f.val).seatLow = (if ins[f.val].seatLow then min 10000 ((s.feeder f.val).seatLow + 1) else 0) ∧
       (t.feeder f.val).seatHigh = (if ins[f.val].seatLow then 0 else min 20 ((s.feeder f.val).seatHigh + 1))) ∧
  (∀ (s : State) (f : Fin 16), s.sluiceRuns = true →
   (Runs (.seatStable f) s fun t => (t.feeder f.val).seated = true ∧
      ((s.feeder f.val).reseat = true → s.objSt (oFeeder f.val) = osLatched →
        t.par (oFeeder f.val) Pid.FAULT_LATCH = 0 ∧ (t.feeder f.val).reseat = false)) ∧
   ((s.feeder f.val).seatHigh < 20 → s.par (oFeeder f.val) Pid.Feeder.SEAT_EVENTS < 4294967295 →
    Runs (.seatOpen f) s fun t => (t.feeder f.val).seated = false ∧ (t.feeder f.val).gate = false ∧
      t.par (oFeeder f.val) Pid.Feeder.SEAT_EVENTS = s.par (oFeeder f.val) Pid.Feeder.SEAT_EVENTS + 1 ∧
      (s.feederOn f.val = true →
        t.objSt (oFeeder f.val) = (if weirBits (s.feeder f.val).weir = [] then osWaiting else osLatched)) ∧
      (s.objSt (oFeeder f.val) = osLatched →
        t.objSt (oFeeder f.val) = osLatched ∧ (t.feeder f.val).reseat = true)) ∧
   ((s.feeder f.val).low = true → s.windowsNow f.val = true → Runs (.insertDelay f) s fun t =>
      s.par (oFeeder f.val) Pid.Feeder.INSERT_DELAY ≤ (t.feeder f.val).insertRun ∧
      let d := (s.par (oFeeder f.val) Pid.Feeder.INSERT_DELAY).toNat
      let w := s.modFeeder f.val fun a => { a with windowOk := true, insertRun := max a.insertRun d }
      ((s.feeder f.val).serve = true → w.feederReady f.val = true → s.linkUp = true → s.miller.restarting = false →
        (s.consF f.val).masked = false → s.par (oFeeder f.val) Pid.Feeder.I_LIMIT ≠ 0 →
        t.objSt (oFeeder f.val) = osStarting ∧ (t.feeder f.val).gate = true)))

/-- Every protection of a feeder latches it with its cause and with that of a set Weir latch, and a fast trip by a comparator that is
not masked, as FAILED or as the one under proof, pulls the gate down at once; a masked one does nothing. -/
def Obligations.ProtectionsTrip : Prop := ∀ (s : State) (f : Fin 16),
  (s.sluiceRuns = true →
   let trips (t : State) (own : Nat) : Prop := FeederTripped s t f.val (own :: weirBits (s.feeder f.val).weir)
   (s.feederOn f.val = true →
    Runs (.faultTimer f) s (fun t => trips t flFaultTimer ∧ s.timerLimit f.val ≤ (t.feeder f.val).timer) ∧
    Runs (.soa f) s (fun t => trips t flSoa ∧ s.soaLimit f.val ≤ (t.feeder f.val).soa) ∧
    (s.par (oFeeder f.val) Pid.Feeder.OV_WINDOW < (s.seg (s.feederSeg f.val)).chan.value →
      Runs (.ovQualify f) s fun t => trips t flOverVoltage) ∧
    (s.par (oFeeder f.val) Pid.Feeder.IT_ENABLE = 1 → (s.feeder f.val).curve ≠ [] →
      Runs (.itCurve f) s fun t => trips t flItCurve)) ∧
   (s.feederStarting f.val = true → Runs (.startTimeout f) s fun t => trips t (flType 3))) ∧
  (∀ byA byB proving, s.psdPowered = true → s.feederOn f.val = true →
   let a := byA && !s.compFailed (oFeeder f.val) false && proving != some false
   let b := byB && !s.compFailed (oFeeder f.val) true && proving != some true
   ((a || b) = true → Runs (.fastTrip f ⟨byA, byB⟩ proving) s fun t => (t.feeder f.val).gate = false ∧
     (t.feeder f.val).weir.latchA = ((s.feeder f.val).weir.latchA || a) ∧
     (t.feeder f.val).weir.latchB = ((s.feeder f.val).weir.latchB || b) ∧ Foot [.feeders] (some []) s t) ∧
   ((a || b) = false → exec (.fastTrip f ⟨byA, byB⟩ proving) s = .next s))

/-- A qualifying string connects; its switch closes when the voltages meet, trips at its timeout, by a set Weir latch first, and
regulates its charge while it is connected; discharge current enhances the gate; a fast trip opens the switch at once. A completed
proof stores its delay and its verdict; a second failure in a row makes the comparator FAILED, and a FAILED one
returns after two passes; a void proof, or one in WATCH, changes nothing. -/
def Obligations.StringsAndProofs : Prop :=
  (∀ (s : State) (k : Fin 4),
   let o := oString k
   let tripped (t : State) (bit : Nat) : Prop := t.objSt o = osLatched ∧ (t.str k.val).connected = false ∧
     t.bit o Pid.FAULT_LATCH bit = true ∧
     (s.par o Pid.String.TRIP_TOTAL < 4294967295 →
       t.par o Pid.String.TRIP_TOTAL = s.par o Pid.String.TRIP_TOTAL + 1)
   let quiet : Prop := (s.str k.val).weir.latchA = false ∧ (s.str k.val).weir.latchB = false
   (s.mayConnect k.val = true → Runs (.stringConnect k) s fun t =>
      t.objSt o = osStarting ∧ (t.str k.val).starting = true ∧ Foot [.strings] (some [Pid.OBJ_STATE]) s t) ∧
   (∀ ok vds, s.sluiceRuns = true → quiet → s.stringStarting k.val = true →
    (ok = true → s.switchClose k.val = true → Runs (.stringSwitchTick k ok vds) s fun t =>
      t.objSt o = osActive ∧ (t.str k.val).connected = true ∧
      ∀ m ∈ s.modulesOf k.val, m < 64 → (t.module m).vrc1 = 0 ∧ (t.module m).vrc2 = 0) ∧
    (ok = false ∨ s.switchClose k.val = false → (s.str k.val).starting = true →
     ((s.par o Pid.String.CONNECT_TIMEOUT).toNat ≤ (s.str k.val).startRun + 1 →
       Runs (.stringSwitchTick k ok vds) s fun t => tripped t (flType 2)) ∧
     ((s.str k.val).startRun + 1 < (s.par o Pid.String.CONNECT_TIMEOUT).toNat →
       Runs (.stringSwitchTick k ok vds) s fun t =>
         (t.str k.val).startRun = (s.str k.val).startRun + 1 ∧ Foot [.strings] (some []) s t))) ∧
   (∀ ok vds, s.sluiceRuns = true → ¬ quiet → s.stringOn k.val = true → Runs (.stringSwitchTick k ok vds) s fun t =>
      tripped t flFastTrip) ∧
   (∀ ok vds, s.sluiceRuns = true → quiet → s.stringStarting k.val = false → (s.str k.val).connected = true →
    Runs (.stringSwitchTick k ok vds) s fun t =>
      t.par o Pid.String.CHARGE_LIMIT_APPLIED = s.chargeLimit k.val vds ∧
      (t.str k.val).enhanced = decide ((s.str k.val).chan.value < 0)) ∧
   (s.sluiceRuns = true → s.stringStarting k.val = true →
    (quiet → Runs (.connectTimeout k) s fun t => tripped t (flType 2)) ∧
    (¬ quiet → Runs (.connectTimeout k) s fun t => tripped t flFastTrip)) ∧
   (s.psdPowered = true → (s.str k.val).connected = true → Runs (.dischargeReversal k) s fun t =>
      (t.str k.val).enhanced = true ∧ (t.str k.val).chgReg = false ∧ Foot [.strings] (some []) s t) ∧
   (∀ byA byB, s.psdPowered = true → s.stringOn k.val = true →
    ((byA = true ∧ s.compFailed o false = false) ∨ (byB = true ∧ s.compFailed o true = false)) →
    Runs (.stringFastTrip k byA byB) s fun t => (t.str k.val).connected = false ∧
      ((t.str k.val).weir.latchA = true ∨ (t.str k.val).weir.latchB = true) ∧ Foot [.strings] (some []) s t)) ∧
  (∀ (s : State) (pair : Fin 20) (b : Bool) (x : ProofIn),
   let o := pairObj pair.val
   let failBit := if b then 2 else 3
   let retryBit := if b then 0 else 1
   s.sluiceRuns = true →
   (s.deviceMode = 2 ∨ x.moved = true ∨ x.tripped = true → exec (.weirProof pair b x) s = .next s) ∧
   (s.deviceMode ≠ 2 → x.moved = false → x.tripped = false → Runs (.weirProof pair b x) s fun t =>
     t.par o (delayPid o b) = (if x.asserted then (x.delay.toNat : Int) else 0xFFFF) ∧
     t.bit o (weirPid o) 4 = proofPasses o x ∧
     (s.bit o (weirPid o) failBit = false → proofPasses o x = false → s.bit o (weirPid o) retryBit = true →
       t.compFailed o b = true) ∧
     (s.bit o (weirPid o) failBit = false → (proofPasses o x = true ∨ s.bit o (weirPid o) retryBit = false) →
       t.compFailed o b = false) ∧
     (s.bit o (weirPid o) failBit = true → proofPasses o x = true →
       1 ≤ (if b then (s.weirOf o).passesB else (s.weirOf o).passesA) → t.compFailed o b = false)))

/-! ## Heat and Fantail -/

/-- A sample of the sensors gives T_NOW as the mean of the newest sixteen and keeps the maximum; where no firmware runs the latch alone
sees it. Two samples at 145 °C latch the device, as the latch's own row does. The thermal latch ends every power-side output, whatever
the device was doing, the shelf is THERMAL_LATCHED and FAULT_N is low. A zone becomes CRIT, which is a Brake cause, and a zone whose warm
sensors have cooled leaves WARN. -/
def Obligations.HeatIsWatched : Prop :=
  (∀ (s : State) (ts : Vector (BitVec 16) 16) (ringOk : BitVec 16),
   (s.running = true → Runs (.thermalSample ts ringOk) s fun t => ∀ n : Fin 16,
       let l := (ts[n.val].toInt :: (s.therm n.val).samples).take 16
       (t.therm n.val).samples = l ∧ (t.therm n.val).ringOk = ringOk.getLsbD n.val ∧
       t.par (oTherm n.val) Pid.Thermal.T_NOW = roundDiv l.sum (l.length : Nat) ∧
       t.par (oTherm n.val) Pid.Thermal.T_MAX_SEEN =
         max (s.par (oTherm n.val) Pid.Thermal.T_MAX_SEEN) (roundDiv l.sum (l.length : Nat)) ∧
       (hotTwice { s.therm n.val with samples := l } = true → t.shelf.latched = true)) ∧
   (s.latchWatches = true → s.supply.cs ≠ .watch → s.running = false → Runs (.thermalSample ts ringOk) s fun t =>
     ∀ n : Fin 16,
       let l := (ts[n.val].toInt :: (s.therm n.val).samples).take 16
       (t.therm n.val).samples = l ∧ (hotTwice { s.therm n.val with samples := l } = true → t.shelf.latched = true))) ∧
  (∀ (s : State) (n : Fin 16), s.latchWatches = true → s.shelf.latched = false →
   Runs (.thermalLatch n) s fun t => t.thermalLatched = true ∧ t.shelf.latched = true ∧ OutputsOff t ∧
     (∀ v < 32, (t.rail v).en = false) ∧ t.faultN = false ∧
     t.bit (oTherm n.val) Pid.Thermal.THERM_STATUS thLATCH_LEVEL = true) ∧
  (∀ (s : State) (z : Fin 8),
   (s.miller3 = true → s.thermalLatched = false → (s.zoneSensors z.val).filter s.sensorCritical ≠ [] →
    s.zoneOf z.val ≠ 2 → s.seq.brake = none → Runs (.zoneCrit z) s fun t =>
      (∀ n ∈ (s.zoneSensors z.val).filter s.sensorCritical, (t.therm n).crit = true) ∧ t.zoneOf z.val = 2 ∧
      t.bit oFantail Pid.Fantail.FANTAIL_STATUS 4 = true ∧ t.seq.brake = some bkTHERMAL ∧
      t.par oShelf Pid.Shelf.SHUTDOWN_CAUSE = bkTHERMAL ∧ t.seq.pfwLow = true) ∧
   (s.miller3 = true → s.zoneOf z.val = 1 →
    (∀ n ∈ s.zoneSensors z.val, (s.therm n).warn = true → s.sensorCooled n = true) →
    Runs (.zoneWarnClear z) s fun t => t.zoneOf z.val = 0 ∧ ∀ n ∈ s.zoneSensors z.val, (t.therm n).warn = false))

/-- A Fantail tick comes to the next whole millisecond, takes the supply monitor's readings and, outside a level 3
restart, THERMAL_LATCHED and WATCH, counts. An overrun is flagged and counted, and nothing of its tick is published. INPUT_LOST rises
and clears; a limit refuses what was deferred: a feeder, a string's charging, the oldest write, an activation. The allocation of a
segment decides every feeder that takes part exactly once, in order of class and number, and serves every one of class 0. -/
def Obligations.FantailDecides : Prop :=
  (∀ s : State,
   (∀ x : FantailIn, s.supply.cs = .run → Runs (.fantailTick x) s fun t =>
      t.time.tick = (s.time.tick / 1000 + 1) * 1000 ∧
      t.par oDevice Pid.Device.VAUX12_NOW = (x.vaux12 / 100 * 100 % 4294967296 : Nat) ∧
      t.par oFantail Pid.Fantail.TICK_COUNT =
        if s.miller.restarting = true ∨ s.thermalLatched = true ∨ s.deviceMode = 2 then s.par oFantail Pid.Fantail.TICK_COUNT
        else (s.par oFantail Pid.Fantail.TICK_COUNT + 1) % 4294967296) ∧
   (s.miller3 = true → s.thermalLatched = false → s.par oFantail Pid.Fantail.OVERRUN_COUNT < 4294967295 →
    Runs .tickOverrun s fun t => t.bit oFantail Pid.Fantail.FANTAIL_STATUS 5 = true ∧
      t.par oFantail Pid.Fantail.OVERRUN_COUNT = s.par oFantail Pid.Fantail.OVERRUN_COUNT + 1 ∧
      t.fantail = { s.fantail with plan := none }) ∧
   (∀ b : Fin 4, s.miller3 = true → s.thermalLatched = false →
    (s.inputLost b.val = false → s.loopsOfSeg b.val ≠ [] → (∀ m ∈ s.loopsOfSeg b.val, s.loopStarved b.val m = true) →
      Runs (.inputLost b true) s fun t => t.inputLost b.val = true) ∧
    (s.inputLost b.val = true → (∀ m ∈ s.loopsOfSeg b.val, s.loopFed b.val m = true) →
      Runs (.inputLost b false) s fun t => t.inputLost b.val = false)) ∧
   (∀ (f : Fin 16) (r : Nat), s.miller3 = true → s.thermalLatched = false → s.deferredReason (oFeeder f.val) = some r →
    (s.consF f.val).requesting = true → s.classOf (oFeeder f.val) ≠ 0 → Runs (.deferralLimit (.feeder f)) s fun t =>
      t.par (oFeeder f.val) Pid.SERVICE_STATUS = (ouREFUSED * 1073741824 + r * 65536 : Nat) ∧
      (t.consF f.val).expired = true) ∧
   (∀ (k : Fin 4) (r : Nat), s.miller3 = true → s.thermalLatched = false → s.deferredReason (oString k.val) = some r →
    (s.consS k.val).requesting = true → Runs (.deferralLimit (.charging k)) s fun t =>
      t.par (oString k.val) Pid.SERVICE_STATUS = (ouREFUSED * 1073741824 + r * 65536 : Nat) ∧
      (t.consS k.val).expired = true) ∧
   (∀ r, s.miller3 = true → s.thermalLatched = false → oldestReq s.nvm.queue = some r → r.work ≠ .staged →
    Runs (.deferralLimit .nvmWrite) s fun t => t.nvm.queue = s.nvm.queue.erase r) ∧
   (∀ r est, s.miller3 = true → s.thermalLatched = false → s.updState = upSCHEDULED → s.upd.stagedOk = true → s.upd.due = true →
    s.activationBlock = some (r, est) → Runs (.deferralLimit .activation) s fun t =>
      t.updState = upSTAGED ∧ t.upd.due = false ∧ t.par oUpdater Pid.Updater.SCHED_MODE = 0xFF)) ∧
  (∀ (s : State) (b : Nat),
   (s.allocate b).out.map (·.1) = s.askingFeeders b ∧
   ∀ e ∈ (s.allocate b).out, s.classOf (oFeeder e.1) = 0 → e.2.1 = true)

/-! ## Rails, walks, the COG line and the button -/

/-- A rail is turned on after its delay, and qualifies from then on. PG of a direct rail rises, in sense mode 1 with its ball above
PG_THRESH; held for its time it makes the rail good. A rail that is not good at its timeout is NOT_GOOD. A drop of PG only counts on a
good rail, is DOWN_FAIL after a Brake cause, and begins the qualification again on one that is not good. RAIL_FAULT is a Brake
cause. A poll of a D2 rail reads its stage, and one that fails is counted, with COMM. A rail turned off in a down state that has not
discharged is STUCK; a direct one in sense mode 1 has discharged when its ball is below DISCHARGE_THRESH. -/
def Obligations.RailsFollow : Prop := ∀ (s : State) (v : Fin 32),
  let o := oRail v.val
  (s.miller3 = true → (s.rail v.val).delaying = true → s.enabled o = true → s.safeHold = false →
   Runs (.onDelay v) s fun t => (t.rail v.val).en = true ∧ (t.rail v.val).delaying = false ∧
     (t.rail v.val).qualifying = true ∧ (t.rail v.val).onTick = s.time.tick ∧
     Foot [.rails, .pols] (some [Pid.Rail.RAIL_STATUS, Pid.Pol.POL_ERRORS]) s t) ∧
  (∀ ball : Word, s.running = true → v.val < 16 →
   (s.senseAnalogue v.val = false ∨ s.pgAt v.val ball = true → Runs (.railPgHigh ⟨v, ball⟩) s fun t =>
     (t.rail v.val).pg = true ∧ (t.rail v.val).qualifying = ((s.rail v.val).en && !(s.rail v.val).good) ∧
     Foot [.rails] (some []) s t) ∧
   (s.senseAnalogue v.val = true → s.pgAt v.val ball = false → exec (.railPgHigh ⟨v, ball⟩) s = .next s) ∧
   (s.senseAnalogue v.val = true → s.pgAt v.val ball = true → exec (.railPgDrop ⟨v, ball⟩) s = .next s)) ∧
  (∀ us : Word, s.miller3 = true → (s.rail v.val).en = true → (s.rail v.val).qualifying = true → (s.rail v.val).pg = true →
   Runs (.railQualified v us) s fun t => (t.rail v.val).good = true ∧ (t.rail v.val).qualifying = false ∧
     t.par o Pid.Rail.LAST_UP_TIME = us.toNat) ∧
  (s.miller3 = true → (s.rail v.val).en = true → (s.rail v.val).good = false → (s.rail v.val).timedOut = false →
   Runs (.pgTimeout v) s fun t => (t.rail v.val).timedOut = true ∧
     t.bit o Pid.Rail.RAIL_STATUS rlNOT_GOOD = true) ∧
  (∀ ball : Word, s.running = true → s.senseAnalogue v.val = false ∨ s.pgAt v.val ball = false →
   ((s.rail v.val).good = true → s.brakeSeen = true → Runs (.railPgDrop ⟨v, ball⟩) s fun t =>
     (t.rail v.val).good = false ∧ (t.rail v.val).faulted = true ∧
     t.bit o Pid.Rail.RAIL_STATUS rlDOWN_FAIL = true) ∧
   ((s.rail v.val).good = true → s.brakeSeen = false → s.par o Pid.Rail.CHATTER_COUNT < 4294967295 →
    Runs (.railPgDrop ⟨v, ball⟩) s fun t => t.par o Pid.Rail.CHATTER_COUNT = s.par o Pid.Rail.CHATTER_COUNT + 1 ∧
     Foot [] (some [Pid.Rail.CHATTER_COUNT]) s t) ∧
   ((s.rail v.val).good = false → Runs (.railPgDrop ⟨v, ball⟩) s fun t => (t.rail v.val).pg = false ∧
     (t.rail v.val).qualifying = ((s.rail v.val).qualifying && !(s.rail v.val).timedOut && !(s.rail v.val).faulted))) ∧
  (s.running = true → (s.rail v.val).good = true → s.enabled o = true → s.brakeSeen = false →
   s.thermalLatched = false → Runs (.railFault v) s fun t => (t.rail v.val).faulted = true ∧
     t.bit o Pid.Rail.RAIL_STATUS rlFAULT = true ∧ t.seq.brake = some bkRAIL_FAULT ∧
     t.par oShelf Pid.Shelf.SHUTDOWN_CAUSE = bkRAIL_FAULT ∧ t.seq.pfwLow = true ∧ t.seq.pfwRunning = true) ∧
  (∀ us : Word, s.miller3 = true → 16 ≤ v.val → (s.rail v.val).en = true ∨ (s.rail v.val).discharging = true →
   s.polOf v.val < 32 →
   let p := oPol (s.polOf v.val)
   (s.polDead (s.polOf v.val) = false →
    (∀ w : BitVec 16, Runs (.railPoll v (.statusWord w) us) s fun t =>
      t.par p Pid.Pol.POL_STATUS_WORD = w.toNat ∧ (t.rail v.val).pg = !w.getLsbD 11) ∧
    (∀ m : BitVec 16,
      let volts := linear m.toNat (s.par p Pid.Pol.VOUT_EXP) 100000
      ((s.rail v.val).discharging = true → volts < s.par o Pid.Rail.DISCHARGE_THRESH → Runs (.railPoll v (.vout m) us) s fun t =>
        (t.rail v.val).discharging = false ∧ t.par o Pid.Rail.LAST_DOWN_TIME = us.toNat) ∧
      ((s.rail v.val).discharging = false ∨ s.par o Pid.Rail.DISCHARGE_THRESH ≤ volts → Runs (.railPoll v (.vout m) us) s fun t =>
        Foot [] (some [Pid.Pol.VOUT]) s t))) ∧
   (∀ x : RailRead, s.polDead (s.polOf v.val) = true ∨ x = .failed ∨ x = .operationFailed →
    s.par p Pid.Pol.POL_ERRORS < 4294967295 → Runs (.railPoll v x us) s fun t =>
      t.par p Pid.Pol.POL_ERRORS = s.par p Pid.Pol.POL_ERRORS + 1 ∧ t.bit o Pid.Rail.RAIL_STATUS rlCOMM = true ∧
      (t.rail v.val).pg = false)) ∧
  (s.miller3 = true → (s.rail v.val).discharging = true → (s.rail v.val).downOff = true → (s.rail v.val).stuck = false →
   Runs (.dischargeTimeout v) s fun t => (t.rail v.val).stuck = true ∧
     t.bit o Pid.Rail.RAIL_STATUS rlSTUCK = true ∧ ∀ p, (t.port p).alertCause.testBit alFault = true) ∧
  (∀ ball us : Word, s.running = true → (s.rail v.val).discharging = true → s.senseAnalogue v.val = true →
   s.emptyAt v.val ball = true → Runs (.railDischarged ⟨v, ball⟩ us) s fun t =>
     (t.rail v.val).discharging = false ∧ (t.rail v.val).stuck = false ∧ t.par o Pid.Rail.LAST_DOWN_TIME = us.toNat)

/-- The power-up walk starts at state 0. A finished state steps on where the unit sequences alone, rests at 15 and 31, and completes the
Brake at 31; an attached unit is READY, and releases the line but for an activation's hold; in MANUAL the next step of a SEQ_STEP is
taken, or its reply made. The power-fail warning ends in BRAKING, at state 16 where the unit walks alone, and by a request pulse where
COG_DOWN_GROUP has the group at rest at 15 go down together. -/
def Obligations.WalksStep : Prop := ∀ s : State,
  (s.miller3 = true → s.shelfState = ssStartup → s.shelf.configApplied = true → s.safeHold = false →
   s.restsAt 31 = true → s.seq.walk = .none → s.seq.attached = false → Runs .powerUpWalkStart s fun t =>
     t.seqState = 0 ∧ t.seqPhase = sqWORK ∧ t.seq.walk = .up ∧
     (s.brakeSeen = false → ∀ v ∈ s.upRails 0, (t.rail v).en = true ∨ (t.rail v).delaying = true)) ∧
  (s.miller3 = true → s.workReady = true → s.seq.walk ≠ .manual → s.seq.attached = false →
   (s.seqState < 31 → s.seqState ≠ 15 → Runs .stateWorkFinished s fun t =>
      t.seqState = s.seqState + 1 ∧ t.seqPhase = sqWORK) ∧
   (s.seqState = 15 → Runs .stateWorkFinished s fun t => t.seqPhase = sqREST ∧ t.seqState = 15) ∧
   (s.seqState = 31 → s.shelfState = ssBraking → s.seq.complete = false → Runs .stateWorkFinished s fun t =>
      t.seqPhase = sqREST ∧ t.seq.complete = true ∧ t.seq.offOps = [] ∧ t.seq.powerOn = false ∧
      (s.seq.powerOn = true → t.miller.restarting = true ∧ t.par oDevice Pid.Device.L3_RESTART_CAUSE = lrPOWER_ON) ∧
      (t.nvm.queue.any fun q => q.work == .shutdownCause) = true)) ∧
  (s.miller3 = true → s.workReady = true → s.seq.walk ≠ .manual → s.seq.attached = true → s.seqPhase ≠ sqREST →
   Runs .stateWorkFinished s fun t => t.seqPhase = sqREADY ∧ t.seq.holding = (s.seq.actHold && s.seq.holding) ∧
     t.seqState = s.seqState) ∧
  (s.miller3 = true → s.workReady = true → s.seq.walk = .manual →
   (0 < s.seq.stepsLeft → Runs .stateWorkFinished s fun t => t.seqState = s.nextSeqState ∧ t.seqPhase = sqMANUAL ∧
      t.seq.stepsLeft = s.seq.stepsLeft - 1) ∧
   (∀ id e, s.seq.stepsLeft = 0 → s.seq.stepOp = some id → s.opOf id = some e → s.enabled (oPort e.port) = true → e.tag < 64 →
      Runs .stateWorkFinished s fun t => t.seqState = s.seqState ∧ t.seq.stepOp = none ∧
        ∃ x ∈ (t.port e.port).replies, x.op = some e.id ∧ x.status = stOK ∧ x.payload = s.stepPayload)) ∧
  (s.running = true → s.seq.pfwRunning = true → Runs .pfwTime s fun t =>
     t.shelfState = ssBraking ∧ t.seq.pfwRunning = false ∧ t.seq.pfwLow = true ∧
     (let group : Prop := s.seq.attached = true ∧ s.restsAt 15 = true ∧ s.par oShelf Pid.Shelf.COG_DOWN_GROUP = 1
      (group → t.seq.pulse = .request ∧ t.seqState = s.seqState) ∧
      (¬ group → t.seqState = 16 ∧ t.seq.attached = false)))

/-- The COG line: a rise steps or rests; a low from rest is too short, a request, a glitch or a reset by its length; a pulse of the unit
ends with the same count; a hold is limited; a stall detaches, and so does a failed join; a joining unit waits at a rise or a low, and
else resets the line. A short press is a power-on request, a long one is recorded; a hold and MR_N force everything off, with RESET_N,
PFW_N and FAULT_N low. -/
def Obligations.CogAndButtons : Prop :=
  (∀ s : State, s.running = true →
   (s.seq.holding = false → s.seq.pulse = .none → s.seqPhase = sqJOINING →
     (Runs .cogRise s fun t => t.seq.joinWait = true ∧ t.seq.lineLow = false ∧ Foot [.seq] (some []) s t) ∧
     ∀ us, Runs (.cogLowEnd us) s fun t => t.seq.joinWait = true ∧ t.seq.lineLow = false ∧ Foot [.seq] (some []) s t) ∧
   (s.seq.attached = true → s.seq.holding = false → s.seq.pulse = .none → s.seqPhase ≠ sqREST → s.seqPhase ≠ sqJOINING →
     (s.seqState = 15 ∨ s.seqState = 31 → Runs .cogRise s fun t => t.seqPhase = sqREST ∧ t.seqState = s.seqState) ∧
     (s.seqState < 31 → s.seqState ≠ 15 → s.par oShelf Pid.Shelf.COG_STEPS < 4294967295 → Runs .cogRise s fun t =>
        t.seqState = s.seqState + 1 ∧ t.seq.holding = true ∧
        t.par oShelf Pid.Shelf.COG_STEPS = s.par oShelf Pid.Shelf.COG_STEPS + 1)) ∧
   (∀ us : Nat, s.seq.attached = true → s.seq.holding = false → s.seqPhase = sqREST → s.seq.pulse = .none →
     (us < 10 → Runs (.cogLowEnd us) s fun t => t.seqState = s.seqState ∧
        (s.seqState = 31 → s.seq.powerOn = true → s.seq.complete = true → s.shelfState = ssBraking →
          t.seq.pulse = .request ∧ t.seq.powerOn = false)) ∧
     (10 ≤ us → us < 200 →
        (s.seqState = 31 → Runs (.cogLowEnd us) s fun t => t.seqState = 0) ∧
        (s.seqState = 15 → s.seq.brake = none → s.thermalLatched = false → Runs (.cogLowEnd us) s fun t =>
          t.seqState = 16 ∧ t.shelfState = ssBraking ∧
          (s.shelfState ≠ ssBraking → t.par oShelf Pid.Shelf.SHUTDOWN_CAUSE = bkGROUP_STEP))) ∧
     (200 ≤ us → us < 1000 → Runs (.cogLowEnd us) s fun t =>
        t.bit oShelf Pid.Shelf.COG_STATUS cgGLITCH = true ∧ t.seqState = s.seqState) ∧
     (1000 ≤ us → Runs (.cogLowEnd us) s fun t =>
        t.bit oShelf Pid.Shelf.COG_STATUS cgRESET_SEEN = true ∧ t.seqState = 0)) ∧
   (s.seq.pulse = .reset → Runs .cogPulseEnd s fun t => t.seqState = 0 ∧ t.seq.attached = true ∧ t.seq.pulse = .none ∧
      t.bit oShelf Pid.Shelf.COG_STATUS cgRESET_SEEN = true) ∧
   (s.seq.pulse = .request → s.seqState = 31 → Runs .cogPulseEnd s fun t => t.seqState = 0 ∧ t.seq.pulse = .none) ∧
   (s.seq.pulse = .request → s.seqState = 15 → s.shelfState = ssBraking → Runs .cogPulseEnd s fun t =>
      t.seqState = 16 ∧ t.seq.pulse = .none) ∧
   (s.seq.attached = true → s.seq.holding = true → s.seq.actHold = false → Runs .cogHoldMax s fun t =>
      t.seq.holding = false ∧ t.seqPhase = sqREADY ∧ t.bit oShelf Pid.Shelf.COG_STATUS cgHOLD_LIMIT = true ∧
      t.seq.workDone = !(s.seqState == 31 && s.brakeOpen) ∧
      (s.seqState < 16 → ∀ v ∈ s.upRails s.seqState, (s.rail v).good = false → (t.rail v).timedOut = true)) ∧
   (s.seq.attached = true → s.seq.holding = false → s.seq.pulse = .none → Runs .cogStall s fun t =>
      t.seq.attached = false ∧ t.seq.detached = true ∧ t.bit oShelf Pid.Shelf.COG_STATUS cgSTALL = true ∧
      ∀ p, (t.port p).alertCause.testBit alFault = true) ∧
   (s.mayJoin = true → s.seq.pulse = .none →
      (s.seqPhase = sqJOINING → Runs .cogJoinWatch s fun t =>
        t.seq.pulse = .reset ∧ t.seq.lineLow = true ∧ Foot [.seq] (some []) s t) ∧
      (s.seqPhase = sqREST → s.seq.detached = true → Runs .cogJoinWatch s fun t =>
        t.seqPhase = sqJOINING ∧ t.seq.detached = false)) ∧
   (s.seqPhase = sqJOINING → s.seq.pulse = .none → Runs .cogJoinTimeout s fun t =>
      t.seq.attached = false ∧ t.seq.detached = true ∧ t.seqPhase ≠ sqJOINING ∧
      (s.seqState = 31 → s.brakeSeen = false → s.safeHold = false → t.seqState = 0))) ∧
  (∀ s : State,
   (∀ ms : Nat, s.running = true → 50 ≤ ms → ms < 2000 → s.par oShelf Pid.Shelf.PB_EVENTS < 4294967295 →
    Runs (.pbPress ms) s fun t => t.par oShelf Pid.Shelf.PB_EVENTS = s.par oShelf Pid.Shelf.PB_EVENTS + 1 ∧
      (s.shelfState = ssBraking → s.seq.complete = true → s.seq.attached = false →
        t.miller.restarting = true ∧ t.par oDevice Pid.Device.L3_RESTART_CAUSE = lrPOWER_ON) ∧
      (s.seq.complete = false → s.seq.brake ≠ none → s.thermalLatched = false → t.seq.powerOn = true)) ∧
   (∀ ms : Nat, s.running = true → 2000 ≤ ms → (ms : Int) < s.par oShelf Pid.Shelf.PB_LONG_TIME * 1000 →
    Runs (.pbPress ms) s fun t => t.seq = s.seq ∧ t.shelfState = s.shelfState) ∧
   (s.supply.cs ≠ .off → s.supply.cs ≠ .reset → s.shelf.latched = false → Runs .forceOff s fun t =>
      t.supply.cs = .reset ∧ OutputsOff t ∧ t.par oShelf Pid.Shelf.SHUTDOWN_CAUSE = 5 ∧ t.nvm.queue = [] ∧
      t.pfwN = false ∧ t.resetN = false ∧ t.faultN = false) ∧
   (s.supply.cs ≠ .off → s.supply.cs ≠ .reset → Runs .mrN s fun t =>
      t.supply.cs = .reset ∧ OutputsOff t ∧ t.par oShelf Pid.Shelf.SHUTDOWN_CAUSE = 6 ∧ t.nvm.queue = [] ∧
      t.pfwN = false ∧ t.resetN = false ∧ t.faultN = false))

/-! ## Startup and recovery -/

/-- STARTUP reads the shelf identity, with one retry, and a mismatch is seen, where D3's bus is free; it applies the stored
configuration and triggers; it ends after its time, in a level 3 restart at its end. RECOVERY is entered on the collapse of every
enabled segment, and ends settled or after 60 s. -/
def Obligations.StartupAndRecovery : Prop := ∀ s : State,
  (∀ first retry : Option Bytes, s.miller3 = true → s.shelfState = ssStartup → s.shelf.configApplied = false →
   Runs (.shelfIdRead first retry) s fun t =>
     let read : Int := (((identityOf first).or (identityOf retry)).getD 0xFFFFFFFF : Nat)
     let found : Int := if s.par (oDown 3) Pid.Down.DS_STATE = dsFAULT then 0xFFFFFFFF else read
     t.par oShelf Pid.Shelf.SHELF_ID_FOUND = found ∧
     t.par oShelf Pid.Shelf.ID_MISMATCH = (if found = s.par oShelf Pid.Shelf.SHELF_ID then 0 else 1) ∧
     (found ≠ s.par oShelf Pid.Shelf.SHELF_ID → t.shelf.mismatchSeen = true)) ∧
  (s.miller3 = true → s.shelfState = ssStartup → s.shelf.configApplied = false →
   (∀ k < 4, s.storedConfig (keyOf (oString k) Pid.String.MODULE_COUNT) ≤ 16) → Runs .startupConfigApplied s fun t =>
     t.shelf.configApplied = true ∧
     t.grist.triggers = s.nvm.triggers.map (fun x : Trigger => { x with armed := true, last := none, lastFire := none }) ∧
     ∀ v < 32, ∀ pid d, findDesc (oRail v) pid = some d → d.src = .config → pid < 4096 → pid ≠ Pid.ENABLE →
       t.par (oRail v) pid = s.storedConfig (keyOf (oRail v) pid)) ∧
  (s.running = true → s.shelfState = ssStartup → s.shelf.configApplied = true → s.shelf.mismatchSeen = false →
   Runs .startupTimeout s fun t =>
     (s.miller.restarting = false → t.shelfState = ssNormal ∧ t.par oShelf Pid.Shelf.STATE_ENTRY_TICK = s.time.tick) ∧
     (s.miller.restarting = true → t.shelfState = ssStartup ∧
       t.miller.shifts = s.miller.shifts ++ [.toState ssNormal.toNat scTIMEOUT])) ∧
  (s.miller3 = true → s.shelfState = ssNormal → s.enabledSegs ≠ [] →
   (∀ b ∈ s.enabledSegs, s.par (oSeg b) Pid.Segment.V_FAST < s.par (oSeg b) Pid.Segment.SEG_UV) →
   Runs .recoveryEntry s fun t => t.shelfState = ssRecovery) ∧
  (∀ sixty : Bool, s.miller3 = true → s.shelfState = ssRecovery →
   (∀ b ∈ s.enabledSegs, s.par (oSeg b) Pid.Segment.SEG_UV ≤ s.par (oSeg b) Pid.Segment.V_FAST ∧
     s.par (oSeg b) Pid.Segment.V_FAST ≤ s.par (oSeg b) Pid.Segment.SEG_OV) →
   ((∀ f < 16, s.feederSettled f = true) ∨ sixty = true) → Runs (.recoveryExit sixty) s fun t => t.shelfState = ssNormal)

/-! ## Grist -/

/-- A record takes the next generation and the next number of its source, joins the circular area in the place of the one
2048 generations before it, and the first area while that has room. The mirror is asked for, a late one raises ALERT, and a
nonce expires. -/
def Obligations.RecordsAreKept : Prop := ∀ s : State,
  (∀ (source cls event : Nat) (words : List Word) (late : Bool),
     let t := s.storeRec source cls event late words
     t.par source Pid.SOURCE_SEQ = s.nextSeq source ∧ t.grist.nextGen = seqAfter s.grist.nextGen ∧
     ∃ x, t.grist.circ = x :: s.grist.circ.filter (fun y => y.gen % 2048 != x.gen % 2048) ∧
       x.gen = s.grist.nextGen ∧ x.seq = s.nextSeq source ∧ x.source = source ∧ x.cls = cls ∧ x.event = event ∧
       x.tick = s.time.tick ∧ x.wall = s.wallNow ∧ x.snap = words.take 16 ∧
       t.grist.first = (if s.grist.first.length < 512 then x :: s.grist.first else s.grist.first)) ∧
  (∀ n < 4294967295, seqAfter n = n + 1) ∧ seqAfter 4294967295 = 1 ∧
  (∀ a b : Nat, a < 4294967296 → b < 4294967296 →
    (genOlder a b = true ↔ 0 < ((b : Int) - a) % 4294967296 ∧ ((b : Int) - a) % 4294967296 < 2147483648)) ∧
  (s.miller3 = true → s.thermalLatched = false → s.unmirrored ≠ [] → Runs .gristMirror s fun t =>
     (t.nvm.queue.any fun q => q.work == .gristMirror) = true ∧ Foot [.nvm] (some []) s t) ∧
  (s.miller3 = true → s.thermalLatched = false → s.unmirrored ≠ [] → s.grist.mirrorLate = false →
   Runs .mirrorLate s fun t => t.grist.mirrorLate = true ∧ ∀ p, (t.port p).alertCause.testBit alRecorder = true) ∧
  (s.running = true →
     exec (.nonceExpiry true) s = .next { s with life := { s.life with nonce := none } } ∧
     exec (.nonceExpiry false) s = .next { s with grist := { s.grist with nonce := none } })

/-! ## Dresser's units -/

/-- The scrubber counts and locates what it corrects and what it cannot. A memory slice that passes is counted; one that
fails sets MEM_FAIL and is tested again, and what it finds uncorrectable is counted as the scrubber's. A logic slice that fails is
tested again, and its second failure in a row sets LOGIC_FAIL; one that is not idle is not tested. A lane is withdrawn, tested, and
returns or is FAILED, a SUSPECT one too after a second error. The full test resets the control side and keeps its result. -/
def Obligations.DresserUnits : Prop := ∀ (s : State) (arr : Fin 6) (c : BitVec 18) (use : CodewordUse)
    (sy : Fin 35) (b : Fin 8), s.running = true →
  (c.toNat < codewordsOf arr.val →
    (s.dresser.hardWords.contains (arr.val, c.toNat) = false → s.dresser.corrected.contains (arr.val, c.toNat) = false →
     s.par oDresser (Pid.Dresser.CORR_COUNT + arr.val) < 4294967295 →
     Runs (.scrubCodeword arr c use (.corrected sy b)) s fun t =>
       t.par oDresser (Pid.Dresser.CORR_COUNT + arr.val) = s.par oDresser (Pid.Dresser.CORR_COUNT + arr.val) + 1 ∧
       t.par oDresser (Pid.Dresser.LAST_ERROR + arr.val) = (lastError 1 c.toNat sy.val b.val : Nat) ∧
       (arr.val, c.toNat) ∈ t.dresser.corrected) ∧
    (s.par oDresser (Pid.Dresser.UNCORR_COUNT + arr.val) < 4294967295 →
     Runs (.scrubCodeword arr c .mramOther (.uncorrectable sy b)) s fun t =>
       t.par oDresser (Pid.Dresser.UNCORR_COUNT + arr.val) = s.par oDresser (Pid.Dresser.UNCORR_COUNT + arr.val) + 1 ∧
       t.par oDresser (Pid.Dresser.LAST_ERROR + arr.val) = (lastError 2 c.toNat sy.val b.val : Nat) ∧
       t.bit oDresser Pid.Dresser.DRESSER_STATUS drUNCORRECTABLE = true) ∧
    (Runs (.scrubCodeword arr c use .clean) s fun t => (arr.val, c.toNat) ∉ t.dresser.corrected)) ∧
  (∀ (a : Fin 3) (idx : BitVec 12), s.dresser.granted = some (.slice a.val idx.toNat) →
    s.par oDresser Pid.Dresser.SLICES_DONE < 4294967295 →
    (Runs (.memorySliceTest a idx use .pass) s fun t => t.dresser.granted = none ∧
       t.par oDresser Pid.Dresser.SLICES_DONE = s.par oDresser Pid.Dresser.SLICES_DONE + 1 ∧
       ∀ e ∈ t.dresser.retest, e.1 ≠ (a.val, idx.toNat)) ∧
    ((s.dresser.retest.any fun e => e.1 == (a.val, idx.toNat)) = false →
     Runs (.memorySliceTest a idx use (.failCell c sy b)) s fun t => t.dresser.granted = none ∧
       t.bit oDresser Pid.Dresser.DRESSER_STATUS drMEM_FAIL = true ∧
       ((a.val, idx.toNat), lastError 3 c.toNat sy.val b.val) ∈ t.dresser.retest) ∧
    (s.par oDresser (Pid.Dresser.UNCORR_COUNT + a.val) < 4294967295 →
     Runs (.memorySliceTest a idx .mramOther (.uncorrectable c sy b)) s fun t => t.dresser.granted = none ∧
       t.bit oDresser Pid.Dresser.DRESSER_STATUS drMEM_FAIL = true ∧
       t.par oDresser (Pid.Dresser.UNCORR_COUNT + a.val) = s.par oDresser (Pid.Dresser.UNCORR_COUNT + a.val) + 1)) ∧
  (∀ (k : Fin 6) (expected got : Word), s.dresser.granted = some (.logic k.val) →
    (s.logicIdle k.val = false → exec (.logicSliceTest k expected got) s = .next s) ∧
    (s.logicIdle k.val = true → Runs (.logicSliceTest k expected got) s fun t => t.dresser.granted = none ∧
      (expected ≠ got → s.dresser.logicRetest.contains k.val = false → k.val ∈ t.dresser.logicRetest) ∧
      (expected ≠ got → s.dresser.logicRetest.contains k.val = true →
        t.bit oDresser Pid.Dresser.DRESSER_STATUS drLOGIC_FAIL = true ∧ k.val ∉ t.dresser.logicRetest) ∧
      (expected = got → k.val ∉ t.dresser.logicRetest))) ∧
  (∀ l : Fin 4, s.dresser.granted = some (.lane l.val) → 0 ≤ s.par oDevice Pid.Device.LANE_STATUS →
    (s.lanesInService = 4 → Runs (.laneWithdrawal l) s fun t => t.lane l.val = 1 ∧ t.dresser = s.dresser) ∧
    (∀ expected got : Word, s.lane l.val = 1 ∨ s.lane l.val = 2 → s.par oDresser Pid.Dresser.LANE_TESTS < 4294967295 →
      let fails : Prop := expected ≠ got ∨ s.lane l.val = 2 ∧ vget s.wheel.again l.val false = true
      Runs (.laneTest l expected got) s fun t => t.dresser.granted = none ∧
        t.par oDresser Pid.Dresser.LANE_TESTS = s.par oDresser Pid.Dresser.LANE_TESTS + 1 ∧
        (fails → t.lane l.val = 3 ∧ t.bit oDresser Pid.Dresser.DRESSER_STATUS drLANE_FAIL = true) ∧
        (¬ fails → t.lane l.val = 0))) ∧
  (∀ (first : Option FullFail) (cells logic lanes : List FullFail), s.dresser.fullPending = true →
   let fails := first.toList ++ cells ++ logic ++ lanes
   Runs (.fullTest first cells logic lanes) s fun t =>
    t.supply.cs = .reset ∧ t.dresser.fullPending = false ∧ t.nvm.active = none ∧ t.dresser.fullHard = fails.filterMap failHard ∧
    ∃ x, t.dresser.full = some x ∧ x.kind = 3 ∧ x.state = (if fails = [] then 2 else 3) ∧
      x.fails = ((fails.map failUnitOf).eraseDups).length)

/-! ## Batteries -/

/-- In a poll round a module's good reply, of its frame or of the one repeat, is its voltage; any other outcome is a failed poll, and in
WATCH none is made. An authentication reads the identity and the certificate, is answered by the checks' code, and else sends a
challenge with a nonce never used before; one module of a port at a time. Its response is read until it is ready or 20 ms have passed. A
model update takes the mean current since the last one; 30 min of small current while charging is a full charge, which anchors the
state of charge; the journal of every string is asked for. -/
def Obligations.BatteriesFollow : Prop :=
  (∀ (s : State) (m : Fin 64),
   (∀ replies : List (Fin 64 × List Bytes), s.miller3 = true →
    (s.deviceMode = 2 → exec (.pollRound replies) s = .next s) ∧
    (s.deviceMode ≠ 2 → s.configured m.val = true → (∀ k < 4, s.par (oString k) Pid.String.MODULE_COUNT ≤ 16) →
     let got : Option MeasData :=
       if s.downReady (modulePort m.val) then (readTwice m.val adMEAS_READ (framesOf m.val replies)).map measOf else none
     (∀ r, got = some r → pollOk (s.module m.val) r = true → Runs (.pollRound replies) s fun t =>
       (t.module m.val).failRun = 0 ∧ (t.module m.val).lastSeq = some r.seq ∧ (t.module m.val).commLost = false ∧
       ((s.module m.val).commLost = false → (s.module m.val).identified = true → (s.module m.val).idNeeded = false →
         t.par (oModule m.val) Pid.Module.V_MOD = r.vTerm)) ∧
     ((∀ r, got = some r → pollOk (s.module m.val) r = false) → s.par (oModule m.val) Pid.Module.POLL_ERRORS < 4294967295 →
      Runs (.pollRound replies) s fun t => (t.module m.val).failRun = min 3 ((s.module m.val).failRun + 1) ∧
       t.par (oModule m.val) Pid.Module.POLL_ERRORS = s.par (oModule m.val) Pid.Module.POLL_ERRORS + 1))) ∧
   (∀ d : Fin 4, s.miller3 = true → d.val < 2 → s.enabled (oDown d.val) = true →
    s.par (oDown d.val) Pid.Down.FRAMES < 4294967295 → Runs (.adpoxonFrameRetry d) s fun t =>
      t.par (oDown d.val) Pid.Down.FRAMES = s.par (oDown d.val) Pid.Down.FRAMES + 1 ∧ Foot [] (some [Pid.Down.FRAMES]) s t) ∧
   (∀ x : AuthExchange, s.miller3 = true → s.configured m.val = true →
    (s.portAuths m.val = true → exec (.moduleAuth m x) s = .next s) ∧
    (s.portAuths m.val = false →
     let got : Option Bytes := if s.downReady (modulePort m.val) then readTwice m.val adIDENT_READ x.ident else none
     let judged (code : Nat) : Prop := Runs (.moduleAuth m x) s fun t => (t.module m.val).authing = false ∧
       t.par (oModule m.val) Pid.Module.AUTH_RESULT = code ∧ t.par (oModule m.val) Pid.Module.AUTH_TICK = s.time.tick
     (got = none → s.authWanted m.val = true → judged arNO_REPLY) ∧
     (∀ id, got = some id → s.authWanted m.val = true ∨ (s.module m.val).idNeeded = true →
      let u := (s.identify m.val id).2
      u.par (oModule m.val) Pid.Module.SERIAL = fieldU id 4 8 ∧
      (u.authWanted m.val = false → exec (.moduleAuth m x) s = .next u) ∧
      (u.authWanted m.val = true → certOf m.val x = none → judged arNO_REPLY) ∧
      ∀ c, u.authWanted m.val = true → certOf m.val x = some c →
        (u.certResult m.val id c ≠ arPASS → judged (u.certResult m.val id c)) ∧
        (u.certResult m.val id c = arPASS → x.challengeOk = false → judged arNO_REPLY) ∧
        (u.certResult m.val id c = arPASS → x.challengeOk = true → Runs (.moduleAuth m x) s fun t =>
          (t.module m.val).authing = true ∧ (t.module m.val).cert = c ∧
          ∃ n : Bytes, (t.module m.val).nonce = some n ∧ n.length = 32 ∧ t.nonces = n :: s.nonces)))) ∧
   (s.miller3 = true → (s.module m.val).authing = true → ∀ x : ResponseIn,
    let got : Option Bytes := if s.downReady (modulePort m.val) then readTwice m.val adRESPONSE x.frames else none
    let judged (code : Nat) : Prop := Runs (.responseRead m x) s fun t => (t.module m.val).authing = false ∧
      (t.module m.val).nonce = none ∧ t.par (oModule m.val) Pid.Module.AUTH_RESULT = code
    (got = none → judged arNO_REPLY) ∧
    ∀ d, got = some d →
      (byteAt d 0 ≠ 1 → judged (if Config.verifyP256 (slice (s.module m.val).cert 36 64) (s.responseMsg m.val) (slice d 2 64) = true
        then arPASS else arRESPONSE_SIGNATURE)) ∧
      (byteAt d 0 = 1 → 20 ≤ x.elapsedMs → judged arRESPONSE_TIMEOUT) ∧
      (byteAt d 0 = 1 → x.elapsedMs < 20 → exec (.responseRead m x) s = .next s)) ∧
   (s.miller3 = true → s.configured m.val = true →
    (s.par (oModule m.val) Pid.Module.AUTH_RESULT = 2 ∨ s.par (oModule m.val) Pid.Module.AUTH_RESULT = 9) →
    Runs (.authRetry m) s fun t => (t.module m.val).authDue = true ∧ Foot [.modules] (some []) s t)) ∧
  (∀ (s : State) (k : Fin 4), s.miller3 = true →
   (s.linkUp = true → s.modulesOf k.val ≠ [] → (∀ j < 4, s.par (oString j) Pid.String.MODULE_COUNT ≤ 16) →
    Runs .modelUpdate s fun t =>
      (t.str k.val).iSum = 0 ∧ (t.str k.val).iN = 0 ∧
      (t.str k.val).iPrev = (if (s.str k.val).iN = 0 then s.par (oString k.val) Pid.String.I_FAST
        else roundDiv (s.str k.val).iSum (s.str k.val).iN)) ∧
   (s.linkUp = true → (s.str k.val).connected = true → 0 ≤ (s.str k.val).iPrev →
    (s.str k.val).iPrev ≤ s.par (oString k.val) Pid.String.FULL_I →
    s.par (oString k.val) Pid.String.MODEL_MODE ≠ mmDISCHARGE → Runs (.endOfFullCharge k) s fun t =>
      t.par (oString k.val) Pid.String.SOC = 10000 ∧ t.par (oString k.val) Pid.String.SOC_Q = 10000 ∧
      t.par (oString k.val) Pid.String.MODEL_MODE = mmFULL ∧ (t.str k.val).disagree = false ∧
      ∀ m ∈ s.modulesOf k.val, t.par (oModule m) Pid.Module.LEARN_TICK = s.time.tick) ∧
   (s.mayLearn = true → s.par (oString k.val) Pid.String.MODULE_COUNT ≠ 0 → Runs .batteryJournal s fun t =>
      t.nvm.queue.any (coversString k.val) = true ∧ Foot [.nvm] (some []) s t))

/-! ## Downstream ports, point-of-load stages and satellites -/

/-- A downstream frame's end is counted, with its status bit, and the eighth loss of one frame is a frame error; a bus recovery, freed
within nine clocks, returns a port from FAULT, or else puts it there; a stage answers its identity and its readings, and a failed
transaction is counted. A satellite that answers runs its image where that verifies, is meant for it and is taken; one that does not is
held with the reason's code, and one that did not answer is tried again. -/
def Obligations.DownstreamFollows : Prop := ∀ s : State,
  (∀ d : Fin 4, s.downReady d.val = true →
    let o := oDown d.val
    (s.par o Pid.Down.FRAMES < 4294967295 → Runs (.dsFrame d .ok) s fun t =>
       t.par o Pid.Down.FRAMES = s.par o Pid.Down.FRAMES + 1 ∧ (t.down d.val).losses = 0) ∧
    (s.par o Pid.Down.FRAME_ERRORS < 4294967295 → Runs (.dsFrame d .nack) s fun t =>
       t.par o Pid.Down.FRAME_ERRORS = s.par o Pid.Down.FRAME_ERRORS + 1 ∧ t.bit o Pid.Down.DS_STATUS dsNACK = true) ∧
    (∀ (byte : Byte) (bit : Fin 8), s.par o Pid.Down.ARB_LOST_COUNT < 4294967295 → s.par o Pid.Down.FRAME_ERRORS < 4294967295 →
       let lost (t : State) : Prop := t.par o Pid.Down.ARB_LOST_COUNT = s.par o Pid.Down.ARB_LOST_COUNT + 1 ∧
         (7 ≤ (s.down d.val).losses → t.par o Pid.Down.FRAME_ERRORS = s.par o Pid.Down.FRAME_ERRORS + 1 ∧
           (t.down d.val).losses = 0) ∧
         ((s.down d.val).losses < 7 → t.par o Pid.Down.FRAME_ERRORS = s.par o Pid.Down.FRAME_ERRORS ∧
           (t.down d.val).losses = (s.down d.val).losses + 1)
       (Runs (.dsFrame d (.arbLostData byte bit)) s fun t => lost t ∧
         t.par o Pid.Down.LAST_ARB = byte.toNat * 256 + bit.val ∧ t.bit o Pid.Down.DS_STATUS dsARB_LOST_DATA = true) ∧
       (Runs (.dsFrame d .arbLostAddr) s fun t => lost t ∧
         t.par o Pid.Down.LAST_ARB / 256 = 0xFF ∧ t.bit o Pid.Down.DS_STATUS dsARB_LOST_ADDR = true)) ∧
    (s.par o Pid.Down.FRAME_ERRORS < 4294967295 → Runs (.dsFrameAbandon d) s fun t =>
       t.par o Pid.Down.FRAME_ERRORS = s.par o Pid.Down.FRAME_ERRORS + 1 ∧
       t.bit o Pid.Down.DS_STATUS dsTIMEOUT = true)) ∧
  (∀ (d : Fin 4) (sda : List Bool), s.running = true → s.busWorks d.val = true →
    let o := oDown d.val
    ((sda.take 9).any id = true → Runs (.busRecovery d (.clocked sda)) s fun t =>
       (t.down d.val).recovered = true ∧ (t.down d.val).busStuck = false ∧ (t.down d.val).sclLow = false ∧
       (s.par o Pid.Down.DS_STATE = dsFAULT → t.par o Pid.Down.DS_STATE = dsIDLE)) ∧
    (let stuck (t : State) : Prop := t.par o Pid.Down.DS_STATE = dsFAULT ∧
       (s.par o Pid.Down.DS_STATE ≠ dsFAULT → t.objSt o = osFailed ∧ ∀ m ∈ s.modulesOn d.val, m < 64 →
         (t.module m).commLost = true)
     ((sda.take 9).any id = false → Runs (.busRecovery d (.clocked sda)) s fun t => (t.down d.val).busStuck = true ∧ stuck t) ∧
     (Runs (.busRecovery d .sclLow) s fun t => (t.down d.val).sclLow = true ∧
       t.bit o Pid.Down.DS_STATUS dsSCL_LOW = true ∧ stuck t))) ∧
  (∀ n : Fin 32, s.miller3 = true → s.par (oPol n.val) Pid.Pol.POL_ADDR ≠ 0 →
    let o := oPol n.val
    let dead : Prop := s.objSt (oDown 2) = osFailed ∨ s.enabled (oDown 2) = false
    (¬ dead → ∀ rev mode : Byte, Runs (.polIdentify n (some (rev, mode))) s fun t => t.par o Pid.Pol.PMBUS_REV = rev.toNat ∧
       (t.pol n.val).badMode = decide (32 ≤ mode.toNat) ∧
       t.par o Pid.Pol.VOUT_EXP = if mode.toNat < 32 then (mode.setWidth 5).toInt else s.par o Pid.Pol.VOUT_EXP) ∧
    (¬ dead → (s.pol n.val).badMode = false → ∀ i x : BitVec 16, -32768 ≤ linear11 x 128 → linear11 x 128 ≤ 32767 →
       Runs (.polPoll n (some (i, x))) s fun t => t.par o Pid.Pol.TEMP = linear11 x 128 ∧
         (-2147483648 ≤ linear11 i 10000 → linear11 i 10000 ≤ 2147483647 → t.par o Pid.Pol.IOUT = linear11 i 10000)) ∧
    (s.par o Pid.Pol.POL_ERRORS < 4294967295 →
      let failed (t : State) : Prop := t.par o Pid.Pol.POL_ERRORS = s.par o Pid.Pol.POL_ERRORS + 1 ∧
        Foot [.pols] (some [Pid.Pol.POL_ERRORS]) s t
      (Runs (.polIdentify n none) s failed) ∧ (Runs (.polPoll n none) s failed) ∧
      (∀ x, dead → Runs (.polIdentify n x) s failed) ∧
      ∀ x, dead ∨ (s.pol n.val).badMode = true → Runs (.polPoll n x) s failed)) ∧
  (∀ (n : Fin 8) (a : SatAnswer), s.miller3 = true → s.satDue n.val = true →
    let o := oSat n.val
    let got : Option Bytes := if s.objSt (oDown 3) = osFailed ∨ s.enabled (oDown 3) = false then none
      else (a.ident.take 2).findSome? (satIdent n.val)
    let held (code : Nat) : Prop := Runs (.satelliteLoad n a) s fun t => (t.sat n.val).running = false ∧
      t.objSt o = osFailed ∧ t.par o Pid.Sat.SAT_RESULT = code ∧ (t.sat n.val).noReply = decide (code = srNO_REPLY)
    (got = none → held srNO_REPLY) ∧
    ∀ d, got = some d →
      (s.satImage n.val = none → held srNO_IMAGE) ∧
      ∀ img, s.satImage n.val = some img →
        (s.satSigOk n.val img = false → held srSIGNATURE) ∧
        (s.satSigOk n.val img = true → img.hwId ≠ fieldU d 0 2 → held srHW_ID) ∧
        (s.satSigOk n.val img = true → img.hwId = fieldU d 0 2 →
          let taken := satLoaded (satRuns d) a (satLoads n.val (s.satBytes img) [])
          (taken = false ∨ satStarted n.val a = false → held srLOAD) ∧
          (taken = true → satStarted n.val a = true → s.par o Pid.Sat.SAT_LOADS < 4294967295 →
            Runs (.satelliteLoad n a) s fun t => (t.sat n.val).running = true ∧ t.objSt o = osActive ∧
              t.par o Pid.Sat.SAT_HW_ID = fieldU d 0 2 ∧ t.par o Pid.Sat.SAT_RESULT = srRUNNING ∧
              t.par o Pid.Sat.SAT_LOADS = s.par o Pid.Sat.SAT_LOADS + 1 ∧ t.par o Pid.Sat.SAT_IMAGE_VER = img.version))) ∧
  (∀ n : Fin 8, s.miller3 = true → (s.sat n.val).noReply = true → s.enabled (oSat n.val) = true →
    Runs (.satelliteRetry n) s fun t => t.objSt (oSat n.val) = osStarting ∧ (t.sat n.val).noReply = false)

/-! ## The update's events -/

/-- A bundle that verifies has its write asked for; one that fails leaves the session open with its result and its answer. An activation
falls due by the wall clock, or by its COG state's entry; the check-in asks for its write and, at its commit, makes the bank GOOD;
without one the trial fails through a level 3 restart. -/
def Obligations.UpdatesFollow : Prop := ∀ s : State,
  (∀ id, (s.miller3 || s.supply.cs == .rom) = true → s.upd.closing = some id → s.updState = upCLOSING →
    (s.nvm.queue.any fun r => r.work == .staged) = false →
    (∀ r n, s.nvm.active = some (r, n) → r.work ≠ .staged) →
    Runs .bundleVerified s fun t => t.nvm.mram = s.nvm.mram ∧
      (s.closeFails = none → (∃ q ∈ t.nvm.queue, q.work = .staged ∧ q.op = some id) ∧ Foot [.nvm] (some []) s t) ∧
      (∀ step result, s.closeFails = some (step, result) →
        t.par oUpdater Pid.Updater.LAST_UPD_RESULT = result ∧ t.updState = upOPEN ∧ t.upd.closing = none ∧
        ∀ e, s.opOf id = some e → s.enabled (oPort e.port) = true → e.tag < 64 → ∃ x ∈ (t.port e.port).replies, x.op = some e.id ∧
          x.status = (if 6 ≤ step then stAUTH_FAILED else stREFUSED) ∧ x.reason = if 6 ≤ step then step else frPRECONDITION)) ∧
  (s.miller3 = true → s.updState = upSCHEDULED → Runs .activationDue s fun t => Foot [.upd] (some []) s t ∧
    (s.par oUpdater Pid.Updater.SCHED_MODE = 1 →
      t.upd.due = decide (s.wallNow ≥ s.par oUpdater Pid.Updater.SCHED_WALL)) ∧
    (s.par oUpdater Pid.Updater.SCHED_MODE = 2 → t.upd.due = (s.upd.dueAtCog || s.upd.due)) ∧
    (t.upd.due = true → s.upd.due = false → t.upd.dueSince = s.time.tick)) ∧
  (s.miller3 = true → s.updState = upTRIAL →
    (s.upd.checkinAsked = false → (∀ r n, s.nvm.active = some (r, n) → r.work ≠ .good) → Runs .checkin s fun t =>
       t.upd.checkinAsked = true ∧ (t.nvm.queue.any fun q => q.work == .good) = true) ∧
    (∀ r n, s.nvm.active = some (r, n) → r.work = .good → s.runningBank < 2 → Runs .checkin s fun t =>
       t.bank s.runningBank = bkGOOD ∧ t.updState = upIDLE ∧ t.par oUpdater Pid.Updater.TRIAL_FAILS = 0 ∧
       t.nvm.active = none ∧ t.upd.checkin = none)) ∧
  (s.running = true → s.updState = upTRIAL → s.upd.checkin ≠ none → s.runningBank < 2 → Runs .checkinTimeout s fun t =>
     t.miller.restarting = true ∧ t.par oDevice Pid.Device.L3_RESTART_CAUSE = lrWATCHDOG ∧
     t.bank s.runningBank = bkFAILED)

/-! ## Frames -/

/-- A command changes nothing but the parts that `fldsOf` lists for it and the parameters whose numbers `pidsOf` lists;
the bytes of the MRAM are a part of their own. -/
def Obligations.CommandsKeepTheirFrames : Prop := ∀ (c : Instr) (s t : State), exec c s = .next t →
  Foot (fldsOf c) (pidsOf c) s t

/-- A row about one feeder, string, rail, timer, downstream port, stage, satellite or port leaves the others of its kind,
and their parameters, as they were; a timer takes its partner with it. -/
def Obligations.RowsKeepToTheirObject : Prop := ∀ s t : State,
  let kept (o : Nat) : Prop := ∀ pid < 4096, t.par o pid = s.par o pid
  (∀ (f : Fin 16) (byA byB : Bool) (proving : Option Bool), ∀ c ∈ [Instr.seatStable f, .seatOpen f, .insertDelay f, .faultTimer f,
      .soa f, .startTimeout f, .ovQualify f, .itCurve f, .fastTrip f ⟨byA, byB⟩ proving], exec c s = .next t →
    ∀ g < 16, g ≠ f.val → t.feeder g = s.feeder g ∧ kept (oFeeder g)) ∧
  (∀ (k : Fin 4) (ok byA byB : Bool) (vds : Int), ∀ c ∈ [Instr.stringConnect k, .stringSwitchTick k ok vds,
      .connectTimeout k, .dischargeReversal k, .stringFastTrip k byA byB], exec c s = .next t →
    ∀ j < 4, j ≠ k.val → t.str j = s.str j ∧ kept (oString j)) ∧
  (∀ (v : Fin 32) (ball us : Word) (x : RailRead), ∀ c ∈ [Instr.onDelay v, .railPgHigh ⟨v, ball⟩, .railQualified v us, .pgTimeout v,
      .railPgDrop ⟨v, ball⟩, .dischargeTimeout v, .railDischarged ⟨v, ball⟩ us, .railPoll v x us], exec c s = .next t →
    ∀ w < 32, w ≠ v.val → t.rail w = s.rail w ∧ kept (oRail w)) ∧
  (∀ (n : Fin 8) (rising : Bool) (w : Word), ∀ c ∈ [Instr.timerMatch n, .timerWrap n, .timerCapture n rising w,
      .tmrPulseEnd n], exec c s = .next t →
    ∀ m < 8, m ≠ s.leader n.val → m ≠ s.leader n.val + 1 → m ≠ n.val → t.timer m = s.timer m ∧ kept (oTimer m)) ∧
  (∀ (d : Fin 4) (x : FrameEnd) (y : RecoveryEnd), ∀ c ∈ [Instr.dsFrame d x, .dsFrameAbandon d, .busRecovery d y],
      exec c s = .next t → ∀ e < 4, e ≠ d.val → t.down e = s.down e ∧ kept (oDown e)) ∧
  (∀ (n : Fin 32) (x : Option (Byte × Byte)) (y : Option (BitVec 16 × BitVec 16)), ∀ c ∈ [Instr.polIdentify n x,
      .polPoll n y], exec c s = .next t → ∀ m < 32, m ≠ n.val → t.pol m = s.pol m ∧ kept (oPol m)) ∧
  (∀ (n : Fin 8) (x : SatAnswer), ∀ c ∈ [Instr.satelliteLoad n x, .satelliteRetry n],
      exec c s = .next t → ∀ m < 8, m ≠ n.val → t.sat m = s.sat m ∧ kept (oSat m)) ∧
  (∀ (p q : HostPort) (acc : HostAccess) (data : Bytes) (ptr : Byte) (form : ReadForm) (k : Nat) (w : Bool), p ≠ q →
    ∀ c ∈ [Instr.reqStream p acc data, .doorbellSubmit p ⟨acc, data⟩, .doorbellDiscard p ⟨acc, data⟩, .replyStream p ⟨acc, form, k⟩,
      .alertCause p ⟨acc, form, k⟩, .fastStatus p ⟨acc, form, k⟩, .highByteLatch p w ⟨acc, form, k⟩, .windowWrite p acc ptr data],
      exec c s = .next t →
    (t.port q).build = (s.port q).build ∧ (t.port q).written = (s.port q).written ∧
    (t.port q).replies = (s.port q).replies ∧ (t.port q).readPos = (s.port q).readPos ∧
    (t.port q).pointer = (s.port q).pointer ∧ (t.port q).driven = (s.port q).driven)

/-- The commit of an update's block stores its bytes where the header's sections place them, one place of MRAM for a
byte, and every other byte of MRAM reads as before. -/
def Obligations.BlockCommitStores : Prop := ∀ (s : State) (r : NvmReq) (n o : Nat) (data : Bytes),
  s.mramOn = true → s.nvm.active = some (r, n) → n ≤ 1 → r.work = .block o data → s.updState = upOPEN →
  Runs .nvmTransactionCommit s fun t =>
    (∀ a, (∀ i < data.length, s.placeOf (o + i) ≠ some a) → mramRead t.nvm.mram a = mramRead s.nvm.mram a) ∧
    (∀ i < data.length, ∀ a, s.placeOf (o + i) = some a →
      (∀ j < data.length, j ≠ i → s.placeOf (o + j) ≠ some a) → mramRead t.nvm.mram a = data.getD i 0)
end

