-- ==== Sys2Proof/Laws/State.lean ====
section
/-! SUPPORT. One lemma per field per update of the state: what an update of one record leaves unchanged. -/

namespace Sys2Proof.Machine

variable (s : State)

/-! ## setPar -/

@[simp] theorem State.setPar_grist (o pid : Nat) (v : Int) : (s.setPar o pid v).grist = s.grist := rfl
@[simp] theorem State.setPar_hopper (o pid : Nat) (v : Int) : (s.setPar o pid v).hopper = s.hopper := rfl
@[simp] theorem State.setPar_ports (o pid : Nat) (v : Int) : (s.setPar o pid v).ports = s.ports := rfl
@[simp] theorem State.setPar_downs (o pid : Nat) (v : Int) : (s.setPar o pid v).downs = s.downs := rfl
@[simp] theorem State.setPar_pols (o pid : Nat) (v : Int) : (s.setPar o pid v).pols = s.pols := rfl
@[simp] theorem State.setPar_sats (o pid : Nat) (v : Int) : (s.setPar o pid v).sats = s.sats := rfl
@[simp] theorem State.setPar_time (o pid : Nat) (v : Int) : (s.setPar o pid v).time = s.time := rfl
@[simp] theorem State.setPar_timers (o pid : Nat) (v : Int) : (s.setPar o pid v).timers = s.timers := rfl
@[simp] theorem State.setPar_supply (o pid : Nat) (v : Int) : (s.setPar o pid v).supply = s.supply := rfl
@[simp] theorem State.setPar_nvm (o pid : Nat) (v : Int) : (s.setPar o pid v).nvm = s.nvm := rfl
@[simp] theorem State.setPar_upd (o pid : Nat) (v : Int) : (s.setPar o pid v).upd = s.upd := rfl
@[simp] theorem State.setPar_life (o pid : Nat) (v : Int) : (s.setPar o pid v).life = s.life := rfl
@[simp] theorem State.setPar_dresser (o pid : Nat) (v : Int) : (s.setPar o pid v).dresser = s.dresser := rfl
@[simp] theorem State.setPar_rails (o pid : Nat) (v : Int) : (s.setPar o pid v).rails = s.rails := rfl
@[simp] theorem State.setPar_seq (o pid : Nat) (v : Int) : (s.setPar o pid v).seq = s.seq := rfl
@[simp] theorem State.setPar_fantail (o pid : Nat) (v : Int) : (s.setPar o pid v).fantail = s.fantail := rfl
@[simp] theorem State.setPar_therms (o pid : Nat) (v : Int) : (s.setPar o pid v).therms = s.therms := rfl
@[simp] theorem State.setPar_shelf (o pid : Nat) (v : Int) : (s.setPar o pid v).shelf = s.shelf := rfl
@[simp] theorem State.setPar_miller (o pid : Nat) (v : Int) : (s.setPar o pid v).miller = s.miller := rfl
@[simp] theorem State.setPar_segs (o pid : Nat) (v : Int) : (s.setPar o pid v).segs = s.segs := rfl
@[simp] theorem State.setPar_loops (o pid : Nat) (v : Int) : (s.setPar o pid v).loops = s.loops := rfl
@[simp] theorem State.setPar_phases (o pid : Nat) (v : Int) : (s.setPar o pid v).phases = s.phases := rfl
@[simp] theorem State.setPar_wheel (o pid : Nat) (v : Int) : (s.setPar o pid v).wheel = s.wheel := rfl
@[simp] theorem State.setPar_flume (o pid : Nat) (v : Int) : (s.setPar o pid v).flume = s.flume := rfl
@[simp] theorem State.setPar_trace (o pid : Nat) (v : Int) : (s.setPar o pid v).trace = s.trace := rfl
@[simp] theorem State.setPar_feeders (o pid : Nat) (v : Int) : (s.setPar o pid v).feeders = s.feeders := rfl
@[simp] theorem State.setPar_strings (o pid : Nat) (v : Int) : (s.setPar o pid v).strings = s.strings := rfl
@[simp] theorem State.setPar_modules (o pid : Nat) (v : Int) : (s.setPar o pid v).modules = s.modules := rfl
@[simp] theorem State.setPar_auths (o pid : Nat) (v : Int) : (s.setPar o pid v).auths = s.auths := rfl
@[simp] theorem State.setPar_nonces (o pid : Nat) (v : Int) : (s.setPar o pid v).nonces = s.nonces := rfl
@[simp] theorem State.setPar_draws (o pid : Nat) (v : Int) : (s.setPar o pid v).draws = s.draws := rfl
@[simp] theorem State.setPar_pending (o pid : Nat) (v : Int) : (s.setPar o pid v).pending = s.pending := rfl

/-! ## modPort -/

@[simp] theorem State.modPort_params (p : HostPort) (g : HostPortAux → HostPortAux) : (s.modPort p g).params = s.params := rfl
@[simp] theorem State.modPort_grist (p : HostPort) (g : HostPortAux → HostPortAux) : (s.modPort p g).grist = s.grist := rfl
@[simp] theorem State.modPort_hopper (p : HostPort) (g : HostPortAux → HostPortAux) : (s.modPort p g).hopper = s.hopper := rfl
@[simp] theorem State.modPort_downs (p : HostPort) (g : HostPortAux → HostPortAux) : (s.modPort p g).downs = s.downs := rfl
@[simp] theorem State.modPort_pols (p : HostPort) (g : HostPortAux → HostPortAux) : (s.modPort p g).pols = s.pols := rfl
@[simp] theorem State.modPort_sats (p : HostPort) (g : HostPortAux → HostPortAux) : (s.modPort p g).sats = s.sats := rfl
@[simp] theorem State.modPort_time (p : HostPort) (g : HostPortAux → HostPortAux) : (s.modPort p g).time = s.time := rfl
@[simp] theorem State.modPort_timers (p : HostPort) (g : HostPortAux → HostPortAux) : (s.modPort p g).timers = s.timers := rfl
@[simp] theorem State.modPort_supply (p : HostPort) (g : HostPortAux → HostPortAux) : (s.modPort p g).supply = s.supply := rfl
@[simp] theorem State.modPort_nvm (p : HostPort) (g : HostPortAux → HostPortAux) : (s.modPort p g).nvm = s.nvm := rfl
@[simp] theorem State.modPort_upd (p : HostPort) (g : HostPortAux → HostPortAux) : (s.modPort p g).upd = s.upd := rfl
@[simp] theorem State.modPort_life (p : HostPort) (g : HostPortAux → HostPortAux) : (s.modPort p g).life = s.life := rfl
@[simp] theorem State.modPort_dresser (p : HostPort) (g : HostPortAux → HostPortAux) : (s.modPort p g).dresser = s.dresser := rfl
@[simp] theorem State.modPort_rails (p : HostPort) (g : HostPortAux → HostPortAux) : (s.modPort p g).rails = s.rails := rfl
@[simp] theorem State.modPort_seq (p : HostPort) (g : HostPortAux → HostPortAux) : (s.modPort p g).seq = s.seq := rfl
@[simp] theorem State.modPort_fantail (p : HostPort) (g : HostPortAux → HostPortAux) : (s.modPort p g).fantail = s.fantail := rfl
@[simp] theorem State.modPort_therms (p : HostPort) (g : HostPortAux → HostPortAux) : (s.modPort p g).therms = s.therms := rfl
@[simp] theorem State.modPort_shelf (p : HostPort) (g : HostPortAux → HostPortAux) : (s.modPort p g).shelf = s.shelf := rfl
@[simp] theorem State.modPort_miller (p : HostPort) (g : HostPortAux → HostPortAux) : (s.modPort p g).miller = s.miller := rfl
@[simp] theorem State.modPort_segs (p : HostPort) (g : HostPortAux → HostPortAux) : (s.modPort p g).segs = s.segs := rfl
@[simp] theorem State.modPort_loops (p : HostPort) (g : HostPortAux → HostPortAux) : (s.modPort p g).loops = s.loops := rfl
@[simp] theorem State.modPort_phases (p : HostPort) (g : HostPortAux → HostPortAux) : (s.modPort p g).phases = s.phases := rfl
@[simp] theorem State.modPort_wheel (p : HostPort) (g : HostPortAux → HostPortAux) : (s.modPort p g).wheel = s.wheel := rfl
@[simp] theorem State.modPort_flume (p : HostPort) (g : HostPortAux → HostPortAux) : (s.modPort p g).flume = s.flume := rfl
@[simp] theorem State.modPort_trace (p : HostPort) (g : HostPortAux → HostPortAux) : (s.modPort p g).trace = s.trace := rfl
@[simp] theorem State.modPort_feeders (p : HostPort) (g : HostPortAux → HostPortAux) : (s.modPort p g).feeders = s.feeders := rfl
@[simp] theorem State.modPort_strings (p : HostPort) (g : HostPortAux → HostPortAux) : (s.modPort p g).strings = s.strings := rfl
@[simp] theorem State.modPort_modules (p : HostPort) (g : HostPortAux → HostPortAux) : (s.modPort p g).modules = s.modules := rfl
@[simp] theorem State.modPort_auths (p : HostPort) (g : HostPortAux → HostPortAux) : (s.modPort p g).auths = s.auths := rfl
@[simp] theorem State.modPort_nonces (p : HostPort) (g : HostPortAux → HostPortAux) : (s.modPort p g).nonces = s.nonces := rfl
@[simp] theorem State.modPort_draws (p : HostPort) (g : HostPortAux → HostPortAux) : (s.modPort p g).draws = s.draws := rfl
@[simp] theorem State.modPort_pending (p : HostPort) (g : HostPortAux → HostPortAux) : (s.modPort p g).pending = s.pending := rfl

/-! ## modFeeder -/

@[simp] theorem State.modFeeder_params (n : Nat) (g : FeederAux → FeederAux) : (s.modFeeder n g).params = s.params := rfl
@[simp] theorem State.modFeeder_grist (n : Nat) (g : FeederAux → FeederAux) : (s.modFeeder n g).grist = s.grist := rfl
@[simp] theorem State.modFeeder_hopper (n : Nat) (g : FeederAux → FeederAux) : (s.modFeeder n g).hopper = s.hopper := rfl
@[simp] theorem State.modFeeder_ports (n : Nat) (g : FeederAux → FeederAux) : (s.modFeeder n g).ports = s.ports := rfl
@[simp] theorem State.modFeeder_downs (n : Nat) (g : FeederAux → FeederAux) : (s.modFeeder n g).downs = s.downs := rfl
@[simp] theorem State.modFeeder_pols (n : Nat) (g : FeederAux → FeederAux) : (s.modFeeder n g).pols = s.pols := rfl
@[simp] theorem State.modFeeder_sats (n : Nat) (g : FeederAux → FeederAux) : (s.modFeeder n g).sats = s.sats := rfl
@[simp] theorem State.modFeeder_time (n : Nat) (g : FeederAux → FeederAux) : (s.modFeeder n g).time = s.time := rfl
@[simp] theorem State.modFeeder_timers (n : Nat) (g : FeederAux → FeederAux) : (s.modFeeder n g).timers = s.timers := rfl
@[simp] theorem State.modFeeder_supply (n : Nat) (g : FeederAux → FeederAux) : (s.modFeeder n g).supply = s.supply := rfl
@[simp] theorem State.modFeeder_nvm (n : Nat) (g : FeederAux → FeederAux) : (s.modFeeder n g).nvm = s.nvm := rfl
@[simp] theorem State.modFeeder_upd (n : Nat) (g : FeederAux → FeederAux) : (s.modFeeder n g).upd = s.upd := rfl
@[simp] theorem State.modFeeder_life (n : Nat) (g : FeederAux → FeederAux) : (s.modFeeder n g).life = s.life := rfl
@[simp] theorem State.modFeeder_dresser (n : Nat) (g : FeederAux → FeederAux) : (s.modFeeder n g).dresser = s.dresser := rfl
@[simp] theorem State.modFeeder_rails (n : Nat) (g : FeederAux → FeederAux) : (s.modFeeder n g).rails = s.rails := rfl
@[simp] theorem State.modFeeder_seq (n : Nat) (g : FeederAux → FeederAux) : (s.modFeeder n g).seq = s.seq := rfl
@[simp] theorem State.modFeeder_fantail (n : Nat) (g : FeederAux → FeederAux) : (s.modFeeder n g).fantail = s.fantail := rfl
@[simp] theorem State.modFeeder_therms (n : Nat) (g : FeederAux → FeederAux) : (s.modFeeder n g).therms = s.therms := rfl
@[simp] theorem State.modFeeder_shelf (n : Nat) (g : FeederAux → FeederAux) : (s.modFeeder n g).shelf = s.shelf := rfl
@[simp] theorem State.modFeeder_miller (n : Nat) (g : FeederAux → FeederAux) : (s.modFeeder n g).miller = s.miller := rfl
@[simp] theorem State.modFeeder_segs (n : Nat) (g : FeederAux → FeederAux) : (s.modFeeder n g).segs = s.segs := rfl
@[simp] theorem State.modFeeder_loops (n : Nat) (g : FeederAux → FeederAux) : (s.modFeeder n g).loops = s.loops := rfl
@[simp] theorem State.modFeeder_phases (n : Nat) (g : FeederAux → FeederAux) : (s.modFeeder n g).phases = s.phases := rfl
@[simp] theorem State.modFeeder_wheel (n : Nat) (g : FeederAux → FeederAux) : (s.modFeeder n g).wheel = s.wheel := rfl
@[simp] theorem State.modFeeder_flume (n : Nat) (g : FeederAux → FeederAux) : (s.modFeeder n g).flume = s.flume := rfl
@[simp] theorem State.modFeeder_trace (n : Nat) (g : FeederAux → FeederAux) : (s.modFeeder n g).trace = s.trace := rfl
@[simp] theorem State.modFeeder_strings (n : Nat) (g : FeederAux → FeederAux) : (s.modFeeder n g).strings = s.strings := rfl
@[simp] theorem State.modFeeder_modules (n : Nat) (g : FeederAux → FeederAux) : (s.modFeeder n g).modules = s.modules := rfl
@[simp] theorem State.modFeeder_auths (n : Nat) (g : FeederAux → FeederAux) : (s.modFeeder n g).auths = s.auths := rfl
@[simp] theorem State.modFeeder_nonces (n : Nat) (g : FeederAux → FeederAux) : (s.modFeeder n g).nonces = s.nonces := rfl
@[simp] theorem State.modFeeder_draws (n : Nat) (g : FeederAux → FeederAux) : (s.modFeeder n g).draws = s.draws := rfl
@[simp] theorem State.modFeeder_pending (n : Nat) (g : FeederAux → FeederAux) : (s.modFeeder n g).pending = s.pending := rfl

/-! ## modStr -/

@[simp] theorem State.modStr_params (n : Nat) (g : StringAux → StringAux) : (s.modStr n g).params = s.params := rfl
@[simp] theorem State.modStr_grist (n : Nat) (g : StringAux → StringAux) : (s.modStr n g).grist = s.grist := rfl
@[simp] theorem State.modStr_hopper (n : Nat) (g : StringAux → StringAux) : (s.modStr n g).hopper = s.hopper := rfl
@[simp] theorem State.modStr_ports (n : Nat) (g : StringAux → StringAux) : (s.modStr n g).ports = s.ports := rfl
@[simp] theorem State.modStr_downs (n : Nat) (g : StringAux → StringAux) : (s.modStr n g).downs = s.downs := rfl
@[simp] theorem State.modStr_pols (n : Nat) (g : StringAux → StringAux) : (s.modStr n g).pols = s.pols := rfl
@[simp] theorem State.modStr_sats (n : Nat) (g : StringAux → StringAux) : (s.modStr n g).sats = s.sats := rfl
@[simp] theorem State.modStr_time (n : Nat) (g : StringAux → StringAux) : (s.modStr n g).time = s.time := rfl
@[simp] theorem State.modStr_timers (n : Nat) (g : StringAux → StringAux) : (s.modStr n g).timers = s.timers := rfl
@[simp] theorem State.modStr_supply (n : Nat) (g : StringAux → StringAux) : (s.modStr n g).supply = s.supply := rfl
@[simp] theorem State.modStr_nvm (n : Nat) (g : StringAux → StringAux) : (s.modStr n g).nvm = s.nvm := rfl
@[simp] theorem State.modStr_upd (n : Nat) (g : StringAux → StringAux) : (s.modStr n g).upd = s.upd := rfl
@[simp] theorem State.modStr_life (n : Nat) (g : StringAux → StringAux) : (s.modStr n g).life = s.life := rfl
@[simp] theorem State.modStr_dresser (n : Nat) (g : StringAux → StringAux) : (s.modStr n g).dresser = s.dresser := rfl
@[simp] theorem State.modStr_rails (n : Nat) (g : StringAux → StringAux) : (s.modStr n g).rails = s.rails := rfl
@[simp] theorem State.modStr_seq (n : Nat) (g : StringAux → StringAux) : (s.modStr n g).seq = s.seq := rfl
@[simp] theorem State.modStr_fantail (n : Nat) (g : StringAux → StringAux) : (s.modStr n g).fantail = s.fantail := rfl
@[simp] theorem State.modStr_therms (n : Nat) (g : StringAux → StringAux) : (s.modStr n g).therms = s.therms := rfl
@[simp] theorem State.modStr_shelf (n : Nat) (g : StringAux → StringAux) : (s.modStr n g).shelf = s.shelf := rfl
@[simp] theorem State.modStr_miller (n : Nat) (g : StringAux → StringAux) : (s.modStr n g).miller = s.miller := rfl
@[simp] theorem State.modStr_segs (n : Nat) (g : StringAux → StringAux) : (s.modStr n g).segs = s.segs := rfl
@[simp] theorem State.modStr_loops (n : Nat) (g : StringAux → StringAux) : (s.modStr n g).loops = s.loops := rfl
@[simp] theorem State.modStr_phases (n : Nat) (g : StringAux → StringAux) : (s.modStr n g).phases = s.phases := rfl
@[simp] theorem State.modStr_wheel (n : Nat) (g : StringAux → StringAux) : (s.modStr n g).wheel = s.wheel := rfl
@[simp] theorem State.modStr_flume (n : Nat) (g : StringAux → StringAux) : (s.modStr n g).flume = s.flume := rfl
@[simp] theorem State.modStr_trace (n : Nat) (g : StringAux → StringAux) : (s.modStr n g).trace = s.trace := rfl
@[simp] theorem State.modStr_feeders (n : Nat) (g : StringAux → StringAux) : (s.modStr n g).feeders = s.feeders := rfl
@[simp] theorem State.modStr_modules (n : Nat) (g : StringAux → StringAux) : (s.modStr n g).modules = s.modules := rfl
@[simp] theorem State.modStr_auths (n : Nat) (g : StringAux → StringAux) : (s.modStr n g).auths = s.auths := rfl
@[simp] theorem State.modStr_nonces (n : Nat) (g : StringAux → StringAux) : (s.modStr n g).nonces = s.nonces := rfl
@[simp] theorem State.modStr_draws (n : Nat) (g : StringAux → StringAux) : (s.modStr n g).draws = s.draws := rfl
@[simp] theorem State.modStr_pending (n : Nat) (g : StringAux → StringAux) : (s.modStr n g).pending = s.pending := rfl

/-! ## modModule -/

@[simp] theorem State.modModule_params (n : Nat) (g : ModuleAux → ModuleAux) : (s.modModule n g).params = s.params := rfl
@[simp] theorem State.modModule_grist (n : Nat) (g : ModuleAux → ModuleAux) : (s.modModule n g).grist = s.grist := rfl
@[simp] theorem State.modModule_hopper (n : Nat) (g : ModuleAux → ModuleAux) : (s.modModule n g).hopper = s.hopper := rfl
@[simp] theorem State.modModule_ports (n : Nat) (g : ModuleAux → ModuleAux) : (s.modModule n g).ports = s.ports := rfl
@[simp] theorem State.modModule_downs (n : Nat) (g : ModuleAux → ModuleAux) : (s.modModule n g).downs = s.downs := rfl
@[simp] theorem State.modModule_pols (n : Nat) (g : ModuleAux → ModuleAux) : (s.modModule n g).pols = s.pols := rfl
@[simp] theorem State.modModule_sats (n : Nat) (g : ModuleAux → ModuleAux) : (s.modModule n g).sats = s.sats := rfl
@[simp] theorem State.modModule_time (n : Nat) (g : ModuleAux → ModuleAux) : (s.modModule n g).time = s.time := rfl
@[simp] theorem State.modModule_timers (n : Nat) (g : ModuleAux → ModuleAux) : (s.modModule n g).timers = s.timers := rfl
@[simp] theorem State.modModule_supply (n : Nat) (g : ModuleAux → ModuleAux) : (s.modModule n g).supply = s.supply := rfl
@[simp] theorem State.modModule_nvm (n : Nat) (g : ModuleAux → ModuleAux) : (s.modModule n g).nvm = s.nvm := rfl
@[simp] theorem State.modModule_upd (n : Nat) (g : ModuleAux → ModuleAux) : (s.modModule n g).upd = s.upd := rfl
@[simp] theorem State.modModule_life (n : Nat) (g : ModuleAux → ModuleAux) : (s.modModule n g).life = s.life := rfl
@[simp] theorem State.modModule_dresser (n : Nat) (g : ModuleAux → ModuleAux) : (s.modModule n g).dresser = s.dresser := rfl
@[simp] theorem State.modModule_rails (n : Nat) (g : ModuleAux → ModuleAux) : (s.modModule n g).rails = s.rails := rfl
@[simp] theorem State.modModule_seq (n : Nat) (g : ModuleAux → ModuleAux) : (s.modModule n g).seq = s.seq := rfl
@[simp] theorem State.modModule_fantail (n : Nat) (g : ModuleAux → ModuleAux) : (s.modModule n g).fantail = s.fantail := rfl
@[simp] theorem State.modModule_therms (n : Nat) (g : ModuleAux → ModuleAux) : (s.modModule n g).therms = s.therms := rfl
@[simp] theorem State.modModule_shelf (n : Nat) (g : ModuleAux → ModuleAux) : (s.modModule n g).shelf = s.shelf := rfl
@[simp] theorem State.modModule_miller (n : Nat) (g : ModuleAux → ModuleAux) : (s.modModule n g).miller = s.miller := rfl
@[simp] theorem State.modModule_segs (n : Nat) (g : ModuleAux → ModuleAux) : (s.modModule n g).segs = s.segs := rfl
@[simp] theorem State.modModule_loops (n : Nat) (g : ModuleAux → ModuleAux) : (s.modModule n g).loops = s.loops := rfl
@[simp] theorem State.modModule_phases (n : Nat) (g : ModuleAux → ModuleAux) : (s.modModule n g).phases = s.phases := rfl
@[simp] theorem State.modModule_wheel (n : Nat) (g : ModuleAux → ModuleAux) : (s.modModule n g).wheel = s.wheel := rfl
@[simp] theorem State.modModule_flume (n : Nat) (g : ModuleAux → ModuleAux) : (s.modModule n g).flume = s.flume := rfl
@[simp] theorem State.modModule_trace (n : Nat) (g : ModuleAux → ModuleAux) : (s.modModule n g).trace = s.trace := rfl
@[simp] theorem State.modModule_feeders (n : Nat) (g : ModuleAux → ModuleAux) : (s.modModule n g).feeders = s.feeders := rfl
@[simp] theorem State.modModule_strings (n : Nat) (g : ModuleAux → ModuleAux) : (s.modModule n g).strings = s.strings := rfl
@[simp] theorem State.modModule_auths (n : Nat) (g : ModuleAux → ModuleAux) : (s.modModule n g).auths = s.auths := rfl
@[simp] theorem State.modModule_nonces (n : Nat) (g : ModuleAux → ModuleAux) : (s.modModule n g).nonces = s.nonces := rfl
@[simp] theorem State.modModule_draws (n : Nat) (g : ModuleAux → ModuleAux) : (s.modModule n g).draws = s.draws := rfl
@[simp] theorem State.modModule_pending (n : Nat) (g : ModuleAux → ModuleAux) : (s.modModule n g).pending = s.pending := rfl

/-! ## modSeg -/

@[simp] theorem State.modSeg_params (n : Nat) (g : SegAux → SegAux) : (s.modSeg n g).params = s.params := rfl
@[simp] theorem State.modSeg_grist (n : Nat) (g : SegAux → SegAux) : (s.modSeg n g).grist = s.grist := rfl
@[simp] theorem State.modSeg_hopper (n : Nat) (g : SegAux → SegAux) : (s.modSeg n g).hopper = s.hopper := rfl
@[simp] theorem State.modSeg_ports (n : Nat) (g : SegAux → SegAux) : (s.modSeg n g).ports = s.ports := rfl
@[simp] theorem State.modSeg_downs (n : Nat) (g : SegAux → SegAux) : (s.modSeg n g).downs = s.downs := rfl
@[simp] theorem State.modSeg_pols (n : Nat) (g : SegAux → SegAux) : (s.modSeg n g).pols = s.pols := rfl
@[simp] theorem State.modSeg_sats (n : Nat) (g : SegAux → SegAux) : (s.modSeg n g).sats = s.sats := rfl
@[simp] theorem State.modSeg_time (n : Nat) (g : SegAux → SegAux) : (s.modSeg n g).time = s.time := rfl
@[simp] theorem State.modSeg_timers (n : Nat) (g : SegAux → SegAux) : (s.modSeg n g).timers = s.timers := rfl
@[simp] theorem State.modSeg_supply (n : Nat) (g : SegAux → SegAux) : (s.modSeg n g).supply = s.supply := rfl
@[simp] theorem State.modSeg_nvm (n : Nat) (g : SegAux → SegAux) : (s.modSeg n g).nvm = s.nvm := rfl
@[simp] theorem State.modSeg_upd (n : Nat) (g : SegAux → SegAux) : (s.modSeg n g).upd = s.upd := rfl
@[simp] theorem State.modSeg_life (n : Nat) (g : SegAux → SegAux) : (s.modSeg n g).life = s.life := rfl
@[simp] theorem State.modSeg_dresser (n : Nat) (g : SegAux → SegAux) : (s.modSeg n g).dresser = s.dresser := rfl
@[simp] theorem State.modSeg_rails (n : Nat) (g : SegAux → SegAux) : (s.modSeg n g).rails = s.rails := rfl
@[simp] theorem State.modSeg_seq (n : Nat) (g : SegAux → SegAux) : (s.modSeg n g).seq = s.seq := rfl
@[simp] theorem State.modSeg_fantail (n : Nat) (g : SegAux → SegAux) : (s.modSeg n g).fantail = s.fantail := rfl
@[simp] theorem State.modSeg_therms (n : Nat) (g : SegAux → SegAux) : (s.modSeg n g).therms = s.therms := rfl
@[simp] theorem State.modSeg_shelf (n : Nat) (g : SegAux → SegAux) : (s.modSeg n g).shelf = s.shelf := rfl
@[simp] theorem State.modSeg_miller (n : Nat) (g : SegAux → SegAux) : (s.modSeg n g).miller = s.miller := rfl
@[simp] theorem State.modSeg_loops (n : Nat) (g : SegAux → SegAux) : (s.modSeg n g).loops = s.loops := rfl
@[simp] theorem State.modSeg_phases (n : Nat) (g : SegAux → SegAux) : (s.modSeg n g).phases = s.phases := rfl
@[simp] theorem State.modSeg_wheel (n : Nat) (g : SegAux → SegAux) : (s.modSeg n g).wheel = s.wheel := rfl
@[simp] theorem State.modSeg_flume (n : Nat) (g : SegAux → SegAux) : (s.modSeg n g).flume = s.flume := rfl
@[simp] theorem State.modSeg_trace (n : Nat) (g : SegAux → SegAux) : (s.modSeg n g).trace = s.trace := rfl
@[simp] theorem State.modSeg_feeders (n : Nat) (g : SegAux → SegAux) : (s.modSeg n g).feeders = s.feeders := rfl
@[simp] theorem State.modSeg_strings (n : Nat) (g : SegAux → SegAux) : (s.modSeg n g).strings = s.strings := rfl
@[simp] theorem State.modSeg_modules (n : Nat) (g : SegAux → SegAux) : (s.modSeg n g).modules = s.modules := rfl
@[simp] theorem State.modSeg_auths (n : Nat) (g : SegAux → SegAux) : (s.modSeg n g).auths = s.auths := rfl
@[simp] theorem State.modSeg_nonces (n : Nat) (g : SegAux → SegAux) : (s.modSeg n g).nonces = s.nonces := rfl
@[simp] theorem State.modSeg_draws (n : Nat) (g : SegAux → SegAux) : (s.modSeg n g).draws = s.draws := rfl
@[simp] theorem State.modSeg_pending (n : Nat) (g : SegAux → SegAux) : (s.modSeg n g).pending = s.pending := rfl

/-! ## modLoop -/

@[simp] theorem State.modLoop_params (n : Nat) (g : LoopAux → LoopAux) : (s.modLoop n g).params = s.params := rfl
@[simp] theorem State.modLoop_grist (n : Nat) (g : LoopAux → LoopAux) : (s.modLoop n g).grist = s.grist := rfl
@[simp] theorem State.modLoop_hopper (n : Nat) (g : LoopAux → LoopAux) : (s.modLoop n g).hopper = s.hopper := rfl
@[simp] theorem State.modLoop_ports (n : Nat) (g : LoopAux → LoopAux) : (s.modLoop n g).ports = s.ports := rfl
@[simp] theorem State.modLoop_downs (n : Nat) (g : LoopAux → LoopAux) : (s.modLoop n g).downs = s.downs := rfl
@[simp] theorem State.modLoop_pols (n : Nat) (g : LoopAux → LoopAux) : (s.modLoop n g).pols = s.pols := rfl
@[simp] theorem State.modLoop_sats (n : Nat) (g : LoopAux → LoopAux) : (s.modLoop n g).sats = s.sats := rfl
@[simp] theorem State.modLoop_time (n : Nat) (g : LoopAux → LoopAux) : (s.modLoop n g).time = s.time := rfl
@[simp] theorem State.modLoop_timers (n : Nat) (g : LoopAux → LoopAux) : (s.modLoop n g).timers = s.timers := rfl
@[simp] theorem State.modLoop_supply (n : Nat) (g : LoopAux → LoopAux) : (s.modLoop n g).supply = s.supply := rfl
@[simp] theorem State.modLoop_nvm (n : Nat) (g : LoopAux → LoopAux) : (s.modLoop n g).nvm = s.nvm := rfl
@[simp] theorem State.modLoop_upd (n : Nat) (g : LoopAux → LoopAux) : (s.modLoop n g).upd = s.upd := rfl
@[simp] theorem State.modLoop_life (n : Nat) (g : LoopAux → LoopAux) : (s.modLoop n g).life = s.life := rfl
@[simp] theorem State.modLoop_dresser (n : Nat) (g : LoopAux → LoopAux) : (s.modLoop n g).dresser = s.dresser := rfl
@[simp] theorem State.modLoop_rails (n : Nat) (g : LoopAux → LoopAux) : (s.modLoop n g).rails = s.rails := rfl
@[simp] theorem State.modLoop_seq (n : Nat) (g : LoopAux → LoopAux) : (s.modLoop n g).seq = s.seq := rfl
@[simp] theorem State.modLoop_fantail (n : Nat) (g : LoopAux → LoopAux) : (s.modLoop n g).fantail = s.fantail := rfl
@[simp] theorem State.modLoop_therms (n : Nat) (g : LoopAux → LoopAux) : (s.modLoop n g).therms = s.therms := rfl
@[simp] theorem State.modLoop_shelf (n : Nat) (g : LoopAux → LoopAux) : (s.modLoop n g).shelf = s.shelf := rfl
@[simp] theorem State.modLoop_miller (n : Nat) (g : LoopAux → LoopAux) : (s.modLoop n g).miller = s.miller := rfl
@[simp] theorem State.modLoop_segs (n : Nat) (g : LoopAux → LoopAux) : (s.modLoop n g).segs = s.segs := rfl
@[simp] theorem State.modLoop_phases (n : Nat) (g : LoopAux → LoopAux) : (s.modLoop n g).phases = s.phases := rfl
@[simp] theorem State.modLoop_wheel (n : Nat) (g : LoopAux → LoopAux) : (s.modLoop n g).wheel = s.wheel := rfl
@[simp] theorem State.modLoop_flume (n : Nat) (g : LoopAux → LoopAux) : (s.modLoop n g).flume = s.flume := rfl
@[simp] theorem State.modLoop_trace (n : Nat) (g : LoopAux → LoopAux) : (s.modLoop n g).trace = s.trace := rfl
@[simp] theorem State.modLoop_feeders (n : Nat) (g : LoopAux → LoopAux) : (s.modLoop n g).feeders = s.feeders := rfl
@[simp] theorem State.modLoop_strings (n : Nat) (g : LoopAux → LoopAux) : (s.modLoop n g).strings = s.strings := rfl
@[simp] theorem State.modLoop_modules (n : Nat) (g : LoopAux → LoopAux) : (s.modLoop n g).modules = s.modules := rfl
@[simp] theorem State.modLoop_auths (n : Nat) (g : LoopAux → LoopAux) : (s.modLoop n g).auths = s.auths := rfl
@[simp] theorem State.modLoop_nonces (n : Nat) (g : LoopAux → LoopAux) : (s.modLoop n g).nonces = s.nonces := rfl
@[simp] theorem State.modLoop_draws (n : Nat) (g : LoopAux → LoopAux) : (s.modLoop n g).draws = s.draws := rfl
@[simp] theorem State.modLoop_pending (n : Nat) (g : LoopAux → LoopAux) : (s.modLoop n g).pending = s.pending := rfl

/-! ## modPhase -/

@[simp] theorem State.modPhase_params (n : Nat) (g : PhaseAux → PhaseAux) : (s.modPhase n g).params = s.params := rfl
@[simp] theorem State.modPhase_grist (n : Nat) (g : PhaseAux → PhaseAux) : (s.modPhase n g).grist = s.grist := rfl
@[simp] theorem State.modPhase_hopper (n : Nat) (g : PhaseAux → PhaseAux) : (s.modPhase n g).hopper = s.hopper := rfl
@[simp] theorem State.modPhase_ports (n : Nat) (g : PhaseAux → PhaseAux) : (s.modPhase n g).ports = s.ports := rfl
@[simp] theorem State.modPhase_downs (n : Nat) (g : PhaseAux → PhaseAux) : (s.modPhase n g).downs = s.downs := rfl
@[simp] theorem State.modPhase_pols (n : Nat) (g : PhaseAux → PhaseAux) : (s.modPhase n g).pols = s.pols := rfl
@[simp] theorem State.modPhase_sats (n : Nat) (g : PhaseAux → PhaseAux) : (s.modPhase n g).sats = s.sats := rfl
@[simp] theorem State.modPhase_time (n : Nat) (g : PhaseAux → PhaseAux) : (s.modPhase n g).time = s.time := rfl
@[simp] theorem State.modPhase_timers (n : Nat) (g : PhaseAux → PhaseAux) : (s.modPhase n g).timers = s.timers := rfl
@[simp] theorem State.modPhase_supply (n : Nat) (g : PhaseAux → PhaseAux) : (s.modPhase n g).supply = s.supply := rfl
@[simp] theorem State.modPhase_nvm (n : Nat) (g : PhaseAux → PhaseAux) : (s.modPhase n g).nvm = s.nvm := rfl
@[simp] theorem State.modPhase_upd (n : Nat) (g : PhaseAux → PhaseAux) : (s.modPhase n g).upd = s.upd := rfl
@[simp] theorem State.modPhase_life (n : Nat) (g : PhaseAux → PhaseAux) : (s.modPhase n g).life = s.life := rfl
@[simp] theorem State.modPhase_dresser (n : Nat) (g : PhaseAux → PhaseAux) : (s.modPhase n g).dresser = s.dresser := rfl
@[simp] theorem State.modPhase_rails (n : Nat) (g : PhaseAux → PhaseAux) : (s.modPhase n g).rails = s.rails := rfl
@[simp] theorem State.modPhase_seq (n : Nat) (g : PhaseAux → PhaseAux) : (s.modPhase n g).seq = s.seq := rfl
@[simp] theorem State.modPhase_fantail (n : Nat) (g : PhaseAux → PhaseAux) : (s.modPhase n g).fantail = s.fantail := rfl
@[simp] theorem State.modPhase_therms (n : Nat) (g : PhaseAux → PhaseAux) : (s.modPhase n g).therms = s.therms := rfl
@[simp] theorem State.modPhase_shelf (n : Nat) (g : PhaseAux → PhaseAux) : (s.modPhase n g).shelf = s.shelf := rfl
@[simp] theorem State.modPhase_miller (n : Nat) (g : PhaseAux → PhaseAux) : (s.modPhase n g).miller = s.miller := rfl
@[simp] theorem State.modPhase_segs (n : Nat) (g : PhaseAux → PhaseAux) : (s.modPhase n g).segs = s.segs := rfl
@[simp] theorem State.modPhase_loops (n : Nat) (g : PhaseAux → PhaseAux) : (s.modPhase n g).loops = s.loops := rfl
@[simp] theorem State.modPhase_wheel (n : Nat) (g : PhaseAux → PhaseAux) : (s.modPhase n g).wheel = s.wheel := rfl
@[simp] theorem State.modPhase_flume (n : Nat) (g : PhaseAux → PhaseAux) : (s.modPhase n g).flume = s.flume := rfl
@[simp] theorem State.modPhase_trace (n : Nat) (g : PhaseAux → PhaseAux) : (s.modPhase n g).trace = s.trace := rfl
@[simp] theorem State.modPhase_feeders (n : Nat) (g : PhaseAux → PhaseAux) : (s.modPhase n g).feeders = s.feeders := rfl
@[simp] theorem State.modPhase_strings (n : Nat) (g : PhaseAux → PhaseAux) : (s.modPhase n g).strings = s.strings := rfl
@[simp] theorem State.modPhase_modules (n : Nat) (g : PhaseAux → PhaseAux) : (s.modPhase n g).modules = s.modules := rfl
@[simp] theorem State.modPhase_auths (n : Nat) (g : PhaseAux → PhaseAux) : (s.modPhase n g).auths = s.auths := rfl
@[simp] theorem State.modPhase_nonces (n : Nat) (g : PhaseAux → PhaseAux) : (s.modPhase n g).nonces = s.nonces := rfl
@[simp] theorem State.modPhase_draws (n : Nat) (g : PhaseAux → PhaseAux) : (s.modPhase n g).draws = s.draws := rfl
@[simp] theorem State.modPhase_pending (n : Nat) (g : PhaseAux → PhaseAux) : (s.modPhase n g).pending = s.pending := rfl

/-! ## modRail -/

@[simp] theorem State.modRail_params (n : Nat) (g : RailAux → RailAux) : (s.modRail n g).params = s.params := rfl
@[simp] theorem State.modRail_grist (n : Nat) (g : RailAux → RailAux) : (s.modRail n g).grist = s.grist := rfl
@[simp] theorem State.modRail_hopper (n : Nat) (g : RailAux → RailAux) : (s.modRail n g).hopper = s.hopper := rfl
@[simp] theorem State.modRail_ports (n : Nat) (g : RailAux → RailAux) : (s.modRail n g).ports = s.ports := rfl
@[simp] theorem State.modRail_downs (n : Nat) (g : RailAux → RailAux) : (s.modRail n g).downs = s.downs := rfl
@[simp] theorem State.modRail_pols (n : Nat) (g : RailAux → RailAux) : (s.modRail n g).pols = s.pols := rfl
@[simp] theorem State.modRail_sats (n : Nat) (g : RailAux → RailAux) : (s.modRail n g).sats = s.sats := rfl
@[simp] theorem State.modRail_time (n : Nat) (g : RailAux → RailAux) : (s.modRail n g).time = s.time := rfl
@[simp] theorem State.modRail_timers (n : Nat) (g : RailAux → RailAux) : (s.modRail n g).timers = s.timers := rfl
@[simp] theorem State.modRail_supply (n : Nat) (g : RailAux → RailAux) : (s.modRail n g).supply = s.supply := rfl
@[simp] theorem State.modRail_nvm (n : Nat) (g : RailAux → RailAux) : (s.modRail n g).nvm = s.nvm := rfl
@[simp] theorem State.modRail_upd (n : Nat) (g : RailAux → RailAux) : (s.modRail n g).upd = s.upd := rfl
@[simp] theorem State.modRail_life (n : Nat) (g : RailAux → RailAux) : (s.modRail n g).life = s.life := rfl
@[simp] theorem State.modRail_dresser (n : Nat) (g : RailAux → RailAux) : (s.modRail n g).dresser = s.dresser := rfl
@[simp] theorem State.modRail_seq (n : Nat) (g : RailAux → RailAux) : (s.modRail n g).seq = s.seq := rfl
@[simp] theorem State.modRail_fantail (n : Nat) (g : RailAux → RailAux) : (s.modRail n g).fantail = s.fantail := rfl
@[simp] theorem State.modRail_therms (n : Nat) (g : RailAux → RailAux) : (s.modRail n g).therms = s.therms := rfl
@[simp] theorem State.modRail_shelf (n : Nat) (g : RailAux → RailAux) : (s.modRail n g).shelf = s.shelf := rfl
@[simp] theorem State.modRail_miller (n : Nat) (g : RailAux → RailAux) : (s.modRail n g).miller = s.miller := rfl
@[simp] theorem State.modRail_segs (n : Nat) (g : RailAux → RailAux) : (s.modRail n g).segs = s.segs := rfl
@[simp] theorem State.modRail_loops (n : Nat) (g : RailAux → RailAux) : (s.modRail n g).loops = s.loops := rfl
@[simp] theorem State.modRail_phases (n : Nat) (g : RailAux → RailAux) : (s.modRail n g).phases = s.phases := rfl
@[simp] theorem State.modRail_wheel (n : Nat) (g : RailAux → RailAux) : (s.modRail n g).wheel = s.wheel := rfl
@[simp] theorem State.modRail_flume (n : Nat) (g : RailAux → RailAux) : (s.modRail n g).flume = s.flume := rfl
@[simp] theorem State.modRail_trace (n : Nat) (g : RailAux → RailAux) : (s.modRail n g).trace = s.trace := rfl
@[simp] theorem State.modRail_feeders (n : Nat) (g : RailAux → RailAux) : (s.modRail n g).feeders = s.feeders := rfl
@[simp] theorem State.modRail_strings (n : Nat) (g : RailAux → RailAux) : (s.modRail n g).strings = s.strings := rfl
@[simp] theorem State.modRail_modules (n : Nat) (g : RailAux → RailAux) : (s.modRail n g).modules = s.modules := rfl
@[simp] theorem State.modRail_auths (n : Nat) (g : RailAux → RailAux) : (s.modRail n g).auths = s.auths := rfl
@[simp] theorem State.modRail_nonces (n : Nat) (g : RailAux → RailAux) : (s.modRail n g).nonces = s.nonces := rfl
@[simp] theorem State.modRail_draws (n : Nat) (g : RailAux → RailAux) : (s.modRail n g).draws = s.draws := rfl
@[simp] theorem State.modRail_pending (n : Nat) (g : RailAux → RailAux) : (s.modRail n g).pending = s.pending := rfl

/-! ## modTherm -/

@[simp] theorem State.modTherm_params (n : Nat) (g : ThermAux → ThermAux) : (s.modTherm n g).params = s.params := rfl
@[simp] theorem State.modTherm_grist (n : Nat) (g : ThermAux → ThermAux) : (s.modTherm n g).grist = s.grist := rfl
@[simp] theorem State.modTherm_hopper (n : Nat) (g : ThermAux → ThermAux) : (s.modTherm n g).hopper = s.hopper := rfl
@[simp] theorem State.modTherm_ports (n : Nat) (g : ThermAux → ThermAux) : (s.modTherm n g).ports = s.ports := rfl
@[simp] theorem State.modTherm_downs (n : Nat) (g : ThermAux → ThermAux) : (s.modTherm n g).downs = s.downs := rfl
@[simp] theorem State.modTherm_pols (n : Nat) (g : ThermAux → ThermAux) : (s.modTherm n g).pols = s.pols := rfl
@[simp] theorem State.modTherm_sats (n : Nat) (g : ThermAux → ThermAux) : (s.modTherm n g).sats = s.sats := rfl
@[simp] theorem State.modTherm_time (n : Nat) (g : ThermAux → ThermAux) : (s.modTherm n g).time = s.time := rfl
@[simp] theorem State.modTherm_timers (n : Nat) (g : ThermAux → ThermAux) : (s.modTherm n g).timers = s.timers := rfl
@[simp] theorem State.modTherm_supply (n : Nat) (g : ThermAux → ThermAux) : (s.modTherm n g).supply = s.supply := rfl
@[simp] theorem State.modTherm_nvm (n : Nat) (g : ThermAux → ThermAux) : (s.modTherm n g).nvm = s.nvm := rfl
@[simp] theorem State.modTherm_upd (n : Nat) (g : ThermAux → ThermAux) : (s.modTherm n g).upd = s.upd := rfl
@[simp] theorem State.modTherm_life (n : Nat) (g : ThermAux → ThermAux) : (s.modTherm n g).life = s.life := rfl
@[simp] theorem State.modTherm_dresser (n : Nat) (g : ThermAux → ThermAux) : (s.modTherm n g).dresser = s.dresser := rfl
@[simp] theorem State.modTherm_rails (n : Nat) (g : ThermAux → ThermAux) : (s.modTherm n g).rails = s.rails := rfl
@[simp] theorem State.modTherm_seq (n : Nat) (g : ThermAux → ThermAux) : (s.modTherm n g).seq = s.seq := rfl
@[simp] theorem State.modTherm_fantail (n : Nat) (g : ThermAux → ThermAux) : (s.modTherm n g).fantail = s.fantail := rfl
@[simp] theorem State.modTherm_shelf (n : Nat) (g : ThermAux → ThermAux) : (s.modTherm n g).shelf = s.shelf := rfl
@[simp] theorem State.modTherm_miller (n : Nat) (g : ThermAux → ThermAux) : (s.modTherm n g).miller = s.miller := rfl
@[simp] theorem State.modTherm_segs (n : Nat) (g : ThermAux → ThermAux) : (s.modTherm n g).segs = s.segs := rfl
@[simp] theorem State.modTherm_loops (n : Nat) (g : ThermAux → ThermAux) : (s.modTherm n g).loops = s.loops := rfl
@[simp] theorem State.modTherm_phases (n : Nat) (g : ThermAux → ThermAux) : (s.modTherm n g).phases = s.phases := rfl
@[simp] theorem State.modTherm_wheel (n : Nat) (g : ThermAux → ThermAux) : (s.modTherm n g).wheel = s.wheel := rfl
@[simp] theorem State.modTherm_flume (n : Nat) (g : ThermAux → ThermAux) : (s.modTherm n g).flume = s.flume := rfl
@[simp] theorem State.modTherm_trace (n : Nat) (g : ThermAux → ThermAux) : (s.modTherm n g).trace = s.trace := rfl
@[simp] theorem State.modTherm_feeders (n : Nat) (g : ThermAux → ThermAux) : (s.modTherm n g).feeders = s.feeders := rfl
@[simp] theorem State.modTherm_strings (n : Nat) (g : ThermAux → ThermAux) : (s.modTherm n g).strings = s.strings := rfl
@[simp] theorem State.modTherm_modules (n : Nat) (g : ThermAux → ThermAux) : (s.modTherm n g).modules = s.modules := rfl
@[simp] theorem State.modTherm_auths (n : Nat) (g : ThermAux → ThermAux) : (s.modTherm n g).auths = s.auths := rfl
@[simp] theorem State.modTherm_nonces (n : Nat) (g : ThermAux → ThermAux) : (s.modTherm n g).nonces = s.nonces := rfl
@[simp] theorem State.modTherm_draws (n : Nat) (g : ThermAux → ThermAux) : (s.modTherm n g).draws = s.draws := rfl
@[simp] theorem State.modTherm_pending (n : Nat) (g : ThermAux → ThermAux) : (s.modTherm n g).pending = s.pending := rfl

/-! ## modTimer -/

@[simp] theorem State.modTimer_params (n : Nat) (g : TimerAux → TimerAux) : (s.modTimer n g).params = s.params := rfl
@[simp] theorem State.modTimer_grist (n : Nat) (g : TimerAux → TimerAux) : (s.modTimer n g).grist = s.grist := rfl
@[simp] theorem State.modTimer_hopper (n : Nat) (g : TimerAux → TimerAux) : (s.modTimer n g).hopper = s.hopper := rfl
@[simp] theorem State.modTimer_ports (n : Nat) (g : TimerAux → TimerAux) : (s.modTimer n g).ports = s.ports := rfl
@[simp] theorem State.modTimer_downs (n : Nat) (g : TimerAux → TimerAux) : (s.modTimer n g).downs = s.downs := rfl
@[simp] theorem State.modTimer_pols (n : Nat) (g : TimerAux → TimerAux) : (s.modTimer n g).pols = s.pols := rfl
@[simp] theorem State.modTimer_sats (n : Nat) (g : TimerAux → TimerAux) : (s.modTimer n g).sats = s.sats := rfl
@[simp] theorem State.modTimer_time (n : Nat) (g : TimerAux → TimerAux) : (s.modTimer n g).time = s.time := rfl
@[simp] theorem State.modTimer_supply (n : Nat) (g : TimerAux → TimerAux) : (s.modTimer n g).supply = s.supply := rfl
@[simp] theorem State.modTimer_nvm (n : Nat) (g : TimerAux → TimerAux) : (s.modTimer n g).nvm = s.nvm := rfl
@[simp] theorem State.modTimer_upd (n : Nat) (g : TimerAux → TimerAux) : (s.modTimer n g).upd = s.upd := rfl
@[simp] theorem State.modTimer_life (n : Nat) (g : TimerAux → TimerAux) : (s.modTimer n g).life = s.life := rfl
@[simp] theorem State.modTimer_dresser (n : Nat) (g : TimerAux → TimerAux) : (s.modTimer n g).dresser = s.dresser := rfl
@[simp] theorem State.modTimer_rails (n : Nat) (g : TimerAux → TimerAux) : (s.modTimer n g).rails = s.rails := rfl
@[simp] theorem State.modTimer_seq (n : Nat) (g : TimerAux → TimerAux) : (s.modTimer n g).seq = s.seq := rfl
@[simp] theorem State.modTimer_fantail (n : Nat) (g : TimerAux → TimerAux) : (s.modTimer n g).fantail = s.fantail := rfl
@[simp] theorem State.modTimer_therms (n : Nat) (g : TimerAux → TimerAux) : (s.modTimer n g).therms = s.therms := rfl
@[simp] theorem State.modTimer_shelf (n : Nat) (g : TimerAux → TimerAux) : (s.modTimer n g).shelf = s.shelf := rfl
@[simp] theorem State.modTimer_miller (n : Nat) (g : TimerAux → TimerAux) : (s.modTimer n g).miller = s.miller := rfl
@[simp] theorem State.modTimer_segs (n : Nat) (g : TimerAux → TimerAux) : (s.modTimer n g).segs = s.segs := rfl
@[simp] theorem State.modTimer_loops (n : Nat) (g : TimerAux → TimerAux) : (s.modTimer n g).loops = s.loops := rfl
@[simp] theorem State.modTimer_phases (n : Nat) (g : TimerAux → TimerAux) : (s.modTimer n g).phases = s.phases := rfl
@[simp] theorem State.modTimer_wheel (n : Nat) (g : TimerAux → TimerAux) : (s.modTimer n g).wheel = s.wheel := rfl
@[simp] theorem State.modTimer_flume (n : Nat) (g : TimerAux → TimerAux) : (s.modTimer n g).flume = s.flume := rfl
@[simp] theorem State.modTimer_trace (n : Nat) (g : TimerAux → TimerAux) : (s.modTimer n g).trace = s.trace := rfl
@[simp] theorem State.modTimer_feeders (n : Nat) (g : TimerAux → TimerAux) : (s.modTimer n g).feeders = s.feeders := rfl
@[simp] theorem State.modTimer_strings (n : Nat) (g : TimerAux → TimerAux) : (s.modTimer n g).strings = s.strings := rfl
@[simp] theorem State.modTimer_modules (n : Nat) (g : TimerAux → TimerAux) : (s.modTimer n g).modules = s.modules := rfl
@[simp] theorem State.modTimer_auths (n : Nat) (g : TimerAux → TimerAux) : (s.modTimer n g).auths = s.auths := rfl
@[simp] theorem State.modTimer_nonces (n : Nat) (g : TimerAux → TimerAux) : (s.modTimer n g).nonces = s.nonces := rfl
@[simp] theorem State.modTimer_draws (n : Nat) (g : TimerAux → TimerAux) : (s.modTimer n g).draws = s.draws := rfl
@[simp] theorem State.modTimer_pending (n : Nat) (g : TimerAux → TimerAux) : (s.modTimer n g).pending = s.pending := rfl

/-! ## modDown -/

@[simp] theorem State.modDown_params (n : Nat) (g : DownAux → DownAux) : (s.modDown n g).params = s.params := rfl
@[simp] theorem State.modDown_grist (n : Nat) (g : DownAux → DownAux) : (s.modDown n g).grist = s.grist := rfl
@[simp] theorem State.modDown_hopper (n : Nat) (g : DownAux → DownAux) : (s.modDown n g).hopper = s.hopper := rfl
@[simp] theorem State.modDown_ports (n : Nat) (g : DownAux → DownAux) : (s.modDown n g).ports = s.ports := rfl
@[simp] theorem State.modDown_pols (n : Nat) (g : DownAux → DownAux) : (s.modDown n g).pols = s.pols := rfl
@[simp] theorem State.modDown_sats (n : Nat) (g : DownAux → DownAux) : (s.modDown n g).sats = s.sats := rfl
@[simp] theorem State.modDown_time (n : Nat) (g : DownAux → DownAux) : (s.modDown n g).time = s.time := rfl
@[simp] theorem State.modDown_timers (n : Nat) (g : DownAux → DownAux) : (s.modDown n g).timers = s.timers := rfl
@[simp] theorem State.modDown_supply (n : Nat) (g : DownAux → DownAux) : (s.modDown n g).supply = s.supply := rfl
@[simp] theorem State.modDown_nvm (n : Nat) (g : DownAux → DownAux) : (s.modDown n g).nvm = s.nvm := rfl
@[simp] theorem State.modDown_upd (n : Nat) (g : DownAux → DownAux) : (s.modDown n g).upd = s.upd := rfl
@[simp] theorem State.modDown_life (n : Nat) (g : DownAux → DownAux) : (s.modDown n g).life = s.life := rfl
@[simp] theorem State.modDown_dresser (n : Nat) (g : DownAux → DownAux) : (s.modDown n g).dresser = s.dresser := rfl
@[simp] theorem State.modDown_rails (n : Nat) (g : DownAux → DownAux) : (s.modDown n g).rails = s.rails := rfl
@[simp] theorem State.modDown_seq (n : Nat) (g : DownAux → DownAux) : (s.modDown n g).seq = s.seq := rfl
@[simp] theorem State.modDown_fantail (n : Nat) (g : DownAux → DownAux) : (s.modDown n g).fantail = s.fantail := rfl
@[simp] theorem State.modDown_therms (n : Nat) (g : DownAux → DownAux) : (s.modDown n g).therms = s.therms := rfl
@[simp] theorem State.modDown_shelf (n : Nat) (g : DownAux → DownAux) : (s.modDown n g).shelf = s.shelf := rfl
@[simp] theorem State.modDown_miller (n : Nat) (g : DownAux → DownAux) : (s.modDown n g).miller = s.miller := rfl
@[simp] theorem State.modDown_segs (n : Nat) (g : DownAux → DownAux) : (s.modDown n g).segs = s.segs := rfl
@[simp] theorem State.modDown_loops (n : Nat) (g : DownAux → DownAux) : (s.modDown n g).loops = s.loops := rfl
@[simp] theorem State.modDown_phases (n : Nat) (g : DownAux → DownAux) : (s.modDown n g).phases = s.phases := rfl
@[simp] theorem State.modDown_wheel (n : Nat) (g : DownAux → DownAux) : (s.modDown n g).wheel = s.wheel := rfl
@[simp] theorem State.modDown_flume (n : Nat) (g : DownAux → DownAux) : (s.modDown n g).flume = s.flume := rfl
@[simp] theorem State.modDown_trace (n : Nat) (g : DownAux → DownAux) : (s.modDown n g).trace = s.trace := rfl
@[simp] theorem State.modDown_feeders (n : Nat) (g : DownAux → DownAux) : (s.modDown n g).feeders = s.feeders := rfl
@[simp] theorem State.modDown_strings (n : Nat) (g : DownAux → DownAux) : (s.modDown n g).strings = s.strings := rfl
@[simp] theorem State.modDown_modules (n : Nat) (g : DownAux → DownAux) : (s.modDown n g).modules = s.modules := rfl
@[simp] theorem State.modDown_auths (n : Nat) (g : DownAux → DownAux) : (s.modDown n g).auths = s.auths := rfl
@[simp] theorem State.modDown_nonces (n : Nat) (g : DownAux → DownAux) : (s.modDown n g).nonces = s.nonces := rfl
@[simp] theorem State.modDown_draws (n : Nat) (g : DownAux → DownAux) : (s.modDown n g).draws = s.draws := rfl
@[simp] theorem State.modDown_pending (n : Nat) (g : DownAux → DownAux) : (s.modDown n g).pending = s.pending := rfl

/-! ## modPol -/

@[simp] theorem State.modPol_params (n : Nat) (g : PolAux → PolAux) : (s.modPol n g).params = s.params := rfl
@[simp] theorem State.modPol_grist (n : Nat) (g : PolAux → PolAux) : (s.modPol n g).grist = s.grist := rfl
@[simp] theorem State.modPol_hopper (n : Nat) (g : PolAux → PolAux) : (s.modPol n g).hopper = s.hopper := rfl
@[simp] theorem State.modPol_ports (n : Nat) (g : PolAux → PolAux) : (s.modPol n g).ports = s.ports := rfl
@[simp] theorem State.modPol_downs (n : Nat) (g : PolAux → PolAux) : (s.modPol n g).downs = s.downs := rfl
@[simp] theorem State.modPol_sats (n : Nat) (g : PolAux → PolAux) : (s.modPol n g).sats = s.sats := rfl
@[simp] theorem State.modPol_time (n : Nat) (g : PolAux → PolAux) : (s.modPol n g).time = s.time := rfl
@[simp] theorem State.modPol_timers (n : Nat) (g : PolAux → PolAux) : (s.modPol n g).timers = s.timers := rfl
@[simp] theorem State.modPol_supply (n : Nat) (g : PolAux → PolAux) : (s.modPol n g).supply = s.supply := rfl
@[simp] theorem State.modPol_nvm (n : Nat) (g : PolAux → PolAux) : (s.modPol n g).nvm = s.nvm := rfl
@[simp] theorem State.modPol_upd (n : Nat) (g : PolAux → PolAux) : (s.modPol n g).upd = s.upd := rfl
@[simp] theorem State.modPol_life (n : Nat) (g : PolAux → PolAux) : (s.modPol n g).life = s.life := rfl
@[simp] theorem State.modPol_dresser (n : Nat) (g : PolAux → PolAux) : (s.modPol n g).dresser = s.dresser := rfl
@[simp] theorem State.modPol_rails (n : Nat) (g : PolAux → PolAux) : (s.modPol n g).rails = s.rails := rfl
@[simp] theorem State.modPol_seq (n : Nat) (g : PolAux → PolAux) : (s.modPol n g).seq = s.seq := rfl
@[simp] theorem State.modPol_fantail (n : Nat) (g : PolAux → PolAux) : (s.modPol n g).fantail = s.fantail := rfl
@[simp] theorem State.modPol_therms (n : Nat) (g : PolAux → PolAux) : (s.modPol n g).therms = s.therms := rfl
@[simp] theorem State.modPol_shelf (n : Nat) (g : PolAux → PolAux) : (s.modPol n g).shelf = s.shelf := rfl
@[simp] theorem State.modPol_miller (n : Nat) (g : PolAux → PolAux) : (s.modPol n g).miller = s.miller := rfl
@[simp] theorem State.modPol_segs (n : Nat) (g : PolAux → PolAux) : (s.modPol n g).segs = s.segs := rfl
@[simp] theorem State.modPol_loops (n : Nat) (g : PolAux → PolAux) : (s.modPol n g).loops = s.loops := rfl
@[simp] theorem State.modPol_phases (n : Nat) (g : PolAux → PolAux) : (s.modPol n g).phases = s.phases := rfl
@[simp] theorem State.modPol_wheel (n : Nat) (g : PolAux → PolAux) : (s.modPol n g).wheel = s.wheel := rfl
@[simp] theorem State.modPol_flume (n : Nat) (g : PolAux → PolAux) : (s.modPol n g).flume = s.flume := rfl
@[simp] theorem State.modPol_trace (n : Nat) (g : PolAux → PolAux) : (s.modPol n g).trace = s.trace := rfl
@[simp] theorem State.modPol_feeders (n : Nat) (g : PolAux → PolAux) : (s.modPol n g).feeders = s.feeders := rfl
@[simp] theorem State.modPol_strings (n : Nat) (g : PolAux → PolAux) : (s.modPol n g).strings = s.strings := rfl
@[simp] theorem State.modPol_modules (n : Nat) (g : PolAux → PolAux) : (s.modPol n g).modules = s.modules := rfl
@[simp] theorem State.modPol_auths (n : Nat) (g : PolAux → PolAux) : (s.modPol n g).auths = s.auths := rfl
@[simp] theorem State.modPol_nonces (n : Nat) (g : PolAux → PolAux) : (s.modPol n g).nonces = s.nonces := rfl
@[simp] theorem State.modPol_draws (n : Nat) (g : PolAux → PolAux) : (s.modPol n g).draws = s.draws := rfl
@[simp] theorem State.modPol_pending (n : Nat) (g : PolAux → PolAux) : (s.modPol n g).pending = s.pending := rfl

/-! ## modSat -/

@[simp] theorem State.modSat_params (n : Nat) (g : SatAux → SatAux) : (s.modSat n g).params = s.params := rfl
@[simp] theorem State.modSat_grist (n : Nat) (g : SatAux → SatAux) : (s.modSat n g).grist = s.grist := rfl
@[simp] theorem State.modSat_hopper (n : Nat) (g : SatAux → SatAux) : (s.modSat n g).hopper = s.hopper := rfl
@[simp] theorem State.modSat_ports (n : Nat) (g : SatAux → SatAux) : (s.modSat n g).ports = s.ports := rfl
@[simp] theorem State.modSat_downs (n : Nat) (g : SatAux → SatAux) : (s.modSat n g).downs = s.downs := rfl
@[simp] theorem State.modSat_pols (n : Nat) (g : SatAux → SatAux) : (s.modSat n g).pols = s.pols := rfl
@[simp] theorem State.modSat_time (n : Nat) (g : SatAux → SatAux) : (s.modSat n g).time = s.time := rfl
@[simp] theorem State.modSat_timers (n : Nat) (g : SatAux → SatAux) : (s.modSat n g).timers = s.timers := rfl
@[simp] theorem State.modSat_supply (n : Nat) (g : SatAux → SatAux) : (s.modSat n g).supply = s.supply := rfl
@[simp] theorem State.modSat_nvm (n : Nat) (g : SatAux → SatAux) : (s.modSat n g).nvm = s.nvm := rfl
@[simp] theorem State.modSat_upd (n : Nat) (g : SatAux → SatAux) : (s.modSat n g).upd = s.upd := rfl
@[simp] theorem State.modSat_life (n : Nat) (g : SatAux → SatAux) : (s.modSat n g).life = s.life := rfl
@[simp] theorem State.modSat_dresser (n : Nat) (g : SatAux → SatAux) : (s.modSat n g).dresser = s.dresser := rfl
@[simp] theorem State.modSat_rails (n : Nat) (g : SatAux → SatAux) : (s.modSat n g).rails = s.rails := rfl
@[simp] theorem State.modSat_seq (n : Nat) (g : SatAux → SatAux) : (s.modSat n g).seq = s.seq := rfl
@[simp] theorem State.modSat_fantail (n : Nat) (g : SatAux → SatAux) : (s.modSat n g).fantail = s.fantail := rfl
@[simp] theorem State.modSat_therms (n : Nat) (g : SatAux → SatAux) : (s.modSat n g).therms = s.therms := rfl
@[simp] theorem State.modSat_shelf (n : Nat) (g : SatAux → SatAux) : (s.modSat n g).shelf = s.shelf := rfl
@[simp] theorem State.modSat_miller (n : Nat) (g : SatAux → SatAux) : (s.modSat n g).miller = s.miller := rfl
@[simp] theorem State.modSat_segs (n : Nat) (g : SatAux → SatAux) : (s.modSat n g).segs = s.segs := rfl
@[simp] theorem State.modSat_loops (n : Nat) (g : SatAux → SatAux) : (s.modSat n g).loops = s.loops := rfl
@[simp] theorem State.modSat_phases (n : Nat) (g : SatAux → SatAux) : (s.modSat n g).phases = s.phases := rfl
@[simp] theorem State.modSat_wheel (n : Nat) (g : SatAux → SatAux) : (s.modSat n g).wheel = s.wheel := rfl
@[simp] theorem State.modSat_flume (n : Nat) (g : SatAux → SatAux) : (s.modSat n g).flume = s.flume := rfl
@[simp] theorem State.modSat_trace (n : Nat) (g : SatAux → SatAux) : (s.modSat n g).trace = s.trace := rfl
@[simp] theorem State.modSat_feeders (n : Nat) (g : SatAux → SatAux) : (s.modSat n g).feeders = s.feeders := rfl
@[simp] theorem State.modSat_strings (n : Nat) (g : SatAux → SatAux) : (s.modSat n g).strings = s.strings := rfl
@[simp] theorem State.modSat_modules (n : Nat) (g : SatAux → SatAux) : (s.modSat n g).modules = s.modules := rfl
@[simp] theorem State.modSat_auths (n : Nat) (g : SatAux → SatAux) : (s.modSat n g).auths = s.auths := rfl
@[simp] theorem State.modSat_nonces (n : Nat) (g : SatAux → SatAux) : (s.modSat n g).nonces = s.nonces := rfl
@[simp] theorem State.modSat_draws (n : Nat) (g : SatAux → SatAux) : (s.modSat n g).draws = s.draws := rfl
@[simp] theorem State.modSat_pending (n : Nat) (g : SatAux → SatAux) : (s.modSat n g).pending = s.pending := rfl

/-! ## modConsF -/

@[simp] theorem State.modConsF_params (n : Nat) (g : ConsumerAux → ConsumerAux) : (s.modConsF n g).params = s.params := rfl
@[simp] theorem State.modConsF_grist (n : Nat) (g : ConsumerAux → ConsumerAux) : (s.modConsF n g).grist = s.grist := rfl
@[simp] theorem State.modConsF_hopper (n : Nat) (g : ConsumerAux → ConsumerAux) : (s.modConsF n g).hopper = s.hopper := rfl
@[simp] theorem State.modConsF_ports (n : Nat) (g : ConsumerAux → ConsumerAux) : (s.modConsF n g).ports = s.ports := rfl
@[simp] theorem State.modConsF_downs (n : Nat) (g : ConsumerAux → ConsumerAux) : (s.modConsF n g).downs = s.downs := rfl
@[simp] theorem State.modConsF_pols (n : Nat) (g : ConsumerAux → ConsumerAux) : (s.modConsF n g).pols = s.pols := rfl
@[simp] theorem State.modConsF_sats (n : Nat) (g : ConsumerAux → ConsumerAux) : (s.modConsF n g).sats = s.sats := rfl
@[simp] theorem State.modConsF_time (n : Nat) (g : ConsumerAux → ConsumerAux) : (s.modConsF n g).time = s.time := rfl
@[simp] theorem State.modConsF_timers (n : Nat) (g : ConsumerAux → ConsumerAux) : (s.modConsF n g).timers = s.timers := rfl
@[simp] theorem State.modConsF_supply (n : Nat) (g : ConsumerAux → ConsumerAux) : (s.modConsF n g).supply = s.supply := rfl
@[simp] theorem State.modConsF_nvm (n : Nat) (g : ConsumerAux → ConsumerAux) : (s.modConsF n g).nvm = s.nvm := rfl
@[simp] theorem State.modConsF_upd (n : Nat) (g : ConsumerAux → ConsumerAux) : (s.modConsF n g).upd = s.upd := rfl
@[simp] theorem State.modConsF_life (n : Nat) (g : ConsumerAux → ConsumerAux) : (s.modConsF n g).life = s.life := rfl
@[simp] theorem State.modConsF_dresser (n : Nat) (g : ConsumerAux → ConsumerAux) : (s.modConsF n g).dresser = s.dresser := rfl
@[simp] theorem State.modConsF_rails (n : Nat) (g : ConsumerAux → ConsumerAux) : (s.modConsF n g).rails = s.rails := rfl
@[simp] theorem State.modConsF_seq (n : Nat) (g : ConsumerAux → ConsumerAux) : (s.modConsF n g).seq = s.seq := rfl
@[simp] theorem State.modConsF_therms (n : Nat) (g : ConsumerAux → ConsumerAux) : (s.modConsF n g).therms = s.therms := rfl
@[simp] theorem State.modConsF_shelf (n : Nat) (g : ConsumerAux → ConsumerAux) : (s.modConsF n g).shelf = s.shelf := rfl
@[simp] theorem State.modConsF_miller (n : Nat) (g : ConsumerAux → ConsumerAux) : (s.modConsF n g).miller = s.miller := rfl
@[simp] theorem State.modConsF_segs (n : Nat) (g : ConsumerAux → ConsumerAux) : (s.modConsF n g).segs = s.segs := rfl
@[simp] theorem State.modConsF_loops (n : Nat) (g : ConsumerAux → ConsumerAux) : (s.modConsF n g).loops = s.loops := rfl
@[simp] theorem State.modConsF_phases (n : Nat) (g : ConsumerAux → ConsumerAux) : (s.modConsF n g).phases = s.phases := rfl
@[simp] theorem State.modConsF_wheel (n : Nat) (g : ConsumerAux → ConsumerAux) : (s.modConsF n g).wheel = s.wheel := rfl
@[simp] theorem State.modConsF_flume (n : Nat) (g : ConsumerAux → ConsumerAux) : (s.modConsF n g).flume = s.flume := rfl
@[simp] theorem State.modConsF_trace (n : Nat) (g : ConsumerAux → ConsumerAux) : (s.modConsF n g).trace = s.trace := rfl
@[simp] theorem State.modConsF_feeders (n : Nat) (g : ConsumerAux → ConsumerAux) : (s.modConsF n g).feeders = s.feeders := rfl
@[simp] theorem State.modConsF_strings (n : Nat) (g : ConsumerAux → ConsumerAux) : (s.modConsF n g).strings = s.strings := rfl
@[simp] theorem State.modConsF_modules (n : Nat) (g : ConsumerAux → ConsumerAux) : (s.modConsF n g).modules = s.modules := rfl
@[simp] theorem State.modConsF_auths (n : Nat) (g : ConsumerAux → ConsumerAux) : (s.modConsF n g).auths = s.auths := rfl
@[simp] theorem State.modConsF_nonces (n : Nat) (g : ConsumerAux → ConsumerAux) : (s.modConsF n g).nonces = s.nonces := rfl
@[simp] theorem State.modConsF_draws (n : Nat) (g : ConsumerAux → ConsumerAux) : (s.modConsF n g).draws = s.draws := rfl
@[simp] theorem State.modConsF_pending (n : Nat) (g : ConsumerAux → ConsumerAux) : (s.modConsF n g).pending = s.pending := rfl

/-! ## modConsS -/

@[simp] theorem State.modConsS_params (n : Nat) (g : ConsumerAux → ConsumerAux) : (s.modConsS n g).params = s.params := rfl
@[simp] theorem State.modConsS_grist (n : Nat) (g : ConsumerAux → ConsumerAux) : (s.modConsS n g).grist = s.grist := rfl
@[simp] theorem State.modConsS_hopper (n : Nat) (g : ConsumerAux → ConsumerAux) : (s.modConsS n g).hopper = s.hopper := rfl
@[simp] theorem State.modConsS_ports (n : Nat) (g : ConsumerAux → ConsumerAux) : (s.modConsS n g).ports = s.ports := rfl
@[simp] theorem State.modConsS_downs (n : Nat) (g : ConsumerAux → ConsumerAux) : (s.modConsS n g).downs = s.downs := rfl
@[simp] theorem State.modConsS_pols (n : Nat) (g : ConsumerAux → ConsumerAux) : (s.modConsS n g).pols = s.pols := rfl
@[simp] theorem State.modConsS_sats (n : Nat) (g : ConsumerAux → ConsumerAux) : (s.modConsS n g).sats = s.sats := rfl
@[simp] theorem State.modConsS_time (n : Nat) (g : ConsumerAux → ConsumerAux) : (s.modConsS n g).time = s.time := rfl
@[simp] theorem State.modConsS_timers (n : Nat) (g : ConsumerAux → ConsumerAux) : (s.modConsS n g).timers = s.timers := rfl
@[simp] theorem State.modConsS_supply (n : Nat) (g : ConsumerAux → ConsumerAux) : (s.modConsS n g).supply = s.supply := rfl
@[simp] theorem State.modConsS_nvm (n : Nat) (g : ConsumerAux → ConsumerAux) : (s.modConsS n g).nvm = s.nvm := rfl
@[simp] theorem State.modConsS_upd (n : Nat) (g : ConsumerAux → ConsumerAux) : (s.modConsS n g).upd = s.upd := rfl
@[simp] theorem State.modConsS_life (n : Nat) (g : ConsumerAux → ConsumerAux) : (s.modConsS n g).life = s.life := rfl
@[simp] theorem State.modConsS_dresser (n : Nat) (g : ConsumerAux → ConsumerAux) : (s.modConsS n g).dresser = s.dresser := rfl
@[simp] theorem State.modConsS_rails (n : Nat) (g : ConsumerAux → ConsumerAux) : (s.modConsS n g).rails = s.rails := rfl
@[simp] theorem State.modConsS_seq (n : Nat) (g : ConsumerAux → ConsumerAux) : (s.modConsS n g).seq = s.seq := rfl
@[simp] theorem State.modConsS_therms (n : Nat) (g : ConsumerAux → ConsumerAux) : (s.modConsS n g).therms = s.therms := rfl
@[simp] theorem State.modConsS_shelf (n : Nat) (g : ConsumerAux → ConsumerAux) : (s.modConsS n g).shelf = s.shelf := rfl
@[simp] theorem State.modConsS_miller (n : Nat) (g : ConsumerAux → ConsumerAux) : (s.modConsS n g).miller = s.miller := rfl
@[simp] theorem State.modConsS_segs (n : Nat) (g : ConsumerAux → ConsumerAux) : (s.modConsS n g).segs = s.segs := rfl
@[simp] theorem State.modConsS_loops (n : Nat) (g : ConsumerAux → ConsumerAux) : (s.modConsS n g).loops = s.loops := rfl
@[simp] theorem State.modConsS_phases (n : Nat) (g : ConsumerAux → ConsumerAux) : (s.modConsS n g).phases = s.phases := rfl
@[simp] theorem State.modConsS_wheel (n : Nat) (g : ConsumerAux → ConsumerAux) : (s.modConsS n g).wheel = s.wheel := rfl
@[simp] theorem State.modConsS_flume (n : Nat) (g : ConsumerAux → ConsumerAux) : (s.modConsS n g).flume = s.flume := rfl
@[simp] theorem State.modConsS_trace (n : Nat) (g : ConsumerAux → ConsumerAux) : (s.modConsS n g).trace = s.trace := rfl
@[simp] theorem State.modConsS_feeders (n : Nat) (g : ConsumerAux → ConsumerAux) : (s.modConsS n g).feeders = s.feeders := rfl
@[simp] theorem State.modConsS_strings (n : Nat) (g : ConsumerAux → ConsumerAux) : (s.modConsS n g).strings = s.strings := rfl
@[simp] theorem State.modConsS_modules (n : Nat) (g : ConsumerAux → ConsumerAux) : (s.modConsS n g).modules = s.modules := rfl
@[simp] theorem State.modConsS_auths (n : Nat) (g : ConsumerAux → ConsumerAux) : (s.modConsS n g).auths = s.auths := rfl
@[simp] theorem State.modConsS_nonces (n : Nat) (g : ConsumerAux → ConsumerAux) : (s.modConsS n g).nonces = s.nonces := rfl
@[simp] theorem State.modConsS_draws (n : Nat) (g : ConsumerAux → ConsumerAux) : (s.modConsS n g).draws = s.draws := rfl
@[simp] theorem State.modConsS_pending (n : Nat) (g : ConsumerAux → ConsumerAux) : (s.modConsS n g).pending = s.pending := rfl

/-! ## modSeq -/

@[simp] theorem State.modSeq_params (g : SeqState → SeqState) : (s.modSeq g).params = s.params := rfl
@[simp] theorem State.modSeq_grist (g : SeqState → SeqState) : (s.modSeq g).grist = s.grist := rfl
@[simp] theorem State.modSeq_hopper (g : SeqState → SeqState) : (s.modSeq g).hopper = s.hopper := rfl
@[simp] theorem State.modSeq_ports (g : SeqState → SeqState) : (s.modSeq g).ports = s.ports := rfl
@[simp] theorem State.modSeq_downs (g : SeqState → SeqState) : (s.modSeq g).downs = s.downs := rfl
@[simp] theorem State.modSeq_pols (g : SeqState → SeqState) : (s.modSeq g).pols = s.pols := rfl
@[simp] theorem State.modSeq_sats (g : SeqState → SeqState) : (s.modSeq g).sats = s.sats := rfl
@[simp] theorem State.modSeq_time (g : SeqState → SeqState) : (s.modSeq g).time = s.time := rfl
@[simp] theorem State.modSeq_timers (g : SeqState → SeqState) : (s.modSeq g).timers = s.timers := rfl
@[simp] theorem State.modSeq_supply (g : SeqState → SeqState) : (s.modSeq g).supply = s.supply := rfl
@[simp] theorem State.modSeq_nvm (g : SeqState → SeqState) : (s.modSeq g).nvm = s.nvm := rfl
@[simp] theorem State.modSeq_upd (g : SeqState → SeqState) : (s.modSeq g).upd = s.upd := rfl
@[simp] theorem State.modSeq_life (g : SeqState → SeqState) : (s.modSeq g).life = s.life := rfl
@[simp] theorem State.modSeq_dresser (g : SeqState → SeqState) : (s.modSeq g).dresser = s.dresser := rfl
@[simp] theorem State.modSeq_rails (g : SeqState → SeqState) : (s.modSeq g).rails = s.rails := rfl
@[simp] theorem State.modSeq_fantail (g : SeqState → SeqState) : (s.modSeq g).fantail = s.fantail := rfl
@[simp] theorem State.modSeq_therms (g : SeqState → SeqState) : (s.modSeq g).therms = s.therms := rfl
@[simp] theorem State.modSeq_shelf (g : SeqState → SeqState) : (s.modSeq g).shelf = s.shelf := rfl
@[simp] theorem State.modSeq_miller (g : SeqState → SeqState) : (s.modSeq g).miller = s.miller := rfl
@[simp] theorem State.modSeq_segs (g : SeqState → SeqState) : (s.modSeq g).segs = s.segs := rfl
@[simp] theorem State.modSeq_loops (g : SeqState → SeqState) : (s.modSeq g).loops = s.loops := rfl
@[simp] theorem State.modSeq_phases (g : SeqState → SeqState) : (s.modSeq g).phases = s.phases := rfl
@[simp] theorem State.modSeq_wheel (g : SeqState → SeqState) : (s.modSeq g).wheel = s.wheel := rfl
@[simp] theorem State.modSeq_flume (g : SeqState → SeqState) : (s.modSeq g).flume = s.flume := rfl
@[simp] theorem State.modSeq_trace (g : SeqState → SeqState) : (s.modSeq g).trace = s.trace := rfl
@[simp] theorem State.modSeq_feeders (g : SeqState → SeqState) : (s.modSeq g).feeders = s.feeders := rfl
@[simp] theorem State.modSeq_strings (g : SeqState → SeqState) : (s.modSeq g).strings = s.strings := rfl
@[simp] theorem State.modSeq_modules (g : SeqState → SeqState) : (s.modSeq g).modules = s.modules := rfl
@[simp] theorem State.modSeq_auths (g : SeqState → SeqState) : (s.modSeq g).auths = s.auths := rfl
@[simp] theorem State.modSeq_nonces (g : SeqState → SeqState) : (s.modSeq g).nonces = s.nonces := rfl
@[simp] theorem State.modSeq_draws (g : SeqState → SeqState) : (s.modSeq g).draws = s.draws := rfl
@[simp] theorem State.modSeq_pending (g : SeqState → SeqState) : (s.modSeq g).pending = s.pending := rfl

/-! ## modTime -/

@[simp] theorem State.modTime_params (g : TimeState → TimeState) : (s.modTime g).params = s.params := rfl
@[simp] theorem State.modTime_grist (g : TimeState → TimeState) : (s.modTime g).grist = s.grist := rfl
@[simp] theorem State.modTime_hopper (g : TimeState → TimeState) : (s.modTime g).hopper = s.hopper := rfl
@[simp] theorem State.modTime_ports (g : TimeState → TimeState) : (s.modTime g).ports = s.ports := rfl
@[simp] theorem State.modTime_downs (g : TimeState → TimeState) : (s.modTime g).downs = s.downs := rfl
@[simp] theorem State.modTime_pols (g : TimeState → TimeState) : (s.modTime g).pols = s.pols := rfl
@[simp] theorem State.modTime_sats (g : TimeState → TimeState) : (s.modTime g).sats = s.sats := rfl
@[simp] theorem State.modTime_timers (g : TimeState → TimeState) : (s.modTime g).timers = s.timers := rfl
@[simp] theorem State.modTime_supply (g : TimeState → TimeState) : (s.modTime g).supply = s.supply := rfl
@[simp] theorem State.modTime_nvm (g : TimeState → TimeState) : (s.modTime g).nvm = s.nvm := rfl
@[simp] theorem State.modTime_upd (g : TimeState → TimeState) : (s.modTime g).upd = s.upd := rfl
@[simp] theorem State.modTime_life (g : TimeState → TimeState) : (s.modTime g).life = s.life := rfl
@[simp] theorem State.modTime_dresser (g : TimeState → TimeState) : (s.modTime g).dresser = s.dresser := rfl
@[simp] theorem State.modTime_rails (g : TimeState → TimeState) : (s.modTime g).rails = s.rails := rfl
@[simp] theorem State.modTime_seq (g : TimeState → TimeState) : (s.modTime g).seq = s.seq := rfl
@[simp] theorem State.modTime_fantail (g : TimeState → TimeState) : (s.modTime g).fantail = s.fantail := rfl
@[simp] theorem State.modTime_therms (g : TimeState → TimeState) : (s.modTime g).therms = s.therms := rfl
@[simp] theorem State.modTime_shelf (g : TimeState → TimeState) : (s.modTime g).shelf = s.shelf := rfl
@[simp] theorem State.modTime_miller (g : TimeState → TimeState) : (s.modTime g).miller = s.miller := rfl
@[simp] theorem State.modTime_segs (g : TimeState → TimeState) : (s.modTime g).segs = s.segs := rfl
@[simp] theorem State.modTime_loops (g : TimeState → TimeState) : (s.modTime g).loops = s.loops := rfl
@[simp] theorem State.modTime_phases (g : TimeState → TimeState) : (s.modTime g).phases = s.phases := rfl
@[simp] theorem State.modTime_wheel (g : TimeState → TimeState) : (s.modTime g).wheel = s.wheel := rfl
@[simp] theorem State.modTime_flume (g : TimeState → TimeState) : (s.modTime g).flume = s.flume := rfl
@[simp] theorem State.modTime_trace (g : TimeState → TimeState) : (s.modTime g).trace = s.trace := rfl
@[simp] theorem State.modTime_feeders (g : TimeState → TimeState) : (s.modTime g).feeders = s.feeders := rfl
@[simp] theorem State.modTime_strings (g : TimeState → TimeState) : (s.modTime g).strings = s.strings := rfl
@[simp] theorem State.modTime_modules (g : TimeState → TimeState) : (s.modTime g).modules = s.modules := rfl
@[simp] theorem State.modTime_auths (g : TimeState → TimeState) : (s.modTime g).auths = s.auths := rfl
@[simp] theorem State.modTime_nonces (g : TimeState → TimeState) : (s.modTime g).nonces = s.nonces := rfl
@[simp] theorem State.modTime_draws (g : TimeState → TimeState) : (s.modTime g).draws = s.draws := rfl
@[simp] theorem State.modTime_pending (g : TimeState → TimeState) : (s.modTime g).pending = s.pending := rfl

/-! ## modDresser -/

@[simp] theorem State.modDresser_params (g : DresserState → DresserState) : (s.modDresser g).params = s.params := rfl
@[simp] theorem State.modDresser_grist (g : DresserState → DresserState) : (s.modDresser g).grist = s.grist := rfl
@[simp] theorem State.modDresser_hopper (g : DresserState → DresserState) : (s.modDresser g).hopper = s.hopper := rfl
@[simp] theorem State.modDresser_ports (g : DresserState → DresserState) : (s.modDresser g).ports = s.ports := rfl
@[simp] theorem State.modDresser_downs (g : DresserState → DresserState) : (s.modDresser g).downs = s.downs := rfl
@[simp] theorem State.modDresser_pols (g : DresserState → DresserState) : (s.modDresser g).pols = s.pols := rfl
@[simp] theorem State.modDresser_sats (g : DresserState → DresserState) : (s.modDresser g).sats = s.sats := rfl
@[simp] theorem State.modDresser_time (g : DresserState → DresserState) : (s.modDresser g).time = s.time := rfl
@[simp] theorem State.modDresser_timers (g : DresserState → DresserState) : (s.modDresser g).timers = s.timers := rfl
@[simp] theorem State.modDresser_supply (g : DresserState → DresserState) : (s.modDresser g).supply = s.supply := rfl
@[simp] theorem State.modDresser_nvm (g : DresserState → DresserState) : (s.modDresser g).nvm = s.nvm := rfl
@[simp] theorem State.modDresser_upd (g : DresserState → DresserState) : (s.modDresser g).upd = s.upd := rfl
@[simp] theorem State.modDresser_life (g : DresserState → DresserState) : (s.modDresser g).life = s.life := rfl
@[simp] theorem State.modDresser_rails (g : DresserState → DresserState) : (s.modDresser g).rails = s.rails := rfl
@[simp] theorem State.modDresser_seq (g : DresserState → DresserState) : (s.modDresser g).seq = s.seq := rfl
@[simp] theorem State.modDresser_fantail (g : DresserState → DresserState) : (s.modDresser g).fantail = s.fantail := rfl
@[simp] theorem State.modDresser_therms (g : DresserState → DresserState) : (s.modDresser g).therms = s.therms := rfl
@[simp] theorem State.modDresser_shelf (g : DresserState → DresserState) : (s.modDresser g).shelf = s.shelf := rfl
@[simp] theorem State.modDresser_miller (g : DresserState → DresserState) : (s.modDresser g).miller = s.miller := rfl
@[simp] theorem State.modDresser_segs (g : DresserState → DresserState) : (s.modDresser g).segs = s.segs := rfl
@[simp] theorem State.modDresser_loops (g : DresserState → DresserState) : (s.modDresser g).loops = s.loops := rfl
@[simp] theorem State.modDresser_phases (g : DresserState → DresserState) : (s.modDresser g).phases = s.phases := rfl
@[simp] theorem State.modDresser_wheel (g : DresserState → DresserState) : (s.modDresser g).wheel = s.wheel := rfl
@[simp] theorem State.modDresser_flume (g : DresserState → DresserState) : (s.modDresser g).flume = s.flume := rfl
@[simp] theorem State.modDresser_trace (g : DresserState → DresserState) : (s.modDresser g).trace = s.trace := rfl
@[simp] theorem State.modDresser_feeders (g : DresserState → DresserState) : (s.modDresser g).feeders = s.feeders := rfl
@[simp] theorem State.modDresser_strings (g : DresserState → DresserState) : (s.modDresser g).strings = s.strings := rfl
@[simp] theorem State.modDresser_modules (g : DresserState → DresserState) : (s.modDresser g).modules = s.modules := rfl
@[simp] theorem State.modDresser_auths (g : DresserState → DresserState) : (s.modDresser g).auths = s.auths := rfl
@[simp] theorem State.modDresser_nonces (g : DresserState → DresserState) : (s.modDresser g).nonces = s.nonces := rfl
@[simp] theorem State.modDresser_draws (g : DresserState → DresserState) : (s.modDresser g).draws = s.draws := rfl
@[simp] theorem State.modDresser_pending (g : DresserState → DresserState) : (s.modDresser g).pending = s.pending := rfl

/-! ## modOp -/

@[simp] theorem State.modOp_params (n : Nat) (g : Op → Op) : (s.modOp n g).params = s.params := rfl
@[simp] theorem State.modOp_grist (n : Nat) (g : Op → Op) : (s.modOp n g).grist = s.grist := rfl
@[simp] theorem State.modOp_ports (n : Nat) (g : Op → Op) : (s.modOp n g).ports = s.ports := rfl
@[simp] theorem State.modOp_downs (n : Nat) (g : Op → Op) : (s.modOp n g).downs = s.downs := rfl
@[simp] theorem State.modOp_pols (n : Nat) (g : Op → Op) : (s.modOp n g).pols = s.pols := rfl
@[simp] theorem State.modOp_sats (n : Nat) (g : Op → Op) : (s.modOp n g).sats = s.sats := rfl
@[simp] theorem State.modOp_time (n : Nat) (g : Op → Op) : (s.modOp n g).time = s.time := rfl
@[simp] theorem State.modOp_timers (n : Nat) (g : Op → Op) : (s.modOp n g).timers = s.timers := rfl
@[simp] theorem State.modOp_supply (n : Nat) (g : Op → Op) : (s.modOp n g).supply = s.supply := rfl
@[simp] theorem State.modOp_nvm (n : Nat) (g : Op → Op) : (s.modOp n g).nvm = s.nvm := rfl
@[simp] theorem State.modOp_upd (n : Nat) (g : Op → Op) : (s.modOp n g).upd = s.upd := rfl
@[simp] theorem State.modOp_life (n : Nat) (g : Op → Op) : (s.modOp n g).life = s.life := rfl
@[simp] theorem State.modOp_dresser (n : Nat) (g : Op → Op) : (s.modOp n g).dresser = s.dresser := rfl
@[simp] theorem State.modOp_rails (n : Nat) (g : Op → Op) : (s.modOp n g).rails = s.rails := rfl
@[simp] theorem State.modOp_seq (n : Nat) (g : Op → Op) : (s.modOp n g).seq = s.seq := rfl
@[simp] theorem State.modOp_fantail (n : Nat) (g : Op → Op) : (s.modOp n g).fantail = s.fantail := rfl
@[simp] theorem State.modOp_therms (n : Nat) (g : Op → Op) : (s.modOp n g).therms = s.therms := rfl
@[simp] theorem State.modOp_shelf (n : Nat) (g : Op → Op) : (s.modOp n g).shelf = s.shelf := rfl
@[simp] theorem State.modOp_miller (n : Nat) (g : Op → Op) : (s.modOp n g).miller = s.miller := rfl
@[simp] theorem State.modOp_segs (n : Nat) (g : Op → Op) : (s.modOp n g).segs = s.segs := rfl
@[simp] theorem State.modOp_loops (n : Nat) (g : Op → Op) : (s.modOp n g).loops = s.loops := rfl
@[simp] theorem State.modOp_phases (n : Nat) (g : Op → Op) : (s.modOp n g).phases = s.phases := rfl
@[simp] theorem State.modOp_wheel (n : Nat) (g : Op → Op) : (s.modOp n g).wheel = s.wheel := rfl
@[simp] theorem State.modOp_flume (n : Nat) (g : Op → Op) : (s.modOp n g).flume = s.flume := rfl
@[simp] theorem State.modOp_trace (n : Nat) (g : Op → Op) : (s.modOp n g).trace = s.trace := rfl
@[simp] theorem State.modOp_feeders (n : Nat) (g : Op → Op) : (s.modOp n g).feeders = s.feeders := rfl
@[simp] theorem State.modOp_strings (n : Nat) (g : Op → Op) : (s.modOp n g).strings = s.strings := rfl
@[simp] theorem State.modOp_modules (n : Nat) (g : Op → Op) : (s.modOp n g).modules = s.modules := rfl
@[simp] theorem State.modOp_auths (n : Nat) (g : Op → Op) : (s.modOp n g).auths = s.auths := rfl
@[simp] theorem State.modOp_nonces (n : Nat) (g : Op → Op) : (s.modOp n g).nonces = s.nonces := rfl
@[simp] theorem State.modOp_draws (n : Nat) (g : Op → Op) : (s.modOp n g).draws = s.draws := rfl
@[simp] theorem State.modOp_pending (n : Nat) (g : Op → Op) : (s.modOp n g).pending = s.pending := rfl

/-! ## The updated records -/

@[simp] theorem State.modSeq_seq (g : SeqState → SeqState) : (s.modSeq g).seq = g s.seq := rfl
@[simp] theorem State.modTime_time (g : TimeState → TimeState) : (s.modTime g).time = g s.time := rfl
@[simp] theorem State.modDresser_dresser (g : DresserState → DresserState) : (s.modDresser g).dresser = g s.dresser := rfl

end Sys2Proof.Machine
end

