-- ==== Sys2Proof/Laws/Store.lean ====
section
/-! SUPPORT. The parameter store: what a read gives after a write, and that writes keep the canonical form; the same for
the MRAM. -/

namespace Sys2Proof.Machine

/-! ## Keys -/

/-- Parameter IDs are below 4096, so that a key names one parameter. -/
theorem keyOf_inj {o pid o' pid' : Nat} (h : pid < 4096) (h' : pid' < 4096) :
    keyOf o pid = keyOf o' pid' ↔ o = o' ∧ pid = pid' := by
  unfold keyOf; omega

theorem keyOf_div {o pid : Nat} (h : pid < 4096) : keyOf o pid / 4096 = o := by unfold keyOf; omega

theorem keyOf_mod {o pid : Nat} (h : pid < 4096) : keyOf o pid % 4096 = pid := by unfold keyOf; omega

/-! ## Reading after writing -/

theorem lookupKey_insertKey (k k' : Nat) (v : Int) (l : List (Nat × Int)) :
    lookupKey k' (insertKey k v l) = if k' = k then some v else lookupKey k' l := by
  induction l with
  | nil => simp [insertKey, lookupKey]
  | cons a l ih =>
    obtain ⟨b, w⟩ := a
    simp only [insertKey]
    split
    · simp only [lookupKey]
    · split
      · subst_vars; simp only [lookupKey]; split <;> rfl
      · simp only [lookupKey, ih]
        split
        · rename_i h; subst h; rw [if_neg]; omega
        · rfl

theorem lookupKey_eraseKey (k k' : Nat) (l : List (Nat × Int)) :
    lookupKey k' (eraseKey k l) = if k' = k then none else lookupKey k' l := by
  induction l with
  | nil => simp [eraseKey, lookupKey]
  | cons a l ih =>
    obtain ⟨b, w⟩ := a
    simp only [eraseKey, List.filter_cons] at ih ⊢
    by_cases hb : b = k
    · subst hb
      simp only [bne_self_eq_false, Bool.false_eq_true, if_false, ih, lookupKey]
      split <;> simp_all
    · have : (b != k) = true := by simpa using hb
      simp only [this, if_true, lookupKey, ih]
      split
      · rename_i h; subst h; rw [if_neg hb]
      · rfl

/-- A parameter reads as it was written, and every other one as before. -/
theorem State.par_setPar (s : State) (o pid o' pid' : Nat) (v : Int) :
    (s.setPar o pid v).par o' pid' =
      if keyOf o' pid' = keyOf o pid then
        (if v = paramReset (keyOf o pid / 4096) (keyOf o pid % 4096) then paramReset o' pid' else v)
      else s.par o' pid' := by
  unfold State.setPar State.par
  split
  · simp only [lookupKey_eraseKey]; split <;> rfl
  · simp only [lookupKey_insertKey]; split <;> rfl

/-- A written parameter reads as written. -/
theorem State.par_setPar_same (s : State) {o pid : Nat} (h : pid < 4096) (v : Int) :
    (s.setPar o pid v).par o pid = v := by
  rw [State.par_setPar, if_pos rfl, keyOf_div h, keyOf_mod h]
  split <;> simp_all

/-- A write leaves every other parameter as it was. -/
theorem State.par_setPar_other (s : State) {o pid o' pid' : Nat} (v : Int) (h : keyOf o' pid' ≠ keyOf o pid) :
    (s.setPar o pid v).par o' pid' = s.par o' pid' := by
  rw [State.par_setPar, if_neg h]

/-! ## The canonical form -/

theorem keysRise_cons (k : Nat) (v : Int) (l : List (Nat × Int)) :
    keysRise ((k, v) :: l) = true ↔ keysRise l = true ∧ ∀ e ∈ l.head?, k < e.1 := by
  cases l with
  | nil => simp [keysRise]
  | cons a l => obtain ⟨b, w⟩ := a; simp [keysRise]; exact and_comm

theorem keysRise_tail_lt {k : Nat} {v : Int} {l : List (Nat × Int)} (h : keysRise ((k, v) :: l) = true) :
    ∀ e ∈ l, k < e.1 := by
  induction l generalizing k v with
  | nil => simp
  | cons a l ih =>
    obtain ⟨b, w⟩ := a
    simp only [keysRise, Bool.and_eq_true, decide_eq_true_eq] at h
    intro e he
    rcases List.mem_cons.1 he with rfl | he
    · exact h.1
    · exact Nat.lt_trans h.1 (ih h.2 e he)

theorem keysRise_of_lt {k : Nat} {v : Int} {l : List (Nat × Int)} (hl : keysRise l = true)
    (h : ∀ e ∈ l, k < e.1) : keysRise ((k, v) :: l) = true := by
  rw [keysRise_cons]
  refine ⟨hl, fun e he => h e ?_⟩
  cases l with
  | nil => simp at he
  | cons a l => simp only [List.head?_cons, Option.mem_some_iff] at he; subst he; exact List.mem_cons_self

theorem keysRise_filter (p : Nat × Int → Bool) {l : List (Nat × Int)} (h : keysRise l = true) :
    keysRise (l.filter p) = true := by
  induction l with
  | nil => rfl
  | cons a l ih =>
    obtain ⟨b, w⟩ := a
    have ht : keysRise l = true := ((keysRise_cons b w l).1 h).1
    rw [List.filter_cons]
    split
    · exact keysRise_of_lt (ih ht) fun e he => keysRise_tail_lt h e (List.mem_of_mem_filter he)
    · exact ih ht

theorem mem_insertKey {k : Nat} {v : Int} {l : List (Nat × Int)} {e : Nat × Int} (h : e ∈ insertKey k v l) :
    e = (k, v) ∨ e ∈ l := by
  induction l with
  | nil => simpa [insertKey] using h
  | cons a l ih =>
    obtain ⟨b, w⟩ := a
    simp only [insertKey] at h
    split at h
    · rcases List.mem_cons.1 h with h | h
      · exact .inl h
      · exact .inr h
    · split at h
      · rcases List.mem_cons.1 h with h | h
        · exact .inl h
        · exact .inr (List.mem_cons_of_mem _ h)
      · rcases List.mem_cons.1 h with h | h
        · exact .inr (h ▸ List.mem_cons_self)
        · exact (ih h).imp id (List.mem_cons_of_mem _)

theorem keysRise_insertKey {k : Nat} {v : Int} {l : List (Nat × Int)} (h : keysRise l = true) :
    keysRise (insertKey k v l) = true := by
  induction l with
  | nil => rfl
  | cons a l ih =>
    obtain ⟨b, w⟩ := a
    have ht : keysRise l = true := ((keysRise_cons b w l).1 h).1
    simp only [insertKey]
    split
    · rename_i hk
      refine keysRise_of_lt h fun e he => ?_
      rcases List.mem_cons.1 he with rfl | he
      · exact hk
      · exact Nat.lt_trans hk (keysRise_tail_lt h e he)
    · split
      · rename_i hk; subst hk
        exact keysRise_of_lt ht (keysRise_tail_lt h)
      · refine keysRise_of_lt (ih ht) fun e he => ?_
        rcases mem_insertKey he with rfl | he
        · show b < k; omega
        · exact keysRise_tail_lt h e he

theorem paramsWf_filter (p : Nat × Int → Bool) {l : List (Nat × Int)} (h : paramsWf l = true) :
    paramsWf (l.filter p) = true := by
  simp only [paramsWf, Bool.and_eq_true, List.all_eq_true] at h ⊢
  exact ⟨keysRise_filter p h.1, fun e he => h.2 e (List.mem_of_mem_filter he)⟩

/-- Every write of a parameter keeps the canonical form of the store. -/
@[simp] theorem State.setPar_wf (s : State) (o pid : Nat) (v : Int) (h : paramsWf s.params = true) :
    paramsWf (s.setPar o pid v).params = true := by
  unfold State.setPar
  split
  · exact paramsWf_filter _ h
  · rename_i hv
    simp only [paramsWf, Bool.and_eq_true, List.all_eq_true] at h ⊢
    refine ⟨keysRise_insertKey h.1, fun e he => ?_⟩
    rcases mem_insertKey he with rfl | he
    · simpa using hv
    · exact h.2 e he

/-! ## The MRAM -/

theorem mramRise_tail_lt {c : Host.Cell} {l : List Host.Cell} (h : mramRise (c :: l) = true) : ∀ e ∈ l, c.1 < e.1 := by
  induction l generalizing c with
  | nil => simp
  | cons a l ih =>
    simp only [mramRise, Bool.and_eq_true, decide_eq_true_eq] at h
    intro e he
    rcases List.mem_cons.1 he with rfl | he
    · exact h.1
    · exact Nat.lt_trans h.1 (ih h.2 e he)

theorem mramRise_tail {c : Host.Cell} {l : List Host.Cell} (h : mramRise (c :: l) = true) : mramRise l = true := by
  cases l with
  | nil => rfl
  | cons a l => simp only [mramRise, Bool.and_eq_true] at h; exact h.2

theorem mramRise_of_lt {c : Host.Cell} {l : List Host.Cell} (hl : mramRise l = true) (h : ∀ e ∈ l, c.1 < e.1) :
    mramRise (c :: l) = true := by
  cases l with
  | nil => rfl
  | cons a l =>
    simp only [mramRise, Bool.and_eq_true, decide_eq_true_eq]
    exact ⟨h a List.mem_cons_self, hl⟩

theorem mramRise_filter (p : Host.Cell → Bool) {l : List Host.Cell} (h : mramRise l = true) :
    mramRise (l.filter p) = true := by
  induction l with
  | nil => rfl
  | cons a l ih =>
    rw [List.filter_cons]
    split
    · exact mramRise_of_lt (ih (mramRise_tail h)) fun e he => mramRise_tail_lt h e (List.mem_of_mem_filter he)
    · exact ih (mramRise_tail h)

theorem mem_mramInsert {l : List Host.Cell} {a : Nat} {b : Byte} {e : Host.Cell} (h : e ∈ mramInsert l a b) :
    e = (a, b) ∨ e ∈ l := by
  induction l with
  | nil => simpa [mramInsert] using h
  | cons c l ih =>
    simp only [mramInsert] at h
    split at h
    · rcases List.mem_cons.1 h with h | h
      · exact .inl h
      · exact .inr h
    · split at h
      · rcases List.mem_cons.1 h with h | h
        · exact .inl h
        · exact .inr (List.mem_cons_of_mem _ h)
      · rcases List.mem_cons.1 h with h | h
        · exact .inr (h ▸ List.mem_cons_self)
        · exact (ih h).imp id (List.mem_cons_of_mem _)

theorem mramRise_insert {l : List Host.Cell} {a : Nat} {b : Byte} (h : mramRise l = true) :
    mramRise (mramInsert l a b) = true := by
  induction l with
  | nil => rfl
  | cons c l ih =>
    simp only [mramInsert]
    split
    · rename_i hk
      refine mramRise_of_lt h fun e he => ?_
      rcases List.mem_cons.1 he with rfl | he
      · exact hk
      · exact Nat.lt_trans hk (mramRise_tail_lt h e he)
    · split
      · rename_i hk
        exact mramRise_of_lt (mramRise_tail h) fun e he => hk ▸ mramRise_tail_lt h e he
      · refine mramRise_of_lt (ih (mramRise_tail h)) fun e he => ?_
        rcases mem_mramInsert he with rfl | he
        · show c.1 < a; omega
        · exact mramRise_tail_lt h e he

theorem mramWf_filter (p : Host.Cell → Bool) {l : List Host.Cell} (h : mramWf l = true) :
    mramWf (l.filter p) = true := by
  simp only [mramWf, Bool.and_eq_true, List.all_eq_true] at h ⊢
  exact ⟨mramRise_filter p h.1, fun e he => h.2 e (List.mem_of_mem_filter he)⟩

/-- Every write of a byte keeps the canonical form of the MRAM. -/
@[simp] theorem mramWf_write {l : List Host.Cell} (a : Nat) (b : Byte) (h : mramWf l = true) :
    mramWf (mramWrite l a b) = true := by
  unfold mramWrite
  split
  · exact mramWf_filter _ h
  · rename_i hb
    simp only [mramWf, Bool.and_eq_true, List.all_eq_true] at h ⊢
    refine ⟨mramRise_insert h.1, fun e he => ?_⟩
    rcases mem_mramInsert he with rfl | he
    · simpa using hb
    · exact h.2 e he

/-- Clearing a range of addresses keeps the canonical form of the MRAM. -/
@[simp] theorem State.mramClear_wf (s : State) (lo hi : Nat) (h : mramWf s.nvm.mram = true) :
    mramWf (s.mramClear lo hi).nvm.mram = true := mramWf_filter _ h

theorem mramRead_insert (l : List Host.Cell) (a a' : Nat) (b : Byte) :
    mramRead (mramInsert l a b) a' = if a' = a then b else mramRead l a' := by
  induction l with
  | nil => simp only [mramInsert, mramRead]; exact if_congr eq_comm rfl rfl
  | cons c l ih =>
    simp only [mramInsert]
    split
    · simp only [mramRead]; exact if_congr eq_comm rfl rfl
    · split
      · rename_i h
        subst h
        simp only [mramRead]
        by_cases hc : a' = c.1
        · rw [if_pos hc.symm, if_pos hc]
        · rw [if_neg (Ne.symm hc), if_neg hc, if_neg (Ne.symm hc)]
      · rename_i h
        simp only [mramRead, ih]
        by_cases hc : c.1 = a'
        · rw [if_pos hc, if_pos hc, if_neg (by omega)]
        · rw [if_neg hc, if_neg hc]

theorem mramRead_erase (l : List Host.Cell) (a a' : Nat) :
    mramRead (mramErase l a) a' = if a' = a then mramEmpty else mramRead l a' := by
  induction l with
  | nil => simp [mramErase, mramRead]
  | cons c l ih =>
    simp only [mramErase, List.filter_cons] at ih ⊢
    by_cases hc : c.1 = a
    · simp only [hc, bne_self_eq_false, Bool.false_eq_true, if_false, ih, mramRead]
      by_cases ha : a' = a
      · rw [if_pos ha, if_pos ha]
      · rw [if_neg ha, if_neg ha, if_neg (Ne.symm ha)]
    · have : (c.1 != a) = true := by simpa using hc
      simp only [this, if_true, mramRead, ih]
      by_cases ha : c.1 = a'
      · rw [if_pos ha, if_pos ha, if_neg (by omega)]
      · rw [if_neg ha, if_neg ha]

/-- A byte of the MRAM reads as it was written, and every other one as before. -/
theorem mramRead_write (l : List Host.Cell) (a a' : Nat) (b : Byte) :
    mramRead (mramWrite l a b) a' = if a' = a then b else mramRead l a' := by
  unfold mramWrite
  split
  · rename_i h; rw [mramRead_erase, h]
  · rw [mramRead_insert]

end Sys2Proof.Machine
end

