-- ==== Sys2Proof/Laws/Foot.lean ====
section
/-! SUPPORT. What an operation may change: `Foot fs ps s t` says that `t` is `s` but for the top-level fields
in `fs` and the parameters whose number is in `ps` (none: any parameter). -/

namespace Sys2Proof.Machine

set_option Elab.async false

/-- Is a parameter number among those that may change? -/
def pidIn (pid : Nat) : Option (List Nat) → Bool
  | none => true
  | some l => decide (pid < 4096) && l.contains pid

/-- One footprint lies within another. -/
def footSub (fs : List Fld) (ps : Option (List Nat)) (fs' : List Fld) (ps' : Option (List Nat)) : Bool :=
  fs.all (fun f => fs'.contains f) && match ps, ps' with
    | _, none => true
    | none, some _ => false
    | some a, some b => a.all fun n => b.contains n

variable {fs fs' : List Fld} {ps ps' : Option (List Nat)} {s t x y : State}

theorem Fld.same_refl (f : Fld) (s : State) : f.same s s := by cases f <;> rfl

theorem Fld.same_trans {f : Fld} (h : f.same s x) (k : f.same x t) : f.same s t := by
  cases f <;> exact Eq.trans k h

theorem Foot.refl (fs : List Fld) (ps : Option (List Nat)) (s : State) : Foot fs ps s s :=
  ⟨fun f _ => f.same_refl s, fun _ _ _ _ _ _ => rfl⟩

/-- An operation whose footprint lies within `fs` and `ps` follows. -/
theorem Foot.step (h : Foot fs ps s x) (k : Foot fs' ps' x y) (hs : footSub fs' ps' fs ps = true) :
    Foot fs ps s y := by
  simp only [footSub, Bool.and_eq_true, List.all_eq_true] at hs
  refine ⟨fun f hf => Fld.same_trans (h.fld f hf) (k.fld f ?_), fun l hl o pid hb hp => ?_⟩
  · refine Bool.eq_false_iff.2 fun hc => ?_
    have := hs.1 f (by simpa using hc)
    rw [hf] at this; cases this
  · subst hl
    obtain _ | l' := ps'
    · simp at hs
    · refine (k.par l' rfl o pid hb (Bool.eq_false_iff.2 fun hc => ?_)).trans (h.par l rfl o pid hb hp)
      have := hs.2
      simp only [List.all_eq_true] at this
      have := this pid (by simpa using hc)
      rw [hp] at this; cases this

theorem footSub_trans {fs'' : List Fld} {ps'' : Option (List Nat)} (h : footSub fs ps fs' ps' = true)
    (k : footSub fs' ps' fs'' ps'' = true) : footSub fs ps fs'' ps'' = true := by
  simp only [footSub, Bool.and_eq_true, List.all_eq_true] at *
  refine ⟨fun f hf => k.1 f (by simpa using h.1 f hf), ?_⟩
  obtain _ | a := ps <;> obtain _ | b := ps' <;> obtain _ | c := ps'' <;> simp_all

/-- As `Foot.step`, the later operation named first. -/
theorem Foot.after (k : Foot fs' ps' x y) (h : Foot fs ps s x) (hs : footSub fs' ps' fs ps = true) :
    Foot fs ps s y := h.step k hs

theorem Foot.ite {c : Prop} [Decidable c] {a b : State} (ha : Foot fs ps s a) (hb : Foot fs ps s b) :
    Foot fs ps s (if c then a else b) := by split <;> assumption

theorem Foot.snd {α : Type} {y : α × State} {a : α} (e : y = (a, t)) (h : Foot fs ps s y.2) : Foot fs ps s t := by
  subst e; exact h

theorem Foot.snd2 {α β : Type} {y : α × β × State} {a : α} {b : β} (e : y = (a, b, t))
    (h : Foot fs ps s y.2.2) : Foot fs ps s t := by
  subst e; exact h

theorem Foot.mk' {x : State}
    {grist hopper ports downs pols sats time timers supply nvm upd life dresser rails seq fantail therms shelf miller segs loops phases wheel flume trace feeders strings modules auths nonces draws} {p : List (Nat × Int)} {q : List Instr}
    (h : Foot fs ps s x) (hp : ps = none ∨ p = x.params := by first | exact .inl rfl | exact .inr rfl)
    (hgrist : fs.contains .grist = true ∨ grist = x.grist := by first | exact .inl (by decide) | exact .inr rfl)
    (hhopper : fs.contains .hopper = true ∨ hopper = x.hopper := by first | exact .inl (by decide) | exact .inr rfl)
    (hports : fs.contains .ports = true ∨ ports = x.ports := by first | exact .inl (by decide) | exact .inr rfl)
    (hdowns : fs.contains .downs = true ∨ downs = x.downs := by first | exact .inl (by decide) | exact .inr rfl)
    (hpols : fs.contains .pols = true ∨ pols = x.pols := by first | exact .inl (by decide) | exact .inr rfl)
    (hsats : fs.contains .sats = true ∨ sats = x.sats := by first | exact .inl (by decide) | exact .inr rfl)
    (htime : fs.contains .time = true ∨ time = x.time := by first | exact .inl (by decide) | exact .inr rfl)
    (htimers : fs.contains .timers = true ∨ timers = x.timers := by first | exact .inl (by decide) | exact .inr rfl)
    (hsupply : fs.contains .supply = true ∨ supply = x.supply := by first | exact .inl (by decide) | exact .inr rfl)
    (hnvm : fs.contains .nvm = true ∨ nvm = x.nvm := by first | exact .inl (by decide) | exact .inr rfl)
    (hupd : fs.contains .upd = true ∨ upd = x.upd := by first | exact .inl (by decide) | exact .inr rfl)
    (hlife : fs.contains .life = true ∨ life = x.life := by first | exact .inl (by decide) | exact .inr rfl)
    (hdresser : fs.contains .dresser = true ∨ dresser = x.dresser := by first | exact .inl (by decide) | exact .inr rfl)
    (hrails : fs.contains .rails = true ∨ rails = x.rails := by first | exact .inl (by decide) | exact .inr rfl)
    (hseq : fs.contains .seq = true ∨ seq = x.seq := by first | exact .inl (by decide) | exact .inr rfl)
    (hfantail : fs.contains .fantail = true ∨ fantail = x.fantail := by first | exact .inl (by decide) | exact .inr rfl)
    (htherms : fs.contains .therms = true ∨ therms = x.therms := by first | exact .inl (by decide) | exact .inr rfl)
    (hshelf : fs.contains .shelf = true ∨ shelf = x.shelf := by first | exact .inl (by decide) | exact .inr rfl)
    (hmiller : fs.contains .miller = true ∨ miller = x.miller := by first | exact .inl (by decide) | exact .inr rfl)
    (hsegs : fs.contains .segs = true ∨ segs = x.segs := by first | exact .inl (by decide) | exact .inr rfl)
    (hloops : fs.contains .loops = true ∨ loops = x.loops := by first | exact .inl (by decide) | exact .inr rfl)
    (hphases : fs.contains .phases = true ∨ phases = x.phases := by first | exact .inl (by decide) | exact .inr rfl)
    (hwheel : fs.contains .wheel = true ∨ wheel = x.wheel := by first | exact .inl (by decide) | exact .inr rfl)
    (hflume : fs.contains .flume = true ∨ flume = x.flume := by first | exact .inl (by decide) | exact .inr rfl)
    (htrace : fs.contains .trace = true ∨ trace = x.trace := by first | exact .inl (by decide) | exact .inr rfl)
    (hfeeders : fs.contains .feeders = true ∨ feeders = x.feeders := by first | exact .inl (by decide) | exact .inr rfl)
    (hstrings : fs.contains .strings = true ∨ strings = x.strings := by first | exact .inl (by decide) | exact .inr rfl)
    (hmodules : fs.contains .modules = true ∨ modules = x.modules := by first | exact .inl (by decide) | exact .inr rfl)
    (hauths : fs.contains .auths = true ∨ auths = x.auths := by first | exact .inl (by decide) | exact .inr rfl)
    (hnonces : fs.contains .nonces = true ∨ nonces = x.nonces := by first | exact .inl (by decide) | exact .inr rfl)
    (hdraws : fs.contains .draws = true ∨ draws = x.draws := by first | exact .inl (by decide) | exact .inr rfl)
    (hmram : fs.contains .mram = true ∨ nvm.mram = x.nvm.mram := by first | exact .inl (by decide) | exact .inr rfl)
    : Foot fs ps s ⟨p, grist, hopper, ports, downs, pols, sats, time, timers, supply, nvm, upd, life, dresser, rails, seq, fantail, therms, shelf, miller, segs, loops, phases, wheel, flume, trace, feeders, strings, modules, auths, nonces, draws, q⟩ := by
  refine ⟨fun f hf => ?_, fun l hl o pid hb hn => ?_⟩
  · refine Fld.same_trans (h.fld f hf) ?_
    cases f
    · exact hgrist.resolve_left (by rw [hf]; decide)
    · exact hhopper.resolve_left (by rw [hf]; decide)
    · exact hports.resolve_left (by rw [hf]; decide)
    · exact hdowns.resolve_left (by rw [hf]; decide)
    · exact hpols.resolve_left (by rw [hf]; decide)
    · exact hsats.resolve_left (by rw [hf]; decide)
    · exact htime.resolve_left (by rw [hf]; decide)
    · exact htimers.resolve_left (by rw [hf]; decide)
    · exact hsupply.resolve_left (by rw [hf]; decide)
    · exact hnvm.resolve_left (by rw [hf]; decide)
    · exact hupd.resolve_left (by rw [hf]; decide)
    · exact hlife.resolve_left (by rw [hf]; decide)
    · exact hdresser.resolve_left (by rw [hf]; decide)
    · exact hrails.resolve_left (by rw [hf]; decide)
    · exact hseq.resolve_left (by rw [hf]; decide)
    · exact hfantail.resolve_left (by rw [hf]; decide)
    · exact htherms.resolve_left (by rw [hf]; decide)
    · exact hshelf.resolve_left (by rw [hf]; decide)
    · exact hmiller.resolve_left (by rw [hf]; decide)
    · exact hsegs.resolve_left (by rw [hf]; decide)
    · exact hloops.resolve_left (by rw [hf]; decide)
    · exact hphases.resolve_left (by rw [hf]; decide)
    · exact hwheel.resolve_left (by rw [hf]; decide)
    · exact hflume.resolve_left (by rw [hf]; decide)
    · exact htrace.resolve_left (by rw [hf]; decide)
    · exact hfeeders.resolve_left (by rw [hf]; decide)
    · exact hstrings.resolve_left (by rw [hf]; decide)
    · exact hmodules.resolve_left (by rw [hf]; decide)
    · exact hauths.resolve_left (by rw [hf]; decide)
    · exact hnonces.resolve_left (by rw [hf]; decide)
    · exact hdraws.resolve_left (by rw [hf]; decide)
    · exact hmram.resolve_left (by rw [hf]; decide)
  · refine Eq.trans ?_ (h.par l hl o pid hb hn)
    obtain rfl := hp.resolve_left (by rw [hl]; simp)
    rfl

theorem Foot.foldl {α : Type} {l : List α} {f : State → α → State} (h : Foot fs ps s x)
    (hf : ∀ t a, Foot fs ps s t → Foot fs ps s (f t a)) : Foot fs ps s (l.foldl f x) := by
  induction l generalizing x with
  | nil => exact h
  | cons a l ih => exact ih (hf x a h)

theorem State.each_foot {n : Nat} {f : Nat → State → State} (h : Foot fs ps s x)
    (hf : ∀ i t, Foot fs ps s t → Foot fs ps s (f i t)) : Foot fs ps s (x.each n f) := h.foldl fun t i => hf i t

theorem State.eachOf_foot {l : List Nat} {f : Nat → State → State} (h : Foot fs ps s x)
    (hf : ∀ i t, Foot fs ps s t → Foot fs ps s (f i t)) : Foot fs ps s (x.eachOf l f) := h.foldl fun t i => hf i t

theorem State.collect_foot {α β : Type} {l : List β} {f : β → State → List α × State} (h : Foot fs ps s x)
    (hf : ∀ e t, Foot fs ps s t → Foot fs ps s (f e t).2) : Foot fs ps s (x.collect l f).2 := by
  unfold State.collect
  generalize ([] : List α) = a
  induction l generalizing a x with
  | nil => exact h
  | cons b l ih => exact ih (hf b x h) _

theorem State.setPar_foot {o pid : Nat} {v : Int} (h : Foot fs ps s x) (hp : pidIn pid ps = true) :
    Foot fs ps s (x.setPar o pid v) := by
  refine ⟨fun f hf => Fld.same_trans (h.fld f hf) (by cases f <;> rfl), fun l hl o' pid' hb hn => ?_⟩
  subst hl
  simp only [pidIn, Bool.and_eq_true, decide_eq_true_eq] at hp
  refine Eq.trans (State.par_setPar_other x v fun hk => ?_) (h.par l rfl o' pid' hb hn)
  obtain ⟨-, rfl⟩ := (keyOf_inj hb hp.1).1 hk
  rw [hp.2] at hn; cases hn

theorem State.updPar_foot {o pid : Nat} {f : Int → Int} (h : Foot fs ps s x) (hp : pidIn pid ps = true) :
    Foot fs ps s (x.updPar o pid f) := State.setPar_foot h hp

theorem State.addPar_foot {o pid n : Nat} (h : Foot fs ps s x) (hp : pidIn pid ps = true) :
    Foot fs ps s (x.addPar o pid n) := State.setPar_foot h hp

theorem State.incPar_foot {o pid : Nat} (h : Foot fs ps s x) (hp : pidIn pid ps = true) :
    Foot fs ps s (x.incPar o pid) := State.setPar_foot h hp

theorem State.setBit_foot {o pid n : Nat} (h : Foot fs ps s x) (hp : pidIn pid ps = true) :
    Foot fs ps s (x.setBit o pid n) := State.setPar_foot h hp

theorem State.clearBit_foot {o pid n : Nat} (h : Foot fs ps s x) (hp : pidIn pid ps = true) :
    Foot fs ps s (x.clearBit o pid n) := State.setPar_foot h hp

/-- Every next state of an outcome lies within a footprint. -/
structure FootO (fs : List Fld) (ps : Option (List Nat)) (s : State) (o : Host.Outcome State Fault Refusal) : Prop where
  of : ∀ t, o = .next t → Foot fs ps s t

theorem FootO.next (h : Foot fs ps s x) : FootO fs ps s (.next x) := ⟨by
  intro t e; cases e; exact h⟩

theorem FootO.mono {o : Host.Outcome State Fault Refusal} (k : FootO fs' ps' s o)
    (hs : footSub fs' ps' fs ps = true) : FootO fs ps s o :=
  ⟨fun t e => (Foot.refl fs ps s).step (k.of t e) hs⟩

theorem FootO.ite {c : Prop} [Decidable c] {a b : Host.Outcome State Fault Refusal} (ha : FootO fs ps s a)
    (hb : FootO fs ps s b) : FootO fs ps s (if c then a else b) := by split <;> assumption

end Sys2Proof.Machine
end

