-- ==== Sys2Proof/Laws/FootA.lean ====
section
/-! SUPPORT. What an operation may change: one lemma for each operation of Ops, Operands, Journal, Records, Timers, Hopper, Sensing, Bench, Wheel, Conversion, Engine, Feeders, Strings, Battery, Auth, Rails. -/

namespace Sys2Proof.Machine

set_option Elab.async false

/-! ## Ops -/

theorem State.setObj_foot {x1 : Nat} {x2 : Int} {s : State} :
    Foot [] (some [1]) s (State.setObj s x1 x2) := by
  unfold State.setObj
  repeat' first
    | with_reducible exact Foot.refl _ _ _
    | ((with_reducible apply State.setPar_foot); on_goal 2 => first | rfl | (split <;> rfl))

theorem State.modPort_foot {x1 : HostPort} {x2 : HostPortAux → HostPortAux} {s : State} :
    Foot [.ports] (some []) s (State.modPort s x1 x2) := by
  unfold State.modPort
  repeat' first
    | with_reducible exact Foot.refl _ _ _
    | fail_if_no_progress (with_reducible refine Foot.mk' ?_)

theorem State.modFeeder_foot {x1 : Nat} {x2 : FeederAux → FeederAux} {s : State} :
    Foot [.feeders] (some []) s (State.modFeeder s x1 x2) := by
  unfold State.modFeeder
  repeat' first
    | with_reducible exact Foot.refl _ _ _
    | fail_if_no_progress (with_reducible refine Foot.mk' ?_)

theorem State.modStr_foot {x1 : Nat} {x2 : StringAux → StringAux} {s : State} :
    Foot [.strings] (some []) s (State.modStr s x1 x2) := by
  unfold State.modStr
  repeat' first
    | with_reducible exact Foot.refl _ _ _
    | fail_if_no_progress (with_reducible refine Foot.mk' ?_)

theorem State.modModule_foot {x1 : Nat} {x2 : ModuleAux → ModuleAux} {s : State} :
    Foot [.modules] (some []) s (State.modModule s x1 x2) := by
  unfold State.modModule
  repeat' first
    | with_reducible exact Foot.refl _ _ _
    | fail_if_no_progress (with_reducible refine Foot.mk' ?_)

theorem State.modSeg_foot {x1 : Nat} {x2 : SegAux → SegAux} {s : State} :
    Foot [.segs] (some []) s (State.modSeg s x1 x2) := by
  unfold State.modSeg
  repeat' first
    | with_reducible exact Foot.refl _ _ _
    | fail_if_no_progress (with_reducible refine Foot.mk' ?_)

theorem State.modLoop_foot {x1 : Nat} {x2 : LoopAux → LoopAux} {s : State} :
    Foot [.loops] (some []) s (State.modLoop s x1 x2) := by
  unfold State.modLoop
  repeat' first
    | with_reducible exact Foot.refl _ _ _
    | fail_if_no_progress (with_reducible refine Foot.mk' ?_)

theorem State.modPhase_foot {x1 : Nat} {x2 : PhaseAux → PhaseAux} {s : State} :
    Foot [.phases] (some []) s (State.modPhase s x1 x2) := by
  unfold State.modPhase
  repeat' first
    | with_reducible exact Foot.refl _ _ _
    | fail_if_no_progress (with_reducible refine Foot.mk' ?_)

theorem State.modRail_foot {x1 : Nat} {x2 : RailAux → RailAux} {s : State} :
    Foot [.rails] (some []) s (State.modRail s x1 x2) := by
  unfold State.modRail
  repeat' first
    | with_reducible exact Foot.refl _ _ _
    | fail_if_no_progress (with_reducible refine Foot.mk' ?_)

theorem State.modTherm_foot {x1 : Nat} {x2 : ThermAux → ThermAux} {s : State} :
    Foot [.therms] (some []) s (State.modTherm s x1 x2) := by
  unfold State.modTherm
  repeat' first
    | with_reducible exact Foot.refl _ _ _
    | fail_if_no_progress (with_reducible refine Foot.mk' ?_)

theorem State.modTimer_foot {x1 : Nat} {x2 : TimerAux → TimerAux} {s : State} :
    Foot [.timers] (some []) s (State.modTimer s x1 x2) := by
  unfold State.modTimer
  repeat' first
    | with_reducible exact Foot.refl _ _ _
    | fail_if_no_progress (with_reducible refine Foot.mk' ?_)

theorem State.modDown_foot {x1 : Nat} {x2 : DownAux → DownAux} {s : State} :
    Foot [.downs] (some []) s (State.modDown s x1 x2) := by
  unfold State.modDown
  repeat' first
    | with_reducible exact Foot.refl _ _ _
    | fail_if_no_progress (with_reducible refine Foot.mk' ?_)

theorem State.modPol_foot {x1 : Nat} {x2 : PolAux → PolAux} {s : State} :
    Foot [.pols] (some []) s (State.modPol s x1 x2) := by
  unfold State.modPol
  repeat' first
    | with_reducible exact Foot.refl _ _ _
    | fail_if_no_progress (with_reducible refine Foot.mk' ?_)

theorem State.modSat_foot {x1 : Nat} {x2 : SatAux → SatAux} {s : State} :
    Foot [.sats] (some []) s (State.modSat s x1 x2) := by
  unfold State.modSat
  repeat' first
    | with_reducible exact Foot.refl _ _ _
    | fail_if_no_progress (with_reducible refine Foot.mk' ?_)

theorem State.modConsF_foot {x1 : Nat} {x2 : ConsumerAux → ConsumerAux} {s : State} :
    Foot [.fantail] (some []) s (State.modConsF s x1 x2) := by
  unfold State.modConsF
  repeat' first
    | with_reducible exact Foot.refl _ _ _
    | fail_if_no_progress (with_reducible refine Foot.mk' ?_)

theorem State.modConsS_foot {x1 : Nat} {x2 : ConsumerAux → ConsumerAux} {s : State} :
    Foot [.fantail] (some []) s (State.modConsS s x1 x2) := by
  unfold State.modConsS
  repeat' first
    | with_reducible exact Foot.refl _ _ _
    | fail_if_no_progress (with_reducible refine Foot.mk' ?_)

theorem State.raisePort_foot {x1 : HostPort} {x2 : Nat} {s : State} :
    Foot [.ports] (some []) s (State.raisePort s x1 x2) := by
  unfold State.raisePort
  repeat' first
    | with_reducible exact Foot.refl _ _ _
    | ((with_reducible apply Foot.after State.modPort_foot); on_goal 2 => rfl)

theorem State.raise_foot {x1 : Nat} {s : State} :
    Foot [.ports] (some []) s (State.raise s x1) := by
  unfold State.raise
  repeat' first
    | with_reducible exact Foot.refl _ _ _
    | ((with_reducible apply Foot.after State.raisePort_foot); on_goal 2 => rfl)

theorem State.draw_foot {s : State} :
    Foot [.draws] (some []) s (State.draw s).2 := by
  unfold State.draw
  repeat' first
    | with_reducible exact Foot.refl _ _ _
    | fail_if_no_progress (with_reducible refine Foot.mk' ?_)

theorem State.drawBytes_foot {x1 : Nat} {s : State} :
    Foot [.draws] (some []) s (State.drawBytes s x1).2 := by
  unfold State.drawBytes
  repeat' first
    | with_reducible exact Foot.refl _ _ _
    | fail_if_no_progress (with_reducible refine Foot.mk' ?_)

/-! ## Operands -/

theorem State.modChan_foot {x1 : Nat} {x2 : Chan → Chan} {s : State} :
    Foot [.phases, .segs, .feeders, .strings] (some []) s (State.modChan s x1 x2) := by
  unfold State.modChan
  repeat' first
    | with_reducible exact Foot.refl _ _ _
    | ((with_reducible apply Foot.after State.modStr_foot); on_goal 2 => rfl)
    | ((with_reducible apply Foot.after State.modPhase_foot); on_goal 2 => rfl)
    | ((with_reducible apply Foot.after State.modFeeder_foot); on_goal 2 => rfl)
    | ((with_reducible apply Foot.after State.modSeg_foot); on_goal 2 => rfl)
    | split

theorem State.setLane_foot {x1 : Nat} {x2 : Nat} {s : State} :
    Foot [] (some [272]) s (State.setLane s x1 x2) := by
  unfold State.setLane
  repeat' first
    | with_reducible exact Foot.refl _ _ _
    | ((with_reducible apply State.updPar_foot); on_goal 2 => first | rfl | (split <;> rfl))

/-! ## Journal -/

theorem State.takeRecord_foot {x1 : Nat} {x2 : Option SlotData} {s : State} :
    Foot [.time, .nvm] (some [259, 260, 361]) s (State.takeRecord s x1 x2) := by
  unfold State.takeRecord
  repeat' first
    | with_reducible exact Foot.refl _ _ _
    | ((with_reducible apply State.setPar_foot); on_goal 2 => first | rfl | (split <;> rfl) | (unfold bankPid; split <;> rfl))
    | fail_if_no_progress (with_reducible refine Foot.mk' ?_)
    | split

theorem State.setPair_foot {x1 : JournalPair} {s : State} :
    Foot [.nvm] (some []) s (State.setPair s x1) := by
  unfold State.setPair
  repeat' first
    | with_reducible exact Foot.refl _ _ _
    | fail_if_no_progress (with_reducible refine Foot.mk' ?_)

theorem State.journalWrite_foot {x1 : Nat} {s : State} :
    Foot [.nvm] (some []) s (State.journalWrite s x1) := by
  unfold State.journalWrite
  repeat' first
    | with_reducible exact Foot.refl _ _ _
    | ((with_reducible apply Foot.after State.setPair_foot); on_goal 2 => rfl)
    | split

theorem State.tornWrite_foot {s : State} :
    Foot [.nvm] (some []) s (State.tornWrite s) := by
  unfold State.tornWrite
  repeat' first
    | with_reducible exact Foot.refl _ _ _
    | fail_if_no_progress (with_reducible refine Foot.mk' ?_)

theorem State.journalCut_foot {x1 : Nat} {s : State} :
    Foot [.nvm] (some []) s (State.journalCut s x1) := by
  unfold State.journalCut
  repeat' first
    | with_reducible exact Foot.refl _ _ _
    | ((with_reducible apply Foot.after State.tornWrite_foot); on_goal 2 => rfl)
    | ((with_reducible apply Foot.after State.setPair_foot); on_goal 2 => rfl)
    | split

theorem State.cutWrite_foot {x1 : NvmWork} {s : State} :
    Foot [.nvm] (some []) s (State.cutWrite s x1) := by
  unfold State.cutWrite
  repeat' first
    | with_reducible exact Foot.refl _ _ _
    | ((with_reducible apply Foot.after State.journalCut_foot); on_goal 2 => rfl)
    | split

theorem State.journalLose_foot {x1 : Nat} {x2 : Nat} {s : State} :
    Foot [.nvm] (some []) s (State.journalLose s x1 x2) := by
  unfold State.journalLose
  repeat' first
    | with_reducible exact Foot.refl _ _ _
    | ((with_reducible apply Foot.after State.tornWrite_foot); on_goal 2 => rfl)
    | ((with_reducible apply Foot.after State.setPair_foot); on_goal 2 => rfl)
    | split

theorem State.bootJournal_foot {s : State} :
    Foot [.time, .nvm] (some [259, 260, 361]) s (State.bootJournal s) := by
  unfold State.bootJournal
  repeat' first
    | with_reducible exact Foot.refl _ _ _
    | with_reducible assumption
    | ((with_reducible apply Foot.after State.takeRecord_foot); on_goal 2 => rfl)
    | ((with_reducible apply Foot.after State.setPair_foot); on_goal 2 => rfl)
    | with_reducible apply Foot.foldl
    | fail_if_no_progress (with_reducible refine Foot.mk' ?_)
    | (intro _ _ _; try dsimp only)
    | split

/-! ## Records -/

theorem State.gristParams_foot {s : State} :
    Foot [] (some [257, 258, 260, 261]) s (State.gristParams s) := by
  unfold State.gristParams
  repeat' first
    | with_reducible exact Foot.refl _ _ _
    | ((with_reducible apply State.setPar_foot); on_goal 2 => first | rfl | (split <;> rfl))

theorem State.storeRec_foot {x1 : Nat} {x2 : Nat} {x3 : Nat} {x4 : Bool} {x5 : List Word} {s : State} :
    Foot [.grist] (some [5, 257, 258, 260, 261]) s (State.storeRec s x1 x2 x3 x4 x5) := by
  unfold State.storeRec
  repeat' first
    | with_reducible exact Foot.refl _ _ _
    | ((with_reducible apply State.setPar_foot); on_goal 2 => first | rfl | (split <;> rfl))
    | ((with_reducible apply Foot.after State.gristParams_foot); on_goal 2 => rfl)
    | fail_if_no_progress (with_reducible refine Foot.mk' ?_)

theorem State.createRec_foot {x1 : Nat} {x2 : Nat} {x3 : Nat} {x4 : Bool} {x5 : List Snap} {s : State} :
    Foot [.ports, .grist] (some [5, 257, 258, 260, 261, 264]) s (State.createRec s x1 x2 x3 x4 x5) := by
  unfold State.createRec
  repeat' first
    | with_reducible exact Foot.refl _ _ _
    | with_reducible apply Foot.ite
    | ((with_reducible apply State.incPar_foot); on_goal 2 => first | rfl | (split <;> rfl))
    | ((with_reducible apply Foot.after State.raise_foot); on_goal 2 => rfl)
    | ((with_reducible apply Foot.after State.storeRec_foot); on_goal 2 => rfl)
    | fail_if_no_progress (with_reducible refine Foot.mk' ?_)

theorem State.record_foot {x1 : Nat} {x2 : Nat} {x3 : Nat} {x4 : List Snap} {s : State} :
    Foot [.ports, .grist] (some [5, 257, 258, 260, 261, 264]) s (State.record s x1 x2 x3 x4) := by
  unfold State.record
  repeat' first
    | with_reducible exact Foot.refl _ _ _
    | ((with_reducible apply Foot.after State.createRec_foot); on_goal 2 => rfl)
    | fail_if_no_progress (with_reducible refine Foot.mk' ?_)
    | split

theorem State.recordPsd_foot {x1 : Nat} {x2 : Nat} {x3 : Nat} {x4 : List Snap} {s : State} :
    Foot [.ports, .grist] (some [5, 257, 258, 260, 261, 264]) s (State.recordPsd s x1 x2 x3 x4) := by
  unfold State.recordPsd
  repeat' first
    | with_reducible exact Foot.refl _ _ _
    | ((with_reducible apply Foot.after State.record_foot); on_goal 2 => rfl)
    | fail_if_no_progress (with_reducible refine Foot.mk' ?_)
    | split

theorem State.flushRecords_foot {x1 : Bool} {s : State} :
    Foot [.ports, .grist] (some [5, 257, 258, 260, 261, 264]) s (State.flushRecords s x1) := by
  unfold State.flushRecords
  repeat' first
    | with_reducible exact Foot.refl _ _ _
    | with_reducible assumption
    | ((with_reducible apply Foot.after State.createRec_foot); on_goal 2 => rfl)
    | with_reducible apply Foot.foldl
    | fail_if_no_progress (with_reducible refine Foot.mk' ?_)
    | (intro _ _ _; try dsimp only)

theorem State.faultBit_foot {x1 : Nat} {x2 : Nat} {s : State} :
    Foot [] (some [2]) s (State.faultBit s x1 x2) := by
  unfold State.faultBit
  repeat' first
    | with_reducible exact Foot.refl _ _ _
    | ((with_reducible apply State.setBit_foot); on_goal 2 => first | rfl | (split <;> rfl))

theorem State.faultEvent_foot {x1 : Nat} {x2 : List Nat} {s : State} :
    Foot [] (some [2]) s (State.faultEvent s x1 x2) := by
  unfold State.faultEvent
  repeat' first
    | with_reducible exact Foot.refl _ _ _
    | with_reducible assumption
    | ((with_reducible apply State.updPar_foot); on_goal 2 => first | rfl | (split <;> rfl))
    | ((with_reducible apply Foot.after State.faultBit_foot); on_goal 2 => rfl)
    | with_reducible apply Foot.foldl
    | (intro _ _ _; try dsimp only)

theorem State.clearFaults_foot {x1 : Nat} {s : State} :
    Foot [] (some [2]) s (State.clearFaults s x1) := by
  unfold State.clearFaults
  repeat' first
    | with_reducible exact Foot.refl _ _ _
    | ((with_reducible apply State.setPar_foot); on_goal 2 => first | rfl | (split <;> rfl))

/-! ## Timers -/

theorem State.setCount_foot {x1 : Nat} {x2 : Nat} {s : State} :
    Foot [] (some [257]) s (State.setCount s x1 x2) := by
  unfold State.setCount
  repeat' first
    | with_reducible exact Foot.refl _ _ _
    | ((with_reducible apply State.setPar_foot); on_goal 2 => first | rfl | (split <;> rfl))

theorem State.matched_foot {x1 : Nat} {s : State} :
    Foot [.ports, .timers] (some [265]) s (State.matched s x1) := by
  unfold State.matched
  repeat' first
    | with_reducible exact Foot.refl _ _ _
    | ((with_reducible apply State.setBit_foot); on_goal 2 => first | rfl | (split <;> rfl))
    | ((with_reducible apply Foot.after State.modTimer_foot); on_goal 2 => rfl)
    | ((with_reducible apply Foot.after State.raise_foot); on_goal 2 => rfl)
    | split

theorem State.pulseEnd_foot {x1 : Nat} {s : State} :
    Foot [.timers] (some []) s (State.pulseEnd s x1) := by
  unfold State.pulseEnd
  repeat' first
    | with_reducible exact Foot.refl _ _ _
    | ((with_reducible apply Foot.after State.modTimer_foot); on_goal 2 => rfl)
    | split

theorem State.setValue_foot {x1 : Nat} {x2 : Nat} {s : State} :
    Foot [] (some [257]) s (State.setValue s x1 x2) := by
  unfold State.setValue
  repeat' first
    | with_reducible exact Foot.refl _ _ _
    | ((with_reducible apply Foot.after State.setCount_foot); on_goal 2 => rfl)
    | split

theorem State.advanced_foot {x1 : Nat} {s : State} :
    Foot [.timers] (some []) s (State.advanced s x1) := by
  unfold State.advanced
  repeat' first
    | with_reducible exact Foot.refl _ _ _
    | ((with_reducible apply Foot.after State.pulseEnd_foot); on_goal 2 => rfl)
    | ((with_reducible apply Foot.after State.modTimer_foot); on_goal 2 => rfl)

theorem State.wrapped_foot {x1 : Nat} {s : State} :
    Foot [] (some [265]) s (State.wrapped s x1) := by
  unfold State.wrapped
  repeat' first
    | with_reducible exact Foot.refl _ _ _
    | with_reducible apply Foot.ite
    | ((with_reducible apply State.setBit_foot); on_goal 2 => first | rfl | (split <;> rfl))

theorem State.timerPass_foot {x1 : Nat} {x2 : Nat} {s : State} :
    Foot [.ports, .timers] (some [257, 265]) s (State.timerPass s x1 x2) := by
  unfold State.timerPass
  repeat' first
    | with_reducible exact Foot.refl _ _ _
    | with_reducible apply Foot.ite
    | ((with_reducible apply State.setBit_foot); on_goal 2 => first | rfl | (split <;> rfl))
    | ((with_reducible apply Foot.after State.pulseEnd_foot); on_goal 2 => rfl)
    | ((with_reducible apply Foot.after State.modTimer_foot); on_goal 2 => rfl)
    | ((with_reducible apply Foot.after State.setValue_foot); on_goal 2 => rfl)
    | ((with_reducible apply Foot.after State.matched_foot); on_goal 2 => rfl)
    | ((with_reducible apply Foot.after State.wrapped_foot); on_goal 2 => rfl)

theorem State.timersPass_foot {x1 : Nat} {s : State} :
    Foot [.ports, .timers] (some [257, 265]) s (State.timersPass s x1) := by
  unfold State.timersPass
  repeat' first
    | with_reducible exact Foot.refl _ _ _
    | with_reducible assumption
    | with_reducible apply State.each_foot
    | ((with_reducible apply Foot.after State.timerPass_foot); on_goal 2 => rfl)
    | (intro _ _ _; try dsimp only)
    | split

theorem State.passTime_foot {x1 : Nat} {s : State} :
    Foot [.ports, .time, .timers] (some [257, 265]) s (State.passTime s x1) := by
  unfold State.passTime
  repeat' first
    | with_reducible exact Foot.refl _ _ _
    | ((with_reducible apply Foot.after State.timersPass_foot); on_goal 2 => rfl)
    | fail_if_no_progress (with_reducible refine Foot.mk' ?_)

/-! ## Hopper -/

theorem State.modOp_foot {x1 : Nat} {x2 : Op → Op} {s : State} :
    Foot [.hopper] (some []) s (State.modOp s x1 x2) := by
  unfold State.modOp
  repeat' first
    | with_reducible exact Foot.refl _ _ _
    | fail_if_no_progress (with_reducible refine Foot.mk' ?_)

theorem State.dropOp_foot {x1 : Nat} {s : State} :
    Foot [.hopper] (some []) s (State.dropOp s x1) := by
  unfold State.dropOp
  repeat' first
    | with_reducible exact Foot.refl _ _ _
    | fail_if_no_progress (with_reducible refine Foot.mk' ?_)

theorem State.opRunning_foot {x1 : Op} {s : State} :
    Foot [.hopper] (some []) s (State.opRunning s x1) := by
  unfold State.opRunning
  repeat' first
    | with_reducible exact Foot.refl _ _ _
    | ((with_reducible apply Foot.after State.modOp_foot); on_goal 2 => rfl)

theorem State.opCommit_foot {x1 : Nat} {s : State} :
    Foot [.hopper] (some []) s (State.opCommit s x1) := by
  unfold State.opCommit
  repeat' first
    | with_reducible exact Foot.refl _ _ _
    | ((with_reducible apply Foot.after State.modOp_foot); on_goal 2 => rfl)

theorem State.reply_foot {x1 : Op} {x2 : Nat} {x3 : Nat} {x4 : Bytes} {s : State} :
    Foot [.ports, .hopper] (some [385]) s (State.reply s x1 x2 x3 x4) := by
  unfold State.reply
  repeat' first
    | with_reducible exact Foot.refl _ _ _
    | with_reducible apply Foot.ite
    | ((with_reducible apply State.incPar_foot); on_goal 2 => first | rfl | (split <;> rfl))
    | ((with_reducible apply Foot.after State.modPort_foot); on_goal 2 => rfl)
    | ((with_reducible apply Foot.after State.raisePort_foot); on_goal 2 => rfl)
    | ((with_reducible apply Foot.after State.modOp_foot); on_goal 2 => rfl)
    | ((with_reducible apply Foot.after State.dropOp_foot); on_goal 2 => rfl)

theorem State.ok_foot {x1 : Op} {x2 : Bytes} {s : State} :
    Foot [.ports, .hopper] (some [385]) s (State.ok s x1 x2) := by
  unfold State.ok
  repeat' first
    | with_reducible exact Foot.refl _ _ _
    | ((with_reducible apply Foot.after State.reply_foot); on_goal 2 => rfl)

theorem State.fail_foot {x1 : Op} {x2 : Nat} {x3 : Nat} {s : State} :
    Foot [.ports, .hopper] (some [385]) s (State.fail s x1 x2 x3) := by
  unfold State.fail
  repeat' first
    | with_reducible exact Foot.refl _ _ _
    | ((with_reducible apply Foot.after State.reply_foot); on_goal 2 => rfl)

theorem State.violationRecord_foot {x1 : HostPort} {x2 : Nat} {x3 : Nat} {x4 : Nat} {x5 : Nat} {x6 : Nat} {s : State} :
    Foot [.ports, .grist] (some [5, 257, 258, 260, 261, 264]) s (State.violationRecord s x1 x2 x3 x4 x5 x6) := by
  unfold State.violationRecord
  repeat' first
    | with_reducible exact Foot.refl _ _ _
    | ((with_reducible apply Foot.after State.record_foot); on_goal 2 => rfl)

theorem State.violation_foot {x1 : HostPort} {x2 : Nat} {x3 : Nat} {x4 : Nat} {x5 : Nat} {x6 : Nat} {s : State} :
    Foot [.ports, .grist] (some [5, 257, 258, 260, 261, 264, 386, 388, 390]) s (State.violation s x1 x2 x3 x4 x5 x6) := by
  unfold State.violation
  repeat' first
    | with_reducible exact Foot.refl _ _ _
    | with_reducible apply Foot.ite
    | ((with_reducible apply State.setPar_foot); on_goal 2 => first | rfl | (split <;> rfl))
    | ((with_reducible apply State.incPar_foot); on_goal 2 => first | rfl | (split <;> rfl))
    | ((with_reducible apply Foot.after State.modPort_foot); on_goal 2 => rfl)
    | ((with_reducible apply Foot.after State.raisePort_foot); on_goal 2 => rfl)
    | ((with_reducible apply Foot.after State.violationRecord_foot); on_goal 2 => rfl)

theorem State.reject_foot {x1 : HostPort} {x2 : Nat} {x3 : Nat} {x4 : Nat} {x5 : Nat} {s : State} :
    Foot [.ports] (some [391]) s (State.reject s x1 x2 x3 x4 x5) := by
  unfold State.reject
  repeat' first
    | with_reducible exact Foot.refl _ _ _
    | ((with_reducible apply State.incPar_foot); on_goal 2 => first | rfl | (split <;> rfl))
    | ((with_reducible apply Foot.after State.modPort_foot); on_goal 2 => rfl)
    | split

theorem State.rejectViolation_foot {x1 : HostPort} {x2 : Nat} {x3 : Nat} {x4 : Nat} {x5 : Nat} {x6 : Nat} {s : State} :
    Foot [.ports, .grist] (some [5, 257, 258, 260, 261, 264, 386, 388, 390, 391]) s (State.rejectViolation s x1 x2 x3 x4 x5 x6) := by
  unfold State.rejectViolation
  repeat' first
    | with_reducible exact Foot.refl _ _ _
    | ((with_reducible apply Foot.after State.reject_foot); on_goal 2 => rfl)
    | ((with_reducible apply Foot.after State.violation_foot); on_goal 2 => rfl)

theorem State.takeOp_foot {x1 : Op} {s : State} :
    Foot [.hopper] (some []) s (State.takeOp s x1) := by
  unfold State.takeOp
  repeat' first
    | with_reducible exact Foot.refl _ _ _
    | fail_if_no_progress (with_reducible refine Foot.mk' ?_)

theorem State.discarded_foot {x1 : HostPort} {x2 : Nat} {s : State} :
    Foot [] (some [270]) s (State.discarded s x1 x2) := by
  unfold State.discarded
  repeat' first
    | with_reducible exact Foot.refl _ _ _
    | ((with_reducible apply State.addPar_foot); on_goal 2 => first | rfl | (split <;> rfl))

theorem State.waitPacket_foot {x1 : HostPort} {x2 : Bytes} {s : State} :
    Foot [.ports] (some [270]) s (State.waitPacket s x1 x2) := by
  unfold State.waitPacket
  repeat' first
    | with_reducible exact Foot.refl _ _ _
    | ((with_reducible apply Foot.after State.modPort_foot); on_goal 2 => rfl)
    | ((with_reducible apply Foot.after State.discarded_foot); on_goal 2 => rfl)
    | split

theorem submitReq_foot {fs : List Fld} {ps : Option (List Nat)} {r : Req} {c : Nat} {p : Bytes}
    {run : Op → State → State} {s x : State} (h : Foot fs ps s x)
    (hs : footSub [.ports, .hopper, .grist] (some [5, 257, 258, 260, 261, 264, 270, 386, 388, 390, 391]) fs ps = true)
    (hr : ∀ e t, Foot fs ps s t → Foot fs ps s (run e t)) :
    Foot fs ps s (submitReq r c p run x) := by
  unfold submitReq
  repeat' first
    | with_reducible exact h
    | with_reducible apply hr
    | with_reducible apply Foot.ite
    | ((with_reducible apply Foot.after State.rejectViolation_foot); on_goal 2 => exact footSub_trans (by rfl) hs)
    | ((with_reducible apply Foot.after State.reject_foot); on_goal 2 => exact footSub_trans (by rfl) hs)
    | ((with_reducible apply Foot.after State.waitPacket_foot); on_goal 2 => exact footSub_trans (by rfl) hs)
    | ((with_reducible apply Foot.after State.discarded_foot); on_goal 2 => exact footSub_trans (by rfl) hs)
    | ((with_reducible apply Foot.after State.takeOp_foot); on_goal 2 => exact footSub_trans (by rfl) hs)
    | split

theorem State.submitBytes_foot {x1 : HostPort} {x2 : Bytes} {x3 : Nat} {s : State} :
    Foot [.ports, .hopper, .grist] (some [5, 257, 258, 260, 261, 264, 386, 388, 390, 391]) s (State.submitBytes s x1 x2 x3) := by
  unfold State.submitBytes
  repeat' first
    | with_reducible exact Foot.refl _ _ _
    | with_reducible apply Foot.ite
    | ((with_reducible apply Foot.after State.rejectViolation_foot); on_goal 2 => rfl)
    | ((with_reducible apply Foot.after State.reject_foot); on_goal 2 => rfl)
    | ((with_reducible apply Foot.after State.takeOp_foot); on_goal 2 => rfl)
    | split

theorem State.askNvm_foot {x1 : NvmKind} {x2 : NvmWork} {x3 : Nat} {x4 : Option Nat} {s : State} :
    Foot [.nvm] (some []) s (State.askNvm s x1 x2 x3 x4) := by
  unfold State.askNvm
  repeat' first
    | with_reducible exact Foot.refl _ _ _
    | fail_if_no_progress (with_reducible refine Foot.mk' ?_)

theorem State.askConfig_foot {x1 : Nat} {s : State} :
    Foot [.nvm] (some []) s (State.askConfig s x1) := by
  unfold State.askConfig
  repeat' first
    | with_reducible exact Foot.refl _ _ _
    | ((with_reducible apply Foot.after State.askNvm_foot); on_goal 2 => rfl)
    | split

theorem State.askOnce_foot {x1 : NvmKind} {x2 : NvmWork} {x3 : Nat} {s : State} :
    Foot [.nvm] (some []) s (State.askOnce s x1 x2 x3) := by
  unfold State.askOnce
  repeat' first
    | with_reducible exact Foot.refl _ _ _
    | ((with_reducible apply Foot.after State.askNvm_foot); on_goal 2 => rfl)
    | split

/-! ## Sensing -/

theorem State.energyGap_foot {x1 : Nat} {s : State} :
    Foot [] (some [399]) s (State.energyGap s x1) := by
  unfold State.energyGap
  repeat' first
    | with_reducible exact Foot.refl _ _ _
    | with_reducible assumption
    | ((with_reducible apply State.setBit_foot); on_goal 2 => first | rfl | (split <;> rfl))
    | with_reducible apply Foot.foldl
    | (intro _ _ _; try dsimp only)
    | split

theorem State.senseRise_foot {x1 : Nat} {x2 : Bool} {s : State} :
    Foot [.phases, .segs, .ports, .feeders, .strings, .grist] (some [5, 257, 258, 260, 261, 264, 399]) s (State.senseRise s x1 x2) := by
  unfold State.senseRise
  repeat' first
    | with_reducible exact Foot.refl _ _ _
    | with_reducible apply Foot.ite
    | ((with_reducible apply Foot.after State.energyGap_foot); on_goal 2 => rfl)
    | ((with_reducible apply Foot.after State.modChan_foot); on_goal 2 => rfl)
    | ((with_reducible apply Foot.after State.recordPsd_foot); on_goal 2 => rfl)

theorem State.feederEnergy_foot {x1 : Nat} {x2 : Int} {s : State} :
    Foot [.feeders] (some [387, 388]) s (State.feederEnergy s x1 x2) := by
  unfold State.feederEnergy
  try unfold State.addEnergy
  repeat' first
    | with_reducible exact Foot.refl _ _ _
    | with_reducible apply Foot.ite
    | ((with_reducible apply State.updPar_foot); on_goal 2 => first | rfl | (split <;> rfl))
    | ((with_reducible apply Foot.after State.modFeeder_foot); on_goal 2 => rfl)

theorem State.stringEnergy_foot {x1 : Nat} {x2 : Int} {s : State} :
    Foot [.strings] (some [387, 388, 389]) s (State.stringEnergy s x1 x2) := by
  unfold State.stringEnergy
  try unfold State.addCharge
  try unfold State.addEnergy
  repeat' first
    | with_reducible exact Foot.refl _ _ _
    | with_reducible apply Foot.ite
    | ((with_reducible apply State.updPar_foot); on_goal 2 => first | rfl | (split <;> rfl))
    | ((with_reducible apply Foot.after State.modStr_foot); on_goal 2 => rfl)

theorem State.powerSum_foot {x1 : Nat} {x2 : Nat} {x3 : Int} {s : State} :
    Foot [.phases, .segs, .feeders, .strings] (some []) s (State.powerSum s x1 x2 x3) := by
  unfold State.powerSum
  repeat' first
    | with_reducible exact Foot.refl _ _ _
    | ((with_reducible apply Foot.after State.modChan_foot); on_goal 2 => rfl)

theorem State.gather_foot {x1 : Nat} {x2 : Int} {s : State} :
    Foot [.phases, .segs, .feeders, .strings] (some []) s (State.gather s x1 x2) := by
  unfold State.gather
  repeat' first
    | with_reducible exact Foot.refl _ _ _
    | ((with_reducible apply Foot.after State.modChan_foot); on_goal 2 => rfl)

theorem State.slotEnergy_foot {x1 : Nat} {x2 : Int} {s : State} :
    Foot [.phases, .segs, .feeders, .strings] (some [387, 388, 389]) s (State.slotEnergy s x1 x2) := by
  unfold State.slotEnergy
  repeat' first
    | with_reducible exact Foot.refl _ _ _
    | ((with_reducible apply Foot.after State.feederEnergy_foot); on_goal 2 => rfl)
    | ((with_reducible apply Foot.after State.stringEnergy_foot); on_goal 2 => rfl)
    | ((with_reducible apply Foot.after State.powerSum_foot); on_goal 2 => rfl)
    | split

theorem State.overSeen_foot {x1 : Nat} {x2 : Int} {s : State} :
    Foot [.segs] (some []) s (State.overSeen s x1 x2) := by
  unfold State.overSeen
  repeat' first
    | with_reducible exact Foot.refl _ _ _
    | ((with_reducible apply Foot.after State.modSeg_foot); on_goal 2 => rfl)
    | split

theorem State.trackLimit_foot {x1 : Nat} {s : State} :
    Foot [.phases, .segs, .ports, .feeders, .strings, .grist] (some [5, 257, 258, 260, 261, 264, 399]) s (State.trackLimit s x1) := by
  unfold State.trackLimit
  repeat' first
    | with_reducible exact Foot.refl _ _ _
    | ((with_reducible apply State.setBit_foot); on_goal 2 => first | rfl | (split <;> rfl))
    | ((with_reducible apply Foot.after State.modChan_foot); on_goal 2 => rfl)
    | ((with_reducible apply Foot.after State.record_foot); on_goal 2 => rfl)

theorem State.trackUpdate_foot {x1 : Nat} {x2 : Int} {x3 : Int} {s : State} :
    Foot [.phases, .segs, .ports, .feeders, .strings, .draws, .grist] (some [5, 257, 258, 260, 261, 264, 399, 2052, 2053]) s (State.trackUpdate s x1 x2 x3) := by
  unfold State.trackUpdate
  repeat' first
    | with_reducible exact Foot.refl _ _ _
    | with_reducible apply Foot.ite
    | ((with_reducible apply State.setPar_foot); on_goal 2 => first | rfl | (split <;> rfl))
    | ((with_reducible apply Foot.after State.draw_foot); on_goal 2 => rfl)
    | ((with_reducible apply Foot.after State.trackLimit_foot); on_goal 2 => rfl)

theorem State.windowNext_foot {x1 : Nat} {s : State} :
    Foot [.phases, .segs, .feeders, .wheel, .strings] (some []) s (State.windowNext s x1) := by
  unfold State.windowNext
  repeat' first
    | with_reducible exact Foot.refl _ _ _
    | with_reducible assumption
    | with_reducible apply State.eachOf_foot
    | ((with_reducible apply Foot.after State.modChan_foot); on_goal 2 => rfl)
    | fail_if_no_progress (with_reducible refine Foot.mk' ?_)
    | (intro _ _ _; try dsimp only)

theorem State.sarMean_foot {x1 : Nat} {s : State} :
    Foot [.draws] (some []) s (State.sarMean s x1).2 := by
  unfold State.sarMean
  dsimp only
  repeat' first
    | with_reducible exact Foot.refl _ _ _
    | ((with_reducible apply Foot.after State.draw_foot); on_goal 2 => rfl)
    | split

theorem State.fastMean_foot {x1 : Nat} {x2 : Int} {s : State} :
    Foot [.strings] (some [384]) s (State.fastMean s x1 x2) := by
  unfold State.fastMean
  repeat' first
    | with_reducible exact Foot.refl _ _ _
    | ((with_reducible apply State.setPar_foot); on_goal 2 => first | rfl | (split <;> rfl))
    | ((with_reducible apply Foot.after State.modStr_foot); on_goal 2 => rfl)
    | split

theorem State.closeMs_foot {x1 : Nat} {s : State} :
    Foot [.phases, .segs, .feeders, .strings] (some [384, 385, 386]) s (State.closeMs s x1) := by
  unfold State.closeMs
  repeat' first
    | with_reducible exact Foot.refl _ _ _
    | with_reducible apply Foot.ite
    | ((with_reducible apply State.setPar_foot); on_goal 2 => first | rfl | (split <;> rfl))
    | ((with_reducible apply Foot.after State.modChan_foot); on_goal 2 => rfl)
    | ((with_reducible apply Foot.after State.fastMean_foot); on_goal 2 => rfl)
    | split

theorem State.closeAllMs_foot {s : State} :
    Foot [.phases, .segs, .feeders, .strings] (some [384, 385, 386]) s (State.closeAllMs s) := by
  unfold State.closeAllMs
  repeat' first
    | with_reducible exact Foot.refl _ _ _
    | with_reducible assumption
    | with_reducible apply State.eachOf_foot
    | ((with_reducible apply Foot.after State.closeMs_foot); on_goal 2 => rfl)
    | (intro _ _ _; try dsimp only)

theorem State.spoilIntervals_foot {s : State} :
    Foot [.phases, .segs, .feeders, .wheel, .strings] (some [399]) s (State.spoilIntervals s) := by
  unfold State.spoilIntervals
  repeat' first
    | with_reducible exact Foot.refl _ _ _
    | with_reducible assumption
    | ((with_reducible apply State.setBit_foot); on_goal 2 => first | rfl | (split <;> rfl))
    | with_reducible apply State.eachOf_foot
    | ((with_reducible apply Foot.after State.modChan_foot); on_goal 2 => rfl)
    | fail_if_no_progress (with_reducible refine Foot.mk' ?_)
    | (intro _ _ _; try dsimp only)
    | split

/-! ## Bench -/

theorem State.flumeChip_foot {s : State} :
    Foot [.flume] (some []) s (State.flumeChip s) := by
  unfold State.flumeChip
  repeat' first
    | with_reducible exact Foot.refl _ _ _
    | with_reducible apply Foot.ite
    | fail_if_no_progress (with_reducible refine Foot.mk' ?_)

theorem State.flumeAfter_foot {x1 : Nat} {x2 : Int} {x3 : Int} {x4 : Bool} {s : State} :
    Foot [.flume, .hopper, .trace] (some [305]) s (State.flumeAfter s x1 x2 x3 x4) := by
  unfold State.flumeAfter
  repeat' first
    | with_reducible exact Foot.refl _ _ _
    | with_reducible apply Foot.ite
    | ((with_reducible apply State.setPar_foot); on_goal 2 => first | rfl | (split <;> rfl))
    | ((with_reducible apply Foot.after State.opCommit_foot); on_goal 2 => rfl)
    | fail_if_no_progress (with_reducible refine Foot.mk' ?_)
    | split

theorem State.flumeEnd_foot {x1 : Nat} {s : State} :
    Foot [.flume, .ports, .hopper, .loops] (some [305, 307, 385]) s (State.flumeEnd s x1) := by
  unfold State.flumeEnd
  dsimp only
  repeat' first
    | with_reducible exact Foot.refl _ _ _
    | ((with_reducible apply State.setPar_foot); on_goal 2 => first | rfl | (split <;> rfl))
    | ((with_reducible apply Foot.after State.reply_foot); on_goal 2 => rfl)
    | ((with_reducible apply Foot.after State.modLoop_foot); on_goal 2 => rfl)
    | fail_if_no_progress (with_reducible refine Foot.mk' ?_)
    | split

theorem State.flumeStop_foot {x1 : Nat} {s : State} :
    Foot [.flume, .ports, .hopper, .loops] (some [305, 307, 385]) s (State.flumeStop s x1) := by
  unfold State.flumeStop
  repeat' first
    | with_reducible exact Foot.refl _ _ _
    | ((with_reducible apply Foot.after State.flumeEnd_foot); on_goal 2 => rfl)
    | split

theorem State.flumeStopOn_foot {x1 : Nat} {x2 : Nat} {s : State} :
    Foot [.flume, .ports, .hopper, .loops] (some [305, 307, 385]) s (State.flumeStopOn s x1 x2) := by
  unfold State.flumeStopOn
  repeat' first
    | with_reducible exact Foot.refl _ _ _
    | ((with_reducible apply Foot.after State.flumeStop_foot); on_goal 2 => rfl)
    | split

theorem opFlumeStart_foot {x0 : Op} {s : State} :
    Foot [.flume, .ports, .hopper, .trace] (some [305, 306, 385]) s (opFlumeStart x0 s) := by
  unfold opFlumeStart
  repeat' first
    | with_reducible exact Foot.refl _ _ _
    | ((with_reducible apply State.setPar_foot); on_goal 2 => first | rfl | (split <;> rfl))
    | ((with_reducible apply Foot.after State.reply_foot); on_goal 2 => rfl)
    | ((with_reducible apply Foot.after State.opRunning_foot); on_goal 2 => rfl)
    | fail_if_no_progress (with_reducible refine Foot.mk' ?_)
    | split

theorem State.traceTrigger_foot {s : State} :
    Foot [.trace] (some [308, 310]) s (State.traceTrigger s) := by
  unfold State.traceTrigger
  repeat' first
    | with_reducible exact Foot.refl _ _ _
    | ((with_reducible apply State.setPar_foot); on_goal 2 => first | rfl | (split <;> rfl))
    | fail_if_no_progress (with_reducible refine Foot.mk' ?_)

theorem State.traceEval_foot {x1 : Nat} {s : State} :
    Foot [.trace] (some [308, 310]) s (State.traceEval s x1) := by
  unfold State.traceEval
  repeat' first
    | with_reducible exact Foot.refl _ _ _
    | with_reducible apply Foot.ite
    | ((with_reducible apply Foot.after State.traceTrigger_foot); on_goal 2 => rfl)
    | fail_if_no_progress (with_reducible refine Foot.mk' ?_)

theorem State.traceEnd_foot {s : State} :
    Foot [] (some [308]) s (State.traceEnd s) := by
  unfold State.traceEnd
  repeat' first
    | with_reducible exact Foot.refl _ _ _
    | ((with_reducible apply State.setPar_foot); on_goal 2 => first | rfl | (split <;> rfl))

theorem State.traceStop_foot {x1 : Nat} {s : State} :
    Foot [.trace] (some [308, 310]) s (State.traceStop s x1) := by
  unfold State.traceStop
  repeat' first
    | with_reducible exact Foot.refl _ _ _
    | with_reducible apply Foot.ite
    | ((with_reducible apply State.setPar_foot); on_goal 2 => first | rfl | (split <;> rfl))
    | ((with_reducible apply Foot.after State.traceEnd_foot); on_goal 2 => rfl)
    | ((with_reducible apply Foot.after State.traceTrigger_foot); on_goal 2 => rfl)

theorem opTailraceArm_foot {x0 : Op} {s : State} :
    Foot [.ports, .hopper, .trace] (some [308, 309, 311, 385]) s (opTailraceArm x0 s) := by
  unfold opTailraceArm
  repeat' first
    | with_reducible exact Foot.refl _ _ _
    | ((with_reducible apply State.setPar_foot); on_goal 2 => first | rfl | (split <;> rfl))
    | ((with_reducible apply State.incPar_foot); on_goal 2 => first | rfl | (split <;> rfl))
    | ((with_reducible apply Foot.after State.ok_foot); on_goal 2 => rfl)
    | ((with_reducible apply Foot.after State.fail_foot); on_goal 2 => rfl)
    | fail_if_no_progress (with_reducible refine Foot.mk' ?_)
    | split

theorem opTailraceRead_foot {x0 : Op} {s : State} :
    Foot [.ports, .hopper] (some [385]) s (opTailraceRead x0 s) := by
  unfold opTailraceRead
  repeat' first
    | with_reducible exact Foot.refl _ _ _
    | with_reducible apply Foot.ite
    | ((with_reducible apply Foot.after State.ok_foot); on_goal 2 => rfl)
    | ((with_reducible apply Foot.after State.fail_foot); on_goal 2 => rfl)

theorem State.faultSeen_foot {x1 : Nat} {s : State} :
    Foot [.flume, .ports, .hopper, .trace, .loops] (some [305, 307, 385]) s (State.faultSeen s x1) := by
  unfold State.faultSeen
  repeat' first
    | with_reducible exact Foot.refl _ _ _
    | with_reducible apply Foot.ite
    | ((with_reducible apply Foot.after State.flumeStop_foot); on_goal 2 => rfl)
    | fail_if_no_progress (with_reducible refine Foot.mk' ?_)

theorem State.latchFault_foot {x1 : Nat} {x2 : List Nat} {s : State} :
    Foot [.flume, .ports, .hopper, .trace, .loops] (some [2, 305, 307, 385]) s (State.latchFault s x1 x2) := by
  unfold State.latchFault
  repeat' first
    | with_reducible exact Foot.refl _ _ _
    | with_reducible apply Foot.ite
    | ((with_reducible apply Foot.after State.faultEvent_foot); on_goal 2 => rfl)
    | ((with_reducible apply Foot.after State.faultSeen_foot); on_goal 2 => rfl)

/-! ## Wheel -/

theorem opCoefBankLoad_foot {x0 : Op} {s : State} :
    Foot [.ports, .hopper, .wheel, .loops] (some [385]) s (opCoefBankLoad x0 s) := by
  unfold opCoefBankLoad
  repeat' first
    | with_reducible exact Foot.refl _ _ _
    | ((with_reducible apply Foot.after State.opRunning_foot); on_goal 2 => rfl)
    | ((with_reducible apply Foot.after State.modLoop_foot); on_goal 2 => rfl)
    | ((with_reducible apply Foot.after State.fail_foot); on_goal 2 => rfl)
    | fail_if_no_progress (with_reducible refine Foot.mk' ?_)
    | split

theorem State.swapsDone_foot {s : State} :
    Foot [.ports, .hopper, .wheel] (some [385]) s (State.swapsDone s) := by
  unfold State.swapsDone
  repeat' first
    | with_reducible exact Foot.refl _ _ _
    | with_reducible assumption
    | ((with_reducible apply Foot.after State.ok_foot); on_goal 2 => rfl)
    | with_reducible apply Foot.foldl
    | fail_if_no_progress (with_reducible refine Foot.mk' ?_)
    | (intro _ _ _; try dsimp only)
    | split

theorem State.loopSwap_foot {x1 : Nat} {s : State} :
    Foot [.flume, .ports, .hopper, .nvm, .wheel, .grist, .loops] (some [5, 256, 257, 258, 260, 261, 264, 305, 307, 385]) s (State.loopSwap s x1) := by
  unfold State.loopSwap
  repeat' first
    | with_reducible exact Foot.refl _ _ _
    | ((with_reducible apply State.setPar_foot); on_goal 2 => first | rfl | (split <;> rfl))
    | ((with_reducible apply Foot.after State.swapsDone_foot); on_goal 2 => rfl)
    | ((with_reducible apply Foot.after State.askNvm_foot); on_goal 2 => rfl)
    | ((with_reducible apply Foot.after State.record_foot); on_goal 2 => rfl)
    | ((with_reducible apply Foot.after State.modLoop_foot); on_goal 2 => rfl)
    | ((with_reducible apply Foot.after State.flumeStopOn_foot); on_goal 2 => rfl)
    | fail_if_no_progress (with_reducible refine Foot.mk' ?_)
    | split

theorem State.swapIdle_foot {x1 : SwapJob} {s : State} :
    Foot [.flume, .ports, .hopper, .nvm, .wheel, .grist, .loops] (some [5, 256, 257, 258, 260, 261, 264, 305, 307, 385]) s (State.swapIdle s x1) := by
  unfold State.swapIdle
  repeat' first
    | with_reducible exact Foot.refl _ _ _
    | with_reducible assumption
    | with_reducible apply State.eachOf_foot
    | ((with_reducible apply Foot.after State.loopSwap_foot); on_goal 2 => rfl)
    | (intro _ _ _; try dsimp only)

theorem State.registerSwap_foot {x1 : SwapJob} {s : State} :
    Foot [.flume, .ports, .hopper, .nvm, .wheel, .grist, .loops] (some [5, 256, 257, 258, 260, 261, 264, 305, 307, 385]) s (State.registerSwap s x1) := by
  unfold State.registerSwap
  repeat' first
    | with_reducible exact Foot.refl _ _ _
    | ((with_reducible apply Foot.after State.opCommit_foot); on_goal 2 => rfl)
    | ((with_reducible apply Foot.after State.swapIdle_foot); on_goal 2 => rfl)
    | fail_if_no_progress (with_reducible refine Foot.mk' ?_)
    | split

theorem opCoefBankSwap_foot {x0 : Op} {s : State} :
    Foot [.ports, .hopper, .wheel] (some [385]) s (opCoefBankSwap x0 s) := by
  unfold opCoefBankSwap
  repeat' first
    | with_reducible exact Foot.refl _ _ _
    | ((with_reducible apply Foot.after State.reply_foot); on_goal 2 => rfl)
    | ((with_reducible apply Foot.after State.opRunning_foot); on_goal 2 => rfl)
    | fail_if_no_progress (with_reducible refine Foot.mk' ?_)
    | split

theorem State.alignPoint_foot {x1 : Nat} {s : State} :
    Foot [.wheel] (some []) s (State.alignPoint s x1) := by
  unfold State.alignPoint
  repeat' first
    | with_reducible exact Foot.refl _ _ _
    | fail_if_no_progress (with_reducible refine Foot.mk' ?_)

theorem State.loopStopped_foot {x1 : Nat} {s : State} :
    Foot [.flume, .ports, .hopper, .nvm, .wheel, .trace, .grist, .loops] (some [5, 256, 257, 258, 260, 261, 264, 305, 307, 308, 310, 385]) s (State.loopStopped s x1) := by
  unfold State.loopStopped
  repeat' first
    | with_reducible exact Foot.refl _ _ _
    | with_reducible assumption
    | with_reducible apply State.eachOf_foot
    | ((with_reducible apply Foot.after State.traceStop_foot); on_goal 2 => rfl)
    | ((with_reducible apply Foot.after State.loopSwap_foot); on_goal 2 => rfl)
    | ((with_reducible apply Foot.after State.flumeStop_foot); on_goal 2 => rfl)
    | (intro _ _ _; try dsimp only)
    | split

theorem State.residueError_foot {x1 : Nat} {x2 : Nat} {s : State} :
    Foot [.ports, .wheel, .grist, .dresser] (some [5, 257, 258, 260, 261, 264, 265, 272, 275]) s (State.residueError s x1 x2) := by
  unfold State.residueError
  repeat' first
    | with_reducible exact Foot.refl _ _ _
    | with_reducible assumption
    | ((with_reducible apply State.incPar_foot); on_goal 2 => first | rfl | (split <;> rfl))
    | ((with_reducible apply State.setBit_foot); on_goal 2 => first | rfl | (split <;> rfl))
    | with_reducible apply State.eachOf_foot
    | ((with_reducible apply Foot.after State.setLane_foot); on_goal 2 => rfl)
    | ((with_reducible apply Foot.after State.record_foot); on_goal 2 => rfl)
    | fail_if_no_progress (with_reducible refine Foot.mk' ?_)
    | (intro _ _ _; try dsimp only)
    | split

theorem State.lateEval_foot {x1 : Nat} {s : State} :
    Foot [] (some [265, 276]) s (State.lateEval s x1) := by
  unfold State.lateEval
  repeat' first
    | with_reducible exact Foot.refl _ _ _
    | ((with_reducible apply State.incPar_foot); on_goal 2 => first | rfl | (split <;> rfl))
    | ((with_reducible apply State.setBit_foot); on_goal 2 => first | rfl | (split <;> rfl))

/-! ## Conversion -/

theorem State.outerIdle_foot {x1 : Nat} {s : State} :
    Foot [.flume, .ports, .hopper, .nvm, .wheel, .trace, .grist, .loops] (some [1, 5, 256, 257, 258, 260, 261, 264, 305, 307, 308, 310, 385]) s (State.outerIdle s x1) := by
  unfold State.outerIdle
  repeat' first
    | with_reducible exact Foot.refl _ _ _
    | ((with_reducible apply Foot.after State.loopStopped_foot); on_goal 2 => rfl)
    | ((with_reducible apply Foot.after State.setObj_foot); on_goal 2 => rfl)
    | ((with_reducible apply Foot.after State.modLoop_foot); on_goal 2 => rfl)
    | split

theorem State.stopPhase_foot {x1 : Nat} {s : State} :
    Foot [.phases, .flume, .ports, .hopper, .nvm, .wheel, .trace, .grist, .loops] (some [1, 5, 256, 257, 258, 260, 261, 264, 305, 307, 308, 310, 385]) s (State.stopPhase s x1) := by
  unfold State.stopPhase
  dsimp only
  repeat' first
    | with_reducible exact Foot.refl _ _ _
    | ((with_reducible apply Foot.after State.loopStopped_foot); on_goal 2 => rfl)
    | ((with_reducible apply Foot.after State.outerIdle_foot); on_goal 2 => rfl)
    | ((with_reducible apply Foot.after State.modPhase_foot); on_goal 2 => rfl)
    | split

theorem State.reefOutput_foot {x1 : Nat} {s : State} :
    Foot [.draws] (some []) s (State.reefOutput s x1).2 := by
  unfold State.reefOutput
  dsimp only
  repeat' first
    | with_reducible exact Foot.refl _ _ _
    | ((with_reducible apply Foot.after State.draw_foot); on_goal 2 => rfl)
    | split

theorem State.beginPeriod_foot {x1 : Nat} {s : State} :
    Foot [.phases] (some []) s (State.beginPeriod s x1) := by
  unfold State.beginPeriod
  repeat' first
    | with_reducible exact Foot.refl _ _ _
    | ((with_reducible apply Foot.after State.modPhase_foot); on_goal 2 => rfl)

theorem State.startPhase_foot {x1 : Nat} {x2 : Bool} {x3 : Int} {s : State} :
    Foot [.phases, .loops] (some [1]) s (State.startPhase s x1 x2 x3) := by
  unfold State.startPhase
  repeat' first
    | with_reducible exact Foot.refl _ _ _
    | ((with_reducible apply Foot.after State.setObj_foot); on_goal 2 => rfl)
    | ((with_reducible apply Foot.after State.modPhase_foot); on_goal 2 => rfl)
    | ((with_reducible apply Foot.after State.modLoop_foot); on_goal 2 => rfl)
    | ((with_reducible apply Foot.after State.beginPeriod_foot); on_goal 2 => rfl)

theorem State.applyContingency_foot {x1 : Nat} {s : State} :
    Foot [.fantail] (some []) s (State.applyContingency s x1) := by
  unfold State.applyContingency
  repeat' first
    | with_reducible exact Foot.refl _ _ _
    | with_reducible assumption
    | with_reducible apply State.eachOf_foot
    | ((with_reducible apply Foot.after State.modConsF_foot); on_goal 2 => rfl)
    | (intro _ _ _; try dsimp only)

theorem State.replacePhase_foot {x1 : Nat} {s : State} :
    Foot [.phases] (some []) s (State.replacePhase s x1) := by
  unfold State.replacePhase
  repeat' first
    | with_reducible exact Foot.refl _ _ _
    | ((with_reducible apply Foot.after State.modPhase_foot); on_goal 2 => rfl)
    | split

theorem State.floatLeave_foot {s : State} :
    Foot [.flume, .ports, .hopper, .nvm, .wheel, .grist, .loops] (some [5, 256, 257, 258, 260, 261, 264, 305, 307, 320, 385]) s (State.floatLeave s) := by
  unfold State.floatLeave
  repeat' first
    | with_reducible exact Foot.refl _ _ _
    | with_reducible assumption
    | with_reducible apply Foot.ite
    | ((with_reducible apply State.setPar_foot); on_goal 2 => first | rfl | (split <;> rfl))
    | with_reducible apply State.each_foot
    | ((with_reducible apply Foot.after State.modLoop_foot); on_goal 2 => rfl)
    | ((with_reducible apply Foot.after State.registerSwap_foot); on_goal 2 => rfl)
    | fail_if_no_progress (with_reducible refine Foot.mk' ?_)
    | (intro _ _ _; try dsimp only)

theorem State.phaseRemoved_foot {x1 : Nat} {s : State} :
    Foot [.phases, .flume, .fantail, .ports, .hopper, .nvm, .wheel, .grist, .loops] (some [5, 256, 257, 258, 260, 261, 264, 305, 307, 320, 385]) s (State.phaseRemoved s x1) := by
  unfold State.phaseRemoved
  repeat' first
    | with_reducible exact Foot.refl _ _ _
    | ((with_reducible apply Foot.after State.applyContingency_foot); on_goal 2 => rfl)
    | ((with_reducible apply Foot.after State.replacePhase_foot); on_goal 2 => rfl)
    | ((with_reducible apply Foot.after State.floatLeave_foot); on_goal 2 => rfl)
    | ((with_reducible apply Foot.after State.modLoop_foot); on_goal 2 => rfl)
    | split

theorem State.removePhase_foot {x1 : Nat} {x2 : Bool} {s : State} :
    Foot [.phases, .flume, .fantail, .ports, .hopper, .nvm, .wheel, .trace, .grist, .loops] (some [1, 2, 5, 256, 257, 258, 260, 261, 264, 285, 305, 307, 308, 310, 320, 385]) s (State.removePhase s x1 x2) := by
  unfold State.removePhase
  repeat' first
    | with_reducible exact Foot.refl _ _ _
    | ((with_reducible apply State.setBit_foot); on_goal 2 => first | rfl | (split <;> rfl))
    | ((with_reducible apply Foot.after State.phaseRemoved_foot); on_goal 2 => rfl)
    | ((with_reducible apply Foot.after State.setObj_foot); on_goal 2 => rfl)
    | ((with_reducible apply Foot.after State.stopPhase_foot); on_goal 2 => rfl)
    | ((with_reducible apply Foot.after State.modPhase_foot); on_goal 2 => rfl)
    | ((with_reducible apply Foot.after State.latchFault_foot); on_goal 2 => rfl)

theorem State.slewEnd_foot {x1 : Nat} {x2 : Nat} {x3 : Nat} {s : State} :
    Foot [.ports, .hopper, .loops] (some [385]) s (State.slewEnd s x1 x2 x3) := by
  unfold State.slewEnd
  dsimp only
  repeat' first
    | with_reducible exact Foot.refl _ _ _
    | ((with_reducible apply Foot.after State.reply_foot); on_goal 2 => rfl)
    | ((with_reducible apply Foot.after State.modLoop_foot); on_goal 2 => rfl)
    | split

theorem State.slewsSettle_foot {x1 : Nat} {s : State} :
    Foot [.ports, .hopper, .loops] (some [385]) s (State.slewsSettle s x1) := by
  unfold State.slewsSettle
  repeat' first
    | with_reducible exact Foot.refl _ _ _
    | with_reducible assumption
    | with_reducible apply State.eachOf_foot
    | ((with_reducible apply Foot.after State.slewEnd_foot); on_goal 2 => rfl)
    | (intro _ _ _; try dsimp only)
    | split

theorem opSetpointSlew_foot {x0 : Op} {s : State} :
    Foot [.segs, .ports, .hopper, .nvm, .loops] (some [272, 273, 385]) s (opSetpointSlew x0 s) := by
  unfold opSetpointSlew
  repeat' first
    | with_reducible exact Foot.refl _ _ _
    | with_reducible apply Foot.ite
    | ((with_reducible apply State.setPar_foot); on_goal 2 => first | rfl | (split <;> rfl))
    | ((with_reducible apply Foot.after State.askConfig_foot); on_goal 2 => rfl)
    | ((with_reducible apply Foot.after State.opRunning_foot); on_goal 2 => rfl)
    | ((with_reducible apply Foot.after State.ok_foot); on_goal 2 => rfl)
    | ((with_reducible apply Foot.after State.modLoop_foot); on_goal 2 => rfl)
    | ((with_reducible apply Foot.after State.modSeg_foot); on_goal 2 => rfl)
    | ((with_reducible apply Foot.after State.fail_foot); on_goal 2 => rfl)

theorem State.stopLone_foot {s : State} :
    Foot [.phases, .flume, .ports, .hopper, .nvm, .wheel, .trace, .grist, .loops] (some [1, 5, 256, 257, 258, 260, 261, 264, 305, 307, 308, 310, 385]) s (State.stopLone s) := by
  unfold State.stopLone
  repeat' first
    | with_reducible exact Foot.refl _ _ _
    | with_reducible assumption
    | with_reducible apply State.eachOf_foot
    | ((with_reducible apply Foot.after State.setObj_foot); on_goal 2 => rfl)
    | ((with_reducible apply Foot.after State.stopPhase_foot); on_goal 2 => rfl)
    | (intro _ _ _; try dsimp only)
    | split

theorem State.segStart_foot {x1 : Nat} {s : State} :
    Foot [.phases, .segs, .ports, .hopper, .loops] (some [1, 268, 385]) s (State.segStart s x1) := by
  unfold State.segStart
  repeat' first
    | with_reducible exact Foot.refl _ _ _
    | with_reducible assumption
    | ((with_reducible apply State.setPar_foot); on_goal 2 => first | rfl | (split <;> rfl))
    | with_reducible apply State.eachOf_foot
    | ((with_reducible apply Foot.after State.setObj_foot); on_goal 2 => rfl)
    | ((with_reducible apply Foot.after State.modPhase_foot); on_goal 2 => rfl)
    | ((with_reducible apply Foot.after State.slewsSettle_foot); on_goal 2 => rfl)
    | ((with_reducible apply Foot.after State.modLoop_foot); on_goal 2 => rfl)
    | ((with_reducible apply Foot.after State.modSeg_foot); on_goal 2 => rfl)
    | (intro _ _ _; try dsimp only)

theorem State.stopConverter_foot {x1 : Nat} {s : State} :
    Foot [.phases, .flume, .ports, .hopper, .nvm, .wheel, .trace, .grist, .loops] (some [1, 5, 256, 257, 258, 260, 261, 264, 305, 307, 308, 310, 385]) s (State.stopConverter s x1) := by
  unfold State.stopConverter
  repeat' first
    | with_reducible exact Foot.refl _ _ _
    | with_reducible assumption
    | with_reducible apply State.eachOf_foot
    | ((with_reducible apply Foot.after State.setObj_foot); on_goal 2 => rfl)
    | ((with_reducible apply Foot.after State.stopPhase_foot); on_goal 2 => rfl)
    | (intro _ _ _; try dsimp only)
    | split

theorem State.failAttempt_foot {x1 : Nat} {x2 : Nat} {s : State} :
    Foot [.phases, .flume, .segs, .ports, .hopper, .nvm, .wheel, .trace, .grist, .loops] (some [1, 2, 5, 256, 257, 258, 259, 260, 261, 264, 305, 307, 308, 310, 385]) s (State.failAttempt s x1 x2) := by
  unfold State.failAttempt
  repeat' first
    | with_reducible exact Foot.refl _ _ _
    | ((with_reducible apply State.setPar_foot); on_goal 2 => first | rfl | (split <;> rfl))
    | ((with_reducible apply State.incPar_foot); on_goal 2 => first | rfl | (split <;> rfl))
    | ((with_reducible apply Foot.after State.setObj_foot); on_goal 2 => rfl)
    | ((with_reducible apply Foot.after State.record_foot); on_goal 2 => rfl)
    | ((with_reducible apply Foot.after State.slewsSettle_foot); on_goal 2 => rfl)
    | ((with_reducible apply Foot.after State.stopConverter_foot); on_goal 2 => rfl)
    | ((with_reducible apply Foot.after State.latchFault_foot); on_goal 2 => rfl)
    | ((with_reducible apply Foot.after State.modSeg_foot); on_goal 2 => rfl)
    | split

theorem State.clearSegment_foot {x1 : Nat} {s : State} :
    Foot [.segs] (some [1, 2, 259]) s (State.clearSegment s x1) := by
  unfold State.clearSegment
  repeat' first
    | with_reducible exact Foot.refl _ _ _
    | ((with_reducible apply State.setPar_foot); on_goal 2 => first | rfl | (split <;> rfl))
    | ((with_reducible apply Foot.after State.setObj_foot); on_goal 2 => rfl)
    | ((with_reducible apply Foot.after State.clearFaults_foot); on_goal 2 => rfl)
    | ((with_reducible apply Foot.after State.modSeg_foot); on_goal 2 => rfl)

theorem State.stopConversion_foot {s : State} :
    Foot [.phases, .flume, .segs, .ports, .hopper, .nvm, .wheel, .trace, .grist, .loops] (some [1, 5, 256, 257, 258, 259, 260, 261, 264, 305, 307, 308, 310, 385]) s (State.stopConversion s) := by
  unfold State.stopConversion
  repeat' first
    | with_reducible exact Foot.refl _ _ _
    | with_reducible assumption
    | ((with_reducible apply State.setPar_foot); on_goal 2 => first | rfl | (split <;> rfl))
    | with_reducible apply State.each_foot
    | ((with_reducible apply Foot.after State.setObj_foot); on_goal 2 => rfl)
    | ((with_reducible apply Foot.after State.stopPhase_foot); on_goal 2 => rfl)
    | ((with_reducible apply Foot.after State.slewsSettle_foot); on_goal 2 => rfl)
    | ((with_reducible apply Foot.after State.modSeg_foot); on_goal 2 => rfl)
    | (intro _ _ _; try dsimp only)
    | split

/-! ## Engine -/

theorem State.evalLoop_foot {x1 : Nat} {x2 : Int} {x3 : Bool} {s : State} :
    Foot [.draws] (some []) s (State.evalLoop s x1 x2 x3).2 := by
  unfold State.evalLoop
  dsimp only
  repeat' first
    | with_reducible exact Foot.refl _ _ _
    | ((with_reducible apply Foot.after State.draw_foot); on_goal 2 => rfl)
    | split

theorem State.evaluate_foot {x1 : Nat} {x2 : Int} {x3 : Int} {x4 : Bool} {s : State} :
    Foot [.flume, .hopper, .trace, .draws, .loops] (some [260, 262, 263, 264, 265, 305]) s (State.evaluate s x1 x2 x3 x4).2 := by
  unfold State.evaluate
  repeat' first
    | with_reducible exact Foot.refl _ _ _
    | ((with_reducible apply State.setPar_foot); on_goal 2 => first | rfl | (split <;> rfl))
    | ((with_reducible apply State.updPar_foot); on_goal 2 => first | rfl | (split <;> rfl))
    | ((with_reducible apply State.setBit_foot); on_goal 2 => first | rfl | (split <;> rfl))
    | ((with_reducible apply Foot.after State.flumeAfter_foot); on_goal 2 => rfl)
    | ((with_reducible apply Foot.after State.flumeChip_foot); on_goal 2 => rfl)
    | ((with_reducible apply Foot.after State.modLoop_foot); on_goal 2 => rfl)
    | ((with_reducible apply Foot.after State.evalLoop_foot); on_goal 2 => rfl)
    | split

theorem State.takeShares_foot {x1 : Nat} {s : State} :
    Foot [.phases] (some []) s (State.takeShares s x1) := by
  unfold State.takeShares
  repeat' first
    | with_reducible exact Foot.refl _ _ _
    | with_reducible assumption
    | with_reducible apply State.eachOf_foot
    | ((with_reducible apply Foot.after State.modPhase_foot); on_goal 2 => rfl)
    | (intro _ _ _; try dsimp only)

theorem State.distribute_foot {x1 : Nat} {s : State} :
    Foot [.phases] (some []) s (State.distribute s x1) := by
  unfold State.distribute
  repeat' first
    | with_reducible exact Foot.refl _ _ _
    | with_reducible assumption
    | with_reducible apply State.eachOf_foot
    | ((with_reducible apply Foot.after State.modPhase_foot); on_goal 2 => rfl)
    | (intro _ _ _; try dsimp only)

theorem State.updateNAct_foot {x1 : Nat} {s : State} :
    Foot [.phases, .flume, .ports, .hopper, .loops] (some [305, 307, 385]) s (State.updateNAct s x1) := by
  unfold State.updateNAct
  repeat' first
    | with_reducible exact Foot.refl _ _ _
    | with_reducible apply Foot.ite
    | ((with_reducible apply Foot.after State.modLoop_foot); on_goal 2 => rfl)
    | ((with_reducible apply Foot.after State.flumeStopOn_foot); on_goal 2 => rfl)
    | ((with_reducible apply Foot.after State.distribute_foot); on_goal 2 => rfl)

theorem State.moveSetpoint_foot {x1 : Nat} {x2 : Nat} {x3 : Nat} {s : State} :
    Foot [.loops] (some [268]) s (State.moveSetpoint s x1 x2 x3) := by
  unfold State.moveSetpoint
  repeat' first
    | with_reducible exact Foot.refl _ _ _
    | ((with_reducible apply State.setPar_foot); on_goal 2 => first | rfl | (split <;> rfl))
    | ((with_reducible apply Foot.after State.modLoop_foot); on_goal 2 => rfl)

theorem State.trigSetpoint_foot {x1 : Nat} {s : State} :
    Foot [.ports, .hopper, .loops] (some [268, 385]) s (State.trigSetpoint s x1) := by
  unfold State.trigSetpoint
  repeat' first
    | with_reducible exact Foot.refl _ _ _
    | with_reducible apply Foot.ite
    | ((with_reducible apply Foot.after State.slewEnd_foot); on_goal 2 => rfl)
    | ((with_reducible apply Foot.after State.moveSetpoint_foot); on_goal 2 => rfl)

theorem State.startTriggers_foot {x1 : Nat} {s : State} :
    Foot [.loops] (some []) s (State.startTriggers s x1).2 := by
  unfold State.startTriggers
  dsimp only
  repeat' first
    | with_reducible exact Foot.refl _ _ _
    | ((with_reducible apply Foot.after State.modLoop_foot); on_goal 2 => rfl)
    | split

theorem State.fullRate_foot {x1 : Nat} {s : State} :
    Foot [.loops] (some []) s (State.fullRate s x1) := by
  unfold State.fullRate
  repeat' first
    | with_reducible exact Foot.refl _ _ _
    | with_reducible assumption
    | with_reducible apply State.eachOf_foot
    | ((with_reducible apply Foot.after State.modLoop_foot); on_goal 2 => rfl)
    | (intro _ _ _; try dsimp only)
    | split

theorem State.openCheck_foot {x1 : Nat} {s : State} :
    Foot [.phases, .flume, .fantail, .ports, .hopper, .nvm, .wheel, .trace, .grist, .loops] (some [1, 2, 5, 256, 257, 258, 260, 261, 264, 285, 305, 307, 308, 310, 320, 385]) s (State.openCheck s x1) := by
  unfold State.openCheck
  repeat' first
    | with_reducible exact Foot.refl _ _ _
    | with_reducible apply Foot.ite
    | ((with_reducible apply Foot.after State.removePhase_foot); on_goal 2 => rfl)
    | ((with_reducible apply Foot.after State.modPhase_foot); on_goal 2 => rfl)

theorem State.clipTrack_foot {x1 : Nat} {s : State} :
    Foot [.phases] (some []) s (State.clipTrack s x1) := by
  unfold State.clipTrack
  repeat' first
    | with_reducible exact Foot.refl _ _ _
    | ((with_reducible apply Foot.after State.modPhase_foot); on_goal 2 => rfl)

theorem State.clipStop_foot {x1 : Nat} {s : State} :
    Foot [.flume, .ports, .hopper, .loops] (some [305, 307, 385]) s (State.clipStop s x1) := by
  unfold State.clipStop
  repeat' first
    | with_reducible exact Foot.refl _ _ _
    | ((with_reducible apply Foot.after State.flumeStopOn_foot); on_goal 2 => rfl)
    | split

theorem State.latency_foot {x1 : Nat} {x2 : Nat} {s : State} :
    Foot [] (some [265, 276, 277]) s (State.latency s x1 x2) := by
  unfold State.latency
  repeat' first
    | with_reducible exact Foot.refl _ _ _
    | ((with_reducible apply State.updPar_foot); on_goal 2 => first | rfl | (split <;> rfl))
    | ((with_reducible apply Foot.after State.lateEval_foot); on_goal 2 => rfl)
    | split

theorem State.evalPhase_foot {x1 : Nat} {x2 : Nat} {s : State} :
    Foot [.phases, .flume, .fantail, .ports, .hopper, .nvm, .wheel, .trace, .draws, .grist, .loops] (some [1, 2, 5, 256, 257, 258, 260, 261, 262, 263, 264, 265, 276, 277, 285, 305, 307, 308, 310, 320, 385]) s (State.evalPhase s x1 x2) := by
  unfold State.evalPhase
  repeat' first
    | with_reducible exact Foot.refl _ _ _
    | ((with_reducible apply Foot.after State.latency_foot); on_goal 2 => rfl)
    | ((with_reducible apply Foot.after State.clipTrack_foot); on_goal 2 => rfl)
    | ((with_reducible apply Foot.after State.clipStop_foot); on_goal 2 => rfl)
    | ((with_reducible apply Foot.after State.modPhase_foot); on_goal 2 => rfl)
    | ((with_reducible apply Foot.after State.evaluate_foot); on_goal 2 => rfl)
    | ((with_reducible apply Foot.after State.floatLeave_foot); on_goal 2 => rfl)
    | ((with_reducible apply Foot.after State.openCheck_foot); on_goal 2 => rfl)
    | ((with_reducible apply Foot.after State.traceEval_foot); on_goal 2 => rfl)
    | split

theorem State.phaseSample_foot {x1 : Nat} {x2 : Sample} {s : State} :
    Foot [.phases, .segs, .ports, .feeders, .strings, .grist] (some [5, 257, 258, 260, 261, 264, 399]) s (State.phaseSample s x1 x2) := by
  unfold State.phaseSample
  repeat' first
    | with_reducible exact Foot.refl _ _ _
    | ((with_reducible apply Foot.after State.senseRise_foot); on_goal 2 => rfl)
    | ((with_reducible apply Foot.after State.modPhase_foot); on_goal 2 => rfl)
    | split

theorem State.checkSlot_foot {x1 : SarChannel} {s : State} :
    Foot [.phases, .segs, .feeders, .strings] (some [387, 388, 389]) s (State.checkSlot s x1) := by
  unfold State.checkSlot
  repeat' first
    | with_reducible exact Foot.refl _ _ _
    | ((with_reducible apply Foot.after State.slotEnergy_foot); on_goal 2 => rfl)
    | ((with_reducible apply Foot.after State.modChan_foot); on_goal 2 => rfl)
    | ((with_reducible apply Foot.after State.modPhase_foot); on_goal 2 => rfl)
    | ((with_reducible apply Foot.after State.gather_foot); on_goal 2 => rfl)
    | split

theorem State.pullGoal_foot {s : State} :
    Foot [.draws] (some []) s (State.pullGoal s).2 := by
  unfold State.pullGoal
  repeat' first
    | with_reducible exact Foot.refl _ _ _
    | ((with_reducible apply Foot.after State.draw_foot); on_goal 2 => rfl)
    | split

theorem State.glideTick_foot {s : State} :
    Foot [.wheel, .draws] (some [290]) s (State.glideTick s) := by
  unfold State.glideTick
  repeat' first
    | with_reducible exact Foot.refl _ _ _
    | with_reducible apply Foot.ite
    | ((with_reducible apply State.setPar_foot); on_goal 2 => first | rfl | (split <;> rfl))
    | ((with_reducible apply Foot.after State.pullGoal_foot); on_goal 2 => rfl)
    | fail_if_no_progress (with_reducible refine Foot.mk' ?_)

theorem State.glideStep_foot {s : State} :
    Foot [.wheel, .draws] (some [290]) s (State.glideStep s) := by
  unfold State.glideStep
  repeat' first
    | with_reducible exact Foot.refl _ _ _
    | with_reducible apply Foot.ite
    | ((with_reducible apply Foot.after State.glideTick_foot); on_goal 2 => rfl)
    | fail_if_no_progress (with_reducible refine Foot.mk' ?_)

theorem State.syncGlide_foot {s : State} :
    Foot [.wheel] (some []) s (State.syncGlide s) := by
  unfold State.syncGlide
  repeat' first
    | with_reducible exact Foot.refl _ _ _
    | fail_if_no_progress (with_reducible refine Foot.mk' ?_)

theorem State.syncLeave_foot {s : State} :
    Foot [.wheel] (some [290, 291]) s (State.syncLeave s) := by
  unfold State.syncLeave
  repeat' first
    | with_reducible exact Foot.refl _ _ _
    | with_reducible apply Foot.ite
    | ((with_reducible apply State.setPar_foot); on_goal 2 => first | rfl | (split <;> rfl))
    | ((with_reducible apply Foot.after State.syncGlide_foot); on_goal 2 => rfl)
    | fail_if_no_progress (with_reducible refine Foot.mk' ?_)

theorem State.syncAlone_foot {s : State} :
    Foot [.wheel] (some [290, 291]) s (State.syncAlone s) := by
  unfold State.syncAlone
  repeat' first
    | with_reducible exact Foot.refl _ _ _
    | with_reducible apply Foot.ite
    | ((with_reducible apply Foot.after State.syncLeave_foot); on_goal 2 => rfl)

theorem State.leaveGroup_foot {x1 : List Nat} {s : State} :
    Foot [.phases] (some []) s (State.leaveGroup s x1) := by
  unfold State.leaveGroup
  repeat' first
    | with_reducible exact Foot.refl _ _ _
    | with_reducible assumption
    | with_reducible apply State.eachOf_foot
    | ((with_reducible apply Foot.after State.modPhase_foot); on_goal 2 => rfl)
    | (intro _ _ _; try dsimp only)

theorem State.addPhases_foot {x1 : List Nat} {s : State} :
    Foot [.phases, .draws, .loops] (some [1]) s (State.addPhases s x1) := by
  unfold State.addPhases
  repeat' first
    | with_reducible exact Foot.refl _ _ _
    | with_reducible assumption
    | with_reducible apply State.collect_foot
    | ((with_reducible apply Foot.after State.reefOutput_foot); on_goal 2 => rfl)
    | ((with_reducible apply Foot.after State.startPhase_foot); on_goal 2 => rfl)
    | with_reducible apply Foot.foldl
    | (intro _ _ _; try dsimp only)

theorem State.takeAngle_foot {x1 : Nat} {x2 : Nat} {x3 : Bool} {s : State} :
    Foot [.phases] (some [284]) s (State.takeAngle s x1 x2 x3) := by
  unfold State.takeAngle
  repeat' first
    | with_reducible exact Foot.refl _ _ _
    | ((with_reducible apply State.setPar_foot); on_goal 2 => first | rfl | (split <;> rfl))
    | ((with_reducible apply Foot.after State.modPhase_foot); on_goal 2 => rfl)

theorem State.syncMiss_foot {s : State} :
    Foot [.ports, .wheel, .grist] (some [5, 257, 258, 260, 261, 264, 290, 291, 294]) s (State.syncMiss s) := by
  unfold State.syncMiss
  repeat' first
    | with_reducible exact Foot.refl _ _ _
    | with_reducible apply Foot.ite
    | ((with_reducible apply State.setPar_foot); on_goal 2 => first | rfl | (split <;> rfl))
    | ((with_reducible apply State.incPar_foot); on_goal 2 => first | rfl | (split <;> rfl))
    | ((with_reducible apply Foot.after State.syncGlide_foot); on_goal 2 => rfl)
    | ((with_reducible apply Foot.after State.record_foot); on_goal 2 => rfl)
    | fail_if_no_progress (with_reducible refine Foot.mk' ?_)

theorem State.syncFollow_foot {x1 : Nat} {s : State} :
    Foot [.wheel] (some [290]) s (State.syncFollow s x1) := by
  unfold State.syncFollow
  repeat' first
    | with_reducible exact Foot.refl _ _ _
    | with_reducible apply Foot.ite
    | ((with_reducible apply State.setPar_foot); on_goal 2 => first | rfl | (split <;> rfl))
    | fail_if_no_progress (with_reducible refine Foot.mk' ?_)

/-! ## Feeders -/

theorem State.gateOff_foot {x1 : Nat} {s : State} :
    Foot [.feeders] (some []) s (State.gateOff s x1) := by
  unfold State.gateOff
  repeat' first
    | with_reducible exact Foot.refl _ _ _
    | ((with_reducible apply Foot.after State.modFeeder_foot); on_goal 2 => rfl)

theorem State.feederWait_foot {x1 : Nat} {s : State} :
    Foot [.feeders] (some [1]) s (State.feederWait s x1) := by
  unfold State.feederWait
  repeat' first
    | with_reducible exact Foot.refl _ _ _
    | with_reducible apply Foot.ite
    | ((with_reducible apply Foot.after State.setObj_foot); on_goal 2 => rfl)
    | ((with_reducible apply Foot.after State.gateOff_foot); on_goal 2 => rfl)
    | ((with_reducible apply Foot.after State.modFeeder_foot); on_goal 2 => rfl)

theorem State.feederTrip_foot {x1 : Nat} {x2 : List Nat} {s : State} :
    Foot [.flume, .ports, .feeders, .hopper, .trace, .grist, .loops] (some [1, 2, 5, 257, 258, 260, 261, 264, 281, 305, 307, 385]) s (State.feederTrip s x1 x2) := by
  unfold State.feederTrip
  repeat' first
    | with_reducible exact Foot.refl _ _ _
    | ((with_reducible apply State.incPar_foot); on_goal 2 => first | rfl | (split <;> rfl))
    | ((with_reducible apply Foot.after State.setObj_foot); on_goal 2 => rfl)
    | ((with_reducible apply Foot.after State.gateOff_foot); on_goal 2 => rfl)
    | ((with_reducible apply Foot.after State.modFeeder_foot); on_goal 2 => rfl)
    | ((with_reducible apply Foot.after State.recordPsd_foot); on_goal 2 => rfl)
    | ((with_reducible apply Foot.after State.latchFault_foot); on_goal 2 => rfl)

theorem State.readWeir_foot {x1 : Nat} {s : State} :
    Foot [.flume, .ports, .feeders, .hopper, .trace, .grist, .loops] (some [1, 2, 5, 257, 258, 260, 261, 264, 281, 305, 307, 385]) s (State.readWeir s x1) := by
  unfold State.readWeir
  repeat' first
    | with_reducible exact Foot.refl _ _ _
    | with_reducible apply Foot.ite
    | ((with_reducible apply Foot.after State.feederTrip_foot); on_goal 2 => rfl)

theorem State.feederClear_foot {x1 : Nat} {s : State} :
    Foot [.feeders] (some [1, 2]) s (State.feederClear s x1) := by
  unfold State.feederClear
  repeat' first
    | with_reducible exact Foot.refl _ _ _
    | ((with_reducible apply Foot.after State.setObj_foot); on_goal 2 => rfl)
    | ((with_reducible apply Foot.after State.clearFaults_foot); on_goal 2 => rfl)
    | ((with_reducible apply Foot.after State.modFeeder_foot); on_goal 2 => rfl)

theorem State.feederEnable_foot {x1 : Nat} {x2 : Bool} {s : State} :
    Foot [.flume, .ports, .feeders, .hopper, .trace, .grist, .loops] (some [1, 2, 5, 257, 258, 260, 261, 264, 281, 305, 307, 385]) s (State.feederEnable s x1 x2) := by
  unfold State.feederEnable
  repeat' first
    | with_reducible exact Foot.refl _ _ _
    | with_reducible apply Foot.ite
    | ((with_reducible apply Foot.after State.readWeir_foot); on_goal 2 => rfl)
    | ((with_reducible apply Foot.after State.setObj_foot); on_goal 2 => rfl)
    | ((with_reducible apply Foot.after State.gateOff_foot); on_goal 2 => rfl)
    | ((with_reducible apply Foot.after State.modFeeder_foot); on_goal 2 => rfl)
    | ((with_reducible apply Foot.after State.feederClear_foot); on_goal 2 => rfl)

theorem State.rampStart_foot {x1 : Nat} {s : State} :
    Foot [.feeders] (some [1]) s (State.rampStart s x1) := by
  unfold State.rampStart
  repeat' first
    | with_reducible exact Foot.refl _ _ _
    | ((with_reducible apply Foot.after State.setObj_foot); on_goal 2 => rfl)
    | ((with_reducible apply Foot.after State.modFeeder_foot); on_goal 2 => rfl)

theorem State.serveAct_foot {x1 : Nat} {s : State} :
    Foot [.feeders] (some [1]) s (State.serveAct s x1) := by
  unfold State.serveAct
  repeat' first
    | with_reducible exact Foot.refl _ _ _
    | ((with_reducible apply Foot.after State.rampStart_foot); on_goal 2 => rfl)
    | split

theorem State.serveDrop_foot {x1 : Nat} {s : State} :
    Foot [.feeders] (some []) s (State.serveDrop s x1) := by
  unfold State.serveDrop
  repeat' first
    | with_reducible exact Foot.refl _ _ _
    | ((with_reducible apply Foot.after State.modFeeder_foot); on_goal 2 => rfl)

theorem State.shedAct_foot {x1 : Nat} {s : State} :
    Foot [.flume, .ports, .feeders, .hopper, .trace, .grist, .loops] (some [1, 2, 5, 257, 258, 260, 261, 264, 281, 305, 307, 385]) s (State.shedAct s x1) := by
  unfold State.shedAct
  repeat' first
    | with_reducible exact Foot.refl _ _ _
    | with_reducible apply Foot.ite
    | ((with_reducible apply Foot.after State.readWeir_foot); on_goal 2 => rfl)
    | ((with_reducible apply Foot.after State.setObj_foot); on_goal 2 => rfl)
    | ((with_reducible apply Foot.after State.gateOff_foot); on_goal 2 => rfl)
    | ((with_reducible apply Foot.after State.modFeeder_foot); on_goal 2 => rfl)

theorem State.seatOpened_foot {x1 : Nat} {s : State} :
    Foot [.flume, .ports, .feeders, .hopper, .trace, .grist, .loops] (some [1, 2, 5, 257, 258, 260, 261, 264, 281, 283, 305, 307, 385]) s (State.seatOpened s x1) := by
  unfold State.seatOpened
  repeat' first
    | with_reducible exact Foot.refl _ _ _
    | ((with_reducible apply State.incPar_foot); on_goal 2 => first | rfl | (split <;> rfl))
    | ((with_reducible apply Foot.after State.readWeir_foot); on_goal 2 => rfl)
    | ((with_reducible apply Foot.after State.modFeeder_foot); on_goal 2 => rfl)
    | ((with_reducible apply Foot.after State.feederWait_foot); on_goal 2 => rfl)

theorem State.seatStabled_foot {x1 : Nat} {s : State} :
    Foot [.feeders] (some [1, 2]) s (State.seatStabled s x1) := by
  unfold State.seatStabled
  repeat' first
    | with_reducible exact Foot.refl _ _ _
    | with_reducible apply Foot.ite
    | ((with_reducible apply Foot.after State.modFeeder_foot); on_goal 2 => rfl)
    | ((with_reducible apply Foot.after State.feederClear_foot); on_goal 2 => rfl)

theorem State.sluiceInputs_foot {x1 : Nat} {x2 : FeederIn} {s : State} :
    Foot [.feeders] (some []) s (State.sluiceInputs s x1 x2) := by
  unfold State.sluiceInputs
  repeat' first
    | with_reducible exact Foot.refl _ _ _
    | ((with_reducible apply Foot.after State.modFeeder_foot); on_goal 2 => rfl)

theorem State.sluiceIntegrate_foot {x1 : Nat} {s : State} :
    Foot [.feeders] (some []) s (State.sluiceIntegrate s x1) := by
  unfold State.sluiceIntegrate
  repeat' first
    | with_reducible exact Foot.refl _ _ _
    | ((with_reducible apply Foot.after State.modFeeder_foot); on_goal 2 => rfl)

theorem State.pgAct_foot {x1 : Nat} {s : State} :
    Foot [.ports, .feeders, .grist] (some [1, 5, 257, 258, 260, 261, 264, 282]) s (State.pgAct s x1) := by
  unfold State.pgAct
  repeat' first
    | with_reducible exact Foot.refl _ _ _
    | with_reducible apply Foot.ite
    | ((with_reducible apply State.incPar_foot); on_goal 2 => first | rfl | (split <;> rfl))
    | ((with_reducible apply State.setBit_foot); on_goal 2 => first | rfl | (split <;> rfl))
    | ((with_reducible apply Foot.after State.setObj_foot); on_goal 2 => rfl)
    | ((with_reducible apply Foot.after State.modFeeder_foot); on_goal 2 => rfl)
    | ((with_reducible apply Foot.after State.recordPsd_foot); on_goal 2 => rfl)

theorem State.feederTick_foot {x1 : Nat} {x2 : FeederIn} {s : State} :
    Foot [.flume, .ports, .feeders, .hopper, .trace, .grist, .loops] (some [1, 2, 5, 257, 258, 260, 261, 264, 281, 282, 283, 305, 307, 385]) s (State.feederTick s x1 x2) := by
  unfold State.feederTick
  repeat' first
    | with_reducible exact Foot.refl _ _ _
    | ((with_reducible apply Foot.after State.serveAct_foot); on_goal 2 => rfl)
    | ((with_reducible apply Foot.after State.shedAct_foot); on_goal 2 => rfl)
    | ((with_reducible apply Foot.after State.pgAct_foot); on_goal 2 => rfl)
    | ((with_reducible apply Foot.after State.seatStabled_foot); on_goal 2 => rfl)
    | ((with_reducible apply Foot.after State.serveDrop_foot); on_goal 2 => rfl)
    | ((with_reducible apply Foot.after State.sluiceInputs_foot); on_goal 2 => rfl)
    | ((with_reducible apply Foot.after State.seatOpened_foot); on_goal 2 => rfl)
    | ((with_reducible apply Foot.after State.feederTrip_foot); on_goal 2 => rfl)
    | ((with_reducible apply Foot.after State.sluiceIntegrate_foot); on_goal 2 => rfl)
    | split

theorem State.tripWith_foot {x1 : Nat} {x2 : Nat} {s : State} :
    Foot [.flume, .ports, .feeders, .hopper, .trace, .grist, .loops] (some [1, 2, 5, 257, 258, 260, 261, 264, 281, 305, 307, 385]) s (State.tripWith s x1 x2) := by
  unfold State.tripWith
  repeat' first
    | with_reducible exact Foot.refl _ _ _
    | ((with_reducible apply Foot.after State.feederTrip_foot); on_goal 2 => rfl)

theorem State.curveApply_foot {x1 : Nat} {s : State} :
    Foot [.feeders] (some [305]) s (State.curveApply s x1) := by
  unfold State.curveApply
  repeat' first
    | with_reducible exact Foot.refl _ _ _
    | ((with_reducible apply State.incPar_foot); on_goal 2 => first | rfl | (split <;> rfl))
    | ((with_reducible apply Foot.after State.modFeeder_foot); on_goal 2 => rfl)

/-! ## Strings -/

theorem State.switchOff_foot {x1 : Nat} {s : State} :
    Foot [.strings] (some []) s (State.switchOff s x1) := by
  unfold State.switchOff
  repeat' first
    | with_reducible exact Foot.refl _ _ _
    | ((with_reducible apply Foot.after State.modStr_foot); on_goal 2 => rfl)

theorem State.stringWait_foot {x1 : Nat} {s : State} :
    Foot [.strings] (some [1]) s (State.stringWait s x1) := by
  unfold State.stringWait
  repeat' first
    | with_reducible exact Foot.refl _ _ _
    | with_reducible apply Foot.ite
    | ((with_reducible apply Foot.after State.setObj_foot); on_goal 2 => rfl)
    | ((with_reducible apply Foot.after State.switchOff_foot); on_goal 2 => rfl)

theorem State.stringTrip_foot {x1 : Nat} {x2 : List Nat} {s : State} :
    Foot [.flume, .ports, .hopper, .strings, .trace, .grist, .loops] (some [1, 2, 5, 257, 258, 260, 261, 264, 288, 305, 307, 385]) s (State.stringTrip s x1 x2) := by
  unfold State.stringTrip
  repeat' first
    | with_reducible exact Foot.refl _ _ _
    | ((with_reducible apply State.incPar_foot); on_goal 2 => first | rfl | (split <;> rfl))
    | ((with_reducible apply Foot.after State.setObj_foot); on_goal 2 => rfl)
    | ((with_reducible apply Foot.after State.recordPsd_foot); on_goal 2 => rfl)
    | ((with_reducible apply Foot.after State.latchFault_foot); on_goal 2 => rfl)
    | ((with_reducible apply Foot.after State.switchOff_foot); on_goal 2 => rfl)

theorem State.readString_foot {x1 : Nat} {s : State} :
    Foot [.flume, .ports, .hopper, .strings, .trace, .grist, .loops] (some [1, 2, 5, 257, 258, 260, 261, 264, 288, 305, 307, 385]) s (State.readString s x1) := by
  unfold State.readString
  repeat' first
    | with_reducible exact Foot.refl _ _ _
    | with_reducible apply Foot.ite
    | ((with_reducible apply Foot.after State.stringTrip_foot); on_goal 2 => rfl)

theorem State.stringClear_foot {x1 : Nat} {s : State} :
    Foot [.strings] (some [1, 2]) s (State.stringClear s x1) := by
  unfold State.stringClear
  repeat' first
    | with_reducible exact Foot.refl _ _ _
    | ((with_reducible apply Foot.after State.modStr_foot); on_goal 2 => rfl)
    | ((with_reducible apply Foot.after State.setObj_foot); on_goal 2 => rfl)
    | ((with_reducible apply Foot.after State.clearFaults_foot); on_goal 2 => rfl)

theorem State.stringEnable_foot {x1 : Nat} {x2 : Bool} {s : State} :
    Foot [.flume, .ports, .hopper, .strings, .trace, .grist, .loops] (some [1, 2, 5, 257, 258, 260, 261, 264, 288, 305, 307, 385]) s (State.stringEnable s x1 x2) := by
  unfold State.stringEnable
  repeat' first
    | with_reducible exact Foot.refl _ _ _
    | with_reducible apply Foot.ite
    | ((with_reducible apply Foot.after State.modStr_foot); on_goal 2 => rfl)
    | ((with_reducible apply Foot.after State.readString_foot); on_goal 2 => rfl)
    | ((with_reducible apply Foot.after State.stringClear_foot); on_goal 2 => rfl)
    | ((with_reducible apply Foot.after State.setObj_foot); on_goal 2 => rfl)
    | ((with_reducible apply Foot.after State.switchOff_foot); on_goal 2 => rfl)

theorem State.stringConnected_foot {x1 : Nat} {s : State} :
    Foot [.modules, .strings] (some [1]) s (State.stringConnected s x1) := by
  unfold State.stringConnected
  repeat' first
    | with_reducible exact Foot.refl _ _ _
    | with_reducible assumption
    | with_reducible apply State.eachOf_foot
    | ((with_reducible apply Foot.after State.modStr_foot); on_goal 2 => rfl)
    | ((with_reducible apply Foot.after State.modModule_foot); on_goal 2 => rfl)
    | ((with_reducible apply Foot.after State.setObj_foot); on_goal 2 => rfl)
    | (intro _ _ _; try dsimp only)

theorem State.chargeRegulate_foot {x1 : Nat} {x2 : Int} {s : State} :
    Foot [.strings] (some [269]) s (State.chargeRegulate s x1 x2) := by
  unfold State.chargeRegulate
  repeat' first
    | with_reducible exact Foot.refl _ _ _
    | ((with_reducible apply State.setPar_foot); on_goal 2 => first | rfl | (split <;> rfl))
    | ((with_reducible apply Foot.after State.modStr_foot); on_goal 2 => rfl)

theorem State.modWeir_foot {x1 : Nat} {x2 : WeirAux → WeirAux} {s : State} :
    Foot [.feeders, .strings] (some []) s (State.modWeir s x1 x2) := by
  unfold State.modWeir
  repeat' first
    | with_reducible exact Foot.refl _ _ _
    | ((with_reducible apply Foot.after State.modStr_foot); on_goal 2 => rfl)
    | ((with_reducible apply Foot.after State.modFeeder_foot); on_goal 2 => rfl)
    | split

theorem State.proofStore_foot {x1 : Nat} {x2 : Bool} {x3 : Bool} {x4 : ProofIn} {s : State} :
    Foot [] (some [274, 276, 277, 278, 279]) s (State.proofStore s x1 x2 x3 x4) := by
  unfold State.proofStore
  repeat' first
    | with_reducible exact Foot.refl _ _ _
    | ((with_reducible apply State.setPar_foot); on_goal 2 => first | rfl | (split <;> rfl) | (unfold weirPid; split <;> rfl) | (unfold delayPid; split <;> split <;> rfl))
    | ((with_reducible apply State.updPar_foot); on_goal 2 => first | rfl | (split <;> rfl) | (unfold weirPid; split <;> rfl) | (unfold delayPid; split <;> split <;> rfl))

theorem State.proofJudge_foot {x1 : Nat} {x2 : Bool} {x3 : Bool} {s : State} :
    Foot [.ports, .feeders, .strings, .grist] (some [5, 257, 258, 260, 261, 264, 274, 277]) s (State.proofJudge s x1 x2 x3) := by
  unfold State.proofJudge
  repeat' first
    | with_reducible exact Foot.refl _ _ _
    | with_reducible apply Foot.ite
    | ((with_reducible apply State.setBit_foot); on_goal 2 => first | rfl | (split <;> rfl) | (unfold weirPid; split <;> rfl) | (unfold delayPid; split <;> split <;> rfl))
    | ((with_reducible apply State.clearBit_foot); on_goal 2 => first | rfl | (split <;> rfl) | (unfold weirPid; split <;> rfl) | (unfold delayPid; split <;> split <;> rfl))
    | ((with_reducible apply Foot.after State.recordPsd_foot); on_goal 2 => rfl)
    | ((with_reducible apply Foot.after State.modWeir_foot); on_goal 2 => rfl)

/-! ## Battery -/

theorem State.freeDiv_foot {x1 : Int} {x2 : Int} {x3 : Int} {x4 : Int} {s : State} :
    Foot [.draws] (some []) s (State.freeDiv s x1 x2 x3 x4).2 := by
  unfold State.freeDiv
  repeat' first
    | with_reducible exact Foot.refl _ _ _
    | ((with_reducible apply Foot.after State.draw_foot); on_goal 2 => rfl)
    | split

theorem State.askBattery_foot {x1 : Nat} {s : State} :
    Foot [.nvm] (some []) s (State.askBattery s x1) := by
  unfold State.askBattery
  repeat' first
    | with_reducible exact Foot.refl _ _ _
    | ((with_reducible apply Foot.after State.askNvm_foot); on_goal 2 => rfl)
    | split

theorem State.stringRecord_foot {x1 : Nat} {x2 : Nat} {s : State} :
    Foot [.ports, .grist] (some [5, 257, 258, 260, 261, 264]) s (State.stringRecord s x1 x2) := by
  unfold State.stringRecord
  repeat' first
    | with_reducible exact Foot.refl _ _ _
    | ((with_reducible apply Foot.after State.record_foot); on_goal 2 => rfl)

theorem State.moduleRecord_foot {x1 : Nat} {s : State} :
    Foot [.ports, .grist] (some [5, 257, 258, 260, 261, 264]) s (State.moduleRecord s x1) := by
  unfold State.moduleRecord
  repeat' first
    | with_reducible exact Foot.refl _ _ _
    | ((with_reducible apply Foot.after State.record_foot); on_goal 2 => rfl)

theorem State.refreshTrust_foot {x1 : Nat} {s : State} :
    Foot [.ports, .nvm, .grist] (some [5, 257, 258, 259, 260, 261, 264]) s (State.refreshTrust s x1) := by
  unfold State.refreshTrust
  repeat' first
    | with_reducible exact Foot.refl _ _ _
    | with_reducible apply Foot.ite
    | ((with_reducible apply State.setPar_foot); on_goal 2 => first | rfl | (split <;> rfl))
    | ((with_reducible apply Foot.after State.askBattery_foot); on_goal 2 => rfl)
    | ((with_reducible apply Foot.after State.stringRecord_foot); on_goal 2 => rfl)

theorem State.lvdOpen_foot {x1 : Nat} {s : State} :
    Foot [.ports, .nvm, .strings, .grist] (some [1, 5, 257, 258, 260, 261, 264]) s (State.lvdOpen s x1) := by
  unfold State.lvdOpen
  repeat' first
    | with_reducible exact Foot.refl _ _ _
    | ((with_reducible apply Foot.after State.modStr_foot); on_goal 2 => rfl)
    | ((with_reducible apply Foot.after State.stringWait_foot); on_goal 2 => rfl)
    | ((with_reducible apply Foot.after State.askBattery_foot); on_goal 2 => rfl)
    | ((with_reducible apply Foot.after State.stringRecord_foot); on_goal 2 => rfl)
    | split

theorem State.pollFailed_foot {x1 : Nat} {s : State} :
    Foot [.modules, .ports, .grist] (some [5, 257, 258, 260, 261, 264, 273]) s (State.pollFailed s x1) := by
  unfold State.pollFailed
  repeat' first
    | with_reducible exact Foot.refl _ _ _
    | with_reducible apply Foot.ite
    | ((with_reducible apply State.incPar_foot); on_goal 2 => first | rfl | (split <;> rfl))
    | ((with_reducible apply Foot.after State.modModule_foot); on_goal 2 => rfl)
    | ((with_reducible apply Foot.after State.moduleRecord_foot); on_goal 2 => rfl)

theorem State.pollTaken_foot {x1 : Nat} {x2 : MeasData} {s : State} :
    Foot [.modules] (some [256, 257, 258]) s (State.pollTaken s x1 x2) := by
  unfold State.pollTaken
  repeat' first
    | with_reducible exact Foot.refl _ _ _
    | with_reducible apply Foot.ite
    | ((with_reducible apply State.setPar_foot); on_goal 2 => first | rfl | (split <;> rfl))
    | ((with_reducible apply State.setBit_foot); on_goal 2 => first | rfl | (split <;> rfl))
    | ((with_reducible apply Foot.after State.modModule_foot); on_goal 2 => rfl)

theorem State.pollJudge_foot {x1 : Nat} {s : State} :
    Foot [.modules] (some []) s (State.pollJudge s x1) := by
  unfold State.pollJudge
  repeat' first
    | with_reducible exact Foot.refl _ _ _
    | ((with_reducible apply Foot.after State.modModule_foot); on_goal 2 => rfl)
    | split

theorem State.chargeStops_foot {x1 : Nat} {s : State} :
    Foot [.ports, .strings, .grist] (some [5, 257, 258, 260, 261, 264]) s (State.chargeStops s x1) := by
  unfold State.chargeStops
  repeat' first
    | with_reducible exact Foot.refl _ _ _
    | with_reducible apply Foot.ite
    | ((with_reducible apply Foot.after State.modStr_foot); on_goal 2 => rfl)
    | ((with_reducible apply Foot.after State.moduleRecord_foot); on_goal 2 => rfl)
    | split

theorem State.pollModule_foot {x1 : Nat} {x2 : List (Fin 64 × List Bytes)} {s : State} :
    Foot [.modules, .ports, .grist] (some [5, 256, 257, 258, 260, 261, 264, 273]) s (State.pollModule s x1 x2) := by
  unfold State.pollModule
  repeat' first
    | with_reducible exact Foot.refl _ _ _
    | ((with_reducible apply Foot.after State.pollJudge_foot); on_goal 2 => rfl)
    | ((with_reducible apply Foot.after State.pollTaken_foot); on_goal 2 => rfl)
    | ((with_reducible apply Foot.after State.pollFailed_foot); on_goal 2 => rfl)
    | split

theorem State.ocvInverse_foot {x1 : Nat} {x2 : Int} {s : State} :
    Foot [.draws] (some []) s (State.ocvInverse s x1 x2).2 := by
  unfold State.ocvInverse
  dsimp only
  repeat' first
    | with_reducible exact Foot.refl _ _ _
    | ((with_reducible apply Foot.after State.draw_foot); on_goal 2 => rfl)
    | split

theorem State.rcFactorOf_foot {x1 : Int} {s : State} :
    Foot [.draws] (some []) s (State.rcFactorOf s x1).2 := by
  unfold State.rcFactorOf
  repeat' first
    | with_reducible exact Foot.refl _ _ _
    | ((with_reducible apply Foot.after State.draw_foot); on_goal 2 => rfl)
    | split

theorem State.modelModule_foot {x1 : Nat} {x2 : Int} {s : State} :
    Foot [.modules, .draws] (some [259]) s (State.modelModule s x1 x2) := by
  unfold State.modelModule
  repeat' first
    | with_reducible exact Foot.refl _ _ _
    | ((with_reducible apply State.setPar_foot); on_goal 2 => first | rfl | (split <;> rfl))
    | ((with_reducible apply Foot.after State.modModule_foot); on_goal 2 => rfl)
    | ((with_reducible apply Foot.after State.rcFactorOf_foot); on_goal 2 => rfl)
    | ((with_reducible apply Foot.after State.ocvInverse_foot); on_goal 2 => rfl)
    | split

theorem State.learnRSer_foot {x1 : Nat} {x2 : Int} {s : State} :
    Foot [.modules] (some [266, 272, 274]) s (State.learnRSer s x1 x2) := by
  unfold State.learnRSer
  try unfold State.learn
  repeat' first
    | with_reducible exact Foot.refl _ _ _
    | with_reducible apply Foot.ite
    | ((with_reducible apply State.setPar_foot); on_goal 2 => first | rfl | (split <;> rfl))
    | ((with_reducible apply Foot.after State.modModule_foot); on_goal 2 => rfl)

theorem State.learnRc_foot {x1 : Nat} {s : State} :
    Foot [.modules] (some [267, 268, 269, 270, 272, 274]) s (State.learnRc s x1) := by
  unfold State.learnRc
  try unfold State.learnFit
  try unfold State.learn
  repeat' first
    | with_reducible exact Foot.refl _ _ _
    | ((with_reducible apply State.setPar_foot); on_goal 2 => first | rfl | (split <;> rfl))
    | ((with_reducible apply Foot.after State.modModule_foot); on_goal 2 => rfl)

theorem State.learnCap_foot {x1 : Nat} {x2 : Int} {x3 : Int} {s : State} :
    Foot [.modules] (some [265, 272, 274]) s (State.learnCap s x1 x2 x3) := by
  unfold State.learnCap
  try unfold State.learn
  repeat' first
    | with_reducible exact Foot.refl _ _ _
    | ((with_reducible apply State.setPar_foot); on_goal 2 => first | rfl | (split <;> rfl))
    | ((with_reducible apply Foot.after State.modModule_foot); on_goal 2 => rfl)

theorem State.learnOffset_foot {x1 : Nat} {x2 : Int} {s : State} :
    Foot [.modules] (some [271, 272, 274]) s (State.learnOffset s x1 x2) := by
  unfold State.learnOffset
  try unfold State.learn
  repeat' first
    | with_reducible exact Foot.refl _ _ _
    | ((with_reducible apply State.setPar_foot); on_goal 2 => first | rfl | (split <;> rfl))
    | ((with_reducible apply Foot.after State.modModule_foot); on_goal 2 => rfl)

theorem State.restLearn_foot {x1 : Nat} {s : State} :
    Foot [.modules, .strings] (some [265, 267, 268, 269, 270, 272, 274]) s (State.restLearn s x1) := by
  unfold State.restLearn
  repeat' first
    | with_reducible exact Foot.refl _ _ _
    | with_reducible assumption
    | with_reducible apply State.eachOf_foot
    | ((with_reducible apply Foot.after State.learnCap_foot); on_goal 2 => rfl)
    | ((with_reducible apply Foot.after State.modStr_foot); on_goal 2 => rfl)
    | ((with_reducible apply Foot.after State.learnRc_foot); on_goal 2 => rfl)
    | (intro _ _ _; try dsimp only)
    | split

theorem State.modelTimers_foot {x1 : Nat} {x2 : Int} {s : State} :
    Foot [.modules, .strings] (some []) s (State.modelTimers s x1 x2) := by
  unfold State.modelTimers
  repeat' first
    | with_reducible exact Foot.refl _ _ _
    | with_reducible assumption
    | with_reducible apply Foot.ite
    | with_reducible apply State.eachOf_foot
    | ((with_reducible apply Foot.after State.modStr_foot); on_goal 2 => rfl)
    | ((with_reducible apply Foot.after State.modModule_foot); on_goal 2 => rfl)
    | (intro _ _ _; try dsimp only)

theorem State.relaxSample_foot {x1 : Nat} {x2 : Int} {s : State} :
    Foot [.modules, .strings] (some []) s (State.relaxSample s x1 x2) := by
  unfold State.relaxSample
  repeat' first
    | with_reducible exact Foot.refl _ _ _
    | with_reducible assumption
    | with_reducible apply State.eachOf_foot
    | ((with_reducible apply Foot.after State.modStr_foot); on_goal 2 => rfl)
    | ((with_reducible apply Foot.after State.modModule_foot); on_goal 2 => rfl)
    | (intro _ _ _; try dsimp only)
    | split

theorem State.modeEnter_foot {x1 : Nat} {x2 : Int} {x3 : Int} {s : State} :
    Foot [.modules, .nvm, .strings] (some [265, 267, 268, 269, 270, 272, 274]) s (State.modeEnter s x1 x2 x3) := by
  unfold State.modeEnter
  repeat' first
    | with_reducible exact Foot.refl _ _ _
    | ((with_reducible apply State.setPar_foot); on_goal 2 => first | rfl | (split <;> rfl))
    | ((with_reducible apply Foot.after State.modStr_foot); on_goal 2 => rfl)
    | ((with_reducible apply Foot.after State.restLearn_foot); on_goal 2 => rfl)
    | ((with_reducible apply Foot.after State.askBattery_foot); on_goal 2 => rfl)
    | ((with_reducible apply Foot.after State.relaxSample_foot); on_goal 2 => rfl)
    | split

theorem State.socUpdate_foot {x1 : Nat} {s : State} :
    Foot [.strings, .draws] (some [260, 262]) s (State.socUpdate s x1) := by
  unfold State.socUpdate
  repeat' first
    | with_reducible exact Foot.refl _ _ _
    | ((with_reducible apply State.setPar_foot); on_goal 2 => first | rfl | (split <;> rfl))
    | ((with_reducible apply Foot.after State.modStr_foot); on_goal 2 => rfl)
    | ((with_reducible apply Foot.after State.freeDiv_foot); on_goal 2 => rfl)
    | split

theorem State.setDisagree_foot {x1 : Nat} {x2 : Bool} {s : State} :
    Foot [.ports, .strings, .grist] (some [5, 257, 258, 260, 261, 264]) s (State.setDisagree s x1 x2) := by
  unfold State.setDisagree
  repeat' first
    | with_reducible exact Foot.refl _ _ _
    | ((with_reducible apply Foot.after State.modStr_foot); on_goal 2 => rfl)
    | ((with_reducible apply Foot.after State.raise_foot); on_goal 2 => rfl)
    | ((with_reducible apply Foot.after State.stringRecord_foot); on_goal 2 => rfl)
    | split

theorem State.crossCheck_foot {x1 : Nat} {s : State} :
    Foot [.ports, .strings, .grist] (some [5, 257, 258, 260, 261, 264]) s (State.crossCheck s x1) := by
  unfold State.crossCheck
  repeat' first
    | with_reducible exact Foot.refl _ _ _
    | with_reducible apply Foot.ite
    | ((with_reducible apply Foot.after State.modStr_foot); on_goal 2 => rfl)
    | ((with_reducible apply Foot.after State.setDisagree_foot); on_goal 2 => rfl)

theorem State.eodUpdate_foot {x1 : Nat} {s : State} :
    Foot [.ports, .strings, .grist] (some [5, 257, 258, 260, 261, 264]) s (State.eodUpdate s x1) := by
  unfold State.eodUpdate
  repeat' first
    | with_reducible exact Foot.refl _ _ _
    | with_reducible apply Foot.ite
    | ((with_reducible apply Foot.after State.modStr_foot); on_goal 2 => rfl)
    | ((with_reducible apply Foot.after State.raise_foot); on_goal 2 => rfl)
    | ((with_reducible apply Foot.after State.stringRecord_foot); on_goal 2 => rfl)

theorem State.sohUpdate_foot {x1 : Nat} {s : State} :
    Foot [.draws] (some [260]) s (State.sohUpdate s x1) := by
  unfold State.sohUpdate
  repeat' first
    | with_reducible exact Foot.refl _ _ _
    | ((with_reducible apply State.setPar_foot); on_goal 2 => first | rfl | (split <;> rfl))
    | ((with_reducible apply Foot.after State.freeDiv_foot); on_goal 2 => rfl)

theorem State.availUpdate_foot {x1 : Nat} {s : State} :
    Foot [] (some [264]) s (State.availUpdate s x1) := by
  unfold State.availUpdate
  repeat' first
    | with_reducible exact Foot.refl _ _ _
    | ((with_reducible apply State.setPar_foot); on_goal 2 => first | rfl | (split <;> rfl))

theorem State.staleUpdate_foot {x1 : Nat} {s : State} :
    Foot [.modules] (some []) s (State.staleUpdate s x1) := by
  unfold State.staleUpdate
  repeat' first
    | with_reducible exact Foot.refl _ _ _
    | ((with_reducible apply Foot.after State.modModule_foot); on_goal 2 => rfl)

theorem State.modelString_foot {x1 : Nat} {s : State} :
    Foot [.modules, .ports, .nvm, .strings, .draws, .grist] (some [1, 5, 257, 258, 259, 260, 261, 262, 263, 264, 265, 266, 267, 268, 269, 270, 271, 272, 274]) s (State.modelString s x1) := by
  unfold State.modelString
  repeat' first
    | with_reducible exact Foot.refl _ _ _
    | with_reducible assumption
    | with_reducible apply Foot.ite
    | ((with_reducible apply State.setPar_foot); on_goal 2 => first | rfl | (split <;> rfl))
    | with_reducible apply State.eachOf_foot
    | ((with_reducible apply Foot.after State.modelTimers_foot); on_goal 2 => rfl)
    | ((with_reducible apply Foot.after State.learnOffset_foot); on_goal 2 => rfl)
    | ((with_reducible apply Foot.after State.crossCheck_foot); on_goal 2 => rfl)
    | ((with_reducible apply Foot.after State.modStr_foot); on_goal 2 => rfl)
    | ((with_reducible apply Foot.after State.modModule_foot); on_goal 2 => rfl)
    | ((with_reducible apply Foot.after State.learnRSer_foot); on_goal 2 => rfl)
    | ((with_reducible apply Foot.after State.modelModule_foot); on_goal 2 => rfl)
    | ((with_reducible apply Foot.after State.availUpdate_foot); on_goal 2 => rfl)
    | ((with_reducible apply Foot.after State.socUpdate_foot); on_goal 2 => rfl)
    | ((with_reducible apply Foot.after State.staleUpdate_foot); on_goal 2 => rfl)
    | ((with_reducible apply Foot.after State.lvdOpen_foot); on_goal 2 => rfl)
    | ((with_reducible apply Foot.after State.modeEnter_foot); on_goal 2 => rfl)
    | ((with_reducible apply Foot.after State.eodUpdate_foot); on_goal 2 => rfl)
    | ((with_reducible apply Foot.after State.sohUpdate_foot); on_goal 2 => rfl)
    | (intro _ _ _; try dsimp only)
    | split

/-! ## Auth -/

theorem State.moduleDefaults_foot {x1 : Nat} {s : State} :
    Foot [] none s (State.moduleDefaults s x1) := by
  unfold State.moduleDefaults
  repeat' first
    | with_reducible exact Foot.refl _ _ _
    | ((with_reducible apply State.setPar_foot); on_goal 2 => first | rfl | (split <;> rfl))

theorem State.moduleReplaced_foot {x1 : Nat} {s : State} :
    Foot [.modules, .strings] none s (State.moduleReplaced s x1) := by
  unfold State.moduleReplaced
  repeat' first
    | with_reducible exact Foot.refl _ _ _
    | ((with_reducible apply State.setBit_foot); on_goal 2 => first | rfl | (split <;> rfl))
    | ((with_reducible apply Foot.after State.modStr_foot); on_goal 2 => rfl)
    | ((with_reducible apply Foot.after State.modModule_foot); on_goal 2 => rfl)
    | ((with_reducible apply Foot.after State.moduleDefaults_foot); on_goal 2 => rfl)

theorem State.identify_foot {x1 : Nat} {x2 : Bytes} {s : State} :
    Foot [.modules, .strings] none s (State.identify s x1 x2).2 := by
  unfold State.identify
  repeat' first
    | with_reducible exact Foot.refl _ _ _
    | ((with_reducible apply State.setPar_foot); on_goal 2 => first | rfl | (split <;> rfl))
    | ((with_reducible apply State.setBit_foot); on_goal 2 => first | rfl | (split <;> rfl))
    | ((with_reducible apply Foot.after State.modModule_foot); on_goal 2 => rfl)
    | ((with_reducible apply Foot.after State.moduleReplaced_foot); on_goal 2 => rfl)
    | split

theorem State.authReplies_foot {s : State} :
    Foot [.ports, .hopper, .auths] (some [385]) s (State.authReplies s) := by
  unfold State.authReplies
  repeat' first
    | with_reducible exact Foot.refl _ _ _
    | with_reducible assumption
    | ((with_reducible apply Foot.after State.reply_foot); on_goal 2 => rfl)
    | with_reducible apply Foot.foldl
    | fail_if_no_progress (with_reducible refine Foot.mk' ?_)
    | (intro _ _ _; try dsimp only)
    | split

theorem State.authDone_foot {x1 : Nat} {x2 : Nat} {s : State} :
    Foot [.modules, .ports, .hopper, .nvm, .auths, .grist] (some [5, 257, 258, 259, 260, 261, 263, 264, 385]) s (State.authDone s x1 x2) := by
  unfold State.authDone
  repeat' first
    | with_reducible exact Foot.refl _ _ _
    | ((with_reducible apply State.setPar_foot); on_goal 2 => first | rfl | (split <;> rfl))
    | ((with_reducible apply Foot.after State.modModule_foot); on_goal 2 => rfl)
    | ((with_reducible apply Foot.after State.record_foot); on_goal 2 => rfl)
    | ((with_reducible apply Foot.after State.authReplies_foot); on_goal 2 => rfl)
    | ((with_reducible apply Foot.after State.refreshTrust_foot); on_goal 2 => rfl)
    | fail_if_no_progress (with_reducible refine Foot.mk' ?_)

theorem State.freshNonce_foot {s : State} :
    Foot [.nonces, .draws] (some []) s (State.freshNonce s).2 := by
  unfold State.freshNonce
  repeat' first
    | with_reducible exact Foot.refl _ _ _
    | ((with_reducible apply Foot.after State.drawBytes_foot); on_goal 2 => rfl)
    | fail_if_no_progress (with_reducible refine Foot.mk' ?_)

theorem State.challenge_foot {x1 : Nat} {s : State} :
    Foot [.modules, .ports, .nvm, .nonces, .draws, .grist] (some [5, 257, 258, 259, 260, 261, 264]) s (State.challenge s x1) := by
  unfold State.challenge
  repeat' first
    | with_reducible exact Foot.refl _ _ _
    | ((with_reducible apply Foot.after State.modModule_foot); on_goal 2 => rfl)
    | ((with_reducible apply Foot.after State.freshNonce_foot); on_goal 2 => rfl)
    | ((with_reducible apply Foot.after State.refreshTrust_foot); on_goal 2 => rfl)

theorem State.authAll_foot {s : State} :
    Foot [.modules, .strings] (some []) s (State.authAll s) := by
  unfold State.authAll
  repeat' first
    | with_reducible exact Foot.refl _ _ _
    | with_reducible assumption
    | with_reducible apply State.each_foot
    | ((with_reducible apply Foot.after State.modStr_foot); on_goal 2 => rfl)
    | ((with_reducible apply Foot.after State.modModule_foot); on_goal 2 => rfl)
    | (intro _ _ _; try dsimp only)

theorem opBattAuth_foot {x0 : Op} {s : State} :
    Foot [.ports, .hopper, .auths] (some [385]) s (opBattAuth x0 s) := by
  unfold opBattAuth
  repeat' first
    | with_reducible exact Foot.refl _ _ _
    | with_reducible apply Foot.ite
    | ((with_reducible apply Foot.after State.opRunning_foot); on_goal 2 => rfl)
    | ((with_reducible apply Foot.after State.fail_foot); on_goal 2 => rfl)
    | fail_if_no_progress (with_reducible refine Foot.mk' ?_)

theorem opBattLearnCommit_foot {x0 : Op} {s : State} :
    Foot [.ports, .hopper, .nvm] (some [385]) s (opBattLearnCommit x0 s) := by
  unfold opBattLearnCommit
  repeat' first
    | with_reducible exact Foot.refl _ _ _
    | with_reducible apply Foot.ite
    | ((with_reducible apply Foot.after State.opRunning_foot); on_goal 2 => rfl)
    | ((with_reducible apply Foot.after State.fail_foot); on_goal 2 => rfl)
    | fail_if_no_progress (with_reducible refine Foot.mk' ?_)

/-! ## Rails -/

theorem State.railRecord_foot {x1 : Nat} {s : State} :
    Foot [.ports, .grist] (some [5, 257, 258, 260, 261, 264]) s (State.railRecord s x1) := by
  unfold State.railRecord
  repeat' first
    | with_reducible exact Foot.refl _ _ _
    | ((with_reducible apply Foot.after State.record_foot); on_goal 2 => rfl)

theorem State.polFail_foot {x1 : Nat} {s : State} :
    Foot [.pols] (some [264]) s (State.polFail s x1) := by
  unfold State.polFail
  repeat' first
    | with_reducible exact Foot.refl _ _ _
    | ((with_reducible apply State.incPar_foot); on_goal 2 => first | rfl | (split <;> rfl))
    | ((with_reducible apply Foot.after State.modPol_foot); on_goal 2 => rfl)

theorem State.polOperate_foot {x1 : Nat} {x2 : Bool} {s : State} :
    Foot [.pols] (some [256, 264]) s (State.polOperate s x1 x2) := by
  unfold State.polOperate
  repeat' first
    | with_reducible exact Foot.refl _ _ _
    | with_reducible apply Foot.ite
    | ((with_reducible apply State.setBit_foot); on_goal 2 => first | rfl | (split <;> rfl))
    | ((with_reducible apply Foot.after State.polFail_foot); on_goal 2 => rfl)
    | ((with_reducible apply Foot.after State.modPol_foot); on_goal 2 => rfl)

theorem State.railOn_foot {x1 : Nat} {s : State} :
    Foot [.pols, .rails] (some [256, 264]) s (State.railOn s x1) := by
  unfold State.railOn
  repeat' first
    | with_reducible exact Foot.refl _ _ _
    | ((with_reducible apply Foot.after State.polOperate_foot); on_goal 2 => rfl)
    | ((with_reducible apply Foot.after State.modRail_foot); on_goal 2 => rfl)

theorem State.railOff_foot {x1 : Nat} {s : State} :
    Foot [.pols, .rails] (some [256, 264, 270]) s (State.railOff s x1) := by
  unfold State.railOff
  repeat' first
    | with_reducible exact Foot.refl _ _ _
    | ((with_reducible apply State.setPar_foot); on_goal 2 => first | rfl | (split <;> rfl))
    | ((with_reducible apply Foot.after State.polOperate_foot); on_goal 2 => rfl)
    | ((with_reducible apply Foot.after State.modRail_foot); on_goal 2 => rfl)
    | split

theorem State.railsOff_foot {s : State} :
    Foot [.pols, .rails] (some [256, 264, 270]) s (State.railsOff s) := by
  unfold State.railsOff
  repeat' first
    | with_reducible exact Foot.refl _ _ _
    | with_reducible assumption
    | with_reducible apply State.each_foot
    | ((with_reducible apply Foot.after State.railOff_foot); on_goal 2 => rfl)
    | (intro _ _ _; try dsimp only)

theorem State.railEmpty_foot {x1 : Nat} {x2 : Int} {s : State} :
    Foot [.rails] (some [270]) s (State.railEmpty s x1 x2) := by
  unfold State.railEmpty
  repeat' first
    | with_reducible exact Foot.refl _ _ _
    | ((with_reducible apply State.setPar_foot); on_goal 2 => first | rfl | (split <;> rfl))
    | ((with_reducible apply Foot.after State.modRail_foot); on_goal 2 => rfl)

theorem State.pgRise_foot {x1 : Nat} {s : State} :
    Foot [.rails] (some []) s (State.pgRise s x1) := by
  unfold State.pgRise
  repeat' first
    | with_reducible exact Foot.refl _ _ _
    | ((with_reducible apply Foot.after State.modRail_foot); on_goal 2 => rfl)

theorem State.pgFall_foot {x1 : Nat} {s : State} :
    Foot [.rails] (some [265, 270]) s (State.pgFall s x1) := by
  unfold State.pgFall
  repeat' first
    | with_reducible exact Foot.refl _ _ _
    | with_reducible apply Foot.ite
    | ((with_reducible apply State.incPar_foot); on_goal 2 => first | rfl | (split <;> rfl))
    | ((with_reducible apply Foot.after State.railEmpty_foot); on_goal 2 => rfl)
    | ((with_reducible apply Foot.after State.modRail_foot); on_goal 2 => rfl)

theorem State.downFail_foot {x1 : Nat} {s : State} :
    Foot [.ports, .grist, .rails] (some [5, 256, 257, 258, 260, 261, 264]) s (State.downFail s x1) := by
  unfold State.downFail
  repeat' first
    | with_reducible exact Foot.refl _ _ _
    | ((with_reducible apply State.setBit_foot); on_goal 2 => first | rfl | (split <;> rfl))
    | ((with_reducible apply Foot.after State.modRail_foot); on_goal 2 => rfl)
    | ((with_reducible apply Foot.after State.railRecord_foot); on_goal 2 => rfl)

theorem State.railEnable_foot {x1 : Nat} {x2 : Bool} {s : State} :
    Foot [.pols, .rails] (some [256, 264, 270]) s (State.railEnable s x1 x2) := by
  unfold State.railEnable
  repeat' first
    | with_reducible exact Foot.refl _ _ _
    | ((with_reducible apply Foot.after State.railOff_foot); on_goal 2 => rfl)
    | split

end Sys2Proof.Machine
end

