-- ==== Sys2Proof/Laws/FootB.lean ====
section
/-! SUPPORT. What an operation may change: one lemma for each operation of Sequence, Grist, Restart, Dresser, Save, Reset, LifeCycle, Update, Time, SequenceRows, Downstream. -/

namespace Sys2Proof.Machine

set_option Elab.async false

/-! ## Sequence -/

theorem State.modSeq_foot {x1 : SeqState → SeqState} {s : State} :
    Foot [.seq] (some []) s (State.modSeq s x1) := by
  unfold State.modSeq
  repeat' first
    | with_reducible exact Foot.refl _ _ _
    | fail_if_no_progress (with_reducible refine Foot.mk' ?_)

theorem State.seqRecord_foot {s : State} :
    Foot [.ports, .grist] (some [5, 257, 258, 260, 261, 264]) s (State.seqRecord s) := by
  unfold State.seqRecord
  repeat' first
    | with_reducible exact Foot.refl _ _ _
    | ((with_reducible apply Foot.after State.record_foot); on_goal 2 => rfl)

theorem State.railsUp_foot {x1 : Nat} {s : State} :
    Foot [.pols, .rails] (some [256, 264]) s (State.railsUp s x1) := by
  unfold State.railsUp
  repeat' first
    | with_reducible exact Foot.refl _ _ _
    | with_reducible assumption
    | with_reducible apply State.eachOf_foot
    | ((with_reducible apply Foot.after State.railOn_foot); on_goal 2 => rfl)
    | ((with_reducible apply Foot.after State.modRail_foot); on_goal 2 => rfl)
    | (intro _ _ _; try dsimp only)
    | split

theorem State.powerDown_foot {x1 : Nat} {s : State} :
    Foot [.phases, .flume, .segs, .ports, .feeders, .hopper, .nvm, .wheel, .strings, .trace, .grist, .loops] (some [1, 2, 5, 256, 257, 258, 260, 261, 264, 281, 288, 305, 307, 308, 310, 385]) s (State.powerDown s x1) := by
  unfold State.powerDown
  repeat' first
    | with_reducible exact Foot.refl _ _ _
    | with_reducible assumption
    | with_reducible apply State.eachOf_foot
    | ((with_reducible apply Foot.after State.readWeir_foot); on_goal 2 => rfl)
    | ((with_reducible apply Foot.after State.readString_foot); on_goal 2 => rfl)
    | ((with_reducible apply Foot.after State.setObj_foot); on_goal 2 => rfl)
    | ((with_reducible apply Foot.after State.stringWait_foot); on_goal 2 => rfl)
    | ((with_reducible apply Foot.after State.slewsSettle_foot); on_goal 2 => rfl)
    | ((with_reducible apply Foot.after State.stopConverter_foot); on_goal 2 => rfl)
    | ((with_reducible apply Foot.after State.feederWait_foot); on_goal 2 => rfl)
    | ((with_reducible apply Foot.after State.modSeg_foot); on_goal 2 => rfl)
    | ((with_reducible apply Foot.after State.stopLone_foot); on_goal 2 => rfl)
    | (intro _ _ _; try dsimp only)
    | split

theorem State.beginWork_foot {x1 : Nat} {s : State} :
    Foot [.phases, .flume, .segs, .ports, .pols, .feeders, .hopper, .nvm, .wheel, .strings, .trace, .grist, .loops, .rails] (some [1, 2, 5, 256, 257, 258, 260, 261, 264, 270, 281, 288, 305, 307, 308, 310, 385]) s (State.beginWork s x1) := by
  unfold State.beginWork
  repeat' first
    | with_reducible exact Foot.refl _ _ _
    | with_reducible assumption
    | with_reducible apply State.eachOf_foot
    | ((with_reducible apply Foot.after State.powerDown_foot); on_goal 2 => rfl)
    | ((with_reducible apply Foot.after State.railOff_foot); on_goal 2 => rfl)
    | ((with_reducible apply Foot.after State.modRail_foot); on_goal 2 => rfl)
    | ((with_reducible apply Foot.after State.railsUp_foot); on_goal 2 => rfl)
    | (intro _ _ _; try dsimp only)
    | split

theorem State.schedEntry_foot {x1 : Nat} {s : State} :
    Foot [.seq, .upd] (some []) s (State.schedEntry s x1) := by
  unfold State.schedEntry
  repeat' first
    | with_reducible exact Foot.refl _ _ _
    | fail_if_no_progress (with_reducible refine Foot.mk' ?_)
    | split

theorem State.enterSeq_foot {x1 : Nat} {s : State} :
    Foot [.phases, .flume, .segs, .seq, .ports, .pols, .feeders, .hopper, .nvm, .upd, .wheel, .strings, .trace, .grist, .loops, .rails] (some [1, 2, 5, 256, 257, 258, 260, 261, 264, 270, 281, 288, 305, 307, 308, 310, 320, 321, 385]) s (State.enterSeq s x1) := by
  unfold State.enterSeq
  repeat' first
    | with_reducible exact Foot.refl _ _ _
    | with_reducible apply Foot.ite
    | ((with_reducible apply State.setPar_foot); on_goal 2 => first | rfl | (split <;> rfl))
    | ((with_reducible apply Foot.after State.beginWork_foot); on_goal 2 => rfl)
    | ((with_reducible apply Foot.after State.schedEntry_foot); on_goal 2 => rfl)
    | ((with_reducible apply Foot.after State.modSeq_foot); on_goal 2 => rfl)

theorem State.cogLeave_foot {x1 : Bool} {x2 : Bool} {s : State} :
    Foot [.seq] (some []) s (State.cogLeave s x1 x2) := by
  unfold State.cogLeave
  repeat' first
    | with_reducible exact Foot.refl _ _ _
    | ((with_reducible apply Foot.after State.modSeq_foot); on_goal 2 => rfl)

theorem State.cogJoin_foot {s : State} :
    Foot [.seq] (some [321]) s (State.cogJoin s) := by
  unfold State.cogJoin
  repeat' first
    | with_reducible exact Foot.refl _ _ _
    | ((with_reducible apply State.setPar_foot); on_goal 2 => first | rfl | (split <;> rfl))
    | ((with_reducible apply Foot.after State.modSeq_foot); on_goal 2 => rfl)

theorem State.cogPulse_foot {x1 : CogPulse} {s : State} :
    Foot [.seq] (some []) s (State.cogPulse s x1) := by
  unfold State.cogPulse
  repeat' first
    | with_reducible exact Foot.refl _ _ _
    | ((with_reducible apply Foot.after State.modSeq_foot); on_goal 2 => rfl)

theorem State.cogStep_foot {x1 : Nat} {s : State} :
    Foot [.phases, .flume, .segs, .seq, .ports, .pols, .feeders, .hopper, .nvm, .upd, .wheel, .strings, .trace, .grist, .loops, .rails] (some [1, 2, 5, 256, 257, 258, 260, 261, 264, 270, 281, 288, 305, 307, 308, 310, 320, 321, 325, 385]) s (State.cogStep s x1) := by
  unfold State.cogStep
  repeat' first
    | with_reducible exact Foot.refl _ _ _
    | ((with_reducible apply State.incPar_foot); on_goal 2 => first | rfl | (split <;> rfl))
    | ((with_reducible apply Foot.after State.enterSeq_foot); on_goal 2 => rfl)

theorem State.allOff_foot {s : State} :
    Foot [.phases, .flume, .segs, .ports, .feeders, .hopper, .nvm, .wheel, .strings, .trace, .grist, .loops] (some [1, 5, 256, 257, 258, 259, 260, 261, 264, 305, 307, 308, 310, 385]) s (State.allOff s) := by
  unfold State.allOff
  repeat' first
    | with_reducible exact Foot.refl _ _ _
    | with_reducible assumption
    | with_reducible apply State.each_foot
    | ((with_reducible apply Foot.after State.stopConversion_foot); on_goal 2 => rfl)
    | ((with_reducible apply Foot.after State.stringWait_foot); on_goal 2 => rfl)
    | ((with_reducible apply Foot.after State.feederWait_foot); on_goal 2 => rfl)
    | (intro _ _ _; try dsimp only)

theorem State.holdAll_foot {s : State} :
    Foot [.phases, .flume, .segs, .ports, .pols, .feeders, .hopper, .nvm, .wheel, .strings, .trace, .grist, .loops, .rails] (some [1, 5, 256, 257, 258, 259, 260, 261, 264, 270, 305, 307, 308, 310, 385]) s (State.holdAll s) := by
  unfold State.holdAll
  repeat' first
    | with_reducible exact Foot.refl _ _ _
    | ((with_reducible apply Foot.after State.allOff_foot); on_goal 2 => rfl)
    | ((with_reducible apply Foot.after State.railsOff_foot); on_goal 2 => rfl)

theorem State.stepEnd_foot {x1 : Nat} {x2 : Nat} {s : State} :
    Foot [.seq, .ports, .hopper] (some [385]) s (State.stepEnd s x1 x2) := by
  unfold State.stepEnd
  dsimp only
  repeat' first
    | with_reducible exact Foot.refl _ _ _
    | ((with_reducible apply Foot.after State.reply_foot); on_goal 2 => rfl)
    | ((with_reducible apply Foot.after State.modSeq_foot); on_goal 2 => rfl)
    | split

theorem State.walkAgain_foot {s : State} :
    Foot [.phases, .flume, .segs, .seq, .ports, .pols, .feeders, .hopper, .nvm, .upd, .wheel, .strings, .trace, .grist, .loops, .rails] (some [1, 2, 5, 256, 257, 258, 260, 261, 264, 270, 281, 288, 305, 307, 308, 310, 320, 321, 385]) s (State.walkAgain s) := by
  unfold State.walkAgain
  repeat' first
    | with_reducible exact Foot.refl _ _ _
    | ((with_reducible apply State.setPar_foot); on_goal 2 => first | rfl | (split <;> rfl))
    | ((with_reducible apply Foot.after State.enterSeq_foot); on_goal 2 => rfl)
    | split

theorem State.manualStop_foot {s : State} :
    Foot [.seq, .ports, .hopper] (some [385]) s (State.manualStop s) := by
  unfold State.manualStop
  repeat' first
    | with_reducible exact Foot.refl _ _ _
    | ((with_reducible apply Foot.after State.stepEnd_foot); on_goal 2 => rfl)
    | ((with_reducible apply Foot.after State.modSeq_foot); on_goal 2 => rfl)
    | split

theorem State.manualEnd_foot {x1 : Bool} {s : State} :
    Foot [.phases, .flume, .segs, .seq, .ports, .pols, .feeders, .hopper, .nvm, .upd, .wheel, .strings, .trace, .grist, .loops, .rails] (some [1, 2, 5, 256, 257, 258, 260, 261, 264, 270, 281, 288, 305, 307, 308, 310, 320, 321, 385]) s (State.manualEnd s x1) := by
  unfold State.manualEnd
  repeat' first
    | with_reducible exact Foot.refl _ _ _
    | ((with_reducible apply Foot.after State.manualStop_foot); on_goal 2 => rfl)
    | ((with_reducible apply Foot.after State.walkAgain_foot); on_goal 2 => rfl)
    | split

theorem State.enterShelf_foot {x1 : Int} {x2 : Nat} {s : State} :
    Foot [.phases, .flume, .segs, .seq, .ports, .pols, .feeders, .hopper, .nvm, .upd, .wheel, .strings, .trace, .grist, .loops, .rails] (some [1, 2, 5, 256, 257, 258, 260, 261, 264, 270, 281, 288, 305, 307, 308, 310, 320, 321, 385]) s (State.enterShelf s x1 x2) := by
  unfold State.enterShelf
  repeat' first
    | with_reducible exact Foot.refl _ _ _
    | with_reducible apply Foot.ite
    | ((with_reducible apply State.setPar_foot); on_goal 2 => first | rfl | (split <;> rfl))
    | ((with_reducible apply Foot.after State.record_foot); on_goal 2 => rfl)
    | ((with_reducible apply Foot.after State.manualEnd_foot); on_goal 2 => rfl)
    | ((with_reducible apply Foot.after State.flumeStop_foot); on_goal 2 => rfl)

theorem State.shift_foot {x1 : Int} {x2 : Nat} {s : State} :
    Foot [.miller, .phases, .flume, .segs, .seq, .ports, .pols, .feeders, .hopper, .nvm, .upd, .wheel, .strings, .trace, .grist, .loops, .rails] (some [1, 2, 5, 256, 257, 258, 260, 261, 264, 270, 281, 288, 305, 307, 308, 310, 320, 321, 385]) s (State.shift s x1 x2) := by
  unfold State.shift
  repeat' first
    | with_reducible exact Foot.refl _ _ _
    | ((with_reducible apply Foot.after State.enterShelf_foot); on_goal 2 => rfl)
    | fail_if_no_progress (with_reducible refine Foot.mk' ?_)
    | split

theorem State.enterBraking_foot {x1 : BrakeHow} {s : State} :
    Foot [.phases, .flume, .segs, .seq, .ports, .pols, .feeders, .hopper, .nvm, .upd, .wheel, .strings, .trace, .grist, .loops, .rails] (some [1, 2, 5, 256, 257, 258, 260, 261, 264, 270, 281, 288, 305, 307, 308, 310, 320, 321, 325, 385]) s (State.enterBraking s x1) := by
  unfold State.enterBraking
  repeat' first
    | with_reducible exact Foot.refl _ _ _
    | with_reducible apply Foot.ite
    | ((with_reducible apply Foot.after State.enterSeq_foot); on_goal 2 => rfl)
    | ((with_reducible apply Foot.after State.cogPulse_foot); on_goal 2 => rfl)
    | ((with_reducible apply Foot.after State.cogLeave_foot); on_goal 2 => rfl)
    | ((with_reducible apply Foot.after State.cogStep_foot); on_goal 2 => rfl)
    | ((with_reducible apply Foot.after State.modSeq_foot); on_goal 2 => rfl)
    | ((with_reducible apply Foot.after State.enterShelf_foot); on_goal 2 => rfl)

theorem State.brakeCause_foot {x1 : Nat} {x2 : BrakeHow} {s : State} :
    Foot [.phases, .flume, .segs, .seq, .ports, .pols, .feeders, .hopper, .nvm, .upd, .wheel, .strings, .trace, .grist, .loops, .rails] (some [1, 2, 5, 256, 257, 258, 260, 261, 264, 270, 281, 288, 305, 307, 308, 310, 320, 321, 325, 333, 385]) s (State.brakeCause s x1 x2) := by
  unfold State.brakeCause
  repeat' first
    | with_reducible exact Foot.refl _ _ _
    | with_reducible assumption
    | with_reducible apply Foot.ite
    | ((with_reducible apply State.setPar_foot); on_goal 2 => first | rfl | (split <;> rfl))
    | with_reducible apply State.each_foot
    | ((with_reducible apply Foot.after State.enterBraking_foot); on_goal 2 => rfl)
    | ((with_reducible apply Foot.after State.askBattery_foot); on_goal 2 => rfl)
    | ((with_reducible apply Foot.after State.modRail_foot); on_goal 2 => rfl)
    | ((with_reducible apply Foot.after State.askOnce_foot); on_goal 2 => rfl)
    | ((with_reducible apply Foot.after State.manualEnd_foot); on_goal 2 => rfl)
    | ((with_reducible apply Foot.after State.modSeq_foot); on_goal 2 => rfl)
    | (intro _ _ _; try dsimp only)
    | split

theorem State.brakeComplete_foot {s : State} :
    Foot [.seq, .ports, .hopper, .nvm, .grist] (some [5, 257, 258, 260, 261, 264, 385]) s (State.brakeComplete s) := by
  unfold State.brakeComplete
  repeat' first
    | with_reducible exact Foot.refl _ _ _
    | with_reducible assumption
    | ((with_reducible apply Foot.after State.seqRecord_foot); on_goal 2 => rfl)
    | ((with_reducible apply Foot.after State.ok_foot); on_goal 2 => rfl)
    | ((with_reducible apply Foot.after State.askOnce_foot); on_goal 2 => rfl)
    | ((with_reducible apply Foot.after State.modSeq_foot); on_goal 2 => rfl)
    | with_reducible apply Foot.foldl
    | (intro _ _ _; try dsimp only)
    | split

theorem State.stepAlone_foot {s : State} :
    Foot [.phases, .flume, .segs, .seq, .ports, .pols, .feeders, .hopper, .nvm, .upd, .wheel, .strings, .trace, .grist, .loops, .rails] (some [1, 2, 5, 256, 257, 258, 260, 261, 264, 270, 281, 288, 305, 307, 308, 310, 320, 321, 385]) s (State.stepAlone s) := by
  unfold State.stepAlone
  repeat' first
    | with_reducible exact Foot.refl _ _ _
    | with_reducible apply Foot.ite
    | ((with_reducible apply State.setPar_foot); on_goal 2 => first | rfl | (split <;> rfl))
    | ((with_reducible apply Foot.after State.enterSeq_foot); on_goal 2 => rfl)
    | ((with_reducible apply Foot.after State.brakeComplete_foot); on_goal 2 => rfl)
    | ((with_reducible apply Foot.after State.modSeq_foot); on_goal 2 => rfl)

theorem State.stepTaken_foot {s : State} :
    Foot [.seq, .hopper] (some []) s (State.stepTaken s) := by
  unfold State.stepTaken
  dsimp only
  repeat' first
    | with_reducible exact Foot.refl _ _ _
    | ((with_reducible apply Foot.after State.opCommit_foot); on_goal 2 => rfl)
    | ((with_reducible apply Foot.after State.modSeq_foot); on_goal 2 => rfl)
    | split

theorem State.finishWork_foot {s : State} :
    Foot [.phases, .flume, .segs, .seq, .ports, .pols, .feeders, .hopper, .nvm, .upd, .wheel, .strings, .trace, .grist, .loops, .rails] (some [1, 2, 5, 256, 257, 258, 260, 261, 264, 270, 281, 288, 305, 307, 308, 310, 320, 321, 385]) s (State.finishWork s) := by
  unfold State.finishWork
  repeat' first
    | with_reducible exact Foot.refl _ _ _
    | with_reducible apply Foot.ite
    | ((with_reducible apply State.setPar_foot); on_goal 2 => first | rfl | (split <;> rfl))
    | ((with_reducible apply Foot.after State.enterSeq_foot); on_goal 2 => rfl)
    | ((with_reducible apply Foot.after State.stepTaken_foot); on_goal 2 => rfl)
    | ((with_reducible apply Foot.after State.stepAlone_foot); on_goal 2 => rfl)
    | ((with_reducible apply Foot.after State.stepEnd_foot); on_goal 2 => rfl)
    | ((with_reducible apply Foot.after State.brakeComplete_foot); on_goal 2 => rfl)
    | ((with_reducible apply Foot.after State.modSeq_foot); on_goal 2 => rfl)

theorem State.cutNvm_foot {s : State} :
    Foot [.nvm] (some []) s (State.cutNvm s) := by
  unfold State.cutNvm
  dsimp only
  repeat' first
    | with_reducible exact Foot.refl _ _ _
    | ((with_reducible apply Foot.after State.cutWrite_foot); on_goal 2 => rfl)
    | fail_if_no_progress (with_reducible refine Foot.mk' ?_)
    | split

theorem State.writeShutdown_foot {s : State} :
    Foot [.nvm] (some []) s (State.writeShutdown s) := by
  unfold State.writeShutdown
  repeat' first
    | with_reducible exact Foot.refl _ _ _
    | fail_if_no_progress (with_reducible refine Foot.mk' ?_)
    | split

theorem State.enterThermal_foot {x1 : Nat} {s : State} :
    Foot [.phases, .flume, .segs, .seq, .ports, .pols, .feeders, .hopper, .shelf, .nvm, .upd, .wheel, .strings, .trace, .grist, .loops, .rails] (some [1, 2, 5, 256, 257, 258, 259, 260, 261, 264, 270, 281, 288, 305, 307, 308, 310, 320, 321, 385]) s (State.enterThermal s x1) := by
  unfold State.enterThermal
  repeat' first
    | with_reducible exact Foot.refl _ _ _
    | ((with_reducible apply State.setPar_foot); on_goal 2 => first | rfl | (split <;> rfl))
    | ((with_reducible apply Foot.after State.writeShutdown_foot); on_goal 2 => rfl)
    | ((with_reducible apply Foot.after State.record_foot); on_goal 2 => rfl)
    | ((with_reducible apply Foot.after State.holdAll_foot); on_goal 2 => rfl)
    | ((with_reducible apply Foot.after State.floatLeave_foot); on_goal 2 => rfl)
    | ((with_reducible apply Foot.after State.cutNvm_foot); on_goal 2 => rfl)
    | ((with_reducible apply Foot.after State.manualEnd_foot); on_goal 2 => rfl)
    | ((with_reducible apply Foot.after State.cogLeave_foot); on_goal 2 => rfl)
    | ((with_reducible apply Foot.after State.modSeq_foot); on_goal 2 => rfl)
    | ((with_reducible apply Foot.after State.flumeStop_foot); on_goal 2 => rfl)
    | fail_if_no_progress (with_reducible refine Foot.mk' ?_)
    | split

/-! ## Grist -/

theorem State.lifeRecord_foot {x1 : Nat} {x2 : Nat} {x3 : Int} {x4 : Int} {x5 : Nat} {s : State} :
    Foot [.ports, .grist] (some [5, 257, 258, 260, 261, 264]) s (State.lifeRecord s x1 x2 x3 x4 x5) := by
  unfold State.lifeRecord
  repeat' first
    | with_reducible exact Foot.refl _ _ _
    | ((with_reducible apply Foot.after State.record_foot); on_goal 2 => rfl)
    | ((with_reducible apply Foot.after State.raise_foot); on_goal 2 => rfl)
    | split

theorem State.tokenFailed_foot {x1 : Nat} {x2 : HostPort} {s : State} :
    Foot [.ports, .grist] (some [5, 257, 258, 260, 261, 264]) s (State.tokenFailed s x1 x2) := by
  unfold State.tokenFailed
  repeat' first
    | with_reducible exact Foot.refl _ _ _
    | ((with_reducible apply Foot.after State.lifeRecord_foot); on_goal 2 => rfl)

theorem State.rewritten_foot {x1 : Nat} {x2 : Nat} {s : State} :
    Foot [.nvm] (some []) s (State.rewritten s x1 x2) := by
  unfold State.rewritten
  repeat' first
    | with_reducible exact Foot.refl _ _ _
    | fail_if_no_progress (with_reducible refine Foot.mk' ?_)

theorem State.askMirror_foot {s : State} :
    Foot [.nvm] (some []) s (State.askMirror s) := by
  unfold State.askMirror
  repeat' first
    | with_reducible exact Foot.refl _ _ _
    | with_reducible apply Foot.ite
    | ((with_reducible apply Foot.after State.askOnce_foot); on_goal 2 => rfl)

theorem State.mirrorOnTime_foot {s : State} :
    Foot [.grist] (some []) s (State.mirrorOnTime s) := by
  unfold State.mirrorOnTime
  repeat' first
    | with_reducible exact Foot.refl _ _ _
    | fail_if_no_progress (with_reducible refine Foot.mk' ?_)

theorem State.mirrorCommit_foot {s : State} :
    Foot [.ports, .nvm, .grist] (some [5, 257, 258, 259, 260, 261, 264]) s (State.mirrorCommit s) := by
  unfold State.mirrorCommit
  dsimp only
  repeat' first
    | with_reducible exact Foot.refl _ _ _
    | with_reducible assumption
    | ((with_reducible apply State.setPar_foot); on_goal 2 => first | rfl | (split <;> rfl))
    | with_reducible apply State.eachOf_foot
    | ((with_reducible apply Foot.after State.record_foot); on_goal 2 => rfl)
    | ((with_reducible apply Foot.after State.rewritten_foot); on_goal 2 => rfl)
    | ((with_reducible apply Foot.after State.mirrorOnTime_foot); on_goal 2 => rfl)
    | with_reducible apply Foot.foldl
    | fail_if_no_progress (with_reducible refine Foot.mk' ?_)
    | (intro _ _ _; try dsimp only)
    | split

theorem State.firstCommit_foot {s : State} :
    Foot [.nvm, .grist] (some []) s (State.firstCommit s) := by
  unfold State.firstCommit
  repeat' first
    | with_reducible exact Foot.refl _ _ _
    | ((with_reducible apply Foot.after State.rewritten_foot); on_goal 2 => rfl)
    | fail_if_no_progress (with_reducible refine Foot.mk' ?_)

theorem State.clearCommit_foot {x1 : Option Nat} {s : State} :
    Foot [.ports, .hopper, .nvm, .grist] (some [5, 257, 258, 260, 261, 262, 264, 265, 385]) s (State.clearCommit s x1) := by
  unfold State.clearCommit
  dsimp only
  repeat' first
    | with_reducible exact Foot.refl _ _ _
    | ((with_reducible apply State.setPar_foot); on_goal 2 => first | rfl | (split <;> rfl))
    | ((with_reducible apply State.incPar_foot); on_goal 2 => first | rfl | (split <;> rfl))
    | ((with_reducible apply Foot.after State.ok_foot); on_goal 2 => rfl)
    | ((with_reducible apply Foot.after State.createRec_foot); on_goal 2 => rfl)
    | fail_if_no_progress (with_reducible refine Foot.mk' ?_)
    | split

theorem opGristRead_foot {x0 : Op} {s : State} :
    Foot [.ports, .hopper] (some [385]) s (opGristRead x0 s) := by
  unfold opGristRead
  repeat' first
    | with_reducible exact Foot.refl _ _ _
    | ((with_reducible apply Foot.after State.ok_foot); on_goal 2 => rfl)
    | ((with_reducible apply Foot.after State.fail_foot); on_goal 2 => rfl)
    | split

theorem opGristClear_foot {x0 : Op} {s : State} :
    Foot [.ports, .hopper, .nvm, .draws, .grist] (some [5, 257, 258, 260, 261, 264, 385]) s (opGristClear x0 s) := by
  unfold opGristClear
  repeat' first
    | with_reducible exact Foot.refl _ _ _
    | with_reducible apply Foot.ite
    | ((with_reducible apply Foot.after State.reply_foot); on_goal 2 => rfl)
    | ((with_reducible apply Foot.after State.tokenFailed_foot); on_goal 2 => rfl)
    | ((with_reducible apply Foot.after State.askNvm_foot); on_goal 2 => rfl)
    | ((with_reducible apply Foot.after State.drawBytes_foot); on_goal 2 => rfl)
    | ((with_reducible apply Foot.after State.opRunning_foot); on_goal 2 => rfl)
    | ((with_reducible apply Foot.after State.ok_foot); on_goal 2 => rfl)
    | ((with_reducible apply Foot.after State.fail_foot); on_goal 2 => rfl)
    | fail_if_no_progress (with_reducible refine Foot.mk' ?_)
    | split

theorem opGristTriggerSet_foot {x0 : Op} {s : State} :
    Foot [.ports, .hopper, .nvm, .grist] (some [385]) s (opGristTriggerSet x0 s) := by
  unfold opGristTriggerSet
  repeat' first
    | with_reducible exact Foot.refl _ _ _
    | ((with_reducible apply Foot.after State.ok_foot); on_goal 2 => rfl)
    | ((with_reducible apply Foot.after State.askOnce_foot); on_goal 2 => rfl)
    | ((with_reducible apply Foot.after State.fail_foot); on_goal 2 => rfl)
    | fail_if_no_progress (with_reducible refine Foot.mk' ?_)
    | split

theorem State.runTrigger_foot {x1 : Nat} {s : State} :
    Foot [.ports, .grist] none s (State.runTrigger s x1) := by
  unfold State.runTrigger
  repeat' first
    | with_reducible exact Foot.refl _ _ _
    | with_reducible apply Foot.ite
    | ((with_reducible apply State.incPar_foot); on_goal 2 => first | rfl | (split <;> rfl))
    | ((with_reducible apply Foot.after State.record_foot); on_goal 2 => rfl)
    | fail_if_no_progress (with_reducible refine Foot.mk' ?_)

theorem State.runTriggers_foot {s : State} :
    Foot [.ports, .grist] none s (State.runTriggers s) := by
  unfold State.runTriggers
  repeat' first
    | with_reducible exact Foot.refl _ _ _
    | with_reducible assumption
    | with_reducible apply State.each_foot
    | ((with_reducible apply Foot.after State.runTrigger_foot); on_goal 2 => rfl)
    | (intro _ _ _; try dsimp only)
    | split

/-! ## Restart -/

theorem State.dropWrites_foot {x1 : Nat} {s : State} :
    Foot [.nvm] (some []) s (State.dropWrites s x1) := by
  unfold State.dropWrites
  repeat' first
    | with_reducible exact Foot.refl _ _ _
    | fail_if_no_progress (with_reducible refine Foot.mk' ?_)

theorem State.undo_foot {x1 : Op} {s : State} :
    Foot [.seq, .nvm, .upd, .wheel, .auths, .dresser] (some [256]) s (State.undo s x1) := by
  unfold State.undo
  repeat' first
    | with_reducible exact Foot.refl _ _ _
    | ((with_reducible apply State.setPar_foot); on_goal 2 => first | rfl | (split <;> rfl))
    | ((with_reducible apply Foot.after State.dropWrites_foot); on_goal 2 => rfl)
    | ((with_reducible apply Foot.after State.modSeq_foot); on_goal 2 => rfl)
    | fail_if_no_progress (with_reducible refine Foot.mk' ?_)
    | split

theorem State.withdraw_foot {x1 : Op} {x2 : Nat} {s : State} :
    Foot [.flume, .seq, .ports, .hopper, .nvm, .upd, .wheel, .auths, .dresser, .loops] (some [256, 305, 307, 385]) s (State.withdraw s x1 x2) := by
  unfold State.withdraw
  repeat' first
    | with_reducible exact Foot.refl _ _ _
    | with_reducible apply Foot.ite
    | ((with_reducible apply Foot.after State.slewEnd_foot); on_goal 2 => rfl)
    | ((with_reducible apply Foot.after State.reply_foot); on_goal 2 => rfl)
    | ((with_reducible apply Foot.after State.flumeEnd_foot); on_goal 2 => rfl)
    | ((with_reducible apply Foot.after State.modOp_foot); on_goal 2 => rfl)
    | ((with_reducible apply Foot.after State.undo_foot); on_goal 2 => rfl)
    | fail_if_no_progress (with_reducible refine Foot.mk' ?_)
    | split

theorem State.withdrawAll_foot {x1 : List HostPort} {x2 : Nat} {s : State} :
    Foot [.flume, .seq, .ports, .hopper, .nvm, .upd, .wheel, .auths, .dresser, .loops] (some [256, 305, 307, 385]) s (State.withdrawAll s x1 x2) := by
  unfold State.withdrawAll
  repeat' first
    | with_reducible exact Foot.refl _ _ _
    | with_reducible assumption
    | ((with_reducible apply Foot.after State.withdraw_foot); on_goal 2 => rfl)
    | with_reducible apply Foot.foldl
    | (intro _ _ _; try dsimp only)

theorem State.portOff_foot {x1 : HostPort} {s : State} :
    Foot [.flume, .seq, .ports, .hopper, .nvm, .upd, .wheel, .auths, .dresser, .loops] (some [256, 305, 307, 385]) s (State.portOff s x1) := by
  unfold State.portOff
  repeat' first
    | with_reducible exact Foot.refl _ _ _
    | ((with_reducible apply Foot.after State.modPort_foot); on_goal 2 => rfl)
    | ((with_reducible apply Foot.after State.withdrawAll_foot); on_goal 2 => rfl)
    | fail_if_no_progress (with_reducible refine Foot.mk' ?_)

theorem opAbort_foot {x0 : Op} {s : State} :
    Foot [.flume, .seq, .ports, .hopper, .nvm, .upd, .wheel, .auths, .dresser, .loops] (some [256, 305, 307, 385]) s (opAbort x0 s) := by
  unfold opAbort
  repeat' first
    | with_reducible exact Foot.refl _ _ _
    | with_reducible apply Foot.ite
    | ((with_reducible apply Foot.after State.reply_foot); on_goal 2 => rfl)
    | ((with_reducible apply Foot.after State.withdraw_foot); on_goal 2 => rfl)
    | ((with_reducible apply Foot.after State.ok_foot); on_goal 2 => rfl)
    | ((with_reducible apply Foot.after State.fail_foot); on_goal 2 => rfl)
    | split

theorem opResultPoll_foot {x0 : Op} {s : State} :
    Foot [.ports, .hopper] (some [385]) s (opResultPoll x0 s) := by
  unfold opResultPoll
  repeat' first
    | with_reducible exact Foot.refl _ _ _
    | with_reducible apply Foot.ite
    | ((with_reducible apply Foot.after State.ok_foot); on_goal 2 => rfl)
    | ((with_reducible apply Foot.after State.fail_foot); on_goal 2 => rfl)
    | split

theorem State.setBank_foot {x1 : Nat} {x2 : Int} {s : State} :
    Foot [.nvm] (some [259, 260]) s (State.setBank s x1 x2) := by
  unfold State.setBank
  repeat' first
    | with_reducible exact Foot.refl _ _ _
    | ((with_reducible apply State.setPar_foot); on_goal 2 => first | rfl | (split <;> rfl) | (unfold bankPid; split <;> rfl))
    | ((with_reducible apply Foot.after State.journalWrite_foot); on_goal 2 => rfl)
    | fail_if_no_progress (with_reducible refine Foot.mk' ?_)
    | split

theorem State.updRest_foot {s : State} :
    Foot [] (some [256]) s (State.updRest s) := by
  unfold State.updRest
  repeat' first
    | with_reducible exact Foot.refl _ _ _
    | ((with_reducible apply State.setPar_foot); on_goal 2 => first | rfl | (split <;> rfl))

theorem State.updRecord_foot {x1 : Nat} {x2 : Nat} {x3 : Nat} {s : State} :
    Foot [.ports, .grist] (some [5, 257, 258, 260, 261, 264]) s (State.updRecord s x1 x2 x3) := by
  unfold State.updRecord
  repeat' first
    | with_reducible exact Foot.refl _ _ _
    | ((with_reducible apply Foot.after State.lifeRecord_foot); on_goal 2 => rfl)

theorem State.startCheckin_foot {s : State} :
    Foot [.upd] (some []) s (State.startCheckin s) := by
  unfold State.startCheckin
  repeat' first
    | with_reducible exact Foot.refl _ _ _
    | fail_if_no_progress (with_reducible refine Foot.mk' ?_)

theorem State.trialFail_foot {s : State} :
    Foot [.ports, .nvm, .upd, .grist] (some [5, 256, 257, 258, 259, 260, 261, 264, 266, 267]) s (State.trialFail s) := by
  unfold State.trialFail
  repeat' first
    | with_reducible exact Foot.refl _ _ _
    | with_reducible apply Foot.ite
    | ((with_reducible apply State.setPar_foot); on_goal 2 => first | rfl | (split <;> rfl))
    | ((with_reducible apply State.incPar_foot); on_goal 2 => first | rfl | (split <;> rfl))
    | ((with_reducible apply Foot.after State.startCheckin_foot); on_goal 2 => rfl)
    | ((with_reducible apply Foot.after State.updRecord_foot); on_goal 2 => rfl)
    | ((with_reducible apply Foot.after State.setBank_foot); on_goal 2 => rfl)
    | fail_if_no_progress (with_reducible refine Foot.mk' ?_)

theorem State.abandonTests_foot {s : State} :
    Foot [.dresser] (some []) s (State.abandonTests s) := by
  unfold State.abandonTests
  repeat' first
    | with_reducible exact Foot.refl _ _ _
    | fail_if_no_progress (with_reducible refine Foot.mk' ?_)

theorem State.lanesReturn_foot {s : State} :
    Foot [] (some [272]) s (State.lanesReturn s) := by
  unfold State.lanesReturn
  repeat' first
    | with_reducible exact Foot.refl _ _ _
    | with_reducible assumption
    | with_reducible apply State.eachOf_foot
    | ((with_reducible apply Foot.after State.setLane_foot); on_goal 2 => rfl)
    | (intro _ _ _; try dsimp only)

theorem State.l3Restart_foot {x1 : Nat} {s : State} :
    Foot [.miller, .flume, .seq, .ports, .hopper, .nvm, .upd, .wheel, .auths, .grist, .dresser, .loops] (some [5, 256, 257, 258, 259, 260, 261, 264, 266, 267, 272, 305, 307, 385]) s (State.l3Restart s x1) := by
  unfold State.l3Restart
  repeat' first
    | with_reducible exact Foot.refl _ _ _
    | with_reducible apply Foot.ite
    | ((with_reducible apply State.setPar_foot); on_goal 2 => first | rfl | (split <;> rfl))
    | ((with_reducible apply State.incPar_foot); on_goal 2 => first | rfl | (split <;> rfl))
    | ((with_reducible apply Foot.after State.trialFail_foot); on_goal 2 => rfl)
    | ((with_reducible apply Foot.after State.withdrawAll_foot); on_goal 2 => rfl)
    | ((with_reducible apply Foot.after State.abandonTests_foot); on_goal 2 => rfl)
    | ((with_reducible apply Foot.after State.flumeStop_foot); on_goal 2 => rfl)
    | ((with_reducible apply Foot.after State.lanesReturn_foot); on_goal 2 => rfl)
    | fail_if_no_progress (with_reducible refine Foot.mk' ?_)

theorem State.startupAgain_foot {s : State} :
    Foot [.phases, .flume, .modules, .segs, .seq, .ports, .pols, .feeders, .hopper, .shelf, .nvm, .upd, .wheel, .strings, .trace, .grist, .loops, .rails] (some [1, 2, 5, 256, 257, 258, 260, 261, 264, 270, 281, 288, 305, 307, 308, 310, 320, 321, 385]) s (State.startupAgain s) := by
  unfold State.startupAgain
  repeat' first
    | with_reducible exact Foot.refl _ _ _
    | ((with_reducible apply State.setPar_foot); on_goal 2 => first | rfl | (split <;> rfl))
    | ((with_reducible apply Foot.after State.authAll_foot); on_goal 2 => rfl)
    | ((with_reducible apply Foot.after State.askOnce_foot); on_goal 2 => rfl)
    | ((with_reducible apply Foot.after State.modSeq_foot); on_goal 2 => rfl)
    | ((with_reducible apply Foot.after State.enterShelf_foot); on_goal 2 => rfl)
    | fail_if_no_progress (with_reducible refine Foot.mk' ?_)
    | split

theorem State.powerOnNow_foot {s : State} :
    Foot [.miller, .flume, .seq, .ports, .hopper, .nvm, .upd, .wheel, .auths, .grist, .dresser, .loops] (some [5, 256, 257, 258, 259, 260, 261, 264, 266, 267, 272, 305, 307, 385]) s (State.powerOnNow s) := by
  unfold State.powerOnNow
  repeat' first
    | with_reducible exact Foot.refl _ _ _
    | ((with_reducible apply Foot.after State.l3Restart_foot); on_goal 2 => rfl)
    | ((with_reducible apply Foot.after State.cogPulse_foot); on_goal 2 => rfl)
    | ((with_reducible apply Foot.after State.modSeq_foot); on_goal 2 => rfl)
    | split

theorem State.powerOnRequest_foot {s : State} :
    Foot [.miller, .flume, .seq, .ports, .hopper, .nvm, .upd, .wheel, .auths, .grist, .dresser, .loops] (some [5, 256, 257, 258, 259, 260, 261, 264, 266, 267, 272, 305, 307, 385]) s (State.powerOnRequest s).2 := by
  unfold State.powerOnRequest
  repeat' first
    | with_reducible exact Foot.refl _ _ _
    | ((with_reducible apply Foot.after State.powerOnNow_foot); on_goal 2 => rfl)
    | ((with_reducible apply Foot.after State.modSeq_foot); on_goal 2 => rfl)
    | split

theorem State.powerOnDue_foot {s : State} :
    Foot [.miller, .flume, .seq, .ports, .hopper, .nvm, .upd, .wheel, .auths, .grist, .dresser, .loops] (some [5, 256, 257, 258, 259, 260, 261, 264, 266, 267, 272, 305, 307, 385]) s (State.powerOnDue s) := by
  unfold State.powerOnDue
  repeat' first
    | with_reducible exact Foot.refl _ _ _
    | ((with_reducible apply Foot.after State.powerOnNow_foot); on_goal 2 => rfl)
    | split

theorem State.takeShift_foot {x1 : PendingShift} {s : State} :
    Foot [.phases, .flume, .segs, .seq, .ports, .pols, .feeders, .hopper, .nvm, .upd, .wheel, .strings, .trace, .grist, .loops, .rails] (some [1, 2, 5, 256, 257, 258, 260, 261, 264, 270, 281, 288, 305, 307, 308, 310, 320, 321, 385]) s (State.takeShift s x1) := by
  unfold State.takeShift
  repeat' first
    | with_reducible exact Foot.refl _ _ _
    | ((with_reducible apply Foot.after State.enterShelf_foot); on_goal 2 => rfl)
    | split

theorem State.takeWaiting_foot {x1 : HostPort} {s : State} :
    Foot [.ports, .hopper, .grist] (some [5, 257, 258, 260, 261, 264, 386, 388, 390, 391]) s (State.takeWaiting s x1) := by
  unfold State.takeWaiting
  repeat' first
    | with_reducible exact Foot.refl _ _ _
    | with_reducible assumption
    | ((with_reducible apply Foot.after State.modPort_foot); on_goal 2 => rfl)
    | ((with_reducible apply Foot.after State.submitBytes_foot); on_goal 2 => rfl)
    | with_reducible apply Foot.foldl
    | (intro _ _ _; try dsimp only)

theorem State.restartRecords_foot {s : State} :
    Foot [.miller, .ports, .grist] (some [5, 257, 258, 260, 261, 264]) s (State.restartRecords s) := by
  unfold State.restartRecords
  repeat' first
    | with_reducible exact Foot.refl _ _ _
    | with_reducible assumption
    | ((with_reducible apply Foot.after State.flushRecords_foot); on_goal 2 => rfl)
    | ((with_reducible apply Foot.after State.createRec_foot); on_goal 2 => rfl)
    | with_reducible apply Foot.foldl
    | fail_if_no_progress (with_reducible refine Foot.mk' ?_)
    | (intro _ _ _; try dsimp only)

theorem opSeqPowerOn_foot {x0 : Op} {s : State} :
    Foot [.miller, .flume, .seq, .ports, .hopper, .nvm, .upd, .wheel, .auths, .grist, .dresser, .loops] (some [5, 256, 257, 258, 259, 260, 261, 264, 266, 267, 272, 305, 307, 385]) s (opSeqPowerOn x0 s) := by
  unfold opSeqPowerOn
  repeat' first
    | with_reducible exact Foot.refl _ _ _
    | ((with_reducible apply Foot.after State.opCommit_foot); on_goal 2 => rfl)
    | ((with_reducible apply Foot.after State.powerOnRequest_foot); on_goal 2 => rfl)
    | ((with_reducible apply Foot.after State.ok_foot); on_goal 2 => rfl)
    | ((with_reducible apply Foot.after State.fail_foot); on_goal 2 => rfl)
    | split

/-! ## Dresser -/

theorem State.dresserBit_foot {x1 : Nat} {s : State} :
    Foot [] (some [256]) s (State.dresserBit s x1) := by
  unfold State.dresserBit
  repeat' first
    | with_reducible exact Foot.refl _ _ _
    | ((with_reducible apply State.setBit_foot); on_goal 2 => first | rfl | (split <;> rfl))

theorem State.modDresser_foot {x1 : DresserState → DresserState} {s : State} :
    Foot [.dresser] (some []) s (State.modDresser s x1) := by
  unfold State.modDresser
  repeat' first
    | with_reducible exact Foot.refl _ _ _
    | fail_if_no_progress (with_reducible refine Foot.mk' ?_)

theorem State.dresserRecord_foot {x1 : List Snap} {s : State} :
    Foot [.ports, .grist] (some [5, 257, 258, 260, 261, 264]) s (State.dresserRecord s x1) := by
  unfold State.dresserRecord
  repeat' first
    | with_reducible exact Foot.refl _ _ _
    | ((with_reducible apply Foot.after State.record_foot); on_goal 2 => rfl)

theorem State.bankRecord_foot {x1 : Nat} {s : State} :
    Foot [.ports, .grist] (some [5, 257, 258, 260, 261, 264]) s (State.bankRecord s x1) := by
  unfold State.bankRecord
  repeat' first
    | with_reducible exact Foot.refl _ _ _
    | ((with_reducible apply Foot.after State.record_foot); on_goal 2 => rfl)

theorem State.loopFault_foot {x1 : Nat} {s : State} :
    Foot [.phases, .flume, .fantail, .ports, .hopper, .nvm, .wheel, .trace, .grist, .loops] (some [1, 2, 5, 256, 257, 258, 260, 261, 264, 305, 307, 308, 310, 320, 385]) s (State.loopFault s x1) := by
  unfold State.loopFault
  repeat' first
    | with_reducible exact Foot.refl _ _ _
    | with_reducible assumption
    | with_reducible apply State.eachOf_foot
    | ((with_reducible apply Foot.after State.phaseRemoved_foot); on_goal 2 => rfl)
    | ((with_reducible apply Foot.after State.setObj_foot); on_goal 2 => rfl)
    | ((with_reducible apply Foot.after State.stopPhase_foot); on_goal 2 => rfl)
    | ((with_reducible apply Foot.after State.modPhase_foot); on_goal 2 => rfl)
    | ((with_reducible apply Foot.after State.bankRecord_foot); on_goal 2 => rfl)
    | ((with_reducible apply Foot.after State.latchFault_foot); on_goal 2 => rfl)
    | (intro _ _ _; try dsimp only)
    | split

theorem State.bankBad_foot {x1 : Nat} {x2 : Nat} {s : State} :
    Foot [.phases, .flume, .fantail, .ports, .hopper, .nvm, .wheel, .trace, .grist, .loops] (some [1, 2, 5, 256, 257, 258, 260, 261, 264, 305, 307, 308, 310, 320, 385]) s (State.bankBad s x1 x2) := by
  unfold State.bankBad
  repeat' first
    | with_reducible exact Foot.refl _ _ _
    | ((with_reducible apply Foot.after State.loopFault_foot); on_goal 2 => rfl)
    | ((with_reducible apply Foot.after State.bankRecord_foot); on_goal 2 => rfl)
    | ((with_reducible apply Foot.after State.modLoop_foot); on_goal 2 => rfl)
    | ((with_reducible apply Foot.after State.loopSwap_foot); on_goal 2 => rfl)
    | split

theorem State.queueRepair_foot {x1 : Nat} {x2 : Nat} {s : State} :
    Foot [.nvm, .dresser] (some [256]) s (State.queueRepair s x1 x2) := by
  unfold State.queueRepair
  repeat' first
    | with_reducible exact Foot.refl _ _ _
    | with_reducible apply Foot.ite
    | ((with_reducible apply Foot.after State.modDresser_foot); on_goal 2 => rfl)
    | ((with_reducible apply Foot.after State.askNvm_foot); on_goal 2 => rfl)
    | ((with_reducible apply Foot.after State.dresserBit_foot); on_goal 2 => rfl)

theorem State.repairCommit_foot {x1 : Nat} {x2 : Nat} {s : State} :
    Foot [.life] none s (State.repairCommit s x1 x2) := by
  unfold State.repairCommit
  repeat' first
    | with_reducible exact Foot.refl _ _ _
    | ((with_reducible apply State.incPar_foot); on_goal 2 => first | rfl | (split <;> rfl))
    | fail_if_no_progress (with_reducible refine Foot.mk' ?_)

theorem State.lostRun_foot {x1 : Nat} {x2 : Nat} {x3 : Nat} {s : State} :
    Foot [.ports, .grist] (some [5, 256, 257, 258, 260, 261, 263, 264]) s (State.lostRun s x1 x2 x3) := by
  unfold State.lostRun
  repeat' first
    | with_reducible exact Foot.refl _ _ _
    | ((with_reducible apply State.addPar_foot); on_goal 2 => first | rfl | (split <;> rfl))
    | ((with_reducible apply State.setBit_foot); on_goal 2 => first | rfl | (split <;> rfl))
    | ((with_reducible apply Foot.after State.record_foot); on_goal 2 => rfl)

theorem State.rebuildArea_foot {s : State} :
    Foot [.ports, .grist] (some [5, 256, 257, 258, 260, 261, 263, 264]) s (State.rebuildArea s) := by
  unfold State.rebuildArea
  dsimp only
  repeat' first
    | with_reducible exact Foot.refl _ _ _
    | ((with_reducible apply State.setBit_foot); on_goal 2 => first | rfl | (split <;> rfl))
    | ((with_reducible apply Foot.after State.gristParams_foot); on_goal 2 => rfl)
    | ((with_reducible apply Foot.after State.lostRun_foot); on_goal 2 => rfl)
    | fail_if_no_progress (with_reducible refine Foot.mk' ?_)
    | split

theorem State.loseSlot_foot {x1 : Nat} {s : State} :
    Foot [.ports, .grist] (some [5, 256, 257, 258, 260, 261, 263, 264]) s (State.loseSlot s x1) := by
  unfold State.loseSlot
  repeat' first
    | with_reducible exact Foot.refl _ _ _
    | ((with_reducible apply Foot.after State.gristParams_foot); on_goal 2 => rfl)
    | ((with_reducible apply Foot.after State.lostRun_foot); on_goal 2 => rfl)
    | fail_if_no_progress (with_reducible refine Foot.mk' ?_)
    | split

theorem State.keyStatus_foot {s : State} :
    Foot [] (some [258]) s (State.keyStatus s) := by
  unfold State.keyStatus
  repeat' first
    | with_reducible exact Foot.refl _ _ _
    | ((with_reducible apply State.setPar_foot); on_goal 2 => first | rfl | (split <;> rfl))

theorem State.loseCopy_foot {x1 : Nat} {s : State} :
    Foot [.life] (some [256]) s (State.loseCopy s x1) := by
  unfold State.loseCopy
  repeat' first
    | with_reducible exact Foot.refl _ _ _
    | with_reducible apply Foot.ite
    | ((with_reducible apply State.setPar_foot); on_goal 2 => first | rfl | (split <;> rfl))
    | fail_if_no_progress (with_reducible refine Foot.mk' ?_)

theorem State.loseTrim_foot {x1 : Nat} {s : State} :
    Foot [] (some [1, 2048, 2049]) s (State.loseTrim s x1) := by
  unfold State.loseTrim
  repeat' first
    | with_reducible exact Foot.refl _ _ _
    | ((with_reducible apply State.setPar_foot); on_goal 2 => first | rfl | (split <;> rfl))
    | ((with_reducible apply Foot.after State.setObj_foot); on_goal 2 => rfl)

theorem State.uncorrectableAct_foot {x1 : CodewordUse} {s : State} :
    Foot [.miller, .phases, .flume, .seq, .fantail, .ports, .hopper, .nvm, .upd, .life, .wheel, .auths, .trace, .grist, .dresser, .loops, .supply] (some [1, 2, 5, 256, 257, 258, 259, 260, 261, 263, 264, 266, 267, 272, 305, 307, 308, 310, 320, 385, 2048, 2049]) s (State.uncorrectableAct s x1) := by
  unfold State.uncorrectableAct
  repeat' first
    | with_reducible exact Foot.refl _ _ _
    | ((with_reducible apply State.setPar_foot); on_goal 2 => first | rfl | (split <;> rfl))
    | ((with_reducible apply Foot.after State.keyStatus_foot); on_goal 2 => rfl)
    | ((with_reducible apply Foot.after State.loseSlot_foot); on_goal 2 => rfl)
    | ((with_reducible apply Foot.after State.loopFault_foot); on_goal 2 => rfl)
    | ((with_reducible apply Foot.after State.rebuildArea_foot); on_goal 2 => rfl)
    | ((with_reducible apply Foot.after State.l3Restart_foot); on_goal 2 => rfl)
    | ((with_reducible apply Foot.after State.loseTrim_foot); on_goal 2 => rfl)
    | ((with_reducible apply Foot.after State.journalLose_foot); on_goal 2 => rfl)
    | ((with_reducible apply Foot.after State.loseCopy_foot); on_goal 2 => rfl)
    | ((with_reducible apply Foot.after State.bankBad_foot); on_goal 2 => rfl)
    | fail_if_no_progress (with_reducible refine Foot.mk' ?_)
    | split

theorem State.uncorrectable_foot {x1 : Nat} {x2 : Nat} {x3 : Nat} {x4 : Nat} {x5 : CodewordUse} {s : State} :
    Foot [.miller, .phases, .flume, .seq, .fantail, .ports, .hopper, .nvm, .upd, .life, .wheel, .auths, .trace, .grist, .dresser, .loops, .supply] none s (State.uncorrectable s x1 x2 x3 x4 x5) := by
  unfold State.uncorrectable
  repeat' first
    | with_reducible exact Foot.refl _ _ _
    | ((with_reducible apply State.setPar_foot); on_goal 2 => first | rfl | (split <;> rfl))
    | ((with_reducible apply State.incPar_foot); on_goal 2 => first | rfl | (split <;> rfl))
    | ((with_reducible apply Foot.after State.uncorrectableAct_foot); on_goal 2 => rfl)
    | ((with_reducible apply Foot.after State.dresserRecord_foot); on_goal 2 => rfl)
    | ((with_reducible apply Foot.after State.dresserBit_foot); on_goal 2 => rfl)
    | fail_if_no_progress (with_reducible refine Foot.mk' ?_)
    | split

theorem State.hardCodeword_foot {x1 : Nat} {x2 : Nat} {x3 : Nat} {x4 : Nat} {s : State} :
    Foot [.ports, .nvm, .grist, .dresser] none s (State.hardCodeword s x1 x2 x3 x4) := by
  unfold State.hardCodeword
  repeat' first
    | with_reducible exact Foot.refl _ _ _
    | ((with_reducible apply State.setPar_foot); on_goal 2 => first | rfl | (split <;> rfl))
    | ((with_reducible apply Foot.after State.modDresser_foot); on_goal 2 => rfl)
    | ((with_reducible apply Foot.after State.dresserRecord_foot); on_goal 2 => rfl)
    | ((with_reducible apply Foot.after State.queueRepair_foot); on_goal 2 => rfl)
    | split

theorem State.corrected_foot {x1 : Nat} {x2 : Nat} {x3 : Nat} {x4 : Nat} {s : State} :
    Foot [.ports, .nvm, .grist, .dresser] none s (State.corrected s x1 x2 x3 x4) := by
  unfold State.corrected
  repeat' first
    | with_reducible exact Foot.refl _ _ _
    | with_reducible apply Foot.ite
    | ((with_reducible apply State.setPar_foot); on_goal 2 => first | rfl | (split <;> rfl))
    | ((with_reducible apply State.incPar_foot); on_goal 2 => first | rfl | (split <;> rfl))
    | ((with_reducible apply Foot.after State.hardCodeword_foot); on_goal 2 => rfl)
    | ((with_reducible apply Foot.after State.modDresser_foot); on_goal 2 => rfl)
    | ((with_reducible apply Foot.after State.askNvm_foot); on_goal 2 => rfl)

theorem State.hostUnit_foot {x1 : DresserItem} {x2 : Bool} {x3 : Nat} {x4 : Nat} {x5 : Nat} {s : State} :
    Foot [.dresser] (some []) s (State.hostUnit s x1 x2 x3 x4 x5) := by
  unfold State.hostUnit
  repeat' first
    | with_reducible exact Foot.refl _ _ _
    | ((with_reducible apply Foot.after State.modDresser_foot); on_goal 2 => rfl)
    | split

theorem State.rotate_foot {x1 : Nat} {x2 : Nat} {s : State} :
    Foot [.dresser] (some []) s (State.rotate s x1 x2) := by
  unfold State.rotate
  repeat' first
    | with_reducible exact Foot.refl _ _ _
    | ((with_reducible apply Foot.after State.modDresser_foot); on_goal 2 => rfl)

theorem State.dresserGrant_foot {x1 : DresserItem} {s : State} :
    Foot [.dresser] (some []) s (State.dresserGrant s x1) := by
  unfold State.dresserGrant
  repeat' first
    | with_reducible exact Foot.refl _ _ _
    | ((with_reducible apply Foot.after State.modDresser_foot); on_goal 2 => rfl)
    | split

theorem State.retestDone_foot {x1 : Nat} {x2 : Nat} {s : State} :
    Foot [.dresser] (some []) s (State.retestDone s x1 x2) := by
  unfold State.retestDone
  repeat' first
    | with_reducible exact Foot.refl _ _ _
    | ((with_reducible apply Foot.after State.modDresser_foot); on_goal 2 => rfl)

theorem State.sliceRecord_foot {x1 : Nat} {x2 : Nat} {s : State} :
    Foot [.ports, .grist] (some [5, 257, 258, 260, 261, 264]) s (State.sliceRecord s x1 x2) := by
  unfold State.sliceRecord
  repeat' first
    | with_reducible exact Foot.refl _ _ _
    | ((with_reducible apply Foot.after State.dresserRecord_foot); on_goal 2 => rfl)

theorem State.sliceCount_foot {x1 : Nat} {x2 : Nat} {s : State} :
    Foot [.dresser] none s (State.sliceCount s x1 x2) := by
  unfold State.sliceCount
  repeat' first
    | with_reducible exact Foot.refl _ _ _
    | with_reducible apply Foot.ite
    | ((with_reducible apply State.setPar_foot); on_goal 2 => first | rfl | (split <;> rfl))
    | ((with_reducible apply State.incPar_foot); on_goal 2 => first | rfl | (split <;> rfl))
    | ((with_reducible apply Foot.after State.modDresser_foot); on_goal 2 => rfl)
    | ((with_reducible apply Foot.after State.rotate_foot); on_goal 2 => rfl)

theorem State.sliceFails_foot {x1 : Nat} {x2 : Nat} {x3 : Nat} {x4 : Nat} {x5 : Nat} {s : State} :
    Foot [.ports, .nvm, .grist, .dresser] none s (State.sliceFails s x1 x2 x3 x4 x5) := by
  unfold State.sliceFails
  repeat' first
    | with_reducible exact Foot.refl _ _ _
    | with_reducible apply Foot.ite
    | ((with_reducible apply State.setPar_foot); on_goal 2 => first | rfl | (split <;> rfl))
    | ((with_reducible apply Foot.after State.modDresser_foot); on_goal 2 => rfl)
    | ((with_reducible apply Foot.after State.retestDone_foot); on_goal 2 => rfl)
    | ((with_reducible apply Foot.after State.hostUnit_foot); on_goal 2 => rfl)
    | ((with_reducible apply Foot.after State.dresserBit_foot); on_goal 2 => rfl)
    | ((with_reducible apply Foot.after State.sliceRecord_foot); on_goal 2 => rfl)
    | ((with_reducible apply Foot.after State.queueRepair_foot); on_goal 2 => rfl)

theorem State.bistCancel_foot {x1 : Nat} {s : State} :
    Foot [.dresser] (some [272]) s (State.bistCancel s x1) := by
  unfold State.bistCancel
  repeat' first
    | with_reducible exact Foot.refl _ _ _
    | with_reducible apply Foot.ite
    | ((with_reducible apply Foot.after State.modDresser_foot); on_goal 2 => rfl)
    | ((with_reducible apply Foot.after State.setLane_foot); on_goal 2 => rfl)
    | split

theorem opBistRequest_foot {x0 : Op} {s : State} :
    Foot [.ports, .hopper, .grist, .dresser] (some [5, 257, 258, 260, 261, 264, 272, 385]) s (opBistRequest x0 s) := by
  unfold opBistRequest
  dsimp only
  repeat' first
    | with_reducible exact Foot.refl _ _ _
    | ((with_reducible apply State.setPar_foot); on_goal 2 => first | rfl | (split <;> rfl))
    | ((with_reducible apply Foot.after State.modDresser_foot); on_goal 2 => rfl)
    | ((with_reducible apply Foot.after State.bistCancel_foot); on_goal 2 => rfl)
    | ((with_reducible apply Foot.after State.reply_foot); on_goal 2 => rfl)
    | ((with_reducible apply Foot.after State.record_foot); on_goal 2 => rfl)
    | ((with_reducible apply Foot.after State.opRunning_foot); on_goal 2 => rfl)
    | ((with_reducible apply Foot.after State.ok_foot); on_goal 2 => rfl)
    | split

theorem State.bistReplies_foot {x1 : List Nat} {x2 : Option (Nat × Nat)} {x3 : Bool} {s : State} :
    Foot [.ports, .hopper, .dresser] (some [385]) s (State.bistReplies s x1 x2 x3) := by
  unfold State.bistReplies
  repeat' first
    | with_reducible exact Foot.refl _ _ _
    | with_reducible assumption
    | ((with_reducible apply Foot.after State.modDresser_foot); on_goal 2 => rfl)
    | ((with_reducible apply Foot.after State.reply_foot); on_goal 2 => rfl)
    | ((with_reducible apply Foot.after State.ok_foot); on_goal 2 => rfl)
    | with_reducible apply Foot.foldl
    | (intro _ _ _; try dsimp only)
    | split

theorem opBistResult_foot {x0 : Op} {s : State} :
    Foot [.ports, .hopper] (some [385]) s (opBistResult x0 s) := by
  unfold opBistResult
  dsimp only
  repeat' first
    | with_reducible exact Foot.refl _ _ _
    | ((with_reducible apply Foot.after State.ok_foot); on_goal 2 => rfl)
    | ((with_reducible apply Foot.after State.fail_foot); on_goal 2 => rfl)
    | split

/-! ## Save -/

theorem State.putSave_foot {x1 : Bool} {s : State} :
    Foot [.nvm, .supply] (some []) s (State.putSave s x1) := by
  unfold State.putSave
  repeat' first
    | with_reducible exact Foot.refl _ _ _
    | ((with_reducible apply Foot.after State.rewritten_foot); on_goal 2 => rfl)
    | fail_if_no_progress (with_reducible refine Foot.mk' ?_)

theorem State.tearSave_foot {s : State} :
    Foot [.nvm, .supply] (some []) s (State.tearSave s) := by
  unfold State.tearSave
  repeat' first
    | with_reducible exact Foot.refl _ _ _
    | ((with_reducible apply Foot.after State.putSave_foot); on_goal 2 => rfl)
    | split

theorem State.saveStart_foot {s : State} :
    Foot [.time, .draws, .supply] (some []) s (State.saveStart s) := by
  unfold State.saveStart
  repeat' first
    | with_reducible exact Foot.refl _ _ _
    | ((with_reducible apply Foot.after State.draw_foot); on_goal 2 => rfl)
    | fail_if_no_progress (with_reducible refine Foot.mk' ?_)

/-! ## Reset -/

theorem State.enLow_foot {s : State} :
    Foot [.pols, .rails] (some [256, 264, 270]) s (State.enLow s) := by
  unfold State.enLow
  repeat' first
    | with_reducible exact Foot.refl _ _ _
    | with_reducible assumption
    | with_reducible apply State.each_foot
    | ((with_reducible apply Foot.after State.railOff_foot); on_goal 2 => rfl)
    | (intro _ _ _; try dsimp only)

theorem State.spoilMeans_foot {s : State} :
    Foot [.phases, .segs, .feeders, .strings] (some []) s (State.spoilMeans s) := by
  unfold State.spoilMeans
  repeat' first
    | with_reducible exact Foot.refl _ _ _
    | with_reducible assumption
    | with_reducible apply State.eachOf_foot
    | ((with_reducible apply Foot.after State.modChan_foot); on_goal 2 => rfl)
    | (intro _ _ _; try dsimp only)

theorem State.csReset_foot {x1 : ResetCause} {s : State} :
    Foot [.miller, .phases, .flume, .segs, .seq, .ports, .pols, .time, .feeders, .hopper, .nvm, .timers, .upd, .wheel, .strings, .trace, .grist, .loops, .supply, .rails] (some [1, 5, 256, 257, 258, 259, 260, 261, 264, 270, 305, 307, 308, 310, 385]) s (State.csReset s x1) := by
  unfold State.csReset
  repeat' first
    | with_reducible exact Foot.refl _ _ _
    | with_reducible apply Foot.ite
    | ((with_reducible apply Foot.after State.stopConversion_foot); on_goal 2 => rfl)
    | ((with_reducible apply Foot.after State.tearSave_foot); on_goal 2 => rfl)
    | ((with_reducible apply Foot.after State.cutWrite_foot); on_goal 2 => rfl)
    | ((with_reducible apply Foot.after State.enLow_foot); on_goal 2 => rfl)
    | ((with_reducible apply Foot.after State.spoilMeans_foot); on_goal 2 => rfl)
    | ((with_reducible apply Foot.after State.cogLeave_foot); on_goal 2 => rfl)
    | ((with_reducible apply Foot.after State.flumeStop_foot); on_goal 2 => rfl)
    | fail_if_no_progress (with_reducible refine Foot.mk' ?_)
    | split

theorem State.psdOutputsOff_foot {s : State} :
    Foot [.phases, .flume, .segs, .ports, .feeders, .hopper, .nvm, .wheel, .strings, .trace, .grist, .loops] (some [1, 5, 256, 257, 258, 259, 260, 261, 264, 305, 307, 308, 310, 385]) s (State.psdOutputsOff s) := by
  unfold State.psdOutputsOff
  repeat' first
    | with_reducible exact Foot.refl _ _ _
    | with_reducible assumption
    | with_reducible apply State.each_foot
    | ((with_reducible apply Foot.after State.stopConversion_foot); on_goal 2 => rfl)
    | ((with_reducible apply Foot.after State.stringWait_foot); on_goal 2 => rfl)
    | ((with_reducible apply Foot.after State.feederWait_foot); on_goal 2 => rfl)
    | (intro _ _ _; try dsimp only)

/-! ## LifeCycle -/

theorem State.mramClear_foot {x1 : Nat} {x2 : Nat} {s : State} :
    Foot [.nvm, .mram] (some []) s (State.mramClear s x1 x2) := by
  unfold State.mramClear
  repeat' first
    | with_reducible exact Foot.refl _ _ _
    | fail_if_no_progress (with_reducible refine Foot.mk' ?_)

theorem State.noSchedule_foot {s : State} :
    Foot [.upd] (some [263, 264, 265]) s (State.noSchedule s) := by
  unfold State.noSchedule
  repeat' first
    | with_reducible exact Foot.refl _ _ _
    | ((with_reducible apply State.setPar_foot); on_goal 2 => first | rfl | (split <;> rfl))
    | fail_if_no_progress (with_reducible refine Foot.mk' ?_)

theorem State.endActHold_foot {s : State} :
    Foot [.seq] (some []) s (State.endActHold s) := by
  unfold State.endActHold
  repeat' first
    | with_reducible exact Foot.refl _ _ _
    | ((with_reducible apply Foot.after State.modSeq_foot); on_goal 2 => rfl)

theorem State.dropDevelopment_foot {s : State} :
    Foot [.seq, .nvm, .upd] (some [256, 259, 260, 262, 263, 264, 265]) s (State.dropDevelopment s) := by
  unfold State.dropDevelopment
  repeat' first
    | with_reducible exact Foot.refl _ _ _
    | with_reducible assumption
    | ((with_reducible apply State.setPar_foot); on_goal 2 => first | rfl | (split <;> rfl))
    | with_reducible apply State.each_foot
    | ((with_reducible apply Foot.after State.setBank_foot); on_goal 2 => rfl)
    | ((with_reducible apply Foot.after State.endActHold_foot); on_goal 2 => rfl)
    | ((with_reducible apply Foot.after State.noSchedule_foot); on_goal 2 => rfl)
    | (intro _ _ _; try dsimp only)
    | split

theorem State.keyWritten_foot {x1 : Op} {x2 : Nat} {x3 : Bytes} {s : State} :
    Foot [.ports, .life, .grist] (some [5, 257, 258, 260, 261, 264]) s (State.keyWritten s x1 x2 x3) := by
  unfold State.keyWritten
  repeat' first
    | with_reducible exact Foot.refl _ _ _
    | ((with_reducible apply Foot.after State.keyStatus_foot); on_goal 2 => rfl)
    | ((with_reducible apply Foot.after State.lifeRecord_foot); on_goal 2 => rfl)
    | fail_if_no_progress (with_reducible refine Foot.mk' ?_)

theorem opLcState_foot {x0 : Op} {s : State} :
    Foot [.ports, .hopper] (some [385]) s (opLcState x0 s) := by
  unfold opLcState
  repeat' first
    | with_reducible exact Foot.refl _ _ _
    | ((with_reducible apply Foot.after State.ok_foot); on_goal 2 => rfl)
    | ((with_reducible apply Foot.after State.fail_foot); on_goal 2 => rfl)
    | split

theorem opDebugUnlock_foot {x0 : Op} {s : State} :
    Foot [.ports, .hopper, .life, .grist] (some [5, 257, 258, 260, 261, 264, 385]) s (opDebugUnlock x0 s) := by
  unfold opDebugUnlock
  repeat' first
    | with_reducible exact Foot.refl _ _ _
    | with_reducible apply Foot.ite
    | ((with_reducible apply State.setPar_foot); on_goal 2 => first | rfl | (split <;> rfl))
    | ((with_reducible apply Foot.after State.reply_foot); on_goal 2 => rfl)
    | ((with_reducible apply Foot.after State.tokenFailed_foot); on_goal 2 => rfl)
    | ((with_reducible apply Foot.after State.ok_foot); on_goal 2 => rfl)
    | ((with_reducible apply Foot.after State.lifeRecord_foot); on_goal 2 => rfl)
    | ((with_reducible apply Foot.after State.fail_foot); on_goal 2 => rfl)
    | fail_if_no_progress (with_reducible refine Foot.mk' ?_)
    | split

/-! ## Update -/

theorem State.setUpd_foot {x1 : Int} {s : State} :
    Foot [] (some [256]) s (State.setUpd s x1) := by
  unfold State.setUpd
  repeat' first
    | with_reducible exact Foot.refl _ _ _
    | ((with_reducible apply State.setPar_foot); on_goal 2 => first | rfl | (split <;> rfl))

theorem State.releaseSats_foot {s : State} :
    Foot [.upd] (some []) s (State.releaseSats s) := by
  unfold State.releaseSats
  repeat' first
    | with_reducible exact Foot.refl _ _ _
    | fail_if_no_progress (with_reducible refine Foot.mk' ?_)

theorem opUpdOpen_foot {x0 : Op} {s : State} :
    Foot [.ports, .hopper, .nvm, .upd] (some [256, 257, 258, 259, 260, 262, 385]) s (opUpdOpen x0 s) := by
  unfold opUpdOpen
  repeat' first
    | with_reducible exact Foot.refl _ _ _
    | with_reducible apply Foot.ite
    | ((with_reducible apply State.setPar_foot); on_goal 2 => first | rfl | (split <;> rfl))
    | ((with_reducible apply Foot.after State.reply_foot); on_goal 2 => rfl)
    | ((with_reducible apply Foot.after State.opCommit_foot); on_goal 2 => rfl)
    | ((with_reducible apply Foot.after State.setBank_foot); on_goal 2 => rfl)
    | ((with_reducible apply Foot.after State.releaseSats_foot); on_goal 2 => rfl)
    | ((with_reducible apply Foot.after State.ok_foot); on_goal 2 => rfl)
    | ((with_reducible apply Foot.after State.setUpd_foot); on_goal 2 => rfl)
    | ((with_reducible apply Foot.after State.fail_foot); on_goal 2 => rfl)
    | fail_if_no_progress (with_reducible refine Foot.mk' ?_)

theorem opUpdBlock_foot {x0 : Op} {s : State} :
    Foot [.ports, .hopper, .nvm] (some [385]) s (opUpdBlock x0 s) := by
  unfold opUpdBlock
  repeat' first
    | with_reducible exact Foot.refl _ _ _
    | ((with_reducible apply Foot.after State.reply_foot); on_goal 2 => rfl)
    | ((with_reducible apply Foot.after State.askNvm_foot); on_goal 2 => rfl)
    | ((with_reducible apply Foot.after State.opRunning_foot); on_goal 2 => rfl)
    | split

theorem State.putBlock_foot {x1 : Nat} {x2 : Bytes} {s : State} :
    Foot [.nvm, .mram] (some []) s (State.putBlock s x1 x2) := by
  unfold State.putBlock
  dsimp only
  repeat' first
    | with_reducible exact Foot.refl _ _ _
    | ((with_reducible apply Foot.after State.rewritten_foot); on_goal 2 => rfl)
    | fail_if_no_progress (with_reducible refine Foot.mk' ?_)
    | split

theorem State.sectionTouched_foot {x1 : Nat} {s : State} :
    Foot [.upd] (some []) s (State.sectionTouched s x1) := by
  unfold State.sectionTouched
  repeat' first
    | with_reducible exact Foot.refl _ _ _
    | with_reducible apply Foot.ite
    | fail_if_no_progress (with_reducible refine Foot.mk' ?_)
    | split

theorem State.blockCommit_foot {x1 : Nat} {x2 : Bytes} {x3 : Option Nat} {s : State} :
    Foot [.ports, .hopper, .nvm, .mram, .upd] (some [258, 259, 260, 385]) s (State.blockCommit s x1 x2 x3) := by
  unfold State.blockCommit
  dsimp only
  repeat' first
    | with_reducible exact Foot.refl _ _ _
    | ((with_reducible apply State.setPar_foot); on_goal 2 => first | rfl | (split <;> rfl))
    | ((with_reducible apply Foot.after State.sectionTouched_foot); on_goal 2 => rfl)
    | ((with_reducible apply Foot.after State.setBank_foot); on_goal 2 => rfl)
    | ((with_reducible apply Foot.after State.putBlock_foot); on_goal 2 => rfl)
    | ((with_reducible apply Foot.after State.ok_foot); on_goal 2 => rfl)
    | fail_if_no_progress (with_reducible refine Foot.mk' ?_)
    | split

theorem opUpdClose_foot {x0 : Op} {s : State} :
    Foot [.ports, .hopper, .upd] (some [256, 385]) s (opUpdClose x0 s) := by
  unfold opUpdClose
  repeat' first
    | with_reducible exact Foot.refl _ _ _
    | with_reducible apply Foot.ite
    | ((with_reducible apply Foot.after State.opRunning_foot); on_goal 2 => rfl)
    | ((with_reducible apply Foot.after State.setUpd_foot); on_goal 2 => rfl)
    | ((with_reducible apply Foot.after State.fail_foot); on_goal 2 => rfl)
    | fail_if_no_progress (with_reducible refine Foot.mk' ?_)

theorem State.closeEnds_foot {s : State} :
    Foot [.upd] (some [256]) s (State.closeEnds s) := by
  unfold State.closeEnds
  repeat' first
    | with_reducible exact Foot.refl _ _ _
    | ((with_reducible apply Foot.after State.setUpd_foot); on_goal 2 => rfl)
    | fail_if_no_progress (with_reducible refine Foot.mk' ?_)

theorem State.pendSats_foot {s : State} :
    Foot [.upd] (some []) s (State.pendSats s) := by
  unfold State.pendSats
  repeat' first
    | with_reducible exact Foot.refl _ _ _
    | with_reducible assumption
    | with_reducible apply State.each_foot
    | fail_if_no_progress (with_reducible refine Foot.mk' ?_)
    | (intro _ _ _; try dsimp only)

theorem State.stagedCommit_foot {x1 : Option Nat} {s : State} :
    Foot [.miller, .phases, .flume, .segs, .seq, .ports, .pols, .time, .feeders, .hopper, .nvm, .timers, .upd, .wheel, .strings, .trace, .grist, .loops, .supply, .rails] (some [1, 5, 256, 257, 258, 259, 260, 261, 262, 264, 266, 268, 270, 305, 307, 308, 310, 385]) s (State.stagedCommit s x1) := by
  unfold State.stagedCommit
  repeat' first
    | with_reducible exact Foot.refl _ _ _
    | with_reducible apply Foot.ite
    | ((with_reducible apply State.setPar_foot); on_goal 2 => first | rfl | (split <;> rfl))
    | ((with_reducible apply Foot.after State.updRecord_foot); on_goal 2 => rfl)
    | ((with_reducible apply Foot.after State.csReset_foot); on_goal 2 => rfl)
    | ((with_reducible apply Foot.after State.setBank_foot); on_goal 2 => rfl)
    | ((with_reducible apply Foot.after State.pendSats_foot); on_goal 2 => rfl)
    | ((with_reducible apply Foot.after State.ok_foot); on_goal 2 => rfl)
    | ((with_reducible apply Foot.after State.setUpd_foot); on_goal 2 => rfl)
    | fail_if_no_progress (with_reducible refine Foot.mk' ?_)
    | split

theorem State.dropBlocks_foot {s : State} :
    Foot [.ports, .hopper, .nvm] (some [385]) s (State.dropBlocks s) := by
  unfold State.dropBlocks
  repeat' first
    | with_reducible exact Foot.refl _ _ _
    | with_reducible assumption
    | ((with_reducible apply Foot.after State.reply_foot); on_goal 2 => rfl)
    | with_reducible apply Foot.foldl
    | fail_if_no_progress (with_reducible refine Foot.mk' ?_)
    | (intro _ _ _; try dsimp only)
    | split

theorem State.cancelCommit_foot {x1 : Option Nat} {s : State} :
    Foot [.ports, .hopper, .nvm, .upd] (some [256, 259, 260, 262, 385]) s (State.cancelCommit s x1) := by
  unfold State.cancelCommit
  dsimp only
  repeat' first
    | with_reducible exact Foot.refl _ _ _
    | ((with_reducible apply State.setPar_foot); on_goal 2 => first | rfl | (split <;> rfl))
    | ((with_reducible apply Foot.after State.setBank_foot); on_goal 2 => rfl)
    | ((with_reducible apply Foot.after State.releaseSats_foot); on_goal 2 => rfl)
    | ((with_reducible apply Foot.after State.ok_foot); on_goal 2 => rfl)
    | ((with_reducible apply Foot.after State.setUpd_foot); on_goal 2 => rfl)
    | ((with_reducible apply Foot.after State.dropBlocks_foot); on_goal 2 => rfl)
    | fail_if_no_progress (with_reducible refine Foot.mk' ?_)
    | split

theorem State.scheduleReply_foot {x1 : Nat} {x2 : Nat} {x3 : Nat} {x4 : Nat} {s : State} :
    Foot [.ports, .hopper, .upd] (some [385]) s (State.scheduleReply s x1 x2 x3 x4) := by
  unfold State.scheduleReply
  dsimp only
  repeat' first
    | with_reducible exact Foot.refl _ _ _
    | ((with_reducible apply Foot.after State.reply_foot); on_goal 2 => rfl)
    | fail_if_no_progress (with_reducible refine Foot.mk' ?_)
    | split

theorem State.scheduleEnds_foot {x1 : Nat} {s : State} :
    Foot [.seq, .ports, .nvm, .upd, .grist] (some [5, 256, 257, 258, 260, 261, 263, 264, 265]) s (State.scheduleEnds s x1) := by
  unfold State.scheduleEnds
  repeat' first
    | with_reducible exact Foot.refl _ _ _
    | ((with_reducible apply Foot.after State.updRecord_foot); on_goal 2 => rfl)
    | ((with_reducible apply Foot.after State.askConfig_foot); on_goal 2 => rfl)
    | ((with_reducible apply Foot.after State.endActHold_foot); on_goal 2 => rfl)
    | ((with_reducible apply Foot.after State.noSchedule_foot); on_goal 2 => rfl)
    | ((with_reducible apply Foot.after State.updRest_foot); on_goal 2 => rfl)

theorem opUpdCancel_foot {x0 : Op} {s : State} :
    Foot [.seq, .ports, .hopper, .nvm, .upd, .grist] (some [5, 256, 257, 258, 259, 260, 261, 262, 263, 264, 265, 385]) s (opUpdCancel x0 s) := by
  unfold opUpdCancel
  repeat' first
    | with_reducible exact Foot.refl _ _ _
    | with_reducible apply Foot.ite
    | ((with_reducible apply Foot.after State.reply_foot); on_goal 2 => rfl)
    | ((with_reducible apply Foot.after State.cancelCommit_foot); on_goal 2 => rfl)
    | ((with_reducible apply Foot.after State.scheduleEnds_foot); on_goal 2 => rfl)
    | ((with_reducible apply Foot.after State.askNvm_foot); on_goal 2 => rfl)
    | ((with_reducible apply Foot.after State.scheduleReply_foot); on_goal 2 => rfl)
    | ((with_reducible apply Foot.after State.opRunning_foot); on_goal 2 => rfl)
    | ((with_reducible apply Foot.after State.ok_foot); on_goal 2 => rfl)
    | ((with_reducible apply Foot.after State.fail_foot); on_goal 2 => rfl)
    | fail_if_no_progress (with_reducible refine Foot.mk' ?_)

theorem opUpdSchedule_foot {x0 : Op} {s : State} :
    Foot [.ports, .hopper, .nvm, .upd, .grist] (some [5, 256, 257, 258, 260, 261, 263, 264, 265, 385]) s (opUpdSchedule x0 s) := by
  unfold opUpdSchedule
  dsimp only
  repeat' first
    | with_reducible exact Foot.refl _ _ _
    | ((with_reducible apply State.setPar_foot); on_goal 2 => first | rfl | (split <;> rfl))
    | ((with_reducible apply Foot.after State.reply_foot); on_goal 2 => rfl)
    | ((with_reducible apply Foot.after State.opCommit_foot); on_goal 2 => rfl)
    | ((with_reducible apply Foot.after State.updRecord_foot); on_goal 2 => rfl)
    | ((with_reducible apply Foot.after State.askConfig_foot); on_goal 2 => rfl)
    | ((with_reducible apply Foot.after State.ok_foot); on_goal 2 => rfl)
    | ((with_reducible apply Foot.after State.setUpd_foot); on_goal 2 => rfl)
    | fail_if_no_progress (with_reducible refine Foot.mk' ?_)
    | split

theorem State.fallDue_foot {s : State} :
    Foot [.upd] (some []) s (State.fallDue s) := by
  unfold State.fallDue
  repeat' first
    | with_reducible exact Foot.refl _ _ _
    | fail_if_no_progress (with_reducible refine Foot.mk' ?_)
    | split

theorem State.driveReset_foot {s : State} :
    Foot [.seq, .upd] (some []) s (State.driveReset s) := by
  unfold State.driveReset
  repeat' first
    | with_reducible exact Foot.refl _ _ _
    | with_reducible apply Foot.ite
    | ((with_reducible apply Foot.after State.cogPulse_foot); on_goal 2 => rfl)
    | fail_if_no_progress (with_reducible refine Foot.mk' ?_)

theorem State.activateGrant_foot {s : State} :
    Foot [.seq, .nvm, .upd] (some [256]) s (State.activateGrant s) := by
  unfold State.activateGrant
  repeat' first
    | with_reducible exact Foot.refl _ _ _
    | ((with_reducible apply Foot.after State.endActHold_foot); on_goal 2 => rfl)
    | ((with_reducible apply Foot.after State.setUpd_foot); on_goal 2 => rfl)
    | fail_if_no_progress (with_reducible refine Foot.mk' ?_)

theorem State.activateRefused_foot {x1 : Nat} {s : State} :
    Foot [.seq, .ports, .hopper, .nvm, .upd, .grist] (some [5, 256, 257, 258, 260, 261, 263, 264, 265, 385]) s (State.activateRefused s x1) := by
  unfold State.activateRefused
  repeat' first
    | with_reducible exact Foot.refl _ _ _
    | ((with_reducible apply Foot.after State.scheduleEnds_foot); on_goal 2 => rfl)
    | ((with_reducible apply Foot.after State.scheduleReply_foot); on_goal 2 => rfl)

theorem State.activateCommit_foot {s : State} :
    Foot [.miller, .flume, .seq, .ports, .hopper, .nvm, .upd, .wheel, .auths, .grist, .dresser, .loops] (some [5, 256, 257, 258, 259, 260, 261, 262, 263, 264, 265, 266, 267, 272, 305, 307, 385]) s (State.activateCommit s) := by
  unfold State.activateCommit
  repeat' first
    | with_reducible exact Foot.refl _ _ _
    | ((with_reducible apply State.setPar_foot); on_goal 2 => first | rfl | (split <;> rfl))
    | ((with_reducible apply Foot.after State.startCheckin_foot); on_goal 2 => rfl)
    | ((with_reducible apply Foot.after State.updRecord_foot); on_goal 2 => rfl)
    | ((with_reducible apply Foot.after State.setBank_foot); on_goal 2 => rfl)
    | ((with_reducible apply Foot.after State.l3Restart_foot); on_goal 2 => rfl)
    | ((with_reducible apply Foot.after State.scheduleReply_foot); on_goal 2 => rfl)
    | ((with_reducible apply Foot.after State.askConfig_foot); on_goal 2 => rfl)
    | ((with_reducible apply Foot.after State.setUpd_foot); on_goal 2 => rfl)
    | ((with_reducible apply Foot.after State.noSchedule_foot); on_goal 2 => rfl)
    | fail_if_no_progress (with_reducible refine Foot.mk' ?_)

theorem State.checkinCommit_foot {s : State} :
    Foot [.ports, .nvm, .upd, .grist] (some [5, 256, 257, 258, 259, 260, 261, 264, 266, 267]) s (State.checkinCommit s) := by
  unfold State.checkinCommit
  repeat' first
    | with_reducible exact Foot.refl _ _ _
    | ((with_reducible apply State.setPar_foot); on_goal 2 => first | rfl | (split <;> rfl))
    | ((with_reducible apply Foot.after State.updRecord_foot); on_goal 2 => rfl)
    | ((with_reducible apply Foot.after State.setBank_foot); on_goal 2 => rfl)
    | ((with_reducible apply Foot.after State.setUpd_foot); on_goal 2 => rfl)
    | fail_if_no_progress (with_reducible refine Foot.mk' ?_)
    | split

theorem opUpdStatus_foot {x0 : Op} {s : State} :
    Foot [.ports, .hopper] (some [385]) s (opUpdStatus x0 s) := by
  unfold opUpdStatus
  repeat' first
    | with_reducible exact Foot.refl _ _ _
    | ((with_reducible apply Foot.after State.ok_foot); on_goal 2 => rfl)
    | ((with_reducible apply Foot.after State.fail_foot); on_goal 2 => rfl)
    | split

/-! ## Time -/

theorem State.clockBit_foot {x1 : Nat} {s : State} :
    Foot [] (some [352]) s (State.clockBit s x1) := by
  unfold State.clockBit
  repeat' first
    | with_reducible exact Foot.refl _ _ _
    | ((with_reducible apply State.setBit_foot); on_goal 2 => first | rfl | (split <;> rfl))

theorem State.modTime_foot {x1 : TimeState → TimeState} {s : State} :
    Foot [.time] (some []) s (State.modTime s x1) := by
  unfold State.modTime
  repeat' first
    | with_reducible exact Foot.refl _ _ _
    | fail_if_no_progress (with_reducible refine Foot.mk' ?_)

theorem State.recordAwake_foot {x1 : Nat} {x2 : Nat} {x3 : Nat} {x4 : List Snap} {s : State} :
    Foot [.ports, .grist] (some [5, 257, 258, 260, 261, 264]) s (State.recordAwake s x1 x2 x3 x4) := by
  unfold State.recordAwake
  repeat' first
    | with_reducible exact Foot.refl _ _ _
    | ((with_reducible apply Foot.after State.record_foot); on_goal 2 => rfl)
    | fail_if_no_progress (with_reducible refine Foot.mk' ?_)
    | split

theorem State.latchTick_foot {x1 : Nat} {x2 : Bool} {s : State} :
    Foot [.time] (some []) s (State.latchTick s x1 x2) := by
  unfold State.latchTick
  repeat' first
    | with_reducible exact Foot.refl _ _ _
    | ((with_reducible apply Foot.after State.modTime_foot); on_goal 2 => rfl)

theorem State.tickCommit_foot {s : State} :
    Foot [.time] (some [361]) s (State.tickCommit s) := by
  unfold State.tickCommit
  repeat' first
    | with_reducible exact Foot.refl _ _ _
    | ((with_reducible apply State.setPar_foot); on_goal 2 => first | rfl | (split <;> rfl))
    | ((with_reducible apply Foot.after State.modTime_foot); on_goal 2 => rfl)

theorem opTimeSet_foot {x0 : Op} {s : State} :
    Foot [.ports, .time, .hopper, .nvm, .grist] (some [5, 257, 258, 260, 261, 264, 355, 357, 385]) s (opTimeSet x0 s) := by
  unfold opTimeSet
  repeat' first
    | with_reducible exact Foot.refl _ _ _
    | ((with_reducible apply State.setPar_foot); on_goal 2 => first | rfl | (split <;> rfl))
    | ((with_reducible apply State.incPar_foot); on_goal 2 => first | rfl | (split <;> rfl))
    | ((with_reducible apply Foot.after State.opCommit_foot); on_goal 2 => rfl)
    | ((with_reducible apply Foot.after State.record_foot); on_goal 2 => rfl)
    | ((with_reducible apply Foot.after State.ok_foot); on_goal 2 => rfl)
    | ((with_reducible apply Foot.after State.askOnce_foot); on_goal 2 => rfl)
    | ((with_reducible apply Foot.after State.fail_foot); on_goal 2 => rfl)
    | ((with_reducible apply Foot.after State.modTime_foot); on_goal 2 => rfl)
    | split

theorem opTimeGet_foot {x0 : Op} {s : State} :
    Foot [.ports, .hopper] (some [385]) s (opTimeGet x0 s) := by
  unfold opTimeGet
  repeat' first
    | with_reducible exact Foot.refl _ _ _
    | ((with_reducible apply Foot.after State.ok_foot); on_goal 2 => rfl)
    | ((with_reducible apply Foot.after State.fail_foot); on_goal 2 => rfl)
    | split

/-! ## SequenceRows -/

theorem State.pollLow_foot {x1 : Nat} {s : State} :
    Foot [.ports, .grist, .rails] (some [5, 256, 257, 258, 260, 261, 264, 265, 270]) s (State.pollLow s x1) := by
  unfold State.pollLow
  repeat' first
    | with_reducible exact Foot.refl _ _ _
    | ((with_reducible apply Foot.after State.pgFall_foot); on_goal 2 => rfl)
    | ((with_reducible apply Foot.after State.downFail_foot); on_goal 2 => rfl)
    | ((with_reducible apply Foot.after State.modRail_foot); on_goal 2 => rfl)
    | split

theorem State.pollHigh_foot {x1 : Nat} {s : State} :
    Foot [.rails] (some [265]) s (State.pollHigh s x1) := by
  unfold State.pollHigh
  repeat' first
    | with_reducible exact Foot.refl _ _ _
    | ((with_reducible apply State.incPar_foot); on_goal 2 => first | rfl | (split <;> rfl))
    | ((with_reducible apply Foot.after State.pgRise_foot); on_goal 2 => rfl)
    | ((with_reducible apply Foot.after State.modRail_foot); on_goal 2 => rfl)
    | split

theorem State.cogUp_foot {s : State} :
    Foot [.miller, .phases, .flume, .segs, .seq, .ports, .pols, .feeders, .hopper, .nvm, .upd, .wheel, .strings, .auths, .trace, .grist, .dresser, .loops, .rails] (some [1, 2, 5, 256, 257, 258, 259, 260, 261, 264, 266, 267, 270, 272, 281, 288, 305, 307, 308, 310, 320, 321, 325, 385]) s (State.cogUp s) := by
  unfold State.cogUp
  repeat' first
    | with_reducible exact Foot.refl _ _ _
    | with_reducible apply Foot.ite
    | ((with_reducible apply Foot.after State.l3Restart_foot); on_goal 2 => rfl)
    | ((with_reducible apply Foot.after State.brakeComplete_foot); on_goal 2 => rfl)
    | ((with_reducible apply Foot.after State.cogStep_foot); on_goal 2 => rfl)

theorem State.cogRequest_foot {s : State} :
    Foot [.miller, .phases, .flume, .segs, .seq, .ports, .pols, .feeders, .hopper, .nvm, .upd, .wheel, .strings, .auths, .trace, .grist, .dresser, .loops, .rails] (some [1, 2, 5, 256, 257, 258, 259, 260, 261, 264, 266, 267, 270, 272, 281, 288, 305, 307, 308, 310, 320, 321, 325, 333, 385]) s (State.cogRequest s) := by
  unfold State.cogRequest
  repeat' first
    | with_reducible exact Foot.refl _ _ _
    | ((with_reducible apply Foot.after State.cogUp_foot); on_goal 2 => rfl)
    | ((with_reducible apply Foot.after State.brakeCause_foot); on_goal 2 => rfl)
    | ((with_reducible apply Foot.after State.cogStep_foot); on_goal 2 => rfl)
    | split

theorem State.cogReset_foot {s : State} :
    Foot [.miller, .phases, .flume, .segs, .seq, .ports, .pols, .feeders, .hopper, .nvm, .upd, .wheel, .strings, .auths, .trace, .grist, .dresser, .loops, .rails] (some [1, 2, 5, 256, 257, 258, 259, 260, 261, 264, 266, 267, 270, 272, 281, 288, 305, 307, 308, 310, 320, 321, 324, 325, 385]) s (State.cogReset s) := by
  unfold State.cogReset
  repeat' first
    | with_reducible exact Foot.refl _ _ _
    | ((with_reducible apply State.setBit_foot); on_goal 2 => first | rfl | (split <;> rfl))
    | ((with_reducible apply Foot.after State.cogUp_foot); on_goal 2 => rfl)

theorem State.forceOff_foot {x1 : ResetCause} {x2 : Nat} {s : State} :
    Foot [.miller, .phases, .flume, .segs, .seq, .ports, .pols, .time, .feeders, .hopper, .nvm, .timers, .upd, .wheel, .strings, .trace, .grist, .loops, .supply, .rails] (some [1, 5, 256, 257, 258, 259, 260, 261, 264, 270, 305, 307, 308, 310, 333, 385]) s (State.forceOff s x1 x2) := by
  have a : Foot [.miller, .phases, .flume, .segs, .seq, .ports, .pols, .time, .feeders, .hopper, .nvm, .timers, .upd, .wheel, .strings, .trace, .grist, .loops, .supply, .rails] (some [1, 5, 256, 257, 258, 259, 260, 261, 264, 270, 305, 307, 308, 310, 333, 385]) s ((s.psdOutputsOff.csReset x1).setPar oShelf Pid.Shelf.SHUTDOWN_CAUSE x2) :=
    State.setPar_foot (((Foot.refl _ _ s).step State.psdOutputsOff_foot rfl).step State.csReset_foot rfl) rfl
  have b : s.cutNvm.nvm.mram = s.nvm.mram := State.cutNvm_foot.fld .mram rfl
  unfold State.forceOff
  refine ⟨fun f hf => ?_, fun l hl o pid hb hn => ?_⟩
  · cases f
    case mram => simp only [Fld.same]; exact b
    case nvm => exact absurd hf (by decide)
    all_goals (have := a.fld _ hf; simp only [Fld.same] at this ⊢; exact this)
  · have := a.par l hl o pid hb hn
    simp only [State.par] at this ⊢
    exact this

theorem opSeqPowerOff_foot {x0 : Op} {s : State} :
    Foot [.phases, .flume, .segs, .seq, .ports, .pols, .feeders, .hopper, .nvm, .upd, .wheel, .strings, .trace, .grist, .loops, .rails] (some [1, 2, 5, 256, 257, 258, 260, 261, 264, 270, 281, 288, 305, 307, 308, 310, 320, 321, 325, 333, 385]) s (opSeqPowerOff x0 s) := by
  unfold opSeqPowerOff
  repeat' first
    | with_reducible exact Foot.refl _ _ _
    | with_reducible apply Foot.ite
    | ((with_reducible apply Foot.after State.reply_foot); on_goal 2 => rfl)
    | ((with_reducible apply Foot.after State.opCommit_foot); on_goal 2 => rfl)
    | ((with_reducible apply Foot.after State.ok_foot); on_goal 2 => rfl)
    | ((with_reducible apply Foot.after State.brakeCause_foot); on_goal 2 => rfl)
    | ((with_reducible apply Foot.after State.modSeq_foot); on_goal 2 => rfl)
    | split

theorem opSeqStep_foot {x0 : Op} {s : State} :
    Foot [.phases, .flume, .segs, .seq, .ports, .pols, .feeders, .hopper, .nvm, .upd, .wheel, .strings, .trace, .grist, .loops, .rails] (some [1, 2, 5, 256, 257, 258, 260, 261, 264, 270, 281, 288, 305, 307, 308, 310, 320, 321, 385]) s (opSeqStep x0 s) := by
  unfold opSeqStep
  repeat' first
    | with_reducible exact Foot.refl _ _ _
    | ((with_reducible apply Foot.after State.reply_foot); on_goal 2 => rfl)
    | ((with_reducible apply Foot.after State.enterSeq_foot); on_goal 2 => rfl)
    | ((with_reducible apply Foot.after State.opRunning_foot); on_goal 2 => rfl)
    | ((with_reducible apply Foot.after State.stepTaken_foot); on_goal 2 => rfl)
    | ((with_reducible apply Foot.after State.modSeq_foot); on_goal 2 => rfl)
    | split

/-! ## Downstream -/

theorem State.frameError_foot {x1 : Nat} {s : State} :
    Foot [.downs] (some [260]) s (State.frameError s x1) := by
  unfold State.frameError
  repeat' first
    | with_reducible exact Foot.refl _ _ _
    | ((with_reducible apply State.incPar_foot); on_goal 2 => first | rfl | (split <;> rfl))
    | ((with_reducible apply Foot.after State.modDown_foot); on_goal 2 => rfl)

theorem State.arbLost_foot {x1 : Nat} {x2 : Nat} {x3 : Nat} {s : State} :
    Foot [.downs] (some [258, 260, 261, 262]) s (State.arbLost s x1 x2 x3) := by
  unfold State.arbLost
  repeat' first
    | with_reducible exact Foot.refl _ _ _
    | with_reducible apply Foot.ite
    | ((with_reducible apply State.setPar_foot); on_goal 2 => first | rfl | (split <;> rfl))
    | ((with_reducible apply State.incPar_foot); on_goal 2 => first | rfl | (split <;> rfl))
    | ((with_reducible apply State.setBit_foot); on_goal 2 => first | rfl | (split <;> rfl))
    | ((with_reducible apply Foot.after State.modDown_foot); on_goal 2 => rfl)
    | ((with_reducible apply Foot.after State.frameError_foot); on_goal 2 => rfl)

theorem State.portRecord_foot {x1 : Nat} {s : State} :
    Foot [.ports, .grist] (some [5, 257, 258, 260, 261, 264]) s (State.portRecord s x1) := by
  unfold State.portRecord
  repeat' first
    | with_reducible exact Foot.refl _ _ _
    | ((with_reducible apply Foot.after State.record_foot); on_goal 2 => rfl)

theorem State.moduleSilent_foot {x1 : Nat} {s : State} :
    Foot [.modules, .ports, .grist] (some [5, 257, 258, 260, 261, 264]) s (State.moduleSilent s x1) := by
  unfold State.moduleSilent
  repeat' first
    | with_reducible exact Foot.refl _ _ _
    | ((with_reducible apply Foot.after State.modModule_foot); on_goal 2 => rfl)
    | ((with_reducible apply Foot.after State.moduleRecord_foot); on_goal 2 => rfl)
    | split

theorem State.portFault_foot {x1 : Nat} {x2 : Bool} {s : State} :
    Foot [.flume, .modules, .ports, .hopper, .downs, .trace, .grist, .loops] (some [1, 2, 5, 256, 257, 258, 260, 261, 264, 305, 307, 385]) s (State.portFault s x1 x2) := by
  unfold State.portFault
  repeat' first
    | with_reducible exact Foot.refl _ _ _
    | with_reducible assumption
    | with_reducible apply Foot.ite
    | ((with_reducible apply State.setPar_foot); on_goal 2 => first | rfl | (split <;> rfl))
    | ((with_reducible apply State.setBit_foot); on_goal 2 => first | rfl | (split <;> rfl))
    | with_reducible apply State.eachOf_foot
    | ((with_reducible apply Foot.after State.modDown_foot); on_goal 2 => rfl)
    | ((with_reducible apply Foot.after State.setObj_foot); on_goal 2 => rfl)
    | ((with_reducible apply Foot.after State.portRecord_foot); on_goal 2 => rfl)
    | ((with_reducible apply Foot.after State.latchFault_foot); on_goal 2 => rfl)
    | ((with_reducible apply Foot.after State.moduleSilent_foot); on_goal 2 => rfl)
    | (intro _ _ _; try dsimp only)

theorem State.satHeld_foot {x1 : Nat} {x2 : Nat} {x3 : Nat} {s : State} :
    Foot [.sats, .flume, .ports, .hopper, .trace, .grist, .loops] (some [1, 2, 5, 257, 258, 260, 261, 264, 305, 307, 385]) s (State.satHeld s x1 x2 x3) := by
  unfold State.satHeld
  repeat' first
    | with_reducible exact Foot.refl _ _ _
    | ((with_reducible apply State.setPar_foot); on_goal 2 => first | rfl | (split <;> rfl))
    | ((with_reducible apply Foot.after State.setObj_foot); on_goal 2 => rfl)
    | ((with_reducible apply Foot.after State.updRecord_foot); on_goal 2 => rfl)
    | ((with_reducible apply Foot.after State.modSat_foot); on_goal 2 => rfl)
    | ((with_reducible apply Foot.after State.latchFault_foot); on_goal 2 => rfl)

theorem State.satSelect_foot {x1 : Nat} {s : State} :
    Foot [.nvm, .upd] (some []) s (State.satSelect s x1) := by
  unfold State.satSelect
  repeat' first
    | with_reducible exact Foot.refl _ _ _
    | ((with_reducible apply Foot.after State.askConfig_foot); on_goal 2 => rfl)
    | fail_if_no_progress (with_reducible refine Foot.mk' ?_)
    | split

theorem State.satSend_foot {x1 : Nat} {x2 : Bool} {x3 : SatAnswer} {x4 : SatImage} {s : State} :
    Foot [.sats, .flume, .ports, .hopper, .trace, .draws, .grist, .loops] (some [1, 2, 5, 257, 258, 259, 260, 261, 264, 305, 307, 385]) s (State.satSend s x1 x2 x3 x4) := by
  unfold State.satSend
  repeat' first
    | with_reducible exact Foot.refl _ _ _
    | with_reducible apply Foot.ite
    | ((with_reducible apply State.setPar_foot); on_goal 2 => first | rfl | (split <;> rfl))
    | ((with_reducible apply State.incPar_foot); on_goal 2 => first | rfl | (split <;> rfl))
    | ((with_reducible apply Foot.after State.setObj_foot); on_goal 2 => rfl)
    | ((with_reducible apply Foot.after State.clearFaults_foot); on_goal 2 => rfl)
    | ((with_reducible apply Foot.after State.drawBytes_foot); on_goal 2 => rfl)
    | ((with_reducible apply Foot.after State.satHeld_foot); on_goal 2 => rfl)
    | ((with_reducible apply Foot.after State.modSat_foot); on_goal 2 => rfl)

end Sys2Proof.Machine
end

