-- ==== Sys2Proof/Laws/FootC.lean ====
section
/-! SUPPORT. What an operation may change: one lemma for each operation of Nvm, Transition, Thermal, Budget, Fantail, Ports, Supply, Params, Yaster, Boot, Startup. -/

namespace Sys2Proof.Machine

set_option Elab.async false

/-! ## Nvm -/

theorem State.noteWritten_foot {x1 : NvmWork} {s : State} :
    Foot [.nvm] (some []) s (State.noteWritten s x1) := by
  unfold State.noteWritten
  repeat' first
    | with_reducible exact Foot.refl _ _ _
    | with_reducible assumption
    | with_reducible apply State.eachOf_foot
    | ((with_reducible apply Foot.after State.journalWrite_foot); on_goal 2 => rfl)
    | fail_if_no_progress (with_reducible refine Foot.mk' ?_)
    | (intro _ _ _; try dsimp only)

theorem State.startWrite_foot {x1 : NvmReq} {s : State} :
    Foot [.hopper, .nvm, .upd, .supply] (some []) s (State.startWrite s x1) := by
  unfold State.startWrite
  repeat' first
    | with_reducible exact Foot.refl _ _ _
    | ((with_reducible apply Foot.after State.opCommit_foot); on_goal 2 => rfl)
    | fail_if_no_progress (with_reducible refine Foot.mk' ?_)
    | split

theorem State.refuseWrite_foot {x1 : NvmReq} {x2 : Nat} {s : State} :
    Foot [.ports, .hopper, .nvm, .upd, .dresser] (some [256, 385]) s (State.refuseWrite s x1 x2) := by
  unfold State.refuseWrite
  dsimp only
  repeat' first
    | with_reducible exact Foot.refl _ _ _
    | ((with_reducible apply Foot.after State.modDresser_foot); on_goal 2 => rfl)
    | ((with_reducible apply Foot.after State.reply_foot); on_goal 2 => rfl)
    | ((with_reducible apply Foot.after State.closeEnds_foot); on_goal 2 => rfl)
    | ((with_reducible apply Foot.after State.askOnce_foot); on_goal 2 => rfl)
    | fail_if_no_progress (with_reducible refine Foot.mk' ?_)
    | split

theorem State.deferWrite_foot {x1 : NvmReq} {x2 : Nat} {x3 : Nat} {s : State} :
    Foot [.ports, .hopper, .nvm] (some [385]) s (State.deferWrite s x1 x2 x3) := by
  unfold State.deferWrite
  repeat' first
    | with_reducible exact Foot.refl _ _ _
    | ((with_reducible apply Foot.after State.reply_foot); on_goal 2 => rfl)
    | fail_if_no_progress (with_reducible refine Foot.mk' ?_)
    | split

theorem State.learnWaits_foot {s : State} :
    Foot [.strings] (some []) s (State.learnWaits s) := by
  unfold State.learnWaits
  repeat' first
    | with_reducible exact Foot.refl _ _ _
    | with_reducible assumption
    | with_reducible apply State.each_foot
    | ((with_reducible apply Foot.after State.modStr_foot); on_goal 2 => rfl)
    | (intro _ _ _; try dsimp only)

theorem State.publishWrites_foot {x1 : Option NvmReq} {x2 : List (NvmReq × Nat × Option Nat)} {s : State} :
    Foot [.ports, .hopper, .nvm, .upd, .strings, .dresser, .supply] (some [256, 385]) s (State.publishWrites s x1 x2) := by
  unfold State.publishWrites
  repeat' first
    | with_reducible exact Foot.refl _ _ _
    | with_reducible assumption
    | ((with_reducible apply Foot.after State.refuseWrite_foot); on_goal 2 => rfl)
    | ((with_reducible apply Foot.after State.learnWaits_foot); on_goal 2 => rfl)
    | ((with_reducible apply Foot.after State.startWrite_foot); on_goal 2 => rfl)
    | ((with_reducible apply Foot.after State.deferWrite_foot); on_goal 2 => rfl)
    | with_reducible apply Foot.foldl
    | (intro _ _ _; try dsimp only)
    | split

theorem State.configGen_foot {s : State} :
    Foot [] (some [260]) s (State.configGen s) := by
  unfold State.configGen
  repeat' first
    | with_reducible exact Foot.refl _ _ _
    | ((with_reducible apply State.updPar_foot); on_goal 2 => first | rfl | (split <;> rfl))

theorem State.configCommit_foot {x1 : List Nat} {s : State} :
    Foot [.nvm] (some [260]) s (State.configCommit s x1) := by
  unfold State.configCommit
  repeat' first
    | with_reducible exact Foot.refl _ _ _
    | ((with_reducible apply Foot.after State.configGen_foot); on_goal 2 => rfl)
    | fail_if_no_progress (with_reducible refine Foot.mk' ?_)

theorem State.imageCommit_foot {x1 : Nat} {x2 : Nat} {s : State} :
    Foot [.nvm] (some [260]) s (State.imageCommit s x1 x2) := by
  unfold State.imageCommit
  dsimp only
  repeat' first
    | with_reducible exact Foot.refl _ _ _
    | ((with_reducible apply Foot.after State.configGen_foot); on_goal 2 => rfl)
    | fail_if_no_progress (with_reducible refine Foot.mk' ?_)
    | split

theorem State.trackingCommit_foot {x1 : Nat} {s : State} :
    Foot [.nvm] (some [260]) s (State.trackingCommit s x1) := by
  unfold State.trackingCommit
  repeat' first
    | with_reducible exact Foot.refl _ _ _
    | ((with_reducible apply Foot.after State.configGen_foot); on_goal 2 => rfl)
    | fail_if_no_progress (with_reducible refine Foot.mk' ?_)

theorem State.batteryCommit_foot {x1 : List Nat} {x2 : Option Nat} {s : State} :
    Foot [.modules, .ports, .hopper, .nvm, .strings] (some [287, 385]) s (State.batteryCommit s x1 x2) := by
  unfold State.batteryCommit
  dsimp only
  repeat' first
    | with_reducible exact Foot.refl _ _ _
    | with_reducible assumption
    | ((with_reducible apply State.updPar_foot); on_goal 2 => first | rfl | (split <;> rfl))
    | with_reducible apply State.eachOf_foot
    | ((with_reducible apply Foot.after State.learnWaits_foot); on_goal 2 => rfl)
    | ((with_reducible apply Foot.after State.modModule_foot); on_goal 2 => rfl)
    | ((with_reducible apply Foot.after State.ok_foot); on_goal 2 => rfl)
    | fail_if_no_progress (with_reducible refine Foot.mk' ?_)
    | (intro _ _ _; try dsimp only)
    | split

theorem State.workCommit_foot {x1 : NvmReq} {s : State} :
    Foot [.miller, .phases, .flume, .modules, .segs, .seq, .ports, .pols, .time, .feeders, .hopper, .nvm, .timers, .mram, .upd, .life, .wheel, .strings, .auths, .trace, .grist, .dresser, .loops, .supply, .rails] none s (State.workCommit s x1) := by
  unfold State.workCommit
  repeat' first
    | with_reducible exact Foot.refl _ _ _
    | ((with_reducible apply Foot.after State.mirrorCommit_foot); on_goal 2 => rfl)
    | ((with_reducible apply Foot.after State.batteryCommit_foot); on_goal 2 => rfl)
    | ((with_reducible apply Foot.after State.imageCommit_foot); on_goal 2 => rfl)
    | ((with_reducible apply Foot.after State.cancelCommit_foot); on_goal 2 => rfl)
    | ((with_reducible apply Foot.after State.configCommit_foot); on_goal 2 => rfl)
    | ((with_reducible apply Foot.after State.firstCommit_foot); on_goal 2 => rfl)
    | ((with_reducible apply Foot.after State.configGen_foot); on_goal 2 => rfl)
    | ((with_reducible apply Foot.after State.trackingCommit_foot); on_goal 2 => rfl)
    | ((with_reducible apply Foot.after State.checkinCommit_foot); on_goal 2 => rfl)
    | ((with_reducible apply Foot.after State.stagedCommit_foot); on_goal 2 => rfl)
    | ((with_reducible apply Foot.after State.clearCommit_foot); on_goal 2 => rfl)
    | ((with_reducible apply Foot.after State.blockCommit_foot); on_goal 2 => rfl)
    | ((with_reducible apply Foot.after State.repairCommit_foot); on_goal 2 => rfl)
    | ((with_reducible apply Foot.after State.tickCommit_foot); on_goal 2 => rfl)
    | ((with_reducible apply Foot.after State.activateCommit_foot); on_goal 2 => rfl)
    | fail_if_no_progress (with_reducible refine Foot.mk' ?_)
    | split

theorem State.commitActive_foot {s : State} :
    Foot [.miller, .phases, .flume, .modules, .segs, .seq, .ports, .pols, .time, .feeders, .hopper, .nvm, .timers, .mram, .upd, .life, .wheel, .strings, .auths, .trace, .draws, .grist, .dresser, .loops, .supply, .rails] none s (State.commitActive s) := by
  unfold State.commitActive
  repeat' first
    | with_reducible exact Foot.refl _ _ _
    | with_reducible apply Foot.ite
    | ((with_reducible apply State.incPar_foot); on_goal 2 => first | rfl | (split <;> rfl))
    | ((with_reducible apply Foot.after State.noteWritten_foot); on_goal 2 => rfl)
    | ((with_reducible apply Foot.after State.saveStart_foot); on_goal 2 => rfl)
    | ((with_reducible apply Foot.after State.workCommit_foot); on_goal 2 => rfl)
    | fail_if_no_progress (with_reducible refine Foot.mk' ?_)
    | split

theorem State.romStart_foot {s : State} :
    Foot [.hopper, .nvm, .upd, .supply] (some []) s (State.romStart s) := by
  unfold State.romStart
  repeat' first
    | with_reducible exact Foot.refl _ _ _
    | ((with_reducible apply Foot.after State.startWrite_foot); on_goal 2 => rfl)
    | split

theorem State.holdBit_foot {x1 : Nat} {s : State} :
    Foot [] (some [336]) s (State.holdBit s x1) := by
  unfold State.holdBit
  repeat' first
    | with_reducible exact Foot.refl _ _ _
    | ((with_reducible apply State.setBit_foot); on_goal 2 => first | rfl | (split <;> rfl))

theorem State.supplyRecord_foot {s : State} :
    Foot [.ports, .grist] (some [5, 257, 258, 260, 261, 264]) s (State.supplyRecord s) := by
  unfold State.supplyRecord
  repeat' first
    | with_reducible exact Foot.refl _ _ _
    | ((with_reducible apply Foot.after State.record_foot); on_goal 2 => rfl)

theorem State.choldResult_foot {x1 : Int} {s : State} :
    Foot [.ports, .grist] (some [5, 257, 258, 260, 261, 264, 334, 335, 336]) s (State.choldResult s x1) := by
  unfold State.choldResult
  repeat' first
    | with_reducible exact Foot.refl _ _ _
    | with_reducible apply Foot.ite
    | ((with_reducible apply State.setPar_foot); on_goal 2 => first | rfl | (split <;> rfl))
    | ((with_reducible apply Foot.after State.supplyRecord_foot); on_goal 2 => rfl)
    | ((with_reducible apply Foot.after State.raise_foot); on_goal 2 => rfl)
    | ((with_reducible apply Foot.after State.holdBit_foot); on_goal 2 => rfl)

/-! ## Transition -/

theorem State.enterReturn_foot {s : State} :
    Foot [.miller, .phases, .flume, .modules, .segs, .seq, .ports, .pols, .time, .feeders, .hopper, .nvm, .timers, .mram, .upd, .life, .wheel, .strings, .auths, .trace, .draws, .grist, .dresser, .loops, .supply, .rails] none s (State.enterReturn s) := by
  unfold State.enterReturn
  repeat' first
    | with_reducible exact Foot.refl _ _ _
    | ((with_reducible apply State.setPar_foot); on_goal 2 => first | rfl | (split <;> rfl))
    | ((with_reducible apply Foot.after State.commitActive_foot); on_goal 2 => rfl)
    | ((with_reducible apply Foot.after State.csReset_foot); on_goal 2 => rfl)
    | ((with_reducible apply Foot.after State.mramClear_foot); on_goal 2 => rfl)
    | ((with_reducible apply Foot.after State.noSchedule_foot); on_goal 2 => rfl)
    | fail_if_no_progress (with_reducible refine Foot.mk' ?_)

theorem State.lcEnter_foot {x1 : Op} {x2 : Nat} {s : State} :
    Foot [.miller, .phases, .flume, .modules, .segs, .seq, .ports, .pols, .time, .feeders, .hopper, .nvm, .timers, .mram, .upd, .life, .wheel, .strings, .auths, .trace, .draws, .grist, .dresser, .loops, .supply, .rails] none s (State.lcEnter s x1 x2) := by
  unfold State.lcEnter
  repeat' first
    | with_reducible exact Foot.refl _ _ _
    | ((with_reducible apply State.setPar_foot); on_goal 2 => first | rfl | (split <;> rfl))
    | ((with_reducible apply Foot.after State.keyStatus_foot); on_goal 2 => rfl)
    | ((with_reducible apply Foot.after State.enterReturn_foot); on_goal 2 => rfl)
    | ((with_reducible apply Foot.after State.lifeRecord_foot); on_goal 2 => rfl)
    | ((with_reducible apply Foot.after State.dropDevelopment_foot); on_goal 2 => rfl)
    | fail_if_no_progress (with_reducible refine Foot.mk' ?_)
    | split

theorem opLcTransition_foot {x0 : Op} {s : State} :
    Foot [.miller, .phases, .flume, .modules, .segs, .seq, .ports, .pols, .time, .feeders, .hopper, .nvm, .timers, .mram, .upd, .life, .wheel, .strings, .auths, .trace, .draws, .grist, .dresser, .loops, .supply, .rails] none s (opLcTransition x0 s) := by
  unfold opLcTransition
  dsimp only
  repeat' first
    | with_reducible exact Foot.refl _ _ _
    | ((with_reducible apply Foot.after State.lcEnter_foot); on_goal 2 => rfl)
    | ((with_reducible apply Foot.after State.reply_foot); on_goal 2 => rfl)
    | ((with_reducible apply Foot.after State.opCommit_foot); on_goal 2 => rfl)
    | ((with_reducible apply Foot.after State.tokenFailed_foot); on_goal 2 => rfl)
    | ((with_reducible apply Foot.after State.drawBytes_foot); on_goal 2 => rfl)
    | ((with_reducible apply Foot.after State.ok_foot); on_goal 2 => rfl)
    | ((with_reducible apply Foot.after State.fail_foot); on_goal 2 => rfl)
    | ((with_reducible apply Foot.after State.keyWritten_foot); on_goal 2 => rfl)
    | fail_if_no_progress (with_reducible refine Foot.mk' ?_)
    | split

/-! ## Thermal -/

theorem State.thermalOperate_foot {x1 : Nat} {s : State} :
    Foot [.phases, .flume, .segs, .seq, .ports, .pols, .feeders, .hopper, .shelf, .nvm, .upd, .wheel, .strings, .trace, .grist, .loops, .rails] (some [1, 2, 5, 256, 257, 258, 259, 260, 261, 264, 270, 281, 288, 305, 307, 308, 310, 320, 321, 385]) s (State.thermalOperate s x1) := by
  unfold State.thermalOperate
  repeat' first
    | with_reducible exact Foot.refl _ _ _
    | ((with_reducible apply State.setBit_foot); on_goal 2 => first | rfl | (split <;> rfl))
    | ((with_reducible apply Foot.after State.enterThermal_foot); on_goal 2 => rfl)
    | ((with_reducible apply Foot.after State.recordAwake_foot); on_goal 2 => rfl)
    | split

theorem State.saveCutThermal_foot {x1 : Nat} {s : State} :
    Foot [.phases, .flume, .segs, .seq, .ports, .pols, .feeders, .hopper, .shelf, .nvm, .upd, .wheel, .strings, .trace, .grist, .loops, .supply, .rails] (some [1, 2, 5, 256, 257, 258, 259, 260, 261, 264, 270, 281, 288, 305, 307, 308, 310, 320, 321, 385]) s (State.saveCutThermal s x1) := by
  unfold State.saveCutThermal
  repeat' first
    | with_reducible exact Foot.refl _ _ _
    | ((with_reducible apply Foot.after State.tearSave_foot); on_goal 2 => rfl)
    | ((with_reducible apply Foot.after State.thermalOperate_foot); on_goal 2 => rfl)
    | fail_if_no_progress (with_reducible refine Foot.mk' ?_)
    | split

theorem State.thermalRecord_foot {x1 : Nat} {s : State} :
    Foot [.ports, .grist] (some [5, 257, 258, 260, 261, 264]) s (State.thermalRecord s x1) := by
  unfold State.thermalRecord
  repeat' first
    | with_reducible exact Foot.refl _ _ _
    | ((with_reducible apply Foot.after State.record_foot); on_goal 2 => rfl)

theorem State.sensorSample_foot {x1 : Nat} {x2 : Int} {x3 : Bool} {s : State} :
    Foot [.ports, .therms, .grist] (some [5, 256, 257, 258, 260, 261, 263, 264]) s (State.sensorSample s x1 x2 x3) := by
  unfold State.sensorSample
  repeat' first
    | with_reducible exact Foot.refl _ _ _
    | with_reducible apply Foot.ite
    | ((with_reducible apply State.setPar_foot); on_goal 2 => first | rfl | (split <;> rfl))
    | ((with_reducible apply State.updPar_foot); on_goal 2 => first | rfl | (split <;> rfl))
    | ((with_reducible apply State.setBit_foot); on_goal 2 => first | rfl | (split <;> rfl))
    | ((with_reducible apply Foot.after State.modTherm_foot); on_goal 2 => rfl)
    | ((with_reducible apply Foot.after State.thermalRecord_foot); on_goal 2 => rfl)

theorem State.latchSample_foot {x1 : Nat} {x2 : Int} {s : State} :
    Foot [.therms] (some []) s (State.latchSample s x1 x2) := by
  unfold State.latchSample
  repeat' first
    | with_reducible exact Foot.refl _ _ _
    | ((with_reducible apply Foot.after State.modTherm_foot); on_goal 2 => rfl)

theorem State.zoneStates_foot {s : State} :
    Foot [] (some [266]) s (State.zoneStates s) := by
  unfold State.zoneStates
  repeat' first
    | with_reducible exact Foot.refl _ _ _
    | ((with_reducible apply State.setPar_foot); on_goal 2 => first | rfl | (split <;> rfl))

theorem State.zoneEvaluate_foot {s : State} :
    Foot [.therms] (some [266]) s (State.zoneEvaluate s) := by
  unfold State.zoneEvaluate
  repeat' first
    | with_reducible exact Foot.refl _ _ _
    | with_reducible assumption
    | with_reducible apply State.each_foot
    | ((with_reducible apply Foot.after State.zoneStates_foot); on_goal 2 => rfl)
    | ((with_reducible apply Foot.after State.modTherm_foot); on_goal 2 => rfl)
    | (intro _ _ _; try dsimp only)

/-! ## Budget -/

theorem State.latchConsumers_foot {s : State} :
    Foot [.fantail] (some []) s (State.latchConsumers s) := by
  unfold State.latchConsumers
  repeat' first
    | with_reducible exact Foot.refl _ _ _
    | with_reducible assumption
    | with_reducible apply State.each_foot
    | ((with_reducible apply Foot.after State.modConsS_foot); on_goal 2 => rfl)
    | ((with_reducible apply Foot.after State.modConsF_foot); on_goal 2 => rfl)
    | (intro _ _ _; try dsimp only)

/-! ## Fantail -/

theorem State.publish_foot {x1 : Nat} {x2 : Nat} {x3 : Nat} {x4 : Nat} {x5 : Nat} {x6 : Int} {s : State} :
    Foot [.ports, .grist] (some [3, 5, 257, 258, 260, 261, 264]) s (State.publish s x1 x2 x3 x4 x5 x6) := by
  unfold State.publish
  repeat' first
    | with_reducible exact Foot.refl _ _ _
    | with_reducible apply Foot.ite
    | ((with_reducible apply State.setPar_foot); on_goal 2 => first | rfl | (split <;> rfl))
    | ((with_reducible apply Foot.after State.record_foot); on_goal 2 => rfl)
    | ((with_reducible apply Foot.after State.raise_foot); on_goal 2 => rfl)

theorem State.stringVerdict_foot {x1 : Nat} {x2 : SegPlan} {x3 : Nat} {s : State} :
    Foot [.draws] (some []) s (State.stringVerdict s x1 x2 x3).2 := by
  unfold State.stringVerdict
  repeat' first
    | with_reducible exact Foot.refl _ _ _
    | ((with_reducible apply Foot.after State.draw_foot); on_goal 2 => rfl)
    | split

theorem State.segVerdicts_foot {x1 : Nat} {x2 : SegPlan} {s : State} :
    Foot [.draws] (some []) s (State.segVerdicts s x1 x2).2 := by
  unfold State.segVerdicts
  repeat' first
    | with_reducible exact Foot.refl _ _ _
    | with_reducible assumption
    | with_reducible apply State.collect_foot
    | ((with_reducible apply Foot.after State.stringVerdict_foot); on_goal 2 => rfl)
    | (intro _ _ _; try dsimp only)

theorem State.writeMask_foot {x1 : Nat} {x2 : SegPlan} {s : State} :
    Foot [] (some [293, 294]) s (State.writeMask s x1 x2) := by
  unfold State.writeMask
  repeat' first
    | with_reducible exact Foot.refl _ _ _
    | ((with_reducible apply State.setPar_foot); on_goal 2 => first | rfl | (split <;> rfl))

theorem State.feederServed_foot {x1 : Nat} {s : State} :
    Foot [.fantail, .feeders] (some []) s (State.feederServed s x1) := by
  unfold State.feederServed
  repeat' first
    | with_reducible exact Foot.refl _ _ _
    | ((with_reducible apply Foot.after State.modFeeder_foot); on_goal 2 => rfl)
    | ((with_reducible apply Foot.after State.modConsF_foot); on_goal 2 => rfl)

theorem State.feederLost_foot {x1 : Nat} {s : State} :
    Foot [.fantail, .feeders] (some []) s (State.feederLost s x1) := by
  unfold State.feederLost
  repeat' first
    | with_reducible exact Foot.refl _ _ _
    | ((with_reducible apply Foot.after State.modFeeder_foot); on_goal 2 => rfl)
    | ((with_reducible apply Foot.after State.modConsF_foot); on_goal 2 => rfl)

theorem State.publishFeeder_foot {x1 : Verdict} {x2 : Nat} {s : State} :
    Foot [.fantail, .ports, .feeders, .grist] (some [3, 5, 257, 258, 260, 261, 264, 337]) s (State.publishFeeder s x1 x2) := by
  unfold State.publishFeeder
  repeat' first
    | with_reducible exact Foot.refl _ _ _
    | with_reducible apply Foot.ite
    | ((with_reducible apply State.setPar_foot); on_goal 2 => first | rfl | (split <;> rfl))
    | ((with_reducible apply Foot.after State.feederLost_foot); on_goal 2 => rfl)
    | ((with_reducible apply Foot.after State.serveDrop_foot); on_goal 2 => rfl)
    | ((with_reducible apply Foot.after State.feederServed_foot); on_goal 2 => rfl)
    | ((with_reducible apply Foot.after State.publish_foot); on_goal 2 => rfl)
    | ((with_reducible apply Foot.after State.modConsF_foot); on_goal 2 => rfl)
    | split

theorem State.publishString_foot {x1 : Verdict} {x2 : Nat} {s : State} :
    Foot [.fantail, .ports, .grist] (some [3, 5, 257, 258, 260, 261, 264, 268]) s (State.publishString s x1 x2) := by
  unfold State.publishString
  dsimp only
  repeat' first
    | with_reducible exact Foot.refl _ _ _
    | ((with_reducible apply State.setPar_foot); on_goal 2 => first | rfl | (split <;> rfl))
    | ((with_reducible apply Foot.after State.publish_foot); on_goal 2 => rfl)
    | ((with_reducible apply Foot.after State.modConsS_foot); on_goal 2 => rfl)
    | split

theorem State.publishVerdict_foot {x1 : Verdict} {s : State} :
    Foot [.fantail, .ports, .feeders, .grist] (some [3, 5, 257, 258, 260, 261, 264, 268, 337]) s (State.publishVerdict s x1) := by
  unfold State.publishVerdict
  repeat' first
    | with_reducible exact Foot.refl _ _ _
    | ((with_reducible apply Foot.after State.publishFeeder_foot); on_goal 2 => rfl)
    | ((with_reducible apply Foot.after State.publish_foot); on_goal 2 => rfl)
    | ((with_reducible apply Foot.after State.publishString_foot); on_goal 2 => rfl)
    | split

theorem State.publishFigures_foot {x1 : SegFigures} {s : State} :
    Foot [] (some [288, 289, 290, 291]) s (State.publishFigures s x1) := by
  unfold State.publishFigures
  repeat' first
    | with_reducible exact Foot.refl _ _ _
    | ((with_reducible apply State.setPar_foot); on_goal 2 => first | rfl | (split <;> rfl))

theorem State.budgetRecord_foot {x1 : Nat} {x2 : Nat} {s : State} :
    Foot [.ports, .grist] (some [5, 257, 258, 260, 261, 264]) s (State.budgetRecord s x1 x2) := by
  unfold State.budgetRecord
  repeat' first
    | with_reducible exact Foot.refl _ _ _
    | ((with_reducible apply Foot.after State.record_foot); on_goal 2 => rfl)

theorem State.publishFlags_foot {x1 : TickPlan} {s : State} :
    Foot [.fantail, .ports, .grist] (some [5, 257, 258, 260, 261, 264]) s (State.publishFlags s x1) := by
  unfold State.publishFlags
  repeat' first
    | with_reducible exact Foot.refl _ _ _
    | with_reducible apply Foot.ite
    | ((with_reducible apply Foot.after State.budgetRecord_foot); on_goal 2 => rfl)
    | fail_if_no_progress (with_reducible refine Foot.mk' ?_)
    | split

theorem State.reefStep_foot {x1 : Nat} {s : State} :
    Foot [.loops] (some [279]) s (State.reefStep s x1) := by
  unfold State.reefStep
  repeat' first
    | with_reducible exact Foot.refl _ _ _
    | ((with_reducible apply State.incPar_foot); on_goal 2 => first | rfl | (split <;> rfl))
    | ((with_reducible apply Foot.after State.modLoop_foot); on_goal 2 => rfl)

theorem State.reefDue_foot {x1 : Nat} {x2 : Nat} {x3 : PhaseAux → PhaseAux} {x4 : Bool} {s : State} :
    Foot [.phases, .loops] (some [279]) s (State.reefDue s x1 x2 x3 x4) := by
  unfold State.reefDue
  repeat' first
    | with_reducible exact Foot.refl _ _ _
    | ((with_reducible apply Foot.after State.reefStep_foot); on_goal 2 => rfl)
    | ((with_reducible apply Foot.after State.modPhase_foot); on_goal 2 => rfl)
    | ((with_reducible apply Foot.after State.modLoop_foot); on_goal 2 => rfl)
    | split

theorem State.reefLoop_foot {x1 : Nat} {x2 : Nat} {s : State} :
    Foot [.phases, .loops] (some [279]) s (State.reefLoop s x1 x2) := by
  unfold State.reefLoop
  repeat' first
    | with_reducible exact Foot.refl _ _ _
    | with_reducible apply Foot.ite
    | ((with_reducible apply Foot.after State.modLoop_foot); on_goal 2 => rfl)
    | ((with_reducible apply Foot.after State.reefDue_foot); on_goal 2 => rfl)
    | split

theorem State.laneCapTick_foot {s : State} :
    Foot [.phases] (some []) s (State.laneCapTick s) := by
  unfold State.laneCapTick
  repeat' first
    | with_reducible exact Foot.refl _ _ _
    | with_reducible assumption
    | with_reducible apply State.each_foot
    | ((with_reducible apply Foot.after State.modPhase_foot); on_goal 2 => rfl)
    | (intro _ _ _; try dsimp only)
    | split

theorem State.floatTick_foot {s : State} :
    Foot [.flume, .ports, .hopper, .nvm, .wheel, .grist, .loops, .supply] (some [5, 256, 257, 258, 260, 261, 264, 305, 307, 320, 325, 385]) s (State.floatTick s) := by
  unfold State.floatTick
  repeat' first
    | with_reducible exact Foot.refl _ _ _
    | with_reducible apply Foot.ite
    | ((with_reducible apply State.setPar_foot); on_goal 2 => first | rfl | (split <;> rfl))
    | ((with_reducible apply Foot.after State.floatLeave_foot); on_goal 2 => rfl)
    | fail_if_no_progress (with_reducible refine Foot.mk' ?_)

theorem State.publishBist_foot {x1 : BistVerdict} {x2 : List Nat} {s : State} :
    Foot [.ports, .hopper, .dresser] (some [385]) s (State.publishBist s x1 x2) := by
  unfold State.publishBist
  repeat' first
    | with_reducible exact Foot.refl _ _ _
    | ((with_reducible apply Foot.after State.dresserGrant_foot); on_goal 2 => rfl)
    | ((with_reducible apply Foot.after State.bistReplies_foot); on_goal 2 => rfl)
    | split

theorem State.publishAct_foot {x1 : ActVerdict} {s : State} :
    Foot [.seq, .ports, .hopper, .nvm, .upd, .grist] (some [5, 256, 257, 258, 260, 261, 263, 264, 265, 385]) s (State.publishAct s x1) := by
  unfold State.publishAct
  repeat' first
    | with_reducible exact Foot.refl _ _ _
    | ((with_reducible apply Foot.after State.activateRefused_foot); on_goal 2 => rfl)
    | ((with_reducible apply Foot.after State.scheduleReply_foot); on_goal 2 => rfl)
    | ((with_reducible apply Foot.after State.activateGrant_foot); on_goal 2 => rfl)
    | split

theorem State.supplyReadings_foot {x1 : Nat} {x2 : Nat} {s : State} :
    Foot [] (some [331, 332]) s (State.supplyReadings s x1 x2) := by
  unfold State.supplyReadings
  repeat' first
    | with_reducible exact Foot.refl _ _ _
    | ((with_reducible apply State.setPar_foot); on_goal 2 => first | rfl | (split <;> rfl))

theorem State.nextMs_foot {s : State} :
    Foot [.ports, .time, .timers] (some [257, 265]) s (State.nextMs s) := by
  unfold State.nextMs
  repeat' first
    | with_reducible exact Foot.refl _ _ _
    | ((with_reducible apply Foot.after State.passTime_foot); on_goal 2 => rfl)

theorem State.noteMill_foot {s : State} :
    Foot [.supply] (some []) s (State.noteMill s) := by
  unfold State.noteMill
  repeat' first
    | with_reducible exact Foot.refl _ _ _
    | fail_if_no_progress (with_reducible refine Foot.mk' ?_)

theorem State.actTaken_foot {x1 : ActVerdict} {s : State} :
    Foot [.seq, .nvm, .upd] (some [256]) s (State.actTaken s x1) := by
  unfold State.actTaken
  repeat' first
    | with_reducible exact Foot.refl _ _ _
    | ((with_reducible apply Foot.after State.activateGrant_foot); on_goal 2 => rfl)
    | split

theorem State.computePlan_foot {x1 : Bool} {s : State} :
    Foot [.seq, .fantail, .hopper, .nvm, .upd, .draws, .supply] (some [256, 293, 294]) s (State.computePlan s x1) := by
  unfold State.computePlan
  repeat' first
    | with_reducible exact Foot.refl _ _ _
    | with_reducible assumption
    | ((with_reducible apply State.updPar_foot); on_goal 2 => first | rfl | (split <;> rfl))
    | with_reducible apply State.collect_foot
    | ((with_reducible apply Foot.after State.segVerdicts_foot); on_goal 2 => rfl)
    | ((with_reducible apply Foot.after State.writeMask_foot); on_goal 2 => rfl)
    | ((with_reducible apply Foot.after State.latchConsumers_foot); on_goal 2 => rfl)
    | with_reducible apply Foot.foldl
    | fail_if_no_progress (with_reducible refine Foot.mk' ?_)
    | (intro _ _ _; try dsimp only)

theorem State.publishPlan_foot {s : State} :
    Foot [.phases, .seq, .fantail, .ports, .feeders, .hopper, .nvm, .upd, .strings, .grist, .dresser, .loops, .supply] (some [3, 5, 256, 257, 258, 260, 261, 263, 264, 265, 268, 279, 288, 289, 290, 291, 337, 385]) s (State.publishPlan s) := by
  unfold State.publishPlan
  repeat' first
    | with_reducible exact Foot.refl _ _ _
    | with_reducible assumption
    | ((with_reducible apply State.setPar_foot); on_goal 2 => first | rfl | (split <;> rfl))
    | ((with_reducible apply Foot.after State.publishAct_foot); on_goal 2 => rfl)
    | ((with_reducible apply Foot.after State.publishBist_foot); on_goal 2 => rfl)
    | ((with_reducible apply Foot.after State.publishFlags_foot); on_goal 2 => rfl)
    | ((with_reducible apply Foot.after State.publishVerdict_foot); on_goal 2 => rfl)
    | ((with_reducible apply Foot.after State.publishFigures_foot); on_goal 2 => rfl)
    | ((with_reducible apply Foot.after State.reefLoop_foot); on_goal 2 => rfl)
    | ((with_reducible apply Foot.after State.publishWrites_foot); on_goal 2 => rfl)
    | with_reducible apply Foot.foldl
    | fail_if_no_progress (with_reducible refine Foot.mk' ?_)
    | (intro _ _ _; try dsimp only)
    | split

theorem State.fantailBody_foot {x1 : Bool} {s : State} :
    Foot [.phases, .flume, .seq, .fantail, .ports, .feeders, .hopper, .therms, .nvm, .upd, .wheel, .strings, .draws, .grist, .dresser, .loops, .supply] none s (State.fantailBody s x1) := by
  unfold State.fantailBody
  repeat' first
    | with_reducible exact Foot.refl _ _ _
    | ((with_reducible apply Foot.after State.floatTick_foot); on_goal 2 => rfl)
    | ((with_reducible apply Foot.after State.fallDue_foot); on_goal 2 => rfl)
    | ((with_reducible apply Foot.after State.publishPlan_foot); on_goal 2 => rfl)
    | ((with_reducible apply Foot.after State.laneCapTick_foot); on_goal 2 => rfl)
    | ((with_reducible apply Foot.after State.driveReset_foot); on_goal 2 => rfl)
    | ((with_reducible apply Foot.after State.zoneEvaluate_foot); on_goal 2 => rfl)
    | ((with_reducible apply Foot.after State.computePlan_foot); on_goal 2 => rfl)
    | ((with_reducible apply Foot.after State.runTriggers_foot); on_goal 2 => rfl)

theorem State.planDrop_foot {s : State} :
    Foot [.fantail] (some []) s (State.planDrop s) := by
  unfold State.planDrop
  repeat' first
    | with_reducible exact Foot.refl _ _ _
    | fail_if_no_progress (with_reducible refine Foot.mk' ?_)

/-! ## Ports -/

theorem State.busStop_foot {x1 : HostPort} {s : State} :
    Foot [.ports] (some []) s (State.busStop s x1) := by
  unfold State.busStop
  repeat' first
    | with_reducible exact Foot.refl _ _ _
    | ((with_reducible apply Foot.after State.modPort_foot); on_goal 2 => rfl)
    | split

theorem State.named_foot {x1 : HostPort} {x2 : Fin 4} {x3 : BusSpeed} {s : State} :
    Foot [.ports] (some [271]) s (State.named s x1 x2 x3) := by
  unfold State.named
  repeat' first
    | with_reducible exact Foot.refl _ _ _
    | ((with_reducible apply State.setPar_foot); on_goal 2 => first | rfl | (split <;> rfl))
    | ((with_reducible apply Foot.after State.modPort_foot); on_goal 2 => rfl)

theorem State.transaction_foot {fs : List Fld} {ps : Option (List Nat)} {p : HostPort} {acc : HostAccess}
    {act : State → State} {s x : State} (h : Foot fs ps s x)
    (hs : footSub [.ports] (some [271]) fs ps = true)
    (hr : ∀ t, Foot fs ps s t → Foot fs ps s (act t)) :
    Foot fs ps s (x.transaction p acc act) := by
  unfold State.transaction
  repeat' first
    | with_reducible exact h
    | ((with_reducible apply Foot.after State.busStop_foot); on_goal 2 => exact footSub_trans (by rfl) hs)
    | with_reducible apply hr
    | ((with_reducible apply Foot.after State.named_foot); on_goal 2 => exact footSub_trans (by rfl) hs)
    | split

theorem State.windowViolation_foot {x1 : HostPort} {x2 : Nat} {x3 : Nat} {x4 : Nat} {s : State} :
    Foot [.ports, .grist] (some [5, 257, 258, 260, 261, 264, 267, 386, 388, 390]) s (State.windowViolation s x1 x2 x3 x4) := by
  unfold State.windowViolation
  repeat' first
    | with_reducible exact Foot.refl _ _ _
    | ((with_reducible apply State.incPar_foot); on_goal 2 => first | rfl | (split <;> rfl))
    | ((with_reducible apply Foot.after State.violation_foot); on_goal 2 => rfl)
    | split

theorem State.consumeReply_foot {x1 : HostPort} {x2 : Nat} {s : State} :
    Foot [.ports, .hopper] (some []) s (State.consumeReply s x1 x2) := by
  unfold State.consumeReply
  repeat' first
    | with_reducible exact Foot.refl _ _ _
    | ((with_reducible apply Foot.after State.modPort_foot); on_goal 2 => rfl)
    | ((with_reducible apply Foot.after State.dropOp_foot); on_goal 2 => rfl)
    | split

theorem State.clearAlert_foot {x1 : HostPort} {s : State} :
    Foot [.ports] (some []) s (State.clearAlert s x1) := by
  unfold State.clearAlert
  repeat' first
    | with_reducible exact Foot.refl _ _ _
    | ((with_reducible apply Foot.after State.modPort_foot); on_goal 2 => rfl)

theorem State.windowRead_foot {x1 : HostPort} {s : State} :
    Foot [.ports] (some []) s (State.windowRead s x1).2 := by
  unfold State.windowRead
  repeat' first
    | with_reducible exact Foot.refl _ _ _
    | with_reducible apply Foot.ite
    | ((with_reducible apply Foot.after State.modPort_foot); on_goal 2 => rfl)
    | ((with_reducible apply Foot.after State.clearAlert_foot); on_goal 2 => rfl)

theorem State.windowReads_foot {x1 : HostPort} {x2 : Nat} {s : State} :
    Foot [.ports] (some []) s (s.windowReads x1 x2).2 := by
  induction x2 with
  | zero => exact Foot.refl _ _ _
  | succ n ih =>
    unfold State.windowReads
    exact ih.step State.windowRead_foot rfl

theorem State.readData_foot {x1 : HostPort} {x2 : Nat} {x3 : Bool} {s : State} :
    Foot [.ports, .hopper] (some []) s (State.readData s x1 x2 x3).2 := by
  unfold State.readData
  repeat' first
    | with_reducible exact Foot.refl _ _ _
    | with_reducible apply Foot.ite
    | ((with_reducible apply Foot.after State.windowReads_foot); on_goal 2 => rfl)
    | ((with_reducible apply Foot.after State.consumeReply_foot); on_goal 2 => rfl)
    | split

theorem State.drive_foot {x1 : HostPort} {x2 : Bytes} {s : State} :
    Foot [.ports] (some []) s (State.drive s x1 x2) := by
  unfold State.drive
  repeat' first
    | with_reducible exact Foot.refl _ _ _
    | ((with_reducible apply Foot.after State.modPort_foot); on_goal 2 => rfl)

theorem State.setPointer_foot {x1 : HostPort} {x2 : Byte} {s : State} :
    Foot [.ports] (some []) s (State.setPointer s x1 x2) := by
  unfold State.setPointer
  repeat' first
    | with_reducible exact Foot.refl _ _ _
    | ((with_reducible apply Foot.after State.modPort_foot); on_goal 2 => rfl)

theorem State.plainRead_foot {x1 : HostPort} {x2 : Nat} {s : State} :
    Foot [.ports, .hopper] (some []) s (State.plainRead s x1 x2) := by
  unfold State.plainRead
  repeat' first
    | with_reducible exact Foot.refl _ _ _
    | ((with_reducible apply Foot.after State.drive_foot); on_goal 2 => rfl)
    | ((with_reducible apply Foot.after State.readData_foot); on_goal 2 => rfl)

theorem State.pecRead_foot {x1 : HostPort} {x2 : BitVec 7} {x3 : Byte} {x4 : Byte} {x5 : Nat} {s : State} :
    Foot [.ports, .hopper] (some []) s (State.pecRead s x1 x2 x3 x4 x5) := by
  unfold State.pecRead
  repeat' first
    | with_reducible exact Foot.refl _ _ _
    | ((with_reducible apply Foot.after State.drive_foot); on_goal 2 => rfl)
    | ((with_reducible apply Foot.after State.readData_foot); on_goal 2 => rfl)
    | ((with_reducible apply Foot.after State.setPointer_foot); on_goal 2 => rfl)

theorem State.failedRead_foot {x1 : HostPort} {x2 : Byte} {x3 : Nat} {s : State} :
    Foot [.ports, .grist] (some [5, 257, 258, 260, 261, 264, 267, 386, 388, 390]) s (State.failedRead s x1 x2 x3) := by
  unfold State.failedRead
  repeat' first
    | with_reducible exact Foot.refl _ _ _
    | ((with_reducible apply Foot.after State.windowViolation_foot); on_goal 2 => rfl)
    | ((with_reducible apply Foot.after State.drive_foot); on_goal 2 => rfl)

theorem State.streamByte_foot {x1 : HostPort} {x2 : Byte} {s : State} :
    Foot [.ports] (some [270]) s (State.streamByte s x1 x2) := by
  unfold State.streamByte
  repeat' first
    | with_reducible exact Foot.refl _ _ _
    | with_reducible apply Foot.ite
    | ((with_reducible apply Foot.after State.modPort_foot); on_goal 2 => rfl)
    | ((with_reducible apply Foot.after State.discarded_foot); on_goal 2 => rfl)

theorem State.doorbell_foot {x1 : HostPort} {s : State} :
    Foot [.ports, .hopper, .grist] (some [5, 257, 258, 260, 261, 264, 386, 388, 390, 391]) s (State.doorbell s x1) := by
  unfold State.doorbell
  repeat' first
    | with_reducible exact Foot.refl _ _ _
    | with_reducible apply Foot.ite
    | ((with_reducible apply Foot.after State.modPort_foot); on_goal 2 => rfl)
    | ((with_reducible apply Foot.after State.submitBytes_foot); on_goal 2 => rfl)

theorem State.discard_foot {x1 : HostPort} {s : State} :
    Foot [.ports] (some []) s (State.discard s x1) := by
  unfold State.discard
  repeat' first
    | with_reducible exact Foot.refl _ _ _
    | ((with_reducible apply Foot.after State.modPort_foot); on_goal 2 => rfl)

theorem State.maskWrite_foot {x1 : HostPort} {x2 : Byte} {s : State} :
    Foot [.nvm] (some [265]) s (State.maskWrite s x1 x2) := by
  unfold State.maskWrite
  repeat' first
    | with_reducible exact Foot.refl _ _ _
    | with_reducible apply Foot.ite
    | ((with_reducible apply State.setPar_foot); on_goal 2 => first | rfl | (split <;> rfl))
    | ((with_reducible apply Foot.after State.askConfig_foot); on_goal 2 => rfl)

theorem State.byteWrite_foot {x1 : HostPort} {x2 : Nat} {x3 : Byte} {s : State} :
    Foot [.ports, .hopper, .nvm, .grist] (some [5, 257, 258, 260, 261, 264, 265, 270, 386, 388, 390, 391]) s (State.byteWrite s x1 x2 x3) := by
  unfold State.byteWrite
  repeat' first
    | with_reducible exact Foot.refl _ _ _
    | ((with_reducible apply Foot.after State.doorbell_foot); on_goal 2 => rfl)
    | ((with_reducible apply Foot.after State.discard_foot); on_goal 2 => rfl)
    | ((with_reducible apply Foot.after State.streamByte_foot); on_goal 2 => rfl)
    | ((with_reducible apply Foot.after State.maskWrite_foot); on_goal 2 => rfl)
    | split

theorem State.writeData_foot {x1 : HostPort} {x2 : Bool} {x3 : Byte} {x4 : Bytes} {s : State} :
    Foot [.ports, .hopper, .nvm, .grist] (some [5, 257, 258, 260, 261, 264, 265, 267, 270, 386, 388, 390, 391]) s (s.writeData x1 x2 x3 x4) := by
  unfold State.writeData
  have h0 : Foot [.ports, .hopper, .nvm, .grist] (some [5, 257, 258, 260, 261, 264, 265, 267, 270, 386, 388, 390, 391]) s (s.setPointer x1 x3, false).1 :=
    (Foot.refl _ _ _).step State.setPointer_foot rfl
  generalize (s.setPointer x1 x3, false) = y at h0 ⊢
  generalize x4.length = n
  induction x4 generalizing y with
  | nil => exact h0
  | cons b l ih =>
    refine ih _ ?_
    unfold State.dataByte
    dsimp only
    repeat' first
      | with_reducible exact h0
      | ((with_reducible apply Foot.after State.setPointer_foot); on_goal 2 => rfl)
      | ((with_reducible apply Foot.after State.windowViolation_foot); on_goal 2 => rfl)
      | ((with_reducible apply Foot.after State.byteWrite_foot); on_goal 2 => rfl)
      | split

theorem State.write_foot {x1 : HostPort} {x2 : HostAccess} {x3 : Byte} {x4 : Bytes} {s : State} :
    Foot [.ports, .hopper, .nvm, .grist] (some [5, 257, 258, 260, 261, 264, 265, 267, 270, 271, 386, 388, 390, 391]) s (State.write s x1 x2 x3 x4) := by
  unfold State.write
  repeat' first
    | with_reducible exact Foot.refl _ _ _
    | with_reducible assumption
    | ((with_reducible apply State.transaction_foot); on_goal 2 => rfl)
    | ((with_reducible apply Foot.after State.windowViolation_foot); on_goal 2 => rfl)
    | ((with_reducible apply Foot.after State.writeData_foot); on_goal 2 => rfl)
    | (intro _ _; try dsimp only)
    | split

theorem State.readRow_foot {x1 : HostPort} {x2 : HostAccess} {x3 : ReadForm} {x4 : Byte} {x5 : Nat} {s : State} :
    Foot [.ports, .hopper, .nvm, .grist] (some [5, 257, 258, 260, 261, 264, 265, 267, 270, 271, 386, 388, 390, 391]) s (State.readRow s x1 x2 x3 x4 x5) := by
  unfold State.readRow
  repeat' first
    | with_reducible exact Foot.refl _ _ _
    | with_reducible assumption
    | ((with_reducible apply State.transaction_foot); on_goal 2 => rfl)
    | ((with_reducible apply Foot.after State.windowViolation_foot); on_goal 2 => rfl)
    | ((with_reducible apply Foot.after State.writeData_foot); on_goal 2 => rfl)
    | ((with_reducible apply Foot.after State.pecRead_foot); on_goal 2 => rfl)
    | ((with_reducible apply Foot.after State.plainRead_foot); on_goal 2 => rfl)
    | ((with_reducible apply Foot.after State.setPointer_foot); on_goal 2 => rfl)
    | ((with_reducible apply Foot.after State.failedRead_foot); on_goal 2 => rfl)
    | (intro _ _; try dsimp only)
    | split

/-! ## Supply -/

theorem State.traceHalt_foot {s : State} :
    Foot [] (some [308]) s (State.traceHalt s) := by
  unfold State.traceHalt
  repeat' first
    | with_reducible exact Foot.refl _ _ _
    | ((with_reducible apply Foot.after State.traceEnd_foot); on_goal 2 => rfl)
    | split

theorem State.linkLoss_foot {s : State} :
    Foot [.phases, .flume, .segs, .ports, .feeders, .hopper, .nvm, .wheel, .strings, .trace, .grist, .loops] (some [1, 5, 256, 257, 258, 259, 260, 261, 264, 305, 307, 308, 310, 320, 385, 399]) s (State.linkLoss s) := by
  unfold State.linkLoss
  repeat' first
    | with_reducible exact Foot.refl _ _ _
    | ((with_reducible apply State.setPar_foot); on_goal 2 => first | rfl | (split <;> rfl))
    | ((with_reducible apply Foot.after State.stopConversion_foot); on_goal 2 => rfl)
    | ((with_reducible apply Foot.after State.traceHalt_foot); on_goal 2 => rfl)
    | ((with_reducible apply Foot.after State.spoilIntervals_foot); on_goal 2 => rfl)
    | ((with_reducible apply Foot.after State.floatLeave_foot); on_goal 2 => rfl)
    | ((with_reducible apply Foot.after State.flumeStop_foot); on_goal 2 => rfl)
    | split

theorem State.downCatchUp_foot {s : State} :
    Foot [.phases, .flume, .segs, .ports, .feeders, .hopper, .nvm, .wheel, .strings, .trace, .grist, .loops] (some [1, 2, 5, 256, 257, 258, 260, 261, 264, 281, 288, 305, 307, 308, 310, 385]) s (State.downCatchUp s) := by
  unfold State.downCatchUp
  repeat' first
    | with_reducible exact Foot.refl _ _ _
    | with_reducible assumption
    | ((with_reducible apply Foot.after State.powerDown_foot); on_goal 2 => rfl)
    | with_reducible apply Foot.foldl
    | (intro _ _ _; try dsimp only)
    | split

theorem State.linkRecords_foot {s : State} :
    Foot [.ports, .grist] (some [5, 257, 258, 260, 261, 264]) s (State.linkRecords s) := by
  unfold State.linkRecords
  repeat' first
    | with_reducible exact Foot.refl _ _ _
    | ((with_reducible apply Foot.after State.flushRecords_foot); on_goal 2 => rfl)
    | fail_if_no_progress (with_reducible refine Foot.mk' ?_)
    | split

theorem State.saveBegin_foot {x1 : Nat} {s : State} :
    Foot [.phases, .flume, .segs, .ports, .time, .hopper, .nvm, .wheel, .trace, .draws, .grist, .dresser, .loops, .supply] (some [1, 5, 256, 257, 258, 259, 260, 261, 264, 305, 307, 308, 310, 385]) s (State.saveBegin s x1) := by
  unfold State.saveBegin
  repeat' first
    | with_reducible exact Foot.refl _ _ _
    | with_reducible apply Foot.ite
    | ((with_reducible apply Foot.after State.modDresser_foot); on_goal 2 => rfl)
    | ((with_reducible apply Foot.after State.stopConversion_foot); on_goal 2 => rfl)
    | ((with_reducible apply Foot.after State.saveStart_foot); on_goal 2 => rfl)
    | ((with_reducible apply Foot.after State.traceHalt_foot); on_goal 2 => rfl)
    | fail_if_no_progress (with_reducible refine Foot.mk' ?_)

theorem State.sagAborts_foot {s : State} :
    Foot [.dresser, .supply] (some [336]) s (State.sagAborts s) := by
  unfold State.sagAborts
  repeat' first
    | with_reducible exact Foot.refl _ _ _
    | ((with_reducible apply Foot.after State.modDresser_foot); on_goal 2 => rfl)
    | ((with_reducible apply Foot.after State.holdBit_foot); on_goal 2 => rfl)
    | fail_if_no_progress (with_reducible refine Foot.mk' ?_)
    | split

theorem State.forgetCause_foot {s : State} :
    Foot [] (some [333]) s (State.forgetCause s) := by
  unfold State.forgetCause
  repeat' first
    | with_reducible exact Foot.refl _ _ _
    | ((with_reducible apply State.setPar_foot); on_goal 2 => first | rfl | (split <;> rfl))

theorem State.vaonOff_foot {s : State} :
    Foot [.miller, .phases, .flume, .segs, .seq, .ports, .pols, .time, .feeders, .hopper, .shelf, .nvm, .timers, .upd, .wheel, .strings, .trace, .grist, .dresser, .loops, .supply, .rails] (some [1, 5, 256, 257, 258, 259, 260, 261, 264, 270, 305, 307, 308, 310, 333, 385]) s (State.vaonOff s) := by
  unfold State.vaonOff
  repeat' first
    | with_reducible exact Foot.refl _ _ _
    | ((with_reducible apply Foot.after State.csReset_foot); on_goal 2 => rfl)
    | ((with_reducible apply Foot.after State.forgetCause_foot); on_goal 2 => rfl)
    | fail_if_no_progress (with_reducible refine Foot.mk' ?_)
    | split

theorem State.floatEnter_foot {s : State} :
    Foot [.phases, .flume, .ports, .hopper, .nvm, .wheel, .grist, .loops] none s (State.floatEnter s) := by
  unfold State.floatEnter
  repeat' first
    | with_reducible exact Foot.refl _ _ _
    | with_reducible assumption
    | with_reducible apply Foot.ite
    | ((with_reducible apply State.setPar_foot); on_goal 2 => first | rfl | (split <;> rfl))
    | ((with_reducible apply State.updPar_foot); on_goal 2 => first | rfl | (split <;> rfl))
    | with_reducible apply State.each_foot
    | with_reducible apply State.eachOf_foot
    | ((with_reducible apply Foot.after State.modPhase_foot); on_goal 2 => rfl)
    | ((with_reducible apply Foot.after State.modLoop_foot); on_goal 2 => rfl)
    | ((with_reducible apply Foot.after State.registerSwap_foot); on_goal 2 => rfl)
    | (intro _ _ _; try dsimp only)

theorem State.commitNow_foot {x1 : NvmWork} {s : State} :
    Foot [.miller, .phases, .flume, .modules, .segs, .seq, .ports, .pols, .time, .feeders, .hopper, .nvm, .timers, .mram, .upd, .life, .wheel, .strings, .auths, .trace, .grist, .dresser, .loops, .supply, .rails] none s (State.commitNow s x1) := by
  unfold State.commitNow
  repeat' first
    | with_reducible exact Foot.refl _ _ _
    | ((with_reducible apply State.incPar_foot); on_goal 2 => first | rfl | (split <;> rfl))
    | ((with_reducible apply Foot.after State.noteWritten_foot); on_goal 2 => rfl)
    | ((with_reducible apply Foot.after State.workCommit_foot); on_goal 2 => rfl)
    | fail_if_no_progress (with_reducible refine Foot.mk' ?_)

theorem State.mirrorAll_foot {s : State} :
    Foot [.miller, .phases, .flume, .modules, .segs, .seq, .ports, .pols, .time, .feeders, .hopper, .nvm, .timers, .mram, .upd, .life, .wheel, .strings, .auths, .trace, .grist, .dresser, .loops, .supply, .rails] none s (State.mirrorAll s) := by
  unfold State.mirrorAll
  repeat' first
    | with_reducible exact Foot.refl _ _ _
    | with_reducible assumption
    | ((with_reducible apply Foot.after State.commitNow_foot); on_goal 2 => rfl)
    | with_reducible apply Foot.foldl
    | (intro _ _ _; try dsimp only)
    | split

theorem State.watchEnter_foot {x1 : Nat} {s : State} :
    Foot [.miller, .phases, .flume, .modules, .segs, .seq, .ports, .pols, .time, .feeders, .hopper, .nvm, .timers, .mram, .upd, .life, .wheel, .strings, .auths, .trace, .draws, .grist, .dresser, .loops, .supply, .rails] none s (State.watchEnter s x1) := by
  unfold State.watchEnter
  repeat' first
    | with_reducible exact Foot.refl _ _ _
    | ((with_reducible apply State.setPar_foot); on_goal 2 => first | rfl | (split <;> rfl))
    | ((with_reducible apply Foot.after State.commitActive_foot); on_goal 2 => rfl)
    | ((with_reducible apply Foot.after State.mirrorAll_foot); on_goal 2 => rfl)
    | ((with_reducible apply Foot.after State.latchTick_foot); on_goal 2 => rfl)
    | ((with_reducible apply Foot.after State.commitNow_foot); on_goal 2 => rfl)
    | ((with_reducible apply Foot.after State.psdOutputsOff_foot); on_goal 2 => rfl)
    | fail_if_no_progress (with_reducible refine Foot.mk' ?_)

theorem State.restoreJournal_foot {x1 : Option SaveImage} {s : State} :
    Foot [.time] (some [352, 355, 356]) s (State.restoreJournal s x1) := by
  unfold State.restoreJournal
  repeat' first
    | with_reducible exact Foot.refl _ _ _
    | ((with_reducible apply State.setPar_foot); on_goal 2 => first | rfl | (split <;> rfl))
    | ((with_reducible apply Foot.after State.clockBit_foot); on_goal 2 => rfl)
    | ((with_reducible apply Foot.after State.modTime_foot); on_goal 2 => rfl)
    | split

theorem State.wakeTick_foot {x1 : BitVec 48} {x2 : Bool} {s : State} :
    Foot [.time] (some [352, 355, 356]) s (State.wakeTick s x1 x2) := by
  unfold State.wakeTick
  repeat' first
    | with_reducible exact Foot.refl _ _ _
    | ((with_reducible apply State.setPar_foot); on_goal 2 => first | rfl | (split <;> rfl))
    | ((with_reducible apply Foot.after State.restoreJournal_foot); on_goal 2 => rfl)
    | ((with_reducible apply Foot.after State.latchTick_foot); on_goal 2 => rfl)
    | ((with_reducible apply Foot.after State.modTime_foot); on_goal 2 => rfl)
    | split

theorem State.reloadConfig_foot {x1 : Nat} {x2 : List Nat} {s : State} :
    Foot [] none s (State.reloadConfig s x1 x2) := by
  unfold State.reloadConfig
  repeat' first
    | with_reducible exact Foot.refl _ _ _
    | with_reducible assumption
    | ((with_reducible apply State.setPar_foot); on_goal 2 => first | rfl | (split <;> rfl))
    | with_reducible apply State.eachOf_foot
    | (intro _ _ _; try dsimp only)

theorem State.retentionCheck_foot {x1 : BitVec 4} {s : State} :
    Foot [.ports, .grist, .supply] none s (State.retentionCheck s x1) := by
  unfold State.retentionCheck
  repeat' first
    | with_reducible exact Foot.refl _ _ _
    | with_reducible apply Foot.ite
    | ((with_reducible apply Foot.after State.supplyRecord_foot); on_goal 2 => rfl)
    | ((with_reducible apply Foot.after State.holdBit_foot); on_goal 2 => rfl)
    | ((with_reducible apply Foot.after State.reloadConfig_foot); on_goal 2 => rfl)
    | fail_if_no_progress (with_reducible refine Foot.mk' ?_)

theorem State.wake_foot {x1 : Nat} {x2 : BitVec 48} {x3 : BitVec 5} {s : State} :
    Foot [.phases, .flume, .segs, .seq, .ports, .time, .feeders, .hopper, .therms, .nvm, .wheel, .strings, .trace, .grist, .loops, .supply] none s (State.wake s x1 x2 x3) := by
  unfold State.wake
  repeat' first
    | with_reducible exact Foot.refl _ _ _
    | with_reducible assumption
    | with_reducible apply Foot.ite
    | ((with_reducible apply State.setPar_foot); on_goal 2 => first | rfl | (split <;> rfl))
    | with_reducible apply State.each_foot
    | ((with_reducible apply Foot.after State.linkLoss_foot); on_goal 2 => rfl)
    | ((with_reducible apply Foot.after State.supplyRecord_foot); on_goal 2 => rfl)
    | ((with_reducible apply Foot.after State.writeShutdown_foot); on_goal 2 => rfl)
    | ((with_reducible apply Foot.after State.retentionCheck_foot); on_goal 2 => rfl)
    | ((with_reducible apply Foot.after State.modTherm_foot); on_goal 2 => rfl)
    | ((with_reducible apply Foot.after State.raise_foot); on_goal 2 => rfl)
    | ((with_reducible apply Foot.after State.flushRecords_foot); on_goal 2 => rfl)
    | ((with_reducible apply Foot.after State.modSeq_foot); on_goal 2 => rfl)
    | ((with_reducible apply Foot.after State.wakeTick_foot); on_goal 2 => rfl)
    | fail_if_no_progress (with_reducible refine Foot.mk' ?_)
    | (intro _ _ _; try dsimp only)

/-! ## Params -/

theorem State.waitRestarts_foot {x1 : Nat} {s : State} :
    Foot [.fantail] (some []) s (State.waitRestarts s x1) := by
  unfold State.waitRestarts
  repeat' first
    | with_reducible exact Foot.refl _ _ _
    | ((with_reducible apply Foot.after State.modConsS_foot); on_goal 2 => rfl)
    | ((with_reducible apply Foot.after State.modConsF_foot); on_goal 2 => rfl)
    | split

theorem State.loopRestart_foot {x1 : Nat} {s : State} :
    Foot [.phases, .segs, .ports, .hopper, .loops] (some [1, 268, 385]) s (State.loopRestart s x1) := by
  unfold State.loopRestart
  repeat' first
    | with_reducible exact Foot.refl _ _ _
    | with_reducible assumption
    | with_reducible apply Foot.ite
    | ((with_reducible apply State.setPar_foot); on_goal 2 => first | rfl | (split <;> rfl))
    | with_reducible apply State.eachOf_foot
    | ((with_reducible apply Foot.after State.setObj_foot); on_goal 2 => rfl)
    | ((with_reducible apply Foot.after State.modPhase_foot); on_goal 2 => rfl)
    | ((with_reducible apply Foot.after State.slewsSettle_foot); on_goal 2 => rfl)
    | ((with_reducible apply Foot.after State.modLoop_foot); on_goal 2 => rfl)
    | ((with_reducible apply Foot.after State.modSeg_foot); on_goal 2 => rfl)
    | (intro _ _ _; try dsimp only)

theorem State.phaseClear_foot {x1 : Nat} {s : State} :
    Foot [.phases] (some [1, 2]) s (State.phaseClear s x1) := by
  unfold State.phaseClear
  repeat' first
    | with_reducible exact Foot.refl _ _ _
    | ((with_reducible apply Foot.after State.setObj_foot); on_goal 2 => rfl)
    | ((with_reducible apply Foot.after State.clearFaults_foot); on_goal 2 => rfl)
    | ((with_reducible apply Foot.after State.modPhase_foot); on_goal 2 => rfl)

theorem State.phaseEnable_foot {x1 : Nat} {x2 : Bool} {s : State} :
    Foot [.phases, .flume, .ports, .hopper, .nvm, .wheel, .trace, .grist, .loops] (some [1, 2, 5, 256, 257, 258, 260, 261, 264, 290, 291, 305, 307, 308, 310, 385]) s (State.phaseEnable s x1 x2) := by
  unfold State.phaseEnable
  repeat' first
    | with_reducible exact Foot.refl _ _ _
    | with_reducible apply Foot.ite
    | ((with_reducible apply Foot.after State.setObj_foot); on_goal 2 => rfl)
    | ((with_reducible apply Foot.after State.stopPhase_foot); on_goal 2 => rfl)
    | ((with_reducible apply Foot.after State.modPhase_foot); on_goal 2 => rfl)
    | ((with_reducible apply Foot.after State.phaseClear_foot); on_goal 2 => rfl)
    | ((with_reducible apply Foot.after State.syncAlone_foot); on_goal 2 => rfl)

theorem State.outerEnable_foot {x1 : Nat} {x2 : Bool} {s : State} :
    Foot [.phases, .flume, .segs, .ports, .hopper, .nvm, .wheel, .trace, .grist, .loops] (some [1, 5, 256, 257, 258, 260, 261, 264, 268, 305, 307, 308, 310, 385]) s (State.outerEnable s x1 x2) := by
  unfold State.outerEnable
  repeat' first
    | with_reducible exact Foot.refl _ _ _
    | with_reducible assumption
    | with_reducible apply Foot.ite
    | with_reducible apply State.eachOf_foot
    | ((with_reducible apply Foot.after State.slewEnd_foot); on_goal 2 => rfl)
    | ((with_reducible apply Foot.after State.setObj_foot); on_goal 2 => rfl)
    | ((with_reducible apply Foot.after State.outerIdle_foot); on_goal 2 => rfl)
    | ((with_reducible apply Foot.after State.stopPhase_foot); on_goal 2 => rfl)
    | ((with_reducible apply Foot.after State.loopRestart_foot); on_goal 2 => rfl)
    | (intro _ _ _; try dsimp only)

theorem State.segEnable_foot {x1 : Nat} {x2 : Bool} {s : State} :
    Foot [.phases, .flume, .segs, .ports, .hopper, .nvm, .wheel, .trace, .grist, .loops] (some [1, 2, 5, 256, 257, 258, 259, 260, 261, 264, 305, 307, 308, 310, 385]) s (State.segEnable s x1 x2) := by
  unfold State.segEnable
  repeat' first
    | with_reducible exact Foot.refl _ _ _
    | with_reducible apply Foot.ite
    | ((with_reducible apply Foot.after State.clearSegment_foot); on_goal 2 => rfl)
    | ((with_reducible apply Foot.after State.setObj_foot); on_goal 2 => rfl)
    | ((with_reducible apply Foot.after State.slewsSettle_foot); on_goal 2 => rfl)
    | ((with_reducible apply Foot.after State.stopConverter_foot); on_goal 2 => rfl)
    | ((with_reducible apply Foot.after State.modSeg_foot); on_goal 2 => rfl)

theorem State.enableChanged_foot {x1 : Nat} {x2 : Bool} {s : State} :
    Foot [.phases, .flume, .segs, .seq, .fantail, .ports, .pols, .feeders, .hopper, .nvm, .upd, .wheel, .strings, .auths, .trace, .grist, .dresser, .loops, .rails] (some [1, 2, 5, 256, 257, 258, 259, 260, 261, 264, 268, 270, 281, 288, 290, 291, 305, 307, 308, 310, 385]) s (State.enableChanged s x1 x2) := by
  unfold State.enableChanged
  repeat' first
    | with_reducible exact Foot.refl _ _ _
    | ((with_reducible apply Foot.after State.segEnable_foot); on_goal 2 => rfl)
    | ((with_reducible apply Foot.after State.phaseEnable_foot); on_goal 2 => rfl)
    | ((with_reducible apply Foot.after State.stringEnable_foot); on_goal 2 => rfl)
    | ((with_reducible apply Foot.after State.outerEnable_foot); on_goal 2 => rfl)
    | ((with_reducible apply Foot.after State.railEnable_foot); on_goal 2 => rfl)
    | ((with_reducible apply Foot.after State.feederEnable_foot); on_goal 2 => rfl)
    | ((with_reducible apply Foot.after State.portOff_foot); on_goal 2 => rfl)
    | ((with_reducible apply Foot.after State.waitRestarts_foot); on_goal 2 => rfl)
    | split

theorem State.setEnable_foot {x1 : Nat} {x2 : Bool} {s : State} :
    Foot [.phases, .flume, .segs, .seq, .fantail, .ports, .pols, .feeders, .hopper, .nvm, .upd, .wheel, .strings, .auths, .trace, .grist, .dresser, .loops, .rails] (some [1, 2, 5, 6, 256, 257, 258, 259, 260, 261, 264, 268, 270, 281, 288, 290, 291, 305, 307, 308, 310, 385]) s (State.setEnable s x1 x2) := by
  unfold State.setEnable
  repeat' first
    | with_reducible exact Foot.refl _ _ _
    | ((with_reducible apply State.setPar_foot); on_goal 2 => first | rfl | (split <;> rfl))
    | ((with_reducible apply Foot.after State.enableChanged_foot); on_goal 2 => rfl)
    | split

theorem State.calWritten_foot {x1 : Nat} {x2 : Nat} {s : State} :
    Foot [.phases, .segs, .feeders, .strings] none s (State.calWritten s x1 x2) := by
  unfold State.calWritten
  repeat' first
    | with_reducible exact Foot.refl _ _ _
    | ((with_reducible apply State.incPar_foot); on_goal 2 => first | rfl | (split <;> rfl))
    | ((with_reducible apply Foot.after State.modChan_foot); on_goal 2 => rfl)
    | split

theorem State.cogWritten_foot {x1 : Int} {s : State} :
    Foot [.phases, .flume, .segs, .seq, .ports, .pols, .feeders, .hopper, .nvm, .upd, .wheel, .strings, .trace, .grist, .loops, .rails] (some [1, 2, 5, 256, 257, 258, 260, 261, 264, 270, 281, 288, 305, 307, 308, 310, 320, 321, 385]) s (State.cogWritten s x1) := by
  unfold State.cogWritten
  repeat' first
    | with_reducible exact Foot.refl _ _ _
    | with_reducible apply Foot.ite
    | ((with_reducible apply State.setPar_foot); on_goal 2 => first | rfl | (split <;> rfl))
    | ((with_reducible apply Foot.after State.stepAlone_foot); on_goal 2 => rfl)
    | ((with_reducible apply Foot.after State.cogJoin_foot); on_goal 2 => rfl)
    | ((with_reducible apply Foot.after State.cogLeave_foot); on_goal 2 => rfl)

theorem State.walkHeld_foot {s : State} :
    Foot [.seq] (some [320, 321]) s (State.walkHeld s) := by
  unfold State.walkHeld
  repeat' first
    | with_reducible exact Foot.refl _ _ _
    | ((with_reducible apply State.setPar_foot); on_goal 2 => first | rfl | (split <;> rfl))
    | ((with_reducible apply Foot.after State.modSeq_foot); on_goal 2 => rfl)
    | split

theorem State.idCheck_foot {s : State} :
    Foot [.phases, .flume, .segs, .seq, .ports, .pols, .feeders, .hopper, .shelf, .nvm, .wheel, .strings, .trace, .grist, .loops, .rails] (some [1, 5, 256, 257, 258, 259, 260, 261, 262, 264, 270, 305, 307, 308, 310, 320, 321, 385]) s (State.idCheck s) := by
  unfold State.idCheck
  repeat' first
    | with_reducible exact Foot.refl _ _ _
    | with_reducible apply Foot.ite
    | ((with_reducible apply State.setPar_foot); on_goal 2 => first | rfl | (split <;> rfl))
    | ((with_reducible apply Foot.after State.walkHeld_foot); on_goal 2 => rfl)
    | ((with_reducible apply Foot.after State.holdAll_foot); on_goal 2 => rfl)
    | fail_if_no_progress (with_reducible refine Foot.mk' ?_)

theorem State.confirmCause_foot {s : State} :
    Foot [.shelf, .grist] (some []) s (State.confirmCause s) := by
  unfold State.confirmCause
  repeat' first
    | with_reducible exact Foot.refl _ _ _
    | fail_if_no_progress (with_reducible refine Foot.mk' ?_)
    | split

theorem State.confirm_foot {s : State} :
    Foot [.miller, .phases, .flume, .segs, .seq, .ports, .pols, .feeders, .hopper, .shelf, .nvm, .upd, .wheel, .strings, .trace, .grist, .loops, .rails] (some [1, 2, 5, 256, 257, 258, 260, 261, 264, 270, 281, 288, 305, 307, 308, 310, 320, 321, 385]) s (State.confirm s) := by
  unfold State.confirm
  repeat' first
    | with_reducible exact Foot.refl _ _ _
    | with_reducible apply Foot.ite
    | ((with_reducible apply Foot.after State.shift_foot); on_goal 2 => rfl)
    | ((with_reducible apply Foot.after State.record_foot); on_goal 2 => rfl)
    | ((with_reducible apply Foot.after State.confirmCause_foot); on_goal 2 => rfl)
    | fail_if_no_progress (with_reducible refine Foot.mk' ?_)

theorem State.modeRequest_foot {x1 : Int} {s : State} :
    Foot [.miller, .phases, .flume, .modules, .segs, .seq, .ports, .pols, .time, .feeders, .hopper, .nvm, .timers, .mram, .upd, .life, .wheel, .strings, .auths, .trace, .draws, .grist, .dresser, .loops, .supply, .rails] none s (State.modeRequest s x1) := by
  unfold State.modeRequest
  repeat' first
    | with_reducible exact Foot.refl _ _ _
    | ((with_reducible apply Foot.after State.draw_foot); on_goal 2 => rfl)
    | ((with_reducible apply Foot.after State.watchEnter_foot); on_goal 2 => rfl)
    | ((with_reducible apply Foot.after State.floatEnter_foot); on_goal 2 => rfl)
    | fail_if_no_progress (with_reducible refine Foot.mk' ?_)
    | split

theorem State.freqWritten_foot {x1 : Nat} {x2 : Nat} {s : State} :
    Foot [.phases, .wheel] (some [290, 291]) s (State.freqWritten s x1 x2) := by
  unfold State.freqWritten
  repeat' first
    | with_reducible exact Foot.refl _ _ _
    | ((with_reducible apply Foot.after State.modPhase_foot); on_goal 2 => rfl)
    | ((with_reducible apply Foot.after State.syncAlone_foot); on_goal 2 => rfl)

theorem State.countWritten_foot {x1 : Nat} {s : State} :
    Foot [.ports, .nvm, .strings, .grist] (some [1, 5, 257, 258, 259, 260, 261, 264]) s (State.countWritten s x1) := by
  unfold State.countWritten
  repeat' first
    | with_reducible exact Foot.refl _ _ _
    | ((with_reducible apply Foot.after State.stringWait_foot); on_goal 2 => rfl)
    | ((with_reducible apply Foot.after State.refreshTrust_foot); on_goal 2 => rfl)
    | split

theorem State.railWritten_foot {x1 : Nat} {x2 : Nat} {s : State} :
    Foot [.rails] (some [270]) s (State.railWritten s x1 x2) := by
  unfold State.railWritten
  repeat' first
    | with_reducible exact Foot.refl _ _ _
    | ((with_reducible apply Foot.after State.railEmpty_foot); on_goal 2 => rfl)
    | split

theorem State.compareWritten_foot {x1 : Nat} {x2 : Int} {x3 : Int} {s : State} :
    Foot [.timers] (some [259]) s (State.compareWritten s x1 x2 x3) := by
  unfold State.compareWritten
  repeat' first
    | with_reducible exact Foot.refl _ _ _
    | with_reducible apply Foot.ite
    | ((with_reducible apply State.setPar_foot); on_goal 2 => first | rfl | (split <;> rfl))
    | ((with_reducible apply Foot.after State.modTimer_foot); on_goal 2 => rfl)
    | split

theorem State.timerWritten_foot {x1 : Nat} {x2 : Nat} {x3 : Int} {x4 : Int} {s : State} :
    Foot [.timers] (some [259]) s (State.timerWritten s x1 x2 x3 x4) := by
  unfold State.timerWritten
  repeat' first
    | with_reducible exact Foot.refl _ _ _
    | ((with_reducible apply Foot.after State.compareWritten_foot); on_goal 2 => rfl)
    | ((with_reducible apply Foot.after State.modTimer_foot); on_goal 2 => rfl)
    | split

theorem State.written_foot {x1 : Nat} {x2 : Nat} {x3 : Int} {x4 : Int} {s : State} :
    Foot [.miller, .phases, .flume, .modules, .segs, .seq, .fantail, .ports, .pols, .time, .feeders, .hopper, .shelf, .nvm, .timers, .mram, .upd, .life, .wheel, .strings, .auths, .trace, .draws, .grist, .dresser, .loops, .supply, .rails] none s (State.written s x1 x2 x3 x4) := by
  unfold State.written
  repeat' first
    | with_reducible exact Foot.refl _ _ _
    | with_reducible assumption
    | ((with_reducible apply State.setPar_foot); on_goal 2 => first | rfl | (split <;> rfl))
    | with_reducible apply State.each_foot
    | ((with_reducible apply Foot.after State.modeRequest_foot); on_goal 2 => rfl)
    | ((with_reducible apply Foot.after State.shift_foot); on_goal 2 => rfl)
    | ((with_reducible apply Foot.after State.cogWritten_foot); on_goal 2 => rfl)
    | ((with_reducible apply Foot.after State.freqWritten_foot); on_goal 2 => rfl)
    | ((with_reducible apply Foot.after State.idCheck_foot); on_goal 2 => rfl)
    | ((with_reducible apply Foot.after State.outerIdle_foot); on_goal 2 => rfl)
    | ((with_reducible apply Foot.after State.railWritten_foot); on_goal 2 => rfl)
    | ((with_reducible apply Foot.after State.enableChanged_foot); on_goal 2 => rfl)
    | ((with_reducible apply Foot.after State.modFeeder_foot); on_goal 2 => rfl)
    | ((with_reducible apply Foot.after State.confirm_foot); on_goal 2 => rfl)
    | ((with_reducible apply Foot.after State.curveApply_foot); on_goal 2 => rfl)
    | ((with_reducible apply Foot.after State.modPol_foot); on_goal 2 => rfl)
    | ((with_reducible apply Foot.after State.countWritten_foot); on_goal 2 => rfl)
    | ((with_reducible apply Foot.after State.waitRestarts_foot); on_goal 2 => rfl)
    | ((with_reducible apply Foot.after State.syncLeave_foot); on_goal 2 => rfl)
    | ((with_reducible apply Foot.after State.timerWritten_foot); on_goal 2 => rfl)
    | (intro _ _ _; try dsimp only)
    | split

theorem State.clearBits_foot {x1 : Nat} {x2 : Nat} {x3 : Int} {s : State} :
    Foot [.phases, .segs, .feeders, .strings] none s (State.clearBits s x1 x2 x3) := by
  unfold State.clearBits
  repeat' first
    | with_reducible exact Foot.refl _ _ _
    | ((with_reducible apply State.setPar_foot); on_goal 2 => first | rfl | (split <;> rfl))
    | ((with_reducible apply Foot.after State.modChan_foot); on_goal 2 => rfl)
    | split

theorem State.writeParam_foot {x1 : Nat} {x2 : Desc} {x3 : Int} {s : State} :
    Foot [.miller, .phases, .flume, .modules, .segs, .seq, .fantail, .ports, .pols, .time, .feeders, .hopper, .shelf, .nvm, .timers, .mram, .upd, .life, .wheel, .strings, .auths, .trace, .draws, .grist, .dresser, .loops, .supply, .rails] none s (State.writeParam s x1 x2 x3) := by
  unfold State.writeParam
  repeat' first
    | with_reducible exact Foot.refl _ _ _
    | ((with_reducible apply State.setPar_foot); on_goal 2 => first | rfl | (split <;> rfl))
    | ((with_reducible apply Foot.after State.askConfig_foot); on_goal 2 => rfl)
    | ((with_reducible apply Foot.after State.clearBits_foot); on_goal 2 => rfl)
    | ((with_reducible apply Foot.after State.written_foot); on_goal 2 => rfl)
    | ((with_reducible apply Foot.after State.calWritten_foot); on_goal 2 => rfl)
    | split

theorem State.readEffect_foot {x1 : Nat} {x2 : Desc} {s : State} :
    Foot [.timers] none s (State.readEffect s x1 x2) := by
  unfold State.readEffect
  repeat' first
    | with_reducible exact Foot.refl _ _ _
    | ((with_reducible apply State.setPar_foot); on_goal 2 => first | rfl | (split <;> rfl))
    | ((with_reducible apply Foot.after State.modTimer_foot); on_goal 2 => rfl)
    | split

theorem opParamGet_foot {x0 : Op} {s : State} :
    Foot [.ports, .hopper, .timers] none s (opParamGet x0 s) := by
  unfold opParamGet
  repeat' first
    | with_reducible exact Foot.refl _ _ _
    | with_reducible apply Foot.ite
    | ((with_reducible apply Foot.after State.readEffect_foot); on_goal 2 => rfl)
    | ((with_reducible apply Foot.after State.ok_foot); on_goal 2 => rfl)
    | ((with_reducible apply Foot.after State.fail_foot); on_goal 2 => rfl)
    | split

theorem State.failViolation_foot {x1 : Op} {x2 : Nat} {s : State} :
    Foot [.ports, .hopper, .grist] (some [5, 257, 258, 260, 261, 264, 385, 386, 388, 390]) s (State.failViolation s x1 x2) := by
  unfold State.failViolation
  repeat' first
    | with_reducible exact Foot.refl _ _ _
    | ((with_reducible apply Foot.after State.violation_foot); on_goal 2 => rfl)
    | ((with_reducible apply Foot.after State.fail_foot); on_goal 2 => rfl)

theorem State.floatRefused_foot {x1 : Nat} {x2 : Desc} {x3 : Int} {s : State} :
    Foot [.flume, .ports, .hopper, .loops] (some [305, 307, 385]) s (State.floatRefused s x1 x2 x3) := by
  unfold State.floatRefused
  repeat' first
    | with_reducible exact Foot.refl _ _ _
    | ((with_reducible apply Foot.after State.flumeStop_foot); on_goal 2 => rfl)
    | split

theorem opParamSet_foot {x0 : Op} {s : State} :
    Foot [.miller, .phases, .flume, .modules, .segs, .seq, .fantail, .ports, .pols, .time, .feeders, .hopper, .shelf, .nvm, .timers, .mram, .upd, .life, .wheel, .strings, .auths, .trace, .draws, .grist, .dresser, .loops, .supply, .rails] none s (opParamSet x0 s) := by
  unfold opParamSet
  repeat' first
    | with_reducible exact Foot.refl _ _ _
    | with_reducible apply Foot.ite
    | ((with_reducible apply Foot.after State.reply_foot); on_goal 2 => rfl)
    | ((with_reducible apply Foot.after State.opCommit_foot); on_goal 2 => rfl)
    | ((with_reducible apply Foot.after State.writeParam_foot); on_goal 2 => rfl)
    | ((with_reducible apply Foot.after State.ok_foot); on_goal 2 => rfl)
    | ((with_reducible apply Foot.after State.floatRefused_foot); on_goal 2 => rfl)
    | ((with_reducible apply Foot.after State.fail_foot); on_goal 2 => rfl)
    | ((with_reducible apply Foot.after State.failViolation_foot); on_goal 2 => rfl)
    | split

theorem State.readEntries_foot {x1 : List (Nat × Nat)} {x2 x3 : Nat} {x4 : Bytes} {s : State} :
    Foot [.timers] none s (s.readEntries x1 x2 x3 x4).2.2 := by
  induction x1 generalizing s x2 x3 x4 with
  | nil => exact Foot.refl _ _ _
  | cons e l ih =>
    unfold State.readEntries
    split
    · exact Foot.refl _ _ _
    · dsimp only
      split
      · exact Foot.refl _ _ _
      · exact Foot.step (Foot.step (Foot.refl _ _ _) State.readEffect_foot rfl) ih rfl

theorem opParamGetMulti_foot {x0 : Op} {s : State} :
    Foot [.ports, .hopper, .timers] none s (opParamGetMulti x0 s) := by
  unfold opParamGetMulti
  dsimp only
  repeat' first
    | with_reducible exact Foot.refl _ _ _
    | ((with_reducible apply Foot.after State.reply_foot); on_goal 2 => rfl)
    | ((with_reducible apply Foot.after State.readEntries_foot); on_goal 2 => rfl)
    | ((with_reducible apply Foot.after State.ok_foot); on_goal 2 => rfl)
    | ((with_reducible apply Foot.after State.fail_foot); on_goal 2 => rfl)
    | split

theorem opObjState_foot {x0 : Op} {s : State} :
    Foot [.ports, .hopper] (some [385]) s (opObjState x0 s) := by
  unfold opObjState
  repeat' first
    | with_reducible exact Foot.refl _ _ _
    | ((with_reducible apply Foot.after State.ok_foot); on_goal 2 => rfl)
    | ((with_reducible apply Foot.after State.fail_foot); on_goal 2 => rfl)
    | split

theorem opObjEnable_foot {x0 : Bool} {x1 : Op} {s : State} :
    Foot [.phases, .flume, .segs, .seq, .fantail, .ports, .pols, .feeders, .hopper, .nvm, .upd, .wheel, .strings, .auths, .trace, .grist, .dresser, .loops, .rails] (some [1, 2, 5, 6, 256, 257, 258, 259, 260, 261, 264, 268, 270, 281, 288, 290, 291, 305, 307, 308, 310, 385, 386, 388, 390]) s (opObjEnable x0 x1 s) := by
  unfold opObjEnable
  repeat' first
    | with_reducible exact Foot.refl _ _ _
    | with_reducible apply Foot.ite
    | ((with_reducible apply Foot.after State.setEnable_foot); on_goal 2 => rfl)
    | ((with_reducible apply Foot.after State.opCommit_foot); on_goal 2 => rfl)
    | ((with_reducible apply Foot.after State.askConfig_foot); on_goal 2 => rfl)
    | ((with_reducible apply Foot.after State.ok_foot); on_goal 2 => rfl)
    | ((with_reducible apply Foot.after State.fail_foot); on_goal 2 => rfl)
    | ((with_reducible apply Foot.after State.failViolation_foot); on_goal 2 => rfl)
    | split

theorem State.clearObject_foot {x1 : Nat} {s : State} :
    Foot [.phases, .segs, .ports, .feeders, .hopper, .strings, .loops] (some [1, 2, 259, 268, 385]) s (State.clearObject s x1) := by
  unfold State.clearObject
  repeat' first
    | with_reducible exact Foot.refl _ _ _
    | ((with_reducible apply Foot.after State.clearSegment_foot); on_goal 2 => rfl)
    | ((with_reducible apply Foot.after State.stringClear_foot); on_goal 2 => rfl)
    | ((with_reducible apply Foot.after State.setObj_foot); on_goal 2 => rfl)
    | ((with_reducible apply Foot.after State.clearFaults_foot); on_goal 2 => rfl)
    | ((with_reducible apply Foot.after State.phaseClear_foot); on_goal 2 => rfl)
    | ((with_reducible apply Foot.after State.loopRestart_foot); on_goal 2 => rfl)
    | ((with_reducible apply Foot.after State.modLoop_foot); on_goal 2 => rfl)
    | ((with_reducible apply Foot.after State.feederClear_foot); on_goal 2 => rfl)
    | split

theorem opObjClearLatch_foot {x0 : Op} {s : State} :
    Foot [.phases, .segs, .ports, .feeders, .hopper, .strings, .loops] (some [1, 2, 259, 268, 385]) s (opObjClearLatch x0 s) := by
  unfold opObjClearLatch
  repeat' first
    | with_reducible exact Foot.refl _ _ _
    | with_reducible apply Foot.ite
    | ((with_reducible apply Foot.after State.reply_foot); on_goal 2 => rfl)
    | ((with_reducible apply Foot.after State.clearObject_foot); on_goal 2 => rfl)
    | ((with_reducible apply Foot.after State.opCommit_foot); on_goal 2 => rfl)
    | ((with_reducible apply Foot.after State.ok_foot); on_goal 2 => rfl)
    | ((with_reducible apply Foot.after State.fail_foot); on_goal 2 => rfl)
    | split

/-! ## Yaster -/

theorem opPing_foot {x0 : Op} {s : State} :
    Foot [.ports, .hopper] (some [385]) s (opPing x0 s) := by
  unfold opPing
  repeat' first
    | with_reducible exact Foot.refl _ _ _
    | ((with_reducible apply Foot.after State.ok_foot); on_goal 2 => rfl)
    | ((with_reducible apply Foot.after State.fail_foot); on_goal 2 => rfl)
    | split

theorem opIdent_foot {x0 : Op} {s : State} :
    Foot [.ports, .hopper] (some [385]) s (opIdent x0 s) := by
  unfold opIdent
  repeat' first
    | with_reducible exact Foot.refl _ _ _
    | ((with_reducible apply Foot.after State.ok_foot); on_goal 2 => rfl)
    | ((with_reducible apply Foot.after State.fail_foot); on_goal 2 => rfl)
    | split

theorem opLow_foot {x0 : Nat} {x1 : Op} {s : State} :
    Foot [.miller, .phases, .flume, .modules, .segs, .seq, .fantail, .ports, .pols, .time, .feeders, .hopper, .shelf, .nvm, .timers, .mram, .upd, .life, .wheel, .strings, .auths, .trace, .draws, .grist, .dresser, .loops, .supply, .rails] none s (opLow x0 x1 s) := by
  unfold opLow
  repeat' first
    | with_reducible exact Foot.refl _ _ _
    | ((with_reducible apply Foot.after opFlumeStart_foot); on_goal 2 => rfl)
    | ((with_reducible apply Foot.after opParamSet_foot); on_goal 2 => rfl)
    | ((with_reducible apply Foot.after opTailraceRead_foot); on_goal 2 => rfl)
    | ((with_reducible apply Foot.after opTailraceArm_foot); on_goal 2 => rfl)
    | ((with_reducible apply Foot.after opSetpointSlew_foot); on_goal 2 => rfl)
    | ((with_reducible apply Foot.after opParamGetMulti_foot); on_goal 2 => rfl)
    | ((with_reducible apply Foot.after opCoefBankSwap_foot); on_goal 2 => rfl)
    | ((with_reducible apply Foot.after opIdent_foot); on_goal 2 => rfl)
    | ((with_reducible apply Foot.after opObjClearLatch_foot); on_goal 2 => rfl)
    | ((with_reducible apply Foot.after opParamGet_foot); on_goal 2 => rfl)
    | ((with_reducible apply Foot.after opPing_foot); on_goal 2 => rfl)
    | ((with_reducible apply Foot.after opObjEnable_foot); on_goal 2 => rfl)
    | ((with_reducible apply Foot.after opCoefBankLoad_foot); on_goal 2 => rfl)
    | ((with_reducible apply Foot.after opObjState_foot); on_goal 2 => rfl)
    | split

theorem opMid_foot {x0 : Nat} {x1 : Op} {s : State} :
    Foot [.miller, .phases, .flume, .segs, .seq, .ports, .pols, .time, .feeders, .hopper, .nvm, .upd, .wheel, .strings, .auths, .trace, .draws, .grist, .dresser, .loops, .rails] (some [1, 2, 5, 256, 257, 258, 259, 260, 261, 264, 266, 267, 270, 272, 281, 288, 305, 307, 308, 310, 320, 321, 325, 333, 355, 357, 385]) s (opMid x0 x1 s) := by
  unfold opMid
  repeat' first
    | with_reducible exact Foot.refl _ _ _
    | ((with_reducible apply Foot.after opTimeGet_foot); on_goal 2 => rfl)
    | ((with_reducible apply Foot.after opBistRequest_foot); on_goal 2 => rfl)
    | ((with_reducible apply Foot.after opBattAuth_foot); on_goal 2 => rfl)
    | ((with_reducible apply Foot.after opGristClear_foot); on_goal 2 => rfl)
    | ((with_reducible apply Foot.after opSeqPowerOn_foot); on_goal 2 => rfl)
    | ((with_reducible apply Foot.after opTimeSet_foot); on_goal 2 => rfl)
    | ((with_reducible apply Foot.after opSeqStep_foot); on_goal 2 => rfl)
    | ((with_reducible apply Foot.after opGristTriggerSet_foot); on_goal 2 => rfl)
    | ((with_reducible apply Foot.after opSeqPowerOff_foot); on_goal 2 => rfl)
    | ((with_reducible apply Foot.after opGristRead_foot); on_goal 2 => rfl)
    | ((with_reducible apply Foot.after opBattLearnCommit_foot); on_goal 2 => rfl)
    | ((with_reducible apply Foot.after opBistResult_foot); on_goal 2 => rfl)
    | split

theorem opHigh_foot {x0 : Nat} {x1 : Op} {s : State} :
    Foot [.miller, .phases, .flume, .modules, .segs, .seq, .ports, .pols, .time, .feeders, .hopper, .nvm, .timers, .mram, .upd, .life, .wheel, .strings, .auths, .trace, .draws, .grist, .dresser, .loops, .supply, .rails] none s (opHigh x0 x1 s) := by
  unfold opHigh
  repeat' first
    | with_reducible exact Foot.refl _ _ _
    | ((with_reducible apply Foot.after opLcState_foot); on_goal 2 => rfl)
    | ((with_reducible apply Foot.after opUpdSchedule_foot); on_goal 2 => rfl)
    | ((with_reducible apply Foot.after opUpdBlock_foot); on_goal 2 => rfl)
    | ((with_reducible apply Foot.after opResultPoll_foot); on_goal 2 => rfl)
    | ((with_reducible apply Foot.after opUpdCancel_foot); on_goal 2 => rfl)
    | ((with_reducible apply Foot.after opUpdStatus_foot); on_goal 2 => rfl)
    | ((with_reducible apply Foot.after opAbort_foot); on_goal 2 => rfl)
    | ((with_reducible apply Foot.after opDebugUnlock_foot); on_goal 2 => rfl)
    | ((with_reducible apply Foot.after opLcTransition_foot); on_goal 2 => rfl)
    | ((with_reducible apply Foot.after opUpdOpen_foot); on_goal 2 => rfl)
    | ((with_reducible apply Foot.after opUpdClose_foot); on_goal 2 => rfl)
    | split

theorem opRun_foot {x0 : Nat} {x1 : Op} {s : State} :
    Foot [.miller, .phases, .flume, .modules, .segs, .seq, .fantail, .ports, .pols, .time, .feeders, .hopper, .shelf, .nvm, .timers, .mram, .upd, .life, .wheel, .strings, .auths, .trace, .draws, .grist, .dresser, .loops, .supply, .rails] none s (opRun x0 x1 s) := by
  unfold opRun
  repeat' first
    | with_reducible exact Foot.refl _ _ _
    | ((with_reducible apply Foot.after opHigh_foot); on_goal 2 => rfl)
    | ((with_reducible apply Foot.after opLow_foot); on_goal 2 => rfl)
    | ((with_reducible apply Foot.after opMid_foot); on_goal 2 => rfl)
    | split

/-! ## Boot -/

theorem State.coldParams_foot {s : State} :
    Foot [] none s (State.coldParams s) := by
  unfold State.coldParams
  repeat' first
    | with_reducible exact Foot.refl _ _ _
    | ((with_reducible apply State.setPar_foot); on_goal 2 => first | rfl | (split <;> rfl))
    | fail_if_no_progress (with_reducible refine Foot.mk' ?_)

theorem State.coldAux_foot {s : State} :
    Foot [.miller, .sats, .phases, .flume, .modules, .segs, .seq, .fantail, .ports, .pols, .feeders, .hopper, .therms, .shelf, .nvm, .timers, .life, .wheel, .strings, .auths, .downs, .trace, .dresser, .loops, .supply, .rails] (some []) s (State.coldAux s) := by
  unfold State.coldAux
  repeat' first
    | with_reducible exact Foot.refl _ _ _
    | fail_if_no_progress (with_reducible refine Foot.mk' ?_)

theorem State.bootStraps_foot {x1 : Nat} {s : State} :
    Foot [] (some [256, 257, 260]) s (State.bootStraps s x1) := by
  unfold State.bootStraps
  repeat' first
    | with_reducible exact Foot.refl _ _ _
    | ((with_reducible apply State.setPar_foot); on_goal 2 => first | rfl | (split <;> rfl))

theorem State.bootTrialFailed_foot {s : State} :
    Foot [.nvm, .upd] (some [259, 260, 266]) s (State.bootTrialFailed s) := by
  unfold State.bootTrialFailed
  repeat' first
    | with_reducible exact Foot.refl _ _ _
    | ((with_reducible apply State.incPar_foot); on_goal 2 => first | rfl | (split <;> rfl))
    | ((with_reducible apply Foot.after State.setBank_foot); on_goal 2 => rfl)
    | fail_if_no_progress (with_reducible refine Foot.mk' ?_)
    | split

theorem State.dropBanks_foot {x1 : List Nat} {s : State} :
    Foot [.nvm, .upd] (some [259, 260, 262]) s (State.dropBanks s x1) := by
  unfold State.dropBanks
  repeat' first
    | with_reducible exact Foot.refl _ _ _
    | with_reducible assumption
    | ((with_reducible apply State.setPar_foot); on_goal 2 => first | rfl | (split <;> rfl))
    | with_reducible apply State.eachOf_foot
    | ((with_reducible apply Foot.after State.setBank_foot); on_goal 2 => rfl)
    | fail_if_no_progress (with_reducible refine Foot.mk' ?_)
    | (intro _ _ _; try dsimp only)
    | split

theorem State.bootUpdate_foot {x1 : Nat} {s : State} :
    Foot [.nvm, .upd] (some [256, 259, 260, 261]) s (State.bootUpdate s x1) := by
  unfold State.bootUpdate
  repeat' first
    | with_reducible exact Foot.refl _ _ _
    | with_reducible apply Foot.ite
    | ((with_reducible apply State.setPar_foot); on_goal 2 => first | rfl | (split <;> rfl))
    | ((with_reducible apply Foot.after State.startCheckin_foot); on_goal 2 => rfl)
    | ((with_reducible apply Foot.after State.setBank_foot); on_goal 2 => rfl)
    | ((with_reducible apply Foot.after State.setUpd_foot); on_goal 2 => rfl)
    | ((with_reducible apply Foot.after State.updRest_foot); on_goal 2 => rfl)
    | fail_if_no_progress (with_reducible refine Foot.mk' ?_)

theorem State.bootRom_foot {s : State} :
    Foot [.phases, .flume, .segs, .ports, .feeders, .hopper, .nvm, .upd, .wheel, .strings, .trace, .grist, .loops, .supply] (some [1, 5, 256, 257, 258, 259, 260, 261, 264, 305, 307, 308, 310, 385]) s (State.bootRom s) := by
  unfold State.bootRom
  repeat' first
    | with_reducible exact Foot.refl _ _ _
    | ((with_reducible apply Foot.after State.psdOutputsOff_foot); on_goal 2 => rfl)
    | fail_if_no_progress (with_reducible refine Foot.mk' ?_)

theorem State.modAcc_foot {x1 : Nat} {x2 : Accum → Accum} {s : State} :
    Foot [.feeders, .strings] (some []) s (State.modAcc s x1 x2) := by
  unfold State.modAcc
  repeat' first
    | with_reducible exact Foot.refl _ _ _
    | ((with_reducible apply Foot.after State.modStr_foot); on_goal 2 => rfl)
    | ((with_reducible apply Foot.after State.modFeeder_foot); on_goal 2 => rfl)
    | split

theorem State.takeCounters_foot {x1 : List (Nat × Int)} {s : State} :
    Foot [.feeders, .strings] none s (State.takeCounters s x1) := by
  unfold State.takeCounters
  repeat' first
    | with_reducible exact Foot.refl _ _ _
    | with_reducible assumption
    | ((with_reducible apply State.setPar_foot); on_goal 2 => first | rfl | (split <;> rfl))
    | ((with_reducible apply Foot.after State.modAcc_foot); on_goal 2 => rfl)
    | with_reducible apply Foot.foldl
    | (intro _ _ _; try dsimp only)
    | split

theorem State.bootCounters_foot {x1 : Option SaveImage} {s : State} :
    Foot [.feeders, .strings] none s (State.bootCounters s x1) := by
  unfold State.bootCounters
  repeat' first
    | with_reducible exact Foot.refl _ _ _
    | with_reducible assumption
    | ((with_reducible apply State.setBit_foot); on_goal 2 => first | rfl | (split <;> rfl))
    | with_reducible apply State.eachOf_foot
    | ((with_reducible apply Foot.after State.takeCounters_foot); on_goal 2 => rfl)
    | (intro _ _ _; try dsimp only)
    | split

theorem State.takeBattery_foot {x1 : List (Nat × Int)} {s : State} :
    Foot [.modules, .strings] none s (State.takeBattery s x1) := by
  unfold State.takeBattery
  repeat' first
    | with_reducible exact Foot.refl _ _ _
    | with_reducible assumption
    | ((with_reducible apply State.setPar_foot); on_goal 2 => first | rfl | (split <;> rfl))
    | ((with_reducible apply Foot.after State.modStr_foot); on_goal 2 => rfl)
    | ((with_reducible apply Foot.after State.modModule_foot); on_goal 2 => rfl)
    | with_reducible apply Foot.foldl
    | (intro _ _ _; try dsimp only)
    | split

theorem State.bootBattery_foot {x1 : Option SaveImage} {s : State} :
    Foot [.modules, .nvm, .strings] none s (State.bootBattery s x1) := by
  unfold State.bootBattery
  repeat' first
    | with_reducible exact Foot.refl _ _ _
    | with_reducible assumption
    | with_reducible apply State.each_foot
    | with_reducible apply State.eachOf_foot
    | ((with_reducible apply Foot.after State.takeBattery_foot); on_goal 2 => rfl)
    | ((with_reducible apply Foot.after State.askNvm_foot); on_goal 2 => rfl)
    | ((with_reducible apply Foot.after State.staleUpdate_foot); on_goal 2 => rfl)
    | ((with_reducible apply Foot.after State.authAll_foot); on_goal 2 => rfl)
    | fail_if_no_progress (with_reducible refine Foot.mk' ?_)
    | (intro _ _ _; try dsimp only)
    | split

theorem State.bootConfigValues_foot {s : State} :
    Foot [] none s (State.bootConfigValues s) := by
  unfold State.bootConfigValues
  repeat' first
    | with_reducible exact Foot.refl _ _ _
    | with_reducible assumption
    | ((with_reducible apply State.setPar_foot); on_goal 2 => first | rfl | (split <;> rfl))
    | with_reducible apply State.eachOf_foot
    | (intro _ _ _; try dsimp only)
    | split

theorem State.bootImages_foot {s : State} :
    Foot [.loops] (some []) s (State.bootImages s) := by
  unfold State.bootImages
  repeat' first
    | with_reducible exact Foot.refl _ _ _
    | with_reducible assumption
    | with_reducible apply State.each_foot
    | ((with_reducible apply Foot.after State.modLoop_foot); on_goal 2 => rfl)
    | (intro _ _ _; try dsimp only)

theorem State.bootTick_foot {x1 : Bool} {x2 : Nat} {x3 : Option SaveImage} {s : State} :
    Foot [.time, .draws] (some [352, 355, 356]) s (State.bootTick s x1 x2 x3) := by
  unfold State.bootTick
  repeat' first
    | with_reducible exact Foot.refl _ _ _
    | ((with_reducible apply State.setPar_foot); on_goal 2 => first | rfl | (split <;> rfl))
    | ((with_reducible apply Foot.after State.draw_foot); on_goal 2 => rfl)
    | ((with_reducible apply Foot.after State.restoreJournal_foot); on_goal 2 => rfl)
    | ((with_reducible apply Foot.after State.latchTick_foot); on_goal 2 => rfl)
    | ((with_reducible apply Foot.after State.modTime_foot); on_goal 2 => rfl)
    | split

theorem State.bootAreas_foot {x1 : List Rec} {s : State} :
    Foot [.grist] (some [257, 258, 260, 261]) s (State.bootAreas s x1) := by
  unfold State.bootAreas
  repeat' first
    | with_reducible exact Foot.refl _ _ _
    | ((with_reducible apply Foot.after State.gristParams_foot); on_goal 2 => rfl)
    | fail_if_no_progress (with_reducible refine Foot.mk' ?_)

theorem State.bootGap_foot {s : State} :
    Foot [.nvm, .grist] (some []) s (State.bootGap s) := by
  unfold State.bootGap
  repeat' first
    | with_reducible exact Foot.refl _ _ _
    | fail_if_no_progress (with_reducible refine Foot.mk' ?_)

theorem State.bootGrist_foot {x1 : Option SaveImage} {s : State} :
    Foot [.nvm, .grist] (some [257, 258, 260, 261]) s (State.bootGrist s x1).2.2 := by
  unfold State.bootGrist
  repeat' first
    | with_reducible exact Foot.refl _ _ _
    | with_reducible apply Foot.ite
    | ((with_reducible apply Foot.after State.bootAreas_foot); on_goal 2 => rfl)
    | ((with_reducible apply Foot.after State.bootGap_foot); on_goal 2 => rfl)

theorem State.bootRecords_foot {x1 : Bool} {x2 : List (Nat × Nat)} {s : State} :
    Foot [.ports, .grist] (some [5, 256, 257, 258, 260, 261, 263, 264]) s (State.bootRecords s x1 x2) := by
  unfold State.bootRecords
  repeat' first
    | with_reducible exact Foot.refl _ _ _
    | with_reducible assumption
    | ((with_reducible apply State.addPar_foot); on_goal 2 => first | rfl | (split <;> rfl))
    | ((with_reducible apply State.setBit_foot); on_goal 2 => first | rfl | (split <;> rfl))
    | ((with_reducible apply Foot.after State.record_foot); on_goal 2 => rfl)
    | with_reducible apply Foot.foldl
    | (intro _ _ _; try dsimp only)
    | split

theorem State.bootTorn_foot {s : State} :
    Foot [.ports, .nvm, .grist] (some [5, 257, 258, 260, 261, 264, 341]) s (State.bootTorn s) := by
  unfold State.bootTorn
  repeat' first
    | with_reducible exact Foot.refl _ _ _
    | with_reducible assumption
    | ((with_reducible apply State.incPar_foot); on_goal 2 => first | rfl | (split <;> rfl))
    | with_reducible apply State.each_foot
    | ((with_reducible apply Foot.after State.supplyRecord_foot); on_goal 2 => rfl)
    | fail_if_no_progress (with_reducible refine Foot.mk' ?_)
    | (intro _ _ _; try dsimp only)

theorem State.bootState_foot {x1 : Option SaveImage} {s : State} :
    Foot [.fantail] (some [333]) s (State.bootState s x1) := by
  unfold State.bootState
  repeat' first
    | with_reducible exact Foot.refl _ _ _
    | ((with_reducible apply State.setPar_foot); on_goal 2 => first | rfl | (split <;> rfl))
    | fail_if_no_progress (with_reducible refine Foot.mk' ?_)
    | split

theorem State.bootSave_foot {x1 : Option SaveImage} {s : State} :
    Foot [.ports, .nvm, .grist] (some [5, 257, 258, 260, 261, 264, 336]) s (State.bootSave s x1) := by
  unfold State.bootSave
  repeat' first
    | with_reducible exact Foot.refl _ _ _
    | ((with_reducible apply Foot.after State.supplyRecord_foot); on_goal 2 => rfl)
    | ((with_reducible apply Foot.after State.holdBit_foot); on_goal 2 => rfl)
    | ((with_reducible apply Foot.after State.askOnce_foot); on_goal 2 => rfl)
    | split

theorem State.bootFullTest_foot {s : State} :
    Foot [.ports, .nvm, .grist, .dresser] (some [5, 256, 257, 258, 260, 261, 264]) s (State.bootFullTest s) := by
  unfold State.bootFullTest
  repeat' first
    | with_reducible exact Foot.refl _ _ _
    | with_reducible assumption
    | ((with_reducible apply State.setBit_foot); on_goal 2 => first | rfl | (split <;> rfl))
    | ((with_reducible apply Foot.after State.modDresser_foot); on_goal 2 => rfl)
    | ((with_reducible apply Foot.after State.record_foot); on_goal 2 => rfl)
    | ((with_reducible apply Foot.after State.queueRepair_foot); on_goal 2 => rfl)
    | with_reducible apply Foot.foldl
    | (intro _ _ _; try dsimp only)
    | split

theorem State.bootStartup_foot {x1 : Int} {s : State} :
    Foot [.ports, .nvm, .grist] (some [5, 256, 257, 258, 260, 261, 264, 352]) s (State.bootStartup s x1) := by
  unfold State.bootStartup
  repeat' first
    | with_reducible exact Foot.refl _ _ _
    | ((with_reducible apply State.setPar_foot); on_goal 2 => first | rfl | (split <;> rfl))
    | ((with_reducible apply Foot.after State.seqRecord_foot); on_goal 2 => rfl)
    | ((with_reducible apply Foot.after State.record_foot); on_goal 2 => rfl)
    | ((with_reducible apply Foot.after State.clockBit_foot); on_goal 2 => rfl)
    | ((with_reducible apply Foot.after State.askOnce_foot); on_goal 2 => rfl)
    | ((with_reducible apply Foot.after State.createRec_foot); on_goal 2 => rfl)
    | split

theorem State.bootUpdRecords_foot {x1 : Option Nat} {x2 : List Nat} {x3 : Bool} {s : State} :
    Foot [.ports, .grist] (some [5, 257, 258, 260, 261, 264]) s (State.bootUpdRecords s x1 x2 x3) := by
  unfold State.bootUpdRecords
  repeat' first
    | with_reducible exact Foot.refl _ _ _
    | with_reducible assumption
    | with_reducible apply State.eachOf_foot
    | ((with_reducible apply Foot.after State.updRecord_foot); on_goal 2 => rfl)
    | (intro _ _ _; try dsimp only)
    | split

theorem State.bootFirmware_foot {x1 : Nat} {x2 : Option Nat} {x3 : List Nat} {x4 : BootIn} {s : State} :
    Foot [.miller, .sats, .phases, .flume, .modules, .segs, .seq, .fantail, .ports, .pols, .time, .feeders, .hopper, .therms, .shelf, .nvm, .timers, .upd, .life, .wheel, .strings, .auths, .downs, .trace, .draws, .grist, .dresser, .loops, .supply, .rails] none s (State.bootFirmware s x1 x2 x3 x4) := by
  unfold State.bootFirmware
  repeat' first
    | with_reducible exact Foot.refl _ _ _
    | with_reducible apply Foot.ite
    | ((with_reducible apply State.setPar_foot); on_goal 2 => first | rfl | (split <;> rfl))
    | ((with_reducible apply Foot.after State.bootFullTest_foot); on_goal 2 => rfl)
    | ((with_reducible apply Foot.after State.bootUpdRecords_foot); on_goal 2 => rfl)
    | ((with_reducible apply Foot.after State.bootSave_foot); on_goal 2 => rfl)
    | ((with_reducible apply Foot.after State.bootTick_foot); on_goal 2 => rfl)
    | ((with_reducible apply Foot.after State.bootImages_foot); on_goal 2 => rfl)
    | ((with_reducible apply Foot.after State.coldParams_foot); on_goal 2 => rfl)
    | ((with_reducible apply Foot.after State.gristParams_foot); on_goal 2 => rfl)
    | ((with_reducible apply Foot.after State.bootState_foot); on_goal 2 => rfl)
    | ((with_reducible apply Foot.after State.bootRecords_foot); on_goal 2 => rfl)
    | ((with_reducible apply Foot.after State.bootConfigValues_foot); on_goal 2 => rfl)
    | ((with_reducible apply Foot.after State.bootGrist_foot); on_goal 2 => rfl)
    | ((with_reducible apply Foot.after State.bootStraps_foot); on_goal 2 => rfl)
    | ((with_reducible apply Foot.after State.bootCounters_foot); on_goal 2 => rfl)
    | ((with_reducible apply Foot.after State.bootBattery_foot); on_goal 2 => rfl)
    | ((with_reducible apply Foot.after State.flushRecords_foot); on_goal 2 => rfl)
    | ((with_reducible apply Foot.after State.bootStartup_foot); on_goal 2 => rfl)
    | ((with_reducible apply Foot.after State.bootTorn_foot); on_goal 2 => rfl)
    | ((with_reducible apply Foot.after State.forgetCause_foot); on_goal 2 => rfl)
    | ((with_reducible apply Foot.after State.bootUpdate_foot); on_goal 2 => rfl)
    | ((with_reducible apply Foot.after State.coldAux_foot); on_goal 2 => rfl)
    | fail_if_no_progress (with_reducible refine Foot.mk' ?_)

/-! ## Startup -/

theorem State.identityFrame_foot {x1 : Option Bytes} {s : State} :
    Foot [.downs] (some [258, 259, 260]) s (State.identityFrame s x1) := by
  unfold State.identityFrame
  repeat' first
    | with_reducible exact Foot.refl _ _ _
    | ((with_reducible apply State.incPar_foot); on_goal 2 => first | rfl | (split <;> rfl))
    | ((with_reducible apply State.setBit_foot); on_goal 2 => first | rfl | (split <;> rfl))
    | ((with_reducible apply Foot.after State.frameError_foot); on_goal 2 => rfl)
    | split

theorem State.loadConfig_foot {s : State} :
    Foot [.ports] none s (State.loadConfig s) := by
  unfold State.loadConfig
  repeat' first
    | with_reducible exact Foot.refl _ _ _
    | with_reducible assumption
    | ((with_reducible apply State.setPar_foot); on_goal 2 => first | rfl | (split <;> rfl))
    | with_reducible apply State.eachOf_foot
    | ((with_reducible apply Foot.after State.busStop_foot); on_goal 2 => rfl)
    | (intro _ _ _; try dsimp only)

theorem State.loadEnables_foot {s : State} :
    Foot [.phases, .flume, .segs, .seq, .fantail, .ports, .pols, .feeders, .hopper, .nvm, .upd, .wheel, .strings, .auths, .trace, .grist, .dresser, .loops, .rails] (some [1, 2, 5, 6, 256, 257, 258, 259, 260, 261, 264, 268, 270, 281, 288, 290, 291, 305, 307, 308, 310, 385]) s (State.loadEnables s) := by
  unfold State.loadEnables
  repeat' first
    | with_reducible exact Foot.refl _ _ _
    | with_reducible assumption
    | with_reducible apply State.eachOf_foot
    | ((with_reducible apply Foot.after State.setEnable_foot); on_goal 2 => rfl)
    | (intro _ _ _; try dsimp only)

theorem State.loadFeeders_foot {s : State} :
    Foot [.feeders] (some [305]) s (State.loadFeeders s) := by
  unfold State.loadFeeders
  repeat' first
    | with_reducible exact Foot.refl _ _ _
    | with_reducible assumption
    | with_reducible apply State.each_foot
    | ((with_reducible apply Foot.after State.modFeeder_foot); on_goal 2 => rfl)
    | ((with_reducible apply Foot.after State.curveApply_foot); on_goal 2 => rfl)
    | (intro _ _ _; try dsimp only)
    | split

theorem State.loadModules_foot {s : State} :
    Foot [.modules, .ports, .grist] none s (State.loadModules s) := by
  unfold State.loadModules
  repeat' first
    | with_reducible exact Foot.refl _ _ _
    | with_reducible assumption
    | with_reducible apply State.each_foot
    | with_reducible apply State.eachOf_foot
    | ((with_reducible apply Foot.after State.moduleDefaults_foot); on_goal 2 => rfl)
    | ((with_reducible apply Foot.after State.moduleRecord_foot); on_goal 2 => rfl)
    | ((with_reducible apply Foot.after State.staleUpdate_foot); on_goal 2 => rfl)
    | (intro _ _ _; try dsimp only)
    | split

theorem State.loadTriggers_foot {s : State} :
    Foot [.grist] (some []) s (State.loadTriggers s) := by
  unfold State.loadTriggers
  repeat' first
    | with_reducible exact Foot.refl _ _ _
    | fail_if_no_progress (with_reducible refine Foot.mk' ?_)

end Sys2Proof.Machine
end

