-- ==== Sys2Proof/Laws/Kept.lean ====
section
/-! SUPPORT. What every operation keeps: the queue of commands, the canonical forms and Hopper's bookkeeping. -/

namespace Sys2Proof.Machine

set_option Elab.async false

/-- `t` has the queue of `s`, and what the invariant says of `s` holds of `t`. -/
structure Kept (s t : State) : Prop where
  queue : t.pending = s.pending
  store : paramsWf s.params = true → paramsWf t.params = true
  mram : mramWf s.nvm.mram = true → mramWf t.nvm.mram = true
  hopper : HopperWf s.hopper → HopperWf t.hopper

variable {s t x : State}

theorem Kept.refl (s : State) : Kept s s := ⟨rfl, id, id, id⟩

theorem Kept.ite {c : Prop} [Decidable c] {a b : State} (ha : Kept s a) (hb : Kept s b) :
    Kept s (if c then a else b) := by split <;> assumption

theorem Kept.snd {α : Type} {y : α × State} {a : α} (e : y = (a, t)) (h : Kept s y.2) : Kept s t := by
  subst e; exact h

theorem Kept.snd2 {α β : Type} {y : α × β × State} {a : α} {b : β} (e : y = (a, b, t)) (h : Kept s y.2.2) : Kept s t := by
  subst e; exact h

theorem Kept.mk' {grist hopper ports downs pols sats time timers supply upd life dresser rails seq fantail therms shelf miller segs loops phases wheel flume trace feeders strings modules auths nonces draws} {p : List (Nat × Int)} {n : NvmState} {q : List Instr}
  (h : Kept s x) (hp : p = x.params) (hq : q = x.pending) (hm : n.mram = x.nvm.mram)
    (hh : hopper = x.hopper) : Kept s ⟨p, grist, hopper, ports, downs, pols, sats, time, timers, supply, n, upd, life, dresser, rails, seq, fantail, therms, shelf, miller, segs, loops, phases, wheel, flume, trace, feeders, strings, modules, auths, nonces, draws, q⟩ :=
  ⟨hq.trans h.queue, fun w => hp ▸ h.store w, fun w => hm ▸ h.mram w, fun w => hh ▸ h.hopper w⟩

theorem Kept.foldl {α : Type} {l : List α} {f : State → α → State} (h : Kept s x)
    (hf : ∀ t a, Kept s t → Kept s (f t a)) : Kept s (l.foldl f x) := by
  induction l generalizing x with
  | nil => exact h
  | cons a l ih => exact ih (hf x a h)

theorem State.each_kept (n : Nat) (f : Nat → State → State) (h : Kept s x)
    (hf : ∀ i t, Kept s t → Kept s (f i t)) : Kept s (x.each n f) := h.foldl fun t i => hf i t

theorem State.eachOf_kept (l : List Nat) (f : Nat → State → State) (h : Kept s x)
    (hf : ∀ i t, Kept s t → Kept s (f i t)) : Kept s (x.eachOf l f) := h.foldl fun t i => hf i t

theorem State.collect_kept {α β : Type} (l : List β) (f : β → State → List α × State) (h : Kept s x)
    (hf : ∀ e t, Kept s t → Kept s (f e t).2) : Kept s (x.collect l f).2 := by
  unfold State.collect
  generalize ([] : List α) = a
  induction l generalizing a x with
  | nil => exact h
  | cons b l ih => exact ih (hf b x h) _

theorem State.setPar_kept (o pid : Nat) (v : Int) (h : Kept s x) : Kept s (x.setPar o pid v) :=
  ⟨h.queue, fun w => x.setPar_wf o pid v (h.store w), h.mram, h.hopper⟩

theorem State.mramClear_kept (lo hi : Nat) (h : Kept s x) : Kept s (x.mramClear lo hi) :=
  ⟨h.queue, h.store, fun w => x.mramClear_wf lo hi (h.mram w), h.hopper⟩


theorem HopperWf.sublist {h : HopperState} {l : List Op} (w : HopperWf h) (k : l.Sublist h.ops) :
    HopperWf { h with ops := l } :=
  ⟨fun e he => w.fresh e (k.subset he), w.apart.sublist k, Nat.le_trans k.countP_le w.entries,
    fun p => Nat.le_trans k.countP_le (w.held p), fun p => Nat.le_trans k.countP_le (w.control p)⟩

theorem HopperWf.map {h : HopperState} {g : Op → Op} (w : HopperWf h)
    (hg : ∀ e, (g e).id = e.id ∧ (g e).port = e.port ∧ (g e).tag = e.tag ∧ (g e).control = e.control) :
    HopperWf { h with ops := h.ops.map g } := by
  refine ⟨?_, ?_, ?_, fun p => ?_, fun p => ?_⟩
  · simp only [List.mem_map]
    rintro _ ⟨e, he, rfl⟩
    rw [(hg e).1]; exact w.fresh e he
  · rw [List.pairwise_map]
    refine w.apart.imp fun {a b} hab => ?_
    rw [(hg a).1, (hg b).1, (hg a).2.1, (hg b).2.1, (hg a).2.2.1, (hg b).2.2.1]; exact hab
  all_goals
    rw [List.countP_map]
    refine Nat.le_trans (Nat.le_of_eq (List.countP_congr fun e _ => ?_)) (by first | exact w.entries | exact w.held p | exact w.control p)
    simp [(hg e).2.1, (hg e).2.2.2]

/-- The disabling of a port renames the tags of the operations that outlive it, each apart from the others. -/
theorem HopperWf.orphan {h : HopperState} (w : HopperWf h) (p : HostPort) :
    HopperWf { h with ops := h.ops.map (Op.orphan p) } := by
  have k : ∀ e : Op, (e.orphan p).id = e.id ∧ (e.orphan p).port = e.port ∧ (e.orphan p).control = e.control := by
    intro e; unfold Op.orphan; split <;> exact ⟨rfl, rfl, rfl⟩
  refine ⟨?_, ?_, ?_, fun q => ?_, fun q => ?_⟩
  · simp only [List.mem_map]
    rintro _ ⟨e, he, rfl⟩
    rw [(k e).1]; exact w.fresh e he
  · rw [List.pairwise_map]
    refine w.apart.imp fun {a b} hab => ?_
    rw [(k a).1, (k b).1, (k a).2.1, (k b).2.1]
    refine ⟨hab.1, fun e => ?_⟩
    unfold Op.orphan
    rw [e]
    have := hab.1
    have := hab.2 e
    split
    · dsimp only; omega
    · exact this
  all_goals
    rw [List.countP_map]
    refine Nat.le_trans (Nat.le_of_eq (List.countP_congr fun e _ => ?_)) (by first | exact w.entries | exact w.held q | exact w.control q)
    simp [(k e).2.1, (k e).2.2]

theorem State.modOp_kept (id : Nat) (g : Op → Op) (h : Kept s x)
    (hg : ∀ e, (g e).id = e.id ∧ (g e).port = e.port ∧ (g e).tag = e.tag ∧ (g e).control = e.control) :
    Kept s (x.modOp id g) := by
  refine ⟨h.queue, h.store, h.mram, fun w => (h.hopper w).map fun e => ?_⟩
  split
  · exact hg e
  · exact ⟨rfl, rfl, rfl, rfl⟩

theorem State.dropOp_kept (id : Nat) (h : Kept s x) : Kept s (x.dropOp id) :=
  ⟨h.queue, h.store, h.mram, fun w => (h.hopper w).sublist List.filter_sublist⟩

/-- An operation whose frame checks have passed takes its entry. -/
theorem State.takeOp_kept {p : HostPort} {c tp : Nat} {a : Bool} {b : Bytes} (h : Kept s x)
    (hf : x.frameFail p c (tp % 64) = none) : Kept s (x.takeOp (x.newOp p c tp a b)) := by
  refine ⟨h.queue, h.store, h.mram, fun w => ?_⟩
  have w := h.hopper w
  unfold State.frameFail at hf
  split at hf
  · cases hf
  split at hf
  · cases hf
  rename_i h2
  simp only [List.any_eq_true, not_exists, not_and, Bool.and_eq_true, beq_iff_eq] at h2
  refine ⟨?_, ?_, ?_, fun q => ?_, fun q => ?_⟩
  · intro e he
    simp only [State.takeOp, List.mem_append, List.mem_singleton] at he
    rcases he with he | rfl
    · exact Nat.lt_succ_of_lt (w.fresh e he)
    · exact Nat.lt_succ_self _
  · simp only [State.takeOp, List.pairwise_append]
    refine ⟨w.apart, List.pairwise_singleton _ _, fun e he f hf' => ?_⟩
    obtain rfl := List.mem_singleton.1 hf'
    exact ⟨Nat.ne_of_lt (w.fresh e he), fun hp => h2 e he hp⟩
  · simp only [State.takeOp, List.countP_append, List.countP_singleton, State.newOp]
    split at hf
    · rename_i hc; rw [hc]; simpa using w.entries
    · split at hf
      · cases hf
      · rename_i hfree
        simp only [State.hopperFree, ← List.countP_eq_length_filter] at hfree
        split <;> omega
  · simp only [State.takeOp, List.countP_append, List.countP_singleton, State.newOp]
    split at hf
    · rename_i hc; rw [hc]; simpa using w.held q
    · split at hf
      · cases hf
      · rename_i hfree
        simp only [State.hopperFree, State.held, ← List.countP_eq_length_filter] at hfree
        have := w.held q
        split
        · rename_i hq
          simp only [Bool.and_eq_true, beq_iff_eq] at hq
          obtain ⟨rfl, -⟩ := hq
          omega
        · omega
  · simp only [State.takeOp, List.countP_append, List.countP_singleton, State.newOp]
    have := w.control q
    split at hf
    · split at hf
      · cases hf
      · rename_i hn
        split
        · rename_i hq
          simp only [Bool.and_eq_true, beq_iff_eq] at hq
          obtain ⟨rfl, -⟩ := hq
          have : x.hopper.ops.countP (fun e => e.port == p && e.control) = 0 := by
            rw [List.countP_eq_zero]
            intro e he hc
            exact hn (List.any_eq_true.2 ⟨e, he, hc⟩)
          omega
        · omega
    · rename_i hc
      simp [hc, this]

/-- Every next state of an outcome keeps what `s` has. -/
structure KeptO (s : State) (o : Host.Outcome State Fault Refusal) : Prop where
  of : ∀ t, o = .next t → Kept s t

theorem KeptO.next (h : Kept s x) : KeptO s (.next x) := ⟨by
  intro t e; cases e; exact h⟩

theorem KeptO.ite {c : Prop} [Decidable c] {a b : Host.Outcome State Fault Refusal} (ha : KeptO s a)
    (hb : KeptO s b) : KeptO s (if c then a else b) := by split <;> assumption

end Sys2Proof.Machine
end

