-- ==== Sys2Proof/Laws/KeptA.lean ====
section
/-! SUPPORT. What every operation keeps: one lemma for each operation of Ops, Operands, Journal, Records, Timers, Hopper, Sensing, Bench, Wheel, Conversion, Engine, Feeders, Strings, Battery, Auth. -/

namespace Sys2Proof.Machine

set_option Elab.async false

/-! ## Ops -/

theorem State.updPar_kept {s : State} (x0 : State) (x1 : Nat) (x2 : Nat) (x3 : Int → Int) (h : Kept s x0) :
    Kept s (State.updPar x0 x1 x2 x3) := by
  unfold State.updPar
  repeat' first
    | with_reducible assumption
    | with_reducible apply State.setPar_kept

theorem State.addPar_kept {s : State} (x0 : State) (x1 : Nat) (x2 : Nat) (x3 : Nat) (h : Kept s x0) :
    Kept s (State.addPar x0 x1 x2 x3) := by
  unfold State.addPar
  repeat' first
    | with_reducible assumption
    | with_reducible apply State.updPar_kept

theorem State.incPar_kept {s : State} (x0 : State) (x1 : Nat) (x2 : Nat) (h : Kept s x0) :
    Kept s (State.incPar x0 x1 x2) := by
  unfold State.incPar
  repeat' first
    | with_reducible assumption
    | with_reducible apply State.addPar_kept

theorem State.setBit_kept {s : State} (x0 : State) (x1 : Nat) (x2 : Nat) (x3 : Nat) (h : Kept s x0) :
    Kept s (State.setBit x0 x1 x2 x3) := by
  unfold State.setBit
  repeat' first
    | with_reducible assumption
    | with_reducible apply State.updPar_kept

theorem State.clearBit_kept {s : State} (x0 : State) (x1 : Nat) (x2 : Nat) (x3 : Nat) (h : Kept s x0) :
    Kept s (State.clearBit x0 x1 x2 x3) := by
  unfold State.clearBit
  repeat' first
    | with_reducible assumption
    | with_reducible apply State.updPar_kept

theorem State.setObj_kept {s : State} (x0 : State) (x1 : Nat) (x2 : Int) (h : Kept s x0) :
    Kept s (State.setObj x0 x1 x2) := by
  unfold State.setObj
  repeat' first
    | with_reducible assumption
    | with_reducible apply State.setPar_kept

theorem State.modPort_kept {s : State} (x0 : State) (x1 : HostPort) (x2 : HostPortAux → HostPortAux) (h : Kept s x0) :
    Kept s (State.modPort x0 x1 x2) := by
  unfold State.modPort
  repeat' first
    | with_reducible assumption
    | fail_if_no_progress (with_reducible refine Kept.mk' ?_ rfl rfl rfl rfl)

theorem State.modFeeder_kept {s : State} (x0 : State) (x1 : Nat) (x2 : FeederAux → FeederAux) (h : Kept s x0) :
    Kept s (State.modFeeder x0 x1 x2) := by
  unfold State.modFeeder
  repeat' first
    | with_reducible assumption
    | fail_if_no_progress (with_reducible refine Kept.mk' ?_ rfl rfl rfl rfl)

theorem State.modStr_kept {s : State} (x0 : State) (x1 : Nat) (x2 : StringAux → StringAux) (h : Kept s x0) :
    Kept s (State.modStr x0 x1 x2) := by
  unfold State.modStr
  repeat' first
    | with_reducible assumption
    | fail_if_no_progress (with_reducible refine Kept.mk' ?_ rfl rfl rfl rfl)

theorem State.modModule_kept {s : State} (x0 : State) (x1 : Nat) (x2 : ModuleAux → ModuleAux) (h : Kept s x0) :
    Kept s (State.modModule x0 x1 x2) := by
  unfold State.modModule
  repeat' first
    | with_reducible assumption
    | fail_if_no_progress (with_reducible refine Kept.mk' ?_ rfl rfl rfl rfl)

theorem State.modSeg_kept {s : State} (x0 : State) (x1 : Nat) (x2 : SegAux → SegAux) (h : Kept s x0) :
    Kept s (State.modSeg x0 x1 x2) := by
  unfold State.modSeg
  repeat' first
    | with_reducible assumption
    | fail_if_no_progress (with_reducible refine Kept.mk' ?_ rfl rfl rfl rfl)

theorem State.modLoop_kept {s : State} (x0 : State) (x1 : Nat) (x2 : LoopAux → LoopAux) (h : Kept s x0) :
    Kept s (State.modLoop x0 x1 x2) := by
  unfold State.modLoop
  repeat' first
    | with_reducible assumption
    | fail_if_no_progress (with_reducible refine Kept.mk' ?_ rfl rfl rfl rfl)

theorem State.modPhase_kept {s : State} (x0 : State) (x1 : Nat) (x2 : PhaseAux → PhaseAux) (h : Kept s x0) :
    Kept s (State.modPhase x0 x1 x2) := by
  unfold State.modPhase
  repeat' first
    | with_reducible assumption
    | fail_if_no_progress (with_reducible refine Kept.mk' ?_ rfl rfl rfl rfl)

theorem State.modRail_kept {s : State} (x0 : State) (x1 : Nat) (x2 : RailAux → RailAux) (h : Kept s x0) :
    Kept s (State.modRail x0 x1 x2) := by
  unfold State.modRail
  repeat' first
    | with_reducible assumption
    | fail_if_no_progress (with_reducible refine Kept.mk' ?_ rfl rfl rfl rfl)

theorem State.modTherm_kept {s : State} (x0 : State) (x1 : Nat) (x2 : ThermAux → ThermAux) (h : Kept s x0) :
    Kept s (State.modTherm x0 x1 x2) := by
  unfold State.modTherm
  repeat' first
    | with_reducible assumption
    | fail_if_no_progress (with_reducible refine Kept.mk' ?_ rfl rfl rfl rfl)

theorem State.modTimer_kept {s : State} (x0 : State) (x1 : Nat) (x2 : TimerAux → TimerAux) (h : Kept s x0) :
    Kept s (State.modTimer x0 x1 x2) := by
  unfold State.modTimer
  repeat' first
    | with_reducible assumption
    | fail_if_no_progress (with_reducible refine Kept.mk' ?_ rfl rfl rfl rfl)

theorem State.modDown_kept {s : State} (x0 : State) (x1 : Nat) (x2 : DownAux → DownAux) (h : Kept s x0) :
    Kept s (State.modDown x0 x1 x2) := by
  unfold State.modDown
  repeat' first
    | with_reducible assumption
    | fail_if_no_progress (with_reducible refine Kept.mk' ?_ rfl rfl rfl rfl)

theorem State.modPol_kept {s : State} (x0 : State) (x1 : Nat) (x2 : PolAux → PolAux) (h : Kept s x0) :
    Kept s (State.modPol x0 x1 x2) := by
  unfold State.modPol
  repeat' first
    | with_reducible assumption
    | fail_if_no_progress (with_reducible refine Kept.mk' ?_ rfl rfl rfl rfl)

theorem State.modSat_kept {s : State} (x0 : State) (x1 : Nat) (x2 : SatAux → SatAux) (h : Kept s x0) :
    Kept s (State.modSat x0 x1 x2) := by
  unfold State.modSat
  repeat' first
    | with_reducible assumption
    | fail_if_no_progress (with_reducible refine Kept.mk' ?_ rfl rfl rfl rfl)

theorem State.modConsF_kept {s : State} (x0 : State) (x1 : Nat) (x2 : ConsumerAux → ConsumerAux) (h : Kept s x0) :
    Kept s (State.modConsF x0 x1 x2) := by
  unfold State.modConsF
  repeat' first
    | with_reducible assumption
    | fail_if_no_progress (with_reducible refine Kept.mk' ?_ rfl rfl rfl rfl)

theorem State.modConsS_kept {s : State} (x0 : State) (x1 : Nat) (x2 : ConsumerAux → ConsumerAux) (h : Kept s x0) :
    Kept s (State.modConsS x0 x1 x2) := by
  unfold State.modConsS
  repeat' first
    | with_reducible assumption
    | fail_if_no_progress (with_reducible refine Kept.mk' ?_ rfl rfl rfl rfl)

theorem State.raisePort_kept {s : State} (x0 : State) (x1 : HostPort) (x2 : Nat) (h : Kept s x0) :
    Kept s (State.raisePort x0 x1 x2) := by
  unfold State.raisePort
  repeat' first
    | with_reducible assumption
    | with_reducible apply State.modPort_kept

theorem State.raise_kept {s : State} (x0 : State) (x1 : Nat) (h : Kept s x0) :
    Kept s (State.raise x0 x1) := by
  unfold State.raise
  repeat' first
    | with_reducible assumption
    | with_reducible apply State.raisePort_kept

theorem State.draw_kept {s : State} (x0 : State) (h : Kept s x0) :
    Kept s (State.draw x0).2 := by
  unfold State.draw
  repeat' first
    | with_reducible assumption
    | fail_if_no_progress (with_reducible refine Kept.mk' ?_ rfl rfl rfl rfl)

theorem State.drawBytes_kept {s : State} (x0 : State) (x1 : Nat) (h : Kept s x0) :
    Kept s (State.drawBytes x0 x1).2 := by
  unfold State.drawBytes
  repeat' first
    | with_reducible assumption
    | fail_if_no_progress (with_reducible refine Kept.mk' ?_ rfl rfl rfl rfl)

/-! ## Operands -/

theorem State.modChan_kept {s : State} (x0 : State) (x1 : Nat) (x2 : Chan → Chan) (h : Kept s x0) :
    Kept s (State.modChan x0 x1 x2) := by
  unfold State.modChan
  repeat' first
    | with_reducible assumption
    | with_reducible apply State.modStr_kept
    | with_reducible apply State.modPhase_kept
    | with_reducible apply State.modFeeder_kept
    | with_reducible apply State.modSeg_kept
    | split

theorem State.setLane_kept {s : State} (x0 : State) (x1 : Nat) (x2 : Nat) (h : Kept s x0) :
    Kept s (State.setLane x0 x1 x2) := by
  unfold State.setLane
  repeat' first
    | with_reducible assumption
    | with_reducible apply State.updPar_kept

/-! ## Journal -/

theorem State.takeRecord_kept {s : State} (x0 : State) (x1 : Nat) (x2 : Option SlotData) (h : Kept s x0) :
    Kept s (State.takeRecord x0 x1 x2) := by
  unfold State.takeRecord
  repeat' first
    | with_reducible assumption
    | with_reducible apply State.setPar_kept
    | fail_if_no_progress (with_reducible refine Kept.mk' ?_ rfl rfl rfl rfl)
    | split

theorem State.setPair_kept {s : State} (x0 : State) (x1 : JournalPair) (h : Kept s x0) :
    Kept s (State.setPair x0 x1) := by
  unfold State.setPair
  repeat' first
    | with_reducible assumption
    | fail_if_no_progress (with_reducible refine Kept.mk' ?_ rfl rfl rfl rfl)

theorem State.journalWrite_kept {s : State} (x0 : State) (x1 : Nat) (h : Kept s x0) :
    Kept s (State.journalWrite x0 x1) := by
  unfold State.journalWrite
  repeat' first
    | with_reducible assumption
    | with_reducible apply State.setPair_kept
    | split

theorem State.tornWrite_kept {s : State} (x0 : State) (h : Kept s x0) :
    Kept s (State.tornWrite x0) := by
  unfold State.tornWrite
  repeat' first
    | with_reducible assumption
    | fail_if_no_progress (with_reducible refine Kept.mk' ?_ rfl rfl rfl rfl)

theorem State.journalCut_kept {s : State} (x0 : State) (x1 : Nat) (h : Kept s x0) :
    Kept s (State.journalCut x0 x1) := by
  unfold State.journalCut
  repeat' first
    | with_reducible assumption
    | with_reducible apply State.tornWrite_kept
    | with_reducible apply State.setPair_kept
    | split

theorem State.cutWrite_kept {s : State} (x0 : State) (x1 : NvmWork) (h : Kept s x0) :
    Kept s (State.cutWrite x0 x1) := by
  unfold State.cutWrite
  repeat' first
    | with_reducible assumption
    | with_reducible apply State.journalCut_kept
    | split

theorem State.journalLose_kept {s : State} (x0 : State) (x1 : Nat) (x2 : Nat) (h : Kept s x0) :
    Kept s (State.journalLose x0 x1 x2) := by
  unfold State.journalLose
  repeat' first
    | with_reducible assumption
    | with_reducible apply State.tornWrite_kept
    | with_reducible apply State.setPair_kept
    | split

theorem State.bootJournal_kept {s : State} (x0 : State) (h : Kept s x0) :
    Kept s (State.bootJournal x0) := by
  unfold State.bootJournal
  repeat' first
    | with_reducible assumption
    | with_reducible apply State.takeRecord_kept
    | with_reducible apply State.setPair_kept
    | with_reducible apply Kept.foldl
    | fail_if_no_progress (with_reducible refine Kept.mk' ?_ rfl rfl rfl rfl)
    | (intro _ _ _; try dsimp only)
    | split

/-! ## Records -/

theorem State.gristParams_kept {s : State} (x0 : State) (h : Kept s x0) :
    Kept s (State.gristParams x0) := by
  unfold State.gristParams
  repeat' first
    | with_reducible assumption
    | with_reducible apply State.setPar_kept

theorem State.storeRec_kept {s : State} (x0 : State) (x1 : Nat) (x2 : Nat) (x3 : Nat) (x4 : Bool) (x5 : List Word) (h : Kept s x0) :
    Kept s (State.storeRec x0 x1 x2 x3 x4 x5) := by
  unfold State.storeRec
  repeat' first
    | with_reducible assumption
    | with_reducible apply State.gristParams_kept
    | with_reducible apply State.setPar_kept
    | fail_if_no_progress (with_reducible refine Kept.mk' ?_ rfl rfl rfl rfl)

theorem State.createRec_kept {s : State} (x0 : State) (x1 : Nat) (x2 : Nat) (x3 : Nat) (x4 : Bool) (x5 : List Snap) (h : Kept s x0) :
    Kept s (State.createRec x0 x1 x2 x3 x4 x5) := by
  unfold State.createRec
  repeat' first
    | with_reducible assumption
    | with_reducible apply Kept.ite
    | with_reducible apply State.raise_kept
    | with_reducible apply State.storeRec_kept
    | with_reducible apply State.incPar_kept
    | fail_if_no_progress (with_reducible refine Kept.mk' ?_ rfl rfl rfl rfl)

theorem State.record_kept {s : State} (x0 : State) (x1 : Nat) (x2 : Nat) (x3 : Nat) (x4 : List Snap) (h : Kept s x0) :
    Kept s (State.record x0 x1 x2 x3 x4) := by
  unfold State.record
  repeat' first
    | with_reducible assumption
    | with_reducible apply State.createRec_kept
    | fail_if_no_progress (with_reducible refine Kept.mk' ?_ rfl rfl rfl rfl)
    | split

theorem State.recordPsd_kept {s : State} (x0 : State) (x1 : Nat) (x2 : Nat) (x3 : Nat) (x4 : List Snap) (h : Kept s x0) :
    Kept s (State.recordPsd x0 x1 x2 x3 x4) := by
  unfold State.recordPsd
  repeat' first
    | with_reducible assumption
    | with_reducible apply State.record_kept
    | fail_if_no_progress (with_reducible refine Kept.mk' ?_ rfl rfl rfl rfl)
    | split

theorem State.flushRecords_kept {s : State} (x0 : State) (x1 : Bool) (h : Kept s x0) :
    Kept s (State.flushRecords x0 x1) := by
  unfold State.flushRecords
  repeat' first
    | with_reducible assumption
    | with_reducible apply State.createRec_kept
    | with_reducible apply Kept.foldl
    | fail_if_no_progress (with_reducible refine Kept.mk' ?_ rfl rfl rfl rfl)
    | (intro _ _; try dsimp only)

theorem State.faultBit_kept {s : State} (x0 : State) (x1 : Nat) (x2 : Nat) (h : Kept s x0) :
    Kept s (State.faultBit x0 x1 x2) := by
  unfold State.faultBit
  repeat' first
    | with_reducible assumption
    | with_reducible apply State.setBit_kept

theorem State.faultEvent_kept {s : State} (x0 : State) (x1 : Nat) (x2 : List Nat) (h : Kept s x0) :
    Kept s (State.faultEvent x0 x1 x2) := by
  unfold State.faultEvent
  repeat' first
    | with_reducible assumption
    | with_reducible apply State.updPar_kept
    | with_reducible apply State.faultBit_kept
    | with_reducible apply Kept.foldl
    | (intro _ _; try dsimp only)

theorem State.clearFaults_kept {s : State} (x0 : State) (x1 : Nat) (h : Kept s x0) :
    Kept s (State.clearFaults x0 x1) := by
  unfold State.clearFaults
  repeat' first
    | with_reducible assumption
    | with_reducible apply State.setPar_kept

/-! ## Timers -/

theorem State.setCount_kept {s : State} (x0 : State) (x1 : Nat) (x2 : Nat) (h : Kept s x0) :
    Kept s (State.setCount x0 x1 x2) := by
  unfold State.setCount
  repeat' first
    | with_reducible assumption
    | with_reducible apply State.setPar_kept

theorem State.matched_kept {s : State} (x0 : State) (x1 : Nat) (h : Kept s x0) :
    Kept s (State.matched x0 x1) := by
  unfold State.matched
  repeat' first
    | with_reducible assumption
    | with_reducible apply State.modTimer_kept
    | with_reducible apply State.setBit_kept
    | with_reducible apply State.raise_kept
    | split

theorem State.pulseEnd_kept {s : State} (x0 : State) (x1 : Nat) (h : Kept s x0) :
    Kept s (State.pulseEnd x0 x1) := by
  unfold State.pulseEnd
  repeat' first
    | with_reducible assumption
    | with_reducible apply State.modTimer_kept
    | split

theorem State.setValue_kept {s : State} (x0 : State) (x1 : Nat) (x2 : Nat) (h : Kept s x0) :
    Kept s (State.setValue x0 x1 x2) := by
  unfold State.setValue
  repeat' first
    | with_reducible assumption
    | with_reducible apply State.setCount_kept
    | split

theorem State.advanced_kept {s : State} (x0 : State) (x1 : Nat) (h : Kept s x0) :
    Kept s (State.advanced x0 x1) := by
  unfold State.advanced
  repeat' first
    | with_reducible assumption
    | with_reducible apply State.pulseEnd_kept
    | with_reducible apply State.modTimer_kept

theorem State.wrapped_kept {s : State} (x0 : State) (x1 : Nat) (h : Kept s x0) :
    Kept s (State.wrapped x0 x1) := by
  unfold State.wrapped
  repeat' first
    | with_reducible assumption
    | with_reducible apply Kept.ite
    | with_reducible apply State.setBit_kept

theorem State.timerPass_kept {s : State} (x0 : State) (x1 : Nat) (x2 : Nat) (h : Kept s x0) :
    Kept s (State.timerPass x0 x1 x2) := by
  unfold State.timerPass
  repeat' first
    | with_reducible assumption
    | with_reducible apply Kept.ite
    | with_reducible apply State.pulseEnd_kept
    | with_reducible apply State.modTimer_kept
    | with_reducible apply State.setBit_kept
    | with_reducible apply State.setValue_kept
    | with_reducible apply State.matched_kept
    | with_reducible apply State.wrapped_kept

theorem State.timersPass_kept {s : State} (x0 : State) (x1 : Nat) (h : Kept s x0) :
    Kept s (State.timersPass x0 x1) := by
  unfold State.timersPass
  repeat' first
    | with_reducible assumption
    | with_reducible apply State.timerPass_kept
    | with_reducible apply State.each_kept
    | (intro _ _ _; try dsimp only)
    | split

theorem State.passTime_kept {s : State} (x0 : State) (x1 : Nat) (h : Kept s x0) :
    Kept s (State.passTime x0 x1) := by
  unfold State.passTime
  repeat' first
    | with_reducible assumption
    | with_reducible apply State.timersPass_kept
    | fail_if_no_progress (with_reducible refine Kept.mk' ?_ rfl rfl rfl rfl)

/-! ## Hopper -/

theorem State.opRunning_kept {s : State} (x0 : State) (x1 : Op) (h : Kept s x0) :
    Kept s (State.opRunning x0 x1) := by
  unfold State.opRunning
  repeat' first
    | with_reducible assumption
    | ((with_reducible apply State.modOp_kept); on_goal 2 => (intro _; exact ⟨rfl, rfl, rfl, rfl⟩))

theorem State.opCommit_kept {s : State} (x0 : State) (x1 : Nat) (h : Kept s x0) :
    Kept s (State.opCommit x0 x1) := by
  unfold State.opCommit
  repeat' first
    | with_reducible assumption
    | ((with_reducible apply State.modOp_kept); on_goal 2 => (intro _; exact ⟨rfl, rfl, rfl, rfl⟩))

theorem State.reply_kept {s : State} (x0 : State) (x1 : Op) (x2 : Nat) (x3 : Nat) (x4 : Bytes) (h : Kept s x0) :
    Kept s (State.reply x0 x1 x2 x3 x4) := by
  unfold State.reply
  repeat' first
    | with_reducible assumption
    | with_reducible apply Kept.ite
    | ((with_reducible apply State.modOp_kept); on_goal 2 => (intro _; exact ⟨rfl, rfl, rfl, rfl⟩))
    | with_reducible apply State.modPort_kept
    | with_reducible apply State.raisePort_kept
    | with_reducible apply State.dropOp_kept
    | with_reducible apply State.incPar_kept

theorem State.ok_kept {s : State} (x0 : State) (x1 : Op) (x2 : Bytes) (h : Kept s x0) :
    Kept s (State.ok x0 x1 x2) := by
  unfold State.ok
  repeat' first
    | with_reducible assumption
    | with_reducible apply State.reply_kept

theorem State.fail_kept {s : State} (x0 : State) (x1 : Op) (x2 : Nat) (x3 : Nat) (h : Kept s x0) :
    Kept s (State.fail x0 x1 x2 x3) := by
  unfold State.fail
  repeat' first
    | with_reducible assumption
    | with_reducible apply State.reply_kept

theorem State.violationRecord_kept {s : State} (x0 : State) (x1 : HostPort) (x2 : Nat) (x3 : Nat) (x4 : Nat) (x5 : Nat) (x6 : Nat) (h : Kept s x0) :
    Kept s (State.violationRecord x0 x1 x2 x3 x4 x5 x6) := by
  unfold State.violationRecord
  repeat' first
    | with_reducible assumption
    | with_reducible apply State.record_kept

theorem State.violation_kept {s : State} (x0 : State) (x1 : HostPort) (x2 : Nat) (x3 : Nat) (x4 : Nat) (x5 : Nat) (x6 : Nat) (h : Kept s x0) :
    Kept s (State.violation x0 x1 x2 x3 x4 x5 x6) := by
  unfold State.violation
  repeat' first
    | with_reducible assumption
    | with_reducible apply Kept.ite
    | with_reducible apply State.modPort_kept
    | with_reducible apply State.raisePort_kept
    | with_reducible apply State.setPar_kept
    | with_reducible apply State.violationRecord_kept
    | with_reducible apply State.incPar_kept

theorem State.reject_kept {s : State} (x0 : State) (x1 : HostPort) (x2 : Nat) (x3 : Nat) (x4 : Nat) (x5 : Nat) (h : Kept s x0) :
    Kept s (State.reject x0 x1 x2 x3 x4 x5) := by
  unfold State.reject
  repeat' first
    | with_reducible assumption
    | with_reducible apply State.modPort_kept
    | with_reducible apply State.incPar_kept
    | split

theorem State.rejectViolation_kept {s : State} (x0 : State) (x1 : HostPort) (x2 : Nat) (x3 : Nat) (x4 : Nat) (x5 : Nat) (x6 : Nat) (h : Kept s x0) :
    Kept s (State.rejectViolation x0 x1 x2 x3 x4 x5 x6) := by
  unfold State.rejectViolation
  repeat' first
    | with_reducible assumption
    | with_reducible apply State.reject_kept
    | with_reducible apply State.violation_kept

theorem State.discarded_kept {s : State} (x0 : State) (x1 : HostPort) (x2 : Nat) (h : Kept s x0) :
    Kept s (State.discarded x0 x1 x2) := by
  unfold State.discarded
  repeat' first
    | with_reducible assumption
    | with_reducible apply State.addPar_kept

theorem State.waitPacket_kept {s : State} (x0 : State) (x1 : HostPort) (x2 : Bytes) (h : Kept s x0) :
    Kept s (State.waitPacket x0 x1 x2) := by
  unfold State.waitPacket
  repeat' first
    | with_reducible assumption
    | with_reducible apply State.modPort_kept
    | with_reducible apply State.discarded_kept
    | split

theorem submitReq_kept {s : State} (x0 : Req) (x1 : Nat) (x2 : Bytes)
    (x3 : Op → State → State) (x4 : State)
    (h : Kept s x4) (hr : ∀ e t, Kept s t → Kept s (x3 e t)) :
    Kept s (submitReq x0 x1 x2 x3 x4) := by
  have ht : x0.tag.toNat = reqTagPrio x0 % 64 := by
    have := x0.tag.isLt
    unfold reqTagPrio
    omega
  unfold submitReq
  repeat' first
    | with_reducible exact h
    | with_reducible apply Kept.ite
    | with_reducible apply State.rejectViolation_kept
    | with_reducible apply State.reject_kept
    | with_reducible apply State.waitPacket_kept
    | with_reducible apply State.discarded_kept
    | exact hr _ _ (State.takeOp_kept h (ht ▸ by assumption))
    | split

theorem State.submitBytes_kept {s : State} (x0 : State) (x1 : HostPort)
    (x2 : Bytes) (x3 : Nat) (h : Kept s x0) : Kept s (x0.submitBytes x1 x2 x3) := by
  unfold State.submitBytes
  dsimp only
  repeat' first
    | with_reducible apply Kept.ite
    | with_reducible exact State.rejectViolation_kept _ _ _ _ _ _ _ h
    | with_reducible exact State.reject_kept _ _ _ _ _ _ h
    | exact State.takeOp_kept h (by assumption)
    | split

theorem State.askNvm_kept {s : State} (x0 : State) (x1 : NvmKind) (x2 : NvmWork) (x3 : Nat) (x4 : Option Nat) (h : Kept s x0) :
    Kept s (State.askNvm x0 x1 x2 x3 x4) := by
  unfold State.askNvm
  repeat' first
    | with_reducible assumption
    | fail_if_no_progress (with_reducible refine Kept.mk' ?_ rfl rfl rfl rfl)

theorem State.askConfig_kept {s : State} (x0 : State) (x1 : Nat) (h : Kept s x0) :
    Kept s (State.askConfig x0 x1) := by
  unfold State.askConfig
  repeat' first
    | with_reducible assumption
    | with_reducible apply State.askNvm_kept
    | split

theorem State.askOnce_kept {s : State} (x0 : State) (x1 : NvmKind) (x2 : NvmWork) (x3 : Nat) (h : Kept s x0) :
    Kept s (State.askOnce x0 x1 x2 x3) := by
  unfold State.askOnce
  repeat' first
    | with_reducible assumption
    | with_reducible apply State.askNvm_kept
    | split

/-! ## Sensing -/

theorem State.energyGap_kept {s : State} (x0 : State) (x1 : Nat) (h : Kept s x0) :
    Kept s (State.energyGap x0 x1) := by
  unfold State.energyGap
  repeat' first
    | with_reducible assumption
    | with_reducible apply State.setBit_kept
    | with_reducible apply Kept.foldl
    | (intro _ _; try dsimp only)
    | split

theorem State.senseRise_kept {s : State} (x0 : State) (x1 : Nat) (x2 : Bool) (h : Kept s x0) :
    Kept s (State.senseRise x0 x1 x2) := by
  unfold State.senseRise
  repeat' first
    | with_reducible assumption
    | with_reducible apply Kept.ite
    | with_reducible apply State.energyGap_kept
    | with_reducible apply State.modChan_kept
    | with_reducible apply State.recordPsd_kept

theorem State.addEnergy_kept {s : State} (x0 : State) (x1 : Nat) (x2 : Nat) (x3 : Nat) (h : Kept s x0) :
    Kept s (State.addEnergy x0 x1 x2 x3) := by
  unfold State.addEnergy
  repeat' first
    | with_reducible assumption
    | with_reducible apply State.updPar_kept

theorem State.addCharge_kept {s : State} (x0 : State) (x1 : Nat) (x2 : Nat) (x3 : Int) (h : Kept s x0) :
    Kept s (State.addCharge x0 x1 x2 x3) := by
  unfold State.addCharge
  repeat' first
    | with_reducible assumption
    | with_reducible apply State.updPar_kept

theorem State.feederEnergy_kept {s : State} (x0 : State) (x1 : Nat) (x2 : Int) (h : Kept s x0) :
    Kept s (State.feederEnergy x0 x1 x2) := by
  unfold State.feederEnergy
  repeat' first
    | with_reducible assumption
    | with_reducible apply Kept.ite
    | with_reducible apply State.modFeeder_kept
    | with_reducible apply State.addEnergy_kept

theorem State.stringEnergy_kept {s : State} (x0 : State) (x1 : Nat) (x2 : Int) (h : Kept s x0) :
    Kept s (State.stringEnergy x0 x1 x2) := by
  unfold State.stringEnergy
  repeat' first
    | with_reducible assumption
    | with_reducible apply Kept.ite
    | with_reducible apply State.modStr_kept
    | with_reducible apply State.addCharge_kept
    | with_reducible apply State.addEnergy_kept

theorem State.powerSum_kept {s : State} (x0 : State) (x1 : Nat) (x2 : Nat) (x3 : Int) (h : Kept s x0) :
    Kept s (State.powerSum x0 x1 x2 x3) := by
  unfold State.powerSum
  repeat' first
    | with_reducible assumption
    | with_reducible apply State.modChan_kept

theorem State.gather_kept {s : State} (x0 : State) (x1 : Nat) (x2 : Int) (h : Kept s x0) :
    Kept s (State.gather x0 x1 x2) := by
  unfold State.gather
  repeat' first
    | with_reducible assumption
    | with_reducible apply State.modChan_kept

theorem State.slotEnergy_kept {s : State} (x0 : State) (x1 : Nat) (x2 : Int) (h : Kept s x0) :
    Kept s (State.slotEnergy x0 x1 x2) := by
  unfold State.slotEnergy
  repeat' first
    | with_reducible assumption
    | with_reducible apply State.feederEnergy_kept
    | with_reducible apply State.stringEnergy_kept
    | with_reducible apply State.powerSum_kept
    | split

theorem State.overSeen_kept {s : State} (x0 : State) (x1 : Nat) (x2 : Int) (h : Kept s x0) :
    Kept s (State.overSeen x0 x1 x2) := by
  unfold State.overSeen
  repeat' first
    | with_reducible assumption
    | with_reducible apply State.modSeg_kept
    | split

theorem State.trackLimit_kept {s : State} (x0 : State) (x1 : Nat) (h : Kept s x0) :
    Kept s (State.trackLimit x0 x1) := by
  unfold State.trackLimit
  repeat' first
    | with_reducible assumption
    | with_reducible apply State.modChan_kept
    | with_reducible apply State.setBit_kept
    | with_reducible apply State.record_kept

theorem State.trackUpdate_kept {s : State} (x0 : State) (x1 : Nat) (x2 : Int) (x3 : Int) (h : Kept s x0) :
    Kept s (State.trackUpdate x0 x1 x2 x3) := by
  unfold State.trackUpdate
  repeat' first
    | with_reducible assumption
    | with_reducible apply Kept.ite
    | with_reducible apply State.draw_kept
    | with_reducible apply State.setPar_kept
    | with_reducible apply State.trackLimit_kept

theorem State.windowNext_kept {s : State} (x0 : State) (x1 : Nat) (h : Kept s x0) :
    Kept s (State.windowNext x0 x1) := by
  unfold State.windowNext
  repeat' first
    | with_reducible assumption
    | with_reducible apply State.modChan_kept
    | with_reducible apply State.eachOf_kept
    | fail_if_no_progress (with_reducible refine Kept.mk' ?_ rfl rfl rfl rfl)
    | (intro _ _; try dsimp only)

theorem State.sarMean_kept {s : State} (x0 : State) (x1 : Nat) (h : Kept s x0) :
    Kept s (State.sarMean x0 x1).2 := by
  unfold State.sarMean
  dsimp only
  repeat' first
    | with_reducible assumption
    | with_reducible apply State.draw_kept
    | split

theorem State.fastMean_kept {s : State} (x0 : State) (x1 : Nat) (x2 : Int) (h : Kept s x0) :
    Kept s (State.fastMean x0 x1 x2) := by
  unfold State.fastMean
  repeat' first
    | with_reducible assumption
    | with_reducible apply State.modStr_kept
    | with_reducible apply State.setPar_kept
    | split

theorem State.closeMs_kept {s : State} (x0 : State) (x1 : Nat) (h : Kept s x0) :
    Kept s (State.closeMs x0 x1) := by
  unfold State.closeMs
  repeat' first
    | with_reducible assumption
    | with_reducible apply Kept.ite
    | with_reducible apply State.modChan_kept
    | with_reducible apply State.fastMean_kept
    | with_reducible apply State.setPar_kept
    | split

theorem State.closeAllMs_kept {s : State} (x0 : State) (h : Kept s x0) :
    Kept s (State.closeAllMs x0) := by
  unfold State.closeAllMs
  repeat' first
    | with_reducible assumption
    | with_reducible apply State.closeMs_kept
    | with_reducible apply State.eachOf_kept
    | (intro _ _; try dsimp only)

theorem State.spoilIntervals_kept {s : State} (x0 : State) (h : Kept s x0) :
    Kept s (State.spoilIntervals x0) := by
  unfold State.spoilIntervals
  repeat' first
    | with_reducible assumption
    | with_reducible apply State.modChan_kept
    | with_reducible apply State.setBit_kept
    | with_reducible apply State.eachOf_kept
    | fail_if_no_progress (with_reducible refine Kept.mk' ?_ rfl rfl rfl rfl)
    | (intro _ _ _; try dsimp only)
    | split

/-! ## Bench -/

theorem State.flumeChip_kept {s : State} (x0 : State) (h : Kept s x0) :
    Kept s (State.flumeChip x0) := by
  unfold State.flumeChip
  repeat' first
    | with_reducible assumption
    | with_reducible apply Kept.ite
    | fail_if_no_progress (with_reducible refine Kept.mk' ?_ rfl rfl rfl rfl)

theorem State.flumeAfter_kept {s : State} (x0 : State) (x1 : Nat) (x2 : Int) (x3 : Int) (x4 : Bool) (h : Kept s x0) :
    Kept s (State.flumeAfter x0 x1 x2 x3 x4) := by
  unfold State.flumeAfter
  repeat' first
    | with_reducible assumption
    | with_reducible apply Kept.ite
    | with_reducible apply State.opCommit_kept
    | with_reducible apply State.setPar_kept
    | fail_if_no_progress (with_reducible refine Kept.mk' ?_ rfl rfl rfl rfl)
    | split

theorem State.flumeEnd_kept {s : State} (x0 : State) (x1 : Nat) (h : Kept s x0) :
    Kept s (State.flumeEnd x0 x1) := by
  unfold State.flumeEnd
  dsimp only
  repeat' first
    | with_reducible assumption
    | with_reducible apply State.reply_kept
    | with_reducible apply State.setPar_kept
    | with_reducible apply State.modLoop_kept
    | fail_if_no_progress (with_reducible refine Kept.mk' ?_ rfl rfl rfl rfl)
    | split

theorem State.flumeStop_kept {s : State} (x0 : State) (x1 : Nat) (h : Kept s x0) :
    Kept s (State.flumeStop x0 x1) := by
  unfold State.flumeStop
  repeat' first
    | with_reducible assumption
    | with_reducible apply State.flumeEnd_kept
    | split

theorem State.flumeStopOn_kept {s : State} (x0 : State) (x1 : Nat) (x2 : Nat) (h : Kept s x0) :
    Kept s (State.flumeStopOn x0 x1 x2) := by
  unfold State.flumeStopOn
  repeat' first
    | with_reducible assumption
    | with_reducible apply State.flumeStop_kept
    | split

theorem opFlumeStart_kept {s : State} (x0 : Op) (x1 : State) (h : Kept s x1) :
    Kept s (opFlumeStart x0 x1) := by
  unfold opFlumeStart
  repeat' first
    | with_reducible assumption
    | with_reducible apply State.reply_kept
    | with_reducible apply State.setPar_kept
    | with_reducible apply State.opRunning_kept
    | fail_if_no_progress (with_reducible refine Kept.mk' ?_ rfl rfl rfl rfl)
    | split

theorem State.traceTrigger_kept {s : State} (x0 : State) (h : Kept s x0) :
    Kept s (State.traceTrigger x0) := by
  unfold State.traceTrigger
  repeat' first
    | with_reducible assumption
    | with_reducible apply State.setPar_kept
    | fail_if_no_progress (with_reducible refine Kept.mk' ?_ rfl rfl rfl rfl)

theorem State.traceEval_kept {s : State} (x0 : State) (x1 : Nat) (h : Kept s x0) :
    Kept s (State.traceEval x0 x1) := by
  unfold State.traceEval
  repeat' first
    | with_reducible assumption
    | with_reducible apply Kept.ite
    | with_reducible apply State.traceTrigger_kept
    | fail_if_no_progress (with_reducible refine Kept.mk' ?_ rfl rfl rfl rfl)

theorem State.traceEnd_kept {s : State} (x0 : State) (h : Kept s x0) :
    Kept s (State.traceEnd x0) := by
  unfold State.traceEnd
  repeat' first
    | with_reducible assumption
    | with_reducible apply State.setPar_kept

theorem State.traceStop_kept {s : State} (x0 : State) (x1 : Nat) (h : Kept s x0) :
    Kept s (State.traceStop x0 x1) := by
  unfold State.traceStop
  repeat' first
    | with_reducible assumption
    | with_reducible apply Kept.ite
    | with_reducible apply State.setPar_kept
    | with_reducible apply State.traceEnd_kept
    | with_reducible apply State.traceTrigger_kept

theorem opTailraceArm_kept {s : State} (x0 : Op) (x1 : State) (h : Kept s x1) :
    Kept s (opTailraceArm x0 x1) := by
  unfold opTailraceArm
  repeat' first
    | with_reducible assumption
    | with_reducible apply State.setPar_kept
    | with_reducible apply State.ok_kept
    | with_reducible apply State.incPar_kept
    | with_reducible apply State.fail_kept
    | fail_if_no_progress (with_reducible refine Kept.mk' ?_ rfl rfl rfl rfl)
    | split

theorem opTailraceRead_kept {s : State} (x0 : Op) (x1 : State) (h : Kept s x1) :
    Kept s (opTailraceRead x0 x1) := by
  unfold opTailraceRead
  repeat' first
    | with_reducible assumption
    | with_reducible apply Kept.ite
    | with_reducible apply State.ok_kept
    | with_reducible apply State.fail_kept

theorem State.faultSeen_kept {s : State} (x0 : State) (x1 : Nat) (h : Kept s x0) :
    Kept s (State.faultSeen x0 x1) := by
  unfold State.faultSeen
  repeat' first
    | with_reducible assumption
    | with_reducible apply Kept.ite
    | with_reducible apply State.flumeStop_kept
    | fail_if_no_progress (with_reducible refine Kept.mk' ?_ rfl rfl rfl rfl)

theorem State.latchFault_kept {s : State} (x0 : State) (x1 : Nat) (x2 : List Nat) (h : Kept s x0) :
    Kept s (State.latchFault x0 x1 x2) := by
  unfold State.latchFault
  repeat' first
    | with_reducible assumption
    | with_reducible apply Kept.ite
    | with_reducible apply State.faultEvent_kept
    | with_reducible apply State.faultSeen_kept

/-! ## Wheel -/

theorem opCoefBankLoad_kept {s : State} (x0 : Op) (x1 : State) (h : Kept s x1) :
    Kept s (opCoefBankLoad x0 x1) := by
  unfold opCoefBankLoad
  repeat' first
    | with_reducible assumption
    | with_reducible apply State.opRunning_kept
    | with_reducible apply State.modLoop_kept
    | with_reducible apply State.fail_kept
    | fail_if_no_progress (with_reducible refine Kept.mk' ?_ rfl rfl rfl rfl)
    | split

theorem State.swapsDone_kept {s : State} (x0 : State) (h : Kept s x0) :
    Kept s (State.swapsDone x0) := by
  unfold State.swapsDone
  repeat' first
    | with_reducible assumption
    | with_reducible apply State.ok_kept
    | with_reducible apply Kept.foldl
    | fail_if_no_progress (with_reducible refine Kept.mk' ?_ rfl rfl rfl rfl)
    | (intro _ _ _; try dsimp only)
    | split

theorem State.loopSwap_kept {s : State} (x0 : State) (x1 : Nat) (h : Kept s x0) :
    Kept s (State.loopSwap x0 x1) := by
  unfold State.loopSwap
  repeat' first
    | with_reducible assumption
    | with_reducible apply State.swapsDone_kept
    | with_reducible apply State.askNvm_kept
    | with_reducible apply State.record_kept
    | with_reducible apply State.setPar_kept
    | with_reducible apply State.modLoop_kept
    | with_reducible apply State.flumeStopOn_kept
    | fail_if_no_progress (with_reducible refine Kept.mk' ?_ rfl rfl rfl rfl)
    | split

theorem State.swapIdle_kept {s : State} (x0 : State) (x1 : SwapJob) (h : Kept s x0) :
    Kept s (State.swapIdle x0 x1) := by
  unfold State.swapIdle
  repeat' first
    | with_reducible assumption
    | with_reducible apply State.eachOf_kept
    | with_reducible apply State.loopSwap_kept
    | (intro _ _; try dsimp only)

theorem State.registerSwap_kept {s : State} (x0 : State) (x1 : SwapJob) (h : Kept s x0) :
    Kept s (State.registerSwap x0 x1) := by
  unfold State.registerSwap
  repeat' first
    | with_reducible assumption
    | with_reducible apply State.opCommit_kept
    | with_reducible apply State.swapIdle_kept
    | fail_if_no_progress (with_reducible refine Kept.mk' ?_ rfl rfl rfl rfl)
    | split

theorem opCoefBankSwap_kept {s : State} (x0 : Op) (x1 : State) (h : Kept s x1) :
    Kept s (opCoefBankSwap x0 x1) := by
  unfold opCoefBankSwap
  repeat' first
    | with_reducible assumption
    | with_reducible apply State.reply_kept
    | with_reducible apply State.opRunning_kept
    | fail_if_no_progress (with_reducible refine Kept.mk' ?_ rfl rfl rfl rfl)
    | split

theorem State.alignPoint_kept {s : State} (x0 : State) (x1 : Nat) (h : Kept s x0) :
    Kept s (State.alignPoint x0 x1) := by
  unfold State.alignPoint
  repeat' first
    | with_reducible assumption
    | fail_if_no_progress (with_reducible refine Kept.mk' ?_ rfl rfl rfl rfl)

theorem State.loopStopped_kept {s : State} (x0 : State) (x1 : Nat) (h : Kept s x0) :
    Kept s (State.loopStopped x0 x1) := by
  unfold State.loopStopped
  repeat' first
    | with_reducible assumption
    | with_reducible apply State.traceStop_kept
    | with_reducible apply State.eachOf_kept
    | with_reducible apply State.loopSwap_kept
    | with_reducible apply State.flumeStop_kept
    | (intro _ _; try dsimp only)
    | split

theorem State.residueError_kept {s : State} (x0 : State) (x1 : Nat) (x2 : Nat) (h : Kept s x0) :
    Kept s (State.residueError x0 x1 x2) := by
  unfold State.residueError
  repeat' first
    | with_reducible assumption
    | with_reducible apply State.setLane_kept
    | with_reducible apply State.setBit_kept
    | with_reducible apply State.record_kept
    | with_reducible apply State.eachOf_kept
    | with_reducible apply State.incPar_kept
    | fail_if_no_progress (with_reducible refine Kept.mk' ?_ rfl rfl rfl rfl)
    | (intro _ _; try dsimp only)
    | split

theorem State.lateEval_kept {s : State} (x0 : State) (x1 : Nat) (h : Kept s x0) :
    Kept s (State.lateEval x0 x1) := by
  unfold State.lateEval
  repeat' first
    | with_reducible assumption
    | with_reducible apply State.setBit_kept
    | with_reducible apply State.incPar_kept

/-! ## Conversion -/

theorem State.outerIdle_kept {s : State} (x0 : State) (x1 : Nat) (h : Kept s x0) :
    Kept s (State.outerIdle x0 x1) := by
  unfold State.outerIdle
  repeat' first
    | with_reducible assumption
    | with_reducible apply State.loopStopped_kept
    | with_reducible apply State.setObj_kept
    | with_reducible apply State.modLoop_kept
    | split

theorem State.stopPhase_kept {s : State} (x0 : State) (x1 : Nat) (h : Kept s x0) :
    Kept s (State.stopPhase x0 x1) := by
  unfold State.stopPhase
  dsimp only
  repeat' first
    | with_reducible assumption
    | with_reducible apply State.loopStopped_kept
    | with_reducible apply State.outerIdle_kept
    | with_reducible apply State.modPhase_kept
    | split

theorem State.reefOutput_kept {s : State} (x0 : State) (x1 : Nat) (h : Kept s x0) :
    Kept s (State.reefOutput x0 x1).2 := by
  unfold State.reefOutput
  dsimp only
  repeat' first
    | with_reducible assumption
    | with_reducible apply State.draw_kept
    | split

theorem State.beginPeriod_kept {s : State} (x0 : State) (x1 : Nat) (h : Kept s x0) :
    Kept s (State.beginPeriod x0 x1) := by
  unfold State.beginPeriod
  repeat' first
    | with_reducible assumption
    | with_reducible apply State.modPhase_kept

theorem State.startPhase_kept {s : State} (x0 : State) (x1 : Nat) (x2 : Bool) (x3 : Int) (h : Kept s x0) :
    Kept s (State.startPhase x0 x1 x2 x3) := by
  unfold State.startPhase
  repeat' first
    | with_reducible assumption
    | with_reducible apply State.setObj_kept
    | with_reducible apply State.modPhase_kept
    | with_reducible apply State.modLoop_kept
    | with_reducible apply State.beginPeriod_kept

theorem State.applyContingency_kept {s : State} (x0 : State) (x1 : Nat) (h : Kept s x0) :
    Kept s (State.applyContingency x0 x1) := by
  unfold State.applyContingency
  repeat' first
    | with_reducible assumption
    | with_reducible apply State.modConsF_kept
    | with_reducible apply State.eachOf_kept
    | (intro _ _; try dsimp only)

theorem State.replacePhase_kept {s : State} (x0 : State) (x1 : Nat) (h : Kept s x0) :
    Kept s (State.replacePhase x0 x1) := by
  unfold State.replacePhase
  repeat' first
    | with_reducible assumption
    | with_reducible apply State.modPhase_kept
    | split

theorem State.floatLeave_kept {s : State} (x0 : State) (h : Kept s x0) :
    Kept s (State.floatLeave x0) := by
  unfold State.floatLeave
  repeat' first
    | with_reducible assumption
    | with_reducible apply Kept.ite
    | with_reducible apply State.each_kept
    | with_reducible apply State.setPar_kept
    | with_reducible apply State.modLoop_kept
    | with_reducible apply State.registerSwap_kept
    | fail_if_no_progress (with_reducible refine Kept.mk' ?_ rfl rfl rfl rfl)
    | (intro _ _ _; try dsimp only)

theorem State.phaseRemoved_kept {s : State} (x0 : State) (x1 : Nat) (h : Kept s x0) :
    Kept s (State.phaseRemoved x0 x1) := by
  unfold State.phaseRemoved
  repeat' first
    | with_reducible assumption
    | with_reducible apply State.applyContingency_kept
    | with_reducible apply State.replacePhase_kept
    | with_reducible apply State.floatLeave_kept
    | with_reducible apply State.modLoop_kept
    | split

theorem State.removePhase_kept {s : State} (x0 : State) (x1 : Nat) (x2 : Bool) (h : Kept s x0) :
    Kept s (State.removePhase x0 x1 x2) := by
  unfold State.removePhase
  repeat' first
    | with_reducible assumption
    | with_reducible apply State.phaseRemoved_kept
    | with_reducible apply State.setBit_kept
    | with_reducible apply State.setObj_kept
    | with_reducible apply State.stopPhase_kept
    | with_reducible apply State.modPhase_kept
    | with_reducible apply State.latchFault_kept

theorem State.slewEnd_kept {s : State} (x0 : State) (x1 : Nat) (x2 : Nat) (x3 : Nat) (h : Kept s x0) :
    Kept s (State.slewEnd x0 x1 x2 x3) := by
  unfold State.slewEnd
  dsimp only
  repeat' first
    | with_reducible assumption
    | with_reducible apply State.reply_kept
    | with_reducible apply State.modLoop_kept
    | split

theorem State.slewsSettle_kept {s : State} (x0 : State) (x1 : Nat) (h : Kept s x0) :
    Kept s (State.slewsSettle x0 x1) := by
  unfold State.slewsSettle
  repeat' first
    | with_reducible assumption
    | with_reducible apply State.slewEnd_kept
    | with_reducible apply State.eachOf_kept
    | (intro _ _ _; try dsimp only)
    | split

theorem opSetpointSlew_kept {s : State} (x0 : Op) (x1 : State) (h : Kept s x1) :
    Kept s (opSetpointSlew x0 x1) := by
  unfold opSetpointSlew
  repeat' first
    | with_reducible assumption
    | with_reducible apply Kept.ite
    | with_reducible apply State.setPar_kept
    | with_reducible apply State.askConfig_kept
    | with_reducible apply State.opRunning_kept
    | with_reducible apply State.ok_kept
    | with_reducible apply State.modLoop_kept
    | with_reducible apply State.modSeg_kept
    | with_reducible apply State.fail_kept

theorem State.stopLone_kept {s : State} (x0 : State) (h : Kept s x0) :
    Kept s (State.stopLone x0) := by
  unfold State.stopLone
  repeat' first
    | with_reducible assumption
    | with_reducible apply State.setObj_kept
    | with_reducible apply State.stopPhase_kept
    | with_reducible apply State.eachOf_kept
    | (intro _ _ _; try dsimp only)
    | split

theorem State.segStart_kept {s : State} (x0 : State) (x1 : Nat) (h : Kept s x0) :
    Kept s (State.segStart x0 x1) := by
  unfold State.segStart
  repeat' first
    | with_reducible assumption
    | with_reducible apply State.setObj_kept
    | with_reducible apply State.setPar_kept
    | with_reducible apply State.modPhase_kept
    | with_reducible apply State.slewsSettle_kept
    | with_reducible apply State.modLoop_kept
    | with_reducible apply State.eachOf_kept
    | with_reducible apply State.modSeg_kept
    | (intro _ _ _; try dsimp only)

theorem State.stopConverter_kept {s : State} (x0 : State) (x1 : Nat) (h : Kept s x0) :
    Kept s (State.stopConverter x0 x1) := by
  unfold State.stopConverter
  repeat' first
    | with_reducible assumption
    | with_reducible apply State.setObj_kept
    | with_reducible apply State.stopPhase_kept
    | with_reducible apply State.eachOf_kept
    | (intro _ _ _; try dsimp only)
    | split

theorem State.failAttempt_kept {s : State} (x0 : State) (x1 : Nat) (x2 : Nat) (h : Kept s x0) :
    Kept s (State.failAttempt x0 x1 x2) := by
  unfold State.failAttempt
  repeat' first
    | with_reducible assumption
    | with_reducible apply State.setObj_kept
    | with_reducible apply State.record_kept
    | with_reducible apply State.setPar_kept
    | with_reducible apply State.slewsSettle_kept
    | with_reducible apply State.stopConverter_kept
    | with_reducible apply State.latchFault_kept
    | with_reducible apply State.modSeg_kept
    | with_reducible apply State.incPar_kept
    | split

theorem State.clearSegment_kept {s : State} (x0 : State) (x1 : Nat) (h : Kept s x0) :
    Kept s (State.clearSegment x0 x1) := by
  unfold State.clearSegment
  repeat' first
    | with_reducible assumption
    | with_reducible apply State.setObj_kept
    | with_reducible apply State.clearFaults_kept
    | with_reducible apply State.setPar_kept
    | with_reducible apply State.modSeg_kept

theorem State.stopConversion_kept {s : State} (x0 : State) (h : Kept s x0) :
    Kept s (State.stopConversion x0) := by
  unfold State.stopConversion
  repeat' first
    | with_reducible assumption
    | with_reducible apply State.setObj_kept
    | with_reducible apply State.each_kept
    | with_reducible apply State.setPar_kept
    | with_reducible apply State.stopPhase_kept
    | with_reducible apply State.slewsSettle_kept
    | with_reducible apply State.modSeg_kept
    | (intro _ _ _; try dsimp only)
    | split

/-! ## Engine -/

theorem State.evalLoop_kept {s : State} (x0 : State) (x1 : Nat) (x2 : Int) (x3 : Bool) (h : Kept s x0) :
    Kept s (State.evalLoop x0 x1 x2 x3).2 := by
  unfold State.evalLoop
  dsimp only
  repeat' first
    | with_reducible assumption
    | with_reducible apply State.draw_kept
    | split

theorem State.evaluate_kept {s : State} (x0 : State) (x1 : Nat) (x2 : Int) (x3 : Int) (x4 : Bool) (h : Kept s x0) :
    Kept s (State.evaluate x0 x1 x2 x3 x4).2 := by
  unfold State.evaluate
  repeat' first
    | with_reducible assumption
    | with_reducible apply State.flumeAfter_kept
    | with_reducible apply State.setBit_kept
    | with_reducible apply State.updPar_kept
    | with_reducible apply State.flumeChip_kept
    | with_reducible apply State.setPar_kept
    | with_reducible apply State.modLoop_kept
    | with_reducible apply State.evalLoop_kept
    | split

theorem State.takeShares_kept {s : State} (x0 : State) (x1 : Nat) (h : Kept s x0) :
    Kept s (State.takeShares x0 x1) := by
  unfold State.takeShares
  repeat' first
    | with_reducible assumption
    | with_reducible apply State.modPhase_kept
    | with_reducible apply State.eachOf_kept
    | (intro _ _; try dsimp only)

theorem State.distribute_kept {s : State} (x0 : State) (x1 : Nat) (h : Kept s x0) :
    Kept s (State.distribute x0 x1) := by
  unfold State.distribute
  repeat' first
    | with_reducible assumption
    | with_reducible apply State.modPhase_kept
    | with_reducible apply State.eachOf_kept
    | (intro _ _; try dsimp only)

theorem State.updateNAct_kept {s : State} (x0 : State) (x1 : Nat) (h : Kept s x0) :
    Kept s (State.updateNAct x0 x1) := by
  unfold State.updateNAct
  repeat' first
    | with_reducible assumption
    | with_reducible apply Kept.ite
    | with_reducible apply State.modLoop_kept
    | with_reducible apply State.flumeStopOn_kept
    | with_reducible apply State.distribute_kept

theorem State.moveSetpoint_kept {s : State} (x0 : State) (x1 : Nat) (x2 : Nat) (x3 : Nat) (h : Kept s x0) :
    Kept s (State.moveSetpoint x0 x1 x2 x3) := by
  unfold State.moveSetpoint
  repeat' first
    | with_reducible assumption
    | with_reducible apply State.setPar_kept
    | with_reducible apply State.modLoop_kept

theorem State.trigSetpoint_kept {s : State} (x0 : State) (x1 : Nat) (h : Kept s x0) :
    Kept s (State.trigSetpoint x0 x1) := by
  unfold State.trigSetpoint
  repeat' first
    | with_reducible assumption
    | with_reducible apply Kept.ite
    | with_reducible apply State.slewEnd_kept
    | with_reducible apply State.moveSetpoint_kept

theorem State.startTriggers_kept {s : State} (x0 : State) (x1 : Nat) (h : Kept s x0) :
    Kept s (State.startTriggers x0 x1).2 := by
  unfold State.startTriggers
  dsimp only
  repeat' first
    | with_reducible assumption
    | with_reducible apply State.modLoop_kept
    | split

theorem State.fullRate_kept {s : State} (x0 : State) (x1 : Nat) (h : Kept s x0) :
    Kept s (State.fullRate x0 x1) := by
  unfold State.fullRate
  repeat' first
    | with_reducible assumption
    | with_reducible apply State.modLoop_kept
    | with_reducible apply State.eachOf_kept
    | (intro _ _; try dsimp only)
    | split

theorem State.openCheck_kept {s : State} (x0 : State) (x1 : Nat) (h : Kept s x0) :
    Kept s (State.openCheck x0 x1) := by
  unfold State.openCheck
  repeat' first
    | with_reducible assumption
    | with_reducible apply Kept.ite
    | with_reducible apply State.removePhase_kept
    | with_reducible apply State.modPhase_kept

theorem State.clipTrack_kept {s : State} (x0 : State) (x1 : Nat) (h : Kept s x0) :
    Kept s (State.clipTrack x0 x1) := by
  unfold State.clipTrack
  repeat' first
    | with_reducible assumption
    | with_reducible apply State.modPhase_kept

theorem State.clipStop_kept {s : State} (x0 : State) (x1 : Nat) (h : Kept s x0) :
    Kept s (State.clipStop x0 x1) := by
  unfold State.clipStop
  repeat' first
    | with_reducible assumption
    | with_reducible apply State.flumeStopOn_kept
    | split

theorem State.latency_kept {s : State} (x0 : State) (x1 : Nat) (x2 : Nat) (h : Kept s x0) :
    Kept s (State.latency x0 x1 x2) := by
  unfold State.latency
  repeat' first
    | with_reducible assumption
    | with_reducible apply State.updPar_kept
    | with_reducible apply State.lateEval_kept
    | split

theorem State.evalPhase_kept {s : State} (x0 : State) (x1 : Nat) (x2 : Nat) (h : Kept s x0) :
    Kept s (State.evalPhase x0 x1 x2) := by
  unfold State.evalPhase
  repeat' first
    | with_reducible assumption
    | with_reducible apply State.latency_kept
    | with_reducible apply State.clipTrack_kept
    | with_reducible apply State.clipStop_kept
    | with_reducible apply State.modPhase_kept
    | with_reducible apply State.evaluate_kept
    | with_reducible apply State.floatLeave_kept
    | with_reducible apply State.openCheck_kept
    | with_reducible apply State.traceEval_kept
    | split

theorem State.phaseSample_kept {s : State} (x0 : State) (x1 : Nat) (x2 : Sample) (h : Kept s x0) :
    Kept s (State.phaseSample x0 x1 x2) := by
  unfold State.phaseSample
  repeat' first
    | with_reducible assumption
    | with_reducible apply State.senseRise_kept
    | with_reducible apply State.modPhase_kept
    | split

theorem State.checkSlot_kept {s : State} (x0 : State) (x1 : SarChannel) (h : Kept s x0) :
    Kept s (State.checkSlot x0 x1) := by
  unfold State.checkSlot
  repeat' first
    | with_reducible assumption
    | with_reducible apply State.slotEnergy_kept
    | with_reducible apply State.modChan_kept
    | with_reducible apply State.modPhase_kept
    | with_reducible apply State.gather_kept
    | split

theorem State.pullGoal_kept {s : State} (x0 : State) (h : Kept s x0) :
    Kept s (State.pullGoal x0).2 := by
  unfold State.pullGoal
  repeat' first
    | with_reducible assumption
    | with_reducible apply State.draw_kept
    | split

theorem State.glideTick_kept {s : State} (x0 : State) (h : Kept s x0) :
    Kept s (State.glideTick x0) := by
  unfold State.glideTick
  repeat' first
    | with_reducible assumption
    | with_reducible apply Kept.ite
    | with_reducible apply State.setPar_kept
    | with_reducible apply State.pullGoal_kept
    | fail_if_no_progress (with_reducible refine Kept.mk' ?_ rfl rfl rfl rfl)

theorem State.glideStep_kept {s : State} (x0 : State) (h : Kept s x0) :
    Kept s (State.glideStep x0) := by
  unfold State.glideStep
  repeat' first
    | with_reducible assumption
    | with_reducible apply Kept.ite
    | with_reducible apply State.glideTick_kept
    | fail_if_no_progress (with_reducible refine Kept.mk' ?_ rfl rfl rfl rfl)

theorem State.syncGlide_kept {s : State} (x0 : State) (h : Kept s x0) :
    Kept s (State.syncGlide x0) := by
  unfold State.syncGlide
  repeat' first
    | with_reducible assumption
    | fail_if_no_progress (with_reducible refine Kept.mk' ?_ rfl rfl rfl rfl)

theorem State.syncLeave_kept {s : State} (x0 : State) (h : Kept s x0) :
    Kept s (State.syncLeave x0) := by
  unfold State.syncLeave
  repeat' first
    | with_reducible assumption
    | with_reducible apply Kept.ite
    | with_reducible apply State.syncGlide_kept
    | with_reducible apply State.setPar_kept
    | fail_if_no_progress (with_reducible refine Kept.mk' ?_ rfl rfl rfl rfl)

theorem State.syncAlone_kept {s : State} (x0 : State) (h : Kept s x0) :
    Kept s (State.syncAlone x0) := by
  unfold State.syncAlone
  repeat' first
    | with_reducible assumption
    | with_reducible apply Kept.ite
    | with_reducible apply State.syncLeave_kept

theorem State.leaveGroup_kept {s : State} (x0 : State) (x1 : List Nat) (h : Kept s x0) :
    Kept s (State.leaveGroup x0 x1) := by
  unfold State.leaveGroup
  repeat' first
    | with_reducible assumption
    | with_reducible apply State.modPhase_kept
    | with_reducible apply State.eachOf_kept
    | (intro _ _; try dsimp only)

theorem State.addPhases_kept {s : State} (x0 : State) (x1 : List Nat) (h : Kept s x0) :
    Kept s (State.addPhases x0 x1) := by
  unfold State.addPhases
  repeat' first
    | with_reducible assumption
    | with_reducible apply State.reefOutput_kept
    | with_reducible apply State.collect_kept
    | with_reducible apply State.startPhase_kept
    | with_reducible apply Kept.foldl
    | (intro _ _; try dsimp only)

theorem State.takeAngle_kept {s : State} (x0 : State) (x1 : Nat) (x2 : Nat) (x3 : Bool) (h : Kept s x0) :
    Kept s (State.takeAngle x0 x1 x2 x3) := by
  unfold State.takeAngle
  repeat' first
    | with_reducible assumption
    | with_reducible apply State.setPar_kept
    | with_reducible apply State.modPhase_kept

theorem State.syncMiss_kept {s : State} (x0 : State) (h : Kept s x0) :
    Kept s (State.syncMiss x0) := by
  unfold State.syncMiss
  repeat' first
    | with_reducible assumption
    | with_reducible apply Kept.ite
    | with_reducible apply State.syncGlide_kept
    | with_reducible apply State.record_kept
    | with_reducible apply State.setPar_kept
    | with_reducible apply State.incPar_kept
    | fail_if_no_progress (with_reducible refine Kept.mk' ?_ rfl rfl rfl rfl)

theorem State.syncFollow_kept {s : State} (x0 : State) (x1 : Nat) (h : Kept s x0) :
    Kept s (State.syncFollow x0 x1) := by
  unfold State.syncFollow
  repeat' first
    | with_reducible assumption
    | with_reducible apply Kept.ite
    | with_reducible apply State.setPar_kept
    | fail_if_no_progress (with_reducible refine Kept.mk' ?_ rfl rfl rfl rfl)

/-! ## Feeders -/

theorem State.gateOff_kept {s : State} (x0 : State) (x1 : Nat) (h : Kept s x0) :
    Kept s (State.gateOff x0 x1) := by
  unfold State.gateOff
  repeat' first
    | with_reducible assumption
    | with_reducible apply State.modFeeder_kept

theorem State.feederWait_kept {s : State} (x0 : State) (x1 : Nat) (h : Kept s x0) :
    Kept s (State.feederWait x0 x1) := by
  unfold State.feederWait
  repeat' first
    | with_reducible assumption
    | with_reducible apply Kept.ite
    | with_reducible apply State.setObj_kept
    | with_reducible apply State.gateOff_kept
    | with_reducible apply State.modFeeder_kept

theorem State.feederTrip_kept {s : State} (x0 : State) (x1 : Nat) (x2 : List Nat) (h : Kept s x0) :
    Kept s (State.feederTrip x0 x1 x2) := by
  unfold State.feederTrip
  repeat' first
    | with_reducible assumption
    | with_reducible apply State.setObj_kept
    | with_reducible apply State.gateOff_kept
    | with_reducible apply State.modFeeder_kept
    | with_reducible apply State.recordPsd_kept
    | with_reducible apply State.latchFault_kept
    | with_reducible apply State.incPar_kept

theorem State.readWeir_kept {s : State} (x0 : State) (x1 : Nat) (h : Kept s x0) :
    Kept s (State.readWeir x0 x1) := by
  unfold State.readWeir
  repeat' first
    | with_reducible assumption
    | with_reducible apply Kept.ite
    | with_reducible apply State.feederTrip_kept

theorem State.feederClear_kept {s : State} (x0 : State) (x1 : Nat) (h : Kept s x0) :
    Kept s (State.feederClear x0 x1) := by
  unfold State.feederClear
  repeat' first
    | with_reducible assumption
    | with_reducible apply State.setObj_kept
    | with_reducible apply State.clearFaults_kept
    | with_reducible apply State.modFeeder_kept

theorem State.feederEnable_kept {s : State} (x0 : State) (x1 : Nat) (x2 : Bool) (h : Kept s x0) :
    Kept s (State.feederEnable x0 x1 x2) := by
  unfold State.feederEnable
  repeat' first
    | with_reducible assumption
    | with_reducible apply Kept.ite
    | with_reducible apply State.readWeir_kept
    | with_reducible apply State.setObj_kept
    | with_reducible apply State.gateOff_kept
    | with_reducible apply State.modFeeder_kept
    | with_reducible apply State.feederClear_kept

theorem State.rampStart_kept {s : State} (x0 : State) (x1 : Nat) (h : Kept s x0) :
    Kept s (State.rampStart x0 x1) := by
  unfold State.rampStart
  repeat' first
    | with_reducible assumption
    | with_reducible apply State.setObj_kept
    | with_reducible apply State.modFeeder_kept

theorem State.serveAct_kept {s : State} (x0 : State) (x1 : Nat) (h : Kept s x0) :
    Kept s (State.serveAct x0 x1) := by
  unfold State.serveAct
  repeat' first
    | with_reducible assumption
    | with_reducible apply State.rampStart_kept
    | split

theorem State.serveDrop_kept {s : State} (x0 : State) (x1 : Nat) (h : Kept s x0) :
    Kept s (State.serveDrop x0 x1) := by
  unfold State.serveDrop
  repeat' first
    | with_reducible assumption
    | with_reducible apply State.modFeeder_kept

theorem State.shedAct_kept {s : State} (x0 : State) (x1 : Nat) (h : Kept s x0) :
    Kept s (State.shedAct x0 x1) := by
  unfold State.shedAct
  repeat' first
    | with_reducible assumption
    | with_reducible apply Kept.ite
    | with_reducible apply State.readWeir_kept
    | with_reducible apply State.setObj_kept
    | with_reducible apply State.gateOff_kept
    | with_reducible apply State.modFeeder_kept

theorem State.seatOpened_kept {s : State} (x0 : State) (x1 : Nat) (h : Kept s x0) :
    Kept s (State.seatOpened x0 x1) := by
  unfold State.seatOpened
  repeat' first
    | with_reducible assumption
    | with_reducible apply State.readWeir_kept
    | with_reducible apply State.modFeeder_kept
    | with_reducible apply State.feederWait_kept
    | with_reducible apply State.incPar_kept

theorem State.seatStabled_kept {s : State} (x0 : State) (x1 : Nat) (h : Kept s x0) :
    Kept s (State.seatStabled x0 x1) := by
  unfold State.seatStabled
  repeat' first
    | with_reducible assumption
    | with_reducible apply Kept.ite
    | with_reducible apply State.modFeeder_kept
    | with_reducible apply State.feederClear_kept

theorem State.sluiceInputs_kept {s : State} (x0 : State) (x1 : Nat) (x2 : FeederIn) (h : Kept s x0) :
    Kept s (State.sluiceInputs x0 x1 x2) := by
  unfold State.sluiceInputs
  repeat' first
    | with_reducible assumption
    | with_reducible apply State.modFeeder_kept

theorem State.sluiceIntegrate_kept {s : State} (x0 : State) (x1 : Nat) (h : Kept s x0) :
    Kept s (State.sluiceIntegrate x0 x1) := by
  unfold State.sluiceIntegrate
  repeat' first
    | with_reducible assumption
    | with_reducible apply State.modFeeder_kept

theorem State.pgAct_kept {s : State} (x0 : State) (x1 : Nat) (h : Kept s x0) :
    Kept s (State.pgAct x0 x1) := by
  unfold State.pgAct
  repeat' first
    | with_reducible assumption
    | with_reducible apply Kept.ite
    | with_reducible apply State.setBit_kept
    | with_reducible apply State.setObj_kept
    | with_reducible apply State.modFeeder_kept
    | with_reducible apply State.recordPsd_kept
    | with_reducible apply State.incPar_kept

theorem State.feederTick_kept {s : State} (x0 : State) (x1 : Nat) (x2 : FeederIn) (h : Kept s x0) :
    Kept s (State.feederTick x0 x1 x2) := by
  unfold State.feederTick
  repeat' first
    | with_reducible assumption
    | with_reducible apply State.serveAct_kept
    | with_reducible apply State.shedAct_kept
    | with_reducible apply State.pgAct_kept
    | with_reducible apply State.seatStabled_kept
    | with_reducible apply State.serveDrop_kept
    | with_reducible apply State.sluiceInputs_kept
    | with_reducible apply State.seatOpened_kept
    | with_reducible apply State.feederTrip_kept
    | with_reducible apply State.sluiceIntegrate_kept
    | split

theorem State.tripWith_kept {s : State} (x0 : State) (x1 : Nat) (x2 : Nat) (h : Kept s x0) :
    Kept s (State.tripWith x0 x1 x2) := by
  unfold State.tripWith
  repeat' first
    | with_reducible assumption
    | with_reducible apply State.feederTrip_kept

theorem State.curveApply_kept {s : State} (x0 : State) (x1 : Nat) (h : Kept s x0) :
    Kept s (State.curveApply x0 x1) := by
  unfold State.curveApply
  repeat' first
    | with_reducible assumption
    | with_reducible apply State.modFeeder_kept
    | with_reducible apply State.incPar_kept

/-! ## Strings -/

theorem State.switchOff_kept {s : State} (x0 : State) (x1 : Nat) (h : Kept s x0) :
    Kept s (State.switchOff x0 x1) := by
  unfold State.switchOff
  repeat' first
    | with_reducible assumption
    | with_reducible apply State.modStr_kept

theorem State.stringWait_kept {s : State} (x0 : State) (x1 : Nat) (h : Kept s x0) :
    Kept s (State.stringWait x0 x1) := by
  unfold State.stringWait
  repeat' first
    | with_reducible assumption
    | with_reducible apply Kept.ite
    | with_reducible apply State.setObj_kept
    | with_reducible apply State.switchOff_kept

theorem State.stringTrip_kept {s : State} (x0 : State) (x1 : Nat) (x2 : List Nat) (h : Kept s x0) :
    Kept s (State.stringTrip x0 x1 x2) := by
  unfold State.stringTrip
  repeat' first
    | with_reducible assumption
    | with_reducible apply State.setObj_kept
    | with_reducible apply State.recordPsd_kept
    | with_reducible apply State.latchFault_kept
    | with_reducible apply State.switchOff_kept
    | with_reducible apply State.incPar_kept

theorem State.readString_kept {s : State} (x0 : State) (x1 : Nat) (h : Kept s x0) :
    Kept s (State.readString x0 x1) := by
  unfold State.readString
  repeat' first
    | with_reducible assumption
    | with_reducible apply Kept.ite
    | with_reducible apply State.stringTrip_kept

theorem State.stringClear_kept {s : State} (x0 : State) (x1 : Nat) (h : Kept s x0) :
    Kept s (State.stringClear x0 x1) := by
  unfold State.stringClear
  repeat' first
    | with_reducible assumption
    | with_reducible apply State.modStr_kept
    | with_reducible apply State.setObj_kept
    | with_reducible apply State.clearFaults_kept

theorem State.stringEnable_kept {s : State} (x0 : State) (x1 : Nat) (x2 : Bool) (h : Kept s x0) :
    Kept s (State.stringEnable x0 x1 x2) := by
  unfold State.stringEnable
  repeat' first
    | with_reducible assumption
    | with_reducible apply Kept.ite
    | with_reducible apply State.modStr_kept
    | with_reducible apply State.readString_kept
    | with_reducible apply State.stringClear_kept
    | with_reducible apply State.setObj_kept
    | with_reducible apply State.switchOff_kept

theorem State.stringConnected_kept {s : State} (x0 : State) (x1 : Nat) (h : Kept s x0) :
    Kept s (State.stringConnected x0 x1) := by
  unfold State.stringConnected
  repeat' first
    | with_reducible assumption
    | with_reducible apply State.modStr_kept
    | with_reducible apply State.modModule_kept
    | with_reducible apply State.setObj_kept
    | with_reducible apply State.eachOf_kept
    | (intro _ _; try dsimp only)

theorem State.chargeRegulate_kept {s : State} (x0 : State) (x1 : Nat) (x2 : Int) (h : Kept s x0) :
    Kept s (State.chargeRegulate x0 x1 x2) := by
  unfold State.chargeRegulate
  repeat' first
    | with_reducible assumption
    | with_reducible apply State.modStr_kept
    | with_reducible apply State.setPar_kept

theorem State.modWeir_kept {s : State} (x0 : State) (x1 : Nat) (x2 : WeirAux → WeirAux) (h : Kept s x0) :
    Kept s (State.modWeir x0 x1 x2) := by
  unfold State.modWeir
  repeat' first
    | with_reducible assumption
    | with_reducible apply State.modStr_kept
    | with_reducible apply State.modFeeder_kept
    | split

theorem State.proofStore_kept {s : State} (x0 : State) (x1 : Nat) (x2 : Bool) (x3 : Bool) (x4 : ProofIn) (h : Kept s x0) :
    Kept s (State.proofStore x0 x1 x2 x3 x4) := by
  unfold State.proofStore
  repeat' first
    | with_reducible assumption
    | with_reducible apply State.updPar_kept
    | with_reducible apply State.setPar_kept

theorem State.proofJudge_kept {s : State} (x0 : State) (x1 : Nat) (x2 : Bool) (x3 : Bool) (h : Kept s x0) :
    Kept s (State.proofJudge x0 x1 x2 x3) := by
  unfold State.proofJudge
  repeat' first
    | with_reducible assumption
    | with_reducible apply Kept.ite
    | with_reducible apply State.setBit_kept
    | with_reducible apply State.recordPsd_kept
    | with_reducible apply State.clearBit_kept
    | with_reducible apply State.modWeir_kept

/-! ## Battery -/

theorem State.freeDiv_kept {s : State} (x0 : State) (x1 : Int) (x2 : Int) (x3 : Int) (x4 : Int) (h : Kept s x0) :
    Kept s (State.freeDiv x0 x1 x2 x3 x4).2 := by
  unfold State.freeDiv
  repeat' first
    | with_reducible assumption
    | with_reducible apply State.draw_kept
    | split

theorem State.askBattery_kept {s : State} (x0 : State) (x1 : Nat) (h : Kept s x0) :
    Kept s (State.askBattery x0 x1) := by
  unfold State.askBattery
  repeat' first
    | with_reducible assumption
    | with_reducible apply State.askNvm_kept
    | split

theorem State.stringRecord_kept {s : State} (x0 : State) (x1 : Nat) (x2 : Nat) (h : Kept s x0) :
    Kept s (State.stringRecord x0 x1 x2) := by
  unfold State.stringRecord
  repeat' first
    | with_reducible assumption
    | with_reducible apply State.record_kept

theorem State.moduleRecord_kept {s : State} (x0 : State) (x1 : Nat) (h : Kept s x0) :
    Kept s (State.moduleRecord x0 x1) := by
  unfold State.moduleRecord
  repeat' first
    | with_reducible assumption
    | with_reducible apply State.record_kept

theorem State.refreshTrust_kept {s : State} (x0 : State) (x1 : Nat) (h : Kept s x0) :
    Kept s (State.refreshTrust x0 x1) := by
  unfold State.refreshTrust
  repeat' first
    | with_reducible assumption
    | with_reducible apply Kept.ite
    | with_reducible apply State.setPar_kept
    | with_reducible apply State.askBattery_kept
    | with_reducible apply State.stringRecord_kept

theorem State.lvdOpen_kept {s : State} (x0 : State) (x1 : Nat) (h : Kept s x0) :
    Kept s (State.lvdOpen x0 x1) := by
  unfold State.lvdOpen
  repeat' first
    | with_reducible assumption
    | with_reducible apply State.modStr_kept
    | with_reducible apply State.stringWait_kept
    | with_reducible apply State.askBattery_kept
    | with_reducible apply State.stringRecord_kept
    | split

theorem State.pollFailed_kept {s : State} (x0 : State) (x1 : Nat) (h : Kept s x0) :
    Kept s (State.pollFailed x0 x1) := by
  unfold State.pollFailed
  repeat' first
    | with_reducible assumption
    | with_reducible apply Kept.ite
    | with_reducible apply State.modModule_kept
    | with_reducible apply State.moduleRecord_kept
    | with_reducible apply State.incPar_kept

theorem State.pollTaken_kept {s : State} (x0 : State) (x1 : Nat) (x2 : MeasData) (h : Kept s x0) :
    Kept s (State.pollTaken x0 x1 x2) := by
  unfold State.pollTaken
  repeat' first
    | with_reducible assumption
    | with_reducible apply Kept.ite
    | with_reducible apply State.modModule_kept
    | with_reducible apply State.setBit_kept
    | with_reducible apply State.setPar_kept

theorem State.pollJudge_kept {s : State} (x0 : State) (x1 : Nat) (h : Kept s x0) :
    Kept s (State.pollJudge x0 x1) := by
  unfold State.pollJudge
  repeat' first
    | with_reducible assumption
    | with_reducible apply State.modModule_kept
    | split

theorem State.chargeStops_kept {s : State} (x0 : State) (x1 : Nat) (h : Kept s x0) :
    Kept s (State.chargeStops x0 x1) := by
  unfold State.chargeStops
  repeat' first
    | with_reducible assumption
    | with_reducible apply Kept.ite
    | with_reducible apply State.modStr_kept
    | with_reducible apply State.moduleRecord_kept
    | split

theorem State.pollModule_kept {s : State} (x0 : State) (x1 : Nat) (x2 : List (Fin 64 × List Bytes)) (h : Kept s x0) :
    Kept s (State.pollModule x0 x1 x2) := by
  unfold State.pollModule
  repeat' first
    | with_reducible assumption
    | with_reducible apply State.pollJudge_kept
    | with_reducible apply State.pollTaken_kept
    | with_reducible apply State.pollFailed_kept
    | split

theorem State.ocvInverse_kept {s : State} (x0 : State) (x1 : Nat) (x2 : Int) (h : Kept s x0) :
    Kept s (State.ocvInverse x0 x1 x2).2 := by
  unfold State.ocvInverse
  dsimp only
  repeat' first
    | with_reducible assumption
    | with_reducible apply State.draw_kept
    | split

theorem State.rcFactorOf_kept {s : State} (x0 : State) (x1 : Int) (h : Kept s x0) :
    Kept s (State.rcFactorOf x0 x1).2 := by
  unfold State.rcFactorOf
  repeat' first
    | with_reducible assumption
    | with_reducible apply State.draw_kept
    | split

theorem State.modelModule_kept {s : State} (x0 : State) (x1 : Nat) (x2 : Int) (h : Kept s x0) :
    Kept s (State.modelModule x0 x1 x2) := by
  unfold State.modelModule
  repeat' first
    | with_reducible assumption
    | with_reducible apply State.modModule_kept
    | with_reducible apply State.rcFactorOf_kept
    | with_reducible apply State.ocvInverse_kept
    | with_reducible apply State.setPar_kept
    | split

theorem State.learn_kept {s : State} (x0 : State) (x1 : Nat) (x2 : Nat) (x3 : Int) (h : Kept s x0) :
    Kept s (State.learn x0 x1 x2 x3) := by
  unfold State.learn
  repeat' first
    | with_reducible assumption
    | with_reducible apply State.modModule_kept
    | with_reducible apply State.setPar_kept

theorem State.learnRSer_kept {s : State} (x0 : State) (x1 : Nat) (x2 : Int) (h : Kept s x0) :
    Kept s (State.learnRSer x0 x1 x2) := by
  unfold State.learnRSer
  repeat' first
    | with_reducible assumption
    | with_reducible apply Kept.ite
    | with_reducible apply State.learn_kept

theorem State.learnFit_kept {s : State} (x0 : State) (x1 : Nat) (x2 : Nat) (x3 : Nat) (x4 : Nat) (h : Kept s x0) :
    Kept s (State.learnFit x0 x1 x2 x3 x4) := by
  unfold State.learnFit
  repeat' first
    | with_reducible assumption
    | with_reducible apply State.learn_kept

theorem State.learnRc_kept {s : State} (x0 : State) (x1 : Nat) (h : Kept s x0) :
    Kept s (State.learnRc x0 x1) := by
  unfold State.learnRc
  repeat' first
    | with_reducible assumption
    | with_reducible apply State.learnFit_kept

theorem State.learnCap_kept {s : State} (x0 : State) (x1 : Nat) (x2 : Int) (x3 : Int) (h : Kept s x0) :
    Kept s (State.learnCap x0 x1 x2 x3) := by
  unfold State.learnCap
  repeat' first
    | with_reducible assumption
    | with_reducible apply State.learn_kept

theorem State.learnOffset_kept {s : State} (x0 : State) (x1 : Nat) (x2 : Int) (h : Kept s x0) :
    Kept s (State.learnOffset x0 x1 x2) := by
  unfold State.learnOffset
  repeat' first
    | with_reducible assumption
    | with_reducible apply State.learn_kept

theorem State.restLearn_kept {s : State} (x0 : State) (x1 : Nat) (h : Kept s x0) :
    Kept s (State.restLearn x0 x1) := by
  unfold State.restLearn
  repeat' first
    | with_reducible assumption
    | with_reducible apply State.learnCap_kept
    | with_reducible apply State.modStr_kept
    | with_reducible apply State.eachOf_kept
    | with_reducible apply State.learnRc_kept
    | (intro _ _; try dsimp only)
    | split

theorem State.modelTimers_kept {s : State} (x0 : State) (x1 : Nat) (x2 : Int) (h : Kept s x0) :
    Kept s (State.modelTimers x0 x1 x2) := by
  unfold State.modelTimers
  repeat' first
    | with_reducible assumption
    | with_reducible apply Kept.ite
    | with_reducible apply State.modStr_kept
    | with_reducible apply State.modModule_kept
    | with_reducible apply State.eachOf_kept
    | (intro _ _; try dsimp only)

theorem State.relaxSample_kept {s : State} (x0 : State) (x1 : Nat) (x2 : Int) (h : Kept s x0) :
    Kept s (State.relaxSample x0 x1 x2) := by
  unfold State.relaxSample
  repeat' first
    | with_reducible assumption
    | with_reducible apply State.modStr_kept
    | with_reducible apply State.modModule_kept
    | with_reducible apply State.eachOf_kept
    | (intro _ _; try dsimp only)
    | split

theorem State.modeEnter_kept {s : State} (x0 : State) (x1 : Nat) (x2 : Int) (x3 : Int) (h : Kept s x0) :
    Kept s (State.modeEnter x0 x1 x2 x3) := by
  unfold State.modeEnter
  repeat' first
    | with_reducible assumption
    | with_reducible apply State.modStr_kept
    | with_reducible apply State.restLearn_kept
    | with_reducible apply State.setPar_kept
    | with_reducible apply State.askBattery_kept
    | with_reducible apply State.relaxSample_kept
    | split

theorem State.socUpdate_kept {s : State} (x0 : State) (x1 : Nat) (h : Kept s x0) :
    Kept s (State.socUpdate x0 x1) := by
  unfold State.socUpdate
  repeat' first
    | with_reducible assumption
    | with_reducible apply State.modStr_kept
    | with_reducible apply State.freeDiv_kept
    | with_reducible apply State.setPar_kept
    | split

theorem State.setDisagree_kept {s : State} (x0 : State) (x1 : Nat) (x2 : Bool) (h : Kept s x0) :
    Kept s (State.setDisagree x0 x1 x2) := by
  unfold State.setDisagree
  repeat' first
    | with_reducible assumption
    | with_reducible apply State.modStr_kept
    | with_reducible apply State.raise_kept
    | with_reducible apply State.stringRecord_kept
    | split

theorem State.crossCheck_kept {s : State} (x0 : State) (x1 : Nat) (h : Kept s x0) :
    Kept s (State.crossCheck x0 x1) := by
  unfold State.crossCheck
  repeat' first
    | with_reducible assumption
    | with_reducible apply Kept.ite
    | with_reducible apply State.modStr_kept
    | with_reducible apply State.setDisagree_kept

theorem State.eodUpdate_kept {s : State} (x0 : State) (x1 : Nat) (h : Kept s x0) :
    Kept s (State.eodUpdate x0 x1) := by
  unfold State.eodUpdate
  repeat' first
    | with_reducible assumption
    | with_reducible apply Kept.ite
    | with_reducible apply State.modStr_kept
    | with_reducible apply State.raise_kept
    | with_reducible apply State.stringRecord_kept

theorem State.sohUpdate_kept {s : State} (x0 : State) (x1 : Nat) (h : Kept s x0) :
    Kept s (State.sohUpdate x0 x1) := by
  unfold State.sohUpdate
  repeat' first
    | with_reducible assumption
    | with_reducible apply State.freeDiv_kept
    | with_reducible apply State.setPar_kept

theorem State.availUpdate_kept {s : State} (x0 : State) (x1 : Nat) (h : Kept s x0) :
    Kept s (State.availUpdate x0 x1) := by
  unfold State.availUpdate
  repeat' first
    | with_reducible assumption
    | with_reducible apply State.setPar_kept

theorem State.staleUpdate_kept {s : State} (x0 : State) (x1 : Nat) (h : Kept s x0) :
    Kept s (State.staleUpdate x0 x1) := by
  unfold State.staleUpdate
  repeat' first
    | with_reducible assumption
    | with_reducible apply State.modModule_kept

theorem State.modelString_kept {s : State} (x0 : State) (x1 : Nat) (h : Kept s x0) :
    Kept s (State.modelString x0 x1) := by
  unfold State.modelString
  repeat' first
    | with_reducible assumption
    | with_reducible apply Kept.ite
    | with_reducible apply State.modelTimers_kept
    | with_reducible apply State.learnOffset_kept
    | with_reducible apply State.crossCheck_kept
    | with_reducible apply State.modStr_kept
    | with_reducible apply State.modModule_kept
    | with_reducible apply State.learnRSer_kept
    | with_reducible apply State.modelModule_kept
    | with_reducible apply State.setPar_kept
    | with_reducible apply State.availUpdate_kept
    | with_reducible apply State.socUpdate_kept
    | with_reducible apply State.staleUpdate_kept
    | with_reducible apply State.lvdOpen_kept
    | with_reducible apply State.modeEnter_kept
    | with_reducible apply State.eodUpdate_kept
    | with_reducible apply State.eachOf_kept
    | with_reducible apply State.sohUpdate_kept
    | (intro _ _ _; try dsimp only)
    | split

/-! ## Auth -/

theorem State.moduleDefaults_kept {s : State} (x0 : State) (x1 : Nat) (h : Kept s x0) :
    Kept s (State.moduleDefaults x0 x1) := by
  unfold State.moduleDefaults
  repeat' first
    | with_reducible assumption
    | with_reducible apply State.setPar_kept

theorem State.moduleReplaced_kept {s : State} (x0 : State) (x1 : Nat) (h : Kept s x0) :
    Kept s (State.moduleReplaced x0 x1) := by
  unfold State.moduleReplaced
  repeat' first
    | with_reducible assumption
    | with_reducible apply State.modStr_kept
    | with_reducible apply State.modModule_kept
    | with_reducible apply State.setBit_kept
    | with_reducible apply State.moduleDefaults_kept

theorem State.identify_kept {s : State} (x0 : State) (x1 : Nat) (x2 : Bytes) (h : Kept s x0) :
    Kept s (State.identify x0 x1 x2).2 := by
  unfold State.identify
  repeat' first
    | with_reducible assumption
    | with_reducible apply State.modModule_kept
    | with_reducible apply State.setBit_kept
    | with_reducible apply State.setPar_kept
    | with_reducible apply State.moduleReplaced_kept
    | split

theorem State.authReplies_kept {s : State} (x0 : State) (h : Kept s x0) :
    Kept s (State.authReplies x0) := by
  unfold State.authReplies
  repeat' first
    | with_reducible assumption
    | with_reducible apply State.reply_kept
    | with_reducible apply Kept.foldl
    | fail_if_no_progress (with_reducible refine Kept.mk' ?_ rfl rfl rfl rfl)
    | (intro _ _ _; try dsimp only)
    | split

theorem State.authDone_kept {s : State} (x0 : State) (x1 : Nat) (x2 : Nat) (h : Kept s x0) :
    Kept s (State.authDone x0 x1 x2) := by
  unfold State.authDone
  repeat' first
    | with_reducible assumption
    | with_reducible apply State.modModule_kept
    | with_reducible apply State.record_kept
    | with_reducible apply State.setPar_kept
    | with_reducible apply State.authReplies_kept
    | with_reducible apply State.refreshTrust_kept
    | fail_if_no_progress (with_reducible refine Kept.mk' ?_ rfl rfl rfl rfl)

theorem State.freshNonce_kept {s : State} (x0 : State) (h : Kept s x0) :
    Kept s (State.freshNonce x0).2 := by
  unfold State.freshNonce
  repeat' first
    | with_reducible assumption
    | with_reducible apply State.drawBytes_kept
    | fail_if_no_progress (with_reducible refine Kept.mk' ?_ rfl rfl rfl rfl)

theorem State.challenge_kept {s : State} (x0 : State) (x1 : Nat) (h : Kept s x0) :
    Kept s (State.challenge x0 x1) := by
  unfold State.challenge
  repeat' first
    | with_reducible assumption
    | with_reducible apply State.modModule_kept
    | with_reducible apply State.freshNonce_kept
    | with_reducible apply State.refreshTrust_kept

theorem State.authAll_kept {s : State} (x0 : State) (h : Kept s x0) :
    Kept s (State.authAll x0) := by
  unfold State.authAll
  repeat' first
    | with_reducible assumption
    | with_reducible apply State.modStr_kept
    | with_reducible apply State.modModule_kept
    | with_reducible apply State.each_kept
    | (intro _ _; try dsimp only)

theorem opBattAuth_kept {s : State} (x0 : Op) (x1 : State) (h : Kept s x1) :
    Kept s (opBattAuth x0 x1) := by
  unfold opBattAuth
  repeat' first
    | with_reducible assumption
    | with_reducible apply Kept.ite
    | with_reducible apply State.opRunning_kept
    | with_reducible apply State.fail_kept
    | fail_if_no_progress (with_reducible refine Kept.mk' ?_ rfl rfl rfl rfl)

theorem opBattLearnCommit_kept {s : State} (x0 : Op) (x1 : State) (h : Kept s x1) :
    Kept s (opBattLearnCommit x0 x1) := by
  unfold opBattLearnCommit
  repeat' first
    | with_reducible assumption
    | with_reducible apply Kept.ite
    | with_reducible apply State.opRunning_kept
    | with_reducible apply State.fail_kept
    | fail_if_no_progress (with_reducible refine Kept.mk' ?_ rfl rfl rfl rfl)

end Sys2Proof.Machine
end

