-- ==== Sys2Proof/Laws/KeptB.lean ====
section
/-! SUPPORT. What every operation keeps: one lemma for each operation of Rails, Sequence, Grist, Restart, Dresser, Save, Reset, LifeCycle, Update, Time, SequenceRows. -/

namespace Sys2Proof.Machine

set_option Elab.async false

/-! ## Rails -/

theorem State.railRecord_kept {s : State} (x0 : State) (x1 : Nat) (h : Kept s x0) :
    Kept s (State.railRecord x0 x1) := by
  unfold State.railRecord
  repeat' first
    | with_reducible assumption
    | with_reducible apply State.record_kept

theorem State.polFail_kept {s : State} (x0 : State) (x1 : Nat) (h : Kept s x0) :
    Kept s (State.polFail x0 x1) := by
  unfold State.polFail
  repeat' first
    | with_reducible assumption
    | with_reducible apply State.modPol_kept
    | with_reducible apply State.incPar_kept

theorem State.polOperate_kept {s : State} (x0 : State) (x1 : Nat) (x2 : Bool) (h : Kept s x0) :
    Kept s (State.polOperate x0 x1 x2) := by
  unfold State.polOperate
  repeat' first
    | with_reducible assumption
    | with_reducible apply Kept.ite
    | with_reducible apply State.polFail_kept
    | with_reducible apply State.setBit_kept
    | with_reducible apply State.modPol_kept

theorem State.railOn_kept {s : State} (x0 : State) (x1 : Nat) (h : Kept s x0) :
    Kept s (State.railOn x0 x1) := by
  unfold State.railOn
  repeat' first
    | with_reducible assumption
    | with_reducible apply State.polOperate_kept
    | with_reducible apply State.modRail_kept

theorem State.railOff_kept {s : State} (x0 : State) (x1 : Nat) (h : Kept s x0) :
    Kept s (State.railOff x0 x1) := by
  unfold State.railOff
  repeat' first
    | with_reducible assumption
    | with_reducible apply State.setPar_kept
    | with_reducible apply State.polOperate_kept
    | with_reducible apply State.modRail_kept
    | split

theorem State.railsOff_kept {s : State} (x0 : State) (h : Kept s x0) :
    Kept s (State.railsOff x0) := by
  unfold State.railsOff
  repeat' first
    | with_reducible assumption
    | with_reducible apply State.railOff_kept
    | with_reducible apply State.each_kept
    | (intro _ _; try dsimp only)

theorem State.railEmpty_kept {s : State} (x0 : State) (x1 : Nat) (x2 : Int) (h : Kept s x0) :
    Kept s (State.railEmpty x0 x1 x2) := by
  unfold State.railEmpty
  repeat' first
    | with_reducible assumption
    | with_reducible apply State.setPar_kept
    | with_reducible apply State.modRail_kept

theorem State.pgRise_kept {s : State} (x0 : State) (x1 : Nat) (h : Kept s x0) :
    Kept s (State.pgRise x0 x1) := by
  unfold State.pgRise
  repeat' first
    | with_reducible assumption
    | with_reducible apply State.modRail_kept

theorem State.pgFall_kept {s : State} (x0 : State) (x1 : Nat) (h : Kept s x0) :
    Kept s (State.pgFall x0 x1) := by
  unfold State.pgFall
  repeat' first
    | with_reducible assumption
    | with_reducible apply Kept.ite
    | with_reducible apply State.railEmpty_kept
    | with_reducible apply State.modRail_kept
    | with_reducible apply State.incPar_kept

theorem State.downFail_kept {s : State} (x0 : State) (x1 : Nat) (h : Kept s x0) :
    Kept s (State.downFail x0 x1) := by
  unfold State.downFail
  repeat' first
    | with_reducible assumption
    | with_reducible apply State.setBit_kept
    | with_reducible apply State.modRail_kept
    | with_reducible apply State.railRecord_kept

theorem State.railEnable_kept {s : State} (x0 : State) (x1 : Nat) (x2 : Bool) (h : Kept s x0) :
    Kept s (State.railEnable x0 x1 x2) := by
  unfold State.railEnable
  repeat' first
    | with_reducible assumption
    | with_reducible apply State.railOff_kept
    | split

/-! ## Sequence -/

theorem State.modSeq_kept {s : State} (x0 : State) (x1 : SeqState → SeqState) (h : Kept s x0) :
    Kept s (State.modSeq x0 x1) := by
  unfold State.modSeq
  repeat' first
    | with_reducible assumption
    | fail_if_no_progress (with_reducible refine Kept.mk' ?_ rfl rfl rfl rfl)

theorem State.seqRecord_kept {s : State} (x0 : State) (h : Kept s x0) :
    Kept s (State.seqRecord x0) := by
  unfold State.seqRecord
  repeat' first
    | with_reducible assumption
    | with_reducible apply State.record_kept

theorem State.railsUp_kept {s : State} (x0 : State) (x1 : Nat) (h : Kept s x0) :
    Kept s (State.railsUp x0 x1) := by
  unfold State.railsUp
  repeat' first
    | with_reducible assumption
    | with_reducible apply State.railOn_kept
    | with_reducible apply State.modRail_kept
    | with_reducible apply State.eachOf_kept
    | (intro _ _ _; try dsimp only)
    | split

theorem State.powerDown_kept {s : State} (x0 : State) (x1 : Nat) (h : Kept s x0) :
    Kept s (State.powerDown x0 x1) := by
  unfold State.powerDown
  repeat' first
    | with_reducible assumption
    | with_reducible apply State.readWeir_kept
    | with_reducible apply State.readString_kept
    | with_reducible apply State.setObj_kept
    | with_reducible apply State.stringWait_kept
    | with_reducible apply State.slewsSettle_kept
    | with_reducible apply State.stopConverter_kept
    | with_reducible apply State.eachOf_kept
    | with_reducible apply State.feederWait_kept
    | with_reducible apply State.modSeg_kept
    | with_reducible apply State.stopLone_kept
    | (intro _ _ _; try dsimp only)
    | split

theorem State.beginWork_kept {s : State} (x0 : State) (x1 : Nat) (h : Kept s x0) :
    Kept s (State.beginWork x0 x1) := by
  unfold State.beginWork
  repeat' first
    | with_reducible assumption
    | with_reducible apply State.powerDown_kept
    | with_reducible apply State.railOff_kept
    | with_reducible apply State.modRail_kept
    | with_reducible apply State.eachOf_kept
    | with_reducible apply State.railsUp_kept
    | (intro _ _ _; try dsimp only)
    | split

theorem State.schedEntry_kept {s : State} (x0 : State) (x1 : Nat) (h : Kept s x0) :
    Kept s (State.schedEntry x0 x1) := by
  unfold State.schedEntry
  repeat' first
    | with_reducible assumption
    | fail_if_no_progress (with_reducible refine Kept.mk' ?_ rfl rfl rfl rfl)
    | split

theorem State.enterSeq_kept {s : State} (x0 : State) (x1 : Nat) (h : Kept s x0) :
    Kept s (State.enterSeq x0 x1) := by
  unfold State.enterSeq
  repeat' first
    | with_reducible assumption
    | with_reducible apply Kept.ite
    | with_reducible apply State.beginWork_kept
    | with_reducible apply State.schedEntry_kept
    | with_reducible apply State.setPar_kept
    | with_reducible apply State.modSeq_kept

theorem State.cogLeave_kept {s : State} (x0 : State) (x1 : Bool) (x2 : Bool) (h : Kept s x0) :
    Kept s (State.cogLeave x0 x1 x2) := by
  unfold State.cogLeave
  repeat' first
    | with_reducible assumption
    | with_reducible apply State.modSeq_kept

theorem State.cogJoin_kept {s : State} (x0 : State) (h : Kept s x0) :
    Kept s (State.cogJoin x0) := by
  unfold State.cogJoin
  repeat' first
    | with_reducible assumption
    | with_reducible apply State.setPar_kept
    | with_reducible apply State.modSeq_kept

theorem State.cogPulse_kept {s : State} (x0 : State) (x1 : CogPulse) (h : Kept s x0) :
    Kept s (State.cogPulse x0 x1) := by
  unfold State.cogPulse
  repeat' first
    | with_reducible assumption
    | with_reducible apply State.modSeq_kept

theorem State.cogStep_kept {s : State} (x0 : State) (x1 : Nat) (h : Kept s x0) :
    Kept s (State.cogStep x0 x1) := by
  unfold State.cogStep
  repeat' first
    | with_reducible assumption
    | with_reducible apply State.enterSeq_kept
    | with_reducible apply State.incPar_kept

theorem State.allOff_kept {s : State} (x0 : State) (h : Kept s x0) :
    Kept s (State.allOff x0) := by
  unfold State.allOff
  repeat' first
    | with_reducible assumption
    | with_reducible apply State.stopConversion_kept
    | with_reducible apply State.stringWait_kept
    | with_reducible apply State.each_kept
    | with_reducible apply State.feederWait_kept
    | (intro _ _; try dsimp only)

theorem State.holdAll_kept {s : State} (x0 : State) (h : Kept s x0) :
    Kept s (State.holdAll x0) := by
  unfold State.holdAll
  repeat' first
    | with_reducible assumption
    | with_reducible apply State.allOff_kept
    | with_reducible apply State.railsOff_kept

theorem State.stepEnd_kept {s : State} (x0 : State) (x1 : Nat) (x2 : Nat) (h : Kept s x0) :
    Kept s (State.stepEnd x0 x1 x2) := by
  unfold State.stepEnd
  dsimp only
  repeat' first
    | with_reducible assumption
    | with_reducible apply State.reply_kept
    | with_reducible apply State.modSeq_kept
    | split

theorem State.walkAgain_kept {s : State} (x0 : State) (h : Kept s x0) :
    Kept s (State.walkAgain x0) := by
  unfold State.walkAgain
  repeat' first
    | with_reducible assumption
    | with_reducible apply State.enterSeq_kept
    | with_reducible apply State.setPar_kept
    | split

theorem State.manualStop_kept {s : State} (x0 : State) (h : Kept s x0) :
    Kept s (State.manualStop x0) := by
  unfold State.manualStop
  repeat' first
    | with_reducible assumption
    | with_reducible apply State.stepEnd_kept
    | with_reducible apply State.modSeq_kept
    | split

theorem State.manualEnd_kept {s : State} (x0 : State) (x1 : Bool) (h : Kept s x0) :
    Kept s (State.manualEnd x0 x1) := by
  unfold State.manualEnd
  repeat' first
    | with_reducible assumption
    | with_reducible apply State.manualStop_kept
    | with_reducible apply State.walkAgain_kept
    | split

theorem State.enterShelf_kept {s : State} (x0 : State) (x1 : Int) (x2 : Nat) (h : Kept s x0) :
    Kept s (State.enterShelf x0 x1 x2) := by
  unfold State.enterShelf
  repeat' first
    | with_reducible assumption
    | with_reducible apply Kept.ite
    | with_reducible apply State.record_kept
    | with_reducible apply State.setPar_kept
    | with_reducible apply State.manualEnd_kept
    | with_reducible apply State.flumeStop_kept

theorem State.shift_kept {s : State} (x0 : State) (x1 : Int) (x2 : Nat) (h : Kept s x0) :
    Kept s (State.shift x0 x1 x2) := by
  unfold State.shift
  repeat' first
    | with_reducible assumption
    | with_reducible apply State.enterShelf_kept
    | fail_if_no_progress (with_reducible refine Kept.mk' ?_ rfl rfl rfl rfl)
    | split

theorem State.enterBraking_kept {s : State} (x0 : State) (x1 : BrakeHow) (h : Kept s x0) :
    Kept s (State.enterBraking x0 x1) := by
  unfold State.enterBraking
  repeat' first
    | with_reducible assumption
    | with_reducible apply Kept.ite
    | with_reducible apply State.enterSeq_kept
    | with_reducible apply State.cogPulse_kept
    | with_reducible apply State.cogLeave_kept
    | with_reducible apply State.cogStep_kept
    | with_reducible apply State.modSeq_kept
    | with_reducible apply State.enterShelf_kept

theorem State.brakeCause_kept {s : State} (x0 : State) (x1 : Nat) (x2 : BrakeHow) (h : Kept s x0) :
    Kept s (State.brakeCause x0 x1 x2) := by
  unfold State.brakeCause
  repeat' first
    | with_reducible assumption
    | with_reducible apply Kept.ite
    | with_reducible apply State.enterBraking_kept
    | with_reducible apply State.each_kept
    | with_reducible apply State.setPar_kept
    | with_reducible apply State.askBattery_kept
    | with_reducible apply State.modRail_kept
    | with_reducible apply State.askOnce_kept
    | with_reducible apply State.manualEnd_kept
    | with_reducible apply State.modSeq_kept
    | (intro _ _; try dsimp only)
    | split

theorem State.brakeComplete_kept {s : State} (x0 : State) (h : Kept s x0) :
    Kept s (State.brakeComplete x0) := by
  unfold State.brakeComplete
  repeat' first
    | with_reducible assumption
    | with_reducible apply State.seqRecord_kept
    | with_reducible apply State.ok_kept
    | with_reducible apply State.askOnce_kept
    | with_reducible apply State.modSeq_kept
    | with_reducible apply Kept.foldl
    | (intro _ _ _; try dsimp only)
    | split

theorem State.stepAlone_kept {s : State} (x0 : State) (h : Kept s x0) :
    Kept s (State.stepAlone x0) := by
  unfold State.stepAlone
  repeat' first
    | with_reducible assumption
    | with_reducible apply Kept.ite
    | with_reducible apply State.enterSeq_kept
    | with_reducible apply State.setPar_kept
    | with_reducible apply State.brakeComplete_kept
    | with_reducible apply State.modSeq_kept

theorem State.stepTaken_kept {s : State} (x0 : State) (h : Kept s x0) :
    Kept s (State.stepTaken x0) := by
  unfold State.stepTaken
  dsimp only
  repeat' first
    | with_reducible assumption
    | with_reducible apply State.opCommit_kept
    | with_reducible apply State.modSeq_kept
    | split

theorem State.finishWork_kept {s : State} (x0 : State) (h : Kept s x0) :
    Kept s (State.finishWork x0) := by
  unfold State.finishWork
  repeat' first
    | with_reducible assumption
    | with_reducible apply Kept.ite
    | with_reducible apply State.enterSeq_kept
    | with_reducible apply State.setPar_kept
    | with_reducible apply State.stepTaken_kept
    | with_reducible apply State.stepAlone_kept
    | with_reducible apply State.stepEnd_kept
    | with_reducible apply State.brakeComplete_kept
    | with_reducible apply State.modSeq_kept

theorem State.cutNvm_kept {s : State} (x0 : State) (h : Kept s x0) :
    Kept s (State.cutNvm x0) := by
  unfold State.cutNvm
  dsimp only
  repeat' first
    | with_reducible assumption
    | with_reducible apply State.cutWrite_kept
    | fail_if_no_progress (with_reducible refine Kept.mk' ?_ rfl rfl rfl rfl)
    | split

theorem State.writeShutdown_kept {s : State} (x0 : State) (h : Kept s x0) :
    Kept s (State.writeShutdown x0) := by
  unfold State.writeShutdown
  repeat' first
    | with_reducible assumption
    | fail_if_no_progress (with_reducible refine Kept.mk' ?_ rfl rfl rfl rfl)
    | split

theorem State.enterThermal_kept {s : State} (x0 : State) (x1 : Nat) (h : Kept s x0) :
    Kept s (State.enterThermal x0 x1) := by
  unfold State.enterThermal
  repeat' first
    | with_reducible assumption
    | with_reducible apply State.writeShutdown_kept
    | with_reducible apply State.record_kept
    | with_reducible apply State.setPar_kept
    | with_reducible apply State.holdAll_kept
    | with_reducible apply State.floatLeave_kept
    | with_reducible apply State.cutNvm_kept
    | with_reducible apply State.manualEnd_kept
    | with_reducible apply State.cogLeave_kept
    | with_reducible apply State.modSeq_kept
    | with_reducible apply State.flumeStop_kept
    | fail_if_no_progress (with_reducible refine Kept.mk' ?_ rfl rfl rfl rfl)
    | split

/-! ## Grist -/

theorem State.lifeRecord_kept {s : State} (x0 : State) (x1 : Nat) (x2 : Nat) (x3 : Int) (x4 : Int) (x5 : Nat) (h : Kept s x0) :
    Kept s (State.lifeRecord x0 x1 x2 x3 x4 x5) := by
  unfold State.lifeRecord
  repeat' first
    | with_reducible assumption
    | with_reducible apply State.record_kept
    | with_reducible apply State.raise_kept
    | split

theorem State.tokenFailed_kept {s : State} (x0 : State) (x1 : Nat) (x2 : HostPort) (h : Kept s x0) :
    Kept s (State.tokenFailed x0 x1 x2) := by
  unfold State.tokenFailed
  repeat' first
    | with_reducible assumption
    | with_reducible apply State.lifeRecord_kept

theorem State.rewritten_kept {s : State} (x0 : State) (x1 : Nat) (x2 : Nat) (h : Kept s x0) :
    Kept s (State.rewritten x0 x1 x2) := by
  unfold State.rewritten
  repeat' first
    | with_reducible assumption
    | fail_if_no_progress (with_reducible refine Kept.mk' ?_ rfl rfl rfl rfl)

theorem State.askMirror_kept {s : State} (x0 : State) (h : Kept s x0) :
    Kept s (State.askMirror x0) := by
  unfold State.askMirror
  repeat' first
    | with_reducible assumption
    | with_reducible apply Kept.ite
    | with_reducible apply State.askOnce_kept

theorem State.mirrorOnTime_kept {s : State} (x0 : State) (h : Kept s x0) :
    Kept s (State.mirrorOnTime x0) := by
  unfold State.mirrorOnTime
  repeat' first
    | with_reducible assumption
    | fail_if_no_progress (with_reducible refine Kept.mk' ?_ rfl rfl rfl rfl)

theorem State.mirrorCommit_kept {s : State} (x0 : State) (h : Kept s x0) :
    Kept s (State.mirrorCommit x0) := by
  unfold State.mirrorCommit
  dsimp only
  repeat' first
    | with_reducible assumption
    | with_reducible apply State.record_kept
    | with_reducible apply State.rewritten_kept
    | with_reducible apply State.setPar_kept
    | with_reducible apply State.mirrorOnTime_kept
    | with_reducible apply State.eachOf_kept
    | with_reducible apply Kept.foldl
    | fail_if_no_progress (with_reducible refine Kept.mk' ?_ rfl rfl rfl rfl)
    | (intro _ _; try dsimp only)
    | split

theorem State.firstCommit_kept {s : State} (x0 : State) (h : Kept s x0) :
    Kept s (State.firstCommit x0) := by
  unfold State.firstCommit
  repeat' first
    | with_reducible assumption
    | with_reducible apply State.rewritten_kept
    | fail_if_no_progress (with_reducible refine Kept.mk' ?_ rfl rfl rfl rfl)

theorem State.clearCommit_kept {s : State} (x0 : State) (x1 : Option Nat) (h : Kept s x0) :
    Kept s (State.clearCommit x0 x1) := by
  unfold State.clearCommit
  dsimp only
  repeat' first
    | with_reducible assumption
    | with_reducible apply State.setPar_kept
    | with_reducible apply State.ok_kept
    | with_reducible apply State.createRec_kept
    | with_reducible apply State.incPar_kept
    | fail_if_no_progress (with_reducible refine Kept.mk' ?_ rfl rfl rfl rfl)
    | split

theorem opGristRead_kept {s : State} (x0 : Op) (x1 : State) (h : Kept s x1) :
    Kept s (opGristRead x0 x1) := by
  unfold opGristRead
  repeat' first
    | with_reducible assumption
    | with_reducible apply State.ok_kept
    | with_reducible apply State.fail_kept
    | split

theorem opGristClear_kept {s : State} (x0 : Op) (x1 : State) (h : Kept s x1) :
    Kept s (opGristClear x0 x1) := by
  unfold opGristClear
  repeat' first
    | with_reducible assumption
    | with_reducible apply Kept.ite
    | with_reducible apply State.reply_kept
    | with_reducible apply State.tokenFailed_kept
    | with_reducible apply State.askNvm_kept
    | with_reducible apply State.drawBytes_kept
    | with_reducible apply State.opRunning_kept
    | with_reducible apply State.ok_kept
    | with_reducible apply State.fail_kept
    | fail_if_no_progress (with_reducible refine Kept.mk' ?_ rfl rfl rfl rfl)
    | split

theorem opGristTriggerSet_kept {s : State} (x0 : Op) (x1 : State) (h : Kept s x1) :
    Kept s (opGristTriggerSet x0 x1) := by
  unfold opGristTriggerSet
  repeat' first
    | with_reducible assumption
    | with_reducible apply State.ok_kept
    | with_reducible apply State.askOnce_kept
    | with_reducible apply State.fail_kept
    | fail_if_no_progress (with_reducible refine Kept.mk' ?_ rfl rfl rfl rfl)
    | split

theorem State.runTrigger_kept {s : State} (x0 : State) (x1 : Nat) (h : Kept s x0) :
    Kept s (State.runTrigger x0 x1) := by
  unfold State.runTrigger
  repeat' first
    | with_reducible assumption
    | with_reducible apply Kept.ite
    | with_reducible apply State.record_kept
    | with_reducible apply State.incPar_kept
    | fail_if_no_progress (with_reducible refine Kept.mk' ?_ rfl rfl rfl rfl)

theorem State.runTriggers_kept {s : State} (x0 : State) (h : Kept s x0) :
    Kept s (State.runTriggers x0) := by
  unfold State.runTriggers
  repeat' first
    | with_reducible assumption
    | with_reducible apply State.runTrigger_kept
    | with_reducible apply State.each_kept
    | (intro _ _; try dsimp only)
    | split

/-! ## Restart -/

theorem State.dropWrites_kept {s : State} (x0 : State) (x1 : Nat) (h : Kept s x0) :
    Kept s (State.dropWrites x0 x1) := by
  unfold State.dropWrites
  repeat' first
    | with_reducible assumption
    | fail_if_no_progress (with_reducible refine Kept.mk' ?_ rfl rfl rfl rfl)

theorem State.undo_kept {s : State} (x0 : State) (x1 : Op) (h : Kept s x0) :
    Kept s (State.undo x0 x1) := by
  unfold State.undo
  repeat' first
    | with_reducible assumption
    | with_reducible apply State.setPar_kept
    | with_reducible apply State.dropWrites_kept
    | with_reducible apply State.modSeq_kept
    | fail_if_no_progress (with_reducible refine Kept.mk' ?_ rfl rfl rfl rfl)
    | split

theorem State.withdraw_kept {s : State} (x0 : State) (x1 : Op) (x2 : Nat) (h : Kept s x0) :
    Kept s (State.withdraw x0 x1 x2) := by
  unfold State.withdraw
  repeat' first
    | with_reducible assumption
    | with_reducible apply Kept.ite
    | ((with_reducible apply State.modOp_kept); on_goal 2 => (intro _; exact ⟨rfl, rfl, rfl, rfl⟩))
    | with_reducible apply State.slewEnd_kept
    | with_reducible apply State.reply_kept
    | with_reducible apply State.flumeEnd_kept
    | with_reducible apply State.undo_kept
    | fail_if_no_progress (with_reducible refine Kept.mk' ?_ rfl rfl rfl rfl)
    | split

theorem State.withdrawAll_kept {s : State} (x0 : State) (x1 : List HostPort) (x2 : Nat) (h : Kept s x0) :
    Kept s (State.withdrawAll x0 x1 x2) := by
  unfold State.withdrawAll
  repeat' first
    | with_reducible assumption
    | with_reducible apply State.withdraw_kept
    | with_reducible apply Kept.foldl
    | (intro _ _; try dsimp only)

theorem State.portOff_kept {s : State} (x0 : State) (x1 : HostPort)
    (h : Kept s x0) : Kept s (x0.portOff x1) := by
  unfold State.portOff
  dsimp only
  apply State.modPort_kept
  have a := State.withdrawAll_kept x0 [x1] 3 h
  exact ⟨a.queue, a.store, a.mram, fun w => ((a.hopper w).sublist List.filter_sublist).orphan x1⟩

theorem opAbort_kept {s : State} (x0 : Op) (x1 : State) (h : Kept s x1) :
    Kept s (opAbort x0 x1) := by
  unfold opAbort
  repeat' first
    | with_reducible assumption
    | with_reducible apply Kept.ite
    | with_reducible apply State.reply_kept
    | with_reducible apply State.withdraw_kept
    | with_reducible apply State.ok_kept
    | with_reducible apply State.fail_kept
    | split

theorem opResultPoll_kept {s : State} (x0 : Op) (x1 : State) (h : Kept s x1) :
    Kept s (opResultPoll x0 x1) := by
  unfold opResultPoll
  repeat' first
    | with_reducible assumption
    | with_reducible apply Kept.ite
    | with_reducible apply State.ok_kept
    | with_reducible apply State.fail_kept
    | split

theorem State.setBank_kept {s : State} (x0 : State) (x1 : Nat) (x2 : Int) (h : Kept s x0) :
    Kept s (State.setBank x0 x1 x2) := by
  unfold State.setBank
  repeat' first
    | with_reducible assumption
    | with_reducible apply State.journalWrite_kept
    | with_reducible apply State.setPar_kept
    | fail_if_no_progress (with_reducible refine Kept.mk' ?_ rfl rfl rfl rfl)
    | split

theorem State.updRest_kept {s : State} (x0 : State) (h : Kept s x0) :
    Kept s (State.updRest x0) := by
  unfold State.updRest
  repeat' first
    | with_reducible assumption
    | with_reducible apply State.setPar_kept

theorem State.updRecord_kept {s : State} (x0 : State) (x1 : Nat) (x2 : Nat) (x3 : Nat) (h : Kept s x0) :
    Kept s (State.updRecord x0 x1 x2 x3) := by
  unfold State.updRecord
  repeat' first
    | with_reducible assumption
    | with_reducible apply State.lifeRecord_kept

theorem State.startCheckin_kept {s : State} (x0 : State) (h : Kept s x0) :
    Kept s (State.startCheckin x0) := by
  unfold State.startCheckin
  repeat' first
    | with_reducible assumption
    | fail_if_no_progress (with_reducible refine Kept.mk' ?_ rfl rfl rfl rfl)

theorem State.trialFail_kept {s : State} (x0 : State) (h : Kept s x0) :
    Kept s (State.trialFail x0) := by
  unfold State.trialFail
  repeat' first
    | with_reducible assumption
    | with_reducible apply Kept.ite
    | with_reducible apply State.startCheckin_kept
    | with_reducible apply State.updRecord_kept
    | with_reducible apply State.setBank_kept
    | with_reducible apply State.setPar_kept
    | with_reducible apply State.incPar_kept
    | fail_if_no_progress (with_reducible refine Kept.mk' ?_ rfl rfl rfl rfl)

theorem State.abandonTests_kept {s : State} (x0 : State) (h : Kept s x0) :
    Kept s (State.abandonTests x0) := by
  unfold State.abandonTests
  repeat' first
    | with_reducible assumption
    | fail_if_no_progress (with_reducible refine Kept.mk' ?_ rfl rfl rfl rfl)

theorem State.lanesReturn_kept {s : State} (x0 : State) (h : Kept s x0) :
    Kept s (State.lanesReturn x0) := by
  unfold State.lanesReturn
  repeat' first
    | with_reducible assumption
    | with_reducible apply State.setLane_kept
    | with_reducible apply State.eachOf_kept
    | (intro _ _; try dsimp only)

theorem State.l3Restart_kept {s : State} (x0 : State) (x1 : Nat) (h : Kept s x0) :
    Kept s (State.l3Restart x0 x1) := by
  unfold State.l3Restart
  repeat' first
    | with_reducible assumption
    | with_reducible apply Kept.ite
    | with_reducible apply State.trialFail_kept
    | with_reducible apply State.withdrawAll_kept
    | with_reducible apply State.setPar_kept
    | with_reducible apply State.abandonTests_kept
    | with_reducible apply State.incPar_kept
    | with_reducible apply State.flumeStop_kept
    | with_reducible apply State.lanesReturn_kept
    | fail_if_no_progress (with_reducible refine Kept.mk' ?_ rfl rfl rfl rfl)

theorem State.startupAgain_kept {s : State} (x0 : State) (h : Kept s x0) :
    Kept s (State.startupAgain x0) := by
  unfold State.startupAgain
  repeat' first
    | with_reducible assumption
    | with_reducible apply State.setPar_kept
    | with_reducible apply State.authAll_kept
    | with_reducible apply State.askOnce_kept
    | with_reducible apply State.modSeq_kept
    | with_reducible apply State.enterShelf_kept
    | fail_if_no_progress (with_reducible refine Kept.mk' ?_ rfl rfl rfl rfl)
    | split

theorem State.powerOnNow_kept {s : State} (x0 : State) (h : Kept s x0) :
    Kept s (State.powerOnNow x0) := by
  unfold State.powerOnNow
  repeat' first
    | with_reducible assumption
    | with_reducible apply State.l3Restart_kept
    | with_reducible apply State.cogPulse_kept
    | with_reducible apply State.modSeq_kept
    | split

theorem State.powerOnRequest_kept {s : State} (x0 : State) (h : Kept s x0) :
    Kept s (State.powerOnRequest x0).2 := by
  unfold State.powerOnRequest
  repeat' first
    | with_reducible assumption
    | with_reducible apply State.powerOnNow_kept
    | with_reducible apply State.modSeq_kept
    | split

theorem State.powerOnDue_kept {s : State} (x0 : State) (h : Kept s x0) :
    Kept s (State.powerOnDue x0) := by
  unfold State.powerOnDue
  repeat' first
    | with_reducible assumption
    | with_reducible apply State.powerOnNow_kept
    | split

theorem State.takeShift_kept {s : State} (x0 : State) (x1 : PendingShift) (h : Kept s x0) :
    Kept s (State.takeShift x0 x1) := by
  unfold State.takeShift
  repeat' first
    | with_reducible assumption
    | with_reducible apply State.enterShelf_kept
    | split

theorem State.takeWaiting_kept {s : State} (x0 : State) (x1 : HostPort) (h : Kept s x0) :
    Kept s (State.takeWaiting x0 x1) := by
  unfold State.takeWaiting
  repeat' first
    | with_reducible assumption
    | with_reducible apply State.modPort_kept
    | with_reducible apply State.submitBytes_kept
    | with_reducible apply Kept.foldl
    | (intro _ _; try dsimp only)

theorem State.restartRecords_kept {s : State} (x0 : State) (h : Kept s x0) :
    Kept s (State.restartRecords x0) := by
  unfold State.restartRecords
  repeat' first
    | with_reducible assumption
    | with_reducible apply State.flushRecords_kept
    | with_reducible apply State.createRec_kept
    | with_reducible apply Kept.foldl
    | fail_if_no_progress (with_reducible refine Kept.mk' ?_ rfl rfl rfl rfl)
    | (intro _ _; try dsimp only)

theorem opSeqPowerOn_kept {s : State} (x0 : Op) (x1 : State) (h : Kept s x1) :
    Kept s (opSeqPowerOn x0 x1) := by
  unfold opSeqPowerOn
  repeat' first
    | with_reducible assumption
    | with_reducible apply State.opCommit_kept
    | with_reducible apply State.powerOnRequest_kept
    | with_reducible apply State.ok_kept
    | with_reducible apply State.fail_kept
    | split

/-! ## Dresser -/

theorem State.dresserBit_kept {s : State} (x0 : State) (x1 : Nat) (h : Kept s x0) :
    Kept s (State.dresserBit x0 x1) := by
  unfold State.dresserBit
  repeat' first
    | with_reducible assumption
    | with_reducible apply State.setBit_kept

theorem State.modDresser_kept {s : State} (x0 : State) (x1 : DresserState → DresserState) (h : Kept s x0) :
    Kept s (State.modDresser x0 x1) := by
  unfold State.modDresser
  repeat' first
    | with_reducible assumption
    | fail_if_no_progress (with_reducible refine Kept.mk' ?_ rfl rfl rfl rfl)

theorem State.dresserRecord_kept {s : State} (x0 : State) (x1 : List Snap) (h : Kept s x0) :
    Kept s (State.dresserRecord x0 x1) := by
  unfold State.dresserRecord
  repeat' first
    | with_reducible assumption
    | with_reducible apply State.record_kept

theorem State.bankRecord_kept {s : State} (x0 : State) (x1 : Nat) (h : Kept s x0) :
    Kept s (State.bankRecord x0 x1) := by
  unfold State.bankRecord
  repeat' first
    | with_reducible assumption
    | with_reducible apply State.record_kept

theorem State.loopFault_kept {s : State} (x0 : State) (x1 : Nat) (h : Kept s x0) :
    Kept s (State.loopFault x0 x1) := by
  unfold State.loopFault
  repeat' first
    | with_reducible assumption
    | with_reducible apply State.phaseRemoved_kept
    | with_reducible apply State.setObj_kept
    | with_reducible apply State.stopPhase_kept
    | with_reducible apply State.modPhase_kept
    | with_reducible apply State.bankRecord_kept
    | with_reducible apply State.eachOf_kept
    | with_reducible apply State.latchFault_kept
    | (intro _ _ _; try dsimp only)
    | split

theorem State.bankBad_kept {s : State} (x0 : State) (x1 : Nat) (x2 : Nat) (h : Kept s x0) :
    Kept s (State.bankBad x0 x1 x2) := by
  unfold State.bankBad
  repeat' first
    | with_reducible assumption
    | with_reducible apply State.loopFault_kept
    | with_reducible apply State.bankRecord_kept
    | with_reducible apply State.modLoop_kept
    | with_reducible apply State.loopSwap_kept
    | split

theorem State.queueRepair_kept {s : State} (x0 : State) (x1 : Nat) (x2 : Nat) (h : Kept s x0) :
    Kept s (State.queueRepair x0 x1 x2) := by
  unfold State.queueRepair
  repeat' first
    | with_reducible assumption
    | with_reducible apply Kept.ite
    | with_reducible apply State.modDresser_kept
    | with_reducible apply State.askNvm_kept
    | with_reducible apply State.dresserBit_kept

theorem State.repairCommit_kept {s : State} (x0 : State) (x1 : Nat) (x2 : Nat) (h : Kept s x0) :
    Kept s (State.repairCommit x0 x1 x2) := by
  unfold State.repairCommit
  repeat' first
    | with_reducible assumption
    | with_reducible apply State.incPar_kept
    | fail_if_no_progress (with_reducible refine Kept.mk' ?_ rfl rfl rfl rfl)

theorem State.lostRun_kept {s : State} (x0 : State) (x1 : Nat) (x2 : Nat) (x3 : Nat) (h : Kept s x0) :
    Kept s (State.lostRun x0 x1 x2 x3) := by
  unfold State.lostRun
  repeat' first
    | with_reducible assumption
    | with_reducible apply State.setBit_kept
    | with_reducible apply State.addPar_kept
    | with_reducible apply State.record_kept

theorem State.rebuildArea_kept {s : State} (x0 : State) (h : Kept s x0) :
    Kept s (State.rebuildArea x0) := by
  unfold State.rebuildArea
  dsimp only
  repeat' first
    | with_reducible assumption
    | with_reducible apply State.setBit_kept
    | with_reducible apply State.gristParams_kept
    | with_reducible apply State.lostRun_kept
    | fail_if_no_progress (with_reducible refine Kept.mk' ?_ rfl rfl rfl rfl)
    | split

theorem State.loseSlot_kept {s : State} (x0 : State) (x1 : Nat) (h : Kept s x0) :
    Kept s (State.loseSlot x0 x1) := by
  unfold State.loseSlot
  repeat' first
    | with_reducible assumption
    | with_reducible apply State.gristParams_kept
    | with_reducible apply State.lostRun_kept
    | fail_if_no_progress (with_reducible refine Kept.mk' ?_ rfl rfl rfl rfl)
    | split

theorem State.keyStatus_kept {s : State} (x0 : State) (h : Kept s x0) :
    Kept s (State.keyStatus x0) := by
  unfold State.keyStatus
  repeat' first
    | with_reducible assumption
    | with_reducible apply State.setPar_kept

theorem State.loseCopy_kept {s : State} (x0 : State) (x1 : Nat) (h : Kept s x0) :
    Kept s (State.loseCopy x0 x1) := by
  unfold State.loseCopy
  repeat' first
    | with_reducible assumption
    | with_reducible apply Kept.ite
    | with_reducible apply State.setPar_kept
    | fail_if_no_progress (with_reducible refine Kept.mk' ?_ rfl rfl rfl rfl)

theorem State.loseTrim_kept {s : State} (x0 : State) (x1 : Nat) (h : Kept s x0) :
    Kept s (State.loseTrim x0 x1) := by
  unfold State.loseTrim
  repeat' first
    | with_reducible assumption
    | with_reducible apply State.setObj_kept
    | with_reducible apply State.setPar_kept

theorem State.uncorrectableAct_kept {s : State} (x0 : State) (x1 : CodewordUse) (h : Kept s x0) :
    Kept s (State.uncorrectableAct x0 x1) := by
  unfold State.uncorrectableAct
  repeat' first
    | with_reducible assumption
    | with_reducible apply State.keyStatus_kept
    | with_reducible apply State.loseSlot_kept
    | with_reducible apply State.loopFault_kept
    | with_reducible apply State.rebuildArea_kept
    | with_reducible apply State.setPar_kept
    | with_reducible apply State.l3Restart_kept
    | with_reducible apply State.loseTrim_kept
    | with_reducible apply State.journalLose_kept
    | with_reducible apply State.loseCopy_kept
    | with_reducible apply State.bankBad_kept
    | fail_if_no_progress (with_reducible refine Kept.mk' ?_ rfl rfl rfl rfl)
    | split

theorem State.uncorrectable_kept {s : State} (x0 : State) (x1 : Nat) (x2 : Nat) (x3 : Nat) (x4 : Nat) (x5 : CodewordUse) (h : Kept s x0) :
    Kept s (State.uncorrectable x0 x1 x2 x3 x4 x5) := by
  unfold State.uncorrectable
  repeat' first
    | with_reducible assumption
    | with_reducible apply State.uncorrectableAct_kept
    | with_reducible apply State.dresserRecord_kept
    | with_reducible apply State.setPar_kept
    | with_reducible apply State.dresserBit_kept
    | with_reducible apply State.incPar_kept
    | fail_if_no_progress (with_reducible refine Kept.mk' ?_ rfl rfl rfl rfl)
    | split

theorem State.hardCodeword_kept {s : State} (x0 : State) (x1 : Nat) (x2 : Nat) (x3 : Nat) (x4 : Nat) (h : Kept s x0) :
    Kept s (State.hardCodeword x0 x1 x2 x3 x4) := by
  unfold State.hardCodeword
  repeat' first
    | with_reducible assumption
    | with_reducible apply State.modDresser_kept
    | with_reducible apply State.dresserRecord_kept
    | with_reducible apply State.setPar_kept
    | with_reducible apply State.queueRepair_kept
    | split

theorem State.corrected_kept {s : State} (x0 : State) (x1 : Nat) (x2 : Nat) (x3 : Nat) (x4 : Nat) (h : Kept s x0) :
    Kept s (State.corrected x0 x1 x2 x3 x4) := by
  unfold State.corrected
  repeat' first
    | with_reducible assumption
    | with_reducible apply Kept.ite
    | with_reducible apply State.hardCodeword_kept
    | with_reducible apply State.modDresser_kept
    | with_reducible apply State.askNvm_kept
    | with_reducible apply State.setPar_kept
    | with_reducible apply State.incPar_kept

theorem State.hostUnit_kept {s : State} (x0 : State) (x1 : DresserItem) (x2 : Bool) (x3 : Nat) (x4 : Nat) (x5 : Nat) (h : Kept s x0) :
    Kept s (State.hostUnit x0 x1 x2 x3 x4 x5) := by
  unfold State.hostUnit
  repeat' first
    | with_reducible assumption
    | with_reducible apply State.modDresser_kept
    | split

theorem State.rotate_kept {s : State} (x0 : State) (x1 : Nat) (x2 : Nat) (h : Kept s x0) :
    Kept s (State.rotate x0 x1 x2) := by
  unfold State.rotate
  repeat' first
    | with_reducible assumption
    | with_reducible apply State.modDresser_kept

theorem State.dresserGrant_kept {s : State} (x0 : State) (x1 : DresserItem) (h : Kept s x0) :
    Kept s (State.dresserGrant x0 x1) := by
  unfold State.dresserGrant
  repeat' first
    | with_reducible assumption
    | with_reducible apply State.modDresser_kept
    | split

theorem State.retestDone_kept {s : State} (x0 : State) (x1 : Nat) (x2 : Nat) (h : Kept s x0) :
    Kept s (State.retestDone x0 x1 x2) := by
  unfold State.retestDone
  repeat' first
    | with_reducible assumption
    | with_reducible apply State.modDresser_kept

theorem State.sliceRecord_kept {s : State} (x0 : State) (x1 : Nat) (x2 : Nat) (h : Kept s x0) :
    Kept s (State.sliceRecord x0 x1 x2) := by
  unfold State.sliceRecord
  repeat' first
    | with_reducible assumption
    | with_reducible apply State.dresserRecord_kept

theorem State.sliceCount_kept {s : State} (x0 : State) (x1 : Nat) (x2 : Nat) (h : Kept s x0) :
    Kept s (State.sliceCount x0 x1 x2) := by
  unfold State.sliceCount
  repeat' first
    | with_reducible assumption
    | with_reducible apply Kept.ite
    | with_reducible apply State.modDresser_kept
    | with_reducible apply State.setPar_kept
    | with_reducible apply State.rotate_kept
    | with_reducible apply State.incPar_kept

theorem State.sliceFails_kept {s : State} (x0 : State) (x1 : Nat) (x2 : Nat) (x3 : Nat) (x4 : Nat) (x5 : Nat) (h : Kept s x0) :
    Kept s (State.sliceFails x0 x1 x2 x3 x4 x5) := by
  unfold State.sliceFails
  repeat' first
    | with_reducible assumption
    | with_reducible apply Kept.ite
    | with_reducible apply State.modDresser_kept
    | with_reducible apply State.retestDone_kept
    | with_reducible apply State.hostUnit_kept
    | with_reducible apply State.setPar_kept
    | with_reducible apply State.dresserBit_kept
    | with_reducible apply State.sliceRecord_kept
    | with_reducible apply State.queueRepair_kept

theorem State.bistCancel_kept {s : State} (x0 : State) (x1 : Nat) (h : Kept s x0) :
    Kept s (State.bistCancel x0 x1) := by
  unfold State.bistCancel
  repeat' first
    | with_reducible assumption
    | with_reducible apply Kept.ite
    | with_reducible apply State.modDresser_kept
    | with_reducible apply State.setLane_kept
    | split

theorem opBistRequest_kept {s : State} (x0 : Op) (x1 : State) (h : Kept s x1) :
    Kept s (opBistRequest x0 x1) := by
  unfold opBistRequest
  dsimp only
  repeat' first
    | with_reducible assumption
    | with_reducible apply State.modDresser_kept
    | with_reducible apply State.bistCancel_kept
    | with_reducible apply State.reply_kept
    | with_reducible apply State.record_kept
    | with_reducible apply State.setPar_kept
    | with_reducible apply State.opRunning_kept
    | with_reducible apply State.ok_kept
    | split

theorem State.bistReplies_kept {s : State} (x0 : State) (x1 : List Nat) (x2 : Option (Nat × Nat)) (x3 : Bool) (h : Kept s x0) :
    Kept s (State.bistReplies x0 x1 x2 x3) := by
  unfold State.bistReplies
  repeat' first
    | with_reducible assumption
    | with_reducible apply State.modDresser_kept
    | with_reducible apply State.reply_kept
    | with_reducible apply State.ok_kept
    | with_reducible apply Kept.foldl
    | (intro _ _ _; try dsimp only)
    | split

theorem opBistResult_kept {s : State} (x0 : Op) (x1 : State) (h : Kept s x1) :
    Kept s (opBistResult x0 x1) := by
  unfold opBistResult
  dsimp only
  repeat' first
    | with_reducible assumption
    | with_reducible apply State.ok_kept
    | with_reducible apply State.fail_kept
    | split

/-! ## Save -/

theorem State.putSave_kept {s : State} (x0 : State) (x1 : Bool) (h : Kept s x0) :
    Kept s (State.putSave x0 x1) := by
  unfold State.putSave
  repeat' first
    | with_reducible assumption
    | with_reducible apply State.rewritten_kept
    | fail_if_no_progress (with_reducible refine Kept.mk' ?_ rfl rfl rfl rfl)

theorem State.tearSave_kept {s : State} (x0 : State) (h : Kept s x0) :
    Kept s (State.tearSave x0) := by
  unfold State.tearSave
  repeat' first
    | with_reducible assumption
    | with_reducible apply State.putSave_kept
    | split

theorem State.saveStart_kept {s : State} (x0 : State) (h : Kept s x0) :
    Kept s (State.saveStart x0) := by
  unfold State.saveStart
  repeat' first
    | with_reducible assumption
    | with_reducible apply State.draw_kept
    | fail_if_no_progress (with_reducible refine Kept.mk' ?_ rfl rfl rfl rfl)

/-! ## Reset -/

theorem State.enLow_kept {s : State} (x0 : State) (h : Kept s x0) :
    Kept s (State.enLow x0) := by
  unfold State.enLow
  repeat' first
    | with_reducible assumption
    | with_reducible apply State.railOff_kept
    | with_reducible apply State.each_kept
    | (intro _ _; try dsimp only)

theorem State.spoilMeans_kept {s : State} (x0 : State) (h : Kept s x0) :
    Kept s (State.spoilMeans x0) := by
  unfold State.spoilMeans
  repeat' first
    | with_reducible assumption
    | with_reducible apply State.modChan_kept
    | with_reducible apply State.eachOf_kept
    | (intro _ _; try dsimp only)

theorem State.csReset_kept {s : State} (x0 : State) (x1 : ResetCause) (h : Kept s x0) :
    Kept s (State.csReset x0 x1) := by
  unfold State.csReset
  repeat' first
    | with_reducible assumption
    | with_reducible apply Kept.ite
    | with_reducible apply State.stopConversion_kept
    | with_reducible apply State.tearSave_kept
    | with_reducible apply State.cutWrite_kept
    | with_reducible apply State.enLow_kept
    | with_reducible apply State.spoilMeans_kept
    | with_reducible apply State.cogLeave_kept
    | with_reducible apply State.flumeStop_kept
    | fail_if_no_progress (with_reducible refine Kept.mk' ?_ rfl rfl rfl rfl)
    | split

theorem State.psdOutputsOff_kept {s : State} (x0 : State) (h : Kept s x0) :
    Kept s (State.psdOutputsOff x0) := by
  unfold State.psdOutputsOff
  repeat' first
    | with_reducible assumption
    | with_reducible apply State.stopConversion_kept
    | with_reducible apply State.stringWait_kept
    | with_reducible apply State.each_kept
    | with_reducible apply State.feederWait_kept
    | (intro _ _; try dsimp only)

/-! ## LifeCycle -/

theorem State.noSchedule_kept {s : State} (x0 : State) (h : Kept s x0) :
    Kept s (State.noSchedule x0) := by
  unfold State.noSchedule
  repeat' first
    | with_reducible assumption
    | with_reducible apply State.setPar_kept
    | fail_if_no_progress (with_reducible refine Kept.mk' ?_ rfl rfl rfl rfl)

theorem State.endActHold_kept {s : State} (x0 : State) (h : Kept s x0) :
    Kept s (State.endActHold x0) := by
  unfold State.endActHold
  repeat' first
    | with_reducible assumption
    | with_reducible apply State.modSeq_kept

theorem State.dropDevelopment_kept {s : State} (x0 : State) (h : Kept s x0) :
    Kept s (State.dropDevelopment x0) := by
  unfold State.dropDevelopment
  repeat' first
    | with_reducible assumption
    | with_reducible apply State.setBank_kept
    | with_reducible apply State.each_kept
    | with_reducible apply State.setPar_kept
    | with_reducible apply State.endActHold_kept
    | with_reducible apply State.noSchedule_kept
    | (intro _ _ _; try dsimp only)
    | split

theorem State.keyWritten_kept {s : State} (x0 : State) (x1 : Op) (x2 : Nat) (x3 : Bytes) (h : Kept s x0) :
    Kept s (State.keyWritten x0 x1 x2 x3) := by
  unfold State.keyWritten
  repeat' first
    | with_reducible assumption
    | with_reducible apply State.keyStatus_kept
    | with_reducible apply State.lifeRecord_kept
    | fail_if_no_progress (with_reducible refine Kept.mk' ?_ rfl rfl rfl rfl)

theorem opLcState_kept {s : State} (x0 : Op) (x1 : State) (h : Kept s x1) :
    Kept s (opLcState x0 x1) := by
  unfold opLcState
  repeat' first
    | with_reducible assumption
    | with_reducible apply State.ok_kept
    | with_reducible apply State.fail_kept
    | split

theorem opDebugUnlock_kept {s : State} (x0 : Op) (x1 : State) (h : Kept s x1) :
    Kept s (opDebugUnlock x0 x1) := by
  unfold opDebugUnlock
  repeat' first
    | with_reducible assumption
    | with_reducible apply Kept.ite
    | with_reducible apply State.reply_kept
    | with_reducible apply State.tokenFailed_kept
    | with_reducible apply State.setPar_kept
    | with_reducible apply State.ok_kept
    | with_reducible apply State.lifeRecord_kept
    | with_reducible apply State.fail_kept
    | fail_if_no_progress (with_reducible refine Kept.mk' ?_ rfl rfl rfl rfl)
    | split

/-! ## Update -/

theorem State.setUpd_kept {s : State} (x0 : State) (x1 : Int) (h : Kept s x0) :
    Kept s (State.setUpd x0 x1) := by
  unfold State.setUpd
  repeat' first
    | with_reducible assumption
    | with_reducible apply State.setPar_kept

theorem State.releaseSats_kept {s : State} (x0 : State) (h : Kept s x0) :
    Kept s (State.releaseSats x0) := by
  unfold State.releaseSats
  repeat' first
    | with_reducible assumption
    | fail_if_no_progress (with_reducible refine Kept.mk' ?_ rfl rfl rfl rfl)

theorem opUpdOpen_kept {s : State} (x0 : Op) (x1 : State) (h : Kept s x1) :
    Kept s (opUpdOpen x0 x1) := by
  unfold opUpdOpen
  repeat' first
    | with_reducible assumption
    | with_reducible apply Kept.ite
    | with_reducible apply State.reply_kept
    | with_reducible apply State.opCommit_kept
    | with_reducible apply State.setBank_kept
    | with_reducible apply State.setPar_kept
    | with_reducible apply State.releaseSats_kept
    | with_reducible apply State.ok_kept
    | with_reducible apply State.setUpd_kept
    | with_reducible apply State.fail_kept
    | fail_if_no_progress (with_reducible refine Kept.mk' ?_ rfl rfl rfl rfl)

theorem opUpdBlock_kept {s : State} (x0 : Op) (x1 : State) (h : Kept s x1) :
    Kept s (opUpdBlock x0 x1) := by
  unfold opUpdBlock
  repeat' first
    | with_reducible assumption
    | with_reducible apply State.reply_kept
    | with_reducible apply State.askNvm_kept
    | with_reducible apply State.opRunning_kept
    | split

theorem State.putBlock_kept {s : State} (x0 : State) (x1 : Nat) (x2 : Bytes)
    (h : Kept s x0) : Kept s (x0.putBlock x1 x2) := by
  unfold State.putBlock
  have hm := h.mram
  generalize (List.map (fun i => (x0.placeOf (x1 + i), x2.getD i 0)) (List.range x2.length)) = l
  dsimp only
  have k : mramWf s.nvm.mram = true → mramWf (l.foldl (fun l e => match e.1 with
      | some a => mramWrite l a e.2
      | none => l) x0.nvm.mram) = true := by
    intro w
    have := hm w
    generalize x0.nvm.mram = m at this ⊢
    induction l generalizing m with
    | nil => exact this
    | cons e l ih =>
      refine ih _ ?_
      dsimp only
      split
      · exact mramWf_write _ _ this
      · exact this
  have a : Kept s { x0 with nvm := { x0.nvm with mram := (l.foldl (fun l e => match e.1 with
      | some a => mramWrite l a e.2
      | none => l) x0.nvm.mram) } } := ⟨h.queue, h.store, k, h.hopper⟩
  split
  · exact State.rewritten_kept _ _ _ a
  · exact a

theorem State.sectionTouched_kept {s : State} (x0 : State) (x1 : Nat) (h : Kept s x0) :
    Kept s (State.sectionTouched x0 x1) := by
  unfold State.sectionTouched
  repeat' first
    | with_reducible assumption
    | with_reducible apply Kept.ite
    | fail_if_no_progress (with_reducible refine Kept.mk' ?_ rfl rfl rfl rfl)
    | split

theorem State.blockCommit_kept {s : State} (x0 : State) (x1 : Nat) (x2 : Bytes) (x3 : Option Nat) (h : Kept s x0) :
    Kept s (State.blockCommit x0 x1 x2 x3) := by
  unfold State.blockCommit
  dsimp only
  repeat' first
    | with_reducible assumption
    | with_reducible apply State.sectionTouched_kept
    | with_reducible apply State.setBank_kept
    | with_reducible apply State.putBlock_kept
    | with_reducible apply State.setPar_kept
    | with_reducible apply State.ok_kept
    | fail_if_no_progress (with_reducible refine Kept.mk' ?_ rfl rfl rfl rfl)
    | split

theorem opUpdClose_kept {s : State} (x0 : Op) (x1 : State) (h : Kept s x1) :
    Kept s (opUpdClose x0 x1) := by
  unfold opUpdClose
  repeat' first
    | with_reducible assumption
    | with_reducible apply Kept.ite
    | with_reducible apply State.opRunning_kept
    | with_reducible apply State.setUpd_kept
    | with_reducible apply State.fail_kept
    | fail_if_no_progress (with_reducible refine Kept.mk' ?_ rfl rfl rfl rfl)

theorem State.closeEnds_kept {s : State} (x0 : State) (h : Kept s x0) :
    Kept s (State.closeEnds x0) := by
  unfold State.closeEnds
  repeat' first
    | with_reducible assumption
    | with_reducible apply State.setUpd_kept
    | fail_if_no_progress (with_reducible refine Kept.mk' ?_ rfl rfl rfl rfl)

theorem State.pendSats_kept {s : State} (x0 : State) (h : Kept s x0) :
    Kept s (State.pendSats x0) := by
  unfold State.pendSats
  repeat' first
    | with_reducible assumption
    | with_reducible apply State.each_kept
    | fail_if_no_progress (with_reducible refine Kept.mk' ?_ rfl rfl rfl rfl)
    | (intro _ _ _; try dsimp only)

theorem State.stagedCommit_kept {s : State} (x0 : State) (x1 : Option Nat) (h : Kept s x0) :
    Kept s (State.stagedCommit x0 x1) := by
  unfold State.stagedCommit
  repeat' first
    | with_reducible assumption
    | with_reducible apply Kept.ite
    | with_reducible apply State.updRecord_kept
    | with_reducible apply State.csReset_kept
    | with_reducible apply State.setBank_kept
    | with_reducible apply State.pendSats_kept
    | with_reducible apply State.setPar_kept
    | with_reducible apply State.ok_kept
    | with_reducible apply State.setUpd_kept
    | fail_if_no_progress (with_reducible refine Kept.mk' ?_ rfl rfl rfl rfl)
    | split

theorem State.dropBlocks_kept {s : State} (x0 : State) (h : Kept s x0) :
    Kept s (State.dropBlocks x0) := by
  unfold State.dropBlocks
  repeat' first
    | with_reducible assumption
    | with_reducible apply State.reply_kept
    | with_reducible apply Kept.foldl
    | fail_if_no_progress (with_reducible refine Kept.mk' ?_ rfl rfl rfl rfl)
    | (intro _ _ _; try dsimp only)
    | split

theorem State.cancelCommit_kept {s : State} (x0 : State) (x1 : Option Nat) (h : Kept s x0) :
    Kept s (State.cancelCommit x0 x1) := by
  unfold State.cancelCommit
  dsimp only
  repeat' first
    | with_reducible assumption
    | with_reducible apply State.setBank_kept
    | with_reducible apply State.setPar_kept
    | with_reducible apply State.releaseSats_kept
    | with_reducible apply State.ok_kept
    | with_reducible apply State.setUpd_kept
    | with_reducible apply State.dropBlocks_kept
    | fail_if_no_progress (with_reducible refine Kept.mk' ?_ rfl rfl rfl rfl)
    | split

theorem State.scheduleReply_kept {s : State} (x0 : State) (x1 : Nat) (x2 : Nat) (x3 : Nat) (x4 : Nat) (h : Kept s x0) :
    Kept s (State.scheduleReply x0 x1 x2 x3 x4) := by
  unfold State.scheduleReply
  dsimp only
  repeat' first
    | with_reducible assumption
    | with_reducible apply State.reply_kept
    | fail_if_no_progress (with_reducible refine Kept.mk' ?_ rfl rfl rfl rfl)
    | split

theorem State.scheduleEnds_kept {s : State} (x0 : State) (x1 : Nat) (h : Kept s x0) :
    Kept s (State.scheduleEnds x0 x1) := by
  unfold State.scheduleEnds
  repeat' first
    | with_reducible assumption
    | with_reducible apply State.updRecord_kept
    | with_reducible apply State.askConfig_kept
    | with_reducible apply State.endActHold_kept
    | with_reducible apply State.noSchedule_kept
    | with_reducible apply State.updRest_kept

theorem opUpdCancel_kept {s : State} (x0 : Op) (x1 : State) (h : Kept s x1) :
    Kept s (opUpdCancel x0 x1) := by
  unfold opUpdCancel
  repeat' first
    | with_reducible assumption
    | with_reducible apply Kept.ite
    | with_reducible apply State.reply_kept
    | with_reducible apply State.cancelCommit_kept
    | with_reducible apply State.scheduleEnds_kept
    | with_reducible apply State.askNvm_kept
    | with_reducible apply State.scheduleReply_kept
    | with_reducible apply State.opRunning_kept
    | with_reducible apply State.ok_kept
    | with_reducible apply State.fail_kept
    | fail_if_no_progress (with_reducible refine Kept.mk' ?_ rfl rfl rfl rfl)

theorem opUpdSchedule_kept {s : State} (x0 : Op) (x1 : State) (h : Kept s x1) :
    Kept s (opUpdSchedule x0 x1) := by
  unfold opUpdSchedule
  dsimp only
  repeat' first
    | with_reducible assumption
    | with_reducible apply State.reply_kept
    | with_reducible apply State.opCommit_kept
    | with_reducible apply State.updRecord_kept
    | with_reducible apply State.setPar_kept
    | with_reducible apply State.askConfig_kept
    | with_reducible apply State.ok_kept
    | with_reducible apply State.setUpd_kept
    | fail_if_no_progress (with_reducible refine Kept.mk' ?_ rfl rfl rfl rfl)
    | split

theorem State.fallDue_kept {s : State} (x0 : State) (h : Kept s x0) :
    Kept s (State.fallDue x0) := by
  unfold State.fallDue
  repeat' first
    | with_reducible assumption
    | fail_if_no_progress (with_reducible refine Kept.mk' ?_ rfl rfl rfl rfl)
    | split

theorem State.driveReset_kept {s : State} (x0 : State) (h : Kept s x0) :
    Kept s (State.driveReset x0) := by
  unfold State.driveReset
  repeat' first
    | with_reducible assumption
    | with_reducible apply Kept.ite
    | with_reducible apply State.cogPulse_kept
    | fail_if_no_progress (with_reducible refine Kept.mk' ?_ rfl rfl rfl rfl)

theorem State.activateGrant_kept {s : State} (x0 : State) (h : Kept s x0) :
    Kept s (State.activateGrant x0) := by
  unfold State.activateGrant
  repeat' first
    | with_reducible assumption
    | with_reducible apply State.endActHold_kept
    | with_reducible apply State.setUpd_kept
    | fail_if_no_progress (with_reducible refine Kept.mk' ?_ rfl rfl rfl rfl)

theorem State.activateRefused_kept {s : State} (x0 : State) (x1 : Nat) (h : Kept s x0) :
    Kept s (State.activateRefused x0 x1) := by
  unfold State.activateRefused
  repeat' first
    | with_reducible assumption
    | with_reducible apply State.scheduleEnds_kept
    | with_reducible apply State.scheduleReply_kept

theorem State.activateCommit_kept {s : State} (x0 : State) (h : Kept s x0) :
    Kept s (State.activateCommit x0) := by
  unfold State.activateCommit
  repeat' first
    | with_reducible assumption
    | with_reducible apply State.startCheckin_kept
    | with_reducible apply State.updRecord_kept
    | with_reducible apply State.setBank_kept
    | with_reducible apply State.setPar_kept
    | with_reducible apply State.l3Restart_kept
    | with_reducible apply State.scheduleReply_kept
    | with_reducible apply State.askConfig_kept
    | with_reducible apply State.setUpd_kept
    | with_reducible apply State.noSchedule_kept
    | fail_if_no_progress (with_reducible refine Kept.mk' ?_ rfl rfl rfl rfl)

theorem State.checkinCommit_kept {s : State} (x0 : State) (h : Kept s x0) :
    Kept s (State.checkinCommit x0) := by
  unfold State.checkinCommit
  repeat' first
    | with_reducible assumption
    | with_reducible apply State.updRecord_kept
    | with_reducible apply State.setBank_kept
    | with_reducible apply State.setPar_kept
    | with_reducible apply State.setUpd_kept
    | fail_if_no_progress (with_reducible refine Kept.mk' ?_ rfl rfl rfl rfl)
    | split

theorem opUpdStatus_kept {s : State} (x0 : Op) (x1 : State) (h : Kept s x1) :
    Kept s (opUpdStatus x0 x1) := by
  unfold opUpdStatus
  repeat' first
    | with_reducible assumption
    | with_reducible apply State.ok_kept
    | with_reducible apply State.fail_kept
    | split

/-! ## Time -/

theorem State.clockBit_kept {s : State} (x0 : State) (x1 : Nat) (h : Kept s x0) :
    Kept s (State.clockBit x0 x1) := by
  unfold State.clockBit
  repeat' first
    | with_reducible assumption
    | with_reducible apply State.setBit_kept

theorem State.modTime_kept {s : State} (x0 : State) (x1 : TimeState → TimeState) (h : Kept s x0) :
    Kept s (State.modTime x0 x1) := by
  unfold State.modTime
  repeat' first
    | with_reducible assumption
    | fail_if_no_progress (with_reducible refine Kept.mk' ?_ rfl rfl rfl rfl)

theorem State.recordAwake_kept {s : State} (x0 : State) (x1 : Nat) (x2 : Nat) (x3 : Nat) (x4 : List Snap) (h : Kept s x0) :
    Kept s (State.recordAwake x0 x1 x2 x3 x4) := by
  unfold State.recordAwake
  repeat' first
    | with_reducible assumption
    | with_reducible apply State.record_kept
    | fail_if_no_progress (with_reducible refine Kept.mk' ?_ rfl rfl rfl rfl)
    | split

theorem State.latchTick_kept {s : State} (x0 : State) (x1 : Nat) (x2 : Bool) (h : Kept s x0) :
    Kept s (State.latchTick x0 x1 x2) := by
  unfold State.latchTick
  repeat' first
    | with_reducible assumption
    | with_reducible apply State.modTime_kept

theorem State.tickCommit_kept {s : State} (x0 : State) (h : Kept s x0) :
    Kept s (State.tickCommit x0) := by
  unfold State.tickCommit
  repeat' first
    | with_reducible assumption
    | with_reducible apply State.setPar_kept
    | with_reducible apply State.modTime_kept

theorem opTimeSet_kept {s : State} (x0 : Op) (x1 : State) (h : Kept s x1) :
    Kept s (opTimeSet x0 x1) := by
  unfold opTimeSet
  repeat' first
    | with_reducible assumption
    | with_reducible apply State.opCommit_kept
    | with_reducible apply State.record_kept
    | with_reducible apply State.setPar_kept
    | with_reducible apply State.ok_kept
    | with_reducible apply State.askOnce_kept
    | with_reducible apply State.incPar_kept
    | with_reducible apply State.fail_kept
    | with_reducible apply State.modTime_kept
    | split

theorem opTimeGet_kept {s : State} (x0 : Op) (x1 : State) (h : Kept s x1) :
    Kept s (opTimeGet x0 x1) := by
  unfold opTimeGet
  repeat' first
    | with_reducible assumption
    | with_reducible apply State.ok_kept
    | with_reducible apply State.fail_kept
    | split

/-! ## SequenceRows -/

theorem State.setReading_kept {s : State} (x0 : State) (x1 : Nat) (x2 : Nat) (x3 : Int) (h : Kept s x0) :
    Kept s (State.setReading x0 x1 x2 x3) := by
  unfold State.setReading
  repeat' first
    | with_reducible assumption
    | with_reducible apply State.setPar_kept
    | split

theorem State.pollLow_kept {s : State} (x0 : State) (x1 : Nat) (h : Kept s x0) :
    Kept s (State.pollLow x0 x1) := by
  unfold State.pollLow
  repeat' first
    | with_reducible assumption
    | with_reducible apply State.pgFall_kept
    | with_reducible apply State.downFail_kept
    | with_reducible apply State.modRail_kept
    | split

theorem State.pollHigh_kept {s : State} (x0 : State) (x1 : Nat) (h : Kept s x0) :
    Kept s (State.pollHigh x0 x1) := by
  unfold State.pollHigh
  repeat' first
    | with_reducible assumption
    | with_reducible apply State.pgRise_kept
    | with_reducible apply State.modRail_kept
    | with_reducible apply State.incPar_kept
    | split

theorem State.cogUp_kept {s : State} (x0 : State) (h : Kept s x0) :
    Kept s (State.cogUp x0) := by
  unfold State.cogUp
  repeat' first
    | with_reducible assumption
    | with_reducible apply Kept.ite
    | with_reducible apply State.l3Restart_kept
    | with_reducible apply State.brakeComplete_kept
    | with_reducible apply State.cogStep_kept

theorem State.cogRequest_kept {s : State} (x0 : State) (h : Kept s x0) :
    Kept s (State.cogRequest x0) := by
  unfold State.cogRequest
  repeat' first
    | with_reducible assumption
    | with_reducible apply State.cogUp_kept
    | with_reducible apply State.brakeCause_kept
    | with_reducible apply State.cogStep_kept
    | split

theorem State.cogReset_kept {s : State} (x0 : State) (h : Kept s x0) :
    Kept s (State.cogReset x0) := by
  unfold State.cogReset
  repeat' first
    | with_reducible assumption
    | with_reducible apply State.setBit_kept
    | with_reducible apply State.cogUp_kept

theorem State.forceOff_kept {s : State} (x0 : State) (x1 : ResetCause) (x2 : Nat)
    (h : Kept s x0) : Kept s (x0.forceOff x1 x2) := by
  have a : Kept s ((x0.psdOutputsOff.csReset x1).setPar oShelf Pid.Shelf.SHUTDOWN_CAUSE x2) :=
    State.setPar_kept _ _ _ (State.csReset_kept _ _ (State.psdOutputsOff_kept _ h))
  have b : Kept s x0.cutNvm := State.cutNvm_kept _ h
  unfold State.forceOff
  refine ⟨?_, ?_, ?_, ?_⟩ <;> dsimp only
  · exact a.queue
  · exact a.store
  · exact b.mram
  · exact a.hopper

theorem opSeqPowerOff_kept {s : State} (x0 : Op) (x1 : State) (h : Kept s x1) :
    Kept s (opSeqPowerOff x0 x1) := by
  unfold opSeqPowerOff
  repeat' first
    | with_reducible assumption
    | with_reducible apply Kept.ite
    | with_reducible apply State.reply_kept
    | with_reducible apply State.opCommit_kept
    | with_reducible apply State.ok_kept
    | with_reducible apply State.brakeCause_kept
    | with_reducible apply State.modSeq_kept
    | split

theorem opSeqStep_kept {s : State} (x0 : Op) (x1 : State) (h : Kept s x1) :
    Kept s (opSeqStep x0 x1) := by
  unfold opSeqStep
  repeat' first
    | with_reducible assumption
    | with_reducible apply State.reply_kept
    | with_reducible apply State.enterSeq_kept
    | with_reducible apply State.opRunning_kept
    | with_reducible apply State.stepTaken_kept
    | with_reducible apply State.modSeq_kept
    | split

end Sys2Proof.Machine
end

