-- ==== Sys2Proof/Laws/KeptC.lean ====
section
/-! SUPPORT. What every operation keeps: one lemma for each operation of Downstream, Nvm, Transition, Thermal, Budget, Fantail, Ports, Supply, Params, Yaster, Boot, Startup. -/

namespace Sys2Proof.Machine

set_option Elab.async false

/-! ## Downstream -/

theorem State.frameError_kept {s : State} (x0 : State) (x1 : Nat) (h : Kept s x0) :
    Kept s (State.frameError x0 x1) := by
  unfold State.frameError
  repeat' first
    | with_reducible assumption
    | with_reducible apply State.modDown_kept
    | with_reducible apply State.incPar_kept

theorem State.arbLost_kept {s : State} (x0 : State) (x1 : Nat) (x2 : Nat) (x3 : Nat) (h : Kept s x0) :
    Kept s (State.arbLost x0 x1 x2 x3) := by
  unfold State.arbLost
  repeat' first
    | with_reducible assumption
    | with_reducible apply Kept.ite
    | with_reducible apply State.modDown_kept
    | with_reducible apply State.setBit_kept
    | with_reducible apply State.setPar_kept
    | with_reducible apply State.frameError_kept
    | with_reducible apply State.incPar_kept

theorem State.portRecord_kept {s : State} (x0 : State) (x1 : Nat) (h : Kept s x0) :
    Kept s (State.portRecord x0 x1) := by
  unfold State.portRecord
  repeat' first
    | with_reducible assumption
    | with_reducible apply State.record_kept

theorem State.moduleSilent_kept {s : State} (x0 : State) (x1 : Nat) (h : Kept s x0) :
    Kept s (State.moduleSilent x0 x1) := by
  unfold State.moduleSilent
  repeat' first
    | with_reducible assumption
    | with_reducible apply State.modModule_kept
    | with_reducible apply State.moduleRecord_kept
    | split

theorem State.portFault_kept {s : State} (x0 : State) (x1 : Nat) (x2 : Bool) (h : Kept s x0) :
    Kept s (State.portFault x0 x1 x2) := by
  unfold State.portFault
  repeat' first
    | with_reducible assumption
    | with_reducible apply Kept.ite
    | with_reducible apply State.modDown_kept
    | with_reducible apply State.setBit_kept
    | with_reducible apply State.setObj_kept
    | with_reducible apply State.portRecord_kept
    | with_reducible apply State.setPar_kept
    | with_reducible apply State.eachOf_kept
    | with_reducible apply State.latchFault_kept
    | with_reducible apply State.moduleSilent_kept
    | (intro _ _; try dsimp only)

theorem State.satHeld_kept {s : State} (x0 : State) (x1 : Nat) (x2 : Nat) (x3 : Nat) (h : Kept s x0) :
    Kept s (State.satHeld x0 x1 x2 x3) := by
  unfold State.satHeld
  repeat' first
    | with_reducible assumption
    | with_reducible apply State.setObj_kept
    | with_reducible apply State.updRecord_kept
    | with_reducible apply State.setPar_kept
    | with_reducible apply State.modSat_kept
    | with_reducible apply State.latchFault_kept

theorem State.satSelect_kept {s : State} (x0 : State) (x1 : Nat) (h : Kept s x0) :
    Kept s (State.satSelect x0 x1) := by
  unfold State.satSelect
  repeat' first
    | with_reducible assumption
    | with_reducible apply State.askConfig_kept
    | fail_if_no_progress (with_reducible refine Kept.mk' ?_ rfl rfl rfl rfl)
    | split

theorem State.satSend_kept {s : State} (x0 : State) (x1 : Nat) (x2 : Bool) (x3 : SatAnswer) (x4 : SatImage) (h : Kept s x0) :
    Kept s (State.satSend x0 x1 x2 x3 x4) := by
  unfold State.satSend
  repeat' first
    | with_reducible assumption
    | with_reducible apply Kept.ite
    | with_reducible apply State.setObj_kept
    | with_reducible apply State.clearFaults_kept
    | with_reducible apply State.drawBytes_kept
    | with_reducible apply State.satHeld_kept
    | with_reducible apply State.setPar_kept
    | with_reducible apply State.modSat_kept
    | with_reducible apply State.incPar_kept

/-! ## Nvm -/

theorem State.noteWritten_kept {s : State} (x0 : State) (x1 : NvmWork) (h : Kept s x0) :
    Kept s (State.noteWritten x0 x1) := by
  unfold State.noteWritten
  repeat' first
    | with_reducible assumption
    | with_reducible apply State.journalWrite_kept
    | with_reducible apply State.eachOf_kept
    | fail_if_no_progress (with_reducible refine Kept.mk' ?_ rfl rfl rfl rfl)
    | (intro _ _; try dsimp only)

theorem State.startWrite_kept {s : State} (x0 : State) (x1 : NvmReq) (h : Kept s x0) :
    Kept s (State.startWrite x0 x1) := by
  unfold State.startWrite
  repeat' first
    | with_reducible assumption
    | with_reducible apply State.opCommit_kept
    | fail_if_no_progress (with_reducible refine Kept.mk' ?_ rfl rfl rfl rfl)
    | split

theorem State.refuseWrite_kept {s : State} (x0 : State) (x1 : NvmReq) (x2 : Nat) (h : Kept s x0) :
    Kept s (State.refuseWrite x0 x1 x2) := by
  unfold State.refuseWrite
  dsimp only
  repeat' first
    | with_reducible assumption
    | with_reducible apply State.modDresser_kept
    | with_reducible apply State.reply_kept
    | with_reducible apply State.closeEnds_kept
    | with_reducible apply State.askOnce_kept
    | fail_if_no_progress (with_reducible refine Kept.mk' ?_ rfl rfl rfl rfl)
    | split

theorem State.deferWrite_kept {s : State} (x0 : State) (x1 : NvmReq) (x2 : Nat) (x3 : Nat) (h : Kept s x0) :
    Kept s (State.deferWrite x0 x1 x2 x3) := by
  unfold State.deferWrite
  repeat' first
    | with_reducible assumption
    | with_reducible apply State.reply_kept
    | fail_if_no_progress (with_reducible refine Kept.mk' ?_ rfl rfl rfl rfl)
    | split

theorem State.learnWaits_kept {s : State} (x0 : State) (h : Kept s x0) :
    Kept s (State.learnWaits x0) := by
  unfold State.learnWaits
  repeat' first
    | with_reducible assumption
    | with_reducible apply State.modStr_kept
    | with_reducible apply State.each_kept
    | (intro _ _; try dsimp only)

theorem State.publishWrites_kept {s : State} (x0 : State) (x1 : Option NvmReq) (x2 : List (NvmReq × Nat × Option Nat)) (h : Kept s x0) :
    Kept s (State.publishWrites x0 x1 x2) := by
  unfold State.publishWrites
  repeat' first
    | with_reducible assumption
    | with_reducible apply State.refuseWrite_kept
    | with_reducible apply State.learnWaits_kept
    | with_reducible apply State.startWrite_kept
    | with_reducible apply State.deferWrite_kept
    | with_reducible apply Kept.foldl
    | (intro _ _ _; try dsimp only)
    | split

theorem State.configGen_kept {s : State} (x0 : State) (h : Kept s x0) :
    Kept s (State.configGen x0) := by
  unfold State.configGen
  repeat' first
    | with_reducible assumption
    | with_reducible apply State.updPar_kept

theorem State.configCommit_kept {s : State} (x0 : State) (x1 : List Nat) (h : Kept s x0) :
    Kept s (State.configCommit x0 x1) := by
  unfold State.configCommit
  repeat' first
    | with_reducible assumption
    | with_reducible apply State.configGen_kept
    | fail_if_no_progress (with_reducible refine Kept.mk' ?_ rfl rfl rfl rfl)

theorem State.imageCommit_kept {s : State} (x0 : State) (x1 : Nat) (x2 : Nat) (h : Kept s x0) :
    Kept s (State.imageCommit x0 x1 x2) := by
  unfold State.imageCommit
  dsimp only
  repeat' first
    | with_reducible assumption
    | with_reducible apply State.configGen_kept
    | fail_if_no_progress (with_reducible refine Kept.mk' ?_ rfl rfl rfl rfl)
    | split

theorem State.trackingCommit_kept {s : State} (x0 : State) (x1 : Nat) (h : Kept s x0) :
    Kept s (State.trackingCommit x0 x1) := by
  unfold State.trackingCommit
  repeat' first
    | with_reducible assumption
    | with_reducible apply State.configGen_kept
    | fail_if_no_progress (with_reducible refine Kept.mk' ?_ rfl rfl rfl rfl)

theorem State.batteryCommit_kept {s : State} (x0 : State) (x1 : List Nat) (x2 : Option Nat) (h : Kept s x0) :
    Kept s (State.batteryCommit x0 x1 x2) := by
  unfold State.batteryCommit
  dsimp only
  repeat' first
    | with_reducible assumption
    | with_reducible apply State.learnWaits_kept
    | with_reducible apply State.modModule_kept
    | with_reducible apply State.updPar_kept
    | with_reducible apply State.ok_kept
    | with_reducible apply State.eachOf_kept
    | fail_if_no_progress (with_reducible refine Kept.mk' ?_ rfl rfl rfl rfl)
    | (intro _ _ _; try dsimp only)
    | split

theorem State.workCommit_kept {s : State} (x0 : State) (x1 : NvmReq) (h : Kept s x0) :
    Kept s (State.workCommit x0 x1) := by
  unfold State.workCommit
  repeat' first
    | with_reducible assumption
    | with_reducible apply State.mirrorCommit_kept
    | with_reducible apply State.batteryCommit_kept
    | with_reducible apply State.imageCommit_kept
    | with_reducible apply State.cancelCommit_kept
    | with_reducible apply State.configCommit_kept
    | with_reducible apply State.firstCommit_kept
    | with_reducible apply State.configGen_kept
    | with_reducible apply State.trackingCommit_kept
    | with_reducible apply State.checkinCommit_kept
    | with_reducible apply State.stagedCommit_kept
    | with_reducible apply State.clearCommit_kept
    | with_reducible apply State.blockCommit_kept
    | with_reducible apply State.repairCommit_kept
    | with_reducible apply State.tickCommit_kept
    | with_reducible apply State.activateCommit_kept
    | fail_if_no_progress (with_reducible refine Kept.mk' ?_ rfl rfl rfl rfl)
    | split

theorem State.commitActive_kept {s : State} (x0 : State) (h : Kept s x0) :
    Kept s (State.commitActive x0) := by
  unfold State.commitActive
  repeat' first
    | with_reducible assumption
    | with_reducible apply Kept.ite
    | with_reducible apply State.noteWritten_kept
    | with_reducible apply State.saveStart_kept
    | with_reducible apply State.workCommit_kept
    | with_reducible apply State.incPar_kept
    | fail_if_no_progress (with_reducible refine Kept.mk' ?_ rfl rfl rfl rfl)
    | split

theorem State.romStart_kept {s : State} (x0 : State) (h : Kept s x0) :
    Kept s (State.romStart x0) := by
  unfold State.romStart
  repeat' first
    | with_reducible assumption
    | with_reducible apply State.startWrite_kept
    | split

theorem State.holdBit_kept {s : State} (x0 : State) (x1 : Nat) (h : Kept s x0) :
    Kept s (State.holdBit x0 x1) := by
  unfold State.holdBit
  repeat' first
    | with_reducible assumption
    | with_reducible apply State.setBit_kept

theorem State.supplyRecord_kept {s : State} (x0 : State) (h : Kept s x0) :
    Kept s (State.supplyRecord x0) := by
  unfold State.supplyRecord
  repeat' first
    | with_reducible assumption
    | with_reducible apply State.record_kept

theorem State.choldResult_kept {s : State} (x0 : State) (x1 : Int) (h : Kept s x0) :
    Kept s (State.choldResult x0 x1) := by
  unfold State.choldResult
  repeat' first
    | with_reducible assumption
    | with_reducible apply Kept.ite
    | with_reducible apply State.supplyRecord_kept
    | with_reducible apply State.setPar_kept
    | with_reducible apply State.raise_kept
    | with_reducible apply State.holdBit_kept

/-! ## Transition -/

theorem State.enterReturn_kept {s : State} (x0 : State)
    (h : Kept s x0) : Kept s x0.enterReturn := by
  unfold State.enterReturn
  dsimp only
  apply State.csReset_kept
  have a : Kept s ((x0.commitActive.mramClear 3145728 4194304).noSchedule.setPar oUpdater Pid.Updater.UPD_STATE upIDLE) :=
    State.setPar_kept _ _ _ (State.noSchedule_kept _ (State.mramClear_kept _ _ (State.commitActive_kept _ h)))
  exact ⟨a.queue, fun w => paramsWf_filter _ (a.store w), a.mram, a.hopper⟩

theorem State.lcEnter_kept {s : State} (x0 : State) (x1 : Op) (x2 : Nat) (h : Kept s x0) :
    Kept s (State.lcEnter x0 x1 x2) := by
  unfold State.lcEnter
  repeat' first
    | with_reducible assumption
    | with_reducible apply State.keyStatus_kept
    | with_reducible apply State.enterReturn_kept
    | with_reducible apply State.setPar_kept
    | with_reducible apply State.lifeRecord_kept
    | with_reducible apply State.dropDevelopment_kept
    | fail_if_no_progress (with_reducible refine Kept.mk' ?_ rfl rfl rfl rfl)
    | split

theorem opLcTransition_kept {s : State} (x0 : Op) (x1 : State) (h : Kept s x1) :
    Kept s (opLcTransition x0 x1) := by
  unfold opLcTransition
  dsimp only
  repeat' first
    | with_reducible assumption
    | with_reducible apply State.lcEnter_kept
    | with_reducible apply State.reply_kept
    | with_reducible apply State.opCommit_kept
    | with_reducible apply State.tokenFailed_kept
    | with_reducible apply State.drawBytes_kept
    | with_reducible apply State.ok_kept
    | with_reducible apply State.fail_kept
    | with_reducible apply State.keyWritten_kept
    | fail_if_no_progress (with_reducible refine Kept.mk' ?_ rfl rfl rfl rfl)
    | split

/-! ## Thermal -/

theorem State.thermalOperate_kept {s : State} (x0 : State) (x1 : Nat) (h : Kept s x0) :
    Kept s (State.thermalOperate x0 x1) := by
  unfold State.thermalOperate
  repeat' first
    | with_reducible assumption
    | with_reducible apply State.setBit_kept
    | with_reducible apply State.enterThermal_kept
    | with_reducible apply State.recordAwake_kept
    | split

theorem State.saveCutThermal_kept {s : State} (x0 : State) (x1 : Nat) (h : Kept s x0) :
    Kept s (State.saveCutThermal x0 x1) := by
  unfold State.saveCutThermal
  repeat' first
    | with_reducible assumption
    | with_reducible apply State.tearSave_kept
    | with_reducible apply State.thermalOperate_kept
    | fail_if_no_progress (with_reducible refine Kept.mk' ?_ rfl rfl rfl rfl)
    | split

theorem State.thermalRecord_kept {s : State} (x0 : State) (x1 : Nat) (h : Kept s x0) :
    Kept s (State.thermalRecord x0 x1) := by
  unfold State.thermalRecord
  repeat' first
    | with_reducible assumption
    | with_reducible apply State.record_kept

theorem State.sensorSample_kept {s : State} (x0 : State) (x1 : Nat) (x2 : Int) (x3 : Bool) (h : Kept s x0) :
    Kept s (State.sensorSample x0 x1 x2 x3) := by
  unfold State.sensorSample
  repeat' first
    | with_reducible assumption
    | with_reducible apply Kept.ite
    | with_reducible apply State.setBit_kept
    | with_reducible apply State.updPar_kept
    | with_reducible apply State.modTherm_kept
    | with_reducible apply State.setPar_kept
    | with_reducible apply State.thermalRecord_kept

theorem State.latchSample_kept {s : State} (x0 : State) (x1 : Nat) (x2 : Int) (h : Kept s x0) :
    Kept s (State.latchSample x0 x1 x2) := by
  unfold State.latchSample
  repeat' first
    | with_reducible assumption
    | with_reducible apply State.modTherm_kept

theorem State.zoneStates_kept {s : State} (x0 : State) (h : Kept s x0) :
    Kept s (State.zoneStates x0) := by
  unfold State.zoneStates
  repeat' first
    | with_reducible assumption
    | with_reducible apply State.setPar_kept

theorem State.zoneEvaluate_kept {s : State} (x0 : State) (h : Kept s x0) :
    Kept s (State.zoneEvaluate x0) := by
  unfold State.zoneEvaluate
  repeat' first
    | with_reducible assumption
    | with_reducible apply State.zoneStates_kept
    | with_reducible apply State.modTherm_kept
    | with_reducible apply State.each_kept
    | (intro _ _; try dsimp only)

/-! ## Budget -/

theorem State.latchConsumers_kept {s : State} (x0 : State) (h : Kept s x0) :
    Kept s (State.latchConsumers x0) := by
  unfold State.latchConsumers
  repeat' first
    | with_reducible assumption
    | with_reducible apply State.each_kept
    | with_reducible apply State.modConsS_kept
    | with_reducible apply State.modConsF_kept
    | (intro _ _; try dsimp only)

/-! ## Fantail -/

theorem State.publish_kept {s : State} (x0 : State) (x1 : Nat) (x2 : Nat) (x3 : Nat) (x4 : Nat) (x5 : Nat) (x6 : Int) (h : Kept s x0) :
    Kept s (State.publish x0 x1 x2 x3 x4 x5 x6) := by
  unfold State.publish
  repeat' first
    | with_reducible assumption
    | with_reducible apply Kept.ite
    | with_reducible apply State.record_kept
    | with_reducible apply State.setPar_kept
    | with_reducible apply State.raise_kept

theorem State.stringVerdict_kept {s : State} (x0 : State) (x1 : Nat) (x2 : SegPlan) (x3 : Nat) (h : Kept s x0) :
    Kept s (State.stringVerdict x0 x1 x2 x3).2 := by
  unfold State.stringVerdict
  repeat' first
    | with_reducible assumption
    | with_reducible apply State.draw_kept
    | split

theorem State.segVerdicts_kept {s : State} (x0 : State) (x1 : Nat) (x2 : SegPlan) (h : Kept s x0) :
    Kept s (State.segVerdicts x0 x1 x2).2 := by
  unfold State.segVerdicts
  repeat' first
    | with_reducible assumption
    | with_reducible apply State.stringVerdict_kept
    | with_reducible apply State.collect_kept
    | (intro _ _; try dsimp only)

theorem State.writeMask_kept {s : State} (x0 : State) (x1 : Nat) (x2 : SegPlan) (h : Kept s x0) :
    Kept s (State.writeMask x0 x1 x2) := by
  unfold State.writeMask
  repeat' first
    | with_reducible assumption
    | with_reducible apply State.setPar_kept

theorem State.feederServed_kept {s : State} (x0 : State) (x1 : Nat) (h : Kept s x0) :
    Kept s (State.feederServed x0 x1) := by
  unfold State.feederServed
  repeat' first
    | with_reducible assumption
    | with_reducible apply State.modFeeder_kept
    | with_reducible apply State.modConsF_kept

theorem State.feederLost_kept {s : State} (x0 : State) (x1 : Nat) (h : Kept s x0) :
    Kept s (State.feederLost x0 x1) := by
  unfold State.feederLost
  repeat' first
    | with_reducible assumption
    | with_reducible apply State.modFeeder_kept
    | with_reducible apply State.modConsF_kept

theorem State.publishFeeder_kept {s : State} (x0 : State) (x1 : Verdict) (x2 : Nat) (h : Kept s x0) :
    Kept s (State.publishFeeder x0 x1 x2) := by
  unfold State.publishFeeder
  repeat' first
    | with_reducible assumption
    | with_reducible apply Kept.ite
    | with_reducible apply State.feederLost_kept
    | with_reducible apply State.serveDrop_kept
    | with_reducible apply State.feederServed_kept
    | with_reducible apply State.publish_kept
    | with_reducible apply State.setPar_kept
    | with_reducible apply State.modConsF_kept
    | split

theorem State.publishString_kept {s : State} (x0 : State) (x1 : Verdict) (x2 : Nat) (h : Kept s x0) :
    Kept s (State.publishString x0 x1 x2) := by
  unfold State.publishString
  dsimp only
  repeat' first
    | with_reducible assumption
    | with_reducible apply State.publish_kept
    | with_reducible apply State.setPar_kept
    | with_reducible apply State.modConsS_kept
    | split

theorem State.publishVerdict_kept {s : State} (x0 : State) (x1 : Verdict) (h : Kept s x0) :
    Kept s (State.publishVerdict x0 x1) := by
  unfold State.publishVerdict
  repeat' first
    | with_reducible assumption
    | with_reducible apply State.publishFeeder_kept
    | with_reducible apply State.publish_kept
    | with_reducible apply State.publishString_kept
    | split

theorem State.publishFigures_kept {s : State} (x0 : State) (x1 : SegFigures) (h : Kept s x0) :
    Kept s (State.publishFigures x0 x1) := by
  unfold State.publishFigures
  repeat' first
    | with_reducible assumption
    | with_reducible apply State.setPar_kept

theorem State.budgetRecord_kept {s : State} (x0 : State) (x1 : Nat) (x2 : Nat) (h : Kept s x0) :
    Kept s (State.budgetRecord x0 x1 x2) := by
  unfold State.budgetRecord
  repeat' first
    | with_reducible assumption
    | with_reducible apply State.record_kept

theorem State.publishFlags_kept {s : State} (x0 : State) (x1 : TickPlan) (h : Kept s x0) :
    Kept s (State.publishFlags x0 x1) := by
  unfold State.publishFlags
  repeat' first
    | with_reducible assumption
    | with_reducible apply Kept.ite
    | with_reducible apply State.budgetRecord_kept
    | fail_if_no_progress (with_reducible refine Kept.mk' ?_ rfl rfl rfl rfl)
    | split

theorem State.reefStep_kept {s : State} (x0 : State) (x1 : Nat) (h : Kept s x0) :
    Kept s (State.reefStep x0 x1) := by
  unfold State.reefStep
  repeat' first
    | with_reducible assumption
    | with_reducible apply State.modLoop_kept
    | with_reducible apply State.incPar_kept

theorem State.reefDue_kept {s : State} (x0 : State) (x1 : Nat) (x2 : Nat) (x3 : PhaseAux → PhaseAux) (x4 : Bool) (h : Kept s x0) :
    Kept s (State.reefDue x0 x1 x2 x3 x4) := by
  unfold State.reefDue
  repeat' first
    | with_reducible assumption
    | with_reducible apply State.reefStep_kept
    | with_reducible apply State.modPhase_kept
    | with_reducible apply State.modLoop_kept
    | split

theorem State.reefLoop_kept {s : State} (x0 : State) (x1 : Nat) (x2 : Nat) (h : Kept s x0) :
    Kept s (State.reefLoop x0 x1 x2) := by
  unfold State.reefLoop
  repeat' first
    | with_reducible assumption
    | with_reducible apply Kept.ite
    | with_reducible apply State.modLoop_kept
    | with_reducible apply State.reefDue_kept
    | split

theorem State.laneCapTick_kept {s : State} (x0 : State) (h : Kept s x0) :
    Kept s (State.laneCapTick x0) := by
  unfold State.laneCapTick
  repeat' first
    | with_reducible assumption
    | with_reducible apply State.each_kept
    | with_reducible apply State.modPhase_kept
    | (intro _ _; try dsimp only)
    | split

theorem State.floatTick_kept {s : State} (x0 : State) (h : Kept s x0) :
    Kept s (State.floatTick x0) := by
  unfold State.floatTick
  repeat' first
    | with_reducible assumption
    | with_reducible apply Kept.ite
    | with_reducible apply State.setPar_kept
    | with_reducible apply State.floatLeave_kept
    | fail_if_no_progress (with_reducible refine Kept.mk' ?_ rfl rfl rfl rfl)

theorem State.publishBist_kept {s : State} (x0 : State) (x1 : BistVerdict) (x2 : List Nat) (h : Kept s x0) :
    Kept s (State.publishBist x0 x1 x2) := by
  unfold State.publishBist
  repeat' first
    | with_reducible assumption
    | with_reducible apply State.dresserGrant_kept
    | with_reducible apply State.bistReplies_kept
    | split

theorem State.publishAct_kept {s : State} (x0 : State) (x1 : ActVerdict) (h : Kept s x0) :
    Kept s (State.publishAct x0 x1) := by
  unfold State.publishAct
  repeat' first
    | with_reducible assumption
    | with_reducible apply State.activateRefused_kept
    | with_reducible apply State.scheduleReply_kept
    | with_reducible apply State.activateGrant_kept
    | split

theorem State.supplyReadings_kept {s : State} (x0 : State) (x1 : Nat) (x2 : Nat) (h : Kept s x0) :
    Kept s (State.supplyReadings x0 x1 x2) := by
  unfold State.supplyReadings
  repeat' first
    | with_reducible assumption
    | with_reducible apply State.setPar_kept

theorem State.nextMs_kept {s : State} (x0 : State) (h : Kept s x0) :
    Kept s (State.nextMs x0) := by
  unfold State.nextMs
  repeat' first
    | with_reducible assumption
    | with_reducible apply State.passTime_kept

theorem State.noteMill_kept {s : State} (x0 : State) (h : Kept s x0) :
    Kept s (State.noteMill x0) := by
  unfold State.noteMill
  repeat' first
    | with_reducible assumption
    | fail_if_no_progress (with_reducible refine Kept.mk' ?_ rfl rfl rfl rfl)

theorem State.actTaken_kept {s : State} (x0 : State) (x1 : ActVerdict) (h : Kept s x0) :
    Kept s (State.actTaken x0 x1) := by
  unfold State.actTaken
  repeat' first
    | with_reducible assumption
    | with_reducible apply State.activateGrant_kept
    | split

theorem State.computePlan_kept {s : State} (x0 : State) (x1 : Bool) (h : Kept s x0) :
    Kept s (State.computePlan x0 x1) := by
  unfold State.computePlan
  repeat' first
    | with_reducible assumption
    | with_reducible apply State.updPar_kept
    | with_reducible apply State.segVerdicts_kept
    | with_reducible apply State.collect_kept
    | with_reducible apply State.writeMask_kept
    | with_reducible apply State.latchConsumers_kept
    | with_reducible apply Kept.foldl
    | fail_if_no_progress (with_reducible refine Kept.mk' ?_ rfl rfl rfl rfl)
    | (intro _ _; try dsimp only)

theorem State.publishPlan_kept {s : State} (x0 : State) (h : Kept s x0) :
    Kept s (State.publishPlan x0) := by
  unfold State.publishPlan
  repeat' first
    | with_reducible assumption
    | with_reducible apply State.publishAct_kept
    | with_reducible apply State.publishBist_kept
    | with_reducible apply State.setPar_kept
    | with_reducible apply State.publishFlags_kept
    | with_reducible apply State.publishVerdict_kept
    | with_reducible apply State.publishFigures_kept
    | with_reducible apply State.reefLoop_kept
    | with_reducible apply State.publishWrites_kept
    | with_reducible apply Kept.foldl
    | fail_if_no_progress (with_reducible refine Kept.mk' ?_ rfl rfl rfl rfl)
    | (intro _ _; try dsimp only)
    | split

theorem State.fantailBody_kept {s : State} (x0 : State) (x1 : Bool) (h : Kept s x0) :
    Kept s (State.fantailBody x0 x1) := by
  unfold State.fantailBody
  repeat' first
    | with_reducible assumption
    | with_reducible apply State.floatTick_kept
    | with_reducible apply State.fallDue_kept
    | with_reducible apply State.publishPlan_kept
    | with_reducible apply State.laneCapTick_kept
    | with_reducible apply State.driveReset_kept
    | with_reducible apply State.zoneEvaluate_kept
    | with_reducible apply State.computePlan_kept
    | with_reducible apply State.runTriggers_kept

theorem State.planDrop_kept {s : State} (x0 : State) (h : Kept s x0) :
    Kept s (State.planDrop x0) := by
  unfold State.planDrop
  repeat' first
    | with_reducible assumption
    | fail_if_no_progress (with_reducible refine Kept.mk' ?_ rfl rfl rfl rfl)

/-! ## Ports -/

theorem State.busStop_kept {s : State} (x0 : State) (x1 : HostPort) (h : Kept s x0) :
    Kept s (State.busStop x0 x1) := by
  unfold State.busStop
  repeat' first
    | with_reducible assumption
    | with_reducible apply State.modPort_kept
    | split

theorem State.named_kept {s : State} (x0 : State) (x1 : HostPort) (x2 : Fin 4) (x3 : BusSpeed) (h : Kept s x0) :
    Kept s (State.named x0 x1 x2 x3) := by
  unfold State.named
  repeat' first
    | with_reducible assumption
    | with_reducible apply State.modPort_kept
    | with_reducible apply State.setPar_kept

theorem State.transaction_kept {s : State} (x0 : State) (x1 : HostPort)
    (x2 : HostAccess) (x3 : State → State) (h : Kept s x0)
    (hr : ∀ t, Kept s t → Kept s (x3 t)) : Kept s (x0.transaction x1 x2 x3) := by
  unfold State.transaction
  repeat' first
    | with_reducible exact h
    | with_reducible apply State.busStop_kept
    | with_reducible apply hr
    | with_reducible apply State.named_kept
    | split

theorem State.windowViolation_kept {s : State} (x0 : State) (x1 : HostPort) (x2 : Nat) (x3 : Nat) (x4 : Nat) (h : Kept s x0) :
    Kept s (State.windowViolation x0 x1 x2 x3 x4) := by
  unfold State.windowViolation
  repeat' first
    | with_reducible assumption
    | with_reducible apply State.violation_kept
    | with_reducible apply State.incPar_kept
    | split

theorem State.consumeReply_kept {s : State} (x0 : State) (x1 : HostPort) (x2 : Nat) (h : Kept s x0) :
    Kept s (State.consumeReply x0 x1 x2) := by
  unfold State.consumeReply
  repeat' first
    | with_reducible assumption
    | with_reducible apply State.modPort_kept
    | with_reducible apply State.dropOp_kept
    | split

theorem State.clearAlert_kept {s : State} (x0 : State) (x1 : HostPort) (h : Kept s x0) :
    Kept s (State.clearAlert x0 x1) := by
  unfold State.clearAlert
  repeat' first
    | with_reducible assumption
    | with_reducible apply State.modPort_kept

theorem State.windowRead_kept {s : State} (x0 : State) (x1 : HostPort) (h : Kept s x0) :
    Kept s (State.windowRead x0 x1).2 := by
  unfold State.windowRead
  repeat' first
    | with_reducible assumption
    | with_reducible apply Kept.ite
    | with_reducible apply State.modPort_kept
    | with_reducible apply State.clearAlert_kept

theorem State.windowReads_kept {s : State} (x0 : State) (x1 : HostPort)
    (x2 : Nat) (h : Kept s x0) : Kept s (x0.windowReads x1 x2).2 := by
  induction x2 with
  | zero => exact h
  | succ n ih =>
    unfold State.windowReads
    exact State.windowRead_kept _ _ ih

theorem State.readData_kept {s : State} (x0 : State) (x1 : HostPort) (x2 : Nat) (x3 : Bool) (h : Kept s x0) :
    Kept s (State.readData x0 x1 x2 x3).2 := by
  unfold State.readData
  repeat' first
    | with_reducible assumption
    | with_reducible apply Kept.ite
    | with_reducible apply State.windowReads_kept
    | with_reducible apply State.consumeReply_kept
    | split

theorem State.drive_kept {s : State} (x0 : State) (x1 : HostPort) (x2 : Bytes) (h : Kept s x0) :
    Kept s (State.drive x0 x1 x2) := by
  unfold State.drive
  repeat' first
    | with_reducible assumption
    | with_reducible apply State.modPort_kept

theorem State.setPointer_kept {s : State} (x0 : State) (x1 : HostPort) (x2 : Byte) (h : Kept s x0) :
    Kept s (State.setPointer x0 x1 x2) := by
  unfold State.setPointer
  repeat' first
    | with_reducible assumption
    | with_reducible apply State.modPort_kept

theorem State.plainRead_kept {s : State} (x0 : State) (x1 : HostPort) (x2 : Nat) (h : Kept s x0) :
    Kept s (State.plainRead x0 x1 x2) := by
  unfold State.plainRead
  repeat' first
    | with_reducible assumption
    | with_reducible apply State.drive_kept
    | with_reducible apply State.readData_kept

theorem State.pecRead_kept {s : State} (x0 : State) (x1 : HostPort) (x2 : BitVec 7) (x3 : Byte) (x4 : Byte) (x5 : Nat) (h : Kept s x0) :
    Kept s (State.pecRead x0 x1 x2 x3 x4 x5) := by
  unfold State.pecRead
  repeat' first
    | with_reducible assumption
    | with_reducible apply State.drive_kept
    | with_reducible apply State.readData_kept
    | with_reducible apply State.setPointer_kept

theorem State.failedRead_kept {s : State} (x0 : State) (x1 : HostPort) (x2 : Byte) (x3 : Nat) (h : Kept s x0) :
    Kept s (State.failedRead x0 x1 x2 x3) := by
  unfold State.failedRead
  repeat' first
    | with_reducible assumption
    | with_reducible apply State.windowViolation_kept
    | with_reducible apply State.drive_kept

theorem State.streamByte_kept {s : State} (x0 : State) (x1 : HostPort) (x2 : Byte) (h : Kept s x0) :
    Kept s (State.streamByte x0 x1 x2) := by
  unfold State.streamByte
  repeat' first
    | with_reducible assumption
    | with_reducible apply Kept.ite
    | with_reducible apply State.modPort_kept
    | with_reducible apply State.discarded_kept

theorem State.doorbell_kept {s : State} (x0 : State) (x1 : HostPort) (h : Kept s x0) :
    Kept s (State.doorbell x0 x1) := by
  unfold State.doorbell
  repeat' first
    | with_reducible assumption
    | with_reducible apply Kept.ite
    | with_reducible apply State.modPort_kept
    | with_reducible apply State.submitBytes_kept

theorem State.discard_kept {s : State} (x0 : State) (x1 : HostPort) (h : Kept s x0) :
    Kept s (State.discard x0 x1) := by
  unfold State.discard
  repeat' first
    | with_reducible assumption
    | with_reducible apply State.modPort_kept

theorem State.maskWrite_kept {s : State} (x0 : State) (x1 : HostPort) (x2 : Byte) (h : Kept s x0) :
    Kept s (State.maskWrite x0 x1 x2) := by
  unfold State.maskWrite
  repeat' first
    | with_reducible assumption
    | with_reducible apply Kept.ite
    | with_reducible apply State.setPar_kept
    | with_reducible apply State.askConfig_kept

theorem State.byteWrite_kept {s : State} (x0 : State) (x1 : HostPort) (x2 : Nat) (x3 : Byte) (h : Kept s x0) :
    Kept s (State.byteWrite x0 x1 x2 x3) := by
  unfold State.byteWrite
  repeat' first
    | with_reducible assumption
    | with_reducible apply State.doorbell_kept
    | with_reducible apply State.discard_kept
    | with_reducible apply State.streamByte_kept
    | with_reducible apply State.maskWrite_kept
    | split

theorem State.writeData_kept {s : State} (x0 : State) (x1 : HostPort) (x2 : Bool)
    (x3 : Byte) (x4 : Bytes) (h : Kept s x0) :
    Kept s (x0.writeData x1 x2 x3 x4) := by
  unfold State.writeData
  have h0 : Kept s (x0.setPointer x1 x3, false).1 := State.setPointer_kept _ _ _ h
  generalize (x0.setPointer x1 x3, false) = y at h0 ⊢
  generalize x4.length = n
  induction x4 generalizing y with
  | nil => exact h0
  | cons b l ih =>
    refine ih _ ?_
    unfold State.dataByte
    dsimp only
    repeat' first
      | with_reducible exact h0
      | with_reducible apply State.setPointer_kept
      | with_reducible apply State.windowViolation_kept
      | with_reducible apply State.byteWrite_kept
      | split

theorem State.write_kept {s : State} (x0 : State) (x1 : HostPort) (x2 : HostAccess) (x3 : Byte) (x4 : Bytes) (h : Kept s x0) :
    Kept s (State.write x0 x1 x2 x3 x4) := by
  unfold State.write
  repeat' first
    | with_reducible assumption
    | with_reducible apply State.transaction_kept
    | with_reducible apply State.windowViolation_kept
    | with_reducible apply State.writeData_kept
    | (intro _ _; try dsimp only)
    | split

theorem State.readRow_kept {s : State} (x0 : State) (x1 : HostPort) (x2 : HostAccess) (x3 : ReadForm) (x4 : Byte) (x5 : Nat) (h : Kept s x0) :
    Kept s (State.readRow x0 x1 x2 x3 x4 x5) := by
  unfold State.readRow
  repeat' first
    | with_reducible assumption
    | with_reducible apply State.transaction_kept
    | with_reducible apply State.windowViolation_kept
    | with_reducible apply State.writeData_kept
    | with_reducible apply State.pecRead_kept
    | with_reducible apply State.plainRead_kept
    | with_reducible apply State.setPointer_kept
    | with_reducible apply State.failedRead_kept
    | (intro _ _; try dsimp only)
    | split

/-! ## Supply -/

theorem State.traceHalt_kept {s : State} (x0 : State) (h : Kept s x0) :
    Kept s (State.traceHalt x0) := by
  unfold State.traceHalt
  repeat' first
    | with_reducible assumption
    | with_reducible apply State.traceEnd_kept
    | split

theorem State.linkLoss_kept {s : State} (x0 : State) (h : Kept s x0) :
    Kept s (State.linkLoss x0) := by
  unfold State.linkLoss
  repeat' first
    | with_reducible assumption
    | with_reducible apply State.stopConversion_kept
    | with_reducible apply State.traceHalt_kept
    | with_reducible apply State.setPar_kept
    | with_reducible apply State.spoilIntervals_kept
    | with_reducible apply State.floatLeave_kept
    | with_reducible apply State.flumeStop_kept
    | split

theorem State.downCatchUp_kept {s : State} (x0 : State) (h : Kept s x0) :
    Kept s (State.downCatchUp x0) := by
  unfold State.downCatchUp
  repeat' first
    | with_reducible assumption
    | with_reducible apply State.powerDown_kept
    | with_reducible apply Kept.foldl
    | (intro _ _ _; try dsimp only)
    | split

theorem State.linkRecords_kept {s : State} (x0 : State) (h : Kept s x0) :
    Kept s (State.linkRecords x0) := by
  unfold State.linkRecords
  repeat' first
    | with_reducible assumption
    | with_reducible apply State.flushRecords_kept
    | fail_if_no_progress (with_reducible refine Kept.mk' ?_ rfl rfl rfl rfl)
    | split

theorem State.saveBegin_kept {s : State} (x0 : State) (x1 : Nat) (h : Kept s x0) :
    Kept s (State.saveBegin x0 x1) := by
  unfold State.saveBegin
  repeat' first
    | with_reducible assumption
    | with_reducible apply Kept.ite
    | with_reducible apply State.modDresser_kept
    | with_reducible apply State.stopConversion_kept
    | with_reducible apply State.saveStart_kept
    | with_reducible apply State.traceHalt_kept
    | fail_if_no_progress (with_reducible refine Kept.mk' ?_ rfl rfl rfl rfl)

theorem State.sagAborts_kept {s : State} (x0 : State) (h : Kept s x0) :
    Kept s (State.sagAborts x0) := by
  unfold State.sagAborts
  repeat' first
    | with_reducible assumption
    | with_reducible apply State.modDresser_kept
    | with_reducible apply State.holdBit_kept
    | fail_if_no_progress (with_reducible refine Kept.mk' ?_ rfl rfl rfl rfl)
    | split

theorem State.forgetCause_kept {s : State} (x0 : State) (h : Kept s x0) :
    Kept s (State.forgetCause x0) := by
  unfold State.forgetCause
  repeat' first
    | with_reducible assumption
    | with_reducible apply State.setPar_kept

theorem State.vaonOff_kept {s : State} (x0 : State) (h : Kept s x0) :
    Kept s (State.vaonOff x0) := by
  unfold State.vaonOff
  repeat' first
    | with_reducible assumption
    | with_reducible apply State.csReset_kept
    | with_reducible apply State.forgetCause_kept
    | fail_if_no_progress (with_reducible refine Kept.mk' ?_ rfl rfl rfl rfl)
    | split

theorem State.floatEnter_kept {s : State} (x0 : State) (h : Kept s x0) :
    Kept s (State.floatEnter x0) := by
  unfold State.floatEnter
  repeat' first
    | with_reducible assumption
    | with_reducible apply Kept.ite
    | with_reducible apply State.updPar_kept
    | with_reducible apply State.each_kept
    | with_reducible apply State.setPar_kept
    | with_reducible apply State.modPhase_kept
    | with_reducible apply State.modLoop_kept
    | with_reducible apply State.eachOf_kept
    | with_reducible apply State.registerSwap_kept
    | (intro _ _ _; try dsimp only)

theorem State.commitNow_kept {s : State} (x0 : State) (x1 : NvmWork) (h : Kept s x0) :
    Kept s (State.commitNow x0 x1) := by
  unfold State.commitNow
  repeat' first
    | with_reducible assumption
    | with_reducible apply State.noteWritten_kept
    | with_reducible apply State.workCommit_kept
    | with_reducible apply State.incPar_kept
    | fail_if_no_progress (with_reducible refine Kept.mk' ?_ rfl rfl rfl rfl)

theorem State.mirrorAll_kept {s : State} (x0 : State) (h : Kept s x0) :
    Kept s (State.mirrorAll x0) := by
  unfold State.mirrorAll
  repeat' first
    | with_reducible assumption
    | with_reducible apply State.commitNow_kept
    | with_reducible apply Kept.foldl
    | (intro _ _ _; try dsimp only)
    | split

theorem State.watchEnter_kept {s : State} (x0 : State) (x1 : Nat) (h : Kept s x0) :
    Kept s (State.watchEnter x0 x1) := by
  unfold State.watchEnter
  repeat' first
    | with_reducible assumption
    | with_reducible apply State.commitActive_kept
    | with_reducible apply State.mirrorAll_kept
    | with_reducible apply State.setPar_kept
    | with_reducible apply State.latchTick_kept
    | with_reducible apply State.commitNow_kept
    | with_reducible apply State.psdOutputsOff_kept
    | fail_if_no_progress (with_reducible refine Kept.mk' ?_ rfl rfl rfl rfl)

theorem State.restoreJournal_kept {s : State} (x0 : State) (x1 : Option SaveImage) (h : Kept s x0) :
    Kept s (State.restoreJournal x0 x1) := by
  unfold State.restoreJournal
  repeat' first
    | with_reducible assumption
    | with_reducible apply State.setPar_kept
    | with_reducible apply State.clockBit_kept
    | with_reducible apply State.modTime_kept
    | split

theorem State.wakeTick_kept {s : State} (x0 : State) (x1 : BitVec 48) (x2 : Bool) (h : Kept s x0) :
    Kept s (State.wakeTick x0 x1 x2) := by
  unfold State.wakeTick
  repeat' first
    | with_reducible assumption
    | with_reducible apply State.restoreJournal_kept
    | with_reducible apply State.setPar_kept
    | with_reducible apply State.latchTick_kept
    | with_reducible apply State.modTime_kept
    | split

theorem State.reloadConfig_kept {s : State} (x0 : State) (x1 : Nat) (x2 : List Nat) (h : Kept s x0) :
    Kept s (State.reloadConfig x0 x1 x2) := by
  unfold State.reloadConfig
  repeat' first
    | with_reducible assumption
    | with_reducible apply State.setPar_kept
    | with_reducible apply State.eachOf_kept
    | (intro _ _; try dsimp only)

theorem State.retentionCheck_kept {s : State} (x0 : State) (x1 : BitVec 4) (h : Kept s x0) :
    Kept s (State.retentionCheck x0 x1) := by
  unfold State.retentionCheck
  repeat' first
    | with_reducible assumption
    | with_reducible apply Kept.ite
    | with_reducible apply State.supplyRecord_kept
    | with_reducible apply State.holdBit_kept
    | with_reducible apply State.reloadConfig_kept
    | fail_if_no_progress (with_reducible refine Kept.mk' ?_ rfl rfl rfl rfl)

theorem State.wake_kept {s : State} (x0 : State) (x1 : Nat) (x2 : BitVec 48) (x3 : BitVec 5) (h : Kept s x0) :
    Kept s (State.wake x0 x1 x2 x3) := by
  unfold State.wake
  repeat' first
    | with_reducible assumption
    | with_reducible apply Kept.ite
    | with_reducible apply State.linkLoss_kept
    | with_reducible apply State.supplyRecord_kept
    | with_reducible apply State.writeShutdown_kept
    | with_reducible apply State.retentionCheck_kept
    | with_reducible apply State.modTherm_kept
    | with_reducible apply State.each_kept
    | with_reducible apply State.setPar_kept
    | with_reducible apply State.raise_kept
    | with_reducible apply State.flushRecords_kept
    | with_reducible apply State.modSeq_kept
    | with_reducible apply State.wakeTick_kept
    | fail_if_no_progress (with_reducible refine Kept.mk' ?_ rfl rfl rfl rfl)
    | (intro _ _; try dsimp only)

/-! ## Params -/

theorem State.waitRestarts_kept {s : State} (x0 : State) (x1 : Nat) (h : Kept s x0) :
    Kept s (State.waitRestarts x0 x1) := by
  unfold State.waitRestarts
  repeat' first
    | with_reducible assumption
    | with_reducible apply State.modConsS_kept
    | with_reducible apply State.modConsF_kept
    | split

theorem State.loopRestart_kept {s : State} (x0 : State) (x1 : Nat) (h : Kept s x0) :
    Kept s (State.loopRestart x0 x1) := by
  unfold State.loopRestart
  repeat' first
    | with_reducible assumption
    | with_reducible apply Kept.ite
    | with_reducible apply State.setObj_kept
    | with_reducible apply State.setPar_kept
    | with_reducible apply State.modPhase_kept
    | with_reducible apply State.slewsSettle_kept
    | with_reducible apply State.modLoop_kept
    | with_reducible apply State.eachOf_kept
    | with_reducible apply State.modSeg_kept
    | (intro _ _; try dsimp only)

theorem State.phaseClear_kept {s : State} (x0 : State) (x1 : Nat) (h : Kept s x0) :
    Kept s (State.phaseClear x0 x1) := by
  unfold State.phaseClear
  repeat' first
    | with_reducible assumption
    | with_reducible apply State.setObj_kept
    | with_reducible apply State.clearFaults_kept
    | with_reducible apply State.modPhase_kept

theorem State.phaseEnable_kept {s : State} (x0 : State) (x1 : Nat) (x2 : Bool) (h : Kept s x0) :
    Kept s (State.phaseEnable x0 x1 x2) := by
  unfold State.phaseEnable
  repeat' first
    | with_reducible assumption
    | with_reducible apply Kept.ite
    | with_reducible apply State.setObj_kept
    | with_reducible apply State.stopPhase_kept
    | with_reducible apply State.modPhase_kept
    | with_reducible apply State.phaseClear_kept
    | with_reducible apply State.syncAlone_kept

theorem State.outerEnable_kept {s : State} (x0 : State) (x1 : Nat) (x2 : Bool) (h : Kept s x0) :
    Kept s (State.outerEnable x0 x1 x2) := by
  unfold State.outerEnable
  repeat' first
    | with_reducible assumption
    | with_reducible apply Kept.ite
    | with_reducible apply State.slewEnd_kept
    | with_reducible apply State.setObj_kept
    | with_reducible apply State.outerIdle_kept
    | with_reducible apply State.stopPhase_kept
    | with_reducible apply State.loopRestart_kept
    | with_reducible apply State.eachOf_kept
    | (intro _ _ _; try dsimp only)

theorem State.segEnable_kept {s : State} (x0 : State) (x1 : Nat) (x2 : Bool) (h : Kept s x0) :
    Kept s (State.segEnable x0 x1 x2) := by
  unfold State.segEnable
  repeat' first
    | with_reducible assumption
    | with_reducible apply Kept.ite
    | with_reducible apply State.clearSegment_kept
    | with_reducible apply State.setObj_kept
    | with_reducible apply State.slewsSettle_kept
    | with_reducible apply State.stopConverter_kept
    | with_reducible apply State.modSeg_kept

theorem State.enableChanged_kept {s : State} (x0 : State) (x1 : Nat) (x2 : Bool) (h : Kept s x0) :
    Kept s (State.enableChanged x0 x1 x2) := by
  unfold State.enableChanged
  repeat' first
    | with_reducible assumption
    | with_reducible apply State.segEnable_kept
    | with_reducible apply State.phaseEnable_kept
    | with_reducible apply State.stringEnable_kept
    | with_reducible apply State.outerEnable_kept
    | with_reducible apply State.railEnable_kept
    | with_reducible apply State.feederEnable_kept
    | with_reducible apply State.portOff_kept
    | with_reducible apply State.waitRestarts_kept
    | split

theorem State.setEnable_kept {s : State} (x0 : State) (x1 : Nat) (x2 : Bool) (h : Kept s x0) :
    Kept s (State.setEnable x0 x1 x2) := by
  unfold State.setEnable
  repeat' first
    | with_reducible assumption
    | with_reducible apply State.setPar_kept
    | with_reducible apply State.enableChanged_kept
    | split

theorem State.calWritten_kept {s : State} (x0 : State) (x1 : Nat) (x2 : Nat) (h : Kept s x0) :
    Kept s (State.calWritten x0 x1 x2) := by
  unfold State.calWritten
  repeat' first
    | with_reducible assumption
    | with_reducible apply State.modChan_kept
    | with_reducible apply State.incPar_kept
    | split

theorem State.cogWritten_kept {s : State} (x0 : State) (x1 : Int) (h : Kept s x0) :
    Kept s (State.cogWritten x0 x1) := by
  unfold State.cogWritten
  repeat' first
    | with_reducible assumption
    | with_reducible apply Kept.ite
    | with_reducible apply State.setPar_kept
    | with_reducible apply State.stepAlone_kept
    | with_reducible apply State.cogJoin_kept
    | with_reducible apply State.cogLeave_kept

theorem State.walkHeld_kept {s : State} (x0 : State) (h : Kept s x0) :
    Kept s (State.walkHeld x0) := by
  unfold State.walkHeld
  repeat' first
    | with_reducible assumption
    | with_reducible apply State.setPar_kept
    | with_reducible apply State.modSeq_kept
    | split

theorem State.idCheck_kept {s : State} (x0 : State) (h : Kept s x0) :
    Kept s (State.idCheck x0) := by
  unfold State.idCheck
  repeat' first
    | with_reducible assumption
    | with_reducible apply Kept.ite
    | with_reducible apply State.walkHeld_kept
    | with_reducible apply State.setPar_kept
    | with_reducible apply State.holdAll_kept
    | fail_if_no_progress (with_reducible refine Kept.mk' ?_ rfl rfl rfl rfl)

theorem State.confirmCause_kept {s : State} (x0 : State) (h : Kept s x0) :
    Kept s (State.confirmCause x0) := by
  unfold State.confirmCause
  repeat' first
    | with_reducible assumption
    | fail_if_no_progress (with_reducible refine Kept.mk' ?_ rfl rfl rfl rfl)
    | split

theorem State.confirm_kept {s : State} (x0 : State) (h : Kept s x0) :
    Kept s (State.confirm x0) := by
  unfold State.confirm
  repeat' first
    | with_reducible assumption
    | with_reducible apply Kept.ite
    | with_reducible apply State.shift_kept
    | with_reducible apply State.record_kept
    | with_reducible apply State.confirmCause_kept
    | fail_if_no_progress (with_reducible refine Kept.mk' ?_ rfl rfl rfl rfl)

theorem State.modeRequest_kept {s : State} (x0 : State) (x1 : Int) (h : Kept s x0) :
    Kept s (State.modeRequest x0 x1) := by
  unfold State.modeRequest
  repeat' first
    | with_reducible assumption
    | with_reducible apply State.draw_kept
    | with_reducible apply State.watchEnter_kept
    | with_reducible apply State.floatEnter_kept
    | fail_if_no_progress (with_reducible refine Kept.mk' ?_ rfl rfl rfl rfl)
    | split

theorem State.freqWritten_kept {s : State} (x0 : State) (x1 : Nat) (x2 : Nat) (h : Kept s x0) :
    Kept s (State.freqWritten x0 x1 x2) := by
  unfold State.freqWritten
  repeat' first
    | with_reducible assumption
    | with_reducible apply State.modPhase_kept
    | with_reducible apply State.syncAlone_kept

theorem State.countWritten_kept {s : State} (x0 : State) (x1 : Nat) (h : Kept s x0) :
    Kept s (State.countWritten x0 x1) := by
  unfold State.countWritten
  repeat' first
    | with_reducible assumption
    | with_reducible apply State.stringWait_kept
    | with_reducible apply State.refreshTrust_kept
    | split

theorem State.railWritten_kept {s : State} (x0 : State) (x1 : Nat) (x2 : Nat) (h : Kept s x0) :
    Kept s (State.railWritten x0 x1 x2) := by
  unfold State.railWritten
  repeat' first
    | with_reducible assumption
    | with_reducible apply State.railEmpty_kept
    | split

theorem State.compareWritten_kept {s : State} (x0 : State) (x1 : Nat) (x2 : Int) (x3 : Int) (h : Kept s x0) :
    Kept s (State.compareWritten x0 x1 x2 x3) := by
  unfold State.compareWritten
  repeat' first
    | with_reducible assumption
    | with_reducible apply Kept.ite
    | with_reducible apply State.modTimer_kept
    | with_reducible apply State.setPar_kept
    | split

theorem State.timerWritten_kept {s : State} (x0 : State) (x1 : Nat) (x2 : Nat) (x3 : Int) (x4 : Int) (h : Kept s x0) :
    Kept s (State.timerWritten x0 x1 x2 x3 x4) := by
  unfold State.timerWritten
  repeat' first
    | with_reducible assumption
    | with_reducible apply State.compareWritten_kept
    | with_reducible apply State.modTimer_kept
    | split

theorem State.written_kept {s : State} (x0 : State) (x1 : Nat) (x2 : Nat) (x3 : Int) (x4 : Int) (h : Kept s x0) :
    Kept s (State.written x0 x1 x2 x3 x4) := by
  unfold State.written
  repeat' first
    | with_reducible assumption
    | with_reducible apply State.modeRequest_kept
    | with_reducible apply State.shift_kept
    | with_reducible apply State.cogWritten_kept
    | with_reducible apply State.freqWritten_kept
    | with_reducible apply State.idCheck_kept
    | with_reducible apply State.each_kept
    | with_reducible apply State.outerIdle_kept
    | with_reducible apply State.setPar_kept
    | with_reducible apply State.railWritten_kept
    | with_reducible apply State.enableChanged_kept
    | with_reducible apply State.modFeeder_kept
    | with_reducible apply State.confirm_kept
    | with_reducible apply State.curveApply_kept
    | with_reducible apply State.modPol_kept
    | with_reducible apply State.countWritten_kept
    | with_reducible apply State.waitRestarts_kept
    | with_reducible apply State.syncLeave_kept
    | with_reducible apply State.timerWritten_kept
    | (intro _ _; try dsimp only)
    | split

theorem State.clearBits_kept {s : State} (x0 : State) (x1 : Nat) (x2 : Nat) (x3 : Int) (h : Kept s x0) :
    Kept s (State.clearBits x0 x1 x2 x3) := by
  unfold State.clearBits
  repeat' first
    | with_reducible assumption
    | with_reducible apply State.modChan_kept
    | with_reducible apply State.setPar_kept
    | split

theorem State.writeParam_kept {s : State} (x0 : State) (x1 : Nat) (x2 : Desc) (x3 : Int) (h : Kept s x0) :
    Kept s (State.writeParam x0 x1 x2 x3) := by
  unfold State.writeParam
  repeat' first
    | with_reducible assumption
    | with_reducible apply State.setPar_kept
    | with_reducible apply State.askConfig_kept
    | with_reducible apply State.clearBits_kept
    | with_reducible apply State.written_kept
    | with_reducible apply State.calWritten_kept
    | split

theorem State.readEffect_kept {s : State} (x0 : State) (x1 : Nat) (x2 : Desc) (h : Kept s x0) :
    Kept s (State.readEffect x0 x1 x2) := by
  unfold State.readEffect
  repeat' first
    | with_reducible assumption
    | with_reducible apply State.modTimer_kept
    | with_reducible apply State.setPar_kept
    | split

theorem opParamGet_kept {s : State} (x0 : Op) (x1 : State) (h : Kept s x1) :
    Kept s (opParamGet x0 x1) := by
  unfold opParamGet
  repeat' first
    | with_reducible assumption
    | with_reducible apply Kept.ite
    | with_reducible apply State.readEffect_kept
    | with_reducible apply State.ok_kept
    | with_reducible apply State.fail_kept
    | split

theorem State.failViolation_kept {s : State} (x0 : State) (x1 : Op) (x2 : Nat) (h : Kept s x0) :
    Kept s (State.failViolation x0 x1 x2) := by
  unfold State.failViolation
  repeat' first
    | with_reducible assumption
    | with_reducible apply State.violation_kept
    | with_reducible apply State.fail_kept

theorem State.floatRefused_kept {s : State} (x0 : State) (x1 : Nat) (x2 : Desc) (x3 : Int) (h : Kept s x0) :
    Kept s (State.floatRefused x0 x1 x2 x3) := by
  unfold State.floatRefused
  repeat' first
    | with_reducible assumption
    | with_reducible apply State.flumeStop_kept
    | split

theorem opParamSet_kept {s : State} (x0 : Op) (x1 : State) (h : Kept s x1) :
    Kept s (opParamSet x0 x1) := by
  unfold opParamSet
  repeat' first
    | with_reducible assumption
    | with_reducible apply Kept.ite
    | with_reducible apply State.reply_kept
    | with_reducible apply State.opCommit_kept
    | with_reducible apply State.writeParam_kept
    | with_reducible apply State.ok_kept
    | with_reducible apply State.floatRefused_kept
    | with_reducible apply State.fail_kept
    | with_reducible apply State.failViolation_kept
    | split

theorem State.readEntries_kept {s : State} (x0 : State) (x1 : List (Nat × Nat)) (x2 x3 : Nat)
    (x4 : Bytes) (h : Kept s x0) : Kept s (x0.readEntries x1 x2 x3 x4).2.2 := by
  induction x1 generalizing x0 x2 x3 x4 with
  | nil => exact h
  | cons e l ih =>
    unfold State.readEntries
    split
    · exact h
    · dsimp only
      split
      · exact h
      · exact ih _ _ _ _ (State.readEffect_kept _ _ _ h)

theorem opParamGetMulti_kept {s : State} (x0 : Op) (x1 : State) (h : Kept s x1) :
    Kept s (opParamGetMulti x0 x1) := by
  unfold opParamGetMulti
  dsimp only
  repeat' first
    | with_reducible assumption
    | with_reducible apply State.reply_kept
    | with_reducible apply State.readEntries_kept
    | with_reducible apply State.ok_kept
    | with_reducible apply State.fail_kept
    | split

theorem opObjState_kept {s : State} (x0 : Op) (x1 : State) (h : Kept s x1) :
    Kept s (opObjState x0 x1) := by
  unfold opObjState
  repeat' first
    | with_reducible assumption
    | with_reducible apply State.ok_kept
    | with_reducible apply State.fail_kept
    | split

theorem opObjEnable_kept {s : State} (x0 : Bool) (x1 : Op) (x2 : State) (h : Kept s x2) :
    Kept s (opObjEnable x0 x1 x2) := by
  unfold opObjEnable
  repeat' first
    | with_reducible assumption
    | with_reducible apply Kept.ite
    | with_reducible apply State.setEnable_kept
    | with_reducible apply State.opCommit_kept
    | with_reducible apply State.askConfig_kept
    | with_reducible apply State.ok_kept
    | with_reducible apply State.fail_kept
    | with_reducible apply State.failViolation_kept
    | split

theorem State.clearObject_kept {s : State} (x0 : State) (x1 : Nat) (h : Kept s x0) :
    Kept s (State.clearObject x0 x1) := by
  unfold State.clearObject
  repeat' first
    | with_reducible assumption
    | with_reducible apply State.clearSegment_kept
    | with_reducible apply State.stringClear_kept
    | with_reducible apply State.setObj_kept
    | with_reducible apply State.clearFaults_kept
    | with_reducible apply State.phaseClear_kept
    | with_reducible apply State.loopRestart_kept
    | with_reducible apply State.modLoop_kept
    | with_reducible apply State.feederClear_kept
    | split

theorem opObjClearLatch_kept {s : State} (x0 : Op) (x1 : State) (h : Kept s x1) :
    Kept s (opObjClearLatch x0 x1) := by
  unfold opObjClearLatch
  repeat' first
    | with_reducible assumption
    | with_reducible apply Kept.ite
    | with_reducible apply State.reply_kept
    | with_reducible apply State.clearObject_kept
    | with_reducible apply State.opCommit_kept
    | with_reducible apply State.ok_kept
    | with_reducible apply State.fail_kept
    | split

/-! ## Yaster -/

theorem opPing_kept {s : State} (x0 : Op) (x1 : State) (h : Kept s x1) :
    Kept s (opPing x0 x1) := by
  unfold opPing
  repeat' first
    | with_reducible assumption
    | with_reducible apply State.ok_kept
    | with_reducible apply State.fail_kept
    | split

theorem opIdent_kept {s : State} (x0 : Op) (x1 : State) (h : Kept s x1) :
    Kept s (opIdent x0 x1) := by
  unfold opIdent
  repeat' first
    | with_reducible assumption
    | with_reducible apply State.ok_kept
    | with_reducible apply State.fail_kept
    | split

theorem opLow_kept {s : State} (x0 : Nat) (x1 : Op) (x2 : State) (h : Kept s x2) :
    Kept s (opLow x0 x1 x2) := by
  unfold opLow
  repeat' first
    | with_reducible assumption
    | with_reducible apply opFlumeStart_kept
    | with_reducible apply opParamSet_kept
    | with_reducible apply opTailraceRead_kept
    | with_reducible apply opTailraceArm_kept
    | with_reducible apply opSetpointSlew_kept
    | with_reducible apply opParamGetMulti_kept
    | with_reducible apply opCoefBankSwap_kept
    | with_reducible apply opIdent_kept
    | with_reducible apply opObjClearLatch_kept
    | with_reducible apply opParamGet_kept
    | with_reducible apply opPing_kept
    | with_reducible apply opObjEnable_kept
    | with_reducible apply opCoefBankLoad_kept
    | with_reducible apply opObjState_kept
    | split

theorem opMid_kept {s : State} (x0 : Nat) (x1 : Op) (x2 : State) (h : Kept s x2) :
    Kept s (opMid x0 x1 x2) := by
  unfold opMid
  repeat' first
    | with_reducible assumption
    | with_reducible apply opTimeGet_kept
    | with_reducible apply opBistRequest_kept
    | with_reducible apply opBattAuth_kept
    | with_reducible apply opGristClear_kept
    | with_reducible apply opSeqPowerOn_kept
    | with_reducible apply opTimeSet_kept
    | with_reducible apply opSeqStep_kept
    | with_reducible apply opGristTriggerSet_kept
    | with_reducible apply opSeqPowerOff_kept
    | with_reducible apply opGristRead_kept
    | with_reducible apply opBattLearnCommit_kept
    | with_reducible apply opBistResult_kept
    | split

theorem opHigh_kept {s : State} (x0 : Nat) (x1 : Op) (x2 : State) (h : Kept s x2) :
    Kept s (opHigh x0 x1 x2) := by
  unfold opHigh
  repeat' first
    | with_reducible assumption
    | with_reducible apply opLcState_kept
    | with_reducible apply opUpdSchedule_kept
    | with_reducible apply opUpdBlock_kept
    | with_reducible apply opResultPoll_kept
    | with_reducible apply opUpdCancel_kept
    | with_reducible apply opUpdStatus_kept
    | with_reducible apply opAbort_kept
    | with_reducible apply opDebugUnlock_kept
    | with_reducible apply opLcTransition_kept
    | with_reducible apply opUpdOpen_kept
    | with_reducible apply opUpdClose_kept
    | split

theorem opRun_kept {s : State} (x0 : Nat) (x1 : Op) (x2 : State) (h : Kept s x2) :
    Kept s (opRun x0 x1 x2) := by
  unfold opRun
  repeat' first
    | with_reducible assumption
    | with_reducible apply opHigh_kept
    | with_reducible apply opLow_kept
    | with_reducible apply opMid_kept
    | split

/-! ## Boot -/

theorem State.coldParams_kept {s : State} (x0 : State)
    (h : Kept s x0) : Kept s x0.coldParams := by
  unfold State.coldParams
  dsimp only
  apply State.setPar_kept
  apply State.setPar_kept
  exact ⟨h.queue, fun w => paramsWf_filter _ (h.store w), h.mram, h.hopper⟩

theorem State.coldAux_kept {s : State} (x0 : State)
    (h : Kept s x0) : Kept s x0.coldAux :=
  ⟨h.queue, h.store, h.mram, fun w => (h.hopper w).sublist (List.nil_sublist _)⟩

theorem State.bootStraps_kept {s : State} (x0 : State) (x1 : Nat) (h : Kept s x0) :
    Kept s (State.bootStraps x0 x1) := by
  unfold State.bootStraps
  repeat' first
    | with_reducible assumption
    | with_reducible apply State.setPar_kept

theorem State.bootTrialFailed_kept {s : State} (x0 : State) (h : Kept s x0) :
    Kept s (State.bootTrialFailed x0) := by
  unfold State.bootTrialFailed
  repeat' first
    | with_reducible assumption
    | with_reducible apply State.setBank_kept
    | with_reducible apply State.incPar_kept
    | fail_if_no_progress (with_reducible refine Kept.mk' ?_ rfl rfl rfl rfl)
    | split

theorem State.dropBanks_kept {s : State} (x0 : State) (x1 : List Nat) (h : Kept s x0) :
    Kept s (State.dropBanks x0 x1) := by
  unfold State.dropBanks
  repeat' first
    | with_reducible assumption
    | with_reducible apply State.setBank_kept
    | with_reducible apply State.setPar_kept
    | with_reducible apply State.eachOf_kept
    | fail_if_no_progress (with_reducible refine Kept.mk' ?_ rfl rfl rfl rfl)
    | (intro _ _ _; try dsimp only)
    | split

theorem State.bootUpdate_kept {s : State} (x0 : State) (x1 : Nat) (h : Kept s x0) :
    Kept s (State.bootUpdate x0 x1) := by
  unfold State.bootUpdate
  repeat' first
    | with_reducible assumption
    | with_reducible apply Kept.ite
    | with_reducible apply State.startCheckin_kept
    | with_reducible apply State.setBank_kept
    | with_reducible apply State.setPar_kept
    | with_reducible apply State.setUpd_kept
    | with_reducible apply State.updRest_kept
    | fail_if_no_progress (with_reducible refine Kept.mk' ?_ rfl rfl rfl rfl)

theorem State.bootRom_kept {s : State} (x0 : State) (h : Kept s x0) :
    Kept s (State.bootRom x0) := by
  unfold State.bootRom
  repeat' first
    | with_reducible assumption
    | with_reducible apply State.psdOutputsOff_kept
    | fail_if_no_progress (with_reducible refine Kept.mk' ?_ rfl rfl rfl rfl)

theorem State.modAcc_kept {s : State} (x0 : State) (x1 : Nat) (x2 : Accum → Accum) (h : Kept s x0) :
    Kept s (State.modAcc x0 x1 x2) := by
  unfold State.modAcc
  repeat' first
    | with_reducible assumption
    | with_reducible apply State.modStr_kept
    | with_reducible apply State.modFeeder_kept
    | split

theorem State.takeCounters_kept {s : State} (x0 : State) (x1 : List (Nat × Int)) (h : Kept s x0) :
    Kept s (State.takeCounters x0 x1) := by
  unfold State.takeCounters
  repeat' first
    | with_reducible assumption
    | with_reducible apply State.setPar_kept
    | with_reducible apply State.modAcc_kept
    | with_reducible apply Kept.foldl
    | (intro _ _; try dsimp only)
    | split

theorem State.bootCounters_kept {s : State} (x0 : State) (x1 : Option SaveImage) (h : Kept s x0) :
    Kept s (State.bootCounters x0 x1) := by
  unfold State.bootCounters
  repeat' first
    | with_reducible assumption
    | with_reducible apply State.setBit_kept
    | with_reducible apply State.takeCounters_kept
    | with_reducible apply State.eachOf_kept
    | (intro _ _; try dsimp only)
    | split

theorem State.takeBattery_kept {s : State} (x0 : State) (x1 : List (Nat × Int)) (h : Kept s x0) :
    Kept s (State.takeBattery x0 x1) := by
  unfold State.takeBattery
  repeat' first
    | with_reducible assumption
    | with_reducible apply State.modStr_kept
    | with_reducible apply State.modModule_kept
    | with_reducible apply State.setPar_kept
    | with_reducible apply Kept.foldl
    | (intro _ _ _; try dsimp only)
    | split

theorem State.bootBattery_kept {s : State} (x0 : State) (x1 : Option SaveImage) (h : Kept s x0) :
    Kept s (State.bootBattery x0 x1) := by
  unfold State.bootBattery
  repeat' first
    | with_reducible assumption
    | with_reducible apply State.takeBattery_kept
    | with_reducible apply State.askNvm_kept
    | with_reducible apply State.each_kept
    | with_reducible apply State.staleUpdate_kept
    | with_reducible apply State.eachOf_kept
    | with_reducible apply State.authAll_kept
    | fail_if_no_progress (with_reducible refine Kept.mk' ?_ rfl rfl rfl rfl)
    | (intro _ _ _; try dsimp only)
    | split

theorem State.bootConfigValues_kept {s : State} (x0 : State) (h : Kept s x0) :
    Kept s (State.bootConfigValues x0) := by
  unfold State.bootConfigValues
  repeat' first
    | with_reducible assumption
    | with_reducible apply State.setPar_kept
    | with_reducible apply State.eachOf_kept
    | (intro _ _ _; try dsimp only)
    | split

theorem State.bootImages_kept {s : State} (x0 : State) (h : Kept s x0) :
    Kept s (State.bootImages x0) := by
  unfold State.bootImages
  repeat' first
    | with_reducible assumption
    | with_reducible apply State.each_kept
    | with_reducible apply State.modLoop_kept
    | (intro _ _; try dsimp only)

theorem State.bootTick_kept {s : State} (x0 : State) (x1 : Bool) (x2 : Nat) (x3 : Option SaveImage) (h : Kept s x0) :
    Kept s (State.bootTick x0 x1 x2 x3) := by
  unfold State.bootTick
  repeat' first
    | with_reducible assumption
    | with_reducible apply State.draw_kept
    | with_reducible apply State.restoreJournal_kept
    | with_reducible apply State.setPar_kept
    | with_reducible apply State.latchTick_kept
    | with_reducible apply State.modTime_kept
    | split

theorem State.bootAreas_kept {s : State} (x0 : State) (x1 : List Rec) (h : Kept s x0) :
    Kept s (State.bootAreas x0 x1) := by
  unfold State.bootAreas
  repeat' first
    | with_reducible assumption
    | with_reducible apply State.gristParams_kept
    | fail_if_no_progress (with_reducible refine Kept.mk' ?_ rfl rfl rfl rfl)

theorem State.bootGap_kept {s : State} (x0 : State) (h : Kept s x0) :
    Kept s (State.bootGap x0) := by
  unfold State.bootGap
  repeat' first
    | with_reducible assumption
    | fail_if_no_progress (with_reducible refine Kept.mk' ?_ rfl rfl rfl rfl)

theorem State.bootGrist_kept {s : State} (x0 : State) (x1 : Option SaveImage) (h : Kept s x0) :
    Kept s (State.bootGrist x0 x1).2.2 := by
  unfold State.bootGrist
  repeat' first
    | with_reducible assumption
    | with_reducible apply Kept.ite
    | with_reducible apply State.bootAreas_kept
    | with_reducible apply State.bootGap_kept

theorem State.bootRecords_kept {s : State} (x0 : State) (x1 : Bool) (x2 : List (Nat × Nat)) (h : Kept s x0) :
    Kept s (State.bootRecords x0 x1 x2) := by
  unfold State.bootRecords
  repeat' first
    | with_reducible assumption
    | with_reducible apply State.setBit_kept
    | with_reducible apply State.addPar_kept
    | with_reducible apply State.record_kept
    | with_reducible apply Kept.foldl
    | (intro _ _ _; try dsimp only)
    | split

theorem State.bootTorn_kept {s : State} (x0 : State) (h : Kept s x0) :
    Kept s (State.bootTorn x0) := by
  unfold State.bootTorn
  repeat' first
    | with_reducible assumption
    | with_reducible apply State.supplyRecord_kept
    | with_reducible apply State.each_kept
    | with_reducible apply State.incPar_kept
    | fail_if_no_progress (with_reducible refine Kept.mk' ?_ rfl rfl rfl rfl)
    | (intro _ _ _; try dsimp only)

theorem State.bootState_kept {s : State} (x0 : State) (x1 : Option SaveImage) (h : Kept s x0) :
    Kept s (State.bootState x0 x1) := by
  unfold State.bootState
  repeat' first
    | with_reducible assumption
    | with_reducible apply State.setPar_kept
    | fail_if_no_progress (with_reducible refine Kept.mk' ?_ rfl rfl rfl rfl)
    | split

theorem State.bootSave_kept {s : State} (x0 : State) (x1 : Option SaveImage) (h : Kept s x0) :
    Kept s (State.bootSave x0 x1) := by
  unfold State.bootSave
  repeat' first
    | with_reducible assumption
    | with_reducible apply State.supplyRecord_kept
    | with_reducible apply State.holdBit_kept
    | with_reducible apply State.askOnce_kept
    | split

theorem State.bootFullTest_kept {s : State} (x0 : State) (h : Kept s x0) :
    Kept s (State.bootFullTest x0) := by
  unfold State.bootFullTest
  repeat' first
    | with_reducible assumption
    | with_reducible apply State.modDresser_kept
    | with_reducible apply State.setBit_kept
    | with_reducible apply State.record_kept
    | with_reducible apply State.queueRepair_kept
    | with_reducible apply Kept.foldl
    | (intro _ _; try dsimp only)
    | split

theorem State.bootStartup_kept {s : State} (x0 : State) (x1 : Int) (h : Kept s x0) :
    Kept s (State.bootStartup x0 x1) := by
  unfold State.bootStartup
  repeat' first
    | with_reducible assumption
    | with_reducible apply State.seqRecord_kept
    | with_reducible apply State.record_kept
    | with_reducible apply State.setPar_kept
    | with_reducible apply State.clockBit_kept
    | with_reducible apply State.askOnce_kept
    | with_reducible apply State.createRec_kept
    | split

theorem State.bootUpdRecords_kept {s : State} (x0 : State) (x1 : Option Nat) (x2 : List Nat) (x3 : Bool) (h : Kept s x0) :
    Kept s (State.bootUpdRecords x0 x1 x2 x3) := by
  unfold State.bootUpdRecords
  repeat' first
    | with_reducible assumption
    | with_reducible apply State.updRecord_kept
    | with_reducible apply State.eachOf_kept
    | (intro _ _; try dsimp only)
    | split

theorem State.bootFirmware_kept {s : State} (x0 : State) (x1 : Nat) (x2 : Option Nat) (x3 : List Nat) (x4 : BootIn) (h : Kept s x0) :
    Kept s (State.bootFirmware x0 x1 x2 x3 x4) := by
  unfold State.bootFirmware
  repeat' first
    | with_reducible assumption
    | with_reducible apply Kept.ite
    | with_reducible apply State.bootFullTest_kept
    | with_reducible apply State.bootUpdRecords_kept
    | with_reducible apply State.bootSave_kept
    | with_reducible apply State.bootTick_kept
    | with_reducible apply State.bootImages_kept
    | with_reducible apply State.coldParams_kept
    | with_reducible apply State.gristParams_kept
    | with_reducible apply State.bootState_kept
    | with_reducible apply State.bootRecords_kept
    | with_reducible apply State.bootConfigValues_kept
    | with_reducible apply State.setPar_kept
    | with_reducible apply State.bootGrist_kept
    | with_reducible apply State.bootStraps_kept
    | with_reducible apply State.bootCounters_kept
    | with_reducible apply State.bootBattery_kept
    | with_reducible apply State.flushRecords_kept
    | with_reducible apply State.bootStartup_kept
    | with_reducible apply State.bootTorn_kept
    | with_reducible apply State.forgetCause_kept
    | with_reducible apply State.bootUpdate_kept
    | with_reducible apply State.coldAux_kept
    | fail_if_no_progress (with_reducible refine Kept.mk' ?_ rfl rfl rfl rfl)

/-! ## Startup -/

theorem State.identityFrame_kept {s : State} (x0 : State) (x1 : Option Bytes) (h : Kept s x0) :
    Kept s (State.identityFrame x0 x1) := by
  unfold State.identityFrame
  repeat' first
    | with_reducible assumption
    | with_reducible apply State.setBit_kept
    | with_reducible apply State.frameError_kept
    | with_reducible apply State.incPar_kept
    | split

theorem State.loadConfig_kept {s : State} (x0 : State) (h : Kept s x0) :
    Kept s (State.loadConfig x0) := by
  unfold State.loadConfig
  repeat' first
    | with_reducible assumption
    | with_reducible apply State.busStop_kept
    | with_reducible apply State.setPar_kept
    | with_reducible apply State.eachOf_kept
    | (intro _ _; try dsimp only)

theorem State.loadEnables_kept {s : State} (x0 : State) (h : Kept s x0) :
    Kept s (State.loadEnables x0) := by
  unfold State.loadEnables
  repeat' first
    | with_reducible assumption
    | with_reducible apply State.setEnable_kept
    | with_reducible apply State.eachOf_kept
    | (intro _ _; try dsimp only)

theorem State.loadFeeders_kept {s : State} (x0 : State) (h : Kept s x0) :
    Kept s (State.loadFeeders x0) := by
  unfold State.loadFeeders
  repeat' first
    | with_reducible assumption
    | with_reducible apply State.each_kept
    | with_reducible apply State.modFeeder_kept
    | with_reducible apply State.curveApply_kept
    | (intro _ _ _; try dsimp only)
    | split

theorem State.loadModules_kept {s : State} (x0 : State) (h : Kept s x0) :
    Kept s (State.loadModules x0) := by
  unfold State.loadModules
  repeat' first
    | with_reducible assumption
    | with_reducible apply State.moduleDefaults_kept
    | with_reducible apply State.each_kept
    | with_reducible apply State.moduleRecord_kept
    | with_reducible apply State.staleUpdate_kept
    | with_reducible apply State.eachOf_kept
    | (intro _ _ _; try dsimp only)
    | split

theorem State.loadTriggers_kept {s : State} (x0 : State) (h : Kept s x0) :
    Kept s (State.loadTriggers x0) := by
  unfold State.loadTriggers
  repeat' first
    | with_reducible assumption
    | fail_if_no_progress (with_reducible refine Kept.mk' ?_ rfl rfl rfl rfl)

end Sys2Proof.Machine
end

