-- ==== Sys2Proof/WellFormed.lean ====
section
/-! DEFINITION. Which commands are well formed: lengths that a packet can carry, and operands that one event of the
manual can have. The machine runs every command; these are the ones the world sends. -/

namespace Sys2Proof

/-- Codewords of the memory arrays (Table 13-1). -/
def arrayWords : Fin 6 → Nat
  | 0 => 32768
  | 1 => 8192
  | 2 => 8192
  | 3 => 196608
  | 4 => 512
  | 5 => 128

/-- Does an array hold codewords of a use (Tables 13-1 and 13-2)? -/
def useFits (arr : Nat) : CodewordUse → Bool
  | .gristSlot _ | .gristDescriptor | .processorWord => arr == 0
  | .loopBank _ _ | .loopHistory _ => arr == 1
  | .firstAreaCopy | .gristBuffer | .tailraceStore => arr == 2
  | .journalSlot _ _ | .mramOther => arr == 3
  | .repairEntry | .lifeCopy _ | .keySlot _ | .trim _ | .otpOther => arr == 4
  | .retention _ => arr == 5

/-- LENGTH is a uint16 (Table 14-1). -/
def payloadFits (b : Bytes) : Bool := decide (b.length ≤ 65535)

/-- A retry follows only a first read that failed (R30): bytes whose number is not eight, or no acknowledgement. A first
read of eight bytes may fail by its CRC alone. -/
def retryFits (first retry : Option Bytes) : Bool :=
  match first, retry with
  | some a, some b => decide (a.length ≤ 8) && decide (b.length ≤ 8)
  | some a, none => decide (a.length ≤ 8)
  | none, some b => decide (b.length ≤ 8)
  | none, none => true

/-- Is a command well formed? -/
def Instr.wf : Instr → Bool
  | .ping _ p | .ident _ p | .paramGet _ p | .paramSet _ p | .paramGetMulti _ p | .objState _ p | .objEnable _ p
  | .objDisable _ p | .objClearLatch _ p | .setpointSlew _ p | .coefBankLoad _ p | .coefBankSwap _ p | .flumeStart _ p
  | .tailraceArm _ p | .tailraceRead _ p | .gristRead _ p | .gristTriggerSet _ p | .bistRequest _ p | .bistResult _ p
  | .battAuth _ p | .battLearnCommit _ p | .seqPowerOn _ p | .seqPowerOff _ p | .seqStep _ p | .timeSet _ p
  | .timeGet _ p | .updOpen _ p | .updBlock _ p | .updClose _ p | .updSchedule _ p | .updStatus _ p | .updCancel _ p
  | .lcState _ p | .abort _ p | .resultPoll _ p => payloadFits p
  | .gristClearNonce _ p | .gristClear _ p | .bistCancel _ p | .lcNonce _ p | .lcTransition _ p | .writeKey _ p
  | .debugUnlock _ p | .debugRelock _ p => payloadFits (0 :: p)
  | .railPoll v _ _ => decide (16 ≤ v.val)
  | .pollRound l => decide (l.map (·.1)).Nodup
  | .adpoxonFrameRetry p => decide (p.val < 2)
  | .l3Restart c => decide (1 ≤ c.toNat) && decide (c.toNat ≤ 5)
  | .watchWake x _ => decide (x.sources.toNat < 256) && x.sources != 0
  | .replyStream _ x | .alertCause _ x | .fastStatus _ x | .highByteLatch _ _ x => decide (1 ≤ x.n)
  | .trackingWindowEnd _ nv lo hi => decide (lo ≤ nv) && decide (nv ≤ hi)
  | .fullTest first cells logic lanes => first.isSome || (cells ++ logic ++ lanes).isEmpty
  | .scrubCodeword arr c u _ => decide (c.toNat < arrayWords arr) && useFits arr.val u
  | .memorySliceTest arr i u x =>
    decide (i.toNat < arrayWords ⟨arr.val, by omega⟩ / 8) && useFits arr.val u &&
    (match x with
     | .pass => true
     | .failCell c _ _ | .uncorrectable c _ _ => c.toNat / 8 == i.toNat)
  | .shelfIdRead a b => retryFits a b
  | .cogLowEnd us => decide (0 < us)
  | _ => true

/-- The well-formed commands. -/
def WellFormed (i : Instr) : Prop := i.wf = true

end Sys2Proof
end

