-- ==== Sys2Proof/Tests/Slice0.lean ====
section
/-! SUPPORT. Tests: for each statement a state and operands that meet its premises, with what the command then gives;
values come from the manual's tables, its worked exchanges and hand calculation from them. -/

namespace Sys2Proof.Tests

set_option Elab.async false


open Sys2Proof Sys2Proof.Machine

/-! ## Small states and what the tests look at -/

/-- The state after a command. -/
def after (c : Instr) (s : State) : State :=
  match exec c s with
  | .next t => t
  | .fault _ => s
  | .refused _ => s

/-- Several parameters set. -/
def pars (l : List (Nat × Nat × Int)) (s : State) : State := l.foldl (fun s e => s.setPar e.1 e.2.1 e.2.2) s

/-- The state after reset with both host ports enabled. -/
def base : State := pars [(oPort .ha, Pid.ENABLE, 1), (oPort .hb, Pid.ENABLE, 1)] State.reset

/-- `base` in another shelf state. -/
def inShelf (v : Int) : State := base.setPar oShelf Pid.Shelf.SHELF_STATE v

/-- A request on HA with tag 5 and priority 1. -/
def rq : Req := { port := .ha, tag := 5, prio := 1, alert := false }

/-- The conditions of `Accepts` for that request. -/
def okOp (s : State) (opcode : Nat) (p : Bytes) : Bool :=
  s.hopperServes .ha && !s.miller.restarting && decide (p.length ≤ 272) && decide (s.frameFail .ha opcode 5 = none) &&
    s.enabled (oPort .ha)

theorem accepts_of {s : State} {opcode : Nat} {p : Bytes} (h : okOp s opcode p = true) : Accepts s rq opcode p := by
  simp only [okOp, Bool.and_eq_true, decide_eq_true_eq, Bool.not_eq_true'] at h
  exact ⟨h.1.1.1.1, h.1.1.1.2, h.1.1.2, h.1.2, h.2⟩

/-- Status and reason of HA's newest reply after a command. -/
def rep (c : Instr) (s : State) : Option (Nat × Nat) :=
  (((after c s).port .ha).replies.getLast?).map fun x => (x.status, x.reason)

/-- The payload of HA's newest reply after a command. -/
def repBytes (c : Instr) (s : State) : Option Bytes :=
  (((after c s).port .ha).replies.getLast?).map fun x => x.payload

/-- Does the request's operation wait? -/
def waits (s t : State) : Bool := t.hopper.ops.any fun e => e.id == s.hopper.nextId && e.stage == .running

theorem test_ping : okOp base 0x01 [1, 2] = true ∧ repBytes (.ping rq [1, 2]) base = some [1, 2] ∧
    rep (.ping rq [1, 2]) base = some (stOK, 0) := by decide
theorem test_ping_long : okOp base 0x01 (List.replicate 17 0) = true ∧
    rep (.ping rq (List.replicate 17 0)) base = some (stBAD_LENGTH, 1) := by decide
theorem test_ident : okOp base 0x02 [] = true ∧
    (repBytes (.ident rq []) base).map (List.take 4) = some [0x40, 0x97, 0x4A, 0x4B] := by decide
theorem test_objState : okOp base 0x20 [0x30, 0, 0, 0] = true ∧ objReserved 0x30 = false ∧
    (repBytes (.objState rq [0x30, 0, 0, 0]) base).map List.length = some 16 := by decide
theorem test_objState_reserved : objReserved 0xFE = true ∧
    rep (.objState rq [0xFE, 0, 0, 0]) base = some (stBAD_OBJECT, 3) ∧
    rep (.objState rq [0x30, 1, 0, 0]) base = some (stBAD_PARAM, 2) ∧
    rep (.objState rq [0x30]) base = some (stBAD_LENGTH, 1) := by decide
theorem test_timeGet : okOp base 0x81 [] = true ∧ rep (.timeGet rq []) base = some (stOK, 0) ∧
    rep (.timeGet rq [1]) base = some (stBAD_LENGTH, 1) := by decide
theorem test_updStatus : okOp base 0x94 [] = true ∧
    (repBytes (.updStatus rq []) base).map List.length = some 32 ∧
    (repBytes (.updStatus rq []) base).map (List.take 4) = some [0, 0, 4, 0] := by decide
theorem test_lcState : okOp base 0xA0 [] = true ∧ repBytes (.lcState rq []) base =
    some [0, 1, 0, 0, 0, 0, 0, 0] := by decide
theorem test_paramGet : okOp base 0x10 (getBytes oShelf Pid.Shelf.SHELF_STATE) = true ∧
    objReserved oShelf = false ∧ (findDesc oShelf Pid.Shelf.SHELF_STATE).isSome = true ∧
    repBytes (.paramGet rq (getBytes oShelf Pid.Shelf.SHELF_STATE)) base = some [0, 1, 0, 1, 0] := by decide
def latencySet : State := base.setPar oDevice Pid.Device.MAX_LATENCY 77
theorem test_maxLatency : okOp latencySet 0x10 (getBytes oDevice Pid.Device.MAX_LATENCY) = true ∧
    (repBytes (.maxLatency rq) latencySet).map (List.drop 4) = some [77, 0] ∧
    (after (.maxLatency rq) latencySet).par oDevice Pid.Device.MAX_LATENCY = 0 := by decide
def tMaxSet : State := base.setPar (oTherm 3) Pid.Thermal.T_MAX_SEEN 9000
theorem test_tMaxSeen : okOp tMaxSet 0x10 (getBytes (oTherm 3) Pid.Thermal.T_MAX_SEEN) = true ∧
    rep (.tMaxSeen rq 3) tMaxSet = some (stOK, 0) ∧
    (after (.tMaxSeen rq 3) tMaxSet).par (oTherm 3) Pid.Thermal.T_MAX_SEEN = 0 := by decide
def stretchSet : State := base.setPar (oPort .hb) Pid.HPort.WAKE_STRETCH_MAX 300
theorem test_wakeStretchMax : okOp stretchSet 0x10 (getBytes (oPort .hb) Pid.HPort.WAKE_STRETCH_MAX) = true ∧
    (repBytes (.wakeStretchMax rq .hb) stretchSet).map (List.drop 4) = some [44, 1] ∧
    (after (.wakeStretchMax rq .hb) stretchSet).par (oPort .hb) Pid.HPort.WAKE_STRETCH_MAX = 0 := by decide
def captured : State := base.modTimer 2 fun a => { a with queue := [7, 9] }
theorem test_capture : okOp captured 0x10 (getBytes (oTimer 2) Pid.Timer.CAPTURE) = true ∧
    (repBytes (.capture rq 2) captured).map (List.drop 4) = some [7, 0, 0, 0] ∧
    ((after (.capture rq 2) captured).timer 2).queue = [9] := by decide
theorem test_paramGet_capture :
    ((after (.paramGet rq (getBytes (oTimer 2) Pid.Timer.CAPTURE)) captured).timer 2).queue = [9] := by decide
def pairSet : State := pars [(oTimer 2, Pid.Timer.LINK, 1), (oTimer 3, Pid.Timer.COUNT, 6)] base
theorem test_timerCount_read : okOp pairSet 0x10 (getBytes (oTimer 2) Pid.Timer.COUNT) = true ∧
    rep (.timerCount rq 2 none) pairSet = some (stOK, 0) ∧
    (after (.timerCount rq 2 none) pairSet).par (oTimer 3) Pid.Timer.HIGH_SHADOW = 6 := by decide
theorem test_paramGetMulti : okOp base 0x12 ([1, 0, 0, 0] ++ getBytes oShelf Pid.Shelf.SHELF_STATE) = true ∧
    repBytes (.paramGetMulti rq ([1, 0, 0, 0] ++ getBytes oShelf Pid.Shelf.SHELF_STATE)) base =
      some [1, 1, 0, 0, 0, 1, 0, 1, 0] := by decide
-- R8, R49
theorem test_reserved_object : okOp base 0x10 (getBytes 0xFE 0) = true ∧
    rep (.paramGet rq (getBytes 0xFE 0)) base = some (stBAD_OBJECT, 3) ∧
    okOp base 0x11 (setBytes 0xFE 0 1 0) = true ∧
    rep (.paramSet rq (setBytes 0xFE 0 1 0)) base = some (stBAD_OBJECT, 3) := by decide
theorem test_no_parameter : objReserved oShelf = false ∧ findDesc oShelf 0xFFF = none ∧
    rep (.paramGet rq (getBytes oShelf 0xFFF)) base = some (stBAD_PARAM, 4) ∧
    rep (.paramSet rq (setBytes oShelf 0xFFF 4 0)) base = some (stBAD_PARAM, 4) := by decide
def outOfRange : Bytes := setBytes (oFeeder 1) Pid.PRIORITY 1 9
theorem test_range : okOp base 0x11 outOfRange = true ∧
    (∃ d, findDesc (oFeeder 1) Pid.PRIORITY = some d ∧ d.acc ≠ .ro ∧ d.acc ≠ .rc ∧ d.enc.size = 1 ∧
      (Taken base rq 0x11 outOfRange).writeLocked .ha (oFeeder 1) d 9 = false ∧
      inRange (oFeeder 1) d 9 = false ∧
      maskValue (oFeeder 1) d.pid (setValue d outOfRange) = 9) ∧
    rep (.paramSet rq outOfRange) base = some (stRANGE, 8) := by decide
theorem test_calibration_locked : okOp base 0x11 (setBytes (oFeeder 0) pGainUser 4 1073741824) = true ∧
    (findDesc (oFeeder 0) pGainUser).isSome = true ∧ objType (oFeeder 0) = .feeder ∧
    rep (.paramSet rq (setBytes (oFeeder 0) pGainUser 4 1073741824)) base = some (stLOCKED, 7) := by decide
theorem test_carries : (findDesc (oFeeder 0) pOffsetUser).map (fun d => decide (d.enc.size = 4) &&
    decide (maskValue (oFeeder 0) d.pid (setValue d (setBytes (oFeeder 0) d.pid 4 (-7))) = -7)) = some true := by decide
theorem test_paramSet : okOp base 0x11 (setBytes (oFeeder 1) Pid.PRIORITY 1 2) = true ∧
    (∃ d, findDesc (oFeeder 1) Pid.PRIORITY = some d ∧ d.enc.size = 1 ∧
      (Taken base rq 0x11 (setBytes (oFeeder 1) Pid.PRIORITY 1 2)).setCheck .ha (oFeeder 1) d 2 = none) ∧
    (after (.paramSet rq (setBytes (oFeeder 1) Pid.PRIORITY 1 2)) base).par (oFeeder 1) Pid.PRIORITY = 2 := by decide

/-! ## Objects, loops and the bench -/

def disabledFeeder : State := base
theorem test_objEnable : okOp base 0x21 [0x33, 0, 0, 0] = true ∧ base.enabled 0x33 = false ∧
    alwaysEnabled 0x33 = false ∧ (after (.objEnable rq [0x33, 0, 0, 0]) base).par 0x33 Pid.ENABLE = 1 := by decide
theorem test_objEnable_reply : rep (.objEnable rq [0x33, 0, 0, 0]) base = some (stOK, 0) := by decide
theorem test_objEnable_phase : (base.setPar (oPhase 0) Pid.ENABLE 1).groupsOk = true ∧
    (after (.objEnable rq [0x10, 0, 0, 0]) base).par 0x10 Pid.ENABLE = 1 := by decide
def feeder3 : State := base.setPar (oFeeder 3) Pid.ENABLE 1
theorem test_objDisable : okOp feeder3 0x22 [0x33, 0, 0, 0] = true ∧ feeder3.enabled 0x33 = true ∧
    (after (.objDisable rq [0x33, 0, 0, 0]) feeder3).par 0x33 Pid.ENABLE = 0 ∧
    rep (.objDisable rq [0x33, 0, 0, 0]) feeder3 = some (stOK, 0) := by decide
theorem test_always_enabled : base.read oGrist Pid.ENABLE = 1 ∧ (findDesc oGrist Pid.ENABLE).map Desc.acc = some .ro ∧
    base.read oShelf Pid.ENABLE = 1 := by decide
def latchedFeeder : State :=
  pars [(oFeeder 3, Pid.ENABLE, 1), (oFeeder 3, Pid.FAULT_LATCH, 4), (oFeeder 3, Pid.OBJ_STATE, osLatched)] (inShelf ssNormal)
theorem test_objClearLatch : okOp latchedFeeder 0x23 [0x33, 0, 0, 0] = true ∧ clearable 0x33 = true ∧
    (Taken latchedFeeder rq 0x23 [0x33, 0, 0, 0]).objNow 0x33 = osLatched ∧
    (Taken latchedFeeder rq 0x23 [0x33, 0, 0, 0]).clearRefused 0x33 = false ∧
    (after (.objClearLatch rq [0x33, 0, 0, 0]) latchedFeeder).objSt 0x33 = osWaiting ∧
    repBytes (.objClearLatch rq [0x33, 0, 0, 0]) latchedFeeder = some [0x33, 1, 0, 0, 4, 0, 0, 0] := by decide

def slewBytes : Bytes := [8, 0, 0, 0] ++ leBytes 4 4800000 ++ leBytes 4 1000
theorem test_setpointSlew_idle : okOp (inShelf ssNormal) 0x30 slewBytes = true ∧ objType 8 = .outerLoop ∧
    (Taken (inShelf ssNormal) rq 0x30 slewBytes).objNow 8 ≠ osSafeHold ∧
    (inShelf ssNormal).segRuns ((inShelf ssNormal).loopSeg 0) = false ∧
    rep (.setpointSlew rq slewBytes) (inShelf ssNormal) = some (stOK, 0) ∧
    (after (.setpointSlew rq slewBytes) (inShelf ssNormal)).par 8 Pid.Loop.SETPOINT_TARGET = 4800000 := by decide
def loop0On : State :=
  pars [(oOuter 0, Pid.ENABLE, 1), (oOuter 0, Pid.OBJ_STATE, osActive), (oSeg 0, Pid.ENABLE, 1), (oSeg 0, Pid.OBJ_STATE, osActive),
    (oOuter 0, Pid.Loop.MEAS_OBJECT, oSeg 0)] (inShelf ssTest)
theorem test_setpointSlew_runs : okOp loop0On 0x30 slewBytes = true ∧ loop0On.segRuns (loop0On.loopSeg 0) = true ∧
    ((after (.setpointSlew rq slewBytes) loop0On).loop 24).slewing = true ∧
    waits loop0On (after (.setpointSlew rq slewBytes) loop0On) = true := by decide
def image0 : Bytes :=
  let b : Bytes := [0, 0, 0, 0] ++ List.replicate 28 0 ++ leBytes 4 (-1000) ++ leBytes 4 1000 ++ List.replicate 8 0
  b ++ leBytes 4 (crc32c b).toNat
def loadBytes : Bytes := [8, 1, 0, 0] ++ image0
theorem test_coefBankLoad : okOp loop0On 0x31 loadBytes = true ∧
    (Taken loop0On rq 0x31 loadBytes).bankLoadCheck loadBytes = none ∧
    (after (.coefBankLoad rq loadBytes) loop0On).wheel.loads.length = 1 ∧
    waits loop0On (after (.coefBankLoad rq loadBytes) loop0On) = true := by decide +kernel
def loaded : State := loop0On.modLoop 24 fun a => { a with bank0 := some image0, bank1 := some image0 }
def swapBytes : Bytes := leBytes 4 16777216 ++ [1, 8, 0, 0]
theorem test_coefBankSwap : okOp loaded 0x32 swapBytes = true ∧
    (Taken loaded rq 0x32 swapBytes).bankSwapCheck swapBytes = none ∧
    ((after (.coefBankSwap rq swapBytes) loaded).wheel.swaps.map (·.left)) = [[24]] := by decide
def flumeBytes : Bytes := [8, 0, 1, 0] ++ leBytes 4 1000 ++ leBytes 4 0 ++ leBytes 2 1 ++ leBytes 2 4 ++ [7, 1, 0, 0]
theorem test_flumeStart : okOp loaded 0x38 flumeBytes = true ∧ (Taken loaded rq 0x38 flumeBytes).flumeCheck flumeBytes = none ∧
    (after (.flumeStart rq flumeBytes) loaded).flume.running = true ∧
    (after (.flumeStart rq flumeBytes) loaded).flume.loop = 24 := by decide
def armBytes : Bytes := [8, 1, 1, 0] ++ leBytes 4 0 ++ [0, 0, 0, 0] ++ leBytes 4 0 ++ [8, 0, 0, 0, 0, 0, 0, 0]
theorem test_tailraceArm : okOp base 0x39 armBytes = true ∧ (Taken base rq 0x39 armBytes).traceCheck armBytes = none ∧
    byteAt armBytes 1 ≠ 0 ∧
    (after (.tailraceArm rq armBytes) base).par oDevice Pid.Device.TAILRACE_STATE = tsARMED ∧
    repBytes (.tailraceArm rq armBytes) base = some (leBytes 4 1 ++ leBytes 4 32768) := by decide
def traced : State := 
  pars [(oDevice, Pid.Device.TAILRACE_STATE, tsDONE), (oDevice, Pid.Device.TAILRACE_CAPTURE_ID, 7)]
    { base with trace := { base.trace with config := armBytes, rows := [[3], [2], [1]] } }
def traceRead : Bytes := leBytes 4 7 ++ leBytes 4 1 ++ leBytes 2 2
theorem test_tailraceRead : okOp traced 0x3A traceRead = true ∧ traced.traceState ≠ tsARMED ∧ traced.traceNch = 1 ∧
    (repBytes (.tailraceRead rq traceRead) traced).map (List.drop 16) = some (leBytes 4 2 ++ leBytes 4 3) := by decide

/-! ## Grist, Dresser, batteries and the sequencer -/

def gristReadBytes : Bytes := [0, 0xFF, 0xFF, 0xFF, 0, 0, 0, 0, 8, 0, 0, 0]
theorem test_gristRead : okOp base 0x40 gristReadBytes = true ∧
    (Taken base rq 0x40 gristReadBytes).gristReadCheck gristReadBytes = none ∧
    ((repBytes (.gristRead rq gristReadBytes) base).map fun b => byteAt b 13) = some 1 := by decide
def owned : State := { base with life := { base.life with keys := base.life.keys.set 0 (some (List.replicate 64 1)) } }
theorem test_gristClearNonce : okOp owned 0x41 [0, 0, 0, 0] = true ∧ owned.ownerKey ≠ none ∧
    rep (.gristClearNonce rq [0, 0, 0]) owned = some (stOK, 0) ∧
    ((after (.gristClearNonce rq [0, 0, 0]) owned).grist.nonce.map List.length) = some 32 := by decide
def nonced : State := { owned with
  grist := { owned.grist with nonce := some [1] }
  life := { owned.life with nonce := some [2] } }
def token67 : Bytes := List.replicate 67 0
theorem test_gristClear : okOp nonced 0x41 (1 :: token67) = true ∧ zeros token67 0 3 = true ∧ token67.length = 67 ∧
    nonced.ownerKey ≠ none ∧ nonced.grist.nonce ≠ none := by decide
def trigBytes : Bytes := [2, 1, 0, 0] ++ leBytes 2 Pid.Shelf.SHELF_STATE ++ [0, 0] ++ List.replicate 76 0
theorem test_gristTriggerSet : okOp base 0x42 trigBytes = true ∧ (Taken base rq 0x42 trigBytes).triggerCheck trigBytes = none ∧
    (vget (after (.gristTriggerSet rq trigBytes) base).grist.triggers 2 .undefined).enable = true ∧
    repBytes (.gristTriggerSet rq trigBytes) base = some [2, 0, 0, 0] := by decide
theorem test_bistRequest : okOp base 0x50 [0, 1, 0, 0, 0, 0, 0, 0] = true ∧
    (Taken base rq 0x50 [0, 1, 0, 0, 0, 0, 0, 0]).bistCheck [0, 1, 0, 0, 0, 0, 0, 0] = none ∧
    (after (.bistRequest rq [0, 1, 0, 0, 0, 0, 0, 0]) base).dresser.tests.map (fun t => (t.id, t.kind, t.target)) = [(1, 0, 1)] := by
  decide
theorem test_bistRequest_full : okOp (inShelf ssMaint) 0x50 [3, 0, 0, 0, 0, 0, 0, 0] = true ∧
    (Taken (inShelf ssMaint) rq 0x50 [3, 0, 0, 0, 0, 0, 0, 0]).bistCheck [3, 0, 0, 0, 0, 0, 0, 0] = none ∧
    (after (.bistRequest rq [3, 0, 0, 0, 0, 0, 0, 0]) (inShelf ssMaint)).dresser.fullPending = true := by decide
def testing : State := after (.bistRequest { rq with tag := 6 } [0, 1, 0, 0, 0, 0, 0, 0]) base
def cancelBytes : Bytes := [0, 0, 0] ++ leBytes 4 1
theorem test_bistCancel : okOp testing 0x50 (4 :: cancelBytes) = true ∧
    (Taken testing rq 0x50 (4 :: cancelBytes)).bistCheck (4 :: cancelBytes) = none ∧
    (after (.bistCancel rq cancelBytes) testing).dresser.tests.map (·.state) = [4] ∧
    rep (.bistCancel rq cancelBytes) testing = some (stOK, 0) := by decide
theorem test_bistResult : okOp testing 0x51 (leBytes 4 1) = true ∧
    (testing.dresser.tests.find? fun t => t.id == 1).isSome = true ∧
    (repBytes (.bistResult rq (leBytes 4 1)) testing).map List.length = some 44 := by decide
def batt : State := pars [(oString 0, Pid.String.MODULE_COUNT, 2)] (inShelf ssNormal)
theorem test_battAuth : okOp batt 0x60 (leBytes 8 3) = true ∧ batt.configured 0 = true ∧ batt.configured 1 = true ∧
    (Taken batt rq 0x60 (leBytes 8 3)).beingAuthed 1 = false ∧
    (after (.battAuth rq (leBytes 8 3)) batt).auths.map (·.left) = [[0, 1]] := by decide
theorem test_battLearnCommit : okOp batt 0x61 [1, 0, 0, 0] = true ∧ (Taken batt rq 0x61 [1, 0, 0, 0]).mayLearn = true ∧
    (after (.battLearnCommit rq [1, 0, 0, 0]) batt).nvm.queue.any (fun q => q.work == .battery [0]) = true := by decide
def braked : State := (inShelf ssBraking).modSeq fun q => { q with brake := some 1 }
theorem test_seqPowerOn_brake : okOp braked 0x70 [] = true ∧ (after (.seqPowerOn rq []) braked).seq.powerOn = true ∧
    repBytes (.seqPowerOn rq []) braked = some [1, 31, 0, 0] := by decide
theorem test_seqPowerOn_none : okOp base 0x70 [] = true ∧ base.seq.brake = none ∧
    repBytes (.seqPowerOn rq []) base = some [2, 31, 0, 0] := by decide
theorem test_seqPowerOff : okOp braked 0x71 [0, 0, 0, 0] = true ∧
    (Taken braked rq 0x71 [0, 0, 0, 0]).powerOffCheck [0, 0, 0, 0] = none ∧ braked.seq.complete = false ∧
    (after (.seqPowerOff rq [0, 0, 0, 0]) braked).seq.offOps = [(braked.hopper.nextId, 1)] := by decide
def walked : State := (inShelf ssBraking).modSeq fun q => { q with complete := true }
theorem test_seqPowerOff_done : okOp walked 0x71 [0, 0, 0, 0] = true ∧ rep (.seqPowerOff rq [0, 0, 0, 0]) walked = some (stOK, 0) := by decide
theorem test_seqStep : okOp (inShelf ssTest) 0x72 [2, 0, 0, 0] = true ∧
    (Taken (inShelf ssTest) rq 0x72 [2, 0, 0, 0]).stepCheck [2, 0, 0, 0] = none ∧
    (after (.seqStep rq [2, 0, 0, 0]) (inShelf ssTest)).seqState = 0 ∧
    (after (.seqStep rq [2, 0, 0, 0]) (inShelf ssTest)).seqPhase = sqMANUAL ∧
    (after (.seqStep rq [2, 0, 0, 0]) (inShelf ssTest)).seq.stepsLeft = 1 := by decide
def timeBytes (mode : Byte) : Bytes := [mode, 0, 0, 0] ++ leBytes 8 5000000
theorem test_timeSet_step : okOp base 0x80 (timeBytes 0) = true ∧ (Taken base rq 0x80 (timeBytes 0)).timeSetCheck (timeBytes 0) = none ∧
    (after (.timeSet rq (timeBytes 0)) base).wallNow = 5000000 ∧ (after (.timeSet rq (timeBytes 0)) base).time.wallValid = true := by
  decide
theorem test_timeSet_slew : (Taken base rq 0x80 (timeBytes 1)).timeSetCheck (timeBytes 1) = none ∧
    (after (.timeSet rq (timeBytes 1)) base).wallNow = 0 ∧ (after (.timeSet rq (timeBytes 1)) base).time.slew.isSome = true := by
  decide

/-! ## Update, life cycle and debug -/

def openBytes : Bytes := leBytes 4 2048 ++ [0, 0, 0, 0]
theorem test_updOpen : okOp base 0x90 openBytes = true ∧ base.updState = upIDLE ∧
    (after (.updOpen rq openBytes) base).updState = upOPEN ∧
    repBytes (.updOpen rq openBytes) base = some [1, 0, 1, 0, 0, 1, 0, 0] := by decide
def opened : State := after (.updOpen { rq with tag := 6 } openBytes) base
def lastBlock : State := { opened with upd := { opened.upd with headerOk := true } }
def blockBytes : Bytes :=
  leBytes 2 1 ++ leBytes 2 4 ++ leBytes 4 1792 ++ leBytes 4 (crc32c (leBytes 4 1792 ++ [1, 2, 3, 4])).toNat ++ [1, 2, 3, 4]
theorem test_updBlock : okOp lastBlock 0x91 blockBytes = true ∧
    (Taken lastBlock rq 0x91 blockBytes).blockCheck blockBytes = none ∧
    (after (.updBlock rq blockBytes) lastBlock).nvm.queue.any (fun q => q.work == .block 1792 [1, 2, 3, 4]) = true := by decide +kernel
theorem test_updClose : okOp opened 0x92 [1, 0, 0, 0] = true ∧ (Taken opened rq 0x92 [1, 0, 0, 0]).inSession 1 = true ∧
    (after (.updClose rq [1, 0, 0, 0]) opened).updState = upCLOSING := by decide
def staged : State := pars [(oUpdater, Pid.Updater.UPD_STATE, upSTAGED)] { base with upd := { base.upd with stagedOk := true } }
def schedBytes : Bytes := [1, 0, 0, 0] ++ leBytes 8 100
theorem test_updSchedule : okOp staged 0x93 schedBytes = true ∧ zeros schedBytes 2 2 = true ∧ staged.updState = upSTAGED ∧
    staged.par oUpdater Pid.Updater.SCHED_MODE = 0xFF := by decide
theorem test_updCancel : okOp staged 0x95 [0, 0, 0, 0] = true ∧ (∀ q ∈ staged.nvm.queue, q.work ≠ .cancelBank) ∧
    (after (.updCancel rq [0, 0, 0, 0]) staged).nvm.queue.any (fun q => q.work == .cancelBank) = true := by decide
theorem test_lcNonce : okOp base 0xA1 [0, 0, 0, 0] = true ∧ (Taken base rq 0xA1 [0, 0, 0, 0]).lcCheck [0, 0, 0, 0] = none ∧
    (after (.lcNonce rq [0, 0, 0]) base).life.nonce.map List.length = some 32 := by decide
def lcBytes : Bytes := [1, 0, 0] ++ List.replicate 160 0
theorem test_lcTransition : okOp nonced 0xA1 (1 :: lcBytes) = true ∧
    (Taken nonced rq 0xA1 (1 :: lcBytes)).lcCheck (1 :: lcBytes) = none ∧ byteAt lcBytes 0 ≠ 3 := by decide +kernel
def keyBytes : Bytes := [1, 0, 0] ++ List.replicate 128 9
theorem test_writeKey : okOp nonced 0xA1 (2 :: keyBytes) = true ∧
    (Taken nonced rq 0xA1 (2 :: keyBytes)).lcCheck (2 :: keyBytes) = none := by decide +kernel
def field : State := nonced.setPar oLife Pid.LifeCycle.LC_STATE lcFIELD
theorem test_debugUnlock : okOp field 0xA2 (0 :: token67) = true ∧ field.lcState = lcFIELD ∧ field.life.nonce ≠ none ∧
    field.ownerKey ≠ none := by decide
theorem test_debugRelock : okOp field 0xA2 [1, 0, 0, 0] = true ∧ field.ownerKey ≠ none ∧ field.life.nonce ≠ none ∧
    repBytes (.debugRelock rq [0, 0, 0]) field = some [0, 0, 0, 0] := by decide

/-! ## Abort, poll and Hopper's choice -/

def heldOp (stage : OpStage) : Op :=
  { id := 0, port := .ha, tag := 9, prio := 2, opcode := 0x01, payload := [], alert := false, stage := stage, tick := 0
    control := false, aborted := false }
def holding (stage : OpStage) : State := { base with hopper := { base.hopper with ops := [heldOp stage] } }
theorem test_abort_queued : okOp (holding .queued) 0xF0 [9, 0, 0, 0] = true ∧
    (Taken (holding .queued) rq 0xF0 [9, 0, 0, 0]).abortTarget (theOp (holding .queued) rq 0xF0 [9, 0, 0, 0]) = some (heldOp .queued) ∧
    ((after (.abort rq [9, 0, 0, 0]) (holding .queued)).port .ha).replies.map (fun x => (x.op, x.status, x.reason)) =
      [(some 0, stABORTED, 1), (some 1, stOK, 0)] := by decide
theorem test_abort_committed : okOp (holding .committed) 0xF0 [9, 0, 0, 0] = true ∧
    rep (.abort rq [9, 0, 0, 0]) (holding .committed) = some (stDONE_BEFORE, 0) := by decide
theorem test_resultPoll : okOp base 0xF1 [9, 0, 0, 0] = true ∧
    repBytes (.resultPoll rq [9, 0, 0, 0]) base = some [9, 0, 0, 0, 0, 0, 0, 0] := by decide
theorem test_operationStart : (holding .queued).hopperStarts = true ∧
    pickOp (holding .queued).hopper.ops = some (heldOp .queued) ∧ rep .operationStart (holding .queued) = some (stOK, 0) := by
  decide
theorem test_objDisable_never : okOp base 0x22 [0xFC, 0, 0, 0] = true ∧
    rep (.objDisable rq [0xFC, 0, 0, 0]) base = some (stLOCKED, 4) ∧
    (after (.objDisable rq [0xFC, 0, 0, 0]) base).read oFantail Pid.ENABLE = 1 := by decide

/-! ## The register window and the ports -/

/-- A host's access to HA's primary address. -/
def acc : HostAccess := ⟨0x58, .fast⟩
def elsewhere : HostAccess := ⟨0x33, .fast⟩

/-- The conditions of `Carries`. -/
def okCarry (s : State) (p : HostPort) (ptr : Byte) (data rest : Bytes) : Bool :=
  s.portAnswers p && (s.addressHit p acc.addr).isSome && decide (s.pecActive p = true → data.length ≤ 286) &&
    decide (rest = data ++ (if s.pecActive p then [crc8 (BitVec.ofNat 8 (2 * acc.addr.toNat) :: ptr :: data)] else []))

theorem carries_of {s : State} {p : HostPort} {ptr : Byte} {data rest : Bytes} (h : okCarry s p ptr data rest = true) :
    Carries s p acc ptr data rest := by
  simp only [okCarry, Bool.and_eq_true, decide_eq_true_eq] at h
  exact ⟨h.1.1.1, h.1.1.2, h.1.2, h.2⟩

def pecOn : State := base.setPar (oPort .ha) Pid.HPort.PEC_MODE 1
theorem test_reqStream : okCarry base .ha 0x10 [0x59, 1] [0x59, 1] = true ∧ base.reqSpace .ha ≠ 0 ∧
    ((after (.reqStream .ha acc [0x59, 1]) base).port .ha).build = [0x59, 1] ∧
    ((after (.reqStream .ha acc [0x59, 1]) base).port .ha).pointer = 0x10 ∧
    (after (.reqStream .ha acc [0x59, 1]) base).par (oPort .ha) Pid.HPort.SPEED_SEEN = 2 := by decide
def pecData : Bytes := [0x59, crc8 [0xB0, 0x10, 0x59]]
theorem test_reqStream_pec : okCarry pecOn .ha 0x10 [0x59] pecData = true ∧
    ((after (.reqStream .ha acc pecData) pecOn).port .ha).build = [0x59] := by decide +kernel
-- R387: the CRC-8 of the nine digits
theorem test_crc8 : crc8 [0x31, 0x32, 0x33, 0x34, 0x35, 0x36, 0x37, 0x38, 0x39] = 0xF4 := by decide +kernel
def fullPacket : State := base.modPort .ha fun x => { x with build := List.replicate 283 0, written := 283 }
theorem test_reqStream_over : okCarry fullPacket .ha 0x10 [1, 2] [1, 2] = true ∧ fullPacket.reqSpace .ha ≠ 0 ∧
    ((after (.reqStream .ha acc [1, 2]) fullPacket).port .ha).build.length = 284 ∧
    ((after (.reqStream .ha acc [1, 2]) fullPacket).port .ha).written = 285 ∧
    (after (.reqStream .ha acc [1, 2]) fullPacket).par (oPort .ha) Pid.HPort.BYTES_DISCARDED = 1 := by decide +kernel
def fullMemory : State := base.modPort .ha fun x => { x with waiting := List.replicate 4 (List.replicate 284 0, 284) }
theorem test_reqStream_full : fullMemory.reqSpace .ha = 0 ∧ okCarry fullMemory .ha 0x10 [1] [1] = true ∧
    (after (.reqStream .ha acc [1]) fullMemory).par (oPort .ha) Pid.HPort.BYTES_DISCARDED = 1 := by decide +kernel
theorem test_doorbellDiscard : okCarry fullPacket .ha 0x12 [0x5A] [0x5A] = true ∧
    ((after (.doorbellDiscard .ha ⟨acc, []⟩) fullPacket).port .ha).build = [] ∧
    ((after (.doorbellDiscard .ha ⟨acc, []⟩) fullPacket).port .ha).written = 0 := by decide +kernel
def packet (bs : Bytes) : State := base.modPort .ha fun x => { x with build := bs, written := bs.length }
-- PING with the payload A5, tag 3, priority 2: the bytes of Table 14-1 written out
def pingPacket : Bytes := [0x59, 0x10, 0x01, 0x83, 0x01, 0x00, 0x00, 0x00, 0xA5]
theorem test_doorbellSubmit :
    let bs := pingPacket ++ leBytes 4 (crc32c pingPacket).toNat
    bs = requestBytes 0x01 0x83 false [0xA5] ∧ (packet bs).frameFail .ha 0x01 3 = none ∧
    okCarry (packet bs) .ha 0x12 [0xA5, 7] [0xA5, 7] = true ∧
    (after (.doorbellSubmit .ha ⟨acc, [7]⟩) (packet bs)).hopper.ops.map (fun e => (e.opcode, e.tag, e.prio, e.payload)) =
      [(1, 3, 2, [0xA5])] := by decide +kernel
-- R350: the CRC-32C of the nine digits
theorem test_crc32c : crc32c [0x31, 0x32, 0x33, 0x34, 0x35, 0x36, 0x37, 0x38, 0x39] = 0xE3069283 := by decide +kernel
theorem test_reject_length : rep (.doorbellSubmit .ha ⟨acc, []⟩) (packet [1, 2]) = some (stBAD_LENGTH, 0x81) := by decide
theorem test_reject_crc : rep (.doorbellSubmit .ha ⟨acc, []⟩) (packet (List.replicate 12 1)) = some (stBAD_CRC, 0x82) := by
  decide +kernel
def crcd (bs : Bytes) : Bytes := bs ++ leBytes 4 (crc32c bs).toNat
theorem test_reject_header : rep (.doorbellSubmit .ha ⟨acc, []⟩) (packet (crcd [0x58, 0x10, 1, 3, 0, 0, 0, 0])) =
    some (stPROTOCOL, 0x83) := by decide +kernel
theorem test_reject_payload_length : rep (.doorbellSubmit .ha ⟨acc, []⟩) (packet (crcd [0x59, 0x10, 1, 3, 1, 0, 0, 0])) =
    some (stBAD_LENGTH, 0x84) := by decide +kernel
theorem test_reject_opcode : (packet (crcd [0x59, 0x10, 3, 3, 0, 0, 0, 0])).frameFail .ha 3 3 = some (stUNKNOWN_OPCODE, 5) ∧
    rep (.doorbellSubmit .ha ⟨acc, []⟩) (packet (crcd [0x59, 0x10, 3, 3, 0, 0, 0, 0])) = some (stUNKNOWN_OPCODE, 0x85) := by
  decide +kernel
def replying : State := base.modPort .ha fun x => { x with replies := [⟨some 0, 1, 9, false, 0, 0, []⟩] }
theorem test_replyStream : properForm replying .ha 2 = .plain ∧ properLen replying .ha 2 = 2 ∧
    ((after (.replyStream .ha ⟨acc, .plain, 2⟩) replying).port .ha).driven = [0x79, 0x10] ∧
    ((after (.replyStream .ha ⟨acc, .plain, 2⟩) replying).port .ha).readPos = 2 ∧
    ((after (.replyStream .ha ⟨acc, .plain, 2⟩) base).port .ha).driven = [0, 0] := by decide
theorem test_replyStream_pec :
    let s := replying.setPar (oPort .ha) Pid.HPort.PEC_MODE 1
    properForm s .ha 2 = .counted 2 ∧ properLen s .ha 2 = 3 ∧
    ((after (.replyStream .ha ⟨acc, (.counted 2), 3⟩) s).port .ha).driven = [0x79, 0x10, crc8 [0xB0, 0x11, 2, 0xB1, 0x79, 0x10]] := by
  decide +kernel
def lastByte : State :=
  { replying.modPort .ha (fun x => { x with readPos := 11 }) with
    hopper := { ops := [{ id := 0, port := .ha, tag := 9, prio := 0, opcode := 1, payload := [], alert := false, stage := .replied
                          tick := 0, control := false, aborted := false }], nextId := 1 } }
theorem test_replyStream_last : ((after (.replyStream .ha ⟨acc, .plain, 2⟩) lastByte).port .ha).replies = [] ∧
    (((after (.replyStream .ha ⟨acc, .plain, 2⟩) lastByte).port .ha).driven.drop 1) = [0] ∧
    (after (.replyStream .ha ⟨acc, .plain, 2⟩) lastByte).hopper.ops = [] := by decide
def alerted : State := base.modPort .ha fun x => { x with alertCause := 65 }
theorem test_alertCause : ((after (.alertCause .ha ⟨acc, .plain, 1⟩) alerted).port .ha).driven = [65] ∧
    ((after (.alertCause .ha ⟨acc, .plain, 1⟩) alerted).port .ha).alertCause = 0 := by decide
def alertedCautious : State := alerted.setPar (oPort .ha) Pid.HPort.CAUTIOUS 1
theorem test_alertCause_cautious : properForm alertedCautious .ha 1 = .counted 1 ∧
    ((after (.alertCause .ha ⟨acc, (.counted 1), 2⟩) alertedCautious).port .ha).alertCause = 64 := by decide +kernel
theorem test_fastStatus : base.supply.cs ≠ .rom ∧
    ((after (.fastStatus .ha ⟨acc, .plain, 1⟩) (inShelf ssTest)).port .ha).driven = [2] ∧
    ((after (.fastStatus .ha ⟨acc, .plain, 1⟩) (inShelf ssTest)).port .ha).pointer = 0x21 := by decide
theorem test_highByteLatch : base.reqSpace .ha = 1136 ∧
    ((after (.highByteLatch .ha false ⟨acc, .plain, 2⟩) base).port .ha).driven = [0x70, 4] ∧
    ((after (.highByteLatch .ha false ⟨acc, .plain, 1⟩) base).port .ha).spaceHigh = 4 := by decide
theorem test_highByteLatch_reply : ((after (.highByteLatch .ha true ⟨acc, .plain, 1⟩) replying).port .ha).driven = [12] ∧
    ((after (.highByteLatch .ha true ⟨acc, .plain, 1⟩) replying).port .ha).availHigh = 0 := by decide
theorem test_not_acknowledged : base.addressHit .ha elsewhere.addr = none ∧ State.reset.portAnswers .hb = false ∧
    after (.reqStream .ha elsewhere [1]) base = base.busStop .ha := by decide +kernel
/-- The newest violation's word, their number and the PEC errors, after a command. -/
def violations (c : Instr) (s : State) : Int × Int × Int :=
  let t := after c s
  (t.par (oPort .ha) Pid.HPort.LAST_VIOLATION, t.par (oPort .ha) Pid.HPort.VIOLATION_COUNT, t.par (oPort .ha) Pid.HPort.PEC_ERRORS)
theorem test_read_without_count : pecOn.pecActive .ha = true ∧
    violations (.fastStatus .ha ⟨acc, .plain, 2⟩) pecOn = (0x15922000, 1, 1) ∧
    violations (.alertCause .ha ⟨acc, (.counted 0), 2⟩) pecOn = (0x15920900, 1, 1) ∧
    ((after (.fastStatus .ha ⟨acc, .plain, 2⟩) pecOn).port .ha).driven = [0xFF, 0xFF] := by decide +kernel
theorem test_read_direct : (pecOn.port .ha).pointer = 0 ∧
    violations (.replyStream .ha ⟨acc, .direct, 2⟩) pecOn = (0x15930000, 1, 1) := by decide +kernel
theorem test_read_counted_plain : base.pecActive .ha = false ∧
    violations (.alertCause .ha ⟨acc, (.counted 1), 2⟩) base = (0x15900900, 1, 0) := by decide +kernel
theorem test_windowWrite_mask : okCarry base .ha 0x0A [0x41] [0x41] = true ∧
    (after (.windowWrite .ha acc 0x0A [0x41]) base).par (oPort .ha) Pid.HPort.ALERT_MASK = 0x41 := by decide
theorem test_windowWrite_readOnly : base.pecActive .ha = false ∧ readOnlyAt 8 = true ∧
    violations (.windowWrite .ha acc 0x08 [1, 2]) base = (0x15900800, 1, 0) ∧
    (after (.windowWrite .ha acc 0x08 [1, 2]) base).grist.circ.head?.map (fun x => (x.event, x.snap.take 5)) =
      some (0x41, [0x15, 0x90, 8, 0, 2]) ∧
    countOf (oPort .ha) base.grist.created < 1048575 ∧ base.grist.nextGen < 4294967295 ∧ base.miller3 = true := by decide +kernel
theorem test_windowWrite_reserved : okCarry base .ha 0x13 [1] [1] = true ∧ okCarry base .ha 0x40 [1] [1] = true ∧
    (after (.windowWrite .ha acc 0x13 [1]) base).par (oPort .ha) Pid.HPort.VIOLATION_COUNT = 0 ∧
    ((after (.windowWrite .ha acc 0x40 [1]) base).port .ha).pointer = 0x41 := by decide
theorem test_windowWrite_pec : pecFails acc.addr [0x0A, 1] = some 0x91 ∧ pecFails acc.addr [0x0A] = some 0x92 ∧
    violations (.windowWrite .ha acc 0x0A [1]) pecOn = (0x15910A00, 1, 1) := by decide +kernel
def roData : Bytes := [1, crc8 [0xB0, 0x08, 1]]
theorem test_windowWrite_pec_readOnly : okCarry pecOn .ha 0x08 [1] roData = true ∧
    violations (.windowWrite .ha acc 0x08 roData) pecOn = (0, 0, 0) := by decide +kernel
def cautious2 : State := base.setPar (oPort .ha) Pid.HPort.CAUTIOUS 2
theorem test_cautiousExit : cautious2.running = true ∧ cautious2.violations1s .ha = 0 ∧
    (after (.cautiousExit .ha) cautious2).par (oPort .ha) Pid.HPort.CAUTIOUS = 0 := by decide
def timed : State := base.setPar (oPort .ha) Pid.HPort.TIMEOUT_ENABLE 1
theorem test_clockLowTimeout : timed.portAnswers .ha = true ∧
    (after (.clockLowTimeout .ha) timed).par (oPort .ha) Pid.HPort.TIMEOUTS = 1 := by decide
theorem test_alertResponse : alerted.alertLow .ha = true ∧ ((after (.alertResponse .ha true) alerted).port .ha).driven = [0xB0] ∧
    (after (.alertResponse .ha true) alerted).alertLow .ha = false ∧
    (after (.alertResponse .ha true) alerted).par (oPort .ha) Pid.HPort.ARA_WINS = 1 := by decide
theorem test_alertResponse_cautious : alertedCautious.portAnswers .ha = true ∧ alertedCautious.alertLow .ha = true ∧
    (after (.alertResponse .ha true) alertedCautious).alertLow .ha = true ∧
    ((after (.alertResponse .ha true) alertedCautious).port .ha).driven.length = 2 := by decide +kernel
def asleep : State := { base with supply := { base.supply with cs := .watch } }
theorem test_addressMatchWake : asleep.acknowledges .hb acc.addr = true ∧ (after (.addressMatchWake ⟨.hb, acc, 0⟩) asleep).supply.cs = .run ∧
    (after (.addressMatchWake ⟨.hb, acc, 0⟩) asleep).par oDevice Pid.Device.WAKE_CAUSE = 2 ∧
    ((after (.addressMatchWake ⟨.hb, acc, 0⟩) asleep).port .hb).stretch = true ∧
    (after (.addressMatchWake ⟨.hb, { acc with speed := .highSpeed }, 0⟩) asleep).supply.cs = .watch := by decide +kernel
def stretched : State := base.modPort .ha fun x => { x with stretch := true }
theorem test_addressMatchWake_second : stretched.acknowledges .hb acc.addr = true ∧ (stretched.port .hb).stretch = false ∧
    ((after (.addressMatchWake ⟨.hb, acc, 0⟩) stretched).port .hb).stretch = true ∧
    (after (.addressMatchWake ⟨.hb, acc, 0⟩) stretched).bit oDevice Pid.Device.WAKE_CAUSE 1 = true := by decide +kernel
theorem test_wakeStretchRelease : ((after (.wakeStretchRelease .ha 150) stretched).port .ha).stretch = false ∧
    (after (.wakeStretchRelease .ha 150) stretched).par (oPort .ha) Pid.HPort.WAKE_STRETCH_MAX = 150 ∧
    ((after (.wakeStretchRelease .ha 2000) stretched).port .ha).driven = [0xFF] := by decide
def inRom : State := { State.reset with supply := { State.reset.supply with cs := .rom } }
def romAcc : HostAccess := ⟨0x5F, .standard⟩
theorem test_acknowledges : inRom.acknowledges .ha 0x5F = true ∧ inRom.acknowledges .ha 0x58 = false ∧
    inRom.acknowledges .hb 0x5F = false ∧ base.acknowledges .ha 0x58 = true ∧ base.acknowledges .ha 0x0C = false ∧
    State.reset.acknowledges .ha 0x58 = false ∧ asleep.acknowledges .hb 0x58 = true ∧
    ((after (.fastStatus .ha ⟨romAcc, properForm inRom .ha 1, properLen inRom .ha 1⟩) inRom).port .ha).driven.head? = some 0 := by
  decide +kernel

/-! ## Clocks, the tick, the wall clock and the timers -/

def crystalBad : State := after .xt32Fail base
theorem test_xt32Fail : base.time.onAonRc = false ∧ crystalBad.time.onAonRc = true ∧
    crystalBad.par oDevice Pid.Device.XT32_FAIL_COUNT = 1 ∧
    crystalBad.bit oDevice Pid.Device.CLOCK_STATUS ckXT32_FAIL = true := by decide
theorem test_xt32Return : (after .xt32Return crystalBad).time.onAonRc = false := by decide
theorem test_xt25Fail : base.coreClock = true ∧ (after .xt25Fail base).time.onRefRc = true ∧
    (after .xt25Fail base).par oDevice Pid.Device.XT25_FAIL_COUNT = 1 ∧
    ((after .xt25Fail base).port .hb).alertCause.testBit alFault = true := by decide
theorem test_xt25Return : (after .xt25Return (after .xt25Fail base)).time.onRefRc = false := by decide
theorem test_tickLatch : (after (.tickLatch 5) base).time.latch = some ⟨0, 5, 0, false⟩ := by decide
theorem test_tickJournal : base.miller3 = true ∧ base.thermalLatched = false ∧
    (after .tickJournal base).nvm.queue.any (fun q => q.work == .tickRecord) = true := by decide
def late : State := { base with time := { base.time with ceilingWritten := true } }
theorem test_ceilingLate : late.bit oDevice Pid.Device.CLOCK_STATUS ckCEILING_LATE = false ∧
    (late.time.tick : Int) + 600000000 ≥ late.par oDevice Pid.Device.TICK_CEILING ∧
    (after .ceilingLate late).bit oDevice Pid.Device.CLOCK_STATUS ckCEILING_LATE = true := by decide
def slewing (target : Int) : State := { base with time := { base.time with slew := some ⟨target, 0, target, 0⟩, tick := 2000 } }
theorem test_wallSlewStep : (after .wallSlewStep (slewing 2)).wallNow = 2001 ∧ (after .wallSlewStep (slewing 2)).time.slew.isSome = true ∧
    (after .wallSlewStep (slewing (-2))).wallNow = 1999 ∧ (after .wallSlewStep (slewing 1)).time.slew = none ∧
    ((after .wallSlewStep (slewing 2)).time.slew.map (·.stepTick)) = some 2000 := by decide
def slewEarly : State := { slewing 2 with time := { (slewing 2).time with tick := 1999 } }
theorem test_wallSlewStep_early : after .wallSlewStep slewEarly = slewEarly := by decide +kernel
def timerOn (l : List (Nat × Int)) : State := pars (l.map fun e => (oTimer 2, e.1, e.2)) (base.setPar (oTimer 2) Pid.ENABLE 1)
def matching : State := timerOn [(Pid.Timer.COMPARE, 100), (Pid.Timer.OUT_MODE, 4), (Pid.Timer.MATCH_ALERT, 1)]
theorem test_timerMatch : matching.counting 2 = true ∧ matching.leader 2 = 2 ∧
    (after (.timerMatch 2) matching).par (oTimer 2) Pid.Timer.COUNT = 100 ∧
    ((after (.timerMatch 2) matching).timer 2).level = true ∧
    ((after (.timerMatch 2) matching).port .ha).alertCause.testBit alTimer = true ∧
    (after (.timerMatch 2) matching).bit (oTimer 2) Pid.Timer.TM_STATUS tmMATCH = true := by decide
def pairMatching : State := pars [(oTimer 3, Pid.Timer.COMPARE, 7)] (timerOn [(Pid.Timer.COMPARE, 100), (Pid.Timer.LINK, 1)])
theorem test_timerMatch_pair : pairMatching.linked 2 = true ∧ pairMatching.leader 2 = 2 ∧ pairMatching.counting 2 = true ∧
    (after (.timerMatch 2) pairMatching).par (oTimer 3) Pid.Timer.COUNT = 7 ∧
    (after (.timerMatch 2) pairMatching).par (oTimer 2) Pid.Timer.COUNT = 100 := by decide
theorem test_timerWrap : (timerOn [(Pid.Timer.COUNT, 5)]).linked 2 = false ∧
    (after (.timerWrap 2) (timerOn [(Pid.Timer.COUNT, 5)])).par (oTimer 2) Pid.Timer.COUNT = 0 ∧
    (after (.timerWrap 2) (timerOn [(Pid.Timer.COUNT, 5)])).bit (oTimer 2) Pid.Timer.TM_STATUS tmMATCH = true ∧
    (after (.timerWrap 2) (timerOn [(Pid.Timer.COUNT, 5)])).bit (oTimer 2) Pid.Timer.TM_STATUS tmWRAP = true := by decide
def pairAt (n : Int) : State := pars [(oTimer 3, Pid.Timer.COUNT, n)] (timerOn [(Pid.Timer.LINK, 1)])
theorem test_timerWrap_pair : (after (.timerWrap 2) (pairAt 6)).count 3 = 7 ∧ (pairAt 6).counting 2 = true ∧
    (after (.timerWrap 2) (pairAt 6)).bit (oTimer 2) Pid.Timer.TM_STATUS tmWRAP = true ∧
    (after (.timerWrap 2) (pairAt 4294967295)).par (oTimer 3) Pid.Timer.COUNT = 0 ∧
    (after (.timerWrap 2) (pairAt 4294967295)).bit (oTimer 3) Pid.Timer.TM_STATUS tmWRAP = true := by decide
def capturing (q : List Word) : State := (timerOn [(Pid.Timer.TM_MODE, 3)]).modTimer 2 fun a => { a with queue := q }
theorem test_timerCapture : (capturing [1]).counting 2 = true ∧ (capturing [1]).linked 2 = false ∧
    ((after (.timerCapture 2 true 9) (capturing [1])).timer 2).queue = [1, 9] ∧
    (after (.timerCapture 2 true 9) (capturing [1])).par (oTimer 2) Pid.Timer.COUNT = 9 ∧
    ((after (.timerCapture 2 false 9) (capturing [1, 2, 3, 4])).timer 2).queue = [1, 2, 3, 4] ∧
    (after (.timerCapture 2 false 9) (capturing [1, 2, 3, 4])).bit (oTimer 2) Pid.Timer.TM_STATUS tmCAP_OVERFLOW = true := by decide
def capturePair : State := (timerOn [(Pid.Timer.TM_MODE, 1), (Pid.Timer.LINK, 1)]).setPar (oTimer 3) Pid.Timer.COUNT 6
theorem test_timerCapture_pair : capturePair.linked 2 = true ∧ capturePair.leader 2 = 2 ∧ capturePair.timerFrozen 2 = false ∧
    ((after (.timerCapture 2 true 9) capturePair).timer 3).queue = [6] := by decide
def stopped : State := pars [(oTimer 2, Pid.Timer.TM_MODE, 1), (oTimer 2, Pid.Timer.COUNT, 40)] base
theorem test_timerCapture_stopped : stopped.enabled (oTimer 2) = false ∧
    ((after (.timerCapture 2 true 9) stopped).timer 2).queue = [40] := by decide
def matchBehind : State := timerOn [(Pid.Timer.COMPARE, 100), (Pid.Timer.COUNT, 100), (Pid.Timer.OUT_MODE, 2)]
theorem test_timerMatch_behind : (after (.timerMatch 2) matchBehind).bit (oTimer 2) Pid.Timer.TM_STATUS tmWRAP = true ∧
    (after (.timerMatch 2) matching).bit (oTimer 2) Pid.Timer.TM_STATUS tmWRAP = false := by decide
def pulsing : State := (timerOn [(Pid.Timer.OUT_MODE, 4)]).modTimer 2 fun a => { a with level := true, pulse := true }
theorem test_tmrPulseEnd : pulsing.counting 2 = true ∧ ((after (.tmrPulseEnd 2) pulsing).timer 2).level = false := by decide
theorem test_debugHalt : base.lcState ≠ lcFIELD ∧ (after .debugHalt base).time.halted = true ∧
    (after .debugHaltRelease (after .debugHalt base)).time.halted = false := by decide
theorem test_timer_writes : (after (.prescale rq 2 3) base).par (oTimer 2) Pid.Timer.PRESCALE = 3 ∧
    (after (.timerCount rq 2 (some 5)) base).par (oTimer 2) Pid.Timer.COUNT = 5 ∧
    (after (.compare rq 2 6) base).par (oTimer 2) Pid.Timer.COMPARE = 6 ∧
    (after (.outMode rq 2 2) base).par (oTimer 2) Pid.Timer.OUT_MODE = 2 := by decide

/-! ## The link, the supplies, the critical save and the modes -/

def linked : State := base
theorem test_uhlesLinkLoss : base.csAwake = true ∧ base.linkUp = true ∧ (after .uhlesLinkLoss base).linkUp = false := by decide +kernel
def unlinked : State := after .uhlesLinkLoss base
theorem test_uhlesLinkRecovery : unlinked.linkUp = false ∧ (after (.uhlesLinkRecovery 9) unlinked).linkUp = true ∧
    (after (.uhlesLinkRecovery 9) unlinked).par oDevice Pid.Device.LINK_LOSS_COUNT = 1 := by decide +kernel
def gateOn : State := base.modFeeder 3 fun a => { a with gate := true }
theorem test_psdReset : (after .psdReset gateOn).supply.psdOk = false ∧ ((after .psdReset gateOn).feeder 3).gate = false ∧
    (after .psdReset gateOn).linkUp = false := by decide +kernel
theorem test_vps12Uvlo : (after .vps12Uvlo gateOn).supply.vps12Ok = false ∧ ((after .vps12Uvlo gateOn).feeder 3).gate = false ∧
    (after .vps12Return (after .vps12Uvlo gateOn)).supply.vps12Ok = true := by decide +kernel
def writing : State := { base with nvm := { base.nvm with active := some (⟨.config, .triggers, 1, none, 0⟩, 1) } }
theorem test_sag : base.supply.sag = false ∧ (after .sag base).supply.rideThrough = true ∧ (after .sag base).supply.cs = .run ∧
    (after .sag base).par oDevice Pid.Device.SAG_EVENTS = 1 ∧ (after .sag writing).supply.cs = .saving ∧
    (after .sag writing).supply.saveTrigger = 1 := by decide +kernel
theorem test_vaux12Good : (after .vaux12Good (after .sag base)).supply.rideThrough = false ∧
    (after .vaux12Good (after .sag base)).supply.cs = .run := by decide
theorem test_saveTrigger : (after .saveTrigger (after .saveArmed base)).supply.cs = .saving ∧
    (after .saveTrigger base).supply.cs = .run := by decide +kernel
def armed : State := after .saveArmed base
theorem test_saveTrigger_premises : armed.supply.saveArmed = true ∧ armed.deviceMode ≠ 2 ∧ armed.thermalLatched = false ∧
    (after .saveTrigger armed).supply.saveTrigger = 0 ∧ armed.nvm.active = none := by decide +kernel
def saving : State := { base with supply := { base.supply with cs := .saving, saveTick := 3 } }
theorem test_saveCommit : (after (.saveCommit 900) saving).supply.cs = .saved ∧
    (after (.saveCommit 900) saving).nvm.saves.head?.map (fun x => (x.trailer, x.tick)) = some (true, 3) ∧
    (after (.saveCommit 900) saving).par oDevice Pid.Device.LAST_SAVE_TIME = 900 ∧
    (after (.saveCommit 900) saving).bit oDevice Pid.Device.HOLD_STATUS hsSAVE_DONE = true := by decide
def saved : State := (inShelf ssNormal).setPar oShelf Pid.Shelf.SEQ_STATE 15
def savedHold : State := { saved with supply := { saved.supply with cs := .saved, vauxGood := true } }
theorem test_saveResume : (after .saveResume savedHold).supply.cs = .run ∧ (after .saveResume savedHold).shelfState = ssRecovery := by
  decide
theorem test_holdUpEnd : base.csAwake = true ∧ (after .holdUpEnd base).supply.cs = .reset ∧
    (after .holdUpEnd writing).nvm.active = none ∧
    (after .holdUpEnd writing).par oDevice Pid.Device.NVM_WRITE_COUNT = 1 := by decide +kernel
theorem test_supplyFall : (after (.supplyFall .vcore) base).supply.cs = .reset ∧ (after (.supplyFall .vaon) base).supply.cs = .off ∧
    (after (.supplyFall .vaon) base).time.latch = none := by decide
def running : State := after .startupConfigApplied base
theorem test_floatEntry_blocked : (after .floatEntry base).deviceMode = 0 := by decide
def floatable : State := pars [(oDevice, Pid.Device.FLOAT_ENABLE, 1)] (inShelf ssNormal)
theorem test_floatEntry : floatable.floatBlockNow = 0 ∧ floatable.miller3 = true ∧ (after .floatEntry floatable).deviceMode = 1 := by
  decide
def brakedDone : State := pars [(oDevice, Pid.Device.WATCH_AFTER_BRAKE, 1), (oDevice, Pid.Device.VHOLD_NOW, 4800000)]
  ((inShelf ssBraking).modSeq fun q => { q with complete := true })
theorem test_watchEntry : brakedDone.watchReady = true ∧ brakedDone.watchWrites = true ∧ (after (.watchEntry 77) brakedDone).supply.cs = .watch ∧
    (after (.watchEntry 77) brakedDone).time.latch = some ⟨0, 77, 0, true⟩ ∧ (after (.watchEntry 77) brakedDone).deviceMode = 2 := by
  decide +kernel
def awake : State := (brakedDone.setPar oDevice Pid.Device.DEVICE_MODE 2)
theorem test_watchReturn : awake.watchReady = true ∧ awake.watchWrites = true ∧ awake.deviceMode = 2 ∧
    (after (.watchReturn 78) awake).supply.cs = .watch := by decide +kernel
def watching : State := { brakedDone with supply := { brakedDone.supply with cs := .watch }
                                          time := { brakedDone.time with latch := some ⟨10, 0, 0, true⟩ } }
theorem test_watchWake : (after (.watchWake ⟨1, 0⟩ 32768) watching).supply.cs = .run ∧
    (after (.watchWake ⟨1, 0⟩ 32768) watching).time.tick = 1000010 ∧
    (after (.watchWake ⟨1, 0⟩ 32768) watching).par oDevice Pid.Device.WAKE_CAUSE = 1 := by decide +kernel
theorem test_watchWake_no_latch : (after (.watchWake ⟨1, 16⟩ 32768) watching).time.tick = 0 ∧
    (after (.watchWake ⟨1, 16⟩ 32768) watching).par oDevice Pid.Device.TICK_SOURCE = 3 := by decide +kernel
def watchingCeiling : State := { watching.setPar oDevice Pid.Device.TICK_CEILING 7000 with
  time := { watching.time with ceilingWritten := true } }
theorem test_watchWake_ceiling : (after (.watchWake ⟨1, 16⟩ 32768) watchingCeiling).time.tick = 7001 ∧
    (after (.watchWake ⟨1, 16⟩ 32768) watchingCeiling).par oDevice Pid.Device.TICK_SOURCE = 2 := by decide +kernel
def wakeTimed : State := watching.setPar oDevice Pid.Device.WAKE_TIMER_PERIOD 60
theorem test_aonWakeTimer : (∃ l, wakeTimed.time.latch = some l ∧
      exec .aonWakeTimer wakeTimed = .next (wakeTimed.draw.2.wake 64 (l.aon + 1966080) (BitVec.ofInt 5 wakeTimed.draw.1))) ∧
    (wakeTimed.draw.2.wake 64 1966080 0).time.tick = 60000010 ∧ (wakeTimed.draw.2.wake 64 1966080 16).time.tick = 0 ∧
    (wakeTimed.draw.2.wake 64 1966080 0).par oDevice Pid.Device.WAKE_CAUSE = 64 :=
  ⟨⟨⟨10, 0, 0, true⟩, rfl, rfl⟩, by decide +kernel⟩
def inReset : State := { base with supply := { base.supply with cs := .reset } }
def bootIn (r : Bool) : BootIn := { addr := 3, recoveryN := r, aonElapsed := 0, aonValid := true, retentionBad := 0 }
def bootSeen : State :=
  let u := inReset.bootJournal.bootTrialFailed
  u.dropBanks u.badBanks
theorem test_controlSideBoot : bootSeen.bootBank = some 0 ∧ bootSeen.par oUpdater Pid.Updater.TRIAL_FAILS < 2 ∧
    (after (.controlSideBoot (bootIn true)) inReset).supply.cs = .run ∧
    (after (.controlSideBoot (bootIn true)) inReset).shelfState = ssStartup := by decide +kernel
theorem test_controlSideBoot_rom : (after (.controlSideBoot (bootIn false)) inReset).supply.cs = .rom ∧
    (after (.controlSideBoot (bootIn false)) inReset).par (oPort .hb) Pid.HPort.PRIMARY_ADDR = 0x5B := by decide +kernel
theorem test_l3Restart : base.running = true ∧ (after (.l3Restart 1) base).miller.restarting = true ∧
    (after (.l3Restart 1) base).par oDevice Pid.Device.L3_RESTART_CAUSE = 1 ∧
    (after (.l3Restart 1) base).par oDevice Pid.Device.L3_RESTART_COUNT = 1 := by decide
theorem test_l3RestartEnd : (after .l3RestartEnd (after (.l3Restart 1) base)).miller.restarting = false := by decide
def twoPages : State := { base with nvm := { base.nvm with active := some (⟨.config, .triggers, 2, none, 0⟩, 2) } }
theorem test_nvmPageProgram : base.mramOn = true ∧ (after .nvmPageProgram twoPages).nvm.active.map (·.2) = some 1 ∧
    (after .nvmPageProgram saving).supply.savePages = 1 := by decide
def committing (w : NvmWork) : State :=
  let s := pars [(oFeeder 1, Pid.PRIORITY, 2), (oRail 1, Pid.Rail.ON_DELAY, 7)] base
  { s with nvm := { s.nvm with active := some (⟨.config, w, 1, none, 0⟩, 1) } }
theorem test_nvmTransactionCommit : (after .nvmTransactionCommit (committing .tickRecord)).par oDevice Pid.Device.TICK_CEILING = 3600000000 ∧
    (after .nvmTransactionCommit (committing .tickRecord)).par oDevice Pid.Device.NVM_WRITE_COUNT = 1 ∧
    (after .nvmTransactionCommit (committing .tickRecord)).nvm.active = none := by decide
theorem test_nvmTransactionCommit_config :
    lookupKey (keyOf (oRail 1) Pid.Rail.ON_DELAY) (after .nvmTransactionCommit (committing (.configObjects [oRail 1]))).nvm.config =
      some 7 := by decide
def blockSession : State :=
  { pars [(oUpdater, Pid.Updater.UPD_STATE, upOPEN)] base with
    upd := { base.upd with bundleLen := 2048, target := 1 }
    nvm := { base.nvm with active := some (⟨.update, .block 0 [5, 6], 1, none, 0⟩, 1) } }
theorem test_block_commit : blockSession.updState = upOPEN ∧ blockSession.placeOf 1 = some (bankBase 1 + 1) ∧
    mramRead (after .nvmTransactionCommit blockSession).nvm.mram (bankBase 1 + 1) = 6 ∧
    mramRead (after .nvmTransactionCommit blockSession).nvm.mram (bankBase 1 + 2) = 0 := by decide +kernel
def cholding : State := { base with supply := { base.supply with cholds := true } }
theorem test_choldTest_least : (after (.choldTest 4 6) cholding).par oDevice Pid.Device.CHOLD_MEASURED = 4000000000 := by decide
theorem test_choldTest : (after (.choldTest 40 45) cholding).par oDevice Pid.Device.CHOLD_MEASURED = 470588235 ∧
    (after (.choldTest 40 45) cholding).supply.cholds = false := by decide
theorem test_choldTestDue : (after .choldTestDue base).nvm.queue.any (fun q => q.work == .choldTest) = true := by decide

/-! ## Sensing and metering -/

def smp (code : BitVec 14) (nv : Int) : Sample := ⟨code, nv⟩
-- F0 at 0.25 mOhm: 0.5 mV is 2 A = 20 000 of 100 uA; 48 V on its segment
def metering (pos : Nat) : State :=
  let s := base.modSeg 0 fun a => { a with chan := { a.chan with value := 4800000 } }
  (pars [(oFeeder 0, pSenseRnom, 250000), (oFeeder 0, Pid.Feeder.E_OUT, 9223372036854775807)] s).modFeeder 0 fun a =>
    { a with acc := { a.acc with pos := pos } }
theorem test_sarRoundSlot : slotObj false 1 = oFeeder 0 ∧ (metering 0).supply.psdOk = true ∧ (metering 0).linkUp = true ∧
    (metering 0).feederSeg 0 = 0 ∧ ((metering 0).seg 0).chan.fail = false ∧ (metering 0).calibrate (oFeeder 0) 500000 = 20000 ∧
    ((after (.sarRoundSlot false 1 (smp 100 500000)) (metering 0)).feeder 0).chan.fail = false ∧
    (after (.sarRoundSlot false 1 (smp 100 500000)) (metering 0)).par (oFeeder 0) Pid.Feeder.E_OUT = 9223372036854775807 ∧
    ((after (.sarRoundSlot false 1 (smp 100 500000)) (metering 0)).feeder 0).acc.pos = 192000000000 := by decide
-- R53: the counter passes from its top to 0
theorem test_energy_wraps :
    (after (.sarRoundSlot false 1 (smp 100 500000)) (metering 900000000000)).par (oFeeder 0) Pid.Feeder.E_OUT = 0 ∧
    ((after (.sarRoundSlot false 1 (smp 100 500000)) (metering 900000000000)).feeder 0).acc.pos = 92000000000 := by decide
def checkedOnce : State :=
  (pars [(oPhase 3, Pid.ENABLE, 1)] base).modPhase 3 fun a =>
    { a with switching := true, chan := { a.chan with failRun := 1 } }
theorem test_sarSelfCheck : checkedOnce.wheelRuns = true ∧ (checkedOnce.phase 3).chan.fail = false ∧
    ((after (.sarSelfCheck (.phase 3) false) checkedOnce).phase 3).chan.check = true ∧
    (after (.sarSelfCheck (.phase 3) false) checkedOnce).objSt (oPhase 3) = osFailed ∧
    ((after (.sarSelfCheck (.phase 3) false) checkedOnce).phase 3).switching = false := by decide
theorem test_sarSelfCheck_pass : ((after (.sarSelfCheck (.phase 3) true) checkedOnce).phase 3).chan.check = false ∧
    ((after (.sarSelfCheck (.phase 3) true) checkedOnce).phase 3).switching = true := by decide
def fullConverter : State :=
  pars [(oPhase 3, Pid.Phase.F_PWM, 4000000), (oPhase 9, Pid.Phase.F_PWM, 4000000), (oPhase 9, Pid.ENABLE, 1)]
    (checkedOnce.modPhase 9 fun a => { a with switching := true })
theorem test_sarSelfCheck_replaces : fullConverter.checkReplaces 3 = true ∧ fullConverter.otherReplaced 3 = false ∧
    ((after (.sarSelfCheck (.phase 3) true) fullConverter).phase 3).replaced = true ∧
    (after (.sarSelfCheck (.phase 3) true) fullConverter).otherReplaced 9 = true ∧
    (after (.sarSelfCheck (.phase 3) true) fullConverter).checkReplaces 9 = true := by decide
theorem test_sarSelfCheck_round : ((after (.sarSelfCheck (.feeder 0) true)
    (base.modFeeder 0 fun a => { a with chan := { a.chan with value := 7 } })).feeder 0).chan.sum = 7 := by decide
theorem test_sampleRequest : checkedOnce.psdPowered = true ∧
    (after (.sampleRequest 3 125) checkedOnce).bit (oPhase 3) pSenseStatus ssSKEW = true ∧
    (after (.sampleRequest 3 124) checkedOnce).bit (oPhase 3) pSenseStatus ssSKEW = false := by decide
theorem test_trackingWindowEnd_string : base.miller3 = true ∧ base.supply.psdOk = true ∧ base.linkUp = true ∧
    vget base.wheel.dsSpoilt (meterIx (.stringVoltage 1)) false = false ∧
    (after (.trackingWindowEnd (.stringVoltage 1) 50000000000 0 99000000000) base).par (oString 1) Pid.String.V_METER = 5000000 := by decide
-- means of 4 000 400 and 4 000 000: the gain moves a quarter of 100 ppm
def metered (v : Int) : State := base.modSeg 0 fun a => { a with chan := { a.chan with wsum := 3 * v, wn := 3 } }
theorem test_trackingWindowEnd : (metered 4000000).windowSpoilt (oSeg 0) 40004000000 40004000000 = false ∧ base.fullScale (oSeg 0) = 8000000 ∧
    ((metered 4000000).sarMean (oSeg 0)).1 = 4000000 ∧ (metered 4000000).calibrateMeter (oSeg 0) 40004000000 = 4000400 ∧
    vget (metered 4000000).wheel.dsSpoilt (meterIx (.bus 0)) false = false ∧
    (after (.trackingWindowEnd (.bus 0) 40004000000 40004000000 40004000000) (metered 4000000)).par (oSeg 0) pGainTrack = 1073768668 := by decide
-- the gain moves by more than 0.5 %
theorem test_trackingWindowEnd_limit :
    (after (.trackingWindowEnd (.bus 0) 41000000000 41000000000 41000000000) (metered 4000000)).bit (oSeg 0) pSenseStatus ssTRACK_LIMIT = true ∧
    ((after (.trackingWindowEnd (.bus 0) 41000000000 41000000000 41000000000) (metered 4000000)).seg 0).chan.frozen = true := by decide
-- a small mean moves the offset, by a quarter of 400
theorem test_trackingWindowEnd_offset :
    (after (.trackingWindowEnd (.bus 0) 999600000 999600000 999600000) (metered 100360)).par (oSeg 0) pOffsetTrack = 100 ∧
    (after (.trackingWindowEnd (.bus 0) 0 0 0) (metered 200000)).bit (oSeg 0) pSenseStatus ssTRACK_LIMIT = true := by decide
def tracked : State := base.setPar (oSeg 0) pGainTrack 1073768668
theorem test_trackingJournal : tracked.trackMoved (oSeg 0) = true ∧ base.trackMoved (oSeg 0) = false ∧
    ((after (.trackingJournal (.segment 0)) tracked).nvm.queue.any fun q => q.work == .tracking (oSeg 0)) = true := by decide
theorem test_no_accumulation : ({ metering 0 with supply := { (metering 0).supply with cs := .saving } } : State).accumulates = false ∧
    (metering 0).accumulates = true := by decide
theorem test_energyJournal : ((after .energyJournal base).nvm.queue.any fun q => q.work == .counters) = true := by decide

/-! ## The engine -/

-- a 3P3Z image whose law is u = 2 e: C0 = 2.0 in Q4.28 at offset 4, limits 0 and 0.5 at 32 and 36
def image : Bytes :=
  [0, 0, 0, 0, 0, 0, 0, 0x20] ++ List.replicate 24 0 ++ [0, 0, 0, 0] ++ [0, 0, 0, 0x20] ++ List.replicate 12 0
theorem test_evalLaw : imgUMin image = 0 ∧ imgUMax image = 536870912 ∧ imgPid image = false ∧
    (evalLaw image (base.loop 0) 100 false).u = 200 ∧ (evalLaw image (base.loop 0) (-1) false).u = 0 ∧
    (evalLaw image (base.loop 0) 400000000 false).u = 536870912 ∧ dutyOf 200 = 800 ∧ dutyOf (-5) = 0 ∧
    dutyOf 1073741824 = 4294967292 := by decide
def pidImage : Bytes := [1] ++ image.drop 1
theorem test_evalLaw_pid : imgPid pidImage = true ∧ imgUMin pidImage ≤ imgUMax pidImage ∧
    (evalLaw pidImage (base.loop 0) 100 true).u = 200 := by decide
-- OL0 measures B0, P0 and P1 follow it and switch
def cascade : State :=
  let s := pars ([(oOuter 0, Pid.ENABLE, 1), (oOuter 0, Pid.Loop.MEAS_OBJECT, 4), (oOuter 0, Pid.Loop.N_NOM, 2),
    (oOuter 0, Pid.Loop.SAMPLE_COUNT, 4294967295), (oOuter 0, Pid.Loop.RATE_DIV, 1), (oSeg 0, Pid.ENABLE, 1)] ++
    [0, 1].flatMap fun p => [(oPhase p, Pid.ENABLE, 1), (oPhase p, Pid.Phase.OUTER_SOURCE, 8),
      (oPhase p, Pid.Phase.F_PWM, 500000), (oPhase p, Pid.Phase.I_LIMIT, 100000), (oPhase p, Pid.Phase.SENSE_RNOM, 500000)]) base
  let s := [0, 1].foldl (fun s p => s.modPhase p fun a => { a with switching := true, shadow := 4000000000 }) s
  let s := s.modSeg 0 fun a => { a with chan := { a.chan with value := 4000000 } }
  [0, 1, 24].foldl (fun s n => s.modLoop n fun a => { a with bank0 := some image, running := true }) s
theorem test_outerTrigger : cascade.wheelRuns = true ∧ cascade.actPhases 0 = [0, 1] ∧ cascade.lane 2 = 0 ∧ cascade.loopSeg 0 = 0 ∧
    cascade.objSt (oOuter 0) ≠ osFailed ∧
    (after (.outerTrigger 0 2 true) cascade).par (oOuter 0) Pid.Loop.SAMPLE_COUNT = 0 ∧
    (after (.outerTrigger 0 2 true) cascade).par (oOuter 0) Pid.Phase.LOOP_MEAS = 536870912 := by decide
theorem test_outerTrigger_residue : (after (.outerTrigger 0 2 false) cascade).lane 2 = 2 ∧
    (after (.outerTrigger 0 2 false) cascade).par oDevice Pid.Device.RESIDUE_ERRORS = 1 ∧
    0 ≤ cascade.par oDevice Pid.Device.LANE_STATUS := by decide
-- 10 mV over 0.5 mOhm is 20 A; full scale is 100 A at 50 mV
theorem test_innerEvaluation : (cascade.phase 1).switching = true ∧ cascade.swapDue 1 = false ∧ (cascade.loop 1).slow = false ∧
    cascade.calibrate (oPhase 1) 10000000 = 200000 ∧ cascade.fsCurrent 1 = 1000000 ∧
    ((cascade.phase 1).chan.sample false true 900 200000 4000000000).fail = false ∧
    ((after (.innerEvaluation 1 (smp 900 10000000) 0 240 true) cascade).phase 1).current = 200000 ∧
    (after (.innerEvaluation 1 (smp 900 10000000) 0 240 true) cascade).par (oPhase 1) Pid.Phase.LOOP_MEAS = 214748365 ∧
    (after (.innerEvaluation 1 (smp 900 10000000) 0 240 true) cascade).par oDevice Pid.Device.MAX_LATENCY = 240 := by decide +kernel
def replacedOnce : State := cascade.modPhase 1 fun a => { a with replaced := true, current := 300000 }
theorem test_innerEvaluation_replaced : ((after (.innerEvaluation 1 (smp 900 10000000) 0 240 true) replacedOnce).phase 1).current = 300000 ∧
    (after (.innerEvaluation 1 (smp 900 10000000) 0 240 true) replacedOnce).par (oPhase 1) Pid.Phase.LOOP_REF = replacedOnce.innerRef 1 := by
  decide
theorem test_innerEvaluation_residue : (after (.innerEvaluation 1 (smp 900 10000000) 1 240 false) cascade).lane 1 = 2 ∧
    (after (.innerEvaluation 1 (smp 900 10000000) 1 240 false) (cascade.setLane 1 3)).par oDevice Pid.Device.LATE_EVALS = 1 := by decide
def slowed : State := (cascade.modLoop 1 fun a => { a with slow := true }).modPhase 1 fun a => { a with floatRun := 3 }
theorem test_innerEvaluation_slow : ((after (.innerEvaluation 1 (smp 900 10000000) 0 240 true) slowed).phase 1).current = 200000 ∧
    (after (.innerEvaluation 1 (smp 900 10000000) 0 240 true) slowed).par (oPhase 1) Pid.Phase.SAMPLE_COUNT = 0 := by decide
-- R56: the fourth sample in a row at the end of its range
def railing : State := cascade.modPhase 1 fun a => { a with chan := { a.chan with rangeRun := 3 } }
theorem test_innerEvaluation_fails : ((railing.phaseSample 1 (smp 16383 10000000)).phase 1).chan.fail = true ∧
    (railing.phase 1).chan.fail = false ∧
    ((after (.innerEvaluation 1 (smp 16383 10000000) 0 240 true) railing).phase 1).switching = false ∧
    (after (.innerEvaluation 1 (smp 16383 10000000) 0 240 true) railing).objSt (oPhase 1) = osFailed := by decide +kernel
def limited : State := pars [(oPhase 0, Pid.Phase.D_MIN, 5), (oPhase 0, Pid.Phase.D_MAX, 3000000000)] cascade
theorem test_pwmPeriodStart : limited.linkUp = true ∧ limited.psdPowered = true ∧
    ((after (.pwmPeriodStart 0) limited).phase 0).duty = 3000000000 ∧
    ((after (.pwmPeriodStart 0) limited).phase 0).periods = 1 := by decide
def soft : State := cascade.modPhase 1 fun a => { a with switching := false, wait := some .soft }
theorem test_pwmPeriodStart_soft : (soft.phase 1).wait = some .soft ∧
    ((after (.pwmPeriodStart 1) soft).phase 1).switching = true := by decide
def loneWait : State :=
  let s := (pars [(oPhase 1, Pid.Phase.OUTER_SOURCE, 0xFF)] cascade).modPhase 1 fun a => { a with switching := false }
  { s with shelf := { s.shelf with configApplied := true } }
theorem test_pwmPeriodStart_lone : loneWait.loneReady 1 = true ∧ ((after (.pwmPeriodStart 1) loneWait).phase 1).softStart = true := by decide
def regroup : State := (cascade.modPhase 0 fun a => { a with shed := true }).modPhase 1 fun a =>
  { a with switching := false, wait := some .reef }
theorem test_groupBoundary : regroup.group 500000 = [0, 1] ∧ ((after (.groupBoundary 500000) regroup).phase 0).reefed = true ∧
    ((after (.groupBoundary 500000) regroup).phase 1).switching = true ∧
    (after (.groupBoundary 500000) cascade).par (oPhase 1) Pid.Phase.ANGLE_NOW = 32768 := by decide
def noticed : State := cascade.modPhase 1 fun a => { a with notice := true }
theorem test_phaseFailNotice : noticed.miller3 = true ∧ ((after (.phaseFailNotice 1) noticed).phase 1).notice = false ∧
    (after (.phaseFailNotice 1) noticed).par (oPhase 1) Pid.Phase.FAIL_COUNT = 1 := by decide
def syncing (st : Int) : State :=
  let s := pars [(oDevice, Pid.Device.SYNC_ENABLE, 1), (oDevice, Pid.Device.SYNC_NOMINAL, 500000),
    (oDevice, Pid.Device.SYNC_STATUS, st)] cascade
  { s with wheel := { s.wheel with syncPeriod := fineTicks 505000 } }
theorem test_syncinEdge_acquires :
    let s := { syncing 0 with wheel := { (syncing 0).wheel with syncEdges := 15 } }
    (after (.syncinEdge 505000 9) s).par oDevice Pid.Device.SYNC_STATUS = 1 ∧
    (after (.syncinEdge 560000 0) s).wheel.syncMisses = 1 := by decide
theorem test_syncinEdge : (syncing 1).syncOn = true ∧
    (after (.syncinEdge 505000 1) (syncing 1)).par oDevice Pid.Device.SYNC_FREQ = 505000 ∧
    (after (.syncinEdge 505000 1) (syncing 1)).par oDevice Pid.Device.SYNC_STATUS = 2 ∧
    (after (.syncinEdge 505000 1) (syncing 1)).wheel.syncEdges = 1 := by decide
def missing1 : State := { syncing 2 with wheel := { (syncing 2).wheel with syncMisses := 1 } }
theorem test_syncinMissing : missing1.syncOn = true ∧ (after .syncinMissing missing1).par oDevice Pid.Device.SYNC_STATUS = 3 ∧
    (after .syncinMissing missing1).par oDevice Pid.Device.SYNC_LOSS_COUNT = 1 := by decide
def swapJob (m : Nat) (l : List Nat) : SwapJob := ⟨none, 0, m, 24, false, false, l⟩
def swapping (m : Nat) (l : List Nat) : State := { cascade with wheel := { cascade.wheel with swaps := [swapJob m l] } }
theorem test_swapRegistration_idle : (swapping 0 [0, 5]).evaluating 5 = false ∧ (swapping 0 [0, 5]).evaluating 0 = true ∧
    (after .swapRegistration (swapping 0 [0, 5])).par (oLoop 5) Pid.Phase.ACTIVE_BANK = 1 ∧
    (after .swapRegistration (swapping 0 [0, 5])).par (oLoop 0) Pid.Phase.ACTIVE_BANK = 0 := by decide
theorem test_swapRegistration_waits : (swapping 1 [0, 1]).evaluating 24 = true ∧
    (after .swapRegistration (swapping 1 [0, 1])).wheel.swaps = [{ swapJob 1 [0, 1] with registered := true }] := by decide
def loading : State := { cascade with wheel := { cascade.wheel with loads := [⟨none, 1, 2, image⟩] } }
theorem test_bankLoadCommit : loading.miller3 = true ∧ ((after .bankLoadCommit loading).loop 1).float = some image ∧
    (after .bankLoadCommit loading).par (oLoop 1) (loadGenPid 2) = 1 ∧
    ((after .bankLoadCommit loading).nvm.queue.any fun q => q.work == .loopImage 1 1) = true := by decide
def loadLate : State := { (cascade.setPar oDevice Pid.Device.DEVICE_MODE 1) with
  wheel := { cascade.wheel with loads := [⟨some 0, 1, 1, image⟩] }
  hopper := { ops := [⟨0, .ha, 9, 0, 0x31, [], false, .running, 0, false, false⟩], nextId := 1 } }
theorem test_bankLoadCommit_float : loadLate.inFloat = true ∧
    ((after .bankLoadCommit loadLate).port .ha).replies.map (fun x => (x.op, x.status, x.reason)) = [(some 0, stLOCKED, 5)] := by decide
def fluming : State :=
  { cascade with flume := { cascade.flume with running := true, k := 1000000000, payload := List.replicate 20 0, op := some 0 }
                 hopper := { ops := [⟨0, .ha, 9, 0, 0x40, [], false, .running, 0, false, false⟩], nextId := 1 } }
theorem test_flumeEnd : fluming.flumeOver = true ∧ (after .flumeEnd fluming).flume.running = false ∧
    (after .flumeEnd fluming).par oDevice Pid.Device.FLUME_STOP_CAUSE = fcCOMPLETE ∧
    ((after .flumeEnd fluming).port .ha).replies.map (fun x => (x.op, x.status)) = [(some 0, stOK)] := by decide
def tracing : State := base.setPar oDevice Pid.Device.TAILRACE_STATE tsTRIGGERED
theorem test_tailraceDone : tracing.traceState = tsTRIGGERED ∧ tracing.trace.after = 0 ∧
    (after .tailraceDone tracing).traceState = tsDONE := by decide

/-- Phase 0 at 500 kHz with a duty of one quarter: 6400 of 25 600 fine ticks, the dead times 20 ns or 256 ticks (R97, Table 4-3). -/
def quarter (soft : Bool) : State := base.modPhase 0 fun a =>
  { a with switching := true, softStart := soft, duty := 1073741824, shadow := 1073741824, period := 25600 }
theorem test_pwm_edges : (quarter false).pwmA 0 6399 = true ∧ (quarter false).pwmA 0 6400 = false ∧
    (quarter false).pwmB 0 6655 = false ∧ (quarter false).pwmB 0 6656 = true ∧ (quarter false).pwmB 0 25343 = true ∧
    (quarter false).pwmB 0 25344 = false ∧ (quarter true).pwmB 0 7000 = false ∧ base.pwmA 0 0 = false := by decide
-- SYNCOUT follows the group of the lowest-numbered enabled phase, rises at angle 0 and falls half a period later (R104)
def syncing0 (on : Int) (v : Int) : State :=
  pars [(oDevice, Pid.Device.SYNCOUT_ENABLE, on), (oPhase 3, Pid.ENABLE, 1)] (inShelf v)
theorem test_syncout : (syncing0 1 ssNormal).syncout 12799 = true ∧ (syncing0 1 ssNormal).syncout 12800 = false ∧
    (syncing0 0 ssNormal).syncout 0 = false ∧ (syncing0 1 ssThermal).syncout 0 = false := by decide

/-! ## Segments -/

def startable : State :=
  let s := pars [(oSeg 0, Pid.Segment.V_FAST, 1200000), (oOuter 0, Pid.Loop.SETPOINT_TARGET, 4800000),
    (oSeg 0, Pid.Segment.HICCUP_ATTEMPTS, 1)] cascade
  let s := [0, 1].foldl (fun s p => s.modPhase p fun a => { a with switching := false }) s
  { s.setObj (oSeg 0) osWaiting with shelf := { s.shelf with configApplied := true } }
theorem test_segmentStart : startable.segMayStart 0 = true ∧ startable.phaseReady 1 = true ∧ startable.loopsOfSeg 0 = [0] ∧
    (after (.segmentStart 0) startable).objSt (oSeg 0) = osStarting ∧
    (after (.segmentStart 0) startable).par (oOuter 0) Pid.Loop.SETPOINT_NOW = 1200000 ∧
    ((after (.segmentStart 0) startable).phase 1).wait = some .soft := by decide
def ramped : State := pars [(oSeg 0, Pid.Segment.V_FAST, 4790000), (oOuter 0, Pid.Loop.SETPOINT_NOW, 4800000)]
  (startable.setObj (oSeg 0) osStarting)
theorem test_segmentActive : ramped.enabled (oSeg 0) = true ∧ (after (.segmentActive 0) ramped).objSt (oSeg 0) = osActive ∧
    (after (.segmentActive 0) ramped).par (oSeg 0) Pid.Segment.HICCUP_ATTEMPTS = 0 := by decide
def offTime : State := startable.modSeg 0 fun a => { a with offTime := true }
theorem test_hiccupOffTimeEnd : (offTime.modSeg 0 fun a => { a with offTime := false }).segMayStart 0 = true ∧
    (after (.hiccupOffTimeEnd 0) offTime).objSt (oSeg 0) = osStarting := by decide
def under (n : Int) : State := pars [(oSeg 0, Pid.Segment.SEG_UV, 4000000), (oSeg 0, Pid.Segment.V_FAST, 3900000),
  (oSeg 0, Pid.Segment.HICCUP_ATTEMPTS, n)] (cascade.setObj (oSeg 0) osActive)
theorem test_runUndervolt : (under 1).segRuns 0 = true ∧ (under 1).miller3 = true ∧
    (after (.runUndervolt 0) (under 1)).objSt (oSeg 0) = osWaiting ∧
    (after (.runUndervolt 0) (under 1)).par (oSeg 0) Pid.Segment.HICCUP_ATTEMPTS = 2 ∧
    ((after (.runUndervolt 0) (under 1)).phase 0).switching = false := by decide
theorem test_runUndervolt_latch : (after (.runUndervolt 0) (under 2)).objSt (oSeg 0) = osLatched ∧
    (after (.runUndervolt 0) (under 2)).bit (oSeg 0) Pid.FAULT_LATCH flHiccupLimit = true := by decide
def overBus : State := pars [(oSeg 0, Pid.Segment.SEG_OV, 3999999)] (cascade.setObj (oSeg 0) osActive)
theorem test_overvolt : overBus.segRuns 0 = true ∧ overBus.wheelRuns = true ∧
    (after (.overvolt 0) overBus).par (oSeg 0) Pid.Segment.HICCUP_TOTAL = 1 ∧
    ((after (.overvolt 0) overBus).seg 0).offTime = true := by decide

/-! ## Feeders, strings and comparators -/

def ins0 : Vector FeederIn 16 := Vector.ofFn fun f => ⟨if f.val = 2 then 30 else 0, false, if f.val = 2 then 24500 else 24499, f.val = 2⟩
-- 25 A over 1 mOhm is 25 mV, of which 98 % is 24.5 mV
def gates23 : State := [2, 3].foldl (fun s f => (pars [(oFeeder f, pSenseRnom, 1000000), (oFeeder f, Pid.Feeder.I_LIMIT, 250000)] s).modFeeder f
  fun a => { a with gate := true }) base
theorem test_sluiceTick : gates23.sluiceRuns = true ∧ gates23.tickCounts = true ∧ (after (.sluiceTick ins0) gates23).time.tick = 1 ∧
    ((after (.sluiceTick ins0) gates23).feeder 2).vds = 30 ∧ ((after (.sluiceTick ins0) gates23).feeder 2).cl = true ∧
    ((after (.sluiceTick ins0) gates23).feeder 3).cl = false ∧ ((after (.sluiceTick ins0) base).feeder 2).cl = false ∧
    ((after (.sluiceTick ins0) gates23).feeder 2).seatLow = 1 := by decide +kernel
def reseating : State := ((base.modFeeder 1 fun a => { a with reseat := true }).setObj (oFeeder 1) osLatched).setPar
  (oFeeder 1) Pid.FAULT_LATCH 7
theorem test_seatStable : ((after (.seatStable 1) reseating).feeder 1).seated = true ∧ reseating.objSt (oFeeder 1) = osLatched ∧
    (after (.seatStable 1) reseating).par (oFeeder 1) Pid.FAULT_LATCH = 0 ∧
    ((after (.seatStable 1) reseating).feeder 1).reseat = false := by decide
def feeding (st : Int) : State := (pars [(oFeeder 1, Pid.ENABLE, 1), (oFeeder 1, Pid.Feeder.OV_WINDOW, 5000000), (oFeeder 1, Pid.Feeder.UV_WINDOW, 0),
  (oFeeder 1, Pid.Feeder.I_LIMIT, 100000), (oFeeder 1, Pid.Feeder.IT_ENABLE, 1), (oFeeder 1, Pid.Feeder.SOA_BUDGET, 3),
  (oFeeder 1, Pid.Feeder.FAULT_TIME, 100)] (base.setObj (oFeeder 1) st)).modFeeder 1 fun a =>
    { a with gate := true, seated := true, seatHigh := 0, low := true, curve := [(100000, 10)] }
theorem test_seatOpen : (feeding osActive).feederOn 1 = true ∧ ((feeding osActive).feeder 1).seatHigh < 20 ∧
    ((after (.seatOpen 1) (feeding osActive)).feeder 1).gate = false ∧
    (after (.seatOpen 1) (feeding osActive)).objSt (oFeeder 1) = osWaiting ∧
    (after (.seatOpen 1) (feeding osActive)).par (oFeeder 1) Pid.Feeder.SEAT_EVENTS = 1 := by decide
theorem test_seatOpen_latched : (after (.seatOpen 1) (feeding osLatched)).objSt (oFeeder 1) = osLatched ∧
    ((after (.seatOpen 1) (feeding osLatched)).feeder 1).reseat = true := by decide
def inserting : State := ((feeding osWaiting).setPar (oFeeder 1) Pid.Feeder.INSERT_DELAY 1000).modFeeder 1 fun a =>
  { a with gate := false, serve := true }
theorem test_insertDelay : (inserting.feeder 1).low = true ∧ inserting.windowsNow 1 = true ∧
    (inserting.modFeeder 1 fun a => { a with windowOk := true, insertRun := 1000 }).feederReady 1 = true ∧
    (inserting.consF 1).masked = false ∧
    (after (.insertDelay 1) inserting).objSt (oFeeder 1) = osStarting ∧
    ((after (.insertDelay 1) inserting).feeder 1).gate = true := by decide
theorem test_faultTimer : (after (.faultTimer 1) (feeding osActive)).objSt (oFeeder 1) = osLatched ∧
    (after (.faultTimer 1) (feeding osActive)).bit (oFeeder 1) Pid.FAULT_LATCH flFaultTimer = true ∧
    ((after (.faultTimer 1) (feeding osActive)).feeder 1).timer = 1600 := by decide
theorem test_soa : (after (.soa 1) (feeding osActive)).bit (oFeeder 1) Pid.FAULT_LATCH flSoa = true ∧
    ((after (.soa 1) (feeding osActive)).feeder 1).soa = 96000 := by decide
def highBus : State := (feeding osActive).modSeg 0 fun a => { a with chan := { a.chan with value := 5000001 } }
theorem test_ovQualify : highBus.feederSeg 1 = 0 ∧ (after (.ovQualify 1) highBus).objSt (oFeeder 1) = osLatched ∧
    (after (.ovQualify 1) highBus).bit (oFeeder 1) Pid.FAULT_LATCH flOverVoltage = true := by decide
theorem test_itCurve : (after (.itCurve 1) (feeding osActive)).bit (oFeeder 1) Pid.FAULT_LATCH flItCurve = true ∧
    (after (.itCurve 1) (feeding osActive)).par (oFeeder 1) Pid.Feeder.TRIP_TOTAL = 1 := by decide
theorem test_startTimeout : (feeding osStarting).feederStarting 1 = true ∧
    (after (.startTimeout 1) (feeding osStarting)).bit (oFeeder 1) Pid.FAULT_LATCH (flType 3) = true := by decide
theorem test_fastTrip : (feeding osActive).psdPowered = true ∧ (feeding osActive).compFailed (oFeeder 1) false = false ∧
    ((after (.fastTrip 1 ⟨true, false⟩ none) (feeding osActive)).feeder 1).gate = false ∧
    ((after (.fastTrip 1 ⟨true, false⟩ none) (feeding osActive)).feeder 1).weir.latchA = true ∧
    ((after (.fastTrip 1 ⟨true, false⟩ (some false)) (feeding osActive)).feeder 1).gate = true ∧
    ((after (.fastTrip 1 ⟨true, true⟩ (some false)) (feeding osActive)).feeder 1).weir.latchB = true := by decide
def weirSet : State := (feeding osActive).modFeeder 1 fun a => { a with weir := { a.weir with latchB := true } }
-- R174: two causes in one tick
theorem test_trip_with_latch : (after (.faultTimer 1) weirSet).bit (oFeeder 1) Pid.FAULT_LATCH flFaultTimer = true ∧
    (after (.faultTimer 1) weirSet).bit (oFeeder 1) Pid.FAULT_LATCH flFastTrip = true ∧
    (after (.seatOpen 1) weirSet).objSt (oFeeder 1) = osLatched := by decide
def stringy (st : Int) : State := pars [(oString 1, Pid.ENABLE, 1), (oString 1, Pid.String.MODULE_COUNT, 2),
  (oString 1, Pid.String.V_METER, 5000000), (oString 1, Pid.String.CHG_I_MAX, 90000),
  (oString 1, Pid.String.CHARGE_GRANT, 70000), (oString 1, Pid.String.TRUST, 1)] (base.setObj (oString 1) st)
theorem test_stringConnect : (stringy osWaiting).mayConnect 1 = true ∧
    (after (.stringConnect 1) (stringy osWaiting)).objSt (oString 1) = osStarting := by decide
def closing : State := ((stringy osStarting).modSeg 0 fun a => { a with chan := { a.chan with value := 5029999 } }).modModule 16
  fun a => { a with vrc1 := 5 }
theorem test_stringSwitchTick : closing.switchClose 1 = true ∧ closing.stringStarting 1 = true ∧ closing.modulesOf 1 = [16, 17] ∧
    (after (.stringSwitchTick 1 true 0) closing).objSt (oString 1) = osActive ∧
    ((after (.stringSwitchTick 1 true 0) closing).module 16).vrc1 = 0 := by decide
def stringOnState : State := (stringy osActive).modStr 1 fun a => { a with connected := true, chan := { a.chan with value := -5 } }
theorem test_stringSwitchTick_regulates : stringOnState.stringStarting 1 = false ∧
    (after (.stringSwitchTick 1 true 0) stringOnState).par (oString 1) Pid.String.CHARGE_LIMIT_APPLIED = 70000 ∧
    ((after (.stringSwitchTick 1 true 0) stringOnState).str 1).enhanced = true := by decide
def stringLatch : State := stringOnState.modStr 1 fun a => { a with weir := { a.weir with latchA := true } }
theorem test_stringSwitchTick_trip : stringLatch.stringOn 1 = true ∧
    (after (.stringSwitchTick 1 true 0) stringLatch).objSt (oString 1) = osLatched ∧
    (after (.stringSwitchTick 1 true 0) stringLatch).bit (oString 1) Pid.FAULT_LATCH flFastTrip = true := by decide
theorem test_connectTimeout : (after (.connectTimeout 1) (stringy osStarting)).objSt (oString 1) = osLatched ∧
    (after (.connectTimeout 1) (stringy osStarting)).par (oString 1) Pid.String.TRIP_TOTAL = 1 := by decide
theorem test_dischargeReversal : ((after (.dischargeReversal 1) stringOnState).str 1).enhanced = true := by decide
theorem test_stringFastTrip : ((after (.stringFastTrip 1 false true) stringOnState).str 1).connected = false ∧
    ((after (.stringFastTrip 1 false true) stringOnState).str 1).weir.latchB = true := by decide
def proof (ok : Bool) : ProofIn := ⟨ok, 58, ok, ok, 58, ok, false, false⟩
def retrying : State := base.setPar (oFeeder 4) Pid.Feeder.WEIR_PROOF_STATUS 1
def compDown : State := (base.setPar (oFeeder 4) Pid.Feeder.WEIR_PROOF_STATUS 4).modFeeder 4 fun a =>
  { a with weir := { a.weir with passesB := 1 } }
theorem test_weirProof : pairObj 4 = oFeeder 4 ∧ proofPasses (oFeeder 4) (proof true) = true ∧
    proofPasses (oFeeder 4) (proof false) = false ∧
    (after (.weirProof 4 true (proof true)) base).par (oFeeder 4) (delayPid (oFeeder 4) true) = 58 ∧
    (after (.weirProof 4 true (proof false)) base).par (oFeeder 4) (delayPid (oFeeder 4) true) = 0xFFFF ∧
    (after (.weirProof 4 true (proof false)) base).compFailed (oFeeder 4) true = false := by decide
theorem test_weirProof_second : retrying.bit (oFeeder 4) (weirPid (oFeeder 4)) 0 = true ∧
    (after (.weirProof 4 true (proof false)) retrying).compFailed (oFeeder 4) true = true := by decide
theorem test_weirProof_returns : compDown.compFailed (oFeeder 4) true = true ∧
    (after (.weirProof 4 true (proof true)) compDown).compFailed (oFeeder 4) true = false := by decide

/-! ## Heat and Fantail -/

def temps (v : BitVec 16) : Vector (BitVec 16) 16 := Vector.ofFn fun n => if n.val = 3 then v else 1600
theorem test_thermalSample : (after (.thermalSample (temps 1700) 0xFFFF) base).par (oTherm 0) Pid.Thermal.T_NOW = 1600 ∧
    (after (.thermalSample (temps 1700) 0xFFFF) base).par (oTherm 3) Pid.Thermal.T_MAX_SEEN = 1700 ∧
    ((after (.thermalSample (temps 1700) 0xFFF7) base).therm 3).ringOk = false := by decide +kernel
def hotOnce : State := base.modTherm 3 fun a => { a with samples := [latchLevel] }
theorem test_thermalSample_latch : latchLevel = 145 * 128 ∧
    (after (.thermalSample (temps 18560) 0xFFFF) hotOnce).shelf.latched = true ∧
    (after (.thermalSample (temps 18560) 0xFFFF) base).shelf.latched = false := by decide +kernel
theorem test_thermalLatch : base.latchWatches = true ∧ base.shelf.latched = false ∧
    (after (.thermalLatch 3) base).thermalLatched = true ∧
    (after (.thermalLatch 3) base).bit (oTherm 3) Pid.Thermal.THERM_STATUS thLATCH_LEVEL = true := by decide +kernel
def zoned (t : Int) : State := pars [(oTherm 2, Pid.ENABLE, 1), (oTherm 2, Pid.Thermal.ZONE, 5), (oTherm 2, Pid.Thermal.T_CRIT, 7000),
  (oTherm 2, Pid.Thermal.T_WARN, 6000), (oTherm 2, Pid.Thermal.RISE_CRIT, 30000), (oTherm 2, Pid.Thermal.RISE_WARN, 20000),
  (oTherm 2, Pid.Thermal.T_NOW, t)] base
theorem test_zoneCrit : (zoned 7000).zoneSensors 5 = [2] ∧ (zoned 7000).sensorCritical 2 = true ∧ (zoned 7000).zoneOf 5 ≠ 2 ∧
    (after (.zoneCrit 5) (zoned 7000)).zoneOf 5 = 2 ∧
    (after (.zoneCrit 5) (zoned 7000)).seq.brake = some bkTHERMAL ∧ (after (.zoneCrit 5) (zoned 7000)).seq.pfwLow = true := by decide
def warm : State := (zoned 5359).modTherm 2 fun a => { a with warn := true }
theorem test_zoneWarnClear : warm.zoneOf 5 = 1 ∧ warm.sensorCooled 2 = true ∧ (after (.zoneWarnClear 5) warm).zoneOf 5 = 0 := by decide
def aTick : FantailIn := ⟨12345, 4000, true⟩
theorem test_fantailTick : (after (.fantailTick aTick) base).time.tick = 1000 ∧
    (after (.fantailTick aTick) base).par oDevice Pid.Device.VAUX12_NOW = 12300 ∧
    (after (.fantailTick aTick) base).par oFantail Pid.Fantail.TICK_COUNT = 1 := by decide +kernel
theorem test_tickOverrun : (after .tickOverrun base).bit oFantail Pid.Fantail.FANTAIL_STATUS 5 = true ∧
    (after .tickOverrun base).par oFantail Pid.Fantail.OVERRUN_COUNT = 1 := by decide
def supplied (v : Int) (high : Bool) : State :=
  (pars [(oOuter 0, Pid.ENABLE, 1), (oOuter 0, Pid.Loop.MEAS_OBJECT, 4), (oOuter 0, Pid.Loop.SETPOINT_NOW, 4800000),
    (oSeg 0, Pid.Segment.V_FAST, v)] base).modLoop 24 fun a => { a with outHigh := high }
theorem test_inputLost : (supplied 4655000 true).loopsOfSeg 0 = [0] ∧ (supplied 4655000 true).loopStarved 0 0 = true ∧
    (after (.inputLost 0 true) (supplied 4655000 true)).inputLost 0 = true ∧
    (after (.inputLost 0 true) (supplied 4656000 true)).inputLost 0 = false := by decide
def wasLost : State := (supplied 4800000 false).setPar (oSeg 0) Pid.Segment.INPUT_LOST 1
theorem test_inputLost_clears : wasLost.inputLost 0 = true ∧ wasLost.loopFed 0 0 = true ∧
    (after (.inputLost 0 false) wasLost).inputLost 0 = false := by decide
def deferred : State := (pars [(oFeeder 1, Pid.PRIORITY, 3), (oFeeder 1, Pid.SERVICE_STATUS, ouDEFERRED * 1073741824 + 2 * 65536)]
  base).modConsF 1 fun a => { a with requesting := true }
theorem test_deferralLimit : deferred.deferredReason (oFeeder 1) = some 2 ∧ (deferred.consF 1).requesting = true ∧
    deferred.classOf (oFeeder 1) ≠ 0 ∧ (after (.deferralLimit (.feeder 1)) deferred).par (oFeeder 1) Pid.SERVICE_STATUS =
      (ouREFUSED * 1073741824 + 2 * 65536 : Nat) ∧
    ((after (.deferralLimit (.feeder 1)) deferred).consF 1).expired = true := by decide
def oldWrite : NvmReq := ⟨.mirror, .gristMirror, 1, none, 0⟩
def newWrite : NvmReq := ⟨.counters, .counters, 4, none, 10⟩
def writes : State := { base with nvm := { base.nvm with queue := [newWrite, oldWrite] } }
theorem test_deferralLimit_nvm : oldestReq writes.nvm.queue = some oldWrite ∧
    (after (.deferralLimit .nvmWrite) writes).nvm.queue = [newWrite] := by decide
def asking : State := ((pars [(oFeeder 1, Pid.PRIORITY, 3), (oFeeder 2, Pid.PRIORITY, 0)] base).modConsF 1 fun a => { a with requesting := true }).modConsF 2
  fun a => { a with requesting := true }
theorem test_allocate : asking.classOf (oFeeder 2) = 0 ∧ asking.askingFeeders 0 = [2, 1] ∧
    (asking.allocate 0).out.map (fun e => (e.1, e.2.1)) = [(2, true), (1, true)] := by decide

/-! ## Rails, walks, the COG line and the button -/

def railIn (v : Nat) (f : RailAux → RailAux) : State := (pars [(oRail v, Pid.ENABLE, 1)] base).modRail v f
def delaying : State := railIn 2 fun a => { a with delaying := true, pg := true }
theorem test_onDelay : delaying.safeHold = false ∧ ((after (.onDelay 2) delaying).rail 2).en = true ∧
    ((after (.onDelay 2) delaying).rail 2).qualifying = true := by decide
def enOn : State := railIn 2 fun a => { a with en := true, qualifying := true }
theorem test_onDelay_d2 : isD2 16 = true ∧ ((after (.onDelay 16) (railIn 16 fun a => { a with delaying := true })).rail 16).en = true := by
  decide
def pgOn : State := enOn.modRail 2 fun a => { a with pg := true }
theorem test_railQualified : ((after (.railQualified 2 700) pgOn).rail 2).good = true ∧
    (after (.railQualified 2 700) pgOn).par (oRail 2) Pid.Rail.LAST_UP_TIME = 700 := by decide
theorem test_pgTimeout : ((after (.pgTimeout 2) enOn).rail 2).timedOut = true ∧
    (after (.pgTimeout 2) enOn).bit (oRail 2) Pid.Rail.RAIL_STATUS rlNOT_GOOD = true := by decide
def goodRail : State := railIn 2 fun a => { a with en := true, pg := true, good := true }
def goodBraking : State := goodRail.modSeq fun q => { q with brake := some 2 }
theorem test_railPgDrop : goodBraking.brakeSeen = true ∧ goodRail.senseAnalogue 2 = false ∧
    ((after (.railPgDrop ⟨2, 0⟩) goodBraking).rail 2).faulted = true ∧
    (after (.railPgDrop ⟨2, 0⟩) goodBraking).bit (oRail 2) Pid.Rail.RAIL_STATUS rlDOWN_FAIL = true ∧
    (after (.railPgDrop ⟨2, 0⟩) goodRail).par (oRail 2) Pid.Rail.CHATTER_COUNT = 1 ∧
    ((after (.railPgDrop ⟨2, 0⟩) pgOn).rail 2).pg = false ∧ ((after (.railPgDrop ⟨2, 0⟩) pgOn).rail 2).qualifying = true := by decide
-- PG_THRESH of 1.234 5 V compares at 1.23 V: units of 10 µV
def analogue : State := pars [(oRail 2, Pid.Rail.SENSE_MODE, 1), (oRail 2, Pid.Rail.PG_THRESH, 123450),
  (oRail 2, Pid.Rail.DISCHARGE_THRESH, 20000)] (railIn 2 fun a => { a with en := true, discharging := true })
theorem test_analogue : analogue.senseAnalogue 2 = true ∧ analogue.pgAt 2 123001 = true ∧ analogue.pgAt 2 123000 = false ∧
    ((after (.railPgHigh ⟨2, 123001⟩) analogue).rail 2).pg = true ∧ ((after (.railPgHigh ⟨2, 123000⟩) analogue).rail 2).pg = false ∧
    analogue.emptyAt 2 19999 = true ∧ ((after (.railDischarged ⟨2, 19999⟩ 44) analogue).rail 2).discharging = false ∧
    (after (.railDischarged ⟨2, 19999⟩ 44) analogue).par (oRail 2) Pid.Rail.LAST_DOWN_TIME = 44 := by decide
theorem test_railFault : goodRail.brakeSeen = false ∧ goodRail.enabled (oRail 2) = true ∧
    (after (.railFault 2) goodRail).bit (oRail 2) Pid.Rail.RAIL_STATUS rlFAULT = true ∧
    (after (.railFault 2) goodRail).seq.brake = some bkRAIL_FAULT ∧ (after (.railFault 2) goodRail).seq.pfwRunning = true := by decide
def polRail : State := pars [(oRail 16, Pid.Rail.RAIL_POL, 0xB0), (oPol 0, Pid.Pol.POL_ADDR, 0x10), (oDown 2, Pid.ENABLE, 1)]
  (railIn 16 fun a => { a with en := true })
theorem test_railPoll : polRail.polOf 16 = 0 ∧ polRail.polDead 0 = false ∧
    (after (.railPoll 16 (.statusWord 0x0800) 9) polRail).par (oPol 0) Pid.Pol.POL_STATUS_WORD = 2048 ∧
    ((after (.railPoll 16 (.statusWord 0x0800) 9) polRail).rail 16).pg = false ∧
    ((after (.railPoll 16 (.statusWord 0) 9) polRail).rail 16).pg = true := by decide
def drainPol : State := pars [(oRail 16, Pid.Rail.DISCHARGE_THRESH, 20000), (oPol 0, Pid.Pol.VOUT_EXP, -9)]
  (polRail.modRail 16 fun a => { a with en := false, discharging := true })
-- 102 / 512 V is 0.199 21875 V
theorem test_railPoll_vout : linear 102 (-9) 100000 = 19922 ∧
    ((after (.railPoll 16 (.vout 102) 9) drainPol).rail 16).discharging = false ∧
    (after (.railPoll 16 (.vout 102) 9) drainPol).par (oRail 16) Pid.Rail.LAST_DOWN_TIME = 9 ∧
    ((after (.railPoll 16 (.vout 103) 9) drainPol).rail 16).discharging = true := by decide
theorem test_railPoll_failed : (after (.railPoll 16 .operationFailed 9) polRail).par (oPol 0) Pid.Pol.POL_ERRORS = 1 ∧
    (after (.railPoll 16 .failed 9) polRail).bit (oRail 16) Pid.Rail.RAIL_STATUS rlCOMM = true ∧
    (polRail.setPar (oDown 2) Pid.ENABLE 0).polDead 0 = true := by decide
def draining : State := railIn 2 fun a => { a with discharging := true, downOff := true }
theorem test_dischargeTimeout : ((after (.dischargeTimeout 2) draining).rail 2).stuck = true ∧
    ((after (.dischargeTimeout 2) draining).port .hb).alertCause.testBit alFault = true := by decide
def upWalk : State := { pars [(oShelf, Pid.Shelf.SHELF_STATE, ssStartup), (oRail 4, Pid.ENABLE, 1), (oRail 4, Pid.Rail.UP_STATE, 0)] base with
  shelf := { base.shelf with configApplied := true } }
theorem test_powerUpWalkStart : upWalk.restsAt 31 = true ∧ upWalk.seq.walk = .none ∧ upWalk.seq.attached = false ∧
    (after .powerUpWalkStart upWalk).seqState = 0 ∧ (after .powerUpWalkStart upWalk).seq.walk = .up ∧
    ((after .powerUpWalkStart upWalk).rail 4).en = true := by decide
def walking (n : Int) (st : Int) : State := ((pars [(oShelf, Pid.Shelf.SEQ_STATE, n), (oShelf, Pid.Shelf.SEQ_PHASE, sqWORK),
  (oShelf, Pid.Shelf.SHELF_STATE, st)] base).modSeq fun q => { q with walk := if n < 16 then .up else .down, workDone := false })
theorem test_stateWorkFinished : (walking 4 ssStartup).workReady = true ∧
    (after .stateWorkFinished (walking 4 ssStartup)).seqState = 5 ∧
    (walking 15 ssStartup).workReady = true ∧ (after .stateWorkFinished (walking 15 ssStartup)).seqPhase = sqREST := by decide
theorem test_stateWorkFinished_31 : (walking 31 ssBraking).workReady = true ∧
    (after .stateWorkFinished (walking 31 ssBraking)).seq.complete = true ∧
    ((after .stateWorkFinished (walking 31 ssBraking)).nvm.queue.any fun q => q.work == .shutdownCause) = true := by decide
def warned : State := (inShelf ssNormal).modSeq fun q => { q with pfwRunning := true, pfwLow := true, brake := some 2 }
theorem test_pfwTime : (after .pfwTime warned).shelfState = ssBraking ∧ (after .pfwTime warned).seqState = 16 := by decide +kernel
def onLine (n ph : Int) : State := (pars [(oShelf, Pid.Shelf.COG_ENABLE, 1), (oShelf, Pid.Shelf.SEQ_STATE, n),
  (oShelf, Pid.Shelf.SEQ_PHASE, ph)] base).modSeq fun q => { q with attached := true }
theorem test_cogRise : (after .cogRise (onLine 15 sqREADY)).seqPhase = sqREST ∧
    (after .cogRise (onLine 4 sqREADY)).seqState = 5 ∧ (after .cogRise (onLine 4 sqREADY)).seq.holding = true ∧
    (after .cogRise (onLine 4 sqREADY)).par oShelf Pid.Shelf.COG_STEPS = 1 := by decide
theorem test_cogLowEnd : (after (.cogLowEnd 10) (onLine 31 sqREST)).seqState = 0 ∧
    (after (.cogLowEnd 200) (onLine 31 sqREST)).bit oShelf Pid.Shelf.COG_STATUS cgGLITCH = true ∧
    (after (.cogLowEnd 999) (onLine 31 sqREST)).seqState = 31 ∧
    (after (.cogLowEnd 1000) (onLine 31 sqREST)).bit oShelf Pid.Shelf.COG_STATUS cgRESET_SEEN = true := by decide
theorem test_cogPulseEnd : (after .cogPulseEnd ((onLine 9 sqREST).modSeq fun q => { q with pulse := .reset })).seqState = 0 ∧
    (after .cogPulseEnd ((onLine 31 sqREST).modSeq fun q => { q with pulse := .request })).seqState = 0 := by decide
theorem test_cogHoldMax : (after .cogHoldMax ((onLine 9 sqWORK).modSeq fun q => { q with holding := true })).seqPhase = sqREADY ∧
    (after .cogHoldMax ((onLine 9 sqWORK).modSeq fun q => { q with holding := true })).bit oShelf Pid.Shelf.COG_STATUS cgHOLD_LIMIT = true := by
  decide
theorem test_cogStall : (after .cogStall (onLine 9 sqREADY)).seq.attached = false ∧
    ((after .cogStall (onLine 9 sqREADY)).port .ha).alertCause.testBit alFault = true := by decide
def joining : State := (onLine 31 sqJOINING).modSeq fun q => { q with attached := false }
theorem test_cogJoin : joining.mayJoin = true ∧ (after .cogJoinWatch joining).seq.pulse = .reset ∧
    (after .cogJoinTimeout joining).seq.detached = true ∧ (after .cogJoinTimeout joining).seqPhase ≠ sqJOINING := by decide
def brakedOut : State := (inShelf ssBraking).modSeq fun q => { q with complete := true, brake := some 2 }
def brakingOn : State := (inShelf ssBraking).modSeq fun q => { q with brake := some 2 }
theorem test_pbPress : (after (.pbPress 50) brakedOut).miller.restarting = true ∧
    (after (.pbPress 50) brakedOut).par oDevice Pid.Device.L3_RESTART_CAUSE = lrPOWER_ON ∧
    (after (.pbPress 1999) brakingOn).seq.powerOn = true ∧ brakingOn.thermalLatched = false ∧
    (after (.pbPress 1999) brakingOn).par oShelf Pid.Shelf.PB_EVENTS = 1 := by decide
theorem test_pbPress_long : (2000 : Int) < base.par oShelf Pid.Shelf.PB_LONG_TIME * 1000 ∧
    (after (.pbPress 2000) brakedOut).miller.restarting = false := by decide
theorem test_forceOff : base.supply.cs = .run ∧ base.shelf.latched = false ∧ (after .forceOff base).supply.cs = .reset ∧
    (after .forceOff base).par oShelf Pid.Shelf.SHUTDOWN_CAUSE = 5 ∧
    (after .mrN base).par oShelf Pid.Shelf.SHUTDOWN_CAUSE = 6 ∧ (after .mrN base).seq.pfwLow = true := by decide +kernel
theorem test_railPg : ((after (.railPgHigh ⟨2, 0⟩) (railIn 2 fun a => { a with en := true })).rail 2).qualifying = true := by decide

/-! ## Startup and recovery -/

def idBytes (bs : Bytes) : Bytes := bs ++ leBytes 4 (crc32c bs).toNat
theorem test_shelfIdRead : base.shelfState = ssStartup ∧ base.shelf.configApplied = false ∧
    base.par (oDown 3) Pid.Down.DS_STATE ≠ dsFAULT ∧
    (after (.shelfIdRead none (some (idBytes [4, 3, 2, 1]))) base).par oShelf Pid.Shelf.SHELF_ID_FOUND = 0x01020304 ∧
    (after (.shelfIdRead none (some (idBytes [4, 3, 2, 1]))) base).par oShelf Pid.Shelf.ID_MISMATCH = 1 ∧
    (after (.shelfIdRead none (some (idBytes [4, 3, 2, 1]))) base).shelf.mismatchSeen = true := by decide +kernel
def storing : State := { base with nvm := { base.nvm with config := [(keyOf (oRail 3) Pid.Rail.ON_DELAY, 9)] } }
theorem test_startupConfigApplied : storing.storedConfig (keyOf (oString 0) Pid.String.MODULE_COUNT) ≤ 16 ∧
    (findDesc (oRail 3) Pid.Rail.ON_DELAY).any (fun d => d.src == .config) = true ∧
    (after .startupConfigApplied storing).shelf.configApplied = true ∧
    (after .startupConfigApplied storing).par (oRail 3) Pid.Rail.ON_DELAY = 9 := by decide +kernel
def applied : State := { base with shelf := { base.shelf with configApplied := true }, time := { base.time with tick := 44 } }
theorem test_startupTimeout : applied.shelf.mismatchSeen = false ∧ (after .startupTimeout applied).shelfState = ssNormal ∧
    (after .startupTimeout applied).par oShelf Pid.Shelf.STATE_ENTRY_TICK = 44 := by decide
def collapsed (st : Int) (v : Int) : State := pars [(oSeg 2, Pid.ENABLE, 1), (oSeg 2, Pid.Segment.V_FAST, v),
  (oSeg 2, Pid.Segment.SEG_UV, 4000000), (oSeg 2, Pid.Segment.SEG_OV, 5000000)] (inShelf st)
theorem test_recoveryEntry : (collapsed ssNormal 3999999).enabledSegs = [2] ∧
    (after .recoveryEntry (collapsed ssNormal 3999999)).shelfState = ssRecovery ∧
    (after .recoveryEntry (collapsed ssNormal 4000000)).shelfState = ssNormal := by decide
theorem test_recoveryExit : ((List.range 16).all fun f => (collapsed ssRecovery 4000000).feederSettled f) = true ∧
    (after (.recoveryExit false) (collapsed ssRecovery 4000000)).shelfState = ssNormal ∧
    (after (.recoveryExit true) (collapsed ssRecovery 3999999)).shelfState = ssRecovery := by decide

/-! ## Grist -/

theorem test_storeRec : (base.storeRec oShelf 3 0x21 false [7]).grist.nextGen = base.grist.nextGen + 1 ∧
    (base.storeRec oShelf 3 0x21 false [7]).grist.circ.head?.map (fun x => (x.source, x.event, x.snap)) =
      some (oShelf, 0x21, [7]) ∧ seqAfter 4294967295 = 1 ∧ genOlder 4294967290 3 = true ∧ genOlder 3 4294967290 = false := by decide
theorem test_gristMirror : base.unmirrored ≠ [] ∧
    ((after .gristMirror base).nvm.queue.any fun q => q.work == .gristMirror) = true ∧
    (after .mirrorLate base).grist.mirrorLate = true ∧ base.grist.mirrorLate = false ∧
    ((after .mirrorLate base).port .ha).alertCause.testBit alRecorder = true := by decide
def bothNonces : State := { base with life := { base.life with nonce := some [1] }, grist := { base.grist with nonce := some [2] } }
theorem test_nonceExpiry : (after (.nonceExpiry true) bothNonces).life.nonce = none ∧
    (after (.nonceExpiry true) bothNonces).grist.nonce = some [2] ∧ (after (.nonceExpiry false) bothNonces).grist.nonce = none := by decide

/-! ## Dresser's units -/

theorem test_scrubCodeword : (11 : Nat) < codewordsOf 1 ∧ base.dresser.hardWords.contains (1, 11) = false ∧
    (after (.scrubCodeword 1 11 .processorWord (.corrected 2 3)) base).par oDresser (Pid.Dresser.CORR_COUNT + 1) = 1 ∧
    (after (.scrubCodeword 1 11 .processorWord (.corrected 2 3)) base).dresser.corrected = [(1, 11)] ∧
    (after (.scrubCodeword 1 11 .processorWord .clean) base).dresser.corrected = [] := by decide
theorem test_scrubCodeword_uncorrectable :
    (after (.scrubCodeword 3 11 .mramOther (.uncorrectable 2 3)) base).par oDresser (Pid.Dresser.UNCORR_COUNT + 3) = 1 ∧
    (after (.scrubCodeword 3 11 .mramOther (.uncorrectable 2 3)) base).par oDresser (Pid.Dresser.LAST_ERROR + 3) =
      (lastError 2 11 2 3 : Nat) := by decide
def granted (x : DresserItem) : State := { base with dresser := { base.dresser with granted := some x } }
theorem test_memorySliceTest : (after (.memorySliceTest 1 5 .processorWord .pass) (granted (.slice 1 5))).par oDresser
      Pid.Dresser.SLICES_DONE = 1 ∧
    (after (.memorySliceTest 1 5 .processorWord (.failCell 11 2 3)) (granted (.slice 1 5))).bit oDresser
      Pid.Dresser.DRESSER_STATUS drMEM_FAIL = true ∧
    (after (.memorySliceTest 1 5 .processorWord (.failCell 11 2 3)) (granted (.slice 1 5))).dresser.retest =
      [((1, 5), lastError 3 11 2 3)] := by decide
def logicAgain : State := { granted (.logic 4) with dresser := { (granted (.logic 4)).dresser with logicRetest := [4] } }
theorem test_logicSliceTest : (after (.logicSliceTest 4 1 2) (granted (.logic 4))).dresser.logicRetest = [4] ∧
    (after (.logicSliceTest 4 1 2) logicAgain).bit oDresser Pid.Dresser.DRESSER_STATUS drLOGIC_FAIL = true ∧
    (after (.logicSliceTest 4 1 2) logicAgain).dresser.logicRetest = [] ∧
    (after (.logicSliceTest 4 1 1) logicAgain).dresser.logicRetest = [] ∧ logicAgain.logicIdle 4 = true := by decide
def laneOut : State := (granted (.lane 2)).setLane 2 1
theorem test_laneWithdrawal : (granted (.lane 2)).lanesInService = 4 ∧ (granted (.lane 2)).par oDevice Pid.Device.LANE_STATUS = 0 ∧
    (after (.laneWithdrawal 2) (granted (.lane 2))).lane 2 = 1 := by decide
theorem test_laneTest : laneOut.lane 2 = 1 ∧ (after (.laneTest 2 8 8) laneOut).lane 2 = 0 ∧
    (after (.laneTest 2 8 9) laneOut).lane 2 = 3 ∧ (after (.laneTest 2 8 9) laneOut).par oDresser Pid.Dresser.LANE_TESTS = 1 ∧
    (after (.laneTest 2 8 9) laneOut).bit oDresser Pid.Dresser.DRESSER_STATUS drLANE_FAIL = true := by decide
theorem test_memorySliceTest_uncorrectable :
    (after (.memorySliceTest 1 5 .mramOther (.uncorrectable 11 2 3)) (granted (.slice 1 5))).par oDresser
      (Pid.Dresser.UNCORR_COUNT + 1) = 1 := by decide
theorem test_logicSliceTest_busy :
    let s := { granted (.logic 0) with upd := { base.upd with closing := some 0 } }
    s.logicIdle 0 = false ∧ (after (.logicSliceTest 0 1 1) s).dresser.granted = some (.logic 0) := by decide
def suspect : State :=
  let s := (granted (.lane 2)).setLane 2 2
  { s with wheel := { s.wheel with again := s.wheel.again.set 2 true } }
theorem test_laneTest_suspect : suspect.lane 2 = 2 ∧ (after (.laneTest 2 8 8) suspect).lane 2 = 3 ∧
    (after (.laneTest 2 8 8) ((granted (.lane 2)).setLane 2 2)).lane 2 = 0 := by decide
def fullDue : State := { base with dresser := { base.dresser with fullPending := true } }
theorem test_fullTest : (after (.fullTest (some (.cell 1 11 2 3)) [.cell 1 12 0 0, .cell 3 0 0 0] [] [.lane 2 8 9]) fullDue).supply.cs = .reset ∧
    (after (.fullTest (some (.cell 1 11 2 3)) [.cell 1 12 0 0, .cell 3 0 0 0] [] [.lane 2 8 9]) fullDue).dresser.full.map (fun x => (x.kind, x.state, x.fails)) = some (3, 3, 3) ∧
    (after (.fullTest none [] [] []) fullDue).dresser.full.map (fun x => (x.kind, x.state, x.fails)) = some (3, 2, 0) ∧
    (after (.fullTest (some (.cell 1 11 2 3)) [.cell 1 12 0 0, .cell 3 0 0 0] [] [.lane 2 8 9]) fullDue).dresser.fullHard = [(1, 11), (1, 12)] := by decide

/-! ## Batteries -/

def battery : State := (pars [(oString 0, Pid.ENABLE, 1), (oString 0, Pid.String.MODULE_COUNT, 2), (oModule 1, Pid.ENABLE, 1),
  (oDown 0, Pid.ENABLE, 1), (oString 0, Pid.String.FULL_I, 500)] (base.modDown 0 fun a => { a with recovered := true })).modModule 1 fun a =>
    { a with identified := true, idNeeded := false, commLost := false }
/-- The bytes that module 1, at 0x41, sends in a read frame. -/
def sent (cmd : Nat) (data : Bytes) : Bytes :=
  let l := BitVec.ofNat 8 data.length :: data
  l ++ [crc8 (readHead 0x41 cmd ++ l)]
-- MEAS_READ: SEQ 7, VALID, -2 of 10 µV, 25 °C, 100 ms (Table 7-4)
def measData : Bytes := [7, 1] ++ leBytes 4 (-2) ++ leBytes 2 3200 ++ leBytes 2 100
theorem test_pollRound : battery.configured 1 = true ∧ battery.downReady (modulePort 1) = true ∧
    readTwice 1 adMEAS_READ [sent adMEAS_READ measData] = some measData ∧ pollOk (battery.module 1) (measOf measData) = true ∧
    (after (.pollRound [(1, [sent adMEAS_READ measData])]) battery).par (oModule 1) Pid.Module.V_MOD = -2 ∧
    ((after (.pollRound [(1, [sent adMEAS_READ measData])]) battery).module 1).lastSeq = some 7 := by decide +kernel
-- a frame in error, and its repeat; two frames in error
theorem test_pollRound_repeat : readTwice 1 adMEAS_READ [[], sent adMEAS_READ measData] = some measData ∧
    readTwice 1 adMEAS_READ [[], [0x0C], sent adMEAS_READ measData] = none ∧
    (after (.pollRound []) battery).par (oModule 1) Pid.Module.POLL_ERRORS = 1 ∧
    ((after (.pollRound []) battery).module 1).failRun = 1 := by decide +kernel
theorem test_pollRound_watch :
    let s := battery.setPar oDevice Pid.Device.DEVICE_MODE 2
    after (.pollRound []) s = s := by decide +kernel
theorem test_adpoxonFrameRetry : (after (.adpoxonFrameRetry 0) battery).par (oDown 0) Pid.Down.FRAMES = 1 := by decide
-- MODEL_ID 5, SERIAL 0x1234, a certificate of 168 bytes
def identData : Bytes := leBytes 4 5 ++ leBytes 8 0x1234 ++ leBytes 2 168 ++ [0, 0]
def cert : Bytes := [1, 1, 0, 0] ++ leBytes 4 5 ++ leBytes 8 0x1234 ++ List.replicate 152 0
def chunks (c : Bytes) : List (List Bytes) := (List.range 6).map fun i => [sent adCERT_CHUNK ((c.drop (28 * i)).take 28)]
def exchange (c : Bytes) (ok : Bool) : AuthExchange := ⟨[sent adIDENT_READ identData], true, chunks c, ok⟩
def silent : AuthExchange := ⟨[], false, [], false⟩
def owned5 : State := { battery.setPar (oString 0) Pid.String.MODEL_ID 5 with
  life := { battery.life with keys := battery.life.keys.set 1 (some (List.replicate 64 3)) } }
theorem test_moduleAuth : battery.portAuths 1 = false ∧ battery.authWanted 1 = true ∧
    (after (.moduleAuth 1 silent) battery).par (oModule 1) Pid.Module.AUTH_RESULT = arNO_REPLY ∧
    readTwice 1 adIDENT_READ [sent adIDENT_READ identData] = some identData ∧
    (after (.moduleAuth 1 (exchange cert true)) battery).par (oModule 1) Pid.Module.SERIAL = 0x1234 ∧
    (battery.identify 1 identData).2.authWanted 1 = true := by decide +kernel
theorem test_moduleAuth_judged : certOf 1 (exchange cert true) = some cert ∧ cert.length = 168 ∧
    (after (.moduleAuth 1 (exchange cert true)) battery).par (oModule 1) Pid.Module.AUTH_RESULT = arUNKNOWN_ISSUER ∧
    (after (.moduleAuth 1 (exchange (2 :: cert.drop 1) true)) battery).par (oModule 1) Pid.Module.AUTH_RESULT = arCERT_FORMAT := by
  decide +kernel
/-- The conditions of a challenge, for a certificate whose signature verifies. -/
theorem test_moduleAuth_challenge
    (h : Config.verifyP256 (List.replicate 64 3) (cert.take 104) (slice cert 104 64) = true) :
    (owned5.identify 1 identData).2.certResult 1 identData cert = arPASS ∧
    (owned5.identify 1 identData).2.authWanted 1 = true := by
  constructor
  · have form : (fieldU identData 12 2 != 168 || cert.length != 168 || byteAt cert 0 != 1 || byteAt cert 1 != 1 ||
        !zeros cert 2 2 || !zeros cert 100 4) = false := by decide +kernel
    have key : vget (owned5.identify 1 identData).2.life.keys (fieldU cert 16 4 + 1) none = some (List.replicate 64 3) := by
      decide +kernel
    have issuer : fieldU cert 16 4 < 4 := by decide +kernel
    have ident : (fieldU cert 4 4 != fieldU identData 0 4 || fieldU cert 8 8 != fieldU identData 4 8) = false := by decide +kernel
    have model : ((fieldU identData 0 4 : Int) != (owned5.identify 1 identData).2.par (oString (stringOf 1)) Pid.String.MODEL_ID) =
      false := by decide +kernel
    simp only [State.certResult, form, if_pos issuer, key, h, ident, model]
    rfl
  · decide +kernel
theorem test_moduleAuth_port :
    let s := battery.modModule 0 fun a => { a with authing := true }
    s.portAuths 1 = true ∧ after (.moduleAuth 1 silent) s = s := by decide +kernel
def authing : State := battery.modModule 1 fun a => { a with authing := true, nonce := some [], authDue := true }
def response (status : Byte) : Bytes := [status, 0] ++ List.replicate 64 7
def busy (ms : Nat) : ResponseIn := ⟨ms, [sent adRESPONSE (response 1)]⟩
theorem test_responseRead : (after (.responseRead 1 ⟨0, []⟩) authing).par (oModule 1) Pid.Module.AUTH_RESULT = arNO_REPLY ∧
    readTwice 1 adRESPONSE [sent adRESPONSE (response 0)] = some (response 0) ∧
    (after (.responseRead 1 (busy 20)) authing).par (oModule 1) Pid.Module.AUTH_RESULT = arRESPONSE_TIMEOUT ∧
    ((after (.responseRead 1 (busy 19)) authing).module 1).authing = true := by decide +kernel
def unproven : State := battery.setPar (oModule 1) Pid.Module.AUTH_RESULT 9
theorem test_authRetry : ((after (.authRetry 1) unproven).module 1).authDue = true := by decide
def charging : State := battery.modStr 0 fun a => { a with iSum := 7, iN := 2, connected := true, iPrev := 400, disagree := true }
theorem test_modelUpdate : charging.modulesOf 0 = [0, 1] ∧ charging.linkUp = true := by decide
theorem test_endOfFullCharge : charging.par (oString 0) Pid.String.MODEL_MODE ≠ mmDISCHARGE ∧
    (after (.endOfFullCharge 0) charging).par (oString 0) Pid.String.SOC = 10000 ∧
    (after (.endOfFullCharge 0) charging).par (oString 0) Pid.String.MODEL_MODE = mmFULL ∧
    ((after (.endOfFullCharge 0) charging).str 0).disagree = false := by decide
theorem test_batteryJournal : battery.mayLearn = true ∧
    ((after .batteryJournal battery).nvm.queue.any fun q => coversString 0 q) = true := by decide

/-! ## Downstream ports, point-of-load stages and satellites -/

def portReady : State := (base.setPar (oDown 2) Pid.ENABLE 1).modDown 2 fun a => { a with recovered := true, losses := 2 }
theorem test_dsFrame : portReady.downReady 2 = true ∧ (after (.dsFrame 2 .ok) portReady).par (oDown 2) Pid.Down.FRAMES = 1 ∧
    (after (.dsFrame 2 .nack) portReady).par (oDown 2) Pid.Down.FRAME_ERRORS = 1 ∧
    (after (.dsFrame 2 .nack) portReady).bit (oDown 2) Pid.Down.DS_STATUS dsNACK = true ∧
    (after (.dsFrame 2 (.arbLostData 6 3)) portReady).par (oDown 2) Pid.Down.LAST_ARB = 1539 := by decide
theorem test_dsFrameAbandon : (after (.dsFrameAbandon 2) portReady).bit (oDown 2) Pid.Down.DS_STATUS dsTIMEOUT = true ∧
    (after (.dsFrameAbandon 2) portReady).par (oDown 2) Pid.Down.FRAME_ERRORS = 1 := by decide
def portFault : State := pars [(oDown 0, Pid.ENABLE, 1), (oDown 0, Pid.Down.DS_STATE, dsFAULT)] battery
theorem test_busRecovery : battery.busWorks 0 = true ∧
    (after (.busRecovery 0 (.clocked [false, true])) portFault).par (oDown 0) Pid.Down.DS_STATE = dsIDLE ∧
    (after (.busRecovery 0 (.clocked (List.replicate 9 false))) battery).par (oDown 0) Pid.Down.DS_STATE = dsFAULT ∧
    battery.modulesOn 0 = [0, 1] ∧ ((after (.busRecovery 0 .sclLow) battery).module 1).commLost = true ∧
    (after (.busRecovery 0 .sclLow) battery).bit (oDown 0) Pid.Down.DS_STATUS dsSCL_LOW = true := by decide
-- Table 15-12: the eighth loss of one frame
def lost7 : State := portReady.modDown 2 fun a => { a with losses := 7 }
theorem test_dsFrame_eighth : (after (.dsFrame 2 (.arbLostData 6 3)) lost7).par (oDown 2) Pid.Down.FRAME_ERRORS = 1 ∧
    (after (.dsFrame 2 (.arbLostData 6 3)) portReady).par (oDown 2) Pid.Down.FRAME_ERRORS = 0 := by decide
def stage : State := pars [(oPol 4, Pid.Pol.POL_ADDR, 0x12), (oDown 2, Pid.ENABLE, 1)] base
theorem test_pol_dead : (stage.setPar (oDown 2) Pid.ENABLE 0).enabled (oDown 2) = false ∧
    (after (.polPoll 4 (some (1, 25))) (stage.setPar (oDown 2) Pid.ENABLE 0)).par (oPol 4) Pid.Pol.POL_ERRORS = 1 := by decide
theorem test_polIdentify : (after (.polIdentify 4 (some (0x33, 0x17))) stage).par (oPol 4) Pid.Pol.VOUT_EXP = -9 ∧
    (after (.polIdentify 4 (some (0x33, 0x17))) stage).par (oPol 4) Pid.Pol.PMBUS_REV = 0x33 ∧
    (after (.polIdentify 4 none) stage).par (oPol 4) Pid.Pol.POL_ERRORS = 1 := by decide
-- 25 in LINEAR11 with the exponent 0
theorem test_polPoll : linear11 25 128 = 3200 ∧ (stage.pol 4).badMode = false ∧
    (after (.polPoll 4 (some (1, 25))) stage).par (oPol 4) Pid.Pol.TEMP = 3200 := by decide
def satellites : State :=
  let s := pars [(oDevice, Pid.Device.CONFIGURATION, 1), (oSat 1, Pid.ENABLE, 1), (oDown 3, Pid.ENABLE, 1)] base
  { s with shelf := { s.shelf with configApplied := true }
           upd := { s.upd with satImages := [⟨1, 0x77, 100, 5, true⟩] } }
-- SB_IDENT: HW_ID 0x77, a state byte
def satSent (st : Byte) : Bytes :=
  let l : Bytes := [8, 0x77, 0, st, 0, 0, 0, 0, 0]
  l ++ [crc8 (readHead (satAddr 1) sbIDENT ++ l)]
def satNone : SatAnswer := ⟨[], false, 0, false, []⟩
def satAnswer : SatAnswer := ⟨[satSent 0], false, 2000, true, [satSent 2]⟩
theorem test_satelliteLoad : satellites.satDue 1 = true ∧ (satIdent 1 (satSent 0)).map (fun d => fieldU d 0 2) = some 0x77 ∧
    (satellites.satImage 1).map (fun x => x.hwId) = some 0x77 ∧ satStarted 1 satAnswer = true ∧
    (after (.satelliteLoad 1 satNone) satellites).par (oSat 1) Pid.Sat.SAT_RESULT = srNO_REPLY ∧
    (after (.satelliteLoad 1 satAnswer) ({ satellites with upd := { satellites.upd with satImages := [] } })).par (oSat 1)
      Pid.Sat.SAT_RESULT = srNO_IMAGE := by decide +kernel
def satHeldState : State := after (.satelliteLoad 1 satNone) satellites
theorem test_satelliteRetry : (satHeldState.sat 1).noReply = true ∧ (after (.satelliteRetry 1) satHeldState).objSt (oSat 1) = osStarting := by
  decide

/-! ## The update's events -/

def closingState : State :=
  let s := pars [(oUpdater, Pid.Updater.UPD_STATE, upCLOSING)] base
  { s with upd := { s.upd with closing := some 0, bundleLen := 512, target := 1 } }
theorem test_bundleVerified : closingState.closeFails = some (1, urINCOMPLETE) ∧
    (after .bundleVerified closingState).par oUpdater Pid.Updater.LAST_UPD_RESULT = urINCOMPLETE ∧
    (after .bundleVerified closingState).updState = upOPEN := by decide
def scheduled (w : Int) : State := pars [(oUpdater, Pid.Updater.UPD_STATE, upSCHEDULED), (oUpdater, Pid.Updater.SCHED_MODE, 1),
  (oUpdater, Pid.Updater.SCHED_WALL, w)] base
theorem test_activationDue : (after .activationDue (scheduled 0)).upd.due = true ∧
    (after .activationDue (scheduled 1)).upd.due = false := by decide
def atCog : State :=
  let s := (scheduled 1).setPar oUpdater Pid.Updater.SCHED_MODE 2
  { s with upd := { s.upd with dueAtCog := true } }
theorem test_activationDue_cog : (after .activationDue atCog).upd.due = true := by decide
def trial : State :=
  let s := pars [(oUpdater, Pid.Updater.UPD_STATE, upTRIAL), (oUpdater, Pid.Updater.TRIAL_FAILS, 2)] base
  { s with upd := { s.upd with checkin := some 0 } }
def checkinWrite : State := { trial with nvm := { trial.nvm with active := some (⟨.checkin, .good, 1, none, 0⟩, 1) } }
theorem test_checkin : trial.nvm.active.isNone = true ∧
    ((after .checkin trial).nvm.queue.any fun q => q.work == .good) = true ∧ checkinWrite.runningBank = 0 ∧
    (after .checkin checkinWrite).bank 0 = bkGOOD ∧ (after .checkin checkinWrite).updState = upIDLE ∧
    (after .checkin checkinWrite).par oUpdater Pid.Updater.TRIAL_FAILS = 0 := by decide +kernel
theorem test_checkinTimeout : (after .checkinTimeout trial).miller.restarting = true ∧
    (after .checkinTimeout trial).par oDevice Pid.Device.L3_RESTART_CAUSE = lrWATCHDOG ∧
    (after .checkinTimeout trial).bank 0 = bkFAILED := by decide

/-! ## Further clauses of the statements -/

-- TAILRACE_ARM with no channel
def disarmBytes : Bytes := [8, 0, 1, 0] ++ List.replicate 20 0
theorem test_tailraceArm_none : okOp base 0x39 disarmBytes = true ∧ (Taken base rq 0x39 disarmBytes).traceCheck disarmBytes = none ∧
    byteAt disarmBytes 1 = 0 ∧ (after (.tailraceArm rq disarmBytes) base).par oDevice Pid.Device.TAILRACE_STATE = tsIDLE ∧
    (after (.tailraceArm rq disarmBytes) base).par oDevice Pid.Device.TAILRACE_CAPTURE_ID = 0 := by decide
-- BIST_RESULT of the full test
def fullDone : State := after (.fullTest none [] [] []) { base with dresser := { base.dresser with fullPending := true } }
def fullKept : State := { base with dresser := { base.dresser with full := fullDone.dresser.full } }
theorem test_bistResult_full : okOp fullKept 0x51 (leBytes 4 0) = true ∧ fullKept.dresser.full.isSome = true ∧
    (repBytes (.bistResult rq (leBytes 4 0)) fullKept).map (fun b => (b.drop 4).take 3) = some [3, 0, 2] := by decide +kernel
-- SEQ_POWER_ON: STARTING, by the unit alone and through the line; its length; THERMAL_LATCHED
def walkedAttached : State := (pars [(oShelf, Pid.Shelf.SEQ_STATE, 31), (oShelf, Pid.Shelf.SEQ_PHASE, sqREST)] walked).modSeq fun q =>
  { q with attached := true }
theorem test_seqPowerOn_starting : okOp walked 0x70 [] = true ∧ walked.seq.attached = false ∧
    repBytes (.seqPowerOn rq []) walked = some [0, 31, 0, 0] ∧ (after (.seqPowerOn rq []) walked).miller.restarting = true ∧
    (after (.seqPowerOn rq []) walked).par oDevice Pid.Device.L3_RESTART_CAUSE = lrPOWER_ON := by decide +kernel
theorem test_seqPowerOn_attached : walkedAttached.restsAt 31 = true ∧ walkedAttached.seq.lineLow = false ∧
    repBytes (.seqPowerOn rq []) walkedAttached = some [0, 31, 0, 0] ∧
    (after (.seqPowerOn rq []) walkedAttached).seq.pulse = .request := by decide
def hot : State := { inShelf ssThermal with shelf := { base.shelf with latched := true } }
theorem test_seqPowerOn_refused : okOp base 0x70 [0] = true ∧ rep (.seqPowerOn rq [0]) base = some (stBAD_LENGTH, 1) ∧
    okOp hot 0x70 [] = true ∧ hot.thermalLatched = true ∧ rep (.seqPowerOn rq []) hot = some (stLOCKED, 2) := by decide
theorem test_seqPowerOff_new : (Taken (inShelf ssNormal) rq 0x71 [0, 0, 0, 0]).powerOffCheck [0, 0, 0, 0] = none ∧
    (inShelf ssNormal).seq.brake = none ∧ (after (.seqPowerOff rq [0, 0, 0, 0]) (inShelf ssNormal)).shelfState = ssBraking ∧
    (after (.seqPowerOff rq [0, 0, 0, 0]) (inShelf ssNormal)).seqState = 16 := by decide +kernel
def grouped : State := (pars [(oShelf, Pid.Shelf.COG_ENABLE, 1), (oShelf, Pid.Shelf.SEQ_STATE, 15), (oShelf, Pid.Shelf.SEQ_PHASE, sqREST)]
  (inShelf ssNormal)).modSeq fun q => { q with attached := true }
theorem test_seqPowerOff_group : okOp grouped 0x71 [1, 0, 0, 0] = true ∧
    (Taken grouped rq 0x71 [1, 0, 0, 0]).powerOffCheck [1, 0, 0, 0] = none ∧
    (after (.seqPowerOff rq [1, 0, 0, 0]) grouped).seq.pulse = .request ∧
    (after (.seqPowerOff rq [1, 0, 0, 0]) grouped).seqState = 15 := by decide +kernel
-- UPD_CANCEL of a session and of a schedule; UPD_SCHEDULE by a COG state
theorem test_updCancel_open : okOp opened 0x95 [0, 0, 0, 0] = true ∧ opened.bank opened.upd.target = bkEMPTY ∧ opened.nvm.active = none ∧
    rep (.updCancel rq [0, 0, 0, 0]) opened = some (stOK, 0) ∧ (after (.updCancel rq [0, 0, 0, 0]) opened).updState = upIDLE := by decide
def openedPart : State := opened.setBank opened.upd.target bkWRITING
theorem test_updCancel_part : openedPart.updState = upOPEN ∧ openedPart.bank openedPart.upd.target ≠ bkEMPTY ∧
    ((after (.updCancel rq [0, 0, 0, 0]) openedPart).nvm.queue.any fun q => q.work == .cancelBank) = true := by decide
def scheduledOp : State := { scheduled 100 with upd := { (scheduled 100).upd with stagedOk := true } }
theorem test_updCancel_scheduled : okOp scheduledOp 0x95 [0, 0, 0, 0] = true ∧
    (after (.updCancel rq [0, 0, 0, 0]) scheduledOp).updState = upSTAGED ∧
    (after (.updCancel rq [0, 0, 0, 0]) scheduledOp).par oUpdater Pid.Updater.SCHED_MODE = 0xFF := by decide
def stagedCog : State := staged.setPar oShelf Pid.Shelf.COG_ENABLE 1
def schedCog : Bytes := [2, 31, 0, 0] ++ leBytes 8 0
theorem test_updSchedule_cog : okOp stagedCog 0x93 schedCog = true ∧ byteAt schedCog 0 = 2 ∧ byteAt schedCog 1 = 31 ∧
    stagedCog.seq.detached = false ∧ stagedCog.updState = upSTAGED := by decide
-- ABORT of no operation, RESULT_POLL of one that is held
theorem test_abort_none : (Taken base rq 0xF0 [9, 0, 0, 0]).abortTarget (theOp base rq 0xF0 [9, 0, 0, 0]) = none ∧
    rep (.abort rq [9, 0, 0, 0]) base = some (stBAD_PARAM, 3) := by decide
theorem test_resultPoll_held : okOp (holding .queued) 0xF1 [9, 0, 0, 0] = true ∧
    (repBytes (.resultPoll rq [9, 0, 0, 0]) (holding .queued)).map (List.take 4) = some [9, 1, 0x01, 2] := by decide
theorem test_debugHalt_field : field.coreClock = true ∧ (after .debugHalt field).time.halted = false := by decide
-- a boot with two failed trials, and one into a retained thermal latch
theorem test_controlSideBoot_trials :
    let s := inReset.setPar oUpdater Pid.Updater.TRIAL_FAILS 2
    2 ≤ s.bootJournal.bootTrialFailed.par oUpdater Pid.Updater.TRIAL_FAILS ∧
    (after (.controlSideBoot (bootIn true)) s).supply.cs = .rom := by decide +kernel
def hotReset : State := { inReset with shelf := { base.shelf with latched := true }, supply := { inReset.supply with cause := .mrN } }
theorem test_controlSideBoot_thermal : hotReset.supply.cause ≠ .powerUp ∧
    (after (.controlSideBoot (bootIn true)) hotReset).shelfState = ssThermal := by decide +kernel
-- a swap aligned to a loop that does not evaluate
def alignedIdle : State := { cascade with wheel := { cascade.wheel with swaps := [⟨none, 0, 1, 5, false, false, [0]⟩] } }
theorem test_swapRegistration_aligned : alignedIdle.evaluating 5 = false ∧
    (after .swapRegistration alignedIdle).par (oLoop 0) Pid.Phase.ACTIVE_BANK = 1 := by decide
-- a hiccup's end with the bus still above SEG_OV
def overHeld : State := (offTime.setPar (oSeg 0) Pid.Segment.SEG_OV 3999999).modSeg 0 fun a => { a with overHold := true, overTick := some 0 }
theorem test_hiccupOffTimeEnd_held : ((overHeld.modSeg 0 fun a => { a with offTime := false }).segMayStart 0) = false ∧
    (after (.hiccupOffTimeEnd 0) overHeld).objSt (oSeg 0) = osWaiting := by decide
-- a connect timeout, before and at its end, and with a set Weir latch
def connecting (n : Nat) : State := ((stringy osStarting).setPar (oString 1) Pid.String.CONNECT_TIMEOUT 10).modStr 1 fun a =>
  { a with starting := true, startRun := n }
theorem test_stringSwitchTick_waits : (connecting 8).stringStarting 1 = true ∧
    ((after (.stringSwitchTick 1 false 0) (connecting 8)).str 1).startRun = 9 ∧
    (after (.stringSwitchTick 1 false 0) (connecting 9)).objSt (oString 1) = osLatched := by decide
theorem test_connectTimeout_latch :
    let s := (stringy osStarting).modStr 1 fun a => { a with weir := { a.weir with latchB := true } }
    s.stringStarting 1 = true ∧ (after (.connectTimeout 1) s).bit (oString 1) Pid.FAULT_LATCH flFastTrip = true ∧
    (after (.connectTimeout 1) s).bit (oString 1) Pid.FAULT_LATCH (flType 2) = false := by decide
theorem test_weirProof_void : after (.weirProof 4 true { proof true with moved := true }) base = base ∧
    after (.weirProof 4 true (proof true)) (base.setPar oDevice Pid.Device.DEVICE_MODE 2) =
      base.setPar oDevice Pid.Device.DEVICE_MODE 2 := by decide +kernel
-- the latch watches in ROM recovery
def hotRom : State := inRom.modTherm 3 fun a => { a with samples := [latchLevel] }
theorem test_thermalSample_rom : hotRom.latchWatches = true ∧ hotRom.running = false ∧
    (after (.thermalSample (temps 18560) 0xFFFF) hotRom).shelf.latched = true := by decide +kernel
theorem test_zoneWarnClear_none : (zoned 5359).zoneOf 5 = 0 ∧ (zoned 5359).zoneSensors 5 = [2] := by decide
theorem test_fantailTick_restart :
    (after (.fantailTick aTick) (after (.l3Restart 1) base)).par oFantail Pid.Fantail.TICK_COUNT = 0 := by decide +kernel
def charged : State := ((inShelf ssNormal).setPar (oString 1) Pid.SERVICE_STATUS (ouDEFERRED * 1073741824 + 2 * 65536)).modConsS 1 fun a =>
  { a with requesting := true }
theorem test_deferralLimit_charging : charged.deferredReason (oString 1) = some 2 ∧
    (after (.deferralLimit (.charging 1)) charged).par (oString 1) Pid.SERVICE_STATUS = (ouREFUSED * 1073741824 + 2 * 65536 : Nat) ∧
    ((after (.deferralLimit (.charging 1)) charged).consS 1).expired = true := by decide
theorem test_deferralLimit_activation :
    let s := { scheduled 0 with upd := { base.upd with due := true, stagedOk := true } }
    s.updState = upSCHEDULED ∧ s.activationBlock.isSome = true ∧
    (after (.deferralLimit .activation) s).updState = upSTAGED := by decide
-- walks of an attached unit, and by hand
def attachedWalk : State := (walking 4 ssStartup).modSeq fun q => { q with attached := true, holding := true }
theorem test_stateWorkFinished_attached : attachedWalk.workReady = true ∧ (after .stateWorkFinished attachedWalk).seqPhase = sqREADY ∧
    (after .stateWorkFinished attachedWalk).seq.holding = false := by decide
def byHand (n : Nat) : State :=
  let s := (pars [(oShelf, Pid.Shelf.SEQ_STATE, 4), (oShelf, Pid.Shelf.SEQ_PHASE, sqMANUAL)] (inShelf ssTest)).modSeq fun q =>
    { q with walk := .manual, workDone := false, stepOp := some 0, stepsLeft := n }
  { s with hopper := { ops := [{ heldOp .committed with opcode := 0x72 }], nextId := 1 } }
theorem test_stateWorkFinished_manual : (byHand 1).workReady = true ∧ (after .stateWorkFinished (byHand 1)).seqState = 5 ∧
    (after .stateWorkFinished (byHand 1)).seq.stepsLeft = 0 ∧ (byHand 0).opOf 0 ≠ none ∧
    ((after .stateWorkFinished (byHand 0)).port .ha).replies.map (fun x => (x.op, x.status)) = [(some 0, stOK)] := by decide
def warnedGroup : State := (grouped.setPar oShelf Pid.Shelf.COG_DOWN_GROUP 1).modSeq fun q =>
  { q with pfwRunning := true, pfwLow := true, brake := some 2 }
theorem test_pfwTime_group : warnedGroup.restsAt 15 = true ∧ (after .pfwTime warnedGroup).seq.pulse = .request ∧
    (after .pfwTime warnedGroup).seqState = 15 := by decide +kernel
-- the COG line: joining, a power-on that waited for the rise, the group's step down
theorem test_cog_joining : (after .cogRise joining).seq.joinWait = true ∧ (after (.cogLowEnd 3) joining).seq.joinWait = true := by decide
def waitingOn : State := (pars [(oShelf, Pid.Shelf.SHELF_STATE, ssBraking)] (onLine 31 sqREST)).modSeq fun q =>
  { q with powerOn := true, complete := true, lineLow := true }
theorem test_cogLowEnd_power_on : waitingOn.running = true ∧ (after (.cogLowEnd 9) waitingOn).seq.pulse = .request ∧
    (after (.cogLowEnd 9) waitingOn).seq.powerOn = false := by decide
theorem test_cogLowEnd_group : (onLine 15 sqREST).seq.brake = none ∧ (after (.cogLowEnd 199) (onLine 15 sqREST)).seqState = 16 ∧
    (after (.cogLowEnd 199) (onLine 15 sqREST)).par oShelf Pid.Shelf.SHUTDOWN_CAUSE = bkGROUP_STEP := by decide +kernel
theorem test_cogPulseEnd_down :
    let s := ((onLine 15 sqREST).setPar oShelf Pid.Shelf.SHELF_STATE ssBraking).modSeq fun q => { q with pulse := .request }
    (after .cogPulseEnd s).seqState = 16 := by decide +kernel
def detachedRest : State := (onLine 31 sqREST).modSeq fun q => { q with attached := false, detached := true }
theorem test_cogJoinWatch_rest : detachedRest.mayJoin = true ∧ (after .cogJoinWatch detachedRest).seqPhase = sqJOINING := by decide
-- D3 in FAULT; the time limit in a level 3 restart; the sixty seconds
theorem test_shelfIdRead_fault :
    (after (.shelfIdRead (some (idBytes [4, 3, 2, 1])) none) (base.setPar (oDown 3) Pid.Down.DS_STATE dsFAULT)).par oShelf
      Pid.Shelf.SHELF_ID_FOUND = 0xFFFFFFFF := by decide +kernel
theorem test_startupTimeout_restart :
    let s := { applied with miller := { applied.miller with restarting := true } }
    s.running = true ∧ (after .startupTimeout s).miller.shifts = [.toState ssNormal.toNat scTIMEOUT] := by decide
theorem test_recoveryExit_sixty :
    let s := (collapsed ssRecovery 4500000).modConsF 0 fun a => { a with requesting := true }
    (after (.recoveryExit true) s).shelfState = ssNormal := by decide

/-! ## Frames -/

theorem test_frame_witness : exec (.energyJournal) base = .next (after .energyJournal base) ∧
    exec (.seatStable 3) base = .next (after (.seatStable 3) base) := ⟨rfl, rfl⟩
-- the worked exchange of Table 14-12
def ilimitRequest : Bytes := [0x59, 0x10, 0x11, 0x07, 0x08, 0x00, 0x00, 0x00, 0x33, 0x04, 0x02, 0x01, 0xC0, 0x27, 0x09, 0x00]
def ilimitState : State :=
  let s := pars [(oFeeder 3, pSenseRnom, 500000), (oFeeder 3, Pid.Feeder.WEIR_THRESH, 500)] base
  s.modPort .ha fun x =>
    { x with build := ilimitRequest ++ leBytes 4 (crc32c ilimitRequest).toNat, written := 20 }
theorem test_worked_exchange : (after (.doorbellSubmit .ha ⟨acc, []⟩) ilimitState).hopper.ops.map (fun e => (e.opcode, e.tag, e.prio)) =
      [(0x11, 7, 0)] ∧
    (after .operationStart (after (.doorbellSubmit .ha ⟨acc, []⟩) ilimitState)).par (oFeeder 3) Pid.Feeder.I_LIMIT = 600000 ∧
    (((after .operationStart (after (.doorbellSubmit .ha ⟨acc, []⟩) ilimitState)).port .ha).replies.map fun x =>
      (x.bytes.take 16)) = [[0x79, 0x10, 0x11, 0x07, 0x00, 0x00, 0x08, 0x00, 0x33, 0x04, 0x02, 0x01, 0xC0, 0x27, 0x09, 0x00]] := by
  decide +kernel

/-! ## Output balls (R431) -/

theorem test_faultN : State.reset.faultN = true ∧ State.reset.resetN = true ∧ State.reset.enPin 0 = false ∧
    ((State.reset.setPar (oFeeder 3) Pid.OBJ_STATE osLatched).setPar (oFeeder 3) Pid.ENABLE 1).faultN = false := by decide +kernel

/-! ## Commands that are not well formed -/

theorem test_wf : (Instr.ping rq [1]).wf = true ∧ (Instr.sag).wf = true ∧ (Instr.railPoll 16 .failed 0).wf = true := by decide
theorem test_wf_payload : payloadFits (List.replicate 65536 0) = false := by
  rw [payloadFits, List.length_replicate]; decide
theorem test_wf_payload_with_first : (Instr.lcNonce rq (List.replicate 65535 0)).wf = false := by
  rw [Instr.wf, payloadFits, List.length_cons, List.length_replicate]; decide
theorem test_wf_railPoll : (Instr.railPoll 15 .failed 0).wf = false := by decide
theorem test_wf_pollRound : (Instr.pollRound [(1, []), (1, [])]).wf = false := by decide
theorem test_wf_adpoxonFrameRetry : (Instr.adpoxonFrameRetry 2).wf = false := by decide
theorem test_wf_l3Restart : (Instr.l3Restart 0).wf = false ∧ (Instr.l3Restart 6).wf = false := by decide
theorem test_wf_watchWake : (Instr.watchWake ⟨0, 0⟩ 1).wf = false ∧ (Instr.watchWake ⟨256, 0⟩ 1).wf = false := by decide
theorem test_wf_trackingWindowEnd : (Instr.trackingWindowEnd (.bus 0) 5 6 7).wf = false ∧
    (Instr.trackingWindowEnd (.bus 0) 8 6 7).wf = false ∧ (Instr.trackingWindowEnd (.bus 0) 6 6 7).wf = true := by decide
theorem test_wf_fullTest : (Instr.fullTest none [.cell 3 0 0 0] [] []).wf = false := by decide
theorem test_wf_scrubCodeword : (Instr.scrubCodeword 1 8192 (.loopHistory 0) .clean).wf = false ∧
    (Instr.scrubCodeword 1 11 .processorWord .clean).wf = false ∧
    (Instr.scrubCodeword 0 11 .processorWord .clean).wf = true := by decide
theorem test_wf_memorySliceTest : (Instr.memorySliceTest 1 1024 (.loopHistory 0) .pass).wf = false ∧
    (Instr.memorySliceTest 1 5 .processorWord .pass).wf = false ∧
    (Instr.memorySliceTest 1 5 (.loopHistory 0) (.failCell 11 0 0)).wf = false := by decide
theorem test_wf_shelfIdRead : (Instr.shelfIdRead (some (List.replicate 9 0)) none).wf = false := by decide
theorem test_wf_cogLowEnd : (Instr.cogLowEnd 0).wf = false := by decide

end Sys2Proof.Tests
end

/-! # Every command answers a next state within its frame

The footprints of the operations that a command calls, put together along the command's branches. -/

namespace Sys2Proof.Machine

set_option Elab.async false

open State

variable {fs fs' : List Fld} {ps ps' : Option (List Nat)} {s x y : State}

/-! ## Footprints, one operation after another -/

/-- An operation on the first state, its footprint within a larger one. -/
theorem Foot.within (k : Foot fs' ps' s y) (hs : footSub fs' ps' fs ps = true := by rfl) : Foot fs ps s y :=
  (Foot.refl fs ps s).step k hs

/-- An operation on a state reached within the footprint. -/
theorem Foot.on (k : Foot fs' ps' x y) (h : Foot fs ps s x) (hs : footSub fs' ps' fs ps = true := by rfl) :
    Foot fs ps s y := h.step k hs

section
variable {o pid : Nat} (h : Foot fs ps s x)
include h

theorem Foot.setPar {v : Int} (hp : pidIn pid ps = true := by rfl) : Foot fs ps s (x.setPar o pid v) :=
  setPar_foot h hp

theorem Foot.updPar {f : Int → Int} (hp : pidIn pid ps = true := by rfl) : Foot fs ps s (x.updPar o pid f) :=
  updPar_foot h hp

theorem Foot.incPar (hp : pidIn pid ps = true := by rfl) : Foot fs ps s (x.incPar o pid) := incPar_foot h hp

theorem Foot.setBit {n : Nat} (hp : pidIn pid ps = true := by rfl) : Foot fs ps s (x.setBit o pid n) :=
  setBit_foot h hp

theorem Foot.setReading {v : Int} (hp : pidIn pid ps = true := by rfl) : Foot fs ps s (x.setReading o pid v) := by
  unfold State.setReading
  split
  · exact h.setPar hp
  · exact h

theorem Foot.withGrist {v : GristState} (hf : fs.contains .grist = true := by rfl) :
    Foot fs ps s { x with grist := v } := h.mk' (hgrist := .inl hf)

theorem Foot.withSupply {v : SupplyState} (hf : fs.contains .supply = true := by rfl) :
    Foot fs ps s { x with supply := v } := h.mk' (hsupply := .inl hf)

theorem Foot.withUpd {v : UpdState} (hf : fs.contains .upd = true := by rfl) :
    Foot fs ps s { x with upd := v } := h.mk' (hupd := .inl hf)

theorem Foot.withLife {v : LifeState} (hf : fs.contains .life = true := by rfl) :
    Foot fs ps s { x with life := v } := h.mk' (hlife := .inl hf)

theorem Foot.withShelf {v : ShelfAux} (hf : fs.contains .shelf = true := by rfl) :
    Foot fs ps s { x with shelf := v } := h.mk' (hshelf := .inl hf)

theorem Foot.withMiller {v : MillerState} (hf : fs.contains .miller = true := by rfl) :
    Foot fs ps s { x with miller := v } := h.mk' (hmiller := .inl hf)

theorem Foot.withWheel {v : WheelState} (hf : fs.contains .wheel = true := by rfl) :
    Foot fs ps s { x with wheel := v } := h.mk' (hwheel := .inl hf)

/-- The record `nvm` changes beside the bytes of the MRAM. -/
theorem Foot.withNvm {v : NvmState} (hm : v.mram = x.nvm.mram := by rfl) (hf : fs.contains .nvm = true := by rfl) :
    Foot fs ps s { x with nvm := v } := h.mk' (hnvm := .inl hf) (hmram := .inr hm)

end

/-! ## Outcomes within a footprint -/

/-- The outcome is a next state, reached within a footprint. -/
def Answers (fs : List Fld) (ps : Option (List Nat)) (s : State) (o : Host.Outcome State Fault Refusal) : Prop :=
  ∃ t, o = .next t ∧ Foot fs ps s t

/-- The parts that a command may change: those of its frame, and for AON_WAKE_TIMER the count of the free values too,
of which it takes one for the retention contexts that fail at the wake (log entry 4). -/
def partsOf : Instr → List Fld
  | .aonWakeTimer => .draws :: fldsOf .aonWakeTimer
  | c => fldsOf c

/-- The second state is the first but for the parts and the parameters that the command may change. -/
abbrev Within (c : Instr) (s t : State) : Prop := Foot (partsOf c) (pidsOf c) s t

/-- The outcome is a next state in which nothing has changed but what the command may change. -/
abbrev Framed (c : Instr) (s : State) (o : Host.Outcome State Fault Refusal) : Prop :=
  Answers (partsOf c) (pidsOf c) s o

section
variable {c : Prop} [Decidable c] {o o' : Host.Outcome State Fault Refusal}

theorem Answers.next (h : Foot fs ps s x) : Answers fs ps s (.next x) := ⟨x, rfl, h⟩

theorem Answers.skip : Answers fs ps s (.next s) := .next (.refl ..)

theorem Answers.ite (h : Answers fs ps s o) (h' : Answers fs ps s o') : Answers fs ps s (if c then o else o') := by
  split <;> assumption

theorem Answers.when (h : Answers fs ps s o) : Answers fs ps s (if c then o else .next s) := .ite h .skip

theorem Answers.unless (h : Answers fs ps s o) : Answers fs ps s (if c then .next s else o) := .ite .skip h

end

/-- A request row moves the traces of its packet and its reply, and what its operation moves. -/
theorem Answers.submit {r : Req} {n : Nat} {p : Bytes} {run : Op → State → State}
    (k : ∀ {e t}, Foot fs' ps' t (run e t)) (hs : footSub fs' ps' fs ps = true := by rfl)
    (ho : footSub opFlds (some opPids) fs ps = true := by rfl) :
    Answers fs ps s (.next (submitReq r n p run s)) :=
  .next (submitReq_foot (.refl ..) (footSub_trans rfl ho) fun _ _ h => k.on h hs)

/-! ## The commands -/

/-! ### Requests, ports and timers -/

theorem execOperationStart_framed : Framed .operationStart s (execOperationStart s) := by
  unfold execOperationStart
  refine .unless ?_
  split
  · exact .next opRun_foot.within
  · exact .skip

theorem execAlertResponse_framed {port won} : Framed (.alertResponse port won) s (execAlertResponse port won s) :=
  .unless <| .ite (.next busStop_foot.within) <| .next <| busStop_foot.on <| .incPar modPort_foot.within

theorem execAddressMatchWake_framed {x} : Framed (.addressMatchWake x) s (execAddressMatchWake x s) := by
  unfold execAddressMatchWake
  extract_lets _ named s₁
  have hn : Within (.addressMatchWake x) s named := by
    unfold named
    split
    · exact named_foot.within
    · exact .refl ..
  have h₁ : Within (.addressMatchWake x) s s₁ := modPort_foot.on hn
  refine .unless <| .ite ?_ ?_
  · split
    rename_i e
    exact .next <| wake_foot.on <| .snd e <| draw_foot.on h₁
  · exact .when <| .next <| .setBit h₁

theorem execTimerMatch_framed {tm} : Framed (.timerMatch tm) s (execTimerMatch tm s) :=
  .unless <| .next <| matched_foot.on <| advanced_foot.on <| setValue_foot.on <| .ite wrapped_foot.within <|
    .ite (.setBit (.refl ..)) (.refl ..)

theorem execTimerWrap_framed {tm} : Framed (.timerWrap tm) s (execTimerWrap tm s) := by
  unfold execTimerWrap
  extract_lets _ _ _ _ _ s₁ _ _ s₂
  have h₁ : Within (.timerWrap tm) s s₁ := .setBit <| advanced_foot.on setValue_foot.within
  have h₂ : Within (.timerWrap tm) s s₂ := wrapped_foot.on <| advanced_foot.on setValue_foot.within
  exact .unless <| .ite (.next <| .ite (matched_foot.on h₁) h₁) <| .next <| .ite (matched_foot.on h₂) h₂

theorem execTimerCapture_framed {tm rising count} :
    Framed (.timerCapture tm rising count) s (execTimerCapture tm rising count s) := by
  unfold execTimerCapture
  extract_lets _ _ _ _ _ s₁ s₂
  have h₁ : Within (.timerCapture tm rising count) s s₁ := setCount_foot.within
  have h₂ : Within (.timerCapture tm rising count) s s₂ := modTimer_foot.on h₁
  exact .unless <| .ite (.next <| .incPar <| .setBit h₁) <| .ite (.next <| modTimer_foot.on h₂) <| .next h₂

theorem execUhlesLinkRecovery_framed {lossUs} :
    Framed (.uhlesLinkRecovery lossUs) s (execUhlesLinkRecovery lossUs s) := by
  unfold execUhlesLinkRecovery
  extract_lets s₁
  have h₁ : Within (.uhlesLinkRecovery lossUs) s s₁ := .incPar <| .setPar (.refl ..)
  exact .unless <| .next <| downCatchUp_foot.on <| record_foot.on <| linkRecords_foot.on <| .withSupply h₁

/-! ### Conversion, sampling and banks -/

theorem execPwmPeriodStart_framed {p} : Framed (.pwmPeriodStart p) s (execPwmPeriodStart p s) := by
  unfold execPwmPeriodStart
  extract_lets _ _ s₁
  have h₁ : Within (.pwmPeriodStart p) s s₁ := modPhase_foot.on beginPeriod_foot.within
  exact .unless <| .ite (.next <| .ite (setObj_foot.on h₁) h₁) <|
    .unless <| .ite (.next startPhase_foot.within) <| .when <| .next <| modPhase_foot.on startPhase_foot.within

theorem execGroupBoundary_framed {f} : Framed (.groupBoundary f) s (execGroupBoundary f s) := by
  unfold execGroupBoundary
  extract_lets s₁ _ s₂ _ s₃ _ s₄
  have h₁ : Within (.groupBoundary f) s s₁ := .ite glideStep_foot.within (.refl ..)
  have h₂ : Within (.groupBoundary f) s s₂ :=
    eachOf_foot h₁ fun _ t h => setObj_foot.on <| modPhase_foot.on <| stopPhase_foot.on h
  have h₃ : Within (.groupBoundary f) s s₃ := leaveGroup_foot.on <| addPhases_foot.on h₂
  have h₄ : Within (.groupBoundary f) s s₄ := .foldl h₃ fun t _ h => takeAngle_foot.on h
  exact .ite (.next h₁) <| .next <| syncAlone_foot.on <| eachOf_foot h₄ fun _ t h => updateNAct_foot.on h

theorem execSampleRequest_framed {p waitNs} : Framed (.sampleRequest p waitNs) s (execSampleRequest p waitNs s) := by
  unfold execSampleRequest
  extract_lets s₁
  have h₁ : Within (.sampleRequest p waitNs) s s₁ := modPhase_foot.within
  exact .when <| .next <| .ite (.setBit h₁) h₁

theorem execInnerEvaluation_framed {p x lane latencyNs residueOk} :
    Framed (.innerEvaluation p x lane latencyNs residueOk) s (execInnerEvaluation p x lane latencyNs residueOk s) := by
  unfold execInnerEvaluation
  extract_lets _ _ _ s₁ s₂ s₃
  have h₁ : Within (.innerEvaluation p x lane latencyNs residueOk) s s₁ := phaseSample_foot.within
  have h₂ : Within (.innerEvaluation p x lane latencyNs residueOk) s s₂ := modPhase_foot.on h₁
  have h₃ : Within (.innerEvaluation p x lane latencyNs residueOk) s s₃ := .ite (loopSwap_foot.on h₂) h₂
  exact .unless <| .ite (.next <| removePhase_foot.on h₁) <|
    .ite (.next h₂) <|
    .ite (.next <| lateEval_foot.on h₃) <|
    .ite (.next <| .updPar <| residueError_foot.on h₃) <| .next <| evalPhase_foot.on h₃

theorem execOuterTrigger_framed {lp lane residueOk} :
    Framed (.outerTrigger lp lane residueOk) s (execOuterTrigger lp lane residueOk s) := by
  unfold execOuterTrigger
  extract_lets _ _ _ _ s₁ _ s₂
  have h₁ : Within (.outerTrigger lp lane residueOk) s s₁ :=
    fullRate_foot.on <| .ite (.refl ..) <| setObj_foot.on modLoop_foot.within
  have h₂ : Within (.outerTrigger lp lane residueOk) s s₂ :=
    trigSetpoint_foot.on <| .ite (loopSwap_foot.on h₁) h₁
  refine .unless <| .ite ?_ ?_
  · exact .next <| alignPoint_foot.on <| .updPar <| residueError_foot.on h₂
  · split
    rename_i t e
    have ht : Within (.outerTrigger lp lane residueOk) s t := .snd e <| evaluate_foot.on h₂
    extract_lets
    split
    rename_i t' e
    have ht' : Within (.outerTrigger lp lane residueOk) s t' :=
      .snd e <| startTriggers_foot.on <| traceEval_foot.on <| alignPoint_foot.on <| distribute_foot.on <|
      takeShares_foot.on ht
    exact .next <| .ite (floatLeave_foot.on <| .ite ht' <| failAttempt_foot.on ht') <|
      .ite ht' <| failAttempt_foot.on ht'

theorem execSarRoundSlot_framed {sar7 slot x} :
    Framed (.sarRoundSlot sar7 slot x) s (execSarRoundSlot sar7 slot x s) :=
  .unless <| .next <| slotEnergy_foot.on <| overSeen_foot.on <| gather_foot.on <| senseRise_foot.on modChan_foot.within

theorem execSarSelfCheck_framed {ch pass} : Framed (.sarSelfCheck ch pass) s (execSarSelfCheck ch pass s) := by
  unfold execSarSelfCheck
  extract_lets _ _ s₁ _ _ s₂
  have h₁ : Within (.sarSelfCheck ch pass) s s₁ := checkSlot_foot.within
  have h₂ : Within (.sarSelfCheck ch pass) s s₂ := senseRise_foot.on <| modChan_foot.on h₁
  refine .unless <| .next ?_
  split
  · exact .ite (removePhase_foot.on h₂) h₂
  · exact h₂

theorem execPhaseFailNotice_framed {p} : Framed (.phaseFailNotice p) s (execPhaseFailNotice p s) := by
  unfold execPhaseFailNotice
  extract_lets _ _ _ s₁
  have h₁ : Within (.phaseFailNotice p) s s₁ := .incPar modPhase_foot.within
  exact .when <| .next <| record_foot.on h₁

theorem execSwapRegistration_framed : Framed .swapRegistration s (execSwapRegistration s) := by
  unfold execSwapRegistration
  split
  · exact .skip
  · exact .next <| registerSwap_foot.on <| .withWheel (.refl ..)

theorem execBankLoadCommit_framed : Framed .bankLoadCommit s (execBankLoadCommit s) := by
  unfold execBankLoadCommit
  split
  · exact .skip
  · refine .unless <| .ite ?_ ?_
    · refine .next ?_
      split
      · exact fail_foot.on <| .withWheel (.refl ..)
      · exact .withWheel (.refl ..)
    · extract_lets _ _ s₁ s₂
      have h₁ : Within .bankLoadCommit s s₁ := .incPar <| modLoop_foot.on <| .withWheel (.refl ..)
      have h₂ : Within .bankLoadCommit s s₂ := .ite (askNvm_foot.on h₁) h₁
      refine .next ?_
      split
      · exact ok_foot.on h₂
      · exact h₂

theorem execSegmentActive_framed {b} : Framed (.segmentActive b) s (execSegmentActive b s) := by
  unfold execSegmentActive
  extract_lets _ _ _ _ _ s₁
  have h₁ : Within (.segmentActive b) s s₁ :=
    .setPar <| setObj_foot.on <| eachOf_foot (.refl ..) fun _ t h => modPhase_foot.on h
  exact .when <| .next <| modSeg_foot.on h₁

theorem execHiccupOffTimeEnd_framed {b} : Framed (.hiccupOffTimeEnd b) s (execHiccupOffTimeEnd b s) := by
  unfold execHiccupOffTimeEnd
  extract_lets s₁
  have h₁ : Within (.hiccupOffTimeEnd b) s s₁ := modSeg_foot.within
  exact .when <| .ite (.next <| segStart_foot.on h₁) <| .next h₁

theorem execSyncinEdge_framed {freq phaseError} :
    Framed (.syncinEdge freq phaseError) s (execSyncinEdge freq phaseError s) :=
  .unless <| .ite (.next syncMiss_foot.within) <| .next <| syncFollow_foot.on <| .setPar <| .withWheel (.refl ..)

/-! ### Feeders, strings and thermal zones -/

theorem execSluiceTick_framed {ins} : Framed (.sluiceTick ins) s (execSluiceTick ins s) :=
  .unless <| .next <| each_foot (.ite passTime_foot.within (.refl ..)) fun _ t h => feederTick_foot.on h

theorem execStringSwitchTick_framed {k vgsOk vds} :
    Framed (.stringSwitchTick k vgsOk vds) s (execStringSwitchTick k vgsOk vds s) := by
  unfold execStringSwitchTick
  extract_lets _ s₁
  have h₁ : Within (.stringSwitchTick k vgsOk vds) s s₁ := modStr_foot.within
  exact .unless <| .ite (.next <| stringTrip_foot.on h₁) <|
    .ite (.ite (.next <| stringConnected_foot.on h₁) <| .ite (.next <| stringTrip_foot.on h₁) <| .next h₁) <|
    .ite (.next <| chargeRegulate_foot.on h₁) <| .next h₁

theorem execThermalSample_framed {ts ringOk} :
    Framed (.thermalSample ts ringOk) s (execThermalSample ts ringOk s) := by
  unfold execThermalSample
  extract_lets s₁
  have h₁ : Within (.thermalSample ts ringOk) s s₁ :=
    each_foot (.refl ..) fun _ t h => .ite (sensorSample_foot.on h) <| latchSample_foot.on h
  refine .unless ?_
  split
  · exact .next <| saveCutThermal_foot.on h₁
  · exact .next h₁

theorem execZoneCrit_framed {z} : Framed (.zoneCrit z) s (execZoneCrit z s) := by
  unfold execZoneCrit
  extract_lets _ _ _ s₁
  have h₁ : Within (.zoneCrit z) s s₁ :=
    .setBit <| zoneStates_foot.on <| eachOf_foot (.refl ..) fun _ t h => modTherm_foot.on h
  exact .unless <| .ite (.next <| brakeCause_foot.on h₁) <| .next h₁

theorem execZoneWarnClear_framed {z} : Framed (.zoneWarnClear z) s (execZoneWarnClear z s) :=
  .when <| .next <| zoneStates_foot.on <| eachOf_foot (.refl ..) fun _ t h => modTherm_foot.on h

theorem execFantailTick_framed {x} : Framed (.fantailTick x) s (execFantailTick x s) := by
  unfold execFantailTick
  extract_lets s₁
  have h₁ : Within (.fantailTick x) s s₁ :=
    noteMill_foot.on <| closeAllMs_foot.on <| supplyReadings_foot.on nextMs_foot.within
  split
  · exact .ite (.next <| planDrop_foot.on h₁) <| .next <| fantailBody_foot.on h₁
  · exact .next <| supplyReadings_foot.on nextMs_foot.within
  · exact .next <| supplyReadings_foot.on nextMs_foot.within
  · exact .next supplyReadings_foot.within
  · exact .skip
  · exact .skip
  · exact .skip

theorem execDeferralLimit_framed {c} : Framed (.deferralLimit c) s (execDeferralLimit c s) := by
  unfold execDeferralLimit
  refine .unless ?_
  split
  · extract_lets
    split
    · exact .when <| .next <| publish_foot.on modConsF_foot.within
    · exact .skip
  · extract_lets
    split
    · exact .when <| .next <| publish_foot.on modConsS_foot.within
    · exact .skip
  · split
    · exact .next <| learnWaits_foot.on refuseWrite_foot.within
    · exact .skip
  · refine .when ?_
    split
    · exact .next activateRefused_foot.within
    · exact .skip

/-! ### Rails and the sequencer -/

theorem execRailPgDrop_framed {x} : Framed (.railPgDrop x) s (execRailPgDrop x s) :=
  .unless <| .ite (.ite (.next downFail_foot.within) <| .next <| .incPar (.refl ..)) <| .next pgFall_foot.within

theorem execRailFault_framed {v} : Framed (.railFault v) s (execRailFault v s) :=
  .when <| .next <| brakeCause_foot.on <| raise_foot.on <| railRecord_foot.on <| .setBit modRail_foot.within

theorem execRailPoll_framed {v x elapsedUs} :
    Framed (.railPoll v x elapsedUs) s (execRailPoll v x elapsedUs s) := by
  unfold execRailPoll
  extract_lets v n x
  generalize x = x
  refine .unless ?_
  split
  · exact .next <| .ite (pollLow_foot.on <| .setPar (.refl ..)) <| pollHigh_foot.on <| .setPar (.refl ..)
  · exact .ite (.next <| railEmpty_foot.on <| .setReading (.refl ..)) <| .next <| .setReading (.refl ..)
  · exact .next <| pollLow_foot.on <| .setBit <| polFail_foot.on modPol_foot.within
  · exact .next <| pollLow_foot.on <| .setBit polFail_foot.within

theorem execCogRise_framed : Framed .cogRise s (execCogRise s) := by
  unfold execCogRise
  extract_lets s₁
  have h₁ : Within .cogRise s s₁ := modSeq_foot.within
  exact .unless <| .ite (.next <| modSeq_foot.on h₁) <|
    .ite (.next h₁) <|
    .ite (.next <| powerOnDue_foot.on <| modSeq_foot.on <| .setPar h₁) <| .next <| cogStep_foot.on h₁

theorem execCogLowEnd_framed {us} : Framed (.cogLowEnd us) s (execCogLowEnd us s) := by
  unfold execCogLowEnd
  extract_lets s₁
  have h₁ : Within (.cogLowEnd us) s s₁ := modSeq_foot.within
  exact .unless <| .ite (.next <| modSeq_foot.on h₁) <|
    .ite (.next h₁) <|
    .ite (.next <| powerOnDue_foot.on h₁) <|
    .ite (.next <| cogRequest_foot.on h₁) <|
    .ite (.next <| powerOnDue_foot.on <| .setBit h₁) <| .next <| cogReset_foot.on h₁

theorem execCogPulseEnd_framed : Framed .cogPulseEnd s (execCogPulseEnd s) := by
  unfold execCogPulseEnd
  extract_lets _ s₁
  have h₁ : Within .cogPulseEnd s s₁ := modSeq_foot.within
  exact .unless <| .ite (.next <| cogRequest_foot.on h₁) <| .next <| cogReset_foot.on <| modSeq_foot.on h₁

theorem execCogHoldMax_framed : Framed .cogHoldMax s (execCogHoldMax s) := by
  unfold execCogHoldMax
  extract_lets _ s₁ s₂
  have h₁ : Within .cogHoldMax s s₁ := .setBit (.refl ..)
  have h₂ : Within .cogHoldMax s s₂ := .ite (eachOf_foot h₁ fun _ t h => .setBit <| modRail_foot.on h) h₁
  exact .unless <| .next <| .setPar <| modSeq_foot.on h₂

theorem execCogStall_framed : Framed .cogStall s (execCogStall s) := by
  unfold execCogStall
  extract_lets _ s₁
  have h₁ : Within .cogStall s s₁ := raise_foot.on <| seqRecord_foot.on <| .setBit cogLeave_foot.within
  exact .unless <| .ite (.next <| powerOnDue_foot.on <| stepAlone_foot.on h₁) <| .next <| powerOnDue_foot.on h₁

theorem execCogJoinWatch_framed : Framed .cogJoinWatch s (execCogJoinWatch s) :=
  .unless <| .ite (.next <| cogPulse_foot.on modSeq_foot.within) <| .when <| .next cogJoin_foot.within

theorem execCogJoinTimeout_framed : Framed .cogJoinTimeout s (execCogJoinTimeout s) := by
  unfold execCogJoinTimeout
  extract_lets s₁
  have h₁ : Within .cogJoinTimeout s s₁ := .setPar cogLeave_foot.within
  exact .unless <| .ite (.next <| enterSeq_foot.on h₁) <| .ite (.next <| .setPar h₁) <| .next h₁

theorem execPbPress_framed {ms} : Framed (.pbPress ms) s (execPbPress ms s) :=
  .unless <| .ite (.next <| powerOnRequest_foot.on <| seqRecord_foot.on <| .incPar (.refl ..)) <|
    .when <| .next seqRecord_foot.within

/-! ### Supplies, saves and start -/

theorem execSag_framed : Framed .sag s (execSag s) := by
  unfold execSag
  extract_lets s₁ _ s₂ s₃
  have h₁ : Within .sag s s₁ := .incPar (.refl ..)
  have h₂ : Within .sag s s₂ := .withSupply h₁
  have h₃ : Within .sag s s₃ := sagAborts_foot.on h₂
  exact .unless <| .ite (.next h₂) <| .ite (.next <| saveBegin_foot.on h₃) <| .next <| .withSupply h₃

theorem execSaveCommit_framed {us} : Framed (.saveCommit us) s (execSaveCommit us s) := by
  unfold execSaveCommit
  extract_lets _ _ _ s₁
  have h₁ : Within (.saveCommit us) s s₁ := .setPar <| .setPar <| .incPar <| holdBit_foot.on putSave_foot.within
  exact .unless <| .next <| .withSupply h₁

theorem execSaveResume_framed : Framed .saveResume s (execSaveResume s) := by
  unfold execSaveResume
  extract_lets _ s₁
  have h₁ : Within .saveResume s s₁ := spoilMeans_foot.on <| .withSupply (.refl ..)
  exact .unless <| .next <| .ite (shift_foot.on h₁) h₁

theorem execSupplyFall_framed {w} : Framed (.supplyFall w) s (execSupplyFall w s) := by
  unfold execSupplyFall
  split
  · exact .unless <| .next vaonOff_foot.within
  · exact .when <| .next csReset_foot.within
  · exact .when <| .next csReset_foot.within
  · exact .when <| .next csReset_foot.within

theorem execControlSideBoot_framed {x} : Framed (.controlSideBoot x) s (execControlSideBoot x s) := by
  unfold execControlSideBoot
  extract_lets s₁ _ s₂ _ s₃
  have h₁ : Within (.controlSideBoot x) s s₁ := bootJournal_foot.within
  have h₂ : Within (.controlSideBoot x) s s₂ := bootTrialFailed_foot.on h₁
  have h₃ : Within (.controlSideBoot x) s s₃ := dropBanks_foot.on h₂
  refine .unless ?_
  split
  · exact .next <| bootFirmware_foot.on h₃
  · exact .next <| .setPar <| bootRom_foot.on <| bootStraps_foot.on <| coldAux_foot.on <| coldParams_foot.on h₃

theorem execPsdReset_framed : Framed .psdReset s (execPsdReset s) := by
  unfold execPsdReset
  extract_lets _ s₁
  have h₁ : Within .psdReset s s₁ := .withSupply (.refl ..)
  exact .next <| .ite (psdOutputsOff_foot.on <| linkLoss_foot.on h₁) <| psdOutputsOff_foot.on h₁

theorem execCholdTest_framed {dv1 dv2} : Framed (.choldTest dv1 dv2) s (execCholdTest dv1 dv2 s) := by
  unfold execCholdTest
  extract_lets _ s₁
  have h₁ : Within (.choldTest dv1 dv2) s s₁ := .withSupply (.refl ..)
  refine .unless <| .ite ?_ ?_
  · split
    rename_i e
    exact .next <| choldResult_foot.on <| .snd e <| draw_foot.on h₁
  · exact .next <| choldResult_foot.on h₁

theorem execNvmPageProgram_framed : Framed .nvmPageProgram s (execNvmPageProgram s) := by
  unfold execNvmPageProgram
  extract_lets s₁
  have h₁ : Within .nvmPageProgram s s₁ := romStart_foot.within
  refine .unless ?_
  split
  · exact .ite (.next h₁) <| .next <| .withNvm h₁
  · exact .ite (.next <| .withSupply h₁) <| .next h₁

theorem execNvmTransactionCommit_framed : Framed .nvmTransactionCommit s (execNvmTransactionCommit s) := by
  unfold execNvmTransactionCommit
  extract_lets s₁
  have h₁ : Within .nvmTransactionCommit s s₁ := romStart_foot.within
  refine .unless ?_
  split
  · exact .ite (.next <| commitActive_foot.on h₁) <| .next h₁
  · exact .next h₁

theorem execAonWakeTimer_framed : Framed .aonWakeTimer s (execAonWakeTimer s) := by
  unfold execAonWakeTimer
  split
  · refine .when ?_
    split
    rename_i e
    exact .next <| wake_foot.on <| .snd e draw_foot.within
  · exact .skip

theorem execXt25Fail_framed : Framed .xt25Fail s (execXt25Fail s) :=
  .unless <| .next <| raise_foot.on <| record_foot.on <| .incPar <| clockBit_foot.on modTime_foot.within

theorem execWallSlewStep_framed : Framed .wallSlewStep s (execWallSlewStep s) := by
  unfold execWallSlewStep
  split
  · exact .skip
  · exact .unless <| .ite (.next <| record_foot.on <| modTime_foot.on <| .setPar (.refl ..)) <|
      .next <| modTime_foot.on <| .setPar (.refl ..)

theorem execL3RestartEnd_framed : Framed .l3RestartEnd s (execL3RestartEnd s) := by
  unfold execL3RestartEnd
  extract_lets _ _ _ s₁ _ _ _ s₂ s₃
  have h₁ : Within .l3RestartEnd s s₁ := restartRecords_foot.on <| .withMiller (.refl ..)
  have h₂ : Within .l3RestartEnd s s₂ := .foldl (.withMiller h₁) fun t _ h => takeShift_foot.on h
  have h₃ : Within .l3RestartEnd s s₃ := .ite (startupAgain_foot.on h₂) h₂
  exact .unless <| .next <| takeWaiting_foot.on <| takeWaiting_foot.on <|
    .ite (beginWork_foot.on <| modSeq_foot.on h₃) h₃

theorem execStartupConfigApplied_framed : Framed .startupConfigApplied s (execStartupConfigApplied s) := by
  unfold execStartupConfigApplied
  extract_lets _ _ s₁ s₂ s₃ s₄
  have h₁ : Within .startupConfigApplied s s₁ :=
    loadEnables_foot.on <| loadModules_foot.on <| loadTriggers_foot.on <| loadFeeders_foot.on <|
    loadConfig_foot.on <| .withShelf (.refl ..)
  have h₂ : Within .startupConfigApplied s s₂ := .ite (holdAll_foot.on h₁) h₁
  have h₃ : Within .startupConfigApplied s s₃ := .ite (cogJoin_foot.on h₂) h₂
  have h₄ : Within .startupConfigApplied s s₄ := .ite (beginWork_foot.on <| modSeq_foot.on h₃) h₃
  exact .unless <| .ite (.next h₂) <| .next <| .ite (shift_foot.on <| .withShelf h₄) h₄

theorem execShelfIdRead_framed {first retry} :
    Framed (.shelfIdRead first retry) s (execShelfIdRead first retry s) := by
  unfold execShelfIdRead
  extract_lets s₁ s₂
  have h₁ : Within (.shelfIdRead first retry) s s₁ := .incPar (.refl ..)
  have h₂ : Within (.shelfIdRead first retry) s s₂ := identityFrame_foot.on <| modDown_foot.on h₁
  refine .unless ?_
  split
  rename_i t e
  have ht : Within (.shelfIdRead first retry) s t := by
    split at e
    · cases e; exact h₁
    · split at e
      · cases e; exact h₂
      · cases e; exact identityFrame_foot.on h₂
  exact .next <| idCheck_foot.on <| .setPar ht

theorem execTrackingWindowEnd_framed {ch nv lo hi} :
    Framed (.trackingWindowEnd ch nv lo hi) s (execTrackingWindowEnd ch nv lo hi s) := by
  unfold execTrackingWindowEnd
  refine .unless <| .next <| windowNext_foot.on <| .ite (.refl ..) ?_
  split
  · exact .setPar (.refl ..)
  · refine .ite (.refl ..) ?_
    split
    rename_i t e
    have ht : Within (.trackingWindowEnd ch nv lo hi) s t := .snd e sarMean_foot.within
    exact trackUpdate_foot.on ht

/-! ### Tests, modules and buses -/

theorem execScrubCodeword_framed {arr codeword use x} :
    Framed (.scrubCodeword arr codeword use x) s (execScrubCodeword arr codeword use x s) := by
  unfold execScrubCodeword
  extract_lets _ _ _ s₁
  have h₁ : Within (.scrubCodeword arr codeword use x) s s₁ := .ite (.withNvm (.refl ..)) (.refl ..)
  refine .unless ?_
  split
  · exact .next <| modDresser_foot.on h₁
  · exact .next <| corrected_foot.on h₁
  · exact .next <| uncorrectable_foot.on h₁

theorem execMemorySliceTest_framed {arr slice use x} :
    Framed (.memorySliceTest arr slice use x) s (execMemorySliceTest arr slice use x s) := by
  unfold execMemorySliceTest
  extract_lets _ _ _ s₁
  have h₁ : Within (.memorySliceTest arr slice use x) s s₁ := sliceCount_foot.within
  refine .unless ?_
  split
  · exact .ite (.next <| sliceRecord_foot.on <| retestDone_foot.on h₁) <| .next <| hostUnit_foot.on h₁
  · exact .next <| sliceFails_foot.on h₁
  · exact .next <| uncorrectable_foot.on <| hostUnit_foot.on <| dresserBit_foot.on h₁

theorem execLogicSliceTest_framed {slice expected read} :
    Framed (.logicSliceTest slice expected read) s (execLogicSliceTest slice expected read s) := by
  unfold execLogicSliceTest
  extract_lets _ _ s₁ _ _ s₂
  have h₁ : Within (.logicSliceTest slice expected read) s s₁ := modDresser_foot.within
  have h₂ : Within (.logicSliceTest slice expected read) s s₂ := dresserRecord_foot.on <| dresserBit_foot.on h₁
  exact .unless <| .ite (.next <| hostUnit_foot.on <| .ite (.withSupply h₁) h₁) <|
    .ite (.next <| hostUnit_foot.on <| .ite (.withSupply h₂) h₂) <| .next <| modDresser_foot.on h₁

theorem execLaneTest_framed {lane expected read} :
    Framed (.laneTest lane expected read) s (execLaneTest lane expected read s) := by
  unfold execLaneTest
  extract_lets _ _ _ s₁ _ _ s₂
  have h₁ : Within (.laneTest lane expected read) s s₁ := modDresser_foot.within
  have h₂ : Within (.laneTest lane expected read) s s₂ := setLane_foot.on <| .incPar <| .withWheel h₁
  exact .unless <| .next <| hostUnit_foot.on <| .ite (dresserRecord_foot.on <| dresserBit_foot.on h₂) h₂

theorem execPollRound_framed {replies} : Framed (.pollRound replies) s (execPollRound replies s) := by
  refine .unless <| .next <| each_foot (.refl ..) fun _ t h => ?_
  extract_lets t₁ t₂
  have h₁ : Within (.pollRound replies) s t₁ := eachOf_foot h fun _ t h => pollModule_foot.on h
  have h₂ : Within (.pollRound replies) s t₂ := chargeStops_foot.on h₁
  exact .ite (lvdOpen_foot.on <| eachOf_foot h₂ fun _ t h => modModule_foot.on h) h₂

theorem execEndOfFullCharge_framed {k} : Framed (.endOfFullCharge k) s (execEndOfFullCharge k s) := by
  unfold execEndOfFullCharge
  extract_lets _ _ _ s₁ _ s₂
  have h₁ : Within (.endOfFullCharge k) s s₁ := .setBit <| .setPar <| .setPar (.refl ..)
  have h₂ : Within (.endOfFullCharge k) s s₂ := .setPar <| modStr_foot.on h₁
  exact .when <| .next <| askBattery_foot.on <| setDisagree_foot.on <| eachOf_foot h₂ fun _ t h =>
    modModule_foot.on <| .setPar h

theorem execModuleAuth_framed {m x} : Framed (.moduleAuth m x) s (execModuleAuth m x s) := by
  unfold execModuleAuth
  refine .unless ?_
  split
  · exact .next <| .ite authDone_foot.within (.refl ..)
  · split
    rename_i t e
    have ht : Within (.moduleAuth m x) s t := .snd e identify_foot.within
    refine .ite ?_ ?_
    · exact .next ht
    · split
      · exact .next <| authDone_foot.on ht
      · exact .ite (.next <| authDone_foot.on <| modModule_foot.on ht) <|
          .ite (.next <| challenge_foot.on <| modModule_foot.on ht) <|
          .next <| authDone_foot.on <| modModule_foot.on ht

theorem execResponseRead_framed {m x} : Framed (.responseRead m x) s (execResponseRead m x s) := by
  unfold execResponseRead
  refine .unless ?_
  split
  · exact .next authDone_foot.within
  · exact .ite (.next <| .ite authDone_foot.within (.refl ..)) <| .next authDone_foot.within

theorem execDsFrame_framed {port x} : Framed (.dsFrame port x) s (execDsFrame port x s) := by
  unfold execDsFrame
  refine .unless ?_
  split
  · exact .next <| .incPar modDown_foot.within
  · exact .next <| frameError_foot.on <| .setBit (.refl ..)
  · split
    rename_i e
    exact .next <| arbLost_foot.on <| .snd e draw_foot.within
  · exact .next arbLost_foot.within

theorem execBusRecovery_framed {port x} : Framed (.busRecovery port x) s (execBusRecovery port x s) := by
  unfold execBusRecovery
  extract_lets _ _ s₁ s₂
  have h₁ : Within (.busRecovery port x) s s₁ := .incPar (.refl ..)
  have h₂ : Within (.busRecovery port x) s s₂ := modDown_foot.on h₁
  refine .unless ?_
  split
  · exact .ite
      (.ite (.next <| portRecord_foot.on <| clearFaults_foot.on <| setObj_foot.on <| .setPar h₂) <| .next h₂) <|
      .next <| portFault_foot.on h₁
  · exact .next <| portFault_foot.on h₁

theorem execPolIdentify_framed {pl x} : Framed (.polIdentify pl x) s (execPolIdentify pl x s) := by
  unfold execPolIdentify
  refine .unless <| .ite ?_ ?_
  · exact .next polFail_foot.within
  · split
    · exact .next polFail_foot.within
    · exact .ite (.next <| .setPar <| modPol_foot.on <| .setPar (.refl ..)) <|
        .next <| modPol_foot.on <| .setPar (.refl ..)

theorem execPolPoll_framed {pl x} : Framed (.polPoll pl x) s (execPolPoll pl x s) := by
  unfold execPolPoll
  refine .unless <| .ite ?_ ?_
  · exact .next polFail_foot.within
  · split
    · exact .next polFail_foot.within
    · exact .next <| .setReading <| .setReading (.refl ..)

theorem execSatelliteLoad_framed {n x} : Framed (.satelliteLoad n x) s (execSatelliteLoad n x s) := by
  unfold execSatelliteLoad
  refine .unless ?_
  split
  · exact .next satHeld_foot.within
  · extract_lets s₁
    have h₁ : Within (.satelliteLoad n x) s s₁ := .setPar (.refl ..)
    split
    · exact .next <| satHeld_foot.on h₁
    · exact .ite (.next <| satHeld_foot.on h₁) <|
        .ite (.next <| satHeld_foot.on h₁) <| .next <| satSend_foot.on <| satSelect_foot.on h₁

theorem execBundleVerified_framed : Framed .bundleVerified s (execBundleVerified s) := by
  unfold execBundleVerified
  split
  · exact .skip
  · refine .unless ?_
    split
    · exact .next askNvm_foot.within
    · extract_lets _ s₁ s₂
      have h₂ : Within .bundleVerified s s₂ := updRecord_foot.on <| closeEnds_foot.on <| .setPar (.refl ..)
      split
      · exact .next <| .ite (reply_foot.on h₂) <| reply_foot.on h₂
      · exact .next h₂

theorem execCheckin_framed : Framed .checkin s (execCheckin s) := by
  unfold execCheckin
  refine .unless ?_
  split
  · exact .ite (.next <| checkinCommit_foot.on <| .incPar <| .withNvm (.refl ..)) <|
      .unless <| .next <| askNvm_foot.on <| .withUpd (.refl ..)
  · exact .unless <| .next <| askNvm_foot.on <| .withUpd (.refl ..)

/-! ## Every command -/

/-- Every command answers a next state and keeps to its frame. -/
theorem exec_framed : ∀ (c : Instr) (s : State), Framed c s (exec c s)
  | .ping .., _ => .submit opPing_foot
  | .ident .., _ => .submit opIdent_foot
  | .paramGet .., _ => .submit opParamGet_foot
  | .paramSet .., _ => .submit opParamSet_foot
  | .paramGetMulti .., _ => .submit opParamGetMulti_foot
  | .objState .., _ => .submit opObjState_foot
  | .objEnable .., _ => .submit opObjEnable_foot
  | .objDisable .., _ => .submit opObjEnable_foot
  | .objClearLatch .., _ => .submit opObjClearLatch_foot
  | .setpointSlew .., _ => .submit opSetpointSlew_foot
  | .coefBankLoad .., _ => .submit opCoefBankLoad_foot
  | .coefBankSwap .., _ => .submit opCoefBankSwap_foot
  | .flumeStart .., _ => .submit opFlumeStart_foot
  | .tailraceArm .., _ => .submit opTailraceArm_foot
  | .tailraceRead .., _ => .submit opTailraceRead_foot
  | .gristRead .., _ => .submit opGristRead_foot
  | .gristClearNonce .., _ => .submit opGristClear_foot
  | .gristClear .., _ => .submit opGristClear_foot
  | .gristTriggerSet .., _ => .submit opGristTriggerSet_foot
  | .bistRequest .., _ => .submit opBistRequest_foot
  | .bistCancel .., _ => .submit opBistRequest_foot
  | .bistResult .., _ => .submit opBistResult_foot
  | .battAuth .., _ => .submit opBattAuth_foot
  | .battLearnCommit .., _ => .submit opBattLearnCommit_foot
  | .seqPowerOn .., _ => .submit opSeqPowerOn_foot
  | .seqPowerOff .., _ => .submit opSeqPowerOff_foot
  | .seqStep .., _ => .submit opSeqStep_foot
  | .timeSet .., _ => .submit opTimeSet_foot
  | .timeGet .., _ => .submit opTimeGet_foot
  | .updOpen .., _ => .submit opUpdOpen_foot
  | .updBlock .., _ => .submit opUpdBlock_foot
  | .updClose .., _ => .submit opUpdClose_foot
  | .updSchedule .., _ => .submit opUpdSchedule_foot
  | .updStatus .., _ => .submit opUpdStatus_foot
  | .updCancel .., _ => .submit opUpdCancel_foot
  | .lcState .., _ => .submit opLcState_foot
  | .lcNonce .., _ => .submit opLcTransition_foot
  | .lcTransition .., _ => .submit opLcTransition_foot
  | .writeKey .., _ => .submit opLcTransition_foot
  | .debugUnlock .., _ => .submit opDebugUnlock_foot
  | .debugRelock .., _ => .submit opDebugUnlock_foot
  | .abort .., _ => .submit opAbort_foot
  | .resultPoll .., _ => .submit opResultPoll_foot
  | .operationStart, _ => execOperationStart_framed
  | .reqStream .., _ => .next write_foot.within
  | .doorbellSubmit .., _ => .next write_foot.within
  | .doorbellDiscard .., _ => .next write_foot.within
  | .replyStream .., _ => .next readRow_foot.within
  | .alertCause .., _ => .next readRow_foot.within
  | .fastStatus .., _ => .next readRow_foot.within
  | .highByteLatch .., _ => .next readRow_foot.within
  | .windowWrite .., _ => .next write_foot.within
  | .cautiousExit .., _ => .when <| .next <| violationRecord_foot.on <| .setPar (.refl ..)
  | .clockLowTimeout .., _ => .when <| .next <| .incPar (.refl ..)
  | .alertResponse .., _ => execAlertResponse_framed
  | .addressMatchWake .., _ => execAddressMatchWake_framed
  | .wakeStretchRelease .., _ => .when <| .next <| .updPar modPort_foot.within
  | .stateRequest .., _ => .submit opParamSet_foot
  | .configConfirm .., _ => .submit opParamSet_foot
  | .shelfId .., _ => .submit opParamSet_foot
  | .modeRequestRun .., _ => .submit opParamSet_foot
  | .modeRequestFloat .., _ => .submit opParamSet_foot
  | .modeRequestWatch .., _ => .submit opParamSet_foot
  | .itApply .., _ => .submit opParamSet_foot
  | .cautiousAck .., _ => .submit opParamSet_foot
  | .trackLimit .., _ => .submit opParamSet_foot
  | .cogEnable .., _ => .submit opParamSet_foot
  | .maxLatency .., _ => .submit opParamGet_foot
  | .tMaxSeen .., _ => .submit opParamGet_foot
  | .wakeStretchMax .., _ => .submit opParamGet_foot
  | .timerCount _ _ (some _), _ => .submit opParamSet_foot
  | .timerCount _ _ none, _ => .submit opParamGet_foot
  | .compare .., _ => .submit opParamSet_foot
  | .prescale .., _ => .submit opParamSet_foot
  | .outMode .., _ => .submit opParamSet_foot
  | .capture .., _ => .submit opParamGet_foot
  | .timerMatch .., _ => execTimerMatch_framed
  | .timerWrap .., _ => execTimerWrap_framed
  | .timerCapture .., _ => execTimerCapture_framed
  | .debugHalt, _ => .when <| .next modTime_foot.within
  | .debugHaltRelease, _ => .next modTime_foot.within
  | .uhlesLinkLoss, _ => .when <| .next linkLoss_foot.within
  | .uhlesLinkRecovery .., _ => execUhlesLinkRecovery_framed
  | .pwmPeriodStart .., _ => execPwmPeriodStart_framed
  | .groupBoundary .., _ => execGroupBoundary_framed
  | .sampleRequest .., _ => execSampleRequest_framed
  | .innerEvaluation .., _ => execInnerEvaluation_framed
  | .outerTrigger .., _ => execOuterTrigger_framed
  | .sarRoundSlot .., _ => execSarRoundSlot_framed
  | .sarSelfCheck .., _ => execSarSelfCheck_framed
  | .phaseFailNotice .., _ => execPhaseFailNotice_framed
  | .swapRegistration, _ => execSwapRegistration_framed
  | .bankLoadCommit, _ => execBankLoadCommit_framed
  | .flumeEnd, _ => .when <| .next flumeEnd_foot.within
  | .tailraceDone, _ => .when <| .next <| .setPar (.refl ..)
  | .segmentStart .., _ => .when <| .next segStart_foot.within
  | .segmentActive .., _ => execSegmentActive_framed
  | .hiccupOffTimeEnd .., _ => execHiccupOffTimeEnd_framed
  | .runUndervolt .., _ => .when <| .next failAttempt_foot.within
  | .overvolt .., _ => .when <| .next failAttempt_foot.within
  | .syncinEdge .., _ => execSyncinEdge_framed
  | .syncinMissing, _ => .when <| .next syncMiss_foot.within
  | .sluiceTick .., _ => execSluiceTick_framed
  | .seatStable .., _ => .unless <| .next <| serveAct_foot.on <| seatStabled_foot.on modFeeder_foot.within
  | .seatOpen .., _ => .unless <| .next <| seatOpened_foot.on modFeeder_foot.within
  | .insertDelay .., _ => .unless <| .next <| serveAct_foot.on modFeeder_foot.within
  | .faultTimer .., _ => .when <| .next <| tripWith_foot.on modFeeder_foot.within
  | .soa .., _ => .when <| .next <| tripWith_foot.on modFeeder_foot.within
  | .startTimeout .., _ => .when <| .next tripWith_foot.within
  | .ovQualify .., _ => .when <| .next tripWith_foot.within
  | .itCurve .., _ => .when <| .next <| tripWith_foot.on modFeeder_foot.within
  | .fastTrip .., _ => .when <| .next modFeeder_foot.within
  | .weirProof .., _ => .unless <| .next <| proofJudge_foot.on proofStore_foot.within
  | .stringConnect .., _ => .when <| .next <| setObj_foot.on modStr_foot.within
  | .stringSwitchTick .., _ => execStringSwitchTick_framed
  | .connectTimeout .., _ => .when <| .next stringTrip_foot.within
  | .dischargeReversal .., _ => .when <| .next modStr_foot.within
  | .stringFastTrip .., _ => .when <| .next <| modStr_foot.on switchOff_foot.within
  | .thermalSample .., _ => execThermalSample_framed
  | .zoneCrit .., _ => execZoneCrit_framed
  | .zoneWarnClear .., _ => execZoneWarnClear_framed
  | .thermalLatch .., _ => .when <| .next saveCutThermal_foot.within
  | .fantailTick .., _ => execFantailTick_framed
  | .tickOverrun, _ => .unless <| .next <| budgetRecord_foot.on <| planDrop_foot.on <| .incPar <| .setBit (.refl ..)
  | .inputLost .., _ => .when <| .next <| budgetRecord_foot.on <| .setPar (.refl ..)
  | .deferralLimit .., _ => execDeferralLimit_framed
  | .powerUpWalkStart, _ => .when <| .next enterSeq_foot.within
  | .onDelay .., _ => .when <| .next railOn_foot.within
  | .railQualified .., _ => .when <| .next <| .setPar modRail_foot.within
  | .pgTimeout .., _ => .when <| .next <| railRecord_foot.on <| .setBit modRail_foot.within
  | .railPgDrop .., _ => execRailPgDrop_framed
  | .railFault .., _ => execRailFault_framed
  | .railPoll .., _ => execRailPoll_framed
  | .stateWorkFinished, _ => .when <| .next <| powerOnDue_foot.on finishWork_foot.within
  | .pfwTime, _ => .when <| .next enterBraking_foot.within
  | .dischargeTimeout .., _ => .when <| .next <| raise_foot.on <| railRecord_foot.on <| .setBit modRail_foot.within
  | .cogRise, _ => execCogRise_framed
  | .cogLowEnd .., _ => execCogLowEnd_framed
  | .cogPulseEnd, _ => execCogPulseEnd_framed
  | .cogHoldMax, _ => execCogHoldMax_framed
  | .cogStall, _ => execCogStall_framed
  | .cogJoinWatch, _ => execCogJoinWatch_framed
  | .cogJoinTimeout, _ => execCogJoinTimeout_framed
  | .pbPress .., _ => execPbPress_framed
  | .forceOff, _ => .unless <| .next forceOff_foot.within
  | .mrN, _ => .unless <| .next forceOff_foot.within
  | .sag, _ => execSag_framed
  | .vaux12Good, _ => .when <| .next <| .withSupply (.refl ..)
  | .saveTrigger, _ => .when <| .next saveBegin_foot.within
  | .saveCommit .., _ => execSaveCommit_framed
  | .saveResume, _ => execSaveResume_framed
  | .holdUpEnd, _ => .when <| .next <| csReset_foot.on commitActive_foot.within
  | .supplyFall .., _ => execSupplyFall_framed
  | .controlSideBoot .., _ => execControlSideBoot_framed
  | .psdReset, _ => execPsdReset_framed
  | .vps12Uvlo, _ => .next <| psdOutputsOff_foot.on <| .withSupply (.refl ..)
  | .vps12Return, _ => .next <| .withSupply (.refl ..)
  | .choldTest .., _ => execCholdTest_framed
  | .nvmPageProgram, _ => execNvmPageProgram_framed
  | .nvmTransactionCommit, _ => execNvmTransactionCommit_framed
  | .floatEntry, _ => .when <| .next floatEnter_foot.within
  | .watchEntry .., _ => .when <| .next watchEnter_foot.within
  | .watchWake .., _ => .when <| .next wake_foot.within
  | .watchReturn .., _ => .when <| .next watchEnter_foot.within
  | .aonWakeTimer, _ => execAonWakeTimer_framed
  | .xt32Fail, _ => .unless <| .next <| recordAwake_foot.on <| .incPar <| clockBit_foot.on modTime_foot.within
  | .xt32Return, _ => .unless <| .next modTime_foot.within
  | .xt25Fail, _ => execXt25Fail_framed
  | .xt25Return, _ => .when <| .next modTime_foot.within
  | .tickLatch .., _ => .when <| .next latchTick_foot.within
  | .tickJournal, _ => .when <| .next askOnce_foot.within
  | .ceilingLate, _ => .when <| .next <| record_foot.on clockBit_foot.within
  | .wallSlewStep, _ => execWallSlewStep_framed
  | .l3Restart .., _ => .when <| .next l3Restart_foot.within
  | .l3RestartEnd, _ => execL3RestartEnd_framed
  | .startupConfigApplied, _ => execStartupConfigApplied_framed
  | .shelfIdRead .., _ => execShelfIdRead_framed
  | .startupTimeout, _ => .when <| .next <| shift_foot.on <| .withShelf (.refl ..)
  | .recoveryEntry, _ => .when <| .next shift_foot.within
  | .recoveryExit .., _ => .when <| .next shift_foot.within
  | .trackingWindowEnd .., _ => execTrackingWindowEnd_framed
  | .trackingJournal .., _ => .when <| .next askOnce_foot.within
  | .energyJournal, _ => .when <| .next askOnce_foot.within
  | .gristMirror, _ => .when <| .next askMirror_foot.within
  | .mirrorLate, _ => .when <| .next <| raise_foot.on <| .withGrist (.refl ..)
  | .nonceExpiry .., _ => .unless <| .ite (.next <| .withLife (.refl ..)) <| .next <| .withGrist (.refl ..)
  | .scrubCodeword .., _ => execScrubCodeword_framed
  | .memorySliceTest .., _ => execMemorySliceTest_framed
  | .logicSliceTest .., _ => execLogicSliceTest_framed
  | .laneWithdrawal .., _ => .when <| .next setLane_foot.within
  | .laneTest .., _ => execLaneTest_framed
  | .fullTest .., _ => .unless <| .next <| modDresser_foot.on <| csReset_foot.on commitActive_foot.within
  | .pollRound .., _ => execPollRound_framed
  | .adpoxonFrameRetry .., _ => .when <| .next <| .incPar (.refl ..)
  | .modelUpdate, _ => .unless <| .next <| each_foot (.refl ..) fun _ t h => .ite h <| modelString_foot.on h
  | .endOfFullCharge .., _ => execEndOfFullCharge_framed
  | .moduleAuth .., _ => execModuleAuth_framed
  | .responseRead .., _ => execResponseRead_framed
  | .authRetry .., _ => .when <| .next modModule_foot.within
  | .batteryJournal, _ => .unless <| .next <| each_foot (.refl ..) fun _ t h => askBattery_foot.on h
  | .dsFrame .., _ => execDsFrame_framed
  | .dsFrameAbandon .., _ => .when <| .next <| frameError_foot.on <| .setBit (.refl ..)
  | .busRecovery .., _ => execBusRecovery_framed
  | .polIdentify .., _ => execPolIdentify_framed
  | .polPoll .., _ => execPolPoll_framed
  | .satelliteLoad .., _ => execSatelliteLoad_framed
  | .satelliteRetry .., _ => .when <| .next <| setObj_foot.on modSat_foot.within
  | .bundleVerified, _ => execBundleVerified_framed
  | .activationDue, _ => .when <| .next fallDue_foot.within
  | .checkin, _ => execCheckin_framed
  | .checkinTimeout, _ => .when <| .next l3Restart_foot.within
  | .saveArmed, _ => .when <| .next <| .withSupply (.refl ..)
  | .railPgHigh .., _ => .when <| .next pgRise_foot.within
  | .railDischarged .., _ => .when <| .next railEmpty_foot.within
  | .tmrPulseEnd .., _ => .when <| .next pulseEnd_foot.within
  | .choldTestDue, _ => .when <| .next askOnce_foot.within


theorem partsOf_of_ne {c : Instr} (h : c ≠ .aonWakeTimer) : partsOf c = fldsOf c := by
  unfold partsOf
  split
  · contradiction
  · rfl

/-- Every command but AON_WAKE_TIMER keeps to the frame that `fldsOf` and `pidsOf` give it. -/
theorem exec_keeps_frame {c : Instr} {t : State} (hc : c ≠ .aonWakeTimer) (h : exec c s = .next t) :
    Foot (fldsOf c) (pidsOf c) s t := by
  obtain ⟨t', ht, hf⟩ := exec_framed c s
  obtain rfl : t' = t := Host.Outcome.next.inj (ht.symm.trans h)
  exact partsOf_of_ne hc ▸ hf

/-- Settles O2: the next state is the one that `exec_framed` finds. -/
theorem everyCommandCompletes : Obligations.EveryCommandCompletes := by
  intro c s
  obtain ⟨t, ht, -⟩ := exec_framed c s
  exact ⟨t, ht⟩

/-- AON_WAKE_TIMER takes one free value in WATCH, where the tick is latched and the wake timer is set. -/
theorem exec_aonWakeTimer_draws {l : TickLatch} (hl : s.time.latch = some l) (hw : s.supply.cs = .watch)
    (hp : (s.par oDevice Pid.Device.WAKE_TIMER_PERIOD).toNat ≠ 0) :
    ∃ t, exec .aonWakeTimer s = .next t ∧ t.draws = s.draws + 1 := by
  let period := (s.par oDevice Pid.Device.WAKE_TIMER_PERIOD).toNat
  refine ⟨s.draw.2.wake 64 (l.aon + BitVec.ofNat 48 (32768 * period)) (BitVec.ofInt 5 s.draw.1), ?_,
    wake_foot.fld .draws rfl⟩
  show execAonWakeTimer s = _
  simp [execAonWakeTimer, hl, hw, hp, period]

/-- A shelf in WATCH whose wake timer is set to 60 s. -/
def watchTimed : State :=
  { State.reset with
    supply := { State.reset.supply with cs := .watch }
    time := { State.reset.time with latch := some ⟨0, 0, 0, true⟩ } }.setPar oDevice Pid.Device.WAKE_TIMER_PERIOD 60

/-- Refutes O58: AON_WAKE_TIMER takes a free value in WATCH, and `fldsOf` does not list `draws` for it. By
`exec_keeps_frame` it is the only command that leaves its frame. -/
theorem not_commandsKeepTheirFrames : ¬ Obligations.CommandsKeepTheirFrames := by
  intro h
  obtain ⟨t, ht, hd⟩ := exec_aonWakeTimer_draws (s := watchTimed) rfl rfl <| by
    rw [watchTimed, par_setPar_same _ (by decide)]
    decide
  have hs : t.draws = watchTimed.draws := (h _ _ _ ht).fld .draws rfl
  omega

end Sys2Proof.Machine

/-! # The rows that read parameters

The bytes of a read, an accepted request's reply, and what a read does (R5, R366, R368). -/

namespace Sys2Proof.Machine

set_option Elab.async false

/-! ## The bytes of a read -/

theorem leBytes_length (n : Nat) (v : Int) : (leBytes n v).length = n := by simp [leBytes]

theorem leBytes_one (v : Nat) : leBytes 1 v = [BitVec.ofNat 8 v] := by
  simp [leBytes]

theorem leBytes_two (v : Nat) : leBytes 2 v = [BitVec.ofNat 8 v, BitVec.ofNat 8 (v / 256)] := by
  simp [leBytes, List.range_succ, ← BitVec.ofInt_natCast]

theorem getBytes_eq (o pid : Nat) :
    getBytes o pid = [BitVec.ofNat 8 o, 0, BitVec.ofNat 8 pid, BitVec.ofNat 8 (pid / 256)] := by
  simp [getBytes, leBytes_one, leBytes_two]

theorem multiEntry_getBytes {o pid : Nat} (ho : o < 256) (hp : pid < 4096) :
    multiEntry ([1, 0, 0, 0] ++ getBytes o pid) 0 = (o, 0, pid) := by
  simp [getBytes_eq, multiEntry, byteAt, fieldU, slice, leNat]
  omega

/-! ## The rows of the parameter tables -/

theorem findDesc_pid {o pid : Nat} {d : Desc} (h : findDesc o pid = some d) : d.pid = pid := by
  simpa using List.find?_some h

theorem entryCheck_none {o pid : Nat} {d : Desc} (hr : objReserved o = false) (hd : findDesc o pid = some d)
    (hp : pid < 4096) : entryCheck o pid false = none := by
  simp [entryCheck, hr, hd, hp]

/-- The parameters that a read clears: MAX_LATENCY, T_MAX_SEEN, CAPTURE and WAKE_STRETCH_MAX. -/
def clearedPids : List Nat :=
  [Pid.Device.MAX_LATENCY, Pid.Thermal.T_MAX_SEEN, Pid.Timer.CAPTURE, Pid.HPort.WAKE_STRETCH_MAX]

theorem clearedPids_ne : ∀ pid ∈ clearedPids,
    pid < 4096 ∧ pid ≠ Pid.ENABLE ∧ pid ≠ Pid.HPort.OPS_COMPLETED ∧ pid ≠ Pid.Timer.COUNT := by decide

theorem commonDescs_acc_ne_rc {o : Nat} {d : Desc} (h : d ∈ commonDescs o) : d.acc ≠ .rc := by
  unfold commonDescs at h
  split at h <;> split at h <;> fin_cases h <;> simp

theorem typeDescs_rc {o : Nat} : ∀ d ∈ typeDescs o, d.acc = .rc → d.pid ∈ clearedPids := by
  unfold typeDescs
  repeat' split
  case h_9.isFalse => simp [railD2Descs]
  all_goals decide

theorem findDesc_rc {o pid : Nat} {d : Desc} (h : findDesc o pid = some d) (ha : d.acc = .rc) :
    pid ∈ clearedPids := by
  have hm : d ∈ descsOf o := List.mem_of_find?_eq_some h
  rw [← findDesc_pid h]
  unfold descsOf at hm
  split at hm
  · cases hm
  · rcases List.mem_append.1 hm with hc | ht
    · exact absurd ha (commonDescs_acc_ne_rc hc)
    · exact typeDescs_rc d ht ha

/-! ## Objects -/

theorem objType_oPort (p : HostPort) : objType (oPort p) = .hostPort := by cases p <;> rfl

theorem objType_oTimer {n : Nat} (h : n < 8) : objType (oTimer n) = .timer := by
  simp only [objType, oTimer]
  repeat rw [if_neg (by omega)]
  rw [if_pos (by omega)]

theorem oTimer_lt {n : Nat} (h : n < 8) : oTimer n < 256 := by simp only [oTimer]; omega

theorem objReserved_oTimer {n : Nat} (h : n < 8) : objReserved (oTimer n) = false := by
  simp [objReserved, objType_oTimer h]

theorem exists_oTimer_of_objType {o : Nat} (h : objType o = .timer) : ∃ n < 8, o = oTimer n := by
  have hb : 0xE8 ≤ o ∧ o < 0xF0 := by
    simp only [objType, ite_eq_iff, reduceCtorEq, and_false, false_or, or_false, and_true] at h
    omega
  exact ⟨o - 0xE8, by omega, by simp only [oTimer]; omega⟩

theorem ne_capture {o pid : Nat} (h : pid ≠ Pid.Timer.CAPTURE) : ∀ n < 8, (o, pid) ≠ (oTimer n, Pid.Timer.CAPTURE) :=
  fun _ _ e => h (congrArg Prod.snd e)

/-- Every sensor is an object of the map and has a T_MAX_SEEN that a read clears. -/
theorem oTherm_tMaxSeen (n : Fin 16) : oTherm n.val < 256 ∧ objReserved (oTherm n.val) = false ∧
    ∀ d, findDesc (oTherm n.val) Pid.Thermal.T_MAX_SEEN = some d → d.acc = .rc := by
  have h : ∀ n : Fin 16, oTherm n.val < 256 ∧ objReserved (oTherm n.val) = false ∧
      (findDesc (oTherm n.val) Pid.Thermal.T_MAX_SEEN).map (·.acc) = some .rc := by decide
  obtain ⟨hlt, hr, hm⟩ := h n
  refine ⟨hlt, hr, fun d hd => ?_⟩
  rw [hd] at hm
  exact Option.some.inj hm

theorem State.enabled_oPort (s : State) (p : HostPort) : s.enabled (oPort p) = (s.par (oPort p) Pid.ENABLE == 1) := by
  cases p <;> rfl

/-! ## An accepted request and its reply -/

/-- Hopper starts an accepted request at once: its operation runs where its entry has been taken. -/
theorem submitReq_accepted {s : State} {r : Req} {n : Nat} {p : Bytes} (run : Op → State → State)
    (h : Accepts s r n p) : submitReq r n p run s = run (theOp s r n p) (Taken s r n p) := by
  obtain ⟨hs, ha, hf, hc, -⟩ := h
  simp only [submitReq, hs, ha, hc, Nat.not_lt.2 hf, Bool.not_true, Bool.false_eq_true, if_false]
  rfl

theorem reqTagPrio_theOp (s : State) (r : Req) (n : Nat) (p : Bytes) : (theOp s r n p).tagPrio = reqTagPrio r := by
  have := r.tag.isLt
  have := r.prio.isLt
  simp only [theOp, State.newOp, Op.tagPrio, reqTagPrio]
  omega

theorem vget_vmod {α : Type} {n : Nat} (v : Vector α n) {i : Nat} (h : i < n) (f : α → α) (d : α) :
    vget (vmod v i f) i d = f (vget v i d) := by
  simp [vget, vmod, h]

theorem State.port_modPort (s : State) (p : HostPort) (f : HostPortAux → HostPortAux) :
    (s.modPort p f).port p = f (s.port p) :=
  vget_vmod _ (by cases p <;> decide) f _

theorem State.timer_modTimer (s : State) {n : Nat} (h : n < 8) (f : TimerAux → TimerAux) :
    (s.modTimer n f).timer n = f (s.timer n) := vget_vmod _ h f _

theorem State.replies_raisePort (s : State) (p : HostPort) (c : Nat) :
    ((s.raisePort p c).port p).replies = (s.port p).replies := by
  unfold State.raisePort
  rw [State.port_modPort]
  split <;> rfl

/-- The reply to a request on an enabled port is the newest on the port. -/
theorem State.reply_replied {s x : State} {r : Req} {n st c : Nat} {p b : Bytes}
    (h : x.enabled (oPort r.port) = true) : Replied s (x.reply (theOp s r n p) st c b) r n st c b := by
  have hport : (theOp s r n p).port = r.port := rfl
  have hen : (x.incPar (oPort r.port) Pid.HPort.OPS_COMPLETED).enabled (oPort r.port) = true := by
    rw [State.enabled_oPort] at h ⊢
    rw [← h]
    exact congrArg (· == 1) (x.par_setPar_other _ (by simp [keyOf]))
  have htag : ¬ 64 ≤ (theOp s r n p).tag := Nat.not_le.2 (Nat.mod_lt _ (by decide))
  have hr (y : State) (z : Reply) : (((y.modPort r.port fun a => { a with replies := a.replies ++ [z] }).modOp
      (theOp s r n p).id fun e => { e with stage := .replied }).port r.port).replies.getLast? = some z := by
    have : ∀ (y : State) id g, (y.modOp id g).port r.port = y.port r.port := fun _ _ _ => rfl
    rw [this, State.port_modPort, List.getLast?_concat]
  unfold State.reply Replied
  simp only [hport, hen, htag, Bool.not_true, Bool.false_and, Bool.false_or, decide_false, Bool.false_eq_true, if_false,
    reqTagPrio_theOp]
  split
  · rw [State.replies_raisePort]
    exact hr _ _
  · exact hr _ _

/-! ## What a read does -/

section
variable {s : State} {d : Desc}

theorem State.readEffect_capture {n : Nat} (h : n < 8) (hd : d.pid = Pid.Timer.CAPTURE) :
    s.readEffect (oTimer n) d = s.modTimer n fun a => { a with queue := a.queue.drop 1 } := by
  simp [State.readEffect, objType_oTimer h, hd]

theorem State.readEffect_count {n : Nat} (h : n < 8) (hd : d.pid = Pid.Timer.COUNT) (he : n % 2 = 0)
    (hl : s.par (oTimer n) Pid.Timer.LINK = 1) :
    s.readEffect (oTimer n) d =
      s.setPar (oTimer (n + 1)) Pid.Timer.HIGH_SHADOW (s.par (oTimer (n + 1)) Pid.Timer.COUNT) := by
  have : oTimer n % 2 = 0 := by simp only [oTimer]; omega
  simp [State.readEffect, objType_oTimer h, hd, this, hl, Nat.add_assoc]

/-- Any other parameter that a read clears reads 0 afterwards. -/
theorem State.readEffect_rc {o : Nat} (ha : d.acc = .rc) (hd : d.pid ∈ clearedPids)
    (hc : ∀ n < 8, (o, d.pid) ≠ (oTimer n, Pid.Timer.CAPTURE)) : s.readEffect o d = s.setPar o d.pid 0 := by
  have h₁ : ¬ (objType o = .timer ∧ d.pid = Pid.Timer.CAPTURE) := by
    rintro ⟨ht, hp⟩
    obtain ⟨n, hn, rfl⟩ := exists_oTimer_of_objType ht
    exact hc n hn (by rw [hp])
  obtain ⟨-, -, -, h₂⟩ := clearedPids_ne _ hd
  simp [State.readEffect, h₁, h₂, ha]

/-- A read leaves every ENABLE as it was. -/
theorem State.par_enable_readEffect {o o' pid : Nat} (hd : findDesc o pid = some d) :
    (s.readEffect o d).par o' Pid.ENABLE = s.par o' Pid.ENABLE := by
  unfold State.readEffect
  split
  · exact State.modTimer_foot.par _ rfl _ _ (by decide) rfl
  · split
    · refine s.par_setPar_other _ fun h => ?_
      exact absurd ((keyOf_inj (by decide) (by decide)).1 h).2 (by decide)
    · split
      · next ha =>
        obtain ⟨hb, hne, -⟩ := clearedPids_ne _ (findDesc_rc hd ha)
        rw [findDesc_pid hd]
        exact s.par_setPar_other _ fun h => hne ((keyOf_inj (by decide) hb).1 h).2.symm
      · rfl

end

/-! ## PARAM_GET -/

section
variable {s : State} {r : Req} {o pid : Nat} {d : Desc} (ho : o < 256) (hr : objReserved o = false)
  (hd : findDesc o pid = some d) (hp : pid < 4096)
include ho hr hd hp

/-- PARAM_GET takes the effect of the read and answers with the entry as it stood before. -/
theorem exec_paramGet (ha : Accepts s r 0x10 (getBytes o pid)) :
    exec (.paramGet r (getBytes o pid)) s =
      .next (((Taken s r 0x10 (getBytes o pid)).readEffect o d).ok (theOp s r 0x10 (getBytes o pid))
        ((Taken s r 0x10 (getBytes o pid)).paramEntry o d)) := by
  change Host.Outcome.next (submitReq r 0x10 (getBytes o pid) opParamGet s) = _
  rw [submitReq_accepted _ ha]
  have hpay : (theOp s r 0x10 (getBytes o pid)).payload = getBytes o pid := rfl
  have hl : (getBytes o pid).length = 4 := by rw [getBytes_eq]; rfl
  have h₀ : byteAt (getBytes o pid) 0 = o := by simp [getBytes_eq, byteAt]; omega
  have h₁ : byteAt (getBytes o pid) 1 = 0 := by simp [getBytes_eq, byteAt]
  have h₂ : fieldU (getBytes o pid) 2 2 = pid := by simp [getBytes_eq, fieldU, slice, leNat]; omega
  simp [opParamGet, hpay, hl, h₀, h₁, h₂, hd, entryCheck_none hr hd hp]

end

/-- A reply leaves every parameter but OPS_COMPLETED as it was. -/
theorem State.ok_par (x : State) (e : Op) (b : Bytes) (o : Nat) {pid : Nat} (hp : pid < 4096)
    (hn : pid ≠ Pid.HPort.OPS_COMPLETED) : (x.ok e b).par o pid = x.par o pid :=
  State.ok_foot.par _ rfl o pid hp (by simpa using hn)

/-- A reply leaves every timer as it was. -/
theorem State.ok_timer (x : State) (e : Op) (b : Bytes) (n : Nat) : (x.ok e b).timer n = x.timer n :=
  congrArg (fun v => vget v n TimerAux.reset) (State.ok_foot.fld .timers rfl)

/-- The reply to an accepted request stands on its port when the read has taken its effect. -/
theorem replied_of_read {s : State} {r : Req} {n o pid : Nat} {p b : Bytes} {d : Desc} (ha : Accepts s r n p)
    (hd : findDesc o pid = some d) :
    Replied s (((Taken s r n p).readEffect o d).ok (theOp s r n p) b) r n stOK 0 b := by
  refine State.reply_replied ?_
  rw [State.enabled_oPort, State.par_enable_readEffect hd, ← ha.enabled, State.enabled_oPort]
  rfl

section
variable {s : State} {r : Req} {o pid : Nat} {d : Desc} (ho : o < 256) (hr : objReserved o = false)
  (hd : findDesc o pid = some d) (hp : pid < 4096) (ha : Accepts s r 0x10 (getBytes o pid))
include ho hr hd hp ha

/-- A PARAM_GET is answered with the entry; what the read has done holds then too. -/
theorem runs_paramGet {P : State → Prop}
    (h : P (((Taken s r 0x10 (getBytes o pid)).readEffect o d).ok (theOp s r 0x10 (getBytes o pid))
      ((Taken s r 0x10 (getBytes o pid)).paramEntry o d))) :
    Runs (.paramGet r (getBytes o pid)) s fun t =>
      Replied s t r 0x10 stOK 0 ((Taken s r 0x10 (getBytes o pid)).paramEntry o d) ∧ P t :=
  ⟨_, exec_paramGet ho hr hd hp ha, replied_of_read ha hd, h⟩

end

section
variable (s : State) (e : Op) (b : Bytes) {d : Desc}

/-- A parameter that a read clears reads 0 once the reply stands. -/
theorem read_clears {o pid : Nat} (hd : findDesc o pid = some d) (ha : d.acc = .rc)
    (hc : ∀ n < 8, (o, pid) ≠ (oTimer n, Pid.Timer.CAPTURE)) : ((s.readEffect o d).ok e b).par o pid = 0 := by
  have hm := findDesc_rc hd ha
  obtain ⟨hb, -, hn, -⟩ := clearedPids_ne _ hm
  obtain rfl := findDesc_pid hd
  rw [State.ok_par _ _ _ _ hb hn, State.readEffect_rc ha hm hc, State.par_setPar_same _ hb]

/-- A read of CAPTURE takes the oldest capture from its queue. -/
theorem read_takes_capture {n : Nat} (h : n < 8) (hd : findDesc (oTimer n) Pid.Timer.CAPTURE = some d) :
    (((s.readEffect (oTimer n) d).ok e b).timer n).queue = (s.timer n).queue.drop 1 := by
  rw [State.ok_timer, State.readEffect_capture h (findDesc_pid hd), State.timer_modTimer _ h]

/-- A read of COUNT of a linked even timer latches the count of the odd one. -/
theorem read_latches_count {n : Nat} (h : n < 8) (hd : findDesc (oTimer n) Pid.Timer.COUNT = some d)
    (he : n % 2 = 0) (hl : s.par (oTimer n) Pid.Timer.LINK = 1) :
    ((s.readEffect (oTimer n) d).ok e b).par (oTimer (n + 1)) Pid.Timer.HIGH_SHADOW =
      s.par (oTimer (n + 1)) Pid.Timer.COUNT := by
  rw [State.ok_par _ _ _ _ (by decide) (by decide), State.readEffect_count h (findDesc_pid hd) he hl,
    State.par_setPar_same _ (by decide)]

end

/-! ## PARAM_GET_MULTI -/

theorem State.paramEntry_length_le (s : State) (o : Nat) (d : Desc) : (s.paramEntry o d).length ≤ 12 := by
  have : d.enc.size ≤ 8 := by cases d.enc <;> decide
  simp only [State.paramEntry, encBytes, List.length_append, leBytes_length]
  omega

section
variable {o pid : Nat} {d : Desc} (hd : findDesc o pid = some d)
include hd

/-- An entry always fits the reply: the one that is asked for is read. -/
theorem State.readEntries_one (s : State) :
    s.readEntries [(o, pid)] 268 0 [] = (1, s.paramEntry o d, s.readEffect o d) := by
  have hb : ¬ (s.paramEntry o d).length > 268 := by
    have := s.paramEntry_length_le o d
    omega
  simp only [State.readEntries, hd, hb, if_false, List.nil_append]

theorem multiFail_one (hr : objReserved o = false) (hp : pid < 4096) : multiFail [(o, 0, pid)] = none := by
  simp [multiFail, entryCheck_none hr hd hp]

/-- PARAM_GET_MULTI of one entry takes the effect of its read and answers with the count, the number read and the
entry. -/
theorem opParamGetMulti_one {e : Op} {s : State} (ho : o < 256) (hr : objReserved o = false) (hp : pid < 4096)
    (he : e.payload = [1, 0, 0, 0] ++ getBytes o pid) :
    opParamGetMulti e s = (s.readEffect o d).ok e ([1, 1, 0, 0] ++ s.paramEntry o d) := by
  have hl : e.payload.length = 8 := by rw [he, getBytes_eq]; rfl
  have h₀ : byteAt e.payload 0 = 1 := by rw [he]; rfl
  have hz : zeros e.payload 1 3 = true := by rw [he, getBytes_eq]; rfl
  have hm : (List.range 1).map (multiEntry e.payload) = [(o, 0, pid)] := by
    rw [← multiEntry_getBytes ho hp, he]; rfl
  unfold opParamGetMulti
  simp only [hl, h₀, hz, hm, multiFail_one hd hr hp, List.map_cons, List.map_nil, s.readEntries_one hd]
  rfl

end

/-! ## The obligations -/

/-- Settles O9: the checks of a PARAM_GET pass, so that it comes to the read's effect and the reply. -/
theorem paramGetReads : Obligations.ParamGetReads := by
  refine ⟨fun s r o pid d ho hr hd hp ha => ?_, fun s r o pid d ho hr hd hp ha => ?_⟩
  · refine runs_paramGet ho hr hd hp ha ⟨fun hrc hc => read_clears _ _ _ hd hrc hc, ?_⟩
    rintro n hn rfl rfl
    exact read_takes_capture (Taken s r 0x10 _) _ _ hn hd
  · refine ⟨_, rfl, ?_⟩
    rw [submitReq_accepted _ ha, opParamGetMulti_one hd ho hr hp rfl]
    exact replied_of_read ha hd

/-- Settles O8: each row is the PARAM_GET of its parameter. -/
theorem singleReadsAnswer : Obligations.SingleReadsAnswer := by
  intro s r reads
  refine ⟨fun d hd ha => ?_, fun n d hd ha => ?_, fun p d hd ha => ?_, fun n d hd ha => ?_, fun n d hd ha => ?_⟩
  · exact runs_paramGet (by decide) rfl hd (by decide) ha <|
      read_clears (Taken s r 0x10 _) _ _ hd (by cases hd; rfl) (ne_capture (by decide))
  · obtain ⟨hlt, hr, hrc⟩ := oTherm_tMaxSeen n
    exact runs_paramGet hlt hr hd (by decide) ha <|
      read_clears (Taken s r 0x10 _) _ _ hd (hrc d hd) (ne_capture (by decide))
  · cases p <;> exact runs_paramGet (by decide) rfl hd (by decide) ha <|
      read_clears (Taken s r 0x10 _) _ _ hd (by cases hd; rfl) (ne_capture (by decide))
  · exact runs_paramGet (oTimer_lt n.isLt) (objReserved_oTimer n.isLt) hd (by decide) ha <|
      read_takes_capture (Taken s r 0x10 _) _ _ n.isLt hd
  · exact runs_paramGet (oTimer_lt n.isLt) (objReserved_oTimer n.isLt) hd (by decide) ha <|
      read_latches_count (Taken s r 0x10 _) _ _ n.isLt hd

end Sys2Proof.Machine

/-! # The state after reset

Its invariant, and the Reset values of its parameters (R23, R29, R31, R36, R353). -/

namespace Sys2Proof.Machine

set_option Elab.async false

theorem lookupKey_eq_none {k : Nat} : ∀ {l : List (Nat × Int)}, k ∉ l.map Prod.fst → lookupKey k l = none
  | [], _ => rfl
  | _ :: l, h => by
    obtain ⟨h₁, h₂⟩ := not_or.1 (List.mem_cons.not.1 h)
    rw [lookupKey, if_neg h₁, lookupKey_eq_none h₂]

/-- The parameters that the STARTUP record has moved: reset stores these and no others. -/
def startupRecordParams : List (Nat × Nat) :=
  [(oShelf, Pid.SOURCE_SEQ), (oGrist, Pid.Grist.NEWEST_GEN), (oGrist, Pid.Grist.OLDEST_GEN),
    (oGrist, Pid.Grist.FIRST_BASE_GEN), (oGrist, Pid.Grist.FIRST_COUNT)]

theorem reset_params_keys : State.reset.params.map Prod.fst = startupRecordParams.map fun x => keyOf x.1 x.2 := rfl

/-- Every other parameter is at its Reset value. -/
theorem State.par_reset {o pid : Nat} (hp : pid < 4096) (h : (o, pid) ∉ startupRecordParams) :
    State.reset.par o pid = paramReset o pid := by
  unfold State.par
  rw [lookupKey_eq_none]
  · rfl
  · rw [reset_params_keys, List.mem_map]
    rintro ⟨⟨o', pid'⟩, hm, hk⟩
    have hb : ∀ x ∈ startupRecordParams, x.2 < 4096 := by decide
    obtain ⟨rfl, rfl⟩ := (keyOf_inj (hb _ hm) hp).1 hk
    exact h hm

theorem HopperWf.empty (n : Nat) : HopperWf { ops := [], nextId := n } where
  fresh _ h := nomatch h
  apart := .nil
  entries := by simp
  held := by simp
  control := by simp

/-- Settles O5: the five stored parameters are in order and off their Reset values. -/
theorem resetHasInvariant : Obligations.ResetHasInvariant where
  store := by decide
  mram := rfl
  hopper := .empty 1

/-- Settles O6: the parameter store of reset holds what the STARTUP record has moved. -/
theorem resetLeaves : Obligations.ResetLeaves :=
  ⟨rfl, rfl, rfl, rfl, rfl, rfl, by decide, fun _ _ => State.par_reset⟩

end Sys2Proof.Machine

/-! # Every step keeps the invariant

What the operations of a command keep, put together along the command's branches (R23, R279, R353). -/

namespace Sys2Proof.Machine

set_option Elab.async false

open State

variable {s : State}

/-! ## Outcomes that keep the invariant -/

section
variable {c : Prop} [Decidable c] {o : Host.Outcome State Fault Refusal}

theorem KeptO.skip : KeptO s (.next s) := .next (.refl s)

theorem KeptO.when (h : KeptO s o) : KeptO s (if c then o else .next s) := .ite h .skip

theorem KeptO.unless (h : KeptO s o) : KeptO s (if c then .next s else o) := .ite .skip h

end

/-- A request row keeps what its operation keeps. -/
theorem KeptO.submit {r : Req} {n : Nat} {p : Bytes} {run : Op → State → State}
    (h : ∀ e t, Kept s t → Kept s (run e t)) : KeptO s (.next (submitReq r n p run s)) :=
  .next (submitReq_kept _ _ _ _ _ (.refl s) h)

/-! ## The commands -/

/-! ### Requests, ports and timers -/

theorem execOperationStart_kept : KeptO s (execOperationStart s) := by
  unfold execOperationStart
  refine .unless ?_
  split
  · exact .next <| opRun_kept _ _ _ (.refl _)
  · exact .skip

theorem execAlertResponse_kept {port won} : KeptO s (execAlertResponse port won s) :=
  .unless <| .ite (.next <| busStop_kept _ _ (.refl _)) <| .next <| busStop_kept _ _ <|
    incPar_kept _ _ _ (modPort_kept _ _ _ (.refl _))

theorem execAddressMatchWake_kept {x} : KeptO s (execAddressMatchWake x s) := by
  unfold execAddressMatchWake
  extract_lets _ named s₁
  have hn : Kept s named := by
    unfold named
    split
    · exact named_kept _ _ _ _ (.refl _)
    · exact .refl _
  have h₁ : Kept s s₁ := modPort_kept _ _ _ hn
  refine .unless <| .ite ?_ ?_
  · split
    rename_i e
    exact .next <| wake_kept _ _ _ _ <| .snd e <| draw_kept _ h₁
  · exact .when <| .next <| setBit_kept _ _ _ _ h₁

theorem execTimerMatch_kept {tm} : KeptO s (execTimerMatch tm s) :=
  .unless <| .next <| matched_kept _ _ <| advanced_kept _ _ <| setValue_kept _ _ _ <|
    .ite (wrapped_kept _ _ (.refl _)) <|
    .ite (setBit_kept _ _ _ _ (.refl _)) (.refl _)

theorem execTimerWrap_kept {tm} : KeptO s (execTimerWrap tm s) := by
  unfold execTimerWrap
  extract_lets _ _ _ _ _ s₁ _ _ s₂
  have h₁ : Kept s s₁ := setBit_kept _ _ _ _ <| advanced_kept _ _ (setValue_kept _ _ _ (.refl _))
  have h₂ : Kept s s₂ := wrapped_kept _ _ <| advanced_kept _ _ (setValue_kept _ _ _ (.refl _))
  exact .unless <| .ite (.next <| .ite (matched_kept _ _ h₁) h₁) <| .next <| .ite (matched_kept _ _ h₂) h₂

theorem execTimerCapture_kept {tm rising count} :
    KeptO s (execTimerCapture tm rising count s) := by
  unfold execTimerCapture
  extract_lets _ _ _ _ _ s₁ s₂
  have h₁ : Kept s s₁ := setCount_kept _ _ _ (.refl _)
  have h₂ : Kept s s₂ := modTimer_kept _ _ _ h₁
  exact .unless <| .ite (.next <| incPar_kept _ _ _ <| setBit_kept _ _ _ _ h₁) <| .ite (.next <|
    modTimer_kept _ _ _ h₂) <| .next h₂

theorem execUhlesLinkRecovery_kept {lossUs} :
    KeptO s (execUhlesLinkRecovery lossUs s) := by
  unfold execUhlesLinkRecovery
  extract_lets s₁
  have h₁ : Kept s s₁ := incPar_kept _ _ _ <| setPar_kept _ _ _ (.refl _)
  exact .unless <| .next <| downCatchUp_kept _ <| record_kept _ _ _ _ _ <| linkRecords_kept _ <|
    .mk' h₁ rfl rfl rfl rfl

/-! ### Conversion, sampling and banks -/

theorem execPwmPeriodStart_kept {p} : KeptO s (execPwmPeriodStart p s) := by
  unfold execPwmPeriodStart
  extract_lets _ _ s₁
  have h₁ : Kept s s₁ := modPhase_kept _ _ _ (beginPeriod_kept _ _ (.refl _))
  exact .unless <| .ite (.next <| .ite (setObj_kept _ _ _ h₁) h₁) <|
    .unless <| .ite (.next <| startPhase_kept _ _ _ _ (.refl _)) <| .when <| .next <|
      modPhase_kept _ _ _ (startPhase_kept _ _ _ _ (.refl _))

theorem execGroupBoundary_kept {f} : KeptO s (execGroupBoundary f s) := by
  unfold execGroupBoundary
  extract_lets s₁ _ s₂ _ s₃ _ s₄
  have h₁ : Kept s s₁ := .ite (glideStep_kept _ (.refl _)) (.refl _)
  have h₂ : Kept s s₂ :=
    eachOf_kept _ _ h₁ fun _ _ h => setObj_kept _ _ _ <| modPhase_kept _ _ _ <| stopPhase_kept _ _ h
  have h₃ : Kept s s₃ := leaveGroup_kept _ _ <| addPhases_kept _ _ h₂
  have h₄ : Kept s s₄ := .foldl h₃ fun t _ h => takeAngle_kept _ _ _ _ h
  exact .ite (.next h₁) <| .next <| syncAlone_kept _ <| eachOf_kept _ _ h₄ fun _ _ h => updateNAct_kept _ _ h

theorem execSampleRequest_kept {p waitNs} : KeptO s (execSampleRequest p waitNs s) := by
  unfold execSampleRequest
  extract_lets s₁
  have h₁ : Kept s s₁ := modPhase_kept _ _ _ (.refl _)
  exact .when <| .next <| .ite (setBit_kept _ _ _ _ h₁) h₁

theorem execInnerEvaluation_kept {p x lane latencyNs residueOk} :
    KeptO s (execInnerEvaluation p x lane latencyNs residueOk s) := by
  unfold execInnerEvaluation
  extract_lets _ _ _ s₁ s₂ s₃
  have h₁ : Kept s s₁ := phaseSample_kept _ _ _ (.refl _)
  have h₂ : Kept s s₂ := modPhase_kept _ _ _ h₁
  have h₃ : Kept s s₃ := .ite (loopSwap_kept _ _ h₂) h₂
  exact .unless <| .ite (.next <| removePhase_kept _ _ _ h₁) <|
    .ite (.next h₂) <|
    .ite (.next <| lateEval_kept _ _ h₃) <|
    .ite (.next <| updPar_kept _ _ _ _ <| residueError_kept _ _ _ h₃) <| .next <| evalPhase_kept _ _ _ h₃

theorem execOuterTrigger_kept {lp lane residueOk} :
    KeptO s (execOuterTrigger lp lane residueOk s) := by
  unfold execOuterTrigger
  extract_lets _ _ _ _ s₁ _ s₂
  have h₁ : Kept s s₁ :=
    fullRate_kept _ _ <| .ite (.refl _) <| setObj_kept _ _ _ (modLoop_kept _ _ _ (.refl _))
  have h₂ : Kept s s₂ :=
    trigSetpoint_kept _ _ <| .ite (loopSwap_kept _ _ h₁) h₁
  refine .unless <| .ite ?_ ?_
  · exact .next <| alignPoint_kept _ _ <| updPar_kept _ _ _ _ <| residueError_kept _ _ _ h₂
  · split
    rename_i t e
    have ht : Kept s t := .snd e <| evaluate_kept _ _ _ _ _ h₂
    extract_lets
    split
    rename_i t' e
    have ht' : Kept s t' :=
      .snd e <| startTriggers_kept _ _ <| traceEval_kept _ _ <| alignPoint_kept _ _ <| distribute_kept _ _ <|
      takeShares_kept _ _ ht
    exact .next <| .ite (floatLeave_kept _ <| .ite ht' <| failAttempt_kept _ _ _ ht') <|
      .ite ht' <| failAttempt_kept _ _ _ ht'

theorem execSarRoundSlot_kept {sar7 slot x} :
    KeptO s (execSarRoundSlot sar7 slot x s) :=
  .unless <| .next <| slotEnergy_kept _ _ _ <| overSeen_kept _ _ _ <| gather_kept _ _ _ <|
    senseRise_kept _ _ _ (modChan_kept _ _ _ (.refl _))

theorem execSarSelfCheck_kept {ch pass} : KeptO s (execSarSelfCheck ch pass s) := by
  unfold execSarSelfCheck
  extract_lets _ _ s₁ _ _ s₂
  have h₁ : Kept s s₁ := checkSlot_kept _ _ (.refl _)
  have h₂ : Kept s s₂ := senseRise_kept _ _ _ <| modChan_kept _ _ _ h₁
  refine .unless <| .next ?_
  split
  · exact .ite (removePhase_kept _ _ _ h₂) h₂
  · exact h₂

theorem execPhaseFailNotice_kept {p} : KeptO s (execPhaseFailNotice p s) := by
  unfold execPhaseFailNotice
  extract_lets _ _ _ s₁
  have h₁ : Kept s s₁ := incPar_kept _ _ _ (modPhase_kept _ _ _ (.refl _))
  exact .when <| .next <| record_kept _ _ _ _ _ h₁

theorem execSwapRegistration_kept : KeptO s (execSwapRegistration s) := by
  unfold execSwapRegistration
  split
  · exact .skip
  · exact .next <| registerSwap_kept _ _ <| .mk' (.refl _) rfl rfl rfl rfl

theorem execBankLoadCommit_kept : KeptO s (execBankLoadCommit s) := by
  unfold execBankLoadCommit
  split
  · exact .skip
  · refine .unless <| .ite ?_ ?_
    · refine .next ?_
      split
      · exact fail_kept _ _ _ _ <| .mk' (.refl _) rfl rfl rfl rfl
      · exact .mk' (.refl _) rfl rfl rfl rfl
    · extract_lets _ _ s₁ s₂
      have h₁ : Kept s s₁ := incPar_kept _ _ _ <| modLoop_kept _ _ _ <| .mk' (.refl _) rfl rfl rfl rfl
      have h₂ : Kept s s₂ := .ite (askNvm_kept _ _ _ _ _ h₁) h₁
      refine .next ?_
      split
      · exact ok_kept _ _ _ h₂
      · exact h₂

theorem execSegmentActive_kept {b} : KeptO s (execSegmentActive b s) := by
  unfold execSegmentActive
  extract_lets _ _ _ _ _ s₁
  have h₁ : Kept s s₁ :=
    setPar_kept _ _ _ <| setObj_kept _ _ _ <| eachOf_kept _ _ (.refl _) fun _ _ h => modPhase_kept _ _ _ h
  exact .when <| .next <| modSeg_kept _ _ _ h₁

theorem execHiccupOffTimeEnd_kept {b} : KeptO s (execHiccupOffTimeEnd b s) := by
  unfold execHiccupOffTimeEnd
  extract_lets s₁
  have h₁ : Kept s s₁ := modSeg_kept _ _ _ (.refl _)
  exact .when <| .ite (.next <| segStart_kept _ _ h₁) <| .next h₁

theorem execSyncinEdge_kept {freq phaseError} :
    KeptO s (execSyncinEdge freq phaseError s) :=
  .unless <| .ite (.next <| syncMiss_kept _ (.refl _)) <| .next <| syncFollow_kept _ _ <| setPar_kept _ _ _ <|
    .mk' (.refl _) rfl rfl rfl rfl

/-! ### Feeders, strings and thermal zones -/

theorem execSluiceTick_kept {ins} : KeptO s (execSluiceTick ins s) :=
  .unless <| .next <|
    each_kept _ _ (.ite (passTime_kept _ _ (.refl _)) (.refl _)) fun _ _ h => feederTick_kept _ _ _ h

theorem execStringSwitchTick_kept {k vgsOk vds} :
    KeptO s (execStringSwitchTick k vgsOk vds s) := by
  unfold execStringSwitchTick
  extract_lets _ s₁
  have h₁ : Kept s s₁ := modStr_kept _ _ _ (.refl _)
  exact .unless <| .ite (.next <| stringTrip_kept _ _ _ h₁) <|
    .ite (.ite (.next <| stringConnected_kept _ _ h₁) <| .ite (.next <| stringTrip_kept _ _ _ h₁) <| .next h₁) <|
    .ite (.next <| chargeRegulate_kept _ _ _ h₁) <| .next h₁

theorem execThermalSample_kept (ts ringOk) :
    KeptO s (execThermalSample ts ringOk s) := by
  unfold execThermalSample
  extract_lets s₁
  have h₁ : Kept s s₁ :=
    each_kept _ _ (.refl _) fun _ _ h => .ite (sensorSample_kept _ _ _ _ h) <| latchSample_kept _ _ _ h
  refine .unless ?_
  split
  · exact .next <| saveCutThermal_kept _ _ h₁
  · exact .next h₁

theorem execZoneCrit_kept {z} : KeptO s (execZoneCrit z s) := by
  unfold execZoneCrit
  extract_lets _ _ _ s₁
  have h₁ : Kept s s₁ :=
    setBit_kept _ _ _ _ <| zoneStates_kept _ <| eachOf_kept _ _ (.refl _) fun _ _ h => modTherm_kept _ _ _ h
  exact .unless <| .ite (.next <| brakeCause_kept _ _ _ h₁) <| .next h₁

theorem execZoneWarnClear_kept {z} : KeptO s (execZoneWarnClear z s) :=
  .when <| .next <| zoneStates_kept _ <| eachOf_kept _ _ (.refl _) fun _ _ h => modTherm_kept _ _ _ h

theorem execFantailTick_kept {x} : KeptO s (execFantailTick x s) := by
  unfold execFantailTick
  extract_lets s₁
  have h₁ : Kept s s₁ :=
    noteMill_kept _ <| closeAllMs_kept _ <| supplyReadings_kept _ _ _ (nextMs_kept _ (.refl _))
  split
  · exact .ite (.next <| planDrop_kept _ h₁) <| .next <| fantailBody_kept _ _ h₁
  · exact .next <| supplyReadings_kept _ _ _ (nextMs_kept _ (.refl _))
  · exact .next <| supplyReadings_kept _ _ _ (nextMs_kept _ (.refl _))
  · exact .next <| supplyReadings_kept _ _ _ (.refl _)
  · exact .skip
  · exact .skip
  · exact .skip

theorem execDeferralLimit_kept {c} : KeptO s (execDeferralLimit c s) := by
  unfold execDeferralLimit
  refine .unless ?_
  split
  · extract_lets
    split
    · exact .when <| .next <| publish_kept _ _ _ _ _ _ _ (modConsF_kept _ _ _ (.refl _))
    · exact .skip
  · extract_lets
    split
    · exact .when <| .next <| publish_kept _ _ _ _ _ _ _ (modConsS_kept _ _ _ (.refl _))
    · exact .skip
  · split
    · exact .next <| learnWaits_kept _ (refuseWrite_kept _ _ _ (.refl _))
    · exact .skip
  · refine .when ?_
    split
    · exact .next <| activateRefused_kept _ _ (.refl _)
    · exact .skip

/-! ### Rails and the sequencer -/

theorem execRailPgDrop_kept {x} : KeptO s (execRailPgDrop x s) :=
  .unless <| .ite (.ite (.next <| downFail_kept _ _ (.refl _)) <| .next <| incPar_kept _ _ _ (.refl _)) <| .next <|
    pgFall_kept _ _ (.refl _)

theorem execRailFault_kept {v} : KeptO s (execRailFault v s) :=
  .when <| .next <| brakeCause_kept _ _ _ <| raise_kept _ _ <| railRecord_kept _ _ <|
    setBit_kept _ _ _ _ (modRail_kept _ _ _ (.refl _))

theorem execRailPoll_kept {v x elapsedUs} :
    KeptO s (execRailPoll v x elapsedUs s) := by
  unfold execRailPoll
  extract_lets v n x
  generalize x = x
  refine .unless ?_
  split
  · exact .next <| .ite (pollLow_kept _ _ <| setPar_kept _ _ _ (.refl _)) <| pollHigh_kept _ _ <|
      setPar_kept _ _ _ (.refl _)
  · exact .ite (.next <| railEmpty_kept _ _ _ <| setReading_kept _ _ _ _ (.refl _)) <| .next <|
      setReading_kept _ _ _ _ (.refl _)
  · exact .next <| pollLow_kept _ _ <| setBit_kept _ _ _ _ <| polFail_kept _ _ (modPol_kept _ _ _ (.refl _))
  · exact .next <| pollLow_kept _ _ <| setBit_kept _ _ _ _ (polFail_kept _ _ (.refl _))

theorem execCogRise_kept : KeptO s (execCogRise s) := by
  unfold execCogRise
  extract_lets s₁
  have h₁ : Kept s s₁ := modSeq_kept _ _ (.refl _)
  exact .unless <| .ite (.next <| modSeq_kept _ _ h₁) <|
    .ite (.next h₁) <|
    .ite (.next <| powerOnDue_kept _ <| modSeq_kept _ _ <| setPar_kept _ _ _ h₁) <| .next <| cogStep_kept _ _ h₁

theorem execCogLowEnd_kept {us} : KeptO s (execCogLowEnd us s) := by
  unfold execCogLowEnd
  extract_lets s₁
  have h₁ : Kept s s₁ := modSeq_kept _ _ (.refl _)
  exact .unless <| .ite (.next <| modSeq_kept _ _ h₁) <|
    .ite (.next h₁) <|
    .ite (.next <| powerOnDue_kept _ h₁) <|
    .ite (.next <| cogRequest_kept _ h₁) <|
    .ite (.next <| powerOnDue_kept _ <| setBit_kept _ _ _ _ h₁) <| .next <| cogReset_kept _ h₁

theorem execCogPulseEnd_kept : KeptO s (execCogPulseEnd s) := by
  unfold execCogPulseEnd
  extract_lets _ s₁
  have h₁ : Kept s s₁ := modSeq_kept _ _ (.refl _)
  exact .unless <| .ite (.next <| cogRequest_kept _ h₁) <| .next <| cogReset_kept _ <| modSeq_kept _ _ h₁

theorem execCogHoldMax_kept : KeptO s (execCogHoldMax s) := by
  unfold execCogHoldMax
  extract_lets _ s₁ s₂
  have h₁ : Kept s s₁ := setBit_kept _ _ _ _ (.refl _)
  have h₂ : Kept s s₂ := .ite (eachOf_kept _ _ h₁ fun _ _ h => setBit_kept _ _ _ _ <| modRail_kept _ _ _ h) h₁
  exact .unless <| .next <| setPar_kept _ _ _ <| modSeq_kept _ _ h₂

theorem execCogStall_kept : KeptO s (execCogStall s) := by
  unfold execCogStall
  extract_lets _ s₁
  have h₁ : Kept s s₁ := raise_kept _ _ <| seqRecord_kept _ <| setBit_kept _ _ _ _ (cogLeave_kept _ _ _ (.refl _))
  exact .unless <| .ite (.next <| powerOnDue_kept _ <| stepAlone_kept _ h₁) <| .next <| powerOnDue_kept _ h₁

theorem execCogJoinWatch_kept : KeptO s (execCogJoinWatch s) :=
  .unless <| .ite (.next <| cogPulse_kept _ _ (modSeq_kept _ _ (.refl _))) <| .when <| .next <|
    cogJoin_kept _ (.refl _)

theorem execCogJoinTimeout_kept : KeptO s (execCogJoinTimeout s) := by
  unfold execCogJoinTimeout
  extract_lets s₁
  have h₁ : Kept s s₁ := setPar_kept _ _ _ (cogLeave_kept _ _ _ (.refl _))
  exact .unless <| .ite (.next <| enterSeq_kept _ _ h₁) <| .ite (.next <| setPar_kept _ _ _ h₁) <| .next h₁

theorem execPbPress_kept {ms} : KeptO s (execPbPress ms s) :=
  .unless <| .ite (.next <| powerOnRequest_kept _ <| seqRecord_kept _ <| incPar_kept _ _ _ (.refl _)) <|
    .when <| .next <| seqRecord_kept _ (.refl _)

/-! ### Supplies, saves and start -/

theorem execSag_kept : KeptO s (execSag s) := by
  unfold execSag
  extract_lets s₁ _ s₂ s₃
  have h₁ : Kept s s₁ := incPar_kept _ _ _ (.refl _)
  have h₂ : Kept s s₂ := .mk' h₁ rfl rfl rfl rfl
  have h₃ : Kept s s₃ := sagAborts_kept _ h₂
  exact .unless <| .ite (.next h₂) <| .ite (.next <| saveBegin_kept _ _ h₃) <| .next <| .mk' h₃ rfl rfl rfl rfl

theorem execSaveCommit_kept {us} : KeptO s (execSaveCommit us s) := by
  unfold execSaveCommit
  extract_lets _ _ _ s₁
  have h₁ : Kept s s₁ := setPar_kept _ _ _ <| setPar_kept _ _ _ <| incPar_kept _ _ _ <|
    holdBit_kept _ _ (putSave_kept _ _ (.refl _))
  exact .unless <| .next <| .mk' h₁ rfl rfl rfl rfl

theorem execSaveResume_kept : KeptO s (execSaveResume s) := by
  unfold execSaveResume
  extract_lets _ s₁
  have h₁ : Kept s s₁ := spoilMeans_kept _ <| .mk' (.refl _) rfl rfl rfl rfl
  exact .unless <| .next <| .ite (shift_kept _ _ _ h₁) h₁

theorem execSupplyFall_kept {w} : KeptO s (execSupplyFall w s) := by
  unfold execSupplyFall
  split
  · exact .unless <| .next <| vaonOff_kept _ (.refl _)
  · exact .when <| .next <| csReset_kept _ _ (.refl _)
  · exact .when <| .next <| csReset_kept _ _ (.refl _)
  · exact .when <| .next <| csReset_kept _ _ (.refl _)

theorem execControlSideBoot_kept {x} : KeptO s (execControlSideBoot x s) := by
  unfold execControlSideBoot
  extract_lets s₁ _ s₂ _ s₃
  have h₁ : Kept s s₁ := bootJournal_kept _ (.refl _)
  have h₂ : Kept s s₂ := bootTrialFailed_kept _ h₁
  have h₃ : Kept s s₃ := dropBanks_kept _ _ h₂
  refine .unless ?_
  split
  · exact .next <| bootFirmware_kept _ _ _ _ _ h₃
  · exact .next <| setPar_kept _ _ _ <| bootRom_kept _ <| bootStraps_kept _ _ <| coldAux_kept _ <|
      coldParams_kept _ h₃

theorem execPsdReset_kept : KeptO s (execPsdReset s) := by
  unfold execPsdReset
  extract_lets _ s₁
  have h₁ : Kept s s₁ := .mk' (.refl _) rfl rfl rfl rfl
  exact .next <| .ite (psdOutputsOff_kept _ <| linkLoss_kept _ h₁) <| psdOutputsOff_kept _ h₁

theorem execCholdTest_kept {dv1 dv2} : KeptO s (execCholdTest dv1 dv2 s) := by
  unfold execCholdTest
  extract_lets _ s₁
  have h₁ : Kept s s₁ := .mk' (.refl _) rfl rfl rfl rfl
  refine .unless <| .ite ?_ ?_
  · split
    rename_i e
    exact .next <| choldResult_kept _ _ <| .snd e <| draw_kept _ h₁
  · exact .next <| choldResult_kept _ _ h₁

theorem execNvmPageProgram_kept : KeptO s (execNvmPageProgram s) := by
  unfold execNvmPageProgram
  extract_lets s₁
  have h₁ : Kept s s₁ := romStart_kept _ (.refl _)
  refine .unless ?_
  split
  · exact .ite (.next h₁) <| .next <| .mk' h₁ rfl rfl rfl rfl
  · exact .ite (.next <| (.mk' h₁ rfl rfl rfl rfl)) <| .next h₁

theorem execNvmTransactionCommit_kept : KeptO s (execNvmTransactionCommit s) := by
  unfold execNvmTransactionCommit
  extract_lets s₁
  have h₁ : Kept s s₁ := romStart_kept _ (.refl _)
  refine .unless ?_
  split
  · exact .ite (.next <| commitActive_kept _ h₁) <| .next h₁
  · exact .next h₁

theorem execAonWakeTimer_kept : KeptO s (execAonWakeTimer s) := by
  unfold execAonWakeTimer
  split
  · refine .when ?_
    split
    rename_i e
    exact .next <| wake_kept _ _ _ _ <| .snd e (draw_kept _ (.refl _))
  · exact .skip

theorem execXt25Fail_kept : KeptO s (execXt25Fail s) :=
  .unless <| .next <| raise_kept _ _ <| record_kept _ _ _ _ _ <| incPar_kept _ _ _ <|
    clockBit_kept _ _ (modTime_kept _ _ (.refl _))

theorem execWallSlewStep_kept : KeptO s (execWallSlewStep s) := by
  unfold execWallSlewStep
  split
  · exact .skip
  · exact .unless <| .ite (.next <| record_kept _ _ _ _ _ <| modTime_kept _ _ <| setPar_kept _ _ _ (.refl _)) <|
      .next <| modTime_kept _ _ <| setPar_kept _ _ _ (.refl _)

theorem execL3RestartEnd_kept : KeptO s (execL3RestartEnd s) := by
  unfold execL3RestartEnd
  extract_lets _ _ _ s₁ _ _ _ s₂ s₃
  have h₁ : Kept s s₁ := restartRecords_kept _ <| .mk' (.refl _) rfl rfl rfl rfl
  have h₂ : Kept s s₂ := .foldl (.mk' h₁ rfl rfl rfl rfl) fun t _ h => takeShift_kept _ _ h
  have h₃ : Kept s s₃ := .ite (startupAgain_kept _ h₂) h₂
  exact .unless <| .next <| takeWaiting_kept _ _ <| takeWaiting_kept _ _ <|
    .ite (beginWork_kept _ _ <| modSeq_kept _ _ h₃) h₃

theorem execStartupConfigApplied_kept : KeptO s (execStartupConfigApplied s) := by
  unfold execStartupConfigApplied
  extract_lets _ _ s₁ s₂ s₃ s₄
  have h₁ : Kept s s₁ :=
    loadEnables_kept _ <| loadModules_kept _ <| loadTriggers_kept _ <| loadFeeders_kept _ <|
    loadConfig_kept _ <| .mk' (.refl _) rfl rfl rfl rfl
  have h₂ : Kept s s₂ := .ite (holdAll_kept _ h₁) h₁
  have h₃ : Kept s s₃ := .ite (cogJoin_kept _ h₂) h₂
  have h₄ : Kept s s₄ := .ite (beginWork_kept _ _ <| modSeq_kept _ _ h₃) h₃
  exact .unless <| .ite (.next h₂) <| .next <| .ite (shift_kept _ _ _ <| (.mk' h₄ rfl rfl rfl rfl)) h₄

theorem execShelfIdRead_kept {first retry} :
    KeptO s (execShelfIdRead first retry s) := by
  unfold execShelfIdRead
  extract_lets s₁ s₂
  have h₁ : Kept s s₁ := incPar_kept _ _ _ (.refl _)
  have h₂ : Kept s s₂ := identityFrame_kept _ _ <| modDown_kept _ _ _ h₁
  refine .unless ?_
  split
  rename_i t e
  have ht : Kept s t := by
    split at e
    · cases e; exact h₁
    · split at e
      · cases e; exact h₂
      · cases e; exact identityFrame_kept _ _ h₂
  exact .next <| idCheck_kept _ <| setPar_kept _ _ _ ht

theorem execTrackingWindowEnd_kept {ch nv lo hi} :
    KeptO s (execTrackingWindowEnd ch nv lo hi s) := by
  unfold execTrackingWindowEnd
  refine .unless <| .next <| windowNext_kept _ _ <| .ite (.refl _) ?_
  split
  · exact setPar_kept _ _ _ (.refl _)
  · refine .ite (.refl _) ?_
    split
    rename_i t e
    have ht : Kept s t := .snd e (sarMean_kept _ _ (.refl _))
    exact trackUpdate_kept _ _ _ _ ht

/-! ### Tests, modules and buses -/

theorem execScrubCodeword_kept {arr codeword use x} :
    KeptO s (execScrubCodeword arr codeword use x s) := by
  unfold execScrubCodeword
  extract_lets _ _ _ s₁
  have h₁ : Kept s s₁ := .ite (.mk' (.refl _) rfl rfl rfl rfl) (.refl _)
  refine .unless ?_
  split
  · exact .next <| modDresser_kept _ _ h₁
  · exact .next <| corrected_kept _ _ _ _ _ h₁
  · exact .next <| uncorrectable_kept _ _ _ _ _ _ h₁

theorem execMemorySliceTest_kept {arr slice use x} :
    KeptO s (execMemorySliceTest arr slice use x s) := by
  unfold execMemorySliceTest
  extract_lets _ _ _ s₁
  have h₁ : Kept s s₁ := sliceCount_kept _ _ _ (.refl _)
  refine .unless ?_
  split
  · exact .ite (.next <| sliceRecord_kept _ _ _ <| retestDone_kept _ _ _ h₁) <| .next <| hostUnit_kept _ _ _ _ _ _ h₁
  · exact .next <| sliceFails_kept _ _ _ _ _ _ h₁
  · exact .next <| uncorrectable_kept _ _ _ _ _ _ <| hostUnit_kept _ _ _ _ _ _ <| dresserBit_kept _ _ h₁

theorem execLogicSliceTest_kept {slice expected read} :
    KeptO s (execLogicSliceTest slice expected read s) := by
  unfold execLogicSliceTest
  extract_lets _ _ s₁ _ _ s₂
  have h₁ : Kept s s₁ := modDresser_kept _ _ (.refl _)
  have h₂ : Kept s s₂ := dresserRecord_kept _ _ <| dresserBit_kept _ _ h₁
  exact .unless <| .ite (.next <| hostUnit_kept _ _ _ _ _ _ <| .ite (.mk' h₁ rfl rfl rfl rfl) h₁) <|
    .ite (.next <| hostUnit_kept _ _ _ _ _ _ <| .ite (.mk' h₂ rfl rfl rfl rfl) h₂) <| .next <| modDresser_kept _ _ h₁

theorem execLaneTest_kept {lane expected read} :
    KeptO s (execLaneTest lane expected read s) := by
  unfold execLaneTest
  extract_lets _ _ _ s₁ _ _ s₂
  have h₁ : Kept s s₁ := modDresser_kept _ _ (.refl _)
  have h₂ : Kept s s₂ := setLane_kept _ _ _ <| incPar_kept _ _ _ <| .mk' h₁ rfl rfl rfl rfl
  exact .unless <| .next <| hostUnit_kept _ _ _ _ _ _ <| .ite (dresserRecord_kept _ _ <| dresserBit_kept _ _ h₂) h₂

theorem execPollRound_kept {replies} : KeptO s (execPollRound replies s) := by
  refine .unless <| .next <| each_kept _ _ (.refl _) fun _ _ h => ?_
  extract_lets t₁ t₂
  have h₁ : Kept s t₁ := eachOf_kept _ _ h fun _ _ h => pollModule_kept _ _ _ h
  have h₂ : Kept s t₂ := chargeStops_kept _ _ h₁
  exact .ite (lvdOpen_kept _ _ <| eachOf_kept _ _ h₂ fun _ _ h => modModule_kept _ _ _ h) h₂

theorem execEndOfFullCharge_kept {k} : KeptO s (execEndOfFullCharge k s) := by
  unfold execEndOfFullCharge
  extract_lets _ _ _ s₁ _ s₂
  have h₁ : Kept s s₁ := setBit_kept _ _ _ _ <| setPar_kept _ _ _ <| setPar_kept _ _ _ (.refl _)
  have h₂ : Kept s s₂ := setPar_kept _ _ _ <| modStr_kept _ _ _ h₁
  exact .when <| .next <| askBattery_kept _ _ <| setDisagree_kept _ _ _ <| eachOf_kept _ _ h₂ fun _ _ h =>
    modModule_kept _ _ _ <| setPar_kept _ _ _ h

theorem execModuleAuth_kept {m x} : KeptO s (execModuleAuth m x s) := by
  unfold execModuleAuth
  refine .unless ?_
  split
  · exact .next <| .ite (authDone_kept _ _ _ (.refl _)) (.refl _)
  · split
    rename_i t e
    have ht : Kept s t := .snd e (identify_kept _ _ _ (.refl _))
    refine .ite ?_ ?_
    · exact .next ht
    · split
      · exact .next <| authDone_kept _ _ _ ht
      · exact .ite (.next <| authDone_kept _ _ _ <| modModule_kept _ _ _ ht) <|
          .ite (.next <| challenge_kept _ _ <| modModule_kept _ _ _ ht) <|
          .next <| authDone_kept _ _ _ <| modModule_kept _ _ _ ht

theorem execResponseRead_kept {m x} : KeptO s (execResponseRead m x s) := by
  unfold execResponseRead
  refine .unless ?_
  split
  · exact .next <| authDone_kept _ _ _ (.refl _)
  · exact .ite (.next <| .ite (authDone_kept _ _ _ (.refl _)) (.refl _)) <| .next <| authDone_kept _ _ _ (.refl _)

theorem execDsFrame_kept {port x} : KeptO s (execDsFrame port x s) := by
  unfold execDsFrame
  refine .unless ?_
  split
  · exact .next <| incPar_kept _ _ _ (modDown_kept _ _ _ (.refl _))
  · exact .next <| frameError_kept _ _ <| setBit_kept _ _ _ _ (.refl _)
  · split
    rename_i e
    exact .next <| arbLost_kept _ _ _ _ <| .snd e (draw_kept _ (.refl _))
  · exact .next <| arbLost_kept _ _ _ _ (.refl _)

theorem execBusRecovery_kept {port x} : KeptO s (execBusRecovery port x s) := by
  unfold execBusRecovery
  extract_lets _ _ s₁ s₂
  have h₁ : Kept s s₁ := incPar_kept _ _ _ (.refl _)
  have h₂ : Kept s s₂ := modDown_kept _ _ _ h₁
  refine .unless ?_
  split
  · exact .ite
      (.ite (.next <| portRecord_kept _ _ <| clearFaults_kept _ _ <| setObj_kept _ _ _ <| setPar_kept _ _ _ h₂) <|
        .next h₂) <|
      .next <| portFault_kept _ _ _ h₁
  · exact .next <| portFault_kept _ _ _ h₁

theorem execPolIdentify_kept {pl x} : KeptO s (execPolIdentify pl x s) := by
  unfold execPolIdentify
  refine .unless <| .ite ?_ ?_
  · exact .next <| polFail_kept _ _ (.refl _)
  · split
    · exact .next <| polFail_kept _ _ (.refl _)
    · exact .ite (.next <| setPar_kept _ _ _ <| modPol_kept _ _ _ <| setPar_kept _ _ _ (.refl _)) <|
        .next <| modPol_kept _ _ _ <| setPar_kept _ _ _ (.refl _)

theorem execPolPoll_kept {pl x} : KeptO s (execPolPoll pl x s) := by
  unfold execPolPoll
  refine .unless <| .ite ?_ ?_
  · exact .next <| polFail_kept _ _ (.refl _)
  · split
    · exact .next <| polFail_kept _ _ (.refl _)
    · exact .next <| setReading_kept _ _ _ _ <| setReading_kept _ _ _ _ (.refl _)

theorem execSatelliteLoad_kept {n x} : KeptO s (execSatelliteLoad n x s) := by
  unfold execSatelliteLoad
  refine .unless ?_
  split
  · exact .next <| satHeld_kept _ _ _ _ (.refl _)
  · extract_lets s₁
    have h₁ : Kept s s₁ := setPar_kept _ _ _ (.refl _)
    split
    · exact .next <| satHeld_kept _ _ _ _ h₁
    · exact .ite (.next <| satHeld_kept _ _ _ _ h₁) <|
        .ite (.next <| satHeld_kept _ _ _ _ h₁) <| .next <| satSend_kept _ _ _ _ _ <| satSelect_kept _ _ h₁

theorem execBundleVerified_kept : KeptO s (execBundleVerified s) := by
  unfold execBundleVerified
  split
  · exact .skip
  · refine .unless ?_
    split
    · exact .next <| askNvm_kept _ _ _ _ _ (.refl _)
    · extract_lets _ s₁ s₂
      have h₂ : Kept s s₂ := updRecord_kept _ _ _ _ <| closeEnds_kept _ <| setPar_kept _ _ _ (.refl _)
      split
      · exact .next <| .ite (reply_kept _ _ _ _ _ h₂) <| reply_kept _ _ _ _ _ h₂
      · exact .next h₂

theorem execCheckin_kept : KeptO s (execCheckin s) := by
  unfold execCheckin
  refine .unless ?_
  split
  · exact .ite (.next <| checkinCommit_kept _ <| incPar_kept _ _ _ <| (.mk' (.refl _) rfl rfl rfl rfl)) <|
      .unless <| .next <| askNvm_kept _ _ _ _ _ <| .mk' (.refl _) rfl rfl rfl rfl
  · exact .unless <| .next <| askNvm_kept _ _ _ _ _ <| .mk' (.refl _) rfl rfl rfl rfl

/-! ## Every command -/

/-- Every command keeps the queue, the canonical forms and Hopper's bookkeeping. -/
theorem exec_kept : ∀ (c : Instr) (s : State), KeptO s (exec c s)
  | .ping .., _ => .submit opPing_kept
  | .ident .., _ => .submit opIdent_kept
  | .paramGet .., _ => .submit opParamGet_kept
  | .paramSet .., _ => .submit opParamSet_kept
  | .paramGetMulti .., _ => .submit opParamGetMulti_kept
  | .objState .., _ => .submit opObjState_kept
  | .objEnable .., _ => .submit (opObjEnable_kept _)
  | .objDisable .., _ => .submit (opObjEnable_kept _)
  | .objClearLatch .., _ => .submit opObjClearLatch_kept
  | .setpointSlew .., _ => .submit opSetpointSlew_kept
  | .coefBankLoad .., _ => .submit opCoefBankLoad_kept
  | .coefBankSwap .., _ => .submit opCoefBankSwap_kept
  | .flumeStart .., _ => .submit opFlumeStart_kept
  | .tailraceArm .., _ => .submit opTailraceArm_kept
  | .tailraceRead .., _ => .submit opTailraceRead_kept
  | .gristRead .., _ => .submit opGristRead_kept
  | .gristClearNonce .., _ => .submit opGristClear_kept
  | .gristClear .., _ => .submit opGristClear_kept
  | .gristTriggerSet .., _ => .submit opGristTriggerSet_kept
  | .bistRequest .., _ => .submit opBistRequest_kept
  | .bistCancel .., _ => .submit opBistRequest_kept
  | .bistResult .., _ => .submit opBistResult_kept
  | .battAuth .., _ => .submit opBattAuth_kept
  | .battLearnCommit .., _ => .submit opBattLearnCommit_kept
  | .seqPowerOn .., _ => .submit opSeqPowerOn_kept
  | .seqPowerOff .., _ => .submit opSeqPowerOff_kept
  | .seqStep .., _ => .submit opSeqStep_kept
  | .timeSet .., _ => .submit opTimeSet_kept
  | .timeGet .., _ => .submit opTimeGet_kept
  | .updOpen .., _ => .submit opUpdOpen_kept
  | .updBlock .., _ => .submit opUpdBlock_kept
  | .updClose .., _ => .submit opUpdClose_kept
  | .updSchedule .., _ => .submit opUpdSchedule_kept
  | .updStatus .., _ => .submit opUpdStatus_kept
  | .updCancel .., _ => .submit opUpdCancel_kept
  | .lcState .., _ => .submit opLcState_kept
  | .lcNonce .., _ => .submit opLcTransition_kept
  | .lcTransition .., _ => .submit opLcTransition_kept
  | .writeKey .., _ => .submit opLcTransition_kept
  | .debugUnlock .., _ => .submit opDebugUnlock_kept
  | .debugRelock .., _ => .submit opDebugUnlock_kept
  | .abort .., _ => .submit opAbort_kept
  | .resultPoll .., _ => .submit opResultPoll_kept
  | .operationStart, _ => execOperationStart_kept
  | .reqStream .., _ => .next <| write_kept _ _ _ _ _ (.refl _)
  | .doorbellSubmit .., _ => .next <| write_kept _ _ _ _ _ (.refl _)
  | .doorbellDiscard .., _ => .next <| write_kept _ _ _ _ _ (.refl _)
  | .replyStream .., _ => .next <| readRow_kept _ _ _ _ _ _ (.refl _)
  | .alertCause .., _ => .next <| readRow_kept _ _ _ _ _ _ (.refl _)
  | .fastStatus .., _ => .next <| readRow_kept _ _ _ _ _ _ (.refl _)
  | .highByteLatch .., _ => .next <| readRow_kept _ _ _ _ _ _ (.refl _)
  | .windowWrite .., _ => .next <| write_kept _ _ _ _ _ (.refl _)
  | .cautiousExit .., _ => .when <| .next <| violationRecord_kept _ _ _ _ _ _ _ <| setPar_kept _ _ _ (.refl _)
  | .clockLowTimeout .., _ => .when <| .next <| incPar_kept _ _ _ (.refl _)
  | .alertResponse .., _ => execAlertResponse_kept
  | .addressMatchWake .., _ => execAddressMatchWake_kept
  | .wakeStretchRelease .., _ => .when <| .next <| updPar_kept _ _ _ _ (modPort_kept _ _ _ (.refl _))
  | .stateRequest .., _ => .submit opParamSet_kept
  | .configConfirm .., _ => .submit opParamSet_kept
  | .shelfId .., _ => .submit opParamSet_kept
  | .modeRequestRun .., _ => .submit opParamSet_kept
  | .modeRequestFloat .., _ => .submit opParamSet_kept
  | .modeRequestWatch .., _ => .submit opParamSet_kept
  | .itApply .., _ => .submit opParamSet_kept
  | .cautiousAck .., _ => .submit opParamSet_kept
  | .trackLimit .., _ => .submit opParamSet_kept
  | .cogEnable .., _ => .submit opParamSet_kept
  | .maxLatency .., _ => .submit opParamGet_kept
  | .tMaxSeen .., _ => .submit opParamGet_kept
  | .wakeStretchMax .., _ => .submit opParamGet_kept
  | .timerCount _ _ (some _), _ => .submit opParamSet_kept
  | .timerCount _ _ none, _ => .submit opParamGet_kept
  | .compare .., _ => .submit opParamSet_kept
  | .prescale .., _ => .submit opParamSet_kept
  | .outMode .., _ => .submit opParamSet_kept
  | .capture .., _ => .submit opParamGet_kept
  | .timerMatch .., _ => execTimerMatch_kept
  | .timerWrap .., _ => execTimerWrap_kept
  | .timerCapture .., _ => execTimerCapture_kept
  | .debugHalt, _ => .when <| .next <| modTime_kept _ _ (.refl _)
  | .debugHaltRelease, _ => .next <| modTime_kept _ _ (.refl _)
  | .uhlesLinkLoss, _ => .when <| .next <| linkLoss_kept _ (.refl _)
  | .uhlesLinkRecovery .., _ => execUhlesLinkRecovery_kept
  | .pwmPeriodStart .., _ => execPwmPeriodStart_kept
  | .groupBoundary .., _ => execGroupBoundary_kept
  | .sampleRequest .., _ => execSampleRequest_kept
  | .innerEvaluation .., _ => execInnerEvaluation_kept
  | .outerTrigger .., _ => execOuterTrigger_kept
  | .sarRoundSlot .., _ => execSarRoundSlot_kept
  | .sarSelfCheck .., _ => execSarSelfCheck_kept
  | .phaseFailNotice .., _ => execPhaseFailNotice_kept
  | .swapRegistration, _ => execSwapRegistration_kept
  | .bankLoadCommit, _ => execBankLoadCommit_kept
  | .flumeEnd, _ => .when <| .next <| flumeEnd_kept _ _ (.refl _)
  | .tailraceDone, _ => .when <| .next <| setPar_kept _ _ _ (.refl _)
  | .segmentStart .., _ => .when <| .next <| segStart_kept _ _ (.refl _)
  | .segmentActive .., _ => execSegmentActive_kept
  | .hiccupOffTimeEnd .., _ => execHiccupOffTimeEnd_kept
  | .runUndervolt .., _ => .when <| .next <| failAttempt_kept _ _ _ (.refl _)
  | .overvolt .., _ => .when <| .next <| failAttempt_kept _ _ _ (.refl _)
  | .syncinEdge .., _ => execSyncinEdge_kept
  | .syncinMissing, _ => .when <| .next <| syncMiss_kept _ (.refl _)
  | .sluiceTick .., _ => execSluiceTick_kept
  | .seatStable .., _ => .unless <| .next <| serveAct_kept _ _ <|
    seatStabled_kept _ _ (modFeeder_kept _ _ _ (.refl _))
  | .seatOpen .., _ => .unless <| .next <| seatOpened_kept _ _ (modFeeder_kept _ _ _ (.refl _))
  | .insertDelay .., _ => .unless <| .next <| serveAct_kept _ _ (modFeeder_kept _ _ _ (.refl _))
  | .faultTimer .., _ => .when <| .next <| tripWith_kept _ _ _ (modFeeder_kept _ _ _ (.refl _))
  | .soa .., _ => .when <| .next <| tripWith_kept _ _ _ (modFeeder_kept _ _ _ (.refl _))
  | .startTimeout .., _ => .when <| .next <| tripWith_kept _ _ _ (.refl _)
  | .ovQualify .., _ => .when <| .next <| tripWith_kept _ _ _ (.refl _)
  | .itCurve .., _ => .when <| .next <| tripWith_kept _ _ _ (modFeeder_kept _ _ _ (.refl _))
  | .fastTrip .., _ => .when <| .next <| modFeeder_kept _ _ _ (.refl _)
  | .weirProof .., _ => .unless <| .next <| proofJudge_kept _ _ _ _ (proofStore_kept _ _ _ _ _ (.refl _))
  | .stringConnect .., _ => .when <| .next <| setObj_kept _ _ _ (modStr_kept _ _ _ (.refl _))
  | .stringSwitchTick .., _ => execStringSwitchTick_kept
  | .connectTimeout .., _ => .when <| .next <| stringTrip_kept _ _ _ (.refl _)
  | .dischargeReversal .., _ => .when <| .next <| modStr_kept _ _ _ (.refl _)
  | .stringFastTrip .., _ => .when <| .next <| modStr_kept _ _ _ (switchOff_kept _ _ (.refl _))
  | .thermalSample ts ringOk, _ => execThermalSample_kept ts ringOk
  | .zoneCrit .., _ => execZoneCrit_kept
  | .zoneWarnClear .., _ => execZoneWarnClear_kept
  | .thermalLatch .., _ => .when <| .next <| saveCutThermal_kept _ _ (.refl _)
  | .fantailTick .., _ => execFantailTick_kept
  | .tickOverrun, _ => .unless <| .next <| budgetRecord_kept _ _ _ <| planDrop_kept _ <| incPar_kept _ _ _ <|
    setBit_kept _ _ _ _ (.refl _)
  | .inputLost .., _ => .when <| .next <| budgetRecord_kept _ _ _ <| setPar_kept _ _ _ (.refl _)
  | .deferralLimit .., _ => execDeferralLimit_kept
  | .powerUpWalkStart, _ => .when <| .next <| enterSeq_kept _ _ (.refl _)
  | .onDelay .., _ => .when <| .next <| railOn_kept _ _ (.refl _)
  | .railQualified .., _ => .when <| .next <| setPar_kept _ _ _ (modRail_kept _ _ _ (.refl _))
  | .pgTimeout .., _ => .when <| .next <| railRecord_kept _ _ <| setBit_kept _ _ _ _ (modRail_kept _ _ _ (.refl _))
  | .railPgDrop .., _ => execRailPgDrop_kept
  | .railFault .., _ => execRailFault_kept
  | .railPoll .., _ => execRailPoll_kept
  | .stateWorkFinished, _ => .when <| .next <| powerOnDue_kept _ (finishWork_kept _ (.refl _))
  | .pfwTime, _ => .when <| .next <| enterBraking_kept _ _ (.refl _)
  | .dischargeTimeout .., _ => .when <| .next <| raise_kept _ _ <| railRecord_kept _ _ <|
    setBit_kept _ _ _ _ (modRail_kept _ _ _ (.refl _))
  | .cogRise, _ => execCogRise_kept
  | .cogLowEnd .., _ => execCogLowEnd_kept
  | .cogPulseEnd, _ => execCogPulseEnd_kept
  | .cogHoldMax, _ => execCogHoldMax_kept
  | .cogStall, _ => execCogStall_kept
  | .cogJoinWatch, _ => execCogJoinWatch_kept
  | .cogJoinTimeout, _ => execCogJoinTimeout_kept
  | .pbPress .., _ => execPbPress_kept
  | .forceOff, _ => .unless <| .next <| forceOff_kept _ _ _ (.refl _)
  | .mrN, _ => .unless <| .next <| forceOff_kept _ _ _ (.refl _)
  | .sag, _ => execSag_kept
  | .vaux12Good, _ => .when <| .next <| .mk' (.refl _) rfl rfl rfl rfl
  | .saveTrigger, _ => .when <| .next <| saveBegin_kept _ _ (.refl _)
  | .saveCommit .., _ => execSaveCommit_kept
  | .saveResume, _ => execSaveResume_kept
  | .holdUpEnd, _ => .when <| .next <| csReset_kept _ _ (commitActive_kept _ (.refl _))
  | .supplyFall .., _ => execSupplyFall_kept
  | .controlSideBoot .., _ => execControlSideBoot_kept
  | .psdReset, _ => execPsdReset_kept
  | .vps12Uvlo, _ => .next <| psdOutputsOff_kept _ <| .mk' (.refl _) rfl rfl rfl rfl
  | .vps12Return, _ => .next <| .mk' (.refl _) rfl rfl rfl rfl
  | .choldTest .., _ => execCholdTest_kept
  | .nvmPageProgram, _ => execNvmPageProgram_kept
  | .nvmTransactionCommit, _ => execNvmTransactionCommit_kept
  | .floatEntry, _ => .when <| .next <| floatEnter_kept _ (.refl _)
  | .watchEntry .., _ => .when <| .next <| watchEnter_kept _ _ (.refl _)
  | .watchWake .., _ => .when <| .next <| wake_kept _ _ _ _ (.refl _)
  | .watchReturn .., _ => .when <| .next <| watchEnter_kept _ _ (.refl _)
  | .aonWakeTimer, _ => execAonWakeTimer_kept
  | .xt32Fail, _ => .unless <| .next <| recordAwake_kept _ _ _ _ _ <| incPar_kept _ _ _ <|
    clockBit_kept _ _ (modTime_kept _ _ (.refl _))
  | .xt32Return, _ => .unless <| .next <| modTime_kept _ _ (.refl _)
  | .xt25Fail, _ => execXt25Fail_kept
  | .xt25Return, _ => .when <| .next <| modTime_kept _ _ (.refl _)
  | .tickLatch .., _ => .when <| .next <| latchTick_kept _ _ _ (.refl _)
  | .tickJournal, _ => .when <| .next <| askOnce_kept _ _ _ _ (.refl _)
  | .ceilingLate, _ => .when <| .next <| record_kept _ _ _ _ _ (clockBit_kept _ _ (.refl _))
  | .wallSlewStep, _ => execWallSlewStep_kept
  | .l3Restart .., _ => .when <| .next <| l3Restart_kept _ _ (.refl _)
  | .l3RestartEnd, _ => execL3RestartEnd_kept
  | .startupConfigApplied, _ => execStartupConfigApplied_kept
  | .shelfIdRead .., _ => execShelfIdRead_kept
  | .startupTimeout, _ => .when <| .next <| shift_kept _ _ _ <| .mk' (.refl _) rfl rfl rfl rfl
  | .recoveryEntry, _ => .when <| .next <| shift_kept _ _ _ (.refl _)
  | .recoveryExit .., _ => .when <| .next <| shift_kept _ _ _ (.refl _)
  | .trackingWindowEnd .., _ => execTrackingWindowEnd_kept
  | .trackingJournal .., _ => .when <| .next <| askOnce_kept _ _ _ _ (.refl _)
  | .energyJournal, _ => .when <| .next <| askOnce_kept _ _ _ _ (.refl _)
  | .gristMirror, _ => .when <| .next <| askMirror_kept _ (.refl _)
  | .mirrorLate, _ => .when <| .next <| raise_kept _ _ <| .mk' (.refl _) rfl rfl rfl rfl
  | .nonceExpiry .., _ => .unless <|
    .ite (.next (.mk' (.refl _) rfl rfl rfl rfl)) (.next (.mk' (.refl _) rfl rfl rfl rfl))
  | .scrubCodeword .., _ => execScrubCodeword_kept
  | .memorySliceTest .., _ => execMemorySliceTest_kept
  | .logicSliceTest .., _ => execLogicSliceTest_kept
  | .laneWithdrawal .., _ => .when <| .next <| setLane_kept _ _ _ (.refl _)
  | .laneTest .., _ => execLaneTest_kept
  | .fullTest .., _ => .unless <| .next <| modDresser_kept _ _ <| csReset_kept _ _ (commitActive_kept _ (.refl _))
  | .pollRound .., _ => execPollRound_kept
  | .adpoxonFrameRetry .., _ => .when <| .next <| incPar_kept _ _ _ (.refl _)
  | .modelUpdate, _ => .unless <| .next <| each_kept _ _ (.refl _) fun _ _ h => .ite h <| modelString_kept _ _ h
  | .endOfFullCharge .., _ => execEndOfFullCharge_kept
  | .moduleAuth .., _ => execModuleAuth_kept
  | .responseRead .., _ => execResponseRead_kept
  | .authRetry .., _ => .when <| .next <| modModule_kept _ _ _ (.refl _)
  | .batteryJournal, _ => .unless <| .next <| each_kept _ _ (.refl _) fun _ _ h => askBattery_kept _ _ h
  | .dsFrame .., _ => execDsFrame_kept
  | .dsFrameAbandon .., _ => .when <| .next <| frameError_kept _ _ <| setBit_kept _ _ _ _ (.refl _)
  | .busRecovery .., _ => execBusRecovery_kept
  | .polIdentify .., _ => execPolIdentify_kept
  | .polPoll .., _ => execPolPoll_kept
  | .satelliteLoad .., _ => execSatelliteLoad_kept
  | .satelliteRetry .., _ => .when <| .next <| setObj_kept _ _ _ (modSat_kept _ _ _ (.refl _))
  | .bundleVerified, _ => execBundleVerified_kept
  | .activationDue, _ => .when <| .next <| fallDue_kept _ (.refl _)
  | .checkin, _ => execCheckin_kept
  | .checkinTimeout, _ => .when <| .next <| l3Restart_kept _ _ (.refl _)
  | .saveArmed, _ => .when <| .next <| .mk' (.refl _) rfl rfl rfl rfl
  | .railPgHigh .., _ => .when <| .next <| pgRise_kept _ _ (.refl _)
  | .railDischarged .., _ => .when <| .next <| railEmpty_kept _ _ _ (.refl _)
  | .tmrPulseEnd .., _ => .when <| .next <| pulseEnd_kept _ _ (.refl _)
  | .choldTestDue, _ => .when <| .next <| askOnce_kept _ _ _ _ (.refl _)


/-- A step that runs a command keeps what the command keeps, and a step on an empty queue keeps all. -/
theorem step_keeps_inv {t : State} (h : s.Inv) (hs : step s = .next t) : t.Inv := by
  unfold step at hs
  split at hs
  · cases hs
    exact h
  · next rest _ =>
    have k : Kept { s with pending := rest } t := (exec_kept _ _).of t hs
    exact ⟨k.store h.store, k.mram h.mram, k.hopper h.hopper⟩

/-- Settles O4: the front command keeps each part of the invariant. -/
theorem stepKeepsInvariant : Obligations.StepKeepsInvariant := fun _ _ => step_keeps_inv

end Sys2Proof.Machine

/-! # The stored configuration against a swap of a loop that does not exist

STARTUP_CONFIG_APPLIED loads the rails' parameters and then, on a mismatch, turns everything off (R31, R34). A phase that
stops completes the swaps aligned to it (R92), whichever loops their jobs name. -/

namespace Sys2Proof.Machine

set_option Elab.async false

/-- A registered swap, aligned to phase 0, of loop number 160: LP0 to LP7 are 24 to 31, and `oLoop 160` is rail 0. -/
def straySwap : SwapJob :=
  { op := none, mask := 0, mode := 1, align := 0, registered := true, aligned := false, left := [160] }

/-- STARTUP with a shelf identity that does not match, while phase 0 still switches and the stray swap is pending. -/
def strayState : State :=
  let s := State.reset.setPar oShelf Pid.Shelf.ID_MISMATCH 1
  { s with wheel := { s.wheel with swaps := [straySwap] } : State }.modPhase 0 fun a => { a with switching := true }

/-- What a parameter is in the next state of an outcome. -/
def parAfter (o pid : Nat) : Host.Outcome State Fault Refusal → Option Int
  | .next t => some (t.par o pid)
  | _ => none

/-- PG_TIMEOUT of rail 0 has the number of LAST_SWAP_SAMPLE: the swap leaves it at QUALIFY_TIME plus 1, as a sample
count. -/
theorem parAfter_stray_pgTimeout :
    parAfter (oRail 0) Pid.Rail.PG_TIMEOUT (exec .startupConfigApplied strayState) = some 1001 := by decide +kernel

/-- Refutes O52: the swap of loop 160 writes over PG_TIMEOUT of rail 0 after the configuration has been loaded. -/
theorem not_startupAndRecovery : ¬ Obligations.StartupAndRecovery := by
  intro h
  obtain ⟨-, hApplied, -⟩ := h strayState
  obtain ⟨t, ht, -, -, hrail⟩ := hApplied (by decide) (by decide) rfl (by decide)
  have hstored : t.par (oRail 0) Pid.Rail.PG_TIMEOUT = 100000 :=
    (hrail 0 (by decide) Pid.Rail.PG_TIMEOUT _ rfl rfl (by decide) (by decide)).trans (by decide)
  have hstray : t.par (oRail 0) Pid.Rail.PG_TIMEOUT = 1001 := by
    have := parAfter_stray_pgTimeout
    rw [ht] at this
    exact Option.some.inj this
  omega

end Sys2Proof.Machine

/-! # Proofs: the parameters of SHELF and DEVICE, the link and the power side (O31) -/
namespace Sys2Proof.Machine
open Sys2Proof
set_option Elab.async false

/-! ## The first parameters of an object -/

/-- The first parameters of an object's own. SHELF's, DEVICE's and the Updater's are states, causes and counts that few
commands write. -/
def headPid (pid : Nat) : Bool := decide (0x100 ≤ pid) && decide (pid ≤ 0x107)

/-- The parameters 0x100 to 0x107 of the objects `O` are as they were. -/
structure HeadKept (O : Nat → Prop) (s t : State) : Prop where
  par : ∀ o pid, O o → headPid pid = true → t.par o pid = s.par o pid

section
variable {O : Nat → Prop} {s x y : State} {o pid : Nat}

theorem HeadKept.refl (s : State) : HeadKept O s s := ⟨fun _ _ _ _ => rfl⟩

theorem HeadKept.trans (h : HeadKept O s x) (k : HeadKept O x y) : HeadKept O s y :=
  ⟨fun o pid ho hp => (k.par o pid ho hp).trans (h.par o pid ho hp)⟩

/-- An operation whose footprint names none of these parameters keeps them. -/
theorem HeadKept.foot {fs : List Fld} {ps : List Nat} (h : HeadKept O s x) (k : Foot fs (some ps) x y)
    (hp : ps.all (fun n => !headPid n) = true := by rfl) : HeadKept O s y := by
  refine h.trans ⟨fun o pid _ hpid => k.par _ rfl o pid ?_ ?_⟩
  · simp only [headPid, Bool.and_eq_true, decide_eq_true_eq] at hpid
    omega
  · refine Bool.eq_false_iff.2 fun hc => ?_
    have := List.all_eq_true.1 hp pid (by simpa using hc)
    simp [hpid] at this

/-- A write to any other object keeps them. -/
theorem HeadKept.setPar {v : Int} (h : HeadKept O s x) (ho : ¬ O o) (hp : pid < 4096 := by decide) :
    HeadKept O s (x.setPar o pid v) := by
  refine h.trans ⟨fun o' pid' ho' hp' => x.par_setPar_other _ fun he => ?_⟩
  simp only [headPid, Bool.and_eq_true, decide_eq_true_eq] at hp'
  exact ho (((keyOf_inj (by omega) hp).1 he).1 ▸ ho')

/-- A write to another parameter keeps them. -/
theorem HeadKept.setOther {v : Int} (h : HeadKept O s x)
    (hp : (decide (pid < 4096) && !headPid pid) = true := by rfl) : HeadKept O s (x.setPar o pid v) := by
  simp only [Bool.and_eq_true, decide_eq_true_eq, Bool.not_eq_true'] at hp
  refine h.trans ⟨fun o' pid' _ hp' => x.par_setPar_other _ fun he => ?_⟩
  have hlt : pid' < 4096 := by
    simp only [headPid, Bool.and_eq_true, decide_eq_true_eq] at hp'
    omega
  rw [((keyOf_inj hlt hp.1).1 he).2, hp.2] at hp'
  cases hp'

theorem HeadKept.incPar (h : HeadKept O s x) (ho : ¬ O o) (hp : pid < 4096 := by decide) :
    HeadKept O s (x.incPar o pid) := h.setPar ho hp

theorem HeadKept.ite {c : Prop} [Decidable c] (hx : HeadKept O s x) (hy : HeadKept O s y) :
    HeadKept O s (if c then x else y) := by split <;> assumption

theorem HeadKept.foldl {α : Type} {f : State → α → State} (hf : ∀ x a, HeadKept O x (f x a)) (l : List α)
    (h : HeadKept O s x) : HeadKept O s (l.foldl f x) := by
  induction l generalizing x with
  | nil => exact h
  | cons a l ih => exact ih (h.trans (hf x a))

theorem HeadKept.eachOf {f : Nat → State → State} (hf : ∀ n x, HeadKept O x (f n x)) (l : List Nat)
    (h : HeadKept O s x) : HeadKept O s (x.eachOf l f) := h.foldl (fun x n => hf n x) l

theorem HeadKept.each {f : Nat → State → State} (hf : ∀ n x, HeadKept O x (f n x)) (n : Nat)
    (h : HeadKept O s x) : HeadKept O s (x.each n f) := h.foldl (fun x n => hf n x) _

/-- A change of the state beside its parameters keeps them. -/
theorem HeadKept.same (h : HeadKept O s x) (e : y.params = x.params := by rfl) : HeadKept O s y :=
  h.trans ⟨fun o pid _ _ => by unfold State.par; rw [e]⟩

theorem HeadKept.setObj {v : Int} (h : HeadKept O s x) : HeadKept O s (x.setObj o v) := h.setOther

end

/-! ### Records

A record writes its source's SOURCE_SEQ and Grist's parameters only. -/

section
variable {O : Nat → Prop} (hg : ¬ O oGrist) (s : State) (source cls event : Nat) (snap : List Snap)
include hg

theorem gristParams_head : HeadKept O s s.gristParams :=
  (((HeadKept.refl s).setPar hg).setPar hg |>.setPar hg).setPar hg

theorem storeRec_head (late : Bool) (w : List Word) : HeadKept O s (s.storeRec source cls event late w) := by
  unfold State.storeRec
  refine .trans ?_ (gristParams_head hg _)
  exact .setOther (pid := Pid.SOURCE_SEQ) (.same (.refl s))

theorem createRec_head (late : Bool) : HeadKept O s (s.createRec source cls event late snap) := by
  unfold State.createRec
  refine .ite (.incPar ⟨fun _ _ _ _ => rfl⟩ hg) (.ite ?_ (storeRec_head hg ..))
  exact ((storeRec_head hg ..).trans (storeRec_head hg ..)).foot State.raise_foot

theorem record_head : HeadKept O s (s.record source cls event snap) := by
  unfold State.record
  exact .ite (.refl s) (.ite (.same (.refl s)) (createRec_head hg ..))

theorem recordPsd_head : HeadKept O s (s.recordPsd source cls event snap) := by
  unfold State.recordPsd
  exact .ite (record_head hg ..) (.same (.refl s))

theorem flushRecords_head (psd : Bool) : HeadKept O s (s.flushRecords psd) :=
  HeadKept.foldl (fun _ _ => createRec_head hg ..) _ (.same (.refl s))

theorem linkRecords_head : HeadKept O s s.linkRecords := by
  unfold State.linkRecords
  exact .ite (flushRecords_head hg ..) (.same (.refl s))

end

/-! ## The first parameters of SHELF and DEVICE

The loop of a swap may be any number, but no loop is SHELF or DEVICE. -/

/-- The first parameters of SHELF and DEVICE are as they were. -/
abbrev SystemKept : State → State → Prop := HeadKept (· < 2)

theorem oLoop_not_system (n : Nat) : ¬ oLoop n < 2 := by
  unfold oLoop
  split <;> simp only [oPhase, oOuter] <;> omega

theorem oGrist_not_system : ¬ oGrist < 2 := by decide

/-! ### The loops, phases and segments -/

theorem loopSwap_system (s : State) (n : Nat) : SystemKept s (s.loopSwap n) := by
  have ho := oLoop_not_system n
  unfold State.loopSwap
  refine .foot ?_ State.swapsDone_foot
  refine .foot ?_ State.flumeStopOn_foot
  have k (x : State) : SystemKept x (x.askNvm .config (.loopImage n 0) 1 none) := (HeadKept.refl x).foot State.askNvm_foot
  have h : SystemKept s (s.setPar (oLoop n) Pid.Phase.ACTIVE_BANK (1 - s.activeBank n : Nat)) := (HeadKept.refl s).setPar ho
  have r {x : State} {a b : Nat} {l : List Snap} (hx : SystemKept s x) : SystemKept s (x.record (oLoop n) a b l) :=
    hx.trans (record_head oGrist_not_system ..)
  refine .ite (.trans ?_ (k _)) ?_ <;> exact r ((h.setPar ho).trans ⟨fun _ _ _ _ => rfl⟩)

theorem loopStopped_system (s : State) (n : Nat) : SystemKept s (s.loopStopped n) := by
  have hf : SystemKept s (if s.flumeOn n then s.flumeStop fcTARGET_STOPPED else s) :=
    .ite ((HeadKept.refl s).foot State.flumeStop_foot) (.refl s)
  have ht := hf.foot (State.traceStop_foot (x1 := n))
  unfold State.loopStopped
  extract_lets a b own c
  have hc : SystemKept s c := .ite (ht.trans (loopSwap_system ..)) ht
  exact .eachOf (fun k x => loopSwap_system x k) _ hc

theorem outerIdle_system (s : State) (m : Nat) : SystemKept s (s.outerIdle m) := by
  have h : SystemKept s (s.modLoop (24 + m) fun a => { a with running := false, nAct := 0 }) := ⟨fun _ _ _ _ => rfl⟩
  unfold State.outerIdle
  exact .ite ((HeadKept.ite h.setObj h).trans (loopStopped_system ..)) (.refl s)

theorem stopPhase_system (s : State) (p : Nat) : SystemKept s (s.stopPhase p) := by
  unfold State.stopPhase
  refine .ite ?_ (.same (.refl s))
  extract_lets a b
  have hb : SystemKept s b := (HeadKept.same (y := a) (.refl s)).trans (loopStopped_system ..)
  split
  · exact hb.trans (outerIdle_system ..)
  · exact hb

/-- A phase that stops with its converter, and waits if it was starting or active. -/
theorem stopPhaseWait_system (s : State) (p : Nat) :
    SystemKept s (if (s.stopPhase p).objSt (oPhase p) == osStarting || (s.stopPhase p).objSt (oPhase p) == osActive then
      (s.stopPhase p).setObj (oPhase p) osWaiting else s.stopPhase p) :=
  .ite (stopPhase_system s p).setObj (stopPhase_system s p)

theorem stopConverter_system (s : State) (b : Nat) : SystemKept s (s.stopConverter b) :=
  HeadKept.eachOf (fun p x => stopPhaseWait_system x p) _ (.refl s)

theorem stopLone_system (s : State) : SystemKept s s.stopLone :=
  HeadKept.eachOf (fun p x => stopPhaseWait_system x p) _ (.refl s)

theorem stopConversion_system (s : State) : SystemKept s s.stopConversion := by
  unfold State.stopConversion
  refine .each (fun b x => ?_) _ (.each (fun p x => stopPhaseWait_system x p) _ (.refl s))
  have h : SystemKept x (if x.objSt (oSeg b) == osStarting || x.objSt (oSeg b) == osActive then
      x.setObj (oSeg b) osWaiting else x) := .ite (HeadKept.refl x).setObj (.refl x)
  have hm := h.trans (y := State.modSeg _ b fun a =>
    { a with offTime := false, overHold := false, ramping := false, fired := 0 }) ⟨fun _ _ _ _ => rfl⟩
  exact (HeadKept.ite hm (hm.setPar (by simp only [oSeg]; omega))).foot State.slewsSettle_foot

theorem swapIdle_system (s : State) (j : SwapJob) : SystemKept s (s.swapIdle j) :=
  HeadKept.eachOf (fun n x => loopSwap_system x n) _ (.refl s)

theorem registerSwap_system (s : State) (j : SwapJob) : SystemKept s (s.registerSwap j) := by
  unfold State.registerSwap
  refine .trans ?_ (swapIdle_system ..)
  have h : SystemKept s { s with wheel := { s.wheel with swaps := s.wheel.swaps ++ [{ j with registered := true }] } } :=
    ⟨fun _ _ _ _ => rfl⟩
  dsimp only
  split
  · exact h.foot State.opCommit_foot
  · exact h

theorem floatLeave_system (s : State) : SystemKept s s.floatLeave := by
  have g {s x : State} {j : List Nat} {m n : Nat} (hx : SystemKept s x) :
      SystemKept s (if j.isEmpty then x else x.registerSwap (ownSwap j m n)) :=
    .ite hx (hx.trans (registerSwap_system ..))
  have h : SystemKept s (s.setPar oDevice Pid.Device.DEVICE_MODE 0) := (HeadKept.refl s).setOther
  unfold State.floatLeave
  refine .ite (.refl s) ?_
  extract_lets a staying w b c lone back d
  have hc : SystemKept s c := .each (fun m x => by extract_lets; exact g (.refl x)) _ (h.same (y := b) rfl)
  have hd : SystemKept s d := g hc
  refine .each (x := d) (fun n x => ?_) _ hd
  exact .same (.refl x) rfl

/-! ### The feeders, strings and the walk down -/

theorem feederTrip_system (s : State) (f : Nat) (bits : List Nat) : SystemKept s (s.feederTrip f bits) := by
  have h : SystemKept s ((s.gateOff f).modFeeder f fun a => { a with condition := false, reseat := false }) :=
    ⟨fun _ _ _ _ => rfl⟩
  unfold State.feederTrip
  exact (HeadKept.incPar (h.setObj.foot State.latchFault_foot) (by simp only [oFeeder]; omega)).trans (recordPsd_head oGrist_not_system ..)

theorem readWeir_system (s : State) (f : Nat) : SystemKept s (s.readWeir f) := by
  unfold State.readWeir
  exact .ite (feederTrip_system ..) (.refl s)

theorem stringTrip_system (s : State) (k : Nat) (bits : List Nat) : SystemKept s (s.stringTrip k bits) := by
  have h : SystemKept s (s.switchOff k) := ⟨fun _ _ _ _ => rfl⟩
  unfold State.stringTrip
  exact (HeadKept.incPar (h.setObj.foot State.latchFault_foot) (by simp only [oString]; omega)).trans (recordPsd_head oGrist_not_system ..)

theorem readString_system (s : State) (k : Nat) : SystemKept s (s.readString k) := by
  unfold State.readString
  exact .ite (stringTrip_system ..) (.refl s)

theorem powerDown_system (s : State) (n : Nat) : SystemKept s (s.powerDown n) := by
  unfold State.powerDown
  refine .eachOf (fun k x => (readString_system x k).foot State.stringWait_foot) _ ?_
  refine .eachOf (fun b x => ?_) _ (.ite (.trans ?_ (stopLone_system _)) ?_)
  · have h := stopConverter_system x b
    extract_lets a c
    have hc : SystemKept x c := .ite h.setObj h
    exact (hc.same (y := c.modSeg b _)).foot State.slewsSettle_foot
  all_goals exact .eachOf (fun f x => (readWeir_system x f).foot State.feederWait_foot) _ (.refl s)

theorem downCatchUp_system (s : State) : SystemKept s s.downCatchUp := by
  unfold State.downCatchUp
  exact .ite (.foldl (fun x i => .ite (powerDown_system ..) (.refl x)) _ (.refl s)) (.refl s)

theorem psdOutputsOff_system (s : State) : SystemKept s s.psdOutputsOff := by
  unfold State.psdOutputsOff
  refine .trans ?_ (stopConversion_system _)
  exact .each (fun k x => (HeadKept.refl x).foot State.stringWait_foot) _
    (.each (fun f x => (HeadKept.refl x).foot State.feederWait_foot) _ (.refl s))

/-! ## Outputs that are off stay off -/

section
variable {α : Type} {n : Nat} {P : α → Prop}

theorem vget_vmod_all {v : Vector α n} {i j : Nat} {f : α → α} {d : α} (hf : ∀ a, P a → P (f a))
    (h : P (vget v j d)) : P (vget (vmod v i f) j d) := by
  by_cases hj : j < n
  · by_cases hi : i < n
    · by_cases he : i = j
      · subst he
        rw [vget_vmod _ hj]
        exact hf _ h
      · simpa [vget, vmod, hi, hj, Vector.getElem_set_ne, he] using h
    · simpa [vmod, hi] using h
  · simpa [vget, hj] using h

theorem vget_vmod_at {v : Vector α n} {i : Nat} {f : α → α} {d : α} (hf : ∀ a, P (f a)) (hd : P d) :
    P (vget (vmod v i f) i d) := by
  by_cases hi : i < n
  · rw [vget_vmod _ hi]
    exact hf _
  · simpa [vget, hi] using hd

end

theorem each_keeps {P : State → Prop} {f : Nat → State → State} (hk : ∀ i x, P x → P (f i x)) (n : Nat) {s : State}
    (h : P s) : P (s.each n f) :=
  List.foldlRecOn _ _ h fun x hx i _ => hk i x hx

theorem eachOf_keeps {P : State → Prop} {f : Nat → State → State} (hk : ∀ i x, P x → P (f i x)) (l : List Nat)
    {s : State} (h : P s) : P (s.eachOf l f) :=
  List.foldlRecOn _ _ h fun x hx i _ => hk i x hx

/-- What each step of a sweep sets and every other step keeps holds of all of them at its end. -/
theorem each_sets {P : Nat → State → Prop} {f : Nat → State → State} (hs : ∀ i x, P i (f i x))
    (hk : ∀ i j x, P j x → P j (f i x)) (n : Nat) (s : State) : ∀ j < n, P j (s.each n f) := by
  have hsucc (n : Nat) : s.each (n + 1) f = f n (s.each n f) := by
    simp [State.each, List.range_succ, List.foldl_append]
  induction n with
  | zero => intro j hj; omega
  | succ n ih =>
    intro j hj
    rw [hsucc]
    by_cases he : j = n
    · subst he; exact hs _ _
    · exact hk n j _ (ih j (by omega))

/-! ### The phases -/

/-- The phase does not switch. -/
def PhaseOff (p : Nat) (s : State) : Prop := (s.phase p).switching = false

theorem PhaseOff.same {p : Nat} {s t : State} (h : PhaseOff p s) (e : t.phases = s.phases) : PhaseOff p t := by
  unfold PhaseOff State.phase
  rw [e]
  exact h

theorem PhaseOff.modPhase {p q : Nat} {s : State} {g : PhaseAux → PhaseAux} (h : PhaseOff p s)
    (hg : ∀ a, a.switching = false → (g a).switching = false) : PhaseOff p (s.modPhase q g) :=
  vget_vmod_all (P := fun a : PhaseAux => a.switching = false) hg h

theorem stopPhase_phases (s : State) (p : Nat) : ∃ g : PhaseAux → PhaseAux,
    (s.stopPhase p).phases = (s.modPhase p g).phases ∧ (∀ a, a.switching = false → (g a).switching = false) ∧
      ((s.phase p).switching = true → ∀ a, (g a).switching = false) := by
  unfold State.stopPhase
  split
  · extract_lets a b
    have hb : b.phases = a.phases := State.loopStopped_foot.fld .phases rfl
    refine ⟨_, show _ = a.phases from ?_, fun _ _ => rfl, fun _ _ => rfl⟩
    split
    · exact (State.outerIdle_foot.fld .phases rfl).trans hb
    · exact hb
  · next h => exact ⟨_, rfl, fun _ h => h, fun hs => absurd hs h⟩

theorem stopPhase_off (p : Nat) (s : State) : PhaseOff p (s.stopPhase p) := by
  obtain ⟨g, hp, hk, hs⟩ := stopPhase_phases s p
  refine PhaseOff.same ?_ hp
  by_cases h : (s.phase p).switching = true
  · exact vget_vmod_at (P := fun a : PhaseAux => a.switching = false) (hs h) rfl
  · exact PhaseOff.modPhase (Bool.eq_false_iff.2 h) hk

theorem stopPhase_keeps_off (p q : Nat) (s : State) (h : PhaseOff q s) : PhaseOff q (s.stopPhase p) := by
  obtain ⟨g, hp, hk, -⟩ := stopPhase_phases s p
  exact (h.modPhase hk).same hp

theorem stopConversion_off (s : State) : ∀ p < 24, PhaseOff p s.stopConversion := by
  intro p hp
  unfold State.stopConversion
  refine each_keeps (fun b x hx => ?_) _ ?_
  · refine hx.same ((State.slewsSettle_foot.fld .phases rfl).trans ?_)
    split <;> split <;> rfl
  · refine each_sets (P := PhaseOff) (fun i x => ?_) (fun i j x hj => ?_) 24 s p hp
    · exact (stopPhase_off i x).same (by dsimp only; split <;> rfl)
    · exact (stopPhase_keeps_off i j x hj).same (by dsimp only; split <;> rfl)

theorem modChan_keeps_off (s : State) (o p : Nat) (g : Chan → Chan) (h : PhaseOff p s) : PhaseOff p (s.modChan o g) := by
  unfold State.modChan
  split
  · exact h.modPhase fun _ ha => ha
  · exact h.same (State.modFeeder_foot.fld .phases rfl)
  · exact h.same (State.modSeg_foot.fld .phases rfl)
  · exact h.same (State.modStr_foot.fld .phases rfl)
  · exact h

theorem spoilIntervals_keeps_off (s : State) (p : Nat) (h : PhaseOff p s) : PhaseOff p s.spoilIntervals := by
  unfold State.spoilIntervals
  refine eachOf_keeps (P := PhaseOff p) (fun o x hx => ?_) _ h
  have hc := modChan_keeps_off x o p (fun c => { c with spoiltMs := true, spoilt := true }) hx
  dsimp only
  split
  · exact hc
  · exact hc

/-! ### The feeders and strings -/

/-- The feeder's gate is not driven. -/
def GateOff (f : Nat) (s : State) : Prop := (s.feeder f).gate = false

/-- The string is not connected. -/
def StringOff (k : Nat) (s : State) : Prop := (s.str k).connected = false

theorem GateOff.same {f : Nat} {s t : State} (h : GateOff f s) (e : t.feeders = s.feeders) : GateOff f t := by
  unfold GateOff State.feeder
  rw [e]
  exact h

theorem StringOff.same {k : Nat} {s t : State} (h : StringOff k s) (e : t.strings = s.strings) : StringOff k t := by
  unfold StringOff State.str
  rw [e]
  exact h

theorem feederWait_feeders (s : State) (f : Nat) :
    (s.feederWait f).feeders = ((s.gateOff f).modFeeder f fun a => { a with condition := false }).feeders := by
  unfold State.feederWait
  dsimp only
  split <;> rfl

theorem stringWait_strings (s : State) (k : Nat) : (s.stringWait k).strings = (s.switchOff k).strings := by
  unfold State.stringWait
  dsimp only
  split <;> rfl

theorem feederWait_off (f : Nat) (s : State) : GateOff f (s.feederWait f) := by
  have h : GateOff f (s.gateOff f) := vget_vmod_at (P := fun a : FeederAux => a.gate = false) (fun _ => rfl) rfl
  refine GateOff.same ?_ (feederWait_feeders s f)
  exact vget_vmod_all (P := fun a : FeederAux => a.gate = false) (fun _ ha => ha) h

theorem feederWait_keeps_off (f g : Nat) (s : State) (h : GateOff g s) : GateOff g (s.feederWait f) := by
  have h : GateOff g (s.gateOff f) := vget_vmod_all (P := fun a : FeederAux => a.gate = false) (fun _ _ => rfl) h
  refine GateOff.same ?_ (feederWait_feeders s f)
  exact vget_vmod_all (P := fun a : FeederAux => a.gate = false) (fun _ ha => ha) h

theorem stringWait_off (k : Nat) (s : State) : StringOff k (s.stringWait k) := by
  refine StringOff.same ?_ (stringWait_strings s k)
  exact vget_vmod_at (P := fun a : StringAux => a.connected = false) (fun _ => rfl) rfl

theorem stringWait_keeps_off (k j : Nat) (s : State) (h : StringOff j s) : StringOff j (s.stringWait k) := by
  refine StringOff.same ?_ (stringWait_strings s k)
  exact vget_vmod_all (P := fun a : StringAux => a.connected = false) (fun _ _ => rfl) h

/-- Without its supplies the power-side die drives no output (R268). -/
theorem psdOutputsOff_off (s : State) : OutputsOff s.psdOutputsOff := by
  unfold State.psdOutputsOff
  have hf := each_sets (P := GateOff) feederWait_off feederWait_keeps_off 16 s
  have hk := each_sets (P := StringOff) stringWait_off stringWait_keeps_off 4 (s.each 16 fun f s => s.feederWait f)
  refine ⟨fun f h => ?_, fun k h => ?_, stopConversion_off _⟩
  · refine GateOff.same ?_ (State.stopConversion_foot.fld .feeders rfl)
    exact each_keeps (fun k x hx => hx.same (State.stringWait_foot.fld .feeders rfl)) _ (hf f h)
  · exact (hk k h).same (State.stopConversion_foot.fld .strings rfl)

/-! ## The link -/

/-- Leaving FLOAT leaves DEVICE_MODE at RUN, or in WATCH as it was (R15). -/
theorem floatLeave_inFloat (s : State) : s.floatLeave.inFloat = false := by
  have mode {fs : List Fld} {x t : State} (h : x.par oDevice Pid.Device.DEVICE_MODE = 0)
      (k : Foot fs (some [5, 256, 257, 258, 260, 261, 264, 305, 307, 385]) x t) : t.inFloat = false := by
    unfold State.inFloat State.deviceMode
    rw [k.par _ rfl _ _ (by decide) rfl, h]
    rfl
  unfold State.floatLeave
  split
  · next h => simpa using h
  · extract_lets a staying w b c lone back d
    have g {x y : State} {j : List Nat} {m n : Nat}
        (hx : Foot [.flume, .ports, .hopper, .nvm, .wheel, .grist, .loops]
          (some [5, 256, 257, 258, 260, 261, 264, 305, 307, 385]) x y) :
        Foot [.flume, .ports, .hopper, .nvm, .wheel, .grist, .loops]
          (some [5, 256, 257, 258, 260, 261, 264, 305, 307, 385]) x
          (if j.isEmpty then y else y.registerSwap (ownSwap j m n)) :=
      .ite hx (State.registerSwap_foot.on hx)
    have hb : Foot [.flume, .ports, .hopper, .nvm, .wheel, .grist, .loops]
        (some [5, 256, 257, 258, 260, 261, 264, 305, 307, 385]) a b := (Foot.refl _ _ a).withWheel
    have hc := State.each_foot (n := 8) (f := fun m s =>
      have back := s.returning ((24 + m) :: s.namingPhases m)
      if back.isEmpty then s else s.registerSwap (ownSwap back 1 (24 + m))) hb fun m x hx => g hx
    refine mode (s.par_setPar_same (by decide) 0) (State.each_foot (g hc) fun n x hx => ?_)
    exact State.modLoop_foot.on hx

theorem linkLoss_of_up {s : State} (h : s.linkUp = true) : s.linkLoss =
    ((s.setPar oDevice Pid.Device.UHLES_STATUS 1).flumeStop fcLINK_LOSS).stopConversion.traceHalt.floatLeave.spoilIntervals := by
  simp [State.linkLoss, h]

/-- A parameter UHLES_STATUS of 1 is a link that is down. -/
theorem linkUp_of_status {s : State} (h : s.par oDevice Pid.Device.UHLES_STATUS = 1) : s.linkUp = false := by
  unfold State.linkUp
  rw [h]
  rfl

theorem SystemKept.linkUp {s t : State} (h : SystemKept s t) : t.linkUp = s.linkUp := by
  unfold State.linkUp
  rw [h.par oDevice _ (by decide) (by decide)]

/-- After a loss the link is down. -/
theorem linkLoss_linkUp (s : State) : s.linkLoss.linkUp = false := by
  by_cases h : s.linkUp = true
  · have k : SystemKept (s.setPar oDevice Pid.Device.UHLES_STATUS 1) s.linkLoss := by
      rw [linkLoss_of_up h]
      have hc := ((HeadKept.refl (s.setPar oDevice Pid.Device.UHLES_STATUS 1)).foot
        (State.flumeStop_foot (x1 := fcLINK_LOSS))).trans (stopConversion_system _)
      exact ((hc.foot State.traceHalt_foot).trans (floatLeave_system _)).foot State.spoilIntervals_foot
    rw [k.linkUp]
    exact linkUp_of_status (s.par_setPar_same (by decide) 1)
  · have hd : s.linkUp = false := Bool.eq_false_iff.2 h
    rw [State.linkLoss, hd]
    exact hd

theorem linkLoss_inFloat {s : State} (h : s.linkUp = true) : s.linkLoss.inFloat = false := by
  rw [linkLoss_of_up h]
  unfold State.inFloat State.deviceMode
  rw [State.spoilIntervals_foot.par _ rfl _ _ (by decide) rfl]
  exact floatLeave_inFloat _

/-- A loss of the link stops every phase (R14). -/
theorem linkLoss_off {s : State} (h : s.linkUp = true) : ∀ p < 24, PhaseOff p s.linkLoss := by
  intro p hp
  rw [linkLoss_of_up h]
  refine spoilIntervals_keeps_off _ p ?_
  refine PhaseOff.same ?_ (State.floatLeave_foot.fld .phases rfl)
  exact (stopConversion_off _ p hp).same (State.traceHalt_foot.fld .phases rfl)

/-- A count below the end of its counter advances by one. -/
theorem State.par_incPar {s : State} {o pid : Nat} {d : Desc} (hd : findDesc o pid = some d) (hp : pid < 4096)
    (h : s.par o pid < d.hi) : (s.incPar o pid).par o pid = s.par o pid + 1 := by
  unfold State.incPar State.addPar State.updPar
  rw [hd, s.par_setPar_same hp]
  exact if_pos (by push_cast; omega)

/-- The recovery of the link clears UHLES_STATUS and counts the loss (R15). -/
theorem linkRecovery_runs (us : Word) {s : State} (ha : s.csAwake = true) (hl : s.linkUp = false)
    (hn : s.par oDevice Pid.Device.LINK_LOSS_COUNT < 4294967295) :
    Runs (.uhlesLinkRecovery us) s fun t => t.linkUp = true ∧ t.supply.psdOk = true ∧
      t.par oDevice Pid.Device.LINK_LOSS_COUNT = s.par oDevice Pid.Device.LINK_LOSS_COUNT + 1 := by
  have hc : (s.setPar oDevice Pid.Device.UHLES_STATUS 0).par oDevice Pid.Device.LINK_LOSS_COUNT =
      s.par oDevice Pid.Device.LINK_LOSS_COUNT := s.par_setPar_other 0 (by decide)
  let u := (s.setPar oDevice Pid.Device.UHLES_STATUS 0).incPar oDevice Pid.Device.LINK_LOSS_COUNT
  let v : State := { u with supply := { u.supply with psdOk := true } }
  have hstatus : v.par oDevice Pid.Device.UHLES_STATUS = 0 :=
    (State.par_setPar_other _ _ (by decide)).trans (s.par_setPar_same (by decide) 0)
  have hcount : v.par oDevice Pid.Device.LINK_LOSS_COUNT = s.par oDevice Pid.Device.LINK_LOSS_COUNT + 1 := by
    rw [← hc]
    exact State.par_incPar (d := (findDesc oDevice Pid.Device.LINK_LOSS_COUNT).get (by decide)) (by simp) (by decide)
      (by rw [hc]; exact hn)
  let l : List Snap := [.par oDevice Pid.Device.LINK_LOSS_COUNT, .lit us.toNat]
  let t := (v.linkRecords.record oDevice rcFault 0x05 l).downCatchUp
  have k : SystemKept v t :=
    ((linkRecords_head oGrist_not_system v).trans (record_head oGrist_not_system ..)).trans (downCatchUp_system _)
  have hsup : t.supply = v.supply :=
    (State.downCatchUp_foot.fld .supply rfl).trans
      ((State.record_foot.fld .supply rfl).trans (State.linkRecords_foot.fld .supply rfl))
  refine ⟨t, show execUhlesLinkRecovery us s = .next t from ?_, ?_, ?_, ?_⟩
  · simp only [execUhlesLinkRecovery, ha, hl, Bool.not_true, Bool.or_false, Bool.false_eq_true, if_false]
    rfl
  · rw [k.linkUp, State.linkUp, hstatus]
    rfl
  · rw [hsup]
  · rw [k.par oDevice _ (by decide) (by decide), hcount]

theorem psdOutputsOff_supply (s : State) : s.psdOutputsOff.supply = s.supply := State.psdOutputsOff_foot.fld .supply rfl

theorem linkLoss_supply (s : State) : s.linkLoss.supply = s.supply := State.linkLoss_foot.fld .supply rfl

/-- The fall of the power-side die's supplies turns every output off and takes the link with it (R268). -/
theorem psdReset_runs (s : State) :
    Runs .psdReset s fun t => t.supply.psdOk = false ∧ OutputsOff t ∧ (s.csAwake = true → t.linkUp = false) := by
  let u : State := { s with supply := { s.supply with psdOk := false } }
  have he : exec .psdReset s = .next (if u.csAwake then u.linkLoss.psdOutputsOff else u.psdOutputsOff) := rfl
  by_cases h : s.csAwake = true
  · refine ⟨u.linkLoss.psdOutputsOff, he.trans (by rw [if_pos (show u.csAwake = true from h)]), ?_, psdOutputsOff_off _, ?_⟩
    · rw [psdOutputsOff_supply, linkLoss_supply]
    · intro _
      rw [(psdOutputsOff_system _).linkUp]
      exact linkLoss_linkUp u
  · refine ⟨u.psdOutputsOff, he.trans (by rw [if_neg (show ¬ u.csAwake = true from h)]), ?_, psdOutputsOff_off _, ?_⟩
    · rw [psdOutputsOff_supply]
    · exact fun ha => absurd ha h

/-- Settles O31: every output that a loss of the link or of the power-side supplies turns off stays off to the end of the
command, and UHLES_STATUS and the count are kept by all that follows. -/
theorem linkAndPowerSideFollow : Obligations.LinkAndPowerSideFollow := by
  intro s
  refine ⟨fun ha hl => ?_, fun us ha hl hn => linkRecovery_runs us ha hl hn, psdReset_runs s, ?_, rfl⟩
  · refine ⟨s.linkLoss, ?_, linkLoss_linkUp s, linkLoss_inFloat hl, linkLoss_off hl⟩
    exact (if_pos ha : execUhlesLinkLoss s = .next s.linkLoss)
  · exact ⟨_, rfl, congrArg SupplyState.vps12Ok (psdOutputsOff_supply _), psdOutputsOff_off _⟩

end Sys2Proof.Machine

/-! # Proofs: the boot and the level 3 restart (O34) -/
namespace Sys2Proof.Machine
open Sys2Proof
set_option Elab.async false

/-! ## The boot of firmware -/

/-- The cold state beside the parameters: no operation is held, no configuration is applied, no restart runs. -/
structure Cold (s : State) : Prop where
  ops        : s.hopper.ops = []
  configOff  : s.shelf.configApplied = false
  restarting : s.miller.restarting = false

/-- The state that a boot of firmware makes before it chooses the running bank. -/
def State.bootCold (s : State) (x : BootIn) (held latched : Bool) (save : Option SaveImage) : State :=
  let s := (s.coldParams.coldAux).bootStraps x.addr.toNat
  let s := s.gristParams.bootTick (x.aonValid && held) x.aonElapsed save
  let s := (((s.bootConfigValues.bootImages).bootCounters save).bootBattery save).bootState save
  { s with supply := { s.supply with cs := .run, retentionBad := 0 }, shelf := { s.shelf with latched := latched } }

/-- The records and the state STARTUP of a boot outside THERMAL_LATCHED. -/
def State.bootRun (s : State) (clean : Bool) (runs : List (Nat × Nat)) (before : Int) (save : Option SaveImage)
    (failed : Option Nat) (bad : List Nat) (rom : Bool) : State :=
  let s := (s.bootRecords clean runs).bootStartup before
  let s := ((s.bootTorn).bootSave save).bootFullTest
  let s := s.bootUpdRecords failed bad rom
  if s.linkUp then s.flushRecords true else s

section
variable {s t : State}

theorem Cold.foot {fs : List Fld} {ps : Option (List Nat)} (h : Cold s) (k : Foot fs ps s t)
    (hh : fs.contains .hopper = false := by rfl) (hf : fs.contains .shelf = false := by rfl)
    (hm : fs.contains .miller = false := by rfl) : Cold t := by
  obtain ⟨hops, hcfg, hres⟩ := h
  have eh : t.hopper = s.hopper := k.fld .hopper hh
  have ef : t.shelf = s.shelf := k.fld .shelf hf
  have em : t.miller = s.miller := k.fld .miller hm
  exact ⟨by rw [eh, hops], by rw [ef, hcfg], by rw [em, hres]⟩

theorem coldAux_cold (s : State) : Cold s.coldAux := ⟨rfl, rfl, rfl⟩

theorem bootCold_cold (s : State) (x : BootIn) (held latched : Bool) (save : Option SaveImage) :
    Cold (s.bootCold x held latched save) := by
  unfold State.bootCold
  extract_lets c d e
  have hd : Cold d := (((coldAux_cold _).foot State.bootStraps_foot).foot State.gristParams_foot).foot State.bootTick_foot
  have he : Cold e := ((((hd.foot State.bootConfigValues_foot).foot State.bootImages_foot).foot
    State.bootCounters_foot).foot State.bootBattery_foot).foot State.bootState_foot
  exact ⟨he.ops, he.configOff, he.restarting⟩

theorem bootRun_foot (clean : Bool) (runs : List (Nat × Nat)) (before : Int) (save : Option SaveImage)
    (failed : Option Nat) (bad : List Nat) (rom : Bool) :
    Foot [.ports, .nvm, .grist, .dresser] none s (s.bootRun clean runs before save failed bad rom) := by
  unfold State.bootRun
  extract_lets a b c
  have hc : Foot [.ports, .nvm, .grist, .dresser] none s c :=
    State.bootUpdRecords_foot.on <| State.bootFullTest_foot.on <| State.bootSave_foot.on <| State.bootTorn_foot.on <|
      State.bootStartup_foot.on <| State.bootRecords_foot.on <| .refl ..
  exact .ite (State.flushRecords_foot.on hc) hc

end

/-- A boot of firmware is the cold state, the running bank, and STARTUP or THERMAL_LATCHED. -/
theorem bootFirmware_eq (s : State) (b : Nat) (failed : Option Nat) (bad : List Nat) (x : BootIn) :
    ∃ (w : State) (clean : Bool) (runs : List (Nat × Nat)) (before : Int) (save : Option SaveImage) (rom : Bool),
      Cold w ∧ w.supply.cs = .run ∧
      s.bootFirmware b failed bad x =
        if s.shelf.latched && s.supply.cause != .powerUp then
          ((w.bootUpdate b).setPar oShelf Pid.Shelf.SHELF_STATE ssThermal).setPar oShelf Pid.Shelf.STATE_ENTRY_TICK
            (w.bootUpdate b).time.tick
        else (w.bootUpdate b).bootRun clean runs before save failed bad rom := by
  unfold State.bootFirmware
  extract_lets held latched save context u before rom
  rcases u.bootGrist save with ⟨clean, runs, g⟩
  exact ⟨g.bootCold x held latched save, clean, runs, before, save, rom, bootCold_cold .., rfl, rfl⟩

/-! ### The running bank and the shelf state -/

theorem bootUpdate_runningBank (s : State) (b : Nat) :
    (s.bootUpdate b).par oUpdater Pid.Updater.RUNNING_BANK = b := by
  unfold State.bootUpdate
  extract_lets trial c d scheduled u e v
  have he : e.par oUpdater Pid.Updater.RUNNING_BANK = b := c.par_setPar_same (by decide) _
  have k {t : State} (h : Foot [.upd] (some [256]) e t) : t.par oUpdater Pid.Updater.RUNNING_BANK = b :=
    (h.par _ rfl _ _ (by decide) rfl).trans he
  split
  · exact k (State.startCheckin_foot.on <| State.setUpd_foot.on <| .withUpd <| .refl ..)
  · split
    · exact k (State.setUpd_foot.on <| .refl ..)
    · exact k (State.updRest_foot.on <| .refl ..)

/-- The objects whose first parameters the records of a boot keep. -/
def BootHead (o : Nat) : Prop := o = oShelf ∨ o = oUpdater

theorem oGrist_not_bootHead : ¬ BootHead oGrist := by
  unfold BootHead
  decide

theorem oDresser_not_bootHead : ¬ BootHead oDresser := by
  unfold BootHead
  decide

theorem bootRecords_head (s : State) (clean : Bool) (runs : List (Nat × Nat)) :
    HeadKept BootHead s (s.bootRecords clean runs) := by
  have hg := oGrist_not_bootHead
  unfold State.bootRecords
  refine .foldl (fun x e => ?_) _ (.ite (.refl s) ?_)
  · exact (((HeadKept.refl x).setPar hg).setPar hg).trans (record_head hg ..)
  · exact ((HeadKept.refl s).setPar hg).trans (record_head hg ..)

/-- The records of STARTUP keep what its entry has written. -/
theorem bootStartup_head (s : State) (old : Int) :
    HeadKept BootHead ((s.setPar oShelf Pid.Shelf.SHELF_STATE ssStartup).setPar oShelf Pid.Shelf.STATE_ENTRY_TICK
      s.time.tick) (s.bootStartup old) := by
  have hg := oGrist_not_bootHead
  unfold State.bootStartup
  extract_lets a b c d
  have hb : HeadKept BootHead a b := createRec_head hg ..
  have hc : HeadKept BootHead a c := .ite (hb.trans (record_head hg ..)) hb
  have hd : HeadKept BootHead a d := .ite (.trans (.setOther hc) (record_head hg ..)) hc
  exact hd.foot State.askOnce_foot

theorem bootTorn_head (s : State) : HeadKept BootHead s s.bootTorn := by
  unfold State.bootTorn
  exact .each (fun _ x => .trans (.setOther (.refl x)) (record_head oGrist_not_bootHead ..)) _ (.same (.refl s))

theorem bootSave_head (s : State) (save : Option SaveImage) : HeadKept BootHead s (s.bootSave save) := by
  unfold State.bootSave
  split
  · exact .refl s
  · have h := (HeadKept.refl (O := BootHead) s).foot (State.askOnce_foot (x1 := .counters) (x2 := .saveApplied) (x3 := 1))
    exact .ite h (.trans (.setOther h) (record_head oGrist_not_bootHead ..))

theorem queueRepair_head (s : State) (arr codeword : Nat) : HeadKept BootHead s (s.queueRepair arr codeword) := by
  unfold State.queueRepair
  extract_lets row a rows
  have ha : HeadKept BootHead s a := .same (.refl s)
  refine .ite ha (.ite (ha.setPar oDresser_not_bootHead) ?_)
  exact (HeadKept.same (y := a.modDresser _) ha).foot State.askNvm_foot

theorem bootFullTest_head (s : State) : HeadKept BootHead s s.bootFullTest := by
  unfold State.bootFullTest
  split
  · refine .same (.foldl (fun x e => queueRepair_head ..) _ ?_)
    exact .trans (.setPar (.refl s) oDresser_not_bootHead) (record_head oGrist_not_bootHead ..)
  · exact .refl s

theorem updRecord_head {O : Nat → Prop} (hg : ¬ O oGrist) (s : State) (kind bank port : Nat) :
    HeadKept O s (s.updRecord kind bank port) := by
  unfold State.updRecord State.lifeRecord
  extract_lets a
  have ha : HeadKept O s a := record_head hg ..
  exact .ite (ha.foot State.raise_foot) ha

theorem bootUpdRecords_head (s : State) (failed : Option Nat) (bad : List Nat) (rom : Bool) :
    HeadKept BootHead s (s.bootUpdRecords failed bad rom) := by
  unfold State.bootUpdRecords
  extract_lets a b
  have ha : HeadKept BootHead s a := by
    unfold a
    split
    · exact updRecord_head oGrist_not_bootHead ..
    · exact .refl s
  have hb : HeadKept BootHead s b := .eachOf (fun n x => updRecord_head oGrist_not_bootHead ..) _ ha
  exact .ite (hb.trans (updRecord_head oGrist_not_bootHead ..)) hb

section
variable {s : State} {clean rom : Bool} {runs : List (Nat × Nat)} {before : Int} {save : Option SaveImage}
  {failed : Option Nat} {bad : List Nat}

/-- After the entry into STARTUP the boot writes records and asks for work only. -/
theorem bootRun_head : ∃ u, HeadKept BootHead s u ∧
    HeadKept BootHead
      ((u.setPar oShelf Pid.Shelf.SHELF_STATE ssStartup).setPar oShelf Pid.Shelf.STATE_ENTRY_TICK u.time.tick)
      (s.bootRun clean runs before save failed bad rom) := by
  unfold State.bootRun
  extract_lets a b c
  have ha := bootStartup_head (s.bootRecords clean runs) before
  have hb := ((ha.trans (bootTorn_head _)).trans (bootSave_head _ save)).trans (bootFullTest_head _)
  have hc := hb.trans (bootUpdRecords_head _ failed bad rom)
  exact ⟨_, bootRecords_head s clean runs, .ite (hc.trans (flushRecords_head oGrist_not_bootHead ..)) hc⟩

theorem bootRun_runningBank : (s.bootRun clean runs before save failed bad rom).par oUpdater Pid.Updater.RUNNING_BANK =
    s.par oUpdater Pid.Updater.RUNNING_BANK := by
  obtain ⟨u, hu, ht⟩ := bootRun_head (s := s) (clean := clean) (runs := runs) (before := before) (save := save)
    (failed := failed) (bad := bad) (rom := rom)
  rw [ht.par _ _ (.inr rfl) (by decide), State.par_setPar_other _ _ (by decide), State.par_setPar_other _ _ (by decide),
    hu.par _ _ (.inr rfl) (by decide)]

theorem bootRun_shelfState : (s.bootRun clean runs before save failed bad rom).shelfState = ssStartup := by
  obtain ⟨u, -, ht⟩ := bootRun_head (s := s) (clean := clean) (runs := runs) (before := before) (save := save)
    (failed := failed) (bad := bad) (rom := rom)
  rw [State.shelfState, ht.par _ _ (.inl rfl) (by decide), State.par_setPar_other _ _ (by decide)]
  exact u.par_setPar_same (by decide) _

end

/-- What a boot of firmware from bank `b` leaves. -/
theorem bootFirmware_leaves (s : State) (b : Nat) (failed : Option Nat) (bad : List Nat) (x : BootIn) :
    Cold (s.bootFirmware b failed bad x) ∧ (s.bootFirmware b failed bad x).supply.cs = .run ∧
      (s.bootFirmware b failed bad x).par oUpdater Pid.Updater.RUNNING_BANK = b ∧
      (s.bootFirmware b failed bad x).shelfState =
        if s.shelf.latched && s.supply.cause != .powerUp then ssThermal else ssStartup := by
  obtain ⟨w, clean, runs, before, save, rom, hw, hrun, he⟩ := bootFirmware_eq s b failed bad x
  have hu : Cold (w.bootUpdate b) := hw.foot State.bootUpdate_foot
  have hus : (w.bootUpdate b).supply = w.supply := State.bootUpdate_foot.fld .supply rfl
  rw [he]
  split
  · refine ⟨⟨hu.ops, hu.configOff, hu.restarting⟩, congrArg SupplyState.cs hus |>.trans hrun, ?_, ?_⟩
    · rw [State.par_setPar_other _ _ (by decide), State.par_setPar_other _ _ (by decide), bootUpdate_runningBank]
    · rw [State.shelfState, State.par_setPar_other _ _ (by decide)]
      exact State.par_setPar_same _ (by decide) _
  · refine ⟨hu.foot (bootRun_foot ..), ?_, ?_, bootRun_shelfState⟩
    · have hts : ((w.bootUpdate b).bootRun clean runs before save failed bad rom).supply = (w.bootUpdate b).supply :=
        (bootRun_foot ..).fld .supply rfl
      rw [hts, hus, hrun]
    · rw [bootRun_runningBank, bootUpdate_runningBank]

/-! ## The ROM -/

/-- No phase switches and no slew runs: nothing of the conversion is left to stop. -/
structure ConversionIdle (s : State) : Prop where
  phases : ∀ p, PhaseOff p s
  slews  : ∀ n, (s.loop n).slewing = false

section
variable {s x : State}

theorem slewsSettle_idle (h : ConversionIdle s) (b : Nat) : s.slewsSettle b = s := by
  have he : (List.range 8).filter (fun m => (s.loop (24 + m)).slewing && s.loopSeg m == b) = [] := by
    simp [h.slews]
  unfold State.slewsSettle
  rw [he]
  rfl

theorem stopPhase_of_off {p : Nat} (h : PhaseOff p s) :
    s.stopPhase p = s.modPhase p fun a => { a with wait := none, shed := false } := by
  unfold State.stopPhase
  rw [if_neg (by rw [h]; decide)]

/-- What an idle conversion leaves of a state: phases, segments and their parameters move, and no more. -/
structure StopsIdle (s t : State) : Prop where
  foot : Foot [.phases, .segs] (some [1, 259]) s t
  idle : ConversionIdle t

theorem StopsIdle.same (h : StopsIdle s x) {t : State} (k : Foot [.segs] (some [1, 259]) x t) : StopsIdle s t := by
  have hp : t.phases = x.phases := k.fld .phases rfl
  have hl : t.loops = x.loops := k.fld .loops rfl
  exact ⟨k.on h.foot, fun p => (h.idle.phases p).same hp, fun n => by
    have := h.idle.slews n
    unfold State.loop at this ⊢
    rw [hl]
    exact this⟩

theorem StopsIdle.stopPhase (h : StopsIdle s x) (p : Nat) : StopsIdle s (x.stopPhase p) := by
  rw [stopPhase_of_off (h.idle.phases p)]
  refine ⟨State.modPhase_foot.on h.foot, fun q => ?_, h.idle.slews⟩
  exact (h.idle.phases q).modPhase fun _ ha => ha

theorem stopConversion_idle (h : ConversionIdle s) : StopsIdle s s.stopConversion := by
  unfold State.stopConversion
  refine each_keeps (P := StopsIdle s) (fun b x hx => ?_) _
    (each_keeps (P := StopsIdle s) (fun p x hx => ?_) _ ⟨.refl .., h⟩)
  · extract_lets a c d
    have ha : Foot [.segs] (some [1, 259]) x a := .ite (State.setObj_foot.on <| .refl ..) (.refl ..)
    have hc : Foot [.segs] (some [1, 259]) x c := State.modSeg_foot.on ha
    have hd : StopsIdle s d := hx.same (.ite hc (.setPar hc))
    rw [slewsSettle_idle hd.idle]
    exact hd
  · have hp := hx.stopPhase p
    exact hp.same (.ite (State.setObj_foot.on <| .refl ..) (.refl ..))

/-- Over an idle conversion the fall of the power side moves outputs and their states only. -/
theorem psdOutputsOff_idle (h : ConversionIdle s) :
    Foot [.phases, .segs, .feeders, .strings] (some [1, 259]) s s.psdOutputsOff := by
  unfold State.psdOutputsOff
  extract_lets a b
  have hb : Foot [.feeders, .strings] (some [1]) s b :=
    State.each_foot (State.each_foot (.refl ..) fun f t ht => State.feederWait_foot.on ht) fun k t ht =>
      State.stringWait_foot.on ht
  have hp : b.phases = s.phases := hb.fld .phases rfl
  have hl : b.loops = s.loops := hb.fld .loops rfl
  have hi : ConversionIdle b := ⟨fun p => (h.phases p).same hp, fun n => by
    have := h.slews n
    unfold State.loop at this ⊢
    rw [hl]
    exact this⟩
  exact (stopConversion_idle hi).foot.on (hb.on (.refl ..))

end

/-- Every entry of a vector that repeats the default is the default. -/
theorem vget_replicate {α : Type} (n i : Nat) (d : α) : vget (Vector.replicate n d) i d = d := by
  simp [vget]

theorem ConversionIdle.same {s t : State} (h : ConversionIdle s) (hp : t.phases = s.phases) (hl : t.loops = s.loops) :
    ConversionIdle t := by
  refine ⟨fun p => (h.phases p).same hp, fun n => ?_⟩
  rw [State.loop, hl]
  exact h.slews n

theorem coldAux_idle (s : State) : ConversionIdle s.coldAux :=
  ⟨fun p => congrArg PhaseAux.switching (vget_replicate 24 p PhaseAux.reset),
    fun n => congrArg LoopAux.slewing (vget_replicate 32 n LoopAux.reset)⟩

theorem outputsOff_setPar {s : State} {o pid : Nat} {v : Int} (h : OutputsOff s) : OutputsOff (s.setPar o pid v) :=
  ⟨fun f hlt => GateOff.same (h.feeders f hlt) rfl, fun k hlt => StringOff.same (h.strings k hlt) rfl,
    fun p hlt => PhaseOff.same (h.phases p hlt) rfl⟩

theorem bootStraps_primaryAddr (s : State) (addr : Nat) (p : HostPort) :
    (s.bootStraps addr).par (oPort p) Pid.HPort.PRIMARY_ADDR = (0x58 + addr : Nat) := by
  unfold State.bootStraps
  extract_lets c a b
  cases p with
  | ha => rw [State.par_setPar_other _ _ (by decide)]; exact b.par_setPar_same (by decide) _
  | hb => exact State.par_setPar_same _ (by decide) _

/-- ROM recovery: every output is off, no operation is held, and the straps give PRIMARY_ADDR (R412, R413). -/
theorem bootRom_leaves (s : State) (addr : Nat) :
    let t := (s.coldParams.coldAux.bootStraps addr).bootRom
    t.supply.cs = .rom ∧ OutputsOff t ∧ t.hopper.ops = [] ∧
      ∀ p, t.par (oPort p) Pid.HPort.PRIMARY_ADDR = (0x58 + addr : Nat) := by
  let u := s.coldParams.coldAux.bootStraps addr
  let v : State := { u with supply := { u.supply with cs := .rom }, upd := { u.upd with
    bundleLen := 0, units := [], headerOk := false, closing := none, due := false, dueAtCog := false
    waiting := none, checkin := none, checkinAsked := false, romEntry := true } }
  have hs : Foot [] (some [256, 257, 260]) s.coldParams.coldAux u := State.bootStraps_foot
  have hc : Cold u := (coldAux_cold _).foot hs
  have hv : ConversionIdle v := (coldAux_idle _).same (hs.fld .phases rfl) (hs.fld .loops rfl)
  have k := psdOutputsOff_idle hv
  have hsup : v.psdOutputsOff.supply = v.supply := k.fld .supply rfl
  have hops : v.psdOutputsOff.hopper = v.hopper := k.fld .hopper rfl
  intro t
  have ht : t = v.psdOutputsOff := rfl
  rw [ht, hsup, hops]
  refine ⟨rfl, psdOutputsOff_off v, hc.ops, fun p => ?_⟩
  exact (k.par _ rfl _ _ (by decide) rfl).trans (bootStraps_primaryAddr _ addr p)

/-! ## The choice of a bank -/

/-- The state in which the boot chooses a bank. -/
def State.bootChoice (s : State) : State :=
  let u := s.bootJournal.bootTrialFailed
  u.dropBanks u.badBanks

theorem bootChoice_foot (s : State) : Foot [.time, .nvm, .upd] (some [259, 260, 262, 266, 361]) s s.bootChoice :=
  State.dropBanks_foot.on <| State.bootTrialFailed_foot.on <| State.bootJournal_foot.on <| .refl ..

theorem execControlSideBoot_eq {s : State} (x : BootIn) (h : s.supply.cs = .reset ∨ s.supply.cs = .off) :
    ∃ failed bad, exec (.controlSideBoot x) s =
      match (if x.recoveryN && s.bootChoice.par oUpdater Pid.Updater.TRIAL_FAILS < 2 then s.bootChoice.bootBank
        else none) with
      | some b => .next (s.bootChoice.bootFirmware b failed bad x)
      | none => .next (((s.bootChoice.coldParams.coldAux.bootStraps x.addr.toNat).bootRom).setPar oShelf
          Pid.Shelf.SHELF_STATE s.bootChoice.shelfState) := by
  have hc : ¬ (s.supply.cs != .reset && s.supply.cs != .off) = true := by
    rcases h with h | h <;> rw [h] <;> decide
  exact ⟨_, _, (if_neg hc : execControlSideBoot x s = _)⟩

/-- With RECOVERY_N high, fewer than two failed trials and a bank that verifies, firmware starts. -/
theorem boot_firmware {s : State} {x : BootIn} {b : Nat} (h : s.supply.cs = .reset ∨ s.supply.cs = .off)
    (hr : x.recoveryN = true) (hf : s.bootChoice.par oUpdater Pid.Updater.TRIAL_FAILS < 2)
    (hb : s.bootChoice.bootBank = some b) :
    Runs (.controlSideBoot x) s fun t => t.supply.cs = .run ∧ t.par oUpdater Pid.Updater.RUNNING_BANK = b ∧
      t.shelfState = (if s.shelf.latched = true ∧ s.supply.cause ≠ .powerUp then ssThermal else ssStartup) ∧
      t.hopper.ops = [] ∧ t.shelf.configApplied = false ∧ t.miller.restarting = false := by
  obtain ⟨failed, bad, he⟩ := execControlSideBoot_eq x h
  rw [if_pos (by simp [hr, hf]), hb] at he
  obtain ⟨⟨hops, hcfg, hres⟩, hrun, hbank, hstate⟩ := bootFirmware_leaves s.bootChoice b failed bad x
  have hshelf : s.bootChoice.shelf = s.shelf := (bootChoice_foot s).fld .shelf rfl
  have hsup : s.bootChoice.supply = s.supply := (bootChoice_foot s).fld .supply rfl
  refine ⟨_, he, hrun, hbank, ?_, hops, hcfg, hres⟩
  rw [hstate, hshelf, hsup]
  simp only [Bool.and_eq_true, bne_iff_ne, ne_eq]

/-- Otherwise the ROM serves. -/
theorem boot_rom {s : State} {x : BootIn} (h : s.supply.cs = .reset ∨ s.supply.cs = .off)
    (hn : x.recoveryN = false ∨ 2 ≤ s.bootChoice.par oUpdater Pid.Updater.TRIAL_FAILS ∨ s.bootChoice.bootBank = none) :
    Runs (.controlSideBoot x) s fun t => t.supply.cs = .rom ∧ OutputsOff t ∧ t.hopper.ops = [] ∧
      t.shelfState = s.shelfState ∧ ∀ p, t.par (oPort p) Pid.HPort.PRIMARY_ADDR = 0x58 + x.addr.toNat := by
  obtain ⟨failed, bad, he⟩ := execControlSideBoot_eq x h
  have hnone : (if x.recoveryN && s.bootChoice.par oUpdater Pid.Updater.TRIAL_FAILS < 2 then s.bootChoice.bootBank
      else none) = none := by
    split
    · next hc =>
      simp only [Bool.and_eq_true, decide_eq_true_eq] at hc
      obtain ⟨hr, hf⟩ := hc
      rcases hn with hn | hn | hn
      · rw [hr] at hn; cases hn
      · omega
      · exact hn
    · rfl
  rw [hnone] at he
  obtain ⟨hcs, hoff, hops, haddr⟩ := bootRom_leaves s.bootChoice x.addr.toNat
  generalize (s.bootChoice.coldParams.coldAux.bootStraps x.addr.toNat).bootRom = u at he hcs hoff hops haddr
  have hstate : s.bootChoice.shelfState = s.shelfState := (bootChoice_foot s).par _ rfl _ _ (by decide) rfl
  refine ⟨_, he, hcs, outputsOff_setPar hoff, hops, ?_, fun p => ?_⟩
  · exact (State.par_setPar_same _ (by decide) _).trans hstate
  · rw [State.par_setPar_other _ _ (by cases p <;> decide), haddr]
    push_cast
    rfl

/-! ## The packets that wait

A restart holds the packets that arrive. Only `waitPacket` adds one and only `takeWaiting` takes them. -/

/-- What `f` shows of each port is as it was. -/
structure PortKept {α : Type} (f : HostPortAux → α) (s t : State) : Prop where
  port : ∀ p, f (t.port p) = f (s.port p)

/-- The packets that wait on each port are as they were. -/
abbrev WaitKept : State → State → Prop := PortKept HostPortAux.waiting

/-- The replies on each port are as they were. -/
abbrev RepliesKept : State → State → Prop := PortKept HostPortAux.replies

/-- The packets that wait and the replies on each port are as they were. -/
abbrev PacketsKept : State → State → Prop := PortKept fun a => (a.waiting, a.replies)

theorem PacketsKept.waiting {s t : State} (h : PacketsKept s t) : WaitKept s t :=
  ⟨fun p => congrArg Prod.fst (h.port p)⟩

theorem PacketsKept.replies {s t : State} (h : PacketsKept s t) : RepliesKept s t :=
  ⟨fun p => congrArg Prod.snd (h.port p)⟩

section
variable {β : Type} {f : HostPortAux → β} {s x y : State}

theorem PortKept.refl (s : State) : PortKept f s s := ⟨fun _ => rfl⟩

theorem PortKept.trans (h : PortKept f s x) (k : PortKept f x y) : PortKept f s y :=
  ⟨fun p => (k.port p).trans (h.port p)⟩

theorem PortKept.same (h : PortKept f s x) (e : y.ports = x.ports := by rfl) : PortKept f s y :=
  h.trans ⟨fun p => by unfold State.port; rw [e]⟩

/-- An operation that leaves the ports alone. -/
theorem PortKept.foot {fs : List Fld} {ps : Option (List Nat)} (h : PortKept f s x) (k : Foot fs ps x y)
    (hp : fs.contains .ports = false := by rfl) : PortKept f s y := h.same (k.fld .ports hp)

theorem PortKept.modPort {p : HostPort} {g : HostPortAux → HostPortAux} (h : PortKept f s x)
    (hg : ∀ a, f (g a) = f a := by intro _; rfl) : PortKept f s (x.modPort p g) :=
  h.trans ⟨fun q => vget_vmod_all (P := fun a : HostPortAux => f a = f (x.port q)) (fun a ha => (hg a).trans ha) rfl⟩

theorem PortKept.ite {c : Prop} [Decidable c] (hx : PortKept f s x) (hy : PortKept f s y) :
    PortKept f s (if c then x else y) := by split <;> assumption

theorem PortKept.foldl {α : Type} {g : State → α → State} (hg : ∀ x a, PortKept f x (g x a)) (l : List α)
    (h : PortKept f s x) : PortKept f s (l.foldl g x) :=
  List.foldlRecOn _ _ h fun x hx a _ => hx.trans (hg x a)

theorem PortKept.eachOf {g : Nat → State → State} (hg : ∀ n x, PortKept f x (g n x)) (l : List Nat)
    (h : PortKept f s x) : PortKept f s (x.eachOf l g) := h.foldl (fun x n => hg n x) l

end

/-! ### Alerts, records and violations -/

theorem raisePort_packets (s : State) (p : HostPort) (c : Nat) : PacketsKept s (s.raisePort p c) := by
  unfold State.raisePort
  exact .modPort (.refl s) fun a => by split <;> rfl

theorem raise_packets (s : State) (c : Nat) : PacketsKept s (s.raise c) :=
  (raisePort_packets ..).trans (raisePort_packets ..)

theorem createRec_packets (s : State) (source cls event : Nat) (late : Bool) (snap : List Snap) :
    PacketsKept s (s.createRec source cls event late snap) := by
  unfold State.createRec
  extract_lets g t
  have ht : PacketsKept s t := .foot (.refl s) State.storeRec_foot
  exact .ite (.same (.refl s)) (.ite ((ht.foot State.storeRec_foot).trans (raise_packets ..)) ht)

theorem record_packets (s : State) (source cls event : Nat) (snap : List Snap) :
    PacketsKept s (s.record source cls event snap) := by
  unfold State.record
  exact .ite (.refl s) (.ite (.same (.refl s)) (createRec_packets ..))

theorem recordPsd_packets (s : State) (source cls event : Nat) (snap : List Snap) :
    PacketsKept s (s.recordPsd source cls event snap) := by
  unfold State.recordPsd
  exact .ite (record_packets ..) (.same (.refl s))

theorem flushRecords_packets (s : State) (psd : Bool) : PacketsKept s (s.flushRecords psd) :=
  PortKept.foldl (fun _ _ => createRec_packets ..) _ (.same (.refl s))

theorem restartRecords_packets (s : State) : PacketsKept s s.restartRecords := by
  unfold State.restartRecords
  extract_lets l m a b
  have hb : PacketsKept s b := .foldl (fun _ _ => createRec_packets ..) _ (.same (y := a) (.refl s))
  exact hb.trans (flushRecords_packets ..)

theorem violation_packets (s : State) (p : HostPort) (st rs op tp n : Nat) :
    PacketsKept s (s.violation p st rs op tp n) := by
  have record {x y : State} (h : PacketsKept x y) : PacketsKept x (y.violationRecord p st rs op tp n) :=
    h.trans (record_packets ..)
  unfold State.violation
  extract_lets a b c d
  have hb : PacketsKept s b := .modPort (.same (y := a) (.refl s))
  have hd : PacketsKept s d := record (hb.same (y := c))
  exact .ite (record (.trans (.same hd) (raisePort_packets ..))) hd

/-! ### Replies and rejects -/

theorem reply_wait (s : State) (e : Op) (st rs : Nat) (b : Bytes) : WaitKept s (s.reply e st rs b) := by
  unfold State.reply
  extract_lets a r c d
  have ha : WaitKept s a := .same (.refl s)
  have hc : WaitKept s c := ha.modPort
  have hd : WaitKept s d := hc.same
  exact .ite (ha.foot State.dropOp_foot) (.ite (hd.trans (raisePort_packets ..).waiting) hd)

theorem reject_wait (s : State) (p : HostPort) (st c op tp : Nat) : WaitKept s (s.reject p st c op tp) := by
  unfold State.reject
  exact .ite (.modPort (.same (.refl s))) (.modPort (.refl s))

/-- The reply to an operation that may be held. -/
theorem replyTo_wait (s : State) (o : Option Op) (st rs : Nat) (b : Bytes) :
    WaitKept s (match o with
      | some e => s.reply e st rs b
      | none => s) := by
  split
  · exact reply_wait ..
  · exact .refl s

theorem slewEnd_wait (s : State) (m st rs : Nat) : WaitKept s (s.slewEnd m st rs) := by
  unfold State.slewEnd
  extract_lets op a
  exact (PortKept.same (y := a) (.refl s)).trans (replyTo_wait ..)

theorem slewsSettle_wait (s : State) (b : Nat) : WaitKept s (s.slewsSettle b) :=
  PortKept.eachOf (fun _ x => .ite (.refl x) (slewEnd_wait ..)) _ (.refl s)

theorem flumeEnd_wait (s : State) (c : Nat) : WaitKept s (s.flumeEnd c) := by
  unfold State.flumeEnd
  extract_lets pay op f a b c
  have hc : WaitKept s c := by
    unfold c
    split <;> exact .same (.refl s)
  exact hc.trans (replyTo_wait ..)

theorem flumeStop_wait (s : State) (c : Nat) : WaitKept s (s.flumeStop c) := by
  unfold State.flumeStop
  exact .ite (flumeEnd_wait ..) (.refl s)

theorem flumeStopOn_wait (s : State) (n c : Nat) : WaitKept s (s.flumeStopOn n c) := by
  unfold State.flumeStopOn
  exact .ite (flumeStop_wait ..) (.refl s)

theorem faultSeen_wait (s : State) (o : Nat) : WaitKept s (s.faultSeen o) := by
  unfold State.faultSeen
  extract_lets t a
  have ha : WaitKept s a := .ite (.same (.refl s)) (.refl s)
  exact .ite (ha.trans (flumeStop_wait ..)) ha

theorem latchFault_wait (s : State) (o : Nat) (bits : List Nat) : WaitKept s (s.latchFault o bits) := by
  unfold State.latchFault
  extract_lets rises a
  have ha : WaitKept s a := .foot (.refl s) State.faultEvent_foot
  exact .ite (ha.trans (faultSeen_wait ..)) ha

theorem swapsDone_wait (s : State) : WaitKept s s.swapsDone := by
  unfold State.swapsDone
  extract_lets done w a
  refine .foldl (fun x j => ?_) _ (.same (y := a) (.refl s))
  split
  · exact reply_wait ..
  · exact .refl x

/-! ### Loops, phases and the walk down -/

theorem loopSwap_wait (s : State) (n : Nat) : WaitKept s (s.loopSwap n) := by
  unfold State.loopSwap
  extract_lets o old new host a b c w d e f
  have he : WaitKept s e := (PortKept.same (y := d) (.refl s)).trans (record_packets ..).waiting
  have hf : WaitKept s f := .ite (he.foot State.askNvm_foot) he
  exact (hf.trans (flumeStopOn_wait ..)).trans (swapsDone_wait _)

theorem loopStopped_wait (s : State) (n : Nat) : WaitKept s (s.loopStopped n) := by
  unfold State.loopStopped
  extract_lets a b own c
  have hb : WaitKept s b := .foot (.ite (flumeStop_wait ..) (.refl s)) State.traceStop_foot
  have hc : WaitKept s c := .ite (hb.trans (loopSwap_wait ..)) hb
  exact .eachOf (fun k x => loopSwap_wait x k) _ hc

theorem outerIdle_wait (s : State) (m : Nat) : WaitKept s (s.outerIdle m) := by
  unfold State.outerIdle
  extract_lets a b
  have ha : WaitKept s a := .same (.refl s)
  have hb : WaitKept s b := .ite (ha.foot State.setObj_foot) ha
  exact .ite (hb.trans (loopStopped_wait ..)) (.refl s)

theorem stopPhase_wait (s : State) (p : Nat) : WaitKept s (s.stopPhase p) := by
  unfold State.stopPhase
  refine .ite ?_ (.same (.refl s))
  extract_lets a b
  have hb : WaitKept s b := (PortKept.same (y := a) (.refl s)).trans (loopStopped_wait ..)
  split
  · exact hb.trans (outerIdle_wait ..)
  · exact hb

/-- A phase that stops with its converter, and waits if it was starting or active. -/
theorem stopPhaseWait_wait (s : State) (p : Nat) :
    WaitKept s (if (s.stopPhase p).objSt (oPhase p) == osStarting || (s.stopPhase p).objSt (oPhase p) == osActive then
      (s.stopPhase p).setObj (oPhase p) osWaiting else s.stopPhase p) :=
  .ite ((stopPhase_wait s p).foot State.setObj_foot) (stopPhase_wait s p)

theorem stopConverter_wait (s : State) (b : Nat) : WaitKept s (s.stopConverter b) :=
  PortKept.eachOf (fun p x => stopPhaseWait_wait x p) _ (.refl s)

theorem stopLone_wait (s : State) : WaitKept s s.stopLone :=
  PortKept.eachOf (fun p x => stopPhaseWait_wait x p) _ (.refl s)

theorem feederTrip_wait (s : State) (f : Nat) (bits : List Nat) : WaitKept s (s.feederTrip f bits) := by
  unfold State.feederTrip
  extract_lets o weir i masked a b
  have ha : WaitKept s a := .same (.refl s)
  have hb : WaitKept s b := ((ha.foot State.setObj_foot).trans (latchFault_wait ..)).same rfl
  exact hb.trans (recordPsd_packets ..).waiting

theorem readWeir_wait (s : State) (f : Nat) : WaitKept s (s.readWeir f) := by
  unfold State.readWeir
  exact .ite (feederTrip_wait ..) (.refl s)

theorem stringTrip_wait (s : State) (k : Nat) (bits : List Nat) : WaitKept s (s.stringTrip k bits) := by
  unfold State.stringTrip
  extract_lets o l a b
  have ha : WaitKept s a := .same (.refl s)
  have hb : WaitKept s b := ((ha.foot State.setObj_foot).trans (latchFault_wait ..)).same rfl
  exact hb.trans (recordPsd_packets ..).waiting

theorem readString_wait (s : State) (k : Nat) : WaitKept s (s.readString k) := by
  unfold State.readString
  exact .ite (stringTrip_wait ..) (.refl s)

theorem powerDown_wait (s : State) (n : Nat) : WaitKept s (s.powerDown n) := by
  unfold State.powerDown
  extract_lets a b c
  have ha : WaitKept s a := .eachOf (fun f x => (readWeir_wait x f).foot State.feederWait_foot) _ (.refl s)
  have hb : WaitKept s b := .ite (ha.trans (stopLone_wait _)) ha
  refine .eachOf (fun k x => (readString_wait x k).foot State.stringWait_foot) _ (.eachOf (fun g x => ?_) _ hb)
  extract_lets d e
  have hd : WaitKept x d := stopConverter_wait x g
  have he : WaitKept x e := .ite (hd.foot State.setObj_foot) hd
  exact (he.foot State.modSeg_foot).trans (slewsSettle_wait ..)

theorem beginWork_wait (s : State) (n : Nat) : WaitKept s (s.beginWork n) := by
  unfold State.beginWork
  refine .ite (.foot (.refl s) State.railsUp_foot) ?_
  extract_lets a
  have ha : WaitKept s a := .ite (powerDown_wait ..) (.refl s)
  exact .eachOf (fun v x => (PortKept.foot (.refl x) State.railOff_foot).foot State.modRail_foot) _ ha

/-! ### The shelf's states -/

theorem stepEnd_wait (s : State) (st rs : Nat) : WaitKept s (s.stepEnd st rs) := by
  unfold State.stepEnd
  extract_lets op a
  exact (PortKept.same (y := a) (.refl s)).trans (replyTo_wait ..)

theorem manualStop_wait (s : State) : WaitKept s s.manualStop := by
  unfold State.manualStop
  exact .ite ((stepEnd_wait ..).same rfl) (.refl s)

theorem enterSeq_wait (s : State) (n : Nat) : WaitKept s (s.enterSeq n) := by
  unfold State.enterSeq
  extract_lets manual held late a b c
  have hc : WaitKept s c := .foot (.same (y := b) (.refl s)) State.schedEntry_foot
  exact .ite hc (hc.trans (beginWork_wait ..))

theorem walkAgain_wait (s : State) : WaitKept s s.walkAgain := by
  unfold State.walkAgain
  exact .ite (.refl s) (.ite (.same (.refl s)) (enterSeq_wait ..))

theorem manualEnd_wait (s : State) (up : Bool) : WaitKept s (s.manualEnd up) := by
  unfold State.manualEnd
  exact .ite ((manualStop_wait s).trans (walkAgain_wait _)) (manualStop_wait s)

theorem enterShelf_wait (s : State) (new : Int) (cause : Nat) : WaitKept s (s.enterShelf new cause) := by
  unfold State.enterShelf
  extract_lets old a b c
  have hb : WaitKept s b := (PortKept.same (y := a) (.refl s)).trans (record_packets ..).waiting
  have hc : WaitKept s c := .ite (hb.trans (flumeStop_wait ..)) hb
  exact .ite (hc.trans (manualEnd_wait ..)) hb

theorem takeShift_wait (s : State) (p : PendingShift) : WaitKept s (s.takeShift p) := by
  cases p with
  | toState new cause => exact .ite (.refl s) (enterShelf_wait ..)

theorem startupAgain_wait (s : State) : WaitKept s s.startupAgain := by
  unfold State.startupAgain
  extract_lets a b w c d
  have ha : WaitKept s a := .ite (.foot (.refl s) State.authAll_foot) (.refl s)
  have hd : WaitKept s d := (ha.trans (enterShelf_wait ..)).same rfl
  exact hd.foot State.askOnce_foot

/-! ### The packets are taken -/

theorem rejectViolation_wait (s : State) (p : HostPort) (st c op tp n : Nat) :
    WaitKept s (s.rejectViolation p st c op tp n) := (reject_wait ..).trans (violation_packets ..).waiting

theorem submitBytes_wait (s : State) (p : HostPort) (bytes : Bytes) (n : Nat) : WaitKept s (s.submitBytes p bytes n) := by
  unfold State.submitBytes
  refine .ite (rejectViolation_wait ..) (.ite (rejectViolation_wait ..) (.ite (rejectViolation_wait ..)
    (.ite (rejectViolation_wait ..) ?_)))
  split
  · exact reject_wait ..
  · exact rejectViolation_wait ..
  · exact .same (.refl s)

theorem portIx_injective : Function.Injective portIx := by
  intro p q h
  cases p with
  | ha => cases q with
    | ha => rfl
    | hb => cases h
  | hb => cases q with
    | ha => cases h
    | hb => rfl

theorem takeWaiting_other {s : State} {p q : HostPort} (h : p ≠ q) :
    ((s.takeWaiting p).port q).waiting = (s.port q).waiting := by
  unfold State.takeWaiting
  have hq : ((s.modPort p fun a => { a with waiting := [] }).port q) = s.port q := by
    have hne : portIx p ≠ portIx q := fun e => h (portIx_injective e)
    have hp : portIx p < 2 := by cases p <;> decide
    unfold State.port State.modPort vget vmod
    simp only [hp, dite_true, Vector.getElem_set_ne _ _ hne]
  exact ((PortKept.foldl (fun x w => submitBytes_wait ..) _ (.refl _)).port q).trans (congrArg _ hq)

theorem takeWaiting_same (s : State) (p : HostPort) : ((s.takeWaiting p).port p).waiting = [] := by
  unfold State.takeWaiting
  refine ((PortKept.foldl (fun x w => submitBytes_wait ..) _ (.refl _)).port p).trans ?_
  rw [State.port_modPort]

/-! ## A level 3 restart -/

theorem abandonTests_tests (s : State) : ∀ h ∈ s.abandonTests.dresser.tests, 1 < h.state := by
  intro h hm
  obtain ⟨t, -, rfl⟩ := List.mem_map.1 hm
  split
  · exact (by decide : 1 < 5)
  · omega

theorem setBank_system (s : State) (b : Nat) (v : Int) : SystemKept s (s.setBank b v) := by
  have hj : SystemKept s (s.journalWrite (jrBank b)) := .foot (.refl s) State.journalWrite_foot
  have hp : bankPid b < 4096 := by
    unfold bankPid
    split <;> decide
  unfold State.setBank
  extract_lets a l _
  exact .ite (.refl s) ((hj.same (y := { a with nvm := _ })).setPar (by decide) hp)

theorem trialFail_system (s : State) : SystemKept s s.trialFail := by
  have hu : ¬ oUpdater < 2 := by decide
  unfold State.trialFail
  extract_lets b a c d e f g h
  have hc : SystemKept s c :=
    ((setBank_system s b bkFAILED).incPar hu).trans (updRecord_head oGrist_not_system ..)
  have hg : SystemKept s g := (hc.same (y := f)).setPar hu
  refine .ite ?_ (hg.setPar hu)
  exact (HeadKept.setPar ((hg.trans (setBank_system ..)).setPar hu) hu).foot State.startCheckin_foot

/-- A restart counts, gives its cause and abandons every test that waits. -/
theorem l3Restart_runs {s : State} {cause : Byte} (hr : s.running = true) (h1 : 1 ≤ cause.toNat) (h5 : cause.toNat ≤ 5)
    (hn : s.par oDevice Pid.Device.L3_RESTART_COUNT < 4294967295) :
    Runs (.l3Restart cause) s fun t =>
      t.miller.restarting = true ∧ t.par oDevice Pid.Device.L3_RESTART_CAUSE = cause.toNat ∧
      t.par oDevice Pid.Device.L3_RESTART_COUNT = s.par oDevice Pid.Device.L3_RESTART_COUNT + 1 ∧
      (∃ n, (cause.toNat, n) ∈ t.miller.causes) ∧ ∀ h ∈ t.dresser.tests, 1 < h.state := by
  refine ⟨s.l3Restart cause.toNat, (if_pos (by simp [hr, h1, h5]) : execL3Restart cause s = _), ?_⟩
  unfold State.l3Restart
  extract_lets a n again b c m d
  have hcause : a.par oDevice Pid.Device.L3_RESTART_CAUSE = cause.toNat :=
    (State.par_setPar_other _ _ (by decide)).trans (s.par_setPar_same (by decide) _)
  have hcount : a.par oDevice Pid.Device.L3_RESTART_COUNT = s.par oDevice Pid.Device.L3_RESTART_COUNT + 1 := by
    have h0 : (s.setPar oDevice Pid.Device.L3_RESTART_CAUSE cause.toNat).par oDevice Pid.Device.L3_RESTART_COUNT =
        s.par oDevice Pid.Device.L3_RESTART_COUNT := s.par_setPar_other _ (by decide)
    rw [← h0]
    exact State.par_incPar (d := (findDesc oDevice Pid.Device.L3_RESTART_COUNT).get (by decide)) (by simp) (by decide)
      (by rw [h0]; exact hn)
  have hb : Foot [.flume, .seq, .ports, .hopper, .nvm, .upd, .wheel, .auths, .dresser, .loops]
      (some [256, 272, 305, 307, 385]) a b :=
    .ite (State.withdrawAll_foot.on <| State.flumeStop_foot.on <| .refl ..) (.refl ..)
  have hc := State.lanesReturn_foot.on (State.abandonTests_foot.on hb)
  have hdresser : d.dresser = b.abandonTests.dresser := State.lanesReturn_foot.fld .dresser rfl
  generalize ht : (if d.updState == upTRIAL && cause.toNat != lrACTIVATION then d.trialFail else d) = t
  have hpar : SystemKept d t := by
    rw [← ht]
    exact .ite (trialFail_system d) (.refl d)
  have hfoot : Foot [.ports, .nvm, .upd, .grist] none d t := by
    rw [← ht]
    exact .ite (State.trialFail_foot.on <| .refl ..) (.refl ..)
  have hmiller : t.miller = d.miller := hfoot.fld .miller rfl
  have htests : t.dresser = b.abandonTests.dresser := (show t.dresser = d.dresser from hfoot.fld .dresser rfl).trans hdresser
  refine ⟨by rw [hmiller], ?_, ?_, ⟨n, ?_⟩, ?_⟩
  · exact (hpar.par oDevice _ (by decide) (by decide)).trans ((hc.par _ rfl _ _ (by decide) rfl).trans hcause)
  · exact (hpar.par oDevice _ (by decide) (by decide)).trans ((hc.par _ rfl _ _ (by decide) rfl).trans hcount)
  · rw [hmiller]
    exact List.mem_append_right _ (List.mem_singleton.2 rfl)
  · rw [htests]
    exact abandonTests_tests b

theorem restartRecords_miller (s : State) : s.restartRecords.miller = { s.miller with causes := [] } := by
  unfold State.restartRecords
  extract_lets l m a b
  have hb : b.miller = a.miller := List.foldlRecOn (motive := fun x : State => x.miller = a.miller) _ _ rfl
    fun x hx c _ => (State.createRec_foot.fld .miller rfl).trans hx
  exact (State.flushRecords_foot.fld .miller rfl).trans hb

theorem takeShift_miller (s : State) (p : PendingShift) : (s.takeShift p).miller = s.miller :=
  State.takeShift_foot.fld .miller rfl

theorem startupAgain_miller (s : State) : s.startupAgain.miller = s.miller := State.startupAgain_foot.fld .miller rfl

theorem beginWork_miller (s : State) (n : Nat) : (s.beginWork n).miller = s.miller := State.beginWork_foot.fld .miller rfl

theorem takeWaiting_miller (s : State) (p : HostPort) : (s.takeWaiting p).miller = s.miller :=
  State.takeWaiting_foot.fld .miller rfl

/-- The end of a restart clears its causes and shifts, and takes the packets that waited (R20, R363). -/
theorem l3RestartEnd_runs {s : State} (hr : s.running = true) (hm : s.miller.restarting = true) :
    Runs .l3RestartEnd s fun t =>
      t.miller.restarting = false ∧ t.miller.causes = [] ∧ t.miller.shifts = [] ∧ (∀ p, (t.port p).waiting = []) ∧
      ∃ u : State, u.miller.restarting = false ∧ (∀ p, (u.port p).waiting = (s.port p).waiting) ∧
        t = (u.takeWaiting .ha).takeWaiting .hb := by
  have he : exec .l3RestartEnd s = execL3RestartEnd s := rfl
  rw [execL3RestartEnd, if_neg (by simp [hr, hm])] at he
  revert he
  extract_lets powerOn _ a b l _ c d e q
  intro he
  have hb : b.miller = { a.miller with causes := [] } := restartRecords_miller a
  have hc : WaitKept s c := ((PortKept.same (y := a) (.refl s)).trans (restartRecords_packets a).waiting).same
  have hcm : c.miller = { restarting := false, causes := [], shifts := [] } :=
    congrArg (fun m : MillerState => { m with shifts := [] }) hb
  have hd : WaitKept s d := hc.trans (.foldl takeShift_wait l (.refl c))
  have hdm : d.miller = c.miller := List.foldlRecOn (motive := fun x : State => x.miller = c.miller) _ _ rfl
    fun x hx p _ => (takeShift_miller x p).trans hx
  have hE : WaitKept s e := .ite (hd.trans (startupAgain_wait d)) hd
  have hem : e.miller = d.miller := by
    unfold e
    split
    · exact startupAgain_miller d
    · rfl
  have hq : WaitKept s q := .ite ((hE.same (y := e.modSeq _)).trans (beginWork_wait ..)) hE
  have hqm : q.miller = e.miller := by
    unfold q
    split
    · exact beginWork_miller ..
    · rfl
  have hmiller : q.miller = { restarting := false, causes := [], shifts := [] } :=
    hqm.trans (hem.trans (hdm.trans hcm))
  refine ⟨_, he, ?_, ?_, ?_, fun p => ?_, q, by rw [hmiller], hq.port, rfl⟩
  · rw [takeWaiting_miller, takeWaiting_miller, hmiller]
  · rw [takeWaiting_miller, takeWaiting_miller, hmiller]
  · rw [takeWaiting_miller, takeWaiting_miller, hmiller]
  · cases p with
    | ha => rw [takeWaiting_other (by decide), takeWaiting_same]
    | hb => exact takeWaiting_same ..

/-- Settles O34: firmware from the chosen bank, or the ROM over an idle power side; a restart, and the packets that
waited for its end. -/
theorem bootAndRestart : Obligations.BootAndRestart :=
  ⟨fun _ _ h => ⟨fun _ hr hf hb => boot_firmware h hr hf hb, fun hn => boot_rom h hn⟩,
    fun _ => ⟨fun _ hr h1 h5 hn => l3Restart_runs hr h1 h5 hn, fun hr hm => l3RestartEnd_runs hr hm⟩⟩

end Sys2Proof.Machine

/-! # Proofs: OBJ_ENABLE, OBJ_DISABLE and OBJ_CLEAR_LATCH (O12) -/
namespace Sys2Proof.Machine
open Sys2Proof
set_option Elab.async false

/-! ## The object of a request -/

/-- The payload that names an object, its reserved bytes zero (Table 5-4). -/
abbrev objPayload (o : Byte) : Bytes := [o, 0, 0, 0]

theorem objCheck_objPayload {o : Byte} (h : objReserved o.toNat = false) : objCheck (objPayload o) = none := by
  have hz : zeros (objPayload o) 1 3 = true := rfl
  have hb : byteAt (objPayload o) 0 = o.toNat := rfl
  simp [objCheck, hz, hb, h]

/-! ## A violation keeps the replies -/

theorem Replied.kept {s x t : State} {r : Req} {n st c : Nat} {b : Bytes} (h : Replied s x r n st c b)
    (k : RepliesKept x t) : Replied s t r n st c b := by
  unfold Replied
  rw [k.port]
  exact h

/-- A request that fails with a violation has its failure for a reply. -/
theorem failViolation_replied {s x : State} {r : Req} {n c : Nat} {p : Bytes} (h : x.enabled (oPort r.port) = true) :
    Replied s (x.failViolation (theOp s r n p) c) r n stLOCKED c [] :=
  Replied.kept (State.reply_replied h) (violation_packets ..).replies

/-! ## The objects that cannot be disabled -/

/-- SHELF, DEVICE, GRIST, DRESSER, UPDATER, LIFECYCLE and FANTAIL. -/
abbrev alwaysOn : List Nat := [oShelf, oDevice, oGrist, oDresser, oUpdater, oLife, oFantail]

theorem alwaysEnabled_of_mem {x : Nat} (h : x ∈ alwaysOn) : alwaysEnabled x = true := by
  revert x
  decide

theorem enable_readOnly {x : Nat} (h : x ∈ alwaysOn) : (findDesc x Pid.ENABLE).map Desc.acc = some .ro := by
  revert x
  decide

/-- ENABLE of an object that cannot be disabled reads 1 whatever the state (R26). -/
theorem State.read_enable_alwaysOn (s : State) {x : Nat} (h : x ∈ alwaysOn) : s.read x Pid.ENABLE = 1 := by
  have hd : s.derived x Pid.ENABLE = some 1 := by
    unfold State.derived
    rw [if_neg (by decide), if_pos (by rw [alwaysEnabled_of_mem h]; decide)]
  obtain ⟨d, hf, hacc⟩ := Option.map_eq_some_iff.1 (enable_readOnly h)
  unfold State.read
  rw [hf]
  simp only [hacc, hd]
  rfl

/-- OBJ_DISABLE of such an object is LOCKED, with a violation. -/
theorem objDisable_locked {s : State} {r : Req} {o : Byte} (hres : objReserved o.toNat = false)
    (hon : alwaysEnabled o.toNat = true) (ha : Accepts s r 0x22 (objPayload o)) :
    Replied s (submitReq r 0x22 (objPayload o) (opObjEnable false) s) r 0x22 stLOCKED 4 [] := by
  have hc : objCheck (theOp s r 0x22 (objPayload o)).payload = none := objCheck_objPayload hres
  have ho : byteAt (theOp s r 0x22 (objPayload o)).payload 0 = o.toNat := rfl
  rw [submitReq_accepted _ ha, opObjEnable]
  simp only [hc, ho, hon, Bool.true_or, if_true]
  exact failViolation_replied ha.enabled

theorem alwaysOn_toNat {x : Nat} (h : x ∈ alwaysOn) : (BitVec.ofNat 8 x).toNat = x := by
  revert x
  decide

theorem alwaysOn_known {x : Nat} (h : x ∈ alwaysOn) : objReserved x = false := by
  revert x
  decide

theorem objDisable_alwaysOn {s : State} {r : Req} {x : Nat} (h : x ∈ alwaysOn)
    (ha : Accepts s r 0x22 (objPayload (BitVec.ofNat 8 x))) :
    Replied s (submitReq r 0x22 (objPayload (BitVec.ofNat 8 x)) (opObjEnable false) s) r 0x22 stLOCKED 4 [] := by
  have hx := alwaysOn_toNat h
  exact objDisable_locked (by rw [hx]; exact alwaysOn_known h) (by rw [hx]; exact alwaysEnabled_of_mem h) ha

/-! ## ENABLE is set and cleared -/

section
variable {s : State} {o : Nat} {on : Bool}

/-- A change of ENABLE writes it, and no consequence of the change writes an ENABLE. -/
theorem setEnable_par (h : s.enabled o = !on) (o' : Nat) :
    ((s.setEnable o on).askConfig o).par o' Pid.ENABLE = (s.setPar o Pid.ENABLE (b2i on)).par o' Pid.ENABLE := by
  have hc : ¬ (s.enabled o == on) = true := by
    rw [h]
    cases on <;> decide
  rw [State.askConfig_foot.par _ rfl _ _ (by decide) rfl, State.setEnable, if_neg hc]
  exact State.enableChanged_foot.par _ rfl _ _ (by decide) rfl

end

/-- The conditions on which OBJ_ENABLE (`on`) and OBJ_DISABLE on port `p` act. -/
structure EnableActs (s : State) (p : HostPort) (o : Nat) (on : Bool) : Prop where
  may    : alwaysEnabled o = false
  object : objType o ≠ .module
  cool   : s.thermalLatched = false
  timer  : objType o = .timer → s.linkedOdd o = false
  was    : s.enabled o = !on
  own    : on = false → o ≠ oPort p
  groups : on = true → objType o = .phase → (s.setPar o Pid.ENABLE 1).groupsOk = true

/-- Where no check fails, OBJ_ENABLE and OBJ_DISABLE set ENABLE, ask for its storage and answer OK. -/
theorem opObjEnable_acts {x : State} {e : Op} {o : Nat} {on : Bool} (hc : objCheck e.payload = none)
    (ho : byteAt e.payload 0 = o) (h : EnableActs x e.port o on) :
    ∃ b, opObjEnable on e x = (((x.opCommit e.id).setEnable o on).askConfig o).ok e b := by
  obtain ⟨hmay, hobj, hcool, htimer, hwas, hown, hgroups⟩ := h
  have h1 : ¬ (alwaysEnabled o || objType o == .module) = true := by simp [hmay, hobj]
  have h2 : ¬ (x.thermalLatched || (!on && o == oPort e.port)) = true := by
    cases on with
    | true => simp [hcool]
    | false => simpa [hcool] using hown rfl
  have h3 : ¬ (objType o == .timer && x.linkedOdd o) = true := by simpa using htimer
  have h4 : ¬ (x.enabled o == on) = true := by simp [hwas]
  have h5 : ¬ (on && objType o == .phase && !(x.setPar o Pid.ENABLE 1).groupsOk) = true := by simpa using hgroups
  simp only [opObjEnable, hc, ho]
  rw [if_neg h1, if_neg h2, if_neg h3, if_neg h4, if_neg h5]
  exact ⟨_, rfl⟩

section
variable {s : State} {r : Req} {n : Nat} {o : Byte} {on : Bool}

/-- OBJ_ENABLE and OBJ_DISABLE leave ENABLE as asked, and answer OK. -/
theorem objEnable_leaves (hres : objReserved o.toNat = false) (h : EnableActs s r.port o.toNat on)
    (ha : Accepts s r n (objPayload o)) :
    let t := submitReq r n (objPayload o) (opObjEnable on) s
    t.par o.toNat Pid.ENABLE = b2i on ∧ ∃ b, Replied s t r n stOK 0 b := by
  let x := Taken s r n (objPayload o)
  let y := ((x.opCommit (theOp s r n (objPayload o)).id).setEnable o.toNat on).askConfig o.toNat
  have hx : EnableActs x r.port o.toNat on := ⟨h.may, h.object, h.cool, h.timer, h.was, h.own, h.groups⟩
  have hy (o' : Nat) : y.par o' Pid.ENABLE = (s.setPar o.toNat Pid.ENABLE (b2i on)).par o' Pid.ENABLE :=
    setEnable_par (s := x.opCommit _) h.was o'
  have hport : y.enabled (oPort r.port) = true := by
    rw [State.enabled_oPort, hy]
    by_cases he : o.toNat = oPort r.port
    · rw [he, State.par_setPar_same _ (by decide)]
      cases on with
      | true => rfl
      | false => exact absurd he (h.own rfl)
    · rw [State.par_setPar_other _ _ fun hk => he ((keyOf_inj (by decide) (by decide)).1 hk).1.symm,
        ← State.enabled_oPort]
      exact ha.enabled
  obtain ⟨b, hb⟩ := opObjEnable_acts (e := theOp s r n (objPayload o)) (objCheck_objPayload hres) rfl hx
  intro t
  have ht : t = y.ok (theOp s r n (objPayload o)) b := (submitReq_accepted _ ha).trans hb
  rw [ht]
  refine ⟨?_, b, State.reply_replied hport⟩
  rw [State.ok_par _ _ _ _ (by decide) (by decide), hy]
  exact s.par_setPar_same (by decide) _

end

/-! ## A latch is cleared -/

/-- The objects of a type begin at its first. -/
theorem le_of_objType {k o : Nat} {ty : ObjType} (hd : ∀ x < k, objType x ≠ ty) (h : objType o = ty) : k ≤ o :=
  Nat.not_lt.1 fun hlt => hd o hlt h

/-- FAULT_LATCH of the object is clear. -/
def LatchClear (o : Nat) (s : State) : Prop := s.par o Pid.FAULT_LATCH = 0

section
variable (s : State) (o : Nat)

theorem clearFaults_clear : LatchClear o (s.clearFaults o) := s.par_setPar_same (by decide) 0

theorem LatchClear.setOther {s : State} {o o' pid : Nat} {v : Int} (h : LatchClear o s)
    (hp : pid ≠ Pid.FAULT_LATCH := by decide) (hlt : pid < 4096 := by decide) : LatchClear o (s.setPar o' pid v) :=
  (s.par_setPar_other v fun hk => hp ((keyOf_inj (by decide) hlt).1 hk).2.symm).trans h

theorem clearWait_clear : LatchClear o ((s.clearFaults o).setObj o osWaiting) :=
  (clearFaults_clear s o).setOther

theorem setObj_objSt (v : Int) : (s.setObj o v).objSt o = v := s.par_setPar_same (by decide) v

/-- Clearing an object clears its FAULT_LATCH. -/
theorem clearObject_clear (hc : clearable o = true) : LatchClear o (s.clearObject o) := by
  unfold clearable at hc
  split at hc
  · next h =>
    have he : oPhase (o - 0x10) = o := Nat.add_sub_cancel' (le_of_objType (by decide) h)
    simp only [State.clearObject, h, State.phaseClear, he]
    exact clearWait_clear s o
  · next h =>
    simp only [State.clearObject, h]
    refine (State.loopRestart_foot.par _ rfl _ _ (by decide) rfl).trans ?_
    exact clearWait_clear s o
  · next h =>
    have he : oSeg (o - 0x04) = o := Nat.add_sub_cancel' (le_of_objType (by decide) h)
    simp only [State.clearObject, h, State.clearSegment, he]
    exact LatchClear.setOther (s := State.modSeg _ _ _) (clearFaults_clear s o).setOther
  · next h =>
    have he : oFeeder (o - 0x30) = o := Nat.add_sub_cancel' (le_of_objType (by decide) h)
    simp only [State.clearObject, h, State.feederClear, he]
    exact clearWait_clear s o
  · next h =>
    have he : oString (o - 0x80) = o := Nat.add_sub_cancel' (le_of_objType (by decide) h)
    simp only [State.clearObject, h, State.stringClear, he]
    exact (State.modStr_foot.par _ rfl _ _ (by decide) rfl).trans (clearWait_clear s o)
  · cases hc

/-- A feeder, string or segment that is cleared waits. -/
theorem clearObject_waits (h : objType o ∈ [ObjType.feeder, .string, .segment]) :
    (s.clearObject o).objSt o = osWaiting := by
  simp only [List.mem_cons, List.not_mem_nil, or_false] at h
  rcases h with h | h | h
  · have he : oFeeder (o - 0x30) = o := Nat.add_sub_cancel' (le_of_objType (by decide) h)
    simp only [State.clearObject, h, State.feederClear, he]
    exact setObj_objSt _ _ _
  · have he : oString (o - 0x80) = o := Nat.add_sub_cancel' (le_of_objType (by decide) h)
    simp only [State.clearObject, h, State.stringClear, he]
    exact (State.modStr_foot.par _ rfl _ _ (by decide) rfl).trans (setObj_objSt _ _ _)
  · have he : oSeg (o - 0x04) = o := Nat.add_sub_cancel' (le_of_objType (by decide) h)
    simp only [State.clearObject, h, State.clearSegment, he]
    exact setObj_objSt _ _ _

end

theorem safeHold_ne {v : Int} (h : v = osLatched ∨ v = osFailed) : v ≠ osSafeHold := by
  rcases h with h | h <;> rw [h] <;> decide

/-- Where no check fails, OBJ_CLEAR_LATCH clears the object and answers with the latch as it stood. -/
theorem opObjClearLatch_clears {x : State} {e : Op} {o : Nat} (hc : objCheck e.payload = none)
    (ho : byteAt e.payload 0 = o) (hcl : clearable o = true) (hcool : x.thermalLatched = false)
    (hst : x.objNow o = osLatched ∨ x.objNow o = osFailed) (href : x.clearRefused o = false) :
    opObjClearLatch e x = ((x.opCommit e.id).clearObject o).ok e
      (leBytes 1 o ++ [1, 0, 0] ++ leBytes 4 (x.par o Pid.FAULT_LATCH)) := by
  have h1 : ¬ (!clearable o) = true := by simp [hcl]
  have h2 : ¬ (x.thermalLatched || x.objNow o == osSafeHold) = true := by simp [hcool, safeHold_ne hst]
  have h3 : ¬ x.clearRefused o = true := by simp [href]
  have hheld : (x.objNow o == osLatched || x.objNow o == osFailed) = true := by simpa using hst
  simp only [opObjClearLatch, hc, ho]
  rw [if_neg h1, if_neg h2, if_neg h3, hheld, if_pos rfl]
  rfl

/-- OBJ_CLEAR_LATCH of a LATCHED or FAILED object. -/
theorem objClearLatch_leaves {s : State} {r : Req} {o : Byte} (hres : objReserved o.toNat = false)
    (hcl : clearable o.toNat = true) (hcool : s.thermalLatched = false)
    (hst : let x := Taken s r 0x23 (objPayload o)
      (x.objNow o.toNat = osLatched ∨ x.objNow o.toNat = osFailed) ∧ x.clearRefused o.toNat = false)
    (ha : Accepts s r 0x23 (objPayload o)) :
    let t := submitReq r 0x23 (objPayload o) opObjClearLatch s
    t.par o.toNat Pid.FAULT_LATCH = 0 ∧
      (objType o.toNat ∈ [ObjType.feeder, .string, .segment] → t.objSt o.toNat = osWaiting) ∧
      Replied s t r 0x23 stOK 0 (leBytes 1 o.toNat ++ [1, 0, 0] ++ leBytes 4 (s.par o.toNat Pid.FAULT_LATCH)) := by
  let e := theOp s r 0x23 (objPayload o)
  let y := ((Taken s r 0x23 (objPayload o)).opCommit e.id).clearObject o.toNat
  intro t
  have ht : t = y.ok e (leBytes 1 o.toNat ++ [1, 0, 0] ++ leBytes 4 (s.par o.toNat Pid.FAULT_LATCH)) :=
    (submitReq_accepted _ ha).trans (opObjClearLatch_clears (objCheck_objPayload hres) rfl hcl hcool hst.1 hst.2)
  have hport : y.enabled (oPort r.port) = true := by
    rw [State.enabled_oPort, State.clearObject_foot.par _ rfl _ _ (by decide) rfl]
    exact (s.enabled_oPort r.port).symm.trans ha.enabled
  rw [ht]
  refine ⟨?_, fun hty => ?_, State.reply_replied hport⟩
  · rw [State.ok_par _ _ _ _ (by decide) (by decide)]
    exact clearObject_clear _ _ hcl
  · exact (State.ok_par _ _ _ _ (by decide) (by decide)).trans (clearObject_waits _ _ hty)

/-- Settles O12: the three commands act on the one parameter each, and what follows a change of ENABLE or of a latch
writes neither again. -/
theorem objectsChange : Obligations.ObjectsChange := by
  refine ⟨fun s r o => ⟨fun x hx => ⟨s.read_enable_alwaysOn hx, enable_readOnly hx, fun ha => ?_⟩, ?_⟩, ?_⟩
  · exact ⟨_, rfl, State.read_enable_alwaysOn _ hx, objDisable_alwaysOn hx ha⟩
  · intro hres hmay hobj hcool htimer
    refine ⟨fun hen hgroups ha => ⟨_, rfl, ?_⟩, fun hen hown ha => ⟨_, rfl, ?_⟩⟩
    · exact objEnable_leaves (on := true) hres
        ⟨hmay, hobj, hcool, htimer, hen, fun h => (Bool.noConfusion h), fun _ => hgroups⟩ ha
    · exact objEnable_leaves (on := false) hres
        ⟨hmay, hobj, hcool, htimer, hen, fun _ => hown, fun h => (Bool.noConfusion h)⟩ ha
  · intro s r o hres hcl hcool hst ha
    exact ⟨_, rfl, objClearLatch_leaves hres hcl hcool hst ha⟩

end Sys2Proof.Machine

/-! # Proofs: the channels of the objects (O36, O37, O40)

A phase, a feeder, a segment and a string have a SAR channel each. Most operations of sensing change of a channel only
what the metering works with: its `core` is the rest. -/

namespace Sys2Proof.Machine

open Sys2Proof

set_option Elab.async false

/-! ## Records after a change

What one change of a record keeps of every record, it keeps of each. -/

section
variable (s : State) {i : Nat} {α : Type}

theorem phase_modPhase {p : Nat} (h : p < 24) (g : PhaseAux → PhaseAux) : (s.modPhase p g).phase p = g (s.phase p) := by
  unfold State.phase State.modPhase
  exact vget_vmod s.phases h g _

theorem phase_modPhase_keeps {P : PhaseAux → α} {g : PhaseAux → PhaseAux} (hg : ∀ a, P (g a) = P a) (p : Nat) :
    P ((s.modPhase i g).phase p) = P (s.phase p) := by
  unfold State.phase State.modPhase
  exact vget_vmod_all (P := fun a => P a = P (vget s.phases p .reset)) (fun _ h => (hg _).trans h) rfl

theorem feeder_modFeeder {f : Nat} (h : f < 16) (g : FeederAux → FeederAux) : (s.modFeeder f g).feeder f = g (s.feeder f) := by
  unfold State.feeder State.modFeeder
  exact vget_vmod s.feeders h g _

theorem feeder_modFeeder_keeps {P : FeederAux → α} {g : FeederAux → FeederAux} (hg : ∀ a, P (g a) = P a) (f : Nat) :
    P ((s.modFeeder i g).feeder f) = P (s.feeder f) := by
  unfold State.feeder State.modFeeder
  exact vget_vmod_all (P := fun a => P a = P (vget s.feeders f .reset)) (fun _ h => (hg _).trans h) rfl

theorem seg_modSeg {b : Nat} (h : b < 4) (g : SegAux → SegAux) : (s.modSeg b g).seg b = g (s.seg b) := by
  unfold State.seg State.modSeg
  exact vget_vmod s.segs h g _

theorem seg_modSeg_keeps {P : SegAux → α} {g : SegAux → SegAux} (hg : ∀ a, P (g a) = P a) (b : Nat) :
    P ((s.modSeg i g).seg b) = P (s.seg b) := by
  unfold State.seg State.modSeg
  exact vget_vmod_all (P := fun a => P a = P (vget s.segs b .reset)) (fun _ h => (hg _).trans h) rfl

theorem str_modStr {k : Nat} (h : k < 4) (g : StringAux → StringAux) : (s.modStr k g).str k = g (s.str k) := by
  unfold State.str State.modStr
  exact vget_vmod s.strings h g _

theorem str_modStr_keeps {P : StringAux → α} {g : StringAux → StringAux} (hg : ∀ a, P (g a) = P a) (k : Nat) :
    P ((s.modStr i g).str k) = P (s.str k) := by
  unfold State.str State.modStr
  exact vget_vmod_all (P := fun a => P a = P (vget s.strings k .reset)) (fun _ h => (hg _).trans h) rfl

end

/-! ## One channel per object -/

/-- The object has a SAR channel (Table 2-2). -/
def HasChan (o : Nat) : Prop := objType o = .phase ∨ objType o = .feeder ∨ objType o = .segment ∨ objType o = .string

theorem exists_oPhase_of_objType {o : Nat} (h : objType o = .phase) : ∃ p < 24, o = oPhase p := by
  have hb : 0x10 ≤ o ∧ o < 0x28 := by
    simp only [objType, ite_eq_iff, reduceCtorEq, and_false, false_or, or_false, and_true] at h
    omega
  exact ⟨o - 0x10, by omega, by simp only [oPhase]; omega⟩

theorem exists_oFeeder_of_objType {o : Nat} (h : objType o = .feeder) : ∃ f < 16, o = oFeeder f := by
  have hb : 0x30 ≤ o ∧ o < 0x40 := by
    simp only [objType, ite_eq_iff, reduceCtorEq, and_false, false_or, or_false, and_true] at h
    omega
  exact ⟨o - 0x30, by omega, by simp only [oFeeder]; omega⟩

theorem exists_oSeg_of_objType {o : Nat} (h : objType o = .segment) : ∃ b < 4, o = oSeg b := by
  have hb : 0x04 ≤ o ∧ o < 0x08 := by
    simp only [objType, ite_eq_iff, reduceCtorEq, and_false, false_or, or_false, and_true] at h
    omega
  exact ⟨o - 0x04, by omega, by simp only [oSeg]; omega⟩

theorem exists_oString_of_objType {o : Nat} (h : objType o = .string) : ∃ k < 4, o = oString k := by
  have hb : 0x80 ≤ o ∧ o < 0x84 := by
    simp only [objType, ite_eq_iff, reduceCtorEq, and_false, false_or, or_false, and_true] at h
    omega
  exact ⟨o - 0x80, by omega, by simp only [oString]; omega⟩

theorem objType_oPhase {p : Nat} (h : p < 24) : objType (oPhase p) = .phase :=
  (by decide : ∀ p < 24, objType (oPhase p) = .phase) p h

theorem objType_oFeeder {f : Nat} (h : f < 16) : objType (oFeeder f) = .feeder :=
  (by decide : ∀ f < 16, objType (oFeeder f) = .feeder) f h

theorem objType_oSeg {b : Nat} (h : b < 4) : objType (oSeg b) = .segment :=
  (by decide : ∀ b < 4, objType (oSeg b) = .segment) b h

theorem objType_oString {k : Nat} (h : k < 4) : objType (oString k) = .string :=
  (by decide : ∀ k < 4, objType (oString k) = .string) k h

section
variable (s : State) {o o' : Nat}

theorem chanOf_of_phase (h : objType o = .phase) : s.chanOf o = (s.phase (o - 0x10)).chan := by
  simp only [State.chanOf, h]

theorem chanOf_of_feeder (h : objType o = .feeder) : s.chanOf o = (s.feeder (o - 0x30)).chan := by
  simp only [State.chanOf, h]

theorem chanOf_of_segment (h : objType o = .segment) : s.chanOf o = (s.seg (o - 0x04)).chan := by
  simp only [State.chanOf, h]

theorem chanOf_of_string (h : objType o = .string) : s.chanOf o = (s.str (o - 0x80)).chan := by
  simp only [State.chanOf, h]

theorem chanOf_oPhase {p : Nat} (h : p < 24) : s.chanOf (oPhase p) = (s.phase p).chan := by
  rw [chanOf_of_phase s (objType_oPhase h), Nat.add_sub_cancel_left]

theorem chanOf_oSeg {b : Nat} (h : b < 4) : s.chanOf (oSeg b) = (s.seg b).chan := by
  rw [chanOf_of_segment s (objType_oSeg h), Nat.add_sub_cancel_left]

/-- The channel of an object is what the change makes of it. -/
theorem chanOf_modChan (h : HasChan o) (g : Chan → Chan) : (s.modChan o g).chanOf o = g (s.chanOf o) := by
  rcases h with h | h | h | h <;> simp only [State.chanOf, State.modChan, h]
  · obtain ⟨p, hp, rfl⟩ := exists_oPhase_of_objType h
    rw [Nat.add_sub_cancel_left, phase_modPhase s hp]
  · obtain ⟨f, hf, rfl⟩ := exists_oFeeder_of_objType h
    rw [Nat.add_sub_cancel_left, feeder_modFeeder s hf]
  · obtain ⟨b, hb, rfl⟩ := exists_oSeg_of_objType h
    rw [Nat.add_sub_cancel_left, seg_modSeg s hb]
  · obtain ⟨k, hk, rfl⟩ := exists_oString_of_objType h
    rw [Nat.add_sub_cancel_left, str_modStr s hk]

section
variable {α : Type} {P : Chan → α} {g : Chan → Chan} (hg : ∀ c, P (g c) = P c)
include hg

theorem phase_modChan_keeps (p : Nat) : P ((s.modChan o' g).phase p).chan = P (s.phase p).chan := by
  unfold State.modChan
  split
  · exact phase_modPhase_keeps s (P := fun a => P a.chan) (fun _ => hg _) p
  all_goals simp only [State.phase, State.modFeeder_phases, State.modSeg_phases, State.modStr_phases]

theorem feeder_modChan_keeps (f : Nat) : P ((s.modChan o' g).feeder f).chan = P (s.feeder f).chan := by
  unfold State.modChan
  split
  case h_2 => exact feeder_modFeeder_keeps s (P := fun a => P a.chan) (fun _ => hg _) f
  all_goals simp only [State.feeder, State.modPhase_feeders, State.modSeg_feeders, State.modStr_feeders]

theorem seg_modChan_keeps (b : Nat) : P ((s.modChan o' g).seg b).chan = P (s.seg b).chan := by
  unfold State.modChan
  split
  case h_3 => exact seg_modSeg_keeps s (P := fun a => P a.chan) (fun _ => hg _) b
  all_goals simp only [State.seg, State.modPhase_segs, State.modFeeder_segs, State.modStr_segs]

theorem str_modChan_keeps (k : Nat) : P ((s.modChan o' g).str k).chan = P (s.str k).chan := by
  unfold State.modChan
  split
  case h_4 => exact str_modStr_keeps s (P := fun a => P a.chan) (fun _ => hg _) k
  all_goals simp only [State.str, State.modPhase_strings, State.modFeeder_strings, State.modSeg_strings]

/-- What a change of channels keeps of every channel, it keeps of each object's. -/
theorem chanOf_modChan_keeps (o : Nat) : P ((s.modChan o' g).chanOf o) = P (s.chanOf o) := by
  unfold State.chanOf
  split
  · exact phase_modChan_keeps s hg _
  · exact feeder_modChan_keeps s hg _
  · exact seg_modChan_keeps s hg _
  · exact str_modChan_keeps s hg _
  · rfl

end

/-- A change of one feeder's channel leaves the accumulators. -/
theorem feeder_modChan_acc (g : Chan → Chan) (f : Nat) : ((s.modChan o g).feeder f).acc = (s.feeder f).acc := by
  unfold State.modChan
  split
  case h_2 => exact feeder_modFeeder_keeps s (P := FeederAux.acc) (by intro _; rfl) f
  all_goals simp only [State.feeder, State.modPhase_feeders, State.modSeg_feeders, State.modStr_feeders]

/-- A change of a feeder's, a string's or a phase's channel leaves the segments. -/
theorem segs_modChan (h : objType o ≠ .segment) (g : Chan → Chan) : (s.modChan o g).segs = s.segs := by
  unfold State.modChan
  split
  case h_3 h' => exact absurd h' h
  all_goals simp only [State.modPhase_segs, State.modFeeder_segs, State.modStr_segs]

theorem chanOf_of_same {t : State} (hp : t.phases = s.phases) (hf : t.feeders = s.feeders) (hs : t.segs = s.segs)
    (hk : t.strings = s.strings) : t.chanOf o = s.chanOf o := by
  simp only [State.chanOf, State.phase, State.feeder, State.seg, State.str, hp, hf, hs, hk]

end
end Sys2Proof.Machine

/-! # Proofs: samples convert and energy accumulates (O36) -/

namespace Sys2Proof.Machine

open Sys2Proof

set_option Elab.async false

/-- A channel but for what the metering and the power sums work with. -/
def Chan.core (c : Chan) : Chan := { c with dirty := none, line := [], wsum := 0, wn := 0, psum := 0 }

theorem Chan.of_core {α : Type} (P : Chan → α) (hP : ∀ c, P c.core = P c) {c d : Chan} (h : c.core = d.core) :
    P c = P d := (hP c).symm.trans ((congrArg P h).trans (hP d))

theorem Chan.value_of_core {c d : Chan} (h : c.core = d.core) : c.value = d.value := Chan.of_core Chan.value (fun _ => rfl) h

theorem Chan.fail_of_core {c d : Chan} (h : c.core = d.core) : c.fail = d.fail := Chan.of_core Chan.fail (fun _ => rfl) h

/-! ## What a slot does to the channels and the accumulators -/

section
variable (s : State) (o : Nat)

/-- What reading a sample leaves of the records: every channel's core, and every feeder's accumulators. -/
structure MeterKept (s t : State) : Prop where
  chan : ∀ o, (t.chanOf o).core = (s.chanOf o).core
  seg  : ∀ b, (t.seg b).chan.core = (s.seg b).chan.core
  acc  : ∀ f, (t.feeder f).acc = (s.feeder f).acc

variable {s} in
theorem MeterKept.trans {t u : State} (h : MeterKept s t) (k : MeterKept t u) : MeterKept s u :=
  ⟨fun o => (k.chan o).trans (h.chan o), fun b => (k.seg b).trans (h.seg b), fun f => (k.acc f).trans (h.acc f)⟩

theorem MeterKept.of_same {t : State} (hp : t.phases = s.phases) (hf : t.feeders = s.feeders) (hs : t.segs = s.segs)
    (hk : t.strings = s.strings) : MeterKept s t :=
  ⟨fun _ => congrArg Chan.core (chanOf_of_same s hp hf hs hk), fun _ => by rw [State.seg, hs, State.seg],
    fun _ => by rw [State.feeder, hf, State.feeder]⟩

variable {s} in
theorem MeterKept.of_foot {fs : List Fld} {ps : Option (List Nat)} {t : State} (h : Foot fs ps s t)
    (hp : fs.contains .phases = false := by rfl) (hf : fs.contains .feeders = false := by rfl)
    (hs : fs.contains .segs = false := by rfl) (hk : fs.contains .strings = false := by rfl) : MeterKept s t :=
  .of_same s (h.fld .phases hp) (h.fld .feeders hf) (h.fld .segs hs) (h.fld .strings hk)

theorem MeterKept.modChan {g : Chan → Chan} (hg : ∀ c, (g c).core = c.core) : MeterKept s (s.modChan o g) :=
  ⟨chanOf_modChan_keeps s hg, seg_modChan_keeps s hg, feeder_modChan_acc s g⟩

theorem senseRise_meter (was : Bool) : MeterKept s (s.senseRise o was) := by
  have hdirty : ∀ x : State, MeterKept x (x.modChan o fun c => { c with dirty := some s.time.tick }) :=
    fun x => .modChan x o (by intro _; rfl)
  unfold State.senseRise
  dsimp only
  split
  · exact (hdirty s).trans (.of_foot (.on State.recordPsd_foot (fs := [.ports, .grist]) (ps := none)
      (.within State.energyGap_foot)))
  · split
    · exact hdirty s
    · exact .of_same s rfl rfl rfl rfl

theorem gather_meter (v : Int) : MeterKept s (s.gather o v) := by
  unfold State.gather
  exact .modChan s o (by intro _; rfl)

theorem overSeen_meter (v : Int) : MeterKept s (s.overSeen o v) := by
  unfold State.overSeen
  split
  · next h =>
    have hseg (b : Nat) : ((s.modSeg (o - 0x04) fun a => { a with overTick := some s.time.tick }).seg b).chan =
        (s.seg b).chan := seg_modSeg_keeps s (P := SegAux.chan) (by intro _; rfl) b
    refine ⟨fun o' => ?_, fun b => congrArg Chan.core (hseg b), fun _ => rfl⟩
    unfold State.chanOf
    split
    case h_3 => exact congrArg Chan.core (hseg _)
    all_goals rfl
  · exact .of_same s rfl rfl rfl rfl

/-- One energy step leaves the channels. -/
theorem feederEnergy_chan (f : Nat) (i : Int) (o : Nat) : (s.feederEnergy f i).chanOf o = s.chanOf o := by
  have hacc (g : Accum → Accum) : (s.modFeeder f fun a => { a with acc := g a.acc }).chanOf o = s.chanOf o := by
    unfold State.chanOf
    split
    case h_2 => exact feeder_modFeeder_keeps s (P := FeederAux.chan) (by intro _; rfl) _
    all_goals rfl
  unfold State.feederEnergy
  dsimp only
  split
  · rfl
  · split
    · exact hacc fun a => { a with pos := _ }
    · exact hacc fun a => { a with neg := _ }

theorem chanOf_setPar (o pid : Nat) (v : Int) (o' : Nat) : (s.setPar o pid v).chanOf o' = s.chanOf o' :=
  chanOf_of_same s rfl rfl rfl rfl

theorem stringEnergy_chan (k : Nat) (i : Int) (o : Nat) : (s.stringEnergy k i).chanOf o = s.chanOf o := by
  have hacc (x : State) (g : Accum → Accum) :
      (x.modStr k fun a => { a with acc := g a.acc }).chanOf o = x.chanOf o := by
    unfold State.chanOf
    split
    case h_4 => exact str_modStr_keeps x (P := StringAux.chan) (by intro _; rfl) _
    all_goals rfl
  have hq := hacc s fun a => { a with q := ((s.str k).acc.q + i).tmod 10000000 }
  unfold State.stringEnergy
  dsimp only
  split
  · rfl
  · split
    · exact hq
    · split
      · exact (chanOf_setPar _ _ _ _ _).trans ((hacc _ fun a => { a with pos := _ }).trans
          ((chanOf_setPar _ _ _ _ _).trans hq))
      · exact (chanOf_setPar _ _ _ _ _).trans ((hacc _ fun a => { a with neg := _ }).trans
          ((chanOf_setPar _ _ _ _ _).trans hq))

/-- What a sample adds to the energy leaves every channel's core. -/
theorem slotEnergy_core (v : Int) (o' : Nat) : ((s.slotEnergy o v).chanOf o').core = (s.chanOf o').core := by
  unfold State.slotEnergy
  split
  · rfl
  · split
    · unfold State.powerSum
      exact (chanOf_modChan_keeps _ (by intro _; rfl) _).trans (congrArg Chan.core (feederEnergy_chan s _ v o'))
    · exact congrArg Chan.core (stringEnergy_chan s _ v o')
    · rfl

/-- Adding energy wraps past 2^63 − 1 (R53). -/
theorem par_addEnergy {pid : Nat} (h : pid < 4096) (mj : Nat) :
    (s.addEnergy o pid mj).par o pid = (s.par o pid + mj) % 9223372036854775808 := s.par_setPar_same h _

/-- A good sample of a feeder that draws energy: whole millijoules go to E_OUT and the rest is carried (R52). -/
theorem feederEnergy_draws {f : Nat} {i : Int} (hf : f < 16) (hb : s.feederSeg f < 4)
    (hgood : (s.feeder f).chan.fail = false) (hseg : (s.seg (s.feederSeg f)).chan.fail = false)
    (hpos : 0 ≤ (s.seg (s.feederSeg f)).chan.value * i * 2) :
    let fj := ((s.seg (s.feederSeg f)).chan.value * i * 2).natAbs
    let t := s.feederEnergy f i
    t.par (oFeeder f) Pid.Feeder.E_OUT = (s.par (oFeeder f) Pid.Feeder.E_OUT +
        (((s.feeder f).acc.pos + fj) / 1000000000000 : Nat)) % 9223372036854775808 ∧
      (t.feeder f).acc.pos = ((s.feeder f).acc.pos + fj) % 1000000000000 := by
  intro fj t
  have hkey : keyOf (oFeeder f) Pid.Feeder.E_OUT ≠ keyOf (oSeg (s.feederSeg f)) Pid.Segment.E_OUT := by
    rw [Ne, keyOf_inj (by decide) (by decide)]
    simp only [oFeeder, oSeg]
    omega
  have ht : t = ((s.modFeeder f fun a => { a with acc := { a.acc with
      pos := (energyCarry (s.feeder f).acc.pos fj).2 } }).addEnergy (oFeeder f) Pid.Feeder.E_OUT
        (energyCarry (s.feeder f).acc.pos fj).1).addEnergy (oSeg (s.feederSeg f)) Pid.Segment.E_OUT
          (energyCarry (s.feeder f).acc.pos fj).1 := by
    simp only [t, fj, State.feederEnergy, hgood, hseg, Bool.or_self, Bool.false_eq_true, if_false]
    exact if_pos hpos
  rw [ht]
  refine ⟨(State.par_setPar_other _ _ hkey).trans (par_addEnergy _ _ (by decide) _), ?_⟩
  exact congrArg (fun a : FeederAux => a.acc.pos) (feeder_modFeeder s hf _)

variable {s o} in
theorem Foot.accumulates {fs : List Fld} {ps : List Nat} {t : State} (h : Foot fs (some ps) s t)
    (hs : fs.contains .supply = false := by rfl) (hn : fs.contains .nvm = false := by rfl)
    (hp : ps.contains Pid.Device.UHLES_STATUS = false := by rfl) : t.accumulates = s.accumulates := by
  have hsup : t.supply = s.supply := h.fld .supply hs
  have hnvm : t.nvm = s.nvm := h.fld .nvm hn
  simp only [State.accumulates, State.linkUp, h.par ps rfl oDevice Pid.Device.UHLES_STATUS (by decide) hp, hsup, hnvm]

/-! ## A slot of the round -/

/-- The state in which a slot's sample adds to the energy: the channel has it, and what follows a change of its
plausibility is done. -/
def State.slotRead (s : State) (o : Nat) (x : Sample) : State :=
  ((((s.modChan o fun c => c.sample (objType o == .segment) false x.code (s.calibrate o x.nv) 0).senseRise o
    (s.chanOf o).fail).gather o (s.calibrate o x.nv)).overSeen o (s.calibrate o x.nv))

variable (x : Sample)

theorem slotRead_foot : Foot [.phases, .segs, .ports, .feeders, .strings, .grist]
    (some [pSenseStatus, Pid.SOURCE_SEQ, Pid.Grist.NEWEST_GEN, Pid.Grist.OLDEST_GEN, Pid.Grist.FIRST_BASE_GEN,
      Pid.Grist.FIRST_COUNT, Pid.Grist.SUPPRESSED]) s (s.slotRead o x) :=
  .on State.overSeen_foot (.on State.gather_foot (.on State.senseRise_foot (.within State.modChan_foot)))

theorem hasChan_slotObj (sar7 : Bool) (slot : Fin 16) : HasChan (slotObj sar7 slot.val) := by
  unfold HasChan
  revert sar7 slot
  decide

/-- Once the channel has the sample, reading it goes on as the metering does. -/
theorem slotRead_meter : MeterKept
    (s.modChan o fun c => c.sample (objType o == .segment) false x.code (s.calibrate o x.nv) 0) (s.slotRead o x) :=
  (senseRise_meter _ o (s.chanOf o).fail).trans ((gather_meter _ o (s.calibrate o x.nv)).trans
    (overSeen_meter _ o (s.calibrate o x.nv)))

variable {o} in
/-- The sample's value is the channel's. -/
theorem slotRead_value (h : HasChan o) : ((s.slotRead o x).chanOf o).value = s.calibrate o x.nv := by
  have hk := slotRead_meter s o x
  refine (Chan.value_of_core (hk.chan o)).trans ?_
  rw [chanOf_modChan s h]
  rfl

variable {o} in
/-- A feeder's sample leaves the accumulators, and the segments as they are but for the metering. -/
theorem slotRead_feeder (h : objType o = .feeder) :
    (∀ b, ((s.slotRead o x).seg b).chan.core = (s.seg b).chan.core) ∧
      ∀ f, ((s.slotRead o x).feeder f).acc = (s.feeder f).acc := by
  have hk := slotRead_meter s o x
  refine ⟨fun b => (hk.seg b).trans ?_, fun f => (hk.acc f).trans (feeder_modChan_acc s _ f)⟩
  rw [State.seg, segs_modChan s (by simp [h]), State.seg]

variable {o} in
/-- A feeder's good sample that draws energy adds it, exact to the femtojoule (R52). -/
theorem slot_draws {v : Int} (hty : objType o = .feeder) (hacc : s.accumulates = true)
    (hb : s.feederSeg (o - 0x30) < 4) (hseg : (s.seg (s.feederSeg (o - 0x30))).chan.fail = false)
    (hgood : (((s.slotRead o x).slotEnergy o v).chanOf o).fail = false)
    (hpos : 0 ≤ (s.seg (s.feederSeg (o - 0x30))).chan.value * v * 2) :
    let f := o - 0x30
    let fj := ((s.seg (s.feederSeg f)).chan.value * v * 2).natAbs
    let t := (s.slotRead o x).slotEnergy o v
    t.par o Pid.Feeder.E_OUT = (s.par o Pid.Feeder.E_OUT +
        (((s.feeder f).acc.pos + fj) / 1000000000000 : Nat)) % 9223372036854775808 ∧
      (t.feeder f).acc.pos = ((s.feeder f).acc.pos + fj) % 1000000000000 := by
  intro f fj t
  obtain ⟨n, hn, ho⟩ := exists_oFeeder_of_objType hty
  have hof : oFeeder f = o := by simp only [f, ho, oFeeder]; omega
  have hf : f < 16 := by simp only [f, ho, oFeeder]; omega
  have hfoot := slotRead_foot s o x
  obtain ⟨hsegs, haccs⟩ := slotRead_feeder s x hty
  have hbus := hsegs (s.feederSeg f)
  have hsame : (s.slotRead o x).feederSeg f = s.feederSeg f := by
    rw [State.feederSeg, hfoot.par _ rfl _ _ (by decide) rfl, State.feederSeg]
  have hchan : ((s.slotRead o x).feeder f).chan.fail = false := by
    rw [← chanOf_of_feeder _ hty]
    exact (Chan.fail_of_core (slotEnergy_core _ o v o)).symm.trans hgood
  have hdraw := feederEnergy_draws (s.slotRead o x) (i := v) hf (by rw [hsame]; exact hb) hchan
    (by rw [hsame, Chan.fail_of_core hbus]; exact hseg) (by rw [hsame, Chan.value_of_core hbus]; exact hpos)
  rw [hsame, Chan.value_of_core hbus, haccs, hfoot.par _ rfl _ _ (by decide) rfl, hof] at hdraw
  have ht : t = ((s.slotRead o x).feederEnergy f v).powerSum o ((s.slotRead o x).feederSeg f) v := by
    simp only [t, State.slotEnergy, hfoot.accumulates, hacc, hty]
    rfl
  rw [ht, State.powerSum_foot.par _ rfl _ _ (by decide) rfl, State.powerSum, feeder_modChan_acc]
  exact hdraw

theorem sarRoundSlot_next {sar7 : Bool} {slot : Fin 16} (h : s.supply.psdOk = true) :
    exec (.sarRoundSlot sar7 slot x) s = .next ((s.slotRead (slotObj sar7 slot.val) x).slotEnergy
      (slotObj sar7 slot.val) (s.calibrate (slotObj sar7 slot.val) x.nv)) := by
  show execSarRoundSlot sar7 slot x s = _
  unfold execSarRoundSlot
  rw [h]
  rfl

end

/-- Settles O36: a slot reads its sample, after which only the energy moves a parameter that is not a record's. -/
theorem samplesConvertAndAccumulate : Obligations.SamplesConvertAndAccumulate := by
  refine ⟨fun s sar7 slot x => ?_, fun s o pid mj h => par_addEnergy s o h mj⟩
  intro o v hpsd
  have hch : HasChan o := hasChan_slotObj sar7 slot
  have hfoot := slotRead_foot s o x
  refine ⟨_, sarRoundSlot_next s x hpsd, ?_, ?_, ?_⟩
  · exact (Chan.value_of_core (slotEnergy_core _ o v o)).trans (slotRead_value s x hch)
  · intro hty hacc hb hsegGood hgood f fj hpos
    exact slot_draws s x hty hacc hb hsegGood hgood hpos
  · intro hoff o' pid hpid hn
    rw [State.slotEnergy, hfoot.accumulates, hoff]
    exact hfoot.par _ rfl o' pid hpid (by simpa using hn)

end Sys2Proof.Machine

/-! # Proofs: pages are programmed and transactions commit (O35) -/

namespace Sys2Proof.Machine

open Sys2Proof State

set_option Elab.async false

/-! ## A commit leaves no transaction in progress -/

/-- No transaction is in progress. -/
def NvmIdle (s : State) : Prop := s.nvm.active = none

section
variable {s x y : State} {fs : List Fld} {ps : Option (List Nat)}

theorem NvmIdle.on (h : NvmIdle x) (k : Foot fs ps x y) (hn : fs.contains .nvm = false := by rfl) : NvmIdle y :=
  (congrArg NvmState.active (k.fld .nvm hn)).trans h

theorem NvmIdle.withUpd {v : UpdState} (h : NvmIdle x) : NvmIdle { x with upd := v } := h

theorem NvmIdle.withMiller {v : MillerState} (h : NvmIdle x) : NvmIdle { x with miller := v } := h

theorem NvmIdle.setPar {o pid : Nat} {v : Int} (h : NvmIdle x) : NvmIdle (x.setPar o pid v) := h

theorem NvmIdle.ite {c : Prop} [Decidable c] (h : NvmIdle x) (k : NvmIdle y) : NvmIdle (if c then x else y) := by
  split <;> assumption

variable (h : NvmIdle s)
include h

theorem journalWrite_idle (k : Nat) : NvmIdle (s.journalWrite k) := by
  unfold State.journalWrite
  split
  · exact h
  · split
    · exact h
    · split <;> exact h

theorem noteWritten_idle (w : NvmWork) : NvmIdle (s.noteWritten w) :=
  eachOf_keeps (P := NvmIdle) (fun k _ hx => journalWrite_idle hx k) _ h

theorem setBank_idle (b : Nat) (v : Int) : NvmIdle (s.setBank b v) := by
  unfold State.setBank
  split
  · exact h
  · exact journalWrite_idle h (jrBank b)

theorem askConfig_idle (o : Nat) : NvmIdle (s.askConfig o) := by
  unfold State.askConfig
  split <;> exact h

/-- An operation that a commit answers gets its OK. -/
theorem okOpt_idle (o : Option Op) (b : Op → Bytes) :
    NvmIdle (match o with | some e => s.ok e (b e) | none => s) := by
  cases o with
  | none => exact h
  | some e => exact h.on ok_foot

theorem batteryCommit_idle (ks : List Nat) (op : Option Nat) : NvmIdle (s.batteryCommit ks op) := by
  unfold State.batteryCommit
  refine okOpt_idle (NvmIdle.on ?_ learnWaits_foot) _ fun e => _
  refine eachOf_keeps (P := NvmIdle) (fun k x hx => ?_) _ h
  exact eachOf_keeps (P := NvmIdle) (fun m x hx => hx.on modModule_foot) _ hx

theorem mirrorCommit_idle : NvmIdle s.mirrorCommit := by
  unfold State.mirrorCommit
  dsimp only
  split
  · exact h
  · refine NvmIdle.on ?_ mirrorOnTime_foot
    refine List.foldlRecOn (motive := NvmIdle) _ _ ?_ fun x hx e _ => hx.on record_foot
    exact eachOf_keeps (P := NvmIdle) (f := fun g s => s.rewritten (mirrorSlot g) 128) (fun _ _ hx => hx) _ h

theorem clearCommit_idle (op : Option Nat) : NvmIdle (s.clearCommit op) := by
  unfold State.clearCommit
  generalize op.bind s.opOf = e
  cases e with
  | none =>
    refine NvmIdle.on ?_ createRec_foot
    exact h
  | some e =>
    refine NvmIdle.on (NvmIdle.on ?_ createRec_foot) ok_foot
    exact h

theorem putBlock_idle (o : Nat) (data : Bytes) : NvmIdle (s.putBlock o data) := by
  unfold State.putBlock
  dsimp only
  split <;> exact h

theorem blockCommit_idle (o : Nat) (data : Bytes) (op : Option Nat) : NvmIdle (s.blockCommit o data op) := by
  unfold State.blockCommit
  split
  · exact h
  · refine okOpt_idle ?_ _ _
    have hput : NvmIdle (((if s.bank s.upd.target == bkEMPTY then s.setBank s.upd.target bkWRITING
        else s).putBlock o data).sectionTouched o) :=
      (putBlock_idle (.ite (setBank_idle h _ _) h) o data).on sectionTouched_foot
    exact .ite hput.withUpd.setPar.withUpd hput.withUpd.setPar

theorem stagedCommit_idle (op : Option Nat) : NvmIdle (s.stagedCommit op) := by
  unfold State.stagedCommit
  refine .ite rfl (okOpt_idle (NvmIdle.on ?_ updRecord_foot) _ _)
  have hpend := ((setBank_idle h s.upd.target (if s.supply.cs == .rom then bkGOOD else bkSTAGED)).setPar
    (o := oUpdater) (pid := Pid.Updater.LAST_UPD_RESULT) (v := urOK)).on pendSats_foot
  exact (NvmIdle.ite hpend.withUpd.setPar hpend.withUpd.setPar).setPar

theorem dropBlocks_idle : NvmIdle s.dropBlocks := by
  refine List.foldlRecOn (motive := NvmIdle) _ _ h fun x hx e _ => ?_
  split
  · exact hx.on reply_foot
  · exact hx

theorem cancelCommit_idle (op : Option Nat) : NvmIdle (s.cancelCommit op) := by
  refine okOpt_idle ?_ _ _
  refine setBank_idle ?_ _ _
  split <;> exact dropBlocks_idle h

theorem checkinCommit_idle : NvmIdle s.checkinCommit := by
  refine NvmIdle.on ?_ updRecord_foot
  have hbank := setBank_idle h s.runningBank bkGOOD
  dsimp only
  split <;> exact hbank

theorem undo_idle (e : Op) : NvmIdle (s.undo e) := by
  unfold State.undo
  split <;> exact h

theorem withdraw_idle (e : Op) (reason : Nat) : NvmIdle (s.withdraw e reason) := by
  have hop : NvmIdle (s.modOp e.id fun x => { x with aborted := true }) := h.on modOp_foot
  unfold State.withdraw
  dsimp only
  split
  · exact hop.on reply_foot
  · split
    · split
      · exact hop.on (.on reply_foot (.on flumeEnd_foot (fs := [.flume, .ports, .hopper, .loops]) (ps := none)
          (.mk' (.refl _ _ _))))
      · exact hop.on flumeEnd_foot
    · exact hop.on slewEnd_foot
    · exact (undo_idle hop e).on reply_foot

theorem withdrawAll_idle (ps : List HostPort) (reason : Nat) : NvmIdle (s.withdrawAll ps reason) :=
  List.foldlRecOn (motive := NvmIdle) _ _ h fun _ hx e _ => withdraw_idle hx e reason

/-- A restart that no failed trial follows. -/
theorem l3Restart_idle : NvmIdle (s.l3Restart lrACTIVATION) := by
  have hx : NvmIdle ((s.setPar oDevice Pid.Device.L3_RESTART_CAUSE lrACTIVATION).incPar oDevice
      Pid.Device.L3_RESTART_COUNT) := h
  have hlanes (y : State) (hy : NvmIdle y) : NvmIdle y.abandonTests.lanesReturn :=
    (hy.on abandonTests_foot).on lanesReturn_foot
  unfold State.l3Restart
  simp only [bne_self_eq_false, Bool.and_false, Bool.false_eq_true, if_false]
  exact (hlanes _ (.ite (withdrawAll_idle (hx.on flumeStop_foot) _ _) hx)).withMiller

theorem activateCommit_idle : NvmIdle s.activateCommit := by
  unfold State.activateCommit
  refine l3Restart_idle (askConfig_idle (NvmIdle.on (NvmIdle.on (NvmIdle.on ?_ updRecord_foot) scheduleReply_foot)
    noSchedule_foot) _).withUpd
  exact (setBank_idle (setBank_idle h _ _) _ _).setPar.setPar.withUpd.setPar

/-- Whatever a transaction's work is, its commit leaves none in progress. -/
theorem workCommit_idle (r : NvmReq) : NvmIdle (s.workCommit r) := by
  unfold State.workCommit
  split
  case h_1 => exact h.on tickCommit_foot
  case h_7 => exact batteryCommit_idle h _ _
  case h_9 => exact mirrorCommit_idle h
  case h_11 => exact clearCommit_idle h _
  case h_12 => exact h.on repairCommit_foot
  case h_14 => exact blockCommit_idle h _ _ _
  case h_15 => exact stagedCommit_idle h _
  case h_16 => exact cancelCommit_idle h _
  case h_17 => exact activateCommit_idle h
  case h_18 => exact checkinCommit_idle h
  case h_3 => unfold State.imageCommit; dsimp only; split <;> exact h
  all_goals exact h

end

/-! ## What a commit counts and writes -/

section
variable (s : State)

/-- The work of a transaction whose last page has been programmed: its records take their slots, the write is counted
(R280, R281). -/
def State.worked (s : State) (r : NvmReq) : State :=
  ((({ s with nvm := { s.nvm with active := none } } : State).noteWritten r.work).incPar oDevice
    Pid.Device.NVM_WRITE_COUNT).workCommit r

/-- The state from which the work of a transaction starts. -/
def State.counted (s : State) (w : NvmWork) : State :=
  (({ s with nvm := { s.nvm with active := none } } : State).noteWritten w).incPar oDevice Pid.Device.NVM_WRITE_COUNT

theorem counted_foot (w : NvmWork) : Foot [.nvm] (some [Pid.Device.NVM_WRITE_COUNT]) s (s.counted w) :=
  .incPar (noteWritten_foot.on (Foot.refl _ _ s).withNvm)

theorem worked_eq (r : NvmReq) : s.worked r = (s.counted r.work).workCommit r := rfl

/-- A commit does the work; a save that waited for it starts. -/
theorem commitActive_worked {r : NvmReq} {n : Nat} (h : s.nvm.active = some (r, n)) :
    Foot [.time, .draws, .supply] (some []) (s.worked r) s.commitActive := by
  unfold State.commitActive
  rw [h]
  exact .ite saveStart_foot (.refl _ _ _)

theorem repairCommit_par {arr row : Nat} {o pid : Nat} (ho : o < oDresser) (hp : pid < 4096) :
    (s.repairCommit arr row).par o pid = s.par o pid :=
  State.par_setPar_other _ _ (by simp only [keyOf]; omega)

/-- No transaction's work moves the count of the writes. -/
theorem workCommit_writeCount (r : NvmReq) : (s.workCommit r).par oDevice Pid.Device.NVM_WRITE_COUNT =
    s.par oDevice Pid.Device.NVM_WRITE_COUNT := by
  unfold State.workCommit
  split
  case h_1 => exact tickCommit_foot.par _ rfl _ _ (by decide) rfl
  case h_2 => exact configCommit_foot.par _ rfl _ _ (by decide) rfl
  case h_3 => exact imageCommit_foot.par _ rfl _ _ (by decide) rfl
  case h_4 => exact configGen_foot.par _ rfl _ _ (by decide) rfl
  case h_5 => exact configGen_foot.par _ rfl _ _ (by decide) rfl
  case h_6 => exact trackingCommit_foot.par _ rfl _ _ (by decide) rfl
  case h_7 => exact batteryCommit_foot.par _ rfl _ _ (by decide) rfl
  case h_9 => exact mirrorCommit_foot.par _ rfl _ _ (by decide) rfl
  case h_10 => exact firstCommit_foot.par _ rfl _ _ (by decide) rfl
  case h_11 => exact clearCommit_foot.par _ rfl _ _ (by decide) rfl
  case h_12 => exact repairCommit_par s (by decide) (by decide)
  case h_14 => exact blockCommit_foot.par _ rfl _ _ (by decide) rfl
  case h_15 => exact stagedCommit_foot.par _ rfl _ _ (by decide) rfl
  case h_16 => exact cancelCommit_foot.par _ rfl _ _ (by decide) rfl
  case h_17 => exact activateCommit_foot.par _ rfl _ _ (by decide) rfl
  case h_18 => exact checkinCommit_foot.par _ rfl _ _ (by decide) rfl
  all_goals rfl

theorem findDesc_writeCount : findDesc oDevice Pid.Device.NVM_WRITE_COUNT =
    some ⟨Pid.Device.NVM_WRITE_COUNT, .u32, .ro, .any, 0, 4294967295, 0, .nvm⟩ := by decide

theorem worked_writeCount {r : NvmReq} (h : s.par oDevice Pid.Device.NVM_WRITE_COUNT < 4294967295) :
    (s.worked r).par oDevice Pid.Device.NVM_WRITE_COUNT = s.par oDevice Pid.Device.NVM_WRITE_COUNT + 1 := by
  have hnote : (({ s with nvm := { s.nvm with active := none } } : State).noteWritten r.work).par oDevice
      Pid.Device.NVM_WRITE_COUNT = s.par oDevice Pid.Device.NVM_WRITE_COUNT :=
    noteWritten_foot.par _ rfl _ _ (by decide) rfl
  rw [worked_eq, workCommit_writeCount, State.counted, State.par_incPar findDesc_writeCount (by decide) (hnote ▸ h),
    hnote]

/-- The numbers of the energy and charge counters: a segment's E_OUT, a feeder's and a string's E_CHARGE have one number,
and so have E_BACKFEED and E_DISCHARGE. -/
def counterPids : List Nat := [Pid.Segment.E_OUT, Pid.Feeder.E_BACKFEED, Pid.String.Q_NET]

/-- The counters' image is of the accumulators and of the energy and charge counters. -/
theorem counterImage_of_foot {fs : List Fld} {ps : List Nat} {t : State} (h : Foot fs (some ps) s t)
    (hf : fs.contains .feeders = false := by rfl) (hk : fs.contains .strings = false := by rfl)
    (hp : ∀ pid ∈ counterPids, ps.contains pid = false := by decide) : t.counterImage = s.counterImage := by
  have hfeeders : t.feeders = s.feeders := h.fld .feeders hf
  have hstrings : t.strings = s.strings := h.fld .strings hk
  have hpar (pid : Nat) (hm : pid ∈ counterPids) (o : Nat) : t.par o pid = s.par o pid :=
    h.par ps rfl o pid ((by decide : ∀ pid ∈ counterPids, pid < 4096) pid hm) (hp pid hm)
  simp only [State.counterImage, State.feeder, State.str, hfeeders, hstrings,
    hpar Pid.Segment.E_OUT (by decide), hpar Pid.Feeder.E_BACKFEED (by decide), hpar Pid.String.Q_NET (by decide)]
  rfl

/-! ## A configuration record -/

/-- What the copy of a parameter reads as: its own value, and of every other parameter what it read. -/
theorem lookupKey_copyPar (l : List (Nat × Int)) (o pid pid' : Nat) :
    (lookupKey (keyOf o pid') (s.copyPar l o pid)).getD (paramReset o pid') =
      if pid' = pid then s.par o pid' else (lookupKey (keyOf o pid') l).getD (paramReset o pid') := by
  have hkey : keyOf o pid' = keyOf o pid ↔ pid' = pid := by unfold keyOf; omega
  unfold State.copyPar
  dsimp only
  split
  · next hreset =>
    rw [lookupKey_eraseKey]
    simp only [hkey]
    split
    · next he => subst he; exact hreset.symm
    · rfl
  · rw [lookupKey_insertKey]
    simp only [hkey]
    split
    · next he => subst he; rfl
    · rfl

/-- A journal of the parameters of an object holds what each of them is. -/
theorem lookupKey_copyPars {o pid : Nat} (pids : List Nat) (h : pid ∈ pids) (l : List (Nat × Int)) :
    (lookupKey (keyOf o pid) (pids.foldl (fun c p => s.copyPar c o p) l)).getD (paramReset o pid) = s.par o pid := by
  induction pids using List.reverseRecOn with
  | nil => cases h
  | append_singleton ps p ih =>
    rw [List.foldl_append, List.foldl_cons, List.foldl_nil, lookupKey_copyPar]
    split
    · rfl
    · next hne => exact ih ((List.mem_append.1 h).resolve_right (by simpa using hne))

/-- A configuration record has no counter of the writes. -/
theorem writeCount_not_config : Pid.Device.NVM_WRITE_COUNT ∉ configPids oDevice := by decide

theorem typeDescs_pid_lt {o : Nat} : ∀ d ∈ typeDescs o, d.pid < 4096 := by
  unfold typeDescs
  repeat' split
  case h_9.isFalse => simp [railD2Descs]
  all_goals decide

theorem commonDescs_pids (o : Nat) : (commonDescs o).map Desc.pid = [Pid.OBJ_TYPE, Pid.OBJ_STATE, Pid.FAULT_LATCH,
    Pid.SERVICE_STATUS, Pid.PRIORITY, Pid.SOURCE_SEQ, Pid.ENABLE] := by
  unfold commonDescs
  split <;> split <;> rfl

theorem commonDescs_pid_le {o : Nat} {d : Desc} (h : d ∈ commonDescs o) : d.pid ≤ Pid.ENABLE := by
  have hm := List.mem_map_of_mem (f := Desc.pid) h
  rw [commonDescs_pids] at hm
  revert hm
  generalize d.pid = n
  revert n
  decide

theorem commonDescs_pid_lt {o : Nat} {d : Desc} (h : d ∈ commonDescs o) : d.pid < 4096 :=
  (commonDescs_pid_le h).trans_lt (by decide)

theorem configPids_lt {o pid : Nat} (h : pid ∈ configPids o) : pid < 4096 := by
  rcases List.mem_append.1 h with h | h
  · obtain ⟨d, hd, rfl⟩ := List.mem_map.1 h
    have hm := List.mem_of_mem_filter hd
    unfold descsOf at hm
    split at hm
    · cases hm
    · exact (List.mem_append.1 hm).elim commonDescs_pid_lt (typeDescs_pid_lt d)
  · split at h
    · rw [List.mem_singleton.1 h]; decide
    · cases h

/-- Counting the write leaves what a configuration record holds. -/
theorem counted_config (w : NvmWork) {o pid : Nat} (h : pid ∈ configPids o) :
    (s.counted w).par o pid = s.par o pid := by
  have hkey : keyOf o pid ≠ keyOf oDevice Pid.Device.NVM_WRITE_COUNT := by
    rw [Ne, keyOf_inj (configPids_lt h) (by decide)]
    rintro ⟨rfl, rfl⟩
    exact writeCount_not_config h
  exact (State.par_setPar_other _ _ hkey).trans (noteWritten_foot.par _ rfl _ _ (configPids_lt h) rfl)

/-- The write of an object that is no feeder journals its configuration as it is. -/
theorem worked_config {r : NvmReq} {o pid : Nat} (hr : r.work = .configObjects [o]) (hty : objType o ≠ .feeder)
    (h : pid ∈ configPids o) :
    (lookupKey (keyOf o pid) (s.worked r).nvm.config).getD (paramReset o pid) = s.par o pid := by
  rw [← counted_config s r.work h]
  simp only [worked_eq, State.workCommit, hr]
  have hnot : ¬ (objType o == .feeder) = true := by simpa using hty
  simp only [State.configCommit, State.configGen, State.updPar, State.setPar_nvm, List.foldl_cons, List.foldl_nil,
    if_neg hnot]
  exact lookupKey_copyPars _ _ h _

theorem tickCommit_ceiling : s.tickCommit.par oDevice Pid.Device.TICK_CEILING = s.time.tick + 3600000000 := by
  unfold State.tickCommit
  rw [modTime_foot.par _ rfl _ _ (by decide) rfl, State.par_setPar_same _ (by decide)]
  push_cast
  rfl

/-- What the commit of each work writes of the state. -/
theorem worked_writes (r : NvmReq) :
    (r.work = .tickRecord → (s.worked r).par oDevice Pid.Device.TICK_CEILING = s.time.tick + 3600000000) ∧
      (r.work = .counters → (s.worked r).nvm.counters = s.counterImage) ∧
      (r.work = .triggers → (s.worked r).nvm.triggers = s.grist.triggers) := by
  have hfoot := counted_foot s r.work
  have htime : (s.counted r.work).time = s.time := hfoot.fld .time rfl
  have hgrist : (s.counted r.work).grist = s.grist := hfoot.fld .grist rfl
  refine ⟨fun h => ?_, fun h => ?_, fun h => ?_⟩ <;> rw [worked_eq, State.workCommit] <;> simp only [h]
  · rw [← h]
    rw [tickCommit_ceiling, htime]
  · rw [← h]
    exact counterImage_of_foot s hfoot
  · rw [← h]
    exact congrArg GristState.triggers hgrist

/-! ## The capacitance test -/

theorem romStart_active {p : NvmReq × Nat} (h : s.nvm.active = some p) : s.romStart = s := by
  simp [State.romStart, h]

theorem romStart_saving (h : s.supply.cs = .saving) : s.romStart = s := by
  simp [State.romStart, h]

theorem bitOf_setBitTo (v : Int) (n : Nat) : bitOf (setBitTo v n true) n = true := by
  unfold setBitTo
  split
  · next h _ =>
    have hpos : (0 : Int) < 2 ^ n := by positivity
    simp only [bitOf, beq_eq_false_iff_ne, beq_iff_eq] at h ⊢
    rw [Int.add_ediv_of_dvd_right (dvd_refl _), Int.ediv_self hpos.ne']
    omega
  · next h hb => cases hb
  · next h1 h2 =>
    cases h : bitOf v n with
    | true => rfl
    | false => exact absurd rfl (h1 h)

theorem bit_setBit_same {o pid : Nat} (h : pid < 4096) (n : Nat) : (s.setBit o pid n).bit o pid n = true := by
  rw [State.bit, State.setBit, State.updPar, State.par_setPar_same _ h, bitOf_setBitTo]

/-- The SUPPLY record of a new result moves none of what it says. -/
theorem choldResult_spec (nF : Int) :
    let t := s.choldResult nF
    t.par oDevice Pid.Device.CHOLD_TEST_TICK = s.time.tick ∧ t.par oDevice Pid.Device.CHOLD_MEASURED = nF ∧
      (10 * nF < 9 * s.par oDevice Pid.Device.CHOLD_RATED →
        t.bit oDevice Pid.Device.HOLD_STATUS hsCHOLD_LOW = true) := by
  let a := (s.setPar oDevice Pid.Device.CHOLD_MEASURED nF).setPar oDevice Pid.Device.CHOLD_TEST_TICK s.time.tick
  let b := if 10 * nF < 9 * a.par oDevice Pid.Device.CHOLD_RATED then a.holdBit hsCHOLD_LOW else a
  have hrec : Foot [.ports, .grist] (some [5, 257, 258, 260, 261, 264]) b (s.choldResult nF) :=
    .ite (raise_foot.on supplyRecord_foot.within) (.refl _ _ _)
  have hbit : Foot [] (some [336]) a b := .ite holdBit_foot (.refl _ _ _)
  have hrated : a.par oDevice Pid.Device.CHOLD_RATED = s.par oDevice Pid.Device.CHOLD_RATED :=
    (Foot.setPar (.setPar (.refl [] (some [334, 335]) s))).par _ rfl _ _ (by decide) rfl
  refine ⟨?_, ?_, fun hlow => ?_⟩
  · rw [hrec.par _ rfl _ _ (by decide) rfl, hbit.par _ rfl _ _ (by decide) rfl]
    exact State.par_setPar_same _ (by decide) _
  · rw [hrec.par _ rfl _ _ (by decide) rfl, hbit.par _ rfl _ _ (by decide) rfl]
    exact (State.par_setPar_other _ _ (by decide)).trans (State.par_setPar_same _ (by decide) _)
  · rw [State.bit, hrec.par _ rfl _ _ (by decide) rfl]
    have hb : b = a.holdBit hsCHOLD_LOW := if_pos (hrated ▸ hlow)
    rw [hb]
    exact bit_setBit_same a (by decide) _

theorem askOnce_asked (k : NvmKind) (w : NvmWork) (n : Nat) :
    ((s.askOnce k w n).nvm.queue.any fun q => q.work == w) = true := by
  unfold State.askOnce
  split
  · assumption
  · simp [State.askNvm]

/-! ## The commands -/

variable {s}

theorem pageProgram_transaction {r : NvmReq} {n : Nat} (hm : s.mramOn = true) (h : s.nvm.active = some (r, n))
    (hn : 1 < n) : exec .nvmPageProgram s = .next { s with nvm := { s.nvm with active := some (r, n - 1) } } := by
  show execNvmPageProgram s = _
  simp only [execNvmPageProgram, hm, romStart_active s h, h, Bool.not_true, Bool.false_eq_true, if_false,
    if_neg (Nat.not_le.2 hn)]

theorem pageProgram_save (hc : s.supply.cs = .saving) (h : s.nvm.active = none) :
    exec .nvmPageProgram s =
      .next { s with supply := { s.supply with savePages := min 6 (s.supply.savePages + 1) } } := by
  have hm : s.mramOn = true := by simp [State.mramOn, hc]
  show execNvmPageProgram s = _
  simp [execNvmPageProgram, hm, romStart_saving s hc, h, hc]

theorem transactionCommit_next {r : NvmReq} {n : Nat} (hm : s.mramOn = true) (h : s.nvm.active = some (r, n))
    (hn : n ≤ 1) : exec .nvmTransactionCommit s = .next s.commitActive := by
  show execNvmTransactionCommit s = _
  simp only [execNvmTransactionCommit, hm, romStart_active s h, h, Bool.not_true, Bool.false_eq_true, if_false,
    if_pos hn]

/-- The granted test ends with a result, which is free where its sum gives none. -/
theorem choldTest_next (dv1 dv2 : Nat) (hm : s.miller3 = true) (hc : s.supply.cholds = true) :
    ∃ x nF, exec (.choldTest dv1 dv2) s = .next (State.choldResult x nF) ∧
      Foot [.supply, .draws] (some []) s x ∧ x.supply.cholds = false ∧
      (10 ≤ dv1 + dv2 → nF = roundDiv 40000000000 ((dv1 : Int) + dv2)) := by
  let y : State := { s with supply := { s.supply with cholds := false } }
  have hx : exec (.choldTest dv1 dv2) s = if (dv1 : Int) + dv2 < 10
      then .next (y.draw.2.choldResult (y.draw.1 % 4294967296))
      else .next (y.choldResult (roundDiv 40000000000 ((dv1 : Int) + dv2))) := by
    show execCholdTest dv1 dv2 s = _
    simp only [execCholdTest, hm, hc, Bool.not_true, Bool.or_self, Bool.false_eq_true, if_false]
    rfl
  have hy : Foot [.supply, .draws] (some []) s y := Foot.withSupply (.refl _ _ _)
  rw [hx]
  split
  · exact ⟨_, _, rfl, draw_foot.on hy, rfl, fun h => by omega⟩
  · exact ⟨_, _, rfl, hy, rfl, fun _ => rfl⟩

end

/-- Settles O35: a commit is its work, after which at most a save starts; the count of the writes is moved by the commit
alone. -/
theorem nvmCommits : Obligations.NvmCommits := by
  refine fun s => ⟨fun r n hm h hn => pageProgram_transaction hm h hn, fun hc h => ?_, fun r n hm h hn hw => ?_,
    fun dv1 dv2 hm hc => ?_, fun hm ht => ?_⟩
  · exact ⟨_, pageProgram_save hc h, rfl, .withSupply (.refl _ _ _)⟩
  · have hfoot := commitActive_worked s h
    have hidle : NvmIdle (s.worked r) := workCommit_idle (s := s.counted r.work)
      (noteWritten_idle (s := { s with nvm := { s.nvm with active := none } }) rfl _) r
    have hnvm : s.commitActive.nvm = (s.worked r).nvm := hfoot.fld .nvm rfl
    obtain ⟨htick, hcounters, htriggers⟩ := worked_writes s r
    refine ⟨_, transactionCommit_next hm h hn, hidle.on hfoot, ?_, fun hr => ?_, fun hr => ?_, fun hr => ?_,
      fun o hr ho pid hpid => ?_⟩
    · rw [hfoot.par _ rfl _ _ (by decide) rfl, worked_writeCount s hw]
    · rw [hfoot.par _ rfl _ _ (by decide) rfl, htick hr]
    · rw [hnvm, hcounters hr]
    · rw [hnvm, htriggers hr]
    · rw [hnvm, worked_config s hr ho hpid]
  · obtain ⟨x, nF, hx, hfoot, hoff, hsum⟩ := choldTest_next dv1 dv2 hm hc
    obtain ⟨htick, hval, hlow⟩ := choldResult_spec x nF
    have htime : x.time = s.time := hfoot.fld .time rfl
    have hsup : (x.choldResult nF).supply = x.supply := choldResult_foot.fld .supply rfl
    refine ⟨_, hx, by rw [hsup, hoff], by rw [htick, htime], fun h => hval.trans (hsum h), fun h => hlow ?_⟩
    rw [hval] at h
    rwa [hfoot.par _ rfl _ _ (by decide) rfl]
  · refine ⟨s.askOnce .config .choldTest 1, ?_, askOnce_asked s _ _ _, askOnce_foot⟩
    exact if_pos (by simp [hm, ht])

end Sys2Proof.Machine

/-! # Proofs: the removal of a phase (O37, O40) -/

namespace Sys2Proof.Machine

open Sys2Proof State

set_option Elab.async false

/-- What a phase measures and commands: its channel, its current and its shadow duty. -/
def PhaseAux.sensed (a : PhaseAux) : Chan × Int × Nat := (a.chan, a.current, a.shadow)

section
variable (s : State) (p : Nat)

theorem phase_of_phases {s t : State} (h : t.phases = s.phases) (q : Nat) : t.phase q = s.phase q := by
  rw [State.phase, h, State.phase]

theorem phase_of_foot {fs : List Fld} {ps : Option (List Nat)} {s t : State} (h : Foot fs ps s t) (q : Nat)
    (hp : fs.contains .phases = false := by rfl) : t.phase q = s.phase q := phase_of_phases (h.fld .phases hp) q

/-- Stopping a phase leaves what every phase measures and commands. -/
theorem stopPhase_sensed (q : Nat) : ((s.stopPhase p).phase q).sensed = (s.phase q).sensed := by
  unfold State.stopPhase
  split
  · extract_lets a b
    have ha : (a.phase q).sensed = (s.phase q).sensed := phase_modPhase_keeps s (P := PhaseAux.sensed) (by intro _; rfl) q
    have hb : b.phase q = a.phase q := phase_of_foot loopStopped_foot q
    split
    · rw [phase_of_foot outerIdle_foot q, hb, ha]
    · rw [hb, ha]
  · exact phase_modPhase_keeps s (P := PhaseAux.sensed) (by intro _; rfl) q

theorem replacePhase_keeps {α : Type} {P : PhaseAux → α} (hP : ∀ a w, P { a with wait := w } = P a) (m q : Nat) :
    P ((s.replacePhase m).phase q) = P (s.phase q) := by
  unfold State.replacePhase
  split
  · rfl
  · exact phase_modPhase_keeps s (P := P) (fun a => hP a _) q

/-- A removal changes of the phases only which one waits to replace the removed one. -/
theorem phaseRemoved_keeps {α : Type} {P : PhaseAux → α} (hP : ∀ a w, P { a with wait := w } = P a) (q : Nat) :
    P ((s.phaseRemoved p).phase q) = P (s.phase q) := by
  unfold State.phaseRemoved
  rw [phase_of_foot floatLeave_foot q]
  split
  · rw [phase_of_foot applyContingency_foot q, replacePhase_keeps _ hP]
    rfl
  · rfl

/-- A phase that is removed, before what its removal does beside it. -/
def State.removedAlone (s : State) (p : Nat) (sense : Bool) : State :=
  ((((s.stopPhase p).modPhase p fun a => { a with reefed := false, notice := true }).setObj (oPhase p) osFailed).setBit
    (oPhase p) Pid.Phase.PHASE_STATUS (if sense then 9 else 8)).latchFault (oPhase p)
      [if sense then flSenseFail else flOpenPhase]

theorem removePhase_eq (sense : Bool) : s.removePhase p sense = (s.removedAlone p sense).phaseRemoved p := rfl

theorem removedAlone_phases (sense : Bool) : (s.removedAlone p sense).phases =
    ((s.stopPhase p).modPhase p fun a => { a with reefed := false, notice := true }).phases :=
  latchFault_foot.fld .phases rfl

theorem removePhase_sensed (sense : Bool) (q : Nat) : ((s.removePhase p sense).phase q).sensed = (s.phase q).sensed := by
  rw [removePhase_eq, phaseRemoved_keeps _ _ (P := PhaseAux.sensed) (by intro _ _; rfl),
    phase_of_phases (removedAlone_phases s p sense) q,
    phase_modPhase_keeps _ (P := PhaseAux.sensed) (by intro _; rfl), stopPhase_sensed]

theorem removePhase_off (sense : Bool) : PhaseOff p (s.removePhase p sense) := by
  rw [removePhase_eq, PhaseOff, phaseRemoved_keeps _ _ (P := PhaseAux.switching) (by intro _ _; rfl),
    phase_of_phases (removedAlone_phases s p sense) p]
  exact (stopPhase_off p s).modPhase fun _ h => h

theorem removePhase_failed (sense : Bool) : (s.removePhase p sense).objSt (oPhase p) = osFailed := by
  rw [removePhase_eq, State.objSt, phaseRemoved_foot.par _ rfl _ _ (by decide) rfl]
  rw [State.removedAlone, latchFault_foot.par _ rfl _ _ (by decide) rfl,
    (Foot.setBit (.refl [] (some [Pid.Phase.PHASE_STATUS]) _)).par _ rfl _ _ (by decide) rfl]
  exact setObj_objSt _ _ _

end
end Sys2Proof.Machine

/-! # Proofs: channels are checked, tracked and journaled (O37) -/

namespace Sys2Proof.Machine

open Sys2Proof State

set_option Elab.async false

/-! ## The self-check -/

theorem hasChan_sarObj (ch : SarChannel) : HasChan (sarObj ch) := by
  cases ch with
  | phase p => exact .inl (objType_oPhase p.isLt)
  | feeder f => exact .inr (.inl (objType_oFeeder f.isLt))
  | segment b => exact .inr (.inr (.inl (objType_oSeg b.isLt)))
  | string k => exact .inr (.inr (.inr (objType_oString k.isLt)))

section
variable (s : State)

/-- A self-check of a phase leaves its channel. -/
theorem checkSlot_phase (p : Fin 24) (q : Nat) : ((s.checkSlot (.phase p)).phase q).chan = (s.phase q).chan ∧
    ((s.checkSlot (.phase p)).phase q).switching = (s.phase q).switching := by
  unfold State.checkSlot
  dsimp only
  split
  · exact ⟨phase_modPhase_keeps s (P := PhaseAux.chan) (by intro _; rfl) q,
      phase_modPhase_keeps s (P := PhaseAux.switching) (by intro _; rfl) q⟩
  · exact ⟨rfl, rfl⟩

/-- The channel's previous sample, taken once more. -/
def Chan.repeated (c : Chan) : Chan := { c with sum := c.sum + c.value, n := c.n + 1 }

/-- In a slot of the round the channel's previous sample stands in. -/
theorem checkSlot_round {ch : SarChannel} (h : ∀ p, ch ≠ .phase p) :
    ((s.checkSlot ch).chanOf (sarObj ch)).core = (s.chanOf (sarObj ch)).repeated.core := by
  have hround : s.checkSlot ch = (((s.modChan (sarObj ch) fun c => { c with
      sum := c.sum + (s.chanOf (sarObj ch)).value, n := c.n + 1 }).gather (sarObj ch)
        (s.chanOf (sarObj ch)).value).slotEnergy (sarObj ch) (s.chanOf (sarObj ch)).value) := by
    cases ch with
    | phase p => exact absurd rfl (h p)
    | _ => rfl
  rw [hround, slotEnergy_core, (gather_meter _ _ _).chan, chanOf_modChan s (hasChan_sarObj ch)]
  rfl

/-- What a self-check replaces leaves the channel's faults and its runs of failed checks. -/
theorem checkSlot_flags (ch : SarChannel) : ((s.checkSlot ch).chanOf (sarObj ch)).failRun = (s.chanOf (sarObj ch)).failRun ∧
    ((s.checkSlot ch).chanOf (sarObj ch)).fail = (s.chanOf (sarObj ch)).fail := by
  by_cases h : ∃ p, ch = .phase p
  · obtain ⟨p, rfl⟩ := h
    rw [sarObj, chanOf_oPhase _ p.isLt, chanOf_oPhase _ p.isLt, (checkSlot_phase s p p.val).1]
    exact ⟨rfl, rfl⟩
  · have hcore := checkSlot_round s fun p hp => h ⟨p, hp⟩
    exact ⟨(Chan.of_core Chan.failRun (fun _ => rfl) hcore).trans rfl, (Chan.fail_of_core hcore).trans rfl⟩

/-- The result of a self-check on its channel: the second failure in a row makes it fail (R57). -/
def Chan.checked (c : Chan) (pass : Bool) : Chan :=
  let run := if pass then 0 else min 2 (c.failRun + 1)
  { c with failRun := run, check := decide (run ≥ 2) }

theorem Chan.checked_check (c : Chan) (pass : Bool) : (c.checked pass).check = (!pass && decide (1 ≤ c.failRun)) := by
  cases pass with
  | true => rfl
  | false => simp [Chan.checked]

/-- The state after a self-check, before a phase that fails in it is removed. -/
def State.selfChecked (s : State) (ch : SarChannel) (pass : Bool) : State :=
  ((s.checkSlot ch).modChan (sarObj ch) (·.checked pass)).senseRise (sarObj ch) (s.chanOf (sarObj ch)).fail

theorem selfChecked_core (ch : SarChannel) (pass : Bool) : ((s.selfChecked ch pass).chanOf (sarObj ch)).core =
    (((s.checkSlot ch).chanOf (sarObj ch)).checked pass).core := by
  rw [State.selfChecked, (senseRise_meter _ _ _).chan, chanOf_modChan _ (hasChan_sarObj ch)]

theorem selfCheck_phase {p : Fin 24} (pass : Bool) (hpsd : s.supply.psdOk = true)
    (hw : s.checkReplaces p.val = false ∨ s.otherReplaced p.val = false) :
    exec (.sarSelfCheck (.phase p) pass) s = .next (
      if ((s.selfChecked (.phase p) pass).phase p.val).chan.fail && !(s.chanOf (sarObj (.phase p))).fail &&
          ((s.selfChecked (.phase p) pass).phase p.val).switching && (s.selfChecked (.phase p) pass).wheelRuns then
        (s.selfChecked (.phase p) pass).removePhase p.val true
      else s.selfChecked (.phase p) pass) := by
  have hwaits : (s.checkReplaces p.val && s.otherReplaced p.val) = false := by
    rcases hw with h | h <;> simp [h]
  show execSarSelfCheck (.phase p) pass s = _
  simp only [execSarSelfCheck, hpsd, hwaits, (checkSlot_flags s (.phase p)).2, Bool.not_true, Bool.or_self,
    Bool.false_eq_true, if_false]
  rfl

theorem selfCheck_round {ch : SarChannel} (pass : Bool) (hpsd : s.supply.psdOk = true) (h : ∀ p, ch ≠ .phase p) :
    exec (.sarSelfCheck ch pass) s = .next (s.selfChecked ch pass) := by
  have hwas := (checkSlot_flags s ch).2
  show execSarSelfCheck ch pass s = _
  unfold State.selfChecked
  rw [← hwas]
  unfold execSarSelfCheck
  rw [hpsd]
  cases ch with
  | phase p => exact absurd rfl (h p)
  | _ => rfl

theorem selfCheck_waits {p : Fin 24} (pass : Bool) (hr : s.checkReplaces p.val = true) (ho : s.otherReplaced p.val = true) :
    exec (.sarSelfCheck (.phase p) pass) s = .next s := by
  show execSarSelfCheck (.phase p) pass s = _
  simp [execSarSelfCheck, hr, ho]

variable {s}

theorem Foot.wheelRuns {fs : List Fld} {ps : List Nat} {t : State} (h : Foot fs (some ps) s t)
    (hs : fs.contains .supply = false := by rfl) (hp : ps.contains Pid.Device.UHLES_STATUS = false := by rfl) :
    t.wheelRuns = s.wheelRuns := by
  have hsup : t.supply = s.supply := h.fld .supply hs
  simp only [State.wheelRuns, State.running, State.psdPowered, State.linkUp, hsup,
    h.par ps rfl oDevice Pid.Device.UHLES_STATUS (by decide) hp]

/-- A change of channels keeps of a phase what its channel is not part of. -/
theorem phase_modChan_beside {α : Type} {P : PhaseAux → α} (hP : ∀ a c, P { a with chan := c } = P a) (x : State)
    (o q : Nat) (g : Chan → Chan) : P ((x.modChan o g).phase q) = P (x.phase q) := by
  unfold State.modChan
  split
  · exact phase_modPhase_keeps x (P := P) (fun a => hP a _) q
  all_goals simp only [State.phase, State.modFeeder_phases, State.modSeg_phases, State.modStr_phases]

theorem senseRise_beside {α : Type} {P : PhaseAux → α} (hP : ∀ a c, P { a with chan := c } = P a) (x : State)
    (o q : Nat) (was : Bool) : P ((x.senseRise o was).phase q) = P (x.phase q) := by
  unfold State.senseRise
  dsimp only
  split
  · rw [phase_of_foot (.on recordPsd_foot (fs := [.ports, .grist]) (ps := none) energyGap_foot.within) q,
      phase_modChan_beside hP]
  · split
    · exact phase_modChan_beside hP x o q _
    · rfl

theorem selfChecked_phase (p : Fin 24) (pass : Bool) (q : Nat) :
    ((s.selfChecked (.phase p) pass).phase q).switching = (s.phase q).switching ∧
      (s.selfChecked (.phase p) pass).wheelRuns = s.wheelRuns := by
  refine ⟨?_, Foot.wheelRuns (.on senseRise_foot (.on modChan_foot checkSlot_foot.within)
    (ps := [5, 257, 258, 260, 261, 264, 387, 388, 389, 399])
    (fs := [.phases, .segs, .ports, .feeders, .strings, .grist]))⟩
  rw [State.selfChecked, senseRise_beside (P := PhaseAux.switching) (by intro _ _; rfl),
    phase_modChan_beside (P := PhaseAux.switching) (by intro _ _; rfl), (checkSlot_phase s p q).2]

/-- A phase's second failed self-check in a row removes it (R58, R120). -/
theorem selfCheck_removes {p : Fin 24} (hrun : 1 ≤ (s.phase p.val).chan.failRun) (hfail : (s.phase p.val).chan.fail = false)
    (hsw : (s.phase p.val).switching = true) (hwheel : s.wheelRuns = true) :
    (((s.selfChecked (.phase p) false).phase p.val).chan.fail && !(s.chanOf (sarObj (.phase p))).fail &&
      ((s.selfChecked (.phase p) false).phase p.val).switching && (s.selfChecked (.phase p) false).wheelRuns) = true := by
  obtain ⟨hswitch, hruns⟩ := selfChecked_phase (s := s) p false p.val
  have hcheck : (((s.selfChecked (.phase p) false).phase p.val).chan).check = true := by
    rw [← chanOf_oPhase _ p.isLt]
    refine (Chan.of_core Chan.check (fun _ => rfl) (selfChecked_core s (.phase p) false)).trans ?_
    rw [Chan.checked_check, (checkSlot_flags s (.phase p)).1, sarObj, chanOf_oPhase _ p.isLt]
    simpa using hrun
  rw [hswitch, hruns, sarObj, chanOf_oPhase _ p.isLt, hfail, hsw, hwheel, Chan.fail, hcheck]
  simp

theorem selfCheck_spec (ch : SarChannel) (pass : Bool) (hpsd : s.supply.psdOk = true)
    (hw : ∀ p, ch = .phase p → s.checkReplaces p.val = false ∨ s.otherReplaced p.val = false) :
    Runs (.sarSelfCheck ch pass) s fun t =>
     (t.chanOf (sarObj ch)).check = (!pass && decide (1 ≤ (s.chanOf (sarObj ch)).failRun)) ∧
     ((∀ p, ch ≠ .phase p) → (t.chanOf (sarObj ch)).value = (s.chanOf (sarObj ch)).value ∧
       (t.chanOf (sarObj ch)).sum = (s.chanOf (sarObj ch)).sum + (s.chanOf (sarObj ch)).value ∧
       (t.chanOf (sarObj ch)).n = (s.chanOf (sarObj ch)).n + 1) ∧
     (∀ p, ch = .phase p → pass = false → 1 ≤ (s.phase p.val).chan.failRun → (s.phase p.val).chan.fail = false →
       (s.phase p.val).switching = true → s.wheelRuns = true →
       t.objSt (oPhase p.val) = osFailed ∧ (t.phase p.val).switching = false) := by
  have hcheck : ((s.selfChecked ch pass).chanOf (sarObj ch)).check =
      (!pass && decide (1 ≤ (s.chanOf (sarObj ch)).failRun)) := by
    refine (Chan.of_core Chan.check (fun _ => rfl) (selfChecked_core s ch pass)).trans ?_
    rw [Chan.checked_check, (checkSlot_flags s ch).1]
  by_cases h : ∃ p, ch = .phase p
  · obtain ⟨p, rfl⟩ := h
    refine ⟨_, selfCheck_phase s pass hpsd (hw p rfl), ?_, fun hno => absurd rfl (hno p), ?_⟩
    · rw [← hcheck]
      simp only [sarObj, chanOf_oPhase _ p.isLt]
      split
      · exact congrArg (fun a : Chan × Int × Nat => a.1.check) (removePhase_sensed (s.selfChecked (.phase p) pass) p.val true p.val)
      · rfl
    · rintro p' heq rfl hrun hfail hsw hwheel
      obtain rfl : p = p' := by simpa using heq
      rw [if_pos (selfCheck_removes hrun hfail hsw hwheel)]
      exact ⟨removePhase_failed _ _ _, removePhase_off _ _ _⟩
  · have hround : ∀ p, ch ≠ .phase p := fun p hp => h ⟨p, hp⟩
    let c := (s.chanOf (sarObj ch)).repeated.checked pass
    have hcore : ((s.selfChecked ch pass).chanOf (sarObj ch)).core = c.core :=
      (selfChecked_core s ch pass).trans (congrArg (fun c : Chan => c.checked pass) (checkSlot_round s hround))
    refine ⟨_, selfCheck_round s pass hpsd hround, hcheck, fun _ => ⟨?_, ?_, ?_⟩, fun p hp => absurd hp (hround p)⟩
    · exact Chan.value_of_core (d := c) hcore
    · exact Chan.of_core Chan.sum (fun _ => rfl) (d := c) hcore
    · exact Chan.of_core Chan.n (fun _ => rfl) (d := c) hcore

end

/-! ## The sample request -/

section
variable (s : State)

theorem sampleRequest_next {p : Fin 24} (ns : Nat) (hpow : s.psdPowered = true) (hsw : (s.phase p.val).switching = true) :
    exec (.sampleRequest p ns) s = .next (
      let x := s.modPhase p.val fun a => { a with request := s.sampleInstant p.val }
      if ns ≥ 125 then x.setBit (oPhase p.val) pSenseStatus ssSKEW else x) :=
  if_pos (by simp [hpow, hsw])

theorem sampleRequest_spec {p : Fin 24} (ns : Nat) (hpow : s.psdPowered = true) (hsw : (s.phase p.val).switching = true) :
    Runs (.sampleRequest p ns) s fun t =>
      (t.phase p.val).request = s.sampleInstant p.val ∧
      t.bit (oPhase p.val) pSenseStatus ssSKEW = (s.bit (oPhase p.val) pSenseStatus ssSKEW || decide (125 ≤ ns)) ∧
      Foot [.phases] (some [pSenseStatus]) s t := by
  have hreq : ((s.modPhase p.val fun a => { a with request := s.sampleInstant p.val }).phase p.val).request =
      s.sampleInstant p.val := by rw [phase_modPhase s p.isLt]
  have hfoot : Foot [.phases] (some [pSenseStatus]) s (s.modPhase p.val fun a => { a with request := s.sampleInstant p.val }) :=
    modPhase_foot.within
  refine ⟨_, sampleRequest_next s ns hpow hsw, ?_⟩
  dsimp only
  split
  · next h => exact ⟨hreq, by rw [bit_setBit_same _ (by decide)]; simp [h], hfoot.setBit⟩
  · next h => exact ⟨hreq, by simp only [h, decide_false, Bool.or_false]; rfl, hfoot⟩

/-! ## The tracking of the fast paths -/

theorem modChan_foot_of_ne {o : Nat} (h : objType o ≠ .phase) (g : Chan → Chan) :
    Foot [.segs, .feeders, .strings] (some []) s (s.modChan o g) := by
  unfold State.modChan
  split
  · next hp => exact absurd hp h
  · exact modFeeder_foot.within
  · exact modSeg_foot.within
  · exact modStr_foot.within
  · exact .refl _ _ _

/-- The converter's next window begins anew for its channels, none of them a phase's. -/
theorem windowNext_tracks (k : Nat) : Foot [.wheel, .segs, .feeders, .strings] (some []) s (s.windowNext k) ∧
    ∀ o, ((s.windowNext k).chanOf o).frozen = (s.chanOf o).frozen := by
  unfold State.windowNext
  extract_lets w x l
  have hl : ∀ o ∈ l, objType o ≠ .phase := by
    unfold l
    split
    · decide
    · split
      · decide
      · split <;> decide
  have hx : Foot [.wheel, .segs, .feeders, .strings] (some []) s x := .withWheel (.refl _ _ _)
  refine List.foldlRecOn (motive := fun t => Foot [.wheel, .segs, .feeders, .strings] (some []) s t ∧
    ∀ o, (t.chanOf o).frozen = (s.chanOf o).frozen) l _ ⟨hx, fun _ => rfl⟩ fun t ⟨hf, hfrozen⟩ o ho => ⟨?_, fun o' => ?_⟩
  · exact (modChan_foot_of_ne t (hl o ho) _).on hf
  · exact (chanOf_modChan_keeps t (P := Chan.frozen) (by intro _; rfl) o').trans (hfrozen o')

/-- Tracking past its limit sets TRACK_LIMIT and freezes (R45). -/
theorem trackLimit_limits {o : Nat} (h : HasChan o) :
    (s.trackLimit o).bit o pSenseStatus ssTRACK_LIMIT = true ∧ ((s.trackLimit o).chanOf o).frozen = true := by
  unfold State.trackLimit
  dsimp only
  constructor
  · rw [State.bit, record_foot.par _ rfl _ _ (by decide) rfl, modChan_foot.par _ rfl _ _ (by decide) rfl]
    exact bit_setBit_same s (by decide) _
  · rw [Chan.of_core Chan.frozen (fun _ => rfl) ((MeterKept.of_foot record_foot).chan o), chanOf_modChan _ h]

theorem meterObj_typed (ch : MeterChannel) : HasChan (meterObj ch) := by
  cases ch with
  | bus b => exact .inr (.inr (.inl (objType_oSeg b.isLt)))
  | feeder f => exact .inr (.inl (objType_oFeeder f.isLt))
  | stringVoltage k => exact .inr (.inr (.inr (objType_oString k.isLt)))
  | stringCurrent k => exact .inr (.inr (.inr (objType_oString k.isLt)))

/-- The update on a large mean, where the channel's own mean is not 0. -/
theorem trackUpdate_gain {o : Nat} {mds msar : Int} (hbig : s.fullScale o ≤ 10 * mds.natAbs) (hm : msar ≠ 0) :
    s.trackUpdate o mds msar =
      let g := roundDiv (s.par o pGainTrack * (3 * msar + mds)) (4 * msar)
      if 1073741824 < 200 * ((g - 1073741824).natAbs : Int) then s.trackLimit o else s.setPar o pGainTrack g := by
  unfold State.trackUpdate
  simp only [ge_iff_le, if_pos hbig, if_neg hm]

theorem trackUpdate_offset {o : Nat} {mds msar : Int} (hsmall : 10 * (mds.natAbs : Int) < s.fullScale o) :
    s.trackUpdate o mds msar =
      let off := s.par o pOffsetTrack + roundDiv (msar - mds) 4
      if s.fullScale o < 200 * (off.natAbs : Int) then s.trackLimit o else s.setPar o pOffsetTrack off := by
  unfold State.trackUpdate
  simp only [ge_iff_le, if_neg (Int.not_le.2 hsmall)]

/-- The end of a window that nothing discards. -/
theorem windowEnd_voltage (k : Fin 4) (nv lo hi : Int) (hrun : s.miller3 = true) (hpsd : s.supply.psdOk = true)
    (hup : s.linkUp = true) (hok : vget s.wheel.dsSpoilt (meterIx (.stringVoltage k)) false = false) :
    exec (.trackingWindowEnd (.stringVoltage k) nv lo hi) s =
      .next ((s.setPar (oString k.val) Pid.String.V_METER (stringVolts nv)).windowNext (meterIx (.stringVoltage k))) := by
  have hr : s.running = true := by
    simp only [State.miller3, Bool.and_eq_true] at hrun
    exact hrun.1
  show execTrackingWindowEnd (.stringVoltage k) nv lo hi s = _
  simp only [execTrackingWindowEnd, hr, hpsd, hrun, hup, hok, Bool.not_true, Bool.or_self, Bool.false_eq_true, if_false]

theorem windowEnd_tracks {ch : MeterChannel} (nv lo hi : Int) (hrun : s.miller3 = true) (hpsd : s.supply.psdOk = true)
    (hup : s.linkUp = true) (hok : vget s.wheel.dsSpoilt (meterIx ch) false = false) (hch : ∀ k, ch ≠ .stringVoltage k)
    (hsp : s.windowSpoilt (meterObj ch) lo hi = false) (hfr : (s.chanOf (meterObj ch)).frozen = false) :
    exec (.trackingWindowEnd ch nv lo hi) s =
      .next ((((s.sarMean (meterObj ch)).2).trackUpdate (meterObj ch)
        ((s.sarMean (meterObj ch)).2.calibrateMeter (meterObj ch) nv) (s.sarMean (meterObj ch)).1).windowNext (meterIx ch)) := by
  have hr : s.running = true := by
    simp only [State.miller3, Bool.and_eq_true] at hrun
    exact hrun.1
  show execTrackingWindowEnd ch nv lo hi s = _
  simp only [execTrackingWindowEnd, hr, hpsd, hrun, hup, hok, hsp, hfr, Bool.not_true, Bool.or_self, Bool.false_eq_true,
    if_false]

/-! ## What the end of a window does -/

variable {s}

/-- The mean of the channel's own samples takes at most a free value. -/
theorem sarMean_same {o : Nat} (nv : Int) : (s.sarMean o).2.calibrateMeter o nv = s.calibrateMeter o nv ∧
    (s.sarMean o).2.fullScale o = s.fullScale o ∧ ∀ pid, (s.sarMean o).2.par o pid = s.par o pid := by
  unfold State.sarMean
  dsimp only
  split <;> exact ⟨rfl, rfl, fun _ => rfl⟩

/-- An update that keeps to its limit writes the value, and one past it freezes the channel. -/
theorem windowNext_update {o pid k : Nat} {v : Int} {c : Prop} [Decidable c] {x : State} (h : HasChan o)
    (hpid : pid < 4096) (hx : Foot [.draws] (some []) s x) :
    let t := (if c then x.trackLimit o else x.setPar o pid v).windowNext k
    (¬ c → t.par o pid = v ∧ Foot [.wheel, .segs, .feeders, .strings, .draws] (some [pid]) s t) ∧
      (c → t.bit o pSenseStatus ssTRACK_LIMIT = true ∧ (t.chanOf o).frozen = true) := by
  intro t
  refine ⟨fun hc => ?_, fun hc => ?_⟩
  · have ht : t = (x.setPar o pid v).windowNext k := by simp only [t, if_neg hc]
    obtain ⟨hnext, -⟩ := windowNext_tracks (x.setPar o pid v) k
    rw [ht]
    refine ⟨(hnext.par _ rfl _ _ hpid rfl).trans (State.par_setPar_same _ hpid _), ?_⟩
    exact hnext.on (.setPar (hx.within) (by simp [pidIn, hpid]))
  · have ht : t = (x.trackLimit o).windowNext k := by simp only [t, if_pos hc]
    obtain ⟨hnext, hfrozen⟩ := windowNext_tracks (x.trackLimit o) k
    obtain ⟨hbit, hlimit⟩ := trackLimit_limits x h
    rw [ht]
    refine ⟨?_, (hfrozen o).trans hlimit⟩
    rw [State.bit, hnext.par _ rfl _ _ (by decide) rfl]
    exact hbit

end

/-- Settles O37: each command's next state is named, and what it leaves unchanged is a footprint. -/
theorem channelsAreChecked : Obligations.ChannelsAreChecked := by
  refine fun s => ⟨fun ch pass hpsd => ⟨?_, fun hw => selfCheck_spec ch pass hpsd hw⟩,
    fun p ns hpow hsw => sampleRequest_spec s ns hpow hsw, fun ch nv lo hi hrun hpsd hup hok => ⟨?_, ?_⟩,
    fun ch hrun hmoved => ?_, fun hrun => ?_⟩
  · rintro p rfl hr ho
    exact selfCheck_waits s pass hr ho
  · rintro k rfl
    let x := s.setPar (oString k.val) Pid.String.V_METER (stringVolts nv)
    have hfoot : Foot [.wheel, .strings] (some []) x (x.windowNext (meterIx (.stringVoltage k))) :=
      .withWheel (.refl _ _ _)
    refine ⟨_, windowEnd_voltage s k nv lo hi hrun hpsd hup hok, ?_, hfoot.on (.setPar (.refl _ _ _))⟩
    rw [hfoot.par _ rfl _ _ (by decide) rfl]
    exact State.par_setPar_same s (by decide) _
  · intro o mds msar g off limited hch hsp hfr
    obtain ⟨hmds, hfs, hpar⟩ := sarMean_same (s := s) (o := o) nv
    have hx : Foot [.draws] (some []) s (s.sarMean o).2 := sarMean_foot
    have hnext := windowEnd_tracks s nv lo hi hrun hpsd hup hok hch hsp hfr
    refine ⟨fun hbig hm => ⟨_, hnext, ?_⟩, fun hsmall => ⟨_, hnext, ?_⟩⟩
    · rw [hmds, trackUpdate_gain _ (by rw [hfs]; exact hbig) hm, hpar]
      have hup := windowNext_update (k := meterIx ch) (pid := pGainTrack) (v := g)
        (c := 1073741824 < 200 * ((g - 1073741824).natAbs : Int)) (meterObj_typed ch) (by decide) hx
      exact ⟨fun hle => hup.1 (Int.not_lt.2 hle), hup.2⟩
    · rw [hmds, trackUpdate_offset _ (by rw [hfs]; exact hsmall), hpar, hfs]
      have hup := windowNext_update (k := meterIx ch) (pid := pOffsetTrack) (v := off)
        (c := s.fullScale o < 200 * (off.natAbs : Int)) (meterObj_typed ch) (by decide) hx
      exact ⟨fun hle => hup.1 (Int.not_lt.2 hle), hup.2⟩
  · refine ⟨s.askOnce .config (.tracking (sarObj ch)) 1, ?_, askOnce_asked s _ _ _, askOnce_foot⟩
    exact if_pos (by simp [hrun, hmoved])
  · exact ⟨s.askOnce .counters .counters 1, if_pos hrun, askOnce_asked s _ _ _, askOnce_foot⟩

end Sys2Proof.Machine

/-! # Proofs: PARAM_SET is checked, and writes what passes (O10) -/

namespace Sys2Proof.Machine

open Sys2Proof

set_option Elab.async false

/-! ## A failed check answers and does no more -/

theorem Accepts.enabled_taken {s : State} {r : Req} {n : Nat} {p : Bytes} (ha : Accepts s r n p) :
    (Taken s r n p).enabled (oPort r.port) = true := by
  rw [State.enabled_oPort, ← ha.enabled, State.enabled_oPort]
  rfl

/-- The answer to a request whose check fails: its status without a payload, and the packet's own traces. -/
theorem fail_answers {s : State} {r : Req} {n st c : Nat} {p : Bytes} (ha : Accepts s r n p) :
    let t := (Taken s r n p).fail (theOp s r n p) st c
    (∃ k, Replied s t r n st k []) ∧ Foot opFlds (some opPids) s t :=
  ⟨⟨c, State.reply_replied ha.enabled_taken⟩, .on State.fail_foot (.within State.takeOp_foot)⟩

/-- The status that a check of the entry gives. -/
theorem entryCheck_some {o pid st : Nat} (hp : pid < 4096)
    (h : objReserved o = true ∧ st = stBAD_OBJECT ∨ objReserved o = false ∧ findDesc o pid = none ∧ st = stBAD_PARAM) :
    ∃ c, entryCheck o pid false = some (st, c) := by
  have hlt : ¬ (false || decide (pid ≥ 4096)) = true := by simpa using hp
  rcases h with ⟨hr, rfl⟩ | ⟨hr, hd, rfl⟩
  · exact ⟨3, by simp [entryCheck, hr, hp]⟩
  · exact ⟨4, by simp [entryCheck, hr, hd, hp]⟩

section
variable {s : State} {r : Req} {o pid st : Nat} (ho : o < 256) (hp : pid < 4096)
include ho hp

theorem paramGet_fails (hc : ∃ c, entryCheck o pid false = some (st, c)) (ha : Accepts s r 0x10 (getBytes o pid)) :
    Runs (.paramGet r (getBytes o pid)) s fun t =>
      (∃ n, Replied s t r 0x10 st n []) ∧ Foot opFlds (some opPids) s t := by
  obtain ⟨c, hc⟩ := hc
  refine ⟨_, rfl, ?_⟩
  have hpay : (theOp s r 0x10 (getBytes o pid)).payload = getBytes o pid := rfl
  have hl : (getBytes o pid).length = 4 := by rw [getBytes_eq]; rfl
  have h₀ : byteAt (getBytes o pid) 0 = o := by simp [getBytes_eq, byteAt]; omega
  have h₁ : byteAt (getBytes o pid) 1 = 0 := by simp [getBytes_eq, byteAt]
  have h₂ : fieldU (getBytes o pid) 2 2 = pid := by simp [getBytes_eq, fieldU, slice, leNat]; omega
  have hrun : opParamGet (theOp s r 0x10 (getBytes o pid)) (Taken s r 0x10 (getBytes o pid)) =
      (Taken s r 0x10 (getBytes o pid)).fail (theOp s r 0x10 (getBytes o pid)) st c := by
    simp [opParamGet, hpay, hl, h₀, h₁, h₂, hc]
  rw [submitReq_accepted _ ha, hrun]
  exact fail_answers ha

/-! ## The bytes of a PARAM_SET -/

theorem setBytes_fields {size : Nat} (hs : size ∈ [1, 2, 4, 8]) (v : Int) :
    (setBytes o pid size v).length = 4 + size ∧ byteAt (setBytes o pid size v) 0 = o ∧
      byteAt (setBytes o pid size v) 1 = size ∧ fieldU (setBytes o pid size v) 2 2 = pid := by
  have hb : setBytes o pid size v =
      [BitVec.ofNat 8 o, BitVec.ofNat 8 size, BitVec.ofNat 8 pid, BitVec.ofNat 8 (pid / 256)] ++ leBytes size v := by
    simp [setBytes, leBytes_one, leBytes_two]
  have hlt : size < 256 := by
    simp only [List.mem_cons, List.not_mem_nil, or_false] at hs
    omega
  rw [hb]
  refine ⟨by simp [leBytes_length]; omega, ?_, ?_, ?_⟩
  · simp [byteAt]; omega
  · simp [byteAt]; omega
  · simp [fieldU, slice, leNat]; omega

end

theorem Enc.size_mem (e : Enc) : e.size ∈ [1, 2, 4, 8] := by cases e <;> decide

/-- The length of a PARAM_SET of a valid size passes check 1. -/
theorem setLength_fits {size : Nat} (hs : size ∈ [1, 2, 4, 8]) :
    ¬ (decide (4 + size < 5) || !([1, 2, 4, 8].contains size) || decide (4 + size ≠ 4 + size)) = true :=
  (by decide : ∀ n ∈ [1, 2, 4, 8],
    ¬ (decide (4 + n < 5) || !([1, 2, 4, 8].contains n) || decide (4 + n ≠ 4 + n)) = true) size hs

section
variable {s : State} {r : Req} {o pid : Nat} {v : Int} (ho : o < 256) (hp : pid < 4096)
include ho hp

theorem paramSet_fails {size st : Nat} (hs : size ∈ [1, 2, 4, 8]) (hc : ∃ c, entryCheck o pid false = some (st, c))
    (ha : Accepts s r 0x11 (setBytes o pid size v)) :
    Runs (.paramSet r (setBytes o pid size v)) s fun t =>
      (∃ n, Replied s t r 0x11 st n []) ∧ Foot opFlds (some opPids) s t := by
  obtain ⟨c, hc⟩ := hc
  obtain ⟨hl, h₀, h₁, h₂⟩ := setBytes_fields ho hp hs v
  refine ⟨_, rfl, ?_⟩
  have hpay : (theOp s r 0x11 (setBytes o pid size v)).payload = setBytes o pid size v := rfl
  have hrun : opParamSet (theOp s r 0x11 (setBytes o pid size v)) (Taken s r 0x11 (setBytes o pid size v)) =
      (Taken s r 0x11 (setBytes o pid size v)).fail (theOp s r 0x11 (setBytes o pid size v)) st c := by
    simp only [opParamSet, hpay, hl, h₀, h₁, h₂, hc, if_neg (setLength_fits hs)]
  rw [submitReq_accepted _ ha, hrun]
  exact fail_answers ha

/-- A PARAM_SET of a parameter that the object has, in its encoding, comes to the checks of its value. -/
theorem opParamSet_checked {d : Desc} (hr : objReserved o = false) (hd : findDesc o pid = some d) (hv : carries o d v) :
    let p := setBytes o pid d.enc.size v
    let e := theOp s r 0x11 p
    let x := Taken s r 0x11 p
    opParamSet e x = match x.setCheck r.port o d v with
      | some (_, 6) => x.failViolation e 6
      | some (st, c) => (x.floatRefused o d v).reply e st c []
      | none => ((x.opCommit s.hopper.nextId).writeParam o d v).ok e
          (((x.opCommit s.hopper.nextId).writeParam o d v).paramEntry o d) := by
  intro p e x
  obtain ⟨hl, h₀, h₁, h₂⟩ := setBytes_fields ho hp d.enc.size_mem v
  have hpay : e.payload = setBytes o pid d.enc.size v := rfl
  have hpid := findDesc_pid hd
  rw [carries, hpid] at hv
  simp only [opParamSet, hpay, hl, h₀, h₁, h₂, hd, hv, entryCheck_none hr hd hp, if_neg (setLength_fits d.enc.size_mem)]
  rw [if_neg (not_not_intro rfl)]
  rfl

/-- A failing check of the value answers, where it is no violation and no request for FLOAT. -/
theorem paramSet_refused {d : Desc} {st c : Nat} (hr : objReserved o = false) (hd : findDesc o pid = some d)
    (hv : carries o d v) (hc : c ≠ 6)
    (hcheck : (Taken s r 0x11 (setBytes o pid d.enc.size v)).setCheck r.port o d v = some (st, c))
    (hfloat : ¬ (objType o = .device ∧ d.pid = Pid.Device.MODE_REQUEST ∧ v = 1))
    (ha : Accepts s r 0x11 (setBytes o pid d.enc.size v)) :
    Runs (.paramSet r (setBytes o pid d.enc.size v)) s fun t =>
      (∃ n, Replied s t r 0x11 st n []) ∧ Foot opFlds (some opPids) s t := by
  refine ⟨_, rfl, ?_⟩
  have hsame : (Taken s r 0x11 (setBytes o pid d.enc.size v)).floatRefused o d v =
      Taken s r 0x11 (setBytes o pid d.enc.size v) := by
    unfold State.floatRefused
    rw [if_neg]
    simpa [and_assoc] using hfloat
  rw [submitReq_accepted _ ha, opParamSet_checked ho hp hr hd hv, hcheck]
  split
  · next heq => cases heq; exact absurd rfl hc
  · next heq => cases heq; rw [hsame]; exact fail_answers ha
  · next heq => cases heq

end

/-! ## The rows that the checks read -/

/-- The calibration parameters that R49 locks. -/
def calPids : List Nat := [pGainUser, pOffsetUser, pSenseRnom]

theorem findDesc_mem {o pid : Nat} {d : Desc} (h : findDesc o pid = some d) :
    (d ∈ commonDescs o ∨ d ∈ typeDescs o) ∧ d.pid = pid := by
  refine ⟨?_, findDesc_pid h⟩
  have hm : d ∈ descsOf o := List.mem_of_find?_eq_some h
  unfold descsOf at hm
  split at hm
  · cases hm
  · exact List.mem_append.1 hm

/-- GAIN_USER, OFFSET_USER and SENSE_RNOM are written in TEST and MAINT alone. -/
theorem cal_locked {o pid : Nat} {d : Desc} (hd : findDesc o pid = some d) (hpid : pid ∈ calPids)
    (hty : objType o ∈ [ObjType.segment, .phase, .feeder, .string]) : d.acc = .rw ∧ d.res = .testMaint := by
  obtain ⟨hm, rfl⟩ := findDesc_mem hd
  rcases hm with hm | hm
  · exact absurd (commonDescs_pid_le hm) (Nat.not_le.2 ((by decide : ∀ n ∈ calPids, Pid.ENABLE < n) _ hpid))
  · unfold typeDescs at hm
    simp only [List.mem_cons, List.not_mem_nil, or_false] at hty
    rcases hty with h | h | h | h <;> rw [h] at hm
    · exact (by decide : ∀ d ∈ segmentDescs, d.pid ∈ calPids → d.acc = .rw ∧ d.res = .testMaint) d hm hpid
    · exact (by decide : ∀ d ∈ phaseDescs, d.pid ∈ calPids → d.acc = .rw ∧ d.res = .testMaint) d hm hpid
    · exact (by decide : ∀ d ∈ feederDescs, d.pid ∈ calPids → d.acc = .rw ∧ d.res = .testMaint) d hm hpid
    · exact (by decide : ∀ d ∈ stringDescs, d.pid ∈ calPids → d.acc = .rw ∧ d.res = .testMaint) d hm hpid

/-- IT_APPLY is write-only. -/
theorem itApply_wo {o : Nat} {d : Desc} (hd : findDesc o Pid.Feeder.IT_APPLY = some d) (hty : objType o = .feeder) :
    d.acc = .wo := by
  obtain ⟨hm, hpid⟩ := findDesc_mem hd
  rcases hm with hm | hm
  · exact absurd (hpid ▸ commonDescs_pid_le hm) (by decide)
  · rw [typeDescs, hty] at hm
    exact (by decide : ∀ d ∈ feederDescs, d.pid = Pid.Feeder.IT_APPLY → d.acc = .wo) d hm hpid

theorem exists_oDevice_of_objType {o : Nat} (h : objType o = .device) : o = oDevice := by
  simp only [objType, ite_eq_iff, reduceCtorEq, and_false, false_or, or_false, and_true] at h
  show o = 1
  omega

/-- A request for FLOAT is in MODE_REQUEST's range. -/
theorem floatRequest_inRange {o : Nat} {d : Desc} (hd : findDesc o Pid.Device.MODE_REQUEST = some d)
    (hty : objType o = .device) : inRange o d 1 = true := by
  obtain rfl := exists_oDevice_of_objType hty
  have hrow : (findDesc oDevice Pid.Device.MODE_REQUEST).map (inRange oDevice · 1) = some true := by decide
  rw [hd] at hrow
  exact Option.some.inj hrow

/-! ## What a write does -/

section
variable (s : State)

theorem bitOf_natCast (n b : Nat) : bitOf (n : Int) b = n.testBit b := by
  rw [bitOf, Nat.testBit_eq_decide_div_mod_eq]
  norm_cast
  rw [Bool.beq_eq_decide_eq]
  norm_cast

/-- A write to a W1C parameter clears the bits written as 1 (R5). -/
theorem clearBits_bit {o pid b : Nat} (v : Int) (hp : pid < 4096) (hpos : 0 ≤ s.par o pid) (hb : b < 16) :
    (s.clearBits o pid v).bit o pid b = (s.bit o pid b && !v.toNat.testBit b) := by
  have hpar : (s.clearBits o pid v).par o pid = (((s.par o pid).toNat &&& (65535 ^^^ v.toNat) : Nat) : Int) := by
    unfold State.clearBits
    dsimp only
    split
    · rw [State.modChan_foot.par _ rfl _ _ hp rfl, State.par_setPar_same _ hp]
    · exact State.par_setPar_same _ hp _
  have hones : (65535 : Nat).testBit b = true := by
    rw [show 65535 = 2 ^ 16 - 1 from rfl, Nat.testBit_two_pow_sub_one]
    simpa using hb
  rw [State.bit, hpar, bitOf_natCast, Nat.testBit_and, Nat.testBit_xor, hones, Bool.true_xor, State.bit,
    ← bitOf_natCast, Int.toNat_of_nonneg hpos]

/-- A calibration parameter that is written keeps its value. -/
theorem calWritten_par (o : Nat) {pid : Nat} (hp : pid < 4096) : (s.calWritten o pid).par o pid = s.par o pid := by
  unfold State.calWritten
  split
  · next h =>
    have hne : pid ≠ Pid.Segment.CAL_GENERATION :=
      (by decide : ∀ n ∈ calPids, n ≠ Pid.Segment.CAL_GENERATION) pid (List.contains_iff_mem.1 h)
    have hkeep (x : State) (hx : x.par o pid = s.par o pid) :
        (x.incPar o Pid.Segment.CAL_GENERATION).par o pid = s.par o pid :=
      (State.par_setPar_other _ _ fun hk => hne ((keyOf_inj hp (by decide)).1 hk).2).trans hx
    have hchan (g : Chan → Chan) : (s.modChan o g).par o pid = s.par o pid := State.modChan_foot.par _ rfl _ _ hp rfl
    dsimp only
    split <;> exact hkeep _ (hchan _)
  · rfl

theorem railWritten_par (n o : Nat) {pid : Nat} (hp : pid < 4096) : (s.railWritten n pid).par o pid = s.par o pid := by
  by_cases h : pid = Pid.Rail.SENSE_MODE
  · subst h
    exact State.railWritten_foot.par _ rfl _ _ (by decide) rfl
  · unfold State.railWritten
    rw [if_neg (by simp [h])]

/-- What else the write of a parameter does leaves it, on the objects that O10 names. -/
theorem written_par {o pid : Nat} {old v : Int} (hp : pid < 4096)
    (hty : objType o ∈ [ObjType.segment, .outerLoop, .feeder, .rail, .pol, .thermal, .downPort])
    (hen : pid ≠ Pid.ENABLE) (hpr : pid ≠ Pid.PRIORITY) (hit : objType o = .feeder → pid ≠ Pid.Feeder.IT_APPLY) :
    (s.written o pid old v).par o pid = s.par o pid := by
  unfold State.written
  rw [if_neg hen, if_neg hpr]
  simp only [List.mem_cons, List.not_mem_nil, or_false] at hty
  rcases hty with h | h | h | h | h | h | h <;> simp only [h]
  · rw [if_neg (hit h)]
    split
    · exact State.modFeeder_foot.par _ rfl _ _ hp rfl
    · rfl
  · exact railWritten_par s _ _ hp
  · split
    · exact State.modPol_foot.par _ rfl _ _ hp rfl
    · rfl

/-- The value of an RW parameter that is written is the new one. -/
theorem writeParam_rw {o pid : Nat} {d : Desc} {v : Int} (hd : findDesc o pid = some d) (hacc : d.acc = .rw)
    (hp : pid < 4096) (hty : objType o ∈ [ObjType.segment, .outerLoop, .feeder, .rail, .pol, .thermal, .downPort])
    (hen : pid ≠ Pid.ENABLE) (hpr : pid ≠ Pid.PRIORITY) : (s.writeParam o d v).par o pid = v := by
  obtain rfl := findDesc_pid hd
  have hit : objType o = .feeder → d.pid ≠ Pid.Feeder.IT_APPLY := by
    intro hf hpid
    have := itApply_wo (hpid ▸ hd) hf
    rw [hacc] at this
    cases this
  have hval : ((((s.setPar o d.pid v).calWritten o d.pid).written o d.pid (s.par o d.pid) v)).par o d.pid = v := by
    rw [written_par _ hp hty hen hpr hit, calWritten_par _ _ hp, State.par_setPar_same _ hp]
  simp only [State.writeParam, hacc]
  split
  · rw [State.askConfig_foot.par _ rfl _ _ hp rfl, hval]
  · exact hval

end

/-- Settles O10: a check that fails answers and does no more; one that passes writes the parameter and answers with its
entry. -/
theorem paramSetWrites : Obligations.ParamSetWrites := by
  refine ⟨fun s r o pid ho hp => ?_, fun s o d v b hacc hp hpos hb => ?_, fun s o pid d v hd hacc hp hty hen hpr =>
    writeParam_rw s hd hacc hp hty hen hpr, fun s r o pid d v ho hr hd hp hv ha hcheck => ?_⟩
  · intro answered reads writes
    refine ⟨fun hr => ?_, fun hr hd => ?_, fun d v hr hd hv => ⟨fun hro hrc hlock hrange => ?_, fun hcal hty ht hm => ?_⟩⟩
    · have hc := entryCheck_some hp (st := stBAD_OBJECT) (.inl ⟨hr, rfl⟩)
      exact ⟨paramGet_fails ho hp hc, fun size hs v => paramSet_fails ho hp hs hc⟩
    · have hc := entryCheck_some hp (.inr ⟨hr, hd, rfl⟩)
      exact ⟨paramGet_fails ho hp hc, fun size hs v => paramSet_fails ho hp hs hc⟩
    · refine paramSet_refused (c := 8) ho hp hr hd hv (by decide) ?_ ?_
      · simp [State.setCheck, hro, hrc, hlock, hrange]
      · rintro ⟨hdev, hpid, rfl⟩
        obtain rfl : pid = Pid.Device.MODE_REQUEST := (findDesc_pid hd).symm.trans hpid
        rw [floatRequest_inRange hd hdev] at hrange
        cases hrange
    · obtain ⟨hacc, hres⟩ := cal_locked hd hcal hty
      have hstate : (Taken s r 0x11 (setBytes o pid d.enc.size v)).testMaint = false := by
        show (s.shelfState == ssTest || s.shelfState == ssMaint) = false
        simp [ht, hm]
      have hlock : (Taken s r 0x11 (setBytes o pid d.enc.size v)).writeLocked r.port o d v = true := by
        simp [State.writeLocked, hres, hstate]
      refine paramSet_refused (c := 7) ho hp hr hd hv (by decide) ?_ ?_
      · simp [State.setCheck, hacc, hlock]
      · rintro ⟨hdev, -, -⟩
        rw [hdev] at hty
        simp at hty
  · simp only [State.writeParam, hacc]
    exact clearBits_bit s v hp hpos hb
  · show Host.Outcome.next (submitReq r 0x11 (setBytes o pid d.enc.size v) opParamSet s) = _
    rw [submitReq_accepted _ ha, opParamSet_checked ho hp hr hd hv, hcheck]

end Sys2Proof.Machine

/-! # Proofs: a phase's sample is evaluated (O40) -/

namespace Sys2Proof.Machine

open Sys2Proof State

set_option Elab.async false

/-! ## What the engine leaves of a phase's parameters

A record's footprint names SAMPLE_COUNT's number, which is also one of Grist's; a reply's names that of ISENSE_RANGE, which
is also a host port's. Neither writes to a phase. -/

/-- The parameter is as it was. -/
def ParKept (o pid : Nat) (s t : State) : Prop := t.par o pid = s.par o pid

section
variable {o pid : Nat} {s x y : State} {fs : List Fld} {ps : List Nat}

theorem ParKept.refl (s : State) : ParKept o pid s s := rfl

theorem ParKept.trans (h : ParKept o pid s x) (k : ParKept o pid x y) : ParKept o pid s y := Eq.trans k h

theorem ParKept.foot (h : ParKept o pid s x) (k : Foot fs (some ps) x y) (hp : pid < 4096 := by decide)
    (hn : ps.contains pid = false := by rfl) : ParKept o pid s y := h.trans (k.par ps rfl o pid hp hn)

theorem ParKept.setPid {o' pid' : Nat} {v : Int} (h : ParKept o pid s x) (hp : pid < 4096 := by decide)
    (hp' : pid' < 4096 := by decide) (hne : pid ≠ pid' := by decide) : ParKept o pid s (x.setPar o' pid' v) :=
  h.trans (x.par_setPar_other v fun hk => hne ((keyOf_inj hp hp').1 hk).2)

theorem ParKept.setObject {o' pid' : Nat} {v : Int} (h : ParKept o pid s x) (hne : o ≠ o') (hp : pid < 4096 := by decide)
    (hp' : pid' < 4096 := by decide) : ParKept o pid s (x.setPar o' pid' v) :=
  h.trans (x.par_setPar_other v fun hk => hne ((keyOf_inj hp hp').1 hk).1)

theorem ParKept.head {O : Nat → Prop} (h : ParKept o pid s x) (k : HeadKept O x y) (ho : O o)
    (hp : headPid pid = true := by rfl) : ParKept o pid s y := h.trans (k.par o pid ho hp)

theorem ParKept.ite {c : Prop} [Decidable c] (hx : ParKept o pid s x) (hy : ParKept o pid s y) :
    ParKept o pid s (if c then x else y) := by split <;> assumption

theorem ParKept.foldl {α : Type} {f : State → α → State} (hf : ∀ x a, ParKept o pid x (f x a)) (l : List α)
    (h : ParKept o pid s x) : ParKept o pid s (l.foldl f x) :=
  List.foldlRecOn (motive := ParKept o pid s) l _ h fun x hx a _ => hx.trans (hf x a)

/-- A change of the state beside its parameters. -/
theorem ParKept.same (h : ParKept o pid s x) (e : y.params = x.params := by rfl) : ParKept o pid s y :=
  h.trans (by unfold ParKept State.par; rw [e])

end

/-! ### SAMPLE_COUNT -/

/-- The phase's SAMPLE_COUNT is as it was. -/
abbrev CountKept (p : Nat) : State → State → Prop := ParKept (oPhase p) Pid.Phase.SAMPLE_COUNT

section
variable {p : Nat} (hp : p < 24) (s : State)
include hp

theorem oPhase_ne_oGrist : ¬ oGrist = oPhase p := by simp only [oGrist, oPhase]; omega

theorem record_count {source cls event : Nat} {snap : List Snap} : CountKept p s (s.record source cls event snap) :=
  (ParKept.refl s).head (record_head (O := (· = oPhase p)) (oPhase_ne_oGrist hp) ..) rfl

theorem recordPsd_count {source cls event : Nat} {snap : List Snap} : CountKept p s (s.recordPsd source cls event snap) :=
  (ParKept.refl s).head (recordPsd_head (O := (· = oPhase p)) (oPhase_ne_oGrist hp) ..) rfl

theorem loopSwap_count (n : Nat) : CountKept p s (s.loopSwap n) := by
  unfold State.loopSwap
  refine .foot (.foot ?_ flumeStopOn_foot) swapsDone_foot
  have hset : CountKept p s ((s.setPar (oLoop n) Pid.Phase.ACTIVE_BANK (1 - s.activeBank n : Nat)).setPar (oLoop n)
      Pid.Phase.LAST_SWAP_SAMPLE (((s.setPar (oLoop n) Pid.Phase.ACTIVE_BANK (1 - s.activeBank n : Nat)).par (oLoop n)
        Pid.Phase.SAMPLE_COUNT + 1) % 4294967296)) := .setPid (.setPid (.refl s))
  have hrec (x : State) (hx : CountKept p s x) {a b c : Nat} {l : List Snap} : CountKept p s (x.record a b c l) :=
    hx.trans (record_count hp x)
  exact .ite (.foot (hrec _ hset.same) askNvm_foot) (hrec _ hset.same)

theorem loopStopped_count (n : Nat) : CountKept p s (s.loopStopped n) := by
  have hf : CountKept p s (if s.flumeOn n then s.flumeStop fcTARGET_STOPPED else s) :=
    .ite (.foot (.refl s) flumeStop_foot) (.refl s)
  have ht := hf.foot (traceStop_foot (x1 := n))
  unfold State.loopStopped
  extract_lets a b own c
  have hc : CountKept p s c := .ite (ht.trans (loopSwap_count hp ..)) ht
  exact .foldl (fun x k => loopSwap_count hp x k) _ hc

theorem outerIdle_count (m : Nat) : CountKept p s (s.outerIdle m) := by
  have h : CountKept p s (s.modLoop (24 + m) fun a => { a with running := false, nAct := 0 }) := .refl s
  unfold State.outerIdle
  exact .ite ((ParKept.ite h.setPid h).trans (loopStopped_count hp ..)) (.refl s)

theorem stopPhase_count (q : Nat) : CountKept p s (s.stopPhase q) := by
  unfold State.stopPhase
  refine .ite ?_ (.same (.refl s))
  extract_lets a b
  have hb : CountKept p s b := (ParKept.same (y := a) (.refl s)).trans (loopStopped_count hp ..)
  split
  · exact hb.trans (outerIdle_count hp ..)
  · exact hb

theorem registerSwap_count (j : SwapJob) : CountKept p s (s.registerSwap j) := by
  unfold State.registerSwap
  have hidle (x : State) (k : SwapJob) : CountKept p x (x.swapIdle k) := .foldl (fun x n => loopSwap_count hp x n) _ (.refl x)
  have h : CountKept p s { s with wheel := { s.wheel with swaps := s.wheel.swaps ++ [{ j with registered := true }] } } :=
    .refl s
  refine .trans ?_ (hidle _ _)
  dsimp only
  split
  · exact h.foot opCommit_foot
  · exact h

theorem floatLeave_count : CountKept p s s.floatLeave := by
  have g {x : State} {j : List Nat} {m n : Nat} (hx : CountKept p s x) :
      CountKept p s (if j.isEmpty then x else x.registerSwap (ownSwap j m n)) :=
    .ite hx (hx.trans (registerSwap_count hp ..))
  have h : CountKept p s (s.setPar oDevice Pid.Device.DEVICE_MODE 0) := .setPid (.refl s)
  unfold State.floatLeave
  refine .ite (.refl s) ?_
  extract_lets a staying w b c lone back d
  have hb : CountKept p s b := h.same
  have hc : CountKept p s c := each_keeps (P := CountKept p s) (fun m x hx => by extract_lets; exact g hx) _ hb
  have hd : CountKept p s d := g hc
  exact each_keeps (P := CountKept p s) (fun n x hx => hx.same) _ hd

theorem removePhase_count (q : Nat) (sense : Bool) : CountKept p s (s.removePhase q sense) := by
  have halone : CountKept p s (s.removedAlone q sense) :=
    .foot (.setPid (.setPid (ParKept.same (stopPhase_count hp s q)))) latchFault_foot
  rw [removePhase_eq]
  unfold State.phaseRemoved
  refine .trans ?_ (floatLeave_count hp _)
  split
  · exact .foot (.foot halone.same replacePhase_foot) applyContingency_foot
  · exact halone

theorem openCheck_count (q : Nat) : CountKept p s (s.openCheck q) := by
  unfold State.openCheck
  exact .ite (.trans (.same (.refl s)) (removePhase_count hp ..)) (.same (.refl s))

theorem phaseSample_count (q : Nat) (x : Sample) : CountKept p s (s.phaseSample q x) := by
  unfold State.phaseSample
  refine .ite (.refl s) ?_
  unfold State.senseRise
  dsimp only
  have hgap (y : State) (o : Nat) (hy : CountKept p s y) {a b c : Nat} {l : List Snap} :
      CountKept p s ((y.energyGap o).recordPsd a b c l) := (hy.foot energyGap_foot).trans (recordPsd_count hp _)
  exact .ite (hgap _ _ (.foot (.foot (.refl s) modPhase_foot) modChan_foot))
    (.ite (.foot (.foot (.refl s) modPhase_foot) modChan_foot) (.foot (.refl s) modPhase_foot))

end

/-! ### ISENSE_RANGE -/

/-- The phase's ISENSE_RANGE is as it was. -/
abbrev RangeKept (p : Nat) : State → State → Prop := ParKept (oPhase p) Pid.Phase.ISENSE_RANGE

section
variable {p : Nat} (hp : p < 24) (s : State)
include hp

theorem reply_range (e : Op) (st c : Nat) (b : Bytes) : RangeKept p s (s.reply e st c b) := by
  have hne : oPhase p ≠ oPort e.port := by cases e.port <;> simp only [oPort, oPhase] <;> omega
  have hinc : RangeKept p s (s.incPar (oPort e.port) Pid.HPort.OPS_COMPLETED) := .setObject (.refl s) hne
  unfold State.reply
  exact .ite hinc.same (.ite (.foot hinc.same raisePort_foot) hinc.same)

/-- An operation that has its entry is answered. -/
theorem replyOpt_range (o : Option Op) (st c : Op → Nat) (b : Op → Bytes) :
    RangeKept p s (match o with | some e => s.reply e (st e) (c e) (b e) | none => s) := by
  cases o with
  | none => exact .refl s
  | some e => exact reply_range hp s e _ _ _

theorem flumeStopOn_range (n cause : Nat) : RangeKept p s (s.flumeStopOn n cause) := by
  unfold State.flumeStopOn State.flumeStop
  refine .ite (.ite ?_ (.refl s)) (.refl s)
  unfold State.flumeEnd
  refine .trans ?_ (replyOpt_range hp _ _ (fun _ => _) (fun _ => _) (fun _ => _))
  have hset : RangeKept p s ((State.setPar { s with flume := { s.flume with running := false, op := none } } oDevice
      Pid.Device.FLUME_STATE 0).setPar oDevice Pid.Device.FLUME_STOP_CAUSE cause) := .setPid (.setPid (.same (.refl s)))
  dsimp only
  split
  · exact hset.same
  · exact hset

theorem swapsDone_range : RangeKept p s s.swapsDone := by
  unfold State.swapsDone
  exact .foldl (fun x j => replyOpt_range hp x _ (fun _ => _) (fun _ => _) (fun _ => _)) _ (.same (.refl s))

theorem loopSwap_range (n : Nat) : RangeKept p s (s.loopSwap n) := by
  unfold State.loopSwap
  refine .trans (.trans ?_ (flumeStopOn_range hp _ _ _)) (swapsDone_range hp _)
  have hset : RangeKept p s ((s.setPar (oLoop n) Pid.Phase.ACTIVE_BANK (1 - s.activeBank n : Nat)).setPar (oLoop n)
      Pid.Phase.LAST_SWAP_SAMPLE (((s.setPar (oLoop n) Pid.Phase.ACTIVE_BANK (1 - s.activeBank n : Nat)).par (oLoop n)
        Pid.Phase.SAMPLE_COUNT + 1) % 4294967296)) := .setPid (.setPid (.refl s))
  exact .ite (.foot (.foot hset.same record_foot) askNvm_foot) (.foot hset.same record_foot)

end

/-! ## The lanes -/

section
variable (s : State)

/-- A base-16 digit of a number after one of them has been replaced. -/
theorem digit_replaced {v k l c : Nat} (hc : c < 16) :
    (v - v / 16 ^ k % 16 * 16 ^ k + c * 16 ^ k) / 16 ^ l % 16 = if l = k then c else v / 16 ^ l % 16 := by
  obtain ⟨q, r, hr, rfl⟩ : ∃ q r, r < 16 ^ k ∧ v = 16 ^ k * q + r :=
    ⟨v / 16 ^ k, v % 16 ^ k, Nat.mod_lt _ (by positivity), (Nat.div_add_mod ..).symm⟩
  have hpos : 0 < 16 ^ k := by positivity
  have hdiv (a : Nat) : (16 ^ k * a + r) / 16 ^ k = a := by
    rw [Nat.mul_add_div hpos, Nat.div_eq_of_lt hr, Nat.add_zero]
  have hw : 16 ^ k * q + r - (16 ^ k * q + r) / 16 ^ k % 16 * 16 ^ k + c * 16 ^ k = 16 ^ k * (q - q % 16 + c) + r := by
    rw [hdiv, Nat.mul_add, Nat.mul_sub, Nat.mul_comm (q % 16), Nat.mul_comm c]
    have := Nat.mul_le_mul_left (16 ^ k) (Nat.mod_le q 16)
    omega
  rw [hw]
  rcases lt_trichotomy l k with h | rfl | h
  · have hdvd : 16 ^ l * 16 ∣ 16 ^ k := by rw [← pow_succ]; exact pow_dvd_pow 16 h
    obtain ⟨m, hm⟩ := hdvd
    rw [if_neg h.ne, ← Nat.mod_mul_right_div_self, ← Nat.mod_mul_right_div_self, hm, mul_assoc (16 ^ l * 16),
      mul_assoc (16 ^ l * 16), Nat.mul_add_mod, Nat.mul_add_mod]
  · rw [if_pos rfl, hdiv]
    omega
  · obtain ⟨m, rfl⟩ := Nat.exists_eq_add_of_lt h
    have hsplit (a : Nat) : (16 ^ k * a + r) / 16 ^ (k + m + 1) = a / 16 / 16 ^ m := by
      rw [show k + m + 1 = k + (1 + m) by omega, pow_add, ← Nat.div_div_eq_div_mul, hdiv, pow_add,
        ← Nat.div_div_eq_div_mul, pow_one]
    rw [if_neg h.ne', hsplit, hsplit, show (q - q % 16 + c) / 16 = q / 16 by omega]

theorem lane_setLane {k l c : Nat} (hc : c < 16) (h : 0 ≤ s.par oDevice Pid.Device.LANE_STATUS) :
    (s.setLane k c).lane l = (if l = k then c else s.lane l) ∧
      0 ≤ (s.setLane k c).par oDevice Pid.Device.LANE_STATUS := by
  obtain ⟨v, hv⟩ := Int.eq_ofNat_of_zero_le h
  have hle : v / 16 ^ k % 16 * 16 ^ k ≤ v :=
    (Nat.mul_le_mul_right _ (Nat.mod_le _ _)).trans (Nat.div_mul_le_self _ _)
  have hset : (s.setLane k c).par oDevice Pid.Device.LANE_STATUS =
      ((v - v / 16 ^ k % 16 * 16 ^ k + c * 16 ^ k : Nat) : Int) := by
    unfold State.setLane State.updPar
    rw [State.par_setPar_same _ (by decide), State.lane, hv, Int.toNat_natCast]
    push_cast [hle]
    rfl
  refine ⟨?_, hset ▸ Int.natCast_nonneg _⟩
  rw [State.lane, hset, Int.toNat_natCast, digit_replaced hc, State.lane, hv, Int.toNat_natCast]

/-- A residue error makes the lane SUSPECT; the lanes that return from TEST are others (R86). -/
theorem residueError_lane {l : Nat} (n : Nat) (h : 0 ≤ s.par oDevice Pid.Device.LANE_STATUS) :
    (s.residueError l n).lane l = 2 := by
  have lane_of_par {x y : State} (e : y.par oDevice Pid.Device.LANE_STATUS = x.par oDevice Pid.Device.LANE_STATUS) :
      y.lane l = x.lane l := by rw [State.lane, e, State.lane]
  have hbit : (s.setBit (oLoop n) Pid.Phase.LOOP_STATUS 8).par oDevice Pid.Device.LANE_STATUS =
      s.par oDevice Pid.Device.LANE_STATUS := ParKept.setPid (.refl s)
  obtain ⟨hset, hpos⟩ := lane_setLane (s.setBit (oLoop n) Pid.Phase.LOOP_STATUS 8) (k := l) (l := l) (c := 2) (by decide)
    (hbit ▸ h)
  rw [if_pos rfl] at hset
  unfold State.residueError
  extract_lets now again a b w c d e g f
  have hd : d.par oDevice Pid.Device.LANE_STATUS = b.par oDevice Pid.Device.LANE_STATUS := ParKept.setPid (.refl b)
  have he : e.lane l = 2 ∧ 0 ≤ e.par oDevice Pid.Device.LANE_STATUS := by
    refine List.foldlRecOn (motive := fun y : State => y.lane l = 2 ∧ 0 ≤ y.par oDevice Pid.Device.LANE_STATUS) _ _
      ⟨(lane_of_par hd).trans hset, hd ▸ hpos⟩ fun y ⟨hy, hy0⟩ k hk => ?_
    have hne : l ≠ k := by
      rintro rfl
      have hone : d.lane l = 1 := by simpa using (List.mem_filter.1 hk).2
      rw [lane_of_par hd, hset] at hone
      cases hone
    obtain ⟨hl, h0⟩ := lane_setLane y (k := k) (l := l) (c := 0) (by decide) hy0
    rw [if_neg hne] at hl
    exact ⟨hl.trans hy, h0⟩
  have hf : f.par oDevice Pid.Device.LANE_STATUS = e.par oDevice Pid.Device.LANE_STATUS := by
    unfold f
    split
    · split <;> rfl
    · rfl
  exact (lane_of_par ((ParKept.refl f).foot record_foot)).trans ((lane_of_par hf).trans he.1)

theorem residueError_count {p : Nat} (hp : p < 24) (l n : Nat) : CountKept p s (s.residueError l n) := by
  have hlanes (x : State) (ks : List Nat) : CountKept p x (x.eachOf ks fun k s => s.setLane k 0) :=
    .foldl (fun y k => .foot (.refl y) setLane_foot) ks (.refl x)
  unfold State.residueError
  extract_lets now again a b w c d e g f
  have ha : CountKept p s a := .setPid (.refl s)
  have hb : CountKept p s b := .foot ha setLane_foot
  have hd : CountKept p s d := .trans hb (.setPid (.refl b))
  have hf : CountKept p e f := by
    unfold f
    split
    · split <;> exact .refl _
    · exact .refl _
  exact (hd.trans ((hlanes d _).trans hf)).trans (record_count hp f)

end

/-! ## An evaluation -/

section
variable (s : State)

/-- The parameters that an evaluation stores of its loop. -/
def State.stored (s : State) (n : Nat) (r y u : Int) : State :=
  (((s.setPar (oLoop n) Pid.Phase.LOOP_REF r).setPar (oLoop n) Pid.Phase.LOOP_MEAS y).setPar (oLoop n)
    Pid.Phase.LOOP_OUT u).updPar (oLoop n) Pid.Phase.SAMPLE_COUNT fun c => (c + 1) % 4294967296

/-- An evaluation stores its reference, its measurement and its output, and counts; besides, it sets ACC_SAT and drives
the injection. -/
theorem evaluate_stores (n : Nat) (r y : Int) (outer : Bool) : ∃ x u, Foot [.flume, .draws, .loops] (some []) s x ∧
    Foot [.flume, .hopper, .trace] (some [Pid.Phase.LOOP_STATUS, 305]) (x.stored n r y u) (s.evaluate n r y outer).2 := by
  unfold State.evaluate
  extract_lets a on x point r' y' e mask highs lows hold
  have ha : Foot [.flume, .draws, .loops] (some []) s a := .ite flumeChip_foot.within (.refl _ _ _)
  split
  next out b hb =>
    have hdraw : Foot [.flume, .draws, .loops] (some []) s b :=
      ha.step (Foot.snd hb evalLoop_foot) rfl
    split
    extract_lets
    split
    exact ⟨_, _, modLoop_foot.on hdraw, flumeAfter_foot.on (.ite (.setBit (.refl _ _ _)) (.refl _ _ _))⟩

theorem stored_par (n : Nat) (r y u : Int) :
    (s.stored n r y u).par (oLoop n) Pid.Phase.LOOP_REF = r ∧ (s.stored n r y u).par (oLoop n) Pid.Phase.LOOP_MEAS = y ∧
      (s.stored n r y u).par (oLoop n) Pid.Phase.SAMPLE_COUNT =
        (s.par (oLoop n) Pid.Phase.SAMPLE_COUNT + 1) % 4294967296 := by
  let a := s.setPar (oLoop n) Pid.Phase.LOOP_REF r
  let b := a.setPar (oLoop n) Pid.Phase.LOOP_MEAS y
  have hcount : ParKept (oLoop n) Pid.Phase.SAMPLE_COUNT s (b.setPar (oLoop n) Pid.Phase.LOOP_OUT u) :=
    .setPid (.setPid (.setPid (.refl s)))
  have href : ParKept (oLoop n) Pid.Phase.LOOP_REF a (s.stored n r y u) := .setPid (.setPid (.setPid (.refl a)))
  have hmeas : ParKept (oLoop n) Pid.Phase.LOOP_MEAS b (s.stored n r y u) := .setPid (.setPid (.refl b))
  refine ⟨Eq.trans href (State.par_setPar_same _ (by decide) _), Eq.trans hmeas (State.par_setPar_same _ (by decide) _), ?_⟩
  exact (State.par_setPar_same _ (by decide) _).trans (by rw [show _ = _ from hcount])

theorem evaluate_par (n : Nat) (r y : Int) (outer : Bool) :
    let t := (s.evaluate n r y outer).2
    t.par (oLoop n) Pid.Phase.LOOP_REF = r ∧ t.par (oLoop n) Pid.Phase.LOOP_MEAS = y ∧
      t.par (oLoop n) Pid.Phase.SAMPLE_COUNT = (s.par (oLoop n) Pid.Phase.SAMPLE_COUNT + 1) % 4294967296 := by
  obtain ⟨x, u, hx, hfoot⟩ := evaluate_stores s n r y outer
  obtain ⟨href, hmeas, hcount⟩ := stored_par x n r y u
  refine ⟨?_, ?_, ?_⟩
  · rw [hfoot.par _ rfl _ _ (by decide) rfl, href]
  · rw [hfoot.par _ rfl _ _ (by decide) rfl, hmeas]
  · rw [hfoot.par _ rfl _ _ (by decide) rfl, hcount, hx.par _ rfl _ _ (by decide) rfl]

theorem dutyOf_lt (u : Int) : dutyOf u < 4294967296 := by
  unfold dutyOf clampInt
  omega

theorem oLoop_of_lt {p : Nat} (h : p < 24) : oLoop p = oPhase p := if_pos h

/-! ## The phase's own part of an evaluation -/

/-- The state when a phase has been evaluated and its shadow duty and latency stand. -/
def State.commanded (s : State) (p ns : Nat) : State :=
  let e := s.evaluate p (s.innerRef p) (norm30 (s.phase p).current (s.fsCurrent p)) false
  (e.2.modPhase p fun a => { a with shadow := dutyOf e.1 }).latency p ns

/-- What follows an evaluation: the clipping, the capture, the end of FLOAT and the open-phase check. -/
def State.followed (s : State) (p : Nat) : State :=
  let c := (s.clipTrack p).traceEval p
  ((if c.inFloat && (c.phase p).clipped then c.floatLeave else c).openCheck p).clipStop p

theorem evalPhase_eq (p ns : Nat) : s.evalPhase p ns = (s.commanded p ns).followed p := rfl

variable {p : Nat}

theorem followed_phase : ((s.followed p).phase p).current = (s.phase p).current ∧
    ((s.followed p).phase p).shadow = (s.phase p).shadow := by
  have hclip : ((s.clipTrack p).phase p).sensed = (s.phase p).sensed :=
    phase_modPhase_keeps s (P := PhaseAux.sensed) (by intro _; rfl) p
  have hfloat (c : State) : (if c.inFloat && (c.phase p).clipped then c.floatLeave else c).phase p = c.phase p := by
    split
    · exact phase_of_foot floatLeave_foot p
    · rfl
  have hopen (x : State) : ((x.openCheck p).phase p).sensed = (x.phase p).sensed := by
    unfold State.openCheck
    extract_lets holds y
    have hy : (y.phase p).sensed = (x.phase p).sensed :=
      phase_modPhase_keeps x (P := PhaseAux.sensed) (by intro _; rfl) p
    split
    · rw [removePhase_sensed, hy]
    · exact hy
  have hall : ((s.followed p).phase p).sensed = (s.phase p).sensed := by
    unfold State.followed
    dsimp only
    rw [phase_of_foot clipStop_foot, hopen, hfloat, phase_of_foot traceEval_foot, hclip]
  exact ⟨congrArg (fun a : Chan × Int × Nat => a.2.1) hall, congrArg (fun a : Chan × Int × Nat => a.2.2) hall⟩

theorem followed_foot : Foot [.phases, .flume, .fantail, .ports, .hopper, .nvm, .wheel, .trace, .grist, .loops]
    (some [1, 2, 5, 256, 257, 258, 260, 261, 264, 285, 305, 307, 308, 310, 320, 385]) s (s.followed p) := by
  let c := (s.clipTrack p).traceEval p
  have hc : Foot [.phases, .flume, .fantail, .ports, .hopper, .nvm, .wheel, .trace, .grist, .loops]
      (some [1, 2, 5, 256, 257, 258, 260, 261, 264, 285, 305, 307, 308, 310, 320, 385]) s c :=
    traceEval_foot.on clipTrack_foot.within
  exact clipStop_foot.on (openCheck_foot.on (.ite (floatLeave_foot.on hc) hc))

variable (hp : p < 24)
include hp

theorem commanded_phase (ns : Nat) : ((s.commanded p ns).phase p).current = (s.phase p).current ∧
    ((s.commanded p ns).phase p).shadow < 4294967296 := by
  unfold State.commanded
  dsimp only
  rw [phase_of_foot latency_foot, phase_modPhase _ hp, phase_of_foot evaluate_foot]
  exact ⟨rfl, dutyOf_lt _⟩

theorem commanded_par (ns : Nat) :
    let t := s.commanded p ns
    t.par (oPhase p) Pid.Phase.SAMPLE_COUNT = (s.par (oPhase p) Pid.Phase.SAMPLE_COUNT + 1) % 4294967296 ∧
      t.par (oPhase p) Pid.Phase.LOOP_REF = s.innerRef p ∧
      t.par (oPhase p) Pid.Phase.LOOP_MEAS = norm30 (s.phase p).current (s.fsCurrent p) ∧
      t.par oDevice Pid.Device.MAX_LATENCY = max (s.par oDevice Pid.Device.MAX_LATENCY) ns := by
  let e := s.evaluate p (s.innerRef p) (norm30 (s.phase p).current (s.fsCurrent p)) false
  have hloop : Foot [.phases] (some [265, 276, 277]) e.2 (s.commanded p ns) := latency_foot.on modPhase_foot.within
  obtain ⟨href, hmeas, hcount⟩ := evaluate_par s p (s.innerRef p) (norm30 (s.phase p).current (s.fsCurrent p)) false
  rw [oLoop_of_lt hp] at href hmeas hcount
  refine ⟨?_, ?_, ?_, ?_⟩
  · rw [hloop.par _ rfl _ _ (by decide) rfl, hcount]
  · rw [hloop.par _ rfl _ _ (by decide) rfl, href]
  · rw [hloop.par _ rfl _ _ (by decide) rfl, hmeas]
  · let a := e.2.modPhase p fun a => { a with shadow := dutyOf e.1 }
    have ha : a.par oDevice Pid.Device.MAX_LATENCY = s.par oDevice Pid.Device.MAX_LATENCY :=
      (modPhase_foot.par _ rfl _ _ (by decide) rfl).trans (evaluate_foot.par _ rfl _ _ (by decide) rfl)
    let b := a.updPar oDevice Pid.Device.MAX_LATENCY fun v => max v ns
    have hlate : Foot [] (some [265, 276]) b (s.commanded p ns) := .ite lateEval_foot (.refl _ _ _)
    rw [hlate.par _ rfl _ _ (by decide) rfl, ← ha]
    exact State.par_setPar_same _ (by decide) _

theorem followed_count : CountKept p s (s.followed p) := by
  have hc : CountKept p s ((s.clipTrack p).traceEval p) := .foot (.foot (.refl s) clipTrack_foot) traceEval_foot
  exact .foot (.trans (.ite (hc.trans (floatLeave_count hp _)) hc) (openCheck_count hp _ p)) clipStop_foot

/-- The evaluation of a phase's sample. -/
theorem evalPhase_spec (ns : Nat) :
    let t := s.evalPhase p ns
    (t.phase p).current = (s.phase p).current ∧ (t.phase p).shadow < 4294967296 ∧
      t.par (oPhase p) Pid.Phase.SAMPLE_COUNT = (s.par (oPhase p) Pid.Phase.SAMPLE_COUNT + 1) % 4294967296 ∧
      t.par (oPhase p) Pid.Phase.LOOP_REF = s.innerRef p ∧
      t.par (oPhase p) Pid.Phase.LOOP_MEAS = norm30 (s.phase p).current (s.fsCurrent p) ∧
      t.par oDevice Pid.Device.MAX_LATENCY = max (s.par oDevice Pid.Device.MAX_LATENCY) ns := by
  intro t
  obtain ⟨hcurrent, hshadow⟩ := commanded_phase s hp ns
  obtain ⟨hcur, hsh⟩ := followed_phase (s.commanded p ns) (p := p)
  obtain ⟨hcount, href, hmeas, hmax⟩ := commanded_par s hp ns
  have hfoot := followed_foot (s.commanded p ns) (p := p)
  rw [show t = (s.commanded p ns).followed p from rfl]
  refine ⟨hcur.trans hcurrent, hsh ▸ hshadow, Eq.trans (followed_count _ hp) hcount, ?_, ?_, ?_⟩
  · rw [hfoot.par _ rfl _ _ (by decide) rfl, href]
  · rw [hfoot.par _ rfl _ _ (by decide) rfl, hmeas]
  · rw [hfoot.par _ rfl _ _ (by decide) rfl, hmax]

end

/-! ## The sample -/

section
variable (s : State) {p : Nat} (x : Sample)

/-- A sample moves nothing of a phase that neither its channel nor the present period's replacement is part of; the
current is the sample's. -/
theorem phaseSample_phase (hp : p < 24) :
    ((s.phaseSample p x).phase p).current =
        (if (s.phase p).replaced then (s.phase p).current else s.calibrate (oPhase p) x.nv) ∧
      ((s.phaseSample p x).phase p).floatRun = (s.phase p).floatRun ∧
      ((s.phaseSample p x).phase p).ref = (s.phase p).ref := by
  unfold State.phaseSample
  split
  · rw [phase_modPhase s hp]; exact ⟨rfl, rfl, rfl⟩
  · dsimp only
    rw [senseRise_beside (P := PhaseAux.current) (by intro _ _; rfl),
      senseRise_beside (P := PhaseAux.floatRun) (by intro _ _; rfl),
      senseRise_beside (P := PhaseAux.ref) (by intro _ _; rfl), phase_modPhase s hp]
    exact ⟨rfl, rfl, rfl⟩

/-- The state in which a phase's evaluation is decided: its sample is taken, and counted for FLOAT. -/
def State.sampled (s : State) (p : Nat) (x : Sample) : State :=
  (s.phaseSample p x).modPhase p fun a => { a with floatRun := (a.floatRun + 1) % 8 }

/-- A pending swap acts at the evaluation. -/
def State.swapped (s : State) (p : Nat) : State := if s.swapDue p then s.loopSwap p else s

/-- INNER_EVALUATION of a phase that switches (R63, R73). -/
theorem innerEvaluation_eq (q : Fin 24) (lane : Fin 4) (ns : BitVec 16) (ok : Bool) (hrun : s.wheelRuns = true)
    (hsw : (s.phase q.val).switching = true) :
    exec (.innerEvaluation q x lane ns ok) s =
      if ((s.phaseSample q.val x).phase q.val).chan.fail && !(s.phase q.val).chan.fail then
        .next ((s.phaseSample q.val x).removePhase q.val true)
      else if ((s.sampled q.val x).loop q.val).slow && ((s.sampled q.val x).phase q.val).floatRun != 0 then
        .next (s.sampled q.val x)
      else if (((s.sampled q.val x).swapped q.val).lane lane.val != 0) then
        .next (((s.sampled q.val x).swapped q.val).lateEval q.val)
      else if !ok then
        .next ((((s.sampled q.val x).swapped q.val).residueError lane.val q.val).updPar (oPhase q.val)
          Pid.Phase.SAMPLE_COUNT fun c => (c + 1) % 4294967296)
      else .next (((s.sampled q.val x).swapped q.val).evalPhase q.val ns.toNat) := by
  show execInnerEvaluation q x lane ns ok s = _
  simp only [execInnerEvaluation, hrun, hsw, Bool.not_true, Bool.or_self, Bool.false_eq_true, if_false]
  rfl

end

/-! ## The sample's state -/

section
variable (s : State) {p : Nat} (hp : p < 24) (x : Sample)

theorem sampled_foot : Foot [.phases, .segs, .ports, .feeders, .strings, .grist]
    (some [5, 257, 258, 260, 261, 264, 399]) s (s.sampled p x) := modPhase_foot.on phaseSample_foot.within

/-- The state in which a phase is evaluated. -/
theorem swapped_foot : Foot [.phases, .segs, .ports, .feeders, .strings, .grist, .flume, .hopper, .nvm, .wheel, .loops]
    (some [5, 256, 257, 258, 260, 261, 264, 305, 307, 385, 399]) s ((s.sampled p x).swapped p) :=
  .ite (loopSwap_foot.on (sampled_foot s x).within) (sampled_foot s x).within

theorem swapped_phases : ((s.sampled p x).swapped p).phases = (s.sampled p x).phases := by
  unfold State.swapped
  split
  · exact loopSwap_foot.fld .phases rfl
  · rfl

theorem sampled_loop : ((s.sampled p x).loop p) = s.loop p := by
  rw [State.loop, (sampled_foot s x).fld .loops rfl, State.loop]

include hp

theorem sampled_phase :
    ((s.sampled p x).phase p).current =
        (if (s.phase p).replaced then (s.phase p).current else s.calibrate (oPhase p) x.nv) ∧
      ((s.sampled p x).phase p).floatRun = ((s.phase p).floatRun + 1) % 8 ∧
      ((s.sampled p x).phase p).ref = (s.phase p).ref := by
  obtain ⟨hcur, hrun, href⟩ := phaseSample_phase s x hp
  rw [State.sampled, phase_modPhase _ hp]
  exact ⟨hcur, by rw [hrun], href⟩

theorem swapped_count : CountKept p s ((s.sampled p x).swapped p) := by
  have h : CountKept p s (s.sampled p x) := (phaseSample_count hp s p x).same
  exact .ite (h.trans (loopSwap_count hp _ _)) h

/-- What an evaluation uses is of the state in which the sample arrives. -/
theorem swapped_uses :
    ((s.sampled p x).swapped p).innerRef p = s.innerRef p ∧ ((s.sampled p x).swapped p).fsCurrent p = s.fsCurrent p := by
  have hfoot := swapped_foot s (p := p) x
  have href : (((s.sampled p x).swapped p).phase p).ref = (s.phase p).ref := by
    rw [phase_of_phases (swapped_phases s x), (sampled_phase s hp x).2.2]
  have hrange : RangeKept p s ((s.sampled p x).swapped p) := by
    have h : RangeKept p s (s.sampled p x) := .foot (.refl s) (sampled_foot s x)
    exact .ite (h.trans (loopSwap_range hp _ _)) h
  refine ⟨?_, ?_⟩
  · simp only [State.innerRef, State.outerOf, href, hfoot.par _ rfl (oPhase p) Pid.Phase.OUTER_SOURCE (by decide) rfl,
      hfoot.par _ rfl (oPhase p) Pid.Phase.I_REF_FIXED (by decide) rfl]
  · simp only [State.fsCurrent, show _ = _ from hrange,
      hfoot.par _ rfl (oPhase p) Pid.Phase.SENSE_RNOM (by decide) rfl]

end

theorem lane_of_foot {fs : List Fld} {ps : List Nat} {s t : State} (h : Foot fs (some ps) s t) (l : Nat)
    (hp : ps.contains Pid.Device.LANE_STATUS = false := by rfl) : t.lane l = s.lane l := by
  rw [State.lane, h.par ps rfl _ _ (by decide) hp, State.lane]

theorem findDesc_lateEvals : findDesc oDevice Pid.Device.LATE_EVALS =
    some ⟨Pid.Device.LATE_EVALS, .u32, .ro, .any, 0, 4294967295, 0, .reset⟩ := by decide

/-- An evaluation that is not run is counted (R87). -/
theorem lateEval_counted {s : State} (n : Nat) (h : s.par oDevice Pid.Device.LATE_EVALS < 4294967295) :
    (s.lateEval n).par oDevice Pid.Device.LATE_EVALS = s.par oDevice Pid.Device.LATE_EVALS + 1 := by
  have hbit : (s.setBit (oLoop n) Pid.Phase.LOOP_STATUS 7).par oDevice Pid.Device.LATE_EVALS =
      s.par oDevice Pid.Device.LATE_EVALS := ParKept.setPid (.refl s)
  rw [State.lateEval, State.par_incPar findDesc_lateEvals (by decide) (hbit ▸ h), hbit]

/-! ## The outcomes -/

section
variable {s : State} {p : Fin 24} {x : Sample} {lane : Fin 4} {ns : BitVec 16} {ok : Bool}

/-- The current that the law takes (R47, R57). -/
def State.takenCurrent (s : State) (p : Nat) (x : Sample) : Int :=
  if (s.phase p).replaced then (s.phase p).current else s.calibrate (oPhase p) x.nv

/-- The sample makes the phase's channel fail (R58). -/
def State.sampleFails (s : State) (p : Nat) (x : Sample) : Prop :=
  ((s.phaseSample p x).phase p).chan.fail = true ∧ (s.phase p).chan.fail = false

/-- What an evaluation on a lane leaves: its counts, and where its residue is good the loop's measurement. -/
structure Evaluated (s : State) (p : Nat) (v : Int) (lane ns : Nat) (ok : Bool) (t : State) : Prop where
  current : (t.phase p).current = v
  late    : s.lane lane ≠ 0 → s.par oDevice Pid.Device.LATE_EVALS < 4294967295 →
    t.par oDevice Pid.Device.LATE_EVALS = s.par oDevice Pid.Device.LATE_EVALS + 1
  count   : s.lane lane = 0 →
    t.par (oPhase p) Pid.Phase.SAMPLE_COUNT = (s.par (oPhase p) Pid.Phase.SAMPLE_COUNT + 1) % 4294967296
  suspect : s.lane lane = 0 → ok = false → 0 ≤ s.par oDevice Pid.Device.LANE_STATUS → t.lane lane = 2
  good    : s.lane lane = 0 → ok = true →
    t.par (oPhase p) Pid.Phase.LOOP_REF = s.innerRef p ∧
    t.par (oPhase p) Pid.Phase.LOOP_MEAS = norm30 v (s.fsCurrent p) ∧ (t.phase p).shadow < 4294967296 ∧
    t.par oDevice Pid.Device.MAX_LATENCY = max (s.par oDevice Pid.Device.MAX_LATENCY) ns

theorem innerEvaluation_removes (hrun : s.wheelRuns = true) (hsw : (s.phase p.val).switching = true)
    (hf : s.sampleFails p.val x) :
    exec (.innerEvaluation p x lane ns ok) s = .next ((s.phaseSample p.val x).removePhase p.val true) := by
  rw [innerEvaluation_eq s x p lane ns ok hrun hsw]
  exact if_pos (by simp [hf.1, hf.2])

/-- In FLOAT only every eighth sample is evaluated (R99). -/
theorem innerEvaluation_waits (hrun : s.wheelRuns = true) (hsw : (s.phase p.val).switching = true)
    (hf : ¬ s.sampleFails p.val x) (hslow : (s.loop p.val).slow = true) (hr : (s.phase p.val).floatRun < 7) :
    exec (.innerEvaluation p x lane ns ok) s = .next (s.sampled p.val x) := by
  have hnext : ((s.sampled p.val x).phase p.val).floatRun ≠ 0 := by
    rw [(sampled_phase s p.isLt x).2.1]
    omega
  rw [innerEvaluation_eq s x p lane ns ok hrun hsw, if_neg (by simpa [State.sampleFails] using hf)]
  exact if_pos (by simp [sampled_loop, hslow, hnext])

theorem innerEvaluation_evaluates (hrun : s.wheelRuns = true) (hsw : (s.phase p.val).switching = true)
    (hf : ¬ s.sampleFails p.val x) (hr : (s.loop p.val).slow = true → (s.phase p.val).floatRun = 7) :
    let y := (s.sampled p.val x).swapped p.val
    exec (.innerEvaluation p x lane ns ok) s =
      if y.lane lane.val != 0 then .next (y.lateEval p.val)
      else if !ok then .next ((y.residueError lane.val p.val).updPar (oPhase p.val) Pid.Phase.SAMPLE_COUNT fun c =>
        (c + 1) % 4294967296)
      else .next (y.evalPhase p.val ns.toNat) := by
  have hgo : ¬ (((s.sampled p.val x).loop p.val).slow && ((s.sampled p.val x).phase p.val).floatRun != 0) = true := by
    rw [sampled_loop, (sampled_phase s p.isLt x).2.1]
    intro h
    simp only [Bool.and_eq_true] at h
    simp [hr h.1] at h
  rw [innerEvaluation_eq s x p lane ns ok hrun hsw, if_neg (by simpa [State.sampleFails] using hf), if_neg hgo]

/-- A phase's sample that is evaluated. -/
theorem innerEvaluation_evaluated (hrun : s.wheelRuns = true) (hsw : (s.phase p.val).switching = true)
    (hf : ¬ s.sampleFails p.val x) (hr : (s.loop p.val).slow = true → (s.phase p.val).floatRun = 7) :
    Runs (.innerEvaluation p x lane ns ok) s (Evaluated s p.val (s.takenCurrent p.val x) lane.val ns.toNat ok) := by
  let y := (s.sampled p.val x).swapped p.val
  have hfoot := swapped_foot s (p := p.val) x
  have hcur : (y.phase p.val).current = s.takenCurrent p.val x := by
    rw [phase_of_phases (swapped_phases s x), (sampled_phase s p.isLt x).1, State.takenCurrent]
  have hcount : y.par (oPhase p.val) Pid.Phase.SAMPLE_COUNT = s.par (oPhase p.val) Pid.Phase.SAMPLE_COUNT :=
    swapped_count s p.isLt x
  have hlane : y.lane lane.val = s.lane lane.val := lane_of_foot hfoot lane.val
  have hstatus : y.par oDevice Pid.Device.LANE_STATUS = s.par oDevice Pid.Device.LANE_STATUS :=
    hfoot.par _ rfl _ _ (by decide) rfl
  have hexec := innerEvaluation_evaluates (lane := lane) (ns := ns) (ok := ok) hrun hsw hf hr
  dsimp only at hexec
  by_cases hl : s.lane lane.val = 0
  · have hin : ¬ (y.lane lane.val != 0) = true := by simp [hlane, hl]
    rw [if_neg hin] at hexec
    cases ok with
    | false =>
      refine ⟨_, hexec, ?_, fun h => absurd hl h, fun _ => ?_, fun _ _ h => ?_, fun _ h => Bool.noConfusion h⟩
      · exact (congrArg PhaseAux.current (phase_of_foot (residueError_foot (s := y)) p.val)).trans hcur
      · have hres := residueError_count y p.isLt lane.val p.val
        exact (State.par_setPar_same _ (by decide) _).trans (by rw [show _ = _ from hres, hcount])
      · have hlane2 := residueError_lane y p.val (l := lane.val) (hstatus ▸ h)
        exact (lane_of_foot (.updPar (.refl [] (some [Pid.Phase.SAMPLE_COUNT]) _)) _).trans hlane2
    | true =>
      obtain ⟨hc, hsh, hn, href, hmeas, hmax⟩ := evalPhase_spec y p.isLt ns.toNat
      obtain ⟨huse, hfs⟩ := swapped_uses s p.isLt x
      refine ⟨_, hexec, hc.trans hcur, fun h => absurd hl h, fun _ => by rw [hn, hcount], fun _ h => Bool.noConfusion h,
        fun _ _ => ⟨href.trans huse, ?_, hsh, ?_⟩⟩
      · rw [hmeas, hcur, hfs]
      · rw [hmax, hfoot.par _ rfl _ _ (by decide) rfl]
  · have hout : (y.lane lane.val != 0) = true := by simp [hlane, hl]
    rw [if_pos hout] at hexec
    refine ⟨_, hexec, ?_, fun _ h => ?_, fun h => absurd h hl, fun h => absurd h hl, fun h => absurd h hl⟩
    · rw [phase_of_foot lateEval_foot]
      exact hcur
    · have hlate : y.par oDevice Pid.Device.LATE_EVALS = s.par oDevice Pid.Device.LATE_EVALS :=
        hfoot.par _ rfl _ _ (by decide) rfl
      rw [lateEval_counted p.val (hlate ▸ h), hlate]

end

/-- Settles O40: the outcomes of an evaluation, one lemma each. -/
theorem innerLoopsEvaluate : Obligations.InnerLoopsEvaluate := by
  intro s p x lane ns ok o v fails hrun hsw
  refine ⟨fun hf => ?_, fun hf hr => ?_, fun _ hf hslow hr => ?_⟩
  · refine ⟨_, innerEvaluation_removes hrun hsw hf, removePhase_failed _ _ _, removePhase_off _ _ _, ?_⟩
    exact (congrArg (fun a : Chan × Int × Nat => a.2.1)
      (removePhase_sensed (s.phaseSample p.val x) p.val true p.val)).trans (phaseSample_phase s x p.isLt).1
  · obtain ⟨t, ht, h⟩ := innerEvaluation_evaluated (lane := lane) (ns := ns) (ok := ok) hrun hsw hf hr
    exact ⟨t, ht, h.current, h.late, h.count, h.suspect, h.good⟩
  · exact ⟨_, innerEvaluation_waits hrun hsw hf hslow hr, (sampled_phase s p.isLt x).1,
      (phaseSample_count p.isLt s p.val x).same⟩

end Sys2Proof.Machine

/-! # Proofs: outputs keep to their limits (O38) -/

namespace Sys2Proof.Machine
open Sys2Proof

/-! ## The laws keep to the image's limits -/

section
variable (img : Bytes) (a : LoopAux) (e : Int)

theorem clampInt_bounds {lo hi : Int} (h : lo ≤ hi) (x : Int) : lo ≤ clampInt lo hi x ∧ clampInt lo hi x ≤ hi := by
  unfold clampInt
  omega

/-- The three-pole three-zero form clamps its output, where it does not hold it (R65, R68). -/
theorem law3p3z_bounds (h : imgUMin img ≤ imgUMax img) :
    imgUMin img ≤ (law3p3z img a e false).u ∧ (law3p3z img a e false).u ≤ imgUMax img :=
  clampInt_bounds h _

/-- The filtered PID form clamps its output, held or not (R66, R68). -/
theorem lawPid_bounds (hold : Bool) (start : Option Int) (h : imgUMin img ≤ imgUMax img) :
    imgUMin img ≤ (lawPid img a e hold start).u ∧ (lawPid img a e hold start).u ≤ imgUMax img :=
  clampInt_bounds h _

theorem evalLaw_bounds {hold : Bool} (h : imgUMin img ≤ imgUMax img) (hl : hold = false ∨ imgPid img = true) :
    imgUMin img ≤ (evalLaw img a e hold).u ∧ (evalLaw img a e hold).u ≤ imgUMax img := by
  unfold evalLaw
  dsimp only
  split
  · exact lawPid_bounds img _ e hold _ h
  · next hpid =>
    obtain rfl := hl.resolve_right hpid
    exact law3p3z_bounds img _ e h

theorem dutyOf_mod_four (u : Int) : dutyOf u % 4 = 0 := Nat.mul_mod_left _ 4

end

/-! ## The edges within a period -/

section
variable (s : State) (p t : Nat)

theorem pwmA_iff : s.pwmA p t = true ↔ (s.phase p).switching = true ∧ 64 ≤ s.onTicks p (s.phase p).duty ∧
    t < s.onTicks p (s.phase p).duty := by
  simp [State.pwmA, minPulse, and_assoc]

/-- PWMnB does not rise before PWMnA has fallen (R97). -/
theorem pwmA_pwmB_low : (s.pwmA p t && s.pwmB p t) = false := by
  refine Bool.eq_false_iff.2 fun h => ?_
  obtain ⟨hA, hB⟩ := Bool.and_eq_true_iff.1 h
  obtain ⟨-, hpulse, hlt⟩ := (pwmA_iff s p t).1 hA
  have hrise : s.riseB p ≤ t := by
    simp only [State.pwmB, Bool.and_eq_true, decide_eq_true_eq] at hB
    exact hB.1.2
  rw [State.riseB, if_neg (Nat.not_lt.2 hpulse)] at hrise
  omega

theorem pwm_low_of_off (h : (s.phase p).switching = false) : s.pwmA p t = false ∧ s.pwmB p t = false := by
  simp [State.pwmA, State.pwmB, h]

theorem pwmB_low_of_softStart (h : (s.phase p).softStart = true) : s.pwmB p t = false := by
  simp [State.pwmB, h]

theorem syncout_low (h : s.par oDevice Pid.Device.SYNCOUT_ENABLE ≠ 1 ∨ s.thermalLatched = true ∨ s.safeHold = true) :
    s.syncout t = false := by
  unfold State.syncout
  split
  · rfl
  · rcases h with h | h | h <;> simp [h]

end

/-- Settles O38: the clamp that ends each law, and the gates of each edge. -/
theorem outputsKeepTheirLimits : Obligations.OutputsKeepTheirLimits := by
  refine ⟨fun img a e h => ?_, fun s => ⟨fun p t => ?_, fun t => syncout_low s t⟩⟩
  · obtain ⟨hlo, hhi⟩ := evalLaw_bounds img a e (hold := false) h (.inl rfl)
    exact ⟨hlo, hhi, fun hpid => evalLaw_bounds img a e h (.inr hpid), dutyOf_mod_four _, dutyOf_lt _⟩
  · exact ⟨pwmA_iff s p t, pwmA_pwmB_low s p t, pwm_low_of_off s p t, pwmB_low_of_softStart s p t⟩

end Sys2Proof.Machine

/-! # Proofs: an outer loop's trigger evaluates and distributes (O39) -/

namespace Sys2Proof.Machine
open Sys2Proof State

set_option Elab.async false

/-! ## What the engine leaves of a loop's object -/

/-- The parameters of phases and outer loops that an evaluation rests on or counts by. -/
def loopBasis : List Nat :=
  [Pid.ENABLE, Pid.Phase.SAMPLE_COUNT, Pid.Phase.LOOP_MEAS, Pid.Phase.OUTER_SOURCE, Pid.Loop.MEAS_OBJECT, Pid.Phase.I_LIMIT,
    Pid.Phase.ISENSE_RANGE, Pid.Phase.SENSE_RNOM]

/-- These parameters of every loop are as they were. -/
structure BasisKept (s t : State) : Prop where
  par : ∀ o pid, isLoopObj o = true → pid ∈ loopBasis → t.par o pid = s.par o pid

theorem loopBasis_lt : ∀ pid ∈ loopBasis, pid < 4096 := by decide

section
variable {s x y : State} {o pid : Nat} {v : Int}

theorem BasisKept.refl (s : State) : BasisKept s s := ⟨fun _ _ _ _ => rfl⟩

theorem BasisKept.trans (h : BasisKept s x) (k : BasisKept x y) : BasisKept s y :=
  ⟨fun o pid ho hp => (k.par o pid ho hp).trans (h.par o pid ho hp)⟩

theorem BasisKept.foot {fs : List Fld} {ps : List Nat} (h : BasisKept s x) (k : Foot fs (some ps) x y)
    (hp : loopBasis.all (fun n => !ps.contains n) = true := by rfl) : BasisKept s y :=
  h.trans ⟨fun o pid _ hpid => k.par ps rfl o pid (loopBasis_lt pid hpid) (by simpa using List.all_eq_true.1 hp pid hpid)⟩

/-- A write to any other object. -/
theorem BasisKept.setObject (h : BasisKept s x) (ho : isLoopObj o = false := by rfl) (hp : pid < 4096 := by decide) :
    BasisKept s (x.setPar o pid v) :=
  h.trans ⟨fun o' pid' ho' hpid => x.par_setPar_other v fun hk => by
    rw [((keyOf_inj (loopBasis_lt pid' hpid) hp).1 hk).1, ho] at ho'
    cases ho'⟩

/-- A write to any other parameter. -/
theorem BasisKept.setPid (h : BasisKept s x) (hn : pid ∉ loopBasis := by decide) (hp : pid < 4096 := by decide) :
    BasisKept s (x.setPar o pid v) :=
  h.trans ⟨fun _ pid' _ hpid => x.par_setPar_other v fun hk =>
    hn (((keyOf_inj (loopBasis_lt pid' hpid) hp).1 hk).2 ▸ hpid)⟩

theorem BasisKept.ite {c : Prop} [Decidable c] (hx : BasisKept s x) (hy : BasisKept s y) :
    BasisKept s (if c then x else y) := by split <;> assumption

theorem BasisKept.foldl {α : Type} {f : State → α → State} (hf : ∀ x a, BasisKept x (f x a)) (l : List α)
    (h : BasisKept s x) : BasisKept s (l.foldl f x) :=
  List.foldlRecOn (motive := BasisKept s) l _ h fun x hx a _ => hx.trans (hf x a)

theorem BasisKept.same (h : BasisKept s x) (e : y.params = x.params := by rfl) : BasisKept s y :=
  h.trans ⟨fun _ _ _ _ => by unfold State.par; rw [e]⟩

end

section
variable (s : State)

theorem isLoopObj_oPort (p : HostPort) : isLoopObj (oPort p) = false := by cases p <;> rfl

theorem record_basis (source cls event : Nat) (snap : List Snap) : BasisKept s (s.record source cls event snap) := by
  refine ⟨fun o pid ho hpid => ?_⟩
  have hcase : ∀ pid ∈ loopBasis, headPid pid = true ∨ [5, 257, 258, 260, 261, 264].contains pid = false := by decide
  rcases hcase pid hpid with hhead | hn
  · exact (record_head (O := fun o => isLoopObj o = true) (by decide) ..).par o pid ho hhead
  · exact record_foot.par _ rfl o pid (loopBasis_lt pid hpid) hn

theorem reply_basis (e : Op) (st c : Nat) (b : Bytes) : BasisKept s (s.reply e st c b) := by
  have hinc : BasisKept s (s.incPar (oPort e.port) Pid.HPort.OPS_COMPLETED) := .setObject (.refl s) (isLoopObj_oPort _)
  unfold State.reply
  exact .ite hinc.same (.ite (.foot hinc.same raisePort_foot) hinc.same)

/-- The operation that waits is answered, where there is one. -/
theorem replyOpt_basis (o : Option Op) (st c : Op → Nat) (b : Op → Bytes) :
    BasisKept s (match o with | some e => s.reply e (st e) (c e) (b e) | none => s) := by
  cases o with
  | none => exact .refl s
  | some e => exact reply_basis s e _ _ _

theorem flumeStop_basis (cause : Nat) : BasisKept s (s.flumeStop cause) := by
  unfold State.flumeStop State.flumeEnd
  refine .ite (.trans ?_ (replyOpt_basis _ _ (fun _ => _) (fun _ => _) (fun _ => _))) (.refl s)
  have hset : BasisKept s ((State.setPar { s with flume := { s.flume with running := false, op := none } } oDevice
      Pid.Device.FLUME_STATE 0).setPar oDevice Pid.Device.FLUME_STOP_CAUSE cause) := .setPid (.setPid (.same (.refl s)))
  dsimp only
  split
  · exact hset.same
  · exact hset

theorem flumeStopOn_basis (n cause : Nat) : BasisKept s (s.flumeStopOn n cause) :=
  .ite (flumeStop_basis s cause) (.refl s)

theorem swapsDone_basis : BasisKept s s.swapsDone := by
  unfold State.swapsDone
  exact .foldl (fun x j => replyOpt_basis x _ (fun _ => _) (fun _ => _) (fun _ => _)) _ (.same (.refl s))

theorem loopSwap_basis (n : Nat) : BasisKept s (s.loopSwap n) := by
  unfold State.loopSwap
  refine .trans (.trans ?_ (flumeStopOn_basis _ _ _)) (swapsDone_basis _)
  have hset : BasisKept s ((s.setPar (oLoop n) Pid.Phase.ACTIVE_BANK (1 - s.activeBank n : Nat)).setPar (oLoop n)
      Pid.Phase.LAST_SWAP_SAMPLE (((s.setPar (oLoop n) Pid.Phase.ACTIVE_BANK (1 - s.activeBank n : Nat)).par (oLoop n)
        Pid.Phase.SAMPLE_COUNT + 1) % 4294967296)) := .setPid (.setPid (.refl s))
  have hrec (x : State) (hx : BasisKept s x) {a b c : Nat} {l : List Snap} : BasisKept s (x.record a b c l) :=
    hx.trans (record_basis x ..)
  exact .ite (.foot (hrec _ hset.same) askNvm_foot) (hrec _ hset.same)

theorem loopStopped_basis (n : Nat) : BasisKept s (s.loopStopped n) := by
  have ht : BasisKept s ((if s.flumeOn n then s.flumeStop fcTARGET_STOPPED else s).traceStop n) :=
    .foot (.ite (flumeStop_basis s _) (.refl s)) traceStop_foot
  unfold State.loopStopped
  extract_lets a b own c
  exact .foldl (fun x k => loopSwap_basis x k) _ (.ite (ht.trans (loopSwap_basis ..)) ht)

theorem outerIdle_basis (m : Nat) : BasisKept s (s.outerIdle m) := by
  have h : BasisKept s (s.modLoop (24 + m) fun a => { a with running := false, nAct := 0 }) := .same (.refl s)
  unfold State.outerIdle
  exact .ite ((BasisKept.ite h.setPid h).trans (loopStopped_basis ..)) (.refl s)

theorem stopPhase_basis (p : Nat) : BasisKept s (s.stopPhase p) := by
  unfold State.stopPhase
  refine .ite ?_ (.same (.refl s))
  extract_lets a b
  have hb : BasisKept s b := (BasisKept.same (y := a) (.refl s)).trans (loopStopped_basis ..)
  split
  · exact hb.trans (outerIdle_basis ..)
  · exact hb

theorem registerSwap_basis (j : SwapJob) : BasisKept s (s.registerSwap j) := by
  have hidle (x : State) (k : SwapJob) : BasisKept x (x.swapIdle k) := .foldl (fun x n => loopSwap_basis x n) _ (.refl x)
  have h : BasisKept s { s with wheel := { s.wheel with swaps := s.wheel.swaps ++ [{ j with registered := true }] } } :=
    .same (.refl s)
  unfold State.registerSwap
  refine .trans ?_ (hidle _ _)
  dsimp only
  split
  · exact h.foot opCommit_foot
  · exact h

theorem floatLeave_basis : BasisKept s s.floatLeave := by
  have g {x : State} {j : List Nat} {m n : Nat} (hx : BasisKept s x) :
      BasisKept s (if j.isEmpty then x else x.registerSwap (ownSwap j m n)) :=
    .ite hx (hx.trans (registerSwap_basis ..))
  have h : BasisKept s (s.setPar oDevice Pid.Device.DEVICE_MODE 0) := .setPid (.refl s)
  unfold State.floatLeave
  refine .ite (.refl s) ?_
  extract_lets a staying w b c lone back d
  have hb : BasisKept s b := h.same
  have hc : BasisKept s c := each_keeps (P := BasisKept s) (fun m x hx => by extract_lets; exact g hx) _ hb
  exact each_keeps (P := BasisKept s) (fun n x hx => hx.same) _ (g hc)

theorem slewEnd_basis (m st c : Nat) : BasisKept s (s.slewEnd m st c) := by
  unfold State.slewEnd
  exact .trans (.same (.refl s)) (replyOpt_basis _ _ (fun _ => _) (fun _ => _) (fun _ => _))

theorem slewsSettle_basis (b : Nat) : BasisKept s (s.slewsSettle b) :=
  .foldl (fun x m => .ite (.refl x) (slewEnd_basis x m stOK 0)) _ (.refl s)

theorem latchFault_basis (o : Nat) (bits : List Nat) : BasisKept s (s.latchFault o bits) := by
  have h : BasisKept s (s.faultEvent o bits) := .foot (.refl s) faultEvent_foot
  unfold State.latchFault State.faultSeen
  refine .ite (.ite (.trans ?_ (flumeStop_basis _ _)) ?_) h
  all_goals exact .ite h.same h

theorem stopConverter_basis (b : Nat) : BasisKept s (s.stopConverter b) :=
  .foldl (fun x p => .ite (.setPid (stopPhase_basis x p)) (stopPhase_basis x p)) _ (.refl s)

theorem isLoopObj_oSeg {b : Nat} (h : b < 4) : isLoopObj (oSeg b) = false := by
  simp [isLoopObj, objType_oSeg h]

/-- A failed attempt counts in its segment, not in a loop. -/
theorem failAttempt_basis {b : Nat} (hb : b < 4) (fired : Nat) : BasisKept s (s.failAttempt b fired) := by
  have ho := isLoopObj_oSeg hb
  unfold State.failAttempt
  extract_lets o a count c d e f
  have hcount : BasisKept s ((a.setPar o Pid.Segment.HICCUP_ATTEMPTS count).incPar o Pid.Segment.HICCUP_TOTAL) :=
    .setObject (BasisKept.setObject (stopConverter_basis s b) ho) ho
  have hd : BasisKept s d := hcount.same
  have he : BasisKept s e := .ite (.setPid hd) (.trans (.setPid hd) (latchFault_basis _ _ _))
  exact (he.trans (record_basis ..)).trans (slewsSettle_basis ..)

theorem trigSetpoint_basis (m : Nat) : BasisKept s (s.trigSetpoint m) := by
  unfold State.trigSetpoint
  refine .ite (.refl s) ?_
  extract_lets o b t x
  have hx : BasisKept s x := .foot (.refl s) moveSetpoint_foot
  exact .ite (.foot (.refl s) moveSetpoint_foot) (.ite (.ite (hx.trans (slewEnd_basis ..)) hx) (.refl s))

end

/-! ## The references that an outer evaluation distributes -/

/-- An operation on each of a list gives each its own `P`, where an operation on another keeps it; `Q` holds throughout. -/
theorem eachOf_sets {P : Nat → State → Prop} {Q : State → Prop} {f : Nat → State → State} {l : List Nat}
    (hs : ∀ i ∈ l, ∀ x, Q x → P i (f i x)) (hk : ∀ i j x, i ≠ j → Q x → P j x → P j (f i x)) (hq : ∀ i x, Q x → Q (f i x))
    {s : State} (h : Q s) : ∀ j ∈ l, P j (s.eachOf l f) := by
  suffices hall : Q (s.eachOf l f) ∧ ∀ j, P j s ∨ j ∈ l → P j (s.eachOf l f) from fun j hj => hall.2 j (.inr hj)
  induction l generalizing s with
  | nil => exact ⟨h, fun j hj => hj.resolve_right List.not_mem_nil⟩
  | cons i l ih =>
    obtain ⟨hQ, hP⟩ := ih (fun k hk => hs k (List.mem_cons_of_mem _ hk)) (hq i s h)
    have hi : P i (f i s) := hs i List.mem_cons_self s h
    refine ⟨hQ, fun j hj => hP j ?_⟩
    by_cases hij : i = j
    · exact .inl (hij ▸ hi)
    · exact hj.imp (hk i j s hij h) fun hm => (List.mem_cons.1 hm).resolve_left (Ne.symm hij)

theorem vget_vmod_other {α : Type} {n : Nat} (v : Vector α n) {i j : Nat} (h : i ≠ j) (f : α → α) (d : α) :
    vget (vmod v i f) j d = vget v j d := by
  unfold vget vmod
  split
  · split
    · exact Vector.getElem_set_ne ‹_› ‹_› h
    · rfl
  · rfl

section
variable (s : State) (m : Nat)

theorem phase_modPhase_other {p q : Nat} (h : p ≠ q) (g : PhaseAux → PhaseAux) : (s.modPhase p g).phase q = s.phase q :=
  vget_vmod_other _ h g _

theorem maskPhases_lt {p : Nat} (h : p ∈ s.maskPhases m) : p < 24 := by
  simp only [State.maskPhases, State.namingPhases, List.mem_filter, List.mem_range] at h
  exact h.1.1

/-- The limit that an outer evaluation takes for a phase (R108). -/
def State.refLimit (s : State) (p : Nat) : Int := norm30 (s.par (oPhase p) Pid.Phase.I_LIMIT) (s.fsCurrent p)

theorem refLimit_of_params {x : State} (h : x.params = s.params) (p : Nat) : x.refLimit p = s.refLimit p := by
  simp only [State.refLimit, State.fsCurrent, State.par, h]

theorem takeShares_limit : ∀ p ∈ s.maskPhases m, ((s.takeShares m).phase p).limit = s.refLimit p := by
  unfold State.takeShares
  refine eachOf_sets (P := fun p x => (x.phase p).limit = s.refLimit p) (Q := fun x => x.params = s.params)
    (fun p hp x hx => ?_) (fun i j x hij _ hj => ?_) (fun _ _ hx => ?_) rfl
  · rw [phase_modPhase x (maskPhases_lt s m hp)]
    exact refLimit_of_params s hx p
  · rw [phase_modPhase_other x hij]
    exact hj
  · exact hx

theorem distribute_limit (q : Nat) : ((s.distribute m).phase q).limit = (s.phase q).limit := by
  unfold State.distribute
  exact eachOf_keeps (P := fun x => (x.phase q).limit = (s.phase q).limit)
    (fun p x hx => (phase_modPhase_keeps x (P := PhaseAux.limit) (by intro _; rfl) q).trans hx) _ rfl

/-- A reference is held to its phase's limit (R71, R108). -/
theorem distribute_ref : ∀ p ∈ s.maskPhases m, ((s.distribute m).phase p).ref ≤ ((s.distribute m).phase p).limit := by
  unfold State.distribute
  refine eachOf_sets (P := fun p x => (x.phase p).ref ≤ (x.phase p).limit) (Q := fun _ => True)
    (fun p hp x _ => ?_) (fun i j x hij _ hj => ?_) (fun _ _ _ => trivial) trivial
  · rw [phase_modPhase x (maskPhases_lt s m hp)]
    exact min_le_right _ _
  · rw [phase_modPhase_other x hij]
    exact hj

/-! ### What a distribution rests on -/

/-- The parameters of a phase that say whether an outer loop distributes to it, and up to what. -/
def phaseBasis : List Nat :=
  [Pid.ENABLE, Pid.Phase.OUTER_SOURCE, Pid.Phase.I_LIMIT, Pid.Phase.ISENSE_RANGE, Pid.Phase.SENSE_RNOM]

/-- These parameters of every phase are as they were. -/
structure PhaseBasisKept (s x : State) : Prop where
  par : ∀ p < 24, ∀ pid ∈ phaseBasis, x.par (oPhase p) pid = s.par (oPhase p) pid

variable {s} {x : State}

theorem BasisKept.phases (h : BasisKept s x) : PhaseBasisKept s x :=
  ⟨fun _ hp pid hpid => h.par _ _ (by simp [isLoopObj, objType_oPhase hp])
    ((by decide : ∀ pid ∈ phaseBasis, pid ∈ loopBasis) pid hpid)⟩

theorem PhaseBasisKept.foot {fs : List Fld} {ps : List Nat} (k : Foot fs (some ps) s x)
    (hp : phaseBasis.all (fun n => !ps.contains n) = true := by rfl) : PhaseBasisKept s x :=
  ⟨fun p _ pid hpid => k.par ps rfl _ pid ((by decide : ∀ pid ∈ phaseBasis, pid < 4096) pid hpid)
    (by simpa using List.all_eq_true.1 hp pid hpid)⟩

theorem PhaseBasisKept.maskPhases (h : PhaseBasisKept s x) : x.maskPhases m = s.maskPhases m := by
  unfold State.maskPhases State.namingPhases
  simp only [List.filter_filter]
  refine List.filter_congr fun p hp => ?_
  have hp := List.mem_range.1 hp
  simp only [State.outerOf, State.enabled, objType_oPhase hp, h.par p hp Pid.Phase.OUTER_SOURCE (by decide),
    h.par p hp Pid.ENABLE (by decide)]

theorem PhaseBasisKept.refLimit (h : PhaseBasisKept s x) {p : Nat} (hp : p < 24) : x.refLimit p = s.refLimit p := by
  simp only [State.refLimit, State.fsCurrent, h.par p hp Pid.Phase.I_LIMIT (by decide),
    h.par p hp Pid.Phase.ISENSE_RANGE (by decide), h.par p hp Pid.Phase.SENSE_RNOM (by decide)]

theorem isLoopObj_oOuter {m : Nat} (h : m < 8) : isLoopObj (oOuter m) = true :=
  (by decide : ∀ m < 8, isLoopObj (oOuter m) = true) m h

theorem BasisKept.loopSeg (h : BasisKept s x) {m : Nat} (hm : m < 8) : x.loopSeg m = s.loopSeg m := by
  rw [State.loopSeg, h.par _ _ (isLoopObj_oOuter hm) (by decide), State.loopSeg]

/-! ## References after the distribution -/

variable (s)

theorem stopPhase_ref (p q : Nat) : ((s.stopPhase p).phase q).ref = (s.phase q).ref := by
  unfold State.stopPhase
  split
  · extract_lets a b
    have ha : (a.phase q).ref = (s.phase q).ref := phase_modPhase_keeps s (P := PhaseAux.ref) (by intro _; rfl) q
    have hb : b.phase q = a.phase q := phase_of_foot loopStopped_foot q
    split
    · rw [phase_of_foot outerIdle_foot q, hb, ha]
    · rw [hb, ha]
  · exact phase_modPhase_keeps s (P := PhaseAux.ref) (by intro _; rfl) q

theorem stopConverter_ref (b q : Nat) : ((s.stopConverter b).phase q).ref = (s.phase q).ref := by
  refine eachOf_keeps (P := fun x => (x.phase q).ref = (s.phase q).ref) (fun p x hx => ?_) _ rfl
  have hstop : ((x.stopPhase p).phase q).ref = (s.phase q).ref := (stopPhase_ref x p q).trans hx
  dsimp only
  split
  · exact hstop
  · exact hstop

theorem failAttempt_ref (b fired q : Nat) : ((s.failAttempt b fired).phase q).ref = (s.phase q).ref := by
  unfold State.failAttempt
  extract_lets o a count c d e f
  have hd : d.phase q = a.phase q := rfl
  have he : e.phase q = d.phase q := by
    unfold e
    split
    · rfl
    · exact phase_of_foot latchFault_foot q
  rw [phase_of_foot slewsSettle_foot q, phase_of_foot record_foot q, he, hd]
  exact stopConverter_ref s b q

end

/-! ## An outer trigger -/

section
variable (s : State) (m : Nat)

/-- The state in which an outer trigger evaluates: the loop runs at its rate, a pending swap has acted, and the set-point
has moved (R71, R83, R106). -/
def State.triggered (s : State) (m : Nat) : State :=
  let a := if (s.loop (24 + m)).running then s
    else (s.modLoop (24 + m) fun a => { a with running := true, nAct := (s.actPhases m).length }).setObj (oOuter m) osActive
  ((a.fullRate m).swapped (24 + m)).trigSetpoint m

/-- The evaluation and the distribution. -/
def State.distributed (s : State) (m : Nat) : State :=
  let e := (s.evaluate (24 + m) (s.outerRef m) (norm30 (s.seg (s.loopSeg m)).chan.value 8000000) true).2
  (e.takeShares m).distribute m

/-- What follows the distribution: the alignment point, the capture, a failed soft start and the end of FLOAT. -/
def State.outerFollowed (s : State) (m : Nat) : State :=
  let d := ((s.alignPoint (24 + m)).traceEval (24 + m)).startTriggers m
  let g := if d.1 = 0 then d.2 else d.2.failAttempt (d.2.loopSeg m) d.1
  if g.inFloat && g.floatExitOuter m then g.floatLeave else g

/-- An outer trigger whose result a residue error discards (R86). -/
def State.outerDiscarded (s : State) (m l : Nat) : State :=
  ((s.residueError l (24 + m)).updPar (oOuter m) Pid.Loop.SAMPLE_COUNT fun c => (c + 1) % 4294967296).alignPoint (24 + m)

/-- OUTER_TRIGGER of a loop that is triggered, on a lane in service (R69 to R71). -/
theorem outerTrigger_eq (lp : Fin 8) (lane : Fin 4) (hrun : s.wheelRuns = true)
    (hen : s.enabled (oOuter lp.val) = true) (hst : s.objSt (oOuter lp.val) ≠ osFailed) (hact : s.actPhases lp.val ≠ [])
    (hl : s.lane lane.val = 0) :
    exec (.outerTrigger lp lane true) s = .next (((s.triggered lp.val).distributed lp.val).outerFollowed lp.val) ∧
      exec (.outerTrigger lp lane false) s = .next ((s.triggered lp.val).outerDiscarded lp.val lane.val) := by
  have hgo : ¬ (!s.wheelRuns || !s.enabled (oOuter lp.val) || s.objSt (oOuter lp.val) == osFailed ||
      (s.actPhases lp.val).isEmpty || s.lane lane.val != 0) = true := by
    simp [hrun, hen, hst, hact, hl]
  constructor
  · show execOuterTrigger lp lane true s = _
    unfold execOuterTrigger
    rw [if_neg hgo, Bool.not_true, if_neg Bool.false_ne_true]
    unfold State.outerFollowed State.distributed State.triggered State.swapped
    dsimp only
  · show execOuterTrigger lp lane false s = _
    unfold execOuterTrigger
    rw [if_neg hgo]
    rfl

theorem distributed_spread : Foot [.phases] (some [])
    (s.evaluate (24 + m) (s.outerRef m) (norm30 (s.seg (s.loopSeg m)).chan.value 8000000) true).2 (s.distributed m) :=
  distribute_foot.on takeShares_foot

theorem distributed_foot : Foot [.phases, .flume, .hopper, .trace, .draws, .loops] (some [260, 262, 263, 264, 265, 305]) s
    (s.distributed m) := (distributed_spread s m).on evaluate_foot.within

theorem triggered_foot : Foot [.flume, .ports, .hopper, .nvm, .wheel, .grist, .loops]
    (some [1, 5, 256, 257, 258, 260, 261, 264, 268, 305, 307, 385]) s (s.triggered m) := by
  have hstart : Foot [.flume, .ports, .hopper, .nvm, .wheel, .grist, .loops]
      (some [1, 5, 256, 257, 258, 260, 261, 264, 268, 305, 307, 385]) s
      (if (s.loop (24 + m)).running then s
        else (s.modLoop (24 + m) fun a => { a with running := true, nAct := (s.actPhases m).length }).setObj
          (oOuter m) osActive) := .ite (.refl _ _ _) (.setPar modLoop_foot.within)
  have hrate := fullRate_foot (x1 := m) |>.on hstart
  exact trigSetpoint_foot.on (.ite (loopSwap_foot.on hrate) hrate)

theorem triggered_basis : BasisKept s (s.triggered m) := by
  have hstart : BasisKept s (if (s.loop (24 + m)).running then s
      else (s.modLoop (24 + m) fun a => { a with running := true, nAct := (s.actPhases m).length }).setObj
        (oOuter m) osActive) := .ite (.refl s) (.setPid (.same (.refl s)))
  have hrate := hstart.foot (fullRate_foot (x1 := m))
  exact .trans (.ite (hrate.trans (loopSwap_basis ..)) hrate) (trigSetpoint_basis ..)

/-- Every phase of the loop has a reference within its limit (R71, R108). -/
theorem distributed_ref : ∀ p ∈ s.maskPhases m, ((s.distributed m).phase p).ref ≤ s.refLimit p := by
  intro p hp
  let e := (s.evaluate (24 + m) (s.outerRef m) (norm30 (s.seg (s.loopSeg m)).chan.value 8000000) true).2
  have he : PhaseBasisKept s e := .foot evaluate_foot
  have hmask : p ∈ e.maskPhases m := he.maskPhases m ▸ hp
  have hshared : PhaseBasisKept e (e.takeShares m) := .foot takeShares_foot
  calc ((s.distributed m).phase p).ref ≤ ((s.distributed m).phase p).limit :=
        distribute_ref (e.takeShares m) m p (hshared.maskPhases m ▸ hmask)
    _ = ((e.takeShares m).phase p).limit := distribute_limit ..
    _ = e.refLimit p := takeShares_limit e m p hmask
    _ = s.refLimit p := he.refLimit (maskPhases_lt s m hp)

theorem outerFollowed_ref (q : Nat) : ((s.outerFollowed m).phase q).ref = (s.phase q).ref := by
  unfold State.outerFollowed
  extract_lets d g
  have hd : d.2.phase q = s.phase q := by
    rw [phase_of_foot startTriggers_foot q, phase_of_foot traceEval_foot q, phase_of_foot alignPoint_foot q]
  have hg : (g.phase q).ref = (s.phase q).ref := by
    unfold g
    split
    · rw [hd]
    · rw [failAttempt_ref, hd]
  split
  · rw [phase_of_foot floatLeave_foot q, hg]
  · exact hg

variable {m} (hm : m < 8)
include hm

theorem oLoop_outer : oLoop (24 + m) = oOuter m := (by decide : ∀ m < 8, oLoop (24 + m) = oOuter m) m hm

theorem distributed_par :
    let t := s.distributed m
    t.par (oOuter m) Pid.Loop.SAMPLE_COUNT = (s.par (oOuter m) Pid.Loop.SAMPLE_COUNT + 1) % 4294967296 ∧
      t.par (oOuter m) Pid.Phase.LOOP_MEAS = norm30 (s.seg (s.loopSeg m)).chan.value 8000000 := by
  obtain ⟨-, hmeas, hcount⟩ := evaluate_par s (24 + m) (s.outerRef m) (norm30 (s.seg (s.loopSeg m)).chan.value 8000000) true
  rw [oLoop_outer hm] at hmeas hcount
  exact ⟨(distributed_spread s m |>.par _ rfl _ _ (by decide) rfl).trans hcount, (distributed_spread s m |>.par _ rfl _ _ (by decide) rfl).trans hmeas⟩

theorem outerFollowed_basis (hseg : s.loopSeg m < 4) : BasisKept s (s.outerFollowed m) := by
  unfold State.outerFollowed
  extract_lets d g
  have hd : BasisKept s d.2 := .foot (.foot (.foot (.refl s) alignPoint_foot) traceEval_foot) startTriggers_foot
  have hg : BasisKept s g := .ite hd (hd.trans (failAttempt_basis _ (by rw [hd.loopSeg hm]; exact hseg) _))
  exact .ite (hg.trans (floatLeave_basis _)) hg

/-! ### A residue error -/

omit hm in
theorem residueError_basis (l n : Nat) : BasisKept s (s.residueError l n) := by
  have hlanes (x : State) (ks : List Nat) : BasisKept x (x.eachOf ks fun k s => s.setLane k 0) :=
    .foldl (fun y k => .foot (.refl y) setLane_foot) ks (.refl x)
  unfold State.residueError
  extract_lets now again a b w c d e g f
  have ha : BasisKept s (s.setBit (oLoop n) Pid.Phase.LOOP_STATUS 8) := .setPid (.refl s)
  have hc : BasisKept s c := .same (ha.foot setLane_foot)
  have hd : BasisKept s (c.incPar oDevice Pid.Device.RESIDUE_ERRORS) := hc.setPid
  have hf : BasisKept e f := by
    unfold f
    split
    · split <;> exact .same (.refl _)
    · exact .refl _
  exact (hd.trans ((hlanes d _).trans hf)).trans (record_basis f ..)

end

/-- A residue error counts one; besides, it marks the loop and the lanes, and is recorded. -/
theorem residueError_counts (s : State) (l n : Nat) : ∃ c,
    Foot [.wheel] (some [Pid.Phase.LOOP_STATUS, Pid.Device.LANE_STATUS]) s c ∧
      Foot [.ports, .grist, .dresser] (some [5, 257, 258, 260, 261, 264, Pid.Device.LANE_STATUS])
        (c.incPar oDevice Pid.Device.RESIDUE_ERRORS) (s.residueError l n) := by
  unfold State.residueError
  extract_lets now again a b w c d e g f
  have hb : Foot [.wheel] (some [Pid.Phase.LOOP_STATUS, Pid.Device.LANE_STATUS]) s b :=
    setLane_foot.on (.setBit (.refl _ _ _))
  have he : Foot [.ports, .grist, .dresser] (some [5, 257, 258, 260, 261, 264, Pid.Device.LANE_STATUS]) d e :=
    eachOf_foot (.refl _ _ _) fun _ _ h => setLane_foot.on h
  refine ⟨c, .withWheel hb, record_foot.on (?_ : Foot _ _ d f)⟩
  unfold f
  split
  · split
    · exact he
    · exact he.mk'
  · exact he

/-- A count of an object goes up by one below the end of its encoding. -/
theorem par_incPar_of_hi {s : State} {o pid : Nat} {hi : Int} (hd : (findDesc o pid).map Desc.hi = some hi)
    (h : s.par o pid < hi) (hp : pid < 4096 := by decide) : (s.incPar o pid).par o pid = s.par o pid + 1 := by
  obtain ⟨d, hdesc, rfl⟩ := Option.map_eq_some_iff.1 hd
  exact State.par_incPar hdesc hp h

/-- A residue error is counted (R86). -/
theorem residueError_counted {s : State} (l n : Nat) (h : s.par oDevice Pid.Device.RESIDUE_ERRORS < 4294967295) :
    (s.residueError l n).par oDevice Pid.Device.RESIDUE_ERRORS = s.par oDevice Pid.Device.RESIDUE_ERRORS + 1 := by
  obtain ⟨c, hc, hrest⟩ := residueError_counts s l n
  have hkept : c.par oDevice Pid.Device.RESIDUE_ERRORS = s.par oDevice Pid.Device.RESIDUE_ERRORS :=
    hc.par _ rfl _ _ (by decide) rfl
  rw [hrest.par _ rfl _ _ (by decide) rfl, par_incPar_of_hi (hi := 4294967295) (by decide) (hkept ▸ h), hkept]

/-! ### The two outcomes -/

section
variable {s : State} {m : Nat} (hm : m < 8)
include hm

theorem triggered_count : (s.triggered m).par (oOuter m) Pid.Loop.SAMPLE_COUNT = s.par (oOuter m) Pid.Loop.SAMPLE_COUNT :=
  (triggered_basis s m).par _ _ (isLoopObj_oOuter hm) (by decide)

theorem triggered_meas : ((s.triggered m).seg ((s.triggered m).loopSeg m)).chan.value = (s.seg (s.loopSeg m)).chan.value := by
  rw [(triggered_basis s m).loopSeg hm, State.seg, (triggered_foot s m).fld .segs rfl, State.seg]

/-- A trigger whose result is good (R69 to R71, R108). -/
theorem outerEvaluated (hseg : s.loopSeg m < 4) :
    let t := ((s.triggered m).distributed m).outerFollowed m
    t.par (oOuter m) Pid.Loop.SAMPLE_COUNT = (s.par (oOuter m) Pid.Loop.SAMPLE_COUNT + 1) % 4294967296 ∧
      t.par (oOuter m) Pid.Phase.LOOP_MEAS = norm30 (s.seg (s.loopSeg m)).chan.value 8000000 ∧
      ∀ p ∈ s.maskPhases m, (t.phase p).ref ≤ s.refLimit p := by
  intro t
  let x := s.triggered m
  have hx : BasisKept s x := triggered_basis s m
  have hdseg : (x.distributed m).loopSeg m < 4 := by
    rw [State.loopSeg, (distributed_foot x m).par _ rfl _ _ (by decide) rfl, ← State.loopSeg, hx.loopSeg hm]
    exact hseg
  have ht : BasisKept (x.distributed m) t := outerFollowed_basis _ hm hdseg
  obtain ⟨hcount, hmeas⟩ := distributed_par x hm
  refine ⟨?_, ?_, fun p hp => ?_⟩
  · rw [ht.par _ _ (isLoopObj_oOuter hm) (by decide), hcount, triggered_count hm]
  · rw [ht.par _ _ (isLoopObj_oOuter hm) (by decide), hmeas, triggered_meas hm]
  · rw [outerFollowed_ref, ← hx.phases.refLimit (maskPhases_lt s m hp)]
    exact distributed_ref x m p (hx.phases.maskPhases m ▸ hp)

/-- A trigger whose result a residue error discards (R86). -/
theorem outerDiscarded_spec {l : Nat} (hlane : 0 ≤ s.par oDevice Pid.Device.LANE_STATUS)
    (herr : s.par oDevice Pid.Device.RESIDUE_ERRORS < 4294967295) :
    let t := (s.triggered m).outerDiscarded m l
    t.lane l = 2 ∧ t.par (oOuter m) Pid.Loop.SAMPLE_COUNT = (s.par (oOuter m) Pid.Loop.SAMPLE_COUNT + 1) % 4294967296 ∧
      t.par oDevice Pid.Device.RESIDUE_ERRORS = s.par oDevice Pid.Device.RESIDUE_ERRORS + 1 := by
  intro t
  let x := s.triggered m
  let y := x.residueError l (24 + m)
  have hfoot : Foot _ _ s x := triggered_foot s m
  have hstatus : x.par oDevice Pid.Device.LANE_STATUS = s.par oDevice Pid.Device.LANE_STATUS :=
    hfoot.par _ rfl _ _ (by decide) rfl
  have herrors : x.par oDevice Pid.Device.RESIDUE_ERRORS = s.par oDevice Pid.Device.RESIDUE_ERRORS :=
    hfoot.par _ rfl _ _ (by decide) rfl
  have hcount : y.par (oOuter m) Pid.Loop.SAMPLE_COUNT = s.par (oOuter m) Pid.Loop.SAMPLE_COUNT :=
    ((residueError_basis x l (24 + m)).par _ _ (isLoopObj_oOuter hm) (by decide)).trans (triggered_count hm)
  have ht : Foot [.wheel] (some [Pid.Loop.SAMPLE_COUNT]) y t := alignPoint_foot.on (.updPar (.refl _ _ _))
  refine ⟨?_, ?_, ?_⟩
  · rw [lane_of_foot ht]
    exact residueError_lane x (24 + m) (hstatus ▸ hlane)
  · rw [show t.par (oOuter m) Pid.Loop.SAMPLE_COUNT = _ from State.par_setPar_same y (by decide) _, hcount]
  · rw [ht.par _ rfl _ _ (by decide) rfl, residueError_counted _ _ (herrors ▸ herr), herrors]

end

/-- Settles O39: a trigger evaluates and distributes, or its result is discarded. -/
theorem outerLoopsEvaluate : Obligations.OuterLoopsEvaluate := by
  intro s lp lane hrun hen hst hact hl hseg
  obtain ⟨hgood, herror⟩ := outerTrigger_eq s lp lane hrun hen hst hact hl
  exact ⟨⟨_, hgood, outerEvaluated lp.isLt hseg⟩, fun hlane herr => ⟨_, herror, outerDiscarded_spec lp.isLt hlane herr⟩⟩

end Sys2Proof.Machine

/-! # Proofs: the loop operations start their work (O13) -/

namespace Sys2Proof.Machine
open Sys2Proof State

set_option Elab.async false

/-! ## What an object reads as beside a set-point -/

theorem weirPid_bounds (o : Nat) : weirPid o < 4096 ∧ [Pid.Loop.SETPOINT_TARGET, Pid.Loop.SLEW_RATE].contains (weirPid o) = false := by
  unfold weirPid
  split <;> decide

/-- No object's state rests on a set-point's target or rate, on Hopper or on what waits to be written. -/
theorem objNow_of_foot {s t : State} (k : Foot [.hopper, .nvm] (some [Pid.Loop.SETPOINT_TARGET, Pid.Loop.SLEW_RATE]) s t)
    (o : Nat) : t.objNow o = s.objNow o := by
  have hpar (o pid : Nat) (hp : pid < 4096)
      (hn : [Pid.Loop.SETPOINT_TARGET, Pid.Loop.SLEW_RATE].contains pid = false) : t.par o pid = s.par o pid :=
    k.par _ rfl o pid hp hn
  have hweir (o : Nat) : t.par o (weirPid o) = s.par o (weirPid o) := hpar o _ (weirPid_bounds o).1 (weirPid_bounds o).2
  have hrails := k.fld .rails rfl
  have htime := k.fld .time rfl
  have hfan := k.fld .fantail rfl
  have hloops := k.fld .loops rfl
  have hphases := k.fld .phases rfl
  have hfeeders := k.fld .feeders rfl
  have hmodules := k.fld .modules rfl
  have hstrings := k.fld .strings rfl
  have hpols := k.fld .pols rfl
  have htherms := k.fld .therms rfl
  have hgrist := k.fld .grist rfl
  have hdresser := k.fld .dresser rfl
  simp only [Fld.same] at *
  unfold State.objNow
  simp (disch := decide) only [State.objSt, State.enabled, State.safeHold, State.shelfState, State.phasesOfSeg, State.outerOf, State.loopSeg,
    State.phaseNow, State.phaseState, State.phase, State.feeder, State.feederDegraded, State.weirSolo, State.weirBoth,
    State.compFailed, State.bit, State.moduleState, State.modulesOf, State.module, State.modLive, State.stringDegraded,
    State.stringLive, State.str, State.railState, State.rail, State.pol, State.therm, State.loop, hpar, hweir, hrails, htime, hfan, hloops, hphases, hfeeders,
    hmodules, hstrings, hpols, htherms, hgrist, hdresser]
  rfl

/-! ## An accepted request that waits -/

section
variable {s x : State} {r : Req} {n : Nat} {p : Bytes}

/-- The operation of an accepted request waits where it is made RUNNING on Hopper as it took it. -/
theorem opRunning_waits (h : x.hopper = (Taken s r n p).hopper) : Waits s (x.opRunning (theOp s r n p)) := by
  refine ⟨{ theOp s r n p with stage := .running }, ?_, rfl, rfl⟩
  have hops : (x.opRunning (theOp s r n p)).hopper.ops =
      x.hopper.ops.map fun e => if e.id == (theOp s r n p).id then { e with stage := .running } else e := rfl
  rw [hops, h, List.mem_map]
  exact ⟨theOp s r n p, List.mem_append_right _ List.mem_cons_self, if_pos (beq_self_eq_true _)⟩

theorem exists_oOuter_of_objType {o : Nat} (h : objType o = .outerLoop) : ∃ m < 8, o = oOuter m := by
  have hb : 0x08 ≤ o ∧ o < 0x10 := by
    simp only [objType, ite_eq_iff, reduceCtorEq, and_false, false_or, or_false, and_true] at h
    omega
  exact ⟨o - 0x08, by omega, by simp only [oOuter]; omega⟩

theorem loop_modLoop (s : State) {n : Nat} (h : n < 32) (g : LoopAux → LoopAux) : (s.modLoop n g).loop n = g (s.loop n) :=
  vget_vmod s.loops h g _

end

/-! ## SETPOINT_SLEW -/

section
variable {s : State} {r : Req} {p : Bytes}

/-- The set-point's target and rate are stored, and asked for the configuration (R105). -/
def State.slewAsked (s : State) (p : Bytes) : State :=
  let o := byteAt p 0
  ((s.setPar o Pid.Loop.SETPOINT_TARGET (fieldS p 4 4)).setPar o Pid.Loop.SLEW_RATE (fieldU p 8 4)).askConfig o

theorem slewAsked_foot (s : State) (p : Bytes) :
    Foot [.hopper, .nvm] (some [Pid.Loop.SETPOINT_TARGET, Pid.Loop.SLEW_RATE]) s (s.slewAsked p) :=
  askConfig_foot.on (.setPar (.setPar (.refl _ _ _)))

theorem slewAsked_par (s : State) (p : Bytes) :
    (s.slewAsked p).par (byteAt p 0) Pid.Loop.SETPOINT_TARGET = fieldS p 4 4 ∧
      (s.slewAsked p).par (byteAt p 0) Pid.Loop.SLEW_RATE = fieldU p 8 4 := by
  have hask : Foot [.nvm] (some []) _ (s.slewAsked p) := askConfig_foot
  refine ⟨?_, ?_⟩
  · rw [hask.par _ rfl _ _ (by decide) rfl, State.par_setPar_other _ _ (by simp [keyOf])]
    exact s.par_setPar_same (by decide) _
  · rw [hask.par _ rfl _ _ (by decide) rfl]
    exact State.par_setPar_same _ (by decide) _

theorem slewAsked_segRuns (b : Nat) : ((Taken s r 0x30 p).slewAsked p).segRuns b = s.segRuns b := by
  have k : Foot [.hopper, .nvm] (some [Pid.Loop.SETPOINT_TARGET, Pid.Loop.SLEW_RATE]) s ((Taken s r 0x30 p).slewAsked p) :=
    (slewAsked_foot (Taken s r 0x30 p) p).on takeOp_foot.within
  simp only [State.segRuns, objNow_of_foot k]

/-- The conditions on which SETPOINT_SLEW acts (R105). -/
structure SlewActs (s : State) (p : Bytes) : Prop where
  length : p.length = 12
  object : objType (byteAt p 0) = .outerLoop
  lo     : 0 ≤ fieldS p 4 4
  hi     : fieldS p 4 4 ≤ 6500000
  slow   : 100 ≤ fieldU p 8 4
  fast   : fieldU p 8 4 ≤ 1000000
  walk   : s.shelfState ≠ ssBraking
  cool   : s.thermalLatched = false
  held   : s.objNow (byteAt p 0) ≠ osSafeHold
  free   : (s.loop (24 + (byteAt p 0 - 8))).slewing = false

/-- A slew that begins: it ends with the set-point at its target. -/
def State.slewBegun (s : State) (e : Op) : State :=
  (s.modLoop (24 + (byteAt e.payload 0 - 8)) fun a => { a with slewOp := some e.id, slewing := true, rem := 0 }).opRunning e

/-- A set-point whose segment does not run: the slew has nothing to move (R106). -/
def State.slewSettled (s : State) (e : Op) : State :=
  let m := byteAt e.payload 0 - 8
  let x := s.modSeg (s.loopSeg m) fun a => { a with ramping := true }
  x.ok e (x.slewPayload m)

theorem opSetpointSlew_acts {x : State} {e : Op} (h : SlewActs x e.payload) :
    opSetpointSlew e x =
      let y := x.slewAsked e.payload
      if y.segRuns (y.loopSeg (byteAt e.payload 0 - 8)) then y.slewBegun e else y.slewSettled e := by
  obtain ⟨hlen, hobj, hlo, hhi, hslow, hfast, hwalk, hcool, hheld, hfree⟩ := h
  have h2 : ¬ (objType (byteAt e.payload 0) != .outerLoop) = true := by simp [hobj]
  have h3 : ¬ (decide (fieldS e.payload 4 4 < 0) || decide (fieldS e.payload 4 4 > 6500000) ||
      decide (fieldU e.payload 8 4 < 100) || decide (fieldU e.payload 8 4 > 1000000)) = true := by
    simp [Int.not_lt.2 hlo, Int.not_lt.2 hhi, Nat.not_lt.2 hslow, Nat.not_lt.2 hfast]
  have h4 : ¬ (x.shelfState == ssBraking || x.thermalLatched || x.objNow (byteAt e.payload 0) == osSafeHold) = true := by
    simp [hwalk, hcool, hheld]
  unfold opSetpointSlew
  dsimp only
  rw [if_neg (not_not.2 hlen), if_neg h2, if_neg h3, if_neg h4, if_neg (Bool.eq_false_iff.1 hfree)]
  rfl

theorem setpointSlew_next (ha : Accepts s r 0x30 p) (h : SlewActs (Taken s r 0x30 p) p) :
    let y := (Taken s r 0x30 p).slewAsked p
    exec (.setpointSlew r p) s = .next (if s.segRuns (s.loopSeg (byteAt p 0 - 8)) then y.slewBegun (theOp s r 0x30 p)
      else y.slewSettled (theOp s r 0x30 p)) := by
  intro y
  have hseg : y.segRuns (y.loopSeg (byteAt p 0 - 8)) = s.segRuns (s.loopSeg (byteAt p 0 - 8)) := by
    have hmeas : y.loopSeg (byteAt p 0 - 8) = s.loopSeg (byteAt p 0 - 8) := by
      rw [State.loopSeg, (slewAsked_foot _ p).par _ rfl _ _ (by decide) rfl]
      rfl
    rw [slewAsked_segRuns, hmeas]
  show Host.Outcome.next (submitReq r 0x30 p opSetpointSlew s) = _
  rw [submitReq_accepted _ ha, opSetpointSlew_acts h]
  simp only [show (theOp s r 0x30 p).payload = p from rfl, ← hseg]
  rfl

/-- What SETPOINT_SLEW leaves (R105, R106). -/
theorem setpointSlew_leaves (ha : Accepts s r 0x30 p) (h : SlewActs (Taken s r 0x30 p) p) :
    Runs (.setpointSlew r p) s fun t =>
      t.par (byteAt p 0) Pid.Loop.SETPOINT_TARGET = fieldS p 4 4 ∧ t.par (byteAt p 0) Pid.Loop.SLEW_RATE = fieldU p 8 4 ∧
      (s.segRuns (s.loopSeg (byteAt p 0 - 8)) = true → (t.loop (24 + (byteAt p 0 - 8))).slewing = true ∧
        (t.loop (24 + (byteAt p 0 - 8))).slewOp = some s.hopper.nextId ∧ Waits s t) ∧
      (s.segRuns (s.loopSeg (byteAt p 0 - 8)) = false → ∃ b, Replied s t r 0x30 stOK 0 b) := by
  let y := (Taken s r 0x30 p).slewAsked p
  let e := theOp s r 0x30 p
  obtain ⟨htarget, hrate⟩ := slewAsked_par (Taken s r 0x30 p) p
  have hm : 24 + (byteAt p 0 - 8) < 32 := by
    obtain ⟨m, hm, ho⟩ := exists_oOuter_of_objType h.object
    rw [ho, Nat.add_sub_cancel_left]
    omega
  have hexec := setpointSlew_next ha h
  dsimp only at hexec
  by_cases hruns : s.segRuns (s.loopSeg (byteAt p 0 - 8)) = true
  · rw [if_pos hruns] at hexec
    have hfoot : Foot [.hopper, .loops] (some []) y (y.slewBegun e) := opRunning_foot.on modLoop_foot.within
    have hloop : (y.slewBegun e).loop (24 + (byteAt p 0 - 8)) = _ := loop_modLoop y hm _
    refine ⟨_, hexec, (hfoot.par _ rfl _ _ (by decide) rfl).trans htarget, (hfoot.par _ rfl _ _ (by decide) rfl).trans hrate,
      fun _ => ⟨?_, ?_, ?_⟩, fun hn => absurd hruns (by simp [hn])⟩
    · exact congrArg LoopAux.slewing hloop
    · exact congrArg LoopAux.slewOp hloop
    · exact opRunning_waits (askConfig_foot.fld .hopper rfl)
  · rw [if_neg hruns] at hexec
    have hfoot : Foot [.segs, .ports, .hopper] (some [385]) y (y.slewSettled e) := ok_foot.on modSeg_foot.within
    refine ⟨_, hexec, (hfoot.par _ rfl _ _ (by decide) rfl).trans htarget, (hfoot.par _ rfl _ _ (by decide) rfl).trans hrate,
      fun hy => absurd hy hruns, fun _ => ⟨_, State.reply_replied ?_⟩⟩
    rw [State.enabled_oPort, modSeg_foot.par _ rfl _ _ (by decide) rfl, (slewAsked_foot _ p).par _ rfl _ _ (by decide) rfl,
      ← State.enabled_oPort]
    exact ha.enabled

end

/-! ## COEF_BANK_LOAD and COEF_BANK_SWAP -/

theorem LoopAux.bank_setBank (a : LoopAux) (k : Nat) (img : Option Bytes) : (a.setBank k img).bank k = img := by
  unfold LoopAux.setBank LoopAux.bank
  split
  · rfl
  · split <;> rfl

theorem LoopAux.bank_reset (k : Nat) : LoopAux.reset.bank k = none := by
  unfold LoopAux.bank
  split
  · rfl
  · split <;> rfl

section
variable {s x : State} {r : Req} {p : Bytes} {e : Op}

/-- A load that is accepted waits with its image, and its bank reads as empty (R80). -/
def State.loadQueued (s : State) (e : Op) : State :=
  let n := loopNo (byteAt e.payload 0)
  let k := byteAt e.payload 1
  let x := s.modLoop n fun a => a.setBank k none
  { x with wheel := { x.wheel with loads := x.wheel.loads ++ [⟨some e.id, n, k, slice e.payload 4 52⟩] } }

/-- A swap that is accepted waits for its registration (R81). -/
def State.swapQueued (s : State) (e : Op) : State :=
  { s with wheel := { s.wheel with swaps := s.wheel.swaps ++ [
      { op := some e.id, mask := fieldU e.payload 0 4, mode := byteAt e.payload 4, align := loopNo (byteAt e.payload 5)
        registered := false, aligned := false
        left := (List.range 32).filter fun n => (fieldU e.payload 0 4).testBit n }] } }

theorem opCoefBankLoad_accepts (h : x.bankLoadCheck e.payload = none) :
    opCoefBankLoad e x = (x.loadQueued e).opRunning e := by
  unfold opCoefBankLoad
  rw [h]
  rfl

theorem opCoefBankSwap_accepts (h : x.bankSwapCheck e.payload = none) :
    opCoefBankSwap e x = (x.swapQueued e).opRunning e := by
  unfold opCoefBankSwap
  rw [h]
  rfl

theorem loadQueued_bank (s : State) (e : Op) :
    ((s.loadQueued e).loop (loopNo (byteAt e.payload 0))).bank (byteAt e.payload 1) = none :=
  vget_vmod_at (P := fun a : LoopAux => a.bank (byteAt e.payload 1) = none) (fun a => a.bank_setBank _ none)
    (LoopAux.bank_reset _)

end

/-- Settles O13: each operation as its checks let it act. -/
theorem loopOperationsStart : Obligations.LoopOperationsStart := by
  intro s r p
  refine ⟨fun hlen hobj hlo hhi hslow hfast hwalk hcool hheld hfree ha => ?_, fun ha hc => ?_, fun ha hc => ?_⟩
  · exact setpointSlew_leaves ha ⟨hlen, hobj, hlo, hhi, hslow, hfast, hwalk, hcool, hheld, hfree⟩
  · refine ⟨_, (congrArg Host.Outcome.next ((submitReq_accepted _ ha).trans (opCoefBankLoad_accepts hc)) :), rfl,
      loadQueued_bank _ (theOp s r 0x31 p), opRunning_waits rfl⟩
  · exact ⟨_, (congrArg Host.Outcome.next ((submitReq_accepted _ ha).trans (opCoefBankSwap_accepts hc)) :), rfl, rfl,
      opRunning_waits rfl⟩

end Sys2Proof.Machine

/-! # Proofs: banks swap and load; injections and captures end (O42) -/

namespace Sys2Proof.Machine
open Sys2Proof State

set_option Elab.async false

/-! ## Swaps -/

section
variable (s : State)

theorem oLoop_injective {k n : Nat} (hk : k < 32) (hn : n < 32) (h : oLoop k = oLoop n) : k = n := by
  simp only [oLoop, oPhase, oOuter] at h
  split at h <;> split at h <;> omega

/-- Of the active banks a swap turns its own loop's; besides, it marks the swap and ends an injection. -/
theorem loopSwap_turns (n : Nat) : Foot [.flume, .ports, .hopper, .nvm, .wheel, .grist, .loops]
    (some [5, 257, 258, 260, 261, 264, 305, 307, 385])
    (s.setPar (oLoop n) Pid.Phase.ACTIVE_BANK (1 - s.activeBank n : Nat)) (s.loopSwap n) := by
  unfold State.loopSwap
  extract_lets o old new host a b c d e f
  have hd : Foot [.loops, .wheel] (some [261]) a e := .withWheel (modLoop_foot.on (.setPar (.refl _ _ _)))
  have hf : Foot [.flume, .ports, .hopper, .nvm, .wheel, .grist, .loops]
      (some [5, 257, 258, 260, 261, 264, 305, 307, 385]) a f := record_foot.on hd.within
  exact swapsDone_foot.on (flumeStopOn_foot.on (.ite (askNvm_foot.on hf) hf))

theorem loopSwap_activeBank {n k : Nat} (hn : n < 32) (hk : k < 32) :
    (s.loopSwap k).par (oLoop n) Pid.Phase.ACTIVE_BANK =
      if n = k then ((1 - s.activeBank n : Nat) : Int) else s.par (oLoop n) Pid.Phase.ACTIVE_BANK := by
  rw [(loopSwap_turns s k).par _ rfl _ _ (by decide) rfl]
  split
  · next h =>
    subst h
    exact s.par_setPar_same (by decide) _
  · next h =>
    exact s.par_setPar_other _ fun he => h (oLoop_injective hn hk ((keyOf_inj (by decide) (by decide)).1 he).1)

/-- Loops that swap one after another, each once, take their other banks; the others keep theirs. -/
theorem eachOf_loopSwap_activeBank {n : Nat} (hn : n < 32) : ∀ {l : List Nat} (s : State), l.Nodup → (∀ k ∈ l, k < 32) →
    (s.eachOf l fun k s => s.loopSwap k).par (oLoop n) Pid.Phase.ACTIVE_BANK =
      if n ∈ l then ((1 - s.activeBank n : Nat) : Int) else s.par (oLoop n) Pid.Phase.ACTIVE_BANK
  | [], _, _, _ => rfl
  | k :: l, s, hnd, hlt => by
    obtain ⟨hk, hl⟩ := List.nodup_cons.1 hnd
    have ih := eachOf_loopSwap_activeBank hn (s.loopSwap k) hl fun i hi => hlt i (List.mem_cons_of_mem _ hi)
    have hstep := loopSwap_activeBank s hn (hlt k List.mem_cons_self)
    show ((s.loopSwap k).eachOf l fun k s => s.loopSwap k).par _ _ = _
    rw [ih, State.activeBank, hstep]
    by_cases h : n = k
    · simp [h, hk]
    · simp [h, State.activeBank]

/-- A job is registered and committed (R82). -/
def State.swapRegistered (s : State) (j : SwapJob) : State :=
  let rest := s.wheel.swaps.filter fun x => x.registered || x.op != j.op
  let x : State := { s with wheel := { s.wheel with swaps := rest ++ [{ j with registered := true }] } }
  match j.op with
  | some id => x.opCommit id
  | none => x

theorem swapRegistered_foot (j : SwapJob) : Foot [.wheel, .hopper] (some []) s (s.swapRegistered j) := by
  unfold State.swapRegistered
  extract_lets rest _ x
  have hx : Foot [.wheel, .hopper] (some []) s x := .withWheel (.refl _ _ _)
  split
  · exact opCommit_foot.on hx
  · exact hx

theorem swapRegistered_activeBank (j : SwapJob) (n : Nat) :
    (s.swapRegistered j).par (oLoop n) Pid.Phase.ACTIVE_BANK = s.par (oLoop n) Pid.Phase.ACTIVE_BANK :=
  (swapRegistered_foot s j).par _ rfl _ _ (by decide) rfl

theorem mem_swapRegistered (j : SwapJob) : { j with registered := true } ∈ (s.swapRegistered j).wheel.swaps := by
  unfold State.swapRegistered
  split <;> exact List.mem_append_right _ List.mem_cons_self

theorem swapRegistered_evaluating (j : SwapJob) (n : Nat) : (s.swapRegistered j).evaluating n = s.evaluating n := by
  have k := swapRegistered_foot s j
  simp only [State.evaluating, State.phase, State.loop, show _ = _ from k.fld .phases rfl, show _ = _ from k.fld .loops rfl]

theorem swapRegistration_next {j : SwapJob} (h : (s.wheel.swaps.find? fun x => !x.registered) = some j) :
    exec .swapRegistration s = .next ((s.swapRegistered j).swapIdle { j with registered := true }) := by
  show execSwapRegistration s = _
  unfold execSwapRegistration
  rw [h]
  rfl

/-- The loops of a job that swap at its registration (R83). -/
def State.swapsAtOnce (s : State) (j : SwapJob) : List Nat :=
  j.left.filter fun n => (j.mode == 1 && !s.evaluating j.align) || !s.evaluating n

theorem swapRegistered_swapIdle (j : SwapJob) : (s.swapRegistered j).swapIdle { j with registered := true } =
    (s.swapRegistered j).eachOf (s.swapsAtOnce j) fun n s => s.loopSwap n := by
  simp only [State.swapIdle, swapRegistered_evaluating]
  rfl

theorem mem_swapsAtOnce {j : SwapJob} {n : Nat} (hn : n ∈ j.left)
    (h : s.evaluating n = false ∨ j.mode = 1 ∧ s.evaluating j.align = false) : n ∈ s.swapsAtOnce j := by
  refine List.mem_filter.2 ⟨hn, ?_⟩
  rcases h with h | ⟨hm, h⟩
  · simp [h]
  · simp [hm, h]

theorem swapsAtOnce_eq_nil {j : SwapJob} (h : ∀ n ∈ j.left, s.evaluating n = true)
    (ha : j.mode = 1 → s.evaluating j.align = true) : s.swapsAtOnce j = [] := by
  refine List.filter_eq_nil_iff.2 fun n hn => ?_
  by_cases hm : j.mode = 1
  · simp [h n hn, ha hm]
  · simp [h n hn, hm]

/-- What a registration does to the banks (R82, R83). -/
theorem swapRegistration_spec {j : SwapJob} (h : (s.wheel.swaps.find? fun x => !x.registered) = some j)
    (hnd : j.left.Nodup) (hlt : ∀ n ∈ j.left, n < 32) :
    Runs .swapRegistration s fun t =>
      (∀ n ∈ j.left, s.evaluating n = false ∨ j.mode = 1 ∧ s.evaluating j.align = false →
        t.par (oLoop n) Pid.Phase.ACTIVE_BANK = ((1 - s.activeBank n : Nat) : Int)) ∧
      ((∀ n ∈ j.left, s.evaluating n = true) → (j.mode = 1 → s.evaluating j.align = true) →
        { j with registered := true } ∈ t.wheel.swaps ∧
        ∀ n < 32, t.par (oLoop n) Pid.Phase.ACTIVE_BANK = s.par (oLoop n) Pid.Phase.ACTIVE_BANK) := by
  refine ⟨_, swapRegistration_next s h, fun n hn hidle => ?_, fun hall hal => ?_⟩ <;> rw [swapRegistered_swapIdle]
  · rw [eachOf_loopSwap_activeBank (l := s.swapsAtOnce j) (hlt n hn) _ (hnd.filter _)
      fun k hk => hlt k (List.mem_of_mem_filter hk), if_pos (mem_swapsAtOnce s hn hidle), State.activeBank, swapRegistered_activeBank]
    rfl
  · rw [swapsAtOnce_eq_nil s hall hal]
    exact ⟨mem_swapRegistered s j, fun n _ => swapRegistered_activeBank s j n⟩

end

/-! ## An operation answered where it still stands -/

section
variable {s x : State} {e : Op} {st c : Nat} {b : Bytes}

/-- Answer the operation that asked, where one still stands. -/
def State.answer (s : State) (op : Option Nat) (st c : Nat) (b : Bytes) : State :=
  match op.bind s.opOf with
  | some e => s.reply e st c b
  | none => s

theorem answer_foot {op : Option Nat} : Foot [.ports, .hopper] (some [385]) s (s.answer op st c b) := by
  unfold State.answer
  split
  · exact reply_foot
  · exact .refl _ _ _

/-- A reply on an enabled port stands on it. -/
theorem exists_reply (hen : x.enabled (oPort e.port) = true) (htag : e.tag < 64) :
    ∃ r ∈ ((x.reply e st c b).port e.port).replies,
      r.op = some e.id ∧ r.status = st ∧ r.reason = c ∧ r.payload = b := by
  have hon : (x.incPar (oPort e.port) Pid.HPort.OPS_COMPLETED).enabled (oPort e.port) = true := by
    rw [State.enabled_oPort] at hen ⊢
    rw [← hen]
    exact congrArg (· == 1) (x.par_setPar_other _ (by simp [keyOf]))
  have hput (y : State) (r : Reply) (g : Op → Op) :
      r ∈ (((y.modPort e.port fun a => { a with replies := a.replies ++ [r] }).modOp e.id g).port e.port).replies := by
    show r ∈ ((y.modPort e.port _).port e.port).replies
    rw [State.port_modPort]
    exact List.mem_append_right _ List.mem_cons_self
  refine ⟨⟨some e.id, e.opcode, e.tagPrio, false, st, c, b⟩, ?_, rfl, rfl, rfl, rfl⟩
  unfold State.reply
  simp only [hon, Nat.not_le.2 htag, Bool.not_true, Bool.false_and, Bool.false_or, decide_false, Bool.false_eq_true, if_false]
  split
  · rw [State.replies_raisePort]
    exact hput _ _ _
  · exact hput _ _ _

theorem exists_answer {id : Nat} (hop : x.opOf id = some e) (hen : x.enabled (oPort e.port) = true) (htag : e.tag < 64) :
    ∃ r ∈ ((x.answer (some id) st c b).port e.port).replies,
      r.op = some e.id ∧ r.status = st ∧ r.reason = c ∧ r.payload = b := by
  have : x.answer (some id) st c b = x.reply e st c b := by simp [State.answer, hop]
  rw [this]
  exact exists_reply hen htag

end

/-! ## Loads -/

section
variable (s : State)

/-- The oldest load is taken off the list. -/
def State.loadTaken (s : State) (rest : List LoadJob) : State := { s with wheel := { s.wheel with loads := rest } }

/-- The oldest load's image is in its bank, and the write of a FLOAT image is asked for (R78, R80). -/
def State.loadWritten (s : State) (j : LoadJob) (rest : List LoadJob) : State :=
  let x := (s.loadTaken rest).modLoop j.loop fun a => a.setBank j.bank (some j.image)
  let x := x.incPar (oLoop j.loop) (loadGenPid j.bank)
  if j.bank = 2 then x.askNvm .config (.loopImage j.loop 1) 1 none else x

/-- The payload that answers a load (R80). -/
def State.loadPayload (s : State) (j : LoadJob) : Bytes :=
  leBytes 1 (oLoop j.loop) ++ leBytes 1 j.bank ++ [0, 0] ++ leBytes 4 (s.par (oLoop j.loop) (loadGenPid j.bank))

theorem bankLoadCommit_next {j : LoadJob} {rest : List LoadJob} (hl : s.wheel.loads = j :: rest) (hm : s.miller3 = true) :
    exec .bankLoadCommit s = .next (
      if s.inFloat && decide (j.bank < 2) then (s.loadTaken rest).answer j.op stLOCKED 5 []
      else (s.loadWritten j rest).answer j.op stOK 0 ((s.loadWritten j rest).loadPayload j)) := by
  show execBankLoadCommit s = _
  unfold execBankLoadCommit
  rw [hl]
  simp only [hm, Bool.not_true, Bool.false_eq_true, if_false]
  show (if (s.inFloat && decide (j.bank < 2)) = true then _ else _) = _
  split <;> rfl

/-- A count of a loop's loads runs to the last 32-bit number. -/
theorem loadGen_hi : ∀ n < 32, ∀ k ≤ 2, (findDesc (oLoop n) (loadGenPid k)).map Desc.hi = some 4294967295 := by
  decide

theorem loadGenPid_bounds {k : Nat} (h : k ≤ 2) : loadGenPid k < 4096 ∧ [385].contains (loadGenPid k) = false := by
  interval_cases k <;> decide

/-- In `t` the load has taken effect, where `s` is the state before it and `rest` waited behind it (R78, R80). -/
structure LoadJob.Stands (j : LoadJob) (rest : List LoadJob) (s t : State) : Prop where
  loads : t.wheel.loads = rest
  bank  : (t.loop j.loop).bank j.bank = some j.image
  count : t.par (oLoop j.loop) (loadGenPid j.bank) = s.par (oLoop j.loop) (loadGenPid j.bank) + 1
  asked : j.bank = 2 → (t.nvm.queue.any fun q => q.work == .loopImage j.loop 1) = true

theorem loadWritten_stands (j : LoadJob) (rest : List LoadJob) (hn : j.loop < 32) (hk : j.bank ≤ 2)
    (hc : s.par (oLoop j.loop) (loadGenPid j.bank) < 4294967295) : j.Stands rest s (s.loadWritten j rest) := by
  have hpid := (loadGenPid_bounds hk).1
  let y := (s.loadTaken rest).modLoop j.loop fun a => a.setBank j.bank (some j.image)
  let z := y.incPar (oLoop j.loop) (loadGenPid j.bank)
  have hbank : (y.loop j.loop).bank j.bank = some j.image := by
    rw [loop_modLoop _ hn]
    exact LoopAux.bank_setBank _ _ _
  have hcount : z.par (oLoop j.loop) (loadGenPid j.bank) = s.par (oLoop j.loop) (loadGenPid j.bank) + 1 :=
    par_incPar_of_hi (s := y) (loadGen_hi _ hn _ hk) hc hpid
  unfold State.loadWritten
  by_cases h2 : j.bank = 2
  · rw [if_pos h2]
    exact ⟨rfl, hbank, hcount, fun _ => by simp [State.askNvm]⟩
  · rw [if_neg h2]
    exact ⟨rfl, hbank, hcount, fun h => absurd h h2⟩

theorem LoadJob.Stands.on_foot {s t u : State} {j : LoadJob} {rest : List LoadJob} (h : j.Stands rest s t) (hk : j.bank ≤ 2)
    (k : Foot [.ports, .hopper] (some [385]) t u) : j.Stands rest s u := by
  obtain ⟨hloads, hbank, hcount, hasked⟩ := h
  have hwheel : u.wheel = t.wheel := k.fld .wheel rfl
  have hloops : u.loops = t.loops := k.fld .loops rfl
  have hnvm : u.nvm = t.nvm := k.fld .nvm rfl
  refine ⟨by rw [hwheel, hloads], by rw [State.loop, hloops]; exact hbank, ?_, by rw [hnvm]; exact hasked⟩
  rw [k.par _ rfl _ _ (loadGenPid_bounds hk).1 (loadGenPid_bounds hk).2, hcount]

/-- The oldest load takes effect. -/
theorem bankLoadCommit_loads {j : LoadJob} {rest : List LoadJob} (hl : s.wheel.loads = j :: rest) (hm : s.miller3 = true)
    (hn : j.loop < 32) (hk : j.bank ≤ 2) (hfree : j.bank = 2 ∨ s.inFloat = false)
    (hc : s.par (oLoop j.loop) (loadGenPid j.bank) < 4294967295) : Runs .bankLoadCommit s (j.Stands rest s) := by
  have hgo : ¬ (s.inFloat && decide (j.bank < 2)) = true := by
    rcases hfree with h | h <;> simp [h]
  refine ⟨_, (bankLoadCommit_next s hl hm).trans (congrArg _ (if_neg hgo)), ?_⟩
  exact (loadWritten_stands s j rest hn hk hc).on_foot hk answer_foot

/-- A load whose bank FLOAT has taken is answered LOCKED (R80). -/
theorem bankLoadCommit_locked {j : LoadJob} {rest : List LoadJob} (hl : s.wheel.loads = j :: rest) (hm : s.miller3 = true)
    (hb : j.bank < 2) (hf : s.inFloat = true) : Runs .bankLoadCommit s fun t =>
      t.wheel.loads = rest ∧ t.loops = s.loops ∧
      ∀ e id, j.op = some id → s.opOf id = some e → s.enabled (oPort e.port) = true → e.tag < 64 →
        ∃ x ∈ (t.port e.port).replies, x.op = some e.id ∧ x.status = stLOCKED ∧ x.reason = 5 := by
  have hgo : (s.inFloat && decide (j.bank < 2)) = true := by simp [hf, hb]
  have k : Foot [.ports, .hopper] (some [385]) (s.loadTaken rest) ((s.loadTaken rest).answer j.op stLOCKED 5 []) := answer_foot
  refine ⟨_, (bankLoadCommit_next s hl hm).trans (congrArg _ (if_pos hgo)), congrArg (·.loads) (k.fld .wheel rfl :),
    (k.fld .loops rfl :), fun e id hid he hen htag => ?_⟩
  rw [hid]
  obtain ⟨r, hr, hop, hst, hrs, -⟩ := exists_answer (x := s.loadTaken rest) (st := stLOCKED) (c := 5) (b := []) he hen htag
  exact ⟨r, hr, hop, hst, hrs⟩

end

/-! ## The end of an injection, and of a capture -/

section
variable (s : State)

/-- No injection runs, for the cause given (R135). -/
def State.flumeStopped (s : State) (cause : Nat) : State :=
  let x : State := { s with flume := { s.flume with running := false, op := none } }
  (x.setPar oDevice Pid.Device.FLUME_STATE 0).setPar oDevice Pid.Device.FLUME_STOP_CAUSE cause

/-- The injection has ended, before its reply: its outer loop is as if newly evaluated. -/
def State.flumeClosed (s : State) (cause : Nat) : State :=
  let x := s.flumeStopped cause
  match x.cascadeOuter x.flume.loop with
  | some n => x.modLoop n fun a => { a with reefTick := x.time.tick }
  | none => x

theorem flumeEnd_eq (cause : Nat) : s.flumeEnd cause =
    (s.flumeClosed cause).answer s.flume.op (flumeStatus cause).1 (flumeStatus cause).2 (s.flumePayload cause) := rfl

theorem flumeStopped_foot (cause : Nat) : Foot [.flume] (some [305, 307]) s (s.flumeStopped cause) :=
  .setPar (.setPar (.mk' (.refl _ _ _)))

theorem flumeClosed_foot (cause : Nat) : Foot [.loops] (some []) (s.flumeStopped cause) (s.flumeClosed cause) := by
  unfold State.flumeClosed
  extract_lets x
  split
  · exact modLoop_foot
  · exact .refl _ _ _

theorem flumeStopped_par (cause : Nat) :
    (s.flumeStopped cause).par oDevice Pid.Device.FLUME_STATE = 0 ∧
      (s.flumeStopped cause).par oDevice Pid.Device.FLUME_STOP_CAUSE = cause :=
  ⟨(State.par_setPar_other _ _ (by decide)).trans (State.par_setPar_same _ (by decide) _),
    State.par_setPar_same _ (by decide) _⟩

/-- The end of the measured part (R135). -/
theorem flumeEnd_completes (hr : s.flume.running = true) (ho : s.flumeOver = true) : Runs .flumeEnd s fun t =>
    t.flume.running = false ∧ t.par oDevice Pid.Device.FLUME_STATE = 0 ∧
    t.par oDevice Pid.Device.FLUME_STOP_CAUSE = fcCOMPLETE ∧
    ∀ e id, s.flume.op = some id → s.opOf id = some e → s.enabled (oPort e.port) = true → e.tag < 64 →
      ∃ x ∈ (t.port e.port).replies, x.op = some e.id ∧ x.status = stOK ∧ x.payload = s.flumePayload fcCOMPLETE := by
  have hgo : (s.flume.running && s.flumeOver) = true := by simp [hr, ho]
  have hopen := flumeClosed_foot s fcCOMPLETE
  have k : Foot [.loops, .ports, .hopper] (some [385]) (s.flumeStopped fcCOMPLETE) (s.flumeEnd fcCOMPLETE) :=
    answer_foot.on hopen.within
  obtain ⟨hstate, hcause⟩ := flumeStopped_par s fcCOMPLETE
  refine ⟨_, if_pos hgo, (congrArg (·.running) (k.fld .flume rfl :) :), ?_, ?_, fun e id hid he hen htag => ?_⟩
  · rw [k.par _ rfl _ _ (by decide) rfl, hstate]
  · rw [k.par _ rfl _ _ (by decide) rfl, hcause]
  · have hc : Foot [.flume, .loops] (some [305, 307]) s (s.flumeClosed fcCOMPLETE) :=
      hopen.on (flumeStopped_foot s _).within
    have hop : (s.flumeClosed fcCOMPLETE).opOf id = some e := by
      rw [State.opOf, show (s.flumeClosed fcCOMPLETE).hopper = s.hopper from hc.fld .hopper rfl]
      exact he
    have hon : (s.flumeClosed fcCOMPLETE).enabled (oPort e.port) = true := by
      rw [State.enabled_oPort] at hen ⊢
      rw [hc.par _ rfl _ _ (by decide) rfl, hen]
    rw [flumeEnd_eq, hid]
    obtain ⟨r, hr, hro, hst, -, hpay⟩ := exists_answer (st := (flumeStatus fcCOMPLETE).1) (c := (flumeStatus fcCOMPLETE).2)
      (b := s.flumePayload fcCOMPLETE) hop hon htag
    exact ⟨r, hr, hro, hst, hpay⟩

/-- A capture whose samples are all stored is DONE (R139). -/
theorem tailraceDone_next (h : s.traceState = tsTRIGGERED) (ha : s.trace.after = 0) :
    exec .tailraceDone s = .next (s.setPar oDevice Pid.Device.TAILRACE_STATE tsDONE) :=
  if_pos (by simp [h, ha])

end

/-- Settles O42: a registration, a load's commit, and the ends of an injection and of a capture. -/
theorem banksAndBench : Obligations.BanksAndBench := by
  refine ⟨fun s => ⟨fun j hj hnd hlt => swapRegistration_spec s hj hnd hlt, fun j rest hl hm hn hk =>
    ⟨fun hfree hc => ?_, bankLoadCommit_locked s hl hm⟩⟩, fun s => ⟨flumeEnd_completes s, tailraceDone_next s⟩⟩
  obtain ⟨t, ht, hloads, hbank, hcount, hasked⟩ := bankLoadCommit_loads s hl hm hn hk hfree hc
  exact ⟨t, ht, hloads, hbank, hcount, hasked⟩

end Sys2Proof.Machine

/-! # Proofs: Dresser's units (O54) -/

namespace Sys2Proof.Machine
open Sys2Proof State

set_option Elab.async false

/-! ## The counts and bits of Dresser -/

section
variable (s : State)

/-- The counts of an array run to the last 32-bit number. -/
theorem arrayCount_hi : ∀ a < 6,
    (findDesc oDresser (Pid.Dresser.CORR_COUNT + a)).map Desc.hi = some 4294967295 ∧
      (findDesc oDresser (Pid.Dresser.UNCORR_COUNT + a)).map Desc.hi = some 4294967295 := by
  decide

theorem testCount_hi : (findDesc oDresser Pid.Dresser.SLICES_DONE).map Desc.hi = some 4294967295 ∧
    (findDesc oDresser Pid.Dresser.LANE_TESTS).map Desc.hi = some 4294967295 := by
  decide

/-- What is written of an array stands in none of the parameters that a record moves. -/
theorem arrayPid_bounds : ∀ a < 6, ∀ p ∈ [Pid.Dresser.CORR_COUNT, Pid.Dresser.UNCORR_COUNT, Pid.Dresser.LAST_ERROR],
    p + a < 4096 ∧ [5, 257, 258, 260, 261, 264].contains (p + a) = false := by
  decide

theorem par_setPar_pid {o p q : Nat} (v : Int) (hp : p < 4096) (hq : q < 4096) (h : p ≠ q) :
    (s.setPar o q v).par o p = s.par o p :=
  s.par_setPar_other v fun he => h ((keyOf_inj hp hq).1 he).2

/-- A bit that is set stands when a higher one is set too. -/
theorem bitOf_setBitTo_higher {v : Int} {m n : Nat} (h : n < m) : bitOf (setBitTo v m true) n = bitOf v n := by
  have hpow : (2 : Int) ^ m = 2 ^ n * (2 * 2 ^ (m - n - 1)) := by
    rw [← pow_succ', ← pow_add]
    congr 1
    omega
  unfold setBitTo
  cases bitOf v m with
  | true => rfl
  | false =>
    show bitOf (v + 2 ^ m) n = bitOf v n
    rw [bitOf, bitOf, hpow, Int.add_mul_ediv_left _ _ (by positivity), Int.add_mul_emod_self_left]

end

/-! ## Scrubbing -/

section
variable {s : State} {arr c sy b : Nat}

/-- A codeword that neither pass before corrected is counted, located and remembered (R333). -/
theorem corrected_spec (ha : arr < 6) (hhard : s.dresser.hardWords.contains (arr, c) = false)
    (hnew : s.dresser.corrected.contains (arr, c) = false)
    (hn : s.par oDresser (Pid.Dresser.CORR_COUNT + arr) < 4294967295) :
    let t := s.corrected arr c sy b
    t.par oDresser (Pid.Dresser.CORR_COUNT + arr) = s.par oDresser (Pid.Dresser.CORR_COUNT + arr) + 1 ∧
      t.par oDresser (Pid.Dresser.LAST_ERROR + arr) = (lastError 1 c sy b : Nat) ∧ (arr, c) ∈ t.dresser.corrected := by
  have hpid := arrayPid_bounds arr ha
  have hcorr := (hpid Pid.Dresser.CORR_COUNT (by decide)).1
  have hlast := (hpid Pid.Dresser.LAST_ERROR (by decide)).1
  have hne : Pid.Dresser.CORR_COUNT + arr ≠ Pid.Dresser.LAST_ERROR + arr := by
    simp only [Pid.Dresser.CORR_COUNT, Pid.Dresser.LAST_ERROR]; omega
  let x := s.setPar oDresser (Pid.Dresser.LAST_ERROR + arr) (lastError 1 c sy b)
  let y := x.incPar oDresser (Pid.Dresser.CORR_COUNT + arr)
  have hx : x.par oDresser (Pid.Dresser.CORR_COUNT + arr) = s.par oDresser (Pid.Dresser.CORR_COUNT + arr) :=
    par_setPar_pid s _ hcorr hlast hne
  have hcount : y.par oDresser (Pid.Dresser.CORR_COUNT + arr) = s.par oDresser (Pid.Dresser.CORR_COUNT + arr) + 1 := by
    rw [← hx]
    exact par_incPar_of_hi (s := x) (arrayCount_hi arr ha).1 (hx ▸ hn) hcorr
  have herr : y.par oDresser (Pid.Dresser.LAST_ERROR + arr) = (lastError 1 c sy b : Nat) :=
    (par_setPar_pid x _ hlast hcorr hne.symm).trans (s.par_setPar_same hlast _)
  have heq : s.corrected arr c sy b = (if arr = 3 then y.askNvm (rewriteKind c) .rewrite 1 none else y).modDresser
      fun d => { d with corrected := (arr, c) :: d.corrected } := by
    unfold State.corrected
    dsimp only
    rw [if_neg (by exact Bool.eq_false_iff.1 hhard), if_neg]
    split <;> exact Bool.eq_false_iff.1 hnew
  rw [heq]
  split <;> exact ⟨hcount, herr, List.mem_cons_self⟩

/-- An uncorrectable codeword is located and counted, and sets its bit (R334). -/
def State.uncorrCounted (s : State) (arr c sy b : Nat) : State :=
  let x := s.setPar oDresser (Pid.Dresser.LAST_ERROR + arr) (lastError 2 c sy b)
  (x.incPar oDresser (Pid.Dresser.UNCORR_COUNT + arr)).dresserBit drUNCORRECTABLE

theorem uncorrCounted_par (ha : arr < 6) (hn : s.par oDresser (Pid.Dresser.UNCORR_COUNT + arr) < 4294967295) :
    let t := s.uncorrCounted arr c sy b
    t.par oDresser (Pid.Dresser.UNCORR_COUNT + arr) = s.par oDresser (Pid.Dresser.UNCORR_COUNT + arr) + 1 ∧
      t.par oDresser (Pid.Dresser.LAST_ERROR + arr) = (lastError 2 c sy b : Nat) ∧
      t.par oDresser Pid.Dresser.DRESSER_STATUS =
        setBitTo (s.par oDresser Pid.Dresser.DRESSER_STATUS) drUNCORRECTABLE true := by
  have hunc := (arrayPid_bounds arr ha Pid.Dresser.UNCORR_COUNT (by decide)).1
  have hlast := (arrayPid_bounds arr ha Pid.Dresser.LAST_ERROR (by decide)).1
  have hst : Pid.Dresser.DRESSER_STATUS < 4096 := by decide
  have hne : Pid.Dresser.UNCORR_COUNT + arr ≠ Pid.Dresser.LAST_ERROR + arr ∧
      Pid.Dresser.UNCORR_COUNT + arr ≠ Pid.Dresser.DRESSER_STATUS ∧
      Pid.Dresser.LAST_ERROR + arr ≠ Pid.Dresser.DRESSER_STATUS := by
    simp only [Pid.Dresser.UNCORR_COUNT, Pid.Dresser.LAST_ERROR, Pid.Dresser.DRESSER_STATUS]; omega
  obtain ⟨hul, hus, hls⟩ := hne
  let x := s.setPar oDresser (Pid.Dresser.LAST_ERROR + arr) (lastError 2 c sy b)
  let y := x.incPar oDresser (Pid.Dresser.UNCORR_COUNT + arr)
  have hx : x.par oDresser (Pid.Dresser.UNCORR_COUNT + arr) = s.par oDresser (Pid.Dresser.UNCORR_COUNT + arr) :=
    par_setPar_pid s _ hunc hlast hul
  have hy : y.par oDresser (Pid.Dresser.UNCORR_COUNT + arr) = s.par oDresser (Pid.Dresser.UNCORR_COUNT + arr) + 1 := by
    rw [← hx]
    exact par_incPar_of_hi (s := x) (arrayCount_hi arr ha).2 (hx ▸ hn) hunc
  have hstatus : y.par oDresser Pid.Dresser.DRESSER_STATUS = s.par oDresser Pid.Dresser.DRESSER_STATUS :=
    (par_setPar_pid x _ hst hunc hus.symm).trans (par_setPar_pid s _ hst hlast hls.symm)
  refine ⟨(par_setPar_pid y _ hunc hst hus).trans hy, ?_, ?_⟩
  · exact (par_setPar_pid y _ hlast hst hls).trans
      ((par_setPar_pid x _ hlast hunc hul.symm).trans (s.par_setPar_same hlast _))
  · rw [← hstatus]
    exact y.par_setPar_same hst _

theorem uncorrectable_foot : Foot [.ports, .grist, .nvm] (some [5, 257, 258, 260, 261, 264]) (s.uncorrCounted arr c sy b)
    (s.uncorrectable arr c sy b .mramOther) := by
  have hrec (l : List Snap) : Foot [.ports, .grist, .nvm] (some [5, 257, 258, 260, 261, 264]) (s.uncorrCounted arr c sy b)
      ((s.uncorrCounted arr c sy b).dresserRecord l) := dresserRecord_foot.within
  exact .ite (.withNvm (hrec _)) (hrec _)

/-- An uncorrectable codeword of no use of its own does no more (R334). -/
theorem uncorrectable_spec (ha : arr < 6) (hn : s.par oDresser (Pid.Dresser.UNCORR_COUNT + arr) < 4294967295) :
    let t := s.uncorrectable arr c sy b .mramOther
    t.dresser = s.dresser ∧
      t.par oDresser (Pid.Dresser.UNCORR_COUNT + arr) = s.par oDresser (Pid.Dresser.UNCORR_COUNT + arr) + 1 ∧
      t.par oDresser (Pid.Dresser.LAST_ERROR + arr) = (lastError 2 c sy b : Nat) ∧
      t.par oDresser Pid.Dresser.DRESSER_STATUS =
        setBitTo (s.par oDresser Pid.Dresser.DRESSER_STATUS) drUNCORRECTABLE true := by
  obtain ⟨hunc, huncOther⟩ := arrayPid_bounds arr ha Pid.Dresser.UNCORR_COUNT (by decide)
  obtain ⟨hlast, hlastOther⟩ := arrayPid_bounds arr ha Pid.Dresser.LAST_ERROR (by decide)
  obtain ⟨hcount, herr, hstatus⟩ := uncorrCounted_par (c := c) (sy := sy) (b := b) ha hn
  have k := uncorrectable_foot (s := s) (arr := arr) (c := c) (sy := sy) (b := b)
  refine ⟨(k.fld .dresser rfl :), ?_, ?_, ?_⟩
  · rw [k.par _ rfl _ _ hunc huncOther, hcount]
  · rw [k.par _ rfl _ _ hlast hlastOther, herr]
  · rw [k.par _ rfl _ _ (by decide) rfl, hstatus]

end

section
variable {s : State} {arr : Fin 6} {c : BitVec 18} {use : CodewordUse}

/-- The scrubber has read a codeword of MRAM: it is no longer one that is known to be bad. -/
def State.scrubbed (s : State) (arr c : Nat) : State :=
  if arr = 3 then { s with nvm := { s.nvm with bad := s.nvm.bad.filter fun k => k != c } } else s

/-- Nothing but the list of the bad codewords has changed. -/
theorem scrubbed_eq (s : State) (arr c : Nat) : ∃ l, s.scrubbed arr c = { s with nvm := { s.nvm with bad := l } } := by
  unfold State.scrubbed
  split
  · exact ⟨_, rfl⟩
  · exact ⟨s.nvm.bad, rfl⟩

theorem scrubCodeword_next (x : CodewordRead) (hr : s.running = true) (hc : c.toNat < codewordsOf arr.val) :
    exec (.scrubCodeword arr c use x) s = .next (match x with
      | .clean => (s.scrubbed arr.val c.toNat).modDresser
          fun d => { d with corrected := d.corrected.filter fun e => e != (arr.val, c.toNat) }
      | .corrected sy b => (s.scrubbed arr.val c.toNat).corrected arr.val c.toNat sy.val b.val
      | .uncorrectable sy b => (s.scrubbed arr.val c.toNat).uncorrectable arr.val c.toNat sy.val b.val use) := by
  have hgo : ¬ (!s.running || decide (c.toNat ≥ codewordsOf arr.val)) = true := by simp [hr, hc]
  show execScrubCodeword arr c use x s = _
  unfold execScrubCodeword
  rw [if_neg hgo]
  cases x <;> rfl

end

/-! ## Host tests -/

/-- A unit of a host test moves no more of the state than the list of the tests. -/
theorem hostUnit_eq (s : State) (item : DresserItem) (failed : Bool) (first actual unit : Nat) :
    ∃ l, s.hostUnit item failed first actual unit = s.modDresser fun d => { d with tests := l } := by
  unfold State.hostUnit
  split
  · exact ⟨s.dresser.tests, rfl⟩
  · split
    · exact ⟨s.dresser.tests, rfl⟩
    · exact ⟨_, rfl⟩

/-! ## Memory slices -/

section
variable {s : State} {arr idx : Nat}

theorem rotate_keeps : (s.rotate arr idx).dresser.granted = s.dresser.granted ∧
    (s.rotate arr idx).dresser.retest = s.dresser.retest := by
  unfold State.rotate State.modDresser
  dsimp only
  split <;> exact ⟨rfl, rfl⟩

/-- Of the parameters the count of a slice moves PASS_TICK only, beside SLICES_DONE. -/
theorem sliceCount_passTick (ha : arr < 3) :
    Foot [.dresser] (some [264, 265, 266]) (s.incPar oDresser Pid.Dresser.SLICES_DONE) (s.sliceCount arr idx) := by
  have hp : pidIn (Pid.Dresser.PASS_TICK + arr) (some [264, 265, 266]) = true := by interval_cases arr <;> rfl
  unfold State.sliceCount
  extract_lets x y last z
  have hz : Foot [.dresser] (some [264, 265, 266]) x z := rotate_foot.on modDresser_foot.within
  exact .ite (.setPar hz hp) hz

theorem sliceCount_dresser : (s.sliceCount arr idx).dresser.granted = none ∧
    (s.sliceCount arr idx).dresser.retest = s.dresser.retest := by
  unfold State.sliceCount
  extract_lets x y last z
  obtain ⟨hgranted, hretest⟩ := rotate_keeps (s := y) (arr := arr) (idx := idx)
  split <;> exact ⟨hgranted, hretest⟩

theorem sliceCount_par (ha : arr < 3) (hn : s.par oDresser Pid.Dresser.SLICES_DONE < 4294967295) :
    (s.sliceCount arr idx).par oDresser Pid.Dresser.SLICES_DONE = s.par oDresser Pid.Dresser.SLICES_DONE + 1 ∧
      (s.sliceCount arr idx).par oDresser (Pid.Dresser.UNCORR_COUNT + arr) =
        s.par oDresser (Pid.Dresser.UNCORR_COUNT + arr) := by
  have k := sliceCount_passTick (s := s) (idx := idx) ha
  refine ⟨?_, ?_⟩
  · rw [k.par _ rfl _ _ (by decide) rfl]
    exact par_incPar_of_hi testCount_hi.1 hn
  · obtain ⟨hlt, hother, hne⟩ : Pid.Dresser.UNCORR_COUNT + arr < 4096 ∧
        [264, 265, 266].contains (Pid.Dresser.UNCORR_COUNT + arr) = false ∧
        Pid.Dresser.UNCORR_COUNT + arr ≠ Pid.Dresser.SLICES_DONE := by interval_cases arr <;> decide
    rw [k.par _ rfl _ _ hlt hother]
    exact par_setPar_pid s _ hlt (by decide) hne

/-- A slice of which a cell fails, and that was not waiting to be tested again, waits for it now (R336). -/
theorem sliceFails_spec {c sy b : Nat} (h : (s.dresser.retest.any fun e => e.1 == (arr, idx)) = false) :
    let t := s.sliceFails arr idx c sy b
    t.dresser.granted = s.dresser.granted ∧ t.bit oDresser Pid.Dresser.DRESSER_STATUS drMEM_FAIL = true ∧
      ((arr, idx), lastError 3 c sy b) ∈ t.dresser.retest := by
  let err := lastError 3 c sy b
  let x := (s.setPar oDresser (Pid.Dresser.LAST_ERROR + arr) err).dresserBit drMEM_FAIL
  let y := (x.retestDone arr idx).modDresser fun d => { d with retest := d.retest ++ [((arr, idx), err)] }
  have hsame : (s.dresser.retest.any fun e => e == ((arr, idx), err)) = false := by
    refine List.any_eq_false.2 fun e he hee => List.any_eq_false.1 h e he ?_
    rw [beq_iff_eq.1 hee]
    exact beq_self_eq_true _
  have heq : s.sliceFails arr idx c sy b = (y.sliceRecord arr idx).hostUnit (.slice arr idx) true err 0 idx := by
    have hagain : ¬ (x.dresser.retest.any fun e => e.1 == (arr, idx)) = true := Bool.eq_false_iff.1 h
    have htwice : ¬ (x.dresser.retest.any fun e => e == ((arr, idx), err)) = true := Bool.eq_false_iff.1 hsame
    exact (if_neg hagain).trans
      (congrArg (fun z : State => (z.sliceRecord arr idx).hostUnit (.slice arr idx) true err 0 idx) (if_neg htwice))
  obtain ⟨l, hl⟩ := hostUnit_eq (y.sliceRecord arr idx) (.slice arr idx) true err 0 idx
  have k : Foot [.ports, .grist] (some [5, 257, 258, 260, 261, 264]) y (y.sliceRecord arr idx) := sliceRecord_foot
  have hd : (y.sliceRecord arr idx).dresser = y.dresser := k.fld .dresser rfl
  intro t
  rw [show t = _ from heq.trans hl]
  refine ⟨congrArg (·.granted) hd, ?_, ?_⟩
  · show bitOf ((y.sliceRecord arr idx).par oDresser Pid.Dresser.DRESSER_STATUS) drMEM_FAIL = true
    rw [k.par _ rfl _ _ (by decide) rfl]
    exact bit_setBit_same (s.setPar oDresser (Pid.Dresser.LAST_ERROR + arr) err) (by decide) drMEM_FAIL
  · show _ ∈ (y.sliceRecord arr idx).dresser.retest
    rw [hd]
    exact List.mem_append_right _ List.mem_cons_self

end

section
variable {s : State} {a : Fin 3} {i : BitVec 12} {use : CodewordUse}

/-- A granted slice is judged once it is counted (R335, R336). -/
theorem memorySliceTest_next (x : SliceResult) (hr : s.running = true)
    (hg : s.dresser.granted = some (.slice a.val i.toNat)) :
    exec (.memorySliceTest a i use x) s = .next (
      let y := s.sliceCount a.val i.toNat
      match x with
      | .pass =>
        if s.dresser.retest.any fun e => e.1 == (a.val, i.toNat) then (y.retestDone a.val i.toNat).sliceRecord a.val i.toNat
        else y.hostUnit (.slice a.val i.toNat) false 0 0 i.toNat
      | .failCell c sy b => y.sliceFails a.val i.toNat c.toNat sy.val b.val
      | .uncorrectable c sy b =>
        ((y.dresserBit drMEM_FAIL).hostUnit (.slice a.val i.toNat) true (lastError 2 c.toNat sy.val b.val) 0
          i.toNat).uncorrectable a.val c.toNat sy.val b.val use) := by
  have hgo : ¬ (!s.running || s.dresser.granted != some (.slice a.val i.toNat)) = true := by simp [hr, hg]
  show execMemorySliceTest a i use x s = _
  unfold execMemorySliceTest
  rw [if_neg hgo]
  cases x with
  | pass => exact (apply_ite Host.Outcome.next _ _ _).symm
  | failCell c sy b => rfl
  | uncorrectable c sy b => rfl

/-- A slice that passes is counted, and tested no further. -/
theorem memorySliceTest_pass (hr : s.running = true) (hg : s.dresser.granted = some (.slice a.val i.toNat))
    (hn : s.par oDresser Pid.Dresser.SLICES_DONE < 4294967295) :
    Runs (.memorySliceTest a i use .pass) s fun t => t.dresser.granted = none ∧
      t.par oDresser Pid.Dresser.SLICES_DONE = s.par oDresser Pid.Dresser.SLICES_DONE + 1 ∧
      ∀ e ∈ t.dresser.retest, e.1 ≠ (a.val, i.toNat) := by
  refine ⟨_, memorySliceTest_next .pass hr hg, ?_⟩
  let y := s.sliceCount a.val i.toNat
  obtain ⟨hgranted, hretest⟩ := sliceCount_dresser (s := s) (arr := a.val) (idx := i.toNat)
  have hdone := (sliceCount_par (idx := i.toNat) a.isLt hn).1
  dsimp only
  split
  · have k : Foot [.ports, .grist] (some [5, 257, 258, 260, 261, 264]) (y.retestDone a.val i.toNat)
        ((y.retestDone a.val i.toNat).sliceRecord a.val i.toNat) := sliceRecord_foot
    have hd : ((y.retestDone a.val i.toNat).sliceRecord a.val i.toNat).dresser = (y.retestDone a.val i.toNat).dresser :=
      k.fld .dresser rfl
    refine ⟨(congrArg (·.granted) hd).trans hgranted, (k.par _ rfl _ _ (by decide) rfl).trans hdone, fun e he => ?_⟩
    rw [hd] at he
    exact bne_iff_ne.1 (List.mem_filter.1 he).2
  · next h =>
    obtain ⟨l, hl⟩ := hostUnit_eq y (.slice a.val i.toNat) false 0 0 i.toNat
    rw [hl]
    refine ⟨hgranted, hdone, fun e he heq => h (List.any_eq_true.2 ⟨e, hretest ▸ he, beq_iff_eq.2 heq⟩)⟩

/-- A slice of which a cell fails sets MEM_FAIL and waits to be tested again. -/
theorem memorySliceTest_failCell {c : BitVec 18} {sy : Fin 35} {b : Fin 8} (hr : s.running = true)
    (hg : s.dresser.granted = some (.slice a.val i.toNat))
    (h : (s.dresser.retest.any fun e => e.1 == (a.val, i.toNat)) = false) :
    Runs (.memorySliceTest a i use (.failCell c sy b)) s fun t => t.dresser.granted = none ∧
      t.bit oDresser Pid.Dresser.DRESSER_STATUS drMEM_FAIL = true ∧
      ((a.val, i.toNat), lastError 3 c.toNat sy.val b.val) ∈ t.dresser.retest := by
  obtain ⟨hgranted, hretest⟩ := sliceCount_dresser (s := s) (arr := a.val) (idx := i.toNat)
  obtain ⟨hkept, hbit, hmem⟩ := sliceFails_spec (c := c.toNat) (sy := sy.val) (b := b.val) (hretest ▸ h)
  exact ⟨_, memorySliceTest_next (.failCell c sy b) hr hg, hkept.trans hgranted, hbit, hmem⟩

/-- What a slice's test finds uncorrectable sets MEM_FAIL and is counted as the scrubber's. -/
theorem memorySliceTest_uncorrectable {c : BitVec 18} {sy : Fin 35} {b : Fin 8} (hr : s.running = true)
    (hg : s.dresser.granted = some (.slice a.val i.toNat)) (hn : s.par oDresser Pid.Dresser.SLICES_DONE < 4294967295)
    (hu : s.par oDresser (Pid.Dresser.UNCORR_COUNT + a.val) < 4294967295) :
    Runs (.memorySliceTest a i .mramOther (.uncorrectable c sy b)) s fun t => t.dresser.granted = none ∧
      t.bit oDresser Pid.Dresser.DRESSER_STATUS drMEM_FAIL = true ∧
      t.par oDresser (Pid.Dresser.UNCORR_COUNT + a.val) = s.par oDresser (Pid.Dresser.UNCORR_COUNT + a.val) + 1 := by
  refine ⟨_, memorySliceTest_next (.uncorrectable c sy b) hr hg, ?_⟩
  let y := s.sliceCount a.val i.toNat
  let z := y.dresserBit drMEM_FAIL
  obtain ⟨l, hl⟩ := hostUnit_eq z (.slice a.val i.toNat) true (lastError 2 c.toNat sy.val b.val) 0 i.toNat
  obtain ⟨hpid, -⟩ := arrayPid_bounds a.val (by omega) Pid.Dresser.UNCORR_COUNT (by decide)
  have hz : z.par oDresser (Pid.Dresser.UNCORR_COUNT + a.val) = s.par oDresser (Pid.Dresser.UNCORR_COUNT + a.val) :=
    (par_setPar_pid y _ hpid (by decide) (by simp only [Pid.Dresser.UNCORR_COUNT, Pid.Dresser.DRESSER_STATUS]; omega)).trans
      (sliceCount_par a.isLt hn).2
  have hmem : z.bit oDresser Pid.Dresser.DRESSER_STATUS drMEM_FAIL = true := bit_setBit_same y (by decide) drMEM_FAIL
  dsimp only
  rw [hl]
  obtain ⟨hd, hcount, -, hstatus⟩ := uncorrectable_spec (s := z.modDresser fun d => { d with tests := l }) (arr := a.val)
    (c := c.toNat) (sy := sy.val) (b := b.val) (by omega) (hz ▸ hu)
  refine ⟨(congrArg (·.granted) hd).trans sliceCount_dresser.1, ?_, hcount.trans (congrArg (· + 1) hz)⟩
  rw [State.bit, hstatus, bitOf_setBitTo_higher (by decide)]
  exact hmem

end

/-! ## Logic slices -/

section
variable {s : State} {k : Fin 6} {expected got : Word}

/-- A logic slice that is not idle is not tested. -/
theorem logicSliceTest_busy (h : s.logicIdle k.val = false) : exec (.logicSliceTest k expected got) s = .next s :=
  if_pos (by simp [h])

/-- A granted logic slice leaves the list of those that are tested again, and its test is the last one (R339). -/
def State.logicGranted (s : State) (k : Nat) : State :=
  s.modDresser fun d => { d with
    granted := none
    logicRetest := d.logicRetest.filter fun j => j != k
    lastLogic := if s.dresser.logicRetest.contains k then d.lastLogic else s.time.tick
    nextLogic := if d.nextLogic = k then (k + 1) % 6 else d.nextLogic }

/-- FAULT's own slice says whether FAULT has been proven. -/
def State.faultProven (s : State) (k : Nat) (unproven : Bool) : State :=
  if k = 5 then { s with supply := { s.supply with unproven := unproven } } else s

/-- A second failure in a row is a failure of the block. -/
def State.logicFailed (s : State) (k : Nat) (expected got : Word) : State :=
  (s.dresserBit drLOGIC_FAIL).dresserRecord [.lit k, .lit expected.toNat, .lit got.toNat]

theorem faultProven_foot (u : Bool) (k : Nat) : Foot [.supply] (some []) s (s.faultProven k u) :=
  .ite (.withSupply (.refl _ _ _)) (.refl _ _ _)

theorem logicSliceTest_next (hr : s.running = true) (hg : s.dresser.granted = some (.logic k.val))
    (hi : s.logicIdle k.val = true) : exec (.logicSliceTest k expected got) s = .next (
      let x := s.logicGranted k.val
      if expected = got then (x.faultProven k.val false).hostUnit (.logic k.val) false 0 0 k.val
      else if s.dresser.logicRetest.contains k.val then
        ((x.logicFailed k.val expected got).faultProven k.val true).hostUnit (.logic k.val) true expected.toNat got.toNat k.val
      else x.modDresser fun d => { d with logicRetest := d.logicRetest ++ [k.val] }) := by
  have hgo : ¬ (!s.running || s.dresser.granted != some (.logic k.val) || !s.logicIdle k.val) = true := by simp [hr, hg, hi]
  show execLogicSliceTest k expected got s = _
  unfold execLogicSliceTest
  rw [if_neg hgo]
  dsimp only
  split
  · rfl
  · exact (apply_ite Host.Outcome.next _ _ _).symm

/-- What a test of an idle logic slice leaves (R339). -/
theorem logicSliceTest_idle (hr : s.running = true) (hg : s.dresser.granted = some (.logic k.val))
    (hi : s.logicIdle k.val = true) : Runs (.logicSliceTest k expected got) s fun t => t.dresser.granted = none ∧
      (expected ≠ got → s.dresser.logicRetest.contains k.val = false → k.val ∈ t.dresser.logicRetest) ∧
      (expected ≠ got → s.dresser.logicRetest.contains k.val = true →
        t.bit oDresser Pid.Dresser.DRESSER_STATUS drLOGIC_FAIL = true ∧ k.val ∉ t.dresser.logicRetest) ∧
      (expected = got → k.val ∉ t.dresser.logicRetest) := by
  refine ⟨_, logicSliceTest_next hr hg hi, ?_⟩
  let x := s.logicGranted k.val
  have hleft : k.val ∉ x.dresser.logicRetest := fun h => by simpa using (List.mem_filter.1 h).2
  dsimp only
  split
  · next heq =>
    obtain ⟨l, hl⟩ := hostUnit_eq (x.faultProven k.val false) (.logic k.val) false 0 0 k.val
    have hd : (x.faultProven k.val false).dresser = x.dresser := (faultProven_foot false k.val).fld .dresser rfl
    rw [hl]
    have hleft' : k.val ∉ (x.faultProven k.val false).dresser.logicRetest := hd ▸ hleft
    exact ⟨congrArg (·.granted) hd, fun h => absurd heq h, fun h => absurd heq h, fun _ => hleft'⟩
  · next hne =>
    split
    · next hagain =>
      let y := (x.logicFailed k.val expected got).faultProven k.val true
      obtain ⟨l, hl⟩ := hostUnit_eq y (.logic k.val) true expected.toNat got.toNat k.val
      have hrec : Foot [.ports, .grist] (some [5, 257, 258, 260, 261, 264]) (x.dresserBit drLOGIC_FAIL)
          (x.logicFailed k.val expected got) := dresserRecord_foot
      have ky : Foot [.ports, .grist, .supply] (some [5, 257, 258, 260, 261, 264]) (x.dresserBit drLOGIC_FAIL) y :=
        (faultProven_foot true k.val).on hrec.within
      have hd : y.dresser = x.dresser := ky.fld .dresser rfl
      have hbit : y.bit oDresser Pid.Dresser.DRESSER_STATUS drLOGIC_FAIL = true := by
        rw [State.bit, ky.par _ rfl _ _ (by decide) rfl]
        exact bit_setBit_same x (by decide) drLOGIC_FAIL
      rw [hl]
      have hleft' : k.val ∉ y.dresser.logicRetest := hd ▸ hleft
      exact ⟨congrArg (·.granted) hd, fun _ h => absurd hagain (Bool.eq_false_iff.1 h), fun _ _ => ⟨hbit, hleft'⟩,
        fun h => absurd h hne⟩
    · next hfirst =>
      exact ⟨rfl, fun _ _ => List.mem_append_right _ List.mem_cons_self, fun _ h => absurd h hfirst, fun h => absurd h hne⟩

end

/-! ## Lanes -/

section
variable {s : State} {l : Fin 4} {expected got : Word}

/-- A lane is withdrawn where all four are in service (R85). -/
theorem laneWithdrawal_spec (hr : s.running = true) (hg : s.dresser.granted = some (.lane l.val))
    (hlane : 0 ≤ s.par oDevice Pid.Device.LANE_STATUS) (h : s.lanesInService = 4) :
    Runs (.laneWithdrawal l) s fun t => t.lane l.val = 1 ∧ t.dresser = s.dresser :=
  ⟨s.setLane l.val 1, if_pos (by simp [hr, hg, h]), (lane_setLane s (by decide) hlane).1.trans (if_pos rfl), rfl⟩

/-- Does the test of a lane fail (R86, R340)? -/
def State.laneFails (s : State) (l : Nat) (expected got : Word) : Bool :=
  expected != got || (s.lane l == 2 && vget s.wheel.again l false)

theorem laneFails_iff {l : Nat} : s.laneFails l expected got = true ↔
    expected ≠ got ∨ s.lane l = 2 ∧ vget s.wheel.again l false = true := by
  simp [State.laneFails]

/-- A lane's test is counted, and its grant and its error of the day are done with. -/
def State.laneCounted (s : State) (l : Nat) : State :=
  let x := s.modDresser fun d => { d with
    granted := none, lastLane := s.time.tick
    nextLane := if d.nextLane = l then (l + 1) % 4 else d.nextLane }
  let x : State := { x with wheel := { x.wheel with again := vmod x.wheel.again l fun _ => false } }
  x.incPar oDresser Pid.Dresser.LANE_TESTS

theorem laneCounted_foot {l : Nat} : Foot [.dresser, .wheel] (some [260]) s (s.laneCounted l) :=
  .setPar (.withWheel (modDresser_foot.on (.refl _ _ _)))

/-- A lane that fails its test (R340). -/
def State.laneFailed (s : State) (l : Nat) (expected got : Word) : State :=
  (s.dresserBit drLANE_FAIL).dresserRecord [.lit l, .lit expected.toNat, .lit got.toNat]

theorem laneTest_next (hr : s.running = true) (hg : s.dresser.granted = some (.lane l.val))
    (hl : s.lane l.val = 1 ∨ s.lane l.val = 2) : exec (.laneTest l expected got) s = .next (
      let x := (s.laneCounted l.val).setLane l.val (if s.laneFails l.val expected got then 3 else 0)
      (if s.laneFails l.val expected got then x.laneFailed l.val expected got else x).hostUnit (.lane l.val)
        (s.laneFails l.val expected got) expected.toNat got.toNat l.val) := by
  have hgo : ¬ (!s.running || s.dresser.granted != some (.lane l.val) || (s.lane l.val != 1 && s.lane l.val != 2)) = true := by
    rcases hl with hl | hl <;> simp [hr, hg, hl]
  exact if_neg hgo

/-- A record of Dresser's moves none of its own first parameters. -/
theorem dresserRecord_par (x : State) (snap : List Snap) {pid : Nat} (hp : headPid pid = true) :
    (x.dresserRecord snap).par oDresser pid = x.par oDresser pid :=
  (record_head (O := (· = oDresser)) (by decide) x oDresser rcFault 0x0D snap).par _ _ rfl hp

/-- The failure of a lane's test sets its bit, and moves no count and no lane. -/
theorem laneFailed_spec (x : State) (l : Nat) : let t := x.laneFailed l expected got
    t.dresser = x.dresser ∧ t.par oDresser Pid.Dresser.LANE_TESTS = x.par oDresser Pid.Dresser.LANE_TESTS ∧
      t.bit oDresser Pid.Dresser.DRESSER_STATUS drLANE_FAIL = true ∧ ∀ k, t.lane k = x.lane k := by
  have k : Foot [.ports, .grist] (some [5, 256, 257, 258, 260, 261, 264]) x (x.laneFailed l expected got) :=
    dresserRecord_foot.on (.setBit (.refl _ _ _))
  refine ⟨(k.fld .dresser rfl :), ?_, ?_, fun m => lane_of_foot k m⟩
  · exact (dresserRecord_par _ _ rfl).trans (par_setPar_pid x _ (by decide) (by decide) (by decide))
  · exact (congrArg (bitOf · drLANE_FAIL) (dresserRecord_par _ _ rfl)).trans (bit_setBit_same x (by decide) drLANE_FAIL)

/-- What the test of a lane leaves (R340). -/
theorem laneTest_spec (hr : s.running = true) (hg : s.dresser.granted = some (.lane l.val))
    (hlane : 0 ≤ s.par oDevice Pid.Device.LANE_STATUS) (hl : s.lane l.val = 1 ∨ s.lane l.val = 2)
    (hn : s.par oDresser Pid.Dresser.LANE_TESTS < 4294967295) :
    Runs (.laneTest l expected got) s fun t => t.dresser.granted = none ∧
      t.par oDresser Pid.Dresser.LANE_TESTS = s.par oDresser Pid.Dresser.LANE_TESTS + 1 ∧
      (s.laneFails l.val expected got = true →
        t.lane l.val = 3 ∧ t.bit oDresser Pid.Dresser.DRESSER_STATUS drLANE_FAIL = true) ∧
      (s.laneFails l.val expected got = false → t.lane l.val = 0) := by
  refine ⟨_, laneTest_next hr hg hl, ?_⟩
  dsimp only
  generalize s.laneFails l.val expected got = fails
  let y := s.laneCounted l.val
  let x := y.setLane l.val (if fails then 3 else 0)
  have hcount : y.par oDresser Pid.Dresser.LANE_TESTS = s.par oDresser Pid.Dresser.LANE_TESTS + 1 :=
    par_incPar_of_hi testCount_hi.2 hn
  have hpos : 0 ≤ y.par oDevice Pid.Device.LANE_STATUS := by
    rw [laneCounted_foot.par _ rfl _ _ (by decide) rfl]
    exact hlane
  have hx : x.lane l.val = if fails then 3 else 0 :=
    (lane_setLane y (by split <;> decide) hpos).1.trans (if_pos rfl)
  have hxcount : x.par oDresser Pid.Dresser.LANE_TESTS = s.par oDresser Pid.Dresser.LANE_TESTS + 1 :=
    (setLane_foot.par _ rfl _ _ (by decide) rfl).trans hcount
  cases fails with
  | false =>
    obtain ⟨ts, hts⟩ := hostUnit_eq x (.lane l.val) false expected.toNat got.toNat l.val
    rw [if_neg Bool.false_ne_true, hts]
    exact ⟨rfl, hxcount, fun h => absurd h Bool.false_ne_true, fun _ => hx⟩
  | true =>
    let z := x.laneFailed l.val expected got
    obtain ⟨ts, hts⟩ := hostUnit_eq z (.lane l.val) true expected.toNat got.toNat l.val
    obtain ⟨hd, hzcount, hbit, hz⟩ := laneFailed_spec (expected := expected) (got := got) x l.val
    rw [if_pos rfl, hts]
    exact ⟨congrArg (·.granted) hd, hzcount.trans hxcount, fun _ => ⟨(hz l.val).trans hx, hbit⟩,
      fun h => absurd h.symm Bool.false_ne_true⟩

end

/-! ## The full test -/

/-- A full test resets the control side and keeps what it found for the boot (R342). -/
theorem fullTest_spec {s : State} (first : Option FullFail) (cells logic lanes : List FullFail) (hr : s.running = true)
    (hp : s.dresser.fullPending = true) :
    let fails := first.toList ++ cells ++ logic ++ lanes
    Runs (.fullTest first cells logic lanes) s fun t =>
      t.supply.cs = .reset ∧ t.dresser.fullPending = false ∧ t.nvm.active = none ∧
      t.dresser.fullHard = fails.filterMap failHard ∧
      ∃ x, t.dresser.full = some x ∧ x.kind = 3 ∧ x.state = (if fails = [] then 2 else 3) ∧
        x.fails = ((fails.map failUnitOf).eraseDups).length := by
  have hgo : ¬ (!s.running || !s.dresser.fullPending) = true := by simp [hr, hp]
  refine ⟨_, if_neg hgo, rfl, rfl, rfl, rfl, _, rfl, rfl, ?_, rfl⟩
  exact if_congr List.isEmpty_iff rfl rfl

/-- Settles O54: each unit's results, case by case. -/
theorem dresserUnits : Obligations.DresserUnits := by
  intro s arr c use sy b hr
  refine ⟨fun hc => ⟨fun hhard hnew hn => ?_, fun hn => ?_, ?_⟩, fun a i hg hn => ⟨memorySliceTest_pass hr hg hn,
    memorySliceTest_failCell hr hg, memorySliceTest_uncorrectable hr hg hn⟩, fun k expected got hg =>
    ⟨logicSliceTest_busy, logicSliceTest_idle hr hg⟩, fun l hg hlane => ⟨laneWithdrawal_spec hr hg hlane,
    fun expected got hl hn => ?_⟩, fun first cells logic lanes hp => fullTest_spec first cells logic lanes hr hp⟩
  · obtain ⟨l, hl⟩ := scrubbed_eq s arr.val c.toNat
    refine ⟨_, scrubCodeword_next (.corrected sy b) hr hc, ?_⟩
    dsimp only
    rw [hl]
    exact corrected_spec arr.isLt hhard hnew hn
  · obtain ⟨l, hl⟩ := scrubbed_eq s arr.val c.toNat
    refine ⟨_, scrubCodeword_next (.uncorrectable sy b) hr hc, ?_⟩
    dsimp only
    rw [hl]
    obtain ⟨-, hcount, herr, hstatus⟩ := uncorrectable_spec (s := { s with nvm := { s.nvm with bad := l } }) (c := c.toNat)
      (sy := sy.val) (b := b.val) arr.isLt hn
    exact ⟨hcount, herr, by rw [State.bit, hstatus, bitOf_setBitTo]⟩
  · exact ⟨_, scrubCodeword_next .clean hr hc, fun h => by simpa using (List.mem_filter.1 h).2⟩
  · intro fails
    obtain ⟨t, ht, hgranted, hcount, hfail, hpass⟩ := laneTest_spec (expected := expected) (got := got) hr hg hlane hl hn
    exact ⟨t, ht, hgranted, hcount, fun h => hfail (laneFails_iff.2 h), fun h =>
      hpass (Bool.eq_false_iff.2 fun hf => h (laneFails_iff.1 hf))⟩

end Sys2Proof.Machine

/-! # Proofs: segments start, run and hiccup (O43) -/

namespace Sys2Proof.Machine

open Sys2Proof State

set_option Elab.async false

/-! ## A converter that stops leaves the counts of its segment

A swap writes to its loop, a record to its source's SOURCE_SEQ and to Grist, so that the first parameters of every other
object stand. -/

section
variable {O : Nat → Prop} (hl : ∀ n, ¬ O (oLoop n)) (hg : ¬ O oGrist) (s : State)
include hl hg

theorem loopSwap_head (n : Nat) : HeadKept O s (s.loopSwap n) := by
  unfold State.loopSwap
  extract_lets o old new host a c d w e f
  have hc : HeadKept O s c := ((HeadKept.refl s).setPar (hl n)).setPar (hl n)
  have he : HeadKept O s e := hc.same
  have hf : HeadKept O s f := he.trans (record_head hg ..)
  exact .foot (.foot (.ite (hf.foot askNvm_foot) hf) flumeStopOn_foot) swapsDone_foot

theorem loopStopped_head (n : Nat) : HeadKept O s (s.loopStopped n) := by
  unfold State.loopStopped
  extract_lets a c own d
  have hc : HeadKept O s c := .foot (.ite (.foot (.refl s) flumeStop_foot) (.refl s)) traceStop_foot
  exact .eachOf (fun k x => loopSwap_head hl hg x k) _ (.ite (hc.trans (loopSwap_head hl hg ..)) hc)

theorem outerIdle_head (m : Nat) : HeadKept O s (s.outerIdle m) := by
  have h : HeadKept O s (s.modLoop (24 + m) fun a => { a with running := false, nAct := 0 }) := .same (.refl s)
  unfold State.outerIdle
  exact .ite ((HeadKept.ite h.setObj h).trans (loopStopped_head hl hg ..)) (.refl s)

theorem stopPhase_head (p : Nat) : HeadKept O s (s.stopPhase p) := by
  unfold State.stopPhase
  refine .ite ?_ (.same (.refl s))
  extract_lets a c
  have hc : HeadKept O s c := (HeadKept.same (y := a) (.refl s)).trans (loopStopped_head hl hg ..)
  split
  · exact hc.trans (outerIdle_head hl hg ..)
  · exact hc

theorem stopConverter_head (b : Nat) : HeadKept O s (s.stopConverter b) :=
  .eachOf (fun p x => .ite (stopPhase_head hl hg x p).setObj (stopPhase_head hl hg x p)) _ (.refl s)

end

theorem oLoop_ne_oSeg {b : Nat} (hb : b < 4) (n : Nat) : ¬ oLoop n = oSeg b := by
  unfold oLoop
  split <;> simp only [oPhase, oOuter, oSeg] <;> omega

theorem oGrist_ne_oSeg {b : Nat} (hb : b < 4) : ¬ oGrist = oSeg b := by
  simp only [oGrist, oSeg]
  omega

/-! ## A failed attempt -/

/-- A bit that is set stays set when another is set. -/
theorem bitOf_setBitTo_of_set {v : Int} {n : Nat} (m : Nat) (h : bitOf v n = true) : bitOf (setBitTo v m true) n = true := by
  rcases lt_trichotomy n m with hlt | rfl | hlt
  · rw [bitOf_setBitTo_higher hlt, h]
  · exact bitOf_setBitTo v n
  · unfold setBitTo
    split
    · next hm _ =>
      obtain ⟨j, rfl⟩ := Nat.exists_eq_add_of_lt hlt
      have hdiv (w : Int) : w / 2 ^ (m + j + 1) = w / 2 ^ m / 2 / 2 ^ j := by
        rw [Int.ediv_ediv_of_nonneg (by positivity), Int.ediv_ediv_of_nonneg (by positivity)]
        congr 1
        ring
      have hnext : (v + 2 ^ m) / 2 ^ m = v / 2 ^ m + 1 := by
        rw [Int.add_ediv_of_dvd_right (dvd_refl _), Int.ediv_self (by positivity)]
      have heven : v / 2 ^ m % 2 ≠ 1 := by simpa [bitOf] using hm
      rw [bitOf, hdiv, hnext, show (v / 2 ^ m + 1) / 2 = v / 2 ^ m / 2 by omega, ← hdiv]
      exact h
    · next hb => cases hb
    · exact h

section
variable (s : State) (b : Nat)

/-- A latch event sets the bit of each of its causes. -/
theorem latchFault_bit (o : Nat) {bits : List Nat} {n : Nat} (h : n ∈ bits) :
    (s.latchFault o bits).bit o Pid.FAULT_LATCH n = true := by
  have hset (l : List Nat) (x : State) (hx : x.bit o Pid.FAULT_LATCH n = true ∨ n ∈ l) :
      (l.foldl (fun s b => s.faultBit o b) x).bit o Pid.FAULT_LATCH n = true := by
    induction l generalizing x with
    | nil => exact hx.resolve_right List.not_mem_nil
    | cons m l ih =>
      refine ih _ ?_
      have hpar : (x.faultBit o m).par o Pid.FAULT_LATCH = setBitTo (x.par o Pid.FAULT_LATCH) m true :=
        State.par_setPar_same _ (by decide) _
      rcases hx with hx | hx
      · exact .inl (by rw [State.bit, hpar]; exact bitOf_setBitTo_of_set m hx)
      · rcases List.mem_cons.1 hx with rfl | hx
        · exact .inl (by rw [State.bit, hpar, bitOf_setBitTo])
        · exact .inr hx
  have hevent : (s.faultEvent o bits).bit o Pid.FAULT_LATCH n = true := hset bits _ (.inr h)
  have hseen (x : State) : Foot [.flume, .ports, .hopper, .trace, .loops] (some [305, 307, 385]) x (x.faultSeen o) :=
    faultSeen_foot.within
  unfold State.latchFault
  dsimp only
  split
  · rw [State.bit, (hseen _).par _ rfl _ _ (by decide) rfl]
    exact hevent
  · exact hevent

theorem phasesOfSeg_lt {p : Nat} (h : p ∈ s.phasesOfSeg b) : p < 24 := List.mem_range.1 (List.mem_of_mem_filter h)

/-- Every phase of a converter that stops is off (R100, R112). -/
theorem stopConverter_off : ∀ p ∈ s.phasesOfSeg b, PhaseOff p (s.stopConverter b) := by
  have hwait {p q : Nat} {x : State} (h : PhaseOff q (x.stopPhase p)) : PhaseOff q
      (if (x.stopPhase p).objSt (oPhase p) == osStarting || (x.stopPhase p).objSt (oPhase p) == osActive then
        (x.stopPhase p).setObj (oPhase p) osWaiting else x.stopPhase p) := by
    split <;> exact h
  exact eachOf_sets (P := PhaseOff) (Q := fun _ => True) (fun p _ x _ => hwait (stopPhase_off p x))
    (fun p q x _ _ hq => hwait (stopPhase_keeps_off p q x hq)) (fun _ _ _ => trivial) trivial

/-- The attempt is counted, its converter stopped (R112). -/
def State.attemptCounted (s : State) (b : Nat) : State :=
  let x := s.stopConverter b
  (x.setPar (oSeg b) Pid.Segment.HICCUP_ATTEMPTS (x.par (oSeg b) Pid.Segment.HICCUP_ATTEMPTS + 1)).incPar (oSeg b)
    Pid.Segment.HICCUP_TOTAL

/-- The segment's converter takes note of the attempt with its count and its trigger (R112, R115). -/
def State.attemptNoted (s : State) (b fired : Nat) (count : Int) : State :=
  s.modSeg b fun a =>
    { a with fired := a.fired ||| fired, ramping := false, offTime := decide (count < 3)
             overTick := if fired.testBit 2 then some s.time.tick else a.overTick
             overHold := decide (count < 3) && fired.testBit 2 }

/-- The segment waits for its off-time, or is latched (R112). -/
def State.attemptEnded (s : State) (b fired : Nat) (count : Int) : State :=
  let x := if count < 3 then s.setObj (oSeg b) osWaiting
    else (s.setObj (oSeg b) osLatched).latchFault (oSeg b) (hiccupBits (s.seg b).fired)
  (x.record (oSeg b) rcLatch 0x02 [.lit count, .par (oSeg b) Pid.FAULT_LATCH, .lit fired]).slewsSettle b

theorem failAttempt_eq (fired : Nat) : s.failAttempt b fired =
    let count := (s.stopConverter b).par (oSeg b) Pid.Segment.HICCUP_ATTEMPTS + 1
    ((s.attemptCounted b).attemptNoted b fired count).attemptEnded b fired count := rfl

theorem attemptEnded_foot (fired : Nat) (count : Int) : Foot [.flume, .ports, .hopper, .trace, .loops, .grist]
    (some [1, 2, 5, 257, 258, 260, 261, 264, 305, 307, 385]) s (s.attemptEnded b fired count) :=
  slewsSettle_foot.on (record_foot.on
    (.ite (.setPar (.refl _ _ _)) (latchFault_foot.on (.setPar (.refl _ _ _)))))

theorem attemptEnded_state (fired : Nat) (count : Int) :
    (s.attemptEnded b fired count).objSt (oSeg b) = if count < 3 then osWaiting else osLatched := by
  rw [State.objSt, State.attemptEnded, slewsSettle_foot.par _ rfl _ _ (by decide) rfl,
    record_foot.par _ rfl _ _ (by decide) rfl]
  split
  · exact setObj_objSt _ _ _
  · rw [latchFault_foot.par _ rfl _ _ (by decide) rfl]
    exact setObj_objSt _ _ _

theorem attemptEnded_latched (fired : Nat) {count : Int} (h : ¬ count < 3) :
    (s.attemptEnded b fired count).bit (oSeg b) Pid.FAULT_LATCH flHiccupLimit = true := by
  rw [State.bit, State.attemptEnded, slewsSettle_foot.par _ rfl _ _ (by decide) rfl,
    record_foot.par _ rfl _ _ (by decide) rfl, if_neg h]
  exact latchFault_bit _ _ (by simp [hiccupBits])

/-- The end of an attempt leaves its counts. -/
theorem attemptEnded_head {b : Nat} (hb : b < 4) (fired : Nat) (count : Int) :
    HeadKept (· = oSeg b) s (s.attemptEnded b fired count) :=
  .foot (.trans (.ite (HeadKept.refl s).setObj (.foot (HeadKept.refl s).setObj latchFault_foot))
    (record_head (oGrist_ne_oSeg hb) ..)) slewsSettle_foot

end

section
variable (s : State) {b : Nat} (hb : b < 4)
include hb

theorem hiccupTotal_hi : (findDesc (oSeg b) Pid.Segment.HICCUP_TOTAL).map Desc.hi = some 4294967295 :=
  (by decide : ∀ b < 4, (findDesc (oSeg b) Pid.Segment.HICCUP_TOTAL).map Desc.hi = some 4294967295) b hb

theorem stopConverter_count {pid : Nat} (hp : headPid pid = true) :
    (s.stopConverter b).par (oSeg b) pid = s.par (oSeg b) pid :=
  (stopConverter_head (O := (· = oSeg b)) (oLoop_ne_oSeg hb) (oGrist_ne_oSeg hb) s b).par _ _ rfl hp

theorem attemptCounted_par (h : s.par (oSeg b) Pid.Segment.HICCUP_TOTAL < 4294967295) :
    (s.attemptCounted b).par (oSeg b) Pid.Segment.HICCUP_ATTEMPTS = s.par (oSeg b) Pid.Segment.HICCUP_ATTEMPTS + 1 ∧
      (s.attemptCounted b).par (oSeg b) Pid.Segment.HICCUP_TOTAL = s.par (oSeg b) Pid.Segment.HICCUP_TOTAL + 1 := by
  have htotal (v : Int) : ((s.stopConverter b).setPar (oSeg b) Pid.Segment.HICCUP_ATTEMPTS v).par (oSeg b)
      Pid.Segment.HICCUP_TOTAL = s.par (oSeg b) Pid.Segment.HICCUP_TOTAL := by
    rw [par_setPar_pid _ _ (by decide) (by decide) (by decide), stopConverter_count s hb rfl]
  unfold State.attemptCounted
  constructor
  · exact (par_setPar_pid _ _ (by decide) (by decide) (by decide)).trans
      ((State.par_setPar_same _ (by decide) _).trans (by rw [stopConverter_count s hb rfl]))
  · rw [par_incPar_of_hi (hiccupTotal_hi hb) (by rw [htotal]; exact h), htotal]

/-- What a failed attempt leaves (R112, R114, R115). -/
structure AttemptFailed (s : State) (b fired : Nat) (t : State) : Prop where
  attempts : t.par (oSeg b) Pid.Segment.HICCUP_ATTEMPTS = s.par (oSeg b) Pid.Segment.HICCUP_ATTEMPTS + 1
  total    : t.par (oSeg b) Pid.Segment.HICCUP_TOTAL = s.par (oSeg b) Pid.Segment.HICCUP_TOTAL + 1
  off      : ∀ p ∈ s.phasesOfSeg b, PhaseOff p t
  state    : t.objSt (oSeg b) =
    if s.par (oSeg b) Pid.Segment.HICCUP_ATTEMPTS + 1 < 3 then osWaiting else osLatched
  latch    : ¬ s.par (oSeg b) Pid.Segment.HICCUP_ATTEMPTS + 1 < 3 → t.bit (oSeg b) Pid.FAULT_LATCH flHiccupLimit = true
  offTime  : (t.seg b).offTime = decide (s.par (oSeg b) Pid.Segment.HICCUP_ATTEMPTS + 1 < 3)
  overHold : (t.seg b).overHold = (decide (s.par (oSeg b) Pid.Segment.HICCUP_ATTEMPTS + 1 < 3) && fired.testBit 2)
  overTick : fired.testBit 2 = true → (t.seg b).overTick = some s.time.tick

theorem failAttempt_fails (fired : Nat) (h : s.par (oSeg b) Pid.Segment.HICCUP_TOTAL < 4294967295) :
    AttemptFailed s b fired (s.failAttempt b fired) := by
  obtain ⟨hattempts, htotal⟩ := attemptCounted_par s hb h
  rw [failAttempt_eq, stopConverter_count s hb rfl]
  let count := s.par (oSeg b) Pid.Segment.HICCUP_ATTEMPTS + 1
  let x := (s.attemptCounted b).attemptNoted b fired count
  have hfoot := attemptEnded_foot x b fired count
  have hseg : (x.attemptEnded b fired count).seg b = x.seg b := by rw [State.seg, hfoot.fld .segs rfl, State.seg]
  have hnoted : x.seg b = _ := seg_modSeg (s.attemptCounted b) hb _
  refine ⟨?_, ?_, fun p hp => ?_, attemptEnded_state x b fired count, attemptEnded_latched x b fired, ?_, ?_, fun hover => ?_⟩
  · exact (hfoot.par _ rfl _ _ (by decide) rfl).trans hattempts
  · exact ((attemptEnded_head x hb fired count).par _ _ rfl rfl).trans htotal
  · exact (stopConverter_off s b p hp).same (hfoot.fld .phases rfl)
  · rw [hseg, hnoted]
  · rw [hseg, hnoted]
  · have htime : (s.attemptCounted b).time = s.time := stopConverter_foot.fld .time rfl
    rw [hseg, hnoted, if_pos hover, htime]

end

/-! ## A start -/

section
variable {s x : State} (h : BasisKept s x) (b : Nat)
include h

theorem BasisKept.enabled_oOuter {m : Nat} (hm : m < 8) : x.enabled (oOuter m) = s.enabled (oOuter m) := by
  have hty : objType (oOuter m) = .outerLoop := (by decide : ∀ m < 8, objType (oOuter m) = .outerLoop) m hm
  simp only [State.enabled, hty, h.par _ _ (isLoopObj_oOuter hm) (by decide : Pid.ENABLE ∈ loopBasis)]

theorem BasisKept.loopsOfSeg : x.loopsOfSeg b = s.loopsOfSeg b := by
  refine List.filter_congr fun m hm => ?_
  have hm := List.mem_range.1 hm
  rw [h.enabled_oOuter hm, h.loopSeg hm]

omit h in
theorem outerOf_lt {p m : Nat} (hm : s.outerOf p = some m) : m < 8 := by
  unfold State.outerOf at hm
  dsimp only at hm
  split at hm
  · cases hm
    omega
  · cases hm

theorem BasisKept.outerOf {p : Nat} (hp : p < 24) : x.outerOf p = s.outerOf p := by
  simp only [State.outerOf, h.phases.par p hp Pid.Phase.OUTER_SOURCE (by decide)]

theorem BasisKept.phasesOfSeg : x.phasesOfSeg b = s.phasesOfSeg b := by
  refine List.filter_congr fun p hp => ?_
  rw [h.outerOf (List.mem_range.1 hp)]
  split
  · next m hm =>
    rw [h.enabled_oOuter (outerOf_lt hm), h.loopSeg (outerOf_lt hm)]
  · rfl

/-- A phase is as ready as before, where its state and its lane stand too. -/
theorem BasisKept.phaseReady {p : Nat} (hp : p < 24) (hst : x.objSt (oPhase p) = s.objSt (oPhase p))
    (hph : x.phase p = s.phase p) : x.phaseReady p = s.phaseReady p := by
  simp only [State.phaseReady, State.enabled, objType_oPhase hp, h.phases.par p hp Pid.ENABLE (by decide),
    h.phases.par p hp Pid.Phase.I_LIMIT (by decide), hst, hph]

end

theorem loopsOfSeg_lt {s : State} {b m : Nat} (h : m ∈ s.loopsOfSeg b) : m < 8 := List.mem_range.1 (List.mem_of_mem_filter h)

section
variable (s : State) (b : Nat)

/-- The segment is STARTING, and its bus ramps (R110). -/
def State.segStarting (s : State) (b : Nat) : State :=
  (s.setObj (oSeg b) osStarting).modSeg b fun a => { a with overHold := false, ramping := true }

/-- The loops of a segment that starts take their set-points from its bus (R110). -/
def State.setpointsFromBus (s : State) (b : Nat) (v : Int) : State :=
  s.eachOf (s.loopsOfSeg b) fun m s =>
    (s.setPar (oOuter m) Pid.Loop.SETPOINT_NOW (min v (s.par (oOuter m) Pid.Loop.SETPOINT_TARGET))).modLoop (24 + m)
      fun a => { a.clearHistory with rem := 0, uvNs := none }

/-- The ready phases of a segment that starts wait for their soft start (R110). -/
def State.phasesWait (s : State) (b : Nat) : State :=
  s.eachOf ((s.phasesOfSeg b).filter s.phaseReady) fun p s =>
    s.modPhase p fun a => { a with wait := some .soft, reefed := false, shed := false }

theorem segStart_eq : s.segStart b =
    (((s.segStarting b).setpointsFromBus b (s.par (oSeg b) Pid.Segment.V_FAST)).phasesWait b).slewsSettle b := rfl

theorem segStarting_basis : BasisKept s (s.segStarting b) := by
  have h : BasisKept s (s.setObj (oSeg b) osStarting) := .setPid (.refl s)
  exact h.same

theorem setpointsFromBus_foot (v : Int) : Foot [.loops] (some [268]) s (s.setpointsFromBus b v) :=
  eachOf_foot (.refl _ _ _) fun _ _ h => modLoop_foot.on h.setPar

theorem phasesWait_foot : Foot [.phases] (some []) s (s.phasesWait b) :=
  eachOf_foot (.refl _ _ _) fun _ _ h => modPhase_foot.on h

theorem setpointsFromBus_par (v : Int) : ∀ m ∈ s.loopsOfSeg b, (s.setpointsFromBus b v).par (oOuter m) Pid.Loop.SETPOINT_NOW =
    min v (s.par (oOuter m) Pid.Loop.SETPOINT_TARGET) := by
  refine eachOf_sets
    (P := fun m x => x.par (oOuter m) Pid.Loop.SETPOINT_NOW = min v (s.par (oOuter m) Pid.Loop.SETPOINT_TARGET))
    (Q := fun x => ∀ m, x.par (oOuter m) Pid.Loop.SETPOINT_TARGET = s.par (oOuter m) Pid.Loop.SETPOINT_TARGET)
    (fun m _ x hx => ?_) (fun i j x hij _ hj => ?_) (fun i x hx m => ?_) fun _ => rfl
  · exact (State.par_setPar_same x (by decide) _).trans (by rw [hx])
  · refine (State.par_setPar_other x _ fun hk => hij ?_).trans hj
    have := ((keyOf_inj (by decide) (by decide)).1 hk).1
    simp only [oOuter] at this
    omega
  · exact (State.par_setPar_other x _ fun hk => by cases ((keyOf_inj (by decide) (by decide)).1 hk).2).trans (hx m)

theorem phasesWait_wait : ∀ p ∈ s.phasesOfSeg b, s.phaseReady p = true → ((s.phasesWait b).phase p).wait = some .soft := by
  intro p hp hready
  refine eachOf_sets (P := fun p x => (x.phase p).wait = some .soft) (Q := fun _ => True) (fun i hi x _ => ?_)
    (fun i j x hij _ hj => ?_) (fun _ _ _ => trivial) trivial p (List.mem_filter.2 ⟨hp, hready⟩)
  · rw [phase_modPhase x (phasesOfSeg_lt s b (List.mem_of_mem_filter hi))]
  · rw [phase_modPhase_other x hij]
    exact hj

/-- A segment's soft start has begun (R110). -/
structure SegmentBegun (s : State) (b : Nat) (t : State) : Prop where
  state     : t.objSt (oSeg b) = osStarting
  setpoints : ∀ m ∈ s.loopsOfSeg b, t.par (oOuter m) Pid.Loop.SETPOINT_NOW =
    min (s.par (oSeg b) Pid.Segment.V_FAST) (s.par (oOuter m) Pid.Loop.SETPOINT_TARGET)
  phases    : ∀ p ∈ s.phasesOfSeg b, s.phaseReady p = true → (t.phase p).wait = some .soft

variable {b} (hb : b < 4)
include hb

/-- A segment that starts leaves the states of its phases. -/
theorem segStarting_phaseReady {p : Nat} (hp : p < 24) (v : Int) :
    ((s.segStarting b).setpointsFromBus b v).phaseReady p = s.phaseReady p := by
  have hfoot := setpointsFromBus_foot (s.segStarting b) b v
  have hne : oPhase p ≠ oSeg b := by simp only [oPhase, oSeg]; omega
  refine BasisKept.phaseReady ((segStarting_basis s b).foot hfoot) hp ?_ (phase_of_foot hfoot p)
  exact (hfoot.par _ rfl _ _ (by decide) rfl).trans (ParKept.setObject (.refl s) hne)

theorem segStart_begins : SegmentBegun s b (s.segStart b) := by
  let v := s.par (oSeg b) Pid.Segment.V_FAST
  let x := s.segStarting b
  let y := x.setpointsFromBus b v
  have hx : BasisKept s x := segStarting_basis s b
  have hy : BasisKept s y := hx.foot (setpointsFromBus_foot x b v)
  have hrest : Foot [.phases, .ports, .hopper, .loops] (some [385]) y (s.segStart b) :=
    slewsSettle_foot.on (phasesWait_foot y b).within
  refine ⟨?_, fun m hm => ?_, fun p hp hready => ?_⟩
  · rw [State.objSt, hrest.par _ rfl _ _ (by decide) rfl, (setpointsFromBus_foot x b v).par _ rfl _ _ (by decide) rfl]
    exact setObj_objSt s _ _
  · rw [hrest.par _ rfl _ _ (by decide) rfl, setpointsFromBus_par x b v m (hx.loopsOfSeg b ▸ hm)]
    have htarget : x.par (oOuter m) Pid.Loop.SETPOINT_TARGET = s.par (oOuter m) Pid.Loop.SETPOINT_TARGET :=
      ParKept.setPid (.refl s)
    rw [htarget]
  · rw [segStart_eq, phase_of_foot slewsSettle_foot p]
    refine phasesWait_wait y b p (hy.phasesOfSeg b ▸ hp) ?_
    rw [segStarting_phaseReady s hb (phasesOfSeg_lt s b hp), hready]

omit hb in
theorem segStart_offTime (b : Nat) : ((s.segStart b).seg b).offTime = (s.seg b).offTime := by
  have hrest : Foot [.phases, .ports, .hopper, .loops] (some [268, 385]) (s.segStarting b) (s.segStart b) :=
    slewsSettle_foot.on ((phasesWait_foot _ b).on (setpointsFromBus_foot _ b _).within)
  rw [State.seg, hrest.fld .segs rfl]
  exact seg_modSeg_keeps (s.setObj (oSeg b) osStarting) (P := SegAux.offTime) (by intro _; rfl) b

end

/-! ## The commands -/

section
variable {s : State} {b : Fin 4}

theorem segmentStart_next (h : s.segMayStart b.val = true) : exec (.segmentStart b) s = .next (s.segStart b.val) := if_pos h

theorem hiccupOffTimeEnd_next (hm : s.miller3 = true) (ho : (s.seg b.val).offTime = true) :
    let u := s.modSeg b.val fun a => { a with offTime := false }
    exec (.hiccupOffTimeEnd b) s = if u.segMayStart b.val then .next (u.segStart b.val) else .next u :=
  if_pos (by simp [hm, ho])

theorem runUndervolt_next (hm : s.miller3 = true) (hr : s.segRuns b.val = true)
    (hv : s.par (oSeg b.val) Pid.Segment.V_FAST < s.par (oSeg b.val) Pid.Segment.SEG_UV) :
    exec (.runUndervolt b) s = .next (s.failAttempt b.val trRUN_UNDERVOLT) :=
  if_pos (by simp only [hm, hr, hv, Bool.and_self, decide_true])

theorem overvolt_next (hw : s.wheelRuns = true) (hr : s.segRuns b.val = true ∨ s.objNow (oSeg b.val) = osStarting)
    (hv : s.par (oSeg b.val) Pid.Segment.SEG_OV < (s.seg b.val).chan.value) :
    exec (.overvolt b) s = .next (s.failAttempt b.val trOVERVOLT) :=
  if_pos (by rcases hr with hr | hr <;> simp [hw, hr, hv])

/-- A segment whose set-points are there is ACTIVE (R110). -/
theorem segmentActive_runs (hm : s.miller3 = true) (hst : s.objSt (oSeg b.val) = osStarting)
    (hen : s.enabled (oSeg b.val) = true)
    (hthere : ∀ m ∈ s.loopsOfSeg b.val,
      s.par (oOuter m) Pid.Loop.SETPOINT_NOW = s.par (oOuter m) Pid.Loop.SETPOINT_TARGET ∧
      within2 (s.par (oSeg b.val) Pid.Segment.V_FAST) (s.par (oOuter m) Pid.Loop.SETPOINT_TARGET) = true) :
    Runs (.segmentActive b) s fun t => t.objSt (oSeg b.val) = osActive ∧
      t.par (oSeg b.val) Pid.Segment.HICCUP_ATTEMPTS = 0 ∧ (t.seg b.val).activeTick = s.time.tick := by
  let ends := s.eachOf (s.phasesOfSeg b.val) fun p s => s.modPhase p fun a => { a with softEnd := a.softStart }
  have hends : Foot [.phases] (some []) s ends := eachOf_foot (.refl _ _ _) fun _ _ h => modPhase_foot.on h
  let x := (ends.setObj (oSeg b.val) osActive).setPar (oSeg b.val) Pid.Segment.HICCUP_ATTEMPTS 0
  refine ⟨x.modSeg b.val fun a => { a with fired := 0, ramping := false, activeTick := x.time.tick }, if_pos ?_, ?_, ?_, ?_⟩
  · simp only [hm, hst, hen, beq_self_eq_true, Bool.and_self, Bool.true_and, List.all_eq_true, Bool.and_eq_true, beq_iff_eq]
    exact hthere
  · exact (par_setPar_pid _ _ (by decide) (by decide) (by decide)).trans (setObj_objSt ends _ _)
  · exact State.par_setPar_same _ (by decide) _
  · rw [seg_modSeg x b.isLt]
    exact congrArg TimeState.tick (hends.fld .time rfl)

end

/-- Settles O43: what begins a soft start, what ends it, and what a failed attempt leaves. -/
theorem segmentsFollow : Obligations.SegmentsFollow := by
  refine ⟨fun s b => ?_, fun s b => ?_⟩
  · intro begun
    refine ⟨fun h => ?_, segmentActive_runs, fun hm ho => ?_⟩
    · obtain ⟨hst, hset, hph⟩ := segStart_begins s b.isLt
      exact ⟨_, segmentStart_next h, hst, hset, hph⟩
    · let u := s.modSeg b.val fun a => { a with offTime := false }
      have hnext := hiccupOffTimeEnd_next hm ho
      refine ⟨fun h => ?_, fun h => hnext.trans (if_neg (by rw [h]; exact Bool.false_ne_true))⟩
      obtain ⟨hst, hset, hph⟩ := segStart_begins u b.isLt
      refine ⟨_, hnext.trans (if_pos h), ⟨hst, hset, hph⟩, ?_⟩
      rw [segStart_offTime, seg_modSeg s b.isLt]
  · intro o n failed htotal
    have hfailed (fired : Nat) (t : State) (h : AttemptFailed s b.val fired t) : failed t := by
      refine ⟨h.attempts, h.total, h.off, fun hn => ⟨?_, ?_⟩, fun hn => ⟨?_, ?_, h.latch (Int.not_lt.2 hn)⟩⟩
      · rw [h.state, if_pos hn]
      · rw [h.offTime, decide_eq_true hn]
      · rw [h.state, if_neg (Int.not_lt.2 hn)]
      · rw [h.offTime, decide_eq_false (Int.not_lt.2 hn)]
    have hattempt (fired : Nat) := failAttempt_fails s b.isLt fired htotal
    refine ⟨fun hm hr hv => ⟨_, runUndervolt_next hm hr hv, hfailed _ _ (hattempt _)⟩, fun hw hr hv => ?_⟩
    have hover := hattempt trOVERVOLT
    refine ⟨_, overvolt_next hw hr hv, hfailed _ _ hover, ?_, hover.overTick (by decide)⟩
    rw [hover.overHold, show trOVERVOLT.testBit 2 = true by decide, Bool.and_true]

end Sys2Proof.Machine

/-! # Proofs: phases follow their carrier, and the synchronised group SYNCIN (O41) -/

namespace Sys2Proof.Machine

open Sys2Proof State

set_option Elab.async false

/-! ## One phase starts or stops -/

section
variable (s : State) {p q : Nat}

theorem phase_setObj (o : Nat) (v : Int) : (s.setObj o v).phase q = s.phase q := rfl

/-- A phase that starts switches, and its first period starts (R77, R98, R109). -/
theorem startPhase_starts (hp : p < 24) (soft : Bool) (u : Int) :
    let a := (s.startPhase p soft u).phase p
    a.switching = true ∧ a.wait = none ∧ a.softStart = soft ∧ a.periods = 1 := by
  simp only [State.startPhase, State.beginPeriod, phase_modPhase _ hp, phase_setObj, and_self]

theorem startPhase_other (h : p ≠ q) (soft : Bool) (u : Int) : (s.startPhase p soft u).phase q = s.phase q := by
  simp only [State.startPhase, State.beginPeriod, phase_modPhase_other _ h, phase_setObj]
  rfl

theorem stopPhase_other (h : p ≠ q) : (s.stopPhase p).phase q = s.phase q := by
  obtain ⟨g, hphases, -, -⟩ := stopPhase_phases s p
  rw [phase_of_phases hphases, phase_modPhase_other s h]

/-- A phase that stops waits for no start. -/
theorem stopPhase_drops_wait (hp : p < 24) : ((s.stopPhase p).phase p).wait = none := by
  unfold State.stopPhase
  split
  · extract_lets a b
    have ha : (a.phase p).wait = none := by rw [phase_modPhase s hp]
    have hb : b.phase p = a.phase p := phase_of_foot loopStopped_foot p
    split
    · rw [phase_of_foot outerIdle_foot, hb, ha]
    · rw [hb, ha]
  · rw [phase_modPhase s hp]

end

/-! ## A period's start, and a failed phase's notice -/

section
variable {s : State} {p : Fin 24}

/-- A switching phase takes its shadow duty (R95, R98). -/
theorem pwmPeriodStart_switching (hl : s.linkUp = true) (hp : s.psdPowered = true) (hsw : (s.phase p.val).switching = true) :
    Runs (.pwmPeriodStart p) s fun t => (t.phase p.val).duty = s.limitedDuty p.val (s.phase p.val).shadow ∧
      (t.phase p.val).periods = (s.phase p.val).periods + 1 ∧ (t.phase p.val).moving = false := by
  let ended := (s.phase p.val).softEnd
  let x := (s.beginPeriod p.val).modPhase p.val fun a => { a with softStart := a.softStart && !ended, softEnd := false }
  have hnext : exec (.pwmPeriodStart p) s = .next (if ended then x.setObj (oPhase p.val) osActive else x) := by
    show execPwmPeriodStart p s = _
    simp only [execPwmPeriodStart, hl, hp, hsw, Bool.not_true, Bool.or_self, Bool.false_eq_true, if_false, if_true]
    rfl
  have hx : x.phase p.val = _ := phase_modPhase (s.beginPeriod p.val) p.isLt _
  have hphase : (if ended then x.setObj (oPhase p.val) osActive else x).phase p.val = x.phase p.val := by split <;> rfl
  refine ⟨_, hnext, ?_⟩
  dsimp only
  rw [hphase, hx, State.beginPeriod, phase_modPhase s p.isLt]
  exact ⟨rfl, rfl, rfl⟩

/-- A phase that waits for its soft start, or that is ready on I_REF_FIXED, starts (R15, R110). -/
theorem pwmPeriodStart_starts (hw : s.wheelRuns = true) (hsw : (s.phase p.val).switching = false)
    (h : (s.phase p.val).wait = some .soft ∨ s.loneReady p.val = true) :
    Runs (.pwmPeriodStart p) s fun t => (t.phase p.val).switching = true ∧ (t.phase p.val).wait = none ∧
      (t.phase p.val).softStart = true ∧ (t.phase p.val).periods = 1 := by
  have hgo : s.linkUp = true ∧ s.psdPowered = true := by
    simp only [State.wheelRuns, Bool.and_eq_true] at hw
    exact ⟨hw.1.2, hw.2⟩
  let x := s.startPhase p.val true 0
  have hnext : exec (.pwmPeriodStart p) s =
      if (s.phase p.val).wait == some .soft then .next x
      else if s.loneReady p.val then .next (x.modPhase p.val fun a => { a with softEnd := true }) else .next s := by
    show execPwmPeriodStart p s = _
    simp only [execPwmPeriodStart, hgo, hsw, hw, Bool.not_true, Bool.or_self, Bool.false_eq_true, if_false]
    rfl
  have hx := startPhase_starts s p.isLt true 0
  by_cases hs : (s.phase p.val).wait = some .soft
  · exact ⟨x, hnext.trans (if_pos (by simp [hs])), hx⟩
  · refine ⟨x.modPhase p.val fun a => { a with softEnd := true }, ?_, ?_⟩
    · rw [hnext, if_neg (by simpa using hs), if_pos (h.resolve_left hs)]
    · dsimp only
      rw [phase_modPhase x p.isLt]
      exact hx

theorem failCount_hi : ∀ p < 24, (findDesc (oPhase p) Pid.Phase.FAIL_COUNT).map Desc.hi = some 4294967295 := by decide

/-- Miller counts a removed phase (R120). -/
theorem phaseFailNotice_counts (hm : s.miller3 = true) (hn : (s.phase p.val).notice = true)
    (hc : s.par (oPhase p.val) Pid.Phase.FAIL_COUNT < 4294967295) :
    Runs (.phaseFailNotice p) s fun t => (t.phase p.val).notice = false ∧
      t.par (oPhase p.val) Pid.Phase.FAIL_COUNT = s.par (oPhase p.val) Pid.Phase.FAIL_COUNT + 1 := by
  let x := s.modPhase p.val fun a => { a with notice := false }
  have hnext := show exec (.phaseFailNotice p) s = _ from if_pos (by simp [hm, hn])
  refine ⟨_, hnext, ?_, ?_⟩
  · rw [phase_of_foot record_foot]
    exact congrArg PhaseAux.notice (phase_modPhase s p.isLt _)
  · rw [record_foot.par _ rfl _ _ (by decide) rfl]
    exact par_incPar_of_hi (s := x) (failCount_hi p.val p.isLt) hc

end

/-! ## A group's boundary

A boundary sheds phases, adds phases, takes those that have another carrier out of the group, and gives angles to the
phases that switch then. -/

section
variable (s : State) (g : List Nat)

theorem group_lt {f : Nat} : ∀ p ∈ s.group f, p < 24 := fun _ h => List.mem_range.1 (List.mem_of_mem_filter h)

theorem group_nodup (f : Nat) : (s.group f).Nodup := List.nodup_range.filter _

/-! ### Sheds -/

/-- The phases that a boundary sheds. -/
def State.shedding (s : State) (g : List Nat) : List Nat := g.filter fun p => (s.phase p).shed && (s.phase p).switching

/-- They stop, reefed. -/
def State.phasesShed (s : State) (g : List Nat) : State :=
  s.eachOf (s.shedding g) fun p s =>
    ((s.stopPhase p).modPhase p fun a => { a with reefed := true }).setObj (oPhase p) osWaiting

/-- A phase that has been shed: it is off and reefed, and waits for no start. -/
structure PhaseShed (p : Nat) (s : State) : Prop where
  off    : (s.phase p).switching = false
  reefed : (s.phase p).reefed = true
  wait   : (s.phase p).wait = none

theorem phasesShed_shed (hg : ∀ p ∈ g, p < 24) : ∀ p ∈ s.shedding g, PhaseShed p (s.phasesShed g) := by
  refine eachOf_sets (P := PhaseShed) (Q := fun _ => True) (fun p hp x _ => ?_) (fun p q x hpq _ hq => ?_)
    (fun _ _ _ => trivial) trivial
  · have hlt := hg p (List.mem_of_mem_filter hp)
    have hphase := phase_modPhase (x.stopPhase p) hlt fun a => { a with reefed := true }
    constructor <;> rw [phase_setObj, hphase]
    · exact stopPhase_off p x
    · exact stopPhase_drops_wait x hlt
  · have hphase : (((x.stopPhase p).modPhase p fun a => { a with reefed := true }).setObj (oPhase p) osWaiting).phase q =
        x.phase q := by rw [phase_setObj, phase_modPhase_other _ hpq, stopPhase_other x hpq]
    obtain ⟨hoff, hreefed, hwait⟩ := hq
    constructor <;> rw [hphase] <;> assumption

theorem phasesShed_other {q : Nat} (h : q ∉ s.shedding g) : (s.phasesShed g).phase q = s.phase q := by
  refine List.foldlRecOn (motive := fun x : State => x.phase q = s.phase q) _ _ rfl fun x hx p hp => ?_
  have hpq : p ≠ q := fun he => h (he ▸ hp)
  rw [phase_setObj, phase_modPhase_other _ hpq, stopPhase_other x hpq, hx]

/-! ### Adds -/

/-- The phases that a boundary adds. -/
def State.adding (s : State) (g : List Nat) : List Nat :=
  g.filter fun p => (s.phase p).wait == some .reef && !(s.phase p).switching

/-- Phases start from their outputs, one after another. -/
def State.startAll (s : State) (l : List (Nat × Int)) : State := l.foldl (fun s e => s.startPhase e.1 false e.2) s

theorem startAll_other {l : List (Nat × Int)} {q : Nat} (h : q ∉ l.map Prod.fst) : (s.startAll l).phase q = s.phase q :=
  List.foldlRecOn (motive := fun x : State => x.phase q = s.phase q) _ _ rfl fun x hx e he =>
    (startPhase_other x (fun hq => h (List.mem_map.2 ⟨e, he, hq⟩)) false e.2).trans hx

theorem startAll_switching {l : List (Nat × Int)} {q : Nat} (hq : q < 24) (h : q ∈ l.map Prod.fst) :
    ((s.startAll l).phase q).switching = true := by
  suffices hall : ∀ s : State, (s.phase q).switching = true ∨ q ∈ l.map Prod.fst →
      ((s.startAll l).phase q).switching = true from hall s (.inr h)
  clear h
  induction l with
  | nil => exact fun s h => h.resolve_right List.not_mem_nil
  | cons e l ih =>
    intro s h
    refine ih (s.startPhase e.1 false e.2) ?_
    by_cases he : e.1 = q
    · exact .inl (he ▸ (startPhase_starts s (he ▸ hq) false e.2).1)
    · rw [startPhase_other s he]
      exact h.imp_right fun hm => (List.mem_cons.1 hm).resolve_left (Ne.symm he)

/-- Collecting one pair for each of a list gives the list back as their firsts. -/
theorem collect_fst (f : Nat → State → Int × State) (l : List Nat) :
    ((s.collect l fun p s => ([(p, (f p s).1)], (f p s).2)).1).map Prod.fst = l := by
  suffices hall : ∀ a : List (Nat × Int) × State,
      ((l.foldl (fun a p => (a.1 ++ [(p, (f p a.2).1)], (f p a.2).2)) a).1).map Prod.fst = a.1.map Prod.fst ++ l from
    hall ([], s)
  induction l with
  | nil => simp
  | cons p l ih => intro a; rw [List.foldl_cons, ih]; simp

/-- The phases that wait to be added start from outputs found beforehand (R109, R117, R121). -/
theorem addPhases_eq : ∃ x starts, Foot [.draws] (some []) s x ∧ starts.map Prod.fst = s.adding g ∧
    s.addPhases g = x.startAll starts := by
  let c := s.collect (s.adding g) fun p s => ([(p, (s.reefOutput p).1)], (s.reefOutput p).2)
  exact ⟨c.2, c.1, collect_foot (.refl _ _ _) fun _ _ h => reefOutput_foot.on h,
    collect_fst s (fun p s => s.reefOutput p) (s.adding g), rfl⟩

theorem addPhases_other {q : Nat} (h : q ∉ s.adding g) : (s.addPhases g).phase q = s.phase q := by
  obtain ⟨x, starts, hfoot, hfst, heq⟩ := addPhases_eq s g
  rw [heq, startAll_other x (hfst ▸ h), phase_of_foot hfoot]

theorem addPhases_switching {q : Nat} (hq : q < 24) (h : q ∈ s.adding g) : ((s.addPhases g).phase q).switching = true := by
  obtain ⟨x, starts, -, hfst, heq⟩ := addPhases_eq s g
  rw [heq]
  exact startAll_switching x hq (hfst ▸ h)

/-! ### The phases after the sheds and adds -/

/-- The group's sheds, adds and changes of F_PWM have taken effect. -/
def State.regrouped (s : State) (g : List Nat) : State := ((s.phasesShed g).addPhases g).leaveGroup g

/-- Leaving a group changes of a phase only the carrier that was in force. -/
theorem leaveGroup_keeps {α : Type} {P : PhaseAux → α} (hP : ∀ a w, P { a with oldFreq := w } = P a) (q : Nat) :
    P ((s.leaveGroup g).phase q) = P (s.phase q) :=
  eachOf_keeps (P := fun x => P (x.phase q) = P (s.phase q))
    (fun _ x hx => (phase_modPhase_keeps x (P := P) (fun a => hP a none) q).trans hx) _ rfl

theorem regrouped_shed (hg : ∀ p ∈ g, p < 24) {p : Nat} (hp : p ∈ s.shedding g) :
    ((s.regrouped g).phase p).switching = false ∧ ((s.regrouped g).phase p).reefed = true := by
  obtain ⟨hoff, hreefed, hwait⟩ := phasesShed_shed s g hg p hp
  have hstays : p ∉ (s.phasesShed g).adding g := fun h => by simpa [hwait] using (List.mem_filter.1 h).2
  rw [State.regrouped, leaveGroup_keeps _ _ (P := PhaseAux.switching) (by intro _ _; rfl),
    leaveGroup_keeps _ _ (P := PhaseAux.reefed) (by intro _ _; rfl), addPhases_other _ _ hstays]
  exact ⟨hoff, hreefed⟩

theorem regrouped_added (hg : ∀ p ∈ g, p < 24) {p : Nat} (hp : p ∈ s.adding g) :
    ((s.regrouped g).phase p).switching = true := by
  obtain ⟨hmem, hwaits⟩ := List.mem_filter.1 hp
  have hoff : (s.phase p).switching = false := by
    simp only [Bool.and_eq_true, Bool.not_eq_true'] at hwaits
    exact hwaits.2
  have hstays : p ∉ s.shedding g := fun h => by simpa [hoff] using (List.mem_filter.1 h).2
  have hadding : p ∈ (s.phasesShed g).adding g := List.mem_filter.2 ⟨hmem, by rw [phasesShed_other s g hstays]; exact hwaits⟩
  rw [State.regrouped, leaveGroup_keeps _ _ (P := PhaseAux.switching) (by intro _ _; rfl)]
  exact addPhases_switching _ g (hg p hmem) hadding

/-! ### What follows leaves the group as it is -/

/-- What says whether a phase switches, is reefed, and on which carrier it runs. -/
def PhaseAux.grouping (a : PhaseAux) : Bool × Bool × Option Nat := (a.switching, a.reefed, a.oldFreq)

variable {s} in
/-- The group is that of the phases' ENABLE, F_PWM and carriers in force (R93). -/
theorem group_of_foot {x : State} {fs : List Fld} {ps : List Nat} (k : Foot fs (some ps) s x)
    (h : ∀ p, (x.phase p).oldFreq = (s.phase p).oldFreq) (f : Nat) (hen : ps.contains Pid.ENABLE = false := by rfl)
    (hf : ps.contains Pid.Phase.F_PWM = false := by rfl) : x.group f = s.group f := by
  refine List.filter_congr fun p hp => ?_
  simp only [State.enabled, objType_oPhase (List.mem_range.1 hp), State.freqOf, h p,
    k.par _ rfl (oPhase p) Pid.ENABLE (by decide) hen, k.par _ rfl (oPhase p) Pid.Phase.F_PWM (by decide) hf]

theorem takeAngle_grouping (p a : Nat) (fresh : Bool) (q : Nat) :
    ((s.takeAngle p a fresh).phase q).grouping = (s.phase q).grouping :=
  phase_modPhase_keeps s (P := PhaseAux.grouping) (by intro _; rfl) q

theorem distribute_grouping (m q : Nat) : ((s.distribute m).phase q).grouping = (s.phase q).grouping :=
  eachOf_keeps (P := fun x => (x.phase q).grouping = (s.phase q).grouping)
    (fun p x hx => (phase_modPhase_keeps x (P := PhaseAux.grouping) (by intro _; rfl) q).trans hx) _ rfl

theorem updateNAct_grouping (m q : Nat) : ((s.updateNAct m).phase q).grouping = (s.phase q).grouping := by
  unfold State.updateNAct
  extract_lets now x
  split
  · rfl
  · have hx : x.phase q = s.phase q := phase_of_foot flumeStopOn_foot q
    rw [distribute_grouping, phase_of_foot modLoop_foot, hx]

/-! ### Angles -/

/-- Phases take angles, one after another. -/
def State.takeAngles (s : State) (l : List (Nat × Nat)) (angle : Nat × Nat → Nat) (old : List Nat) : State :=
  l.foldl (fun s e => s.takeAngle e.1 (angle e) (!old.contains e.1)) s

section
variable (l : List (Nat × Nat)) (angle : Nat × Nat → Nat) (old : List Nat)

theorem takeAngles_foot : Foot [.phases] (some [Pid.Phase.ANGLE_NOW]) s (s.takeAngles l angle old) :=
  .foldl (.refl _ _ _) fun _ _ h => takeAngle_foot.on h

theorem takeAngles_grouping (q : Nat) : ((s.takeAngles l angle old).phase q).grouping = (s.phase q).grouping :=
  List.foldlRecOn (motive := fun x : State => (x.phase q).grouping = (s.phase q).grouping) _ _ rfl fun x hx e _ =>
    (takeAngle_grouping x e.1 _ _ q).trans hx

theorem takeAngles_other {q : Nat} (h : q ∉ l.map Prod.fst) :
    (s.takeAngles l angle old).par (oPhase q) Pid.Phase.ANGLE_NOW = s.par (oPhase q) Pid.Phase.ANGLE_NOW := by
  refine List.foldlRecOn
    (motive := fun x : State => x.par (oPhase q) Pid.Phase.ANGLE_NOW = s.par (oPhase q) Pid.Phase.ANGLE_NOW) _ _ rfl
    fun x hx e he => (State.par_setPar_other _ _ fun hk => h (List.mem_map.2 ⟨e, he, ?_⟩)).trans hx
  have hobj := ((keyOf_inj (by decide) (by decide)).1 hk).1
  simp only [oPhase] at hobj
  omega

/-- Each phase has the angle that it has taken. -/
theorem takeAngles_par (hnd : (l.map Prod.fst).Nodup) :
    ∀ e ∈ l, (s.takeAngles l angle old).par (oPhase e.1) Pid.Phase.ANGLE_NOW = angle e := by
  induction l generalizing s with
  | nil => exact fun _ h => absurd h List.not_mem_nil
  | cons d l ih =>
    obtain ⟨hd, hl⟩ := List.nodup_cons.1 hnd
    intro e he
    rcases List.mem_cons.1 he with rfl | he
    · exact (takeAngles_other _ l angle old hd).trans (State.par_setPar_same _ (by decide) _)
    · exact ih _ hl e he

end

theorem roundDiv_nonneg {n d : Int} (hn : 0 ≤ n) (hd : 0 ≤ d) : 0 ≤ roundDiv n d := by
  unfold roundDiv
  split
  · exact le_rfl
  · simp only [Int.not_lt.2 hd, Int.not_lt.2 hn, if_false]
    exact Int.ediv_nonneg (by omega) (by omega)

/-- The angle of the k-th of n phases that share a carrier (R94). -/
def evenAngle (n : Nat) (e : Nat × Nat) : Nat := (roundDiv (e.2 * 65536 : Nat) (n : Nat)).toNat

theorem evenAngle_cast (n : Nat) (e : Nat × Nat) : (evenAngle n e : Int) = roundDiv (e.2 * 65536 : Nat) (n : Nat) :=
  Int.toNat_of_nonneg (roundDiv_nonneg (Int.natCast_nonneg _) (Int.natCast_nonneg _))

/-! ### The boundary -/

/-- The synchronised group's timebase glides at its boundary (R102, R103). -/
def State.glided (s : State) (f : Nat) : State := if f == s.wheel.syncOf && s.psdPowered then s.glideStep else s

/-- The switching phases of a group. -/
def State.groupOn (s : State) (f : Nat) : List Nat := (s.group f).filter fun p => (s.phase p).switching

/-- The group's switching phases take their angles (R94). -/
def State.angled (s : State) (f : Nat) (old : List Nat) : State :=
  s.takeAngles (s.groupOn f).zipIdx (evenAngle (s.groupOn f).length) old

/-- The loops that the group feeds take their N_ACT (R71). -/
def State.nActUpdated (s : State) (loops : List Nat) : State := s.eachOf loops fun m s => s.updateNAct m

theorem groupBoundary_eq (f : Word) : exec (.groupBoundary f) s =
    let x := s.glided f.toNat
    let g := x.group f.toNat
    if !x.wheelRuns || g.isEmpty then .next x
    else
      let y := x.phasesShed g
      let z := (x.regrouped g).angled f.toNat (g.filter fun p => (y.phase p).switching)
      .next (z.nActUpdated ((List.range 8).filter fun m => g.any fun p => z.outerOf p == some m)).syncAlone := rfl

theorem glided_foot (f : Nat) : Foot [.wheel, .draws] (some [290]) s (s.glided f) := .ite glideStep_foot (.refl _ _ _)

theorem glided_group (f : Nat) : (s.glided f).group f = s.group f :=
  group_of_foot (glided_foot s f) (fun p => by rw [phase_of_foot (glided_foot s f)]) f

theorem glided_wheelRuns (f : Nat) : (s.glided f).wheelRuns = s.wheelRuns := by
  have k := glided_foot s f
  have hsupply : (s.glided f).supply = s.supply := k.fld .supply rfl
  simp only [State.wheelRuns, State.running, State.linkUp, State.psdPowered, hsupply,
    k.par _ rfl oDevice Pid.Device.UHLES_STATUS (by decide) rfl]

/-- What follows the angles. -/
theorem boundaryEnd_foot (l : List Nat) : Foot [.phases, .flume, .ports, .hopper, .loops, .wheel] (some [290, 291, 305, 307, 385])
    s (s.nActUpdated l).syncAlone :=
  syncAlone_foot.on (eachOf_foot (.refl _ _ _) fun _ _ h => updateNAct_foot.on h)

theorem boundaryEnd_grouping (l : List Nat) (q : Nat) : (((s.nActUpdated l).syncAlone).phase q).grouping = (s.phase q).grouping := by
  rw [phase_of_foot syncAlone_foot]
  exact eachOf_keeps (P := fun x => (x.phase q).grouping = (s.phase q).grouping)
    (fun m x hx => (updateNAct_grouping x m q).trans hx) _ rfl

end

section
variable {s : State} {f : Nat}

theorem groupOn_of_grouping {x : State} {fs : List Fld} {ps : List Nat} (k : Foot fs (some ps) s x)
    (h : ∀ p, (x.phase p).grouping = (s.phase p).grouping) (hen : ps.contains Pid.ENABLE = false := by rfl)
    (hf : ps.contains Pid.Phase.F_PWM = false := by rfl) : x.groupOn f = s.groupOn f := by
  rw [State.groupOn, group_of_foot k (fun p => congrArg (·.2.2) (h p)) f hen hf]
  exact List.filter_congr fun p _ => congrArg (·.1) (h p)

/-- The switching phases share the circle evenly once they have their angles, and to the boundary's end (R94). -/
theorem angled_even (x : State) (old l : List Nat) :
    let t := ((x.angled f old).nActUpdated l).syncAlone
    (∀ q, (t.phase q).grouping = (x.phase q).grouping) ∧ ∀ e ∈ (t.groupOn f).zipIdx,
      t.par (oPhase e.1) Pid.Phase.ANGLE_NOW = roundDiv (e.2 * 65536 : Nat) ((t.groupOn f).length : Nat) := by
  intro t
  let on := x.groupOn f
  have hangled : Foot _ _ x (x.angled f old) := takeAngles_foot x on.zipIdx (evenAngle on.length) old
  have hend := boundaryEnd_foot (x.angled f old) l
  have hgrouping (q : Nat) : (t.phase q).grouping = (x.phase q).grouping :=
    (boundaryEnd_grouping _ l q).trans (takeAngles_grouping ..)
  have hon : t.groupOn f = on :=
    groupOn_of_grouping (ps := [Pid.Phase.ANGLE_NOW, 290, 291, 305, 307, 385]) (hend.on (hangled.within (fs :=
      [.phases, .flume, .ports, .hopper, .loops, .wheel]))) hgrouping
  have hnodup : (on.zipIdx.map Prod.fst).Nodup := by
    rw [List.zipIdx_map_fst]
    exact (group_nodup x f).filter _
  refine ⟨hgrouping, fun e he => ?_⟩
  rw [hon] at he ⊢
  rw [hend.par _ rfl _ _ (by decide) rfl, ← evenAngle_cast]
  exact takeAngles_par x _ _ old hnodup e he

/-- A boundary of a group (R94, R109, R117). -/
theorem groupBoundary_follows {f : Word} (hw : s.wheelRuns = true) (hg : s.group f.toNat ≠ []) :
    Runs (.groupBoundary f) s fun t =>
      (∀ p ∈ s.shedding (s.group f.toNat), (t.phase p).switching = false ∧ (t.phase p).reefed = true) ∧
      (∀ p ∈ s.adding (s.group f.toNat), (t.phase p).switching = true) ∧
      ∀ e ∈ (t.groupOn f.toNat).zipIdx,
        t.par (oPhase e.1) Pid.Phase.ANGLE_NOW = roundDiv (e.2 * 65536 : Nat) ((t.groupOn f.toNat).length : Nat) := by
  let x := s.glided f.toNat
  let g := s.group f.toNat
  have hphase (p : Nat) : x.phase p = s.phase p := phase_of_foot (glided_foot s f.toNat) p
  have hshed : x.shedding g = s.shedding g := List.filter_congr fun p _ => by rw [hphase]
  have hadd : x.adding g = s.adding g := List.filter_congr fun p _ => by rw [hphase]
  have hgo : ¬ (!x.wheelRuns || g.isEmpty) = true := by simp [x, g, glided_wheelRuns, hw, hg]
  have hnext := groupBoundary_eq s f
  dsimp only at hnext
  rw [glided_group, if_neg hgo] at hnext
  obtain ⟨hgrouping, hangles⟩ := angled_even (f := f.toNat) (x.regrouped g) (g.filter fun p => ((x.phasesShed g).phase p).switching) _
  refine ⟨_, hnext, fun p hp => ?_, fun p hp => ?_, hangles⟩
  · obtain ⟨hoff, hreefed⟩ := regrouped_shed x g (group_lt s) (hshed ▸ hp)
    exact ⟨(congrArg (·.1) (hgrouping p)).trans hoff, (congrArg (·.2.1) (hgrouping p)).trans hreefed⟩
  · exact (congrArg (·.1) (hgrouping p)).trans (regrouped_added x g (group_lt s) (hadd ▸ hp))

end

/-! ## SYNCIN -/

section
variable {s : State}

/-- A valid edge moves of the timebase neither the edges nor the missing ones. -/
theorem syncFollow_edges (err : Nat) : (s.syncFollow err).wheel.syncMisses = s.wheel.syncMisses ∧
    (s.syncFollow err).wheel.syncEdges = s.wheel.syncEdges := by
  unfold State.syncFollow
  dsimp only
  split
  · exact ⟨rfl, rfl⟩
  · split
    · split <;> exact ⟨rfl, rfl⟩
    · split <;> exact ⟨rfl, rfl⟩

/-- The sixteenth valid edge in a row begins ACQUIRING (R103). -/
theorem syncFollow_acquires (err : Nat) (h1 : s.par oDevice Pid.Device.SYNC_STATUS ≠ 1)
    (h2 : s.par oDevice Pid.Device.SYNC_STATUS ≠ 2) (he : s.wheel.syncEdges = 16) :
    (s.syncFollow err).par oDevice Pid.Device.SYNC_STATUS = 1 := by
  simp only [State.syncFollow, beq_eq_false_iff_ne.2 h1, beq_eq_false_iff_ne.2 h2, he, Bool.false_eq_true, if_false, if_true]
  exact State.par_setPar_same _ (by decide) _

/-- ACQUIRING ends LOCKED at SYNCIN's period within one fine tick (R103). -/
theorem syncFollow_locks {err : Nat} (h : s.par oDevice Pid.Device.SYNC_STATUS = 1)
    (hp : s.wheel.syncPeriod = fineTicks (s.par oDevice Pid.Device.SYNC_FREQ)) (he : err ≤ 1) :
    (s.syncFollow err).par oDevice Pid.Device.SYNC_STATUS = 2 := by
  have htarget : s.glideTarget = fineTicks (s.par oDevice Pid.Device.SYNC_FREQ) := by simp [State.glideTarget, h]
  have hlocks : s.syncFollow err = s.setPar oDevice Pid.Device.SYNC_STATUS 2 := by
    simp [State.syncFollow, h, htarget, hp, he]
  rw [hlocks]
  exact State.par_setPar_same _ (by decide) _

/-- SYNCIN_EDGE's frequency is SYNC_NOMINAL's within 10 % and in the range of a carrier (R101). -/
def State.syncValid (s : State) (f : Nat) : Prop :=
  10 * ((f - s.par oDevice Pid.Device.SYNC_NOMINAL : Int).natAbs : Int) ≤ s.par oDevice Pid.Device.SYNC_NOMINAL ∧
    100000 ≤ f ∧ f ≤ 2000000

/-- A valid edge is counted, and gives SYNC_FREQ (R103). -/
def State.edgeCounted (s : State) (f : Nat) : State :=
  State.setPar { s with wheel := { s.wheel with syncEdges := min 16 (s.wheel.syncEdges + 1), syncMisses := 0 } } oDevice
    Pid.Device.SYNC_FREQ f

theorem syncinEdge_eq (f : Word) (err : Nat) (hon : s.syncOn = true) :
    (s.syncValid f.toNat → exec (.syncinEdge f err) s = .next ((s.edgeCounted f.toNat).syncFollow err)) ∧
      (¬ s.syncValid f.toNat → exec (.syncinEdge f err) s = exec .syncinMissing s) := by
  have hnext : exec (.syncinEdge f err) s = if 10 * ((f.toNat - s.par oDevice Pid.Device.SYNC_NOMINAL : Int).natAbs : Int) >
      s.par oDevice Pid.Device.SYNC_NOMINAL || (f.toNat : Int) < 100000 || (f.toNat : Int) > 2000000 then .next s.syncMiss
      else .next ((s.edgeCounted f.toNat).syncFollow err) := by
    show execSyncinEdge f err s = _
    simp only [execSyncinEdge, hon, Bool.not_true, Bool.false_eq_true, if_false]
    rfl
  have hmiss : exec .syncinMissing s = .next s.syncMiss := if_pos hon
  rw [hnext, hmiss]
  simp only [State.syncValid, Bool.or_eq_true, decide_eq_true_eq]
  exact ⟨fun h => if_neg (by omega), fun h => if_pos (by omega)⟩

theorem edgeCounted_par (f : Nat) :
    (s.edgeCounted f).par oDevice Pid.Device.SYNC_FREQ = f ∧
      (s.edgeCounted f).par oDevice Pid.Device.SYNC_STATUS = s.par oDevice Pid.Device.SYNC_STATUS :=
  ⟨State.par_setPar_same _ (by decide) _, State.par_setPar_other _ _ (by decide)⟩

/-- What a valid edge leaves (R101, R103). -/
theorem edgeFollowed_spec (f err : Nat) :
    let t := (s.edgeCounted f).syncFollow err
    t.par oDevice Pid.Device.SYNC_FREQ = f ∧ t.wheel.syncMisses = 0 ∧ t.wheel.syncEdges = min 16 (s.wheel.syncEdges + 1) ∧
      (s.par oDevice Pid.Device.SYNC_STATUS ≠ 1 → s.par oDevice Pid.Device.SYNC_STATUS ≠ 2 →
        15 ≤ s.wheel.syncEdges → t.par oDevice Pid.Device.SYNC_STATUS = 1) ∧
      (s.par oDevice Pid.Device.SYNC_STATUS = 1 → s.wheel.syncPeriod = fineTicks f →
        err ≤ 1 → t.par oDevice Pid.Device.SYNC_STATUS = 2) := by
  intro t
  obtain ⟨hfreq, hstatus⟩ := edgeCounted_par (s := s) f
  obtain ⟨hmisses, hedges⟩ := syncFollow_edges (s := s.edgeCounted f) err
  refine ⟨?_, hmisses, hedges, fun h1 h2 he => ?_, fun h hp he => ?_⟩
  · rw [syncFollow_foot.par _ rfl _ _ (by decide) rfl, hfreq]
  · exact syncFollow_acquires err (hstatus ▸ h1) (hstatus ▸ h2) (Nat.min_eq_left (by omega))
  · exact syncFollow_locks (hstatus ▸ h) (hfreq ▸ hp) he

/-- One missing edge alone does not end the lock (R102). -/
theorem syncMiss_first (h : s.wheel.syncMisses = 0) : s.syncMiss.wheel.syncMisses = 1 ∧
    s.syncMiss.par oDevice Pid.Device.SYNC_STATUS = s.par oDevice Pid.Device.SYNC_STATUS := by
  have hmiss : s.syncMiss = { s with wheel := { s.wheel with syncMisses := s.wheel.syncMisses + 1, syncEdges := 0 } } :=
    if_pos (by simp [h])
  rw [hmiss, h]
  exact ⟨rfl, rfl⟩

/-- A second missing edge in a row leaves the lock, and is counted (R102, R126). -/
theorem syncMiss_second (h : s.wheel.syncMisses = 1)
    (hst : s.par oDevice Pid.Device.SYNC_STATUS = 1 ∨ s.par oDevice Pid.Device.SYNC_STATUS = 2)
    (hn : s.par oDevice Pid.Device.SYNC_LOSS_COUNT < 4294967295) :
    s.syncMiss.par oDevice Pid.Device.SYNC_STATUS = 3 ∧ s.syncMiss.par oDevice Pid.Device.SYNC_FREQ = 0 ∧
      s.syncMiss.par oDevice Pid.Device.SYNC_LOSS_COUNT = s.par oDevice Pid.Device.SYNC_LOSS_COUNT + 1 := by
  let x : State := { s with wheel := { s.wheel with syncMisses := s.wheel.syncMisses + 1, syncEdges := 0 } }
  let y := x.syncGlide.setPar oDevice Pid.Device.SYNC_STATUS 3
  let z := y.incPar oDevice Pid.Device.SYNC_LOSS_COUNT
  let t := z.record oDevice rcFault 0x0C [.par oDevice Pid.Device.SYNC_STATUS, .par oDevice Pid.Device.SYNC_LOSS_COUNT,
    .par oDevice Pid.Device.SYNC_FREQ]
  have hlocked : (x.par oDevice Pid.Device.SYNC_STATUS == 1 || x.par oDevice Pid.Device.SYNC_STATUS == 2) = true := by
    rcases hst with hst | hst <;> simp [show x.par oDevice Pid.Device.SYNC_STATUS = _ from hst]
  have hmiss : s.syncMiss = t.setPar oDevice Pid.Device.SYNC_FREQ 0 :=
    (if_neg (show ¬ x.wheel.syncMisses < 2 by simp [x, h])).trans (if_pos hlocked)
  have hcount : y.par oDevice Pid.Device.SYNC_LOSS_COUNT = s.par oDevice Pid.Device.SYNC_LOSS_COUNT :=
    State.par_setPar_other x.syncGlide _ (by decide)
  have hrec : Foot [.ports, .grist] (some [5, 257, 258, 260, 261, 264]) z t := record_foot
  rw [hmiss]
  refine ⟨?_, State.par_setPar_same t (by decide) 0, ?_⟩
  · calc _ = t.par oDevice Pid.Device.SYNC_STATUS := State.par_setPar_other t _ (by decide)
      _ = z.par oDevice Pid.Device.SYNC_STATUS := hrec.par _ rfl _ _ (by decide) rfl
      _ = y.par oDevice Pid.Device.SYNC_STATUS := State.par_setPar_other y _ (by decide)
      _ = 3 := State.par_setPar_same x.syncGlide (by decide) 3
  · calc _ = t.par oDevice Pid.Device.SYNC_LOSS_COUNT := State.par_setPar_other t _ (by decide)
      _ = z.par oDevice Pid.Device.SYNC_LOSS_COUNT := hrec.par _ rfl _ _ (by decide) rfl
      _ = y.par oDevice Pid.Device.SYNC_LOSS_COUNT + 1 := par_incPar_of_hi (hi := 4294967295) (by decide) (hcount ▸ hn)
      _ = _ := by rw [hcount]

end

/-- Settles O41: a period's start, a group's boundary, and SYNCIN's edges, valid and missing. -/
theorem phasesFollowTheirClock : Obligations.PhasesFollowTheirClock := by
  refine ⟨fun s => ⟨fun p => pwmPeriodStart_switching, fun p => pwmPeriodStart_starts, fun f hw hg => ?_,
    fun p => phaseFailNotice_counts⟩, fun s hon => ⟨fun f err => ⟨fun h => ?_, (syncinEdge_eq f err hon).2⟩, fun h => ?_,
    fun h hst hn => ?_⟩⟩
  · obtain ⟨t, hnext, hshed, hadd, hangles⟩ := groupBoundary_follows hw hg
    refine ⟨t, hnext, fun p hp hs hsw => hshed p (List.mem_filter.2 ⟨hp, ?_⟩),
      fun p hp hsw hwait => hadd p (List.mem_filter.2 ⟨hp, ?_⟩), hangles⟩
    · simp [hs, hsw]
    · simp [hsw, hwait]
  · exact ⟨_, (syncinEdge_eq f err hon).1 h, edgeFollowed_spec f.toNat err⟩
  · exact ⟨_, if_pos hon, syncMiss_first h⟩
  · exact ⟨_, if_pos hon, syncMiss_second h hst hn⟩

end Sys2Proof.Machine

/-! # Proofs: injections and captures begin, and captures are read (O14) -/

namespace Sys2Proof.Machine
open Sys2Proof State

set_option Elab.async false

/-- A port stays enabled where ENABLE is not among the parameters that may change. -/
theorem enabled_oPort_of_foot {fs : List Fld} {l : List Nat} {s x : State} (k : Foot fs (some l) s x)
    (hn : l.contains Pid.ENABLE = false) (p : HostPort) : x.enabled (oPort p) = s.enabled (oPort p) := by
  rw [State.enabled_oPort, State.enabled_oPort, k.par _ rfl _ _ (by decide) hn]

/-! ## FLUME_START -/

section
variable {x : State} {e : Op}

/-- The injection of an operation at its first sample, with FLUME_TARGET and FLUME_STATE as they read from then on (R133). -/
def State.flumeBegun (s : State) (e : Op) : State :=
  let n := loopNo (byteAt e.payload 0)
  let x := { s with
    flume := { op := some e.id, running := true, loop := n, payload := e.payload, k := 0, aRe := 0, aIm := 0, bRe := 0,
               bIm := 0, clips := 0, lfsr := 2 ^ byteAt e.payload 16 - 1, chip := false }
    trace := { s.trace with flumeNew := s.par oDevice Pid.Device.TAILRACE_STATE == 1 } }
  let y := x.setPar oDevice Pid.Device.FLUME_TARGET (byteAt e.payload 0)
  y.setPar oDevice Pid.Device.FLUME_STATE (if y.flumeSettle n e.payload = 0 then 2 else 1)

theorem opFlumeStart_accepts (h : x.flumeCheck e.payload = none) : opFlumeStart e x = (x.flumeBegun e).opRunning e := by
  unfold opFlumeStart
  rw [h]
  rfl

theorem flumeBegun_target (s : State) (e : Op) :
    (s.flumeBegun e).par oDevice Pid.Device.FLUME_TARGET = byteAt e.payload 0 :=
  (State.par_setPar_other _ _ (by decide)).trans (State.par_setPar_same _ (by decide) _)

/-- FLUME_STATE shows the settling part, or the measured part where there is no settling. -/
theorem flumeBegun_state_ne_zero (s : State) (e : Op) : (s.flumeBegun e).par oDevice Pid.Device.FLUME_STATE ≠ 0 := by
  unfold State.flumeBegun
  rw [State.par_setPar_same _ (by decide)]
  split <;> decide

end

/-! ## TAILRACE_ARM -/

section
variable {x : State} {e : Op}

/-- A configuration taken with the stored rows discarded, and its depth shown (R138, R140). -/
def State.traceConfigured (s : State) (p : Bytes) : State :=
  let o := byteAt p 11
  { s with trace :=
      { config := p, rows := [], decim := 0, prev := none, after := 0, rowTick := 0, hit := false, flumeNew := false,
        flumeSeen := false, faultSeen := false, objBad := s.objNow o == osLatched || s.objNow o == osFailed } }.setPar
    oDevice Pid.Device.TAILRACE_DEPTH (traceDepth (byteAt p 1) : Nat)

/-- The capture armed with a number of its own, or with no channel put to IDLE (R140). -/
def State.traceArmed (s : State) (p : Bytes) : State :=
  let x := s.traceConfigured p
  if byteAt p 1 = 0 then x.setPar oDevice Pid.Device.TAILRACE_STATE tsIDLE
  else (x.incPar oDevice Pid.Device.TAILRACE_CAPTURE_ID).setPar oDevice Pid.Device.TAILRACE_STATE tsARMED

theorem opTailraceArm_accepts (h : x.traceCheck e.payload = none) :
    let y := x.traceArmed e.payload
    opTailraceArm e x =
      y.ok e (leBytes 4 (y.par oDevice Pid.Device.TAILRACE_CAPTURE_ID) ++ leBytes 4 (traceDepth (byteAt e.payload 1))) := by
  unfold opTailraceArm
  rw [h]
  rfl

theorem traceConfigured_foot (s : State) (p : Bytes) :
    Foot [.trace] (some [Pid.Device.TAILRACE_DEPTH]) s (s.traceConfigured p) :=
  .setPar (.mk' (.refl _ _ _))

theorem traceArmed_foot_configured (s : State) (p : Bytes) :
    Foot [] (some [Pid.Device.TAILRACE_STATE, Pid.Device.TAILRACE_CAPTURE_ID]) (s.traceConfigured p) (s.traceArmed p) :=
  .ite (.setPar (.refl _ _ _)) (.setPar (.incPar (.refl _ _ _)))

theorem traceArmed_foot (s : State) (p : Bytes) : Foot [.trace]
    (some [Pid.Device.TAILRACE_DEPTH, Pid.Device.TAILRACE_STATE, Pid.Device.TAILRACE_CAPTURE_ID]) s (s.traceArmed p) :=
  (traceArmed_foot_configured s p).on (traceConfigured_foot s p).within

theorem traceArmed_trace (s : State) (p : Bytes) : (s.traceArmed p).trace.rows = [] ∧ (s.traceArmed p).trace.config = p := by
  have htrace : (s.traceArmed p).trace = (s.traceConfigured p).trace := (traceArmed_foot_configured s p).fld .trace rfl
  exact ⟨congrArg TraceState.rows htrace, congrArg TraceState.config htrace⟩

theorem traceArmed_depth (s : State) (p : Bytes) :
    (s.traceArmed p).par oDevice Pid.Device.TAILRACE_DEPTH = traceDepth (byteAt p 1) :=
  ((traceArmed_foot_configured s p).par _ rfl _ _ (by decide) rfl).trans (State.par_setPar_same _ (by decide) _)

/-- With no channel the capture is IDLE, and keeps its number. -/
theorem traceArmed_idle (s : State) {p : Bytes} (h : byteAt p 1 = 0) :
    (s.traceArmed p).par oDevice Pid.Device.TAILRACE_STATE = tsIDLE ∧
      (s.traceArmed p).par oDevice Pid.Device.TAILRACE_CAPTURE_ID = s.par oDevice Pid.Device.TAILRACE_CAPTURE_ID := by
  rw [State.traceArmed, if_pos h]
  exact ⟨State.par_setPar_same _ (by decide) _, (State.par_setPar_other _ _ (by decide)).trans
    ((traceConfigured_foot s p).par _ rfl _ _ (by decide) rfl)⟩

/-- With channels the capture is ARMED, under the next number. -/
theorem traceArmed_armed (s : State) {p : Bytes} (h : byteAt p 1 ≠ 0) :
    (s.traceArmed p).par oDevice Pid.Device.TAILRACE_STATE = tsARMED ∧
      (s.par oDevice Pid.Device.TAILRACE_CAPTURE_ID < 4294967295 →
        (s.traceArmed p).par oDevice Pid.Device.TAILRACE_CAPTURE_ID =
          s.par oDevice Pid.Device.TAILRACE_CAPTURE_ID + 1) := by
  have hid : (s.traceConfigured p).par oDevice Pid.Device.TAILRACE_CAPTURE_ID =
      s.par oDevice Pid.Device.TAILRACE_CAPTURE_ID := (traceConfigured_foot s p).par _ rfl _ _ (by decide) rfl
  rw [State.traceArmed, if_neg h]
  refine ⟨State.par_setPar_same _ (by decide) _, fun hlt => ?_⟩
  rw [State.par_setPar_other _ _ (by decide), par_incPar_of_hi (hi := 4294967295) (by decide) (hid ▸ hlt), hid]

/-- What TAILRACE_ARM leaves (R138, R140): its reply changes nothing of the capture that it arms. -/
theorem tailraceArm_leaves {s : State} {r : Req} {p : Bytes} (ha : Accepts s r 0x39 p)
    (hc : (Taken s r 0x39 p).traceCheck p = none) : Runs (.tailraceArm r p) s fun t =>
      t.trace.rows = [] ∧ t.trace.config = p ∧
      t.par oDevice Pid.Device.TAILRACE_DEPTH = traceDepth (byteAt p 1) ∧
      (byteAt p 1 ≠ 0 → t.par oDevice Pid.Device.TAILRACE_STATE = tsARMED ∧
        (s.par oDevice Pid.Device.TAILRACE_CAPTURE_ID < 4294967295 →
          t.par oDevice Pid.Device.TAILRACE_CAPTURE_ID = s.par oDevice Pid.Device.TAILRACE_CAPTURE_ID + 1)) ∧
      (byteAt p 1 = 0 → t.par oDevice Pid.Device.TAILRACE_STATE = tsIDLE ∧
        t.par oDevice Pid.Device.TAILRACE_CAPTURE_ID = s.par oDevice Pid.Device.TAILRACE_CAPTURE_ID) ∧
      Replied s t r 0x39 stOK 0
        (leBytes 4 (t.par oDevice Pid.Device.TAILRACE_CAPTURE_ID) ++ leBytes 4 (traceDepth (byteAt p 1))) := by
  let y := (Taken s r 0x39 p).traceArmed p
  let b := leBytes 4 (y.par oDevice Pid.Device.TAILRACE_CAPTURE_ID) ++ leBytes 4 (traceDepth (byteAt p 1))
  let t := y.ok (theOp s r 0x39 p) b
  have hrun : submitReq r 0x39 p opTailraceArm s = t := (submitReq_accepted _ ha).trans (opTailraceArm_accepts hc)
  have htrace : t.trace = y.trace := State.ok_foot.fld .trace rfl
  have hdepth : t.par oDevice Pid.Device.TAILRACE_DEPTH = y.par oDevice Pid.Device.TAILRACE_DEPTH :=
    y.ok_par _ _ _ (by decide) (by decide)
  have hstate : t.par oDevice Pid.Device.TAILRACE_STATE = y.par oDevice Pid.Device.TAILRACE_STATE :=
    y.ok_par _ _ _ (by decide) (by decide)
  have hid : t.par oDevice Pid.Device.TAILRACE_CAPTURE_ID = y.par oDevice Pid.Device.TAILRACE_CAPTURE_ID :=
    y.ok_par _ _ _ (by decide) (by decide)
  refine ⟨t, congrArg Host.Outcome.next hrun, ?_⟩
  beta_reduce
  rw [htrace, hdepth, hstate, hid]
  obtain ⟨hrows, hconfig⟩ := traceArmed_trace (Taken s r 0x39 p) p
  refine ⟨hrows, hconfig, traceArmed_depth _ p, traceArmed_armed (Taken s r 0x39 p), traceArmed_idle (Taken s r 0x39 p),
    State.reply_replied ?_⟩
  exact (enabled_oPort_of_foot (traceArmed_foot _ p) rfl r.port).trans ha.enabled

end

/-! ## TAILRACE_READ -/

/-- The reply of TAILRACE_READ: its head, and the rows asked for, oldest first (R141). -/
def State.tracePage (s : State) (p : Bytes) : Bytes :=
  p.take 4 ++ leBytes 1 s.traceState ++ leBytes 1 s.traceNch ++ leBytes 2 (fieldU p 8 2) ++ leBytes 4 s.traceIndex ++
    leBytes 4 s.trace.rows.length ++
    ((s.trace.rows.reverse.drop (fieldU p 4 4)).take (fieldU p 8 2)).flatMap fun x => x.flatMap fun v => leBytes 4 v

/-- The conditions on which TAILRACE_READ answers with rows (R141). -/
structure TraceReads (s : State) (p : Bytes) : Prop where
  length    : p.length = 10
  capture   : (fieldU p 0 4 : Int) = s.par oDevice Pid.Device.TAILRACE_CAPTURE_ID
  armed     : s.traceState ≠ tsARMED
  triggered : s.traceState ≠ tsTRIGGERED
  fits      : fieldU p 8 2 * s.traceNch ≤ 64
  stored    : fieldU p 4 4 + fieldU p 8 2 ≤ s.trace.rows.length

theorem opTailraceRead_answers {x : State} {e : Op} (h : TraceReads x e.payload) :
    opTailraceRead e x = x.ok e (x.tracePage e.payload) := by
  obtain ⟨hlen, hid, harmed, htrig, hfits, hstored⟩ := h
  have hsame : ¬ ((fieldU e.payload 0 4 : Int) != x.par oDevice Pid.Device.TAILRACE_CAPTURE_ID) = true := by simp [hid]
  have hover : ¬ ((x.traceState == tsARMED || x.traceState == tsTRIGGERED) && decide (fieldU e.payload 8 2 > 0)) = true := by
    simp [harmed, htrig]
  have hin : ¬ (decide (fieldU e.payload 8 2 * x.traceNch > 64) ||
      decide (fieldU e.payload 4 4 + fieldU e.payload 8 2 > x.trace.rows.length)) = true := by
    simp [Nat.not_lt.2 hfits, Nat.not_lt.2 hstored]
  unfold opTailraceRead
  dsimp only
  rw [if_neg (not_not.2 hlen), if_neg hsame, if_neg hover, if_neg hin]
  rfl

/-- Settles O14: each operation as its checks let it act. -/
theorem benchOperationsStart : Obligations.BenchOperationsStart := by
  intro s r p
  refine ⟨fun ha hc => ?_, tailraceArm_leaves, fun ha hlen hid harmed htrig hfits hstored => ?_⟩
  · have hrun := (submitReq_accepted _ ha).trans (opFlumeStart_accepts (e := theOp s r 0x38 p) hc)
    exact ⟨_, congrArg Host.Outcome.next hrun, rfl, rfl, rfl, rfl, flumeBegun_target _ (theOp s r 0x38 p),
      flumeBegun_state_ne_zero _ (theOp s r 0x38 p), opRunning_waits rfl⟩
  · have hreads : TraceReads (Taken s r 0x3A p) (theOp s r 0x3A p).payload := ⟨hlen, hid, harmed, htrig, hfits, hstored⟩
    have hrun := (submitReq_accepted _ ha).trans (opTailraceRead_answers hreads)
    exact ⟨_, congrArg Host.Outcome.next hrun, State.reply_replied ha.enabled, State.ok_foot.fld .trace rfl⟩

end Sys2Proof.Machine

/-! # Proofs: every protection of a feeder latches it off (O45) -/

namespace Sys2Proof.Machine

open Sys2Proof State

set_option Elab.async false

/-! ## The records of the feeders and the strings -/

theorem feeder_of_foot {fs : List Fld} {ps : Option (List Nat)} {s t : State} (h : Foot fs ps s t) (f : Nat)
    (hf : fs.contains .feeders = false := by rfl) : t.feeder f = s.feeder f := by
  rw [State.feeder, h.fld .feeders hf, State.feeder]

theorem str_of_foot {fs : List Fld} {ps : Option (List Nat)} {s t : State} (h : Foot fs ps s t) (k : Nat)
    (hf : fs.contains .strings = false := by rfl) : t.str k = s.str k := by
  rw [State.str, h.fld .strings hf, State.str]

theorem feeder_modFeeder_other (s : State) {f g : Nat} (h : f ≠ g) (u : FeederAux → FeederAux) :
    (s.modFeeder g u).feeder f = s.feeder f := vget_vmod_other _ h.symm u _

/-! ## A trip

A feeder's trip and a string's trip latch their object, set the bits of the causes, count the trip and write a record. -/

/-- The object is latched for the causes, and the trip counted (R169, R180). -/
structure TripLatched (s t : State) (o total : Nat) (bits : List Nat) : Prop where
  state : t.objSt o = osLatched
  bits  : ∀ b ∈ bits, t.bit o Pid.FAULT_LATCH b = true
  total : s.par o total < 4294967295 → t.par o total = s.par o total + 1

/-- The parameters that a trip writes beside its count: the object's state and latch, those of a record, and what an end of
an injection shows. -/
def tripPids : List Nat := [1, 2, 5, 257, 258, 260, 261, 264, 305, 307, 385]

/-- The object is LATCHED for the causes, and the trip counted. -/
def State.tripCounted (s : State) (o total : Nat) (bits : List Nat) : State :=
  ((s.setObj o osLatched).latchFault o bits).incPar o total

theorem tripRecorded_latched (s : State) {o total : Nat} (bits : List Nat) (cls event : Nat) (snap : List Snap)
    (hhi : (findDesc o total).map Desc.hi = some 4294967295) (hlt : total < 4096 := by decide)
    (hother : total ∉ tripPids := by decide) :
    TripLatched s ((s.tripCounted o total bits).recordPsd o cls event snap) o total bits := by
  let x := (s.setObj o osLatched).latchFault o bits
  have hrecord := recordPsd_foot (x1 := o) (x2 := cls) (x3 := event) (x4 := snap) (s := s.tripCounted o total bits)
  have hlatch : Foot [.flume, .ports, .hopper, .trace, .loops] (some [1, 2, 305, 307, 385]) s x :=
    latchFault_foot.on setObj_foot.within
  have hcount (pid : Nat) (hp : pid < 4096) (hm : pid ∈ tripPids) : (s.tripCounted o total bits).par o pid = x.par o pid :=
    par_setPar_pid x _ hp hlt fun he => hother (he ▸ hm)
  have hnot {l : List Nat} (hl : l ⊆ tripPids) : l.contains total = false := by simpa using fun hm => hother (hl hm)
  refine ⟨?_, fun b hb => ?_, fun h => ?_⟩
  · rw [State.objSt, hrecord.par _ rfl _ _ (by decide) rfl, hcount _ (by decide) (by decide),
      latchFault_foot.par _ rfl _ _ (by decide) rfl]
    exact setObj_objSt s _ _
  · rw [State.bit, hrecord.par _ rfl _ _ (by decide) rfl, hcount _ (by decide) (by decide)]
    exact latchFault_bit _ o hb
  · have hx : x.par o total = s.par o total := hlatch.par _ rfl _ _ hlt (hnot (by decide))
    rw [hrecord.par _ rfl _ _ hlt (hnot (by decide)), State.tripCounted, par_incPar_of_hi hhi (hx ▸ h) hlt, hx]

/-! ## A feeder's trip -/

/-- A feeder whose gate is pulled down by a trip: it has lost its request, and its Weir latch is released (R152, R169). -/
def FeederAux.tripped (a : FeederAux) : FeederAux :=
  { a with gate := false, pg := false, serve := false, shed := false, ovRun := 0, startRun := 0
           weir := { a.weir with latchA := false, latchB := false, proving := none }
           condition := false, reseat := false }

section
variable (s : State) {f : Nat} (bits : List Nat)

theorem feederTrip_feeder (hf : f < 16) : (s.feederTrip f bits).feeder f = (s.feeder f).tripped := by
  let x := (s.gateOff f).modFeeder f fun a => { a with condition := false, reseat := false }
  have hlatch : Foot [.flume, .ports, .hopper, .trace, .loops] (some [1, 2, 281, 305, 307, 385]) x
      (x.tripCounted (oFeeder f) Pid.Feeder.TRIP_TOTAL bits) :=
    (latchFault_foot.on setObj_foot.within).incPar
  have hrecord : (s.feederTrip f bits).feeder f = x.feeder f := feeder_of_foot (recordPsd_foot.on hlatch.within :
    Foot [.flume, .ports, .hopper, .trace, .loops, .grist] (some (281 :: tripPids)) x (s.feederTrip f bits)) f
  rw [hrecord, feeder_modFeeder _ hf, State.gateOff, feeder_modFeeder _ hf]
  rfl

theorem feederTripTotal_hi : ∀ f < 16, (findDesc (oFeeder f) Pid.Feeder.TRIP_TOTAL).map Desc.hi = some 4294967295 := by
  decide

theorem feederTrip_trips (hf : f < 16) : FeederTripped s (s.feederTrip f bits) f bits := by
  let x := (s.gateOff f).modFeeder f fun a => { a with condition := false, reseat := false }
  obtain ⟨hstate, hbits, htotal⟩ : TripLatched x (s.feederTrip f bits) (oFeeder f) Pid.Feeder.TRIP_TOTAL bits :=
    tripRecorded_latched x bits _ _ _ (feederTripTotal_hi f hf)
  exact ⟨hstate, by rw [feederTrip_feeder s bits hf]; rfl, hbits, htotal⟩

/-! ## The causes of a protection -/

variable {s} {bits}

/-- A set Weir latch is among the causes that qualify (R160). -/
theorem weirBits_mem_sluiceCauses (hon : s.feederOn f = true) {b : Nat} (hb : b ∈ weirBits (s.feeder f).weir) :
    b ∈ s.sluiceCauses f := by
  simp only [State.sluiceCauses, hon, if_true, List.append_assoc]
  exact List.mem_append_left _ hb

/-- A protection latches the feeder with its own cause and with that of a set Weir latch (R160, R169). -/
theorem tripWith_trips (hf : f < 16) (own : Nat) (hon : s.feederOn f = true) :
    FeederTripped s (s.tripWith f own) f (own :: weirBits (s.feeder f).weir) := by
  obtain ⟨hstate, hgate, hbits, htotal⟩ :=
    feederTrip_trips s (own :: (s.sluiceCauses f).filter fun b => b != own) hf
  refine ⟨hstate, hgate, fun b hb => hbits b ?_, htotal⟩
  by_cases hown : b = own
  · exact hown ▸ List.mem_cons_self
  · have hweir := (List.mem_cons.1 hb).resolve_left hown
    exact List.mem_cons_of_mem _ (List.mem_filter.2 ⟨weirBits_mem_sluiceCauses hon hweir, by simpa using hown⟩)

theorem feederOn_of_starting (h : s.feederStarting f = true) : s.feederOn f = true := by simp [State.feederOn, h]

theorem tripWith_feeder (hf : f < 16) (own : Nat) : (s.tripWith f own).feeder f = (s.feeder f).tripped :=
  feederTrip_feeder s _ hf

/-- A protection whose count has been brought to its limit trips as any does. -/
theorem modFeeder_tripWith_trips (hf : f < 16) (own : Nat) (hon : s.feederOn f = true) (g : FeederAux → FeederAux)
    (hg : (g (s.feeder f)).weir = (s.feeder f).weir) :
    FeederTripped s ((s.modFeeder f g).tripWith f own) f (own :: weirBits (s.feeder f).weir) := by
  obtain ⟨hstate, hgate, hbits, htotal⟩ := tripWith_trips (s := s.modFeeder f g) hf own hon
  rw [feeder_modFeeder s hf, hg] at hbits
  exact ⟨hstate, hgate, hbits, htotal⟩

end

/-! ## The commands -/

section
variable {s : State} {f : Fin 16} (hs : s.sluiceRuns = true) (hon : s.feederOn f.val = true)
include hs hon

theorem faultTimer_trips : Runs (.faultTimer f) s fun t =>
    FeederTripped s t f.val (flFaultTimer :: weirBits (s.feeder f.val).weir) ∧
      s.timerLimit f.val ≤ (t.feeder f.val).timer := by
  refine ⟨_, if_pos (by simp [hs, hon]), modFeeder_tripWith_trips f.isLt _ hon _ rfl, ?_⟩
  rw [tripWith_feeder f.isLt, feeder_modFeeder s f.isLt]
  exact le_max_right _ _

theorem soa_trips : Runs (.soa f) s fun t =>
    FeederTripped s t f.val (flSoa :: weirBits (s.feeder f.val).weir) ∧ s.soaLimit f.val ≤ (t.feeder f.val).soa := by
  refine ⟨_, if_pos (by simp [hs, hon]), modFeeder_tripWith_trips f.isLt _ hon _ rfl, ?_⟩
  rw [tripWith_feeder f.isLt, feeder_modFeeder s f.isLt]
  exact le_max_right _ _

theorem ovQualify_trips
    (hv : s.par (oFeeder f.val) Pid.Feeder.OV_WINDOW < (s.seg (s.feederSeg f.val)).chan.value) :
    Runs (.ovQualify f) s fun t => FeederTripped s t f.val (flOverVoltage :: weirBits (s.feeder f.val).weir) :=
  ⟨_, if_pos (by simp [hs, hon, hv]), tripWith_trips f.isLt _ hon⟩

theorem itCurve_trips (hen : s.par (oFeeder f.val) Pid.Feeder.IT_ENABLE = 1) (hc : (s.feeder f.val).curve ≠ []) :
    Runs (.itCurve f) s fun t => FeederTripped s t f.val (flItCurve :: weirBits (s.feeder f.val).weir) :=
  ⟨_, if_pos (by simp [hs, hon, hen, hc]), modFeeder_tripWith_trips f.isLt _ hon _ rfl⟩

omit hon in
theorem startTimeout_trips (hst : s.feederStarting f.val = true) :
    Runs (.startTimeout f) s fun t => FeederTripped s t f.val (flType 3 :: weirBits (s.feeder f.val).weir) :=
  ⟨_, if_pos (by simp [hs, hst]), tripWith_trips f.isLt _ (feederOn_of_starting hst)⟩

end

/-- A comparator that is not masked sets its Weir latch and pulls the gate down; a masked one does nothing (R160, R162, R163). -/
theorem fastTrip_pulls {s : State} {f : Fin 16} (byA byB : Bool) (proving : Option Bool) (hp : s.psdPowered = true)
    (hon : s.feederOn f.val = true) :
    let a := byA && !s.compFailed (oFeeder f.val) false && proving != some false
    let b := byB && !s.compFailed (oFeeder f.val) true && proving != some true
    ((a || b) = true → Runs (.fastTrip f ⟨byA, byB⟩ proving) s fun t => (t.feeder f.val).gate = false ∧
      (t.feeder f.val).weir.latchA = ((s.feeder f.val).weir.latchA || a) ∧
      (t.feeder f.val).weir.latchB = ((s.feeder f.val).weir.latchB || b) ∧ Foot [.feeders] (some []) s t) ∧
    ((a || b) = false → exec (.fastTrip f ⟨byA, byB⟩ proving) s = .next s) := by
  intro a b
  refine ⟨fun h => ⟨_, if_pos (by simp only [hp, hon, Bool.true_and]; exact h), ?_, ?_, ?_, modFeeder_foot⟩,
    fun h => if_neg (by simp only [hp, hon, Bool.true_and]; exact Bool.eq_false_iff.1 h)⟩
  all_goals rw [feeder_modFeeder s f.isLt]

/-- Settles O45: each protection's trip is its own cause's, with every other cause that qualifies. -/
theorem protectionsTrip : Obligations.ProtectionsTrip := fun _ _ =>
  ⟨fun hs => ⟨fun hon => ⟨faultTimer_trips hs hon, soa_trips hs hon, ovQualify_trips hs hon, itCurve_trips hs hon⟩,
    startTimeout_trips hs⟩, fun byA byB proving hp hon => fastTrip_pulls byA byB proving hp hon⟩

end Sys2Proof.Machine

/-! # Proofs: Sluice ticks and seats act on the feeders (O44) -/

namespace Sys2Proof.Machine

open Sys2Proof State

set_option Elab.async false

/-! ## What a tick's work on one feeder leaves -/

/-- The parameters that a feeder's regulation flag rests on (R153). -/
def limitPids : List Nat := [Pid.OBJ_STATE, Pid.Feeder.I_LIMIT, Pid.Feeder.I_LIMIT_START, pSenseRnom]

/-- The feeder's record and what its regulation flag rests on are as they were. -/
structure FeederKept (f : Nat) (s t : State) : Prop where
  record : t.feeder f = s.feeder f
  pars   : ∀ pid ∈ limitPids, t.par (oFeeder f) pid = s.par (oFeeder f) pid

/-- What enters a feeder with a tick (R145, R147, R153). -/
def FeederAux.inputs (a : FeederAux) : Bool × Nat × Bool × Bool × Nat × Nat :=
  (a.cl, a.vds, a.vgsOk, a.low, a.seatLow, a.seatHigh)

/-- Work on a feeder leaves every other feeder, and the inputs of its own. -/
structure FeederWork (g : Nat) (s t : State) : Prop where
  others : ∀ f < 16, f ≠ g → FeederKept f s t
  inputs : (t.feeder g).inputs = (s.feeder g).inputs

section
variable {f g : Nat} {s x y : State}

theorem FeederKept.refl (s : State) : FeederKept f s s := ⟨rfl, fun _ _ => rfl⟩

theorem FeederKept.trans (h : FeederKept f s x) (k : FeederKept f x y) : FeederKept f s y :=
  ⟨k.record.trans h.record, fun pid hp => (k.pars pid hp).trans (h.pars pid hp)⟩

theorem limitPids_lt : ∀ pid ∈ limitPids, pid < 4096 := by decide

theorem FeederKept.foot {fs : List Fld} {ps : List Nat} (k : Foot fs (some ps) s x)
    (hf : fs.contains .feeders = false := by rfl) (hp : ∀ pid ∈ limitPids, ps.contains pid = false := by decide) :
    FeederKept f s x :=
  ⟨feeder_of_foot k f hf, fun pid hm => k.par _ rfl _ _ (limitPids_lt pid hm) (hp pid hm)⟩

/-- The regulation flag is the feeder's own (R153). -/
theorem FeederKept.clFlag (h : FeederKept f s x) (shunt : Nat) : x.clFlag f shunt = s.clFlag f shunt := by
  have hstarting : x.feederStarting f = s.feederStarting f := congrArg (· == osStarting) (h.pars Pid.OBJ_STATE (by decide))
  have hlimit := h.pars (if s.feederStarting f then Pid.Feeder.I_LIMIT_START else Pid.Feeder.I_LIMIT) (by split <;> decide)
  rw [State.clFlag, State.limitSteps, hstarting, hlimit, h.record, h.pars pSenseRnom (by decide), State.clFlag,
    State.limitSteps]

theorem FeederWork.refl (s : State) : FeederWork g s s := ⟨fun _ _ _ => .refl s, rfl⟩

theorem FeederWork.trans (h : FeederWork g s x) (k : FeederWork g x y) : FeederWork g s y :=
  ⟨fun f hlt hf => (h.others f hlt hf).trans (k.others f hlt hf), k.inputs.trans h.inputs⟩

theorem FeederWork.ite {c : Prop} [Decidable c] (hx : FeederWork g s x) (hy : FeederWork g s y) :
    FeederWork g s (if c then x else y) := by split <;> assumption

theorem modFeeder_others (s : State) (u : FeederAux → FeederAux) (hf : f ≠ g) : FeederKept f s (s.modFeeder g u) :=
  ⟨feeder_modFeeder_other s hf u, fun _ _ => rfl⟩

section
variable (h : FeederWork g s x)
include h

theorem FeederWork.foot {fs : List Fld} {ps : List Nat} (k : Foot fs (some ps) x y)
    (hf : fs.contains .feeders = false := by rfl) (hp : ∀ pid ∈ limitPids, ps.contains pid = false := by decide) :
    FeederWork g s y :=
  h.trans ⟨fun _ _ _ => .foot k hf hp, by rw [feeder_of_foot k g hf]⟩

theorem FeederWork.modFeeder {u : FeederAux → FeederAux} (hu : ∀ a, (u a).inputs = a.inputs := by intro _; rfl) :
    FeederWork g s (x.modFeeder g u) :=
  h.trans ⟨fun _ _ hf => modFeeder_others x u hf, feeder_modFeeder_keeps x (P := FeederAux.inputs) hu g⟩

/-- A write to a parameter of the feeder's own. -/
theorem FeederWork.setPar {pid : Nat} {v : Int} (hp : pid < 4096 := by decide) :
    FeederWork g s (x.setPar (oFeeder g) pid v) :=
  h.trans ⟨fun f _ hf => ⟨rfl, fun q hq => x.par_setPar_other v fun hk => hf (by
    have := ((keyOf_inj (limitPids_lt q hq) hp).1 hk).1
    simp only [oFeeder] at this
    omega)⟩, rfl⟩

/-- A record writes to its source's SOURCE_SEQ and to Grist. -/
theorem FeederWork.recordPsd {o cls event : Nat} {snap : List Snap} : FeederWork g s (x.recordPsd o cls event snap) := by
  have hcell : ∀ pid ∈ limitPids, headPid pid = false → [5, 257, 258, 260, 261, 264].contains pid = false := by decide
  have hgrist {f : Nat} (hlt : f < 16) : oFeeder f ≠ oGrist := by
    simp only [oFeeder, oGrist]
    omega
  refine h.trans ⟨fun f hlt _ => ⟨feeder_of_foot recordPsd_foot f, fun pid hp => ?_⟩, by rw [feeder_of_foot recordPsd_foot g]⟩
  by_cases hhead : headPid pid = true
  · exact (recordPsd_head (O := (· ≠ oGrist)) (fun h => h rfl) ..).par _ _ (hgrist hlt) hhead
  · exact recordPsd_foot.par _ rfl _ _ (limitPids_lt pid hp) (hcell pid hp (Bool.eq_false_iff.2 hhead))

end

end

/-! ## A tick's work -/

section
variable (s : State) (f : Nat)

theorem gateOff_work : FeederWork f s (s.gateOff f) := .modFeeder (.refl s)

theorem feederTrip_work (bits : List Nat) : FeederWork f s (s.feederTrip f bits) :=
  .recordPsd (.setPar (.foot (.setPar (.modFeeder (gateOff_work s f))) latchFault_foot))

theorem readWeir_work : FeederWork f s (s.readWeir f) := .ite (feederTrip_work s f _) (.refl s)

theorem feederWait_work : FeederWork f s (s.feederWait f) :=
  .ite (.setPar (.modFeeder (gateOff_work s f))) (.modFeeder (gateOff_work s f))

theorem feederClear_work : FeederWork f s (s.feederClear f) := .modFeeder (.setPar (.setPar (.refl s)))

theorem seatOpened_work : FeederWork f s (s.seatOpened f) :=
  .setPar (.modFeeder ((readWeir_work s f).trans (feederWait_work _ f)))

theorem seatStabled_work : FeederWork f s (s.seatStabled f) := by
  have h : FeederWork f s (s.modFeeder f fun a => { a with seated := true }) := .modFeeder (.refl s)
  exact .ite (h.trans (feederClear_work _ f)) h

theorem serveAct_work : FeederWork f s (s.serveAct f) := .ite (.setPar (.modFeeder (.refl s))) (.refl s)

theorem serveDrop_work : FeederWork f s (s.serveDrop f) := .modFeeder (.refl s)

theorem shedAct_work : FeederWork f s (s.shedAct f) := by
  have h : FeederWork f s (if (s.consF f).masked || (s.feeder f).shed then s.readWeir f else s) :=
    .ite (readWeir_work s f) (.refl s)
  unfold State.shedAct
  exact .ite (.setPar (.modFeeder ((FeederWork.modFeeder h).trans (gateOff_work _ f)))) (.modFeeder h)

theorem sluiceIntegrate_work : FeederWork f s (s.sluiceIntegrate f) := .modFeeder (.refl s)

theorem pgAct_work : FeederWork f s (s.pgAct f) := by
  have h : FeederWork f s (s.modFeeder f fun a => { a with pg := s.pgNext f }) := .modFeeder (.refl s)
  unfold State.pgAct
  exact .ite (.setPar h) (.ite (.recordPsd (.setPar (.setPar h))) h)

/-- The inputs of a tick enter first; the rest of the tick leaves them, and the other feeders (R145). -/
theorem feederTick_work (x : FeederIn) : FeederWork f (s.sluiceInputs f x) (s.feederTick f x) := by
  unfold State.feederTick
  extract_lets wasOpen wasSeated s₁ causes s₂ s₃ s₄
  have h₁ : FeederWork f (s.sluiceInputs f x) s₁ := sluiceIntegrate_work _ f
  have h₂ : FeederWork f (s.sluiceInputs f x) s₂ :=
    .ite (h₁.trans (pgAct_work _ f)) (h₁.trans (feederTrip_work _ f _))
  have h₃ : FeederWork f (s.sluiceInputs f x) s₃ := .ite (h₂.trans (seatOpened_work _ f)) h₂
  have h₄ : FeederWork f (s.sluiceInputs f x) s₄ := .ite (h₃.trans (seatStabled_work _ f)) h₃
  exact ((h₄.trans (shedAct_work _ f)).trans (serveAct_work _ f)).trans (serveDrop_work _ f)

theorem feederTick_others (x : FeederIn) {g : Nat} (hlt : g < 16) (hg : g ≠ f) : FeederKept g s (s.feederTick f x) :=
  (modFeeder_others s _ hg).trans ((feederTick_work s f x).others g hlt hg)

variable {f}

theorem feederTick_inputs (x : FeederIn) (hf : f < 16) : ((s.feederTick f x).feeder f).inputs =
    (s.clFlag f x.shunt, x.vds.toNat, x.vgsOk, x.seatLow,
      if x.seatLow then min 10000 ((s.feeder f).seatLow + 1) else 0,
      if x.seatLow then 0 else min 20 ((s.feeder f).seatHigh + 1)) := by
  rw [(feederTick_work s f x).inputs, State.sluiceInputs, feeder_modFeeder s hf]
  rfl

end

/-! ## A tick of every feeder -/

/-- A sweep takes each index once, from a state and into a state that agree with the sweep's ends on that index. -/
theorem each_visits {K : Nat → State → State → Prop} {u : Nat → State → State} (hrefl : ∀ j x, K j x x)
    (htrans : ∀ {j x y z}, K j x y → K j y z → K j x z) {m : Nat} (hother : ∀ i j x, j < m → j ≠ i → K j x (u i x)) (s : State) :
    ∀ j < m, ∃ x, K j s x ∧ K j (u j x) (s.each m u) := by
  suffices h : ∀ n ≤ m, (∀ j < m, n ≤ j → K j s (s.each n u)) ∧ ∀ j < n, ∃ x, K j s x ∧ K j (u j x) (s.each n u) from
    (h m le_rfl).2
  intro n
  induction n with
  | zero => exact fun _ => ⟨fun j _ _ => hrefl j s, fun j hj => absurd hj (Nat.not_lt_zero j)⟩
  | succ n ih =>
    intro hn
    obtain ⟨hahead, hbehind⟩ := ih (by omega)
    have hsucc : s.each (n + 1) u = u n (s.each n u) := by simp [State.each, List.range_succ, List.foldl_append]
    rw [hsucc]
    refine ⟨fun j hj hnj => htrans (hahead j hj (by omega)) (hother n j _ hj (by omega)), fun j hj => ?_⟩
    by_cases he : j = n
    · exact ⟨s.each n u, he ▸ hahead n (by omega) le_rfl, he ▸ hrefl _ _⟩
    · obtain ⟨x, hx, hu⟩ := hbehind j (by omega)
      exact ⟨x, hx, htrans hu (hother n j _ (by omega) he)⟩

section
variable {s : State} (ins : Vector FeederIn 16)

theorem passTime_tick (s : State) (us : Nat) : (s.passTime us).time.tick = s.time.tick + us := by
  rw [State.passTime, timersPass_foot.fld .time rfl]

/-- The tick of every feeder after the time has passed. -/
def State.feedersTick (s : State) (ins : Vector FeederIn 16) : State :=
  (if s.tickCounts then s.passTime 1 else s).each 16 fun f s => s.feederTick f (vget ins f ⟨0, false, 0, false⟩)

theorem feedersTick_tick : (s.feedersTick ins).time.tick = s.time.tick + (if s.tickCounts then 1 else 0) := by
  let x := if s.tickCounts then s.passTime 1 else s
  have hfeeders : Foot [.flume, .ports, .feeders, .hopper, .trace, .grist, .loops]
      (some [1, 2, 5, 257, 258, 260, 261, 264, 281, 282, 283, 305, 307, 385]) x (s.feedersTick ins) :=
    each_foot (.refl _ _ _) fun _ _ h => feederTick_foot.on h
  rw [hfeeders.fld .time rfl]
  unfold x
  split
  · exact passTime_tick s 1
  · rfl

theorem feedersTick_inputs (f : Fin 16) : ((s.feedersTick ins).feeder f.val).inputs =
    (s.clFlag f.val ins[f.val].shunt, ins[f.val].vds.toNat, ins[f.val].vgsOk, ins[f.val].seatLow,
      if ins[f.val].seatLow then min 10000 ((s.feeder f.val).seatLow + 1) else 0,
      if ins[f.val].seatLow then 0 else min 20 ((s.feeder f.val).seatHigh + 1)) := by
  let u (f : Nat) (s : State) : State := s.feederTick f (vget ins f ⟨0, false, 0, false⟩)
  let x₀ := if s.tickCounts then s.passTime 1 else s
  have htime : FeederKept f.val s x₀ := by
    unfold x₀
    split
    · exact .foot passTime_foot
    · exact .refl s
  obtain ⟨x, hbefore, hafter⟩ := each_visits (K := FeederKept) (u := u) (fun _ => FeederKept.refl) FeederKept.trans
    (fun i j x hlt hne => feederTick_others x i _ hlt hne) x₀ f.val f.isLt
  have hx := htime.trans hbefore
  have hin : vget ins f.val ⟨0, false, 0, false⟩ = ins[f.val] := dif_pos f.isLt
  have hrecord : (s.feedersTick ins).feeder f.val = (u f.val x).feeder f.val := hafter.record
  rw [hrecord, feederTick_inputs x _ f.isLt, hin, hx.clFlag, hx.record]

theorem sluiceTick_runs (hs : s.sluiceRuns = true) : exec (.sluiceTick ins) s = .next (s.feedersTick ins) :=
  if_neg (by simp [hs])

end

/-! ## The seats -/

theorem feederOn_iff {s : State} {f : Nat} :
    s.feederOn f = true ↔ s.objSt (oFeeder f) = osStarting ∨ s.objSt (oFeeder f) = osActive := by
  simp [State.feederOn, State.feederStarting]

theorem feederOn_of_latched {s : State} {f : Nat} (h : s.objSt (oFeeder f) = osLatched) : s.feederOn f = false :=
  Bool.eq_false_iff.2 fun hon => by
    rw [feederOn_iff, h] at hon
    rcases hon with hon | hon <;> cases hon

section
variable (s : State) {f : Nat}

theorem readWeir_of_off (h : s.feederOn f = false) : s.readWeir f = s := if_neg (by simp [h])

theorem readWeir_of_quiet (h : weirBits (s.feeder f).weir = []) : s.readWeir f = s := if_neg (by simp [h])

/-- A set Weir latch is read first: the feeder is latched (R160). -/
theorem readWeir_latches (hf : f < 16) (hon : s.feederOn f = true) (h : weirBits (s.feeder f).weir ≠ []) :
    (s.readWeir f).objSt (oFeeder f) = osLatched := by
  have htrip : s.readWeir f = s.feederTrip f (weirBits (s.feeder f).weir) := if_pos (by simp [hon, h])
  rw [htrip]
  exact (feederTrip_trips s _ hf).state

/-- A feeder that was on waits; any other keeps its state (R150). -/
theorem feederWait_objSt (f : Nat) : (s.feederWait f).objSt (oFeeder f) =
    if s.feederOn f then osWaiting else s.objSt (oFeeder f) := by
  unfold State.feederWait
  dsimp only
  split
  · exact setObj_objSt _ _ _
  · rfl

/-- What is left of a feeder whose seat has opened (R147, R150, R169). -/
structure SeatOpened (s : State) (f : Nat) (t : State) : Prop where
  seated  : (t.feeder f).seated = false
  gate    : (t.feeder f).gate = false
  events  : s.par (oFeeder f) Pid.Feeder.SEAT_EVENTS < 4294967295 →
    t.par (oFeeder f) Pid.Feeder.SEAT_EVENTS = s.par (oFeeder f) Pid.Feeder.SEAT_EVENTS + 1
  waits   : s.feederOn f = true →
    t.objSt (oFeeder f) = if weirBits (s.feeder f).weir = [] then osWaiting else osLatched
  latched : s.objSt (oFeeder f) = osLatched → t.objSt (oFeeder f) = osLatched ∧ (t.feeder f).reseat = true

theorem seatEvents_hi : ∀ f < 16, (findDesc (oFeeder f) Pid.Feeder.SEAT_EVENTS).map Desc.hi = some 4294967295 := by decide

theorem seatOpened_spec (hf : f < 16) : SeatOpened s f (s.seatOpened f) := by
  let y := (s.readWeir f).feederWait f
  let z := y.modFeeder f fun a =>
    { a with seated := false, insertRun := 0, reseat := a.reseat || y.objSt (oFeeder f) == osLatched }
  have hz : z.feeder f = _ := feeder_modFeeder y hf _
  have hfoot : Foot [.flume, .ports, .feeders, .hopper, .trace, .grist, .loops]
      (some [1, 2, 5, 257, 258, 260, 261, 264, 281, 305, 307, 385]) s z :=
    modFeeder_foot.on (feederWait_foot.on readWeir_foot.within)
  have hstate : (z.incPar (oFeeder f) Pid.Feeder.SEAT_EVENTS).objSt (oFeeder f) = y.objSt (oFeeder f) :=
    par_setPar_pid _ _ (by decide) (by decide) (by decide)
  have hkeeps (h : s.objSt (oFeeder f) = osLatched) : y.objSt (oFeeder f) = osLatched := by
    have hoff := feederOn_of_latched h
    rw [feederWait_objSt, readWeir_of_off s hoff, if_neg (by simp [hoff]), h]
  refine ⟨congrArg FeederAux.seated hz, (congrArg FeederAux.gate hz).trans (feederWait_off f _), fun h => ?_,
    fun hon => hstate.trans ?_, fun h => ⟨hstate.trans (hkeeps h), (congrArg FeederAux.reseat hz).trans ?_⟩⟩
  · have hevents : z.par (oFeeder f) Pid.Feeder.SEAT_EVENTS = s.par (oFeeder f) Pid.Feeder.SEAT_EVENTS :=
      hfoot.par _ rfl _ _ (by decide) rfl
    exact (par_incPar_of_hi (seatEvents_hi f hf) (hevents ▸ h)).trans (by rw [hevents])
  · rw [feederWait_objSt]
    by_cases hq : weirBits (s.feeder f).weir = []
    · rw [readWeir_of_quiet s hq, if_pos hon, if_pos hq]
    · have hl := readWeir_latches s hf hon hq
      rw [feederOn_of_latched hl, hl, if_neg hq]
      rfl
  · simp [hkeeps h]

/-- Acting on a serve leaves the seat, the wait for reseating and the insertion delay. -/
theorem serveAct_seat (f : Nat) : (((s.serveAct f).feeder f).seated, ((s.serveAct f).feeder f).reseat,
    ((s.serveAct f).feeder f).insertRun) = ((s.feeder f).seated, (s.feeder f).reseat, (s.feeder f).insertRun) := by
  unfold State.serveAct
  split
  · exact feeder_modFeeder_keeps s (P := fun a => (a.seated, a.reseat, a.insertRun)) (by intro _; rfl) f
  · rfl

/-- A stable seat counts as seated; a reseated LATCHED feeder is cleared (R147, R169). -/
theorem seatStabled_spec (hf : f < 16) : ((s.seatStabled f).feeder f).seated = true ∧
    ((s.feeder f).reseat = true → s.objSt (oFeeder f) = osLatched →
      LatchClear (oFeeder f) (s.seatStabled f) ∧ ((s.seatStabled f).feeder f).reseat = false) := by
  let x := s.modFeeder f fun a => { a with seated := true }
  have hx : x.feeder f = _ := feeder_modFeeder s hf _
  let cleared := (x.clearFaults (oFeeder f)).setObj (oFeeder f) osWaiting
  have hcleared : (x.feederClear f).feeder f = { x.feeder f with reseat := false, enableOff := false, condition := false } :=
    feeder_modFeeder cleared hf _
  refine ⟨?_, fun hr hl => ?_⟩
  · unfold State.seatStabled
    dsimp only
    split
    · rw [hcleared, hx]
    · rw [hx]
  · have hstabled : s.seatStabled f = x.feederClear f :=
      if_pos (Bool.and_eq_true_iff.2 ⟨(congrArg FeederAux.reseat hx).trans hr, beq_iff_eq.2 hl⟩)
    rw [hstabled, hcleared]
    exact ⟨clearWait_clear x (oFeeder f), rfl⟩

end

/-! ## The commands -/

section
variable {s : State} {f : Fin 16} (hs : s.sluiceRuns = true)
include hs

theorem seatStable_seats : Runs (.seatStable f) s fun t => (t.feeder f.val).seated = true ∧
    ((s.feeder f.val).reseat = true → s.objSt (oFeeder f.val) = osLatched →
      t.par (oFeeder f.val) Pid.FAULT_LATCH = 0 ∧ (t.feeder f.val).reseat = false) := by
  let x := s.modFeeder f.val fun a => { a with seatLow := 10000, seatHigh := 0, low := true }
  have hx : x.feeder f.val = _ := feeder_modFeeder s f.isLt _
  obtain ⟨hseated, hclear⟩ := seatStabled_spec x f.isLt
  have hserve := serveAct_seat (x.seatStabled f.val) f.val
  simp only [Prod.mk.injEq] at hserve
  obtain ⟨hserved, hreseat, -⟩ := hserve
  refine ⟨_, if_neg (by simp [hs]), hserved.trans hseated, fun hr hl => ?_⟩
  obtain ⟨hlatch, hnone⟩ := hclear (by rw [hx]; exact hr) hl
  exact ⟨(serveAct_foot.par _ rfl _ _ (by decide) rfl).trans hlatch, hreseat.trans hnone⟩

theorem seatOpen_opens (hh : (s.feeder f.val).seatHigh < 20)
    (he : s.par (oFeeder f.val) Pid.Feeder.SEAT_EVENTS < 4294967295) :
    Runs (.seatOpen f) s fun t => (t.feeder f.val).seated = false ∧ (t.feeder f.val).gate = false ∧
      t.par (oFeeder f.val) Pid.Feeder.SEAT_EVENTS = s.par (oFeeder f.val) Pid.Feeder.SEAT_EVENTS + 1 ∧
      (s.feederOn f.val = true →
        t.objSt (oFeeder f.val) = (if weirBits (s.feeder f.val).weir = [] then osWaiting else osLatched)) ∧
      (s.objSt (oFeeder f.val) = osLatched →
        t.objSt (oFeeder f.val) = osLatched ∧ (t.feeder f.val).reseat = true) := by
  let x := s.modFeeder f.val fun a => { a with seatLow := 0, seatHigh := 20, low := false }
  have hx : x.feeder f.val = _ := feeder_modFeeder s f.isLt _
  obtain ⟨hseated, hgate, hevents, hwaits, hlatched⟩ := seatOpened_spec x f.isLt
  rw [hx] at hwaits
  exact ⟨_, if_neg (by simp [hs, hh]), hseated, hgate, hevents he, hwaits, hlatched⟩

theorem insertDelay_serves (hlow : (s.feeder f.val).low = true) (hw : s.windowsNow f.val = true) :
    let d := (s.par (oFeeder f.val) Pid.Feeder.INSERT_DELAY).toNat
    let w := s.modFeeder f.val fun a => { a with windowOk := true, insertRun := max a.insertRun d }
    Runs (.insertDelay f) s fun t => s.par (oFeeder f.val) Pid.Feeder.INSERT_DELAY ≤ (t.feeder f.val).insertRun ∧
      ((s.feeder f.val).serve = true → w.feederReady f.val = true → s.linkUp = true → s.miller.restarting = false →
        (s.consF f.val).masked = false → s.par (oFeeder f.val) Pid.Feeder.I_LIMIT ≠ 0 →
        t.objSt (oFeeder f.val) = osStarting ∧ (t.feeder f.val).gate = true) := by
  intro d w
  have hfeeder : w.feeder f.val = _ := feeder_modFeeder s f.isLt _
  have hserve := serveAct_seat w f.val
  simp only [Prod.mk.injEq] at hserve
  obtain ⟨-, -, hrun⟩ := hserve
  refine ⟨w.serveAct f.val, if_neg (by simp [hs, hlow, hw]), ?_, fun hsv hready hlink hmiller hmask hlim => ?_⟩
  · rw [hrun, hfeeder]
    have hself : s.par (oFeeder f.val) Pid.Feeder.INSERT_DELAY ≤ d := Int.self_le_toNat _
    have hmax : d ≤ max (s.feeder f.val).insertRun d := le_max_right _ _
    exact hself.trans (by exact_mod_cast hmax)
  · have hstart : w.serveAct f.val = w.rampStart f.val := by
      have hsv' : (w.feeder f.val).serve = true := by rw [hfeeder]; exact hsv
      have hlink' : w.linkUp = true := hlink
      have hmiller' : w.miller.restarting = false := hmiller
      have hmask' : (w.consF f.val).masked = false := hmask
      have hlim' : w.par (oFeeder f.val) Pid.Feeder.I_LIMIT ≠ 0 := hlim
      exact if_pos (by simp [hsv', hready, hlink', hmiller', hmask', hlim'])
    rw [hstart]
    refine ⟨setObj_objSt _ _ _, ?_⟩
    exact congrArg FeederAux.gate (feeder_modFeeder w f.isLt _)

end

/-- Settles O44: the inputs of a tick, the two ends of a seat's run, and the end of the insertion delay. -/
theorem feedersFollow : Obligations.FeedersFollow := by
  refine ⟨fun s ins hs => ⟨_, sluiceTick_runs ins hs, feedersTick_tick ins, fun f => ?_⟩,
    fun s f hs => ⟨seatStable_seats hs, seatOpen_opens hs, insertDelay_serves hs⟩⟩
  have hin := feedersTick_inputs (s := s) ins f
  simp only [FeederAux.inputs, Prod.mk.injEq] at hin
  exact hin

end Sys2Proof.Machine

/-! # Proofs: strings switch (O46) -/

namespace Sys2Proof.Machine

open Sys2Proof State

set_option Elab.async false

/-! ## A string's records and its trip -/

/-- A Weir latch that tells nothing is one that is not set. -/
theorem weirBits_eq_nil {w : WeirAux} : weirBits w = [] ↔ w.latchA = false ∧ w.latchB = false := by
  cases ha : w.latchA <;> cases hb : w.latchB <;> simp [weirBits, ha, hb]

theorem flFastTrip_mem_weirBits {w : WeirAux} (h : ¬ (w.latchA = false ∧ w.latchB = false)) : flFastTrip ∈ weirBits w := by
  have hset : (w.latchA || w.latchB) = true := by
    rw [← Bool.not_eq_false, Bool.or_eq_false_iff]
    exact h
  simp [weirBits, hset]

/-- A string that a cause has latched: its switch is open, and the trip counted (R180). -/
def StringTripped (s : State) (k cause : Nat) (t : State) : Prop :=
  t.objSt (oString k) = osLatched ∧ (t.str k).connected = false ∧ t.bit (oString k) Pid.FAULT_LATCH cause = true ∧
    (s.par (oString k) Pid.String.TRIP_TOTAL < 4294967295 →
      t.par (oString k) Pid.String.TRIP_TOTAL = s.par (oString k) Pid.String.TRIP_TOTAL + 1)

section
variable (s : State) {k : Nat} (hk : k < 4)
include hk

theorem stringTripTotal_hi : (findDesc (oString k) Pid.String.TRIP_TOTAL).map Desc.hi = some 4294967295 :=
  (by decide : ∀ k < 4, (findDesc (oString k) Pid.String.TRIP_TOTAL).map Desc.hi = some 4294967295) k hk

theorem switchOff_connected : ((s.switchOff k).str k).connected = false :=
  congrArg StringAux.connected (str_modStr s hk _)

theorem stringTrip_trips {bits : List Nat} {cause : Nat} (hc : cause ∈ bits) :
    StringTripped s k cause (s.stringTrip k bits) := by
  let bits' := bits ++ if s.commLong k then [flComm] else []
  have hlatch : Foot [.flume, .ports, .hopper, .trace, .loops] (some [1, 2, 288, 305, 307, 385]) (s.switchOff k)
      ((s.switchOff k).tripCounted (oString k) Pid.String.TRIP_TOTAL bits') :=
    (latchFault_foot.on setObj_foot.within).incPar
  have hstr : (s.stringTrip k bits).str k = (s.switchOff k).str k := str_of_foot (recordPsd_foot.on hlatch.within :
    Foot [.flume, .ports, .hopper, .trace, .loops, .grist] (some (288 :: tripPids)) (s.switchOff k) (s.stringTrip k bits)) k
  obtain ⟨hstate, hbits, htotal⟩ :
      TripLatched (s.switchOff k) (s.stringTrip k bits) (oString k) Pid.String.TRIP_TOTAL bits' :=
    tripRecorded_latched _ bits' _ _ _ (stringTripTotal_hi hk)
  exact ⟨hstate, (congrArg StringAux.connected hstr).trans (switchOff_connected s hk),
    hbits _ (List.mem_append_left _ hc), htotal⟩

end

/-! ## The switch machine's tick -/

theorem module_modModule (s : State) {m : Nat} (h : m < 64) (g : ModuleAux → ModuleAux) :
    (s.modModule m g).module m = g (s.module m) := vget_vmod s.modules h g _

theorem module_modModule_other (s : State) {m n : Nat} (h : m ≠ n) (g : ModuleAux → ModuleAux) :
    (s.modModule m g).module n = s.module n := vget_vmod_other _ h g _

/-- What the tick of the switch machine samples: the gate's comparator, and the ticks of the ramp (R176). -/
def State.switchSampled (s : State) (k : Nat) (vgsOk : Bool) : State :=
  s.modStr k fun a => { a with vgsOk := vgsOk, startRun := if a.starting then a.startRun + 1 else 0 }

section
variable {s : State} {k : Fin 4} {ok : Bool} {vds : Int}

theorem switchSampled_str (s : State) (k : Fin 4) (ok : Bool) : (s.switchSampled k.val ok).str k.val =
    { s.str k.val with vgsOk := ok, startRun := if (s.str k.val).starting then (s.str k.val).startRun + 1 else 0 } :=
  str_modStr s k.isLt _

theorem switchSampled_weir : ((s.switchSampled k.val ok).str k.val).weir = (s.str k.val).weir :=
  str_modStr_keeps s (by intro _; rfl) k.val

theorem switchSampled_connected : ((s.switchSampled k.val ok).str k.val).connected = (s.str k.val).connected :=
  str_modStr_keeps s (by intro _; rfl) k.val

theorem switchSampled_chan : ((s.switchSampled k.val ok).str k.val).chan = (s.str k.val).chan :=
  str_modStr_keeps s (by intro _; rfl) k.val

theorem switchSampled_switchClose : (s.switchSampled k.val ok).switchClose k.val = s.switchClose k.val := by
  simp only [State.switchClose, switchSampled_chan]
  rfl

theorem switchSampled_chargeLimit : (s.switchSampled k.val ok).chargeLimit k.val vds = s.chargeLimit k.val vds := by
  simp only [State.chargeLimit, switchSampled_str]
  rfl

/-- The tick of a string's switch machine (R175 to R177, R181). -/
theorem stringSwitchTick_eq (hs : s.sluiceRuns = true) : exec (.stringSwitchTick k ok vds) s =
    let u := s.switchSampled k.val ok
    let bits := weirBits (s.str k.val).weir
    if s.stringOn k.val && !bits.isEmpty then .next (u.stringTrip k.val bits)
    else if s.stringStarting k.val then
      if ok && s.switchClose k.val then .next (u.stringConnected k.val)
      else if (u.str k.val).startRun ≥ (s.par (oString k.val) Pid.String.CONNECT_TIMEOUT).toNat then
        .next (u.stringTrip k.val [flType 2])
      else .next u
    else if (s.str k.val).connected then .next (u.chargeRegulate k.val vds)
    else .next u := by
  let u := s.switchSampled k.val ok
  have hexec : exec (.stringSwitchTick k ok vds) s =
      if u.stringOn k.val && !(weirBits (u.str k.val).weir).isEmpty then
        .next (u.stringTrip k.val (weirBits (u.str k.val).weir))
      else if u.stringStarting k.val then
        if ok && u.switchClose k.val then .next (u.stringConnected k.val)
        else if (u.str k.val).startRun ≥ (u.par (oString k.val) Pid.String.CONNECT_TIMEOUT).toNat then
          .next (u.stringTrip k.val [flType 2])
        else .next u
      else if (u.str k.val).connected then .next (u.chargeRegulate k.val vds)
      else .next u := if_neg (by simp [hs])
  rw [hexec, switchSampled_weir, switchSampled_connected, switchSampled_switchClose]
  rfl

/-- The RC states of a string's modules start at 0 (R191). -/
theorem eachOf_rcCleared (s : State) (l : List Nat) : ∀ m ∈ l, m < 64 →
    let t := s.eachOf l fun m s => s.modModule m fun a => { a with vrc1 := 0, vrc2 := 0 }
    (t.module m).vrc1 = 0 ∧ (t.module m).vrc2 = 0 := by
  refine eachOf_sets (P := fun m x => m < 64 → (x.module m).vrc1 = 0 ∧ (x.module m).vrc2 = 0) (Q := fun _ => True)
    (fun m _ x _ hlt => ?_) (fun i j x hij _ hj hlt => ?_) (fun _ _ _ => trivial) trivial
  · rw [module_modModule x hlt]
    exact ⟨rfl, rfl⟩
  · rw [module_modModule_other x hij]
    exact hj hlt

theorem stringConnected_spec (s : State) (k : Fin 4) : let t := s.stringConnected k.val
    t.objSt (oString k.val) = osActive ∧ (t.str k.val).connected = true ∧
      ∀ m ∈ s.modulesOf k.val, m < 64 → (t.module m).vrc1 = 0 ∧ (t.module m).vrc2 = 0 := by
  let x := s.modStr k.val fun a => { a with connected := true, starting := false, startRun := 0 }
  let y := x.eachOf (x.modulesOf k.val) fun m s => s.modModule m fun a => { a with vrc1 := 0, vrc2 := 0 }
  have hy : Foot [.modules] (some []) x y := eachOf_foot (.refl _ _ _) fun _ _ h => modModule_foot.on h
  refine ⟨setObj_objSt y _ _, ?_, eachOf_rcCleared x _⟩
  exact congrArg StringAux.connected ((str_of_foot hy k.val).trans (str_modStr s k.isLt _))

section
variable (hs : s.sluiceRuns = true)
include hs

section
variable (hq : (s.str k.val).weir.latchA = false ∧ (s.str k.val).weir.latchB = false)
include hq

/-- With no Weir latch set, a tick of a string that is STARTING connects it, trips it or waits (R176). -/
theorem stringSwitchTick_starting (hst : s.stringStarting k.val = true) : exec (.stringSwitchTick k ok vds) s =
    if ok && s.switchClose k.val then .next ((s.switchSampled k.val ok).stringConnected k.val)
    else if ((s.switchSampled k.val ok).str k.val).startRun ≥ (s.par (oString k.val) Pid.String.CONNECT_TIMEOUT).toNat then
      .next ((s.switchSampled k.val ok).stringTrip k.val [flType 2])
    else .next (s.switchSampled k.val ok) := by
  rw [stringSwitchTick_eq hs, weirBits_eq_nil.2 hq]
  dsimp only
  rw [if_neg (by simp), if_pos hst]

/-- The switch closes when the voltages meet (R176). -/
theorem stringSwitchTick_connects (hst : s.stringStarting k.val = true) (hok : ok = true)
    (hclose : s.switchClose k.val = true) : Runs (.stringSwitchTick k ok vds) s fun t =>
      t.objSt (oString k.val) = osActive ∧ (t.str k.val).connected = true ∧
      ∀ m ∈ s.modulesOf k.val, m < 64 → (t.module m).vrc1 = 0 ∧ (t.module m).vrc2 = 0 :=
  ⟨_, (stringSwitchTick_starting hs hq hst).trans (if_pos (by simp [hok, hclose])), stringConnected_spec _ k⟩

/-- Else the ramp runs on, to its timeout (R176). -/
theorem stringSwitchTick_waits (hst : s.stringStarting k.val = true) (hopen : ok = false ∨ s.switchClose k.val = false)
    (hramp : (s.str k.val).starting = true) :
    ((s.par (oString k.val) Pid.String.CONNECT_TIMEOUT).toNat ≤ (s.str k.val).startRun + 1 →
      Runs (.stringSwitchTick k ok vds) s (StringTripped s k.val (flType 2))) ∧
    ((s.str k.val).startRun + 1 < (s.par (oString k.val) Pid.String.CONNECT_TIMEOUT).toNat →
      Runs (.stringSwitchTick k ok vds) s fun t =>
        (t.str k.val).startRun = (s.str k.val).startRun + 1 ∧ Foot [.strings] (some []) s t) := by
  have hrun : ((s.switchSampled k.val ok).str k.val).startRun = (s.str k.val).startRun + 1 := by
    rw [switchSampled_str, if_pos hramp]
  have hnext := (stringSwitchTick_starting (vds := vds) hs hq hst).trans (if_neg (by simpa [or_iff_not_imp_left] using hopen))
  rw [hrun] at hnext
  refine ⟨fun hlate => ?_, fun hsoon => ?_⟩
  · exact ⟨_, hnext.trans (if_pos hlate), stringTrip_trips (s.switchSampled k.val ok) k.isLt (by simp)⟩
  · exact ⟨_, hnext.trans (if_neg (Nat.not_le.2 hsoon)), hrun, modStr_foot⟩

/-- The charge of a connected string is regulated (R177). -/
theorem stringSwitchTick_regulates (hst : s.stringStarting k.val = false) (hc : (s.str k.val).connected = true) :
    Runs (.stringSwitchTick k ok vds) s fun t =>
      t.par (oString k.val) Pid.String.CHARGE_LIMIT_APPLIED = s.chargeLimit k.val vds ∧
      (t.str k.val).enhanced = decide ((s.str k.val).chan.value < 0) := by
  let u := s.switchSampled k.val ok
  refine ⟨u.chargeRegulate k.val vds, ?_, ?_, ?_⟩
  · rw [stringSwitchTick_eq hs, weirBits_eq_nil.2 hq]
    dsimp only
    rw [if_neg (by simp), if_neg (by simp [hst]), if_pos hc]
  · exact (State.par_setPar_same u (by decide) _).trans switchSampled_chargeLimit
  · refine (congrArg StringAux.enhanced (str_modStr _ k.isLt _)).trans ?_
    rw [switchSampled_chan]

end

/-- A set Weir latch is read first (R181). -/
theorem stringSwitchTick_trips (hq : ¬ ((s.str k.val).weir.latchA = false ∧ (s.str k.val).weir.latchB = false))
    (hon : s.stringOn k.val = true) : Runs (.stringSwitchTick k ok vds) s (StringTripped s k.val flFastTrip) := by
  refine ⟨(s.switchSampled k.val ok).stringTrip k.val (weirBits (s.str k.val).weir), ?_,
    stringTrip_trips (s.switchSampled k.val ok) k.isLt (flFastTrip_mem_weirBits hq)⟩
  rw [stringSwitchTick_eq hs]
  exact if_pos (by simp [hon, mt weirBits_eq_nil.1 hq])

/-- A ramp that lasts too long trips the string, for a set Weir latch where there is one (R176, Table 7-15). -/
theorem connectTimeout_trips (hst : s.stringStarting k.val = true) :
    ((s.str k.val).weir.latchA = false ∧ (s.str k.val).weir.latchB = false →
      Runs (.connectTimeout k) s (StringTripped s k.val (flType 2))) ∧
    (¬ ((s.str k.val).weir.latchA = false ∧ (s.str k.val).weir.latchB = false) →
      Runs (.connectTimeout k) s (StringTripped s k.val flFastTrip)) := by
  refine ⟨fun hq => ⟨_, if_pos (by simp [hs, hst]), stringTrip_trips s k.isLt ?_⟩,
    fun hq => ⟨_, if_pos (by simp [hs, hst]), stringTrip_trips s k.isLt ?_⟩⟩
  · simp [weirBits_eq_nil.2 hq]
  · rw [if_neg (by simp [mt weirBits_eq_nil.1 hq])]
    exact flFastTrip_mem_weirBits hq

end

/-! ## The other commands of a string -/

theorem stringConnect_starts (h : s.mayConnect k.val = true) : Runs (.stringConnect k) s fun t =>
    t.objSt (oString k.val) = osStarting ∧ (t.str k.val).starting = true ∧ Foot [.strings] (some [Pid.OBJ_STATE]) s t :=
  ⟨_, if_pos h, setObj_objSt _ _ _, congrArg StringAux.starting (str_modStr s k.isLt _), setObj_foot.on modStr_foot.within⟩

theorem dischargeReversal_enhances (hp : s.psdPowered = true) (hc : (s.str k.val).connected = true) :
    Runs (.dischargeReversal k) s fun t =>
      (t.str k.val).enhanced = true ∧ (t.str k.val).chgReg = false ∧ Foot [.strings] (some []) s t := by
  refine ⟨_, if_pos (by simp [hp, hc]), ?_, ?_, modStr_foot⟩
  all_goals rw [str_modStr s k.isLt]

theorem stringFastTrip_opens (byA byB : Bool) (hp : s.psdPowered = true) (hon : s.stringOn k.val = true)
    (hby : (byA = true ∧ s.compFailed (oString k.val) false = false) ∨
      (byB = true ∧ s.compFailed (oString k.val) true = false)) :
    Runs (.stringFastTrip k byA byB) s fun t => (t.str k.val).connected = false ∧
      ((t.str k.val).weir.latchA = true ∨ (t.str k.val).weir.latchB = true) ∧ Foot [.strings] (some []) s t := by
  have hcomp : (byA && !s.compFailed (oString k.val) false) = true ∨ (byB && !s.compFailed (oString k.val) true) = true := by
    simpa using hby
  refine ⟨_, if_pos ?_, ?_, ?_, modStr_foot.on switchOff_foot.within⟩
  · rcases hcomp with h | h <;> simp [hp, hon, h]
  · rw [str_modStr _ k.isLt]
    exact switchOff_connected s k.isLt
  · rw [str_modStr _ k.isLt]
    exact hcomp.imp (fun h => by simp [h]) fun h => by simp [h]

end
end Sys2Proof.Machine

/-! # Proofs: comparator proofs are judged (O46) -/

namespace Sys2Proof.Machine

open Sys2Proof State

set_option Elab.async false

/-! ## One bit of a status word -/

theorem setBitTo_eq (v : Int) (m : Nat) (b : Bool) :
    setBitTo v m b = v + ((if b then 1 else 0) - v / 2 ^ m % 2) * 2 ^ m := by
  rcases Int.emod_two_eq_zero_or_one (v / 2 ^ m) with hq | hq
  · have hv : bitOf v m = false := by simp [bitOf, hq]
    cases b <;> simp [setBitTo, hv, hq]
  · have hv : bitOf v m = true := by simp [bitOf, hq]
    cases b <;> simp [setBitTo, hv, hq, sub_eq_add_neg]

/-- The bits from the written one on: the lowest of them is the written one. -/
theorem setBitTo_ediv (v : Int) (m : Nat) (b : Bool) :
    setBitTo v m b / 2 ^ m = v / 2 ^ m + ((if b then 1 else 0) - v / 2 ^ m % 2) := by
  rw [setBitTo_eq, Int.add_mul_ediv_right _ _ (by positivity)]

theorem bitOf_setBitTo_same (v : Int) (m : Nat) (b : Bool) : bitOf (setBitTo v m b) m = b := by
  rw [bitOf, setBitTo_ediv]
  cases b with
  | false => simp only [Bool.false_eq_true, if_false, beq_eq_false_iff_ne]; omega
  | true => simp only [if_true, beq_iff_eq]; omega

/-- A write to one bit leaves every other. -/
theorem bitOf_setBitTo_other (v : Int) {m n : Nat} (b : Bool) (h : n ≠ m) : bitOf (setBitTo v m b) n = bitOf v n := by
  rcases Nat.lt_or_gt_of_ne h with hlt | hlt
  · obtain ⟨j, rfl⟩ := Nat.exists_eq_add_of_lt hlt
    have hpow : ((if b then 1 else 0) - v / 2 ^ (n + j + 1) % 2) * (2 : Int) ^ (n + j + 1) =
        2 ^ n * (2 * (((if b then 1 else 0) - v / 2 ^ (n + j + 1) % 2) * 2 ^ j)) := by ring
    rw [bitOf, bitOf, setBitTo_eq, hpow, Int.add_mul_ediv_left _ _ (by positivity), Int.add_mul_emod_self_left]
  · obtain ⟨j, rfl⟩ := Nat.exists_eq_add_of_lt hlt
    have hdiv (w : Int) : w / 2 ^ (m + j + 1) = w / 2 ^ m / 2 / 2 ^ j := by
      rw [Int.ediv_ediv_of_nonneg (by positivity), Int.ediv_ediv_of_nonneg (by positivity)]
      congr 1
      ring
    have hhalf : (v / 2 ^ m + ((if b then 1 else 0) - v / 2 ^ m % 2)) / 2 = v / 2 ^ m / 2 := by
      split <;> omega
    rw [bitOf, bitOf, hdiv, setBitTo_ediv, hhalf, ← hdiv]

section
variable {s : State} {o pid : Nat} (hp : pid < 4096)
include hp

theorem bit_clearBit_same (n : Nat) : (s.clearBit o pid n).bit o pid n = false := by
  rw [State.bit, State.clearBit, State.updPar, State.par_setPar_same _ hp, bitOf_setBitTo_same]

theorem bit_clearBit_other {m n : Nat} (h : n ≠ m) : (s.clearBit o pid m).bit o pid n = s.bit o pid n := by
  rw [State.bit, State.clearBit, State.updPar, State.par_setPar_same _ hp, bitOf_setBitTo_other _ _ h, State.bit]

theorem bit_setBit_other {m n : Nat} (h : n ≠ m) : (s.setBit o pid m).bit o pid n = s.bit o pid n := by
  rw [State.bit, State.setBit, State.updPar, State.par_setPar_same _ hp, bitOf_setBitTo_other _ _ h, State.bit]

end

/-! ## WEIR_PROOF_STATUS and the delays -/

/-- The bit of a FAILED comparator (Table 6-9). -/
def failBit (b : Bool) : Nat := if b then 2 else 3

/-- The bit of a comparator whose proof is repeated (Table 6-9). -/
def retryBit (b : Bool) : Nat := if b then 0 else 1

theorem failBit_ne_retryBit (b : Bool) : failBit b ≠ retryBit b := by cases b <;> decide

/-- No record moves WEIR_PROOF_STATUS. -/
theorem weirPid_apart (o : Nat) : weirPid o < 4096 ∧ [5, 257, 258, 260, 261, 264].contains (weirPid o) = false := by
  unfold weirPid
  split <;> decide

/-- The delay of a comparator is apart from WEIR_PROOF_STATUS and from what a record moves. -/
theorem delayPid_apart : ∀ (pair : Fin 20) (b : Bool), delayPid (pairObj pair.val) b < 4096 ∧
    delayPid (pairObj pair.val) b ≠ weirPid (pairObj pair.val) ∧
    [5, 257, 258, 260, 261, 264].contains (delayPid (pairObj pair.val) b) = false := by
  decide

/-- What a completed proof stores leaves what the judgement reads (R162). -/
theorem proofCount_bit (v : Int) (b pass : Bool) {n : Nat} (h : n < 4) :
    bitOf (setBitTo (setBitTo (v % 256 + (v / 256 + 1) % 256 * 256) 5 b) 4 pass) n = bitOf v n := by
  rw [bitOf_setBitTo_other _ _ (by omega), bitOf_setBitTo_other _ _ (by omega), bitOf, bitOf]
  have hlow : (v % 256 + (v / 256 + 1) % 256 * 256) / 2 ^ n % 2 = v / 2 ^ n % 2 := by
    interval_cases n <;> norm_num <;> omega
  rw [hlow]

section
variable (s : State) (o : Nat) (b pass : Bool)

theorem proofStore_weir (x : ProofIn) : (∀ n < 4, (s.proofStore o b pass x).bit o (weirPid o) n =
      (s.setPar o (delayPid o b) (if x.asserted then (x.delay.toNat : Int) else 0xFFFF)).bit o (weirPid o) n) ∧
    (s.proofStore o b pass x).bit o (weirPid o) 4 = pass := by
  have hpar := State.par_setPar_same
    (s.setPar o (delayPid o b) (if x.asserted then (x.delay.toNat : Int) else 0xFFFF)) (o := o) (weirPid_apart o).1
  refine ⟨fun n hn => ?_, ?_⟩
  · rw [State.bit, State.proofStore, State.updPar, hpar, proofCount_bit _ _ _ hn, State.bit]
  · rw [State.bit, State.proofStore, State.updPar, hpar, bitOf_setBitTo_same]

/-! ## The judgement (R163) -/

/-- The passes of a FAILED comparator. -/
def State.withPasses (s : State) (o : Nat) (b : Bool) (n : Nat) : State :=
  s.modWeir o fun w => if b then { w with passesB := n } else { w with passesA := n }

/-- A comparator fails at its second failure in a row. -/
def State.comparatorFailed (s : State) (o : Nat) (b : Bool) : State :=
  (((s.clearBit o (weirPid o) (retryBit b)).setBit o (weirPid o) (failBit b)).withPasses o b 0).recordPsd o rcFault 0x07
    [.par o (weirPid o), .par o (delayPid o false), .par o (delayPid o true)]

theorem proofJudge_eq : s.proofJudge o b pass =
    let passes := if b then (s.weirOf o).passesB else (s.weirOf o).passesA
    if s.bit o (weirPid o) (failBit b) then
      if !pass then s.withPasses o b 0
      else if passes + 1 ≥ 2 then (s.withPasses o b 0).clearBit o (weirPid o) (failBit b)
      else s.withPasses o b (passes + 1)
    else if pass then s.clearBit o (weirPid o) (retryBit b)
    else if s.bit o (weirPid o) (retryBit b) then s.comparatorFailed o b
    else s.setBit o (weirPid o) (retryBit b) := rfl

theorem withPasses_par (n : Nat) {pid : Nat} (hp : pid < 4096) : (s.withPasses o b n).par o pid = s.par o pid :=
  modWeir_foot.par _ rfl _ _ hp rfl

end

/-- A judgement leaves every parameter but the status word and a record's, and of the status word every bit but its two. -/
structure JudgeKept (o : Nat) (b : Bool) (s t : State) : Prop where
  pars : ∀ pid < 4096, pid ≠ weirPid o → [5, 257, 258, 260, 261, 264].contains pid = false → t.par o pid = s.par o pid
  bits : ∀ n, n ≠ failBit b → n ≠ retryBit b → t.bit o (weirPid o) n = s.bit o (weirPid o) n

section
variable {o : Nat} {b : Bool} {s x : State}

theorem JudgeKept.refl (s : State) : JudgeKept o b s s := ⟨fun _ _ _ _ => rfl, fun _ _ _ => rfl⟩

section
variable (h : JudgeKept o b s x)
include h

theorem JudgeKept.trans {y : State} (k : JudgeKept o b x y) : JudgeKept o b s y :=
  ⟨fun pid hp hw hr => (k.pars pid hp hw hr).trans (h.pars pid hp hw hr),
    fun n hf hr => (k.bits n hf hr).trans (h.bits n hf hr)⟩

theorem JudgeKept.clearBit {m : Nat} (hm : m = failBit b ∨ m = retryBit b) :
    JudgeKept o b s (x.clearBit o (weirPid o) m) :=
  h.trans ⟨fun _ hp hw _ => par_setPar_pid x _ hp (weirPid_apart o).1 hw,
    fun n hf hr => bit_clearBit_other (weirPid_apart o).1 (by rcases hm with rfl | rfl <;> assumption)⟩

theorem JudgeKept.setBit {m : Nat} (hm : m = failBit b ∨ m = retryBit b) : JudgeKept o b s (x.setBit o (weirPid o) m) :=
  h.trans ⟨fun _ hp hw _ => par_setPar_pid x _ hp (weirPid_apart o).1 hw,
    fun n hf hr => bit_setBit_other (weirPid_apart o).1 (by rcases hm with rfl | rfl <;> assumption)⟩

theorem JudgeKept.withPasses {n : Nat} : JudgeKept o b s (x.withPasses o b n) :=
  h.trans ⟨fun _ hp _ _ => withPasses_par x o b n hp,
    fun _ _ _ => congrArg (bitOf · _) (withPasses_par x o b n (weirPid_apart o).1)⟩

theorem JudgeKept.recordPsd {cls event : Nat} {snap : List Snap} : JudgeKept o b s (x.recordPsd o cls event snap) :=
  h.trans ⟨fun _ hp _ hr => recordPsd_foot.par _ rfl _ _ hp hr,
    fun _ _ _ => congrArg (bitOf · _) (recordPsd_foot.par _ rfl _ _ (weirPid_apart o).1 (weirPid_apart o).2)⟩

end

theorem proofJudge_kept (s : State) (pass : Bool) : JudgeKept o b s (s.proofJudge o b pass) := by
  have h := JudgeKept.refl (o := o) (b := b) s
  rw [proofJudge_eq]
  extract_lets passes
  split
  · split
    · exact h.withPasses
    · split
      · exact h.withPasses.clearBit (.inl rfl)
      · exact h.withPasses
  · split
    · exact h.clearBit (.inr rfl)
    · split
      · exact ((h.clearBit (.inr rfl)).setBit (.inl rfl)).withPasses.recordPsd
      · exact h.setBit (.inr rfl)

theorem compFailed_eq : s.compFailed o b = s.bit o (weirPid o) (failBit b) := rfl

/-- The second failure in a row makes the comparator FAILED (R163). -/
theorem proofJudge_fails (hf : s.bit o (weirPid o) (failBit b) = false) (hr : s.bit o (weirPid o) (retryBit b) = true) :
    (s.proofJudge o b false).compFailed o b = true := by
  rw [proofJudge_eq]
  dsimp only
  rw [hf, if_neg Bool.false_ne_true, if_neg Bool.false_ne_true, hr, if_pos rfl, compFailed_eq, State.bit,
    State.comparatorFailed, recordPsd_foot.par _ rfl _ _ (weirPid_apart o).1 (weirPid_apart o).2,
    withPasses_par _ _ _ _ (weirPid_apart o).1]
  exact bit_setBit_same _ (weirPid_apart o).1 _

/-- A pass, or a first failure, leaves a comparator that works (R163). -/
theorem proofJudge_works {pass : Bool} (hf : s.bit o (weirPid o) (failBit b) = false)
    (h : pass = true ∨ s.bit o (weirPid o) (retryBit b) = false) : (s.proofJudge o b pass).compFailed o b = false := by
  have hne := failBit_ne_retryBit b
  rw [proofJudge_eq]
  dsimp only
  rw [hf, if_neg Bool.false_ne_true, compFailed_eq]
  split
  · rw [bit_clearBit_other (weirPid_apart o).1 hne, hf]
  · next hp => rw [h.resolve_left hp, if_neg Bool.false_ne_true, bit_setBit_other (weirPid_apart o).1 hne, hf]

/-- A FAILED comparator returns with its second pass (R163). -/
theorem proofJudge_returns (hf : s.bit o (weirPid o) (failBit b) = true)
    (h : 1 ≤ if b then (s.weirOf o).passesB else (s.weirOf o).passesA) : (s.proofJudge o b true).compFailed o b = false := by
  rw [proofJudge_eq]
  dsimp only
  rw [hf, if_pos rfl, if_neg (by decide), if_pos (by omega), compFailed_eq, bit_clearBit_same (weirPid_apart o).1]

end

/-! ## A proof -/

section
variable {s : State} {pair : Fin 20} {b : Bool} {x : ProofIn} (hs : s.sluiceRuns = true)

theorem weirProof_void (h : s.deviceMode = 2 ∨ x.moved = true ∨ x.tripped = true) :
    exec (.weirProof pair b x) s = .next s :=
  if_pos (by rcases h with h | h | h <;> simp [h])

include hs

/-- A completed proof stores its delay and its verdict, and judges its comparator (R162, R163). -/
theorem weirProof_judges (hmode : s.deviceMode ≠ 2) (hmoved : x.moved = false) (htripped : x.tripped = false) :
    let o := pairObj pair.val
    Runs (.weirProof pair b x) s fun t =>
      t.par o (delayPid o b) = (if x.asserted then (x.delay.toNat : Int) else 0xFFFF) ∧
      t.bit o (weirPid o) 4 = proofPasses o x ∧
      (s.bit o (weirPid o) (failBit b) = false → proofPasses o x = false → s.bit o (weirPid o) (retryBit b) = true →
        t.compFailed o b = true) ∧
      (s.bit o (weirPid o) (failBit b) = false → (proofPasses o x = true ∨ s.bit o (weirPid o) (retryBit b) = false) →
        t.compFailed o b = false) ∧
      (s.bit o (weirPid o) (failBit b) = true → proofPasses o x = true →
        1 ≤ (if b then (s.weirOf o).passesB else (s.weirOf o).passesA) → t.compFailed o b = false) := by
  intro o
  let pass := proofPasses o x
  let y := s.proofStore o b pass x
  let delay : Int := if x.asserted then (x.delay.toNat : Int) else 0xFFFF
  obtain ⟨hlt, hne, hrecord⟩ := delayPid_apart pair b
  obtain ⟨hbits, hverdict⟩ := proofStore_weir s o b pass x
  have hbit {n : Nat} (hn : n < 4) : y.bit o (weirPid o) n = s.bit o (weirPid o) n :=
    (hbits n hn).trans (congrArg (bitOf · n) (par_setPar_pid s delay (weirPid_apart o).1 hlt hne.symm))
  have hfail : y.bit o (weirPid o) (failBit b) = s.bit o (weirPid o) (failBit b) := hbit (by cases b <;> decide)
  have hretry : y.bit o (weirPid o) (retryBit b) = s.bit o (weirPid o) (retryBit b) := hbit (by cases b <;> decide)
  obtain ⟨hpars, hkept⟩ := proofJudge_kept (o := o) (b := b) y pass
  refine ⟨y.proofJudge o b pass, if_neg (by simp [hs, hmode, hmoved, htripped]), ?_, ?_, fun hf hp hr => ?_,
    fun hf h => ?_, fun hf hp hn => ?_⟩
  · rw [hpars _ hlt hne hrecord]
    exact (par_setPar_pid _ _ hlt (weirPid_apart o).1 hne).trans (State.par_setPar_same s hlt delay)
  · exact (hkept 4 (by cases b <;> decide) (by cases b <;> decide)).trans hverdict
  · have hpass : pass = false := hp
    rw [hpass]
    exact proofJudge_fails (hfail.trans hf) (hretry.trans hr)
  · exact proofJudge_works (hfail.trans hf) (h.imp_right hretry.trans)
  · have hpass : pass = true := hp
    rw [hpass]
    exact proofJudge_returns (hfail.trans hf) hn

end

/-- Settles O46: the rows of a string's switch, and a comparator's proof. -/
theorem stringsAndProofs : Obligations.StringsAndProofs := by
  refine ⟨fun s k => ⟨stringConnect_starts, fun ok vds hs hq hst => ?_, fun ok vds => stringSwitchTick_trips,
    fun ok vds => stringSwitchTick_regulates, connectTimeout_trips, dischargeReversal_enhances, stringFastTrip_opens⟩,
    fun s pair b x hs => ⟨weirProof_void, weirProof_judges hs⟩⟩
  exact ⟨stringSwitchTick_connects hs hq hst, stringSwitchTick_waits hs hq hst⟩

end Sys2Proof.Machine

/-! # Proofs: BATT_AUTH and BATT_LEARN_COMMIT begin and wait (O17) -/

namespace Sys2Proof.Machine

open Sys2Proof State

set_option Elab.async false

section
variable {x : State} {e : Op}

/-! ## BATT_AUTH -/

/-- The modules that a mask names (R202). -/
abbrev modulesNamed (mask : Nat) : List Nat := (List.range 64).filter fun m => mask.testBit m

/-- The authentication of an operation begins: no module that it names has a result yet (R202). -/
def State.authBegun (s : State) (e : Op) : State :=
  let mask := fieldU e.payload 0 8
  { s with auths := s.auths ++ [{ op := e.id, mask := mask, left := modulesNamed mask }] }

/-- BATT_AUTH passes its checks: its modules are configured, and none is being authenticated (R202). -/
theorem opBattAuth_begins (hlen : e.payload.length = 8) (hmask : fieldU e.payload 0 8 ≠ 0)
    (hconf : ∀ m ∈ modulesNamed (fieldU e.payload 0 8), x.configured m = true) (hlatch : x.thermalLatched = false)
    (hidle : ∀ m ∈ modulesNamed (fieldU e.payload 0 8), x.beingAuthed m = false) :
    opBattAuth e x = (x.authBegun e).opRunning e := by
  have hobject : ¬ ((modulesNamed (fieldU e.payload 0 8)).any fun m => !x.configured m) = true := by
    simpa using hconf
  have hbusy : ¬ (modulesNamed (fieldU e.payload 0 8)).any x.beingAuthed = true := by simpa using hidle
  unfold opBattAuth
  dsimp only
  rw [if_neg (not_not.2 hlen), if_neg hmask, if_neg hobject, if_neg (Bool.eq_false_iff.1 hlatch), if_neg hbusy]
  rfl

/-! ## BATT_LEARN_COMMIT -/

/-- A request that is put into the queue is in it, wherever its place. -/
theorem mem_putBefore (ok : NvmReq → Bool) (q : NvmReq) (l : List NvmReq) : q ∈ putBefore ok q l := by
  induction l with
  | nil => exact List.mem_cons_self
  | cons y rest ih =>
    unfold putBefore
    split
    · exact List.mem_cons_self
    · exact List.mem_cons_of_mem y ih

/-- The strings that a mask names (R203). -/
abbrev stringsNamed (mask : Nat) : List Nat := (List.range 4).filter fun k => mask.testBit k

/-- The write that BATT_LEARN_COMMIT asks for: the records of its strings (R203). -/
def State.learnWrite (s : State) (e : Op) : NvmReq :=
  let named := stringsNamed (byteAt e.payload 0)
  { kind := .battery, work := .battery named, pages := named.length + 1, op := some e.id, since := s.time.tick }

/-- The write is asked for before the first scheduled one that it serves (R203). -/
def State.learnAsked (s : State) (e : Op) : State :=
  { s with nvm := { s.nvm with
      queue := putBefore (servedBy (stringsNamed (byteAt e.payload 0))) (s.learnWrite e) s.nvm.queue } }

/-- BATT_LEARN_COMMIT passes its checks: its strings have modules, and learned values may be written (R203). -/
theorem opBattLearnCommit_asks (hlen : e.payload.length = 4) (hmask : byteAt e.payload 0 ≠ 0)
    (hrange : byteAt e.payload 0 < 16) (hzero : zeros e.payload 1 3 = true)
    (hmodules : ∀ k ∈ stringsNamed (byteAt e.payload 0), x.par (oString k) Pid.String.MODULE_COUNT ≠ 0)
    (hlatch : x.thermalLatched = false) (hlearn : x.mayLearn = true) :
    opBattLearnCommit e x = (x.learnAsked e).opRunning e := by
  have hparam : ¬ (decide (byteAt e.payload 0 = 0) || decide (byteAt e.payload 0 ≥ 16) || !zeros e.payload 1 3) = true := by
    simp [hmask, hrange, hzero]
  have hobject : ¬ ((stringsNamed (byteAt e.payload 0)).any fun k =>
      x.par (oString k) Pid.String.MODULE_COUNT == 0) = true := by simpa using hmodules
  have hfree : ¬ (x.thermalLatched || !x.mayLearn) = true := by simp [hlatch, hlearn]
  unfold opBattLearnCommit
  dsimp only
  rw [if_neg (not_not.2 hlen), if_neg hparam, if_neg hobject, if_neg hfree]
  rfl

end

/-- Settles O17: each operation, past its checks, leaves what it began and is made RUNNING. -/
theorem batteryOperations : Obligations.BatteryOperations := by
  intro s r p
  refine ⟨?auth, ?learn⟩
  case auth =>
    intro named ha hlen hmask hconf hlatch hidle
    have hrun := (submitReq_accepted opBattAuth ha).trans
      (opBattAuth_begins (x := Taken s r 0x60 p) (e := theOp s r 0x60 p) hlen hmask hconf hlatch hidle)
    exact ⟨_, congrArg Host.Outcome.next hrun, rfl, opRunning_waits rfl⟩
  case learn =>
    intro named ha hlen hmask hrange hzero hmodules hlatch hlearn
    have hrun := (submitReq_accepted opBattLearnCommit ha).trans (opBattLearnCommit_asks (x := Taken s r 0x61 p)
      (e := theOp s r 0x61 p) hlen hmask hrange hzero hmodules hlatch hlearn)
    exact ⟨_, congrArg Host.Outcome.next hrun, ⟨(Taken s r 0x61 p).learnWrite (theOp s r 0x61 p),
      mem_putBefore _ _ _, rfl, rfl⟩, opRunning_waits rfl⟩

end Sys2Proof.Machine

/-! # The thermal latch against a swap of a loop that does not exist (O47)

A sample of the sensors publishes T_NOW and then lets the latch operate (R223, R227). The latch turns the outputs off, and a
phase that stops completes the swaps aligned to it (R92), whichever loops their jobs name. -/

namespace Sys2Proof.Machine

open Sys2Proof State

set_option Elab.async false

/-- Firmware runs, phase 0 switches, and a registered swap aligned to it names loop number 224: `oLoop 224` is sensor 0, whose
last sample was at 145 °C. -/
def strayLatchState : State :=
  let s : State := { State.reset with wheel := { State.reset.wheel with swaps := [{ straySwap with left := [224] }] } }
  (s.modPhase 0 fun a => { a with switching := true }).modTherm 0 fun a => { a with samples := [latchLevel] }

/-- Every sensor is sampled at 145 °C, with its ring good. -/
def latchingSample : Instr := .thermalSample (Vector.replicate 16 18560#16) 0xFFFF

/-- T_NOW has the number of ACTIVE_BANK: the swap that the latch completes puts the new bank over the sample's mean. -/
theorem parAfter_strayLatch_tNow :
    parAfter (oTherm 0) Pid.Thermal.T_NOW (exec latchingSample strayLatchState) = some 0 := by decide +kernel

/-- Refutes O47: after two samples at 145 °C the latch stops phase 0, and the swap of loop 224 leaves T_NOW of sensor 0 at
0. -/
theorem not_heatIsWatched : ¬ Obligations.HeatIsWatched := by
  intro h
  obtain ⟨hSample, -⟩ := h
  obtain ⟨t, ht, hsensors⟩ := (hSample strayLatchState (Vector.replicate 16 18560#16) 0xFFFF).1 rfl
  obtain ⟨-, -, hmean, -⟩ := hsensors 0
  have hpublished : t.par (oTherm 0) Pid.Thermal.T_NOW = latchLevel := hmean.trans (by decide +kernel)
  have hstray : t.par (oTherm 0) Pid.Thermal.T_NOW = 0 := by
    have := parAfter_strayLatch_tNow
    rw [latchingSample, ht] at this
    exact Option.some.inj this
  rw [hstray] at hpublished
  exact absurd hpublished (by decide)

end Sys2Proof.Machine

/-! # A refused write that is asked for again (O48)

The oldest write that reaches its deferral limit leaves the queue (R219). SAVE_APPLIED is still owed after a save has been
applied (R278), so that its refusal asks for it again. -/

namespace Sys2Proof.Machine

open Sys2Proof State

set_option Elab.async false

/-- A save has been applied, and only the write of SAVE_APPLIED waits. -/
def saveAppliedOwed : State :=
  { State.reset with nvm := { State.reset.nvm with queue := [⟨.counters, .saveApplied, 1, none, 0⟩] } }

/-- The limit refuses the write, and a new request for it takes its place in the queue. -/
theorem deferralLimit_saveApplied_askedAgain :
    exec (.deferralLimit .nvmWrite) saveAppliedOwed = .next saveAppliedOwed := rfl

/-- Refutes O48: the queue with the write of SAVE_APPLIED removed is empty, and the limit leaves that write in it. -/
theorem not_fantailDecides : ¬ Obligations.FantailDecides := by
  intro h
  obtain ⟨hRows, -⟩ := h
  obtain ⟨-, -, -, -, -, hWrite, -⟩ := hRows saveAppliedOwed
  obtain ⟨t, ht, hqueue⟩ := hWrite ⟨.counters, .saveApplied, 1, none, 0⟩ (by decide) (by decide) rfl (by decide)
  have hasked : t = saveAppliedOwed := by
    rw [deferralLimit_saveApplied_askedAgain] at ht
    exact (Host.Outcome.next.inj ht).symm
  rw [hasked] at hqueue
  exact absurd hqueue (by decide)

end Sys2Proof.Machine

/-! # Proofs: replies stand and alerts stay

A port's replies are taken, and its alert causes cleared, by the host's reads alone. What the sequencer and a level 3 restart
do on the way adds to both (R355, R388). -/

namespace Sys2Proof.Machine

open Sys2Proof State

set_option Elab.async false

/-- A port still holds its replies and still shows the fault alert. -/
structure PortGrows (a b : HostPortAux) : Prop where
  alert   : a.alertCause.testBit alFault = true → b.alertCause.testBit alFault = true
  replies : a.replies ⊆ b.replies

theorem PortGrows.refl (a : HostPortAux) : PortGrows a a := ⟨id, List.Subset.refl _⟩

theorem PortGrows.trans {a b c : HostPortAux} (h : PortGrows a b) (k : PortGrows b c) : PortGrows a c :=
  ⟨k.alert ∘ h.alert, List.Subset.trans h.replies k.replies⟩

/-- Both ports still hold their replies and still show the fault alert. -/
structure PortsGrow (s t : State) : Prop where
  port : ∀ p, PortGrows (s.port p) (t.port p)

/-- Both ports show the fault alert. -/
def FaultAlerted (s : State) : Prop := ∀ p, (s.port p).alertCause.testBit alFault = true

section
variable {s x y : State} {fs : List Fld} {ps : Option (List Nat)}

theorem PortsGrow.refl (s : State) : PortsGrow s s := ⟨fun _ => .refl _⟩

theorem PortsGrow.trans (h : PortsGrow s x) (k : PortsGrow x y) : PortsGrow s y := ⟨fun p => (h.port p).trans (k.port p)⟩

theorem PortsGrow.same (h : PortsGrow s x) (e : y.ports = x.ports := by rfl) : PortsGrow s y :=
  h.trans ⟨fun p => by unfold State.port; rw [e]; exact .refl _⟩

/-- An operation that leaves the ports alone. -/
theorem PortsGrow.foot (h : PortsGrow s x) (k : Foot fs ps x y) (hp : fs.contains .ports = false := by rfl) :
    PortsGrow s y := h.same (k.fld .ports hp)

theorem PortsGrow.modPort {p : HostPort} {g : HostPortAux → HostPortAux} (h : PortsGrow s x) (hg : ∀ a, PortGrows a (g a)) :
    PortsGrow s (x.modPort p g) :=
  h.trans ⟨fun q => vget_vmod_all (P := PortGrows (x.port q)) (fun a ha => ha.trans (hg a)) (.refl _)⟩

theorem PortsGrow.ite {c : Prop} [Decidable c] (hx : PortsGrow s x) (hy : PortsGrow s y) :
    PortsGrow s (if c then x else y) := by split <;> assumption

theorem PortsGrow.foldl {α : Type} {g : State → α → State} (hg : ∀ x a, PortsGrow x (g x a)) (l : List α)
    (h : PortsGrow s x) : PortsGrow s (l.foldl g x) := List.foldlRecOn _ _ h fun x hx a _ => hx.trans (hg x a)

theorem PortsGrow.eachOf {g : Nat → State → State} (hg : ∀ n x, PortsGrow x (g n x)) (l : List Nat)
    (h : PortsGrow s x) : PortsGrow s (x.eachOf l g) := h.foldl (fun x n => hg n x) l

theorem FaultAlerted.grows (h : FaultAlerted x) (k : PortsGrow x y) : FaultAlerted y := fun p => (k.port p).alert (h p)

end

/-! ## Alerts, records and replies -/

section
variable (s : State)

/-- A cause that is set changes no other bit: a number without bit `c` has it added. -/
theorem raisePort_grows (p : HostPort) (c : Nat) : PortsGrow s (s.raisePort p c) := by
  unfold State.raisePort
  refine .modPort (.refl s) fun a => ?_
  split
  · exact .refl a
  · next hc =>
    refine ⟨fun h => ?_, List.Subset.refl _⟩
    have hpos : alFault < c := Nat.pos_of_ne_zero fun h0 => hc (h0 ▸ h)
    rwa [Nat.add_comm, Nat.testBit_two_pow_add_gt hpos]

theorem raise_grows (c : Nat) : PortsGrow s (s.raise c) := (raisePort_grows ..).trans (raisePort_grows ..)

theorem raisePort_alertCause (p : HostPort) (c : Nat) : ((s.raisePort p c).port p).alertCause.testBit c = true := by
  unfold State.raisePort
  rw [State.port_modPort]
  split
  · assumption
  · next hc => rw [Nat.add_comm, Nat.testBit_two_pow_add_eq, Bool.eq_false_iff.2 hc]; rfl

/-- A fault alert is shown on both ports (R388). -/
theorem raise_faultAlerted : FaultAlerted (s.raise alFault)
  | .ha => ((raisePort_grows _ .hb alFault).port .ha).alert (raisePort_alertCause s .ha alFault)
  | .hb => raisePort_alertCause _ .hb alFault

theorem createRec_grows (source cls event : Nat) (late : Bool) (snap : List Snap) :
    PortsGrow s (s.createRec source cls event late snap) := by
  unfold State.createRec
  extract_lets g t
  have ht : PortsGrow s t := .foot (.refl s) storeRec_foot
  exact .ite (.same (.refl s)) (.ite ((ht.foot storeRec_foot).trans (raise_grows ..)) ht)

theorem record_grows (source cls event : Nat) (snap : List Snap) : PortsGrow s (s.record source cls event snap) := by
  unfold State.record
  exact .ite (.refl s) (.ite (.same (.refl s)) (createRec_grows ..))

theorem recordPsd_grows (source cls event : Nat) (snap : List Snap) : PortsGrow s (s.recordPsd source cls event snap) := by
  unfold State.recordPsd
  exact .ite (record_grows ..) (.same (.refl s))

theorem reply_grows (e : Op) (st rs : Nat) (b : Bytes) : PortsGrow s (s.reply e st rs b) := by
  unfold State.reply
  extract_lets a r c d
  have ha : PortsGrow s a := .same (.refl s)
  have hc : PortsGrow s c := ha.modPort fun a => ⟨id, List.subset_append_left ..⟩
  have hd : PortsGrow s d := hc.same
  exact .ite (ha.foot dropOp_foot) (.ite (hd.trans (raisePort_grows ..)) hd)

/-- The reply to an operation that may be held. -/
theorem replyTo_grows (o : Option Op) (st rs : Nat) (b : Bytes) :
    PortsGrow s (match o with
      | some e => s.reply e st rs b
      | none => s) := by
  split
  · exact reply_grows ..
  · exact .refl s

/-! ## Injections, latches and swaps -/

theorem slewEnd_grows (m st rs : Nat) : PortsGrow s (s.slewEnd m st rs) := by
  unfold State.slewEnd
  extract_lets op a
  exact (PortsGrow.same (y := a) (.refl s)).trans (replyTo_grows ..)

theorem slewsSettle_grows (b : Nat) : PortsGrow s (s.slewsSettle b) :=
  PortsGrow.eachOf (fun _ x => .ite (.refl x) (slewEnd_grows ..)) _ (.refl s)

theorem flumeEnd_grows (c : Nat) : PortsGrow s (s.flumeEnd c) := by
  unfold State.flumeEnd
  extract_lets pay op f a b c
  have hc : PortsGrow s c := by
    unfold c
    split <;> exact .same (.refl s)
  exact hc.trans (replyTo_grows ..)

theorem flumeStop_grows (c : Nat) : PortsGrow s (s.flumeStop c) := by
  unfold State.flumeStop
  exact .ite (flumeEnd_grows ..) (.refl s)

theorem flumeStopOn_grows (n c : Nat) : PortsGrow s (s.flumeStopOn n c) := by
  unfold State.flumeStopOn
  exact .ite (flumeStop_grows ..) (.refl s)

theorem faultSeen_grows (o : Nat) : PortsGrow s (s.faultSeen o) := by
  unfold State.faultSeen
  extract_lets t a
  have ha : PortsGrow s a := .ite (.same (.refl s)) (.refl s)
  exact .ite (ha.trans (flumeStop_grows ..)) ha

theorem latchFault_grows (o : Nat) (bits : List Nat) : PortsGrow s (s.latchFault o bits) := by
  unfold State.latchFault
  extract_lets rises a
  have ha : PortsGrow s a := .foot (.refl s) faultEvent_foot
  exact .ite (ha.trans (faultSeen_grows ..)) ha

theorem swapsDone_grows : PortsGrow s s.swapsDone := by
  unfold State.swapsDone
  extract_lets done w a
  refine .foldl (fun x j => ?_) _ (.same (y := a) (.refl s))
  split
  · exact reply_grows ..
  · exact .refl x

theorem loopSwap_grows (n : Nat) : PortsGrow s (s.loopSwap n) := by
  unfold State.loopSwap
  extract_lets o old new host a b c w d e f
  have he : PortsGrow s e := (PortsGrow.same (y := d) (.refl s)).trans (record_grows ..)
  have hf : PortsGrow s f := .ite (he.foot askNvm_foot) he
  exact (hf.trans (flumeStopOn_grows ..)).trans (swapsDone_grows _)

/-! ## Loops, phases and the walk down -/

theorem loopStopped_grows (n : Nat) : PortsGrow s (s.loopStopped n) := by
  unfold State.loopStopped
  extract_lets a b own c
  have hb : PortsGrow s b := .foot (.ite (flumeStop_grows ..) (.refl s)) traceStop_foot
  have hc : PortsGrow s c := .ite (hb.trans (loopSwap_grows ..)) hb
  exact .eachOf (fun k x => loopSwap_grows x k) _ hc

theorem outerIdle_grows (m : Nat) : PortsGrow s (s.outerIdle m) := by
  unfold State.outerIdle
  extract_lets a b
  have ha : PortsGrow s a := .same (.refl s)
  have hb : PortsGrow s b := .ite (ha.foot setObj_foot) ha
  exact .ite (hb.trans (loopStopped_grows ..)) (.refl s)

theorem stopPhase_grows (p : Nat) : PortsGrow s (s.stopPhase p) := by
  unfold State.stopPhase
  refine .ite ?_ (.same (.refl s))
  extract_lets a b
  have hb : PortsGrow s b := (PortsGrow.same (y := a) (.refl s)).trans (loopStopped_grows ..)
  split
  · exact hb.trans (outerIdle_grows ..)
  · exact hb

/-- A phase that stops with its converter, and waits if it was starting or active. -/
theorem stopPhaseWait_grows (p : Nat) :
    PortsGrow s (if (s.stopPhase p).objSt (oPhase p) == osStarting || (s.stopPhase p).objSt (oPhase p) == osActive then
      (s.stopPhase p).setObj (oPhase p) osWaiting else s.stopPhase p) :=
  .ite ((stopPhase_grows s p).foot setObj_foot) (stopPhase_grows s p)

theorem stopConverter_grows (b : Nat) : PortsGrow s (s.stopConverter b) :=
  PortsGrow.eachOf (fun p x => stopPhaseWait_grows x p) _ (.refl s)

theorem stopLone_grows : PortsGrow s s.stopLone := PortsGrow.eachOf (fun p x => stopPhaseWait_grows x p) _ (.refl s)

theorem feederTrip_grows (f : Nat) (bits : List Nat) : PortsGrow s (s.feederTrip f bits) := by
  unfold State.feederTrip
  extract_lets o weir i masked a b
  have ha : PortsGrow s a := .same (.refl s)
  have hb : PortsGrow s b := ((ha.foot setObj_foot).trans (latchFault_grows ..)).same rfl
  exact hb.trans (recordPsd_grows ..)

theorem readWeir_grows (f : Nat) : PortsGrow s (s.readWeir f) := by
  unfold State.readWeir
  exact .ite (feederTrip_grows ..) (.refl s)

theorem stringTrip_grows (k : Nat) (bits : List Nat) : PortsGrow s (s.stringTrip k bits) := by
  unfold State.stringTrip
  extract_lets o l a b
  have ha : PortsGrow s a := .same (.refl s)
  have hb : PortsGrow s b := ((ha.foot setObj_foot).trans (latchFault_grows ..)).same rfl
  exact hb.trans (recordPsd_grows ..)

theorem readString_grows (k : Nat) : PortsGrow s (s.readString k) := by
  unfold State.readString
  exact .ite (stringTrip_grows ..) (.refl s)

theorem powerDown_grows (n : Nat) : PortsGrow s (s.powerDown n) := by
  unfold State.powerDown
  extract_lets a b c
  have ha : PortsGrow s a := .eachOf (fun f x => (readWeir_grows x f).foot feederWait_foot) _ (.refl s)
  have hb : PortsGrow s b := .ite (ha.trans (stopLone_grows _)) ha
  refine .eachOf (fun k x => (readString_grows x k).foot stringWait_foot) _ (.eachOf (fun g x => ?_) _ hb)
  extract_lets d e
  have hd : PortsGrow x d := stopConverter_grows x g
  have he : PortsGrow x e := .ite (hd.foot setObj_foot) hd
  exact (he.foot modSeg_foot).trans (slewsSettle_grows ..)

theorem beginWork_grows (n : Nat) : PortsGrow s (s.beginWork n) := by
  unfold State.beginWork
  refine .ite (.foot (.refl s) railsUp_foot) ?_
  extract_lets a
  have ha : PortsGrow s a := .ite (powerDown_grows ..) (.refl s)
  exact .eachOf (fun v x => (PortsGrow.foot (.refl x) railOff_foot).foot modRail_foot) _ ha

/-! ## The sequencer and the restart -/

theorem enterSeq_grows (n : Nat) : PortsGrow s (s.enterSeq n) := by
  unfold State.enterSeq
  extract_lets manual held late a b c
  have hc : PortsGrow s c := .foot (.same (y := b) (.refl s)) schedEntry_foot
  exact .ite hc (hc.trans (beginWork_grows ..))

theorem brakeComplete_grows : PortsGrow s s.brakeComplete := by
  unfold State.brakeComplete
  extract_lets a b c flags ops d
  have hb : PortsGrow s b := (PortsGrow.same (y := a) (.refl s)).trans (record_grows ..)
  have hd : PortsGrow s d := (hb.foot askOnce_foot).same
  refine .foldl (fun x o => ?_) _ hd
  exact replyTo_grows x _ _ _ _

theorem stepAlone_grows : PortsGrow s s.stepAlone := by
  unfold State.stepAlone
  extract_lets n a
  have ha : PortsGrow s a := .same (.refl s)
  exact .ite (.ite (ha.trans (brakeComplete_grows _)) ha) (enterSeq_grows ..)

theorem withdraw_grows (e : Op) (reason : Nat) : PortsGrow s (s.withdraw e reason) := by
  have hop : PortsGrow s (s.modOp e.id fun x => { x with aborted := true }) := .foot (.refl s) modOp_foot
  unfold State.withdraw
  dsimp only
  split
  · exact hop.trans (reply_grows ..)
  · split
    · split
      · exact (hop.same.trans (flumeEnd_grows ..)).trans (reply_grows ..)
      · exact hop.trans (flumeEnd_grows ..)
    · exact hop.trans (slewEnd_grows ..)
    · exact (hop.foot undo_foot).trans (reply_grows ..)

theorem withdrawAll_grows (l : List HostPort) (reason : Nat) : PortsGrow s (s.withdrawAll l reason) :=
  .foldl (fun x e => withdraw_grows x e reason) _ (.refl s)

theorem updRecord_grows (kind bank port : Nat) : PortsGrow s (s.updRecord kind bank port) := by
  unfold State.updRecord State.lifeRecord
  exact .ite ((record_grows ..).trans (raise_grows ..)) (record_grows ..)

theorem trialFail_grows : PortsGrow s s.trialFail := by
  unfold State.trialFail
  extract_lets b a c d e f g h
  have hc : PortsGrow s c := ((PortsGrow.foot (.refl s) setBank_foot).same (y := a)).trans (updRecord_grows ..)
  have hg : PortsGrow s g := hc.same
  exact .ite (.foot ((hg.foot setBank_foot).same (y := h)).same startCheckin_foot) hg.same

/-- A restart withdraws what has not committed, with a reply for each (R363). -/
theorem l3Restart_grows (cause : Nat) : PortsGrow s (s.l3Restart cause) := by
  unfold State.l3Restart
  extract_lets a n again b c m d
  have ha : PortsGrow s a := .same (.refl s)
  have hb : PortsGrow s b := .ite ((ha.trans (flumeStop_grows ..)).trans (withdrawAll_grows ..)) ha
  have hd : PortsGrow s d := ((hb.foot abandonTests_foot).foot lanesReturn_foot).same
  exact .ite (hd.trans (trialFail_grows _)) hd

theorem powerOnNow_grows : PortsGrow s s.powerOnNow := by
  unfold State.powerOnNow
  have hq (g : SeqState → SeqState) : PortsGrow s (s.modSeq g) := .same (.refl s)
  exact .ite ((hq _).trans (l3Restart_grows ..)) (.ite (hq _) (.ite ((hq _).foot cogPulse_foot) (hq _)))

theorem powerOnDue_grows : PortsGrow s s.powerOnDue := by
  unfold State.powerOnDue
  exact .ite (powerOnNow_grows s) (.refl s)

end

end Sys2Proof.Machine

/-! # Proofs: states are entered, and the Brake begins and completes

What each of the sequencer's operations does to the record of the sequencer and to the parameters that show it (R242 to R249,
R254, R259, R261). -/

namespace Sys2Proof.Machine

open Sys2Proof State

set_option Elab.async false

/-! ## What stands beside the walk

An operation of the sequencer moves its walk, its step and its hold on COG. The rest of the record stands but where the operation
says otherwise. -/

/-- The sequencer's record without its walk, its step and its hold on COG. -/
def SeqState.standing (q : SeqState) : SeqState :=
  { q with walk := .none, workDone := false, workDue := false, entryTick := 0, stepsLeft := 0, stepOp := none,
           holding := false, lineLow := false, actHold := false }

section
variable {q q' : SeqState} (h : q.standing = q'.standing)
include h

theorem attached_of_standing : q.attached = q'.attached := (congrArg SeqState.attached h :)

theorem detached_of_standing : q.detached = q'.detached := (congrArg SeqState.detached h :)

theorem pulse_of_standing : q.pulse = q'.pulse := (congrArg SeqState.pulse h :)

theorem brake_of_standing : q.brake = q'.brake := (congrArg SeqState.brake h :)

theorem pfwLow_of_standing : q.pfwLow = q'.pfwLow := (congrArg SeqState.pfwLow h :)

theorem offOps_of_standing : q.offOps = q'.offOps := (congrArg SeqState.offOps h :)

end

/-- The rest of the sequencer's record stands. -/
def Stands (s t : State) : Prop := t.seq.standing = s.seq.standing

section
variable {s x y : State} {fs : List Fld} {ps : Option (List Nat)}

theorem Stands.refl (s : State) : Stands s s := rfl

theorem Stands.trans (h : Stands s x) (k : Stands x y) : Stands s y := Eq.trans k h

theorem Stands.same (h : Stands s x) (e : y.seq = x.seq := by rfl) : Stands s y :=
  h.trans (congrArg SeqState.standing e)

theorem Stands.foot (h : Stands s x) (k : Foot fs ps x y) (hs : fs.contains .seq = false := by rfl) : Stands s y :=
  h.same (k.fld .seq hs)

/-- A change of the walk, the step or the hold. -/
theorem Stands.modSeq {g : SeqState → SeqState} (h : Stands s x) (hg : ∀ q, (g q).standing = q.standing := by intro _; rfl) :
    Stands s (x.modSeq g) := h.trans (hg x.seq)

theorem Stands.ite {c : Prop} [Decidable c] (hx : Stands s x) (hy : Stands s y) : Stands s (if c then x else y) := by
  split <;> assumption

theorem Stands.attached (h : Stands s x) : x.seq.attached = s.seq.attached := attached_of_standing h

theorem Stands.detached (h : Stands s x) : x.seq.detached = s.seq.detached := detached_of_standing h

theorem Stands.pulse (h : Stands s x) : x.seq.pulse = s.seq.pulse := pulse_of_standing h

theorem Stands.brake (h : Stands s x) : x.seq.brake = s.seq.brake := brake_of_standing h

theorem Stands.pfwLow (h : Stands s x) : x.seq.pfwLow = s.seq.pfwLow := pfwLow_of_standing h

theorem Stands.offOps (h : Stands s x) : x.seq.offOps = s.seq.offOps := offOps_of_standing h

end

/-! ## The states of the walk -/

section
variable (s : State) (n : Nat)

theorem SystemKept.shelfState {s t : State} (h : SystemKept s t) : t.shelfState = s.shelfState :=
  h.par oShelf Pid.Shelf.SHELF_STATE (by decide) (by decide)

theorem seqState_of_par {s : State} {n : Nat} (h : s.par oShelf Pid.Shelf.SEQ_STATE = n) : s.seqState = n := by
  rw [State.seqState, h, Int.toNat_natCast]

/-- SEQ_STATE and SEQ_PHASE stay where they are not among the parameters that may change. -/
theorem seqState_of_foot {fs : List Fld} {l : List Nat} {s t : State} (h : Foot fs (some l) s t)
    (hl : l.contains Pid.Shelf.SEQ_STATE = false := by rfl) : t.seqState = s.seqState := by
  rw [State.seqState, h.par _ rfl _ _ (by decide) hl, State.seqState]

theorem seqPhase_of_foot {fs : List Fld} {l : List Nat} {s t : State} (h : Foot fs (some l) s t)
    (hl : l.contains Pid.Shelf.SEQ_PHASE = false := by rfl) : t.seqPhase = s.seqPhase := by
  rw [State.seqPhase, h.par _ rfl _ _ (by decide) hl, State.seqPhase]

theorem restsAt_of_foot {fs : List Fld} {l : List Nat} {s t : State} (h : Foot fs (some l) s t)
    (hs : l.contains Pid.Shelf.SEQ_STATE = false := by rfl) (hp : l.contains Pid.Shelf.SEQ_PHASE = false := by rfl) :
    t.restsAt n = s.restsAt n := by
  rw [State.restsAt, seqState_of_foot h hs, seqPhase_of_foot h hp, State.restsAt]

theorem bit_of_foot {fs : List Fld} {l : List Nat} {s t : State} {o pid : Nat} (h : Foot fs (some l) s t) (b : Nat)
    (hp : pid < 4096 := by decide) (hl : l.contains pid = false := by rfl) : t.bit o pid b = s.bit o pid b := by
  rw [State.bit, h.par _ rfl _ _ hp hl, State.bit]

/-- The record of the sequencer at the entry to a state: an attached unit asserts COG (R242, R253). -/
def SeqState.entered (q : SeqState) (n tick : Nat) (late : Bool) : SeqState :=
  { q with entryTick := tick, workDone := false, workDue := late, holding := q.attached, lineLow := q.attached || q.lineLow,
           walk := if q.walk == .manual then .manual else if n < 16 then .up else .down }

/-- The state that is entered, before its work begins. -/
def State.seqEntered (s : State) : State :=
  ((s.modSeq fun q => q.entered n s.time.tick s.miller.restarting).setPar oShelf Pid.Shelf.SEQ_STATE n).setPar oShelf
    Pid.Shelf.SEQ_PHASE (if s.seq.walk == .manual then sqMANUAL else sqWORK)

theorem enterSeq_eq : s.enterSeq n = if s.miller.restarting then (s.seqEntered n).schedEntry n
    else ((s.seqEntered n).schedEntry n).beginWork n := rfl

theorem schedEntry_seq : ∃ a, (s.schedEntry n).seq = { s.seq with actHold := a } := by
  unfold State.schedEntry
  split
  · exact ⟨_, rfl⟩
  · exact ⟨_, rfl⟩

/-- What follows the entry writes neither SEQ_STATE nor SEQ_PHASE. -/
theorem enterSeq_foot_entered : Foot [.phases, .flume, .segs, .seq, .ports, .pols, .feeders, .hopper, .nvm, .upd, .wheel, .strings,
    .trace, .grist, .loops, .rails] (some [1, 2, 5, 256, 257, 258, 260, 261, 264, 270, 281, 288, 305, 307, 308, 310, 385])
    (s.seqEntered n) (s.enterSeq n) := by
  rw [enterSeq_eq]
  exact .ite schedEntry_foot.within (beginWork_foot.on schedEntry_foot.within)

theorem enterSeq_seq : ∃ a, (s.enterSeq n).seq = { s.seq.entered n s.time.tick s.miller.restarting with actHold := a } := by
  obtain ⟨a, ha⟩ := schedEntry_seq (s.seqEntered n) n
  refine ⟨a, Eq.trans ?_ ha⟩
  rw [enterSeq_eq]
  split
  · rfl
  · exact beginWork_foot.fld .seq rfl

theorem enterSeq_stands : Stands s (s.enterSeq n) := by
  obtain ⟨a, ha⟩ := enterSeq_seq s n
  exact (congrArg SeqState.standing ha).trans rfl

theorem enterSeq_holding : (s.enterSeq n).seq.holding = s.seq.attached := by
  obtain ⟨a, ha⟩ := enterSeq_seq s n
  rw [ha]
  rfl

theorem enterSeq_par : (s.enterSeq n).par oShelf Pid.Shelf.SEQ_STATE = n := by
  rw [(enterSeq_foot_entered s n).par _ rfl _ _ (by decide) rfl, State.seqEntered,
    State.par_setPar_other _ _ (by decide), State.par_setPar_same _ (by decide)]

theorem enterSeq_seqState : (s.enterSeq n).seqState = n := seqState_of_par (enterSeq_par s n)

theorem enterSeq_seqPhase : (s.enterSeq n).seqPhase = if s.seq.walk == .manual then sqMANUAL else sqWORK := by
  rw [seqPhase_of_foot (enterSeq_foot_entered s n)]
  exact State.par_setPar_same _ (by decide) _

/-- The work of a state leaves SHELF's and DEVICE's first parameters as they were. -/
theorem polOperate_system (v : Nat) (on : Bool) : SystemKept s (s.polOperate v on) := by
  have hv : ¬ oRail v < 2 := by simp only [oRail]; omega
  unfold State.polOperate
  extract_lets m frames
  exact .ite (.refl s) (.ite (.setPar (.setOther (.same (.refl s))) hv) (.same (.refl s)))

theorem railOn_system (v : Nat) : SystemKept s (s.railOn v) := (polOperate_system s v true).same

theorem railOff_system (v : Nat) : SystemKept s (s.railOff v) := by
  unfold State.railOff
  extract_lets a mode0 b
  have ha : SystemKept s a := polOperate_system s v false
  have hb : SystemKept s b := .ite (.setPar ha (by simp only [oRail]; omega)) ha
  exact hb.same

theorem beginWork_system : SystemKept s (s.beginWork n) := by
  unfold State.beginWork
  refine .ite (.eachOf (fun v x => .ite (.refl x) (.ite (railOn_system ..) (.same (.refl x)))) _ (.refl s)) ?_
  extract_lets a
  have ha : SystemKept s a := .ite (powerDown_system ..) (.refl s)
  exact .eachOf (fun v x => (railOff_system x v).same) _ ha

theorem enterSeq_system : SystemKept s (s.enterSeq n) := by
  have he : SystemKept s ((s.seqEntered n).schedEntry n) :=
    .foot (.setOther (.setOther (.same (.refl s)))) schedEntry_foot
  rw [enterSeq_eq]
  exact .ite he (he.trans (beginWork_system ..))

theorem cogStep_seqState : (s.cogStep n).seqState = n := enterSeq_seqState ..

theorem cogStep_stands : Stands s (s.cogStep n) := (Stands.same (.refl s)).trans (enterSeq_stands ..)

theorem cogStep_system : SystemKept s (s.cogStep n) := (HeadKept.setOther (.refl s)).trans (enterSeq_system ..)

end

/-! ## MANUAL ends, and BRAKING is entered -/

section
variable (s : State)

theorem stepEnd_stands (st c : Nat) : Stands s (s.stepEnd st c) := by
  unfold State.stepEnd
  extract_lets op a
  have ha : Stands s a := .modSeq (.refl s)
  split
  · exact ha.foot reply_foot
  · exact ha

theorem manualStop_stands : Stands s s.manualStop := by
  unfold State.manualStop
  exact .ite (.modSeq (stepEnd_stands ..)) (.refl s)

theorem manualStop_of_not_manual {s : State} (h : s.seq.walk ≠ .manual) : s.manualStop = s :=
  if_neg fun he => h (eq_of_beq he)

/-- BRAKING is entered, and the down walk is still to begin (R33, R246). -/
def State.brakingEntered : State :=
  (s.modSeq fun q => { q with pfwRunning := false, pfwLow := true, walk := .none }).enterShelf ssBraking scBRAKE

theorem enterShelf_braking {c : Nat} (h : s.seq.walk = .none) : (s.enterShelf ssBraking c).shelfState = ssBraking ∧
    Foot [.flume, .seq, .ports, .hopper, .grist, .loops] (some [5, 256, 257, 258, 260, 261, 264, 305, 307, 385]) s
      (s.enterShelf ssBraking c) ∧ (s.enterShelf ssBraking c).seq = s.seq := by
  have hbraking : ((s.setPar oShelf Pid.Shelf.SHELF_STATE ssBraking).setPar oShelf Pid.Shelf.STATE_ENTRY_TICK
      s.time.tick).shelfState = ssBraking :=
    (State.par_setPar_other _ _ (by decide)).trans (s.par_setPar_same (by decide) _)
  unfold State.enterShelf
  extract_lets old a b d
  have hb : SystemKept a b := record_head oGrist_not_system ..
  have hbf : Foot [.flume, .ports, .hopper, .grist, .loops] (some [5, 256, 257, 258, 260, 261, 264, 305, 307, 385]) s b :=
    record_foot.on (setPar_foot (setPar_foot (.refl ..) rfl) rfl)
  have hd : SystemKept a d := .ite (hb.foot flumeStop_foot) hb
  have hdf : Foot [.flume, .ports, .hopper, .grist, .loops] (some [5, 256, 257, 258, 260, 261, 264, 305, 307, 385]) s d :=
    .ite (flumeStop_foot.on hbf) hbf
  have hwalk : d.seq.walk ≠ .manual := by
    rw [show d.seq = s.seq from hdf.fld .seq rfl, h]
    decide
  have hmanual : d.manualEnd (ssBraking == ssNormal) = d := manualStop_of_not_manual hwalk
  rw [hmanual]
  split
  · exact ⟨hd.shelfState.trans hbraking, hdf.within, hdf.fld .seq rfl⟩
  · exact ⟨hb.shelfState.trans hbraking, hbf.within, hbf.fld .seq rfl⟩

theorem brakingEntered_shelfState : s.brakingEntered.shelfState = ssBraking := (enterShelf_braking _ rfl).1

theorem brakingEntered_foot : Foot [.flume, .seq, .ports, .hopper, .grist, .loops]
    (some [5, 256, 257, 258, 260, 261, 264, 305, 307, 385]) s s.brakingEntered :=
  (enterShelf_braking _ rfl).2.1.on modSeq_foot.within

theorem brakingEntered_seq : s.brakingEntered.seq = { s.seq with pfwRunning := false, pfwLow := true, walk := .none } :=
  (enterShelf_braking _ rfl).2.2

/-- What a Brake cause leaves, however the shelf goes down. -/
structure BrakeBegun (s t : State) : Prop where
  shelf  : t.shelfState = ssBraking
  pfwLow : t.seq.pfwLow = true
  brake  : t.seq.brake = s.seq.brake
  offOps : t.seq.offOps = s.seq.offOps

theorem brakingEntered_begun : BrakeBegun s s.brakingEntered := by
  have hq := brakingEntered_seq s
  exact ⟨brakingEntered_shelfState s, by rw [hq], by rw [hq], by rw [hq]⟩

section
variable {s} {x t : State}

theorem BrakeBegun.stands (h : BrakeBegun s x) (hq : Stands x t) (hk : SystemKept x t) : BrakeBegun s t :=
  ⟨hk.shelfState.trans h.shelf, hq.pfwLow.trans h.pfwLow, hq.brake.trans h.brake, hq.offOps.trans h.offOps⟩

theorem BrakeBegun.enterSeq (h : BrakeBegun s x) (n : Nat) : BrakeBegun s (x.enterSeq n) :=
  h.stands (enterSeq_stands ..) (enterSeq_system ..)

theorem BrakeBegun.cogStep (h : BrakeBegun s x) (n : Nat) : BrakeBegun s (x.cogStep n) :=
  h.stands (cogStep_stands ..) (cogStep_system ..)

theorem BrakeBegun.cogPulse (h : BrakeBegun s x) (p : CogPulse) : BrakeBegun s (x.cogPulse p) :=
  ⟨h.shelf, h.pfwLow, h.brake, h.offOps⟩

theorem BrakeBegun.cogLeave (h : BrakeBegun s x) (a b : Bool) : BrakeBegun s (x.cogLeave a b) :=
  ⟨h.shelf, h.pfwLow, h.brake, h.offOps⟩

/-- On a group's step the unit goes to state 16 with its group (R254). -/
theorem enterBraking_stepped : BrakeBegun s (s.enterBraking .stepped) ∧ (s.enterBraking .stepped).seqState = 16 :=
  ⟨(brakingEntered_begun s).cogStep 16, cogStep_seqState ..⟩

/-- A unit that goes down by itself leaves the line and walks from state 16 (R247, R254). -/
theorem enterBraking_local : BrakeBegun s (s.enterBraking .local) ∧ (s.enterBraking .local).seqState = 16 ∧
    (s.enterBraking .local).seq.attached = false := by
  let x := if s.brakingEntered.seq.attached || s.brakingEntered.seqPhase == sqJOINING then
    s.brakingEntered.cogLeave true true else s.brakingEntered
  have he : s.enterBraking .local = x.enterSeq 16 := by
    simp only [State.enterBraking, Bool.and_false, Bool.false_eq_true, if_false]
    rfl
  have hx : BrakeBegun s x ∧ x.seq.attached = false := by
    unfold x
    split
    · exact ⟨(brakingEntered_begun s).cogLeave true true, rfl⟩
    · next h => exact ⟨brakingEntered_begun s, Bool.eq_false_iff.2 fun ha => h (by rw [ha]; rfl)⟩
  rw [he]
  exact ⟨hx.1.enterSeq 16, enterSeq_seqState .., (enterSeq_stands x 16).attached.trans hx.2⟩

/-- An attached group at rest at 15 goes down together, by a request pulse (R254). -/
theorem enterBraking_group (ha : s.seq.attached = true) (hr : s.restsAt 15 = true) :
    BrakeBegun s (s.enterBraking .group) ∧ (s.enterBraking .group).seqState = s.seqState ∧
      (s.enterBraking .group).seq.pulse = .request := by
  have hattached : s.brakingEntered.seq.attached = true := by rw [brakingEntered_seq, ha]
  have hrest : s.brakingEntered.restsAt 15 = true := by rw [restsAt_of_foot 15 (brakingEntered_foot s), hr]
  have he : s.enterBraking .group = s.brakingEntered.cogPulse .request := by
    have hgroup : (s.brakingEntered.seq.attached && s.brakingEntered.restsAt 15 && true) = true := by rw [hattached, hrest]; rfl
    exact if_pos hgroup
  rw [he]
  exact ⟨(brakingEntered_begun s).cogPulse .request, (seqState_of_foot (brakingEntered_foot s) :), rfl⟩

end

end

/-! ## A Brake cause -/

section
variable (s : State) (c : Nat)

/-- The sequencer at the first Brake cause since the last entry to STARTUP (R246). -/
def SeqState.caused (q : SeqState) (c tick : Nat) : SeqState :=
  { q with brake := some c, brakeTick := tick, complete := false, pfwLow := true }

/-- The cause is recorded, and MANUAL ended. -/
def State.brakeNoted : State :=
  ((s.modSeq fun q => q.caused c s.time.tick).setPar oShelf Pid.Shelf.SHUTDOWN_CAUSE c).manualEnd false

/-- The cause is recorded, MANUAL ended, no rail waits for its delay, and the battery records and the tick are asked for
(R246, R261). -/
def State.braked : State :=
  ((((s.brakeNoted c).each 32 fun v s => s.modRail v fun r => { r with delaying := false }).each 4
    fun k s => s.askBattery k).askOnce .tick .tickRecord 1)

/-- The first cause: a fault's warning runs, a command or a group's step enters BRAKING at once (R246). -/
theorem brakeCause_first {s : State} {c : Nat} (how : BrakeHow) (hl : s.thermalLatched = false) (hb : s.seq.brake = none) :
    s.brakeCause c how = if c ≥ 3 then (s.braked c).modSeq fun q => { q with pfwRunning := true, walk := .none }
      else (s.braked c).enterBraking how := by
  unfold State.brakeCause
  rw [hl, hb]
  rfl

theorem braked_foot_noted : Foot [.rails, .nvm] (some []) (s.brakeNoted c) (s.braked c) :=
  askOnce_foot.on (each_foot (each_foot (.refl ..) fun _ _ h => modRail_foot.on h) fun _ _ h => askBattery_foot.on h)

theorem braked_foot : Foot [.seq, .ports, .hopper, .rails, .nvm] (some [Pid.Shelf.SHUTDOWN_CAUSE, 385]) s (s.braked c) :=
  (braked_foot_noted s c).on (manualStop_foot.on (setPar_foot modSeq_foot.within rfl))

theorem braked_standing : (s.braked c).seq.standing = (s.seq.caused c s.time.tick).standing :=
  (congrArg SeqState.standing ((braked_foot_noted s c).fld .seq rfl)).trans (manualStop_stands _)

theorem braked_cause : (s.braked c).par oShelf Pid.Shelf.SHUTDOWN_CAUSE = c := by
  rw [(braked_foot_noted s c).par _ rfl _ _ (by decide) rfl, State.brakeNoted, State.manualEnd, if_neg Bool.false_ne_true,
    manualStop_foot.par _ rfl _ _ (by decide) rfl]
  exact State.par_setPar_same _ (by decide) _

theorem braked_brake : (s.braked c).seq.brake = some c := brake_of_standing (braked_standing s c)

theorem braked_pfwLow : (s.braked c).seq.pfwLow = true := pfwLow_of_standing (braked_standing s c)

/-- The warning of a fault runs before BRAKING is entered (R246). -/
theorem brakeCause_warns {s : State} {c : Nat} (how : BrakeHow) (hc : 3 ≤ c) (hl : s.thermalLatched = false)
    (hb : s.seq.brake = none) : Foot [.seq] (some []) (s.braked c) (s.brakeCause c how) ∧
      (s.brakeCause c how).seq.brake = some c ∧ (s.brakeCause c how).seq.pfwLow = true ∧
      (s.brakeCause c how).seq.pfwRunning = true := by
  have hbrake := braked_brake s c
  have hlow := braked_pfwLow s c
  rw [brakeCause_first how hl hb, if_pos hc]
  generalize s.braked c = x at hbrake hlow ⊢
  exact ⟨modSeq_foot, hbrake, hlow, rfl⟩

/-- A command or a group's step enters BRAKING at once (R246). -/
theorem brakeCause_enters {s : State} {c : Nat} (hc : c < 3) (hl : s.thermalLatched = false) (hb : s.seq.brake = none) :
    ∃ b : State, Foot [.seq, .ports, .hopper, .rails, .nvm] (some [Pid.Shelf.SHUTDOWN_CAUSE, 385]) s b ∧
      b.seq.standing = (s.seq.caused c s.time.tick).standing ∧ b.par oShelf Pid.Shelf.SHUTDOWN_CAUSE = c ∧
      ∀ how, s.brakeCause c how = b.enterBraking how :=
  ⟨s.braked c, braked_foot s c, braked_standing s c, braked_cause s c, fun how =>
    (brakeCause_first how hl hb).trans (if_neg (by omega))⟩

/-- Only the delays of the rails end at a Brake cause. -/
theorem braked_rail (v : Nat) {P : RailAux → Prop} (hP : ∀ r, P r → P { r with delaying := false }) (h : P (s.rail v)) :
    P ((s.braked c).rail v) := by
  have hnoted : P ((s.brakeNoted c).rail v) := by
    have hf : (s.brakeNoted c).rails = s.rails := manualStop_foot.fld .rails rfl
    rw [State.rail, hf]
    exact h
  have heach := each_keeps (P := fun x : State => P (x.rail v)) (f := fun i x => x.modRail i fun r => { r with delaying := false })
    (fun i x hx => vget_vmod_all (P := P) hP hx) 32 hnoted
  have hrest : (s.braked c).rails = ((s.brakeNoted c).each 32 fun v s => s.modRail v fun r => { r with delaying := false }).rails :=
    (askOnce_foot.on (each_foot (.refl [.nvm] (some []) _) fun _ _ h => askBattery_foot.on h)).fld .rails rfl
  rw [State.rail, hrest]
  exact heach

end

/-! ## The Brake completes, and a restart follows -/

section
variable (s : State)

theorem brakeComplete_seq : s.brakeComplete.seq = { s.seq with complete := true, walk := .none, offOps := [] } := by
  unfold State.brakeComplete
  extract_lets a b c flags ops d
  have hc : c.seq = a.seq := askOnce_foot.fld .seq rfl |>.trans (seqRecord_foot.fld .seq rfl)
  have hd : d.seq = { s.seq with complete := true, walk := .none, offOps := [] } := by
    show { c.seq with offOps := [] } = _
    rw [hc]
    rfl
  refine List.foldlRecOn (motive := fun x : State => x.seq = _) _ _ hd fun x hx o _ => ?_
  split
  · exact (ok_foot.fld .seq rfl).trans hx
  · exact hx

theorem undo_stands (e : Op) : Stands s (s.undo e) := by
  unfold State.undo
  split <;> rfl

theorem withdraw_stands (e : Op) (reason : Nat) : Stands s (s.withdraw e reason) := by
  have hop : Stands s (s.modOp e.id fun x => { x with aborted := true }) := rfl
  unfold State.withdraw
  dsimp only
  split
  · exact hop.foot reply_foot
  · split
    · split
      · exact (hop.same.foot flumeEnd_foot).foot reply_foot
      · exact hop.foot flumeEnd_foot
    · exact hop.foot slewEnd_foot
    · exact (hop.trans (undo_stands ..)).foot reply_foot

theorem withdrawAll_stands (l : List HostPort) (reason : Nat) : Stands s (s.withdrawAll l reason) :=
  List.foldlRecOn (motive := Stands s) _ _ (.refl s) fun x hx e _ => hx.trans (withdraw_stands x e reason)

theorem l3Restart_stands (cause : Nat) : Stands s (s.l3Restart cause) := by
  unfold State.l3Restart
  extract_lets a n again b c m d
  have hb : Stands s b := .ite ((Stands.foot (x := a) (.refl s) flumeStop_foot).trans (withdrawAll_stands ..)) (.refl s)
  have hc : Stands s c := (hb.foot abandonTests_foot).foot lanesReturn_foot
  have hd : Stands s d := hc
  exact .ite (hd.foot trialFail_foot) hd

/-- A restart is in progress, with its cause (R20). -/
theorem l3Restart_restarts (cause : Nat) : (s.l3Restart cause).miller.restarting = true ∧
    (s.l3Restart cause).par oDevice Pid.Device.L3_RESTART_CAUSE = cause := by
  unfold State.l3Restart
  extract_lets a n again b c m d
  have hcause : a.par oDevice Pid.Device.L3_RESTART_CAUSE = cause :=
    (State.par_setPar_other _ _ (by decide)).trans (s.par_setPar_same (by decide) _)
  have hb : Foot [.flume, .seq, .ports, .hopper, .nvm, .upd, .wheel, .auths, .dresser, .loops]
      (some [256, 272, 305, 307, 385]) a b := .ite (withdrawAll_foot.on flumeStop_foot.within) (.refl ..)
  have hd : d.par oDevice Pid.Device.L3_RESTART_CAUSE = cause :=
    ((lanesReturn_foot.on (abandonTests_foot.on hb)).par _ rfl _ _ (by decide) rfl).trans hcause
  split
  · exact ⟨congrArg MillerState.restarting (trialFail_foot.fld .miller rfl),
      ((trialFail_system d).par oDevice _ (by decide) (by decide)).trans hd⟩
  · exact ⟨rfl, hd⟩

variable {s}

/-- A unit off the line restarts at once on a power-on request (R249, R259). -/
theorem powerOnNow_alone (h : s.seq.attached = false) :
    s.powerOnNow = (s.modSeq fun q => { q with powerOn := false }).l3Restart lrPOWER_ON := if_pos (by rw [h]; rfl)

/-- An attached unit at rest at 31, with the line high, sends a request pulse (R259). -/
theorem powerOnNow_request (ha : s.seq.attached = true) (hp : s.seq.pulse = .none) (hr : s.restsAt 31 = true)
    (hl : s.seq.lineLow = false) : s.powerOnNow = (s.modSeq fun q => { q with powerOn := false }).cogPulse .request := by
  simp [State.powerOnNow, ha, hp, hr, hl]

end

end Sys2Proof.Machine

/-! # Proofs: rails turn on, qualify, drop, fault and discharge (O49) -/

namespace Sys2Proof.Machine

open Sys2Proof State

set_option Elab.async false

/-! ## The records of the rails -/

section
variable (s : State) {v : Nat}

theorem rail_modRail (h : v < 32) (g : RailAux → RailAux) : (s.modRail v g).rail v = g (s.rail v) :=
  vget_vmod s.rails h g _

theorem rail_of_foot {fs : List Fld} {ps : Option (List Nat)} {s t : State} (h : Foot fs ps s t) (v : Nat)
    (hr : fs.contains .rails = false := by rfl) : t.rail v = s.rail v := by
  rw [State.rail, h.fld .rails hr, State.rail]

/-- A record writes GRIST's parameters and its source's SOURCE_SEQ alone (R319, R322). -/
theorem record_object {o pid : Nat} (ho : o ≠ oGrist) (hp : pid < 4096) (hn : pid ≠ Pid.SOURCE_SEQ)
    (source cls event : Nat) (snap : List Snap) : ParKept o pid s (s.record source cls event snap) := by
  have hstore (x : State) (source cls event : Nat) (late : Bool) (w : List Word) :
      ParKept o pid x (x.storeRec source cls event late w) := by
    have hx : ParKept o pid x { x with grist := _ } := (ParKept.refl x).same
    exact ((((hx.setPid hp (by decide) hn).setObject ho hp).setObject ho hp).setObject ho hp).setObject ho hp
  unfold State.record State.createRec
  extract_lets g t
  have ht : ParKept o pid s t := hstore ..
  refine .ite (.refl s) (.ite (.same (.refl s)) (.ite ?_ (.ite ?_ ht)))
  · exact ((ParKept.refl s).same (y := { s with grist := g })).setObject ho hp
  · exact (ht.trans (hstore ..)).foot raise_foot hp (by rfl)

/-! ## A rail turns on, qualifies and drops -/

theorem railOn_rail (hv : v < 32) : ((s.railOn v).rail v).en = true ∧ ((s.railOn v).rail v).delaying = false ∧
    ((s.railOn v).rail v).qualifying = true ∧ ((s.railOn v).rail v).onTick = s.time.tick := by
  rw [State.railOn, rail_modRail _ hv]
  exact ⟨rfl, rfl, rfl, rfl⟩

theorem railEmpty_rail (hv : v < 32) (us : Int) :
    (s.railEmpty v us).rail v = { s.rail v with discharging := false, stuck := false, downOff := false } :=
  rail_modRail s hv _

theorem railEmpty_downTime (v : Nat) (us : Int) : (s.railEmpty v us).par (oRail v) Pid.Rail.LAST_DOWN_TIME = us :=
  State.par_setPar_same _ (by decide) us

/-- A rail that is not good loses PG, and its qualification waits for PG again unless its time is over (R244). -/
theorem pgFall_rail (hv : v < 32) : ((s.pgFall v).rail v).pg = false ∧ ((s.pgFall v).rail v).qualifying =
    ((s.rail v).qualifying && !(s.rail v).timedOut && !(s.rail v).faulted) := by
  unfold State.pgFall
  extract_lets r a b
  have ha : a.rail v = { s.rail v with
      pg := false, qualifying := (s.rail v).qualifying && !(s.rail v).timedOut && !(s.rail v).faulted } := rail_modRail s hv _
  have hb : b.rail v = a.rail v := by
    unfold b
    split <;> rfl
  split
  · rw [railEmpty_rail _ hv, hb, ha]
    exact ⟨rfl, rfl⟩
  · rw [hb, ha]
    exact ⟨rfl, rfl⟩

theorem downFail_rail (hv : v < 32) :
    (s.downFail v).rail v = { s.rail v with pg := false, good := false, faulted := true } :=
  (rail_of_foot railRecord_foot v).trans (rail_modRail s hv _)

theorem downFail_bit (v : Nat) : (s.downFail v).bit (oRail v) Pid.Rail.RAIL_STATUS rlDOWN_FAIL = true := by
  rw [State.downFail, bit_of_foot railRecord_foot]
  exact bit_setBit_same _ (by decide) _

/-! ## What a poll of a stage does to its rail -/

theorem pollLow_pg (hv : v < 32) : ((s.pollLow v).rail v).pg = false := by
  unfold State.pollLow
  split
  · split
    · rw [downFail_rail s hv]
    · rw [rail_modRail s hv]
  · exact (pgFall_rail s hv).1

theorem pollHigh_pg (hv : v < 32) : ((s.pollHigh v).rail v).pg = true := by
  unfold State.pollHigh
  split
  · assumption
  · split
    · exact congrArg RailAux.pg (rail_modRail s hv _)
    · exact congrArg RailAux.pg (rail_modRail s hv _)

/-- A flag of RAIL_STATUS other than DOWN_FAIL stays as it was where PG reads low. -/
theorem pollLow_bit (v : Nat) {n : Nat} (hn : n ≠ rlDOWN_FAIL) :
    (s.pollLow v).bit (oRail v) Pid.Rail.RAIL_STATUS n = s.bit (oRail v) Pid.Rail.RAIL_STATUS n := by
  unfold State.pollLow
  split
  · split
    · rw [State.downFail, bit_of_foot railRecord_foot, bit_setBit_other (by decide) hn]
      rfl
    · rfl
  · exact bit_of_foot pgFall_foot n

section
variable {n pid : Nat} (hn : n < 32) (hv : v < 32) (hp : pid < 4096) (hs : pid ≠ Pid.SOURCE_SEQ)
include hn hv hp

/-- The parameters of a stage are no rail's. -/
theorem setRail_pol {o' pid' : Nat} {x : State} {w : Int} (h : ParKept (oPol n) pid s x) (ho : o' = oRail v)
    (hp' : pid' < 4096 := by decide) : ParKept (oPol n) pid s (x.setPar o' pid' w) :=
  h.setObject (by simp only [oPol, ho, oRail]; omega) hp hp'

theorem pgFall_pol : ParKept (oPol n) pid s (s.pgFall v) := by
  unfold State.pgFall
  extract_lets r a b
  have ha : ParKept (oPol n) pid s a := .same (.refl s)
  have hb : ParKept (oPol n) pid s b := .ite (setRail_pol s hn hv hp ha rfl) ha
  exact .ite (setRail_pol s hn hv hp (hb.same (y := b.modRail v _)) rfl) hb

theorem pollHigh_pol : ParKept (oPol n) pid s (s.pollHigh v) := by
  unfold State.pollHigh
  refine .ite (.refl s) (.ite ?_ (.same (.refl s)))
  exact setRail_pol s hn hv hp (.same (y := s.modRail v _) (.refl s)) rfl

include hs

theorem pollLow_pol : ParKept (oPol n) pid s (s.pollLow v) := by
  unfold State.pollLow
  refine .ite (.ite ?_ (.same (.refl s))) (pgFall_pol s hn hv hp)
  exact (setRail_pol s hn hv hp (.same (y := s.modRail v _) (.refl s)) rfl).trans
    (record_object _ (by simp only [oPol, oGrist]; omega) hp hs ..)

end

end

/-! ## The commands -/

section
variable {s : State} {v : Fin 32}

theorem onDelay_turnsOn (hm : s.miller3 = true) (hd : (s.rail v.val).delaying = true)
    (he : s.enabled (oRail v.val) = true) (hh : s.safeHold = false) : Runs (.onDelay v) s fun t =>
      (t.rail v.val).en = true ∧ (t.rail v.val).delaying = false ∧ (t.rail v.val).qualifying = true ∧
      (t.rail v.val).onTick = s.time.tick ∧ Foot [.rails, .pols] (some [Pid.Rail.RAIL_STATUS, Pid.Pol.POL_ERRORS]) s t := by
  obtain ⟨hen, hdelay, hqual, htick⟩ := railOn_rail s v.isLt
  exact ⟨s.railOn v.val, if_pos (by simp [hm, hd, he, hh]), hen, hdelay, hqual, htick, railOn_foot.within⟩

/-- PG rises on a direct rail, in sense mode 1 with its ball above PG_THRESH (R240). -/
theorem railPg_follows (ball : Word) (hr : s.running = true) (h16 : v.val < 16) :
    (s.senseAnalogue v.val = false ∨ s.pgAt v.val ball = true → Runs (.railPgHigh ⟨v, ball⟩) s fun t =>
      (t.rail v.val).pg = true ∧ (t.rail v.val).qualifying = ((s.rail v.val).en && !(s.rail v.val).good) ∧
      Foot [.rails] (some []) s t) ∧
    (s.senseAnalogue v.val = true → s.pgAt v.val ball = false → exec (.railPgHigh ⟨v, ball⟩) s = .next s) ∧
    (s.senseAnalogue v.val = true → s.pgAt v.val ball = true → exec (.railPgDrop ⟨v, ball⟩) s = .next s) := by
  have hd : isD2 v.val = false := decide_eq_false (by omega)
  refine ⟨fun h => ⟨s.pgRise v.val, if_pos ?_, ?_, ?_, pgRise_foot⟩, fun ha hb => if_neg ?_, fun ha hb => if_pos ?_⟩
  · rcases h with h | h <;> simp [hr, hd, h]
  · rw [State.pgRise, rail_modRail s v.isLt]
  · rw [State.pgRise, rail_modRail s v.isLt]
  · simp [ha, hb]
  · simp [ha, hb]

theorem railQualified_makesGood (us : Word) (hm : s.miller3 = true) (he : (s.rail v.val).en = true)
    (hq : (s.rail v.val).qualifying = true) (hpg : (s.rail v.val).pg = true) : Runs (.railQualified v us) s fun t =>
      (t.rail v.val).good = true ∧ (t.rail v.val).qualifying = false ∧
      t.par (oRail v.val) Pid.Rail.LAST_UP_TIME = us.toNat := by
  have hrail := rail_modRail s v.isLt fun r => { r with qualifying := false, good := true, faulted := false }
  exact ⟨_, if_pos (by simp [hm, he, hq, hpg]), congrArg RailAux.good hrail, congrArg RailAux.qualifying hrail,
    State.par_setPar_same _ (by decide) _⟩

theorem pgTimeout_notGood (hm : s.miller3 = true) (he : (s.rail v.val).en = true) (hg : (s.rail v.val).good = false)
    (ht : (s.rail v.val).timedOut = false) : Runs (.pgTimeout v) s fun t => (t.rail v.val).timedOut = true ∧
      t.bit (oRail v.val) Pid.Rail.RAIL_STATUS rlNOT_GOOD = true := by
  refine ⟨_, if_pos (by simp [hm, he, hg, ht]), ?_, ?_⟩
  · rw [rail_of_foot railRecord_foot]
    exact congrArg RailAux.timedOut (rail_modRail s v.isLt _)
  · rw [bit_of_foot railRecord_foot]
    exact bit_setBit_same _ (by decide) _

theorem chatterCount_hi : ∀ v < 32, (findDesc (oRail v) Pid.Rail.CHATTER_COUNT).map Desc.hi = some 4294967295 := by decide

/-- A drop of PG, by what the rail was (R244, R245, R247). -/
theorem railPgDrop_follows (ball : Word) (hr : s.running = true) (h : s.senseAnalogue v.val = false ∨ s.pgAt v.val ball = false) :
    ((s.rail v.val).good = true → s.brakeSeen = true → Runs (.railPgDrop ⟨v, ball⟩) s fun t =>
      (t.rail v.val).good = false ∧ (t.rail v.val).faulted = true ∧
      t.bit (oRail v.val) Pid.Rail.RAIL_STATUS rlDOWN_FAIL = true) ∧
    ((s.rail v.val).good = true → s.brakeSeen = false → s.par (oRail v.val) Pid.Rail.CHATTER_COUNT < 4294967295 →
      Runs (.railPgDrop ⟨v, ball⟩) s fun t =>
        t.par (oRail v.val) Pid.Rail.CHATTER_COUNT = s.par (oRail v.val) Pid.Rail.CHATTER_COUNT + 1 ∧
        Foot [] (some [Pid.Rail.CHATTER_COUNT]) s t) ∧
    ((s.rail v.val).good = false → Runs (.railPgDrop ⟨v, ball⟩) s fun t => (t.rail v.val).pg = false ∧
      (t.rail v.val).qualifying = ((s.rail v.val).qualifying && !(s.rail v.val).timedOut && !(s.rail v.val).faulted)) := by
  have he : exec (.railPgDrop ⟨v, ball⟩) s = if (s.rail v.val).good then
      if s.brakeSeen then .next (s.downFail v.val) else .next (s.incPar (oRail v.val) Pid.Rail.CHATTER_COUNT)
      else .next (s.pgFall v.val) := if_neg (by rcases h with h | h <;> simp [hr, h])
  refine ⟨fun hg hb => ⟨s.downFail v.val, ?_, ?_, ?_, downFail_bit s v.val⟩, fun hg hb hn =>
    ⟨s.incPar (oRail v.val) Pid.Rail.CHATTER_COUNT, ?_, par_incPar_of_hi (chatterCount_hi v.val v.isLt) hn, .incPar (.refl ..)⟩,
    fun hg => ⟨s.pgFall v.val, ?_, pgFall_rail s v.isLt⟩⟩
  · rw [he, if_pos hg, if_pos hb]
  · rw [downFail_rail s v.isLt]
  · rw [downFail_rail s v.isLt]
  · rw [he, if_pos hg, if_neg (by simp [hb])]
  · rw [he, if_neg (by simp [hg])]

/-- A rail's fault is a Brake cause, and its warning runs (R245, R246). -/
theorem railFault_brakes (hr : s.running = true) (hg : (s.rail v.val).good = true) (he : s.enabled (oRail v.val) = true)
    (hb : s.brakeSeen = false) (hl : s.thermalLatched = false) : Runs (.railFault v) s fun t =>
      (t.rail v.val).faulted = true ∧ t.bit (oRail v.val) Pid.Rail.RAIL_STATUS rlFAULT = true ∧
      t.seq.brake = some bkRAIL_FAULT ∧ t.par oShelf Pid.Shelf.SHUTDOWN_CAUSE = bkRAIL_FAULT ∧ t.seq.pfwLow = true ∧
      t.seq.pfwRunning = true := by
  let x := (s.modRail v.val fun r => { r with pg := false, good := false, faulted := true }).setBit (oRail v.val)
    Pid.Rail.RAIL_STATUS rlFAULT
  let y := (x.railRecord v.val).raise alFault
  have hfoot : Foot [.ports, .grist] (some [5, 257, 258, 260, 261, 264]) x y := raise_foot.on railRecord_foot.within
  have hx : SystemKept s x := .setPar (.same (.refl s)) (by simp only [oRail]; omega)
  have hsys : SystemKept s y := (hx.trans (record_head oGrist_not_system ..)).foot raise_foot
  have hlatch : y.thermalLatched = false := by rw [State.thermalLatched, hsys.shelfState]; exact hl
  have hbrake : y.seq.brake = none := by
    rw [show y.seq = s.seq from hfoot.fld .seq rfl]
    simpa [State.brakeSeen] using hb
  obtain ⟨hwarned, hcause, hlow, hwarning⟩ := brakeCause_warns (c := bkRAIL_FAULT) .byRule (by decide) hlatch hbrake
  have hend : Foot [.seq, .ports, .hopper, .rails, .nvm] (some [Pid.Shelf.SHUTDOWN_CAUSE, 385]) y
      (y.brakeCause bkRAIL_FAULT .byRule) := hwarned.on (braked_foot y _)
  refine ⟨y.brakeCause bkRAIL_FAULT .byRule, if_pos (by simp [hr, hg, he, hb]), ?_, ?_,
    hcause, ?_, hlow, hwarning⟩
  · rw [rail_of_foot hwarned]
    refine braked_rail y _ v.val (P := fun r => r.faulted = true) (fun _ h => h) ?_
    rw [rail_of_foot hfoot]
    exact congrArg RailAux.faulted (rail_modRail s v.isLt _)
  · rw [bit_of_foot hend, bit_of_foot hfoot]
    exact bit_setBit_same _ (by decide) _
  · rw [hwarned.par _ rfl _ _ (by decide) rfl]
    exact braked_cause y _

theorem dischargeTimeout_sticks (hm : s.miller3 = true) (hd : (s.rail v.val).discharging = true)
    (ho : (s.rail v.val).downOff = true) (hs : (s.rail v.val).stuck = false) : Runs (.dischargeTimeout v) s fun t =>
      (t.rail v.val).stuck = true ∧ t.bit (oRail v.val) Pid.Rail.RAIL_STATUS rlSTUCK = true ∧
      ∀ p, (t.port p).alertCause.testBit alFault = true := by
  refine ⟨_, if_pos (by simp [hm, hd, ho, hs]), ?_, ?_, raise_faultAlerted _⟩
  · rw [rail_of_foot raise_foot, rail_of_foot railRecord_foot]
    exact congrArg RailAux.stuck (rail_modRail s v.isLt _)
  · rw [bit_of_foot raise_foot, bit_of_foot railRecord_foot]
    exact bit_setBit_same _ (by decide) _

theorem railDischarged_empties (ball us : Word) (hr : s.running = true) (hd : (s.rail v.val).discharging = true)
    (ha : s.senseAnalogue v.val = true) (he : s.emptyAt v.val ball = true) : Runs (.railDischarged ⟨v, ball⟩ us) s fun t =>
      (t.rail v.val).discharging = false ∧ (t.rail v.val).stuck = false ∧
      t.par (oRail v.val) Pid.Rail.LAST_DOWN_TIME = us.toNat := by
  have hrail := railEmpty_rail s v.isLt us.toNat
  exact ⟨s.railEmpty v.val us.toNat, if_pos (by simp [hr, hd, ha, he]), congrArg RailAux.discharging hrail,
    congrArg RailAux.stuck hrail, railEmpty_downTime ..⟩

end

/-! ## A poll of a rail's stage (R239, R240, R245) -/

theorem polErrors_hi : ∀ n < 32, (findDesc (oPol n) Pid.Pol.POL_ERRORS).map Desc.hi = some 4294967295 := by decide

section
variable {s : State} {v : Fin 32} (us : Word) (hm : s.miller3 = true) (h16 : 16 ≤ v.val)
  (hon : (s.rail v.val).en = true ∨ (s.rail v.val).discharging = true) (hpol : s.polOf v.val < 32)
include hm h16 hon

/-- A rail on D2 is polled while it is on or discharges. -/
theorem railPoll_polls : ¬ (!s.miller3 || !isD2 v.val || !((s.rail v.val).en || (s.rail v.val).discharging)) = true := by
  have hd : isD2 v.val = true := decide_eq_true h16
  rcases hon with h | h <;> simp [hm, hd, h]

theorem railPoll_failed {x : RailRead} (h : s.polDead (s.polOf v.val) = true ∨ x = .failed ∨ x = .operationFailed) :
    ∃ y, Foot [.pols] (some []) s y ∧ exec (.railPoll v x us) s =
      .next (((y.polFail (s.polOf v.val)).setBit (oRail v.val) Pid.Rail.RAIL_STATUS rlCOMM).pollLow v.val) := by
  have hpolls := railPoll_polls hm h16 hon
  have hfailed {x : RailRead} (h : (if s.polDead (s.polOf v.val) then RailRead.failed else x) = .failed) :
      exec (.railPoll v x us) s =
        .next (((s.polFail (s.polOf v.val)).setBit (oRail v.val) Pid.Rail.RAIL_STATUS rlCOMM).pollLow v.val) := by
    show execRailPoll v x us s = _
    unfold execRailPoll
    dsimp only
    rw [if_neg hpolls, h]
  by_cases hdead : s.polDead (s.polOf v.val) = true
  · exact ⟨s, .refl .., hfailed (if_pos hdead)⟩
  · rcases h.resolve_left hdead with rfl | rfl
    · exact ⟨s, .refl .., hfailed (ite_self _)⟩
    · refine ⟨s.modPol (s.polOf v.val) fun a => { a with sent := [] }, modPol_foot, ?_⟩
      show execRailPoll v .operationFailed us s = _
      unfold execRailPoll
      dsimp only
      rw [if_neg hpolls, if_neg hdead]

include hpol

/-- A failed transaction is counted, sets COMM, and reads as PG low. -/
theorem railPoll_counts {x : RailRead} (h : s.polDead (s.polOf v.val) = true ∨ x = .failed ∨ x = .operationFailed)
    (hn : s.par (oPol (s.polOf v.val)) Pid.Pol.POL_ERRORS < 4294967295) : Runs (.railPoll v x us) s fun t =>
      t.par (oPol (s.polOf v.val)) Pid.Pol.POL_ERRORS = s.par (oPol (s.polOf v.val)) Pid.Pol.POL_ERRORS + 1 ∧
      t.bit (oRail v.val) Pid.Rail.RAIL_STATUS rlCOMM = true ∧ (t.rail v.val).pg = false := by
  obtain ⟨y, hy, hrun⟩ := railPoll_failed us hm h16 hon h
  have herrors : y.par (oPol (s.polOf v.val)) Pid.Pol.POL_ERRORS = s.par (oPol (s.polOf v.val)) Pid.Pol.POL_ERRORS :=
    hy.par _ rfl _ _ (by decide) rfl
  refine ⟨_, hrun, ?_, ?_, pollLow_pg _ v.isLt⟩
  · refine Eq.trans (pollLow_pol (pid := Pid.Pol.POL_ERRORS) _ hpol v.isLt (by decide) (by decide)) ?_
    rw [(setBit_foot (.refl [] (some [Pid.Rail.RAIL_STATUS]) _) rfl).par _ rfl _ _ (by decide) rfl, ← herrors]
    exact par_incPar_of_hi (polErrors_hi _ hpol) (herrors ▸ hn)
  · rw [pollLow_bit _ _ (by decide)]
    exact bit_setBit_same _ (by decide) _

variable (hlive : s.polDead (s.polOf v.val) = false)
include hlive

theorem railPoll_statusWord (w : BitVec 16) : Runs (.railPoll v (.statusWord w) us) s fun t =>
    t.par (oPol (s.polOf v.val)) Pid.Pol.POL_STATUS_WORD = w.toNat ∧ (t.rail v.val).pg = !w.getLsbD 11 := by
  let x := s.setPar (oPol (s.polOf v.val)) Pid.Pol.POL_STATUS_WORD w.toNat
  have hx : x.par (oPol (s.polOf v.val)) Pid.Pol.POL_STATUS_WORD = w.toNat := s.par_setPar_same (by decide) _
  have hrun : exec (.railPoll v (.statusWord w) us) s =
      .next (if w.getLsbD 11 then x.pollLow v.val else x.pollHigh v.val) := by
    show execRailPoll v (.statusWord w) us s = _
    unfold execRailPoll
    dsimp only
    rw [if_neg (railPoll_polls hm h16 hon), hlive]
    rfl
  refine ⟨_, hrun, ?_⟩
  cases w.getLsbD 11 with
  | true => exact ⟨Eq.trans (pollLow_pol (pid := Pid.Pol.POL_STATUS_WORD) x hpol v.isLt (by decide) (by decide)) hx, pollLow_pg x v.isLt⟩
  | false => exact ⟨Eq.trans (pollHigh_pol (pid := Pid.Pol.POL_STATUS_WORD) x hpol v.isLt (by decide)) hx, pollHigh_pg x v.isLt⟩

omit hpol in
theorem railPoll_vout (m : BitVec 16) :
    let volts := linear m.toNat (s.par (oPol (s.polOf v.val)) Pid.Pol.VOUT_EXP) 100000
    ((s.rail v.val).discharging = true → volts < s.par (oRail v.val) Pid.Rail.DISCHARGE_THRESH →
      Runs (.railPoll v (.vout m) us) s fun t =>
        (t.rail v.val).discharging = false ∧ t.par (oRail v.val) Pid.Rail.LAST_DOWN_TIME = us.toNat) ∧
    ((s.rail v.val).discharging = false ∨ s.par (oRail v.val) Pid.Rail.DISCHARGE_THRESH ≤ volts →
      Runs (.railPoll v (.vout m) us) s fun t => Foot [] (some [Pid.Pol.VOUT]) s t) := by
  intro volts
  let x := s.setReading (oPol (s.polOf v.val)) Pid.Pol.VOUT volts
  have hx : Foot [] (some [Pid.Pol.VOUT]) s x := .setReading (.refl ..)
  have hrail : x.rail v.val = s.rail v.val := rail_of_foot hx v.val
  have hthresh : x.par (oRail v.val) Pid.Rail.DISCHARGE_THRESH = s.par (oRail v.val) Pid.Rail.DISCHARGE_THRESH :=
    hx.par _ rfl _ _ (by decide) rfl
  have hrun : exec (.railPoll v (.vout m) us) s =
      if ((x.rail v.val).discharging && decide (volts < x.par (oRail v.val) Pid.Rail.DISCHARGE_THRESH)) = true then
        .next (x.railEmpty v.val us.toNat) else .next x := by
    show execRailPoll v (.vout m) us s = _
    unfold execRailPoll
    dsimp only
    rw [if_neg (railPoll_polls hm h16 hon), hlive]
    rfl
  rw [hrail, hthresh] at hrun
  refine ⟨fun hd hlt => ⟨x.railEmpty v.val us.toNat, ?_, ?_, railEmpty_downTime ..⟩, fun h => ⟨x, ?_, hx⟩⟩
  · rw [hrun, if_pos (by simp [hd, hlt])]
  · rw [railEmpty_rail x v.isLt]
  · rw [hrun, if_neg (by rcases h with h | h <;> simp [h])]

end

/-- Settles O49: what each event of a rail leaves of its record and of RAIL_STATUS. -/
theorem railsFollow : Obligations.RailsFollow := by
  intro s v o
  refine ⟨onDelay_turnsOn, fun ball hr h16 => railPg_follows ball hr h16, fun us => railQualified_makesGood us,
    pgTimeout_notGood, fun ball hr h => railPgDrop_follows ball hr h, railFault_brakes, fun us hm h16 hon hpol => ?_,
    dischargeTimeout_sticks, fun ball us => railDischarged_empties ball us⟩
  exact ⟨fun hlive => ⟨railPoll_statusWord us hm h16 hon hpol hlive, railPoll_vout us hm h16 hon hlive⟩,
    fun x h hn => railPoll_counts us hm h16 hon hpol h hn⟩

end Sys2Proof.Machine

/-! # Proofs: SEQ_POWER_ON, SEQ_POWER_OFF and SEQ_STEP act (O18) -/

namespace Sys2Proof.Machine

open Sys2Proof State

set_option Elab.async false

/-! ## SEQ_POWER_ON -/

section
variable {s x : State} {e : Op}

theorem powerOnRequest_starts (hb : s.shelfState = ssBraking) (hc : s.seq.complete = true) :
    s.powerOnRequest = (0, s.powerOnNow) := if_pos (by rw [hb, hc]; rfl)

theorem powerOnRequest_waits (h : (s.shelfState == ssBraking && s.seq.complete) = false) (hb : s.seq.brake.isSome = true)
    (hl : s.thermalLatched = false) : s.powerOnRequest = (1, s.modSeq fun q => { q with powerOn := true }) :=
  (if_neg (by rw [h]; exact Bool.false_ne_true)).trans (if_pos (by rw [hb, hl]; rfl))

theorem powerOnRequest_idle (h : (s.shelfState == ssBraking && s.seq.complete) = false) (hb : s.seq.brake = none) :
    s.powerOnRequest = (2, s) :=
  (if_neg (by rw [h]; exact Bool.false_ne_true)).trans (if_neg (by rw [hb]; exact Bool.false_ne_true))

theorem powerOnRequest_result (s : State) : s.powerOnRequest.1 = if s.shelfState == ssBraking && s.seq.complete then 0
    else if s.seq.brake.isSome && !s.thermalLatched then 1 else 2 := by
  unfold State.powerOnRequest
  split
  · rfl
  · split <;> rfl

/-- The operation is answered with the request's RESULT, and the request is then carried out (R259). -/
def State.powerOnAnswered (s : State) (e : Op) (result : Nat) : State :=
  (s.opCommit e.id).ok e (leBytes 1 result ++ leBytes 1 s.seqState ++ [0, 0])

theorem opSeqPowerOn_requests (hlen : e.payload.length = 0) (hl : x.thermalLatched = false) :
    opSeqPowerOn e x = (x.powerOnAnswered e (x.opCommit e.id).powerOnRequest.1).powerOnRequest.2 := by
  unfold opSeqPowerOn
  rw [if_neg (not_not.2 hlen), if_neg (Bool.eq_false_iff.1 hl)]
  rfl

end

section
variable {s : State} {r : Req} (ha : Accepts s r 0x70 []) (hl : s.thermalLatched = false)
include ha hl

/-- The request is answered with its RESULT in a state that is otherwise as it was to the sequencer. -/
theorem seqPowerOn_answers : ∃ a : State, a.seq = s.seq ∧ a.shelfState = s.shelfState ∧ a.restsAt 31 = s.restsAt 31 ∧
    Replied s a r 0x70 stOK 0 (leBytes 1 s.powerOnRequest.1 ++ leBytes 1 s.seqState ++ [0, 0]) ∧
    exec (.seqPowerOn r []) s = .next a.powerOnRequest.2 := by
  have hfoot : Foot [.ports, .hopper] (some [385]) s
      ((Taken s r 0x70 []).powerOnAnswered (theOp s r 0x70 []) s.powerOnRequest.1) :=
    ok_foot.on (opCommit_foot.on takeOp_foot.within)
  have hresult : ((Taken s r 0x70 []).opCommit (theOp s r 0x70 []).id).powerOnRequest.1 = s.powerOnRequest.1 := by
    rw [powerOnRequest_result, powerOnRequest_result]
    rfl
  refine ⟨_, hfoot.fld .seq rfl, hfoot.par _ rfl _ _ (by decide) rfl, restsAt_of_foot 31 hfoot,
    reply_replied ha.enabled_taken, ?_⟩
  rw [← hresult]
  exact congrArg Host.Outcome.next ((submitReq_accepted opSeqPowerOn ha).trans (opSeqPowerOn_requests rfl hl))

/-- Once the Brake sequence is complete a unit off the line restarts, after its reply. -/
theorem seqPowerOn_restarts (hb : s.shelfState = ssBraking) (hc : s.seq.complete = true) (hq : s.seq.attached = false) :
    Runs (.seqPowerOn r []) s fun t => t.miller.restarting = true ∧ t.par oDevice Pid.Device.L3_RESTART_CAUSE = lrPOWER_ON ∧
      ∃ x ∈ (t.port r.port).replies, x.op = some s.hopper.nextId ∧ x.status = stOK ∧
        x.payload = leBytes 1 0 ++ leBytes 1 s.seqState ++ [0, 0] := by
  obtain ⟨a, hseq, hshelf, -, hreply, hrun⟩ := seqPowerOn_answers ha hl
  rw [powerOnRequest_starts hb hc] at hreply
  rw [powerOnRequest_starts (hshelf.trans hb) (hseq ▸ hc), powerOnNow_alone (hseq ▸ hq)] at hrun
  obtain ⟨hrestarting, hcause⟩ := l3Restart_restarts (a.modSeq fun q => { q with powerOn := false }) lrPOWER_ON
  exact ⟨_, hrun, hrestarting, hcause, _, ((l3Restart_grows _ lrPOWER_ON).port r.port).replies (List.mem_of_getLast? hreply),
    rfl, rfl, rfl⟩

/-- An attached unit at rest at 31 sends a request pulse. -/
theorem seqPowerOn_pulses (hb : s.shelfState = ssBraking) (hc : s.seq.complete = true) (hq : s.seq.attached = true)
    (hr : s.restsAt 31 = true) (hline : s.seq.lineLow = false) (hp : s.seq.pulse = .none) :
    Runs (.seqPowerOn r []) s fun t => t.seq.pulse = .request ∧ t.seq.lineLow = true ∧
      Replied s t r 0x70 stOK 0 (leBytes 1 (0 : Nat) ++ leBytes 1 s.seqState ++ [0, 0]) := by
  obtain ⟨a, hseq, hshelf, hrests, hreply, hrun⟩ := seqPowerOn_answers ha hl
  rw [powerOnRequest_starts hb hc] at hreply
  rw [powerOnRequest_starts (hshelf.trans hb) (hseq ▸ hc),
    powerOnNow_request (hseq ▸ hq) (hseq ▸ hp) (hrests.trans hr) (hseq ▸ hline)] at hrun
  exact ⟨_, hrun, rfl, rfl, hreply.kept (.same (.refl _))⟩

/-- While a Brake runs the request is kept; without one it changes no walk. -/
theorem seqPowerOn_waits (h : (s.shelfState == ssBraking && s.seq.complete) = false) : Runs (.seqPowerOn r []) s fun t =>
    (s.seq.brake.isSome = true → t.seq.powerOn = true ∧
      Replied s t r 0x70 stOK 0 (leBytes 1 (1 : Nat) ++ leBytes 1 s.seqState ++ [0, 0])) ∧
    (s.seq.brake = none → t.seq = s.seq ∧
      Replied s t r 0x70 stOK 0 (leBytes 1 (2 : Nat) ++ leBytes 1 s.seqState ++ [0, 0])) := by
  obtain ⟨a, hseq, hshelf, -, hreply, hrun⟩ := seqPowerOn_answers ha hl
  have hopen : (a.shelfState == ssBraking && a.seq.complete) = false := by rw [hshelf, hseq, h]
  cases hb : s.seq.brake with
  | none =>
    rw [powerOnRequest_idle h hb] at hreply
    rw [powerOnRequest_idle hopen (hseq ▸ hb)] at hrun
    exact ⟨a, hrun, fun h => absurd h (by simp), fun _ => ⟨hseq, hreply⟩⟩
  | some c =>
    have hsome : s.seq.brake.isSome = true := by rw [hb]; rfl
    have hlatch : a.thermalLatched = false := by rw [State.thermalLatched, hshelf]; exact hl
    rw [powerOnRequest_waits h hsome hl] at hreply
    rw [powerOnRequest_waits hopen (hseq ▸ hsome) hlatch] at hrun
    exact ⟨_, hrun, fun _ => ⟨rfl, hreply.kept (.same (.refl _))⟩, fun h => by simp at h⟩

end

/-- A wrong length, and THERMAL_LATCHED, are answered as their checks say. -/
theorem seqPowerOn_fails {s : State} {r : Req} {p : Bytes} (ha : Accepts s r 0x70 p) :
    (p.length ≠ 0 → Runs (.seqPowerOn r p) s fun t => Replied s t r 0x70 stBAD_LENGTH 1 []) ∧
    (p.length = 0 → s.thermalLatched = true → Runs (.seqPowerOn r p) s fun t => Replied s t r 0x70 stLOCKED 2 []) := by
  have hfail {st c : Nat} (h : opSeqPowerOn (theOp s r 0x70 p) (Taken s r 0x70 p) =
      (Taken s r 0x70 p).fail (theOp s r 0x70 p) st c) : Runs (.seqPowerOn r p) s fun t => Replied s t r 0x70 st c [] :=
    ⟨_, congrArg Host.Outcome.next ((submitReq_accepted opSeqPowerOn ha).trans h), reply_replied ha.enabled_taken⟩
  exact ⟨fun hlen => hfail (if_pos hlen), fun hlen hlatch => hfail ((if_neg (not_not.2 hlen)).trans (if_pos hlatch))⟩

/-! ## SEQ_POWER_OFF -/

section
variable {x : State} {e : Op}

/-- The operation waits for the Brake sequence with its RESULT (R260). -/
def State.offWaits (s : State) (e : Op) (result : Nat) : State :=
  (s.opCommit e.id).modSeq fun q => { q with offOps := q.offOps ++ [(e.id, result)] }

theorem powerOffCheck_none {p : Bytes} (h : x.powerOffCheck p = none) : x.thermalLatched = false ∧
    (byteAt p 0 = 1 → x.seq.attached = true ∧ x.restsAt 15 = true) := by
  unfold State.powerOffCheck at h
  extract_lets group at h
  split_ifs at h with hlen hzero hrange hlatch hpre hbusy
  refine ⟨Bool.eq_false_iff.2 hlatch, fun hg => ?_⟩
  have hgroup : decide group = true := decide_eq_true hg
  simpa [hgroup] using hbusy

theorem opSeqPowerOff_begins (hc : x.powerOffCheck e.payload = none) (hb : x.shelfState ≠ ssBraking) : opSeqPowerOff e x =
    (x.offWaits e 0).brakeCause bkPOWER_OFF (if byteAt e.payload 0 = 1 then .group else .local) := by
  have hb : ((x.opCommit e.id).shelfState == ssBraking) = false := beq_eq_false_iff_ne.2 hb
  unfold opSeqPowerOff
  simp only [hc, hb, Bool.false_and, Bool.false_eq_true, if_false]
  rfl

theorem opSeqPowerOff_joins (hc : x.powerOffCheck e.payload = none) (hb : x.shelfState = ssBraking)
    (ho : x.seq.complete = false) : opSeqPowerOff e x = x.offWaits e 1 := by
  have hb : (x.opCommit e.id).shelfState == ssBraking := beq_iff_eq.2 hb
  have ho : (x.opCommit e.id).seq.complete = false := ho
  unfold opSeqPowerOff
  simp only [hc, hb, ho, Bool.and_false, Bool.false_eq_true, if_false, if_true]
  rfl

theorem opSeqPowerOff_answers (hc : x.powerOffCheck e.payload = none) (hb : x.shelfState = ssBraking)
    (ho : x.seq.complete = true) : opSeqPowerOff e x = (x.opCommit e.id).ok e
      (leBytes 1 1 ++ leBytes 1 (x.railFlags rlSTUCK + x.railFlags rlDOWN_FAIL : Nat) ++ [0, 0]) := by
  have hb : (x.opCommit e.id).shelfState == ssBraking := beq_iff_eq.2 hb
  have ho : (x.opCommit e.id).seq.complete = true := ho
  unfold opSeqPowerOff
  simp only [hc, hb, ho, Bool.and_true, if_true]
  rfl

end

section
variable {s : State} {r : Req} {p : Bytes} (ha : Accepts s r 0x71 p) (hc : (Taken s r 0x71 p).powerOffCheck p = none)
include ha

theorem seqPowerOff_next : exec (.seqPowerOff r p) s =
    .next (opSeqPowerOff (theOp s r 0x71 p) (Taken s r 0x71 p)) :=
  congrArg Host.Outcome.next (submitReq_accepted opSeqPowerOff ha)

include hc

/-- A cause that is the first enters BRAKING, by the unit alone or with its group (R254, R260). -/
theorem seqPowerOff_brakes (hb : s.shelfState ≠ ssBraking) (hn : s.seq.brake = none) : Runs (.seqPowerOff r p) s fun t =>
    t.shelfState = ssBraking ∧ t.par oShelf Pid.Shelf.SHUTDOWN_CAUSE = bkPOWER_OFF ∧ t.seq.brake = some bkPOWER_OFF ∧
    t.seq.pfwLow = true ∧ t.seq.offOps = s.seq.offOps ++ [(s.hopper.nextId, 0)] ∧
    (byteAt p 0 = 0 → t.seqState = 16 ∧ t.seq.attached = false) ∧
    (byteAt p 0 = 1 → t.seqState = s.seqState ∧ t.seq.pulse = .request) := by
  obtain ⟨hlatch, hgroup⟩ := powerOffCheck_none hc
  obtain ⟨b, hfoot, hstanding, hnoted, henters⟩ := brakeCause_enters (s := (Taken s r 0x71 p).offWaits (theOp s r 0x71 p) 0)
    (c := bkPOWER_OFF) (by decide) hlatch hn
  have hrun (how : BrakeHow) (hhow : (if byteAt p 0 = 1 then BrakeHow.group else .local) = how) :
      exec (.seqPowerOff r p) s = .next (b.enterBraking how) := by
    rw [seqPowerOff_next ha, opSeqPowerOff_begins (x := Taken s r 0x71 p) (e := theOp s r 0x71 p) hc hb, henters,
      show (if byteAt (theOp s r 0x71 p).payload 0 = 1 then _ else _) = how from hhow]
  have hcause (how : BrakeHow) : (b.enterBraking how).par oShelf Pid.Shelf.SHUTDOWN_CAUSE = bkPOWER_OFF :=
    (enterBraking_foot.par _ rfl _ _ (by decide) rfl).trans hnoted
  have hoff : b.seq.offOps = s.seq.offOps ++ [(s.hopper.nextId, 0)] := offOps_of_standing hstanding
  have hbrake : b.seq.brake = some bkPOWER_OFF := brake_of_standing hstanding
  by_cases h1 : byteAt p 0 = 1
  · obtain ⟨hattached, hrests⟩ := hgroup h1
    obtain ⟨hbegun, hstate, hpulse⟩ := enterBraking_group (s := b) ((attached_of_standing hstanding).trans hattached)
      ((restsAt_of_foot 15 hfoot).trans hrests)
    refine ⟨_, hrun .group (if_pos h1), hbegun.shelf, hcause _, hbegun.brake.trans hbrake, hbegun.pfwLow,
      hbegun.offOps.trans hoff, fun h0 => absurd (h0.symm.trans h1) (by decide), fun _ => ⟨?_, hpulse⟩⟩
    exact hstate.trans (seqState_of_foot hfoot :)
  · obtain ⟨hbegun, hstate, hleft⟩ := enterBraking_local (s := b)
    exact ⟨_, hrun .local (if_neg h1), hbegun.shelf, hcause _, hbegun.brake.trans hbrake, hbegun.pfwLow,
      hbegun.offOps.trans hoff, fun _ => ⟨hstate, hleft⟩, fun h => absurd h h1⟩

/-- In a Brake it waits for its completion (R260). -/
theorem seqPowerOff_joins (hb : s.shelfState = ssBraking) (ho : s.seq.complete = false) : Runs (.seqPowerOff r p) s fun t =>
    t.seq.offOps = s.seq.offOps ++ [(s.hopper.nextId, 1)] ∧ t.shelfState = ssBraking ∧ t.seqState = s.seqState := by
  refine ⟨(Taken s r 0x71 p).offWaits (theOp s r 0x71 p) 1, ?_, rfl, hb, rfl⟩
  rw [seqPowerOff_next ha, opSeqPowerOff_joins (x := Taken s r 0x71 p) (e := theOp s r 0x71 p) hc hb ho]

/-- After a Brake it is answered at once (R260). -/
theorem seqPowerOff_answers (hb : s.shelfState = ssBraking) (ho : s.seq.complete = true) : Runs (.seqPowerOff r p) s fun t =>
    Replied s t r 0x71 stOK 0
      (leBytes 1 1 ++ leBytes 1 (s.railFlags rlSTUCK + s.railFlags rlDOWN_FAIL : Nat) ++ [0, 0]) := by
  refine ⟨_, ?_, reply_replied (x := (Taken s r 0x71 p).opCommit (theOp s r 0x71 p).id) (p := p) ha.enabled_taken⟩
  rw [seqPowerOff_next ha, opSeqPowerOff_answers (x := Taken s r 0x71 p) (e := theOp s r 0x71 p) hc hb ho]
  rfl

end

/-! ## SEQ_STEP -/

section
variable {x : State} {e : Op}

/-- MANUAL is entered with the steps of the operation (R261). -/
def State.stepsBegun (s : State) (e : Op) : State :=
  (s.opRunning e).modSeq fun q => { q with walk := .manual, stepsLeft := byteAt e.payload 0, stepOp := some e.id }

theorem opSeqStep_steps (hc : x.stepCheck e.payload = none) :
    opSeqStep e x = (x.stepsBegun e).stepTaken.enterSeq x.nextSeqState := by
  unfold opSeqStep
  simp only [hc]
  rfl

theorem stepTaken_seq (s : State) : s.stepTaken.seq = { s.seq with stepsLeft := s.seq.stepsLeft - 1 } := by
  unfold State.stepTaken
  extract_lets n a
  split
  · split <;> rfl
  · rfl

/-- The last step commits its operation. -/
theorem stepTaken_op {s : State} (he : e ∈ s.hopper.ops) (hop : s.seq.stepOp = some e.id) :
    ∃ o ∈ s.stepTaken.hopper.ops, o.id = e.id ∧ o.stage = if s.seq.stepsLeft - 1 = 0 then .committed else e.stage := by
  have h : s.stepTaken.hopper = if s.seq.stepsLeft - 1 = 0 then (s.opCommit e.id).hopper else s.hopper := by
    unfold State.stepTaken
    extract_lets n a
    have ha : a.seq.stepOp = some e.id := hop
    simp only [ha]
    split <;> rfl
  rw [h]
  split
  · exact ⟨{ e with stage := .committed }, List.mem_map.2 ⟨e, he, if_pos (beq_self_eq_true _)⟩, rfl, rfl⟩
  · exact ⟨e, he, rfl, rfl⟩

/-- In MANUAL the work of a state is its rails' (R261). -/
theorem beginWork_manual {s : State} (h : s.seq.walk = .manual) (n : Nat) :
    Foot [.pols, .rails] (some [256, 264, 270]) s (s.beginWork n) := by
  have hwalk : (s.seq.walk != .manual && s.linkUp) = false := by rw [h]; rfl
  unfold State.beginWork
  rw [hwalk]
  exact .ite railsUp_foot.within (eachOf_foot (.refl ..) fun _ _ hx => modRail_foot.on (railOff_foot.on hx))

theorem enterSeq_manual {s : State} (h : s.seq.walk = .manual) (n : Nat) : (s.enterSeq n).hopper = s.hopper ∧
    (s.enterSeq n).seqPhase = sqMANUAL ∧ (s.enterSeq n).seq.walk = .manual ∧ (s.enterSeq n).seq.stepOp = s.seq.stepOp ∧
    (s.enterSeq n).seq.stepsLeft = s.seq.stepsLeft := by
  obtain ⟨a, ha⟩ := enterSeq_seq s n
  refine ⟨?_, ?_, ?_, ?_, ?_⟩
  · have hs : ((s.seqEntered n).schedEntry n).hopper = s.hopper := schedEntry_foot.fld .hopper rfl
    obtain ⟨b, hb⟩ := schedEntry_seq (s.seqEntered n) n
    have hwalk : ((s.seqEntered n).schedEntry n).seq.walk = .manual := by
      rw [hb]
      exact if_pos (by rw [h]; rfl)
    rw [enterSeq_eq]
    split
    · exact hs
    · exact ((beginWork_manual hwalk n).fld .hopper rfl).trans hs
  · rw [enterSeq_seqPhase, h]
    rfl
  · rw [ha]
    exact if_pos (by rw [h]; rfl)
  · rw [ha]
    rfl
  · rw [ha]
    rfl

end

/-- The operation's first step is taken at once (R261). -/
theorem seqStep_steps {s : State} {r : Req} {p : Bytes} (ha : Accepts s r 0x72 p)
    (hc : (Taken s r 0x72 p).stepCheck p = none) : Runs (.seqStep r p) s fun t =>
      t.par oShelf Pid.Shelf.SEQ_STATE = s.nextSeqState ∧ t.par oShelf Pid.Shelf.SEQ_PHASE = sqMANUAL ∧
      t.seq.walk = .manual ∧ t.seq.stepOp = some s.hopper.nextId ∧ t.seq.stepsLeft = byteAt p 0 - 1 ∧
      ∃ e ∈ t.hopper.ops, e.id = s.hopper.nextId ∧ e.stage = (if byteAt p 0 = 1 then .committed else .running) := by
  let y := (Taken s r 0x72 p).stepsBegun (theOp s r 0x72 p)
  have hseq : y.stepTaken.seq = { y.seq with stepsLeft := byteAt p 0 - 1 } := stepTaken_seq y
  have hcount : 1 ≤ byteAt p 0 := by
    unfold State.stepCheck at hc
    split_ifs at hc with hlen hzero hrange
    simp only [Bool.or_eq_true, decide_eq_true_eq] at hrange
    omega
  obtain ⟨hhopper, hphase, hwalk, hop, hleft⟩ := enterSeq_manual (s := y.stepTaken) (by rw [hseq]; rfl) s.nextSeqState
  obtain ⟨o, ho, hid, hstage⟩ := opRunning_waits (s := s) (r := r) (n := 0x72) (p := p) rfl
  obtain ⟨e, he, heid, hestage⟩ := stepTaken_op (s := y) (e := o) ho (congrArg some hid.symm)
  refine ⟨y.stepTaken.enterSeq s.nextSeqState, congrArg Host.Outcome.next
    ((submitReq_accepted opSeqStep ha).trans (opSeqStep_steps hc)), enterSeq_par .., hphase, hwalk, ?_, ?_, e, ?_, heid.trans hid,
    ?_⟩
  · rw [hop, hseq]
    rfl
  · rw [hleft, hseq]
  · rw [hhopper]
    exact he
  · rw [hestage, hstage]
    have hone : y.seq.stepsLeft - 1 = 0 ↔ byteAt p 0 = 1 := by
      show byteAt p 0 - 1 = 0 ↔ _
      omega
    simp only [hone]

/-- Settles O18: each operation as its checks and the shelf's state let it act. -/
theorem sequencerOperations : Obligations.SequencerOperations := by
  intro s r p
  refine ⟨fun ha hl => ⟨fun hb hc => ⟨fun hq => seqPowerOn_restarts ha hl hb hc hq,
    fun hq hr hline hp => seqPowerOn_pulses ha hl hb hc hq hr hline hp⟩, fun h => seqPowerOn_waits ha hl h⟩,
    seqPowerOn_fails, fun ha hc => ⟨fun hb hn => seqPowerOff_brakes ha hc hb hn, fun hb ho => seqPowerOff_joins ha hc hb ho,
      fun hb ho => seqPowerOff_answers ha hc hb ho⟩, seqStep_steps⟩

end Sys2Proof.Machine

/-! # Proofs: the COG line counts, and the button and MR_N act (O51) -/

namespace Sys2Proof.Machine

open Sys2Proof State

set_option Elab.async false

/-! ## A step, a request and a reset

A step or reset out of 31 is a power-on request; it changes nothing of the unit's place on the line (R253, R259). -/

section
variable (s : State)

theorem cogUp_counts : s.cogUp.seqState = 0 ∧ s.cogUp.seq.attached = s.seq.attached ∧ s.cogUp.seq.pulse = s.seq.pulse := by
  unfold State.cogUp
  extract_lets a
  have ha : a.seq.attached = s.seq.attached ∧ a.seq.pulse = s.seq.pulse := by
    unfold a
    split
    · rw [brakeComplete_seq]
      exact ⟨rfl, rfl⟩
    · exact ⟨rfl, rfl⟩
  have hrestart : Stands a ((a.l3Restart lrPOWER_ON).cogStep 0) := (l3Restart_stands ..).trans (cogStep_stands ..)
  split
  · exact ⟨cogStep_seqState .., hrestart.attached.trans ha.1, hrestart.pulse.trans ha.2⟩
  · exact ⟨cogStep_seqState .., (cogStep_stands a 0).attached.trans ha.1, (cogStep_stands a 0).pulse.trans ha.2⟩

/-- A reset counted: RESET_SEEN, and state 0 (R253). -/
theorem cogReset_counts : s.cogReset.seqState = 0 ∧ s.cogReset.bit oShelf Pid.Shelf.COG_STATUS cgRESET_SEEN = true ∧
    s.cogReset.seq.attached = s.seq.attached ∧ s.cogReset.seq.pulse = s.seq.pulse := by
  obtain ⟨hstate, hattached, hpulse⟩ := cogUp_counts (s.setBit oShelf Pid.Shelf.COG_STATUS cgRESET_SEEN)
  refine ⟨hstate, ?_, hattached, hpulse⟩
  rw [State.cogReset, bit_of_foot cogUp_foot]
  exact bit_setBit_same _ (by decide) _

theorem cogRequest_of_31 {s : State} (h : s.seqState = 31) : s.cogRequest = s.cogUp := if_neg (by omega)

theorem cogRequest_braking {s : State} (h : s.seqState = 15) (hb : s.shelfState = ssBraking) : s.cogRequest = s.cogStep 16 :=
  (if_pos h).trans (if_pos (beq_iff_eq.2 hb))

/-- A group's step out of 15 is a Brake cause, outside BRAKING (R246, R254). -/
theorem cogRequest_brakes {s : State} (h : s.seqState = 15) (hb : s.shelfState ≠ ssBraking) (hn : s.seq.brake = none)
    (hl : s.thermalLatched = false) : s.cogRequest.seqState = 16 ∧ s.cogRequest.shelfState = ssBraking ∧
      s.cogRequest.par oShelf Pid.Shelf.SHUTDOWN_CAUSE = bkGROUP_STEP := by
  obtain ⟨b, -, -, hnoted, henters⟩ := brakeCause_enters (s := s) (c := bkGROUP_STEP) (by decide) hl hn
  obtain ⟨hbegun, hstate⟩ := enterBraking_stepped (s := b)
  have he : s.cogRequest = b.enterBraking .stepped :=
    ((if_pos h).trans (if_neg fun he => hb (beq_iff_eq.1 he))).trans (henters .stepped)
  rw [he]
  exact ⟨hstate, hbegun.shelf, (enterBraking_foot.par _ rfl _ _ (by decide) rfl).trans hnoted⟩

/-! ## The unit's place on the line -/

/-- A finished state leaves the unit's place on the line as it was. -/
theorem stepAlone_line : s.stepAlone.seq.attached = s.seq.attached ∧ s.stepAlone.seq.detached = s.seq.detached := by
  unfold State.stepAlone
  extract_lets n a
  split
  · split
    · rw [brakeComplete_seq]
      exact ⟨rfl, rfl⟩
    · exact ⟨rfl, rfl⟩
  · exact ⟨(enterSeq_stands ..).attached, (enterSeq_stands ..).detached⟩

/-- A power-on request that is taken leaves a unit off the line there. -/
theorem powerOnDue_line {s : State} (h : s.seq.attached = false) :
    s.powerOnDue.seq.attached = false ∧ s.powerOnDue.seq.detached = s.seq.detached := by
  unfold State.powerOnDue
  split
  · rw [powerOnNow_alone h]
    have hk := l3Restart_stands (s.modSeq fun q => { q with powerOn := false }) lrPOWER_ON
    exact ⟨hk.attached.trans h, hk.detached⟩
  · exact ⟨h, rfl⟩

theorem seqPhase_setPar (v : Int) : (s.setPar oShelf Pid.Shelf.SEQ_PHASE v).seqPhase = v := s.par_setPar_same (by decide) v

theorem seqState_setPhase (v : Int) : (s.setPar oShelf Pid.Shelf.SEQ_PHASE v).seqState = s.seqState :=
  seqState_of_foot (.setPar (.refl [] (some [Pid.Shelf.SEQ_PHASE]) s))

end

/-! ## A rise and a low of the line -/

section
variable {s : State}

/-- The line is high again. -/
def State.lineHigh (s : State) : State := s.modSeq fun q => { q with lineLow := false }

section
variable (hr : s.running = true) (hh : s.seq.holding = false) (hp : s.seq.pulse = .none)
include hr hh hp

/-- The unit neither holds the line nor drives a pulse. -/
theorem cogLine_watched : ¬ (!s.running || s.seq.holding || s.seq.pulse != .none) = true := by
  rw [hr, hh, hp]
  decide

/-- A joining unit that sees the line move waits (R255). -/
theorem cogJoining_waits (hj : s.seqPhase = sqJOINING) :
    (Runs .cogRise s fun t => t.seq.joinWait = true ∧ t.seq.lineLow = false ∧ Foot [.seq] (some []) s t) ∧
    ∀ us, Runs (.cogLowEnd us) s fun t => t.seq.joinWait = true ∧ t.seq.lineLow = false ∧ Foot [.seq] (some []) s t := by
  have hwatched := cogLine_watched hr hh hp
  have hjoin : (s.lineHigh.seqPhase == sqJOINING) = true := beq_iff_eq.2 hj
  have hfoot : Foot [.seq] (some []) s (s.lineHigh.modSeq fun q => { q with joinWait := true }) := modSeq_foot.on modSeq_foot
  exact ⟨⟨_, (if_neg hwatched).trans (if_pos hjoin), rfl, rfl, hfoot⟩,
    fun us => ⟨_, (if_neg hwatched).trans (if_pos hjoin), rfl, rfl, hfoot⟩⟩

variable (ha : s.seq.attached = true)
include ha

/-- The rest of a rise, for an attached unit that works: at 15 and 31 the line rests high, else it is a step (R253). -/
theorem cogRise_eq (hrest : s.seqPhase ≠ sqREST) (hj : s.seqPhase ≠ sqJOINING) : exec .cogRise s =
    if s.seqState = 15 ∨ s.seqState = 31 then .next ((s.lineHigh.setPar oShelf Pid.Shelf.SEQ_PHASE sqREST).modSeq fun q =>
      { q with walk := if q.workDone then .none else q.walk }).powerOnDue
    else .next (s.lineHigh.cogStep s.nextSeqState) := by
  have hjoin : ¬ (s.lineHigh.seqPhase == sqJOINING) = true := fun h => hj (beq_iff_eq.1 h)
  have hworks : ¬ (!s.lineHigh.seq.attached || s.lineHigh.seqPhase == sqREST) = true := by
    show ¬ (!s.seq.attached || s.seqPhase == sqREST) = true
    simp [ha, hrest]
  exact ((if_neg (cogLine_watched hr hh hp)).trans (if_neg hjoin)).trans (if_neg hworks)

theorem cogRise_rests (hrest : s.seqPhase ≠ sqREST) (hj : s.seqPhase ≠ sqJOINING) (hn : s.seqState = 15 ∨ s.seqState = 31) :
    Runs .cogRise s fun t => t.seqPhase = sqREST ∧ t.seqState = s.seqState := by
  refine ⟨_, (cogRise_eq hr hh hp ha hrest hj).trans (if_pos hn), ?_, ?_⟩
  · rw [seqPhase_of_foot powerOnDue_foot]
    exact (seqPhase_setPar s.lineHigh sqREST :)
  · rw [seqState_of_foot powerOnDue_foot]
    exact (seqState_setPhase s.lineHigh sqREST :)

theorem cogRise_steps (hrest : s.seqPhase ≠ sqREST) (hj : s.seqPhase ≠ sqJOINING) (hlt : s.seqState < 31)
    (hn : s.seqState ≠ 15) (hc : s.par oShelf Pid.Shelf.COG_STEPS < 4294967295) : Runs .cogRise s fun t =>
      t.seqState = s.seqState + 1 ∧ t.seq.holding = true ∧
      t.par oShelf Pid.Shelf.COG_STEPS = s.par oShelf Pid.Shelf.COG_STEPS + 1 := by
  have hnext : s.nextSeqState = s.seqState + 1 := Nat.mod_eq_of_lt (by omega)
  refine ⟨_, (cogRise_eq hr hh hp ha hrest hj).trans (if_neg (by omega)), ?_, ?_, ?_⟩
  · rw [cogStep_seqState, hnext]
  · rw [State.cogStep, enterSeq_holding]
    exact ha
  · rw [State.cogStep, enterSeq_foot.par _ rfl _ _ (by decide) rfl]
    exact State.par_incPar (s := s.lineHigh) (d := (findDesc oShelf Pid.Shelf.COG_STEPS).get (by decide)) (by simp) (by decide) hc

variable (hrest : s.seqPhase = sqREST)
include hrest

/-- A low from rest is classified by its length (R253). -/
theorem cogLowEnd_eq (us : Nat) : exec (.cogLowEnd us) s =
    if us < 10 then .next s.lineHigh.powerOnDue else if us < 200 then .next s.lineHigh.cogRequest
    else if us < 1000 then .next (s.lineHigh.setBit oShelf Pid.Shelf.COG_STATUS cgGLITCH).powerOnDue
    else .next s.lineHigh.cogReset := by
  have hjoin : ¬ (s.lineHigh.seqPhase == sqJOINING) = true := fun h =>
    absurd (hrest.symm.trans (beq_iff_eq.1 h)) (by decide)
  have hrests : ¬ (!s.lineHigh.seq.attached || s.lineHigh.seqPhase != sqREST) = true := by
    show ¬ (!s.seq.attached || s.seqPhase != sqREST) = true
    simp [ha, hrest]
  exact ((if_neg (cogLine_watched hr hh hp)).trans (if_neg hjoin)).trans (if_neg hrests)

/-- A low that is too short leaves the state; a power-on request that waited for the line is sent then (R259). -/
theorem cogLowEnd_short {us : Nat} (hus : us < 10) : Runs (.cogLowEnd us) s fun t => t.seqState = s.seqState ∧
    (s.seqState = 31 → s.seq.powerOn = true → s.seq.complete = true → s.shelfState = ssBraking →
      t.seq.pulse = .request ∧ t.seq.powerOn = false) := by
  refine ⟨s.lineHigh.powerOnDue, (cogLowEnd_eq hr hh hp ha hrest us).trans (if_pos hus),
    (seqState_of_foot powerOnDue_foot).trans rfl, fun hn hon hc hb => ?_⟩
  have hdue : (s.lineHigh.seq.powerOn && s.lineHigh.seq.complete && s.lineHigh.shelfState == ssBraking) = true := by
    show (s.seq.powerOn && s.seq.complete && s.shelfState == ssBraking) = true
    rw [hon, hc, hb]
    rfl
  have hrests : s.lineHigh.restsAt 31 = true := by
    show (s.seqState == 31 && s.seqPhase == sqREST) = true
    rw [hn, hrest]
    rfl
  rw [State.powerOnDue, if_pos hdue, powerOnNow_request (s := s.lineHigh) ha hp hrests rfl]
  exact ⟨rfl, rfl⟩

theorem cogLowEnd_request {us : Nat} (h10 : 10 ≤ us) (h200 : us < 200) :
    (s.seqState = 31 → Runs (.cogLowEnd us) s fun t => t.seqState = 0) ∧
    (s.seqState = 15 → s.seq.brake = none → s.thermalLatched = false → Runs (.cogLowEnd us) s fun t =>
      t.seqState = 16 ∧ t.shelfState = ssBraking ∧
      (s.shelfState ≠ ssBraking → t.par oShelf Pid.Shelf.SHUTDOWN_CAUSE = bkGROUP_STEP)) := by
  have hrun : exec (.cogLowEnd us) s = .next s.lineHigh.cogRequest :=
    ((cogLowEnd_eq hr hh hp ha hrest us).trans (if_neg (by omega))).trans (if_pos h200)
  refine ⟨fun hn => ⟨_, hrun, ?_⟩, fun hn hb hl => ⟨_, hrun, ?_⟩⟩
  · rw [cogRequest_of_31 (s := s.lineHigh) hn]
    exact (cogUp_counts _).1
  · by_cases hs : s.shelfState = ssBraking
    · rw [cogRequest_braking (s := s.lineHigh) hn hs]
      exact ⟨cogStep_seqState .., (cogStep_system s.lineHigh 16).shelfState.trans hs, fun h => absurd hs h⟩
    · obtain ⟨hstate, hshelf, hcause⟩ := cogRequest_brakes (s := s.lineHigh) hn hs hb hl
      exact ⟨hstate, hshelf, fun _ => hcause⟩

theorem cogLowEnd_glitch {us : Nat} (h200 : 200 ≤ us) (h1000 : us < 1000) : Runs (.cogLowEnd us) s fun t =>
    t.bit oShelf Pid.Shelf.COG_STATUS cgGLITCH = true ∧ t.seqState = s.seqState := by
  refine ⟨_, (((cogLowEnd_eq hr hh hp ha hrest us).trans (if_neg (by omega))).trans (if_neg (by omega))).trans (if_pos h1000),
    ?_, ?_⟩
  · rw [bit_of_foot powerOnDue_foot]
    exact bit_setBit_same _ (by decide) _
  · rw [seqState_of_foot powerOnDue_foot]
    exact (seqState_of_foot (Foot.setBit (o := oShelf) (pid := Pid.Shelf.COG_STATUS) (n := cgGLITCH)
      (.refl [] (some [Pid.Shelf.COG_STATUS]) s.lineHigh)) :)

theorem cogLowEnd_reset {us : Nat} (h1000 : 1000 ≤ us) : Runs (.cogLowEnd us) s fun t =>
    t.bit oShelf Pid.Shelf.COG_STATUS cgRESET_SEEN = true ∧ t.seqState = 0 := by
  obtain ⟨hstate, hseen, -⟩ := cogReset_counts s.lineHigh
  exact ⟨_, (((cogLowEnd_eq hr hh hp ha hrest us).trans (if_neg (by omega))).trans (if_neg (by omega))).trans
    (if_neg (by omega)), hseen, hstate⟩

end

/-! ## The unit's own pulse (R253, R255) -/

section
variable (hr : s.running = true)
include hr

/-- The unit's pulse is over, and the line high. -/
def State.pulseOver (s : State) : State := s.modSeq fun q => { q with pulse := .none, lineLow := false }

theorem cogPulseEnd_reset (hp : s.seq.pulse = .reset) : Runs .cogPulseEnd s fun t => t.seqState = 0 ∧
    t.seq.attached = true ∧ t.seq.pulse = .none ∧ t.bit oShelf Pid.Shelf.COG_STATUS cgRESET_SEEN = true := by
  obtain ⟨hstate, hseen, hattached, hpulse⟩ := cogReset_counts (s.pulseOver.modSeq fun q =>
    { q with attached := true, detached := false, joinWait := false })
  refine ⟨_, (if_neg ?_).trans (if_neg ?_), hstate, hattached, hpulse, hseen⟩
  · rw [hr, hp]
    decide
  · rw [hp]
    decide

theorem cogPulseEnd_request (hp : s.seq.pulse = .request) : exec .cogPulseEnd s = .next s.pulseOver.cogRequest := by
  refine (if_neg ?_).trans (if_pos ?_)
  · rw [hr, hp]
    decide
  · rw [hp]
    decide

theorem cogPulseEnd_up (hp : s.seq.pulse = .request) (hn : s.seqState = 31) : Runs .cogPulseEnd s fun t =>
    t.seqState = 0 ∧ t.seq.pulse = .none := by
  obtain ⟨hstate, -, hpulse⟩ := cogUp_counts s.pulseOver
  refine ⟨_, cogPulseEnd_request hr hp, ?_⟩
  rw [cogRequest_of_31 (s := s.pulseOver) hn]
  exact ⟨hstate, hpulse⟩

theorem cogPulseEnd_down (hp : s.seq.pulse = .request) (hn : s.seqState = 15) (hb : s.shelfState = ssBraking) :
    Runs .cogPulseEnd s fun t => t.seqState = 16 ∧ t.seq.pulse = .none := by
  refine ⟨_, cogPulseEnd_request hr hp, ?_⟩
  rw [cogRequest_braking (s := s.pulseOver) hn hb]
  exact ⟨cogStep_seqState .., (cogStep_stands s.pulseOver 16).pulse⟩

/-! ## A hold is limited (R256) -/

omit hr in
theorem mem_upRails {n v : Nat} (h : v ∈ s.upRails n) : v < 32 := List.mem_range.1 (List.mem_filter.1 h).1

/-- The rail's time is over before it was good. -/
def State.railLate (s : State) (v : Nat) : State :=
  (s.modRail v fun r => { r with timedOut := true }).setBit (oRail v) Pid.Rail.RAIL_STATUS rlNOT_GOOD

/-- The rails of the present state that a limited hold no longer waits for. -/
def State.lateRails (s : State) : List Nat := (s.upRails s.seqState).filter fun v => !(s.rail v).good && !(s.rail v).timedOut

/-- Every rail of the list is late. -/
def State.railsLate (s : State) (l : List Nat) : State := s.eachOf l fun v s => s.railLate v

omit hr in
theorem railsLate_foot (l : List Nat) : Foot [.rails] (some [Pid.Rail.RAIL_STATUS]) s (s.railsLate l) :=
  eachOf_foot (.refl ..) fun _ _ h => .setBit (modRail_foot.on h)

omit hr in
theorem railsLate_system (l : List Nat) : SystemKept s (s.railsLate l) :=
  .eachOf (fun _ x => .setPar (.same (.refl x)) (by simp only [oRail]; omega)) l (.refl s)

omit hr in
theorem railsLate_timedOut (l : List Nat) : ∀ v < 32, v ∈ l ∨ (s.rail v).timedOut = true →
    ((s.railsLate l).rail v).timedOut = true := by
  have hkeep (i j : Nat) (x : State) (h : (x.rail j).timedOut = true) : ((x.railLate i).rail j).timedOut = true :=
    vget_vmod_all (P := fun r : RailAux => r.timedOut = true) (fun _ _ => rfl) h
  intro v hv h
  rcases h with h | h
  · refine eachOf_sets (P := fun v x => v < 32 → (x.rail v).timedOut = true) (Q := fun _ => True) (fun i _ x _ hi => ?_)
      (fun i j x _ _ hx hj => hkeep i j x (hx hj)) (fun _ _ _ => trivial) (s := s) trivial v h hv
    exact congrArg RailAux.timedOut (rail_modRail x hi _)
  · exact eachOf_keeps (P := fun x => (x.rail v).timedOut = true) (fun i x hx => hkeep i v x hx) l h

theorem cogHoldMax_limits (ha : s.seq.attached = true) (hh : s.seq.holding = true) (hact : s.seq.actHold = false) :
    Runs .cogHoldMax s fun t => t.seq.holding = false ∧ t.seqPhase = sqREADY ∧
      t.bit oShelf Pid.Shelf.COG_STATUS cgHOLD_LIMIT = true ∧ t.seq.workDone = !(s.seqState == 31 && s.brakeOpen) ∧
      (s.seqState < 16 → ∀ v ∈ s.upRails s.seqState, (s.rail v).good = false → (t.rail v).timedOut = true) := by
  let b := s.setBit oShelf Pid.Shelf.COG_STATUS cgHOLD_LIMIT
  have hb : Foot [] (some [Pid.Shelf.COG_STATUS]) s b := .setBit (.refl ..)
  have hbstate : b.seqState = s.seqState := seqState_of_foot hb
  let x := if b.seqState < 16 then b.railsLate s.lateRails else b
  have hx : Foot [.rails] (some [Pid.Rail.RAIL_STATUS]) b x := .ite (railsLate_foot _) (.refl ..)
  have hxsys : SystemKept s x := (HeadKept.setOther (.refl s)).trans (.ite (railsLate_system _) (.refl b))
  have hopen : x.brakeOpen = s.brakeOpen := by
    rw [State.brakeOpen, hxsys.shelfState, show x.seq = s.seq from hx.fld .seq rfl, State.brakeOpen]
  have hxstate : x.seqState = s.seqState := (seqState_of_foot hx).trans hbstate
  let t := (x.modSeq fun q => { q with holding := false, workDone := !(x.seqState == 31 && x.brakeOpen) }).setPar oShelf
    Pid.Shelf.SEQ_PHASE sqREADY
  have ht : Foot [.seq] (some [Pid.Shelf.SEQ_PHASE]) x t := .setPar modSeq_foot.within
  refine ⟨t, if_neg (by rw [hr, ha, hh, hact]; decide), rfl, seqPhase_setPar .., ?_, ?_, fun hn v hv hg => ?_⟩
  · rw [bit_of_foot ht, bit_of_foot hx]
    exact bit_setBit_same _ (by decide) _
  · show (!(x.seqState == 31 && x.brakeOpen)) = _
    rw [hxstate, hopen]
  · have hlate : v ∈ s.lateRails ∨ (b.rail v).timedOut = true := by
      cases htimed : (s.rail v).timedOut with
      | true => exact .inr htimed
      | false => exact .inl (List.mem_filter.2 ⟨hv, by simp [hg, htimed]⟩)
    have hrail : x = b.railsLate s.lateRails := if_pos (by omega)
    show (x.rail v).timedOut = true
    rw [hrail]
    exact railsLate_timedOut _ v (mem_upRails hv) hlate

/-! ## A stall, and a join (R255, R257) -/

theorem cogStall_detaches (ha : s.seq.attached = true) (hh : s.seq.holding = false) (hp : s.seq.pulse = .none) :
    Runs .cogStall s fun t => t.seq.attached = false ∧ t.seq.detached = true ∧
      t.bit oShelf Pid.Shelf.COG_STATUS cgSTALL = true ∧ ∀ p, (t.port p).alertCause.testBit alFault = true := by
  let x := (s.cogLeave true false).setBit oShelf Pid.Shelf.COG_STATUS cgSTALL
  let y := x.seqRecord.raise alFault
  have hy : Foot [.ports, .grist] (some [5, 257, 258, 260, 261, 264]) x y := raise_foot.on seqRecord_foot.within
  have hstall : y.bit oShelf Pid.Shelf.COG_STATUS cgSTALL = true := by
    rw [bit_of_foot hy]
    exact bit_setBit_same _ (by decide) _
  have hleft : y.seq = (s.cogLeave true false).seq := hy.fld .seq rfl
  obtain ⟨z, hz, hline, hzstall, halert⟩ : ∃ z, exec .cogStall s = .next z.powerOnDue ∧
      (z.seq.attached = false ∧ z.seq.detached = true) ∧ z.bit oShelf Pid.Shelf.COG_STATUS cgSTALL = true ∧ FaultAlerted z := by
    have hrun : exec .cogStall s = if y.seqPhase == sqREADY then .next y.stepAlone.powerOnDue else .next y.powerOnDue :=
      if_neg (by rw [hr, ha, hh, hp]; decide)
    have halert : FaultAlerted y := raise_faultAlerted _
    have hline : y.seq.attached = false ∧ y.seq.detached = true := by
      rw [hleft]
      exact ⟨rfl, rfl⟩
    split at hrun
    · have hstep := stepAlone_line y
      exact ⟨_, hrun, ⟨hstep.1.trans hline.1, hstep.2.trans hline.2⟩, (bit_of_foot stepAlone_foot cgSTALL).trans hstall,
        halert.grows (stepAlone_grows y)⟩
    · exact ⟨y, hrun, hline, hstall, halert⟩
  obtain ⟨hattached, hdetached⟩ := powerOnDue_line hline.1
  exact ⟨_, hz, hattached, hdetached.trans hline.2, (bit_of_foot powerOnDue_foot cgSTALL).trans hzstall,
    halert.grows (powerOnDue_grows z)⟩

theorem cogJoinWatch_joins (hm : s.mayJoin = true) (hp : s.seq.pulse = .none) :
    (s.seqPhase = sqJOINING → Runs .cogJoinWatch s fun t =>
      t.seq.pulse = .reset ∧ t.seq.lineLow = true ∧ Foot [.seq] (some []) s t) ∧
    (s.seqPhase = sqREST → s.seq.detached = true → Runs .cogJoinWatch s fun t =>
      t.seqPhase = sqJOINING ∧ t.seq.detached = false) := by
  have hmay : ¬ (!s.running || !s.mayJoin || s.seq.pulse != .none) = true := by
    rw [hr, hm, hp]
    decide
  refine ⟨fun hj => ⟨_, (if_neg hmay).trans (if_pos (beq_iff_eq.2 hj)), rfl, rfl, cogPulse_foot.on modSeq_foot⟩,
    fun hrest hd => ⟨s.cogJoin, ((if_neg hmay).trans (if_neg ?_)).trans (if_pos ?_), seqPhase_setPar .., rfl⟩⟩
  · rw [hrest]
    decide
  · rw [hrest, hd]
    rfl

/-- A unit whose join has failed goes up on its own (R255). -/
def State.goesUp (s : State) : Bool :=
  (decide (s.seqState = 31) || decide (s.seqState = 0) && s.seq.walk == .none) && !s.brakeSeen && !s.safeHold

theorem cogJoinTimeout_detaches (hj : s.seqPhase = sqJOINING) (hp : s.seq.pulse = .none) : Runs .cogJoinTimeout s fun t =>
    t.seq.attached = false ∧ t.seq.detached = true ∧ t.seqPhase ≠ sqJOINING ∧
    (s.seqState = 31 → s.brakeSeen = false → s.safeHold = false → t.seqState = 0) := by
  let y := (s.cogLeave true false).setPar oShelf Pid.Shelf.SEQ_PHASE sqREST
  have hy : Foot [.seq] (some [Pid.Shelf.SEQ_PHASE]) s y := .setPar cogLeave_foot.within
  have hrun : exec .cogJoinTimeout s = if y.goesUp = true then .next (y.enterSeq 0)
      else if y.seq.walk != .none then .next (y.setPar oShelf Pid.Shelf.SEQ_PHASE sqWORK) else .next y :=
    if_neg (by rw [hr, hj, hp]; decide)
  have hstate : y.seqState = s.seqState := seqState_of_foot hy
  have hhold : y.safeHold = s.safeHold := by
    have hshelf : y.shelfState = s.shelfState := hy.par _ rfl _ _ (by decide) rfl
    have hmismatch : y.par oShelf Pid.Shelf.ID_MISMATCH = s.par oShelf Pid.Shelf.ID_MISMATCH := hy.par _ rfl _ _ (by decide) rfl
    rw [State.safeHold, hshelf, hmismatch, State.safeHold]
  have hup (hn : s.seqState = 31) (hb : s.brakeSeen = false) (hs : s.safeHold = false) : y.goesUp = true := by
    rw [State.goesUp, hstate, hhold, hn, hs, show y.brakeSeen = false from hb]
    rfl
  split at hrun
  · refine ⟨_, hrun, (enterSeq_stands y 0).attached, (enterSeq_stands y 0).detached, ?_, fun _ _ _ => enterSeq_seqState ..⟩
    rw [enterSeq_seqPhase]
    split <;> decide
  · next hstay =>
    split at hrun
    · refine ⟨_, hrun, rfl, rfl, ?_, fun hn hb hs => absurd (hup hn hb hs) hstay⟩
      rw [seqPhase_setPar]
      decide
    · refine ⟨_, hrun, rfl, rfl, ?_, fun hn hb hs => absurd (hup hn hb hs) hstay⟩
      rw [seqPhase_setPar]
      decide

/-! ## The push button (R250, R259) -/

theorem pbPress_requests {ms : Nat} (h50 : 50 ≤ ms) (h2000 : ms < 2000) (hn : s.par oShelf Pid.Shelf.PB_EVENTS < 4294967295) :
    Runs (.pbPress ms) s fun t => t.par oShelf Pid.Shelf.PB_EVENTS = s.par oShelf Pid.Shelf.PB_EVENTS + 1 ∧
      (s.shelfState = ssBraking → s.seq.complete = true → s.seq.attached = false →
        t.miller.restarting = true ∧ t.par oDevice Pid.Device.L3_RESTART_CAUSE = lrPOWER_ON) ∧
      (s.seq.complete = false → s.seq.brake ≠ none → s.thermalLatched = false → t.seq.powerOn = true) := by
  let x := (s.incPar oShelf Pid.Shelf.PB_EVENTS).seqRecord
  have hcount : x.par oShelf Pid.Shelf.PB_EVENTS = s.par oShelf Pid.Shelf.PB_EVENTS + 1 := by
    rw [seqRecord_foot.par _ rfl _ _ (by decide) rfl]
    exact State.par_incPar (d := (findDesc oShelf Pid.Shelf.PB_EVENTS).get (by decide)) (by simp) (by decide) hn
  have hseq : x.seq = s.seq := seqRecord_foot.fld .seq rfl
  have hsys : SystemKept s x := (HeadKept.setOther (.refl s)).trans (record_head oGrist_not_system ..)
  have hshelf : x.shelfState = s.shelfState := hsys.shelfState
  refine ⟨x.powerOnRequest.2, (if_neg ?_).trans (if_pos h2000), ?_, fun hb hc ha => ?_, fun hc hb hl => ?_⟩
  · simp [hr, h50]
  · rw [powerOnRequest_foot.par _ rfl _ _ (by decide) rfl, hcount]
  · rw [powerOnRequest_starts (hshelf.trans hb) (hseq ▸ hc), powerOnNow_alone (hseq ▸ ha)]
    exact l3Restart_restarts ..
  · have hopen : (x.shelfState == ssBraking && x.seq.complete) = false := by rw [hseq, hc, Bool.and_false]
    have hsome : x.seq.brake.isSome = true := by rw [hseq]; exact Option.isSome_iff_ne_none.2 hb
    have hlatch : x.thermalLatched = false := by rw [State.thermalLatched, hshelf]; exact hl
    rw [powerOnRequest_waits hopen hsome hlatch]
    rfl

theorem pbPress_records {ms : Nat} (h2000 : 2000 ≤ ms) (hlong : (ms : Int) < s.par oShelf Pid.Shelf.PB_LONG_TIME * 1000) :
    Runs (.pbPress ms) s fun t => t.seq = s.seq ∧ t.shelfState = s.shelfState := by
  refine ⟨s.seqRecord, ((if_neg ?_).trans (if_neg (by omega))).trans (if_pos hlong), seqRecord_foot.fld .seq rfl,
    SystemKept.shelfState (record_head oGrist_not_system ..)⟩
  simp only [hr, Bool.not_true, Bool.false_or, decide_eq_true_eq]
  omega

end

end

/-! ## The force-off (R251, R252) -/

section
variable {s x y : State} {fs : List Fld} {ps : Option (List Nat)}

/-- The outputs that are off stand in three fields. -/
theorem outputsOff_same (h : OutputsOff x) (hf : y.feeders = x.feeders) (hs : y.strings = x.strings)
    (hp : y.phases = x.phases) : OutputsOff y := by
  refine ⟨fun f hlt => GateOff.same (h.feeders f hlt) hf, fun j hlt => StringOff.same (h.strings j hlt) hs,
    fun p hlt => PhaseOff.same (h.phases p hlt) hp⟩

theorem outputsOff_of_foot (h : OutputsOff x) (k : Foot fs ps x y) (hf : fs.contains .feeders = false := by rfl)
    (hs : fs.contains .strings = false := by rfl) (hp : fs.contains .phases = false := by rfl) : OutputsOff y :=
  outputsOff_same h (k.fld .feeders hf) (k.fld .strings hs) (k.fld .phases hp)

theorem outputsOff_nvm (h : OutputsOff x) (n : NvmState) : OutputsOff { x with nvm := n } := by
  refine outputsOff_same h ?_ ?_ ?_ <;> rfl

/-- The parameters do not stand in the MRAM's work. -/
theorem par_nvm (x : State) (n : NvmState) (o pid : Nat) : ({ x with nvm := n } : State).par o pid = x.par o pid := rfl

theorem outputsOff_modChan (h : OutputsOff x) (o : Nat) (g : Chan → Chan) : OutputsOff (x.modChan o g) := by
  refine ⟨fun f hf => ?_, fun k hk => ?_, fun p hp => modChan_keeps_off x o p g (h.phases p hp)⟩
  · unfold State.modChan
    split
    · exact h.feeders f hf
    · exact (feeder_modFeeder_keeps x (P := FeederAux.gate) (by intro _; rfl) f).trans (h.feeders f hf)
    · exact GateOff.same (h.feeders f hf) (State.modSeg_feeders ..)
    · exact GateOff.same (h.feeders f hf) (State.modStr_feeders ..)
    · exact h.feeders f hf
  · unfold State.modChan
    split
    · exact h.strings k hk
    · exact h.strings k hk
    · exact h.strings k hk
    · exact (str_modStr_keeps x (P := StringAux.connected) (by intro _; rfl) k).trans (h.strings k hk)
    · exact h.strings k hk

/-- A control-side reset turns no output on. -/
theorem outputsOff_csReset (h : OutputsOff s) (cause : ResetCause) : OutputsOff (s.csReset cause) := by
  unfold State.csReset
  extract_lets a b c d e f g
  have ha : OutputsOff a := outputsOff_of_foot h tearSave_foot
  have hc : OutputsOff c := by
    clear_value a
    refine outputsOff_same ha ?_ ?_ ?_ <;> rfl
  have hd : OutputsOff d := by
    unfold d
    split
    · exact outputsOff_of_foot hc flumeStop_foot
    · exact hc
  have hstop : OutputsOff d.stopConversion :=
    ⟨fun i hi => GateOff.same (hd.feeders i hi) (stopConversion_foot.fld .feeders rfl),
      fun k hk => StringOff.same (hd.strings k hk) (stopConversion_foot.fld .strings rfl), stopConversion_off d⟩
  have hspoilt : OutputsOff d.stopConversion.spoilMeans :=
    eachOf_keeps (P := OutputsOff) (fun o x hx => outputsOff_modChan hx o _) _ hstop
  have hf : OutputsOff f := outputsOff_of_foot (outputsOff_of_foot hspoilt enLow_foot) cogLeave_foot
  have hg : OutputsOff g := by
    unfold g
    split
    · exact outputsOff_of_foot hf cutWrite_foot
    · exact hf
  clear_value g
  refine outputsOff_same hg ?_ ?_ ?_ <;> rfl

variable (s)

/-- A record that is cut short asks for no write. -/
theorem cutWrite_queue (w : NvmWork) : (s.cutWrite w).nvm.queue = s.nvm.queue := by
  unfold State.cutWrite
  split
  · unfold State.journalCut
    split
    · rfl
    · split
      · rfl
      · split <;> rfl
  · rfl

theorem cutNvm_queue : s.cutNvm.nvm.queue = [] := by
  unfold State.cutNvm
  extract_lets a
  split
  · split
    · rfl
    · exact cutWrite_queue _ _
  · rfl

/-- A force-off resets the control side with every output off, and takes RESET_N, PFW_N and FAULT_N low (R251, R267, R430,
R431). -/
theorem forceOff_leaves (cause : ResetCause) (code : Nat) : let t := s.forceOff cause code
    t.supply.cs = .reset ∧ OutputsOff t ∧ t.par oShelf Pid.Shelf.SHUTDOWN_CAUSE = code ∧ t.nvm.queue = [] ∧
      t.pfwN = false ∧ t.resetN = false ∧ t.faultN = false := by
  intro t
  have hcs : t.supply.cs = .reset := rfl
  have hin : t.inReset = true := by rw [State.inReset, hcs]; rfl
  have hoff : OutputsOff (s.psdOutputsOff.csReset cause) := outputsOff_csReset (psdOutputsOff_off s) cause
  have hleft : OutputsOff t := outputsOff_nvm (outputsOff_of_foot hoff (.setPar (.refl [] (some [Pid.Shelf.SHUTDOWN_CAUSE]) _))) _
  have hcode : t.par oShelf Pid.Shelf.SHUTDOWN_CAUSE = code :=
    (par_nvm ..).trans (State.par_setPar_same (s.psdOutputsOff.csReset cause) (by decide) _)
  have hqueue : t.nvm.queue = [] := by
    unfold t State.forceOff
    exact cutNvm_queue s
  refine ⟨hcs, hleft, hcode, hqueue, ?_, ?_, ?_⟩
  · rw [State.pfwN, hin]
    rfl
  · rw [State.resetN, hin]
    rfl
  · rw [State.faultN, hin]
    rfl

end

/-- Settles O51: each event of the line, of the button and of MR_N. -/
theorem cogAndButtons : Obligations.CogAndButtons := by
  refine ⟨fun s hr => ⟨fun hh hp hj => cogJoining_waits hr hh hp hj, fun ha hh hp hrest hj =>
      ⟨cogRise_rests hr hh hp ha hrest hj, cogRise_steps hr hh hp ha hrest hj⟩, fun us ha hh hrest hp => ?_,
    cogPulseEnd_reset hr, cogPulseEnd_up hr, cogPulseEnd_down hr, cogHoldMax_limits hr, cogStall_detaches hr,
    cogJoinWatch_joins hr, cogJoinTimeout_detaches hr⟩, fun s => ⟨fun ms hr h50 h2000 hn => pbPress_requests hr h50 h2000 hn,
    fun ms hr h2000 hlong => pbPress_records hr h2000 hlong, fun hoff hreset hl => ?_, fun hoff hreset => ?_⟩⟩
  · exact ⟨cogLowEnd_short hr hh hp ha hrest, cogLowEnd_request hr hh hp ha hrest, cogLowEnd_glitch hr hh hp ha hrest,
      cogLowEnd_reset hr hh hp ha hrest⟩
  · exact ⟨_, if_neg (by simp [hoff, hreset, hl]), forceOff_leaves s .forceOff 5⟩
  · exact ⟨_, if_neg (by simp [hoff, hreset]), forceOff_leaves s .mrN 6⟩

end Sys2Proof.Machine

/-! # Proofs: walks start, step and end (O50 fails)

A step of SEQ_STEP ends with a look for a power-on request that waits (R259). One that is found begins a level 3 restart, which
withdraws the SEQ_STEP (R20): its steps are then none, whatever was left of them. -/

namespace Sys2Proof.Machine

open Sys2Proof State

set_option Elab.async false

/-- A SEQ_STEP of two steps, RUNNING. -/
def stepInFlight : Op :=
  { id := 0, port := .ha, tag := 0, prio := 0, opcode := 0x72, payload := [2, 0, 0, 0], alert := false, stage := .running, tick := 0,
    control := false, aborted := false }

/-- Firmware runs in BRAKING with the Brake complete. In MANUAL both steps of the SEQ_STEP are left, and a power-on request
waits. -/
def manualBraked : State :=
  let s : State := { State.reset.setPar oShelf Pid.Shelf.SHELF_STATE ssBraking with hopper := { ops := [stepInFlight], nextId := 1 } }
  s.modSeq fun q => { q with walk := .manual, workDone := false, complete := true, powerOn := true, stepsLeft := 2, stepOp := some 0 }

/-- How many steps of a SEQ_STEP are left after an instruction. -/
def stepsLeftAfter : Host.Outcome State Fault Refusal → Option Nat
  | .next t => some t.seq.stepsLeft
  | _ => none

/-- The step is taken, and the restart then leaves none. -/
theorem stepsLeftAfter_manualBraked : stepsLeftAfter (exec .stateWorkFinished manualBraked) = some 0 := by decide +kernel

/-- Refutes O50: with two steps of a SEQ_STEP left in MANUAL and a power-on request that waits, the step that is taken leaves
none, not one. -/
theorem not_walksStep : ¬ Obligations.WalksStep := by
  intro h
  obtain ⟨-, -, -, hManual, -⟩ := h manualBraked
  obtain ⟨hStep, -⟩ := hManual (by decide +kernel) (by decide +kernel) rfl
  obtain ⟨t, ht, -, -, hleft⟩ := hStep (by decide)
  have hwithdrawn : t.seq.stepsLeft = 0 := by
    have := stepsLeftAfter_manualBraked
    rw [ht] at this
    exact Option.some.inj this
  rw [hwithdrawn] at hleft
  exact absurd hleft (by decide)

end Sys2Proof.Machine

/-! # Proofs: a sag, the critical save and the loss of the supplies (O32) -/

namespace Sys2Proof.Machine

open Sys2Proof State

set_option Elab.async false

/-! ## Stopping the conversion begins no transaction -/

section
variable {s : State} (h : NvmIdle s)
include h

theorem loopSwap_nvmIdle (n : Nat) : NvmIdle (s.loopSwap n) := by
  unfold State.loopSwap
  extract_lets o old new host a b c w d e f
  have he : NvmIdle e := NvmIdle.on (x := d) h record_foot
  have hf : NvmIdle f := .ite he he
  exact (hf.on flumeStopOn_foot).on swapsDone_foot

theorem loopStopped_nvmIdle (n : Nat) : NvmIdle (s.loopStopped n) := by
  unfold State.loopStopped
  extract_lets a b own c
  have ha : NvmIdle a := .ite (h.on flumeStop_foot) h
  have hb : NvmIdle b := ha.on traceStop_foot
  have hc : NvmIdle c := .ite (loopSwap_nvmIdle hb n) hb
  exact eachOf_keeps (P := NvmIdle) (fun k x hx => loopSwap_nvmIdle hx k) _ hc

theorem outerIdle_nvmIdle (m : Nat) : NvmIdle (s.outerIdle m) := by
  unfold State.outerIdle
  extract_lets a b
  have hb : NvmIdle b := .ite (NvmIdle.on (x := a) h setObj_foot) h
  exact .ite (loopStopped_nvmIdle hb _) h

theorem stopPhase_nvmIdle (p : Nat) : NvmIdle (s.stopPhase p) := by
  unfold State.stopPhase
  extract_lets a b
  have hb : NvmIdle b := loopStopped_nvmIdle (s := a) h p
  refine .ite ?_ h
  split
  · exact outerIdle_nvmIdle hb _
  · exact hb

theorem stopConversion_nvmIdle : NvmIdle s.stopConversion := by
  unfold State.stopConversion
  refine each_keeps (P := NvmIdle) (fun b x hx => ?_) _ (each_keeps (P := NvmIdle) (fun p x hx => ?_) _ h)
  · extract_lets a c d
    have ha : NvmIdle a := .ite (hx.on setObj_foot) hx
    have hc : NvmIdle c := ha.on modSeg_foot
    exact NvmIdle.on (x := d) (.ite hc hc.setPar) slewsSettle_foot
  · exact .ite (stopPhase_nvmIdle hx p) (stopPhase_nvmIdle hx p)

end

/-! ## The start of a save -/

section
variable (s : State) (trigger : Nat)

/-- What a save's trigger stops: conversion, the capture, and the tests that were granted (Table 10-4). -/
def State.saveHalted : State := s.stopConversion.traceHalt.modDresser fun d => { d with granted := none }

/-- The state in which a save has been triggered and has not started. -/
def State.saveStopped : State :=
  { s.saveHalted with supply := { s.saveHalted.supply with cs := .saving, saveTrigger := trigger } }

theorem saveBegin_eq : s.saveBegin trigger =
    if (s.saveStopped trigger).nvm.active.isNone then (s.saveStopped trigger).saveStart else s.saveStopped trigger := rfl

theorem saveHalted_foot : Foot [.phases, .flume, .segs, .ports, .hopper, .nvm, .wheel, .trace, .grist, .loops, .dresser]
    (some [1, 5, 256, 257, 258, 259, 260, 261, 264, 305, 307, 308, 310, 385]) s s.saveHalted :=
  modDresser_foot.on (traceHalt_foot.on stopConversion_foot.within)

theorem saveHalted_off (p : Nat) (hp : p < 24) : PhaseOff p s.saveHalted :=
  ((stopConversion_off s p hp).same (traceHalt_foot.fld .phases rfl)).same (modDresser_foot.fld .phases rfl)

theorem saveHalted_nvmIdle (h : NvmIdle s) : NvmIdle s.saveHalted :=
  ((stopConversion_nvmIdle h).on traceHalt_foot).on modDresser_foot

theorem saveStopped_foot : Foot [.supply] (some []) s.saveHalted (s.saveStopped trigger) := .withSupply (.refl ..)

/-- Before it starts a save leaves the supplies but for its own state and trigger. -/
theorem saveStopped_supply : (s.saveStopped trigger).supply = { s.supply with cs := .saving, saveTrigger := trigger } := by
  have hsup : s.saveHalted.supply = s.supply := (saveHalted_foot s).fld .supply rfl
  rw [← hsup]
  rfl

theorem saveStopped_time : (s.saveStopped trigger).time = s.time :=
  ((saveStopped_foot s trigger).fld .time rfl).trans ((saveHalted_foot s).fld .time rfl)

/-- What the start of a save latches of the supplies (Table 10-4). -/
theorem saveStart_supply : s.saveStart.supply = { s.supply with
    savePages := 0, saveTick := s.time.tick, saveWall := s.wallNow, saveAon := BitVec.ofInt 48 s.draw.1 } := rfl

/-- What a trigger leaves: a save in progress with every phase stopped, and the sag and VAUX12 as they were. -/
structure SaveBegun (t : State) : Prop where
  saving   : t.supply.cs = .saving
  cause    : t.supply.saveTrigger = trigger
  sag      : t.supply.sag = s.supply.sag
  vauxGood : t.supply.vauxGood = s.supply.vauxGood
  phases   : ∀ p < 24, PhaseOff p t

theorem SaveBegun.start {s x : State} {trigger : Nat} (h : SaveBegun s trigger x) : SaveBegun s trigger x.saveStart :=
  ⟨h.saving, h.cause, h.sag, h.vauxGood, fun p hp => (h.phases p hp).same (saveStart_foot.fld .phases rfl)⟩

theorem saveStopped_begun : SaveBegun s trigger (s.saveStopped trigger) := by
  have hsup := saveStopped_supply s trigger
  exact ⟨by rw [hsup], by rw [hsup], by rw [hsup], by rw [hsup],
    fun p hp => (saveHalted_off s p hp).same ((saveStopped_foot s trigger).fld .phases rfl)⟩

theorem saveBegin_begun : SaveBegun s trigger (s.saveBegin trigger) := by
  rw [saveBegin_eq]
  split
  · exact (saveStopped_begun s trigger).start
  · exact saveStopped_begun s trigger

/-- Where no transaction is in progress the save starts with its trigger (Table 10-4). -/
theorem saveBegin_starts (h : NvmIdle s) :
    (s.saveBegin trigger).supply.saveTick = s.time.tick ∧ (s.saveBegin trigger).supply.savePages = 0 := by
  have hidle : (s.saveStopped trigger).nvm.active = none :=
    (saveHalted_nvmIdle s h).on (saveStopped_foot s trigger)
  rw [saveBegin_eq, hidle, if_pos Option.isNone_none]
  rw [saveStart_supply, saveStopped_time]
  exact ⟨rfl, rfl⟩

end

/-! ## A sag -/

section
variable (s : State)

/-- The state in which a sag has been counted (R273). -/
def State.sagged : State :=
  let s := s.incPar oDevice Pid.Device.SAG_EVENTS
  { s with supply := { s.supply with sag := true, vauxGood := false } }

theorem sagAborts_supply : s.sagAborts.supply = { s.supply with cholds := false } := by
  unfold State.sagAborts
  split
  · rfl
  · next h =>
    have hoff : s.supply.cholds = false := Bool.eq_false_iff.2 h
    rw [← hoff]
    rfl

/-- The sag's counter and the tests that it voids. -/
theorem sagged_foot : Foot [.dresser, .supply] (some [Pid.Device.SAG_EVENTS, 336]) s s.sagged.sagAborts :=
  sagAborts_foot.on (Foot.incPar (.refl ..)).withSupply

theorem sagged_thermalLatched : s.sagged.sagAborts.thermalLatched = s.thermalLatched := by
  rw [State.thermalLatched, State.shelfState, (sagged_foot s).par _ rfl _ _ (by decide) rfl]
  rfl

theorem execSag_counted (ha : s.csAwake = true) (hs : s.supply.sag = false) : execSag s = .next (
    if s.running then
      if s.nvm.active.isSome && !s.thermalLatched then s.sagged.sagAborts.saveBegin 1
      else { s.sagged.sagAborts with supply := { s.sagged.sagAborts.supply with rideThrough := true } }
    else s.sagged) := by
  have hnvm : s.sagged.sagAborts.nvm = s.nvm := (sagged_foot s).fld .nvm rfl
  have hexec : execSag s = if !s.running then .next s.sagged
      else if s.sagged.sagAborts.nvm.active.isSome && !s.sagged.sagAborts.thermalLatched then
        .next (s.sagged.sagAborts.saveBegin 1)
      else .next { s.sagged.sagAborts with supply := { s.sagged.sagAborts.supply with rideThrough := true } } :=
    if_neg (by simp [ha, hs])
  rw [hexec, hnvm, sagged_thermalLatched]
  cases s.running with
  | false => rfl
  | true =>
    simp only [Bool.not_true, Bool.false_eq_true, if_false, if_true]
    split <;> rfl

/-- A sag is counted, and in RUN it rides through, or saves at once where a transaction is in progress (R273, R274). -/
theorem sag_runs (ha : s.csAwake = true) (hs : s.supply.sag = false)
    (hn : s.par oDevice Pid.Device.SAG_EVENTS < 4294967295) : Runs .sag s fun t =>
      t.supply.sag = true ∧ t.supply.vauxGood = false ∧
      t.par oDevice Pid.Device.SAG_EVENTS = s.par oDevice Pid.Device.SAG_EVENTS + 1 ∧
      (s.supply.cs = .run → s.thermalLatched = false → s.nvm.active ≠ none →
        t.supply.cs = .saving ∧ t.supply.saveTrigger = 1 ∧ ∀ p < 24, (t.phase p).switching = false) ∧
      (s.supply.cs = .run → (s.thermalLatched = true ∨ s.nvm.active = none) →
        t.supply.cs = .run ∧ t.supply.rideThrough = true) := by
  have hcount : s.sagged.par oDevice Pid.Device.SAG_EVENTS = s.par oDevice Pid.Device.SAG_EVENTS + 1 :=
    State.par_incPar (d := (findDesc oDevice Pid.Device.SAG_EVENTS).get (by decide)) (by simp) (by decide) hn
  have haborts : s.sagged.sagAborts.par oDevice Pid.Device.SAG_EVENTS = s.par oDevice Pid.Device.SAG_EVENTS + 1 :=
    (sagAborts_foot.par _ rfl _ _ (by decide) rfl).trans hcount
  have hsup : s.sagged.sagAborts.supply = { s.supply with sag := true, vauxGood := false, cholds := false } :=
    sagAborts_supply s.sagged
  refine ⟨_, execSag_counted s ha hs, ?_⟩
  split
  · next hr =>
    split
    · next hc =>
      obtain ⟨hactive, hlatch⟩ := by simpa using hc
      obtain ⟨hsaving, hcause, hsag, hgood, hoff⟩ := saveBegin_begun s.sagged.sagAborts 1
      refine ⟨by rw [hsag, hsup], by rw [hgood, hsup], (saveBegin_foot.par _ rfl _ _ (by decide) rfl).trans haborts,
        fun _ _ _ => ⟨hsaving, hcause, hoff⟩, fun _ hn => ?_⟩
      simp [hlatch, Option.isSome_iff_ne_none.1 hactive] at hn
    · next hc =>
      have hrun : s.supply.cs = .run := eq_of_beq hr
      refine ⟨by rw [hsup], by rw [hsup], haborts, fun _ hl hactive => absurd ?_ hc,
        fun _ _ => ⟨by rw [hsup]; exact hrun, rfl⟩⟩
      simp [hl, Option.isSome_iff_ne_none.2 hactive]
  · next hr =>
    have hrun : s.supply.cs ≠ .run := fun h => hr (by rw [State.running, h]; rfl)
    exact ⟨rfl, rfl, hcount, fun h => absurd h hrun, fun h => absurd h hrun⟩

end

/-! ## The save -/

section
variable {s : State}

/-- VHOLD triggers the save once it is armed, outside WATCH and THERMAL_LATCHED (R273, R275, R290). -/
theorem saveTrigger_runs (hr : s.supply.cs = .run) (harmed : s.supply.saveArmed = true) (hmode : s.deviceMode ≠ 2)
    (hl : s.thermalLatched = false) : Runs .saveTrigger s fun t =>
      t.supply.cs = .saving ∧ t.supply.saveTrigger = 0 ∧ (∀ p < 24, (t.phase p).switching = false) ∧
      (s.nvm.active = none → t.supply.saveTick = s.time.tick ∧ t.supply.savePages = 0) := by
  obtain ⟨hsaving, hcause, -, -, hoff⟩ := saveBegin_begun s 0
  refine ⟨s.saveBegin 0, (if_pos ?_ : execSaveTrigger s = _), hsaving, hcause, hoff, saveBegin_starts s 0⟩
  simp [State.running, State.saveArmedNow, hr, harmed, hmode, hl]

/-- The trailer makes the save whole in the newer slot, and the save is counted (R275, R276). -/
theorem saveCommit_runs (us : Word) (hs : s.supply.cs = .saving) (hactive : s.nvm.active = none)
    (hn : s.par oDevice Pid.Device.SAVE_COUNT < 4294967295) : Runs (.saveCommit us) s fun t =>
      t.supply.cs = .saved ∧
      (∃ x, t.nvm.saves.head? = some x ∧ x.trailer = true ∧ x.tick = s.supply.saveTick ∧ x.shelf = s.shelfState ∧
        x.counters = s.counterImage ∧ t.nvm.saves.tail = s.nvm.saves.take 1) ∧
      t.par oDevice Pid.Device.SAVE_COUNT = s.par oDevice Pid.Device.SAVE_COUNT + 1 ∧
      t.par oDevice Pid.Device.LAST_SAVE_TIME = us.toNat ∧
      t.bit oDevice Pid.Device.HOLD_STATUS hsSAVE_DONE = true := by
  let u := (s.putSave true).holdBit hsSAVE_DONE
  let v := u.incPar oDevice Pid.Device.SAVE_COUNT
  let w := v.setPar oDevice Pid.Device.LAST_SAVE_TIME us.toNat
  let x := w.setPar oDevice Pid.Device.LAST_SAVE_BYTES (s.saveBytes % 65536 : Nat)
  have hexec : execSaveCommit us s = .next { x with supply := { x.supply with cs := .saved } } :=
    if_neg (by simp [hs, hactive])
  have hcount : u.par oDevice Pid.Device.SAVE_COUNT = s.par oDevice Pid.Device.SAVE_COUNT :=
    (holdBit_foot.par _ rfl _ _ (by decide) rfl).trans (putSave_foot.par _ rfl _ _ (by decide) rfl)
  have hbytes : Foot [.supply] (some [Pid.Device.LAST_SAVE_BYTES]) w { x with supply := { x.supply with cs := .saved } } :=
    (Foot.setPar (.refl ..)).withSupply
  have htime : Foot [.supply] (some [Pid.Device.LAST_SAVE_TIME, Pid.Device.LAST_SAVE_BYTES]) v
      { x with supply := { x.supply with cs := .saved } } := hbytes.on (Foot.setPar (.refl ..))
  have hv : Foot [.supply] (some [Pid.Device.SAVE_COUNT, Pid.Device.LAST_SAVE_TIME, Pid.Device.LAST_SAVE_BYTES]) u
      { x with supply := { x.supply with cs := .saved } } := htime.on (Foot.incPar (.refl ..))
  have hsaves : u.nvm.saves = s.saveImage true :: s.nvm.saves.take 1 := rfl
  have hnvm : x.nvm = u.nvm := rfl
  refine ⟨_, hexec, rfl, ⟨s.saveImage true, ?_, rfl, rfl, rfl, rfl, ?_⟩, ?_, ?_, ?_⟩
  · rw [hnvm, hsaves]
    rfl
  · rw [hnvm, hsaves]
    rfl
  · rw [htime.par _ rfl _ _ (by decide) rfl, ← hcount]
    exact State.par_incPar (d := (findDesc oDevice Pid.Device.SAVE_COUNT).get (by decide)) (by simp) (by decide)
      (by rw [hcount]; exact hn)
  · rw [hbytes.par _ rfl _ _ (by decide) rfl]
    exact v.par_setPar_same (by decide) _
  · rw [bit_of_foot hv]
    exact bit_setBit_same _ (by decide) _

/-- A state that is no test state is entered with a record alone. -/
theorem enterShelf_shelfState {new : Int} {cause : Nat} (h : s.shelfState = ssNormal) :
    (s.enterShelf new cause).shelfState = new := by
  unfold State.enterShelf
  extract_lets old a b c
  have ha : a.shelfState = new := by
    rw [State.shelfState, State.par_setPar_other _ _ (by decide)]
    exact s.par_setPar_same (by decide) _
  have hb : b.shelfState = new := (SystemKept.shelfState (record_head oGrist_not_system ..)).trans ha
  have hold : (old == ssTest || old == ssMaint) = false := by rw [show old = ssNormal from h]; decide
  rw [hold]
  exact hb

/-- Power that returns resumes RUN, from NORMAL through RECOVERY (R277). -/
theorem saveResume_runs (hs : s.supply.cs = .saved) (hg : s.supply.vauxGood = true) : Runs .saveResume s fun t =>
    t.supply.cs = .run ∧
    (s.shelfState = ssNormal → s.miller.restarting = false → t.shelfState = ssRecovery) ∧
    (s.shelfState ≠ ssNormal → t.shelfState = s.shelfState) := by
  let u := ({ s with supply := { s.supply with cs := .run } } : State).spoilMeans
  have hfoot : Foot [.supply, .phases, .segs, .feeders, .strings] (some []) s u :=
    spoilMeans_foot.on (Foot.withSupply (.refl ..))
  have hrun : u.supply.cs = .run := congrArg SupplyState.cs (spoilMeans_foot.fld .supply rfl)
  have hshelf : u.shelfState = s.shelfState := hfoot.par _ rfl _ _ (by decide) rfl
  have hmiller : u.miller = s.miller := hfoot.fld .miller rfl
  have hexec : execSaveResume s = .next (if u.shelfState == ssNormal then u.shift ssRecovery scSAVE else u) :=
    if_neg (by simp [hs, hg])
  refine ⟨_, hexec, ?_⟩
  rw [hshelf]
  split
  · next hn =>
    have hsup : (u.shift ssRecovery scSAVE).supply = u.supply := shift_foot.fld .supply rfl
    refine ⟨by rw [hsup, hrun], fun h hm => ?_, fun h => absurd (eq_of_beq hn) h⟩
    rw [State.shift, hmiller, hm, if_neg Bool.false_ne_true]
    exact enterShelf_shelfState (hshelf.trans h)
  · next hn => exact ⟨hrun, fun h => absurd (beq_iff_eq.2 h) hn, fun _ => hshelf⟩

end

/-! ## The resets -/

section
variable (s : State)

theorem spoilMeans_keeps_off (p : Nat) (h : PhaseOff p s) : PhaseOff p s.spoilMeans :=
  eachOf_keeps (P := PhaseOff p) (fun o x hx => modChan_keeps_off x o p _ hx) _ h

/-- What a control-side reset leaves: no transaction and no request of one, and no phase that switches (R14, R281). -/
structure CsIsReset (t : State) : Prop where
  cs     : t.supply.cs = .reset
  active : t.nvm.active = none
  queue  : t.nvm.queue = []
  phases : ∀ p < 24, PhaseOff p t

theorem csReset_isReset (cause : ResetCause) : CsIsReset (s.csReset cause) := by
  refine ⟨rfl, rfl, rfl, fun p hp => ?_⟩
  unfold State.csReset
  extract_lets a b c d e f g
  have he : PhaseOff p e :=
    (spoilMeans_keeps_off _ p (stopConversion_off d p hp)).same (enLow_foot.fld .phases rfl)
  have hf : PhaseOff p f := he.same (cogLeave_foot.fld .phases rfl)
  have hg : PhaseOff p g := by
    unfold g
    split
    · exact hf.same (cutWrite_foot.fld .phases rfl)
    · exact hf
  clear_value g
  exact hg

theorem commitActive_writeCount (h : s.nvm.active ≠ none)
    (hn : s.par oDevice Pid.Device.NVM_WRITE_COUNT < 4294967295) :
    s.commitActive.par oDevice Pid.Device.NVM_WRITE_COUNT = s.par oDevice Pid.Device.NVM_WRITE_COUNT + 1 := by
  obtain ⟨⟨r, n⟩, hactive⟩ := Option.ne_none_iff_exists'.1 h
  rw [(commitActive_worked s hactive).par _ rfl _ _ (by decide) rfl, worked_writeCount s hn]

variable {s}

/-- The end of the hold-up resets the control side, after the transaction in progress (R277, R281). -/
theorem holdUpEnd_runs (ha : s.csAwake = true) : Runs .holdUpEnd s fun t =>
    t.supply.cs = .reset ∧ t.nvm.active = none ∧ t.nvm.queue = [] ∧ (∀ p < 24, (t.phase p).switching = false) ∧
    (s.nvm.active ≠ none → s.par oDevice Pid.Device.NVM_WRITE_COUNT < 4294967295 →
      t.par oDevice Pid.Device.NVM_WRITE_COUNT = s.par oDevice Pid.Device.NVM_WRITE_COUNT + 1) := by
  obtain ⟨hcs, hactive, hqueue, hoff⟩ := csReset_isReset s.commitActive .holdUp
  refine ⟨s.commitActive.csReset .holdUp, (if_pos ha : execHoldUpEnd s = _), hcs, hactive, hqueue, hoff, fun h hn => ?_⟩
  exact (csReset_foot.par _ rfl _ _ (by decide) rfl).trans (commitActive_writeCount s h hn)

theorem execSupplyFall_of_ne_vaon {w : Supply} (hw : w ≠ .vaon) :
    execSupplyFall w s = if s.csAwake then .next (s.csReset .supply) else .next s := by
  cases w with
  | vaon => exact absurd rfl hw
  | vcc3v3 => rfl
  | vddio => rfl
  | vcore => rfl

/-- The fall of a control-side supply resets the control side (R267). -/
theorem supplyFall_resets {w : Supply} (hw : w ≠ .vaon) (ha : s.csAwake = true) : Runs (.supplyFall w) s fun t =>
    t.supply.cs = .reset ∧ t.nvm.active = none ∧ t.nvm.queue = [] ∧ ∀ p < 24, (t.phase p).switching = false := by
  obtain ⟨hcs, hactive, hqueue, hoff⟩ := csReset_isReset s .supply
  exact ⟨s.csReset .supply, (execSupplyFall_of_ne_vaon hw).trans (if_pos ha), hcs, hactive, hqueue, hoff⟩

/-- With VAON the device is off, without its tick latch and its thermal latch (R33, R288). -/
theorem supplyFall_vaon (h : s.supply.cs ≠ .off) : Runs (.supplyFall .vaon) s fun t =>
    t.supply.cs = .off ∧ t.time.latch = none ∧ t.shelf.latched = false :=
  ⟨s.vaonOff, (if_neg (by simpa using h) : execSupplyFall .vaon s = _), rfl, rfl, rfl⟩

end

/-- Settles O32: each event of the hold-up, and what a control-side reset leaves. -/
theorem criticalSaveRuns : Obligations.CriticalSaveRuns :=
  fun s => ⟨sag_runs s, fun ha => if_pos ha, fun ha => if_pos ha, saveTrigger_runs, saveCommit_runs, saveResume_runs,
    holdUpEnd_runs, fun _ => supplyFall_resets, supplyFall_vaon⟩

end Sys2Proof.Machine

/-! # Proofs: FLOAT, WATCH and the wake (O33) -/

namespace Sys2Proof.Machine

open Sys2Proof State

set_option Elab.async false

/-! ## FLOAT -/

section
variable (s : State)

theorem loadGenPid_inactive (n : Nat) :
    loadGenPid (1 - n) = Pid.Phase.LOAD_GEN_0 ∨ loadGenPid (1 - n) = Pid.Phase.LOAD_GEN_1 := by
  simp only [loadGenPid, Pid.Phase.LOAD_GEN_0, Pid.Phase.LOAD_GEN_1]
  omega

/-- Past the write of DEVICE_MODE the entry to FLOAT loads and swaps loops (R79, R283). -/
theorem floatEnter_foot_mode : Foot [.phases, .flume, .ports, .hopper, .nvm, .wheel, .grist, .loops]
    (some [5, 256, 257, 258, 260, 261, 264, 305, 307, 385]) (s.setPar oDevice Pid.Device.DEVICE_MODE 1) s.floatEnter := by
  have hgen (n : Nat) : pidIn (loadGenPid (1 - n)) (some [5, 256, 257, 258, 260, 261, 264, 305, 307, 385]) = true := by
    rcases loadGenPid_inactive n with h | h <;> rw [h] <;> rfl
  unfold State.floatEnter
  extract_lets a loops b c d lone
  have hb : Foot [.phases, .flume, .ports, .hopper, .nvm, .wheel, .grist, .loops]
      (some [5, 256, 257, 258, 260, 261, 264, 305, 307, 385]) a b :=
    eachOf_foot (.refl ..) fun n x hx => updPar_foot (modLoop_foot.on (modLoop_foot.on hx)) (hgen _)
  have hc := each_foot (n := 24) (f := fun p s => s.modPhase p fun a => { a with floatRun := 0 }) hb
    fun p x hx => modPhase_foot.on hx
  have hd : Foot [.phases, .flume, .ports, .hopper, .nvm, .wheel, .grist, .loops]
      (some [5, 256, 257, 258, 260, 261, 264, 305, 307, 385]) a d :=
    each_foot hc fun m x hx => .ite hx (registerSwap_foot.on hx)
  exact .ite hd (registerSwap_foot.on hd)

theorem floatEnter_system : SystemKept s s.floatEnter := by
  have hmode : SystemKept s (s.setPar oDevice Pid.Device.DEVICE_MODE 1) := .setOther (.refl s)
  have hgen (n : Nat) : loadGenPid (1 - n) < 4096 := by
    rcases loadGenPid_inactive n with h | h <;> rw [h] <;> decide
  unfold State.floatEnter
  extract_lets a loops b c d lone
  have hb : SystemKept s b :=
    .eachOf (fun n x => .setPar (.same (.same (.refl x))) (oLoop_not_system n) (hgen _)) _ hmode
  have hc : SystemKept s c := .each (fun p x => .same (.refl x)) _ hb
  have hd : SystemKept s d := .each (fun m x => .ite (.refl x) (registerSwap_system ..)) _ hc
  exact .ite hd (hd.trans (registerSwap_system ..))

variable {s}

/-- FLOAT is entered where no bit of FLOAT_BLOCK stands, and neither the time nor the shelf's state moves (R283). -/
theorem floatEntry_runs (hm : s.miller3 = true) (hmode : s.deviceMode = 0) (hb : s.floatBlockNow = 0) :
    Runs .floatEntry s fun t => t.deviceMode = 1 ∧ t.time = s.time ∧ t.shelfState = s.shelfState := by
  refine ⟨s.floatEnter, (if_pos (by simp [hm, hmode, hb]) : execFloatEntry s = _), ?_,
    (floatEnter_foot_mode s).fld .time rfl, (floatEnter_system s).shelfState⟩
  rw [State.deviceMode, (floatEnter_foot_mode s).par _ rfl _ _ (by decide) rfl]
  exact s.par_setPar_same (by decide) 1

end

/-! ## WATCH -/

section
variable {s : State}

theorem commitActive_nvmIdle (s : State) : NvmIdle s.commitActive := by
  cases h : s.nvm.active with
  | none => rwa [State.commitActive, h]
  | some p =>
    have hnote := noteWritten_idle (s := { s with nvm := { s.nvm with active := none } }) rfl p.1.work
    exact (workCommit_idle (s := s.counted p.1.work) hnote p.1).on (commitActive_worked s h)

theorem commitNow_nvmIdle (h : NvmIdle s) (w : NvmWork) : NvmIdle (s.commitNow w) := by
  unfold State.commitNow
  extract_lets _ a
  have ha : NvmIdle (a.noteWritten w) := noteWritten_idle (s := a) h w
  exact workCommit_idle ha.setPar _

theorem mirrorAll_nvmIdle (h : NvmIdle s) : NvmIdle s.mirrorAll := by
  unfold State.mirrorAll
  refine List.foldlRecOn (motive := NvmIdle) _ _ ?_ fun x hx _ _ => .ite hx (commitNow_nvmIdle hx _)
  exact List.foldlRecOn (motive := NvmIdle) _ _ h fun x hx _ _ => .ite hx (commitNow_nvmIdle hx _)

theorem psdOutputsOff_nvmIdle (h : NvmIdle s) : NvmIdle s.psdOutputsOff := by
  unfold State.psdOutputsOff
  refine stopConversion_nvmIdle ?_
  exact each_keeps (P := NvmIdle) (fun k x hx => hx.on stringWait_foot) _
    (each_keeps (P := NvmIdle) (fun f x hx => hx.on feederWait_foot) _ h)

/-- The pair of a latch is the tick and the count, with the wall time's offset (R296). -/
theorem latchTick_latch (s : State) (aon : BitVec 48) (watch : Bool) : let t := s.latchTick aon.toNat watch
    t.time.latch = some ⟨t.time.tick, aon, t.par oDevice Pid.Device.WALL_OFFSET, watch⟩ := by
  unfold State.latchTick
  rw [BitVec.ofNat_toNat, BitVec.setWidth_eq]
  rfl

/-- The device is in WATCH, entered at an AON count: the tick is latched against it, with every output off (R285, R296). -/
def Asleep (aon : BitVec 48) (t : State) : Prop :=
  t.supply.cs = .watch ∧ t.deviceMode = 2 ∧ OutputsOff t ∧ t.nvm.active = none ∧
    t.time.latch = some ⟨t.time.tick, aon, t.par oDevice Pid.Device.WALL_OFFSET, true⟩

theorem watchEnter_asleep (s : State) (aon : BitVec 48) : Asleep aon (s.watchEnter aon.toNat) := by
  unfold State.watchEnter
  extract_lets a b
  have ha : NvmIdle a := mirrorAll_nvmIdle (commitNow_nvmIdle (commitActive_nvmIdle s) _)
  have hb : Foot [.time] (some [Pid.Device.DEVICE_MODE]) a.psdOutputsOff b :=
    latchTick_foot.on (Foot.setPar (.refl ..))
  have hmode : b.deviceMode = 2 := by
    rw [State.deviceMode, latchTick_foot.par _ rfl _ _ (by decide) rfl]
    exact State.par_setPar_same _ (by decide) 2
  have hlatch : b.time.latch = some ⟨b.time.tick, aon, b.par oDevice Pid.Device.WALL_OFFSET, true⟩ :=
    latchTick_latch (a.psdOutputsOff.setPar oDevice Pid.Device.DEVICE_MODE 2) aon true
  have hoff : OutputsOff b := outputsOff_of_foot (psdOutputsOff_off a) hb
  have hidle : NvmIdle b := (psdOutputsOff_nvmIdle ha).on hb
  clear_value b
  exact ⟨rfl, hmode, outputsOff_same hoff rfl rfl rfl, hidle, hlatch⟩

/-- WATCH is entered by WATCH_AFTER_BRAKE or by a request that waits (R285). -/
theorem watchEntry_runs (aon : BitVec 48) (hr : s.watchReady = true) (hw : s.watchWrites = true) (hm : s.deviceMode ≠ 2)
    (hask : s.par oDevice Pid.Device.WATCH_AFTER_BRAKE = 1 ∨ s.supply.watchDue = true) :
    Runs (.watchEntry aon) s (Asleep aon) :=
  ⟨_, (if_pos (by simp [hr, hw, hm, hask]) : execWatchEntry aon s = _), watchEnter_asleep s aon⟩

/-- WATCH is entered again after a wake (R286). -/
theorem watchReturn_runs (aon : BitVec 48) (hr : s.watchReady = true) (hw : s.watchWrites = true) (hm : s.deviceMode = 2) :
    Runs (.watchReturn aon) s (Asleep aon) :=
  ⟨_, (if_pos (by simp [hr, hw, hm]) : execWatchReturn aon s = _), watchEnter_asleep s aon⟩

end

/-! ## The tick at a wake -/

section
variable {s : State} {aon : BitVec 48} {bad : Bool}

/-- The latch of the entry to WATCH gives the tick (R298, Table 11-2). -/
theorem wakeTick_latched {l : TickLatch} (hl : s.time.latch = some l) :
    (s.wakeTick aon false).time.tick = l.tick + (aon - l.aon).toNat * 1000000 / 32768 ∧
      (s.wakeTick aon false).par oDevice Pid.Device.TICK_SOURCE = 0 := by
  rw [State.wakeTick, if_neg Bool.false_ne_true, hl]
  refine ⟨rfl, ?_⟩
  rw [latchTick_foot.par _ rfl _ _ (by decide) rfl]
  exact State.par_setPar_same _ (by decide) 0

theorem wakeTick_unlatched (h : s.time.latch = none ∨ bad = true) :
    s.wakeTick aon bad = (s.restoreJournal none).latchTick aon.toNat false := by
  have hnone : (if bad = true then none else s.time.latch) = none := by
    rcases h with h | h
    · rw [h, ite_self]
    · exact if_pos h
  rw [State.wakeTick, hnone]

/-- Without a latch the tick journal gives the tick, and the wall time is suspect (R299, Table 11-2). -/
theorem wakeTick_journal (h : s.time.latch = none ∨ bad = true) (hc : s.time.ceilingWritten = true) :
    (s.wakeTick aon bad).time.tick = (s.par oDevice Pid.Device.TICK_CEILING).toNat + 1 ∧
      (s.wakeTick aon bad).par oDevice Pid.Device.TICK_SOURCE = 2 ∧ (s.wakeTick aon bad).time.wallSuspect = true := by
  rw [wakeTick_unlatched h]
  unfold State.restoreJournal
  rw [if_pos (by simp [hc])]
  refine ⟨?_, ?_, rfl⟩
  · simp [State.latchTick, hc, State.clockBit, State.setBit, State.updPar]
  · rw [latchTick_foot.par _ rfl _ _ (by decide) rfl, clockBit_foot.par _ rfl _ _ (by decide) rfl]
    exact State.par_setPar_same _ (by decide) 2

/-- With neither a latch nor a journal the tick is 0 (Table 11-2). -/
theorem wakeTick_first (h : s.time.latch = none ∨ bad = true) (hc : s.time.ceilingWritten = false) :
    (s.wakeTick aon bad).time.tick = 0 ∧ (s.wakeTick aon bad).par oDevice Pid.Device.TICK_SOURCE = 3 := by
  rw [wakeTick_unlatched h]
  unfold State.restoreJournal
  rw [if_neg (by simp [hc])]
  refine ⟨rfl, ?_⟩
  rw [latchTick_foot.par _ rfl _ _ (by decide) rfl]
  exact State.par_setPar_same _ (by decide) 3

end

/-! ## The wake -/

/-- What a wake has told and restored stays: that the control side runs, the time, the cause and the tick's source. -/
structure WakeKept (s t : State) : Prop where
  cs     : t.supply.cs = s.supply.cs
  time   : t.time = s.time
  cause  : t.par oDevice Pid.Device.WAKE_CAUSE = s.par oDevice Pid.Device.WAKE_CAUSE
  source : t.par oDevice Pid.Device.TICK_SOURCE = s.par oDevice Pid.Device.TICK_SOURCE

section
variable {s x y : State} {fs : List Fld} {l : List Nat}

theorem WakeKept.refl (s : State) : WakeKept s s := ⟨rfl, rfl, rfl, rfl⟩

theorem WakeKept.trans (h : WakeKept s x) (k : WakeKept x y) : WakeKept s y :=
  ⟨k.cs.trans h.cs, k.time.trans h.time, k.cause.trans h.cause, k.source.trans h.source⟩

/-- An operation whose footprint names none of it keeps it. -/
theorem WakeKept.on (h : WakeKept s x) (k : Foot fs (some l) x y) (hs : fs.contains .supply = false := by rfl)
    (ht : fs.contains .time = false := by rfl) (hc : l.contains Pid.Device.WAKE_CAUSE = false := by rfl)
    (hk : l.contains Pid.Device.TICK_SOURCE = false := by rfl) : WakeKept s y :=
  h.trans ⟨congrArg SupplyState.cs (k.fld .supply hs), k.fld .time ht, k.par l rfl _ _ (by decide) hc,
    k.par l rfl _ _ (by decide) hk⟩

theorem WakeKept.ite {c : Prop} [Decidable c] (h : WakeKept s x) (k : WakeKept s y) :
    WakeKept s (if c then x else y) := by split <;> assumption

/-- The reload of parameters that are neither keeps both. -/
theorem WakeKept.reload {o : Nat} {pids : List Nat} (h : WakeKept s x)
    (hp : ∀ p ∈ pids, p < 4096 ∧ (o = oDevice → p ≠ Pid.Device.WAKE_CAUSE ∧ p ≠ Pid.Device.TICK_SOURCE)) :
    WakeKept s (x.reloadConfig o pids) := by
  refine List.foldlRecOn (motive := WakeKept s) _ _ h fun y hy p hm => hy.trans ?_
  obtain ⟨hlt, hne⟩ := hp p hm
  refine ⟨rfl, rfl, State.par_setPar_other _ _ fun he => ?_, State.par_setPar_other _ _ fun he => ?_⟩
  · obtain ⟨ho, hq⟩ := (keyOf_inj (by decide) hlt).1 he
    exact (hne ho.symm).1 hq.symm
  · obtain ⟨ho, hq⟩ := (keyOf_inj (by decide) hlt).1 he
    exact (hne ho.symm).2 hq.symm

/-- The reload of another object's configuration. -/
theorem WakeKept.reloadObject {o : Nat} (h : WakeKept s x) (ho : o ≠ oDevice) :
    WakeKept s (x.reloadConfig o (configPids o)) := h.reload fun _ hp => ⟨configPids_lt hp, fun he => absurd he ho⟩

end

/-- The contexts that fail at a wake are configuration, and not what the wake tells (R287). -/
theorem retentionCheck_wake (s : State) (found : BitVec 4) : WakeKept s (s.retentionCheck found) := by
  unfold State.retentionCheck
  extract_lets bad _ a b c d e
  have ha : WakeKept s a := ⟨rfl, rfl, rfl, rfl⟩
  have hb : WakeKept s b := .ite (ha.reloadObject (by decide)) ha
  have hc : WakeKept s c := .ite (hb.reloadObject (by decide)) hb
  have hd : WakeKept s d := .ite ((hc.reloadObject (by decide)).reloadObject (by decide)) hc
  have he : WakeKept s e := .ite (hd.reload (by decide)) hd
  exact .ite ha ((he.on holdBit_foot).on supplyRecord_foot)

section
variable (s : State) (sources : Nat) (aon : BitVec 48) (bad : BitVec 5)

/-- The state in which the tick is restored and the cause told, and the control side runs. -/
def State.woken : State :=
  let s := (s.wakeTick aon (bad.getLsbD 4)).setPar oDevice Pid.Device.WAKE_CAUSE (sources % 256 : Nat)
  { s with supply := { s.supply with cs := .run } }

/-- What follows of a wake keeps what it has told. -/
theorem wake_kept : WakeKept (s.woken sources aon bad) (s.wake sources aon bad) := by
  unfold State.wake
  extract_lets a _ b c d e f g h
  have hc : WakeKept b c := (WakeKept.refl b).on flushRecords_foot
  have hd : WakeKept b d := hc.trans (retentionCheck_wake ..)
  have he : WakeKept b e := hd.on (each_foot (.refl [.therms] (some []) d) fun _ _ hx => modTherm_foot.on hx)
  have hf : WakeKept b f := .ite he (he.on linkLoss_foot)
  have hg : WakeKept b g := .ite (hf.on modSeq_foot) hf
  have hh : WakeKept b h := .ite hg (hg.on supplyRecord_foot)
  exact .ite (hf.on writeShutdown_foot) (.ite (hh.on raise_foot) hh)

theorem woken_time : (s.woken sources aon bad).time = (s.wakeTick aon (bad.getLsbD 4)).time := rfl

theorem woken_cause : (s.woken sources aon bad).par oDevice Pid.Device.WAKE_CAUSE = (sources % 256 : Nat) :=
  State.par_setPar_same _ (by decide) _

theorem woken_source : (s.woken sources aon bad).par oDevice Pid.Device.TICK_SOURCE =
    (s.wakeTick aon (bad.getLsbD 4)).par oDevice Pid.Device.TICK_SOURCE := State.par_setPar_other _ _ (by decide)

/-- What a wake leaves: its cause, and the time and the tick's source as they were restored. -/
theorem wake_leaves : let t := s.wake sources aon bad
    t.supply.cs = .run ∧ t.par oDevice Pid.Device.WAKE_CAUSE = (sources % 256 : Nat) ∧
      t.time = (s.wakeTick aon (bad.getLsbD 4)).time ∧
      t.par oDevice Pid.Device.TICK_SOURCE = (s.wakeTick aon (bad.getLsbD 4)).par oDevice Pid.Device.TICK_SOURCE := by
  obtain ⟨hcs, htime, hcause, hsource⟩ := wake_kept s sources aon bad
  exact ⟨hcs, hcause.trans (woken_cause ..), htime, hsource.trans (woken_source ..)⟩

end

section
variable {s : State}

/-- A wake tells its cause and restores the tick (R286, R298). -/
theorem watchWake_runs (aon : BitVec 48) (sources : BitVec 16) (bad : BitVec 5) (hw : s.supply.cs = .watch)
    (hs : sources.toNat % 256 ≠ 0) : Runs (.watchWake ⟨sources, bad⟩ aon) s fun t =>
      t.supply.cs = .run ∧ t.par oDevice Pid.Device.WAKE_CAUSE = (sources.toNat % 256 : Nat) ∧
      (∀ l : TickLatch, s.time.latch = some l → bad.getLsbD 4 = false →
        t.time.tick = l.tick + (aon - l.aon).toNat * 1000000 / 32768 ∧ t.par oDevice Pid.Device.TICK_SOURCE = 0) ∧
      (s.time.latch = none ∨ bad.getLsbD 4 = true →
        (s.time.ceilingWritten = true → t.time.tick = (s.par oDevice Pid.Device.TICK_CEILING).toNat + 1 ∧
          t.par oDevice Pid.Device.TICK_SOURCE = 2 ∧ t.time.wallSuspect = true) ∧
        (s.time.ceilingWritten = false → t.time.tick = 0 ∧ t.par oDevice Pid.Device.TICK_SOURCE = 3)) := by
  obtain ⟨hcs, hcause, htime, hsource⟩ := wake_leaves s sources.toNat aon bad
  refine ⟨_, (if_pos (by simp [hw, hs]) : execWatchWake ⟨sources, bad⟩ aon s = _), hcs, hcause, fun l hl hb => ?_,
    fun h => ⟨fun hc => ?_, fun hc => ?_⟩⟩
  · rw [htime, hsource, hb]
    exact wakeTick_latched hl
  · rw [htime, hsource]
    exact wakeTick_journal h hc
  · rw [htime, hsource]
    exact wakeTick_first h hc

/-- The AON count of a whole number of seconds gives as many million microseconds. -/
theorem aon_seconds {period : Nat} (h : period ≤ 2592000) (a : BitVec 48) :
    ((a + BitVec.ofNat 48 (32768 * period)) - a).toNat * 1000000 / 32768 = period * 1000000 := by
  have hsub : (a + BitVec.ofNat 48 (32768 * period)) - a = BitVec.ofNat 48 (32768 * period) := by
    rw [BitVec.add_comm, BitVec.add_sub_cancel]
  rw [hsub, BitVec.toNat_ofNat, Nat.mod_eq_of_lt (by omega)]
  omega

/-- The wake timer wakes the device WAKE_TIMER_PERIOD seconds after its entry; whether the latch fails is a free value (R303). -/
theorem aonWakeTimer_runs {l : TickLatch} (hw : s.supply.cs = .watch) (hl : s.time.latch = some l)
    (hpos : 0 < s.par oDevice Pid.Device.WAKE_TIMER_PERIOD) (hmax : s.par oDevice Pid.Device.WAKE_TIMER_PERIOD ≤ 2592000) :
    Runs .aonWakeTimer s fun t => t.supply.cs = .run ∧ t.par oDevice Pid.Device.WAKE_CAUSE = 64 ∧
      (t.time.tick : Int) =
        if (BitVec.ofInt 5 s.draw.1).getLsbD 4 = false then
          l.tick + s.par oDevice Pid.Device.WAKE_TIMER_PERIOD * 1000000
        else if s.time.ceilingWritten = true then (s.par oDevice Pid.Device.TICK_CEILING).toNat + 1 else 0 := by
  obtain ⟨period, hperiod⟩ := Int.eq_ofNat_of_zero_le hpos.le
  have hexec : execAonWakeTimer s = .next (s.draw.2.wake 64 (l.aon + BitVec.ofNat 48 (32768 * period))
      (BitVec.ofInt 5 s.draw.1)) := by
    have hp : period ≠ 0 := by omega
    simp [execAonWakeTimer, hl, hw, hperiod, hp]
  obtain ⟨hcs, hcause, htime, -⟩ := wake_leaves s.draw.2 64 (l.aon + BitVec.ofNat 48 (32768 * period))
    (BitVec.ofInt 5 s.draw.1)
  refine ⟨_, hexec, hcs, hcause, ?_⟩
  rw [htime]
  cases hb : (BitVec.ofInt 5 s.draw.1).getLsbD 4 with
  | false =>
    rw [(wakeTick_latched (s := s.draw.2) hl).1, aon_seconds (by omega), hperiod, if_pos rfl]
    push_cast
    rfl
  | true =>
    rw [if_neg (by decide : ¬ true = false)]
    cases hc : s.time.ceilingWritten with
    | true =>
      rw [(wakeTick_journal (s := s.draw.2) (.inr rfl) hc).1, if_pos rfl]
      push_cast
      rfl
    | false => rw [(wakeTick_first (s := s.draw.2) (.inr rfl) hc).1, if_neg Bool.false_ne_true]; rfl

end

/-- Settles O33: each change of the device's mode, and the tick that a wake restores. -/
theorem deviceModesChange : Obligations.DeviceModesChange := by
  intro s aon
  exact ⟨floatEntry_runs, fun hr hw => ⟨watchEntry_runs aon hr hw, watchReturn_runs aon hr hw⟩, watchWake_runs aon,
    fun _ => aonWakeTimer_runs⟩

end Sys2Proof.Machine

/-! # Proofs: a step takes the front command, and only that (O1, O3) -/
namespace Sys2Proof.Machine
set_option Elab.async false

/-- Settles O1: by the definition of `step`. -/
theorem stepRunsFrontCommand : Obligations.StepRunsFrontCommand := by
  refine ⟨fun _ _ _ => rfl, fun s h => ?_⟩
  rw [step, h]

/-- Settles O3: the front command keeps the queue that `step` leaves it. -/
theorem stepTakesOnlyTheFront : Obligations.StepTakesOnlyTheFront := by
  intro s t h
  unfold step at h
  split at h
  · next he =>
    cases h
    rw [he, List.tail_nil]
  · next c rest he =>
    rw [he, List.tail_cons]
    exact ((exec_kept c _).of t h).queue

end Sys2Proof.Machine

/-! # Proofs: the rows that write one parameter (O11) -/
namespace Sys2Proof.Machine
set_option Elab.async false

/-! ## Numbers as bytes -/

theorem leBytes_succ (n : Nat) (v : Int) : leBytes (n + 1) v = BitVec.ofInt 8 v :: leBytes n (v / 256) := by
  simp only [leBytes, List.range_succ_eq_map, List.map_cons, List.map_map]
  refine congrArg₂ _ (by simp) (List.map_congr_left fun i _ => ?_)
  rw [Function.comp_apply, Int.ediv_ediv_of_nonneg (by decide)]
  congr 2
  rw [Nat.mul_succ, pow_add]
  ring

/-- The bytes of a number that fits in them are read back as it. -/
theorem leNat_leBytes {n : Nat} {v : Nat} (h : v < 2 ^ (8 * n)) : leNat (leBytes n v) = v := by
  induction n generalizing v with
  | zero => simp_all [leBytes, leNat]
  | succ n ih =>
    have hlt : v / 256 < 2 ^ (8 * n) := by
      rw [Nat.div_lt_iff_lt_mul (by decide)]
      calc v < 2 ^ (8 * (n + 1)) := h
        _ = 2 ^ (8 * n) * 256 := by rw [Nat.mul_succ, pow_add]; rfl
    rw [leBytes_succ, leNat, show ((v : Int) / 256) = ((v / 256 : Nat) : Int) by simp, ih hlt]
    have hb : (BitVec.ofInt 8 (v : Int)).toNat = v % 256 := by simp
    omega

/-! ## The parameters of the rows -/

/-- Is the parameter, where the object has it, unsigned and of a size? -/
def unsignedOf (o pid size : Nat) : Bool := (findDesc o pid).all fun d => d.enc.size == size && !d.enc.isSigned

/-- What a row writes fits its parameter: an object that exists, and an unsigned encoding of the row's size. -/
structure RowFits (o pid size : Nat) (v : Int) : Prop where
  obj : o < 256
  known : objReserved o = false
  param : pid < 4096
  value : ∃ n : Nat, v = n ∧ n < 2 ^ (8 * size)
  enc : unsignedOf o pid size = true

/-- The parameters of SHELF that a row writes, with their sizes. -/
abbrev shelfRows : List (Nat × Nat) :=
  [(Pid.Shelf.STATE_REQUEST, 1), (Pid.Shelf.CONFIG_CONFIRM, 4), (Pid.Shelf.SHELF_ID, 4), (Pid.Shelf.COG_ENABLE, 1)]

/-- The parameters of a timer that a row writes, with their sizes. -/
abbrev timerRows : List (Nat × Nat) :=
  [(Pid.Timer.COUNT, 4), (Pid.Timer.COMPARE, 4), (Pid.Timer.PRESCALE, 1), (Pid.Timer.OUT_MODE, 1)]

theorem shelf_row : ∀ x ∈ shelfRows, x.1 < 4096 ∧ unsignedOf oShelf x.1 x.2 = true := by decide

theorem device_row : unsignedOf oDevice Pid.Device.MODE_REQUEST 1 = true := by decide

theorem feeder_row : ∀ f : Fin 16, oFeeder f.val < 256 ∧ objReserved (oFeeder f.val) = false ∧
    unsignedOf (oFeeder f.val) Pid.Feeder.IT_APPLY 1 = true := by decide

theorem timer_row : ∀ n : Fin 8, ∀ x ∈ timerRows, x.1 < 4096 ∧ unsignedOf (oTimer n.val) x.1 x.2 = true := by decide

theorem port_row (p : HostPort) : oPort p < 256 ∧ objReserved (oPort p) = false ∧
    unsignedOf (oPort p) Pid.HPort.CAUTIOUS_ACK 1 = true := by cases p <;> decide

/-- Every channel's object has SENSE_STATUS. -/
def channelFits (o : Nat) : Prop := o < 256 ∧ objReserved o = false ∧ unsignedOf o pSenseStatus 2 = true

theorem phase_channel : ∀ p : Fin 24, channelFits (oPhase p.val) := by unfold channelFits; decide
theorem feeder_channel : ∀ f : Fin 16, channelFits (oFeeder f.val) := by unfold channelFits; decide
theorem segment_channel : ∀ b : Fin 4, channelFits (oSeg b.val) := by unfold channelFits; decide
theorem string_channel : ∀ k : Fin 4, channelFits (oString k.val) := by unfold channelFits; decide

theorem channel_row : ∀ ch : SarChannel, channelFits (sarObj ch)
  | .phase p => phase_channel p
  | .feeder f => feeder_channel f
  | .segment b => segment_channel b
  | .string k => string_channel k

theorem RowFits.shelf {pid size : Nat} {v : Int} (hv : ∃ n : Nat, v = n ∧ n < 2 ^ (8 * size))
    (h : (pid, size) ∈ shelfRows) : RowFits oShelf pid size v :=
  ⟨by decide, rfl, (shelf_row _ h).1, hv, (shelf_row _ h).2⟩

theorem RowFits.mode {v : Int} (hv : ∃ n : Nat, v = n ∧ n < 2 ^ (8 * 1)) :
    RowFits oDevice Pid.Device.MODE_REQUEST 1 v := ⟨by decide, rfl, by decide, hv, device_row⟩

theorem RowFits.timer (n : Fin 8) {pid size : Nat} {v : Int} (hv : ∃ n : Nat, v = n ∧ n < 2 ^ (8 * size))
    (h : (pid, size) ∈ timerRows) : RowFits (oTimer n.val) pid size v :=
  ⟨oTimer_lt n.isLt, objReserved_oTimer n.isLt, (timer_row n _ h).1, hv, (timer_row n _ h).2⟩

/-- Each row that writes one parameter writes one that its bytes fit. -/
theorem paramWrite_fits {c : Instr} {r : Req} {o pid size : Nat} {v : Int}
    (h : paramWrite c = some (r, o, pid, size, v)) : RowFits o pid size v := by
  unfold paramWrite at h
  split at h <;> cases h
  case h_1 v => exact .shelf ⟨_, rfl, v.isLt⟩ (by decide)
  case h_2 v => exact .shelf ⟨_, rfl, v.isLt⟩ (by decide)
  case h_3 v => exact .shelf ⟨_, rfl, v.isLt⟩ (by decide)
  case h_4 => exact .mode ⟨0, rfl, by decide⟩
  case h_5 => exact .mode ⟨1, rfl, by decide⟩
  case h_6 => exact .mode ⟨2, rfl, by decide⟩
  case h_7 f v => exact ⟨(feeder_row f).1, (feeder_row f).2.1, by decide, ⟨_, rfl, v.isLt⟩, (feeder_row f).2.2⟩
  case h_8 p v => exact ⟨(port_row p).1, (port_row p).2.1, by decide, ⟨_, rfl, v.isLt⟩, (port_row p).2.2⟩
  case h_9 ch => exact ⟨(channel_row ch).1, (channel_row ch).2.1, by decide, ⟨1024, rfl, by decide⟩, (channel_row ch).2.2⟩
  case h_10 v => exact .shelf ⟨_, rfl, v.isLt⟩ (by decide)
  case h_11 n v => exact .timer n ⟨_, rfl, v.isLt⟩ (by decide)
  case h_12 n v => exact .timer n ⟨_, rfl, v.isLt⟩ (by decide)
  case h_13 n v => exact .timer n ⟨_, rfl, v.isLt⟩ (by decide)
  case h_14 n v => exact .timer n ⟨_, rfl, v.isLt⟩ (by decide)

/-- The value that a PARAM_SET's bytes carry for an unsigned parameter is read back. -/
theorem setValue_setBytes {d : Desc} {o pid n : Nat} (hs : d.enc.isSigned = false) (hn : n < 2 ^ (8 * d.enc.size)) :
    setValue d (setBytes o pid d.enc.size n) = n := by
  have hfield : fieldU (setBytes o pid d.enc.size n) 4 d.enc.size = n := by
    have hdrop : (setBytes o pid d.enc.size n).drop 4 = leBytes d.enc.size n := by
      rw [setBytes, List.drop_left' (by simp [leBytes_length])]
    rw [fieldU, slice, hdrop, List.take_of_length_le (leBytes_length _ _).le, leNat_leBytes hn]
  rw [setValue, hs, hfield]
  rfl

/-- Settles O11: each row is its PARAM_SET by definition, and carries its value in the parameter's encoding. -/
theorem parameterRowsAreParamSet : Obligations.ParameterRowsAreParamSet := by
  have hrow : ∀ (c : Instr) (r : Req) (o pid size : Nat) (v : Int) (s : State), paramWrite c = some (r, o, pid, size, v) →
      exec c s = exec (.paramSet r (setBytes o pid size v)) s := by
    intro c r o pid size v s h
    unfold paramWrite at h
    split at h <;> cases h <;> rfl
  refine ⟨hrow, fun c r o pid size v s d h hd hmask ha hcheck => ?_⟩
  obtain ⟨hobj, hknown, hparam, ⟨n, rfl, hn⟩, henc⟩ := paramWrite_fits h
  obtain ⟨rfl, hsigned⟩ : d.enc.size = size ∧ d.enc.isSigned = false := by
    simpa [unsignedOf, hd] using henc
  have hcarries : carries o d n := by
    rw [carries, setValue_setBytes hsigned hn, findDesc_pid hd, hmask]
  refine ⟨_, (hrow c r o pid _ n s h).trans ?_, rfl⟩
  show Host.Outcome.next (submitReq r 0x11 _ opParamSet s) = _
  rw [submitReq_accepted _ ha, opParamSet_checked hobj hparam hknown hd hcarries, hcheck]

end Sys2Proof.Machine

/-! # Proofs: the doorbell of the request stream (O23, O24) -/
namespace Sys2Proof.Machine
set_option Elab.async false

/-! ## The bytes of a write transaction -/

/-- The CRC over a transaction and its own CRC is 0 (R387). -/
theorem crc8_concat_self (l : Bytes) : crc8 (l ++ [crc8 l]) = 0 := by
  unfold crc8
  rw [List.foldl_append, List.foldl_cons, BitVec.xor_self]
  rfl

theorem not_pecFails {addr : BitVec 7} {ptr : Byte} {l : Bytes} :
    pecFails addr (ptr :: l ++ [crc8 (BitVec.ofNat 8 (2 * addr.toNat) :: ptr :: l)]) = none := by
  unfold pecFails
  rw [if_neg (by simp), ← List.cons_append, crc8_concat_self]
  rfl

theorem par_named {s : State} {p : HostPort} {hit : Fin 4} {speed : BusSpeed} {q : Nat} (hq : q < 4096)
    (h : q ≠ Pid.HPort.SPEED_SEEN) : (s.named p hit speed).par (oPort p) q = s.par (oPort p) q :=
  (par_setPar_pid _ _ hq (by decide) h).trans rfl

theorem pecActive_named (s : State) (p : HostPort) (hit : Fin 4) (speed : BusSpeed) :
    (s.named p hit speed).pecActive p = s.pecActive p := by
  unfold State.pecActive
  rw [par_named (by decide) (by decide), par_named (by decide) (by decide)]

/-- What `Carries` says: the port acknowledges the address, and its data take effect in order between START and STOP. -/
theorem write_carries {s : State} {p : HostPort} {acc : HostAccess} {ptr : Byte} {data rest : Bytes}
    (h : Carries s p acc ptr data rest) : ∃ hit, s.addressHit p acc.addr = some hit ∧
      s.write p acc ptr rest = ((s.named p hit acc.speed).writeData p (s.pecActive p) ptr data).busStop p := by
  obtain ⟨hp, ha, hlen, rfl⟩ := h
  obtain ⟨hit, hhit⟩ := Option.isSome_iff_exists.1 ha
  refine ⟨hit, hhit, ?_⟩
  simp only [State.write, State.transaction, hp, if_true, hhit, pecActive_named]
  cases hb : s.pecActive p with
  | false => simp
  | true =>
    have htake (c : Byte) : (data ++ [c]).take 287 = data ++ [c] := List.take_of_length_le (by
      have := hlen hb
      simp only [List.length_append, List.length_singleton]
      omega)
    simp only [Bool.not_true, Bool.false_eq_true, if_false, if_true, htake, List.dropLast_concat]
    rw [← List.cons_append, not_pecFails]

/-! ## Locations on which a write has no effect -/

/-- A location that a write neither violates nor changes anything by. -/
def InertAt (a : Nat) : Prop := readOnlyAt a = false ∧ a ≠ 0x0A ∧ a ≠ 0x10 ∧ a ≠ 0x12

theorem inertAt_reserved {a : Nat} (h : 0x13 ≤ a ∧ a < 0x20 ∨ 0x40 ≤ a) : InertAt a := by
  simp only [InertAt, readOnlyAt, Bool.or_eq_false_iff, Bool.and_eq_false_iff, decide_eq_false_iff_not, beq_eq_false_iff_ne]
  omega

theorem setPointer_setPointer (s : State) (p : HostPort) (a b : Byte) : (s.setPointer p a).setPointer p b = s.setPointer p b := by
  cases p <;> simp [State.setPointer, State.modPort, vmod, portIx]

theorem port_setPointer (s : State) (p : HostPort) (a : Byte) : (s.setPointer p a).port p = { s.port p with pointer := a } :=
  s.port_modPort p _

/-- A byte of a write at a location that it does not change, read-only ones with PEC among them, moves the pointer on. -/
theorem dataByte_noEffect {s : State} {p : HostPort} {pec : Bool} {ptr a : Byte} {n : Nat} {v : Bool}
    (hro : (!pec && readOnlyAt a.toNat) = false) (hm : a ≠ 0x0A) (hs : a ≠ 0x10) (hd : a ≠ 0x12) (b : Byte) :
    State.dataByte p pec ptr n (s.setPointer p a, v) b = (s.setPointer p (pointerNext a.toNat), v) := by
  have hne {c : Byte} (h : a ≠ c) : a.toNat ≠ c.toNat := fun e => h (BitVec.eq_of_toNat_eq e)
  simp only [State.dataByte, port_setPointer, hro, Bool.false_and, Bool.false_eq_true, if_false, Bool.or_false,
    State.byteWrite]
  rw [if_neg (by exact hne hm), if_neg (by exact hne hs), if_neg (by exact hne hd), setPointer_setPointer]

/-- Bytes written to inert locations move the pointer past them, and do no more. -/
theorem dataBytes_inert {s : State} {p : HostPort} {pec : Bool} {ptr : Byte} {n : Nat} {v : Bool} (data : Bytes) (a : Nat)
    (h : ∀ i, a ≤ i → i < a + data.length → InertAt i) (hle : a + data.length ≤ 256) :
    data.foldl (State.dataByte p pec ptr n) (s.setPointer p (BitVec.ofNat 8 a), v) =
      (s.setPointer p (BitVec.ofNat 8 (a + data.length)), v) := by
  induction data generalizing a with
  | nil => rfl
  | cons b data ih =>
    rw [List.length_cons] at h hle
    have ha : (BitVec.ofNat 8 a).toNat = a := by rw [BitVec.toNat_ofNat]; omega
    obtain ⟨hro, hm, hs, hd⟩ := h a (le_refl a) (by omega)
    have hne {c : Byte} (hc : a ≠ c.toNat) : BitVec.ofNat 8 a ≠ c := fun e => hc (by rw [← e, ha])
    have hnext : pointerNext a = BitVec.ofNat 8 (a + 1) := by
      refine if_neg fun e => e.elim hs fun e => ?_
      rw [e] at hro
      exact absurd hro (by decide)
    rw [List.foldl_cons, dataByte_noEffect (by rw [ha, hro, Bool.and_false]) (hne hm) (hne hs) (hne hd), ha, hnext,
      ih (a + 1) (fun i h₁ h₂ => h i (by omega) (by omega)) (by omega), List.length_cons, Nat.add_right_comm, Nat.add_assoc]

/-- Data that begin at DOORBELL: the first byte takes effect there, the others fall on reserved locations. -/
theorem writeData_doorbell (s : State) (p : HostPort) (pec : Bool) (b : Byte) {more : Bytes} (h : more.length ≤ 13) :
    ∃ a, s.writeData p pec 0x12 (b :: more) = ((s.setPointer p 0x12).byteWrite p 0x12 b).setPointer p a := by
  have hfirst (n : Nat) : State.dataByte p pec 0x12 n (s.setPointer p 0x12, false) b =
      (((s.setPointer p 0x12).byteWrite p 0x12 b).setPointer p (BitVec.ofNat 8 0x13), false) := by
    have hro : readOnlyAt 18 = false := by decide
    simp only [State.dataByte, port_setPointer, BitVec.reduceToNat, hro, Bool.and_false, Bool.or_false]
    rfl
  unfold State.writeData
  rw [List.foldl_cons, hfirst, dataBytes_inert more 0x13 (fun i h₁ h₂ => inertAt_reserved (by omega)) (by omega)]
  exact ⟨_, rfl⟩

/-! ## A submitted packet -/

section
variable {s : State} {p : HostPort} {acc : HostAccess} {more rest : Bytes}

theorem busStop_packets (s : State) (p : HostPort) : PacketsKept s (s.busStop p) := by
  unfold State.busStop
  exact .ite (.modPort (.refl s)) (.refl s)

/-- The submit of a packet: the packet's own checks run where the port has emptied its packet. -/
theorem doorbell_runs (h : Carries s p acc 0x12 (0xA5 :: more) (0xA5 :: rest)) (hm : more.length ≤ 13)
    (hr : s.miller.restarting = false) : ∃ hit a, exec (.doorbellSubmit p ⟨acc, rest⟩) s =
      .next ((((((s.named p hit acc.speed).setPointer p 0x12).discard p).submitBytes p (s.port p).build
        (s.port p).written).setPointer p a).busStop p) := by
  obtain ⟨hit, -, hw⟩ := write_carries h
  obtain ⟨a, ha⟩ := writeData_doorbell (s.named p hit acc.speed) p (s.pecActive p) 0xA5 hm
  have hport : ((s.named p hit acc.speed).setPointer p 0x12).port p = { (s.port p) with hit := hit, pointer := 0x12 } := by
    rw [port_setPointer]
    exact congrArg (fun x : HostPortAux => { x with pointer := 0x12 }) (s.port_modPort p _)
  have hd : ((s.named p hit acc.speed).setPointer p 0x12).doorbell p =
      (((s.named p hit acc.speed).setPointer p 0x12).discard p).submitBytes p (s.port p).build (s.port p).written := by
    unfold State.doorbell
    simp only [hport]
    exact if_neg (by rw [Bool.not_eq_true]; exact hr)
  refine ⟨hit, a, ?_⟩
  show Host.Outcome.next (s.write p acc 0x12 (0xA5 :: rest)) = _
  rw [hw, ha, ← hd]
  rfl

end

/-! ## A request is read back from its bytes (Table 14-1) -/

/-- A request before its CRC. -/
def requestHead (opcode tagPrio : Nat) (alert : Bool) (payload : Bytes) : Bytes :=
  leBytes 1 0x59 ++ leBytes 1 (0x10 + if alert then 1 else 0) ++ leBytes 1 opcode ++
    leBytes 1 tagPrio ++ leBytes 2 payload.length ++ [0, 0] ++ payload

section
variable (opcode tagPrio : Nat) (alert : Bool) (payload tail : Bytes)

theorem requestHead_length : (requestHead opcode tagPrio alert payload).length = payload.length + 8 := by
  simp [requestHead, leBytes]
  omega

theorem requestBytes_eq : requestBytes opcode tagPrio alert payload =
    requestHead opcode tagPrio alert payload ++ leBytes 4 (crc32c (requestHead opcode tagPrio alert payload)).toNat := rfl

variable {opcode tagPrio alert payload tail}

theorem byteAt_zero_request : byteAt (requestHead opcode tagPrio alert payload ++ tail) 0 = 0x59 := rfl

theorem byteAt_one_request :
    byteAt (requestHead opcode tagPrio alert payload ++ tail) 1 = 0x10 + if alert then 1 else 0 := by
  cases alert <;> rfl

theorem byteAt_two_request (h : opcode < 256) : byteAt (requestHead opcode tagPrio alert payload ++ tail) 2 = opcode :=
  (leNat_leBytes (n := 1) h)

theorem byteAt_three_request (h : tagPrio < 256) :
    byteAt (requestHead opcode tagPrio alert payload ++ tail) 3 = tagPrio :=
  (leNat_leBytes (n := 1) h)

theorem length_request (h : payload.length ≤ 272) :
    fieldU (requestHead opcode tagPrio alert payload ++ tail) 4 2 = payload.length :=
  (leNat_leBytes (n := 2) (show payload.length < 2 ^ 16 by omega))

theorem zeros_request : zeros (requestHead opcode tagPrio alert payload ++ tail) 6 2 = true := rfl

theorem payload_request : slice (requestHead opcode tagPrio alert payload ++ tail) 8 payload.length = payload :=
  (congrArg (List.take payload.length) (show List.drop 8 _ = payload ++ tail from rfl)).trans List.take_left

end

/-- A request's bytes pass the packet's own checks; its operation takes the entry. -/
theorem submitBytes_request {y : State} {p : HostPort} {opcode tagPrio : Nat} {alert : Bool} {payload : Bytes}
    (ho : opcode < 256) (ht : tagPrio < 256) (hl : payload.length ≤ 272)
    (hf : y.frameFail p opcode (tagPrio % 64) = none) :
    y.submitBytes p (requestBytes opcode tagPrio alert payload) (payload.length + 12) =
      y.takeOp (y.newOp p opcode tagPrio alert payload) := by
  have halert : (byteAt (requestBytes opcode tagPrio alert payload) 1 % 2 == 1) = alert := by
    rw [requestBytes_eq, byteAt_one_request]
    cases alert <;> rfl
  have hversion : (byteAt (requestBytes opcode tagPrio alert payload) 1 / 2 != 8) = false := by
    rw [requestBytes_eq, byteAt_one_request]
    cases alert <;> rfl
  have hcrc : (crc32c (requestHead opcode tagPrio alert payload)).toNat < 2 ^ 32 := BitVec.isLt _
  have hlen : (requestBytes opcode tagPrio alert payload).length - 4 = (requestHead opcode tagPrio alert payload).length := by
    simp [requestBytes_eq, leBytes]
  have hown : fieldU (requestBytes opcode tagPrio alert payload) (requestHead opcode tagPrio alert payload).length 4 =
      (crc32c (requestHead opcode tagPrio alert payload)).toNat := by
    rw [fieldU, slice, requestBytes_eq, List.drop_left, List.take_of_length_le (by simp [leBytes]),
      leNat_leBytes (n := 4) hcrc]
  have hhead : (requestBytes opcode tagPrio alert payload).take (requestHead opcode tagPrio alert payload).length =
      requestHead opcode tagPrio alert payload := List.take_left
  unfold State.submitBytes
  rw [hlen, hown, hhead, halert, hversion]
  simp only [requestBytes_eq, byteAt_zero_request, byteAt_two_request ho, byteAt_three_request ht, length_request hl,
    zeros_request, payload_request, hf]
  simp
  omega

/-! ## What the ports keep around a transaction -/

theorem busStop_port {β : Type} {f : HostPortAux → β} (s : State) (p : HostPort)
    (h : ∀ x l, f { x with addrs := l } = f x := by intros; rfl) : PortKept f s (s.busStop p) := by
  unfold State.busStop
  exact .ite (.modPort (.refl s) fun x => h x _) (.refl s)

theorem setPointer_port {β : Type} {f : HostPortAux → β} (s : State) (p : HostPort) (a : Byte)
    (h : ∀ x b, f { x with pointer := b } = f x := by intros; rfl) : PortKept f s (s.setPointer p a) :=
  .modPort (.refl s) fun x => h x _

theorem named_port {β : Type} {f : HostPortAux → β} (s : State) (p : HostPort) (hit : Fin 4) (speed : BusSpeed)
    (h : ∀ x b, f { x with hit := b } = f x := by intros; rfl) : PortKept f s (s.named p hit speed) :=
  .same (.modPort (.refl s) fun x => h x _)

theorem pointerStop_foot {s : State} {p : HostPort} {a : Byte} : Foot [.ports] (some []) s ((s.setPointer p a).busStop p) :=
  State.busStop_foot.on State.setPointer_foot

/-- Settles O23: the first byte submits the packet, which passes its checks, and the others fall on reserved locations. -/
theorem doorbellReadsTheRequest : Obligations.DoorbellReadsTheRequest := by
  intro s p acc more rest opcode tagPrio alert payload hc hm hr ho ht hl hf hbuild hwritten
  obtain ⟨hit, a, hexec⟩ := doorbell_runs hc hm hr
  let x := ((s.named p hit acc.speed).setPointer p 0x12).discard p
  let y := x.takeOp (x.newOp p opcode tagPrio alert payload)
  have hreq : x.submitBytes p (s.port p).build (s.port p).written = y := by
    rw [hbuild, hwritten]
    exact submitBytes_request ho ht hl hf
  rw [show ((s.named p hit acc.speed).setPointer p 0x12).discard p = x from rfl, hreq] at hexec
  have hend : Foot [.ports] (some []) y ((y.setPointer p a).busStop p) := pointerStop_foot
  have hkept : PortKept (fun b => (b.build, b.written)) y ((y.setPointer p a).busStop p) :=
    (setPointer_port ..).trans (busStop_port ..)
  have hport := (hkept.port p).trans (congrArg (fun b => (b.build, b.written)) (State.port_modPort ..))
  have hops := hend.fld .hopper rfl
  have hprio : tagPrio / 64 % 4 = tagPrio / 64 := Nat.mod_eq_of_lt (by omega)
  refine ⟨_, hexec, ?_, congrArg HopperState.nextId hops, congrArg Prod.fst hport, congrArg Prod.snd hport, ?_⟩
  · rw [← hprio]
    exact congrArg HopperState.ops hops
  · have hx : Foot [.ports] (some [Pid.HPort.SPEED_SEEN]) s x :=
      State.modPort_foot.on (State.setPointer_foot.on State.named_foot)
    exact hend.on (State.takeOp_foot.on hx.within)

/-! ## A packet is turned away -/

/-- The rejection is the port's newest reply, and Hopper has taken nothing (R352). -/
def Rejected (p : HostPort) (opcode tagPrio : Nat) (s t : State) (status check : Nat) : Prop :=
  (t.port p).replies.getLast? = some
    { op := none, opcode := opcode, tagPrio := tagPrio, reject := true, status := status, reason := 0x80 + check,
      payload := [] } ∧ t.hopper = s.hopper

section
variable {p : HostPort} {opcode tagPrio status check : Nat} {s t u : State}

theorem Rejected.kept (h : Rejected p opcode tagPrio s t status check) (hr : RepliesKept t u) (hh : u.hopper = t.hopper) :
    Rejected p opcode tagPrio s u status check :=
  ⟨(congrArg List.getLast? (hr.port p)).trans h.1, hh.trans h.2⟩

theorem reject_rejected (s : State) (p : HostPort) (status check opcode tagPrio : Nat) :
    Rejected p opcode tagPrio s (s.reject p status check opcode tagPrio) status check := by
  refine ⟨?_, State.reject_foot.fld .hopper rfl⟩
  unfold State.reject
  split
  · rw [State.port_modPort]
    exact List.getLast?_concat
  · rw [State.port_modPort]
    exact List.getLast?_concat

theorem rejectViolation_rejected (s : State) (p : HostPort) (status check opcode tagPrio count : Nat) :
    Rejected p opcode tagPrio s (s.rejectViolation p status check opcode tagPrio count) status check :=
  (reject_rejected ..).kept (violation_packets ..).replies (State.violation_foot.fld .hopper rfl)

/-- The checks of Table 14-3 on a packet's bytes, in their order. -/
theorem submitBytes_rejected {bytes : Bytes} {n : Nat} :
    let rejected := Rejected p (byteAt bytes 2) (byteAt bytes 3) s (s.submitBytes p bytes n)
    let crcOk : Prop := (crc32c (bytes.take (bytes.length - 4))).toNat = fieldU bytes (bytes.length - 4) 4
    let headOk : Prop := byteAt bytes 0 = 0x59 ∧ byteAt bytes 1 / 2 = 8 ∧ zeros bytes 6 2 = true
    (n < 12 ∨ 284 < n → rejected stBAD_LENGTH 1) ∧
    (12 ≤ n → n ≤ 284 →
      (¬ crcOk → rejected stBAD_CRC 2) ∧
      (crcOk → ¬ headOk → rejected stPROTOCOL 3) ∧
      (crcOk → headOk → fieldU bytes 4 2 ≠ n - 12 → rejected stBAD_LENGTH 4) ∧
      (crcOk → headOk → fieldU bytes 4 2 = n - 12 → ∀ st c,
        s.frameFail p (byteAt bytes 2) (byteAt bytes 3 % 64) = some (st, c) → rejected st c)) := by
  intro rejected crcOk headOk
  have hlast := rejectViolation_rejected s p (opcode := byteAt bytes 2) (tagPrio := byteAt bytes 3) (count := n)
  refine ⟨fun hn => ?_, fun h₁ h₂ => ?_⟩
  · have : (decide (n < 12) || decide (n > 284)) = true := by simpa using hn
    simp only [rejected, State.submitBytes, this, if_true]
    exact hlast ..
  have hn : ¬ (decide (n < 12) || decide (n > 284)) = true := by simp; omega
  have hhead : (byteAt bytes 0 != 0x59 || byteAt bytes 1 / 2 != 8 || !zeros bytes 6 2) = true ↔ ¬ headOk := by
    simp only [headOk]
    grind
  simp only [rejected, State.submitBytes, if_neg hn]
  refine ⟨fun hc => ?_, fun hc hh => ?_, fun hc hh hl => ?_, fun hc hh hl st c hf => ?_⟩
  · rw [if_pos (by simpa using hc)]
    exact hlast ..
  · rw [if_neg (by simpa using hc), if_pos (hhead.2 hh)]
    exact hlast ..
  · rw [if_neg (by simpa using hc), if_neg (mt hhead.1 (not_not.2 hh)), if_pos (by simpa using hl)]
    exact hlast ..
  · rw [if_neg (by simpa using hc), if_neg (mt hhead.1 (not_not.2 hh)), if_neg (by simpa using hl), hf]
    split
    · next h => cases h; exact reject_rejected ..
    · next h => cases h; exact hlast ..
    · next h => cases h

end

/-- Settles O24: the packet's checks run where the port has emptied it; the rejection stays the newest reply. -/
theorem doorbellRejectsInOrder : Obligations.DoorbellRejectsInOrder := by
  intro s p acc more rest x bytes crcOk headOk rejected hc hm hr
  obtain ⟨hit, a, hexec⟩ := doorbell_runs hc hm hr
  let y := ((s.named p hit acc.speed).setPointer p 0x12).discard p
  have finish {st c : Nat} (h : Rejected p (byteAt bytes 2) (byteAt bytes 3) y (y.submitBytes p bytes x.written) st c) :
      rejected st c :=
    ⟨_, hexec, h.kept ((setPointer_port ..).trans (busStop_port ..)) (pointerStop_foot.fld .hopper rfl)⟩
  obtain ⟨hlen, hchecks⟩ := submitBytes_rejected (s := y) (p := p) (bytes := bytes) (n := x.written)
  refine ⟨fun h => finish (hlen h), fun h₁ h₂ => ?_⟩
  obtain ⟨hcrc, hhead, hpayload, hframe⟩ := hchecks h₁ h₂
  exact ⟨fun h => finish (hcrc h), fun h k => finish (hhead h k), fun h k l => finish (hpayload h k l),
    fun h k l st c hf => finish (hframe h k l st c hf)⟩

end Sys2Proof.Machine

/-! # Proofs: the register window reads and is written (O25) -/
namespace Sys2Proof.Machine
set_option Elab.async false

theorem derived_fantailStatus (s : State) : s.derived oFantail Pid.Fantail.FANTAIL_STATUS = none := rfl

theorem live_fantailStatus (s : State) : s.live oFantail Pid.Fantail.FANTAIL_STATUS =
    [(0, s.fantail.overcommit), (1, s.fantail.contShort), (2, s.fantail.reserveShort),
      (3, (List.range 8).any fun z => s.par oFantail Pid.Fantail.ZONE_STATE / 4 ^ z % 4 == 1)] := rfl

/-- FAST_STATUS rests on nothing that a transaction's address moves. -/
theorem fastBytes_of_foot {s t : State} (k : Foot [.ports] (some [Pid.HPort.SPEED_SEEN]) s t) : t.fastBytes = s.fastBytes := by
  have hpar (o pid : Nat) (hp : pid < 4096) (hn : [Pid.HPort.SPEED_SEEN].contains pid = false) : t.par o pid = s.par o pid :=
    k.par _ rfl o pid hp hn
  have hweir (o : Nat) : t.par o (weirPid o) = s.par o (weirPid o) :=
    hpar o _ (weirPid_bounds o).1 (by unfold weirPid; split <;> decide)
  have hrails := k.fld .rails rfl
  have htime := k.fld .time rfl
  have hfan := k.fld .fantail rfl
  have hloops := k.fld .loops rfl
  have hphases := k.fld .phases rfl
  have hfeeders := k.fld .feeders rfl
  have hmodules := k.fld .modules rfl
  have hstrings := k.fld .strings rfl
  have hpols := k.fld .pols rfl
  have htherms := k.fld .therms rfl
  have hgrist := k.fld .grist rfl
  have hdresser := k.fld .dresser rfl
  simp only [Fld.same] at *
  have hobj (o : Nat) : t.objNow o = s.objNow o := by
    unfold State.objNow
    simp (disch := decide) only [State.objSt, State.enabled, State.safeHold, State.shelfState, State.phasesOfSeg, State.outerOf, State.loopSeg,
      State.phaseNow, State.phaseState, State.phase, State.feeder, State.feederDegraded, State.weirSolo, State.weirBoth,
      State.compFailed, State.bit, State.moduleState, State.modulesOf, State.module, State.modLive, State.stringDegraded,
      State.stringLive, State.str, State.railState, State.rail, State.pol, State.therm, State.loop, hpar, hweir, hrails, htime, hfan, hloops, hphases, hfeeders,
      hmodules, hstrings, hpols, htherms, hgrist, hdresser]
    rfl
  unfold State.fastBytes
  simp (disch := decide) only [State.isIn, State.notServed, State.shelfState, State.deviceMode, State.seqState, State.vFast, State.feeder,
    State.str, State.phase, hobj, hpar, htime, hfeeders, hstrings, hphases]
  unfold State.read
  simp (disch := decide) only [derived_fantailStatus, live_fantailStatus, hfan, hpar]

/-! ## One byte is read -/

section
variable {s : State} {p : HostPort}

theorem pointer_windowRead (s : State) (p : HostPort) :
    ((s.windowRead p).2.port p).pointer = pointerNext (s.port p).pointer.toNat := by
  unfold State.windowRead State.clearAlert
  simp only []
  split_ifs <;> simp only [State.port_modPort]

theorem fast_windowRead (h : (s.port p).pointer.toNat ≠ 0x20) : ((s.windowRead p).2.port p).fast = (s.port p).fast := by
  unfold State.windowRead State.clearAlert
  simp only [h, decide_false, Bool.false_and, Bool.false_eq_true, if_false]
  split_ifs <;> simp only [State.port_modPort]

theorem fast_windowRead_latch (h : (s.port p).pointer.toNat = 0x20) (hr : s.supply.cs ≠ .rom) :
    ((s.windowRead p).2.port p).fast = s.fastBytes := by
  unfold State.windowRead
  simp [h, hr, State.port_modPort]

theorem alert_windowRead (h : (s.port p).pointer.toNat ≠ 0x09) :
    ((s.windowRead p).2.port p).alertCause = (s.port p).alertCause ∧
      ((s.windowRead p).2.port p).alertReleased = (s.port p).alertReleased := by
  unfold State.windowRead
  simp only [h, if_false]
  split_ifs <;> simp only [State.port_modPort, and_self]

theorem alert_windowRead_clear (h : (s.port p).pointer.toNat = 0x09) :
    ((s.windowRead p).2.port p).alertReleased = false ∧ ((s.windowRead p).2.port p).alertCause =
      if s.par (oPort p) Pid.HPort.CAUTIOUS = 1 ∧ (s.port p).alertCause.testBit alProtocol = true then 2 ^ alProtocol else 0 := by
  unfold State.windowRead State.clearAlert
  simp [h, State.port_modPort]
  rfl

theorem spaceHigh_windowRead (h : (s.port p).pointer.toNat ≠ 0x0C) :
    ((s.windowRead p).2.port p).spaceHigh = (s.port p).spaceHigh := by
  unfold State.windowRead State.clearAlert
  simp only [h, if_false]
  split_ifs <;> simp only [State.port_modPort]

theorem availHigh_windowRead (h : (s.port p).pointer.toNat ≠ 0x0E) :
    ((s.windowRead p).2.port p).availHigh = (s.port p).availHigh := by
  unfold State.windowRead State.clearAlert
  simp only [h, if_false]
  split_ifs <;> simp only [State.port_modPort]

theorem spaceHigh_windowRead_latch (h : (s.port p).pointer.toNat = 0x0C) :
    ((s.windowRead p).2.port p).spaceHigh = BitVec.ofNat 8 (s.reqSpace p / 256) := by
  unfold State.windowRead
  simp [h, State.port_modPort]

theorem availHigh_windowRead_latch (h : (s.port p).pointer.toNat = 0x0E) :
    ((s.windowRead p).2.port p).availHigh = BitVec.ofNat 8 (s.replyAvail p / 256) := by
  unfold State.windowRead
  simp [h, State.port_modPort]

/-- The byte that a read gives outside FAST_STATUS is that of the window as it stands. -/
theorem byte_windowRead (h : (s.port p).pointer.toNat ≠ 0x20) :
    (s.windowRead p).1 = BitVec.ofNat 8 (s.windowByte p (s.port p).pointer.toNat) := by
  unfold State.windowRead
  simp [h]

end

/-! ## The bytes of a read, one after the other -/

/-- A read of one byte more begins with one byte. -/
theorem windowReads_succ (s : State) (p : HostPort) (n : Nat) : s.windowReads p (n + 1) =
    ((s.windowRead p).1 :: ((s.windowRead p).2.windowReads p n).1, ((s.windowRead p).2.windowReads p n).2) := by
  induction n with
  | zero => rfl
  | succ n ih =>
    rw [State.windowReads, ih]
    rfl

theorem windowReads_length (s : State) (p : HostPort) (n : Nat) : (s.windowReads p n).1.length = n := by
  induction n generalizing s with
  | zero => rfl
  | succ n ih => rw [windowReads_succ, List.length_cons, ih]

/-- What a read keeps at the locations that it runs through. -/
theorem windowReads_keeps {β : Type} {f : HostPortAux → β} {p : HostPort} {S : Nat → Prop}
    (hS : ∀ a < 256, S a → S (pointerNext a).toNat)
    (hf : ∀ x : State, S (x.port p).pointer.toNat → f ((x.windowRead p).2.port p) = f (x.port p)) (n : Nat) (s : State)
    (h : S (s.port p).pointer.toNat) : f ((s.windowReads p n).2.port p) = f (s.port p) := by
  induction n generalizing s with
  | zero => rfl
  | succ n ih =>
    rw [windowReads_succ]
    refine (ih _ ?_).trans (hf s h)
    rw [pointer_windowRead]
    exact hS _ (BitVec.isLt _) h

/-! ## What a read of each row gives -/

theorem pointerNext_toNat {a : Nat} (h : a < 256) :
    (pointerNext a).toNat = if a = 0x10 ∨ a = 0x11 then a else (a + 1) % 256 := by
  unfold pointerNext
  split <;> simp
  omega

/-- What a read from FAST_STATUS on finds: the latched bytes, in ROM recovery 0x00 (Table 15-4). -/
def State.fastNow (s : State) (p : HostPort) : Bytes :=
  if s.supply.cs = .rom then List.replicate 32 0 else (s.port p).fast

/-- The locations that a read from 0x20 on runs through after the first: FAST_STATUS is not latched again there. -/
def AfterFast (a : Nat) : Prop := a ≤ 0x10 ∨ 0x20 < a

theorem afterFast_next : ∀ a < 256, AfterFast a → AfterFast (pointerNext a).toNat := by
  intro a ha h
  rw [pointerNext_toNat ha]
  unfold AfterFast at *
  split <;> omega

section
variable {s : State} {p : HostPort}

theorem windowRead_cs (s : State) (p : HostPort) : (s.windowRead p).2.supply = s.supply := State.windowRead_foot.fld .supply rfl

theorem fastNow_windowRead (h : AfterFast (s.port p).pointer.toNat) : (s.windowRead p).2.fastNow p = s.fastNow p := by
  unfold State.fastNow
  rw [windowRead_cs, fast_windowRead (by unfold AfterFast at h; omega)]

theorem windowByte_fast (s : State) (p : HostPort) {i : Nat} (h : i < 32) :
    s.windowByte p (0x20 + i) = byteAt (s.fastNow p) i := by
  have hzero (n : Nat) : byteAt (List.replicate n 0) i = 0 := by
    rw [byteAt, List.getD_eq_getElem?_getD, List.getElem?_replicate]
    split <;> rfl
  unfold State.windowByte
  iterate 11 rw [if_neg (by omega)]
  unfold State.fastNow
  by_cases hr : s.supply.cs = .rom
  · rw [if_neg (by simp [hr]), if_pos hr, hzero]
  · rw [if_pos ⟨by omega, by omega, by simpa using hr⟩, if_neg hr, Nat.add_sub_cancel_left]

/-- A read that runs on from within FAST_STATUS gives the bytes that remain of it. -/
theorem windowReads_fast (k : Nat) {i : Nat} (hi : i ≤ 32) (hpos : 0 < i) (hp : (s.port p).pointer.toNat = 0x20 + i)
    (hl : (s.fastNow p).length = 32) : (s.windowReads p k).1.take (32 - i) = ((s.fastNow p).drop i).take k := by
  induction k generalizing s i with
  | zero => simp [State.windowReads]
  | succ k ih =>
    obtain rfl | hlt := Nat.eq_or_lt_of_le hi
    · simp [hl]
    have hnext : ((s.windowRead p).2.port p).pointer.toNat = 0x20 + (i + 1) := by
      rw [pointer_windowRead, hp, pointerNext_toNat (by omega), if_neg (by omega)]
      omega
    have hkeep := fastNow_windowRead (s := s) (p := p) (by unfold AfterFast; omega)
    have ih := ih (s := (s.windowRead p).2) (by omega : i + 1 ≤ 32) (by omega) hnext (by rw [hkeep, hl])
    have hbyte : (s.windowRead p).1 = (s.fastNow p)[i] := by
      rw [byte_windowRead (by omega), hp, windowByte_fast s p hlt, byteAt, BitVec.ofNat_toNat, BitVec.setWidth_eq,
        List.getD_eq_getElem _ _ (by omega)]
    rw [windowReads_succ, List.drop_eq_getElem_cons (by omega), List.take_succ_cons, ← hbyte,
      show 32 - i = (32 - (i + 1)) + 1 by omega, List.take_succ_cons, ih, hkeep]

/-- The first byte of a read from FAST_STATUS is of what it latches. -/
theorem fast_windowRead_byte (h : (s.port p).pointer.toNat = 0x20) :
    (s.windowRead p).1 = BitVec.ofNat 8 (byteAt ((s.windowRead p).2.fastNow p) 0) := by
  have hbyte (x : State) : x.windowByte p 0x20 = byteAt (x.fastNow p) 0 := windowByte_fast x p (i := 0) (by decide)
  unfold State.windowRead
  by_cases hr : s.supply.cs = .rom <;> simp [h, hr, State.fastNow, State.port_modPort, hbyte]

theorem fastBytes_length (s : State) : s.fastBytes.length = 32 := by
  simp [State.fastBytes, leBytes, List.range_succ]

/-- A read from FAST_STATUS on. -/
theorem windowReads_fastStatus {k : Nat} (hk : 1 ≤ k) (hp : (s.port p).pointer = 0x20) :
    (s.windowReads p k).1.take 32 = (if s.supply.cs = .rom then List.replicate 32 0 else s.fastBytes).take k ∧
      (s.supply.cs ≠ .rom → ((s.windowReads p k).2.port p).fast = s.fastBytes) := by
  obtain ⟨k, rfl⟩ := Nat.exists_eq_add_of_le' hk
  have hnat : (s.port p).pointer.toNat = 0x20 := by rw [hp]; rfl
  have hnext : ((s.windowRead p).2.port p).pointer.toNat = 0x20 + 1 := by
    rw [pointer_windowRead, hnat]
    rfl
  have hnow : (s.windowRead p).2.fastNow p = if s.supply.cs = .rom then List.replicate 32 0 else s.fastBytes := by
    unfold State.fastNow
    rw [windowRead_cs]
    split
    · rfl
    · exact fast_windowRead_latch hnat ‹_›
  have hlen : ((s.windowRead p).2.fastNow p).length = 32 := by
    rw [hnow]
    split
    · rfl
    · exact fastBytes_length s
  have hrest := windowReads_fast (s := (s.windowRead p).2) k (by omega) (by omega) hnext hlen
  rw [windowReads_succ, ← hnow]
  refine ⟨?_, fun hr => ?_⟩
  · rw [fast_windowRead_byte hnat, List.take_succ_cons, hrest]
    generalize (s.windowRead p).2.fastNow p = l at *
    match l with
    | b :: l => simp [byteAt]
  · exact (windowReads_keeps (f := HostPortAux.fast) afterFast_next (fun x hx => fast_windowRead (by unfold AfterFast at hx; omega)) k _
      (by unfold AfterFast; omega)).trans (fast_windowRead_latch hnat hr)

end

section
variable {s : State} {p : HostPort}

/-- The locations below the streams that lie past `a`: a read that has passed `a` does not meet it again. -/
def Past (a b : Nat) : Prop := a < b ∧ b ≤ 0x10

theorem past_next (a : Nat) : ∀ b < 256, Past a b → Past a (pointerNext b).toNat := by
  intro b hb h
  rw [pointerNext_toNat hb]
  unfold Past at *
  split <;> omega

theorem pointer_windowRead_past {a : Nat} (ha : a < 0x10) (h : (s.port p).pointer.toNat = a) :
    Past a ((s.windowRead p).2.port p).pointer.toNat := by
  rw [pointer_windowRead, pointerNext_toNat (by omega), h]
  unfold Past
  split <;> omega

theorem windowByte_of_eq {a : Nat} (h : (s.port p).pointer.toNat = a) (hne : a ≠ 0x20) :
    (s.windowRead p).1 = BitVec.ofNat 8 (s.windowByte p a) := by rw [← h] at hne ⊢; exact byte_windowRead hne

/-- A read from ALERT_CAUSE on gives it, and clears it (R388). -/
theorem windowReads_alertCause {k : Nat} (hk : 1 ≤ k) (hp : (s.port p).pointer.toNat = 0x09) :
    (s.windowReads p k).1.take 1 = [BitVec.ofNat 8 (s.port p).alertCause] ∧
      ((s.windowReads p k).2.port p).alertReleased = false ∧ ((s.windowReads p k).2.port p).alertCause =
        if s.par (oPort p) Pid.HPort.CAUTIOUS = 1 ∧ (s.port p).alertCause.testBit alProtocol = true then 2 ^ alProtocol else 0 := by
  obtain ⟨k, rfl⟩ := Nat.exists_eq_add_of_le' hk
  have hkeep := windowReads_keeps (f := fun x => (x.alertReleased, x.alertCause)) (past_next 0x09)
    (fun x hx => by
      obtain ⟨hc, hr⟩ := alert_windowRead (s := x) (p := p) (by unfold Past at hx; omega)
      rw [hc, hr]) k _ (pointer_windowRead_past (by decide) hp)
  obtain ⟨hr, hc⟩ := alert_windowRead_clear hp
  rw [windowReads_succ]
  exact ⟨congrArg (· :: []) (windowByte_of_eq hp (by decide)), (congrArg Prod.fst hkeep).trans hr, (congrArg Prod.snd hkeep).trans hc⟩

/-- A read from the low byte of a count on gives the whole count, and latches its high byte. -/
theorem windowReads_high {k a lo : Nat} {hi : Byte} {f : HostPortAux → Byte} (hk : 1 ≤ k) (ha : a = 0x0C ∨ a = 0x0E)
    (hp : (s.port p).pointer.toNat = a) (hlo : s.windowByte p a = lo) (hf : f ((s.windowRead p).2.port p) = hi)
    (hhi : ∀ x : State, x.windowByte p (a + 1) = (f (x.port p)).toNat)
    (hkeep : ∀ x : State, Past a (x.port p).pointer.toNat → f ((x.windowRead p).2.port p) = f (x.port p)) :
    (s.windowReads p k).1.take 2 = [BitVec.ofNat 8 lo, hi].take k ∧ f ((s.windowReads p k).2.port p) = hi := by
  obtain ⟨k, rfl⟩ := Nat.exists_eq_add_of_le' hk
  have hpast : Past a ((s.windowRead p).2.port p).pointer.toNat := pointer_windowRead_past (by omega) hp
  have hnext : ((s.windowRead p).2.port p).pointer.toNat = a + 1 := by
    rw [pointer_windowRead, hp, pointerNext_toNat (by omega), if_neg (by omega)]
    omega
  rw [windowReads_succ, windowByte_of_eq hp (by omega), hlo]
  refine ⟨?_, (windowReads_keeps (past_next a) hkeep k _ hpast).trans hf⟩
  cases k with
  | zero => rfl
  | succ k =>
    rw [windowReads_succ, windowByte_of_eq hnext (by omega), hhi, hf]
    simp

end

/-! ## A read row in its proper form -/

theorem readData_length (s : State) (p : HostPort) (k : Nat) (keep : Bool) : (s.readData p k keep).1.length = k := by
  unfold State.readData
  split
  · simp
  · exact windowReads_length s p k

/-- A transaction has named an address of a port, and set its pointer. -/
def State.addressed (s : State) (p : HostPort) (hit : Fin 4) (speed : BusSpeed) (ptr : Byte) : State :=
  (s.named p hit speed).setPointer p ptr

theorem port_addressed (s : State) (p : HostPort) (hit : Fin 4) (speed : BusSpeed) (ptr : Byte) :
    (s.addressed p hit speed ptr).port p = { s.port p with hit := hit, pointer := ptr } :=
  (port_setPointer ..).trans (congrArg (fun x : HostPortAux => { x with pointer := ptr }) (State.port_modPort s p _))

theorem addressed_foot {s : State} {p : HostPort} {hit : Fin 4} {speed : BusSpeed} {ptr : Byte} :
    Foot [.ports] (some [Pid.HPort.SPEED_SEEN]) s (s.addressed p hit speed ptr) :=
  State.setPointer_foot.on State.named_foot

/-- A read row in its proper form: its data are driven and its effect taken between START and STOP. -/
theorem readRow_proper {s : State} {p : HostPort} {acc : HostAccess} {k : Nat} (ptr : Byte) (hp : s.portAnswers p = true)
    (ha : (s.addressHit p acc.addr).isSome = true) (hk : 1 ≤ k) (hpec : s.pecActive p = true → k < 256) :
    ∃ hit l y, (s.addressed p hit acc.speed ptr).readData p k false = (l, y) ∧ l.length = k ∧
      s.readRow p acc (properForm s p k) ptr (properLen s p k) = (y.drive p (asRead s p acc ptr l)).busStop p := by
  obtain ⟨hit, hhit⟩ := Option.isSome_iff_exists.1 ha
  let x := s.addressed p hit acc.speed ptr
  have hlen := readData_length x p k false
  refine ⟨hit, (x.readData p k false).1, (x.readData p k false).2, rfl, hlen, ?_⟩
  simp only [State.readRow, State.transaction, hp, if_true, hhit, pecActive_named, properForm, properLen, asRead]
  cases hb : s.pecActive p with
  | false => rfl
  | true =>
    have hkb : k < 256 := hpec hb
    have hnz : BitVec.ofNat 8 k ≠ 0 := fun e => by
      have := congrArg BitVec.toNat e
      simp at this
      omega
    have hc : (BitVec.ofNat 8 k).toNat = k := by simp; omega
    simp only [if_true, if_neg hnz, State.pecRead, hc, Nat.min_eq_right (Nat.le_succ k), Nat.not_succ_le_self, if_false,
      decide_false, hlen, Nat.add_sub_cancel_left, Nat.sub_self, List.replicate_zero]
    rfl

/-- What a port drives for the `k` data bytes of a read in its proper form; they begin as `first` does. -/
def Drives (s : State) (p : HostPort) (acc : HostAccess) (k : Nat) (ptr : Byte) (first : Bytes) (t : State) : Prop :=
  ∃ l, (t.port p).driven = asRead s p acc ptr l ∧ l.length = k ∧ l.take first.length = first.take k

theorem drive_stop_driven (y : State) (p : HostPort) (l : Bytes) : (((y.drive p l).busStop p).port p).driven = l := by
  rw [(busStop_port (f := HostPortAux.driven) (y.drive p l) p).port, State.drive, State.port_modPort]

theorem drive_stop_port {β : Type} {f : HostPortAux → β} (y : State) (p : HostPort) (l : Bytes)
    (hd : ∀ x l, f { x with driven := l } = f x := by intros; rfl)
    (ha : ∀ x l, f { x with addrs := l } = f x := by intros; rfl) : PortKept f y ((y.drive p l).busStop p) :=
  .trans (.modPort (.refl y) fun x => hd x l) (busStop_port _ _ ha)

/-- What a read row in its proper form leaves, where its data do not come from REPLY_STREAM. -/
theorem readRow_window {β : Type} {s : State} {p : HostPort} {acc : HostAccess} {k : Nat} {ptr : Byte} {first : Bytes}
    {v : β} (f : HostPortAux → β) (hp : s.portAnswers p = true) (ha : (s.addressHit p acc.addr).isSome = true) (hk : 1 ≤ k)
    (hpec : s.pecActive p = true → k < 256) (hptr : ptr ≠ 0x11)
    (hread : ∀ hit, let r := (s.addressed p hit acc.speed ptr).windowReads p k
      r.1.take first.length = first.take k ∧ f (r.2.port p) = v)
    (hd : ∀ x l, f { x with driven := l } = f x := by intros; rfl)
    (hs : ∀ x l, f { x with addrs := l } = f x := by intros; rfl) :
    let t := s.readRow p acc (properForm s p k) ptr (properLen s p k)
    Drives s p acc k ptr first t ∧ f (t.port p) = v := by
  obtain ⟨hit, l, y, hdata, hlen, hrow⟩ := readRow_proper ptr hp ha hk hpec
  obtain ⟨hl, hy⟩ := hread hit
  have hreads : (s.addressed p hit acc.speed ptr).windowReads p k = (l, y) := by
    rw [← hdata, State.readData, if_neg (by rw [port_addressed]; exact hptr)]
  rw [hreads] at hl hy
  rw [hrow]
  exact ⟨⟨l, drive_stop_driven .., hlen, hl⟩, ((drive_stop_port y p _ hd hs).port p).trans hy⟩

/-! ## The read rows in their proper form -/

section
variable {s : State} {p : HostPort} {acc : HostAccess} {k : Nat}

theorem replyAvail_addressed (hit : Fin 4) (speed : BusSpeed) (ptr : Byte) :
    (s.addressed p hit speed ptr).replyAvail p = s.replyAvail p := by
  unfold State.replyAvail
  rw [port_addressed]

theorem reqSpace_addressed (hit : Fin 4) (speed : BusSpeed) (ptr : Byte) :
    (s.addressed p hit speed ptr).reqSpace p = s.reqSpace p := by
  unfold State.reqSpace
  rw [port_addressed]

theorem pointer_addressed (hit : Fin 4) (speed : BusSpeed) (ptr : Byte) :
    ((s.addressed p hit speed ptr).port p).pointer.toNat = ptr.toNat := by rw [port_addressed]

theorem readData_stream_empty {x : State} (hp : (x.port p).pointer.toNat = 0x11) (hr : (x.port p).replies = []) :
    x.readData p k false = (List.replicate k 0, x) := by
  have hp : (x.port p).pointer = 0x11 := BitVec.eq_of_toNat_eq hp
  simp [State.readData, State.unread, hp, hr]

theorem readData_stream {x : State} {r : Reply} {rest : List Reply} (hp : (x.port p).pointer.toNat = 0x11)
    (hr : (x.port p).replies = r :: rest) (hpos : (x.port p).readPos < r.bytes.length) (hk : 1 ≤ k) :
    x.readData p k false =
      ((r.bytes.drop (x.port p).readPos ++ List.replicate k 0).take k,
        x.consumeReply p (min k (r.bytes.length - (x.port p).readPos))) := by
  have hp : (x.port p).pointer = 0x11 := BitVec.eq_of_toNat_eq hp
  have hne : ¬ ((r.bytes.drop (x.port p).readPos).take k).isEmpty = true := by
    rw [List.isEmpty_iff, ← List.length_eq_zero_iff, List.length_take, List.length_drop]
    omega
  simp only [State.readData, State.unread, hp, hr, if_true, Bool.false_or, if_neg hne, List.length_take, List.length_drop,
    List.take_append, List.take_replicate]
  congr 3
  omega

/-- Bytes of a reply are consumed that are not its last. -/
theorem consumeReply_part {x : State} {n : Nat} {r : Reply} {rest : List Reply} (hr : (x.port p).replies = r :: rest)
    (h : (x.port p).readPos + n < r.bytes.length) :
    ((x.consumeReply p n).port p).replies = r :: rest ∧ ((x.consumeReply p n).port p).readPos = (x.port p).readPos + n ∧
      (x.consumeReply p n).hopper = x.hopper := by
  unfold State.consumeReply
  rw [hr]
  simp only [if_pos h, State.port_modPort, hr]
  trivial

/-- The last byte of a reply is consumed: the reply leaves the port, and its operation's entry is free. -/
theorem consumeReply_last {x : State} {n : Nat} {r : Reply} {rest : List Reply} (hr : (x.port p).replies = r :: rest)
    (h : ¬ (x.port p).readPos + n < r.bytes.length) :
    ((x.consumeReply p n).port p).replies = rest ∧ ((x.consumeReply p n).port p).readPos = 0 ∧
      ∀ e ∈ (x.consumeReply p n).hopper.ops, some e.id ≠ r.op := by
  have hdrop (y : State) (id : Nat) : (y.dropOp id).port p = y.port p := rfl
  have hops (y : State) (id : Nat) : (y.dropOp id).hopper.ops = y.hopper.ops.filter fun e => e.id != id := rfl
  unfold State.consumeReply
  rw [hr]
  simp only [if_neg h]
  cases hop : r.op with
  | none => simp [State.port_modPort]
  | some id => simp [hdrop, hops, State.port_modPort]

/-- The port names its address, and the host clocks a whole number of bytes that COUNT can give. -/
structure ReadsProperly (s : State) (p : HostPort) (acc : HostAccess) (k : Nat) : Prop where
  answers : s.portAnswers p = true
  hits : (s.addressHit p acc.addr).isSome = true
  pos : 1 ≤ k
  count : s.pecActive p = true → k < 256

variable (h : ReadsProperly s p acc k)
include h

/-- A read of an empty REPLY_STREAM drives 0x00 (R385). -/
theorem replyStream_empty (hr : (s.port p).replies = []) :
    Runs (.replyStream p ⟨acc, properForm s p k, properLen s p k⟩) s (Drives s p acc k 0x11 (List.replicate k 0)) := by
  obtain ⟨hit, l, y, hdata, hlen, hrow⟩ := readRow_proper 0x11 h.answers h.hits h.pos h.count
  rw [readData_stream_empty (pointer_addressed ..) (by rw [port_addressed]; exact hr)] at hdata
  obtain ⟨rfl, rfl⟩ := Prod.mk.inj hdata
  exact ⟨_, congrArg Host.Outcome.next hrow, _, drive_stop_driven .., hlen, by simp⟩

/-- A read of REPLY_STREAM drives the reply's next bytes and consumes them; its last one frees the operation's entry (R385). -/
theorem replyStream_consumes {r : Reply} {rest : List Reply} (hr : (s.port p).replies = r :: rest)
    (hpos : (s.port p).readPos < r.bytes.length) :
    Runs (.replyStream p ⟨acc, properForm s p k, properLen s p k⟩) s fun t =>
      Drives s p acc k 0x11 (r.bytes.drop (s.port p).readPos ++ List.replicate k 0) t ∧
      ((s.port p).readPos + k < r.bytes.length →
        (t.port p).replies = r :: rest ∧ (t.port p).readPos = (s.port p).readPos + k ∧ t.hopper = s.hopper) ∧
      (r.bytes.length ≤ (s.port p).readPos + k →
        (t.port p).replies = rest ∧ (t.port p).readPos = 0 ∧ ∀ e ∈ t.hopper.ops, some e.id ≠ r.op) := by
  obtain ⟨hit, l, y, hdata, hlen, hrow⟩ := readRow_proper 0x11 h.answers h.hits h.pos h.count
  let x := s.addressed p hit acc.speed 0x11
  have hxr : (x.port p).replies = r :: rest := by
    rw [port_addressed]
    exact hr
  have hxp : (x.port p).readPos = (s.port p).readPos := by rw [port_addressed]
  rw [readData_stream (pointer_addressed ..) hxr (hxp ▸ hpos) h.pos, hxp] at hdata
  obtain ⟨rfl, rfl⟩ := Prod.mk.inj hdata
  let n := min k (r.bytes.length - (s.port p).readPos)
  have hport (y : State) (l : Bytes) := (drive_stop_port (f := fun b => (b.replies, b.readPos)) y p l).port p
  have hhopper (y : State) (l : Bytes) : ((y.drive p l).busStop p).hopper = y.hopper :=
    (State.busStop_foot.fld .hopper rfl).trans (State.drive_foot.fld .hopper rfl)
  refine ⟨_, congrArg Host.Outcome.next hrow, ⟨_, drive_stop_driven .., hlen, ?_⟩, fun hmore => ?_, fun hlast => ?_⟩
  · rw [List.take_take, List.length_append, List.length_replicate, Nat.min_eq_right (Nat.le_add_left k _)]
  · obtain ⟨hreplies, hread⟩ := Prod.mk.inj (hport (x.consumeReply p n) _)
    obtain ⟨hc, hcp, hch⟩ := consumeReply_part (n := n) hxr (by rw [hxp]; omega)
    refine ⟨hreplies.trans hc, hread.trans ?_, (hhopper ..).trans (hch.trans (addressed_foot.fld .hopper rfl))⟩
    rw [hcp, hxp]
    omega
  · obtain ⟨hreplies, hread⟩ := Prod.mk.inj (hport (x.consumeReply p n) _)
    obtain ⟨hc, hcp, hch⟩ := consumeReply_last (n := n) hxr (by rw [hxp]; omega)
    exact ⟨hreplies.trans hc, hread.trans hcp, by rw [hhopper]; exact hch⟩

/-- A read from ALERT_CAUSE on. -/
theorem alertCause_reads : Runs (.alertCause p ⟨acc, properForm s p k, properLen s p k⟩) s fun t =>
    Drives s p acc k 0x09 [BitVec.ofNat 8 (s.port p).alertCause] t ∧ (t.port p).alertReleased = false ∧
      (t.port p).alertCause =
        if s.par (oPort p) Pid.HPort.CAUTIOUS = 1 ∧ (s.port p).alertCause.testBit alProtocol = true then 2 ^ alProtocol
        else 0 := by
  have hread (hit : Fin 4) := windowReads_alertCause (s := s.addressed p hit acc.speed 0x09) h.pos (pointer_addressed ..)
  have hcautious (hit : Fin 4) : (s.addressed p hit acc.speed 0x09).par (oPort p) Pid.HPort.CAUTIOUS =
      s.par (oPort p) Pid.HPort.CAUTIOUS := addressed_foot.par _ rfl _ _ (by decide) rfl
  simp only [port_addressed, hcautious] at hread
  obtain ⟨hdrives, halert⟩ := readRow_window (ptr := 0x09) (first := [BitVec.ofNat 8 (s.port p).alertCause])
    (fun b => (b.alertReleased, b.alertCause)) h.answers h.hits h.pos h.count (by decide)
    fun hit => ⟨(hread hit).1.trans (List.take_of_length_le h.pos).symm, Prod.mk.injEq .. ▸ (hread hit).2⟩
  obtain ⟨hreleased, hcause⟩ := Prod.mk.inj halert
  exact ⟨_, rfl, hdrives, hreleased, hcause⟩

/-- A read from FAST_STATUS on latches its 32 bytes. -/
theorem fastStatus_reads (hr : s.supply.cs ≠ .rom) :
    Runs (.fastStatus p ⟨acc, properForm s p k, properLen s p k⟩) s fun t =>
      (t.port p).fast = s.fastBytes ∧ Drives s p acc k 0x20 s.fastBytes t := by
  have hfast (hit : Fin 4) : (s.addressed p hit acc.speed 0x20).fastBytes = s.fastBytes := fastBytes_of_foot addressed_foot
  have hcs (hit : Fin 4) : (s.addressed p hit acc.speed 0x20).supply.cs ≠ .rom := by
    rwa [addressed_foot.fld .supply rfl]
  obtain ⟨hdrives, hlatch⟩ := readRow_window (ptr := 0x20) (first := s.fastBytes) HostPortAux.fast h.answers h.hits h.pos
    h.count (by decide) fun hit => by
      obtain ⟨hl, hf⟩ := windowReads_fastStatus (s := s.addressed p hit acc.speed 0x20) h.pos (by rw [port_addressed])
      rw [if_neg (hcs hit), hfast] at hl
      exact ⟨(fastBytes_length s).symm ▸ hl, (hf (hcs hit)).trans (hfast hit)⟩
  exact ⟨_, rfl, hlatch, hdrives⟩

/-- In ROM recovery FAST_STATUS reads 0x00. -/
theorem fastStatus_rom (hr : s.supply.cs = .rom) :
    Runs (.fastStatus p ⟨acc, properForm s p k, properLen s p k⟩) s (Drives s p acc k 0x20 (List.replicate 32 0)) := by
  refine ⟨_, rfl, (readRow_window (ptr := 0x20) (first := List.replicate 32 0) (fun _ => ()) h.answers h.hits h.pos
    h.count (by decide) fun hit => ⟨?_, rfl⟩).1⟩
  have hl := (windowReads_fastStatus (s := s.addressed p hit acc.speed 0x20) h.pos (by rw [port_addressed])).1
  rwa [if_pos ((congrArg SupplyState.cs (addressed_foot.fld .supply rfl)).trans hr)] at hl

/-- A read from the low byte of REQ_SPACE or of REPLY_AVAIL on gives the count, and latches its high byte. -/
theorem highByte_reads :
    (Runs (.highByteLatch p false ⟨acc, properForm s p k, properLen s p k⟩) s fun t =>
      Drives s p acc k 0x0C [BitVec.ofNat 8 (s.reqSpace p % 256), BitVec.ofNat 8 (s.reqSpace p / 256)] t ∧
      (t.port p).spaceHigh = BitVec.ofNat 8 (s.reqSpace p / 256)) ∧
    (Runs (.highByteLatch p true ⟨acc, properForm s p k, properLen s p k⟩) s fun t =>
      Drives s p acc k 0x0E [BitVec.ofNat 8 (s.replyAvail p % 256), BitVec.ofNat 8 (s.replyAvail p / 256)] t ∧
      (t.port p).availHigh = BitVec.ofNat 8 (s.replyAvail p / 256)) := by
  refine ⟨⟨_, rfl, readRow_window (ptr := 0x0C) HostPortAux.spaceHigh h.answers h.hits h.pos h.count (by decide) fun hit => ?_⟩,
    ⟨_, rfl, readRow_window (ptr := 0x0E) HostPortAux.availHigh h.answers h.hits h.pos h.count (by decide) fun hit => ?_⟩⟩
  · refine windowReads_high h.pos (.inl rfl) (pointer_addressed ..) ?_ ?_ (fun x => rfl) fun x hx => ?_
    · rw [← reqSpace_addressed hit acc.speed 0x0C]
      rfl
    · rw [spaceHigh_windowRead_latch (pointer_addressed ..), reqSpace_addressed]
    · exact spaceHigh_windowRead hx.1.ne'
  · refine windowReads_high h.pos (.inr rfl) (pointer_addressed ..) ?_ ?_ (fun x => rfl) fun x hx => ?_
    · rw [← replyAvail_addressed hit acc.speed 0x0E]
      rfl
    · rw [availHigh_windowRead_latch (pointer_addressed ..), replyAvail_addressed]
    · exact availHigh_windowRead hx.1.ne'

end

/-! ## A violation: its parameters, its record and what it leaves of the port -/

/-- What a transaction moves of a port: its packet, its replies and its pointer. -/
abbrev TransferKept : State → State → Prop :=
  PortKept fun a => (a.build, a.written, a.waiting, a.replies, a.readPos, a.pointer)

theorem raisePort_transfer (s : State) (p : HostPort) (c : Nat) : TransferKept s (s.raisePort p c) := by
  unfold State.raisePort
  exact .modPort (.refl s) fun a => by split <;> rfl

theorem record_transfer (s : State) (source cls event : Nat) (snap : List Snap) :
    TransferKept s (s.record source cls event snap) := by
  unfold State.record State.createRec
  extract_lets g t
  have ht : TransferKept s t := .foot (.refl s) State.storeRec_foot
  exact .ite (.refl s) (.ite (.same (.refl s)) (.ite (.same (.refl s))
    (.ite (((ht.foot State.storeRec_foot).trans (raisePort_transfer ..)).trans (raisePort_transfer ..)) ht)))

section
variable (s : State) (p : HostPort) (st rs op tp n : Nat)

/-- The port's parameters of a violation are written, its record stands, and cautious mode may follow. -/
theorem violation_cases : ∃ x : State, TransferKept s x ∧
    Foot [.ports] (some [Pid.HPort.VIOLATION_COUNT, Pid.HPort.LAST_VIOLATION]) s x ∧
    x.par (oPort p) Pid.HPort.VIOLATION_COUNT = (s.incPar (oPort p) Pid.HPort.VIOLATION_COUNT).par (oPort p) Pid.HPort.VIOLATION_COUNT ∧
    x.par (oPort p) Pid.HPort.LAST_VIOLATION = (((st * 256 + rs) * 256 + op) * 256 + tp : Nat) ∧
    (s.violation p st rs op tp n = x.violationRecord p st rs op tp n ∨
      ∃ y : State, TransferKept (x.violationRecord p st rs op tp n) y ∧
        Foot [.ports] (some [Pid.HPort.CAUTIOUS]) (x.violationRecord p st rs op tp n) y ∧
        s.violation p st rs op tp n = y.violationRecord p st rs op tp n) := by
  unfold State.violation
  extract_lets a b c d
  have hb : TransferKept s b := .modPort (.same (y := a) (.refl s))
  refine ⟨c, hb.same, ?_, ?_, State.par_setPar_same _ (by decide) _, ?_⟩
  · exact .setPar (State.modPort_foot.on (.incPar (.refl _ _ _)))
  · exact (par_setPar_pid _ _ (by decide) (by decide) (by decide)).trans rfl
  · split
    · exact .inr ⟨_, (PortKept.same (.refl d)).trans (raisePort_transfer ..), State.raisePort_foot.on (.setPar (.refl _ _ _)), rfl⟩
    · exact .inl rfl

theorem violation_transfer : TransferKept s (s.violation p st rs op tp n) := by
  obtain ⟨x, hx, -, -, -, h | ⟨y, hy, -, h⟩⟩ := violation_cases s p st rs op tp n
  · rw [h]
    exact hx.trans (record_transfer ..)
  · rw [h]
    exact ((hx.trans (record_transfer ..)).trans hy).trans (record_transfer ..)

theorem violation_par : (s.violation p st rs op tp n).par (oPort p) Pid.HPort.LAST_VIOLATION =
      (((st * 256 + rs) * 256 + op) * 256 + tp : Nat) ∧
    (s.violation p st rs op tp n).par (oPort p) Pid.HPort.VIOLATION_COUNT =
      (s.incPar (oPort p) Pid.HPort.VIOLATION_COUNT).par (oPort p) Pid.HPort.VIOLATION_COUNT := by
  obtain ⟨x, -, -, hcount, hlast, h⟩ := violation_cases s p st rs op tp n
  have hfoot : Foot [.ports, .grist] (some [5, 257, 258, 260, 261, 264, Pid.HPort.CAUTIOUS]) x (s.violation p st rs op tp n) := by
    obtain h | ⟨y, -, hy, h⟩ := h
    · rw [h]
      exact State.violationRecord_foot.within
    · rw [h]
      exact State.violationRecord_foot.on (hy.on State.violationRecord_foot.within)
  exact ⟨(hfoot.par _ rfl _ _ (by decide) rfl).trans hlast, (hfoot.par _ rfl _ _ (by decide) rfl).trans hcount⟩

end

/-- What a violation of the window leaves of the port's parameters (R373, R386). -/
def Violated (s : State) (p : HostPort) (t : State) (reason at_ : Nat) : Prop :=
  t.par (oPort p) Pid.HPort.LAST_VIOLATION = violationWord reason at_ ∧
  t.par (oPort p) Pid.HPort.VIOLATION_COUNT = s.par (oPort p) Pid.HPort.VIOLATION_COUNT + 1 ∧
  t.par (oPort p) Pid.HPort.PEC_ERRORS = s.par (oPort p) Pid.HPort.PEC_ERRORS + (if reason = 0x90 then 0 else 1)

section
variable {s t u : State} {p : HostPort} {reason at_ : Nat}

/-- The parameters that a violation writes. -/
abbrev violationPids : List Nat := [Pid.HPort.LAST_VIOLATION, Pid.HPort.VIOLATION_COUNT, Pid.HPort.PEC_ERRORS]

theorem Violated.foot {fs : List Fld} {ps : List Nat} (h : Violated s p t reason at_) (k : Foot fs (some ps) t u)
    (hp : violationPids.all (fun q => !ps.contains q) = true := by rfl) : Violated s p u reason at_ := by
  have hq (q : Nat) (hq : q ∈ violationPids) : u.par (oPort p) q = t.par (oPort p) q := by
    refine k.par _ rfl _ _ ?_ (by simpa using List.all_eq_true.1 hp q hq)
    exact (by decide : ∀ q ∈ violationPids, q < 4096) q hq
  obtain ⟨hlast, hcount, hpec⟩ := h
  exact ⟨(hq _ (by decide)).trans hlast, (hq _ (by decide)).trans hcount, (hq _ (by decide)).trans hpec⟩

theorem violationCount_hi (p : HostPort) :
    (findDesc (oPort p) Pid.HPort.VIOLATION_COUNT).map Desc.hi = some 4294967295 := by cases p <;> decide

theorem pecErrors_hi (p : HostPort) : (findDesc (oPort p) Pid.HPort.PEC_ERRORS).map Desc.hi = some 4294967295 := by
  cases p <;> decide

theorem windowViolation_violated (n : Nat) (hv : s.par (oPort p) Pid.HPort.VIOLATION_COUNT < 4294967295)
    (he : s.par (oPort p) Pid.HPort.PEC_ERRORS < 4294967295) :
    Violated s p (s.windowViolation p reason at_ n) reason at_ := by
  unfold State.windowViolation
  extract_lets x
  obtain ⟨hlast, hcount⟩ := violation_par x p stPROTOCOL reason at_ 0 n
  have hx : Foot [] (some [Pid.HPort.PEC_ERRORS]) s x := .ite (.refl _ _ _) (.incPar (.refl _ _ _))
  have hxv : x.par (oPort p) Pid.HPort.VIOLATION_COUNT = s.par (oPort p) Pid.HPort.VIOLATION_COUNT :=
    hx.par _ rfl _ _ (by decide) rfl
  have hxe : x.par (oPort p) Pid.HPort.PEC_ERRORS = s.par (oPort p) Pid.HPort.PEC_ERRORS + (if reason = 0x90 then 0 else 1) := by
    unfold x
    split
    · simp
    · exact par_incPar_of_hi (pecErrors_hi p) he
  refine ⟨by rw [hlast, Nat.add_zero, violationWord], ?_, (State.violation_foot.par _ rfl _ _ (by decide) rfl).trans hxe⟩
  rw [hcount, par_incPar_of_hi (violationCount_hi p) (hxv ▸ hv), hxv]

theorem windowViolation_transfer (s : State) (p : HostPort) (reason at_ n : Nat) :
    TransferKept s (s.windowViolation p reason at_ n) := by
  unfold State.windowViolation
  exact (PortKept.ite (.refl s) (.same (.refl s))).trans (violation_transfer ..)

end

/-! ## The record of a violation -/

section
variable {s : State} {source cls event : Nat} {late : Bool} {snap : List Snap}

/-- A record of a source stands in the circular area. -/
def Recorded (s : State) (source cls event : Nat) (words : List Word) : Prop :=
  ∃ x ∈ s.grist.circ, x.source = source ∧ x.cls = cls ∧ x.event = event ∧ x.snap.take 5 = words

theorem seqAfter_place {n : Nat} (h : n ≤ 4294967295) : seqAfter n % 2048 ≠ n % 2048 ∧ seqAfter n ≤ 4294967295 := by
  unfold seqAfter
  split <;> omega

/-- A created record stands in the circular area, also where FIRST_FULL follows it. -/
theorem createRec_recorded (hc : countOf source s.grist.created < 1048575) (hg : s.grist.nextGen ≤ 4294967295) :
    Recorded (s.createRec source cls event late snap) source cls event ((snap.flatMap (Snap.words s)).take 5) ∧
      (s.createRec source cls event late snap).grist.nextGen ≤ 4294967295 := by
  unfold State.createRec
  rw [if_neg (Nat.not_le.2 hc)]
  extract_lets t
  obtain ⟨hplace, hnext⟩ := seqAfter_place hg
  split
  · obtain ⟨-, hnext2⟩ := seqAfter_place hnext
    have hraise (y : State) (c : Nat) : (y.raise c).grist = y.grist := State.raise_foot.fld .grist rfl
    rw [Recorded, hraise]
    refine ⟨⟨_, List.mem_cons_of_mem _ (List.mem_filter.2 ⟨List.mem_cons_self, ?_⟩), rfl, rfl, rfl, List.take_take ..⟩, hnext2⟩
    exact bne_iff_ne.2 hplace.symm
  · exact ⟨⟨_, List.mem_cons_self, rfl, rfl, rfl, List.take_take ..⟩, hnext⟩

/-- A record that is created or suppressed leaves one that stands, where it is of the same words itself. -/
theorem createRec_keeps_recorded (hg : s.grist.nextGen ≤ 4294967295)
    (h : Recorded s source cls event ((snap.flatMap (Snap.words s)).take 5)) :
    Recorded (s.createRec source cls event late snap) source cls event ((snap.flatMap (Snap.words s)).take 5) := by
  by_cases hc : countOf source s.grist.created < 1048575
  · exact (createRec_recorded hc hg).1
  · unfold State.createRec
    rw [if_pos (Nat.le_of_not_lt hc)]
    exact h

theorem record_of_miller3 (h : s.miller3 = true) : s.record source cls event snap = s.createRec source cls event false snap := by
  obtain ⟨hrun, hrest⟩ := Bool.and_eq_true_iff.1 h
  unfold State.record
  rw [if_neg (by simpa using hrun), if_neg (by simpa using hrest)]

theorem miller3_of_same {t : State} (hs : t.supply = s.supply) (hm : t.miller = s.miller) : t.miller3 = s.miller3 := by
  unfold State.miller3 State.running
  rw [hs, hm]

theorem violation_recorded (p : HostPort) (st rs op tp n : Nat) (hm : s.miller3 = true)
    (hc : countOf (oPort p) s.grist.created < 1048575) (hg : s.grist.nextGen ≤ 4294967295) :
    Recorded (s.violation p st rs op tp n) (oPort p) rcSecurity 0x41
      [BitVec.ofInt 32 st, BitVec.ofInt 32 rs, BitVec.ofInt 32 op, BitVec.ofInt 32 tp, BitVec.ofInt 32 n] := by
  obtain ⟨x, -, hx, -, -, h⟩ := violation_cases s p st rs op tp n
  have hgrist := hx.fld .grist rfl
  have hxm : x.miller3 = true := (miller3_of_same (hx.fld .supply rfl) (hx.fld .miller rfl)).trans hm
  have hfirst := createRec_recorded (s := x) (source := oPort p) (cls := rcSecurity) (event := 0x41) (late := false)
    (snap := [.lit st, .lit rs, .lit op, .lit tp, .lit n, .lit (x.violations1s p), .par (oPort p) Pid.HPort.CAUTIOUS])
    (hgrist ▸ hc) (hgrist ▸ hg)
  rw [← record_of_miller3 hxm] at hfirst
  obtain h | ⟨y, -, hy, h⟩ := h
  · rw [h]
    exact hfirst.1
  · have hym : y.miller3 = true := (miller3_of_same
      ((hy.fld .supply rfl).trans (State.violationRecord_foot.fld .supply rfl))
      ((hy.fld .miller rfl).trans (State.violationRecord_foot.fld .miller rfl))).trans hxm
    rw [h, State.violationRecord, record_of_miller3 hym]
    refine createRec_keeps_recorded ?_ ?_
    · rw [hy.fld .grist rfl]
      exact hfirst.2
    · unfold Recorded
      rw [hy.fld .grist rfl]
      exact hfirst.1

end

/-! ## The rows as transactions -/

section
variable {s : State} {p : HostPort} {acc : HostAccess}

theorem exec_readRows (form : ReadForm) (n : Nat) {e : Instr × Byte} (he : e ∈ readRows p acc form n) :
    exec e.1 s = .next (s.readRow p acc form e.2 n) := by
  simp only [readRows, List.mem_cons, List.not_mem_nil, or_false] at he
  rcases he with rfl | rfl | rfl | rfl | rfl <;> rfl

theorem readRows_pointer {form : ReadForm} {n : Nat} {e : Instr × Byte} (he : e ∈ readRows p acc form n) :
    readOnlyAt e.2.toNat = true := by
  simp only [readRows, List.mem_cons, List.not_mem_nil, or_false] at he
  rcases he with rfl | rfl | rfl | rfl | rfl <;> rfl

theorem exec_writeRows (ptr : Byte) (rest : Bytes) {e : Instr × Byte × Bytes} (he : e ∈ writeRows p acc ptr rest) :
    exec e.1 s = .next (s.write p acc e.2.1 e.2.2) := by
  simp only [writeRows, List.mem_cons, List.not_mem_nil, or_false] at he
  rcases he with rfl | rfl | rfl | rfl <;> rfl

theorem transaction_refused (act : State → State) (h : s.portAnswers p = false ∨ s.addressHit p acc.addr = none) :
    s.transaction p acc act = s.busStop p := by
  unfold State.transaction
  cases hp : s.portAnswers p with
  | false => rfl
  | true => simp [h.resolve_left (by simp [hp])]

/-- The port acknowledges the address of a transaction. -/
structure Names (s : State) (p : HostPort) (acc : HostAccess) : Prop where
  answers : s.portAnswers p = true
  hits : (s.addressHit p acc.addr).isSome = true

theorem Names.transaction (h : Names s p acc) :
    ∃ hit, ∀ act : State → State, s.transaction p acc act = (act (s.named p hit acc.speed)).busStop p := by
  obtain ⟨hit, hhit⟩ := Option.isSome_iff_exists.1 h.hits
  refine ⟨hit, fun act => ?_⟩
  simp only [State.transaction, h.answers, if_true, hhit]

/-! ## Violations -/

/-- The counts of violations have room for one more. -/
structure CountsRoom (s : State) (p : HostPort) : Prop where
  violations : s.par (oPort p) Pid.HPort.VIOLATION_COUNT < 4294967295
  pecErrors : s.par (oPort p) Pid.HPort.PEC_ERRORS < 4294967295

theorem CountsRoom.violated {x : State} {fs : List Fld} {ps : List Nat} (h : CountsRoom s p) (k : Foot fs (some ps) s x)
    (reason at_ n : Nat) (hp : [Pid.HPort.VIOLATION_COUNT, Pid.HPort.PEC_ERRORS].all (fun q => !ps.contains q) = true := by rfl) :
    Violated s p (x.windowViolation p reason at_ n) reason at_ := by
  have hq : ∀ q ∈ [Pid.HPort.VIOLATION_COUNT, Pid.HPort.PEC_ERRORS], x.par (oPort p) q = s.par (oPort p) q := fun q hq =>
    k.par _ rfl _ _ ((by decide : ∀ q ∈ [Pid.HPort.VIOLATION_COUNT, Pid.HPort.PEC_ERRORS], q < 4096) q hq)
      (by simpa using List.all_eq_true.1 hp q hq)
  have hv := hq _ (.head _)
  have he := hq _ (.tail _ (.head _))
  have := windowViolation_violated (s := x) (p := p) (reason := reason) (at_ := at_) n (hv ▸ h.violations) (he ▸ h.pecErrors)
  rwa [Violated, hv, he] at this

/-- What a transaction that fails leaves as it was. -/
def TransferLeft (s : State) (p : HostPort) (t : State) : Prop :=
  t.hopper = s.hopper ∧ (t.port p).replies = (s.port p).replies ∧ (t.port p).readPos = (s.port p).readPos ∧
    (t.port p).build = (s.port p).build ∧ (t.port p).written = (s.port p).written

variable (h : Names s p acc) (hc : CountsRoom s p)
include hc

/-- A transaction that PEC fails is a violation, and applies nothing. -/
theorem failed_leaves (hit : Fin 4) (reason at_ n : Nat) {t : State}
    (hk : TransferKept ((s.named p hit acc.speed).windowViolation p reason at_ n) t)
    (hf : Foot [.ports] (some []) ((s.named p hit acc.speed).windowViolation p reason at_ n) t) :
    Violated s p t reason at_ ∧ TransferLeft s p t ∧ (t.port p).pointer = (s.port p).pointer := by
  have hkept : TransferKept s t := ((named_port ..).trans (windowViolation_transfer ..)).trans hk
  have hhopper : t.hopper = s.hopper := (hf.fld .hopper rfl).trans ((State.windowViolation_foot.fld .hopper rfl).trans
    (State.named_foot.fld .hopper rfl))
  have hp := hkept.port p
  simp only [Prod.mk.injEq] at hp
  obtain ⟨hb, hw, -, hr, hpos, hptr⟩ := hp
  exact ⟨(hc.violated State.named_foot reason at_ n).foot hf, ⟨hhopper, hr, hpos, hb, hw⟩, hptr⟩

include h

/-- While PEC is active a read without COUNT, or with COUNT 0, drives 0xFF and applies nothing (Table 15-5). -/
theorem read_without_count {form : ReadForm} {n : Nat} (hpec : s.pecActive p = true) (hform : form = .plain ∨ form = .counted 0)
    {e : Instr × Byte} (he : e ∈ readRows p acc form n) : Runs e.1 s fun t =>
      Violated s p t 0x92 e.2.toNat ∧ TransferLeft s p t ∧ (t.port p).driven = List.replicate n 0xFF := by
  obtain ⟨hit, htrans⟩ := h.transaction
  have hrow : s.readRow p acc form e.2 n = ((s.named p hit acc.speed).failedRead p e.2 n).busStop p := by
    rw [State.readRow, htrans, pecActive_named, hpec]
    obtain rfl | rfl := hform <;> rfl
  obtain ⟨hv, hl, -⟩ := failed_leaves hc hit 0x92 e.2.toNat 0 (drive_stop_port _ p (List.replicate n 0xFF))
    (State.busStop_foot.on State.drive_foot)
  exact ⟨_, (exec_readRows form n he).trans (congrArg _ hrow), hv, hl, drive_stop_driven ..⟩

/-- While PEC is active a read without its pointer applies nothing. -/
theorem read_without_pointer {n : Nat} (hpec : s.pecActive p = true) {e : Instr × Byte} (he : e ∈ readRows p acc .direct n) :
    Runs e.1 s fun t => Violated s p t 0x93 (s.port p).pointer.toNat ∧ TransferLeft s p t := by
  obtain ⟨hit, htrans⟩ := h.transaction
  have hptr : ((s.named p hit acc.speed).port p).pointer = (s.port p).pointer := (named_port (f := HostPortAux.pointer) ..).port p
  have hrow : s.readRow p acc .direct e.2 n =
      ((s.named p hit acc.speed).windowViolation p 0x93 (s.port p).pointer.toNat 0).busStop p := by
    rw [State.readRow, htrans, pecActive_named, hpec, ← hptr]
    rfl
  obtain ⟨hv, hl, -⟩ := failed_leaves hc hit 0x93 (s.port p).pointer.toNat 0 (busStop_port _ p) State.busStop_foot
  exact ⟨_, (exec_readRows .direct n he).trans (congrArg _ hrow), hv, hl⟩

/-- A write whose PEC fails applies nothing. -/
theorem write_pecFails {ptr : Byte} {rest : Bytes} (hpec : s.pecActive p = true) {e : Instr × Byte × Bytes}
    (he : e ∈ writeRows p acc ptr rest) {why : Nat} (hwhy : pecFails acc.addr (e.2.1 :: e.2.2.take 287) = some why) :
    Runs e.1 s fun t => Violated s p t why e.2.1.toNat ∧ TransferLeft s p t ∧ (t.port p).pointer = (s.port p).pointer := by
  obtain ⟨hit, htrans⟩ := h.transaction
  have hrow : s.write p acc e.2.1 e.2.2 =
      ((s.named p hit acc.speed).windowViolation p why e.2.1.toNat e.2.2.length).busStop p := by
    rw [State.write, htrans, pecActive_named, hpec, hwhy]
    rfl
  exact ⟨_, (exec_writeRows ptr rest he).trans (congrArg _ hrow),
    failed_leaves hc hit why e.2.1.toNat e.2.2.length (busStop_port _ p) State.busStop_foot⟩

omit h hc

/-- The first byte of a write without PEC that begins at a read-only location is its one violation (R386). -/
theorem writeData_readOnly (x : State) {ptr : Byte} (hro : readOnlyAt ptr.toNat = true) (b : Byte) (data : Bytes) :
    x.writeData p false ptr (b :: data) = (data.foldl (State.dataByte p false ptr (data.length + 1))
      ((((x.setPointer p ptr).windowViolation p 0x90 ptr.toNat (data.length + 1)).setPointer p (pointerNext ptr.toNat)),
        true)).1 := by
  unfold State.writeData
  rw [List.foldl_cons]
  congr 2
  simp [State.dataByte, port_setPointer, hro]

include h hc

/-- Without PEC a COUNT byte is a byte written to a read-only location. -/
theorem read_with_count {n : Nat} (hpec : s.pecActive p = false) (c : Byte) {e : Instr × Byte}
    (he : e ∈ readRows p acc (.counted c) n) : Runs e.1 s fun t => Violated s p t 0x90 e.2.toNat := by
  obtain ⟨hit, htrans⟩ := h.transaction
  have hrow : s.readRow p acc (.counted c) e.2 n =
      (((((s.addressed p hit acc.speed e.2).windowViolation p 0x90 e.2.toNat 1).setPointer p
        (pointerNext e.2.toNat)).plainRead p n)).busStop p := by
    rw [State.readRow, htrans, pecActive_named, hpec, if_neg Bool.false_ne_true]
    exact congrArg (fun x => (x.plainRead p n).busStop p) (writeData_readOnly _ (readRows_pointer he) c [])
  exact ⟨_, (exec_readRows (.counted c) n he).trans (congrArg _ hrow),
    (((hc.violated addressed_foot 0x90 e.2.toNat 1).foot State.setPointer_foot).foot State.plainRead_foot).foot State.busStop_foot⟩

end

/-! ## The writes -/

/-- The parameters that a byte of a write moves, away from DOORBELL. -/
abbrev writePids : List Nat := [Pid.HPort.ALERT_MASK, Pid.HPort.BYTES_DISCARDED]

section
variable {s : State} {p : HostPort} {acc : HostAccess}

theorem byteWrite_foot_of_ne {a : Nat} (ha : a ≠ 0x12) (b : Byte) :
    Foot [.ports, .nvm] (some writePids) s (s.byteWrite p a b) := by
  unfold State.byteWrite
  rw [if_neg ha]
  exact .ite State.maskWrite_foot.within (.ite State.streamByte_foot.within (.refl _ _ _))

/-- The locations that a write which begins at a read-only one runs through: DOORBELL is not among them. -/
def ClearOfDoorbell (a : Nat) : Prop := a ≤ 0x11 ∨ 0x20 ≤ a

theorem clearOfDoorbell_next {a : Nat} (ha : a < 256) (h : ClearOfDoorbell a) : ClearOfDoorbell (pointerNext a).toNat := by
  rw [pointerNext_toNat ha]
  unfold ClearOfDoorbell at *
  split <;> omega

theorem clearOfDoorbell_readOnly {a : Nat} (h : readOnlyAt a = true) : ClearOfDoorbell a := by
  simp [readOnlyAt] at h
  unfold ClearOfDoorbell
  omega

/-- The bytes after a transaction's violation: they are no further one, and take effect where a write does (R386). -/
theorem dataBytes_violated (data : Bytes) {pec : Bool} {ptr : Byte} {n : Nat} (h : ClearOfDoorbell (s.port p).pointer.toNat) :
    Foot [.ports, .nvm] (some writePids) s (data.foldl (State.dataByte p pec ptr n) (s, true)).1 := by
  induction data generalizing s with
  | nil => exact .refl _ _ _
  | cons b data ih =>
    have hne : (s.port p).pointer.toNat ≠ 0x12 := by
      unfold ClearOfDoorbell at h
      omega
    have hstep : State.dataByte p pec ptr n (s, true) b =
        ((s.byteWrite p (s.port p).pointer.toNat b).setPointer p (pointerNext (s.port p).pointer.toNat), true) := by
      simp [State.dataByte]
    rw [List.foldl_cons, hstep]
    refine (ih ?_).on (State.setPointer_foot.on (byteWrite_foot_of_ne hne b))
    rw [port_setPointer]
    exact clearOfDoorbell_next (BitVec.isLt _) h

/-- A write without PEC that begins at a read-only location is one violation, recorded (R386). -/
theorem write_readOnly (h : Names s p acc) (hc : CountsRoom s p) {ptr : Byte} {rest : Bytes} (hpec : s.pecActive p = false)
    (hro : readOnlyAt ptr.toNat = true) (hne : rest ≠ []) : Runs (.windowWrite p acc ptr rest) s fun t =>
      Violated s p t 0x90 ptr.toNat ∧ t.hopper = s.hopper ∧
      (s.miller3 = true → countOf (oPort p) s.grist.created < 1048575 → s.grist.nextGen < 4294967295 →
        Recorded t (oPort p) rcSecurity 0x41
          [BitVec.ofNat 32 stPROTOCOL, 0x90, BitVec.ofNat 32 ptr.toNat, 0, BitVec.ofNat 32 rest.length]) := by
  obtain ⟨hit, htrans⟩ := h.transaction
  obtain ⟨b, data, rfl⟩ := List.exists_cons_of_ne_nil hne
  let x := s.addressed p hit acc.speed ptr
  let y := x.windowViolation p 0x90 ptr.toNat (data.length + 1)
  let z := y.setPointer p (pointerNext ptr.toNat)
  let t := ((data.foldl (State.dataByte p false ptr (data.length + 1)) (z, true)).1).busStop p
  have hrow : s.write p acc ptr (b :: data) = t := by
    rw [State.write, htrans, pecActive_named, hpec]
    exact congrArg (·.busStop p) (writeData_readOnly _ hro b data)
  have hz : ClearOfDoorbell (z.port p).pointer.toNat := by
    rw [port_setPointer]
    exact clearOfDoorbell_next (BitVec.isLt _) (clearOfDoorbell_readOnly hro)
  have hend : Foot [.ports, .nvm] (some writePids) y t :=
    State.busStop_foot.on ((dataBytes_violated data hz).on State.setPointer_foot.within)
  refine ⟨t, congrArg Host.Outcome.next hrow, (hc.violated addressed_foot 0x90 ptr.toNat _).foot hend, ?_, fun hm hcount hgen => ?_⟩
  · exact (hend.fld .hopper rfl).trans ((State.windowViolation_foot.fld .hopper rfl).trans (addressed_foot.fld .hopper rfl))
  · have hx : Foot [.ports] (some [Pid.HPort.SPEED_SEEN]) s x := addressed_foot
    have hgrist := hx.fld .grist rfl
    have hrec := violation_recorded (s := x) p stPROTOCOL 0x90 ptr.toNat 0 (data.length + 1)
      ((miller3_of_same (hx.fld .supply rfl) (hx.fld .miller rfl)).trans hm) (hgrist ▸ hcount) (hgrist ▸ hgen.le)
    rw [Recorded, hend.fld .grist rfl]
    simp only [BitVec.ofInt_natCast] at hrec
    exact hrec

/-- A write of ALERT_MASK sets it. -/
theorem write_alertMask {b : Byte} {rest : Bytes} (h : Carries s p acc 0x0A [b] rest) :
    Runs (.windowWrite p acc 0x0A rest) s fun t =>
      t.par (oPort p) Pid.HPort.ALERT_MASK = b.toNat ∧ (t.port p).pointer = 0x0B := by
  obtain ⟨hit, -, hw⟩ := write_carries h
  let x := s.addressed p hit acc.speed 0x0A
  have hdata : (s.named p hit acc.speed).writeData p (s.pecActive p) 0x0A [b] = (x.maskWrite p b).setPointer p 0x0B := by
    have hro : readOnlyAt 10 = false := by decide
    simp only [State.writeData, List.foldl_cons, List.foldl_nil, State.dataByte, port_setPointer, BitVec.reduceToNat, hro,
      Bool.and_false]
    rfl
  have hmask : (x.maskWrite p b).par (oPort p) Pid.HPort.ALERT_MASK = b.toNat := by
    have hset := State.par_setPar_same x (o := oPort p) (pid := Pid.HPort.ALERT_MASK) (by decide) b.toNat
    unfold State.maskWrite
    extract_lets y
    split
    · exact (State.askConfig_foot.par _ rfl _ _ (by decide) rfl).trans hset
    · exact hset
  refine ⟨_, congrArg Host.Outcome.next hw, ?_, ?_⟩
  · rw [hdata]
    exact (pointerStop_foot.par _ rfl _ _ (by decide) rfl).trans hmask
  · rw [hdata]
    refine ((busStop_port (f := HostPortAux.pointer) _ p).port p).trans ?_
    rw [port_setPointer]

/-- The port as a transaction leaves it beside its pointer, the address named and the addresses of its STOP. -/
theorem pointerStop_port (hit : Fin 4) (a : Byte) : { ((s.addressed p hit acc.speed a).busStop p).port p with
    pointer := (s.port p).pointer, hit := (s.port p).hit, addrs := (s.port p).addrs } = s.port p := by
  let f (b : HostPortAux) : HostPortAux :=
    { b with pointer := (s.port p).pointer, hit := (s.port p).hit, addrs := (s.port p).addrs }
  exact (((named_port (f := f) s p hit acc.speed).trans (setPointer_port _ p a)).trans (busStop_port _ p)).port p

/-- Data written to reserved locations move the pointer past them. -/
theorem writeData_reserved (x : State) (pec : Bool) {ptr : Byte} {data : Bytes}
    (h : 0x13 ≤ ptr.toNat ∧ ptr.toNat + data.length ≤ 0x20 ∨ 0x40 ≤ ptr.toNat ∧ ptr.toNat + data.length ≤ 256) :
    ∃ a, x.writeData p pec ptr data = x.setPointer p a := by
  have hinert := dataBytes_inert (s := x) (p := p) (pec := pec) (ptr := ptr) (n := data.length) (v := false) data ptr.toNat
    (fun i hi₁ hi₂ => inertAt_reserved (by omega)) (by omega)
  rw [BitVec.ofNat_toNat, BitVec.setWidth_eq] at hinert
  exact ⟨_, congrArg Prod.fst hinert⟩

/-- With PEC a byte written to a read-only location moves the pointer on. -/
theorem writeData_pec_readOnly (x : State) {ptr : Byte} (h : readOnlyAt ptr.toNat = true) (b : Byte) :
    ∃ a, x.writeData p true ptr [b] = x.setPointer p a := by
  have hne {c : Byte} (hc : readOnlyAt c.toNat = false) : ptr ≠ c := fun e => by
    rw [e, hc] at h
    cases h
  exact ⟨_, congrArg Prod.fst (dataByte_noEffect rfl (hne rfl) (hne rfl) (hne rfl) b)⟩

/-- A write of reserved locations, or with PEC of a read-only one, changes nothing but the pointer. -/
theorem write_noEffect {ptr : Byte} {data rest : Bytes} (h : Carries s p acc ptr data rest)
    (hloc : 0x13 ≤ ptr.toNat ∧ ptr.toNat + data.length ≤ 0x20 ∨ 0x40 ≤ ptr.toNat ∧ ptr.toNat + data.length ≤ 256 ∨
      s.pecActive p = true ∧ readOnlyAt ptr.toNat = true ∧ data.length = 1) :
    Runs (.windowWrite p acc ptr rest) s fun t => Foot [.ports] (some [Pid.HPort.SPEED_SEEN]) s t ∧
      { t.port p with pointer := (s.port p).pointer, hit := (s.port p).hit, addrs := (s.port p).addrs } = s.port p := by
  obtain ⟨hit, -, hw⟩ := write_carries h
  obtain ⟨a, hdata⟩ : ∃ a, (s.named p hit acc.speed).writeData p (s.pecActive p) ptr data = s.addressed p hit acc.speed a := by
    rw [← or_assoc] at hloc
    obtain hloc | ⟨hpec, hro, hlen⟩ := hloc
    · exact writeData_reserved _ _ hloc
    · obtain ⟨b, rfl⟩ := List.length_eq_one_iff.1 hlen
      rw [hpec]
      exact writeData_pec_readOnly _ hro b
  refine ⟨_, congrArg Host.Outcome.next hw, ?_⟩
  rw [hdata]
  exact ⟨State.busStop_foot.on addressed_foot.within, pointerStop_port hit a⟩

end

/-- Settles O25: reads in their proper form, transactions that are refused or violate, and writes. -/
theorem windowAnswers : Obligations.WindowAnswers := by
  refine ⟨fun s p acc k hp ha hk hpec => ?_, fun s p acc form n ptr rest => ⟨fun hr => ?_, fun hp ha hv he => ?_⟩,
    fun s p acc ptr data rest h => ⟨fun b hptr hdata => ?_, write_noEffect h, fun hptr => ?_, fun l hptr => ⟨fun hl => ?_, fun hl => ?_⟩⟩⟩
  · have h : ReadsProperly s p acc k := ⟨hp, ha, hk, hpec⟩
    exact ⟨replyStream_empty h, fun x rest => replyStream_consumes h, alertCause_reads h, fastStatus_reads h, fastStatus_rom h,
      highByte_reads h⟩
  · exact ⟨fun e he => (exec_readRows form n he).trans (congrArg _ (transaction_refused _ hr)),
      fun e he => (exec_writeRows ptr rest he).trans (congrArg _ (transaction_refused _ hr))⟩
  · have h : Names s p acc := ⟨hp, ha⟩
    have hc : CountsRoom s p := ⟨hv, he⟩
    exact ⟨fun hpec hform e => read_without_count h hc hpec hform, fun hpec e => read_without_pointer h hc hpec,
      fun hpec c e => read_with_count h hc hpec c, fun hpec e hm why => write_pecFails h hc hpec hm,
      fun hpec hro hne => write_readOnly h hc hpec hro hne⟩
  · subst hptr hdata
    exact write_alertMask h
  · subst hptr
    rfl
  · subst hptr hl
    rfl
  · subst hptr hl
    rfl

end Sys2Proof.Machine

/-! # Proofs: the request stream, addresses, alerts and wakes of the ports (O26) -/
namespace Sys2Proof.Machine
set_option Elab.async false

/-! ## The request stream -/

theorem bytesDiscarded_desc (p : HostPort) : (findDesc (oPort p) Pid.HPort.BYTES_DISCARDED).map Desc.hi = some 4294967295 := by
  cases p <;> decide

/-- What bytes written to REQ_STREAM leave: those that find room join the packet, and the others are counted (R351, R384). -/
structure Streamed (p : HostPort) (data : Bytes) (s t : State) : Prop where
  build : (t.port p).build = (s.port p).build ++
    data.take (min data.length (min (284 - (s.port p).build.length) (s.reqSpace p)))
  written : (t.port p).written = (s.port p).written + (if s.reqSpace p ≤ 284 - (s.port p).build.length then
    min data.length (min (284 - (s.port p).build.length) (s.reqSpace p)) else data.length)
  discarded : t.par (oPort p) Pid.HPort.BYTES_DISCARDED = s.par (oPort p) Pid.HPort.BYTES_DISCARDED +
    (data.length - min data.length (min (284 - (s.port p).build.length) (s.reqSpace p)) : Nat)
  pointer : (t.port p).pointer = 0x10
  foot : Foot [.ports] (some [Pid.HPort.BYTES_DISCARDED]) s t

section
variable {s : State} {p : HostPort}

theorem par_discarded {n : Nat} (h : s.par (oPort p) Pid.HPort.BYTES_DISCARDED + n ≤ 4294967295) :
    (s.discarded p n).par (oPort p) Pid.HPort.BYTES_DISCARDED = s.par (oPort p) Pid.HPort.BYTES_DISCARDED + n := by
  obtain ⟨d, hd, hhi⟩ := Option.map_eq_some_iff.1 (bytesDiscarded_desc p)
  unfold State.discarded State.addPar State.updPar
  rw [State.par_setPar_same _ (by decide), hd]
  exact if_pos (by rw [← hhi] at h; exact h)

/-- One byte of REQ_STREAM, and the pointer that holds there. -/
def State.streamed (p : HostPort) (s : State) (b : Byte) : State := (s.streamByte p b).setPointer p 0x10

theorem dataByte_stream {pec : Bool} {ptr : Byte} {n : Nat} {v : Bool} (hp : (s.port p).pointer = 0x10) (b : Byte) :
    State.dataByte p pec ptr n (s, v) b = (State.streamed p s b, v) := by
  have hro : readOnlyAt 0x10 = false := by decide
  simp only [State.dataByte, hp, BitVec.reduceToNat, hro, Bool.and_false, Bool.false_and, Bool.or_false]
  rfl

theorem dataBytes_stream (data : Bytes) {pec : Bool} {ptr : Byte} {n : Nat} {v : Bool} (hp : (s.port p).pointer = 0x10) :
    data.foldl (State.dataByte p pec ptr n) (s, v) = (data.foldl (State.streamed p) s, v) := by
  induction data generalizing s with
  | nil => rfl
  | cons b data ih =>
    rw [List.foldl_cons, List.foldl_cons, dataByte_stream hp]
    exact ih (by rw [State.streamed, port_setPointer])

/-- What one byte of REQ_STREAM does, by the room that it finds. -/
theorem streamed_cases (b : Byte) (h : s.par (oPort p) Pid.HPort.BYTES_DISCARDED + 1 ≤ 4294967295) :
    let t := State.streamed p s b
    (s.reqSpace p = 0 → t.port p = { s.port p with pointer := 0x10 } ∧
      t.par (oPort p) Pid.HPort.BYTES_DISCARDED = s.par (oPort p) Pid.HPort.BYTES_DISCARDED + 1) ∧
    (s.reqSpace p ≠ 0 → 284 ≤ (s.port p).build.length →
      t.port p = { s.port p with pointer := 0x10, written := (s.port p).written + 1 } ∧
      t.par (oPort p) Pid.HPort.BYTES_DISCARDED = s.par (oPort p) Pid.HPort.BYTES_DISCARDED + 1) ∧
    (s.reqSpace p ≠ 0 → (s.port p).build.length < 284 →
      t.port p = { s.port p with
        pointer := 0x10, written := (s.port p).written + 1, build := (s.port p).build ++ [b] } ∧
      t.par (oPort p) Pid.HPort.BYTES_DISCARDED = s.par (oPort p) Pid.HPort.BYTES_DISCARDED) := by
  intro t
  have hport (x : State) : (x.discarded p 1).port p = x.port p := rfl
  have hset (x : State) (q : Nat) : (x.setPointer p 0x10).par (oPort p) q = x.par (oPort p) q := rfl
  have hcount (x : State) (hx : x.par (oPort p) Pid.HPort.BYTES_DISCARDED = s.par (oPort p) Pid.HPort.BYTES_DISCARDED) :
      (x.discarded p 1).par (oPort p) Pid.HPort.BYTES_DISCARDED = s.par (oPort p) Pid.HPort.BYTES_DISCARDED + 1 := by
    rw [← hx]
    exact par_discarded (by rw [hx]; exact h)
  simp only [t, State.streamed, State.streamByte, port_setPointer]
  refine ⟨fun h0 => ?_, fun h0 hb => ?_, fun h0 hb => ?_⟩
  · rw [if_pos h0, hset]
    exact ⟨by rw [hport], hcount s rfl⟩
  · rw [if_neg h0, if_pos hb, hset]
    exact ⟨by rw [hport, State.port_modPort], hcount _ rfl⟩
  · rw [if_neg h0, if_neg (Nat.not_le.2 hb)]
    exact ⟨by rw [State.port_modPort, State.port_modPort], rfl⟩

theorem pointer_streamed {b : Byte} : ((State.streamed p s b).port p).pointer = 0x10 :=
  congrArg HostPortAux.pointer (port_setPointer ..)

theorem streamed_foot {b : Byte} : Foot [.ports] (some [Pid.HPort.BYTES_DISCARDED]) s (State.streamed p s b) :=
  State.setPointer_foot.on State.streamByte_foot

theorem reqSpace_of_port {t : State} {x : HostPortAux} (h : t.port p = x) :
    t.reqSpace p = 1136 - (x.build.length + (x.waiting.map fun w => w.1.length).sum) := by rw [State.reqSpace, h]

theorem foldl_streamed (data : Bytes) (hp : (s.port p).pointer = 0x10)
    (h : s.par (oPort p) Pid.HPort.BYTES_DISCARDED + data.length ≤ 4294967295) :
    Streamed p data s (data.foldl (State.streamed p) s) := by
  induction data generalizing s with
  | nil => exact ⟨by simp, by simp, by simp, hp, .refl _ _ _⟩
  | cons b data ih =>
    rw [List.length_cons] at h
    push_cast at h
    have hs : s.reqSpace p = _ := reqSpace_of_port rfl
    obtain ⟨hnone, hfull, hjoins⟩ := streamed_cases (s := s) (p := p) b (by omega)
    rw [List.foldl_cons]
    by_cases h0 : s.reqSpace p = 0
    · obtain ⟨hport, hpar⟩ := hnone h0
      obtain ⟨hb, hw, hd, hpt, hf⟩ := ih pointer_streamed (by rw [hpar]; omega)
      have ht : (State.streamed p s b).reqSpace p = 0 := by rw [reqSpace_of_port hport, ← h0, hs]
      rw [ht, hport] at hb hw
      rw [ht, hpar] at hd
      exact ⟨by simpa [h0] using hb, by simpa [h0] using hw, by rw [hd, h0]; simp; omega, hpt, hf.on streamed_foot⟩
    by_cases hlen : 284 ≤ (s.port p).build.length
    · obtain ⟨hport, hpar⟩ := hfull h0 hlen
      obtain ⟨hb, hw, hd, hpt, hf⟩ := ih pointer_streamed (by rw [hpar]; omega)
      have hroom : 284 - (s.port p).build.length = 0 := by omega
      have ht : (State.streamed p s b).reqSpace p = s.reqSpace p := by rw [reqSpace_of_port hport, hs]
      rw [ht, hport] at hb hw
      rw [ht, hpar, hport] at hd
      simp only [hroom, Nat.zero_min, Nat.min_zero, List.take_zero, List.append_nil, Nat.le_zero_eq, h0, if_false] at hb hw hd ⊢
      refine ⟨by simp [hroom, hb], by simp [hroom, hw, h0]; omega, by rw [hd]; simp [hroom]; omega, hpt, hf.on streamed_foot⟩
    · obtain ⟨hport, hpar⟩ := hjoins h0 (by omega)
      obtain ⟨hb, hw, hd, hpt, hf⟩ := ih pointer_streamed (by rw [hpar]; omega)
      have ht : (State.streamed p s b).reqSpace p = s.reqSpace p - 1 := by
        rw [reqSpace_of_port hport, hs]
        simp only [List.length_append, List.length_singleton]
        omega
      rw [ht, hport] at hb hw
      rw [ht, hpar, hport] at hd
      simp only [List.length_append, List.length_singleton] at hb hw hd
      have hm : min (data.length + 1) (min (284 - (s.port p).build.length) (s.reqSpace p)) =
          min data.length (min (284 - ((s.port p).build.length + 1)) (s.reqSpace p - 1)) + 1 := by omega
      refine ⟨?_, ?_, ?_, hpt, hf.on streamed_foot⟩
      · rw [hb, List.length_cons, hm, List.take_succ_cons, List.append_assoc, List.singleton_append]
      · rw [hw, List.length_cons, hm]
        split <;> split <;> omega
      · rw [hd, List.length_cons, hm, Nat.add_sub_add_right]

end

section
variable {s : State} {p : HostPort} {acc : HostAccess} {data rest : Bytes}

/-- A write from REQ_STREAM on. -/
theorem reqStream_runs (h : Carries s p acc 0x10 data rest)
    (hd : s.par (oPort p) Pid.HPort.BYTES_DISCARDED + data.length ≤ 4294967295) :
    Runs (.reqStream p acc rest) s fun t => ∃ x y, Foot [.ports] (some [Pid.HPort.SPEED_SEEN]) s x ∧
      (∃ hit, x.port p = { s.port p with hit := hit, pointer := 0x10 }) ∧ Streamed p data x y ∧ t = y.busStop p := by
  obtain ⟨hit, -, hw⟩ := write_carries h
  let x := s.addressed p hit acc.speed 0x10
  have hpar : x.par (oPort p) Pid.HPort.BYTES_DISCARDED = s.par (oPort p) Pid.HPort.BYTES_DISCARDED :=
    addressed_foot.par _ rfl _ _ (by decide) rfl
  have hptr : (x.port p).pointer = 0x10 := by rw [port_addressed]
  have hdata : (s.named p hit acc.speed).writeData p (s.pecActive p) 0x10 data = data.foldl (State.streamed p) x :=
    congrArg Prod.fst (dataBytes_stream data hptr)
  exact ⟨_, congrArg Host.Outcome.next hw, x, _, addressed_foot, ⟨hit, port_addressed ..⟩,
    foldl_streamed data hptr (hpar ▸ hd), by rw [hdata]⟩

theorem reqStream_joins (h : Carries s p acc 0x10 data rest)
    (hd : s.par (oPort p) Pid.HPort.BYTES_DISCARDED + data.length ≤ 4294967295) :
    let room := 284 - (s.port p).build.length
    let taken := min data.length (min room (s.reqSpace p))
    Runs (.reqStream p acc rest) s fun t =>
      (t.port p).build = (s.port p).build ++ data.take taken ∧
      (t.port p).written = (s.port p).written + (if s.reqSpace p ≤ room then taken else data.length) ∧
      t.par (oPort p) Pid.HPort.BYTES_DISCARDED = s.par (oPort p) Pid.HPort.BYTES_DISCARDED + (data.length - taken : Nat) ∧
      (t.port p).pointer = 0x10 ∧ Foot [.ports] (some [Pid.HPort.SPEED_SEEN, Pid.HPort.BYTES_DISCARDED]) s t := by
  intro room taken
  obtain ⟨t, hexec, x, y, hx, ⟨hit, hport⟩, ⟨hb, hw, hpar, hptr, hf⟩, rfl⟩ := reqStream_runs h hd
  have hspace : x.reqSpace p = s.reqSpace p := by rw [reqSpace_of_port hport, reqSpace_of_port rfl]
  rw [hspace, hport] at hb hw hpar
  rw [hx.par _ rfl _ _ (by decide) rfl] at hpar
  have hend := (busStop_port (f := fun b => (b.build, b.written, b.pointer)) y p).port p
  simp only [Prod.mk.injEq] at hend
  obtain ⟨hb', hw', hptr'⟩ := hend
  refine ⟨_, hexec, hb'.trans hb, hw'.trans hw, (State.busStop_foot.par _ rfl _ _ (by decide) rfl).trans hpar, hptr'.trans hptr, ?_⟩
  exact State.busStop_foot.on (hf.on hx.within)

/-- A write of 0x5A to DOORBELL discards the packet. -/
theorem doorbellDiscard_runs (h : Carries s p acc 0x12 (0x5A :: data) (0x5A :: rest)) (hl : data.length ≤ 13) :
    Runs (.doorbellDiscard p ⟨acc, rest⟩) s fun t =>
      (t.port p).build = [] ∧ (t.port p).written = 0 ∧ (t.port p).replies = (s.port p).replies ∧
      Foot [.ports] (some [Pid.HPort.SPEED_SEEN]) s t := by
  obtain ⟨hit, -, hw⟩ := write_carries h
  obtain ⟨a, ha⟩ := writeData_doorbell (s.named p hit acc.speed) p (s.pecActive p) 0x5A hl
  let x := s.addressed p hit acc.speed 0x12
  have hdata : (s.named p hit acc.speed).writeData p (s.pecActive p) 0x12 (0x5A :: data) = (x.discard p).setPointer p a := ha
  have hport : (x.discard p).port p = { x.port p with build := [], written := 0 } := State.port_modPort ..
  have hend := (((setPointer_port (f := fun b => (b.build, b.written, b.replies)) (x.discard p) p a)).trans
    (busStop_port ((x.discard p).setPointer p a) p)).port p
  rw [hport, port_addressed] at hend
  simp only [Prod.mk.injEq] at hend
  obtain ⟨hb, hwr, hr⟩ := hend
  refine ⟨_, congrArg Host.Outcome.next hw, ?_⟩
  rw [hdata]
  exact ⟨hb, hwr, hr, pointerStop_foot.on (State.modPort_foot.on addressed_foot.within)⟩

end

/-! ## Addresses -/

section
variable (s : State) (p : HostPort) (a : BitVec 7)

theorem acknowledges_rom (h : s.supply.cs = .rom) :
    (s.acknowledges p a = true ↔ p = .ha ∧ a = 0x5F) ∧ s.alertLow p = false := by
  refine ⟨?_, by simp [State.alertLow, h]⟩
  simp only [State.acknowledges, State.addressHit, State.running, h]
  cases p <;> simp

theorem acknowledges_unserved (hr : s.supply.cs ≠ .rom) (h : (s.running || s.supply.cs == .watch) = false ∨ s.enabled (oPort p) = false) :
    s.acknowledges p a = false := by
  simp only [State.acknowledges, State.addressHit, beq_eq_false_iff_ne.2 hr]
  obtain h | h := h <;> simp [h]

theorem acknowledges_primary (h : s.supply.cs = .run ∨ s.supply.cs = .watch) (he : s.enabled (oPort p) = true)
    (ha : s.par (oPort p) Pid.HPort.PRIMARY_ADDR = a.toNat) : s.acknowledges p a = true := by
  obtain h | h := h <;> simp [State.acknowledges, State.addressHit, State.running, h, he, ha]

end

/-! ## Cautious mode, low clocks and alerts -/

section
variable {s : State} {p : HostPort}

theorem cautiousExit_runs (hr : s.running = true) (hc : s.par (oPort p) Pid.HPort.CAUTIOUS = 2) (hv : s.violations1s p = 0) :
    Runs (.cautiousExit p) s fun t => t.par (oPort p) Pid.HPort.CAUTIOUS = 0 := by
  refine ⟨_, if_pos (by simp [hr, hc, hv]), ?_⟩
  exact (State.violationRecord_foot.par _ rfl _ _ (by decide) rfl).trans (State.par_setPar_same _ (by decide) 0)

theorem timeouts_hi (p : HostPort) : (findDesc (oPort p) Pid.HPort.TIMEOUTS).map Desc.hi = some 4294967295 := by
  cases p <;> decide

theorem araWins_hi (p : HostPort) : (findDesc (oPort p) Pid.HPort.ARA_WINS).map Desc.hi = some 4294967295 := by
  cases p <;> decide

theorem clockLowTimeout_runs (hp : s.portAnswers p = true) (he : s.par (oPort p) Pid.HPort.TIMEOUT_ENABLE = 1)
    (hc : s.par (oPort p) Pid.HPort.TIMEOUTS < 4294967295) : Runs (.clockLowTimeout p) s fun t =>
      t.par (oPort p) Pid.HPort.TIMEOUTS = s.par (oPort p) Pid.HPort.TIMEOUTS + 1 ∧
      Foot [] (some [Pid.HPort.TIMEOUTS]) s t :=
  ⟨_, if_pos (by simp [hp, he]), par_incPar_of_hi (timeouts_hi p) hc, .incPar (.refl _ _ _)⟩

end

section
variable {s : State} {p : HostPort}

/-- What the winner of the Alert Response Address drives (R389). -/
def State.araAnswer (s : State) (p : HostPort) : Bytes :=
  let b := BitVec.ofInt 8 (s.par (oPort p) Pid.HPort.PRIMARY_ADDR * 2)
  if s.pecActive p then [b, crc8 [0x19, b]] else [b]

/-- ALERT_N beside a release of it. -/
theorem alertLow_released {t : State} {r : Bool} (hs : t.supply = s.supply)
    (ha : (t.port p).alertCause = (s.port p).alertCause)
    (hr : (t.port p).alertReleased = ((s.port p).alertReleased || r))
    (hc : t.par (oPort p) Pid.HPort.CAUTIOUS = s.par (oPort p) Pid.HPort.CAUTIOUS)
    (hm : t.par (oPort p) Pid.HPort.ALERT_MASK = s.par (oPort p) Pid.HPort.ALERT_MASK) :
    t.alertLow p = (s.alertLow p && !r) := by
  unfold State.alertLow
  simp only [hs, ha, hr, hc, hm]
  cases r <;> simp

/-- The winner of the Alert Response Address answers, and its ALERT_N is released unless cautious mode holds it (R389). -/
theorem alertResponse_wins (hp : s.portAnswers p = true) (hl : s.alertLow p = true)
    (hw : s.par (oPort p) Pid.HPort.ARA_WINS < 4294967295) : Runs (.alertResponse p true) s fun t =>
      t.par (oPort p) Pid.HPort.ARA_WINS = s.par (oPort p) Pid.HPort.ARA_WINS + 1 ∧
      (t.port p).driven = s.araAnswer p ∧
      (s.par (oPort p) Pid.HPort.CAUTIOUS ≠ 1 → t.alertLow p = false) ∧
      (s.par (oPort p) Pid.HPort.CAUTIOUS = 1 → t.alertLow p = true) := by
  let x := s.modPort p fun a => { a with
    alertReleased := a.alertReleased || !(s.par (oPort p) Pid.HPort.CAUTIOUS == 1), driven := s.araAnswer p }
  let t := (x.incPar (oPort p) Pid.HPort.ARA_WINS).busStop p
  have hexec : exec (.alertResponse p true) s = .next t := by
    show execAlertResponse p true s = _
    unfold execAlertResponse
    simp only [hp, hl, Bool.not_true, Bool.or_self, Bool.false_eq_true, if_false]
    rfl
  have hfoot : Foot [.ports] (some [Pid.HPort.ARA_WINS]) x t := State.busStop_foot.on (.incPar (.refl _ _ _))
  have hx : x.port p = { s.port p with
      alertReleased := (s.port p).alertReleased || !(s.par (oPort p) Pid.HPort.CAUTIOUS == 1), driven := s.araAnswer p } :=
    State.port_modPort ..
  have hport := (PortKept.trans (.same (y := x.incPar (oPort p) Pid.HPort.ARA_WINS) (.refl x))
    (busStop_port (f := fun a => (a.driven, a.alertCause, a.alertReleased)) _ p)).port p
  rw [hx] at hport
  simp only [Prod.mk.injEq] at hport
  obtain ⟨hdriven, hcause, hreleased⟩ := hport
  have hpar (q : Nat) (hq : q < 4096) (hn : [Pid.HPort.ARA_WINS].contains q = false) : t.par (oPort p) q = s.par (oPort p) q :=
    hfoot.par _ rfl _ _ hq hn
  have hlow : t.alertLow p = ((s.alertLow p) && (s.par (oPort p) Pid.HPort.CAUTIOUS == 1)) := by
    rw [alertLow_released (s := s) (hfoot.fld .supply rfl) hcause hreleased (hpar _ (by decide) rfl) (hpar _ (by decide) rfl), Bool.not_not]
  refine ⟨t, hexec, ?_, hdriven, fun hc => ?_, fun hc => ?_⟩
  · exact (State.busStop_foot.par _ rfl _ _ (by decide) rfl).trans (par_incPar_of_hi (araWins_hi p) hw)
  · rw [hlow, beq_eq_false_iff_ne.2 hc, Bool.and_false]
  · rw [hlow, hl, hc]
    rfl

theorem alertResponse_loses (hp : s.portAnswers p = true) (hl : s.alertLow p = true) :
    exec (.alertResponse p false) s = .next (s.busStop p) := by
  show execAlertResponse p false s = _
  unfold execAlertResponse
  simp only [hp, hl, Bool.not_true, Bool.or_self, Bool.false_eq_true, if_false]
  rfl

/-! ## Wakes by an address (R380, R400) -/

/-- The state that an address match wakes: what it names of the port, and its stretched clock. -/
def State.stretched (s : State) (p : HostPort) (acc : HostAccess) : State :=
  (match s.addressHit p acc.addr with
    | some h => s.named p h acc.speed
    | none => s).modPort p fun x => { x with stretch := true }

theorem stretched_of_hit {acc : HostAccess} {h : Fin 4} (hh : s.addressHit p acc.addr = some h) :
    s.stretched p acc = (s.named p h acc.speed).modPort p fun x => { x with stretch := true } := by
  rw [State.stretched, hh]

theorem addressMatchWake_eq {acc : HostAccess} {bad : BitVec 5} (ha : s.acknowledges p acc.addr = true) (hs : acc.speed ≠ .highSpeed) :
    exec (.addressMatchWake ⟨p, acc, bad⟩) s =
      if s.supply.cs = .watch then
        .next ((s.stretched p acc).draw.2.wake (2 ^ portIx p) (BitVec.ofInt 48 (s.stretched p acc).draw.1) bad)
      else if ((s.port (otherPort p)).stretch && !(s.port p).stretch) = true then
        .next ((s.stretched p acc).setBit oDevice Pid.Device.WAKE_CAUSE (portIx p))
      else .next s := by
  show execAddressMatchWake ⟨p, acc, bad⟩ s = _
  unfold execAddressMatchWake
  simp only [ha, hs, Bool.not_true, Bool.false_or, beq_iff_eq, if_false]
  rfl

theorem addressMatchWake_wakes {acc : HostAccess} {bad : BitVec 5} (ha : s.acknowledges p acc.addr = true)
    (hs : acc.speed ≠ .highSpeed) (hw : s.supply.cs = .watch) : Runs (.addressMatchWake ⟨p, acc, bad⟩) s fun t =>
      t.supply.cs = .run ∧ t.par oDevice Pid.Device.WAKE_CAUSE = (if p = .ha then 1 else 2) ∧
      ∀ h, s.addressHit p acc.addr = some h →
        let x := (s.named p h acc.speed).modPort p fun x => { x with stretch := true }
        t = x.draw.2.wake (2 ^ portIx p) (BitVec.ofInt 48 x.draw.1) bad := by
  obtain ⟨hcs, hcause, -⟩ := wake_leaves (s.stretched p acc).draw.2 (2 ^ portIx p) (BitVec.ofInt 48 (s.stretched p acc).draw.1) bad
  refine ⟨_, (addressMatchWake_eq ha hs).trans (if_pos hw), hcs, ?_, fun h hh => ?_⟩
  · rw [hcause]
    cases p <;> rfl
  · rw [stretched_of_hit hh]

theorem addressMatchWake_joins {acc : HostAccess} {bad : BitVec 5} (ha : s.acknowledges p acc.addr = true)
    (hs : acc.speed ≠ .highSpeed) (hr : s.supply.cs = .run) (ho : (s.port (otherPort p)).stretch = true)
    (hp : (s.port p).stretch = false) : Runs (.addressMatchWake ⟨p, acc, bad⟩) s fun t =>
      (t.port p).stretch = true ∧ t.bit oDevice Pid.Device.WAKE_CAUSE (portIx p) = true := by
  refine ⟨_, (addressMatchWake_eq ha hs).trans ((if_neg (by simp [hr])).trans (if_pos (by simp [ho, hp]))), ?_, ?_⟩
  · show ((s.stretched p acc).port p).stretch = true
    rw [State.stretched, State.port_modPort]
  · exact bit_setBit_same _ (by decide) _

theorem wakeStretchRelease_runs (us : BitVec 16) (hs : (s.port p).stretch = true) : Runs (.wakeStretchRelease p us) s fun t =>
    (t.port p).stretch = false ∧ (2000 ≤ us.toNat → (t.port p).driven = [0xFF]) ∧
      t.par (oPort p) Pid.HPort.WAKE_STRETCH_MAX = max (s.par (oPort p) Pid.HPort.WAKE_STRETCH_MAX) us.toNat := by
  let x := s.modPort p fun x => { x with stretch := false, driven := if us.toNat ≥ 2000 then [0xFF] else x.driven }
  have hport : x.port p = { s.port p with
    stretch := false, driven := if us.toNat ≥ 2000 then [0xFF] else (s.port p).driven } := State.port_modPort ..
  refine ⟨x.updPar (oPort p) Pid.HPort.WAKE_STRETCH_MAX fun v => max v us.toNat, if_pos hs, ?_, fun hu => ?_,
    State.par_setPar_same _ (by decide) _⟩
  · exact congrArg HostPortAux.stretch hport
  · exact (congrArg HostPortAux.driven hport).trans (if_pos hu)

end

/-- Settles O26: the request stream, the addresses, cautious mode, the alerts and the wakes. -/
theorem portsFollow : Obligations.PortsFollow := by
  refine ⟨fun s p acc data rest => ⟨reqStream_joins, doorbellDiscard_runs⟩, fun s p a => ⟨acknowledges_rom s p a, fun hr he =>
    acknowledges_unserved s p a hr (.inr he), fun hc => acknowledges_unserved s p a ?_ (.inl ?_), acknowledges_primary s p a⟩,
    fun s p => ⟨cautiousExit_runs, clockLowTimeout_runs, fun hp hl hw => ⟨alertResponse_wins hp hl hw, alertResponse_loses hp hl⟩,
      fun acc bad ha => ⟨fun hs => ?_, addressMatchWake_wakes ha, addressMatchWake_joins ha⟩, fun us => wakeStretchRelease_runs us⟩⟩
  · obtain h | h | h | h := hc <;> simp [h]
  · obtain h | h | h | h := hc <;> simp [State.running, h]
  · exact if_pos (by simp [hs])

end Sys2Proof.Machine

/-! # Proofs: the clocks, the tick and the wall clock (O27, O28) -/
namespace Sys2Proof.Machine
set_option Elab.async false

/-! ## An alert on both ports -/

theorem portIx_ne {p q : HostPort} (h : p ≠ q) : portIx p ≠ portIx q := fun e => h (portIx_injective e)

theorem port_modPort_other (s : State) {p q : HostPort} (h : p ≠ q) (f : HostPortAux → HostPortAux) :
    (s.modPort p f).port q = s.port q := vget_vmod_other _ (portIx_ne h) _ _

/-- A cause that is raised shows on both ports (R388). -/
theorem raise_alerted (s : State) (c : Nat) (p : HostPort) : ((s.raise c).port p).alertCause.testBit c = true := by
  cases p with
  | ha =>
    refine (congrArg (fun x : HostPortAux => x.alertCause.testBit c) ?_).trans (raisePort_alertCause s .ha c)
    exact port_modPort_other _ (by decide) _
  | hb => exact raisePort_alertCause _ .hb c

/-! ## The crystals and the tick (R293 to R297) -/

section
variable {s : State}

theorem clockFailCount_hi : (findDesc oDevice Pid.Device.XT32_FAIL_COUNT).map Desc.hi = some 4294967295 ∧
    (findDesc oDevice Pid.Device.XT25_FAIL_COUNT).map Desc.hi = some 4294967295 := by decide

theorem recordAwake_foot {source cls event : Nat} {snap : List Snap} :
    Foot [.ports, .grist] (some [5, 257, 258, 260, 261, 264]) s (s.recordAwake source cls event snap) := by
  unfold State.recordAwake
  exact .ite (.withGrist (.refl _ _ _)) State.record_foot

/-- A failed crystal: its clock moves, the sticky bit is set and the failure counted, whatever record and alert follow. -/
theorem clockFail_leaves {g : TimeState → TimeState} {t : State} {b pid : Nat}
    (hf : Foot [.ports, .grist] (some [5, 257, 258, 260, 261, 264]) (((s.modTime g).clockBit b).incPar oDevice pid) t)
    (hp : (findDesc oDevice pid).map Desc.hi = some 4294967295 ∧ pid < 4096 ∧ pid ≠ Pid.Device.CLOCK_STATUS ∧
      [5, 257, 258, 260, 261, 264].contains pid = false) (hc : s.par oDevice pid < 4294967295) :
    t.time = g s.time ∧ t.bit oDevice Pid.Device.CLOCK_STATUS b = true ∧ t.par oDevice pid = s.par oDevice pid + 1 := by
  obtain ⟨hhi, hlt, hne, hmem⟩ := hp
  let y := (s.modTime g).clockBit b
  have hy : y.par oDevice pid = s.par oDevice pid := par_setPar_pid (s.modTime g) _ hlt (by decide) hne
  refine ⟨hf.fld .time rfl, ?_, ?_⟩
  · rw [bit_of_foot hf, State.bit, State.incPar, State.addPar, State.updPar, par_setPar_pid _ _ (by decide) hlt hne.symm]
    exact bit_setBit_same _ (by decide) b
  · rw [hf.par _ rfl _ _ hlt hmem, par_incPar_of_hi (s := y) hhi (hy ▸ hc) hlt, hy]

theorem xt32Fail_runs (h : s.supply.cs ≠ .off) (hr : s.time.onAonRc = false)
    (hc : s.par oDevice Pid.Device.XT32_FAIL_COUNT < 4294967295) : Runs .xt32Fail s fun t =>
      t.time = { s.time with onAonRc := true } ∧ t.bit oDevice Pid.Device.CLOCK_STATUS ckXT32_FAIL = true ∧
      t.par oDevice Pid.Device.XT32_FAIL_COUNT = s.par oDevice Pid.Device.XT32_FAIL_COUNT + 1 :=
  ⟨_, if_neg (by simp [h, hr]), clockFail_leaves recordAwake_foot (by decide) hc⟩

theorem xt25Fail_runs (h : s.coreClock = true) (hr : s.time.onRefRc = false)
    (hc : s.par oDevice Pid.Device.XT25_FAIL_COUNT < 4294967295) : Runs .xt25Fail s fun t =>
      t.time = { s.time with onRefRc := true } ∧ t.bit oDevice Pid.Device.CLOCK_STATUS ckXT25_FAIL = true ∧
      t.par oDevice Pid.Device.XT25_FAIL_COUNT = s.par oDevice Pid.Device.XT25_FAIL_COUNT + 1 ∧
      ∀ p, (t.port p).alertCause.testBit alFault = true := by
  obtain ⟨htime, hbit, hcount⟩ := clockFail_leaves (s := s) (g := fun t => { t with onRefRc := true })
    (State.raise_foot.on State.record_foot) (by decide) hc
  exact ⟨_, if_neg (by simp [h, hr]), htime, hbit, hcount, raise_alerted _ alFault⟩

theorem tickLatch_runs (aon : BitVec 48) (h : s.coreClock = true) : Runs (.tickLatch aon) s fun t =>
    t.time.latch = some ⟨s.time.tick, aon, s.par oDevice Pid.Device.WALL_OFFSET, false⟩ ∧
      { t.time with latch := s.time.latch } = s.time ∧ Foot [.time] (some []) s t := by
  refine ⟨_, if_pos h, ?_, rfl, State.latchTick_foot⟩
  simp [State.latchTick, State.modTime]

theorem tickJournal_runs (hm : s.miller3 = true) (hl : s.thermalLatched = false) : Runs .tickJournal s fun t =>
    (t.nvm.queue.any fun q => q.work == .tickRecord) = true ∧ Foot [.nvm] (some []) s t :=
  ⟨_, if_pos (by simp [hm, hl]), askOnce_asked s .tick .tickRecord 1, State.askOnce_foot⟩

theorem ceilingLate_runs (hm : s.miller3 = true) (hw : s.time.ceilingWritten = true)
    (hb : s.bit oDevice Pid.Device.CLOCK_STATUS ckCEILING_LATE = false)
    (hc : (s.time.tick : Int) + 600000000 ≥ s.par oDevice Pid.Device.TICK_CEILING) : Runs .ceilingLate s fun t =>
      t.bit oDevice Pid.Device.CLOCK_STATUS ckCEILING_LATE = true ∧ t.time = s.time := by
  refine ⟨_, if_pos (by simp [hm, hw, hb, hc]), ?_, State.record_foot.fld .time rfl⟩
  exact (bit_of_foot State.record_foot ckCEILING_LATE).trans (bit_setBit_same s (by decide) _)

end

/-- Settles O27: the failures and returns of the crystals, and what is kept of the tick. -/
theorem clocksAreKept : Obligations.ClocksAreKept :=
  ⟨fun _ => ⟨xt32Fail_runs, fun h => if_neg (by simp [h]), xt25Fail_runs, fun h => if_pos h⟩,
    fun _ => ⟨tickLatch_runs, tickJournal_runs, ceilingLate_runs⟩⟩

/-! ## The wall clock (R299 to R301) -/

section
variable {s : State}

/-- Whether an operation has been accepted says nothing of whether its port is enabled; nor do its later steps. -/
theorem reply_after_foot {x : State} {r : Req} {n st c : Nat} {p b : Bytes} {fs : List Fld} {l : List Nat}
    (ha : Accepts s r n p) (k : Foot fs (some l) (Taken s r n p) x) (hn : l.contains Pid.ENABLE = false := by rfl) :
    Replied s (x.reply (theOp s r n p) st c b) r n st c b :=
  State.reply_replied ((enabled_oPort_of_foot k hn r.port).trans ha.enabled_taken)

/-- The time as TIME_SET leaves it: MODE 0 drops a slew, MODE 1 begins one (R300). -/
def State.timeAfterSet (s : State) (p : Bytes) : TimeState :=
  { s.time with
    slew := if byteAt p 0 = 0 then none
      else some { target := fieldS p 4 8 - s.time.tick, oldWall := s.wallNow, newWall := fieldS p 4 8, stepTick := s.time.tick }
    wallValid := true, wallSuspect := false }

/-- WALL_OFFSET as TIME_SET leaves it. -/
def State.offsetAfterSet (s : State) (p : Bytes) : Int :=
  if byteAt p 0 = 0 then fieldS p 4 8 - s.time.tick else s.par oDevice Pid.Device.WALL_OFFSET

/-- TIME_SET sets the time, asks for the tick record and answers with what it has changed (R300). -/
theorem opTimeSet_leaves {e : Op} (h : s.timeSetCheck e.payload = none) : ∃ x : State,
    Foot [.ports, .grist, .hopper, .time, .nvm] (some [5, 257, 258, 260, 261, 264, Pid.Device.WALL_OFFSET, Pid.Device.TIME_SET_COUNT]) s x ∧
    x.time = s.timeAfterSet e.payload ∧ x.par oDevice Pid.Device.WALL_OFFSET = s.offsetAfterSet e.payload ∧
    opTimeSet e s = (x.askOnce .tick .tickRecord 1).ok e
      (leBytes 8 s.wallNow ++ leBytes 8 (fieldS e.payload 4 8) ++ leBytes 8 s.time.tick) := by
  let a := (s.opCommit e.id).record oDevice rcConfig 0x31
    [.lit64 s.wallNow, .lit64 (fieldS e.payload 4 8), .lit (byteAt e.payload 0)]
  have ha : Foot [.ports, .grist, .hopper] (some [5, 257, 258, 260, 261, 264]) s a :=
    State.record_foot.on State.opCommit_foot.within
  have htime : a.time = s.time := ha.fld .time rfl
  have hoffset : a.par oDevice Pid.Device.WALL_OFFSET = s.par oDevice Pid.Device.WALL_OFFSET := ha.par _ rfl _ _ (by decide) rfl
  let b := if byteAt e.payload 0 = 0 then a.setPar oDevice Pid.Device.WALL_OFFSET (fieldS e.payload 4 8 - a.time.tick) else a
  have hb : Foot [.ports, .grist, .hopper] (some [5, 257, 258, 260, 261, 264, Pid.Device.WALL_OFFSET]) s b :=
    .ite (.setPar ha.within) ha.within
  have hbt : b.time = s.time := hb.fld .time rfl
  have hbo : b.par oDevice Pid.Device.WALL_OFFSET = s.offsetAfterSet e.payload := by
    unfold b State.offsetAfterSet
    split
    · rw [State.par_setPar_same _ (by decide), htime]
    · exact hoffset
  let x := ({ b with time := s.timeAfterSet e.payload } : State).incPar oDevice Pid.Device.TIME_SET_COUNT
  refine ⟨x, .incPar (.mk' hb.within), rfl, (par_setPar_pid _ _ (by decide) (by decide) (by decide)).trans hbo, ?_⟩
  let g (t : TimeState) : TimeState := { t with
    slew := if byteAt e.payload 0 = 0 then none else some ⟨fieldS e.payload 4 8 - a.time.tick, s.wallNow, fieldS e.payload 4 8, b.time.tick⟩
    wallValid := true, wallSuspect := false }
  have hx : (b.modTime g).incPar oDevice Pid.Device.TIME_SET_COUNT = x := by
    unfold x State.modTime State.timeAfterSet g
    rw [hbt, htime]
  have htick : (x.askOnce .tick .tickRecord 1).time = x.time := State.askOnce_foot.fld .time rfl
  have heq : opTimeSet e s = (((b.modTime g).incPar oDevice Pid.Device.TIME_SET_COUNT).askOnce .tick .tickRecord 1).ok e
      (leBytes 8 s.wallNow ++ leBytes 8 (fieldS e.payload 4 8) ++
        leBytes 8 (((b.modTime g).incPar oDevice Pid.Device.TIME_SET_COUNT).askOnce .tick .tickRecord 1).time.tick) := by
    unfold opTimeSet
    rw [h]
  rw [heq, hx, htick]
  rfl

/-- TIME_SET (R299, R300). -/
theorem timeSet_runs {r : Req} {p : Bytes} (ha : Accepts s r 0x80 p) (hc : (Taken s r 0x80 p).timeSetCheck p = none) :
    Runs (.timeSet r p) s fun t =>
     t.time.wallValid = true ∧ t.time.wallSuspect = false ∧ t.time.tick = s.time.tick ∧
     (byteAt p 0 = 0 → t.wallNow = fieldS p 4 8 ∧ t.time.slew = none) ∧
     (byteAt p 0 ≠ 0 → t.wallNow = s.wallNow ∧
       t.time.slew = some { target := fieldS p 4 8 - s.time.tick, oldWall := s.wallNow, newWall := fieldS p 4 8,
                            stepTick := s.time.tick }) ∧
     (t.nvm.queue.any fun q => q.work == .tickRecord) = true ∧
     Replied s t r 0x80 stOK 0 (leBytes 8 s.wallNow ++ leBytes 8 (fieldS p 4 8) ++ leBytes 8 s.time.tick) := by
  obtain ⟨x, hx, htime, hoffset, heq⟩ := opTimeSet_leaves (s := Taken s r 0x80 p) (e := theOp s r 0x80 p) hc
  let t := opTimeSet (theOp s r 0x80 p) (Taken s r 0x80 p)
  have hask : Foot [.ports, .hopper, .nvm] (some [385]) x t := by
    unfold t
    rw [heq]
    exact State.ok_foot.on State.askOnce_foot.within
  have ht : t.time = (Taken s r 0x80 p).timeAfterSet p := (hask.fld .time rfl).trans htime
  have hwall : t.wallNow = s.time.tick + (Taken s r 0x80 p).offsetAfterSet p := by
    rw [State.wallNow, ht, hask.par _ rfl _ _ (by decide) rfl, hoffset]
    rfl
  refine ⟨t, (congrArg Host.Outcome.next (submitReq_accepted opTimeSet ha)), by rw [ht]; rfl, by rw [ht]; rfl, by rw [ht]; rfl,
    fun h => ⟨?_, ?_⟩, fun h => ⟨?_, ?_⟩, ?_, ?_⟩
  · rw [hwall, State.offsetAfterSet, if_pos h]
    exact add_sub_cancel _ _
  · rw [ht]
    exact if_pos h
  · rw [hwall, State.offsetAfterSet, if_neg h]
    rfl
  · rw [ht]
    exact if_neg h
  · unfold t
    rw [heq, State.ok_foot.fld .nvm rfl]
    exact askOnce_asked ..
  · unfold t
    rw [heq]
    exact reply_after_foot ha (State.askOnce_foot.on hx)

/-- WALL_OFFSET after a step of its slew towards a target (R301). -/
def slewNext (now target : Int) : Int := if now < target then now + 1 else if now > target then now - 1 else now

/-- A slew after a step that has reached `next` at `tick`: over at its target, and else due again 2000 µs after the step was. -/
def slewAfter (w : Slew) (next : Int) (tick : Nat) : Option Slew :=
  if next = w.target then none else some { w with stepTick := tick - (tick - w.stepTick) % 2000 }

/-- A slew's step moves the wall clock, and the slew ends at its target or is due again (R301). -/
theorem wallSlewStep_leaves {w : Slew} (hc : s.coreClock = true) (hw : s.time.slew = some w) (h : w.stepTick + 2000 ≤ s.time.tick) :
    Runs .wallSlewStep s fun t =>
      t.par oDevice Pid.Device.WALL_OFFSET = slewNext (s.par oDevice Pid.Device.WALL_OFFSET) w.target ∧
      t.time = { s.time with slew := slewAfter w (slewNext (s.par oDevice Pid.Device.WALL_OFFSET) w.target) s.time.tick } := by
  let next := slewNext (s.par oDevice Pid.Device.WALL_OFFSET) w.target
  let x := s.setPar oDevice Pid.Device.WALL_OFFSET next
  have hx : x.par oDevice Pid.Device.WALL_OFFSET = next := State.par_setPar_same s (by decide) next
  have hexec : exec .wallSlewStep s = if next = w.target then
      .next ((x.modTime fun t => { t with slew := none }).record oDevice rcConfig 0x31 [.lit64 w.oldWall, .lit64 w.newWall, .lit 1])
      else .next (x.modTime fun t => { t with
        slew := some { w with stepTick := s.time.tick - (s.time.tick - w.stepTick) % 2000 } }) := by
    show execWallSlewStep s = _
    unfold execWallSlewStep
    rw [hw]
    simp only [hc, Bool.not_true, Bool.false_or, decide_eq_true_eq, Nat.not_lt.2 h, if_false]
    rfl
  by_cases hn : next = w.target
  · refine ⟨_, hexec.trans (if_pos hn), (State.record_foot.par _ rfl _ _ (by decide) rfl).trans hx, ?_⟩
    rw [State.record_foot.fld .time rfl, slewAfter, if_pos hn]
    rfl
  · refine ⟨_, hexec.trans (if_neg hn), hx, ?_⟩
    rw [slewAfter, if_neg hn]
    rfl

/-- A slew's step, one microsecond towards its target, and the slew's end there (R301). -/
theorem wallSlewStep_runs {w : Slew} (hc : s.coreClock = true) (hw : s.time.slew = some w) (h : w.stepTick + 2000 ≤ s.time.tick) :
    Runs .wallSlewStep s fun t =>
     t.time.tick = s.time.tick ∧
     (s.par oDevice Pid.Device.WALL_OFFSET < w.target → t.wallNow = s.wallNow + 1) ∧
     (w.target < s.par oDevice Pid.Device.WALL_OFFSET → t.wallNow = s.wallNow - 1) ∧
     (t.par oDevice Pid.Device.WALL_OFFSET = w.target ↔ t.time.slew = none) ∧
     ∀ x, t.time.slew = some x → { x with stepTick := w.stepTick } = w ∧ x.stepTick ≤ s.time.tick ∧
       s.time.tick < x.stepTick + 2000 := by
  obtain ⟨t, hexec, hoffset, htime⟩ := wallSlewStep_leaves hc hw h
  have htick : t.time.tick = s.time.tick := by rw [htime]
  have hwall : t.wallNow = s.time.tick + slewNext (s.par oDevice Pid.Device.WALL_OFFSET) w.target := by
    rw [State.wallNow, htick, hoffset]
  have hslew := congrArg TimeState.slew htime
  rw [slewAfter] at hslew
  refine ⟨t, hexec, htick, fun hlt => ?_, fun hlt => ?_, ?_, fun x hx => ?_⟩
  · rw [hwall, slewNext, if_pos hlt, ← add_assoc, State.wallNow]
  · rw [hwall, slewNext, if_neg hlt.not_gt, if_pos hlt, ← add_sub_assoc, State.wallNow]
  · rw [hoffset, hslew]
    split <;> simp_all
  · rw [hslew] at hx
    split at hx
    · cases hx
    · cases hx
      exact ⟨rfl, Nat.sub_le _ _, by simp only; omega⟩

end

/-- Settles O28: TIME_SET, and the steps of a slew. -/
theorem wallClockFollows : Obligations.WallClockFollows := by
  refine ⟨fun s r p => timeSet_runs, fun s w hc hw => ⟨fun h => ?_, wallSlewStep_runs hc hw⟩⟩
  show execWallSlewStep s = _
  unfold execWallSlewStep
  rw [hw]
  exact if_pos (by simp [h])

end Sys2Proof.Machine

/-! # Proofs: the timers count, and what acts on them (O29, O30) -/
namespace Sys2Proof.Machine
set_option Elab.async false

/-! ## What a timer's parameters say across an operation -/

/-- The parameters of a timer that govern how it counts. -/
abbrev timerGoverns : List Nat := [Pid.Timer.LINK, Pid.Timer.COMPARE, Pid.Timer.OUT_MODE, Pid.Timer.MATCH_ALERT]

section
variable {s t : State} {n : Nat}

theorem linked_of_foot {fs : List Fld} {l : List Nat} (k : Foot fs (some l) s t) (hl : l.contains Pid.Timer.LINK = false := by rfl) :
    t.linked n = s.linked n := by
  rw [State.linked, k.par _ rfl _ _ (by decide) hl, State.linked]

theorem timer_of_foot {fs : List Fld} {ps : Option (List Nat)} (k : Foot fs ps s t) (hf : fs.contains .timers = false := by rfl) :
    t.timer n = s.timer n := congrArg (fun v => vget v n TimerAux.reset) (k.fld .timers hf)

/-! ## COUNT -/

theorem par_setCount (s : State) (n v : Nat) :
    (s.setCount n v).par (oTimer n) Pid.Timer.COUNT = (v % 4294967296 : Nat) := State.par_setPar_same s (by decide) _

theorem par_setCount_other {m : Nat} (s : State) (h : m ≠ n) (v : Nat) {q : Nat} (hq : q < 4096) :
    (s.setCount n v).par (oTimer m) q = s.par (oTimer m) q :=
  s.par_setPar_other _ fun he => h (Nat.add_left_cancel ((keyOf_inj hq (by decide)).1 he).1)

/-- The value set on a timer, or on the pair that it leads. -/
theorem par_setValue (s : State) (n v : Nat) :
    (s.setValue n v).par (oTimer n) Pid.Timer.COUNT = (v % 4294967296 : Nat) ∧
      (s.linked n = true → (s.setValue n v).par (oTimer (n + 1)) Pid.Timer.COUNT = (v / 4294967296 % 4294967296 : Nat)) := by
  unfold State.setValue
  split
  · next h =>
    refine ⟨?_, fun _ => par_setCount ..⟩
    rw [par_setCount_other _ (by omega) _ (by decide), par_setCount]
  · next h => exact ⟨par_setCount .., fun hl => absurd hl h⟩

/-! ## A match and a wrap -/

/-- A timer as a match leaves it (R306). -/
def matchDrives (mode : Int) (a : TimerAux) : TimerAux :=
  if mode == 1 then { a with level := true }
  else if mode == 2 then { a with level := false }
  else if mode == 3 then { a with level := !a.level }
  else if mode == 4 then { a with level := true, pulse := true }
  else a

/-- A timer's ball as an advance leaves it (R306). -/
def advanceDrives (mode : Int) (a : TimerAux) : TimerAux :=
  if a.pulse && mode == 4 then { a with prePos := 0, level := false, pulse := false } else { a with prePos := 0 }

/-- A match after an advance, by OUT_MODE. -/
theorem matchDrives_advanceDrives (mode : Int) (a : TimerAux) :
    (matchDrives mode (advanceDrives mode a)).level =
      (if mode = 1 ∨ mode = 4 then true else if mode = 2 then false else if mode = 3 then !a.level else a.level) ∧
    (matchDrives mode (advanceDrives mode a)).prePos = 0 ∧ (matchDrives mode (advanceDrives mode a)).queue = a.queue := by
  by_cases h4 : mode = 4
  · subst h4
    cases hp : a.pulse <;> simp [matchDrives, advanceDrives, hp]
  · have ha : advanceDrives mode a = { a with prePos := 0 } := by simp [advanceDrives, h4]
    rw [ha]
    by_cases h1 : mode = 1
    · simp [matchDrives, h1]
    by_cases h2 : mode = 2
    · simp [matchDrives, h2]
    by_cases h3 : mode = 3
    · simp [matchDrives, h3]
    · simp [matchDrives, h1, h2, h3, h4]

theorem timer_advanced (h : n < 8) : (s.advanced n).timer n = advanceDrives (s.par (oTimer n) Pid.Timer.OUT_MODE) (s.timer n) := by
  have hpar : (s.modTimer n fun a => { a with prePos := 0 }).par (oTimer n) Pid.Timer.OUT_MODE =
      s.par (oTimer n) Pid.Timer.OUT_MODE := rfl
  unfold State.advanced State.pulseEnd advanceDrives
  rw [State.timer_modTimer _ h, hpar]
  split
  · rw [State.timer_modTimer _ h, State.timer_modTimer _ h]
  · rw [State.timer_modTimer _ h]

/-- A status bit of one timer is none of another. -/
theorem bit_setBit_timer {m : Nat} (h : m ≠ n) (b c : Nat) :
    (s.setBit (oTimer n) Pid.Timer.TM_STATUS c).bit (oTimer m) Pid.Timer.TM_STATUS b = s.bit (oTimer m) Pid.Timer.TM_STATUS b := by
  have hne : keyOf (oTimer m) Pid.Timer.TM_STATUS ≠ keyOf (oTimer n) Pid.Timer.TM_STATUS := fun he =>
    h (Nat.add_left_cancel ((keyOf_inj (by decide) (by decide)).1 he).1)
  rw [State.bit, State.setBit, State.updPar, State.par_setPar_other _ _ hne, State.bit]

/-- What a match leaves: its bit, its alert and the ball (R305, R306). -/
theorem matched_leaves (h : n < 8) :
    (s.matched n).bit (oTimer n) Pid.Timer.TM_STATUS tmMATCH = true ∧
    (s.matched n).bit (oTimer n) Pid.Timer.TM_STATUS tmWRAP = s.bit (oTimer n) Pid.Timer.TM_STATUS tmWRAP ∧
    (∀ m b, m ≠ n → (s.matched n).bit (oTimer m) Pid.Timer.TM_STATUS b = s.bit (oTimer m) Pid.Timer.TM_STATUS b) ∧
    (s.par (oTimer n) Pid.Timer.MATCH_ALERT = 1 → ∀ p, ((s.matched n).port p).alertCause.testBit alTimer = true) ∧
    (s.matched n).timer n = matchDrives (s.par (oTimer n) Pid.Timer.OUT_MODE) (s.timer n) := by
  let x := s.setBit (oTimer n) Pid.Timer.TM_STATUS tmMATCH
  have hx : Foot [] (some [Pid.Timer.TM_STATUS]) s x := .setBit (.refl _ _ _)
  have hpar (q : Nat) (hq : q < 4096) (hne : q ≠ Pid.Timer.TM_STATUS) : x.par (oTimer n) q = s.par (oTimer n) q :=
    hx.par _ rfl _ _ hq (by simpa using hne)
  let y := if x.par (oTimer n) Pid.Timer.MATCH_ALERT == 1 then x.raise alTimer else x
  have hy : Foot [.ports] (some []) x y := .ite State.raise_foot (.refl _ _ _)
  have hm : s.matched n = y.modTimer n (matchDrives (s.par (oTimer n) Pid.Timer.OUT_MODE)) := by
    have hmode : y.par (oTimer n) Pid.Timer.OUT_MODE = s.par (oTimer n) Pid.Timer.OUT_MODE :=
      (hy.par _ rfl _ _ (by decide) rfl).trans (hpar _ (by decide) (by decide))
    rw [← hmode]
    rfl
  have hbit (m b : Nat) : (s.matched n).bit (oTimer m) Pid.Timer.TM_STATUS b = x.bit (oTimer m) Pid.Timer.TM_STATUS b := by
    rw [hm]
    exact (bit_of_foot State.modTimer_foot b).trans (bit_of_foot hy b)
  refine ⟨(hbit _ _).trans (bit_setBit_same s (by decide) _), (hbit _ _).trans (bit_setBit_other (by decide) (by decide)),
    fun m b hm => (hbit m b).trans (bit_setBit_timer hm ..), fun ha p => ?_, ?_⟩
  · have hraise : y = x.raise alTimer := if_pos (by rw [hpar _ (by decide) (by decide), ha]; rfl)
    have hport (g : TimerAux → TimerAux) : (y.modTimer n g).port p = y.port p := rfl
    rw [hm, hport, hraise]
    exact raise_alerted x alTimer p
  · rw [hm, State.timer_modTimer _ h, timer_of_foot hy, timer_of_foot hx]

end

/-! ## The rows of the counters -/

section
variable {s : State} {n : Nat}

theorem bit_wrapped (s : State) (n : Nat) : (s.wrapped n).bit (oTimer n) Pid.Timer.TM_STATUS tmWRAP = true ∧
    (s.linked n = true → (s.wrapped n).bit (oTimer (n + 1)) Pid.Timer.TM_STATUS tmWRAP = true) := by
  have hown : (s.setBit (oTimer n) Pid.Timer.TM_STATUS tmWRAP).bit (oTimer n) Pid.Timer.TM_STATUS tmWRAP = true :=
    bit_setBit_same s (by decide) _
  have hlinked : (s.setBit (oTimer n) Pid.Timer.TM_STATUS tmWRAP).linked n = s.linked n :=
    linked_of_foot (.setBit (.refl [] (some [Pid.Timer.TM_STATUS]) s))
  unfold State.wrapped
  simp only [hlinked]
  split
  · exact ⟨(bit_setBit_timer (by omega) ..).trans hown, fun _ => bit_setBit_same _ (by decide) _⟩
  · next h => exact ⟨hown, fun hl => absurd hl h⟩

theorem leader_even (h : s.leader n = n) (hl : s.linked n = true) : n % 2 = 0 := by
  rw [State.leader, if_pos hl] at h
  omega

/-- A state in which a timer's count has been set and its bits moved, and nothing else of it. -/
abbrev CountMoved (s t : State) : Prop := Foot [.timers, .ports] (some [Pid.Timer.COUNT, Pid.Timer.TM_STATUS]) s t

/-- A counter, or the pair that it leads, advances into its compare value (R305, R309). -/
theorem timerMatch_eq (h : s.counting n = true) (hl : s.leader n = n) {f : Fin 8} (hf : f.val = n) : ∃ x : State,
    exec (.timerMatch f) s = .next (((x.setValue n (s.timerValue n Pid.Timer.COMPARE)).advanced n).matched n) ∧
    Foot [] (some [Pid.Timer.TM_STATUS]) s x ∧
    (s.timerValue n Pid.Timer.COMPARE ≤ s.timerValue n Pid.Timer.COUNT →
      x.bit (oTimer n) Pid.Timer.TM_STATUS tmWRAP = true) := by
  subst hf
  have hne : (!s.counting f.val || s.leader f.val != f.val) = false := by simp [h, hl]
  refine ⟨_, if_neg (by rw [hne]; exact Bool.false_ne_true), ?_, fun hc => ?_⟩
  · exact .ite State.wrapped_foot (.ite (.setBit (.refl _ _ _)) (.refl _ _ _))
  · rw [if_pos hc]
    exact (bit_wrapped ..).1

theorem timerValue_compare (hw : timerWords s n) :
    ((s.timerValue n Pid.Timer.COMPARE % 4294967296 : Nat) : Int) = s.par (oTimer n) Pid.Timer.COMPARE ∧
    (s.linked n = true →
      ((s.timerValue n Pid.Timer.COMPARE / 4294967296 % 4294967296 : Nat) : Int) = s.par (oTimer (n + 1)) Pid.Timer.COMPARE) := by
  obtain ⟨h₁, h₂⟩ := hw n (.inl rfl)
  obtain ⟨h₃, h₄⟩ := hw (n + 1) (.inr rfl)
  unfold State.timerValue
  split
  · exact ⟨by omega, fun _ => by omega⟩
  · next h => exact ⟨by omega, fun hl => absurd hl h⟩

/-- A match (R304 to R306, R309). -/
theorem timerMatch_runs (f : Fin 8) (h : s.counting f.val = true) (hl : s.leader f.val = f.val) (hw : timerWords s f.val) :
    Runs (.timerMatch f) s fun t =>
     t.par (oTimer f.val) Pid.Timer.COUNT = s.par (oTimer f.val) Pid.Timer.COMPARE ∧
     (s.linked f.val = true →
       t.par (oTimer (f.val + 1)) Pid.Timer.COUNT = s.par (oTimer (f.val + 1)) Pid.Timer.COMPARE) ∧
     t.bit (oTimer f.val) Pid.Timer.TM_STATUS tmMATCH = true ∧
     (s.timerValue f.val Pid.Timer.COMPARE ≤ s.timerValue f.val Pid.Timer.COUNT →
       t.bit (oTimer f.val) Pid.Timer.TM_STATUS tmWRAP = true) ∧
     (s.par (oTimer f.val) Pid.Timer.MATCH_ALERT = 1 → ∀ p, (t.port p).alertCause.testBit alTimer = true) ∧
     (t.timer f.val).level =
       (if s.par (oTimer f.val) Pid.Timer.OUT_MODE = 1 ∨ s.par (oTimer f.val) Pid.Timer.OUT_MODE = 4 then true
        else if s.par (oTimer f.val) Pid.Timer.OUT_MODE = 2 then false
        else if s.par (oTimer f.val) Pid.Timer.OUT_MODE = 3 then !(s.timer f.val).level
        else (s.timer f.val).level) ∧
     (t.timer f.val).prePos = 0 ∧ (t.timer f.val).queue = (s.timer f.val).queue ∧ t.time = s.time := by
  obtain ⟨n, hn⟩ := f
  obtain ⟨x, hexec, hx, hwrap⟩ := timerMatch_eq h hl rfl
  let y := x.setValue n (s.timerValue n Pid.Timer.COMPARE)
  let z := y.advanced n
  have hy : Foot [] (some [Pid.Timer.COUNT]) x y := State.setValue_foot
  have hz : Foot [.timers] (some []) y z := State.advanced_foot
  have hsz : Foot [.timers] (some [Pid.Timer.TM_STATUS, Pid.Timer.COUNT]) s z := hz.on (hy.on hx.within)
  have ht : Foot [.ports, .timers] (some [Pid.Timer.TM_STATUS]) z (z.matched n) := State.matched_foot
  obtain ⟨hmatch, hkeep, -, halert, htimer⟩ := matched_leaves (s := z) hn
  obtain ⟨hcmp, hcmp1⟩ := timerValue_compare hw
  obtain ⟨hcount, hcount1⟩ := par_setValue x n (s.timerValue n Pid.Timer.COMPARE)
  have hend {m : Nat} : (z.matched n).par (oTimer m) Pid.Timer.COUNT = y.par (oTimer m) Pid.Timer.COUNT :=
    (ht.par _ rfl _ _ (by decide) rfl).trans (hz.par _ rfl _ _ (by decide) rfl)
  have hmode : z.par (oTimer n) Pid.Timer.OUT_MODE = s.par (oTimer n) Pid.Timer.OUT_MODE := hsz.par _ rfl _ _ (by decide) rfl
  have hymode : y.par (oTimer n) Pid.Timer.OUT_MODE = s.par (oTimer n) Pid.Timer.OUT_MODE :=
    (hz.par _ rfl _ _ (by decide) rfl).symm.trans hmode
  rw [hmode, timer_advanced hn, hymode, timer_of_foot hy, timer_of_foot hx] at htimer
  refine ⟨_, hexec, hend.trans (hcount.trans hcmp), fun hk => hend.trans ((hcount1 ?_).trans (hcmp1 hk)), hmatch, fun hc => ?_,
    fun ha => halert ?_, ?_⟩
  · rw [linked_of_foot hx]
    exact hk
  · rw [hkeep, bit_of_foot hz, bit_of_foot hy]
    exact hwrap hc
  · rw [hsz.par _ rfl _ _ (by decide) rfl]
    exact ha
  · obtain ⟨hlevel, hpre, hqueue⟩ := matchDrives_advanceDrives (s.par (oTimer n) Pid.Timer.OUT_MODE) (s.timer n)
    rw [htimer]
    exact ⟨hlevel, hpre, hqueue, (ht.fld .time rfl).trans (hsz.fld .time rfl)⟩

/-- A timer after a wrap: its match where the wrap meets its compare value. -/
theorem hit_leaves {x : State} (h : n < 8) (hit : Bool) :
    let t := if hit then x.matched n else x
    (hit = true → t.bit (oTimer n) Pid.Timer.TM_STATUS tmMATCH = true) ∧
    t.bit (oTimer n) Pid.Timer.TM_STATUS tmWRAP = x.bit (oTimer n) Pid.Timer.TM_STATUS tmWRAP ∧
    (∀ m, t.par (oTimer m) Pid.Timer.COUNT = x.par (oTimer m) Pid.Timer.COUNT) ∧
    ∀ m b, m ≠ n → t.bit (oTimer m) Pid.Timer.TM_STATUS b = x.bit (oTimer m) Pid.Timer.TM_STATUS b := by
  cases hit with
  | false => exact ⟨fun he => absurd he Bool.false_ne_true, rfl, fun _ => rfl, fun _ _ _ => rfl⟩
  | true =>
    obtain ⟨hmatch, hwrap, hother, -, -⟩ := matched_leaves (s := x) h
    exact ⟨fun _ => hmatch, hwrap, fun m => State.matched_foot.par _ rfl _ _ (by decide) rfl, hother⟩

/-- A wrap of an unlinked counter, or of a pair at its end, puts every word at 0 (R304, R308). -/
theorem timerWrap_ends (f : Fin 8) (h : s.counting f.val = true)
    (hk : s.linked f.val = true → f.val % 2 = 1 ∨ 4294967295 ≤ s.count (f.val + 1)) : Runs (.timerWrap f) s fun t =>
      let l := s.leader f.val
      t.par (oTimer l) Pid.Timer.COUNT = 0 ∧ t.bit (oTimer l) Pid.Timer.TM_STATUS tmWRAP = true ∧
      (s.linked l = true → t.par (oTimer (l + 1)) Pid.Timer.COUNT = 0 ∧ t.bit (oTimer (l + 1)) Pid.Timer.TM_STATUS tmWRAP = true) ∧
      (s.timerValue l Pid.Timer.COMPARE = 0 → t.bit (oTimer l) Pid.Timer.TM_STATUS tmMATCH = true) := by
  obtain ⟨n, hn⟩ := f
  let l := s.leader n
  have hl : l < 8 := by
    unfold l State.leader
    split <;> omega
  let y := s.setValue l 0
  let z := y.advanced l
  let hit := decide (s.timerValue l Pid.Timer.COUNT < s.timerValue l Pid.Timer.COMPARE) || s.timerValue l Pid.Timer.COMPARE == 0
  have hexec : exec (.timerWrap ⟨n, hn⟩) s = .next (if hit then (z.wrapped l).matched l else z.wrapped l) := by
    have hnot : ¬ (s.linked n && decide (n = l) && decide (s.count (n + 1) < 4294967295)) = true := by
      intro hand
      simp only [Bool.and_eq_true, decide_eq_true_eq] at hand
      obtain ⟨⟨hlink, hlead⟩, hlow⟩ := hand
      have := leader_even hlead.symm hlink
      have := hk hlink
      simp only at this
      omega
    refine (if_neg (by simp [h])).trans (if_neg ?_)
    simpa [and_assoc] using hnot
  have hyz : Foot [.timers] (some [Pid.Timer.COUNT]) s z := State.advanced_foot.on State.setValue_foot.within
  have hz : Foot [.timers] (some []) y z := State.advanced_foot
  obtain ⟨hcount, hcount1⟩ := par_setValue s l 0
  obtain ⟨hwrap, hwrap1⟩ := bit_wrapped z l
  obtain ⟨hmatch, hkeep, hpar, hother⟩ := hit_leaves (x := z.wrapped l) hl hit
  have hend (m : Nat) : (if hit then (z.wrapped l).matched l else z.wrapped l).par (oTimer m) Pid.Timer.COUNT = y.par (oTimer m) Pid.Timer.COUNT :=
    (hpar m).trans ((State.wrapped_foot.par _ rfl _ _ (by decide) rfl).trans (hz.par _ rfl _ _ (by decide) rfl))
  refine ⟨_, hexec, (hend l).trans hcount, hkeep.trans hwrap, fun hk => ⟨(hend _).trans (hcount1 hk), ?_⟩, fun hc => hmatch ?_⟩
  · rw [hother (l + 1) _ (by omega)]
    exact hwrap1 ((linked_of_foot hyz).trans hk)
  · exact Bool.or_eq_true_iff.2 (.inr (beq_iff_eq.2 hc))

/-- A wrap of a pair's low word carries into the high one (R308). -/
theorem timerWrap_carries (f : Fin 8) (h : s.counting f.val = true) (hk : s.linked f.val = true) (he : f.val % 2 = 0)
    (hc : s.count (f.val + 1) < 4294967295) : Runs (.timerWrap f) s fun t =>
      t.par (oTimer f.val) Pid.Timer.COUNT = 0 ∧ t.count (f.val + 1) = s.count (f.val + 1) + 1 ∧
      t.bit (oTimer f.val) Pid.Timer.TM_STATUS tmWRAP = true := by
  obtain ⟨n, hn⟩ := f
  simp only at h hk he hc ⊢
  have hl : n = s.leader n := by
    rw [State.leader, if_pos hk]
    omega
  let next := (s.count (n + 1) + 1) * 4294967296
  let hit := decide (s.timerValue n Pid.Timer.COUNT < s.timerValue n Pid.Timer.COMPARE) &&
    decide (s.timerValue n Pid.Timer.COMPARE ≤ next)
  let y := s.setValue n next
  let z := (y.advanced n).setBit (oTimer n) Pid.Timer.TM_STATUS tmWRAP
  have hexec : exec (.timerWrap ⟨n, hn⟩) s = .next (if hit then z.matched n else z) :=
    (if_neg (by simp [h])).trans (if_pos (by simp [hk, ← hl, hc]))
  obtain ⟨hcount, hcount1⟩ := par_setValue s n next
  obtain ⟨-, hkeep, hpar, -⟩ := hit_leaves (x := z) hn hit
  have hz : Foot [.timers] (some [Pid.Timer.TM_STATUS]) y z := .setBit State.advanced_foot.within
  have hend (m : Nat) : (if hit then z.matched n else z).par (oTimer m) Pid.Timer.COUNT = y.par (oTimer m) Pid.Timer.COUNT :=
    (hpar m).trans (hz.par _ rfl _ _ (by decide) rfl)
  refine ⟨_, hexec, (hend n).trans (hcount.trans ?_), ?_, hkeep.trans (bit_setBit_same _ (by decide) _)⟩
  · rw [Nat.mul_mod_left]
    rfl
  · rw [State.count, hend, hcount1 hk, Nat.mul_div_cancel _ (by decide), Nat.mod_eq_of_lt (by omega), Int.toNat_natCast]

end

/-- Settles O29: a match, and the wraps of a counter and of a pair. -/
theorem timersCount : Obligations.TimersCount := by
  refine ⟨fun s n => timerMatch_runs n, fun s n h => ⟨fun hk => ?_, fun hk he hc => timerWrap_carries n h hk he hc, fun hk hc => ?_⟩⟩
  · obtain ⟨t, hexec, hcount, hwrap, -, hmatch⟩ := timerWrap_ends n h fun he => absurd he (by simp [hk])
    have hl : s.leader n.val = n.val := if_neg (by simp [hk])
    rw [hl] at hcount hwrap hmatch
    refine ⟨t, hexec, hcount, hwrap, fun hz => hmatch ?_⟩
    rw [State.timerValue, if_neg (by simp [hk]), hz]
    rfl
  · obtain ⟨t, hexec, hcount, hwrap, hpair, -⟩ := timerWrap_ends n h fun _ => hc
    have hl : s.leader n.val = n.val - n.val % 2 := if_pos hk
    have hlink : s.linked (s.leader n.val) = true := by
      have heven : s.leader n.val - s.leader n.val % 2 = n.val - n.val % 2 := by omega
      rw [State.linked, heven]
      exact hk
    obtain ⟨hcount1, hwrap1⟩ := hpair hlink
    rw [hl] at hcount hwrap hcount1 hwrap1
    exact ⟨t, hexec, hcount, hcount1, hwrap, hwrap1⟩

/-! ## Writes of a timer's parameters -/

/-- The parameters of a timer whose writes R304 and R306 tell apart. -/
abbrev timerWrites : List Nat := [Pid.Timer.COUNT, Pid.Timer.PRESCALE, Pid.Timer.OUT_MODE]

theorem timerWrites_facts : ∀ n < 8, ∀ q ∈ timerWrites, (findDesc (oTimer n) q).all (fun d => d.acc == .rw) = true ∧
    q < 4096 ∧ q ≠ Pid.ENABLE ∧ q ≠ Pid.PRIORITY ∧ [pGainUser, pOffsetUser, pSenseRnom].contains q = false ∧
    objType (oTimer n) = .timer ∧ q ≠ Pid.Timer.COMPARE ∧ q ≠ Pid.Timer.LINK := by decide

section
variable {s : State} {n q : Nat}

/-- A write of one of these parameters sets it and moves the timer. -/
theorem writeParam_timer {d : Desc} (hn : n < 8) (hq : q ∈ timerWrites) (hd : findDesc (oTimer n) q = some d) (v : Int) :
    (s.writeParam (oTimer n) d v).par (oTimer n) q = v ∧
    (s.writeParam (oTimer n) d v).timer n =
      if q = Pid.Timer.PRESCALE then { s.timer n with prePos := 0 }
      else if q = Pid.Timer.OUT_MODE then { s.timer n with level := false, pulse := false } else s.timer n := by
  obtain ⟨hacc, hlt, hen, hpr, hcal, hty, hcmp, hlink⟩ := timerWrites_facts n hn q hq
  rw [hd] at hacc
  have hacc : d.acc = .rw := by simpa using hacc
  obtain rfl := findDesc_pid hd
  let x := s.setPar (oTimer n) d.pid v
  let y := if d.pid = Pid.Timer.PRESCALE then x.modTimer n fun a => { a with prePos := 0 }
    else if d.pid = Pid.Timer.OUT_MODE then x.modTimer n fun a => { a with level := false, pulse := false } else x
  have hy : Foot [.timers] (some []) x y := .ite State.modTimer_foot (.ite State.modTimer_foot (.refl _ _ _))
  have hw : (x.calWritten (oTimer n) d.pid).written (oTimer n) d.pid (s.par (oTimer n) d.pid) v = y := by
    rw [State.calWritten, if_neg (by rw [hcal]; exact Bool.false_ne_true), State.written, if_neg hen, if_neg hpr]
    simp only [hty, State.timerWritten, if_neg hcmp, if_neg hlink, Nat.add_sub_cancel_left]
    rfl
  have hwrite : s.writeParam (oTimer n) d v = if journals (oTimer n) d.pid d.src then y.askConfig (oTimer n) else y := by
    rw [← hw]
    simp only [State.writeParam, hacc]
    rfl
  have hend : Foot [.nvm] (some []) y (s.writeParam (oTimer n) d v) := by
    rw [hwrite]
    exact .ite State.askConfig_foot (.refl _ _ _)
  refine ⟨?_, ?_⟩
  · rw [hend.par _ rfl _ _ hlt rfl, hy.par _ rfl _ _ hlt rfl]
    exact State.par_setPar_same s hlt v
  · have hxt : x.timer n = s.timer n := rfl
    rw [timer_of_foot hend]
    unfold y
    split
    · rw [State.timer_modTimer _ hn, hxt]
    · split
      · rw [State.timer_modTimer _ hn, hxt]
      · exact hxt

/-! ## Captures, pulses and halts -/

theorem timer_modTimer_other {m : Nat} (s : State) (h : n ≠ m) (g : TimerAux → TimerAux) :
    (s.modTimer n g).timer m = s.timer m := vget_vmod_other _ h _ _

theorem capOvfCount_hi : ∀ n < 8, (findDesc (oTimer n) Pid.Timer.CAP_OVF_COUNT).map Desc.hi = some 4294967295 := by decide

/-- The value that an edge on a timer takes: of one that does not count, the value that it holds (R307, R309). -/
def State.captured (s : State) (n : Nat) (at_ : Word) : Word :=
  if s.enabled (oTimer n) then at_ else BitVec.ofNat 32 (s.count n)

/-- An edge that a timer takes (R307, R309). -/
theorem timerCapture_runs (n : Fin 8) (rising : Bool) (at_ : Word) (hclock : s.coreClock = true)
    (hfrozen : s.timerFrozen n.val = false) (hl : s.leader n.val = n.val) (hout : s.par (oTimer n.val) Pid.Timer.OUT_MODE = 0)
    (hmode : s.par (oTimer n.val) Pid.Timer.TM_MODE = 3 ∨ s.par (oTimer n.val) Pid.Timer.TM_MODE = (if rising then 1 else 2))
    (hovf : s.par (oTimer n.val) Pid.Timer.CAP_OVF_COUNT < 4294967295) :
    Runs (.timerCapture n rising at_) s fun t =>
      t.par (oTimer n.val) Pid.Timer.COUNT = (s.captured n.val at_).toNat ∧
      ((s.timer n.val).queue.length < 4 → (t.timer n.val).queue = (s.timer n.val).queue ++ [s.captured n.val at_] ∧
        (s.linked n.val = true → (t.timer (n.val + 1)).queue =
          (s.timer (n.val + 1)).queue ++ [BitVec.ofNat 32 (s.count (n.val + 1))])) ∧
      (4 ≤ (s.timer n.val).queue.length → (t.timer n.val).queue = (s.timer n.val).queue ∧
        t.bit (oTimer n.val) Pid.Timer.TM_STATUS tmCAP_OVERFLOW = true ∧
        t.par (oTimer n.val) Pid.Timer.CAP_OVF_COUNT = s.par (oTimer n.val) Pid.Timer.CAP_OVF_COUNT + 1) := by
  obtain ⟨n, hn⟩ := n
  simp only at *
  let c := s.captured n at_
  let x := s.setCount n c.toNat
  have hx : Foot [] (some [Pid.Timer.COUNT]) s x := State.setCount_foot
  have hcount : x.par (oTimer n) Pid.Timer.COUNT = c.toNat := by
    rw [par_setCount, Nat.mod_eq_of_lt (BitVec.isLt c)]
  have hexec : exec (.timerCapture ⟨n, hn⟩ rising at_) s =
      if (x.timer n).queue.length ≥ 4 then
        .next ((x.setBit (oTimer n) Pid.Timer.TM_STATUS tmCAP_OVERFLOW).incPar (oTimer n) Pid.Timer.CAP_OVF_COUNT)
      else
        let y := x.modTimer n fun a => { a with queue := a.queue ++ [c] }
        if x.linked n then
          .next (y.modTimer (n + 1) fun a => { a with queue := a.queue ++ [BitVec.ofNat 32 (x.count (n + 1))] })
        else .next y := by
    have hwanted : (s.par (oTimer n) Pid.Timer.TM_MODE == 3 || (s.par (oTimer n) Pid.Timer.TM_MODE == 1 && rising) ||
        (s.par (oTimer n) Pid.Timer.TM_MODE == 2 && !rising)) = true := by
      cases rising <;> simp_all
    have hc : (if s.counting n then at_ else BitVec.ofNat 32 (s.count n)) = c := by
      simp only [c, State.captured, State.counting, hclock, hl, hfrozen, Bool.true_and, Bool.not_false, Bool.and_true]
    show execTimerCapture ⟨n, hn⟩ rising at_ s = _
    unfold execTimerCapture
    simp only [hwanted, hclock, hfrozen, hl, hout, hc, Bool.not_true, bne_self_eq_false, Bool.or_self, Bool.false_eq_true, if_false]
    rfl
  have htimer (m : Nat) : x.timer m = s.timer m := timer_of_foot hx
  rw [htimer] at hexec
  by_cases hfull : (s.timer n).queue.length ≥ 4
  · rw [if_pos hfull] at hexec
    let y := x.setBit (oTimer n) Pid.Timer.TM_STATUS tmCAP_OVERFLOW
    have hy : Foot [] (some [Pid.Timer.TM_STATUS]) x y := .setBit (.refl _ _ _)
    have hz : Foot [] (some [Pid.Timer.CAP_OVF_COUNT]) y (y.incPar (oTimer n) Pid.Timer.CAP_OVF_COUNT) := .incPar (.refl _ _ _)
    have hcap : y.par (oTimer n) Pid.Timer.CAP_OVF_COUNT = s.par (oTimer n) Pid.Timer.CAP_OVF_COUNT :=
      (hy.par _ rfl _ _ (by decide) rfl).trans (hx.par _ rfl _ _ (by decide) rfl)
    refine ⟨_, hexec, ?_, fun h => absurd hfull (Nat.not_le.2 h), fun _ => ⟨?_, ?_, ?_⟩⟩
    · exact (hz.par _ rfl _ _ (by decide) rfl).trans ((hy.par _ rfl _ _ (by decide) rfl).trans hcount)
    · rw [timer_of_foot hz, timer_of_foot hy, htimer]
    · exact (bit_of_foot hz _).trans (bit_setBit_same x (by decide) _)
    · rw [par_incPar_of_hi (capOvfCount_hi n hn) (hcap ▸ hovf), hcap]
  · rw [if_neg hfull] at hexec
    let y := x.modTimer n fun a => { a with queue := a.queue ++ [c] }
    have hyt : y.timer n = { s.timer n with queue := (s.timer n).queue ++ [c] } := by
      rw [State.timer_modTimer _ hn, htimer]
    have hlinked : x.linked n = s.linked n := linked_of_foot hx
    have hcount1 : x.count (n + 1) = s.count (n + 1) := congrArg Int.toNat (par_setCount_other s (by omega) _ (by decide))
    simp only [hlinked, hcount1] at hexec
    cases hk : s.linked n with
    | false =>
      rw [hk, if_neg Bool.false_ne_true] at hexec
      exact ⟨y, hexec, hcount, fun _ => ⟨congrArg TimerAux.queue hyt, fun h => absurd h Bool.false_ne_true⟩,
        fun h => absurd h hfull⟩
    | true =>
      rw [hk, if_pos rfl] at hexec
      have heven := leader_even hl hk
      refine ⟨_, hexec, hcount, fun _ => ⟨?_, fun _ => ?_⟩, fun h => absurd h hfull⟩
      · exact (congrArg TimerAux.queue (timer_modTimer_other y (by omega) _)).trans (congrArg TimerAux.queue hyt)
      · rw [State.timer_modTimer _ (by omega), timer_modTimer_other x (by omega), htimer]

theorem tmrPulseEnd_runs (n : Fin 8) (h : s.counting n.val = true) (hp : (s.timer n.val).pulse = true)
    (hm : s.par (oTimer n.val) Pid.Timer.OUT_MODE = 4) : Runs (.tmrPulseEnd n) s fun t =>
      (t.timer n.val).level = false ∧ (t.timer n.val).pulse = false ∧ Foot [.timers] (some []) s t := by
  have hend : s.pulseEnd n.val = s.modTimer n.val fun a => { a with level := false, pulse := false } :=
    if_pos (by simp [hp, hm])
  refine ⟨s.pulseEnd n.val, if_pos h, ?_, ?_, State.pulseEnd_foot⟩
  · rw [hend, State.timer_modTimer _ n.isLt]
  · rw [hend, State.timer_modTimer _ n.isLt]

end

/-- Settles O30: writes of a timer's parameters, captured edges, pulses and halts. -/
theorem timersFollow : Obligations.TimersFollow := by
  refine ⟨fun s n d v hn => ⟨fun hd => (writeParam_timer hn (by decide) hd v).1, fun hd => ?_, fun hd => ?_⟩,
    fun s n rising at_ => ⟨timerCapture_runs n rising at_, tmrPulseEnd_runs n, fun hc hf => ?_, fun hf => ?_, rfl⟩⟩
  · obtain ⟨hpar, htimer⟩ := writeParam_timer hn (by decide) hd v
    rw [if_pos rfl] at htimer
    exact ⟨hpar, by rw [htimer]⟩
  · obtain ⟨hpar, htimer⟩ := writeParam_timer hn (by decide) hd v
    rw [if_neg (by decide), if_pos rfl] at htimer
    exact ⟨hpar, by rw [htimer], by rw [htimer]⟩
  · exact if_pos (by simp [hc, hf])
  · exact if_neg (by simp [hf])

end Sys2Proof.Machine

/-! # Proofs: the queries, Hopper's order, ABORT and RESULT_POLL (O7, O21, O22) -/
namespace Sys2Proof.Machine
set_option Elab.async false

/-! ## Queries (R364, R365, R369) -/

section
variable {s : State} {r : Req} {n : Nat} {p : Bytes}

theorem ok_replies {b : Bytes} (ha : Accepts s r n p) : Replied s ((Taken s r n p).ok (theOp s r n p) b) r n stOK 0 b :=
  State.reply_replied ha.enabled_taken

theorem fail_replies (st c : Nat) (ha : Accepts s r n p) : Replied s ((Taken s r n p).fail (theOp s r n p) st c) r n st c [] :=
  State.reply_replied ha.enabled_taken

/-- An accepted request whose operation does no more than answer OK. -/
theorem runs_ok {c : Instr} {run : Op → State → State} {b : Bytes} (hexec : exec c s = .next (submitReq r n p run s))
    (ha : Accepts s r n p) (h : run (theOp s r n p) (Taken s r n p) = (Taken s r n p).ok (theOp s r n p) b) :
    Runs c s fun t => Replied s t r n stOK 0 b := by
  refine ⟨_, hexec, ?_⟩
  rw [submitReq_accepted run ha, h]
  exact ok_replies ha

/-- An accepted request that one of its own checks turns away. -/
theorem runs_fail {c : Instr} {run : Op → State → State} {st k : Nat} (hexec : exec c s = .next (submitReq r n p run s))
    (ha : Accepts s r n p) (h : run (theOp s r n p) (Taken s r n p) = (Taken s r n p).fail (theOp s r n p) st k) :
    Runs c s fun t => Replied s t r n st k [] := by
  refine ⟨_, hexec, ?_⟩
  rw [submitReq_accepted run ha, h]
  exact fail_replies st k ha

theorem opObjState_ok {e : Op} (h : objCheck e.payload = none) : opObjState e s =
    s.ok e (leBytes 1 (byteAt e.payload 0) ++ leBytes 1 (s.read (byteAt e.payload 0) Pid.OBJ_TYPE) ++
      leBytes 1 (s.read (byteAt e.payload 0) Pid.OBJ_STATE) ++ leBytes 1 (s.read (byteAt e.payload 0) Pid.PRIORITY) ++
      leBytes 4 (s.read (byteAt e.payload 0) Pid.FAULT_LATCH) ++ leBytes 4 (s.read (byteAt e.payload 0) Pid.SERVICE_STATUS) ++
      leBytes 4 (s.read (byteAt e.payload 0) Pid.SOURCE_SEQ)) := by
  unfold opObjState
  rw [h]

theorem opObjState_fails {e : Op} {st c : Nat} (h : objCheck e.payload = some (st, c)) : opObjState e s = s.fail e st c := by
  unfold opObjState
  rw [h]

theorem objCheck_reserved {o x y z : Byte} (h : ¬ (x = 0 ∧ y = 0 ∧ z = 0)) : objCheck [o, x, y, z] = some (stBAD_PARAM, 2) := by
  have hz : zeros [o, x, y, z] 1 3 = false := by
    simpa [zeros, slice] using h
  simp [objCheck, hz]

theorem objCheck_object {o : Byte} (h : objReserved o.toNat = true) : objCheck [o, 0, 0, 0] = some (stBAD_OBJECT, 3) :=
  if_pos h

theorem objCheck_word {o : Byte} (h : objReserved o.toNat = false) : objCheck [o, 0, 0, 0] = none :=
  if_neg (c := objReserved o.toNat = true) (by simp [h])

/-- What the updater's parameters and CLOCK_STATUS read does not rest on Hopper. -/
theorem read_updater_taken (pid : Nat) : (Taken s r n p).read oUpdater pid = s.read oUpdater pid := rfl

theorem read_clockStatus_taken :
    (Taken s r n p).read oDevice Pid.Device.CLOCK_STATUS = s.read oDevice Pid.Device.CLOCK_STATUS := rfl

end

/-- Settles O7: each query's operation answers at once. -/
theorem queriesReply : Obligations.QueriesReply := by
  refine ⟨fun s r => ⟨fun p hp ha => runs_ok (run := opPing) rfl ha (if_neg (Nat.not_lt.2 hp)), fun ha => runs_ok (run := opIdent) rfl ha rfl,
    fun o ho ha => ?_, fun o x y z hz ha => ?_, fun o ho ha => ?_, fun ha => ?_, fun ha => ?_,
    fun ha => runs_ok (run := opLcState) rfl ha rfl⟩,
    fun s r p => ⟨fun hp ha => runs_fail (run := opPing) rfl ha (if_pos hp), fun hp => ⟨fun ha => ?_, fun ha => ?_, fun ha => ?_, fun ha => ?_⟩,
      fun hp ha => ?_, fun hp ha => ?_, fun hp ha => ?_⟩⟩
  · exact runs_ok (run := opObjState) rfl ha (opObjState_ok (objCheck_word ho))
  · exact runs_fail (run := opObjState) rfl ha (opObjState_fails (objCheck_reserved hz))
  · exact runs_fail (run := opObjState) rfl ha (opObjState_fails (objCheck_object ho))
  · exact runs_ok (run := opTimeGet) rfl ha (congrArg (State.ok _ _) (by rw [read_clockStatus_taken]; rfl))
  · exact runs_ok (run := opUpdStatus) rfl ha (congrArg (State.ok _ _) (by simp only [read_updater_taken]))
  · exact runs_fail (run := opIdent) rfl ha (if_pos hp)
  · exact runs_fail (run := opTimeGet) rfl ha (if_pos hp)
  · exact runs_fail (run := opUpdStatus) rfl ha (if_pos hp)
  · exact runs_fail (run := opLcState) rfl ha (if_pos hp)
  · exact runs_fail (run := opObjState) rfl ha (opObjState_fails (if_pos hp))
  · exact runs_fail (run := opSetpointSlew) rfl ha (if_pos hp)
  · exact runs_fail (run := opBattAuth) rfl ha (if_pos hp)

/-! ## The order in which Hopper starts operations (R354, R356) -/

/-- Among queued operations `e` is one that Hopper starts before `x`, or no later. -/
def Precedes (e x : Op) : Prop := (x.control = true → e.control = true) ∧ (x.control = e.control → e.prio ≤ x.prio)

/-- What Hopper's choice from a list means. -/
structure Picked (l : List Op) (e : Op) : Prop where
  mem     : e ∈ l
  queued  : e.stage = .queued
  order   : ∀ x ∈ l, x.stage = .queued → Precedes e x
  earlier : ∃ before after, l = before ++ e :: after ∧
    ∀ x ∈ before, x.stage = .queued → x.control = e.control → e.prio < x.prio

theorem pickOp_none {l : List Op} (h : pickOp l = none) : ∀ x ∈ l, x.stage ≠ .queued := by
  induction l with
  | nil => simp
  | cons e rest ih =>
    unfold pickOp at h
    cases hr : pickOp rest with
    | none =>
      rw [hr] at h
      simp only [ite_eq_right_iff, reduceCtorEq, imp_false, beq_iff_eq] at h
      simpa [h] using ih hr
    | some b =>
      rw [hr] at h
      simp only at h
      split_ifs at h

section
variable {e b : Op} {rest : List Op}

/-- The first operation of a list is picked where it is queued and precedes all that are. -/
theorem Picked.head (hq : e.stage = .queued) (h : ∀ x ∈ rest, x.stage = .queued → Precedes e x) : Picked (e :: rest) e where
  mem := List.mem_cons_self
  queued := hq
  order := by
    intro x hx hs
    obtain rfl | hx := List.mem_cons.1 hx
    · exact ⟨id, fun _ => le_refl _⟩
    · exact h x hx hs
  earlier := ⟨[], rest, rfl, by simp⟩

/-- What is picked from the rest of a list is picked from the whole where the first is not queued or comes after it. -/
theorem Picked.tail (h : Picked rest b)
    (he : e.stage = .queued → Precedes b e ∧ (e.control = b.control → b.prio < e.prio)) : Picked (e :: rest) b where
  mem := List.mem_cons_of_mem _ h.mem
  queued := h.queued
  order := by
    intro x hx hs
    obtain rfl | hx := List.mem_cons.1 hx
    · exact (he hs).1
    · exact h.order x hx hs
  earlier := by
    obtain ⟨before, after, rfl, hb⟩ := h.earlier
    refine ⟨e :: before, after, rfl, fun x hx hs hc => ?_⟩
    obtain rfl | hx := List.mem_cons.1 hx
    · exact (he hs).2 hc
    · exact hb x hx hs hc

theorem Precedes.trans {x : Op} (h : Precedes e b) (k : Precedes b x) : Precedes e x := by
  obtain ⟨hctl, hprio⟩ := h
  obtain ⟨kctl, kprio⟩ := k
  have hb (hc : x.control = e.control) : b.control = e.control ∧ x.control = b.control := by
    cases hx : x.control <;> cases he : e.control <;> cases hbc : b.control <;> simp_all
  exact ⟨hctl ∘ kctl, fun hc => (hprio (hb hc).1).trans (kprio (hb hc).2)⟩

end

theorem pickOp_picked {l : List Op} {e : Op} (h : pickOp l = some e) : Picked l e := by
  induction l generalizing e with
  | nil => cases h
  | cons a rest ih =>
    unfold pickOp at h
    cases hr : pickOp rest with
    | none =>
      rw [hr] at h
      simp only [Option.ite_none_right_eq_some, beq_iff_eq, Option.some.injEq] at h
      obtain ⟨hq, rfl⟩ := h
      exact .head hq fun x hx hs => absurd hs (pickOp_none hr x hx)
    | some b =>
      rw [hr] at h
      simp only at h
      have hb := ih hr
      have head (hq : a.stage = .queued) (hab : Precedes a b) : Picked (a :: rest) a :=
        .head hq fun x hx hs => hab.trans (hb.order x hx hs)
      split_ifs at h with hs hc hc' hp <;> obtain rfl := Option.some.inj h
      · exact hb.tail fun hq => absurd hq (by simpa using hs)
      · obtain ⟨ha, hnb⟩ := Bool.and_eq_true_iff.1 hc
        exact head (by simpa using hs) ⟨fun _ => ha, fun he => by simp_all⟩
      · obtain ⟨hbc, hna⟩ := Bool.and_eq_true_iff.1 hc'
        exact hb.tail fun _ => ⟨⟨fun _ => hbc, fun he => by simp_all⟩, fun he => by simp_all⟩
      · exact head (by simpa using hs) ⟨fun hbc => by simpa [hbc] using hc', fun _ => hp⟩
      · exact hb.tail fun _ => ⟨⟨fun ha => by simpa [ha] using hc, fun _ => Nat.le_of_not_le hp⟩, fun _ => Nat.lt_of_not_le hp⟩

/-- Settles O22: the operation that is picked runs, and the pick precedes every queued one. -/
theorem hopperPicksInOrder : Obligations.HopperPicksInOrder := by
  refine ⟨fun s e hs hp => ?_, fun l e h => ?_⟩
  · show execOperationStart s = _
    unfold execOperationStart
    rw [hs, hp]
    rfl
  · obtain ⟨hmem, hqueued, horder, hearlier⟩ := pickOp_picked h
    exact ⟨hmem, hqueued, fun x hx hs => (horder x hx hs).1, fun x hx hs => (horder x hx hs).2, hearlier⟩

/-! ## ABORT and RESULT_POLL (R360 to R362) -/

theorem leBytes_one_toNat (b : Byte) : leBytes 1 b.toNat = [b] := by
  simp [leBytes]

theorem zeros_request_word (tag : Byte) : zeros [tag, 0, 0, 0] 1 3 = true := rfl

section
variable {s : State} {r : Req} {tag : Byte} {x : Op}

/-- A queued operation that is withdrawn is answered ABORTED without a payload (R360). -/
theorem withdraw_queued (h : x.stage = .queued) (reason : Nat) :
    s.withdraw x reason = (s.modOp x.id fun y => { y with aborted := true }).reply x stABORTED reason [] := by
  unfold State.withdraw
  rw [if_pos (by simp [h])]

/-- What ABORT names: an operation of its own port under the tag. -/
theorem abortTarget_spec {e : Op} (h : s.abortTarget e = some x) : x.port = e.port ∧ x.tag = byteAt e.payload 0 := by
  have hx := List.find?_some h
  simp only [Bool.and_eq_true, beq_iff_eq] at hx
  exact ⟨hx.1.1, hx.1.2⟩

variable (ht : tag.toNat < 64)
include ht

/-- A tag below 64 with its three reserved bytes passes the checks of the payload. -/
theorem tagWord_passes : (decide (tag.toNat ≥ 64) || !zeros [tag, 0, 0, 0] 1 3) = false := by
  rw [zeros_request_word, Bool.not_true, Bool.or_false, decide_eq_false_iff_not]
  omega

omit ht in
theorem byteAt_tag : byteAt [tag, 0, 0, 0] 0 = tag.toNat := rfl

theorem opAbort_none {e : Op} (he : e.payload = [tag, 0, 0, 0]) (hn : s.abortTarget e = none) :
    opAbort e s = s.fail e stBAD_PARAM 3 := by
  unfold opAbort
  simp only [he, byteAt_tag, tagWord_passes ht, hn, List.length_cons, List.length_nil, Nat.zero_add, Nat.reduceAdd, ne_eq,
    not_true_eq_false, if_false, Bool.false_eq_true]

theorem opAbort_some {e : Op} (he : e.payload = [tag, 0, 0, 0]) (hx : s.abortTarget e = some x) (hab : x.aborted = false) :
    opAbort e s = if x.stage == .committed || x.stage == .replied then s.reply e stDONE_BEFORE 0 [tag, 0, 0, 0]
      else (s.withdraw x 1).ok e [tag, 0, 0, 0] := by
  unfold opAbort
  simp only [he, byteAt_tag, tagWord_passes ht, hx, hab, leBytes_one_toNat, List.singleton_append, List.length_cons, List.length_nil, Nat.zero_add, Nat.reduceAdd, ne_eq,
    not_true_eq_false, if_false, Bool.false_eq_true]

/-- The operation of a port that holds a tag. -/
def State.holder (s : State) (p : HostPort) (tag : Nat) : Option Op := s.hopper.ops.find? fun y => y.port == p && y.tag == tag

theorem opResultPoll_none {e : Op} (he : e.payload = [tag, 0, 0, 0]) (hn : s.holder e.port tag.toNat = none) :
    opResultPoll e s = s.ok e ([tag] ++ List.replicate 7 0) := by
  unfold opResultPoll
  simp only [he, byteAt_tag, tagWord_passes ht, leBytes_one_toNat,
    show s.hopper.ops.find? (fun y => y.port == e.port && y.tag == tag.toNat) = none from hn, List.length_cons, List.length_nil,
    Nat.zero_add, Nat.reduceAdd, ne_eq, not_true_eq_false, if_false, Bool.false_eq_true]

theorem opResultPoll_some {e : Op} (he : e.payload = [tag, 0, 0, 0]) (hx : s.holder e.port tag.toNat = some x) :
    opResultPoll e s = s.ok e ([tag] ++ leBytes 1 (if x.id = e.id then 2 else stageCode x.stage) ++ leBytes 1 x.opcode ++
        leBytes 1 x.prio ++ leBytes 4 ((s.time.tick - x.tick) / 1000 : Nat)) := by
  unfold opResultPoll
  simp only [he, byteAt_tag, tagWord_passes ht, leBytes_one_toNat,
    show s.hopper.ops.find? (fun y => y.port == e.port && y.tag == tag.toNat) = some x from hx, List.length_cons, List.length_nil,
    Nat.zero_add, Nat.reduceAdd, ne_eq, not_true_eq_false, if_false, Bool.false_eq_true]

/-- ABORT of a queued operation (R360). -/
theorem abort_queued (ha : Accepts s r 0xF0 [tag, 0, 0, 0])
    (hx : (Taken s r 0xF0 [tag, 0, 0, 0]).abortTarget (theOp s r 0xF0 [tag, 0, 0, 0]) = some x) (hab : x.aborted = false)
    (hq : x.stage = .queued) : Runs (.abort r [tag, 0, 0, 0]) s fun t =>
      Replied s t r 0xF0 stOK 0 [tag, 0, 0, 0] ∧
      ∃ y ∈ (t.port r.port).replies, y.op = some x.id ∧ y.status = stABORTED ∧ y.reason = 1 := by
  let e := theOp s r 0xF0 [tag, 0, 0, 0]
  let a := Taken s r 0xF0 [tag, 0, 0, 0]
  obtain ⟨hport, htag⟩ := abortTarget_spec hx
  let y := a.modOp x.id fun y => { y with aborted := true }
  have hy : Foot [.hopper] (some []) a y := State.modOp_foot
  have hen : y.enabled (oPort x.port) = true := by
    rw [enabled_oPort_of_foot hy rfl, hport]
    exact ha.enabled_taken
  have hop : opAbort e a = (y.reply x stABORTED 1 []).ok e [tag, 0, 0, 0] := by
    rw [opAbort_some ht rfl hx hab, if_neg (by simp [hq]), withdraw_queued hq]
  refine ⟨_, congrArg Host.Outcome.next (submitReq_accepted opAbort ha), ?_, ?_⟩
  · rw [hop]
    exact reply_after_foot ha (State.reply_foot.on (fs := [.ports, .hopper]) (ps := some [385]) hy.within)
  · obtain ⟨z, hz, hzop, hst, hrs, -⟩ := exists_reply (st := stABORTED) (c := 1) (b := []) hen (htag ▸ ht)
    rw [hport] at hz
    refine ⟨z, ?_, hzop, hst, hrs⟩
    rw [hop]
    exact ((reply_grows (y.reply x stABORTED 1 []) e stOK 0 [tag, 0, 0, 0]).port r.port).replies hz

end

/-- Settles O21: ABORT by the stage of its target, and RESULT_POLL by what holds the tag. -/
theorem abortAndPoll : Obligations.AbortAndPoll := by
  intro s r tag ht
  refine ⟨fun ha => ⟨fun hn => ?_, fun x hx hab => ⟨abort_queued ht ha hx hab, fun hs => ?_⟩⟩,
    fun ha => ⟨fun hn => ?_, fun x hx => ?_⟩⟩
  · exact runs_fail (run := opAbort) rfl ha (opAbort_none ht rfl hn)
  · refine ⟨_, congrArg Host.Outcome.next (submitReq_accepted opAbort ha), ?_⟩
    rw [opAbort_some ht rfl hx hab, if_pos (by obtain hs | hs := hs <;> simp [hs])]
    exact State.reply_replied ha.enabled_taken
  · refine ⟨_, congrArg Host.Outcome.next (submitReq_accepted opResultPoll ha), ?_⟩
    rw [opResultPoll_none (s := Taken s r 0xF1 [tag, 0, 0, 0]) (e := theOp s r 0xF1 [tag, 0, 0, 0]) ht rfl hn]
    exact ⟨ok_replies ha, State.ok_foot.fld .grist rfl⟩
  · refine ⟨_, congrArg Host.Outcome.next (submitReq_accepted opResultPoll ha), ?_⟩
    rw [opResultPoll_some (s := Taken s r 0xF1 [tag, 0, 0, 0]) (e := theOp s r 0xF1 [tag, 0, 0, 0]) ht rfl hx]
    exact ⟨ok_replies ha, State.ok_foot.fld .grist rfl⟩

end Sys2Proof.Machine

/-! # Proofs: Grist's operations, its records, and BIST (O15, O53, O16) -/
namespace Sys2Proof.Machine
set_option Elab.async false

/-! ## GRIST_READ, GRIST_CLEAR and GRIST_TRIGGER_SET (R327 to R329) -/

section
variable {s : State} {e : Op}

theorem opGristRead_ok (h : s.gristReadCheck e.payload = none) : opGristRead e s =
    s.ok e (leBytes 4 (s.gristReadOut e.payload).1 ++ leBytes 4 (areaEnds (s.area (byteAt e.payload 0 == 1))).1 ++
      leBytes 4 (areaEnds (s.area (byteAt e.payload 0 == 1))).2 ++ leBytes 1 (s.gristReadOut e.payload).2.1 ++
      leBytes 1 (s.gristReadOut e.payload).2.2.length ++ [0, 0] ++ (s.gristReadOut e.payload).2.2.flatMap Rec.bytes) := by
  unfold opGristRead
  rw [h]

/-- The clear nonce is kept by whatever a record does to Grist. -/
theorem storeRec_nonce (source cls event : Nat) (late : Bool) (words : List Word) :
    (s.storeRec source cls event late words).grist.nonce = s.grist.nonce := rfl

theorem createRec_nonce (source cls event : Nat) (late : Bool) (snap : List Snap) :
    (s.createRec source cls event late snap).grist.nonce = s.grist.nonce := by
  unfold State.createRec
  split
  · rfl
  · dsimp only
    split
    · rw [State.raise_foot.fld .grist rfl]
      rfl
    · rfl

theorem record_nonce (source cls event : Nat) (snap : List Snap) :
    (s.record source cls event snap).grist.nonce = s.grist.nonce := by
  unfold State.record
  split
  · rfl
  · split
    · rfl
    · exact createRec_nonce ..

theorem tokenFailed_nonce (target : Nat) (p : HostPort) : (s.tokenFailed target p).grist.nonce = s.grist.nonce :=
  record_nonce ..

/-- The state in which GRIST_CLEAR gives its nonce. -/
def State.clearNonced (s : State) : State :=
  { (s.drawBytes 32).2 with grist := { s.grist with nonce := some (s.drawBytes 32).1 } }

/-- The clear nonce is spent, whatever its token proves. -/
def State.nonceSpent (s : State) : State := { s with grist := { s.grist with nonce := none } }

theorem drawBytes_length (n : Nat) : (s.drawBytes n).1.length = n := by
  simp [State.drawBytes]

theorem clearNonced_foot : Foot [.draws, .grist] (some []) s s.clearNonced :=
  .withGrist (State.drawBytes_foot.on (.refl _ _ _))

theorem nonceSpent_foot : Foot [.grist] (some []) s s.nonceSpent := .withGrist (.refl _ _ _)

variable {key : Bytes} (hlatch : s.thermalLatched = false) (hkey : s.ownerKey = some key)
include hlatch hkey

theorem opGristClear_nonce (hp : e.payload = [0, 0, 0, 0]) : opGristClear e s =
    s.clearNonced.ok e ((s.drawBytes 32).1 ++ serialBytes ++ leBytes 4 (s.par oGrist Pid.Grist.NEWEST_GEN)) := by
  unfold opGristClear
  simp only [hp, hlatch, hkey]
  rfl

theorem opGristClear_token {p : Bytes} (hp : e.payload = 1 :: p) (hlen : p.length = 67) (hz : zeros p 0 3 = true)
    (hn : s.grist.nonce ≠ none) : opGristClear e s =
    if Config.verifyP256 key s.clearMsg (slice p 3 64) = true then (s.nonceSpent.askNvm .config .gristClear 1 (some e.id)).opRunning e
    else (s.nonceSpent.tokenFailed 0 e.port).fail e stAUTH_FAILED 6 := by
  obtain ⟨n, hn⟩ := Option.ne_none_iff_exists'.1 hn
  have hz' : zeros (1 :: p) 1 3 = true := hz
  have hb : byteAt (1 :: p) 0 = 1 := rfl
  unfold opGristClear
  simp only [hp, hlatch, hkey, hz', hb, hn, List.length_cons, hlen]
  rfl

omit hlatch hkey

theorem opGristTriggerSet_ok (h : s.triggerCheck e.payload = none) : opGristTriggerSet e s =
    (({ s with grist := { s.grist with
        triggers := vmod s.grist.triggers (byteAt e.payload 0) fun _ => trigOf e.payload } } : State).askOnce .config .triggers 1).ok e
      (leBytes 1 (byteAt e.payload 0) ++ [0, 0, 0]) := by
  unfold opGristTriggerSet
  rw [h]

end

/-- Settles O15: each operation of Grist on the state that holds its request. -/
theorem gristOperations : Obligations.GristOperations := by
  intro s r p
  refine ⟨fun ha hc => ?_, fun ha hl hk => ?_, fun key hlen hz ha hl hk hn => ?_, fun ha hc hi => ?_⟩
  · refine ⟨_, congrArg Host.Outcome.next (submitReq_accepted opGristRead ha), ?_⟩
    rw [opGristRead_ok hc]
    exact ⟨ok_replies ha, State.ok_foot.fld .grist rfl⟩
  · obtain ⟨key, hk⟩ := Option.ne_none_iff_exists'.1 hk
    refine ⟨_, congrArg Host.Outcome.next (submitReq_accepted opGristClear ha), (s.drawBytes 32).1, drawBytes_length 32, ?_⟩
    rw [opGristClear_nonce (s := Taken s r 0x41 [0, 0, 0, 0]) (key := key) hl hk rfl]
    refine ⟨?_, reply_after_foot ha clearNonced_foot⟩
    rw [State.ok_foot.fld .grist rfl]
    rfl
  · let a := Taken s r 0x41 (1 :: p)
    refine ⟨_, congrArg Host.Outcome.next (submitReq_accepted opGristClear ha), ?_⟩
    rw [opGristClear_token (s := a) (key := key) hl hk rfl hlen hz hn]
    split
    · next hv =>
      refine ⟨rfl, fun _ => ⟨⟨_, List.mem_append_right _ List.mem_cons_self, rfl, rfl⟩, opRunning_waits rfl⟩, fun hf => ?_⟩
      rw [hv] at hf; cases hf
    · next hv =>
      refine ⟨?_, fun hv' => absurd hv' hv, fun _ => ⟨?_, ?_⟩⟩
      · rw [State.fail_foot.fld .grist rfl, tokenFailed_nonce]
        rfl
      · exact reply_after_foot ha (State.tokenFailed_foot.on (fs := [.ports, .grist]) (ps := some [5, 257, 258, 260, 261, 264])
          nonceSpent_foot.within)
      · rw [State.fail_foot.fld .nvm rfl, State.tokenFailed_foot.fld .nvm rfl]
        rfl
  · refine ⟨_, congrArg Host.Outcome.next (submitReq_accepted opGristTriggerSet ha), ?_⟩
    rw [opGristTriggerSet_ok hc]
    refine ⟨?_, ?_, reply_after_foot ha (State.askOnce_foot.on (fs := [.nvm, .grist]) (ps := some [])
          (Foot.withGrist (.refl _ _ _)))⟩
    · rw [State.ok_foot.fld .grist rfl, State.askOnce_foot.fld .grist rfl]
      exact vget_vmod _ hi _ _
    · rw [State.ok_foot.fld .nvm rfl]
      exact askOnce_asked ..

/-! ## Records, the mirror and the nonces (R317 to R326) -/

section
variable {s : State}

theorem seqAfter_below {n : Nat} (h : n < 4294967295) : seqAfter n = n + 1 := if_neg (Nat.not_le.2 h)

theorem genOlder_iff {a b : Nat} (ha : a < 4294967296) (hb : b < 4294967296) :
    genOlder a b = true ↔ 0 < ((b : Int) - a) % 4294967296 ∧ ((b : Int) - a) % 4294967296 < 2147483648 := by
  have hd : (((b + 4294967296 - a % 4294967296) % 4294967296 : Nat) : Int) = ((b : Int) - a) % 4294967296 := by omega
  simp only [genOlder, Bool.and_eq_true, decide_eq_true_eq]
  omega

/-- The parameters that show the two areas leave SOURCE_SEQ. -/
theorem gristParams_sourceSeq (o : Nat) : s.gristParams.par o Pid.SOURCE_SEQ = s.par o Pid.SOURCE_SEQ :=
  State.gristParams_foot.par _ rfl _ _ (by decide) rfl

theorem storeRec_sourceSeq (source cls event : Nat) (late : Bool) (words : List Word) :
    (s.storeRec source cls event late words).par source Pid.SOURCE_SEQ = s.nextSeq source :=
  (gristParams_sourceSeq source).trans (State.par_setPar_same _ (by decide) _)

/-- Work that waits still waits after another is asked for. -/
theorem askOnce_keeps {w w' : NvmWork} (k : NvmKind) (n : Nat) (h : (s.nvm.queue.any fun q => q.work == w) = true) :
    ((s.askOnce k w' n).nvm.queue.any fun q => q.work == w) = true := by
  unfold State.askOnce
  split
  · exact h
  · simp [State.askNvm, h]

theorem askMirror_asked (h : s.unmirrored ≠ []) : (s.askMirror.nvm.queue.any fun q => q.work == .gristMirror) = true := by
  unfold State.askMirror
  rw [if_neg (c := s.unmirrored.isEmpty = true) (by simpa using h)]
  show ((if _ then _ else _ : State).nvm.queue.any _) = true
  split
  · exact askOnce_asked ..
  · exact askOnce_keeps _ _ (askOnce_asked ..)

end

/-- Settles O53: a record's numbers and places, the mirror's requests, and the nonces' expiry. -/
theorem recordsAreKept : Obligations.RecordsAreKept := by
  intro s
  refine ⟨fun source cls event words late => ⟨storeRec_sourceSeq .., rfl, _, rfl, rfl, rfl, rfl, rfl, rfl, rfl, rfl, rfl, ?_⟩,
    fun n => seqAfter_below, rfl, fun a b => genOlder_iff, fun hm hl hu => ⟨s.askMirror, ?_, askMirror_asked hu, State.askMirror_foot⟩,
    fun hm hl hu hlate => ⟨_, if_pos (by simp [hm, hl, hu, hlate]), congrArg GristState.mirrorLate (State.raise_foot.fld .grist rfl), raise_alerted _ _⟩,
    fun hr => ⟨?_, ?_⟩⟩
  · simp only [State.storeRec, State.gristParams, State.setPar, decide_eq_true_eq]
  · exact if_pos (by simp [hm, hl])
  · show execNonceExpiry true s = _
    simp [execNonceExpiry, hr]
  · show execNonceExpiry false s = _
    simp [execNonceExpiry, hr]

/-! ## BIST_REQUEST and BIST_RESULT (R343 to R345) -/

section
variable {s : State} {e : Op}

/-- The number that the next host test takes. -/
def State.nextTestId (s : State) : Nat := seqAfter (s.par oDresser Pid.Dresser.LAST_TEST_ID).toNat

/-- The test that a request's payload queues. -/
def State.newTest (s : State) (e : Op) : HostTest :=
  { id := s.nextTestId, kind := byteAt e.payload 0, target := byteAt e.payload 1, state := 0, startTick := 0, endTick := 0,
    units := 0, fails := 0, firstFail := 0, actual := 0, failUnit := 0, op := some e.id }

/-- The state with a test at the end of the queue, which keeps its last eight. -/
def State.testQueued (s : State) (e : Op) : State :=
  (s.setPar oDresser Pid.Dresser.LAST_TEST_ID s.nextTestId).modDresser fun d =>
    { d with tests := (d.tests ++ [s.newTest e]).drop ((d.tests.length + 1) - 8) }

/-- The state with the full test committed and recorded. -/
def State.fullCommitted (s : State) : State :=
  (s.record oDresser rcState 0x25 [.lit 0, .lit 0, .lit 0]).modDresser fun d => { d with fullPending := true }

theorem opBistRequest_queues (h : s.bistCheck e.payload = none) (hk : byteAt e.payload 0 ≤ 2) :
    opBistRequest e s = (s.testQueued e).opRunning e := by
  unfold opBistRequest
  dsimp only
  rw [h]
  dsimp only
  split
  · omega
  · omega
  · rfl

theorem opBistRequest_commits (h : s.bistCheck e.payload = none) (hk : byteAt e.payload 0 = 3) :
    opBistRequest e s = s.fullCommitted.ok e (bistPayload 0 0) := by
  unfold opBistRequest
  dsimp only
  rw [h]
  dsimp only
  rw [hk]
  rfl

theorem opBistRequest_cancels {p : Bytes} (hp : e.payload = 4 :: p) (h : s.bistCheck e.payload = none) :
    opBistRequest e s = (s.bistCancel (fieldU (4 :: p) 4 4)).ok e (bistPayload (fieldU (4 :: p) 4 4) 0) := by
  unfold opBistRequest
  dsimp only
  rw [h, hp]
  rfl

theorem newTest_mem_testQueued : s.newTest e ∈ (s.testQueued e).dresser.tests := by
  show s.newTest e ∈ (s.dresser.tests ++ [s.newTest e]).drop (s.dresser.tests.length + 1 - 8)
  rw [List.drop_append_of_le_length (by omega)]
  simp

theorem testQueued_id : (s.testQueued e).par oDresser Pid.Dresser.LAST_TEST_ID = s.nextTestId :=
  State.par_setPar_same _ (by decide) _

theorem fullCommitted_foot : Foot [.ports, .grist, .dresser] (some [5, 257, 258, 260, 261, 264]) s s.fullCommitted :=
  State.modDresser_foot.on (State.record_foot.within)

/-- What a cancelled test becomes, and what the others stay. -/
def cancelTest (id tick : Nat) (t : HostTest) : HostTest := if t.id == id then { t with state := 4, endTick := tick } else t

theorem bistCancel_tests (id : Nat) :
    (s.bistCancel id).dresser.tests = s.dresser.tests.map (cancelTest id s.time.tick) := by
  unfold State.bistCancel
  dsimp only
  split
  · split <;> rfl
  · rfl

/-- No test of a cancelled number is left queued. -/
theorem cancelTest_state {id tick : Nat} {l : List HostTest} {x : HostTest} (hx : x ∈ l.map (cancelTest id tick)) (hid : x.id = id) :
    x.state ≠ 0 := by
  obtain ⟨y, -, rfl⟩ := List.mem_map.1 hx
  unfold cancelTest at hid ⊢
  split
  · exact Nat.succ_ne_zero 3
  · next hne => simp_all

/-- The test that BIST_RESULT names: the full test by 0. -/
def State.testNamed (s : State) (id : Nat) : Option HostTest :=
  if id = 0 then s.dresser.full else s.dresser.tests.find? fun t => t.id == id

theorem opBistResult_ok {x : HostTest} (hlen : e.payload.length = 4) (hx : s.testNamed (fieldU e.payload 0 4) = some x) :
    opBistResult e s = s.ok e (leBytes 4 (fieldU e.payload 0 4) ++ leBytes 1 x.kind ++ leBytes 1 x.target ++ leBytes 1 x.state ++
      [0] ++ leBytes 8 x.startTick ++ leBytes 8 x.endTick ++ leBytes 4 x.units ++ leBytes 4 x.fails ++ leBytes 4 x.firstFail ++
      leBytes 4 x.actual ++ leBytes 4 x.failUnit) := by
  unfold State.testNamed at hx
  unfold opBistResult
  dsimp only
  rw [if_neg (by simp [hlen]), hx]

end

/-- Settles O16: the request by its KIND, and the result of the test that is named. -/
theorem bistOperations : Obligations.BistOperations := by
  intro s r p
  refine ⟨fun ha hc hk => ?_, fun ha hc hk => ?_, fun ha hc => ?_, fun x ha hlen hx => ?_⟩
  · refine ⟨_, congrArg Host.Outcome.next (submitReq_accepted opBistRequest ha), ?_⟩
    rw [opBistRequest_queues hc hk]
    refine ⟨(State.opRunning_foot.par _ rfl _ _ (by decide) rfl).trans testQueued_id, ⟨(Taken s r 0x50 p).newTest (theOp s r 0x50 p), ?_, rfl, rfl, rfl, rfl, rfl⟩,
      opRunning_waits rfl⟩
    rw [State.opRunning_foot.fld .dresser rfl]
    exact newTest_mem_testQueued
  · refine ⟨_, congrArg Host.Outcome.next (submitReq_accepted opBistRequest ha), ?_⟩
    rw [opBistRequest_commits hc hk]
    refine ⟨?_, reply_after_foot ha fullCommitted_foot⟩
    rw [State.ok_foot.fld .dresser rfl]
    rfl
  · refine ⟨_, congrArg Host.Outcome.next (submitReq_accepted opBistRequest ha), ?_⟩
    rw [opBistRequest_cancels rfl hc]
    refine ⟨fun x hx hid => ?_, reply_after_foot ha State.bistCancel_foot⟩
    rw [State.ok_foot.fld .dresser rfl, bistCancel_tests] at hx
    exact cancelTest_state hx hid
  · refine ⟨_, congrArg Host.Outcome.next (submitReq_accepted opBistResult ha), ?_⟩
    rw [opBistResult_ok (s := Taken s r 0x51 p) (e := theOp s r 0x51 p) hlen hx]
    exact ⟨ok_replies ha, State.ok_foot.fld .dresser rfl⟩

end Sys2Proof.Machine

/-! # Proofs: the update operations (O19) -/
namespace Sys2Proof.Machine
set_option Elab.async false

/-! ## The banks and the updater's parameters -/

section
variable {s x : State} {o pid : Nat}

theorem bankPid_bounds (b : Nat) : 0x103 ≤ bankPid b ∧ bankPid b ≤ 0x104 := by
  unfold bankPid
  split <;> decide

theorem bankPid_lt (b : Nat) : bankPid b < 4096 := by
  have := bankPid_bounds b
  omega

/-- A bank takes the state that is set. -/
theorem bank_setBank_same (b : Nat) (v : Int) : (s.setBank b v).bank b = v := by
  unfold State.setBank
  split
  · next h => simpa using h
  · exact State.par_setPar_same _ (bankPid_lt b) v

/-- A write of a bank's state leaves every parameter that is not a bank's state. -/
theorem ParKept.setBank {b : Nat} {v : Int} (h : ParKept o pid s x) (hp : pid < 4096 := by decide)
    (hn : pid ≠ 0x103 ∧ pid ≠ 0x104 := by decide) : ParKept o pid s (x.setBank b v) :=
  h.trans (State.setBank_foot.par _ rfl o pid hp (by simpa using hn))

/-- A write of another updater's parameter leaves the banks' states. -/
theorem bank_setPar {q : Nat} (b : Nat) (v : Int) (hq : q < 4096 := by decide) (hn : q ≠ 0x103 ∧ q ≠ 0x104 := by decide) :
    (s.setPar oUpdater q v).bank b = s.bank b := by
  obtain ⟨hlo, hhi⟩ := bankPid_bounds b
  exact par_setPar_pid s v (bankPid_lt b) hq (by omega)

theorem bank_of_foot {fs : List Fld} {ps : List Nat} (k : Foot fs (some ps) s x) (b : Nat)
    (hn : ps.contains 0x103 = false ∧ ps.contains 0x104 = false := by exact ⟨rfl, rfl⟩) : x.bank b = s.bank b := by
  refine k.par ps rfl _ _ (bankPid_lt b) ?_
  unfold bankPid
  split
  · exact hn.1
  · exact hn.2

/-- A LIFE_CYCLE record leaves the parameters of every object but Grist, SOURCE_SEQ apart. -/
theorem lifeRecord_object (ho : o ≠ oGrist) (hp : pid < 4096) (hn : pid ≠ Pid.SOURCE_SEQ) (source kind : Nat) (what value : Int)
    (port : Nat) : ParKept o pid s (s.lifeRecord source kind what value port) := by
  have hr := record_object (s := s) ho hp hn source rcSecurity 0x42 [.lit kind, .lit what, .lit value, .lit port]
  exact .ite (hr.foot State.raise_foot hp) hr

theorem ParKept.updRecord {kind bank port : Nat} (h : ParKept oUpdater pid s x) (hp : pid < 4096 := by decide)
    (hn : pid ≠ Pid.SOURCE_SEQ := by decide) : ParKept oUpdater pid s (x.updRecord kind bank port) :=
  h.trans (lifeRecord_object (by decide) hp hn ..)

/-- A reply moves no parameter of a port but its count of operations. -/
theorem reply_par {e : Op} {st c : Nat} {b : Bytes} (hp : pid < 4096 := by decide) (hn : [385].contains pid = false := by rfl) :
    (s.reply e st c b).par o pid = s.par o pid := State.reply_foot.par _ rfl o pid hp hn

theorem ok_par {e : Op} {b : Bytes} (hp : pid < 4096 := by decide) (hn : [385].contains pid = false := by rfl) :
    (s.ok e b).par o pid = s.par o pid := reply_par hp hn

theorem updState_setUpd (v : Int) : (s.setUpd v).updState = v := State.par_setPar_same _ (by decide) v

end

/-! ## UPD_OPEN (R404) -/

section
variable {s : State} {e : Op}

/-- The new session's place among the updater's data: nothing written, nothing staged. -/
def State.sessionData (s : State) (len : Nat) : State :=
  let x := if s.upd.stagedOk then s.releaseSats else s
  { x with upd := { x.upd with
      bundleLen := len, target := s.targetBank, units := [], headerOk := false, closing := none, stagedOk := false } }

/-- The state in which a session has opened on the empty target bank. -/
def State.sessionOpened (s : State) (len : Nat) : State :=
  (((((s.sessionData len).setBank s.targetBank bkEMPTY).setPar oUpdater Pid.Updater.STAGED_VERSION 0).setPar
    oUpdater Pid.Updater.SESSION_ID s.nextSession).setPar oUpdater Pid.Updater.BYTES_RECEIVED 0).setUpd upOPEN

theorem opUpdOpen_opens (hlen : e.payload.length = 8) (hz : zeros e.payload 4 4 = true) (hlo : 1024 ≤ fieldU e.payload 0 4)
    (hhi : fieldU e.payload 0 4 ≤ 3145728) (hl : s.thermalLatched = false) (hst : s.updState = upIDLE ∨ s.updState = upSTAGED) :
    opUpdOpen e s = ((s.opCommit e.id).sessionOpened (fieldU e.payload 0 4)).ok e
      (leBytes 2 s.nextSession ++ leBytes 1 s.targetBank ++ [0] ++ leBytes 2 256 ++ [0, 0]) := by
  unfold opUpdOpen
  dsimp only
  rw [if_neg (by simp [hlen]), if_neg (by simp [hz]), if_neg (by simp [hlo, hhi]), if_neg (by simp [hl]),
    if_neg (by obtain h | h := hst <;> simp [h]), if_neg (by obtain h | h := hst <;> simp [h])]
  rfl

theorem sessionData_foot (len : Nat) : Foot [.upd] (some []) s (s.sessionData len) :=
  .withUpd (.ite (State.releaseSats_foot.within) (.refl _ _ _))

theorem sessionOpened_foot (len : Nat) : Foot [.nvm, .upd] (some [256, 257, 258, 259, 260, 262]) s (s.sessionOpened len) :=
  .setPar (.setPar (.setPar (.setPar (State.setBank_foot.on ((sessionData_foot len).within)))))

theorem sessionOpened_bank (len : Nat) : (s.sessionOpened len).bank s.targetBank = bkEMPTY := by
  unfold State.sessionOpened State.setUpd
  rw [bank_setPar, bank_setPar, bank_setPar, bank_setPar, bank_setBank_same]

theorem sessionOpened_session (len : Nat) : (s.sessionOpened len).par oUpdater Pid.Updater.SESSION_ID = s.nextSession := by
  unfold State.sessionOpened State.setUpd
  rw [par_setPar_pid _ _ (by decide) (by decide) (by decide), par_setPar_pid _ _ (by decide) (by decide) (by decide),
    State.par_setPar_same _ (by decide)]

theorem sessionOpened_received (len : Nat) : (s.sessionOpened len).par oUpdater Pid.Updater.BYTES_RECEIVED = 0 := by
  unfold State.sessionOpened State.setUpd
  rw [par_setPar_pid _ _ (by decide) (by decide) (by decide), State.par_setPar_same _ (by decide)]

theorem sessionOpened_upd (len : Nat) : (s.sessionOpened len).upd = (s.sessionData len).upd :=
  (State.setBank_foot.fld .upd rfl)

end

section
variable {s : State} {r : Req} {p : Bytes}

theorem updOpen_opens (ha : Accepts s r 0x90 p) (hlen : p.length = 8) (hz : zeros p 4 4 = true) (hlo : 1024 ≤ fieldU p 0 4)
    (hhi : fieldU p 0 4 ≤ 3145728) (hl : s.thermalLatched = false) (hst : s.updState = upIDLE ∨ s.updState = upSTAGED) :
    Runs (.updOpen r p) s fun t =>
      t.updState = upOPEN ∧ t.bank s.targetBank = bkEMPTY ∧
      t.par oUpdater Pid.Updater.SESSION_ID = s.nextSession ∧ t.par oUpdater Pid.Updater.BYTES_RECEIVED = 0 ∧
      t.upd.bundleLen = fieldU p 0 4 ∧ t.upd.target = s.targetBank ∧
      Replied s t r 0x90 stOK 0 (leBytes 2 s.nextSession ++ leBytes 1 s.targetBank ++ [0] ++ leBytes 2 256 ++ [0, 0]) := by
  let x := (Taken s r 0x90 p).opCommit (theOp s r 0x90 p).id
  let y := x.sessionOpened (fieldU p 0 4)
  refine ⟨_, congrArg Host.Outcome.next (submitReq_accepted opUpdOpen ha), ?_⟩
  rw [opUpdOpen_opens (s := Taken s r 0x90 p) (e := theOp s r 0x90 p) hlen hz hlo hhi hl hst]
  have hupd : y.upd = (x.sessionData (fieldU p 0 4)).upd := sessionOpened_upd _
  refine ⟨Eq.trans ok_par (updState_setUpd _), (bank_of_foot State.ok_foot _).trans (sessionOpened_bank _),
    Eq.trans ok_par (sessionOpened_session _), Eq.trans ok_par (sessionOpened_received _), ?_, ?_, ?_⟩
  · rw [State.ok_foot.fld .upd rfl]
    exact congrArg UpdState.bundleLen hupd
  · rw [State.ok_foot.fld .upd rfl]
    exact congrArg UpdState.target hupd
  · exact reply_after_foot ha ((sessionOpened_foot _).on (fs := [.hopper, .nvm, .upd]) (ps := some [256, 257, 258, 259, 260, 262])
      State.opCommit_foot.within)

/-! ## UPD_BLOCK and UPD_CLOSE (R405, R406) -/

theorem opUpdBlock_asks {s : State} {e : Op} (h : s.blockCheck e.payload = none) : opUpdBlock e s =
    (s.askNvm .update (.block (fieldU e.payload 4 4) (slice e.payload 12 (fieldU e.payload 2 2)))
      (s.blockPages (fieldU e.payload 4 4) (fieldU e.payload 2 2)) (some e.id)).opRunning e := by
  unfold opUpdBlock
  rw [h]

theorem updBlock_asks (ha : Accepts s r 0x91 p) (hc : (Taken s r 0x91 p).blockCheck p = none) : Runs (.updBlock r p) s fun t =>
    (∃ q ∈ t.nvm.queue, q.work = .block (fieldU p 4 4) (slice p 12 (fieldU p 2 2)) ∧ q.op = some s.hopper.nextId) ∧
    t.nvm.mram = s.nvm.mram ∧ Waits s t := by
  refine ⟨_, congrArg Host.Outcome.next (submitReq_accepted opUpdBlock ha), ?_⟩
  rw [opUpdBlock_asks hc]
  exact ⟨⟨_, List.mem_append_right _ List.mem_cons_self, rfl, rfl⟩, rfl, opRunning_waits rfl⟩

/-- The close of a session begins. -/
def State.closeBegun (s : State) (op : Nat) : State :=
  ({ s with upd := { s.upd with closing := some op } } : State).setUpd upCLOSING

theorem opUpdClose_begins {s : State} {e : Op} (hlen : e.payload.length = 4) (hz : zeros e.payload 2 2 = true)
    (hin : s.inSession (fieldU e.payload 0 2) = true) (hl : s.thermalLatched = false) :
    opUpdClose e s = (s.closeBegun e.id).opRunning e := by
  unfold opUpdClose
  dsimp only
  rw [if_neg (by simp [hlen]), if_neg (by simp [hz]), if_neg (by simp [hin]), if_neg (by simp [hl])]
  rfl

theorem updClose_begins (ha : Accepts s r 0x92 p) (hlen : p.length = 4) (hz : zeros p 2 2 = true)
    (hin : (Taken s r 0x92 p).inSession (fieldU p 0 2) = true) (hl : s.thermalLatched = false) :
    Runs (.updClose r p) s fun t => t.updState = upCLOSING ∧ t.upd.closing = some s.hopper.nextId ∧ Waits s t := by
  refine ⟨_, congrArg Host.Outcome.next (submitReq_accepted opUpdClose ha), ?_⟩
  rw [opUpdClose_begins (s := Taken s r 0x92 p) (e := theOp s r 0x92 p) hlen hz hin hl]
  exact ⟨Eq.trans (State.opRunning_foot.par _ rfl _ _ (by decide) rfl) (updState_setUpd _), rfl, opRunning_waits rfl⟩

end

/-! ## UPD_SCHEDULE (R408) -/

/-- What UPD_SCHEDULE's payload and the state must allow, the bundle's configuration format apart. -/
structure Schedulable (s : State) (p : Bytes) : Prop where
  length : p.length = 12
  zero   : zeros p 2 2 = true
  mode   : byteAt p 0 ≤ 2
  cog    : byteAt p 1 ≤ 31
  wall   : 0 ≤ fieldS p 4 8
  cool   : s.thermalLatched = false
  free   : s.par oUpdater Pid.Updater.SCHED_MODE = 0xFF
  staged : s.upd.stagedOk = true
  state  : s.updState = upSTAGED
  group  : byteAt p 0 = 2 → s.par oShelf Pid.Shelf.COG_ENABLE = 1 ∧ s.seq.detached = false

/-- The staged bundle's configuration format is this firmware's. -/
def State.formatFits (s : State) : Prop := hdConfigFormat (s.header (1 - s.runningBank)) = Config.configFormat.toNat

section
variable {s : State} {e : Op} {p : Bytes}

theorem scheduleCheck_format (h : Schedulable s p) : ¬ s.formatFits → s.scheduleCheck p = some (stREFUSED, frPRECONDITION) := by
  intro hf
  obtain ⟨hlen, hz, hm, hc, hw, hl, hfree, hst, hup, -⟩ := h
  unfold State.formatFits at hf
  unfold State.scheduleCheck
  dsimp only
  rw [if_neg (by simp [hlen]), if_neg (by simp [hz]), if_neg (by simp [hm, hc, hw]), if_neg (by simp [hl]), if_neg (by simp [hfree]),
    if_pos (by simp [hst, hup, hf])]

theorem scheduleCheck_none (h : Schedulable s p) (hf : s.formatFits) : s.scheduleCheck p = none := by
  obtain ⟨hlen, hz, hm, hc, hw, hl, hfree, hst, hup, hg⟩ := h
  unfold State.formatFits at hf
  unfold State.scheduleCheck
  dsimp only
  rw [if_neg (by simp [hlen]), if_neg (by simp [hz]), if_neg (by simp [hm, hc, hw]), if_neg (by simp [hl]), if_neg (by simp [hfree]),
    if_neg (by simp [hst, hup, hf]), if_neg]
  by_cases h2 : byteAt p 0 = 2
  · obtain ⟨h1, hd⟩ := hg h2
    simp [h1, hd]
  · simp [h2]

/-- The schedule as the payload sets it; its operation waits for the first decision with WHEN 0. -/
def State.scheduleData (s : State) (e : Op) : State :=
  let mode := byteAt e.payload 0
  let x := ((s.setPar oUpdater Pid.Updater.SCHED_MODE mode).setPar
      oUpdater Pid.Updater.SCHED_COG_STATE (if mode = 2 then byteAt e.payload 1 else 0)).setPar
      oUpdater Pid.Updater.SCHED_WALL (if mode = 0 then 0 else fieldS e.payload 4 8)
  { x with upd := { x.upd with
      due := mode == 0, dueAtCog := false, resetDriven := false, dueSince := s.time.tick
      waiting := if mode = 0 then some e.id else none } }

/-- The schedule is set, its journaling asked for and recorded. -/
def State.scheduled (s : State) (e : Op) : State :=
  (((s.scheduleData e).setUpd upSCHEDULED).askConfig oUpdater).updRecord 0x03 (1 - (s.scheduleData e).runningBank) (oPort e.port)

theorem opUpdSchedule_refuses (h : Schedulable s e.payload) (hf : ¬ s.formatFits) :
    opUpdSchedule e s = s.reply e stREFUSED frPRECONDITION (leBytes 1 (byteAt e.payload 0) ++ [3, 0, 0]) := by
  unfold opUpdSchedule
  dsimp only
  rw [scheduleCheck_format h hf]
  rfl

theorem opUpdSchedule_sets (h : Schedulable s e.payload) (hf : s.formatFits) : opUpdSchedule e s =
    if byteAt e.payload 0 = 0 then (s.opCommit e.id).scheduled e
    else ((s.opCommit e.id).scheduled e).ok e (leBytes 1 (byteAt e.payload 0) ++ [0, 0, 0]) := by
  unfold opUpdSchedule
  dsimp only
  rw [scheduleCheck_none h hf]
  rfl

/-- What a set schedule leaves for whoever reads it. -/
structure ScheduleSet (e : Op) (t : State) : Prop where
  state   : t.updState = upSCHEDULED
  mode    : t.par oUpdater Pid.Updater.SCHED_MODE = byteAt e.payload 0
  cog     : t.par oUpdater Pid.Updater.SCHED_COG_STATE = if byteAt e.payload 0 = 2 then (byteAt e.payload 1 : Int) else 0
  wall    : t.par oUpdater Pid.Updater.SCHED_WALL = if byteAt e.payload 0 = 0 then 0 else fieldS e.payload 4 8
  due     : t.upd.due = (byteAt e.payload 0 == 0)
  waiting : t.upd.waiting = if byteAt e.payload 0 = 0 then some e.id else none

/-- A step that leaves the updater's data, and its parameters 0x100 and 0x107 to 0x109, leaves the schedule. -/
theorem ScheduleSet.kept {t : State} (h : ScheduleSet e s) (hu : t.upd = s.upd)
    (hp : ∀ pid ∈ [0x100, 0x107, 0x108, 0x109], ParKept oUpdater pid s t) : ScheduleSet e t where
  state := Eq.trans (hp 0x100 (by decide)) h.state
  mode := Eq.trans (hp 0x107 (by decide)) h.mode
  cog := Eq.trans (hp 0x108 (by decide)) h.cog
  wall := Eq.trans (hp 0x109 (by decide)) h.wall
  due := hu ▸ h.due
  waiting := hu ▸ h.waiting

theorem scheduleData_set : ScheduleSet e ((s.scheduleData e).setUpd upSCHEDULED) where
  state := updState_setUpd _
  mode := (par_setPar_pid _ _ (by decide) (by decide) (by decide)).trans <|
    (par_setPar_pid _ _ (by decide) (by decide) (by decide)).trans <|
    (par_setPar_pid _ _ (by decide) (by decide) (by decide)).trans (State.par_setPar_same _ (by decide) _)
  cog := (par_setPar_pid _ _ (by decide) (q := Pid.Updater.UPD_STATE) (by decide) (by decide)).trans <|
    (par_setPar_pid _ _ (by decide) (by decide) (by decide)).trans (State.par_setPar_same _ (by decide) _)
  wall := (par_setPar_pid _ _ (by decide) (by decide) (by decide)).trans (State.par_setPar_same _ (by decide) _)
  due := rfl
  waiting := rfl

theorem scheduled_set : ScheduleSet e (s.scheduled e) := by
  refine scheduleData_set.kept (State.updRecord_foot.on (fs := [.ports, .grist, .nvm]) (ps := some [5, 257, 258, 260, 261, 264])
    State.askConfig_foot.within |>.fld .upd rfl) fun pid hpid => ?_
  have hb : pid < 4096 ∧ pid ≠ Pid.SOURCE_SEQ := by
    simp only [List.mem_cons, List.not_mem_nil, or_false] at hpid
    obtain rfl | rfl | rfl | rfl := hpid <;> decide
  exact ((ParKept.refl _).foot State.askConfig_foot hb.1).updRecord hb.1 hb.2

theorem scheduled_foot : Foot [.ports, .grist, .nvm, .upd] (some [5, 256, 257, 258, 260, 261, 263, 264, 265]) s (s.scheduled e) :=
  State.updRecord_foot.on <| State.askConfig_foot.on <| .setPar <| .withUpd <| .setPar <| .setPar <| .setPar <| .refl _ _ _

end

section
variable {s : State} {r : Req} {p : Bytes}

/-- A reply leaves the schedule. -/
theorem ScheduleSet.ok {e : Op} {b : Bytes} (h : ScheduleSet e s) : ScheduleSet e (s.ok e b) := by
  refine h.kept (State.ok_foot.fld .upd rfl) fun pid hpid => ?_
  simp only [List.mem_cons, List.not_mem_nil, or_false] at hpid
  obtain rfl | rfl | rfl | rfl := hpid <;> exact ok_par

/-- UPD_SCHEDULE of a bundle whose format fits (R408). -/
theorem updSchedule_sets (ha : Accepts s r 0x93 p) (h : Schedulable s p) (hf : s.formatFits) :
    Runs (.updSchedule r p) s fun t =>
      ScheduleSet (theOp s r 0x93 p) t ∧
      (byteAt p 0 ≠ 0 → Replied s t r 0x93 stOK 0 (leBytes 1 (byteAt p 0) ++ [0, 0, 0])) := by
  have hTaken : Schedulable (Taken s r 0x93 p) p :=
    ⟨h.length, h.zero, h.mode, h.cog, h.wall, h.cool, h.free, h.staged, h.state, h.group⟩
  refine ⟨_, congrArg Host.Outcome.next (submitReq_accepted opUpdSchedule ha), ?_⟩
  rw [opUpdSchedule_sets (s := Taken s r 0x93 p) (e := theOp s r 0x93 p) hTaken hf]
  split
  · next h0 => exact ⟨scheduled_set, fun hne => absurd h0 hne⟩
  · exact ⟨scheduled_set.ok, fun _ => reply_after_foot ha (scheduled_foot.on
      (fs := [.ports, .grist, .nvm, .upd, .hopper]) (ps := some [5, 256, 257, 258, 260, 261, 263, 264, 265]) State.opCommit_foot.within)⟩

/-- UPD_SCHEDULE of a bundle of another configuration format (R408). -/
theorem updSchedule_refuses (ha : Accepts s r 0x93 p) (h : Schedulable s p) (hf : ¬ s.formatFits) :
    Runs (.updSchedule r p) s fun t => t.updState = upSTAGED ∧
      Replied s t r 0x93 stREFUSED frPRECONDITION (leBytes 1 (byteAt p 0) ++ [3, 0, 0]) := by
  have hTaken : Schedulable (Taken s r 0x93 p) p :=
    ⟨h.length, h.zero, h.mode, h.cog, h.wall, h.cool, h.free, h.staged, h.state, h.group⟩
  refine ⟨_, congrArg Host.Outcome.next (submitReq_accepted opUpdSchedule ha), ?_⟩
  rw [opUpdSchedule_refuses (s := Taken s r 0x93 p) (e := theOp s r 0x93 p) hTaken hf]
  exact ⟨Eq.trans reply_par h.state, State.reply_replied ha.enabled_taken⟩

end

/-! ## UPD_CANCEL (R407) -/

section
variable {s : State} {e : Op}

/-- No cancel of a bank waits. -/
theorem noCancel_iff : (s.nvm.queue.any fun r => r.work == NvmWork.cancelBank) = false ↔ ∀ q ∈ s.nvm.queue, q.work ≠ .cancelBank := by
  simp

/-- The state with a cancel's write of the bank asked for. -/
def State.cancelAsked (s : State) (e : Op) : State := s.askNvm .update .cancelBank 1 (some e.id)

/-- A schedule is withdrawn: its operation that waits is refused. -/
def State.scheduleWithdrawn (s : State) (e : Op) : State :=
  (s.scheduleReply stREFUSED frPRECONDITION 3 0).scheduleEnds (oPort e.port)

variable (hp : e.payload = [0, 0, 0, 0]) (hl : s.thermalLatched = false) (hq : ∀ q ∈ s.nvm.queue, q.work ≠ .cancelBank)
include hp hl hq

theorem opUpdCancel_empty (hst : s.updState = upOPEN) (hb : s.bank s.upd.target = bkEMPTY) (hact : s.nvm.active = none) :
    opUpdCancel e s = (s.cancelCommit none).ok e [0, 0, 0, 0] := by
  unfold opUpdCancel
  simp only [hp, hl, noCancel_iff.2 hq, hst, hb, hact]
  rfl

theorem opUpdCancel_open (hst : s.updState = upOPEN) (hb : s.bank s.upd.target ≠ bkEMPTY) :
    opUpdCancel e s = (s.cancelAsked e).opRunning e := by
  unfold opUpdCancel
  simp only [hp, hl, noCancel_iff.2 hq, hst, beq_eq_false_iff_ne.2 hb]
  rfl

theorem opUpdCancel_staged (hst : s.updState = upSTAGED) :
    opUpdCancel e s = (State.cancelAsked { s with upd := { s.upd with target := 1 - s.runningBank } } e).opRunning e := by
  unfold opUpdCancel
  simp only [hp, hl, noCancel_iff.2 hq, hst]
  rfl

theorem opUpdCancel_scheduled (hst : s.updState = upSCHEDULED) :
    opUpdCancel e s = (s.scheduleWithdrawn e).ok e [0, 0, 0, 0] := by
  unfold opUpdCancel
  simp only [hp, hl, noCancel_iff.2 hq, hst]
  rfl

omit hp hl hq

/-- The updater's data once a cancel has taken the session or the staging. -/
def State.cancelData (s : State) : State :=
  let x := if s.dropBlocks.upd.stagedOk then s.dropBlocks.releaseSats else s.dropBlocks
  let y := (x.setBank x.upd.target bkEMPTY).setPar oUpdater Pid.Updater.STAGED_VERSION 0
  { y with upd := { y.upd with units := [], headerOk := false, stagedOk := false } }

theorem cancelCommit_none : s.cancelCommit none = s.cancelData.setUpd upIDLE := rfl

/-- The satellites' release leaves the target of the session; so do the operations whose blocks are dropped. -/
theorem cancel_target :
    (if s.dropBlocks.upd.stagedOk then s.dropBlocks.releaseSats else s.dropBlocks).upd.target = s.upd.target := by
  have hupd : s.dropBlocks.upd = s.upd := State.dropBlocks_foot.fld .upd rfl
  have hrel : s.dropBlocks.releaseSats.upd.target = s.upd.target := (congrArg UpdState.target hupd : s.dropBlocks.upd.target = _)
  rw [apply_ite State.upd, apply_ite UpdState.target, hupd, hrel, ite_self]

theorem cancelData_bank (b : Nat) : s.cancelData.bank b =
    ((if s.dropBlocks.upd.stagedOk then s.dropBlocks.releaseSats else s.dropBlocks).setBank s.upd.target bkEMPTY).bank b := by
  rw [← cancel_target]
  exact bank_setPar (s := State.setBank _ _ bkEMPTY) (q := Pid.Updater.STAGED_VERSION) b 0

theorem cancelCommit_bank : (s.cancelCommit none).bank s.upd.target = bkEMPTY := by
  rw [cancelCommit_none]
  exact (bank_setPar (q := Pid.Updater.UPD_STATE) _ _).trans ((cancelData_bank _).trans (bank_setBank_same _ _))

/-- The answer to the schedule's operation takes nothing else of the updater's data. -/
theorem scheduleReply_staged (st c out retry : Nat) : (s.scheduleReply st c out retry).upd.stagedOk = s.upd.stagedOk := by
  unfold State.scheduleReply
  dsimp only
  split
  · rw [State.reply_foot.fld .upd rfl]
  · rfl

theorem noSchedule_mode : s.noSchedule.par oUpdater Pid.Updater.SCHED_MODE = 0xFF := by
  show ((State.setPar _ oUpdater Pid.Updater.SCHED_COG_STATE 0).setPar oUpdater Pid.Updater.SCHED_WALL 0).par oUpdater _ = _
  rw [par_setPar_pid _ _ (by decide) (by decide) (by decide), par_setPar_pid _ _ (by decide) (by decide) (by decide),
    State.par_setPar_same _ (by decide)]

/-- What the end of a schedule leaves. -/
theorem scheduleEnds_state (port : Nat) :
    (s.scheduleEnds port).updState = (if s.upd.stagedOk then upSTAGED else upIDLE) ∧
    (s.scheduleEnds port).par oUpdater Pid.Updater.SCHED_MODE = 0xFF ∧ (s.scheduleEnds port).upd.due = false := by
  have kept {pid : Nat} (hp : pid < 4096) (hn : pid ≠ Pid.SOURCE_SEQ) :
      ParKept oUpdater pid s.noSchedule.endActHold.updRest (s.scheduleEnds port) :=
    ((ParKept.refl _).foot State.askConfig_foot hp).updRecord hp hn
  refine ⟨Eq.trans (kept (by decide) (by decide)) (State.par_setPar_same _ (by decide) _), ?_, ?_⟩
  · refine Eq.trans (kept (by decide) (by decide)) ?_
    unfold State.updRest
    rw [par_setPar_pid _ _ (by decide) (by decide) (by decide)]
    exact noSchedule_mode
  · unfold State.scheduleEnds
    rw [State.updRecord_foot.fld .upd rfl, State.askConfig_foot.fld .upd rfl]
    rfl

end

section
variable {s : State} {r : Req} (ha : Accepts s r 0x95 [0, 0, 0, 0]) (hl : s.thermalLatched = false)
  (hq : ∀ q ∈ s.nvm.queue, q.work ≠ .cancelBank)
include ha hl hq

theorem updCancel_empty (hst : s.updState = upOPEN) (hb : s.bank s.upd.target = bkEMPTY) (hact : s.nvm.active = none) :
    Runs (.updCancel r [0, 0, 0, 0]) s fun t => t.updState = upIDLE ∧ t.bank s.upd.target = bkEMPTY ∧ t.upd.units = [] ∧
      Replied s t r 0x95 stOK 0 [0, 0, 0, 0] := by
  refine ⟨_, congrArg Host.Outcome.next (submitReq_accepted opUpdCancel ha), ?_⟩
  rw [opUpdCancel_empty (s := Taken s r 0x95 _) rfl hl hq hst hb hact]
  refine ⟨Eq.trans ok_par (updState_setUpd _), (bank_of_foot State.ok_foot _).trans cancelCommit_bank, ?_,
    reply_after_foot ha State.cancelCommit_foot⟩
  rw [State.ok_foot.fld .upd rfl]
  rfl

theorem updCancel_written (hst : s.updState = upSTAGED ∨ s.updState = upOPEN ∧ s.bank s.upd.target ≠ bkEMPTY) :
    Runs (.updCancel r [0, 0, 0, 0]) s fun t =>
      (∃ q ∈ t.nvm.queue, q.work = .cancelBank ∧ q.op = some s.hopper.nextId) ∧ Waits s t := by
  refine ⟨_, congrArg Host.Outcome.next (submitReq_accepted opUpdCancel ha), ?_⟩
  obtain hst | ⟨hst, hb⟩ := hst
  · rw [opUpdCancel_staged (s := Taken s r 0x95 _) rfl hl hq hst]
    exact ⟨⟨_, List.mem_append_right _ List.mem_cons_self, rfl, rfl⟩, opRunning_waits rfl⟩
  · rw [opUpdCancel_open (s := Taken s r 0x95 _) rfl hl hq hst hb]
    exact ⟨⟨_, List.mem_append_right _ List.mem_cons_self, rfl, rfl⟩, opRunning_waits rfl⟩

theorem updCancel_scheduled (hst : s.updState = upSCHEDULED) (hok : s.upd.stagedOk = true) :
    Runs (.updCancel r [0, 0, 0, 0]) s fun t => t.updState = upSTAGED ∧ t.par oUpdater Pid.Updater.SCHED_MODE = 0xFF ∧
      t.upd.due = false ∧ Replied s t r 0x95 stOK 0 [0, 0, 0, 0] := by
  refine ⟨_, congrArg Host.Outcome.next (submitReq_accepted opUpdCancel ha), ?_⟩
  rw [opUpdCancel_scheduled (s := Taken s r 0x95 _) rfl hl hq hst]
  obtain ⟨hstate, hmode, hdue⟩ := scheduleEnds_state (s := (Taken s r 0x95 [0, 0, 0, 0]).scheduleReply stREFUSED frPRECONDITION 3 0) (oPort r.port)
  rw [scheduleReply_staged, if_pos (by exact hok)] at hstate
  refine ⟨Eq.trans ok_par hstate, Eq.trans ok_par hmode, ?_, reply_after_foot ha
    (State.scheduleEnds_foot.on (fs := [.ports, .hopper, .upd, .seq, .nvm, .grist])
      (ps := some [5, 256, 257, 258, 260, 261, 263, 264, 265, 385]) State.scheduleReply_foot.within)⟩
  rw [State.ok_foot.fld .upd rfl]
  exact hdue

end

/-- Settles O19: the operations of the update, each on the state that holds its request. -/
theorem updateOperations : Obligations.UpdateOperations := by
  intro s r p
  refine ⟨updOpen_opens, updBlock_asks, updClose_begins, fun ha hlen hz hm hc hw hl hfree hst hup hg => ?_,
    fun ha hl hq => ⟨updCancel_empty ha hl hq, updCancel_written ha hl hq, updCancel_scheduled ha hl hq⟩⟩
  have h : Schedulable s p := ⟨hlen, hz, hm, hc, hw, hl, hfree, hst, hup, hg⟩
  by_cases hf : s.formatFits
  · obtain ⟨t, ht, ⟨hstate, hmode, hcog, hwall, hdue, hwait⟩, hrep⟩ := updSchedule_sets ha h hf
    refine ⟨t, ht, fun _ => ⟨hstate, hmode, fun h0 => ⟨?_, ?_⟩, fun h0 => ⟨?_, ?_, hrep h0⟩, ?_⟩, fun hne => absurd hf hne⟩
    · rw [hdue]; exact beq_iff_eq.2 h0
    · rw [hwait]; exact if_pos h0
    · rw [hdue]; exact beq_eq_false_iff_ne.2 h0
    · rw [hwall]; exact if_neg h0
    · rw [hcog]; push_cast; rfl
  · obtain ⟨t, ht, h'⟩ := updSchedule_refuses ha h hf
    exact ⟨t, ht, fun hyes => absurd hyes hf, fun _ => h'⟩

end Sys2Proof.Machine

/-! # Proofs: life-cycle transitions, keys and the debug port (O20) -/
namespace Sys2Proof.Machine
set_option Elab.async false

/-! ## The life-cycle nonce -/

section
variable {s x : State} {e : Op}

/-- No transaction takes the life-cycle nonce: a repair's entry is all that one adds to the life cycle's data. -/
theorem workCommit_nonce (r : NvmReq) : (s.workCommit r).life.nonce = s.life.nonce := by
  unfold State.workCommit
  cases r.work with
  | tickRecord => exact congrArg LifeState.nonce (State.tickCommit_foot.fld .life rfl)
  | configObjects l => exact congrArg LifeState.nonce (State.configCommit_foot.fld .life rfl)
  | loopImage n w => exact congrArg LifeState.nonce (State.imageCommit_foot.fld .life rfl)
  | triggers => rfl
  | shutdownCause => rfl
  | tracking o => exact congrArg LifeState.nonce (State.trackingCommit_foot.fld .life rfl)
  | battery l => exact congrArg LifeState.nonce (State.batteryCommit_foot.fld .life rfl)
  | counters => rfl
  | gristMirror => exact congrArg LifeState.nonce (State.mirrorCommit_foot.fld .life rfl)
  | gristFirst => exact congrArg LifeState.nonce (State.firstCommit_foot.fld .life rfl)
  | gristClear => exact congrArg LifeState.nonce (State.clearCommit_foot.fld .life rfl)
  | repair a row => rfl
  | rewrite => rfl
  | block o d => exact congrArg LifeState.nonce (State.blockCommit_foot.fld .life rfl)
  | staged => exact congrArg LifeState.nonce (State.stagedCommit_foot.fld .life rfl)
  | cancelBank => exact congrArg LifeState.nonce (State.cancelCommit_foot.fld .life rfl)
  | activate => exact congrArg LifeState.nonce (State.activateCommit_foot.fld .life rfl)
  | good => exact congrArg LifeState.nonce (State.checkinCommit_foot.fld .life rfl)
  | saveApplied => rfl
  | choldTest => rfl

theorem commitActive_nonce : s.commitActive.life.nonce = s.life.nonce := by
  unfold State.commitActive
  split
  · next r n hr =>
    have h : ∀ y : State, (if y.supply.cs == .saving then y.saveStart else y).life = y.life := fun y => by
      split
      · exact State.saveStart_foot.fld .life rfl
      · rfl
    refine (congrArg LifeState.nonce (h _)).trans ((workCommit_nonce _).trans (congrArg LifeState.nonce ?_))
    exact (State.noteWritten_foot.fld .life rfl : (State.noteWritten _ _).life = _)
  · rfl

theorem enterReturn_nonce : s.enterReturn.life.nonce = s.life.nonce := by
  have hset : s.enterReturn.life.nonce = s.commitActive.life.nonce := by
    unfold State.enterReturn
    rw [State.csReset_foot.fld .life rfl]
    rfl
  exact hset.trans commitActive_nonce

theorem enterReturn_reset : s.enterReturn.supply.cs = .reset ∧ s.enterReturn.life.killed = true := by
  unfold State.enterReturn
  refine ⟨(csReset_isReset _ _).cs, ?_⟩
  rw [State.csReset_foot.fld .life rfl]

/-! ## A transition (R416, R418) -/

/-- The life cycle's parameters 0x100 to 0x107 are as they were. -/
abbrev LifeKept (s t : State) : Prop := HeadKept (· = oLife) s t

theorem setBank_lifeKept (b : Nat) (v : Int) : LifeKept s (s.setBank b v) := by
  unfold State.setBank
  exact .ite (.refl s) (.setPar (.same ((HeadKept.refl s).foot State.journalWrite_foot)) (by decide) (bankPid_lt b))

theorem noSchedule_lifeKept : LifeKept s s.noSchedule :=
  .same (x := ((s.setPar oUpdater Pid.Updater.SCHED_MODE 0xFF).setPar oUpdater Pid.Updater.SCHED_COG_STATE 0).setPar
      oUpdater Pid.Updater.SCHED_WALL 0)
    (((HeadKept.refl s).setPar (by decide)).setPar (by decide) |>.setPar (by decide))

/-- What is dropped on entry to FIELD is the updater's. -/
theorem dropDevelopment_lifeKept : LifeKept s s.dropDevelopment := by
  refine (HeadKept.refl s).each (fun b x => ?_) 2
  have hbank : LifeKept x ((x.setBank b bkEMPTY).setPar oUpdater Pid.Updater.STAGED_VERSION 0) :=
    (setBank_lifeKept b bkEMPTY).setPar (by decide)
  exact .ite (.ite ((hbank.trans noSchedule_lifeKept).foot State.endActHold_foot |>.setPar (by decide)) hbank) (.refl x)

theorem lifeRecord_lifeKept (source kind : Nat) (what value : Int) (port : Nat) :
    LifeKept s (s.lifeRecord source kind what value port) := by
  have hr : LifeKept s (s.record source rcSecurity 0x42 [.lit kind, .lit what, .lit value, .lit port]) :=
    record_head (by decide) ..
  exact .ite (hr.foot State.raise_foot) hr

theorem LifeKept.lcState {t : State} (h : LifeKept s t) : t.lcState = s.lcState := h.par _ _ rfl (by decide)

theorem LifeKept.debugState {t : State} (h : LifeKept s t) :
    t.par oLife Pid.LifeCycle.DEBUG_STATE = s.par oLife Pid.LifeCycle.DEBUG_STATE := h.par _ _ rfl (by decide)

/-- KEY_STATUS leaves LC_STATE. -/
theorem keyStatus_lcState : s.keyStatus.lcState = s.lcState := par_setPar_pid _ _ (by decide) (by decide) (by decide)

/-- The state programmed by a transition, before what entry to FIELD drops. -/
def State.lcProgrammed (s : State) (target : Nat) : State :=
  let x := if target = 3 then s.enterReturn else s
  let y := (x.setPar oLife Pid.LifeCycle.LC_STATE target).setPar oLife Pid.LifeCycle.DEBUG_STATE (if target = 2 then 0 else 1)
  { y with upd := { y.upd with stagedOk := false } }

/-- A transition's last steps: the drop of development bundles, the keys' status and the record. -/
theorem lcEnter_eq (target : Nat) : s.lcEnter e target =
    (if target = 2 then (s.lcProgrammed target).dropDevelopment else s.lcProgrammed target).keyStatus.lifeRecord oLife 0x10 target
      target (oPort e.port) := rfl

theorem lcProgrammed_lcState (target : Nat) : (s.lcProgrammed target).lcState = target :=
  (par_setPar_pid _ _ (by decide) (q := Pid.LifeCycle.DEBUG_STATE) (by decide) (by decide)).trans (State.par_setPar_same _ (by decide) _)

theorem lcEnter_lcState (target : Nat) : (s.lcEnter e target).lcState = target := by
  rw [lcEnter_eq, (lifeRecord_lifeKept ..).lcState, keyStatus_lcState]
  split
  · rw [dropDevelopment_lifeKept.lcState, lcProgrammed_lcState]
  · exact lcProgrammed_lcState target

/-- A transition's last steps leave the life cycle's data and the supplies. -/
theorem lcEnter_life (target : Nat) : (s.lcEnter e target).life = (s.lcProgrammed target).life := by
  rw [lcEnter_eq, State.lifeRecord_foot.fld .life rfl, State.keyStatus_foot.fld .life rfl]
  split
  · exact State.dropDevelopment_foot.fld .life rfl
  · rfl

theorem lcEnter_supply (target : Nat) : (s.lcEnter e target).supply = (s.lcProgrammed target).supply := by
  rw [lcEnter_eq, State.lifeRecord_foot.fld .supply rfl, State.keyStatus_foot.fld .supply rfl]
  split
  · exact State.dropDevelopment_foot.fld .supply rfl
  · rfl

theorem lcEnter_nonce (target : Nat) : (s.lcEnter e target).life.nonce = s.life.nonce := by
  rw [lcEnter_life]
  show (if target = 3 then s.enterReturn else s).life.nonce = _
  split
  · exact enterReturn_nonce
  · rfl

theorem lcProgrammed_return {target : Nat} (h : target = 3) :
    (s.lcProgrammed target).life = s.enterReturn.life ∧ (s.lcProgrammed target).supply = s.enterReturn.supply := by
  unfold State.lcProgrammed
  rw [if_pos h]
  simp only [State.setPar_life, State.setPar_supply, and_self]

theorem lcEnter_return {target : Nat} (h : target = 3) :
    (s.lcEnter e target).life.killed = true ∧ (s.lcEnter e target).supply.cs = .reset := by
  obtain ⟨hlife, hsupply⟩ := lcProgrammed_return (s := s) h
  rw [lcEnter_life, lcEnter_supply, hlife, hsupply]
  exact enterReturn_reset.symm

/-- A transition that is not RETURN touches no port's ENABLE. -/
theorem lcEnter_ports {target : Nat} (h : target ≠ 3) : Foot [.ports, .grist, .seq, .nvm, .upd]
    (some [5, 256, 257, 258, 259, 260, 261, 262, 263, 264, 265]) s (s.lcEnter e target) := by
  have hp : Foot [.ports, .grist, .seq, .nvm, .upd] (some [5, 256, 257, 258, 259, 260, 261, 262, 263, 264, 265]) s
      (s.lcProgrammed target) := by
    unfold State.lcProgrammed
    rw [if_neg h]
    exact .withUpd (.setPar (.setPar (.refl _ _ _)))
  rw [lcEnter_eq]
  exact State.lifeRecord_foot.on (State.keyStatus_foot.on (.ite (State.dropDevelopment_foot.on hp) hp))

end

/-! ## LC_TRANSITION (R417) -/

section
variable {s : State} {e : Op}

/-- The life-cycle nonce is spent, whatever the tokens prove. -/
def State.lifeNonceSpent (s : State) : State := { s with life := { s.life with nonce := none } }

/-- The state in which LC_TRANSITION gives its nonce. -/
def State.lifeNonced (s : State) : State :=
  { (s.drawBytes 32).2 with life := { s.life with nonce := some (s.drawBytes 32).1 } }

theorem lifeNonceSpent_foot : Foot [.life] (some []) s s.lifeNonceSpent := .withLife (.refl _ _ _)

theorem lifeNonced_foot : Foot [.draws, .life] (some []) s s.lifeNonced := .withLife (State.drawBytes_foot.on (.refl _ _ _))

/-- The payload of a transition's or a key's OK. -/
def State.lcView (s : State) : Bytes := leBytes 1 s.lcState ++ leBytes 1 (s.par oLife Pid.LifeCycle.KEY_STATUS) ++ [0, 0]

/-- Tokens that fail are answered AUTH_FAILED, and recorded. -/
def State.lcDenied (s : State) (e : Op) : State :=
  (s.lifeNonceSpent.tokenFailed (byteAt e.payload 1) e.port).fail e stAUTH_FAILED 7

theorem opLcTransition_nonce (h : s.lcCheck e.payload = none) (h0 : byteAt e.payload 0 = 0) :
    opLcTransition e s = s.lifeNonced.ok e ((s.drawBytes 32).1 ++ serialBytes) := by
  unfold opLcTransition
  dsimp only
  rw [h]
  exact if_pos h0

theorem opLcTransition_denies (h : s.lcCheck e.payload = none) (h0 : byteAt e.payload 0 ≠ 0) (ht : s.tokensOk e.payload = false) :
    opLcTransition e s = s.lcDenied e := by
  unfold opLcTransition
  dsimp only
  rw [h]
  dsimp only
  rw [if_neg h0, ht]
  rfl

theorem opLcTransition_enters (h : s.lcCheck e.payload = none) (h1 : byteAt e.payload 0 = 1) (ht : s.tokensOk e.payload = true) :
    opLcTransition e s = ((s.lifeNonceSpent.opCommit e.id).lcEnter e (byteAt e.payload 1)).ok e
      ((s.lifeNonceSpent.opCommit e.id).lcEnter e (byteAt e.payload 1)).lcView := by
  unfold opLcTransition
  dsimp only
  rw [h]
  dsimp only
  rw [if_neg (by omega), ht, if_neg (by decide), if_pos h1]
  rfl

theorem opLcTransition_writes (h : s.lcCheck e.payload = none) (h2 : byteAt e.payload 0 = 2) (ht : s.tokensOk e.payload = true) :
    opLcTransition e s = ((s.lifeNonceSpent.opCommit e.id).keyWritten e (byteAt e.payload 1) (slice e.payload 4 64)).ok e
      ((s.lifeNonceSpent.opCommit e.id).keyWritten e (byteAt e.payload 1) (slice e.payload 4 64)).lcView := by
  unfold opLcTransition
  dsimp only
  rw [h]
  dsimp only
  rw [if_neg (by omega), ht, if_neg (by decide), if_neg (by omega)]
  rfl

/-- A key's slot that passes the checks is one of the five. -/
theorem lcCheck_slot {p : Bytes} (h : s.lcCheck p = none) (h2 : byteAt p 0 = 2) : byteAt p 1 < 5 := by
  by_contra hge
  have hrange : (decide (byteAt p 0 > 2) || decide (byteAt p 0 = 1) && decide (byteAt p 1 > 3) ||
      decide (byteAt p 0 = 2) && decide (byteAt p 1 > 4)) = true := by
    simp [h2]
    omega
  unfold State.lcCheck at h
  simp only [hrange, if_true] at h
  split_ifs at h

theorem lcDenied_foot : Foot [.ports, .hopper, .grist, .life] (some [5, 257, 258, 260, 261, 264, 385]) s (s.lcDenied e) :=
  State.fail_foot.on (State.tokenFailed_foot.on lifeNonceSpent_foot.within)

theorem lcDenied_life : (s.lcDenied e).life = { s.life with nonce := none } := by
  unfold State.lcDenied
  rw [State.fail_foot.fld .life rfl, State.tokenFailed_foot.fld .life rfl]
  rfl

theorem lcDenied_lcState : (s.lcDenied e).lcState = s.lcState :=
  Eq.trans (reply_par (o := oLife)) (lifeRecord_lifeKept (s := s.lifeNonceSpent) ..).lcState

/-- A written key's record leaves the life cycle's data as the write makes it. -/
theorem keyWritten_life (target : Nat) (key : Bytes) :
    (s.keyWritten e target key).life = { s.life with keys := vmod s.life.keys target fun _ => some key } := by
  unfold State.keyWritten
  rw [State.lifeRecord_foot.fld .life rfl, State.keyStatus_foot.fld .life rfl]

end

section
variable {s : State} {r : Req} {p : Bytes}

/-- What failed tokens leave, whatever they were for. -/
theorem denied_runs {c : Instr} {payload : Bytes} (hexec : exec c s = .next (submitReq r 0xA1 payload opLcTransition s))
    (ha : Accepts s r 0xA1 payload) (hc : (Taken s r 0xA1 payload).lcCheck payload = none) (h0 : byteAt payload 0 ≠ 0)
    (ht : (Taken s r 0xA1 payload).tokensOk payload = false) : Runs c s fun t =>
      t.life = { s.life with nonce := none } ∧ t.lcState = s.lcState ∧ Replied s t r 0xA1 stAUTH_FAILED 7 [] := by
  refine ⟨_, hexec, ?_⟩
  rw [submitReq_accepted opLcTransition ha,
    opLcTransition_denies (s := Taken s r 0xA1 payload) (e := theOp s r 0xA1 payload) hc h0 ht]
  exact ⟨lcDenied_life, lcDenied_lcState, reply_after_foot ha
    (State.tokenFailed_foot.on (fs := [.ports, .grist, .life]) (ps := some [5, 257, 258, 260, 261, 264]) lifeNonceSpent_foot.within)⟩

theorem lcNonce_gives (ha : Accepts s r 0xA1 (0 :: p)) (hc : (Taken s r 0xA1 (0 :: p)).lcCheck (0 :: p) = none) :
    Runs (.lcNonce r p) s fun t => ∃ n : Bytes, n.length = 32 ∧ t.life.nonce = some n ∧
      Replied s t r 0xA1 stOK 0 (n ++ serialBytes) := by
  refine ⟨_, congrArg Host.Outcome.next (submitReq_accepted opLcTransition ha), (s.drawBytes 32).1, drawBytes_length 32, ?_⟩
  rw [opLcTransition_nonce (s := Taken s r 0xA1 (0 :: p)) (e := theOp s r 0xA1 (0 :: p)) hc rfl]
  refine ⟨?_, reply_after_foot ha lifeNonced_foot⟩
  rw [State.ok_foot.fld .life rfl]
  rfl

theorem lcTransition_enters (ha : Accepts s r 0xA1 (1 :: p)) (hc : (Taken s r 0xA1 (1 :: p)).lcCheck (1 :: p) = none)
    (ht : (Taken s r 0xA1 (1 :: p)).tokensOk (1 :: p) = true) : Runs (.lcTransition r p) s fun t =>
      t.life.nonce = none ∧ t.lcState = byteAt p 0 ∧ (byteAt p 0 ≠ 3 → ∃ b, Replied s t r 0xA1 stOK 0 b) ∧
      (byteAt p 0 = 3 → t.life.killed = true ∧ t.supply.cs = .reset) := by
  refine ⟨_, congrArg Host.Outcome.next (submitReq_accepted opLcTransition ha), ?_⟩
  rw [opLcTransition_enters (s := Taken s r 0xA1 (1 :: p)) (e := theOp s r 0xA1 (1 :: p)) hc rfl ht]
  refine ⟨?_, Eq.trans ok_par (lcEnter_lcState _), fun h3 => ⟨_, reply_after_foot ha ((lcEnter_ports h3).on
    (fs := [.ports, .grist, .seq, .nvm, .upd, .hopper, .life]) (ps := some [5, 256, 257, 258, 259, 260, 261, 262, 263, 264, 265])
    (State.opCommit_foot.on lifeNonceSpent_foot.within))⟩, fun h3 => ?_⟩
  · rw [State.ok_foot.fld .life rfl, lcEnter_nonce]
    rfl
  · rw [State.ok_foot.fld .life rfl, State.ok_foot.fld .supply rfl]
    exact lcEnter_return h3

theorem writeKey_writes (ha : Accepts s r 0xA1 (2 :: p)) (hc : (Taken s r 0xA1 (2 :: p)).lcCheck (2 :: p) = none)
    (ht : (Taken s r 0xA1 (2 :: p)).tokensOk (2 :: p) = true) : Runs (.writeKey r p) s fun t =>
      t.life.nonce = none ∧ vget t.life.keys (byteAt p 0) none = some (slice p 3 64) ∧ ∃ b, Replied s t r 0xA1 stOK 0 b := by
  refine ⟨_, congrArg Host.Outcome.next (submitReq_accepted opLcTransition ha), ?_⟩
  rw [opLcTransition_writes (s := Taken s r 0xA1 (2 :: p)) (e := theOp s r 0xA1 (2 :: p)) hc rfl ht]
  beta_reduce
  rw [State.ok_foot.fld .life rfl, keyWritten_life]
  exact ⟨rfl, vget_vmod _ (lcCheck_slot hc rfl) _ _, _, reply_after_foot ha (State.keyWritten_foot.on
    (fs := [.ports, .grist, .hopper, .life]) (ps := some [5, 257, 258, 260, 261, 264])
    (State.opCommit_foot.on lifeNonceSpent_foot.within))⟩

end

/-! ## DEBUG_UNLOCK (R419) -/

section
variable {s : State} {e : Op} {r : Req} {p : Bytes}

/-- The debug port takes a state, which is recorded. -/
def State.debugSet (s : State) (v : Int) (kind : Nat) (e : Op) : State :=
  let x := s.setPar oLife Pid.LifeCycle.DEBUG_STATE v
  x.lifeRecord oLife kind 0 x.lcState (oPort e.port)

theorem debugSet_debugState (v : Int) (kind : Nat) : (s.debugSet v kind e).par oLife Pid.LifeCycle.DEBUG_STATE = v :=
  Eq.trans (LifeKept.debugState (lifeRecord_lifeKept ..)) (State.par_setPar_same _ (by decide) v)

theorem debugSet_foot (v : Int) (kind : Nat) :
    Foot [.ports, .grist] (some [5, 257, 258, 260, 261, 264]) s (s.debugSet v kind e) :=
  State.lifeRecord_foot.on (.setPar (.refl _ _ _))

/-- A token that fails leaves the debug port. -/
theorem tokenDenied_debugState (target : Nat) (q : HostPort) (st c : Nat) :
    ((s.lifeNonceSpent.tokenFailed target q).fail e st c).par oLife Pid.LifeCycle.DEBUG_STATE =
      s.par oLife Pid.LifeCycle.DEBUG_STATE :=
  Eq.trans (reply_par (o := oLife)) (LifeKept.debugState (s := s.lifeNonceSpent) (lifeRecord_lifeKept ..))

variable {key : Bytes} (hl : s.thermalLatched = false) (hst : s.lcState = lcFIELD) (hk : s.ownerKey = some key)
  (hn : s.life.nonce ≠ none)
include hl hst hk hn

theorem opDebugUnlock_token (hp : e.payload = 0 :: p) (hlen : p.length = 67) (hz : zeros p 0 3 = true) : opDebugUnlock e s =
    if Config.verifyP256 key s.unlockMsg (slice p 3 64) = true then
      (s.lifeNonceSpent.debugSet 2 0x12 e).ok e
        (leBytes 1 ((s.lifeNonceSpent.debugSet 2 0x12 e).par oLife Pid.LifeCycle.DEBUG_STATE) ++ [0, 0, 0])
    else (s.lifeNonceSpent.tokenFailed 0 e.port).fail e stAUTH_FAILED 6 := by
  obtain ⟨n, hn⟩ := Option.ne_none_iff_exists'.1 hn
  have hz' : zeros (0 :: p) 1 3 = true := hz
  have hb : byteAt (0 :: p) 0 = 0 := rfl
  unfold opDebugUnlock
  simp only [hp, hl, hst, hk, hz', hb, hn, List.length_cons, hlen]
  rfl

theorem opDebugUnlock_relock (hp : e.payload = [1, 0, 0, 0]) : opDebugUnlock e s = (s.debugSet 0 0x13 e).ok e
    (leBytes 1 ((s.debugSet 0 0x13 e).par oLife Pid.LifeCycle.DEBUG_STATE) ++ [0, 0, 0]) := by
  obtain ⟨n, hn⟩ := Option.ne_none_iff_exists'.1 hn
  have hz' : zeros [1, 0, 0, 0] 1 3 = true := rfl
  have hb : byteAt [1, 0, 0, 0] 0 = 1 := rfl
  unfold opDebugUnlock
  simp only [hp, hl, hst, hk, hz', hb, hn]
  rfl

omit hl hst hk hn

theorem debugUnlock_token (hlen : p.length = 67) (hz : zeros p 0 3 = true) (ha : Accepts s r 0xA2 (0 :: p))
    (hl : s.thermalLatched = false) (hst : s.lcState = lcFIELD) (hk : s.ownerKey = some key) (hn : s.life.nonce ≠ none) :
    Runs (.debugUnlock r p) s fun t =>
      t.life.nonce = none ∧
      (Config.verifyP256 key (Taken s r 0xA2 (0 :: p)).unlockMsg (slice p 3 64) = true →
        t.par oLife Pid.LifeCycle.DEBUG_STATE = 2 ∧ Replied s t r 0xA2 stOK 0 [2, 0, 0, 0]) ∧
      (Config.verifyP256 key (Taken s r 0xA2 (0 :: p)).unlockMsg (slice p 3 64) = false →
        t.par oLife Pid.LifeCycle.DEBUG_STATE = s.par oLife Pid.LifeCycle.DEBUG_STATE ∧
        Replied s t r 0xA2 stAUTH_FAILED 6 []) := by
  refine ⟨_, congrArg Host.Outcome.next (submitReq_accepted opDebugUnlock ha), ?_⟩
  rw [opDebugUnlock_token (s := Taken s r 0xA2 (0 :: p)) hl hst hk hn rfl hlen hz]
  split
  · next hv =>
    refine ⟨?_, fun _ => ⟨Eq.trans ok_par (debugSet_debugState 2 0x12), ?_⟩, fun hf => ?_⟩
    · rw [State.ok_foot.fld .life rfl, (debugSet_foot 2 0x12).fld .life rfl]
      rfl
    · rw [debugSet_debugState]
      exact reply_after_foot ha ((debugSet_foot 2 0x12).on (fs := [.ports, .grist, .life]) (ps := some [5, 257, 258, 260, 261, 264])
        lifeNonceSpent_foot.within)
    · rw [hv] at hf; cases hf
  · next hv =>
    refine ⟨?_, fun hv' => absurd hv' hv, fun _ => ⟨?_, ?_⟩⟩
    · rw [State.fail_foot.fld .life rfl, State.tokenFailed_foot.fld .life rfl]
      rfl
    · exact tokenDenied_debugState (s := Taken s r 0xA2 (0 :: p)) ..
    · exact reply_after_foot ha (State.tokenFailed_foot.on (fs := [.ports, .grist, .life]) (ps := some [5, 257, 258, 260, 261, 264])
        lifeNonceSpent_foot.within)

theorem debugRelock_locks (ha : Accepts s r 0xA2 [1, 0, 0, 0]) (hl : s.thermalLatched = false) (hst : s.lcState = lcFIELD)
    (hk : s.ownerKey ≠ none) (hn : s.life.nonce ≠ none) : Runs (.debugRelock r [0, 0, 0]) s fun t =>
      t.par oLife Pid.LifeCycle.DEBUG_STATE = 0 ∧ Replied s t r 0xA2 stOK 0 [0, 0, 0, 0] := by
  obtain ⟨key, hk⟩ := Option.ne_none_iff_exists'.1 hk
  refine ⟨_, congrArg Host.Outcome.next (submitReq_accepted opDebugUnlock ha), ?_⟩
  rw [opDebugUnlock_relock (s := Taken s r 0xA2 [1, 0, 0, 0]) (e := theOp s r 0xA2 [1, 0, 0, 0]) hl hst hk hn rfl, debugSet_debugState]
  exact ⟨Eq.trans ok_par (debugSet_debugState 0 0x13), reply_after_foot ha (debugSet_foot 0 0x13)⟩

end

/-- Settles O20: each action and each token, by whether it proves good. -/
theorem lifeCycleOperations : Obligations.LifeCycleOperations := by
  refine ⟨fun s r p => ⟨lcNonce_gives, fun ha hc => ?_, fun ha hc => ?_⟩,
    fun s r p => ⟨fun key hlen hz ha hl hst hk hn => debugUnlock_token hlen hz ha hl hst hk hn, debugRelock_locks⟩⟩
  · cases ht : (Taken s r 0xA1 (1 :: p)).tokensOk (1 :: p) with
    | true =>
      obtain ⟨t, hexec, hnonce, h⟩ := lcTransition_enters ha hc ht
      exact ⟨t, hexec, hnonce, fun _ => h, nofun⟩
    | false =>
      obtain ⟨t, hexec, hlife, h⟩ := denied_runs (c := .lcTransition r p) rfl ha hc (Nat.succ_ne_zero _) ht
      exact ⟨t, hexec, by rw [hlife], nofun, fun _ => h⟩
  · cases ht : (Taken s r 0xA1 (2 :: p)).tokensOk (2 :: p) with
    | true =>
      obtain ⟨t, hexec, hnonce, h⟩ := writeKey_writes ha hc ht
      exact ⟨t, hexec, hnonce, fun _ => h, nofun⟩
    | false =>
      obtain ⟨t, hexec, hlife, -, h⟩ := denied_runs (c := .writeKey r p) rfl ha hc (Nat.succ_ne_zero _) ht
      exact ⟨t, hexec, by rw [hlife], nofun, fun _ => ⟨by rw [hlife], h⟩⟩

end Sys2Proof.Machine

/-! # Proofs: the commit of a block (O60) -/
namespace Sys2Proof.Machine
set_option Elab.async false

/-! ## Bytes and their places (R401, R402, R405) -/

/-- One byte put in its place; a gap byte is kept nowhere. -/
def putByte (l : List Host.Cell) (e : Option Nat × Byte) : List Host.Cell :=
  match e.1 with
  | some a => mramWrite l a e.2
  | none => l

theorem mramRead_putByte (l : List Host.Cell) (e : Option Nat × Byte) (a : Nat) :
    mramRead (putByte l e) a = if e.1 = some a then e.2 else mramRead l a := by
  obtain ⟨p, b⟩ := e
  cases p with
  | none => rw [if_neg (by simp)]; rfl
  | some a' =>
    refine (mramRead_write l a' a b).trans ?_
    simp only [Option.some.injEq, eq_comm]

/-- An address that no byte is placed at reads as before. -/
theorem mramRead_putBytes_other {a : Nat} {ps : List (Option Nat × Byte)} (l : List Host.Cell) (h : ∀ e ∈ ps, e.1 ≠ some a) :
    mramRead (ps.foldl putByte l) a = mramRead l a := by
  induction ps generalizing l with
  | nil => rfl
  | cons e ps ih =>
    rw [List.foldl_cons, ih _ fun x hx => h x (List.mem_cons_of_mem _ hx), mramRead_putByte, if_neg (h e List.mem_cons_self)]

/-- An address reads as the bytes placed there, where these agree. -/
theorem mramRead_putBytes_placed {a : Nat} {b : Byte} {ps : List (Option Nat × Byte)} (l : List Host.Cell)
    (hex : ∃ e ∈ ps, e.1 = some a) (hall : ∀ e ∈ ps, e.1 = some a → e.2 = b) : mramRead (ps.foldl putByte l) a = b := by
  induction ps generalizing l with
  | nil => obtain ⟨e, he, -⟩ := hex; cases he
  | cons e ps ih =>
    rw [List.foldl_cons]
    by_cases hlater : ∃ x ∈ ps, x.1 = some a
    · exact ih _ hlater fun x hx => hall x (List.mem_cons_of_mem _ hx)
    · rw [mramRead_putBytes_other _ fun x hx hxa => hlater ⟨x, hx, hxa⟩, mramRead_putByte]
      obtain ⟨x, hx, hxa⟩ := hex
      obtain rfl | hx := List.mem_cons.1 hx
      · rw [if_pos hxa, hall x List.mem_cons_self hxa]
      · exact absurd ⟨x, hx, hxa⟩ hlater

/-! ## A block and its commit (R405) -/

section
variable {s x : State}

/-- The bytes of a block with their places. -/
def State.placed (s : State) (o : Nat) (data : Bytes) : List (Option Nat × Byte) :=
  (List.range data.length).map fun i => (s.placeOf (o + i), data.getD i 0)

/-- Where a byte is kept rests on the update's data and the header that MRAM holds. -/
theorem placeOf_congr (hu : x.upd = s.upd) (hm : x.nvm.mram = s.nvm.mram) (o : Nat) : x.placeOf o = s.placeOf o := by
  unfold State.placeOf State.header State.mramBytes
  rw [hu, hm]

theorem putBlock_mram (o : Nat) (data : Bytes) : (s.putBlock o data).nvm.mram = (s.placed o data).foldl putByte s.nvm.mram := by
  unfold State.putBlock
  dsimp only
  split <;> rfl

/-- The state from which a block's bytes are put: its bank is WRITING once a byte of it is written. -/
def State.blockBegun (s : State) : State :=
  if s.bank s.upd.target == bkEMPTY then s.setBank s.upd.target bkWRITING else s

theorem blockBegun_foot : Foot [.nvm] (some [259, 260]) s s.blockBegun := .ite State.setBank_foot (.refl _ _ _)

/-- What follows the bytes of a block leaves MRAM. -/
theorem blockCommit_mram (o : Nat) (data : Bytes) (op : Option Nat) (h : s.updState = upOPEN) :
    (s.blockCommit o data op).nvm.mram = (s.blockBegun.putBlock o data).nvm.mram := by
  have k : Foot [.ports, .hopper, .upd] (some [258, 385]) (s.blockBegun.putBlock o data) (s.blockCommit o data op) := by
    unfold State.blockCommit
    rw [if_neg (by simp [h])]
    extract_lets b x1 x2 units d x3 x4 d' x5
    have h4 : Foot [.ports, .hopper, .upd] (some [258, 385]) (x1.putBlock o data) x4 :=
      .setPar (.withUpd (State.sectionTouched_foot.on (.refl _ _ _)))
    have h5 : Foot [.ports, .hopper, .upd] (some [258, 385]) (x1.putBlock o data) x5 := .ite (.withUpd h4) h4
    split
    · exact State.ok_foot.on h5
    · exact h5
  exact k.fld .mram rfl

/-- MRAM as the commit of a block leaves it. -/
theorem blockCommit_puts (o : Nat) (data : Bytes) (op : Option Nat) (h : s.updState = upOPEN) :
    (s.blockCommit o data op).nvm.mram = (s.placed o data).foldl putByte s.nvm.mram := by
  have hplaced : s.blockBegun.placed o data = s.placed o data := by
    unfold State.placed
    simp only [placeOf_congr (blockBegun_foot.fld .upd rfl) (blockBegun_foot.fld .mram rfl)]
  rw [blockCommit_mram o data op h, putBlock_mram, hplaced, blockBegun_foot.fld .mram rfl]

/-- A transaction that writes a block leaves its bytes in their places. -/
theorem commitActive_block {r : NvmReq} {n o : Nat} {data : Bytes} (hact : s.nvm.active = some (r, n)) (hw : r.work = .block o data)
    (h : s.updState = upOPEN) : s.commitActive.nvm.mram = (s.placed o data).foldl putByte s.nvm.mram := by
  have hc := counted_foot (s := s) r.work
  have hopen : (s.counted r.work).updState = upOPEN := (hc.par _ rfl _ _ (by decide) rfl).trans h
  have hplaced : (s.counted r.work).placed o data = s.placed o data := by
    unfold State.placed
    simp only [placeOf_congr (hc.fld .upd rfl) (hc.fld .mram rfl)]
  have hwork : (s.counted r.work).workCommit r = (s.counted r.work).blockCommit o data r.op := by
    unfold State.workCommit
    rw [hw]
  rw [(commitActive_worked s hact).fld .mram rfl, worked_eq, hwork, blockCommit_puts o data r.op hopen, hplaced, hc.fld .mram rfl]

end

/-- Settles O60: each byte of the block by its place. -/
theorem blockCommitStores : Obligations.BlockCommitStores := by
  intro s r n o data hon hact hn hw hst
  refine ⟨_, transactionCommit_next hon hact hn, ?_⟩
  beta_reduce
  rw [commitActive_block hact hw hst]
  refine ⟨fun a h => mramRead_putBytes_other _ fun e he => ?_, fun i hi a ha huniq => mramRead_putBytes_placed _ ⟨(s.placeOf (o + i), data.getD i 0), ?_, ha⟩ fun e he hea => ?_⟩
  · obtain ⟨i, hi, rfl⟩ := List.mem_map.1 he
    exact h i (List.mem_range.1 hi)
  · exact List.mem_map.2 ⟨i, List.mem_range.2 hi, rfl⟩
  · obtain ⟨j, hj, rfl⟩ := List.mem_map.1 he
    have hji : j = i := by_contra fun hne => huniq j (List.mem_range.1 hj) hne hea
    rw [hji]

end Sys2Proof.Machine

/-! # Proofs: a trial that is not seen to fail (O57)

A level 3 restart withdraws the running operations before it looks at UPD_STATE (R20, R411). What a withdrawn UPD_CLOSE undoes is the
session's CLOSING, by a write of OPEN to UPD_STATE, whatever that was. -/
namespace Sys2Proof.Machine
set_option Elab.async false

/-- A running UPD_CLOSE. The statement is about every state, and asks nothing of the operations in progress. -/
def strayClose : Op :=
  { id := 0, port := .ha, tag := 0, prio := 0, opcode := 0x92, payload := [], alert := false, stage := .running, tick := 0,
    control := false, aborted := false }

/-- A trial of bank A with its check-in timer running, while an UPD_CLOSE runs too. -/
def strayTrial : State :=
  let s := State.reset.setPar oUpdater Pid.Updater.UPD_STATE upTRIAL
  { s with
    upd := { s.upd with checkin := some 0 }
    hopper := { s.hopper with ops := [strayClose] } }

/-- The restart leaves bank A as it was, GOOD. -/
theorem parAfter_strayTrial_bank :
    parAfter oUpdater (bankPid 0) (exec .checkinTimeout strayTrial) = some bkGOOD := by decide +kernel

/-- Refutes O57: the withdrawn UPD_CLOSE makes UPD_STATE OPEN before the trial is judged, and the bank is not FAILED. -/
theorem not_updatesFollow : ¬ Obligations.UpdatesFollow := by
  intro h
  obtain ⟨-, -, -, hTimeout⟩ := h strayTrial
  obtain ⟨t, ht, -, -, hfailed⟩ := hTimeout (by decide) (by decide) (by decide) (by decide)
  have hbank : t.par oUpdater (bankPid 0) = bkGOOD := by
    have hafter := parAfter_strayTrial_bank
    rw [ht] at hafter
    exact Option.some.inj hafter
  have hfailed0 : t.par oUpdater (bankPid 0) = bkFAILED := hfailed
  rw [hbank] at hfailed0
  exact absurd hfailed0 (by decide)

end Sys2Proof.Machine

/-! # Proofs: downstream frames, recoveries, stages and satellites (O56) -/
namespace Sys2Proof.Machine
set_option Elab.async false

/-! ## Frames (R392, R394) -/

section
variable {s x : State} {d : Nat} (hd : d < 4)

theorem down_modDown (hd : d < 4) (g : DownAux → DownAux) : (s.modDown d g).down d = g (s.down d) := vget_vmod s.downs hd g _

/-- The counts of a downstream port are 32-bit. -/
theorem downCount_hi {d : Nat} (hd : d < 4) {pid : Nat} (hp : pid ∈ [Pid.Down.FRAMES, Pid.Down.FRAME_ERRORS, Pid.Down.ARB_LOST_COUNT]) :
    (findDesc (oDown d) pid).map Desc.hi = some 4294967295 :=
  (by decide : ∀ d < 4, ∀ pid ∈ [Pid.Down.FRAMES, Pid.Down.FRAME_ERRORS, Pid.Down.ARB_LOST_COUNT],
    (findDesc (oDown d) pid).map Desc.hi = some 4294967295) d hd pid hp

include hd

theorem frameError_counts (h : s.par (oDown d) Pid.Down.FRAME_ERRORS < 4294967295) :
    (s.frameError d).par (oDown d) Pid.Down.FRAME_ERRORS = s.par (oDown d) Pid.Down.FRAME_ERRORS + 1 :=
  par_incPar_of_hi (s := s.modDown d _) (downCount_hi hd (by decide)) h

theorem frameError_losses : ((s.frameError d).down d).losses = 0 :=
  congrArg DownAux.losses (down_modDown hd fun a => { a with losses := 0 })

omit hd

/-- An error leaves the port's status bits. -/
theorem frameError_status (b : Nat) : (s.frameError d).bit (oDown d) Pid.Down.DS_STATUS b = s.bit (oDown d) Pid.Down.DS_STATUS b :=
  bit_of_foot State.frameError_foot b

/-- A loss of arbitration is noted, before the eighth in a row is looked for. -/
def State.arbNoted (s : State) (d bit last : Nat) : State :=
  ((((s.setBit (oDown d) Pid.Down.DS_STATUS bit).incPar (oDown d) Pid.Down.ARB_LOST_COUNT).setPar (oDown d) Pid.Down.LAST_ARB last).modDown d
    fun a => { a with losses := a.losses + 1 })

theorem arbLost_eq (bit last : Nat) : s.arbLost d bit last =
    if ((s.arbNoted d bit last).down d).losses ≥ 8 then (s.arbNoted d bit last).frameError d else s.arbNoted d bit last := rfl

include hd in
theorem arbNoted_losses (bit last : Nat) : ((s.arbNoted d bit last).down d).losses = (s.down d).losses + 1 :=
  congrArg DownAux.losses (down_modDown hd fun a => { a with losses := a.losses + 1 })

include hd in
theorem arbNoted_count (bit last : Nat) (h : s.par (oDown d) Pid.Down.ARB_LOST_COUNT < 4294967295) :
    (s.arbNoted d bit last).par (oDown d) Pid.Down.ARB_LOST_COUNT = s.par (oDown d) Pid.Down.ARB_LOST_COUNT + 1 := by
  have hset : (s.setBit (oDown d) Pid.Down.DS_STATUS bit).par (oDown d) Pid.Down.ARB_LOST_COUNT =
      s.par (oDown d) Pid.Down.ARB_LOST_COUNT := par_setPar_pid _ _ (by decide) (by decide) (by decide)
  refine (par_setPar_pid _ _ (by decide) (q := Pid.Down.LAST_ARB) (by decide) (by decide)).trans ?_
  rw [par_incPar_of_hi (downCount_hi hd (by decide)) (hset ▸ h), hset]

theorem arbNoted_errors (bit last : Nat) :
    (s.arbNoted d bit last).par (oDown d) Pid.Down.FRAME_ERRORS = s.par (oDown d) Pid.Down.FRAME_ERRORS :=
  (par_setPar_pid _ _ (by decide) (q := Pid.Down.LAST_ARB) (by decide) (by decide)).trans <|
    (par_setPar_pid _ _ (by decide) (q := Pid.Down.ARB_LOST_COUNT) (by decide) (by decide)).trans <|
    par_setPar_pid _ _ (by decide) (q := Pid.Down.DS_STATUS) (by decide) (by decide)

theorem arbNoted_last (bit last : Nat) : (s.arbNoted d bit last).par (oDown d) Pid.Down.LAST_ARB = last :=
  State.par_setPar_same _ (by decide) _

theorem arbNoted_bit (bit last : Nat) : (s.arbNoted d bit last).bit (oDown d) Pid.Down.DS_STATUS bit = true := by
  refine Eq.trans (congrArg (bitOf · bit) ?_) (bit_setBit_same s (o := oDown d) (pid := Pid.Down.DS_STATUS) (by decide) bit)
  exact (par_setPar_pid _ _ (by decide) (q := Pid.Down.LAST_ARB) (by decide) (by decide)).trans
    (par_setPar_pid _ _ (by decide) (q := Pid.Down.ARB_LOST_COUNT) (by decide) (by decide))

/-- What a loss of arbitration leaves: its count and the row of losses, the place of the loss, and its status bit. -/
structure ArbLost (s t : State) (d bit : Nat) (last : Int) : Prop where
  count  : t.par (oDown d) Pid.Down.ARB_LOST_COUNT = s.par (oDown d) Pid.Down.ARB_LOST_COUNT + 1
  eighth : 7 ≤ (s.down d).losses →
    t.par (oDown d) Pid.Down.FRAME_ERRORS = s.par (oDown d) Pid.Down.FRAME_ERRORS + 1 ∧ (t.down d).losses = 0
  fewer  : (s.down d).losses < 7 → t.par (oDown d) Pid.Down.FRAME_ERRORS = s.par (oDown d) Pid.Down.FRAME_ERRORS ∧
    (t.down d).losses = (s.down d).losses + 1
  place  : t.par (oDown d) Pid.Down.LAST_ARB = last
  status : t.bit (oDown d) Pid.Down.DS_STATUS bit = true

include hd in
theorem arbLost_leaves (bit last : Nat) (hc : s.par (oDown d) Pid.Down.ARB_LOST_COUNT < 4294967295)
    (he : s.par (oDown d) Pid.Down.FRAME_ERRORS < 4294967295) : ArbLost s (s.arbLost d bit last) d bit last := by
  let x := s.arbNoted d bit last
  have hloss : (x.down d).losses = (s.down d).losses + 1 := arbNoted_losses hd bit last
  have herr : x.par (oDown d) Pid.Down.FRAME_ERRORS = s.par (oDown d) Pid.Down.FRAME_ERRORS := arbNoted_errors bit last
  rw [arbLost_eq]
  split
  · next h8 =>
    have h7 : 7 ≤ (s.down d).losses := by
      rw [arbNoted_losses hd] at h8
      omega
    refine ⟨(State.frameError_foot.par _ rfl _ _ (by decide) rfl).trans (arbNoted_count hd bit last hc),
      fun _ => ⟨?_, frameError_losses hd⟩, fun h => absurd h (by omega),
      (State.frameError_foot.par _ rfl _ _ (by decide) rfl).trans (arbNoted_last bit last), (frameError_status bit).trans (arbNoted_bit bit last)⟩
    rw [frameError_counts hd (herr ▸ he), herr]
  · next h8 =>
    have h7 : (s.down d).losses < 7 := by
      rw [arbNoted_losses hd] at h8
      omega
    exact ⟨arbNoted_count hd bit last hc, fun h => absurd h (by omega), fun _ => ⟨herr, hloss⟩, arbNoted_last bit last, arbNoted_bit bit last⟩

end

section
variable {s : State} {d : Fin 4} (hr : s.downReady d.val = true)
include hr

theorem dsFrame_next (x : FrameEnd) : exec (.dsFrame d x) s = match x with
    | .ok => .next ((s.modDown d.val fun a => { a with losses := 0 }).incPar (oDown d.val) Pid.Down.FRAMES)
    | .nack => .next ((s.setBit (oDown d.val) Pid.Down.DS_STATUS dsNACK).frameError d.val)
    | .arbLostAddr => .next (s.draw.2.arbLost d.val dsARB_LOST_ADDR (0xFF00 + (s.draw.1 % 256).toNat))
    | .arbLostData byte bit => .next (s.arbLost d.val dsARB_LOST_DATA (byte.toNat * 256 + bit.val)) := by
  show execDsFrame d x s = _
  cases x <;> exact if_neg (by simp [hr])

omit hr in
/-- A frame error with its status bit. -/
theorem frameError_bit (bit : Nat) (h : s.par (oDown d.val) Pid.Down.FRAME_ERRORS < 4294967295) :
    let t := (s.setBit (oDown d.val) Pid.Down.DS_STATUS bit).frameError d.val
    t.par (oDown d.val) Pid.Down.FRAME_ERRORS = s.par (oDown d.val) Pid.Down.FRAME_ERRORS + 1 ∧
      t.bit (oDown d.val) Pid.Down.DS_STATUS bit = true := by
  have hset : (s.setBit (oDown d.val) Pid.Down.DS_STATUS bit).par (oDown d.val) Pid.Down.FRAME_ERRORS =
      s.par (oDown d.val) Pid.Down.FRAME_ERRORS := par_setPar_pid _ _ (by decide) (by decide) (by decide)
  refine ⟨?_, (frameError_status bit).trans (bit_setBit_same s (by decide) bit)⟩
  rw [frameError_counts d.isLt (hset ▸ h), hset]

end

section
variable {s x y : State} {d : Nat}

/-! ## Recoveries (R393) -/

/-- The record of a port leaves the parameters of every object but Grist, SOURCE_SEQ apart. -/
theorem portRecord_object {o pid : Nat} (ho : o ≠ oGrist) (hp : pid < 4096 := by decide) (hn : pid ≠ Pid.SOURCE_SEQ := by decide)
    (d : Nat) : ParKept o pid s (s.portRecord d) := record_object s ho hp hn ..

theorem moduleSilent_object {o pid : Nat} (ho : o ≠ oGrist) (hp : pid < 4096 := by decide) (hn : pid ≠ Pid.SOURCE_SEQ := by decide)
    (m : Nat) : ParKept o pid s (s.moduleSilent m) := by
  unfold State.moduleSilent
  exact .ite (.refl s) (.trans (x := s.modModule m fun a => { a with commLost := true, lostSince := s.time.tick }) (.same (.refl s))
    (record_object _ ho hp hn ..))

theorem modulesSilent_object {o pid : Nat} (ho : o ≠ oGrist) (hp : pid < 4096 := by decide) (hn : pid ≠ Pid.SOURCE_SEQ := by decide)
    (l : List Nat) : ParKept o pid s (s.eachOf l fun m s => s.moduleSilent m) :=
  .foldl (fun _ m => moduleSilent_object ho hp hn m) l (.refl s)

theorem module_of_foot {fs : List Fld} {ps : Option (List Nat)} (k : Foot fs ps s x) (m : Nat) (hf : fs.contains .modules = false := by rfl) :
    x.module m = s.module m := congrArg (fun v => vget v m ModuleAux.reset) (k.fld .modules hf)

theorem down_of_foot {fs : List Fld} {ps : Option (List Nat)} (k : Foot fs ps s x) (d : Nat) (hf : fs.contains .downs = false := by rfl) :
    x.down d = s.down d := by
  unfold State.down
  rw [k.fld .downs hf]

/-- A module that goes silent is COMM_LOST. -/
theorem moduleSilent_lost {m : Nat} (hm : m < 64) : ((s.moduleSilent m).module m).commLost = true := by
  unfold State.moduleSilent
  split
  · next h => exact h
  · rw [module_of_foot State.moduleRecord_foot, module_modModule s hm]

/-- Another module's loss does not end one. -/
theorem moduleSilent_keeps {i m : Nat} (h : (s.module m).commLost = true) : ((s.moduleSilent i).module m).commLost = true := by
  unfold State.moduleSilent
  split
  · exact h
  · rw [module_of_foot State.moduleRecord_foot]
    exact vget_vmod_all (P := fun a : ModuleAux => a.commLost = true) (fun _ _ => rfl) h

/-- The modules that a port serves rest on the strings' MODULE_COUNT. -/
theorem modulesOn_congr (d : Nat) (h : ∀ k < 4, ParKept (oString k) Pid.String.MODULE_COUNT s x) : x.modulesOn d = s.modulesOn d := by
  unfold State.modulesOn
  split
  · next hd =>
    refine List.filterMap_congr fun i hi => ?_
    have hk : stringOf (32 * d + i) < 4 := by
      have := List.mem_range.1 hi
      unfold stringOf
      omega
    have hpar : x.par (oString (stringOf (32 * d + i))) Pid.String.MODULE_COUNT =
        s.par (oString (stringOf (32 * d + i))) Pid.String.MODULE_COUNT := h _ hk
    dsimp only
    unfold State.configured State.modulesOf
    rw [hpar]
  · rfl

/-- The auxiliary and status bits of a failed recovery. -/
def State.busHeld (s : State) (d : Nat) (stuck : Bool) : State :=
  let x := s.modDown d fun a => { a with busStuck := stuck, sclLow := !stuck }
  if stuck then x else x.setBit (oDown d) Pid.Down.DS_STATUS dsSCL_LOW

/-- The port in FAULT, with its record, before its modules go silent. -/
def State.busFaulted (s : State) (d : Nat) : State :=
  (((s.setPar (oDown d) Pid.Down.DS_STATE dsFAULT).setObj (oDown d) osFailed).latchFault (oDown d) [flComm]).portRecord d

theorem portFault_eq (stuck : Bool) : s.portFault d stuck =
    if (s.busHeld d stuck).par (oDown d) Pid.Down.DS_STATE == dsFAULT then s.busHeld d stuck
    else (s.busHeld d stuck).busFaulted d |>.eachOf (((s.busHeld d stuck).busFaulted d).modulesOn d) fun m s => s.moduleSilent m := rfl

theorem busHeld_foot (stuck : Bool) : Foot [.downs] (some [Pid.Down.DS_STATUS]) s (s.busHeld d stuck) := by
  have k : Foot [.downs] (some [Pid.Down.DS_STATUS]) s (s.modDown d fun a => { a with busStuck := stuck, sclLow := !stuck }) :=
    State.modDown_foot.within
  exact .ite k (.setBit k)

theorem busHeld_down (hd : d < 4) (stuck : Bool) :
    ((s.busHeld d stuck).down d).busStuck = stuck ∧ ((s.busHeld d stuck).down d).sclLow = !stuck := by
  have h : (s.busHeld d stuck).down d = { s.down d with busStuck := stuck, sclLow := !stuck } := by
    unfold State.busHeld
    dsimp only
    split <;> exact down_modDown hd _
  rw [h]
  exact ⟨rfl, rfl⟩

theorem busHeld_sclLow : (s.busHeld d false).bit (oDown d) Pid.Down.DS_STATUS dsSCL_LOW = true :=
  bit_setBit_same _ (by decide) _

theorem oDown_ne_oGrist (hd : d < 4) : oDown d ≠ oGrist := (by decide : ∀ d < 4, oDown d ≠ oGrist) d hd
theorem oString_ne_oGrist {k : Nat} (hk : k < 4) : oString k ≠ oGrist := (by decide : ∀ k < 4, oString k ≠ oGrist) k hk
theorem oString_ne_oDown {k : Nat} (hk : k < 4) (hd : d < 4) : oString k ≠ oDown d :=
  (by decide : ∀ k < 4, ∀ d < 4, oString k ≠ oDown d) k hk d hd

/-- The fault of a port leaves a parameter that is neither its state, its latch nor what its fault stops. -/
theorem busFaulted_object {o pid : Nat} (ho : o ≠ oGrist) (hp : pid < 4096) (hn : [1, 2, 5, 256, 305, 307, 385].contains pid = false) :
    ParKept o pid s (s.busFaulted d) := by
  have hset : Foot [] (some [1, 256]) s ((s.setPar (oDown d) Pid.Down.DS_STATE dsFAULT).setObj (oDown d) osFailed) :=
    .setPar (.setPar (.refl _ _ _))
  simp only [List.contains_cons, List.contains_nil, Bool.or_false, Bool.or_eq_false_iff, beq_eq_false_iff_ne, ne_eq] at hn
  obtain ⟨h1, h2, h5, h256, h305, h307, h385⟩ := hn
  have hlatch := (((ParKept.refl s).foot hset hp (by simp [h1, h256])).foot
    (State.latchFault_foot (x1 := oDown d) (x2 := [flComm])) hp (by simp [h2, h305, h307, h385]) : ParKept o pid s _)
  exact hlatch.trans (portRecord_object ho hp h5 d)

theorem busFaulted_state (hd : d < 4) : (s.busFaulted d).par (oDown d) Pid.Down.DS_STATE = dsFAULT ∧ (s.busFaulted d).objSt (oDown d) = osFailed := by
  have hrec {pid : Nat} (hp : pid < 4096) (hn : pid ≠ Pid.SOURCE_SEQ) (hl : [2, 305, 307, 385].contains pid = false) :
      (s.busFaulted d).par (oDown d) pid =
        ((s.setPar (oDown d) Pid.Down.DS_STATE dsFAULT).setObj (oDown d) osFailed).par (oDown d) pid :=
    Eq.trans (portRecord_object (oDown_ne_oGrist hd) hp hn d) (State.latchFault_foot.par _ rfl _ _ hp hl)
  refine ⟨(hrec (by decide) (by decide) rfl).trans ?_, (hrec (by decide) (by decide) rfl).trans (State.par_setPar_same _ (by decide) _)⟩
  exact (par_setPar_pid _ _ (by decide) (q := Pid.OBJ_STATE) (by decide) (by decide)).trans (State.par_setPar_same _ (by decide) _)

end

section
variable {s x : State} {d : Nat} (hd : d < 4)
include hd

/-- A port that is put in FAULT, and what goes with it. -/
theorem portFault_stuck (stuck : Bool) :
    (s.portFault d stuck).par (oDown d) Pid.Down.DS_STATE = dsFAULT ∧
    ((s.portFault d stuck).down d).busStuck = stuck ∧ ((s.portFault d stuck).down d).sclLow = !stuck ∧
    (stuck = false → (s.portFault d stuck).bit (oDown d) Pid.Down.DS_STATUS dsSCL_LOW = true) ∧
    (s.par (oDown d) Pid.Down.DS_STATE ≠ dsFAULT → (s.portFault d stuck).objSt (oDown d) = osFailed ∧
      ∀ m ∈ s.modulesOn d, m < 64 → ((s.portFault d stuck).module m).commLost = true) := by
  let x := s.busHeld d stuck
  have hx : Foot [.downs] (some [Pid.Down.DS_STATUS]) s x := busHeld_foot stuck
  obtain ⟨hstuck, hscl⟩ := busHeld_down (s := s) hd stuck
  have hstate : x.par (oDown d) Pid.Down.DS_STATE = s.par (oDown d) Pid.Down.DS_STATE := hx.par _ rfl _ _ (by decide) rfl
  have hbit : stuck = false → x.bit (oDown d) Pid.Down.DS_STATUS dsSCL_LOW = true := fun h => by
    subst h
    exact busHeld_sclLow
  rw [portFault_eq]
  split
  · next hf =>
    have hf : x.par (oDown d) Pid.Down.DS_STATE = dsFAULT := eq_of_beq hf
    exact ⟨hf, hstuck, hscl, hbit, fun hne => absurd (hstate ▸ hf) hne⟩
  · let y := x.busFaulted d
    let t := y.eachOf (y.modulesOn d) fun m s => s.moduleSilent m
    have hy : Foot [.flume, .ports, .hopper, .trace, .loops, .grist] (some [1, 2, 5, 256, 257, 258, 260, 261, 264, 305, 307, 385]) x y :=
      State.portRecord_foot.on (State.latchFault_foot.on (.setPar (.setPar (.refl _ _ _))))
    have hyt : Foot [.modules, .ports, .grist] (some [5, 257, 258, 260, 261, 264]) y t :=
      .foldl (.refl _ _ _) fun x m h => State.moduleSilent_foot.on h
    have kept {pid : Nat} (hp : pid < 4096 := by decide) (hn : pid ≠ Pid.SOURCE_SEQ := by decide) :
        t.par (oDown d) pid = y.par (oDown d) pid := modulesSilent_object (oDown_ne_oGrist hd) hp hn _
    have hdown : t.down d = x.down d := (down_of_foot hyt d).trans (down_of_foot hy d)
    obtain ⟨hfault, hobj⟩ := busFaulted_state (s := x) hd
    refine ⟨Eq.trans kept hfault, (congrArg DownAux.busStuck hdown).trans hstuck, (congrArg DownAux.sclLow hdown).trans hscl,
      fun h => ?_, fun _ => ⟨Eq.trans kept hobj, fun m hm hlt => ?_⟩⟩
    · refine (congrArg (bitOf · dsSCL_LOW) (Eq.trans kept ?_)).trans (hbit h)
      exact busFaulted_object (oDown_ne_oGrist hd) (by decide) rfl
    · have hon : y.modulesOn d = s.modulesOn d := modulesOn_congr d fun k hk =>
        (show ParKept (oString k) Pid.String.MODULE_COUNT s x from by
          refine .ite (.same (.refl s)) (ParKept.setObject (.same (.refl s)) (oString_ne_oDown hk hd))).trans
        (busFaulted_object (oString_ne_oGrist hk) (by decide) rfl)
      exact eachOf_sets (P := fun m x => m < 64 → (x.module m).commLost = true) (Q := fun _ => True)
        (fun i _ x _ hi => moduleSilent_lost hi) (fun i j x _ _ hj hlt => moduleSilent_keeps (hj hlt)) (fun _ _ _ => trivial)
        trivial m (hon ▸ hm) hlt

/-- A bus that is freed. -/
def State.busFreed (s : State) (d : Nat) : State :=
  s.modDown d fun a => { a with recovered := true, busStuck := false, sclLow := false }

/-- A port whose bus is freed returns from FAULT, with its record. -/
def State.busReturned (s : State) (d : Nat) : State :=
  (((s.setPar (oDown d) Pid.Down.DS_STATE dsIDLE).setObj (oDown d) osActive).clearFaults (oDown d)).portRecord d

theorem busFreed_down : ((s.busFreed d).down d).recovered = true ∧ ((s.busFreed d).down d).busStuck = false ∧
    ((s.busFreed d).down d).sclLow = false := by
  rw [State.busFreed, down_modDown hd]
  exact ⟨rfl, rfl, rfl⟩

theorem busReturned_state : (s.busReturned d).par (oDown d) Pid.Down.DS_STATE = dsIDLE := by
  refine Eq.trans (portRecord_object (oDown_ne_oGrist hd) (by decide) (by decide) d) ?_
  exact (par_setPar_pid _ _ (by decide) (q := Pid.FAULT_LATCH) (by decide) (by decide)).trans <|
    (par_setPar_pid _ _ (by decide) (q := Pid.OBJ_STATE) (by decide) (by decide)).trans (State.par_setPar_same _ (by decide) _)

omit hd in
theorem busReturned_foot : Foot [.ports, .grist] (some [1, 2, 5, 256, 257, 258, 260, 261, 264]) s (s.busReturned d) :=
  State.portRecord_foot.on (.setPar (.setPar (.setPar (.refl _ _ _))))

end

section
variable {s : State} {d : Fin 4} (hr : s.running = true) (hw : s.busWorks d.val = true)
include hr hw

theorem busRecovery_freed {sda : List Bool} (h : (sda.take 9).any id = true) : Runs (.busRecovery d (.clocked sda)) s fun t =>
    (t.down d.val).recovered = true ∧ (t.down d.val).busStuck = false ∧ (t.down d.val).sclLow = false ∧
    (s.par (oDown d.val) Pid.Down.DS_STATE = dsFAULT → t.par (oDown d.val) Pid.Down.DS_STATE = dsIDLE) := by
  let x := (s.incPar (oDown d.val) Pid.Down.RECOVERIES).busFreed d.val
  have hx : x.par (oDown d.val) Pid.Down.DS_STATE = s.par (oDown d.val) Pid.Down.DS_STATE :=
    par_setPar_pid _ _ (by decide) (q := Pid.Down.RECOVERIES) (by decide) (by decide)
  have hexec : exec (.busRecovery d (.clocked sda)) s =
      .next (if x.par (oDown d.val) Pid.Down.DS_STATE == dsFAULT then x.busReturned d.val else x) := by
    show execBusRecovery d (.clocked sda) s = _
    unfold execBusRecovery
    rw [if_neg (by simp [hr, hw])]
    dsimp only
    rw [if_pos h, apply_ite Host.Outcome.next]
    rfl
  refine ⟨_, hexec, ?_⟩
  obtain ⟨hrec, hstuck, hscl⟩ := busFreed_down (s := s.incPar (oDown d.val) Pid.Down.RECOVERIES) d.isLt
  split
  · rw [down_of_foot busReturned_foot]
    exact ⟨hrec, hstuck, hscl, fun _ => busReturned_state d.isLt⟩
  · next hne => exact ⟨hrec, hstuck, hscl, fun hf => absurd (hx.trans hf) (by simpa using hne)⟩

omit hr hw in
/-- A recovery that fails. -/
theorem busRecovery_stuck {y : RecoveryEnd} (stuck : Bool)
    (hexec : exec (.busRecovery d y) s = .next ((s.incPar (oDown d.val) Pid.Down.RECOVERIES).portFault d.val stuck)) :
    Runs (.busRecovery d y) s fun t => (t.down d.val).busStuck = stuck ∧ (t.down d.val).sclLow = (!stuck) ∧
      (stuck = false → t.bit (oDown d.val) Pid.Down.DS_STATUS dsSCL_LOW = true) ∧
      t.par (oDown d.val) Pid.Down.DS_STATE = dsFAULT ∧
      (s.par (oDown d.val) Pid.Down.DS_STATE ≠ dsFAULT → t.objSt (oDown d.val) = osFailed ∧
        ∀ m ∈ s.modulesOn d.val, m < 64 → (t.module m).commLost = true) := by
  let x := s.incPar (oDown d.val) Pid.Down.RECOVERIES
  have hx : x.par (oDown d.val) Pid.Down.DS_STATE = s.par (oDown d.val) Pid.Down.DS_STATE :=
    par_setPar_pid _ _ (by decide) (q := Pid.Down.RECOVERIES) (by decide) (by decide)
  have hon : x.modulesOn d.val = s.modulesOn d.val := modulesOn_congr _ fun k _ => (ParKept.refl s).setPid
  obtain ⟨hstate, hstuck, hscl, hbit, hnew⟩ := portFault_stuck (s := x) d.isLt stuck
  exact ⟨_, hexec, hstuck, hscl, hbit, hstate, fun hne => hon ▸ hnew (hx ▸ hne)⟩

theorem busRecovery_clocked {sda : List Bool} (h : (sda.take 9).any id = false) : exec (.busRecovery d (.clocked sda)) s =
    .next ((s.incPar (oDown d.val) Pid.Down.RECOVERIES).portFault d.val true) := by
  show execBusRecovery d (.clocked sda) s = _
  unfold execBusRecovery
  rw [if_neg (by simp [hr, hw])]
  dsimp only
  rw [if_neg (by simp [h])]

theorem busRecovery_sclLow : exec (.busRecovery d .sclLow) s =
    .next ((s.incPar (oDown d.val) Pid.Down.RECOVERIES).portFault d.val false) := by
  show execBusRecovery d .sclLow s = _
  unfold execBusRecovery
  rw [if_neg (by simp [hr, hw])]

end

/-! ## Point-of-load stages (R395 to R397) -/

section
variable {s x : State} {o pid : Nat}

/-- A reading within its parameter's range is published as it is. -/
theorem setReading_within {lo hi v : Int} (hd : (findDesc o pid).map (fun d => (d.lo, d.hi)) = some (lo, hi)) (hlo : lo ≤ v) (hhi : v ≤ hi)
    (hp : pid < 4096 := by decide) : (s.setReading o pid v).par o pid = v := by
  obtain ⟨d, hdesc, hb⟩ := Option.map_eq_some_iff.1 hd
  obtain ⟨rfl, rfl⟩ := Prod.mk.inj hb
  unfold State.setReading
  rw [hdesc]
  dsimp only
  rw [if_pos ⟨hlo, hhi⟩, State.par_setPar_same _ hp]

/-- A reading leaves every other parameter of its object. -/
theorem setReading_other {q : Nat} (v : Int) (hp : pid < 4096 := by decide) (hq : q < 4096 := by decide) (hne : q ≠ pid := by decide) :
    (s.setReading o pid v).par o q = s.par o q := by
  unfold State.setReading
  split
  · exact par_setPar_pid _ _ hq hp hne
  · rfl

end

section
variable {s : State} {n : Fin 32} (hm : s.miller3 = true) (ha : s.par (oPol n.val) Pid.Pol.POL_ADDR ≠ 0)

/-- A transaction over D2 fails at once: the port is FAILED or disabled (log entry 52). -/
def State.busDead (s : State) (d : Nat) : Prop := s.objSt (oDown d) = osFailed ∨ s.enabled (oDown d) = false

/-- What a failed transaction leaves: one more of them. -/
def PolFailed (s t : State) (n : Nat) : Prop :=
  t.par (oPol n) Pid.Pol.POL_ERRORS = s.par (oPol n) Pid.Pol.POL_ERRORS + 1 ∧ Foot [.pols] (some [Pid.Pol.POL_ERRORS]) s t

theorem busDead_iff (d : Nat) : (s.objSt (oDown d) == osFailed || !s.enabled (oDown d)) = true ↔ s.busDead d := by
  simp [State.busDead]

theorem polFail_failed {n : Nat} (hn : n < 32) (h : s.par (oPol n) Pid.Pol.POL_ERRORS < 4294967295) : PolFailed s (s.polFail n) n :=
  ⟨par_incPar_of_hi (s := s.modPol n _)
    ((by decide : ∀ n < 32, (findDesc (oPol n) Pid.Pol.POL_ERRORS).map Desc.hi = some 4294967295) n hn) h, State.polFail_foot⟩

theorem polReading_range {n : Nat} (hn : n < 32) :
    (findDesc (oPol n) Pid.Pol.IOUT).map (fun d => (d.lo, d.hi)) = some (-2147483648, 2147483647) ∧
    (findDesc (oPol n) Pid.Pol.TEMP).map (fun d => (d.lo, d.hi)) = some (-32768, 32767) :=
  (by decide : ∀ n < 32, (findDesc (oPol n) Pid.Pol.IOUT).map (fun d => (d.lo, d.hi)) = some (-2147483648, 2147483647) ∧
    (findDesc (oPol n) Pid.Pol.TEMP).map (fun d => (d.lo, d.hi)) = some (-32768, 32767)) n hn

include hm ha

theorem polIdentify_fails (x : Option (Byte × Byte)) (h : s.busDead 2 ∨ x = none) :
    exec (.polIdentify n x) s = .next (s.polFail n.val) := by
  show execPolIdentify n x s = _
  unfold execPolIdentify
  dsimp only
  rw [if_neg (by simp [hm, ha])]
  split
  · rfl
  · next hd =>
    obtain h | rfl := h
    · exact absurd ((busDead_iff 2).2 h) hd
    · rfl

theorem polPoll_fails (x : Option (BitVec 16 × BitVec 16)) (h : (s.busDead 2 ∨ (s.pol n.val).badMode = true) ∨ x = none) :
    exec (.polPoll n x) s = .next (s.polFail n.val) := by
  show execPolPoll n x s = _
  unfold execPolPoll
  dsimp only
  rw [if_neg (by simp [hm, ha])]
  split
  · rfl
  · next hd =>
    obtain (h | h) | rfl := h
    · exact absurd (by simp [State.polDead, (busDead_iff 2).2 h]) hd
    · exact absurd (by simp [State.polDead, h]) hd
    · rfl

theorem polIdentify_answers (hd : ¬ s.busDead 2) (rev mode : Byte) : Runs (.polIdentify n (some (rev, mode))) s fun t =>
    t.par (oPol n.val) Pid.Pol.PMBUS_REV = rev.toNat ∧ (t.pol n.val).badMode = decide (32 ≤ mode.toNat) ∧
    t.par (oPol n.val) Pid.Pol.VOUT_EXP = if mode.toNat < 32 then (mode.setWidth 5).toInt else s.par (oPol n.val) Pid.Pol.VOUT_EXP := by
  let x := s.setPar (oPol n.val) Pid.Pol.PMBUS_REV rev.toNat
  have hexec : exec (.polIdentify n (some (rev, mode))) s = .next (if mode.toNat / 32 = 0
      then (x.modPol n.val fun a => { a with badMode := false }).setPar (oPol n.val) Pid.Pol.VOUT_EXP (mode.setWidth 5).toInt
      else x.modPol n.val fun a => { a with badMode := true }) := by
    show execPolIdentify n (some (rev, mode)) s = _
    unfold execPolIdentify
    dsimp only
    rw [if_neg (by simp [hm, ha]), if_neg (by simpa using (busDead_iff 2).not.2 hd), apply_ite Host.Outcome.next]
  have hpol (g : PolAux → PolAux) : (x.modPol n.val g).pol n.val = g (x.pol n.val) := vget_vmod _ n.isLt _ _
  refine ⟨_, hexec, ?_⟩
  split
  · next h0 =>
    have hlt : mode.toNat < 32 := by omega
    refine ⟨(par_setPar_pid _ _ (by decide) (by decide) (by decide)).trans (State.par_setPar_same _ (by decide) _), ?_, ?_⟩
    · rw [decide_eq_false (Nat.not_le.2 hlt)]
      exact congrArg PolAux.badMode (hpol _)
    · rw [if_pos hlt, State.par_setPar_same _ (by decide)]
  · next h0 =>
    have hge : ¬ mode.toNat < 32 := by omega
    refine ⟨State.par_setPar_same _ (by decide) _, ?_, ?_⟩
    · rw [decide_eq_true (Nat.not_lt.1 hge)]
      exact congrArg PolAux.badMode (hpol _)
    · rw [if_neg hge]
      exact par_setPar_pid _ _ (by decide) (by decide) (by decide)

theorem polPoll_answers (hd : ¬ s.busDead 2) (hb : (s.pol n.val).badMode = false) (i x : BitVec 16) (hlo : -32768 ≤ linear11 x 128)
    (hhi : linear11 x 128 ≤ 32767) : Runs (.polPoll n (some (i, x))) s fun t => t.par (oPol n.val) Pid.Pol.TEMP = linear11 x 128 ∧
      (-2147483648 ≤ linear11 i 10000 → linear11 i 10000 ≤ 2147483647 → t.par (oPol n.val) Pid.Pol.IOUT = linear11 i 10000) := by
  have hexec : exec (.polPoll n (some (i, x))) s = .next ((s.setReading (oPol n.val) Pid.Pol.IOUT (linear11 i 10000)).setReading
      (oPol n.val) Pid.Pol.TEMP (linear11 x 128)) := by
    have hlive : s.polDead n.val = false := by
      simpa [State.polDead, State.busDead, hb, ha] using hd
    show execPolPoll n (some (i, x)) s = _
    unfold execPolPoll
    dsimp only
    rw [if_neg (by simp [hm, ha]), if_neg (by simp [hlive])]
  obtain ⟨hi, ht⟩ := polReading_range n.isLt
  exact ⟨_, hexec, setReading_within ht hlo hhi, fun h1 h2 => (setReading_other _).trans (setReading_within hi h1 h2)⟩

end

/-! ## Satellites (R414, R415) -/

section
variable {s x : State} {n : Nat} (hn : n < 8)

/-- A satellite held in reset, with the code of its reason. -/
structure SatHeld (t : State) (n code : Nat) : Prop where
  running : (t.sat n).running = false
  state   : t.objSt (oSat n) = osFailed
  result  : t.par (oSat n) Pid.Sat.SAT_RESULT = code
  noReply : (t.sat n).noReply = decide (code = srNO_REPLY)

theorem oSat_ne_oGrist (hn : n < 8) : oSat n ≠ oGrist := (by decide : ∀ n < 8, oSat n ≠ oGrist) n hn

theorem sat_modSat (hn : n < 8) (g : SatAux → SatAux) : (s.modSat n g).sat n = g (s.sat n) := vget_vmod s.sats hn g _

theorem sat_of_foot {fs : List Fld} {ps : Option (List Nat)} (k : Foot fs ps s x) (n : Nat) (hf : fs.contains .sats = false := by rfl) :
    x.sat n = s.sat n := by
  unfold State.sat
  rw [k.fld .sats hf]

/-- A LIFE_CYCLE record of the updater leaves the parameters of every object but Grist, SOURCE_SEQ apart. -/
theorem updRecord_object {o pid kind bank port : Nat} (ho : o ≠ oGrist) (hp : pid < 4096) (hn : pid ≠ Pid.SOURCE_SEQ) :
    ParKept o pid s (s.updRecord kind bank port) := lifeRecord_object ho hp hn ..

include hn in
theorem satHeld_holds (code bit : Nat) : SatHeld (s.satHeld n code bit) n code := by
  let y := s.modSat n fun a => { a with running := false, noReply := code == srNO_REPLY }
  let z := (y.setPar (oSat n) Pid.Sat.SAT_RESULT code).setObj (oSat n) osFailed
  have hz {pid : Nat} (hp : pid < 4096) (hn' : pid ≠ Pid.SOURCE_SEQ) (hl : [2, 305, 307, 385].contains pid = false) :
      (s.satHeld n code bit).par (oSat n) pid = z.par (oSat n) pid :=
    Eq.trans (updRecord_object (oSat_ne_oGrist hn) hp hn') (State.latchFault_foot.par _ rfl _ _ hp hl)
  have hsat : (s.satHeld n code bit).sat n = { s.sat n with running := false, noReply := code == srNO_REPLY } := by
    have hfoot : Foot [.flume, .ports, .hopper, .trace, .loops, .grist] (some [1, 2, 5, 257, 258, 260, 261, 264, 305, 307, 385]) y
        (s.satHeld n code bit) := State.updRecord_foot.on (State.latchFault_foot.on (.setPar (.setPar (.refl _ _ _))))
    exact (sat_of_foot hfoot n).trans (sat_modSat hn _)
  refine ⟨by rw [hsat], (hz (by decide) (by decide) rfl).trans (State.par_setPar_same _ (by decide) _), ?_, by rw [hsat]; rfl⟩
  exact (hz (by decide) (by decide) rfl).trans <|
    (par_setPar_pid _ _ (by decide) (q := Pid.OBJ_STATE) (by decide) (by decide)).trans (State.par_setPar_same _ (by decide) _)

/-- What fills the last frame of an image does not tell whether it was taken. -/
theorem satLoaded_fill (runs : Bool) (a : SatAnswer) (image fill : Bytes) :
    satLoaded runs a (satLoads n image fill) = satLoaded runs a (satLoads n image []) := by
  simp [satLoaded, satLoads]

/-- The frames of a load are noted. -/
def State.satSent (s : State) (n : Nat) (runs : Bool) (a : SatAnswer) (image : Bytes) : State :=
  (s.drawBytes 128).2.modSat n fun x => { x with sent := satFrames n runs a (satLoads n image (s.drawBytes 128).1) image }

/-- An image that was taken is counted, with its version. -/
def State.satCounted (s : State) (n : Nat) (version : Int) : State :=
  (s.incPar (oSat n) Pid.Sat.SAT_LOADS).setPar (oSat n) Pid.Sat.SAT_IMAGE_VER version

/-- A satellite that runs its image. -/
def State.satRunning (s : State) (n : Nat) : State :=
  (((s.modSat n fun x => { x with running := true, noReply := false }).setPar (oSat n) Pid.Sat.SAT_RESULT srRUNNING).clearFaults
    (oSat n)).setObj (oSat n) osActive

theorem satSend_held {runs : Bool} {a : SatAnswer} {img : SatImage}
    (hn : n < 8) (h : satLoaded runs a (satLoads n (s.satBytes img) []) = false ∨ satStarted n a = false) :
    SatHeld (s.satSend n runs a img) n srLOAD := by
  unfold State.satSend
  dsimp only
  rw [satLoaded_fill]
  split
  · exact satHeld_holds hn ..
  · next hl =>
    have hs : satStarted n a = false := h.resolve_left (by simpa using hl)
    rw [if_pos (by simp [hs])]
    exact satHeld_holds hn ..

theorem satSend_runs {runs : Bool} {a : SatAnswer} {img : SatImage}
    (hl : satLoaded runs a (satLoads n (s.satBytes img) []) = true) (hs : satStarted n a = true) :
    s.satSend n runs a img = (((s.satSent n runs a (s.satBytes img)).satCounted n img.version).satRunning n) := by
  unfold State.satSend
  dsimp only
  rw [satLoaded_fill, if_neg (by simp [hl]), if_neg (by simp [hs])]
  rfl

include hn in
/-- The parameters of a satellite that runs its image. -/
theorem satRunning_leaves (v : Int) (h : s.par (oSat n) Pid.Sat.SAT_LOADS < 4294967295) :
    let t := (s.satCounted n v).satRunning n
    (t.sat n).running = true ∧ t.objSt (oSat n) = osActive ∧
      t.par (oSat n) Pid.Sat.SAT_HW_ID = s.par (oSat n) Pid.Sat.SAT_HW_ID ∧ t.par (oSat n) Pid.Sat.SAT_RESULT = srRUNNING ∧
      t.par (oSat n) Pid.Sat.SAT_LOADS = s.par (oSat n) Pid.Sat.SAT_LOADS + 1 ∧ t.par (oSat n) Pid.Sat.SAT_IMAGE_VER = v := by
  have hrun (y : State) : Foot [.sats] (some [1, 2, 258]) y (y.satRunning n) := .setPar (.setPar (.setPar (State.modSat_foot.on (.refl _ _ _))))
  refine ⟨congrArg SatAux.running (sat_modSat (s := s.satCounted n v) hn fun x => { x with running := true, noReply := false }),
    State.par_setPar_same _ (by decide) _, ?_, ?_, ?_, ?_⟩
  · refine ((hrun _).par _ rfl _ _ (by decide) rfl).trans ?_
    exact (par_setPar_pid _ _ (by decide) (q := Pid.Sat.SAT_IMAGE_VER) (by decide) (by decide)).trans
      (par_setPar_pid _ _ (by decide) (q := Pid.Sat.SAT_LOADS) (by decide) (by decide))
  · exact (par_setPar_pid _ _ (by decide) (q := Pid.OBJ_STATE) (by decide) (by decide)).trans <|
      (par_setPar_pid _ _ (by decide) (q := Pid.FAULT_LATCH) (by decide) (by decide)).trans (State.par_setPar_same _ (by decide) _)
  · refine ((hrun _).par _ rfl _ _ (by decide) rfl).trans ?_
    refine (par_setPar_pid _ _ (by decide) (q := Pid.Sat.SAT_IMAGE_VER) (by decide) (by decide)).trans ?_
    exact par_incPar_of_hi ((by decide : ∀ n < 8, (findDesc (oSat n) Pid.Sat.SAT_LOADS).map Desc.hi = some 4294967295) n hn) h
  · exact ((hrun _).par _ rfl _ _ (by decide) rfl).trans (State.par_setPar_same _ (by decide) _)

/-- The bytes of an image rest on MRAM. -/
theorem satBytes_congr (h : x.nvm.mram = s.nvm.mram) (img : SatImage) : x.satBytes img = s.satBytes img := by
  unfold State.satBytes State.mramBytes
  rw [h]

end

/-- The identity that a satellite's load reads, where D3 works. -/
def State.satAnswered (s : State) (n : Nat) (a : SatAnswer) : Option Bytes :=
  if s.objSt (oDown 3) = osFailed ∨ s.enabled (oDown 3) = false then none else (a.ident.take 2).findSome? (satIdent n)

/-- The state in which a satellite's HW_ID has been read. -/
def State.satRead (s : State) (n : Nat) (d : Bytes) : State := s.setPar (oSat n) Pid.Sat.SAT_HW_ID (fieldU d 0 2)

/-- What a satellite that answers comes to with the image that is kept for it. -/
def State.satJudged (s : State) (n : Nat) (a : SatAnswer) (d : Bytes) : Option SatImage → State
  | none => (s.satRead n d).satHeld n srNO_IMAGE flAuth
  | some img =>
    if s.satSigOk n img = false then (s.satRead n d).satHeld n srSIGNATURE flAuth
    else if img.hwId ≠ fieldU d 0 2 then (s.satRead n d).satHeld n srHW_ID flAuth
    else ((s.satRead n d).satSelect n).satSend n (satRuns d) a img

theorem satAnswered_eq {s : State} {n : Nat} {a : SatAnswer} :
    (if s.objSt (oDown 3) == osFailed || !s.enabled (oDown 3) then none else (a.ident.take 2).findSome? (satIdent n)) =
      s.satAnswered n a := by
  unfold State.satAnswered
  by_cases h : s.busDead 3
  · rw [if_pos ((busDead_iff 3).2 h), if_pos (by exact h)]
  · rw [if_neg ((busDead_iff 3).not.2 h), if_neg (by exact h)]

section
variable {s : State} {n : Fin 8} {a : SatAnswer} (hm : s.miller3 = true) (hd : s.satDue n.val = true)
include hm hd

theorem satelliteLoad_none (h : s.satAnswered n.val a = none) :
    exec (.satelliteLoad n a) s = .next (s.satHeld n.val srNO_REPLY flComm) := by
  show execSatelliteLoad n a s = _
  unfold execSatelliteLoad
  dsimp only
  rw [if_neg (by simp [hm, hd]), satAnswered_eq, h]

theorem satelliteLoad_some {d : Bytes} (h : s.satAnswered n.val a = some d) :
    exec (.satelliteLoad n a) s = .next (s.satJudged n.val a d (s.satImage n.val)) := by
  have himage : (s.setPar (oSat n.val) Pid.Sat.SAT_HW_ID (fieldU d 0 2)).satImage n.val = s.satImage n.val := rfl
  show execSatelliteLoad n a s = _
  unfold execSatelliteLoad
  dsimp only
  rw [if_neg (by simp [hm, hd]), satAnswered_eq, h]
  dsimp only
  rw [himage]
  cases s.satImage n.val with
  | none => rfl
  | some img =>
    have hsig : (s.setPar (oSat n.val) Pid.Sat.SAT_HW_ID (fieldU d 0 2)).satSigOk n.val img = s.satSigOk n.val img := rfl
    dsimp only [State.satJudged]
    rw [hsig]
    cases s.satSigOk n.val img with
    | false => rfl
    | true =>
      rw [if_neg (c := (!true) = true) (by decide), if_neg (c := true = false) (by decide), apply_ite Host.Outcome.next]
      rfl

end

/-- The state of the satellite's image, once it has been chosen, has the bytes of MRAM as they were. -/
theorem satSelect_bytes {s : State} {n : Nat} (d : Bytes) (img : SatImage) :
    ((s.satRead n d).satSelect n).satBytes img = s.satBytes img :=
  satBytes_congr (State.satSelect_foot.fld .mram rfl) img

/-- A satellite that takes its image and runs it. -/
theorem satSend_running {s : State} {n : Nat} {a : SatAnswer} {d : Bytes} {img : SatImage} (hn : n < 8)
    (hl : satLoaded (satRuns d) a (satLoads n (s.satBytes img) []) = true) (hst : satStarted n a = true)
    (hc : s.par (oSat n) Pid.Sat.SAT_LOADS < 4294967295) :
    let t := ((s.satRead n d).satSelect n).satSend n (satRuns d) a img
    (t.sat n).running = true ∧ t.objSt (oSat n) = osActive ∧ t.par (oSat n) Pid.Sat.SAT_HW_ID = fieldU d 0 2 ∧
      t.par (oSat n) Pid.Sat.SAT_RESULT = srRUNNING ∧
      t.par (oSat n) Pid.Sat.SAT_LOADS = s.par (oSat n) Pid.Sat.SAT_LOADS + 1 ∧ t.par (oSat n) Pid.Sat.SAT_IMAGE_VER = img.version := by
  let x := (s.satRead n d).satSelect n
  let y := x.satSent n (satRuns d) a (x.satBytes img)
  have hxy : Foot [.draws, .sats] (some []) x y := State.modSat_foot.on (State.drawBytes_foot.within)
  have hpar {pid : Nat} (hp : pid < 4096) : y.par (oSat n) pid = (s.satRead n d).par (oSat n) pid :=
    (hxy.par _ rfl _ _ hp rfl).trans (State.satSelect_foot.par _ rfl _ _ hp rfl)
  have hloads : y.par (oSat n) Pid.Sat.SAT_LOADS = s.par (oSat n) Pid.Sat.SAT_LOADS :=
    (hpar (by decide)).trans (par_setPar_pid _ _ (by decide) (by decide) (by decide))
  have hid : y.par (oSat n) Pid.Sat.SAT_HW_ID = fieldU d 0 2 := (hpar (by decide)).trans (State.par_setPar_same _ (by decide) _)
  obtain ⟨hrun, hobj, hhw, hres, hcount, hver⟩ := satRunning_leaves (s := y) hn img.version (hloads ▸ hc)
  have hl' : satLoaded (satRuns d) a (satLoads n (x.satBytes img) []) = true := by
    rw [satSelect_bytes]
    exact hl
  rw [satSend_runs hl' hst]
  exact ⟨hrun, hobj, hhw.trans hid, hres, hcount.trans (congrArg (· + 1) hloads), hver⟩

/-- What holds of a held satellite, as the statement writes it. -/
theorem SatHeld.runs {s t : State} {c : Instr} {n code : Nat} (ht : exec c s = .next t) (h : SatHeld t n code) :
    Runs c s fun t => (t.sat n).running = false ∧ t.objSt (oSat n) = osFailed ∧
      t.par (oSat n) Pid.Sat.SAT_RESULT = code ∧ (t.sat n).noReply = decide (code = srNO_REPLY) :=
  ⟨t, ht, h.running, h.state, h.result, h.noReply⟩

/-- Settles O56: the outcomes of a frame and of a recovery, the stages by what D2 allows, and the satellites by what they answer. -/
theorem downstreamFollows : Obligations.DownstreamFollows := by
  intro s
  refine ⟨fun d hr => ⟨fun hc => ?_, fun hc => ?_, fun byte bit hc he => ⟨?_, ?_⟩, fun hc => ?_⟩,
    fun d sda hr hw => ⟨busRecovery_freed hr hw, fun h => ?_, ?_⟩,
    fun n hm ha => ⟨fun hd rev mode => polIdentify_answers hm ha hd rev mode, fun hd hb i x => polPoll_answers hm ha hd hb i x, fun hc => ?_⟩,
    fun n a hm hd => ?_, fun n hm hno hen => ?_⟩
  · refine ⟨_, dsFrame_next hr .ok, ?_, congrArg DownAux.losses (down_modDown d.isLt fun a => { a with losses := 0 })⟩
    exact par_incPar_of_hi (s := s.modDown d.val _) (downCount_hi d.isLt (by decide)) hc
  · exact ⟨_, dsFrame_next hr .nack, frameError_bit dsNACK hc⟩
  · obtain ⟨hcount, h8, hfew, hplace, hstatus⟩ := arbLost_leaves (s := s) d.isLt dsARB_LOST_DATA (byte.toNat * 256 + bit.val) hc he
    exact ⟨_, dsFrame_next hr (.arbLostData byte bit), ⟨hcount, h8, hfew⟩, by rw [hplace]; push_cast; rfl, hstatus⟩
  · obtain ⟨hcount, h8, hfew, hplace, hstatus⟩ :=
      arbLost_leaves (s := s.draw.2) d.isLt dsARB_LOST_ADDR (0xFF00 + (s.draw.1 % 256).toNat) hc he
    refine ⟨_, dsFrame_next hr .arbLostAddr, ⟨hcount, h8, hfew⟩, ?_, hstatus⟩
    rw [hplace]
    omega
  · refine ⟨_, ?_, frameError_bit dsTIMEOUT hc⟩
    exact if_pos hr
  · obtain ⟨t, ht, hstuck, -, -, h'⟩ := busRecovery_stuck true (busRecovery_clocked hr hw h)
    exact ⟨t, ht, hstuck, h'⟩
  · obtain ⟨t, ht, -, hscl, hbit, h'⟩ := busRecovery_stuck false (busRecovery_sclLow hr hw)
    exact ⟨t, ht, hscl, hbit rfl, h'⟩
  · have hfail := polFail_failed n.isLt hc
    exact ⟨⟨_, polIdentify_fails hm ha none (.inr rfl), hfail⟩, ⟨_, polPoll_fails hm ha none (.inr rfl), hfail⟩,
      fun x h => ⟨_, polIdentify_fails hm ha x (.inl h), hfail⟩, fun x h => ⟨_, polPoll_fails hm ha x (.inl h), hfail⟩⟩
  · refine ⟨fun h => SatHeld.runs (satelliteLoad_none hm hd h) (satHeld_holds n.isLt ..), fun d h => ?_⟩
    have hexec := satelliteLoad_some hm hd h
    refine ⟨fun hi => SatHeld.runs hexec (hi ▸ satHeld_holds n.isLt ..), fun img hi => ?_⟩
    rw [hi] at hexec
    dsimp only [State.satJudged] at hexec
    refine ⟨fun hs => ?_, fun hs hw => ?_, fun hs hw => ⟨fun hl => ?_, fun hl hst hc => ?_⟩⟩
    · rw [if_pos hs] at hexec
      exact SatHeld.runs hexec (satHeld_holds n.isLt ..)
    · rw [if_neg (by simp [hs]), if_pos hw] at hexec
      exact SatHeld.runs hexec (satHeld_holds n.isLt ..)
    · rw [if_neg (by simp [hs]), if_neg (by simp [hw])] at hexec
      exact SatHeld.runs hexec (satSend_held n.isLt (by rw [satSelect_bytes]; exact hl))
    · rw [if_neg (by simp [hs]), if_neg (by simp [hw])] at hexec
      exact ⟨_, hexec, satSend_running n.isLt hl hst hc⟩
  · refine ⟨_, if_pos (by simp [hm, hno, hen]), State.par_setPar_same _ (by decide) _, ?_⟩
    exact congrArg SatAux.noReply (sat_modSat n.isLt fun a => { a with noReply := false })

end Sys2Proof.Machine

/-! # Proofs: rows about one object leave its kind's others alone (O59) -/

namespace Sys2Proof.Machine
set_option Elab.async false

/-! ## One object's part of the state -/

/-- The fields that keep a record for every object of a kind. -/
def objectFlds : List Fld := [.feeders, .strings, .rails, .timers, .downs, .pols, .sats]

/-- An object's part of the state: its number, and its record in the field of its kind. -/
structure ObjectPart where
  num            : Nat
  Rec            : Type
  record         : State → Rec
  fld            : Fld
  fld_mem        : fld ∈ objectFlds
  record_of_foot : ∀ {fs : List Fld} {ps : Option (List Nat)} {s t : State}, Foot fs ps s t → fs.contains fld = false →
    record t = record s
  ne_grist       : num ≠ oGrist
  ne_device      : num ≠ oDevice
  ne_port        : ∀ p, num ≠ oPort p

/-- The object's record and its parameters are as they were. -/
structure PartKept (a : ObjectPart) (s t : State) : Prop where
  record : a.record t = a.record s
  pars   : ∀ pid < 4096, t.par a.num pid = s.par a.num pid

section
variable {a : ObjectPart} {s x y : State}

theorem PartKept.refl (s : State) : PartKept a s s := ⟨rfl, fun _ _ => rfl⟩

theorem PartKept.trans (h : PartKept a s x) (k : PartKept a x y) : PartKept a s y :=
  ⟨k.record.trans h.record, fun pid hp => (k.pars pid hp).trans (h.pars pid hp)⟩

theorem PartKept.ite {c : Prop} [Decidable c] (hx : PartKept a s x) (hy : PartKept a s y) :
    PartKept a s (if c then x else y) := by split <;> assumption

theorem PartKept.foldl {α : Type} {f : State → α → State} (hf : ∀ x b, PartKept a x (f x b)) (l : List α)
    (h : PartKept a s x) : PartKept a s (l.foldl f x) := by
  induction l generalizing x with
  | nil => exact h
  | cons b l ih => exact ih (h.trans (hf x b))

section
variable (h : PartKept a s x)
include h

theorem PartKept.foot {fs : List Fld} (k : Foot fs (some []) x y) (hf : fs.contains a.fld = false := by rfl) :
    PartKept a s y :=
  h.trans ⟨a.record_of_foot k hf, fun _ hp => k.par _ rfl _ _ hp rfl⟩

theorem PartKept.same (hr : a.record y = a.record x := by rfl) (e : y.params = x.params := by rfl) : PartKept a s y :=
  h.trans ⟨hr, fun _ _ => by rw [State.par, e, State.par]⟩

/-- A write to another object's parameter. -/
theorem PartKept.setPar {o pid : Nat} {v : Int} (ho : a.num ≠ o) (hp : pid < 4096 := by decide) :
    PartKept a s (x.setPar o pid v) :=
  h.trans ⟨a.record_of_foot (State.setPar_foot (.refl [] none x) rfl) rfl,
    fun _ hq => x.par_setPar_other v fun hk => ho ((keyOf_inj hq hp).1 hk).1⟩

end

/-- A change where no object keeps its record. -/
theorem PartKept.elsewhere {fs : List Fld} (h : PartKept a s x) (k : Foot fs (some []) x y)
    (hf : ∀ f ∈ objectFlds, fs.contains f = false := by decide) : PartKept a s y := h.foot k (hf _ a.fld_mem)

end

/-! ## Records, replies and latches leave every other object -/

section
variable {a : ObjectPart} {s x : State}

theorem raise_apart (k : Nat) : PartKept a s (s.raise k) := .elsewhere (.refl s) State.raise_foot

theorem gristParams_apart : PartKept a s s.gristParams := by
  unfold State.gristParams
  refine .setPar (.setPar (.setPar (.setPar (.refl s) ?_) ?_) ?_) ?_ <;> exact a.ne_grist

/-- A record is kept in Grist, which counts it, and is numbered by its source (R319 to R326). -/
theorem storeRec_apart {source : Nat} (ho : a.num ≠ source) (cls event : Nat) (late : Bool) (w : List Word) :
    PartKept a s (s.storeRec source cls event late w) := by
  unfold State.storeRec
  have hg {g : GristState} : PartKept a s { s with grist := g } := .elsewhere (.refl s) (fs := [.grist]) (.mk' (.refl _ _ _))
  exact (hg.setPar ho).trans gristParams_apart

theorem record_apart {source : Nat} (ho : a.num ≠ source) (cls event : Nat) (snap : List Snap) :
    PartKept a s (s.record source cls event snap) := by
  unfold State.record State.createRec
  extract_lets g t
  have ht : PartKept a s t := storeRec_apart ho ..
  have hheld {g : GristState} : PartKept a s { s with grist := g } := .elsewhere (.refl s) (fs := [.grist]) (.mk' (.refl _ _ _))
  exact .ite (.refl s) (.ite hheld (.ite (.setPar hheld a.ne_grist)
    (.ite ((ht.trans (storeRec_apart a.ne_grist ..)).trans (raise_apart _)) ht)))

theorem recordPsd_apart {source : Nat} (ho : a.num ≠ source) (cls event : Nat) (snap : List Snap) :
    PartKept a s (s.recordPsd source cls event snap) := by
  unfold State.recordPsd
  exact .ite (record_apart ho ..) (.elsewhere (.refl s) (fs := [.grist]) (.mk' (.refl _ _ _)))

theorem reply_apart (e : Op) (st rs : Nat) (b : Bytes) : PartKept a s (s.reply e st rs b) := by
  unfold State.reply
  extract_lets x r y z
  have hx : PartKept a s x := .setPar (.refl s) (a.ne_port _)
  have hy : PartKept a s y := hx.elsewhere State.modPort_foot
  have hz : PartKept a s z := hy.elsewhere State.modOp_foot
  exact .ite (hx.elsewhere State.dropOp_foot) (.ite (hz.elsewhere State.raisePort_foot) hz)

theorem answer_apart (op : Option Nat) (st c : Nat) (b : Bytes) : PartKept a s (s.answer op st c b) := by
  unfold State.answer
  split
  · exact reply_apart ..
  · exact .refl s

theorem flumeStop_apart (cause : Nat) : PartKept a s (s.flumeStop cause) := by
  have hstopped : PartKept a s (s.flumeStopped cause) :=
    .setPar (.setPar (.elsewhere (.refl s) (fs := [.flume]) (.mk' (.refl _ _ _))) a.ne_device) a.ne_device
  have hend : PartKept a s (s.flumeEnd cause) := by
    rw [flumeEnd_eq]
    exact (hstopped.elsewhere (flumeClosed_foot s cause)).trans (answer_apart ..)
  exact .ite hend (.refl s)

theorem faultBit_apart {o : Nat} (ho : a.num ≠ o) (b : Nat) : PartKept a s (s.faultBit o b) := .setPar (.refl s) ho

/-- A latch is its object's own; what watches it are injections and captures (R24, R136). -/
theorem latchFault_apart {o : Nat} (ho : a.num ≠ o) (bits : List Nat) : PartKept a s (s.latchFault o bits) := by
  have hevent : PartKept a s (s.faultEvent o bits) := .foldl (fun _ _ => faultBit_apart ho _) _ (.setPar (.refl s) ho)
  have hseen (x : State) : PartKept a x (x.faultSeen o) := by
    unfold State.faultSeen
    extract_lets t y
    have hy : PartKept a x y := .ite (.elsewhere (.refl x) (fs := [.trace]) (.mk' (.refl _ _ _))) (.refl x)
    exact .ite (hy.trans (flumeStop_apart _)) hy
  exact .ite (hevent.trans (hseen _)) hevent

end

/-! ## The outcome of a row -/

/-- A row's next state leaves the object's part. -/
def RowKeeps (a : ObjectPart) (s : State) (o : Host.Outcome State Fault Refusal) : Prop := ∀ t, o = .next t → PartKept a s t

section
variable {a : ObjectPart} {s x : State} {o o' : Host.Outcome State Fault Refusal}

theorem RowKeeps.next (h : PartKept a s x) : RowKeeps a s (.next x) := by
  intro t ht
  cases ht
  exact h

theorem RowKeeps.ite {c : Prop} [Decidable c] (h : RowKeeps a s o) (k : RowKeeps a s o') :
    RowKeeps a s (if c then o else o') := by split <;> assumption

/-- A row that does something or nothing. -/
theorem RowKeeps.guard {c : Prop} [Decidable c] (h : PartKept a s x) : RowKeeps a s (if c then .next x else .next s) :=
  .ite (.next h) (.next (.refl s))

theorem RowKeeps.unless {c : Prop} [Decidable c] (h : RowKeeps a s o) : RowKeeps a s (if c then .next s else o) :=
  .ite (.next (.refl s)) h

end

/-! ## Feeders -/

/-- A feeder's part of the state. -/
def feederPart (g : Nat) (hg : g < 16) : ObjectPart where
  num := oFeeder g
  Rec := FeederAux
  record s := s.feeder g
  fld := .feeders
  fld_mem := by decide
  record_of_foot k hf := feeder_of_foot k g hf
  ne_grist := by simp only [oFeeder, oGrist]; omega
  ne_device := by simp only [oFeeder, oDevice]; omega
  ne_port p := by cases p <;> simp only [oFeeder, oPort] <;> omega

section
variable {g f : Nat} {hg : g < 16} {s x : State}

theorem feederPart_num (hgf : g ≠ f) : (feederPart g hg).num ≠ oFeeder f := by
  simp only [feederPart, oFeeder]
  omega

theorem PartKept.modFeeder {u : FeederAux → FeederAux} (h : PartKept (feederPart g hg) s x) (hgf : g ≠ f) :
    PartKept (feederPart g hg) s (x.modFeeder f u) := h.same (feeder_modFeeder_other x hgf u)

theorem PartKept.setFeeder {pid : Nat} {v : Int} (h : PartKept (feederPart g hg) s x) (hgf : g ≠ f)
    (hp : pid < 4096 := by decide) : PartKept (feederPart g hg) s (x.setPar (oFeeder f) pid v) :=
  h.setPar (feederPart_num hgf) hp

variable (s) (hgf : g ≠ f)
include hgf

theorem gateOff_apart : PartKept (feederPart g hg) s (s.gateOff f) := .modFeeder (.refl s) hgf

theorem feederTrip_apart (bits : List Nat) : PartKept (feederPart g hg) s (s.feederTrip f bits) := by
  unfold State.feederTrip
  extract_lets o weir i masked x y
  have hx : PartKept (feederPart g hg) s x := .modFeeder (gateOff_apart s hgf) hgf
  have hlatched : PartKept (feederPart g hg) s ((x.setObj o osLatched).latchFault o bits) :=
    (hx.setFeeder hgf).trans (latchFault_apart (feederPart_num hgf) _)
  exact (hlatched.setFeeder hgf).trans (recordPsd_apart (feederPart_num hgf) ..)

theorem readWeir_apart : PartKept (feederPart g hg) s (s.readWeir f) := .ite (feederTrip_apart s hgf _) (.refl s)

theorem feederWait_apart : PartKept (feederPart g hg) s (s.feederWait f) := by
  have hoff : PartKept (feederPart g hg) s ((s.gateOff f).modFeeder f fun a => { a with condition := false }) :=
    .modFeeder (gateOff_apart s hgf) hgf
  exact .ite (hoff.setFeeder hgf) hoff

theorem feederClear_apart : PartKept (feederPart g hg) s (s.feederClear f) :=
  .modFeeder (.setFeeder (.setFeeder (.refl s) hgf) hgf) hgf

theorem seatOpened_apart : PartKept (feederPart g hg) s (s.seatOpened f) :=
  .setFeeder (.modFeeder ((readWeir_apart s hgf).trans (feederWait_apart _ hgf)) hgf) hgf

theorem seatStabled_apart : PartKept (feederPart g hg) s (s.seatStabled f) := by
  have hseated : PartKept (feederPart g hg) s (s.modFeeder f fun a => { a with seated := true }) := .modFeeder (.refl s) hgf
  exact .ite (hseated.trans (feederClear_apart _ hgf)) hseated

theorem serveAct_apart : PartKept (feederPart g hg) s (s.serveAct f) :=
  .ite (.setFeeder (.modFeeder (.refl s) hgf) hgf) (.refl s)

theorem tripWith_apart (own : Nat) : PartKept (feederPart g hg) s (s.tripWith f own) := feederTrip_apart s hgf _

end

/-- A row about one feeder leaves the others (R145 to R169). -/
theorem feederRows_apart {f : Fin 16} {g : Nat} (hg : g < 16) (hgf : g ≠ f.val) (s : State) (byA byB : Bool)
    (proving : Option Bool) : ∀ c ∈ [Instr.seatStable f, .seatOpen f, .insertDelay f, .faultTimer f, .soa f, .startTimeout f,
      .ovQualify f, .itCurve f, .fastTrip f ⟨byA, byB⟩ proving], RowKeeps (feederPart g hg) s (exec c s) := by
  have hmod (u : FeederAux → FeederAux) : PartKept (feederPart g hg) s (s.modFeeder f.val u) := .modFeeder (.refl s) hgf
  have htrip (u : FeederAux → FeederAux) (own : Nat) :
      PartKept (feederPart g hg) s ((s.modFeeder f.val u).tripWith f.val own) := (hmod u).trans (tripWith_apart _ hgf own)
  have hstable : RowKeeps (feederPart g hg) s (execSeatStable f s) :=
    .unless (.next (((hmod _).trans (seatStabled_apart _ hgf)).trans (serveAct_apart _ hgf)))
  have hopen : RowKeeps (feederPart g hg) s (execSeatOpen f s) := .unless (.next ((hmod _).trans (seatOpened_apart _ hgf)))
  have hdelay : RowKeeps (feederPart g hg) s (execInsertDelay f s) := .unless (.next ((hmod _).trans (serveAct_apart _ hgf)))
  have htimer : RowKeeps (feederPart g hg) s (execFaultTimer f s) := .guard (htrip _ _)
  have hsoa : RowKeeps (feederPart g hg) s (execSoa f s) := .guard (htrip _ _)
  have hstart : RowKeeps (feederPart g hg) s (execStartTimeout f s) := .guard (tripWith_apart s hgf _)
  have hover : RowKeeps (feederPart g hg) s (execOvQualify f s) := .guard (tripWith_apart s hgf _)
  have hcurve : RowKeeps (feederPart g hg) s (execItCurve f s) := .guard (htrip _ _)
  have hfast : RowKeeps (feederPart g hg) s (execFastTrip f ⟨byA, byB⟩ proving s) := .guard (hmod _)
  simp only [List.forall_mem_cons, List.not_mem_nil, false_implies, implies_true, and_true]
  exact ⟨hstable, hopen, hdelay, htimer, hsoa, hstart, hover, hcurve, hfast⟩

/-! ## Strings -/

/-- A string's part of the state. -/
def stringPart (j : Nat) (hj : j < 4) : ObjectPart where
  num := oString j
  Rec := StringAux
  record s := s.str j
  fld := .strings
  fld_mem := by decide
  record_of_foot k hf := str_of_foot k j hf
  ne_grist := by simp only [oString, oGrist]; omega
  ne_device := by simp only [oString, oDevice]; omega
  ne_port p := by cases p <;> simp only [oString, oPort] <;> omega

section
variable {j k : Nat} {hj : j < 4} {s x : State}

theorem stringPart_num (hjk : j ≠ k) : (stringPart j hj).num ≠ oString k := by
  simp only [stringPart, oString]
  omega

theorem PartKept.modStr {u : StringAux → StringAux} (h : PartKept (stringPart j hj) s x) (hjk : j ≠ k) :
    PartKept (stringPart j hj) s (x.modStr k u) := h.same (vget_vmod_other x.strings hjk.symm u _)

theorem PartKept.setString {pid : Nat} {v : Int} (h : PartKept (stringPart j hj) s x) (hjk : j ≠ k)
    (hp : pid < 4096 := by decide) : PartKept (stringPart j hj) s (x.setPar (oString k) pid v) :=
  h.setPar (stringPart_num hjk) hp

variable (s) (hjk : j ≠ k)
include hjk

theorem switchOff_apart : PartKept (stringPart j hj) s (s.switchOff k) := .modStr (.refl s) hjk

theorem stringTrip_apart (bits : List Nat) : PartKept (stringPart j hj) s (s.stringTrip k bits) := by
  unfold State.stringTrip
  extract_lets o all x y
  have hlatched : PartKept (stringPart j hj) s ((x.setObj o osLatched).latchFault o all) :=
    ((switchOff_apart s hjk).setString hjk).trans (latchFault_apart (stringPart_num hjk) _)
  exact (hlatched.setString hjk).trans (recordPsd_apart (stringPart_num hjk) ..)

theorem stringConnected_apart : PartKept (stringPart j hj) s (s.stringConnected k) := by
  unfold State.stringConnected
  extract_lets x y
  have hx : PartKept (stringPart j hj) s x := .modStr (.refl s) hjk
  have hy : PartKept (stringPart j hj) s y := .foldl (fun z _ => .elsewhere (.refl z) State.modModule_foot) _ hx
  exact hy.setString hjk

theorem chargeRegulate_apart (vds : Int) : PartKept (stringPart j hj) s (s.chargeRegulate k vds) :=
  .modStr (.setString (.refl s) hjk) hjk

end

/-- A row about one string leaves the others (R175 to R182). -/
theorem stringRows_apart {k : Fin 4} {j : Nat} (hj : j < 4) (hjk : j ≠ k.val) (s : State) (ok byA byB : Bool) (vds : Int) :
    ∀ c ∈ [Instr.stringConnect k, .stringSwitchTick k ok vds, .connectTimeout k, .dischargeReversal k,
      .stringFastTrip k byA byB], RowKeeps (stringPart j hj) s (exec c s) := by
  have hmod (u : StringAux → StringAux) : PartKept (stringPart j hj) s (s.modStr k.val u) := .modStr (.refl s) hjk
  have hconnect : RowKeeps (stringPart j hj) s (execStringConnect k s) := .guard ((hmod _).setString hjk)
  have htick : RowKeeps (stringPart j hj) s (execStringSwitchTick k ok vds s) := by
    unfold execStringSwitchTick
    extract_lets n x bits
    have hx : PartKept (stringPart j hj) s x := hmod _
    have htrip (bits : List Nat) : RowKeeps (stringPart j hj) s (.next (x.stringTrip n bits)) :=
      .next (hx.trans (stringTrip_apart _ hjk _))
    exact .unless (.ite (htrip _) (.ite (.ite (.next (hx.trans (stringConnected_apart _ hjk))) (.ite (htrip _) (.next hx)))
      (.ite (.next (hx.trans (chargeRegulate_apart _ hjk _))) (.next hx))))
  have htimeout : RowKeeps (stringPart j hj) s (execConnectTimeout k s) := .guard (stringTrip_apart s hjk _)
  have hreversal : RowKeeps (stringPart j hj) s (execDischargeReversal k s) := .guard (hmod _)
  have hfast : RowKeeps (stringPart j hj) s (execStringFastTrip k byA byB s) := .guard (.modStr (switchOff_apart s hjk) hjk)
  simp only [List.forall_mem_cons, List.not_mem_nil, false_implies, implies_true, and_true]
  exact ⟨hconnect, htick, htimeout, hreversal, hfast⟩

/-! ## Rails -/

/-- A rail's part of the state. -/
def railPart (w : Nat) (hw : w < 32) : ObjectPart where
  num := oRail w
  Rec := RailAux
  record s := s.rail w
  fld := .rails
  fld_mem := by decide
  record_of_foot k hf := rail_of_foot k w hf
  ne_grist := by simp only [oRail, oGrist]; omega
  ne_device := by simp only [oRail, oDevice]; omega
  ne_port p := by cases p <;> simp only [oRail, oPort] <;> omega

section
variable {w v : Nat} {hw : w < 32} {s x : State}

theorem railPart_num (hwv : w ≠ v) : (railPart w hw).num ≠ oRail v := by
  simp only [railPart, oRail]
  omega

/-- No stage has a rail's number, whichever one RAIL_POL names. -/
theorem railPart_ne_oPol (n : Nat) : (railPart w hw).num ≠ oPol n := by
  simp only [railPart, oRail, oPol]
  omega

theorem PartKept.modRail {u : RailAux → RailAux} (h : PartKept (railPart w hw) s x) (hwv : w ≠ v) :
    PartKept (railPart w hw) s (x.modRail v u) := h.same (vget_vmod_other x.rails hwv.symm u _)

theorem PartKept.setRail {pid : Nat} {i : Int} (h : PartKept (railPart w hw) s x) (hwv : w ≠ v)
    (hp : pid < 4096 := by decide) : PartKept (railPart w hw) s (x.setPar (oRail v) pid i) :=
  h.setPar (railPart_num hwv) hp

theorem polFail_apart (s : State) (n : Nat) : PartKept (railPart w hw) s (s.polFail n) :=
  .setPar (.foot (.refl s) State.modPol_foot) (railPart_ne_oPol n)

variable (s) (hwv : w ≠ v)
include hwv

theorem polOperate_apart (on : Bool) : PartKept (railPart w hw) s (s.polOperate v on) := by
  unfold State.polOperate
  extract_lets n frames
  exact .ite (.refl s) (.ite (.setRail (polFail_apart s n) hwv) (.foot (.refl s) State.modPol_foot))

theorem railOn_apart : PartKept (railPart w hw) s (s.railOn v) := .modRail (polOperate_apart s hwv _) hwv

theorem railEmpty_apart (us : Int) : PartKept (railPart w hw) s (s.railEmpty v us) := .setRail (.modRail (.refl s) hwv) hwv

theorem pgRise_apart : PartKept (railPart w hw) s (s.pgRise v) := .modRail (.refl s) hwv

theorem pgFall_apart : PartKept (railPart w hw) s (s.pgFall v) := by
  unfold State.pgFall
  extract_lets r x y
  have hx : PartKept (railPart w hw) s x := .modRail (.refl s) hwv
  have hy : PartKept (railPart w hw) s y := .ite (hx.setRail hwv) hx
  exact .ite (hy.trans (railEmpty_apart _ hwv _)) hy

theorem railRecord_apart : PartKept (railPart w hw) s (s.railRecord v) := record_apart (railPart_num hwv) ..

theorem downFail_apart : PartKept (railPart w hw) s (s.downFail v) :=
  (PartKept.setRail (.modRail (.refl s) hwv) hwv).trans (railRecord_apart _ hwv)

theorem pollLow_apart : PartKept (railPart w hw) s (s.pollLow v) :=
  .ite (.ite (downFail_apart s hwv) (.modRail (.refl s) hwv)) (pgFall_apart s hwv)

theorem pollHigh_apart : PartKept (railPart w hw) s (s.pollHigh v) :=
  .ite (.refl s) (.ite (.setRail (.modRail (.refl s) hwv) hwv) (pgRise_apart s hwv))

end

/-- What a poll writes is the rail's own, or its stage's (R239, R240). -/
theorem execRailPoll_apart {v : Fin 32} {w : Nat} {hw : w < 32} (hwv : w ≠ v.val) (s : State) (read : RailRead) (us : Word) :
    RowKeeps (railPart w hw) s (execRailPoll v read us s) := by
  have hpol {x : State} (n : Nat) {pid : Nat} {i : Int} (hp : pid < 4096) :
      PartKept (railPart w hw) x (x.setPar (oPol n) pid i) := .setPar (.refl x) (railPart_ne_oPol n) hp
  have hcomm {x : State} (n : Nat) :
      PartKept (railPart w hw) x (((x.polFail n).setBit (oRail v) Pid.Rail.RAIL_STATUS rlCOMM).pollLow v) :=
    ((polFail_apart x n).setRail hwv).trans (pollLow_apart _ hwv)
  unfold execRailPoll
  extract_lets i n got
  refine .unless ?_
  cases got with
  | statusWord y =>
    have hword := hpol (x := s) n (pid := Pid.Pol.POL_STATUS_WORD) (i := y.toNat) (by decide)
    exact .next (hword.trans (.ite (pollLow_apart _ hwv) (pollHigh_apart _ hwv)))
  | vout m =>
    have hread (volts : Int) : PartKept (railPart w hw) s (s.setReading (oPol n) Pid.Pol.VOUT volts) := by
      unfold State.setReading
      split
      · exact hpol n (by decide)
      · exact .refl s
    exact .ite (.next ((hread _).trans (railEmpty_apart _ hwv _))) (.next (hread _))
  | operationFailed => exact .next (.trans (.foot (.refl s) State.modPol_foot) (hcomm n))
  | failed => exact .next (hcomm n)

/-- A row about one rail leaves the others (R239 to R248). -/
theorem railRows_apart {v : Fin 32} {w : Nat} (hw : w < 32) (hwv : w ≠ v.val) (s : State) (ball us : Word) (read : RailRead) :
    ∀ c ∈ [Instr.onDelay v, .railPgHigh ⟨v, ball⟩, .railQualified v us, .pgTimeout v, .railPgDrop ⟨v, ball⟩,
      .dischargeTimeout v, .railDischarged ⟨v, ball⟩ us, .railPoll v read us], RowKeeps (railPart w hw) s (exec c s) := by
  have hmod (u : RailAux → RailAux) : PartKept (railPart w hw) s (s.modRail v.val u) := .modRail (.refl s) hwv
  have hreport (u : RailAux → RailAux) (b : Nat) :
      PartKept (railPart w hw) s (((s.modRail v.val u).setBit (oRail v.val) Pid.Rail.RAIL_STATUS b).railRecord v.val) :=
    ((hmod u).setRail hwv).trans (railRecord_apart _ hwv)
  have hon : RowKeeps (railPart w hw) s (execOnDelay v s) := .guard (railOn_apart s hwv)
  have hhigh : RowKeeps (railPart w hw) s (execRailPgHigh ⟨v, ball⟩ s) := .guard (pgRise_apart s hwv)
  have hqualified : RowKeeps (railPart w hw) s (execRailQualified v us s) := .guard ((hmod _).setRail hwv)
  have htimeout : RowKeeps (railPart w hw) s (execPgTimeout v s) := .guard (hreport _ _)
  have hdrop : RowKeeps (railPart w hw) s (execRailPgDrop ⟨v, ball⟩ s) :=
    .unless (.ite (.ite (.next (downFail_apart s hwv)) (.next (.setRail (.refl s) hwv))) (.next (pgFall_apart s hwv)))
  have hstuck : RowKeeps (railPart w hw) s (execDischargeTimeout v s) := .guard ((hreport _ _).trans (raise_apart _))
  have hempty : RowKeeps (railPart w hw) s (execRailDischarged ⟨v, ball⟩ us s) := .guard (railEmpty_apart s hwv _)
  simp only [List.forall_mem_cons, List.not_mem_nil, false_implies, implies_true, and_true]
  exact ⟨hon, hhigh, hqualified, htimeout, hdrop, hstuck, hempty, execRailPoll_apart hwv s read us⟩

/-! ## Timers -/

/-- A timer's part of the state. -/
def timerPart (m : Nat) (hm : m < 8) : ObjectPart where
  num := oTimer m
  Rec := TimerAux
  record s := s.timer m
  fld := .timers
  fld_mem := by decide
  record_of_foot k hf := timer_of_foot k hf
  ne_grist := by simp only [oTimer, oGrist]; omega
  ne_device := by simp only [oTimer, oDevice]; omega
  ne_port p := by cases p <;> simp only [oTimer, oPort] <;> omega

section
variable {m t : Nat} {hm : m < 8} {s x : State}

theorem timerPart_num (hmt : m ≠ t) : (timerPart m hm).num ≠ oTimer t := by
  simp only [timerPart, oTimer]
  omega

theorem PartKept.modTimer {u : TimerAux → TimerAux} (h : PartKept (timerPart m hm) s x) (hmt : m ≠ t) :
    PartKept (timerPart m hm) s (x.modTimer t u) := h.same (timer_modTimer_other x hmt.symm u)

theorem PartKept.setTimer {pid : Nat} {v : Int} (h : PartKept (timerPart m hm) s x) (hmt : m ≠ t)
    (hp : pid < 4096 := by decide) : PartKept (timerPart m hm) s (x.setPar (oTimer t) pid v) :=
  h.setPar (timerPart_num hmt) hp

variable (s) (hmt : m ≠ t)
include hmt

theorem matched_apart : PartKept (timerPart m hm) s (s.matched t) := by
  unfold State.matched
  extract_lets o x y mode
  have hx : PartKept (timerPart m hm) s x := .setTimer (.refl s) hmt
  have hy : PartKept (timerPart m hm) s y := .ite (hx.trans (raise_apart _)) hx
  exact hy.modTimer hmt

theorem pulseEnd_apart : PartKept (timerPart m hm) s (s.pulseEnd t) := .ite (.modTimer (.refl s) hmt) (.refl s)

theorem advanced_apart : PartKept (timerPart m hm) s (s.advanced t) :=
  .trans (.modTimer (.refl s) hmt) (pulseEnd_apart _ hmt)

theorem overflowed_apart : PartKept (timerPart m hm) s (s.setBit (oTimer t) Pid.Timer.TM_STATUS tmWRAP) :=
  .setTimer (.refl s) hmt

variable (hnext : m ≠ t + 1)
include hnext

theorem setValue_apart (n : Nat) : PartKept (timerPart m hm) s (s.setValue t n) :=
  .ite (.setTimer (.setTimer (.refl s) hmt) hnext) (.setTimer (.refl s) hmt)

theorem wrapped_apart : PartKept (timerPart m hm) s (s.wrapped t) :=
  .ite (.setTimer (overflowed_apart s hmt) hnext) (overflowed_apart s hmt)

end

/-- A row about a timer leaves all but it, its pair's leader and the leader's partner (R304 to R309). -/
theorem timerRows_apart {n : Fin 8} {m : Nat} (hm : m < 8) (s : State) (hlead : m ≠ s.leader n.val)
    (hpartner : m ≠ s.leader n.val + 1) (hmn : m ≠ n.val) (rising : Bool) (w : Word) :
    ∀ c ∈ [Instr.timerMatch n, .timerWrap n, .timerCapture n rising w, .tmrPulseEnd n],
      RowKeeps (timerPart m hm) s (exec c s) := by
  have hmatch : RowKeeps (timerPart m hm) s (execTimerMatch n s) := by
    unfold execTimerMatch
    extract_lets t c v x
    split
    · exact .next (.refl s)
    · next hc =>
      have ht : s.leader n.val = n.val := by
        simp only [Bool.or_eq_true, bne_iff_ne, not_or, not_not] at hc
        exact hc.2
      rw [ht] at hpartner
      have hx : PartKept (timerPart m hm) s x :=
        .ite (wrapped_apart s hmn hpartner) (.ite (overflowed_apart s hmn) (.refl s))
      exact .next (((hx.trans (setValue_apart _ hmn hpartner _)).trans (advanced_apart _ hmn)).trans (matched_apart _ hmn))
  have hwrap : RowKeeps (timerPart m hm) s (execTimerWrap n s) := by
    unfold execTimerWrap
    extract_lets t l next c hit x c' hit' y
    refine .unless ?_
    split
    · next hc =>
      have ht : n.val = s.leader n.val := by
        simp only [Bool.and_eq_true, decide_eq_true_eq] at hc
        exact hc.1.2
      rw [← ht] at hpartner
      have hx : PartKept (timerPart m hm) s x := .setTimer ((setValue_apart s hmn hpartner _).trans (advanced_apart _ hmn)) hmn
      exact .next (.ite (hx.trans (matched_apart _ hmn)) hx)
    · have hy : PartKept (timerPart m hm) s y :=
        ((setValue_apart s hlead hpartner _).trans (advanced_apart _ hlead)).trans (wrapped_apart _ hlead hpartner)
      exact .next (.ite (hy.trans (matched_apart _ hlead)) hy)
  have hcapture : RowKeeps (timerPart m hm) s (execTimerCapture n rising w s) := by
    unfold execTimerCapture
    extract_lets t o mode wanted count x y
    split
    · exact .next (.refl s)
    · next hc =>
      have ht : s.leader n.val = n.val := by
        simp only [Bool.or_eq_true, bne_iff_ne, not_or, not_not] at hc
        exact hc.1.1.2
      rw [ht] at hpartner
      have hx : PartKept (timerPart m hm) s x := .setTimer (.refl s) hmn
      have hy : PartKept (timerPart m hm) s y := hx.modTimer hmn
      exact .ite (.next ((hx.setTimer hmn).setTimer hmn)) (.ite (.next (hy.modTimer hpartner)) (.next hy))
  have hpulse : RowKeeps (timerPart m hm) s (execTmrPulseEnd n s) := .guard (pulseEnd_apart s hmn)
  simp only [List.forall_mem_cons, List.not_mem_nil, false_implies, implies_true, and_true]
  exact ⟨hmatch, hwrap, hcapture, hpulse⟩

/-! ## Downstream ports -/

/-- A downstream port's part of the state. -/
def downPart (e : Nat) (he : e < 4) : ObjectPart where
  num := oDown e
  Rec := DownAux
  record s := s.down e
  fld := .downs
  fld_mem := by decide
  record_of_foot k hf := down_of_foot k e hf
  ne_grist := by simp only [oDown, oGrist]; omega
  ne_device := by simp only [oDown, oDevice]; omega
  ne_port p := by cases p <;> simp only [oDown, oPort] <;> omega

theorem modulesOn_lt {s : State} {d m : Nat} (h : m ∈ s.modulesOn d) : m < 64 := by
  unfold State.modulesOn at h
  split at h
  · next hd =>
    obtain ⟨i, hi, him⟩ := List.mem_filterMap.1 h
    have hlt := List.mem_range.1 hi
    dsimp only at him
    split at him
    · have := Option.some.inj him
      omega
    · cases him
  · cases h

section
variable {d e : Nat} {he : e < 4} {s x : State}

theorem downPart_num (hed : e ≠ d) : (downPart e he).num ≠ oDown d := by
  simp only [downPart, oDown]
  omega

theorem PartKept.modDown {u : DownAux → DownAux} (h : PartKept (downPart e he) s x) (hed : e ≠ d) :
    PartKept (downPart e he) s (x.modDown d u) := h.same (vget_vmod_other x.downs hed.symm u _)

theorem PartKept.setDown {pid : Nat} {v : Int} (h : PartKept (downPart e he) s x) (hed : e ≠ d)
    (hp : pid < 4096 := by decide) : PartKept (downPart e he) s (x.setPar (oDown d) pid v) :=
  h.setPar (downPart_num hed) hp

theorem moduleSilent_apart {m : Nat} (hm : m < 64) (s : State) : PartKept (downPart e he) s (s.moduleSilent m) := by
  have hne : (downPart e he).num ≠ oModule m := by
    simp only [downPart, oDown, oModule]
    omega
  exact .ite (.refl s) (.trans (.elsewhere (.refl s) State.modModule_foot) (record_apart hne ..))

theorem modulesSilent_apart {l : List Nat} (hl : ∀ m ∈ l, m < 64) (s : State) :
    PartKept (downPart e he) s (s.eachOf l fun m s => s.moduleSilent m) :=
  List.foldlRecOn (motive := PartKept (downPart e he) s) l _ (.refl s) fun _ hx m hm => hx.trans (moduleSilent_apart (hl m hm) _)

variable (s) (hed : e ≠ d)
include hed

theorem frameError_apart : PartKept (downPart e he) s (s.frameError d) := .setDown (.modDown (.refl s) hed) hed

theorem arbLost_apart (bit last : Nat) : PartKept (downPart e he) s (s.arbLost d bit last) := by
  unfold State.arbLost
  extract_lets o x y
  have hx : PartKept (downPart e he) s x := .setDown (.setDown (.setDown (.refl s) hed) hed) hed
  have hy : PartKept (downPart e he) s y := hx.modDown hed
  exact .ite (hy.trans (frameError_apart _ hed)) hy

theorem portRecord_apart : PartKept (downPart e he) s (s.portRecord d) := record_apart (downPart_num hed) ..

theorem portFault_apart (stuck : Bool) : PartKept (downPart e he) s (s.portFault d stuck) := by
  have hheld : PartKept (downPart e he) s (s.busHeld d stuck) :=
    .ite (.modDown (.refl s) hed) (.setDown (.modDown (.refl s) hed) hed)
  have hfaulted (x : State) : PartKept (downPart e he) x (x.busFaulted d) :=
    (PartKept.trans (.setDown (.setDown (.refl x) hed) hed) (latchFault_apart (downPart_num hed) _)).trans
      (portRecord_apart _ hed)
  rw [portFault_eq]
  exact .ite hheld ((hheld.trans (hfaulted _)).trans (modulesSilent_apart (fun _ hm => modulesOn_lt hm) _))

end

/-- A row about one downstream port leaves the others (R392 to R394). -/
theorem downRows_apart {d : Fin 4} {e : Nat} (he : e < 4) (hed : e ≠ d.val) (s : State) (x : FrameEnd) (y : RecoveryEnd) :
    ∀ c ∈ [Instr.dsFrame d x, .dsFrameAbandon d, .busRecovery d y], RowKeeps (downPart e he) s (exec c s) := by
  have hmod (z : State) (u : DownAux → DownAux) : PartKept (downPart e he) z (z.modDown d.val u) := .modDown (.refl z) hed
  have hframe : RowKeeps (downPart e he) s (execDsFrame d x s) := by
    unfold execDsFrame
    extract_lets n
    refine .unless ?_
    cases x with
    | ok => exact .next ((hmod s _).setDown hed)
    | nack => exact .next (.trans (.setDown (.refl s) hed) (frameError_apart _ hed))
    | arbLostAddr => exact .next (.trans (.elsewhere (.refl s) State.draw_foot) (arbLost_apart _ hed ..))
    | arbLostData byte bit => exact .next (arbLost_apart s hed ..)
  have habandon : RowKeeps (downPart e he) s (execDsFrameAbandon d s) :=
    .guard (.trans (.setDown (.refl s) hed) (frameError_apart _ hed))
  have hrecovery : RowKeeps (downPart e he) s (execBusRecovery d y s) := by
    unfold execBusRecovery
    extract_lets n o z
    have hz : PartKept (downPart e he) s z := .setDown (.refl s) hed
    refine .unless ?_
    cases y with
    | clocked sda =>
      have hfree : PartKept (downPart e he) s
          (z.modDown n fun a => { a with recovered := true, busStuck := false, sclLow := false }) := hz.modDown hed
      exact .ite (.ite (.next ((((hfree.setDown hed).setDown hed).setDown hed).trans (portRecord_apart _ hed))) (.next hfree))
        (.next (hz.trans (portFault_apart _ hed _)))
    | sclLow => exact .next (hz.trans (portFault_apart _ hed _))
  simp only [List.forall_mem_cons, List.not_mem_nil, false_implies, implies_true, and_true]
  exact ⟨hframe, habandon, hrecovery⟩

/-! ## Point-of-load stages -/

/-- A stage's part of the state. -/
def polPart (m : Nat) (hm : m < 32) : ObjectPart where
  num := oPol m
  Rec := PolAux
  record s := s.pol m
  fld := .pols
  fld_mem := by decide
  record_of_foot k hf := by
    unfold State.pol
    rw [k.fld .pols hf]
  ne_grist := by simp only [oPol, oGrist]; omega
  ne_device := by simp only [oPol, oDevice]; omega
  ne_port p := by cases p <;> simp only [oPol, oPort] <;> omega

section
variable {m n : Nat} {hm : m < 32} {s x : State}

theorem PartKept.modPol {u : PolAux → PolAux} (h : PartKept (polPart m hm) s x) (hmn : m ≠ n) :
    PartKept (polPart m hm) s (x.modPol n u) := h.same (vget_vmod_other x.pols hmn.symm u _)

theorem PartKept.setPol {pid : Nat} {v : Int} (h : PartKept (polPart m hm) s x) (hmn : m ≠ n)
    (hp : pid < 4096 := by decide) : PartKept (polPart m hm) s (x.setPar (oPol n) pid v) :=
  h.setPar (by simp only [polPart, oPol]; omega) hp

variable (s) (hmn : m ≠ n)
include hmn

theorem polFail_others : PartKept (polPart m hm) s (s.polFail n) := .setPol (.modPol (.refl s) hmn) hmn

theorem setReading_others {pid : Nat} (hp : pid < 4096 := by decide) (v : Int) :
    PartKept (polPart m hm) s (s.setReading (oPol n) pid v) := by
  unfold State.setReading
  split
  · exact .setPol (.refl s) hmn hp
  · exact .refl s

end

/-- A row about one stage leaves the others (R395, R396). -/
theorem polRows_apart {n : Fin 32} {m : Nat} (hm : m < 32) (hmn : m ≠ n.val) (s : State) (x : Option (Byte × Byte))
    (y : Option (BitVec 16 × BitVec 16)) :
    ∀ c ∈ [Instr.polIdentify n x, .polPoll n y], RowKeeps (polPart m hm) s (exec c s) := by
  have hfail : RowKeeps (polPart m hm) s (.next (s.polFail n.val)) := .next (polFail_others s hmn)
  have hidentify : RowKeeps (polPart m hm) s (execPolIdentify n x s) := by
    unfold execPolIdentify
    extract_lets i o
    refine .unless (.ite hfail ?_)
    cases x with
    | none => exact hfail
    | some a =>
      have hrev : PartKept (polPart m hm) s (s.setPar o Pid.Pol.PMBUS_REV a.1.toNat) := .setPol (.refl s) hmn
      exact .ite (.next ((hrev.modPol hmn).setPol hmn)) (.next (hrev.modPol hmn))
  have hpoll : RowKeeps (polPart m hm) s (execPolPoll n y s) := by
    unfold execPolPoll
    extract_lets i o
    refine .unless (.ite hfail ?_)
    cases y with
    | none => exact hfail
    | some a => exact .next ((setReading_others s hmn (by decide) _).trans (setReading_others _ hmn (by decide) _))
  simp only [List.forall_mem_cons, List.not_mem_nil, false_implies, implies_true, and_true]
  exact ⟨hidentify, hpoll⟩

/-! ## Satellites -/

/-- A satellite's part of the state. -/
def satPart (m : Nat) (hm : m < 8) : ObjectPart where
  num := oSat m
  Rec := SatAux
  record s := s.sat m
  fld := .sats
  fld_mem := by decide
  record_of_foot k hf := by
    unfold State.sat
    rw [k.fld .sats hf]
  ne_grist := by simp only [oSat, oGrist]; omega
  ne_device := by simp only [oSat, oDevice]; omega
  ne_port p := by cases p <;> simp only [oSat, oPort] <;> omega

section
variable {m n : Nat} {hm : m < 8} {s x : State}

theorem satPart_num (hmn : m ≠ n) : (satPart m hm).num ≠ oSat n := by
  simp only [satPart, oSat]
  omega

theorem PartKept.modSat {u : SatAux → SatAux} (h : PartKept (satPart m hm) s x) (hmn : m ≠ n) :
    PartKept (satPart m hm) s (x.modSat n u) := h.same (vget_vmod_other x.sats hmn.symm u _)

theorem PartKept.setSat {pid : Nat} {v : Int} (h : PartKept (satPart m hm) s x) (hmn : m ≠ n)
    (hp : pid < 4096 := by decide) : PartKept (satPart m hm) s (x.setPar (oSat n) pid v) :=
  h.setPar (satPart_num hmn) hp

theorem updRecord_apart (s : State) (kind bank port : Nat) : PartKept (satPart m hm) s (s.updRecord kind bank port) := by
  have hne : (satPart m hm).num ≠ oUpdater := by
    simp only [satPart, oSat, oUpdater]
    omega
  exact .ite ((record_apart hne ..).trans (raise_apart _)) (record_apart hne ..)

variable (s) (hmn : m ≠ n)
include hmn

theorem satHeld_apart (result bit : Nat) : PartKept (satPart m hm) s (s.satHeld n result bit) :=
  (PartKept.trans (.setSat (.setSat (.modSat (.refl s) hmn) hmn) hmn) (latchFault_apart (satPart_num hmn) _)).trans
    (updRecord_apart ..)

theorem satSend_apart (runs : Bool) (a : SatAnswer) (img : SatImage) :
    PartKept (satPart m hm) s (s.satSend n runs a img) := by
  have hsent : PartKept (satPart m hm) s (s.satSent n runs a (s.satBytes img)) :=
    .modSat (.elsewhere (.refl s) State.drawBytes_foot) hmn
  have hcounted (x : State) (v : Int) : PartKept (satPart m hm) x (x.satCounted n v) := .setSat (.setSat (.refl x) hmn) hmn
  have hrunning (x : State) : PartKept (satPart m hm) x (x.satRunning n) :=
    .setSat (.setSat (.setSat (.modSat (.refl x) hmn) hmn) hmn) hmn
  unfold State.satSend
  dsimp only
  refine .ite (hsent.trans (satHeld_apart _ hmn ..)) ?_
  exact .ite ((hsent.trans (hcounted _ _)).trans (satHeld_apart _ hmn ..))
    ((hsent.trans (hcounted _ img.version)).trans (hrunning _))

end

/-- A row about one satellite leaves the others (R414, R415). -/
theorem satRows_apart {n : Fin 8} {m : Nat} (hm : m < 8) (hmn : m ≠ n.val) (s : State) (a : SatAnswer) :
    ∀ c ∈ [Instr.satelliteLoad n a, .satelliteRetry n], RowKeeps (satPart m hm) s (exec c s) := by
  have hload : RowKeeps (satPart m hm) s (execSatelliteLoad n a s) := by
    unfold execSatelliteLoad
    extract_lets i o dead
    refine .unless ?_
    split
    · exact .next (satHeld_apart s hmn ..)
    · next d _ =>
      extract_lets x
      have hx : PartKept (satPart m hm) s x := .setSat (.refl s) hmn
      have hheld (result : Nat) : RowKeeps (satPart m hm) s (.next (x.satHeld i result flAuth)) :=
        .next (hx.trans (satHeld_apart _ hmn ..))
      split
      · exact hheld _
      · exact .ite (hheld _) (.ite (hheld _)
          (.next ((hx.elsewhere State.satSelect_foot).trans (satSend_apart _ hmn ..))))
  have hretry : RowKeeps (satPart m hm) s (execSatelliteRetry n s) := .guard (.setSat (.modSat (.refl s) hmn) hmn)
  simp only [List.forall_mem_cons, List.not_mem_nil, false_implies, implies_true, and_true]
  exact ⟨hload, hretry⟩

/-! ## Host ports -/

/-- A host port's packet, replies, pointer and what it drives. -/
def HostPortAux.traffic (a : HostPortAux) : Bytes × Nat × List Reply × Nat × Byte × Bytes :=
  (a.build, a.written, a.replies, a.readPos, a.pointer, a.driven)

/-- A host port's traffic is as it was. -/
structure TrafficKept (q : HostPort) (s t : State) : Prop where
  traffic : (t.port q).traffic = (s.port q).traffic

section
variable {p q : HostPort} {s x y : State}

theorem TrafficKept.refl (s : State) : TrafficKept q s s := ⟨rfl⟩

theorem TrafficKept.trans (h : TrafficKept q s x) (k : TrafficKept q x y) : TrafficKept q s y :=
  ⟨k.traffic.trans h.traffic⟩

theorem TrafficKept.ite {c : Prop} [Decidable c] (hx : TrafficKept q s x) (hy : TrafficKept q s y) :
    TrafficKept q s (if c then x else y) := by split <;> assumption

section
variable (h : TrafficKept q s x)
include h

theorem TrafficKept.same (e : y.ports = x.ports := by rfl) : TrafficKept q s y :=
  h.trans ⟨by unfold State.port; rw [e]⟩

theorem TrafficKept.foot {fs : List Fld} {ps : Option (List Nat)} (k : Foot fs ps x y)
    (hp : fs.contains .ports = false := by rfl) : TrafficKept q s y := h.same (k.fld .ports hp)

/-- Any change of the other port. -/
theorem TrafficKept.modPort {g : HostPortAux → HostPortAux} (hpq : p ≠ q) : TrafficKept q s (x.modPort p g) :=
  h.trans ⟨congrArg _ (port_modPort_other x hpq g)⟩

end

/-- An alert shows on both ports, and moves nothing of their traffic (R388). -/
theorem raisePort_traffic (s : State) (p : HostPort) (c : Nat) : TrafficKept q s (s.raisePort p c) :=
  ⟨(PortKept.modPort (f := HostPortAux.traffic) (.refl s) fun a => by split <;> rfl).port q⟩

theorem record_traffic (s : State) (source cls event : Nat) (snap : List Snap) :
    TrafficKept q s (s.record source cls event snap) := by
  unfold State.record State.createRec
  extract_lets g t
  have ht : TrafficKept q s t := .foot (.refl s) State.storeRec_foot
  exact .ite (.refl s) (.ite (.same (.refl s)) (.ite (.same (.refl s))
    (.ite (((ht.foot State.storeRec_foot).trans (raisePort_traffic ..)).trans (raisePort_traffic ..)) ht)))

end

/-! ### What a transaction does on its own port -/

section
variable {p q : HostPort} (s : State) (hpq : p ≠ q)
include hpq

theorem violation_traffic (st rs op tp n : Nat) : TrafficKept q s (s.violation p st rs op tp n) := by
  unfold State.violation
  extract_lets a b c d
  have hb : TrafficKept q s b := .modPort (.same (y := a) (.refl s)) hpq
  have hd : TrafficKept q s d := (hb.same (y := c)).trans (record_traffic ..)
  exact .ite ((TrafficKept.trans (.same hd) (raisePort_traffic ..)).trans (record_traffic ..)) hd

theorem windowViolation_traffic (reason ptr n : Nat) : TrafficKept q s (s.windowViolation p reason ptr n) :=
  .trans (.ite (.refl s) (.same (.refl s))) (violation_traffic _ hpq ..)

theorem reject_traffic (st c op tp : Nat) : TrafficKept q s (s.reject p st c op tp) :=
  .ite (.modPort (.same (.refl s)) hpq) (.modPort (.refl s) hpq)

theorem rejectViolation_traffic (st c op tp n : Nat) : TrafficKept q s (s.rejectViolation p st c op tp n) :=
  (reject_traffic s hpq ..).trans (violation_traffic _ hpq ..)

/-- A packet is rejected on its own port, or becomes an operation (R351, R352). -/
theorem submitBytes_traffic (bytes : Bytes) (written : Nat) : TrafficKept q s (s.submitBytes p bytes written) := by
  unfold State.submitBytes
  extract_lets op tp len
  have hreject (st c : Nat) : TrafficKept q s (s.rejectViolation p st c op tp written) := rejectViolation_traffic s hpq ..
  refine .ite (hreject _ _) (.ite (hreject _ _) (.ite (hreject _ _) (.ite (hreject _ _) ?_)))
  split
  · exact reject_traffic s hpq ..
  · exact hreject _ _
  · exact .same (.refl s)

theorem doorbell_traffic : TrafficKept q s (s.doorbell p) := by
  have hempty : TrafficKept q s (s.modPort p fun x => { x with build := [], written := 0 }) := .modPort (.refl s) hpq
  exact .ite (hempty.modPort hpq) (hempty.trans (submitBytes_traffic _ hpq ..))

theorem streamByte_traffic (b : Byte) : TrafficKept q s (s.streamByte p b) := by
  have hcount : TrafficKept q s (s.modPort p fun x => { x with written := x.written + 1 }) := .modPort (.refl s) hpq
  exact .ite (.same (.refl s)) (.ite hcount.same (hcount.modPort hpq))

omit hpq in
theorem maskWrite_traffic (b : Byte) : TrafficKept q s (s.maskWrite p b) :=
  .ite (.foot (.same (.refl s)) State.askConfig_foot) (.same (.refl s))

theorem byteWrite_traffic (a : Nat) (b : Byte) : TrafficKept q s (s.byteWrite p a b) :=
  .ite (maskWrite_traffic s b) (.ite (streamByte_traffic s hpq b)
    (.ite (.ite (doorbell_traffic s hpq) (.ite (.modPort (.refl s) hpq) (.refl s))) (.refl s)))

theorem dataByte_traffic (pec : Bool) (ptr : Byte) (n : Nat) (b : Byte) (done : Bool) :
    TrafficKept q s (State.dataByte p pec ptr n (s, done) b).1 :=
  .modPort (.ite (windowViolation_traffic s hpq ..) (byteWrite_traffic s hpq ..)) hpq

theorem writeData_traffic (pec : Bool) (ptr : Byte) (data : Bytes) : TrafficKept q s (s.writeData p pec ptr data) :=
  List.foldlRecOn (motive := fun x : State × Bool => TrafficKept q s x.1) data _ (.modPort (.refl s) hpq)
    fun x hx b _ => hx.trans (dataByte_traffic x.1 hpq pec ptr data.length b x.2)

theorem consumeReply_traffic (n : Nat) : TrafficKept q s (s.consumeReply p n) := by
  unfold State.consumeReply
  split
  · exact .refl s
  · refine .ite (.modPort (.refl s) hpq) ?_
    split
    · exact .foot (.modPort (.refl s) hpq) State.dropOp_foot
    · exact .modPort (.refl s) hpq

theorem windowRead_traffic : TrafficKept q s (s.windowRead p).2 := by
  unfold State.windowRead
  extract_lets a x y b space avail z
  have hy : TrafficKept q s y := .ite (.modPort (.refl s) hpq) (.refl s)
  have hz : TrafficKept q s z := hy.modPort hpq
  exact .ite (hz.modPort hpq) (.ite (hz.modPort hpq) (.ite (hz.modPort hpq) hz))

theorem windowReads_traffic (n : Nat) : TrafficKept q s (s.windowReads p n).2 := by
  induction n with
  | zero => exact .refl s
  | succ n ih => exact ih.trans (windowRead_traffic _ hpq)

theorem readData_traffic (n : Nat) (keep : Bool) : TrafficKept q s (s.readData p n keep).2 := by
  unfold State.readData
  split
  · exact .ite (.refl s) (consumeReply_traffic s hpq _)
  · exact windowReads_traffic s hpq n

theorem plainRead_traffic (n : Nat) : TrafficKept q s (s.plainRead p n) := (readData_traffic s hpq n false).modPort hpq

theorem pecRead_traffic (addr : BitVec 7) (ptr count : Byte) (n : Nat) : TrafficKept q s (s.pecRead p addr ptr count n) :=
  .modPort (.trans (.modPort (.refl s) hpq) (readData_traffic _ hpq _ _)) hpq

theorem failedRead_traffic (ptr : Byte) (n : Nat) : TrafficKept q s (s.failedRead p ptr n) :=
  (windowViolation_traffic s hpq ..).modPort hpq

/-! ### Transactions -/

theorem busStop_traffic : TrafficKept q s (s.busStop p) := .ite (.modPort (.refl s) hpq) (.refl s)

theorem transaction_traffic (acc : HostAccess) {act : State → State} (hact : ∀ t, TrafficKept q t (act t)) :
    TrafficKept q s (s.transaction p acc act) := by
  unfold State.transaction
  split
  · next hit _ =>
    have hnamed : TrafficKept q s (s.named p hit acc.speed) :=
      .same (x := s.modPort p fun x => { x with hit := hit }) (.modPort (.refl s) hpq)
    exact (hnamed.trans (hact _)).trans (busStop_traffic _ hpq)
  · exact busStop_traffic s hpq

theorem write_traffic (acc : HostAccess) (ptr : Byte) (rest : Bytes) : TrafficKept q s (s.write p acc ptr rest) := by
  refine transaction_traffic s hpq acc fun t => ?_
  refine .ite (writeData_traffic t hpq ..) ?_
  split
  · exact windowViolation_traffic t hpq ..
  · exact writeData_traffic t hpq ..

theorem readRow_traffic (acc : HostAccess) (form : ReadForm) (ptr : Byte) (n : Nat) :
    TrafficKept q s (s.readRow p acc form ptr n) := by
  refine transaction_traffic s hpq acc fun t => ?_
  cases form with
  | plain => exact .ite (failedRead_traffic t hpq ..) (.trans (.modPort (.refl t) hpq) (plainRead_traffic _ hpq n))
  | direct => exact .ite (windowViolation_traffic t hpq ..) (plainRead_traffic t hpq n)
  | counted c =>
    exact .ite (.ite (failedRead_traffic t hpq ..) (pecRead_traffic t hpq ..))
      ((writeData_traffic t hpq ..).trans (plainRead_traffic _ hpq n))

end

/-- A row about one host port leaves the other's traffic (R351 to R387). -/
theorem portRows_traffic {p q : HostPort} (hpq : p ≠ q) (s t : State) (acc : HostAccess) (data : Bytes) (ptr : Byte)
    (form : ReadForm) (k : Nat) (w : Bool) : ∀ c ∈ [Instr.reqStream p acc data, .doorbellSubmit p ⟨acc, data⟩,
      .doorbellDiscard p ⟨acc, data⟩, .replyStream p ⟨acc, form, k⟩, .alertCause p ⟨acc, form, k⟩, .fastStatus p ⟨acc, form, k⟩,
      .highByteLatch p w ⟨acc, form, k⟩, .windowWrite p acc ptr data], exec c s = .next t → TrafficKept q s t := by
  have hwrite (ptr : Byte) (rest : Bytes)
      (h : (.next (s.write p acc ptr rest) : Host.Outcome State Fault Refusal) = .next t) :
      TrafficKept q s t := by
    cases h
    exact write_traffic s hpq ..
  have hread (ptr : Byte)
      (h : (.next (s.readRow p acc form ptr k) : Host.Outcome State Fault Refusal) = .next t) :
      TrafficKept q s t := by
    cases h
    exact readRow_traffic s hpq ..
  simp only [List.forall_mem_cons, List.not_mem_nil, false_implies, implies_true, and_true]
  exact ⟨hwrite _ _, hwrite _ _, hwrite _ _, hread _, hread _, hread _, hread _, hwrite _ _⟩

/-- Settles O59: each row's work is followed through its operations; every record and parameter that one writes is its own object's,
or one that no object of the kind keeps. -/
theorem rowsKeepToTheirObject : Obligations.RowsKeepToTheirObject := by
  unfold Obligations.RowsKeepToTheirObject
  intro s t
  refine ⟨?_, ?_, ?_, ?_, ?_, ?_, ?_, ?_⟩
  · intro f byA byB proving c hc h g hg hgf
    have k := feederRows_apart hg hgf s byA byB proving c hc t h
    exact ⟨k.record, k.pars⟩
  · intro i ok byA byB vds c hc h j hj hji
    have k := stringRows_apart hj hji s ok byA byB vds c hc t h
    exact ⟨k.record, k.pars⟩
  · intro v ball us read c hc h w hw hwv
    have k := railRows_apart hw hwv s ball us read c hc t h
    exact ⟨k.record, k.pars⟩
  · intro n rising w c hc h m hm hlead hpartner hmn
    have k := timerRows_apart hm s hlead hpartner hmn rising w c hc t h
    exact ⟨k.record, k.pars⟩
  · intro d x y c hc h e he hed
    have k := downRows_apart he hed s x y c hc t h
    exact ⟨k.record, k.pars⟩
  · intro n x y c hc h m hm hmn
    have k := polRows_apart hm hmn s x y c hc t h
    exact ⟨k.record, k.pars⟩
  · intro n a c hc h m hm hmn
    have k := satRows_apart hm hmn s a c hc t h
    exact ⟨k.record, k.pars⟩
  · intro p q acc data ptr form n w hpq c hc h
    have k := (portRows_traffic hpq s t acc data ptr form n w c hc h).traffic
    simp only [HostPortAux.traffic, Prod.mk.injEq] at k
    exact k

end Sys2Proof.Machine
